-- ==== Sys2Proof/Word.lean ====
section
/-! DEFINITION. The words of the ON8C and their plainest arithmetic: bytes, 16, 24, 32 and 64 bit words,
channels, paths and controllers as bounded numbers. -/

namespace Sys2Proof

abbrev Byte := BitVec 8
abbrev W16 := BitVec 16
abbrev W24 := BitVec 24
abbrev W32 := BitVec 32
abbrev W64 := BitVec 64

/-- A channel number, 0 to 7 (R11). -/
abbrev Ch := Fin 8
/-- A path of a channel, 0 to 3 (R39). -/
abbrev Pa := Fin 4
/-- A controller, which is also the number of its port, 0 or 1 (R313). -/
abbrev Ctl := Fin 2
/-- A control loop L, 0 to 5 (R182). -/
abbrev Loop := Fin 6

end Sys2Proof
end

