-- ==== Sys2Proof/Syntax.lean ====
section
/-! DEFINITION. The commands of the block: one constructor of `Instr` for each row of spec/opcode_table.json,
with the operands the outside world supplies. What a sender cannot choose (the state of the part) is no operand;
what the state cannot know (what the medium, the NAND, a host memory read, a sensor or a clock delivers) is. -/

namespace Sys2Proof

/-- The path an access to the set-up space arrives on (R575). -/
inductive RegPath where
  | bar2 | sideband | mgmt
  deriving DecidableEq, Repr

/-- A submission queue entry as fetched (R320, R326): opcode, command identifier, namespace and the dwords the
rules name. -/
structure Sqe where
  opc  : Byte
  cid  : W16
  nsid : W32
  cdw2 : W32 := 0
  cdw3 : W32 := 0
  cdw10 : W32 := 0
  cdw11 : W32 := 0
  cdw12 : W32 := 0
  cdw13 : W32 := 0
  cdw14 : W32 := 0
  cdw15 : W32 := 0
  deriving DecidableEq, Repr

/-- One logical block as it lies in a buffer: 4,096 data bytes and the metadata field (R53). -/
structure Block where
  data : List Byte
  md   : List Byte
  deriving DecidableEq, Repr

/-- A range of logical blocks: first block and count. -/
structure LRange where
  lba : Nat
  cnt : Nat
  deriving DecidableEq, Repr

/-- A signature descriptor: its twelve dwords (R63). -/
abbrev Desc := Vector W32 12

/-- The defaults of a zone (R81, R82, R86, R104, R123). -/
structure ZoneDflt where
  boost  : Nat
  pc1    : Nat
  pc2    : Nat
  /-- the 36 equalizer coefficients, and the alternate sets 1 to 3 -/
  coefs  : List Nat
  alts   : List (List Nat)
  /-- per head: the start gains of the three readers, 0.125 dB -/
  gains  : List (List Nat)
  /-- start values of the three asymmetry loops, 1/65,536 ADC step per squared step -/
  asym   : List Int
  /-- the five taps of the partial-response target, 1/128 ADC step -/
  target : List Int
  /-- the noise predictors by the last five bits, 1/128 -/
  pred   : List (List Int)
  deriving DecidableEq, Repr

/-- The zone table of one channel in the Cyhal image (R38, R42, R58, R67, R73). -/
structure ZoneTable where
  rpm      : Nat
  surfaces : Nat
  ver      : Nat
  needBase : Nat
  /-- per surface: the first track of each of the 32 zones -/
  first    : List (List Nat)
  /-- per surface: the number of tracks, the system area included -/
  tracks   : List Nat
  /-- per surface: the spare tracks of each of the 32 zones -/
  spare    : List (List Nat)
  /-- the zone defaults -/
  dflt     : List ZoneDflt
  /-- per head and zone: at most four address and data pairs of write settings (R122) -/
  wset     : List (List (List (BitVec 7 × W16)))
  deriving DecidableEq, Repr

/-- The calibration record of one head (R228). -/
structure Calib where
  gain   : W32
  offset : Int
  kfa    : Nat
  learnTrack : Nat
  deriving DecidableEq, Repr

/-- A Stitcher store segment (R175): its bytes; whether its signature verifies under its key; whether the store's read-back check after
the write passes (R177, code 0x08). -/
structure Segment where
  bytes    : List Byte
  sigOk    : Bool
  readBack : Bool
  deriving DecidableEq, Repr

/-- The NAND geometry of the image (R381, FLY.GEOM). -/
structure NandGeom where
  pages     : Nat
  planes    : Nat
  sysBlocks : Nat
  dies      : Nat
  deriving DecidableEq, Repr

/-- A register write that a profile makes (R36): address in the set-up space and value. -/
structure RegWrite where
  addr : Nat
  val  : Nat
  deriving DecidableEq, Repr

/-- A word of a coefficient bank that a profile loads (R200, R230). -/
structure BankWord where
  ch   : Ch
  loop : Loop
  bank : Bool
  idx  : Nat
  val  : W32
  deriving DecidableEq, Repr

/-- A word of a scratchpad bank that a profile loads (R226). -/
structure ScratchWord where
  ch   : Ch
  bank : Bool
  idx  : Nat
  val  : W64
  deriving DecidableEq, Repr

/-- A Cyhal image (R564): its bytes as they lie in a slot; whether its signature verifies under the key of its PUBKEY; and what its
sections carry, whose layouts the spec does not give but for that of the store segments. -/
structure Image where
  bytes    : List Byte
  sigOk    : Bool
  ssvid    : W16
  ssid     : W16
  i3cAddr  : Nat
  spinCount : Nat
  zones    : List (Option ZoneTable)
  calib    : List (List Calib)
  segments : List Segment
  profile  : List RegWrite
  banks    : List BankWord
  scratch  : List ScratchWord
  nand     : Option NandGeom
  /-- the formatter commands 0x20 to 0x3F that a profile names (R169) -/
  imgCmds  : List Byte
  deriving DecidableEq, Repr

/-- The Identify Namespace data of a Namespace Management create (R332). -/
structure NsDesc where
  nsze  : Nat
  lbaf  : Nat
  mode  : Byte
  place : Byte
  attr  : Byte
  b3843 : Byte
  deriving DecidableEq, Repr

/-- What the head and the preamplifier give a path while it captures a part of a sector (R78, R94): the signals of the three readers
at each sample time, before the variable gain; those of the resync field before the part (R50); and the sample times, counted in the
part, at which the front end flags a thermal asperity (R104). -/
structure Capture where
  sig    : List (Vector Int 3)
  resync : List (Vector Int 3)
  ta     : List Nat
  deriving DecidableEq, Repr

/-- A servo wedge as the demodulator of a path takes it in (R43, R186): the servo bits from eight before the predicted position of the
address mark on, and the reader-1 samples over servo bits 8 to 55 of each burst. -/
structure Wedge where
  bits : List Bool
  a : List Int
  b : List Int
  c : List Int
  d : List Int
  deriving DecidableEq, Repr

/-- What one engine shows the Hinge arbiter at a sample (R233 to R237): outputs ready at cycle 108, heartbeat by HB_LIMIT, self-check
passed, the state copy it receives has a good CRC; and what a defect of the engine adds to its y0, 2^-29. -/
structure EngineObs where
  ready  : Bool
  beat   : Bool
  selfOk : Bool
  copyOk : Bool
  y0err  : Int
  deriving DecidableEq, Repr

/-- The inputs of one channel sample event (R194): the path whose wedge it is, the wedge, the shock ADC sample (12 bit
signed), its time in 0.625 ns steps, the cycles port D of the scratchpad waited and whether a port-D write was lost (R497,
R498), and both engines' reports. -/
structure SampleObs where
  path  : Pa
  wedge : Wedge
  shock : Int
  t     : Nat
  dWait : Nat
  lost  : Bool
  engA  : EngineObs
  engB  : EngineObs
  deriving DecidableEq, Repr

/-- The inputs of one spindle speed strobe (R266): the channel's index phase in 1/2^29 revolution, its time in 0.625 ns steps, and both
engines' reports. -/
structure StrobeObs where
  index   : Int
  t       : Nat
  engA    : EngineObs
  engB    : EngineObs
  deriving DecidableEq, Repr

/-- The inputs of one spindle PWM period (R259, R263, R265): the two current samples of the 12-bit ADCs, the motor supply in 50 mV steps,
and the 32 samples of BEMFU, BEMFV, BEMFW and BEMFC in µV at their balls. -/
structure PwmObs where
  iu    : BitVec 12
  iv    : BitVec 12
  vmot  : BitVec 10
  term  : List (Vector Int 4)
  deriving DecidableEq, Repr

/-- The block whose consistency check ends (R569). -/
inductive CheckBlock where
  | channel (n : Ch) | fly | gath | ket
  deriving DecidableEq, Repr

/-- A NAND die as FLY finds it: its good blocks, by number (R383). -/
structure DieObs where
  blocks : List Nat
  deriving DecidableEq, Repr

/-- What a consistency check observes outside the register state (R569): the preamplifier's surface count, or none
when it does not answer; whether every learned table is readable or EMPTY; whether the parameter pages match the image
geometry; whether the system area is readable; the dies in order of their numbers. -/
structure CheckObs where
  preamp   : Option Nat
  tablesOk : Bool
  paramOk  : Bool
  sysOk    : Bool
  dies     : List DieObs
  deriving DecidableEq, Repr

/-- One page read back by a band verification or a copy read-back (R397, R405): block of which die, page, decoded, and
the largest number of corrected bits in a frame. -/
structure PageCheck where
  die  : Nat
  page : Nat
  decoded : Bool
  bits : Nat
  deriving DecidableEq, Repr

/-- A reservation type of NVM Express (R342). -/
inductive ResType where
  | writeExclusive | exclusiveAccess
  | writeExclusiveRegistrants | exclusiveAccessRegistrants
  | writeExclusiveAll | exclusiveAccessAll
  deriving DecidableEq, Repr

/-- The loop counter source of SETLC (R146, format S). -/
inductive LcSrc where
  | imm (v : W16)
  | reg (r : Fin 32)
  deriving DecidableEq, Repr

/-- A lane of the Kettle link, by its receiver (R292): downstream KET_IN, upstream KET_SYNC_IN. -/
inductive KetLane where
  | down | up
  deriving DecidableEq, Repr

/-- The Ream requester identities (R478) are numbers 0 to 15. -/
abbrev ReamId := Fin 16
/-- A pool of Ream (R473). -/
abbrev PoolId := Fin 16

/-- The block resets of RST.BLKRST (R555) that have rows of their own carry no operand. -/
inductive PllId where
  | channel (n : Ch) (k : Fin 3) | host (k : Fin 6)
  deriving DecidableEq, Repr

/-- A reservation action of Reservation Register (NVM Express, R342). -/
inductive ResRegAct where
  | register | unregister | replace
  deriving DecidableEq, Repr

/-- A reservation action of Reservation Acquire. -/
inductive ResAcqAct where
  | acquire | preempt | preemptAbort
  deriving DecidableEq, Repr

/-- A reservation action of Reservation Release. -/
inductive ResRelAct where
  | release | clear
  deriving DecidableEq, Repr

/-- A zone action of Zone Management Send (R326). -/
inductive ZoneAct where
  | close | finish | opn | reset | offline
  deriving DecidableEq, Repr

/-- A Stitcher microword (R146, R147). `alu` carries FN and the RB field, whose low four bits are the count of SHLI and
SHRI. `reserved` is a word with a reserved OP or FN, which takes the ILLEGAL trap. -/
inductive Micro where
  | alu (fn : BitVec 4) (rd ra rb : BitVec 5)
  | addi (rd : BitVec 5) (imm : BitVec 14)
  | ldi (rd : BitVec 5) (imm : BitVec 14)
  | andi (rd : BitVec 5) (imm : BitVec 14)
  | ori (rd : BitVec 5) (imm : BitVec 14)
  | cmpi (rd : BitVec 5) (imm : BitVec 14)
  | jmp (cond : BitVec 6) (target : BitVec 13)
  | call (cond : BitVec 6) (target : BitVec 13)
  | ret (cond : BitVec 6)
  | loop (lc : BitVec 2) (target : BitVec 13)
  | setlcImm (lc : BitVec 2) (imm : W16)
  | setlcReg (lc : BitVec 2) (ra : BitVec 5)
  | inp (r : BitVec 5) (port : Byte)
  | outp (r : BitVec 5) (port : Byte)
  | outi (port : Byte) (imm : BitVec 11)
  | wait (clr : Bool) (ev : BitVec 5)
  | fetch
  | prefetch
  | done (abt fin : Bool)
  | mret
  | trap (code : BitVec 4)
  | signal (mask : BitVec 4)
  | halt (code : BitVec 7)
  | reserved (w : W24)
  deriving DecidableEq, Repr

/-- A position of the media format: surface, track, slot (R56). -/
structure SlotId where
  surf  : Nat
  track : Nat
  slot  : Nat
  deriving DecidableEq, Repr

/-- A grown defect with its relocation slot (R74). -/
structure Reloc where
  src : SlotId
  dst : SlotId
  deriving DecidableEq, Repr

/-- The defect lists of a channel as its system area delivers them at the enable (R71): primary slots, primary wedges
(surface, track, wedge) and the grown list. -/
structure MediaLists where
  prim   : List SlotId
  wedges : List (Nat × Nat × Nat)
  grown  : List Reloc
  deriving DecidableEq, Repr


/-- The commands of the block, one constructor for each row of spec/opcode_table.json, in its order. -/
inductive Instr where
  /-- SQ_TAIL_DOORBELL (R320). Host writes a submission queue tail doorbell, adding entries or being rejected as an
  invalid doorbell write. -/
  | sqTailDoorbell (c : Ctl) (qid : Nat) (tail : Nat)
  /-- CQ_HEAD_DOORBELL (R321). Host writes a completion queue head doorbell, freeing room so that completions held
  back for a full queue can be posted. -/
  | cqHeadDoorbell (c : Ctl) (qid : Nat) (head : Nat)
  /-- COMMAND_FETCH (R322). The front end arbitrates among submission queues and fetches up to 2^AB commands from the
  granted queue in queue order. -/
  | commandFetch (c : Ctl) (es : List Sqe)
  /-- COMPLETION_ENTRY_HANDOFF (R334). A command's completion reaches the front end and its entry is handed to the
  host port, putting the command in POSTING. -/
  | completionEntryHandoff (k : Nat)
  /-- COMPLETION_POSTED (R348). The last TLP of a completion entry is handed to the link layer; the command becomes
  POSTED and a write is accepted. -/
  | completionPosted (k : Nat)
  /-- INTERRUPT_COALESCING_TIMER (R331). The aggregation time TIME × 100 µs of a vector expires and its held interrupt
  is sent. -/
  | interruptCoalescingTimer (c : Ctl) (vec : Nat)
  /-- HOST_DATA_TRANSFER_DONE (R19). Data of a command has moved from host memory into Ream buffers with CRC-32C per 4
  KiB, or the transfer failed with Data Transfer Error. -/
  | hostDataTransferDone (k : Nat) (ok : Bool) (data : List Block)
  /-- CONTROLLER_ENABLE (R318). Host sets CC.EN and CSTS.RDY follows within CAP.TO. -/
  | controllerEnable (c : Ctl) (ams iosqes iocqes aqaSq aqaCq : Nat)
  /-- CONTROLLER_RESET (R375). CC.EN goes from 1 to 0; fetching stops, OPEN commands are aborted or run on, and
  CSTS.RDY falls once run-on work completes. -/
  | controllerReset (c : Ctl)
  /-- RUN_ON_COMMANDS_DONE (R376). Every run-on command of a reset controller has completed its effects and bookmarks,
  and CSTS.RDY reads 0. -/
  | runOnCommandsDone (c : Ctl)
  /-- FUNCTION_LEVEL_RESET (R347). The host issues FLR, which acts on the function's controller as a controller reset.
  -/
  | functionLevelReset (c : Ctl)
  /-- PERST_ASSERT (R347). PERST0_N or PERST1_N is asserted; the port's fields reset, the controller is reset and the
  link retrains. -/
  | perstAssert (c : Ctl)
  /-- ORDERLY_SHUTDOWN (R409). CC.SHN = 0b01 on every enabled controller writes a FULL checkpoint before CSTS.SHST
  reports shutdown complete. -/
  | orderlyShutdown (c : Ctl)
  /-- ABRUPT_SHUTDOWN (R409). CC.SHN = 0b10 writes a SHORT checkpoint before shutdown is reported complete. -/
  | abruptShutdown (c : Ctl)
  /-- HOST_LINK_DOWN (R346). A port leaves L0 without entering L1 or L2; HOST_LINK_DOWN is raised and channels run on.
  -/
  | hostLinkDown (c : Ctl)
  /-- LINK_TRAINED (R314). A port completes link training at its width, or an x8 port trains at x4 and raises
  HOST_LINK_NARROW. -/
  | linkTrained (c : Ctl) (rate width : Nat)
  /-- POISONED_HOST_WRITE_TLP (R317). A poisoned or ECRC-failed host write TLP to BAR0 or BAR2 is discarded and
  reported through AER. -/
  | poisonedHostWriteTlp (c : Ctl)
  /-- DELETE_IO_SUBMISSION_QUEUE (R338). Stops fetching from the queue, cancels its OPEN commands and completes once
  every fetched command has a posted completion. -/
  | deleteIoSubmissionQueue (k : Nat)
  /-- CREATE_IO_SUBMISSION_QUEUE (R325). Creates an I/O submission queue with its priority class. -/
  | createIoSubmissionQueue (k : Nat)
  /-- DELETE_IO_COMPLETION_QUEUE (R325). Deletes a completion queue, refused while a submission queue uses it. -/
  | deleteIoCompletionQueue (k : Nat)
  /-- CREATE_IO_COMPLETION_QUEUE (R325). Creates a completion queue with interrupts enabled or disabled. -/
  | createIoCompletionQueue (k : Nat)
  /-- IDENTIFY_CONTROLLER (R327). Identify CNS 0x01 returns the controller data structure. -/
  | identifyController (k : Nat)
  /-- IDENTIFY_NAMESPACE (R328). Identify CNS 0x00 returns LBA formats, atomic units and the namespace descriptor. -/
  | identifyNamespace (k : Nat)
  /-- IDENTIFY_IO_CMD_SET_NAMESPACE (R328). Identify CNS 0x05 returns the zoned namespace zone size and limits. -/
  | identifyIoCmdSetNamespace (k : Nat)
  /-- GET_LOG_ERROR_INFORMATION (R329). Get Log Page 0x01 returns the 64 error information entries. -/
  | getLogErrorInformation (k : Nat)
  /-- GET_LOG_SMART_HEALTH (R329). Get Log Page 0x02 returns SMART / Health information. -/
  | getLogSmartHealth (k : Nat)
  /-- GET_LOG_FIRMWARE_SLOT (R329). Get Log Page 0x03 returns firmware slot information. -/
  | getLogFirmwareSlot (k : Nat)
  /-- GET_LOG_CHANGED_NAMESPACE_LIST (R329). Get Log Page 0x04 returns the changed namespace list. -/
  | getLogChangedNamespaceList (k : Nat)
  /-- GET_LOG_COMMANDS_SUPPORTED (R329). Get Log Page 0x05 returns commands supported and effects. -/
  | getLogCommandsSupported (k : Nat)
  /-- GET_LOG_DEVICE_SELF_TEST (R329). Get Log Page 0x06 returns the device self-test log. -/
  | getLogDeviceSelfTest (k : Nat)
  /-- GET_LOG_RESERVATION_NOTIFICATION (R329). Get Log Page 0x80 returns the reservation notification log. -/
  | getLogReservationNotification (k : Nat)
  /-- GET_LOG_SANITIZE_STATUS (R329). Get Log Page 0x81 returns sanitize status. -/
  | getLogSanitizeStatus (k : Nat)
  /-- GET_LOG_CHANNEL_STATUS (R329). Get Log Page 0xC0 returns the eight 64-byte channel status entries and unmasks
  its vendor events. -/
  | getLogChannelStatus (k : Nat)
  /-- GET_LOG_FLYLEAF_STATUS (R417). Get Log Page 0xC1 returns the 512-byte Flyleaf status. -/
  | getLogFlyleafStatus (k : Nat)
  /-- GET_LOG_GATHERING_STATUS (R442). Get Log Page 0xC2 returns the four layout status entries. -/
  | getLogGatheringStatus (k : Nat)
  /-- GET_LOG_COLOPHON_RECORDS (R535). Get Log Page 0xC3 returns Colophon records, fixing a snapshot at offset 0. -/
  | getLogColophonRecords (k : Nat)
  /-- ABORT (R334). Decides in one cycle whether the target command is aborted, by its state in that cycle. -/
  | abort (k : Nat)
  /-- SET_FEATURE_ARBITRATION (R323). Sets burst and weights, effective at the next arbitration round. -/
  | setFeatureArbitration (k : Nat)
  /-- SET_FEATURE_ERROR_RECOVERY (R330). Sets the namespace TLER time limit used to stamp read deadlines. -/
  | setFeatureErrorRecovery (k : Nat)
  /-- SET_FEATURE_VOLATILE_WRITE_CACHE (R330). Completes with Invalid Field in Command, since no volatile cache
  exists. -/
  | setFeatureVolatileWriteCache (k : Nat)
  /-- SET_FEATURE_NUMBER_OF_QUEUES (R319). Allocates the smaller of requested and limit queue counts before the first
  I/O queue. -/
  | setFeatureNumberOfQueues (k : Nat)
  /-- SET_FEATURE_INTERRUPT_COALESCING (R331). Sets the coalescing threshold and time. -/
  | setFeatureInterruptCoalescing (k : Nat)
  /-- SET_FEATURE_ASYNC_EVENT_CONFIG (R341). Enables standard and vendor asynchronous events. -/
  | setFeatureAsyncEventConfig (k : Nat)
  /-- SET_FEATURE_HOST_IDENTIFIER (R342). Sets the 128-bit host identifier, refused with EXHID = 0. -/
  | setFeatureHostIdentifier (k : Nat) (id : BitVec 128)
  /-- SET_FEATURE_GATHERING_LAYOUT (R330). Writes GATH layout registers and, with COMMIT, writes GATH.LAYOUT_COMMIT.
  -/
  | setFeatureGatheringLayout (k : Nat)
  /-- SET_FEATURE_DUPLICATE_SUPPRESSION (R362). Enables or disables duplicate suppression and sets the bookmark
  window. -/
  | setFeatureDuplicateSuppression (k : Nat)
  /-- SET_FEATURE_KETTLE_GROUP (R330). Writes KET.CFG and PH_EN, then writes KET.ENABLE.EN. -/
  | setFeatureKettleGroup (k : Nat)
  /-- CHANNEL_STATE_ENABLE (R330). Feature 0xC3 action 0x1 powers the domains, loads the store and writes CHn.ENABLE =
  1. -/
  | channelStateEnable (k : Nat)
  /-- CHANNEL_STATE_DISABLE (R13). Feature 0xC3 action 0x2 writes CHn.ENABLE = 0 for an orderly disable. -/
  | channelStateDisable (k : Nat)
  /-- CHANNEL_STATE_POWER_OFF (R330). Feature 0xC3 action 0x3 disables, stops the spindle and switches the domains
  off, leaving the channel absent. -/
  | channelStatePowerOff (k : Nat)
  /-- CHANNEL_STATE_SPINDLE_START (R330). Feature 0xC3 action 0x4 issues spindle START. -/
  | channelStateSpindleStart (k : Nat)
  /-- CHANNEL_STATE_SPINDLE_STOP (R330). Feature 0xC3 action 0x5 issues spindle STOP. -/
  | channelStateSpindleStop (k : Nat)
  /-- CHANNEL_STATE_UNLOAD (R330). Feature 0xC3 action 0x6 issues UNLOAD. -/
  | channelStateUnload (k : Nat)
  /-- GET_FEATURES (R36). Returns the register value in force for the named feature. -/
  | getFeatures (k : Nat)
  /-- ASYNC_EVENT_REQUEST (R340). Host places an Asynchronous Event Request that later carries a posted event. -/
  | asyncEventRequest (k : Nat)
  /-- ASYNC_EVENT_POSTED (R341). A pending asynchronous event is posted on an outstanding request and masks its page
  until read. -/
  | asyncEventPosted (c : Ctl)
  /-- NAMESPACE_CREATE (R332). Creates a namespace with its mode, placement and attributes, taking a run of channel
  blocks or stripes. -/
  | namespaceCreate (k : Nat) (desc : NsDesc)
  /-- NAMESPACE_DELETE (R392). Deletes a namespace, increments its generation and invalidates its cache lines. -/
  | namespaceDelete (k : Nat)
  /-- NAMESPACE_ATTACH (R332). Attaches a namespace to a controller. -/
  | namespaceAttach (k : Nat) (ctls : List Ctl)
  /-- NAMESPACE_DETACH (R332). Detaches a namespace from a controller. -/
  | namespaceDetach (k : Nat) (ctls : List Ctl)
  /-- FIRMWARE_IMAGE_DOWNLOAD (R333). Stages part of a Cyhal image in buffer DRAM. -/
  | firmwareImageDownload (k : Nat) (img : Image)
  /-- FIRMWARE_COMMIT_REPLACE (R333). Commit action 0b000 verifies the image and writes it to the named slot. -/
  | firmwareCommitReplace (k : Nat)
  /-- FIRMWARE_COMMIT_REPLACE_ACTIVATE (R333). Commit actions 0b001 and 0b010 verify, write or select the slot for
  activation at the next reset. -/
  | firmwareCommitReplaceActivate (k : Nat)
  /-- FIRMWARE_COMMIT_IMMEDIATE (R333). Commit action 0b011 completes with Firmware Activation Requires Conventional
  Reset and changes no slot. -/
  | firmwareCommitImmediate (k : Nat)
  /-- DEVICE_SELF_TEST_SHORT (R325). Starts a short device self-test. -/
  | deviceSelfTestShort (k : Nat)
  /-- DEVICE_SELF_TEST_EXTENDED (R325). Starts an extended device self-test. -/
  | deviceSelfTestExtended (k : Nat)
  /-- DEVICE_SELF_TEST_ABORT (R325). Aborts a running device self-test. -/
  | deviceSelfTestAbort (k : Nat)
  /-- NVME_MI_SEND (R325). Carries an NVMe-MI request in band. -/
  | nvmeMiSend (k : Nat)
  /-- NVME_MI_RECEIVE (R325). Returns an NVMe-MI response in band. -/
  | nvmeMiReceive (k : Nat)
  /-- FORMAT_NVM (R356). User data erase of a namespace, ordered against writes by fetch order and invalidating its
  cache. -/
  | formatNvm (k : Nat)
  /-- SANITIZE_OVERWRITE (R356). Overwrite sanitize of the namespace; other sanitize actions are refused. -/
  | sanitizeOverwrite (k : Nat)
  /-- FLUSH (R326). Completes without media work. -/
  | flush (k : Nat)
  /-- WRITE (R19). Writes a range to a journalled namespace through the Flyleaf, or to a streaming namespace through
  signature writes. -/
  | write (k : Nat)
  /-- READ (R22). Reads a range through cache, write buffer and media signature reads. -/
  | read (k : Nat)
  /-- WRITE_ZEROES (R613). Writes a range as zero sectors, journalled as one ZEROES or DEALLOC entry per range. -/
  | writeZeroes (k : Nat)
  /-- DATASET_MANAGEMENT_DEALLOCATE (R613). Deallocates ranges, acting on media as writes of zero sectors. -/
  | datasetManagementDeallocate (k : Nat) (rs : List LRange)
  /-- VERIFY (R326). Reads and decodes a range without data transfer, bounded by the error recovery limit. -/
  | verify (k : Nat)
  /-- RESERVATION_REGISTER (R342). Registers a reservation key, refused without a host identifier. -/
  | reservationRegister (k : Nat) (act : ResRegAct) (crkey nrkey : W64)
  /-- RESERVATION_REPORT (R342). Returns the reservation status of a namespace. -/
  | reservationReport (k : Nat)
  /-- RESERVATION_ACQUIRE (R342). Acquires a reservation, ordered by fetch across controllers. -/
  | reservationAcquire (k : Nat) (act : ResAcqAct) (rtype : ResType) (crkey prkey : W64)
  /-- RESERVATION_RELEASE (R342). Releases a reservation. -/
  | reservationRelease (k : Nat) (act : ResRelAct) (crkey : W64)
  /-- COPY (R326). Copies up to 128 source ranges to a destination within one namespace. -/
  | copy (k : Nat) (rs : List LRange)
  /-- ZONE_MANAGEMENT_SEND (R326). Opens, closes, finishes, resets or offlines a zone; Reset, Finish and Offline are
  journalled as ZONE entries. -/
  | zoneManagementSend (k : Nat) (act : ZoneAct)
  /-- ZONE_MANAGEMENT_RECEIVE (R326). Reports zones. -/
  | zoneManagementReceive (k : Nat)
  /-- ZONE_APPEND (R326). Appends up to 256 blocks to a zone. -/
  | zoneAppend (k : Nat)
  /-- STAMP_ORIGINAL_ENDED (R364). The earlier write with the same stamp ends and the waiting duplicate is handled
  against its bookmark. -/
  | stampOriginalEnded (k : Nat)
  /-- BOOKMARK_EXPIRE (R366). A bookmark's age reaches its namespace's WINDOW and it is dropped. -/
  | bookmarkExpire (now : Nat)
  /-- RANGE_LOCK_GRANT (R358). Released entries let a waiting Strict Ordering command take all its entries and start,
  and fetching resumes. -/
  | rangeLockGrant
  /-- WRITE_BUFFER_READ_WAIT_END (R355). A read waiting on a not yet accepted write version proceeds once that write
  is accepted or fails. -/
  | writeBufferReadWaitEnd (k : Nat)
  /-- SCHED_TAKE_DESCRIPTOR (R65). The media scheduler takes a descriptor from the work ring, checks it, hands it to
  Stitchers and starts the seek. -/
  | schedTakeDescriptor (n : Ch) (i : Nat)
  /-- WORK_ITEM_FINISHED (R168). Every enabled path has ended its part with DONE END and the result words go to the
  scheduler with TAG. -/
  | workItemFinished (n : Ch) (tag : W16)
  /-- DESTAGE_COMPLETE (R23). The media write of a destage completes on every surface and its journal entries become
  invalid. -/
  | destageComplete (k : Nat)
  /-- SPECULATIVE_FILL_ARRIVE (R369). A speculative read fill arrives and becomes a clean line, is dropped, or is
  voided. -/
  | speculativeFillArrive (nsid line : Nat) (good : Bool) (data : List Block)
  /-- SPECULATIVE_SEEK (R371). An idle channel seeks towards the predicted next read-ahead signature. -/
  | speculativeSeek (n : Ch) (target : Int)
  /-- READ_DEADLINE_EXPIRE (R108). An attached command's TLER deadline passes; it completes unrecovered and detaches
  from the ladder. -/
  | readDeadlineExpire (k : Nat)
  /-- FIRST_PASS_DECODE_END (R92). First-pass detection and LDPC decoding of a captured sector ends with a result,
  entering the ladder on failure. -/
  | firstPassDecodeEnd (n : Ch) (p : Pa)
  /-- LADDER_REDECODE (R104). Ladder step REDECODE detects from the store and decodes with its budget, ending with
  success or failure. -/
  | ladderRedecode (n : Ch) (i : Nat)
  /-- LADDER_REEQ (R104). Ladder step REEQ equalizes stored samples with an alternate coefficient set, then detects
  and decodes. -/
  | ladderReeq (n : Ch) (i : Nat)
  /-- LADDER_READER (R104). Ladder step READER detects using only the readers of RMASK, then decodes. -/
  | ladderReader (n : Ch) (i : Nat)
  /-- LADDER_SLIP (R101). Sync-slip recovery decodes nine framing offsets and succeeds only on exactly one passing
  candidate. -/
  | ladderSlip (n : Ch) (i : Nat)
  /-- LADDER_BLIND (R104). Sync-slip recovery with framing from nominal positions. -/
  | ladderBlind (n : Ch) (i : Nat)
  /-- LADDER_REREAD (R104). Rereads the sector as a one-path signature with a fine offset and decodes the new samples.
  -/
  | ladderReread (n : Ch) (i : Nat)
  /-- LADDER_TA (R104). Zeroes log-likelihood ratios near thermal-asperity flags, then decodes. -/
  | ladderTa (n : Ch) (i : Nat)
  /-- READ_SIG (R169). Formatter command that captures and decodes the sectors of a signature. -/
  | readSig (n : Ch) (d : Desc)
  /-- WRITE_SIG (R124). Formatter command that writes the sectors of a signature, one per enabled path. -/
  | writeSig (n : Ch) (d : Desc)
  /-- VERIFY_SIG (R137). Formatter command that verifies written sectors, rewriting and relocating on failure. -/
  | verifySig (n : Ch) (d : Desc)
  /-- SCAN_SERVO (R170). Formatter command that records wedge fields into a buffer for runout learning. -/
  | scanServo (n : Ch) (d : Desc)
  /-- FORMAT_TRACK (R170). Formatter command that writes resync fields in every window of a track. -/
  | formatTrack (n : Ch) (d : Desc)
  /-- CAPTURE (R170). Formatter command that captures raw samples into a 1 MiB buffer. -/
  | capture (n : Ch) (d : Desc)
  /-- IMAGE_DEFINED_COMMAND (R169). Formatter command 0x20–0x3F named by a profile runs an image routine. -/
  | imageDefinedCommand (n : Ch) (d : Desc)
  /-- PART_FIRST_BIT (R154). The position counter reaches the first bit of an armed part; a committed write opens its
  gate or a capture starts, otherwise ARM_LATE. -/
  | partFirstBit (n : Ch) (p : Pa) (inTime : Bool)
  /-- PART_LAST_BIT (R125). A part ends: the gate parks after the postamble or capture ends, latching PART_END. -/
  | partLastBit (n : Ch) (p : Pa) (last : Nat) (o : Capture)
  /-- WRITE_FIFO_READY (R126). The whole sector is in the write FIFO and its CRC-32C has been compared. -/
  | writeFifoReady (n : Ch) (p : Pa) (memErr : Bool)
  /-- PREAMP_FAULT_ASSERT (R136). CHn_PFLT_N asserts; every writing gate parks, the fault status is read and
  CHn_PREAMP_FAULT is raised. -/
  | preampFaultAssert (n : Ch) (head : Nat) (paStat : W16)
  /-- PREAMP_FAULT_RELEASE (R130). CHn_PFLT_N has been high 20 ns and gates may open again. -/
  | preampFaultRelease (n : Ch)
  /-- PREAMP_FRAME_DONE (R121). Requested preamplifier control-port frames have completed and PA_DONE latches. -/
  | preampFrameDone (n : Ch) (p : Pa)
  /-- ALU_ADD (R148). RD ← RA + RB with flags. -/
  | aluAdd (n : Ch) (p : Pa) (rd ra rb : Fin 32)
  /-- ALU_SUB (R148). RD ← RA − RB with flags. -/
  | aluSub (n : Ch) (p : Pa) (rd ra rb : Fin 32)
  /-- ALU_AND (R148). RD ← RA AND RB. -/
  | aluAnd (n : Ch) (p : Pa) (rd ra rb : Fin 32)
  /-- ALU_OR (R148). RD ← RA OR RB. -/
  | aluOr (n : Ch) (p : Pa) (rd ra rb : Fin 32)
  /-- ALU_XOR (R148). RD ← RA XOR RB. -/
  | aluXor (n : Ch) (p : Pa) (rd ra rb : Fin 32)
  /-- ALU_SHL (R148). RD ← RA shifted left by RB. -/
  | aluShl (n : Ch) (p : Pa) (rd ra rb : Fin 32)
  /-- ALU_SHR (R148). RD ← RA shifted right by RB with zero fill. -/
  | aluShr (n : Ch) (p : Pa) (rd ra rb : Fin 32)
  /-- ALU_ASR (R148). RD ← RA shifted right by RB with sign fill. -/
  | aluAsr (n : Ch) (p : Pa) (rd ra rb : Fin 32)
  /-- ALU_SHLI (R148). RD ← RA shifted left by an immediate count. -/
  | aluShli (n : Ch) (p : Pa) (rd ra : Fin 32) (cnt : Fin 16)
  /-- ALU_SHRI (R148). RD ← RA shifted right by an immediate count. -/
  | aluShri (n : Ch) (p : Pa) (rd ra : Fin 32) (cnt : Fin 16)
  /-- ALU_MOV (R148). RD ← RA. -/
  | aluMov (n : Ch) (p : Pa) (rd ra : Fin 32)
  /-- ALU_NOT (R148). RD ← NOT RA. -/
  | aluNot (n : Ch) (p : Pa) (rd ra : Fin 32)
  /-- ALU_CMP (R148). Sets flags from RA − RB. -/
  | aluCmp (n : Ch) (p : Pa) (ra rb : Fin 32)
  /-- ALU_TST (R148). Sets Z and N from RA AND RB. -/
  | aluTst (n : Ch) (p : Pa) (ra rb : Fin 32)
  /-- ADDI (R147). Adds a sign-extended immediate to RD. -/
  | addi (n : Ch) (p : Pa) (rd : Fin 32) (imm : BitVec 14)
  /-- LDI (R147). Loads a sign-extended immediate into RD. -/
  | ldi (n : Ch) (p : Pa) (rd : Fin 32) (imm : BitVec 14)
  /-- ANDI (R147). ANDs a zero-extended immediate into RD. -/
  | andi (n : Ch) (p : Pa) (rd : Fin 32) (imm : BitVec 14)
  /-- ORI (R147). ORs a zero-extended immediate into RD. -/
  | ori (n : Ch) (p : Pa) (rd : Fin 32) (imm : BitVec 14)
  /-- CMPI (R147). Sets flags from RD minus an immediate. -/
  | cmpi (n : Ch) (p : Pa) (rd : Fin 32) (imm : BitVec 14)
  /-- JMP (R147). Jumps to TARGET if COND holds. -/
  | jmp (n : Ch) (p : Pa) (cond : BitVec 6) (target : BitVec 13)
  /-- CALL (R157). Pushes the return address and jumps if COND holds, trapping on a full stack. -/
  | call (n : Ch) (p : Pa) (cond : BitVec 6) (target : BitVec 13)
  /-- RET (R157). Pops the return address if COND holds, trapping on an empty stack. -/
  | ret (n : Ch) (p : Pa) (cond : BitVec 6)
  /-- LOOP (R147). Decrements a loop counter and branches while it stays non-zero. -/
  | loop (n : Ch) (p : Pa) (lc : Fin 4) (target : BitVec 13)
  /-- SETLC (R147). Loads a loop counter from an immediate or register. -/
  | setlc (n : Ch) (p : Pa) (lc : Fin 4) (src : LcSrc)
  /-- IN (R152). Reads a Stitcher port into a register. -/
  | portIn (n : Ch) (p : Pa) (r : Fin 32) (port : Byte)
  /-- OUT (R152). Writes a register to a Stitcher port without its own action. -/
  | portOut (n : Ch) (p : Pa) (r : Fin 32) (port : Byte)
  /-- OUTI (R147). Writes a zero-extended immediate to a Stitcher port. -/
  | portOuti (n : Ch) (p : Pa) (port : Byte) (imm : BitVec 11)
  /-- ARM_CANCEL (R153). ARM_ACT CANCEL cancels every pending part whose first bit has not passed. -/
  | armCancel (n : Ch) (p : Pa)
  /-- ARM_CAPTURE (R153). ARM_ACT CAPTURE arms capture and decode of the sector at ARM_SLOT. -/
  | armCapture (n : Ch) (p : Pa)
  /-- ARM_WRITE (R153). ARM_ACT WRITE arms the sector write whose parts open only after COMMIT. -/
  | armWrite (n : Ch) (p : Pa)
  /-- ARM_VERIFY (R153). ARM_ACT VERIFY arms capture and verify. -/
  | armVerify (n : Ch) (p : Pa)
  /-- ARM_SCAN (R153). ARM_ACT SCAN arms wedge demodulation only. -/
  | armScan (n : Ch) (p : Pa)
  /-- ARM_RAW (R153). ARM_ACT RAW arms raw sample capture. -/
  | armRaw (n : Ch) (p : Pa)
  /-- PORT_COMMIT (R154). Writing COMMIT commits the pending write part if in time. -/
  | portCommit (n : Ch) (p : Pa)
  /-- PORT_WFIFO_START (R126). Writing WFIFO starts fetching the sector into the write FIFO. -/
  | portWfifoStart (n : Ch) (p : Pa)
  /-- PORT_PA_CMD (R122). Writing PA_CMD sends head selection and optionally the write settings. -/
  | portPaCmd (n : Ch) (p : Pa) (settings : Bool)
  /-- PORT_FE_CTL (R80). Writing FE_CTL powers the front end and requests the zone, or powers it down. -/
  | portFeCtl (n : Ch) (p : Pa) (up : Bool)
  /-- PORT_TMASK_WRITE (R161). Writing TMASK enables or disables level-N traps; pending enabled traps may then be
  taken. -/
  | portTmaskWrite (n : Ch) (p : Pa) (v : W16)
  /-- WAIT (R151). Waits until its event is latched and consumes it. -/
  | wait (n : Ch) (p : Pa) (clr : Bool) (ev : Fin 32)
  /-- FETCH (R166). Takes the next descriptor and jumps to its dispatch word, ending any trap context. -/
  | fetch (n : Ch) (p : Pa)
  /-- PREFETCH (R171). Requests the next descriptor into the prefetch buffer without waiting. -/
  | prefetch (n : Ch) (p : Pa)
  /-- DONE (R168). Reports the result word with TAG, ending the path's part with END or marking an abort with ABT. -/
  | done (n : Ch) (p : Pa) (abt fin : Bool)
  /-- MRET (R164). Returns from the active trap level, restoring flags and stack depth. -/
  | mret (n : Ch) (p : Pa)
  /-- TRAP (R147). Raises the SOFT trap with CODE. -/
  | trap (n : Ch) (p : Pa) (code : BitVec 4)
  /-- SIGNAL (R147). Latches PEER in each Stitcher named by MASK. -/
  | signal (n : Ch) (p : Pa) (mask : BitVec 4)
  /-- HALT (R174). Halts the Stitcher with a code and raises CHn_STITCH_HALT. -/
  | halt (n : Ch) (p : Pa) (code : BitVec 7)
  /-- RESERVED_OPERATION (R145). Executing a reserved OP or FN raises the ILLEGAL trap. -/
  | reservedOperation (n : Ch) (p : Pa) (w : W24)
  /-- STITCH_TRAP_TAKEN (R163). An enabled pending trap is taken at a word boundary: frame saved and the vector
  executed. -/
  | stitchTrapTaken (n : Ch) (p : Pa)
  /-- STITCH_TIMER_EXPIRE (R155). TIMER decrements to zero and the TIMER event latches. -/
  | stitchTimerExpire (n : Ch) (p : Pa)
  /-- STITCH_WATCHDOG_EXPIRE (R173). A command runs past WDOG.LIMIT and trap 6 is taken. -/
  | stitchWatchdogExpire (n : Ch) (p : Pa)
  /-- STITCH_WATCHDOG_HALT (R173). A second LIMIT passes without the command ending and the Stitcher halts with code
  0x81. -/
  | stitchWatchdogHalt (n : Ch) (p : Pa)
  /-- DESC_PREFETCH_DELIVER (R171). The scheduler places a descriptor in the prefetch buffer and DESC latches. -/
  | descPrefetchDeliver (n : Ch) (p : Pa) (tag : W16)
  /-- DESC_PREFETCH_WITHDRAW (R171). The scheduler withdraws a prefetched descriptor without a trap. -/
  | descPrefetchWithdraw (n : Ch) (p : Pa)
  /-- WORK_ITEM_ABORT (R172). An abort reaches Stitchers holding the TAG as event ABORT, withdraws it from prefetch,
  or is handled by the scheduler alone. -/
  | workItemAbort (n : Ch) (tag : W16)
  /-- STORE_SEGMENT_LOAD (R176). MGMT authenticates and applies a base or patch segment to the control store, or
  rejects it. -/
  | storeSegmentLoad (n : Ch) (segs : List Segment)
  /-- STORE_WINDOW_WRITE (R178). An expert write through the store window changes words and clears AUTH. -/
  | storeWindowWrite (path : RegPath) (n : Ch) (w : BitVec 12) (v : W64)
  /-- STITCH_CTL_HALT_WRITE (R181). Writing CHn.STITCH.CTL.HALT halts Stitchers at a word boundary while the channel
  is disabled. -/
  | stitchCtlHaltWrite (path : RegPath) (n : Ch) (mask : BitVec 4)
  /-- STITCH_CTL_STEP (R181). Writing STEP makes a halted Stitcher execute one word. -/
  | stitchCtlStep (n : Ch) (mask : BitVec 4)
  /-- SERVO_SAMPLE_EVENT (R194). A burst-end strobe runs the fixed 120-cycle pipeline: measure, compute loops,
  supervise, test gates and send commands. -/
  | servoSampleEvent (n : Ch) (o : SampleObs)
  /-- IDLE_SELF_CHECK_TICK (R235). While no event occurs, self-check and retract frames run every 4 µs. -/
  | idleSelfCheckTick (n : Ch) (aOk bOk : Bool)
  /-- SWITCH_GAP_END (R240). WR_RESUME plausible events after k + 1 end the switch-over gap. -/
  | switchGapEnd (n : Ch)
  /-- ENGINE_DISAGREE (R237). Coarse outputs differ at DIS_CNT consecutive events; an extra self-check decides. -/
  | engineDisagree (n : Ch) (aOk bOk : Bool)
  /-- STANDBY_READY (R231). Engine B receives 16 good copies in a row and becomes STANDBY. -/
  | standbyReady (n : Ch)
  /-- HINGE_LINK_LOSS (R234). A STANDBY engine misses COPY_LIMIT good copies and goes NOT_READY. -/
  | hingeLinkLoss (n : Ch)
  /-- ENGINE_RECOVERY_COPY_DONE (R245). Bank copy into a RECOVERING engine completes and held writes apply to both. -/
  | engineRecoveryCopyDone (n : Ch)
  /-- ENGINE_RECOVERED (R245). A RECOVERING engine passes 16 self-checks and enters SHADOW or STANDBY, or is retired.
  -/
  | engineRecovered (n : Ch) (ok : Bool)
  /-- TAKE_BACK (R248). After 64 agreeing samples engine A takes control back with both engines driving once. -/
  | takeBack (n : Ch) (cls : Pa)
  /-- HINGE_FORCE (R250). Writing CTL.FORCE forces a switch-over, a take-back, or nothing by engine states. -/
  | hingeForce (path : RegPath) (n : Ch) (aOk bOk : Bool)
  /-- LOOP_IMPLAUSIBLE_DECLARE (R210). A loop's residual exceeds the threshold RESID_CNT times or misses MISS_LIMIT
  samples and is declared implausible. -/
  | loopImplausibleDeclare (n : Ch) (b : Bool) (l : Loop)
  /-- LOOP_PLAUSIBLE_RECOVER (R212). RECOVER_CNT valid samples within threshold make the loop plausible again. -/
  | loopPlausibleRecover (n : Ch) (b : Bool) (l : Loop)
  /-- SERVO_LOST (R213). The coarse loop stays implausible for 1,024 samples; heads retract and CHn_SERVO_LOST is
  raised. -/
  | servoLost (n : Ch)
  /-- ACT_RUNAWAY (R214). Coarse output stands at its limit for 64 growing samples; one engine reports failing, or
  both raise a Sealed fault. -/
  | actRunaway (n : Ch) (a b : Bool)
  /-- ON_TRACK (R209). ONTRK_CNT valid own samples within ONTRK_THR latch ON_TRACK for the Stitcher. -/
  | onTrack (n : Ch) (p : Pa)
  /-- SEEK_TIMEOUT (R209). A path has not reported ON_TRACK in time; the seek repeats or CHn_SEEK_FAIL is raised. -/
  | seekTimeout (n : Ch)
  /-- SEEK_REDIRECT (R208). A new target redirects a seek in progress with decaying residue. -/
  | seekRedirect (n : Ch) (target : Int)
  /-- SPINDLE_STROBE (R266). The commutation speed strobe runs the spindle loop lane and delivers its inputs. -/
  | spindleStrobe (n : Ch) (o : StrobeObs)
  /-- SWAP_REQUEST (R203). Writing CHn.CTL.SWAP requests a bank swap and starts the inactive bank check. -/
  | swapRequest (n : Ch) (mask : BitVec 6)
  /-- SWAP_CHECK_DONE (R203). The 256-cycle check of the inactive bank ends; a failed check refuses the swap. -/
  | swapCheckDone (n : Ch) (l : Loop)
  /-- COEF_WINDOW_WRITE (R205). Writes a word of a loop's inactive bank in both engines, restarting the check or held
  at a swap. -/
  | coefWindowWrite (path : RegPath) (n : Ch) (l : Loop) (i : Byte) (v : W32) (atSwap : Bool)
  /-- SHOCK_EVENT (R216). The shock comparator fires; with SHOCK_EN gates park and stay closed. -/
  | shockEvent (n : Ch)
  /-- SHOCK_HOLD_EXPIRE (R216). The input has stayed within threshold for SHOCK_HOLD µs and the shock event is no
  longer pending. -/
  | shockHoldExpire (n : Ch)
  /-- RRO_CONVERGED (R220). Eight consecutive converged revolutions make the table CONVERGED and lift the write
  inhibit. -/
  | rroConverged (n : Ch) (p : Pa)
  /-- RRO_NO_CONVERGENCE (R132). 64 revolutions pass without convergence; the head stays inhibited and CHn_RRO_NOCONV
  is raised. -/
  | rroNoConvergence (n : Ch) (p : Pa)
  /-- SERVO_ACQUIRED (R225). Four valid wedges on the lowest path engage the coarse loop and set LOADED. -/
  | servoAcquired (n : Ch) (pos : Int)
  /-- LOAD_TIMEOUT (R225). No servo within 200 ms off the ramp; heads return and load is retried or CHn_LOAD_FAIL is
  raised. -/
  | loadTimeout (n : Ch)
  /-- PWM_PERIOD (R258). Each spindle PWM period samples currents, regulates, checks overcurrent and VMOT, and runs
  the observer. -/
  | pwmPeriod (n : Ch) (o : PwmObs)
  /-- MOT_FAULT (R262). 48 consecutive cut periods enter FAULT and raise CHn_MOT_FAULT. -/
  | motFault (n : Ch)
  /-- DEPTH_LIMIT (R260). 16 consecutive limited strobes in RUN raise CHn_DEPTH_LIMIT. -/
  | depthLimit (n : Ch)
  /-- MOT_START (R268). START enters SENSE. -/
  | motStart (n : Ch)
  /-- MOT_STOP (R268). STOP retracts if loaded, brakes and goes OFF at or below 1 %. -/
  | motStop (n : Ch)
  /-- MOT_COAST (R268). COAST retracts if loaded and lets the spindle coast. -/
  | motCoast (n : Ch)
  /-- MOT_UNLOAD (R268). UNLOAD retracts the heads without changing the spindle state. -/
  | motUnload (n : Ch)
  /-- MOT_LOAD (R268). LOAD moves the heads off the ramp and loads under R225. -/
  | motLoad (n : Ch)
  /-- SENSE_END (R272). 20 ms of SENSE end and the start table chooses align, catch or brake. -/
  | senseEnd (n : Ch)
  /-- ALIGN_STEP_END (R273). An align step time ends, moving to the second angle or to RAMP. -/
  | alignStepEnd (n : Ch)
  /-- RAMP_HANDOVER (R273). The observer agrees with the forced angle for a cycle at handover speed and ACCEL begins.
  -/
  | rampHandover (n : Ch)
  /-- RAMP_HANDOVER_FAIL (R273). No handover in 4 cycles; return to SENSE, or a second failure ends the start as
  ALIGN_FAIL. -/
  | rampHandoverFail (n : Ch)
  /-- SPINUP_TIMEOUT (R274). RUN not reached within SPINUP_TMO; the start ends and CHn_SPINUP_FAIL is raised. -/
  | spinupTimeout (n : Ch)
  /-- BRAKE_PHASE_TIMER (R276). Below 5 % the 20 ms zero-vector and measurement phases alternate, leaving BRAKE at or
  below 1 %. -/
  | brakePhaseTimer (n : Ch)
  /-- BRAKE_TIMEOUT (R276). Braking exceeds BRAKE_TMO × 4 s; the block coasts. -/
  | brakeTimeout (n : Ch)
  /-- ROTOR_LOST (R277). Three disagreeing cycles declare the rotor lost, enter LOST and abort the channel's work
  items. -/
  | rotorLost (n : Ch)
  /-- CATCH_DETECTOR_START (R277). Phase currents fall below 1/64 or 1 ms passes and the catch detector starts. -/
  | catchDetectorStart (n : Ch)
  /-- CATCH_REACQUIRE (R277). Twelve consistent crossings seed the observer and commutation resumes in ACCEL or BRAKE.
  -/
  | catchReacquire (n : Ch)
  /-- CATCH_TIMEOUT (R279). No reacquisition in 200 ms or speed below 80 %; FAULT and CHn_SPIN_CATCH_FAIL. -/
  | catchTimeout (n : Ch)
  /-- IN_TOLERANCE (R281). ACC_CNT strobes within ACC_TOL set IN_TOL, allowing media access. -/
  | inTolerance (n : Ch)
  /-- SPIN_OFF_TOLERANCE (R281). IN_TOL stays 0 in RUN for 1 s and CHn_SPIN_OFF_TOL is raised. -/
  | spinOffTolerance (n : Ch)
  /-- RUNCFG_DIR_WRITE (R275). A write changing DIR takes effect only in OFF at low speed, else CHn_REV_REFUSED. -/
  | runcfgDirWrite (path : RegPath) (n : Ch) (dir : Bool)
  /-- RETRACT_PARK_DETECT (R285). Velocity below RET_VEL ÷ 8 for 2 ms at RET_ILIM detects park. -/
  | retractParkDetect (n : Ch)
  /-- RETRACT_HOLD_END (R285). 5 ms after park the holding current ends and PARKED is set. -/
  | retractHoldEnd (n : Ch)
  /-- RETRACT_TIMEOUT (R285). No park by RET_TMO; outputs go off and CHn_RETRACT_TMO is raised. -/
  | retractTimeout (n : Ch)
  /-- VOICE_COIL_PERIOD (R283). Each 2.5 µs voice-coil period applies the latest coarse command and regulates current.
  -/
  | voiceCoilPeriod (n : Ch) (current vcb : Int)
  /-- KET_EPOCH_FRAME (R299). A good EPOCH frame sets index, group and epoch instant and is forwarded. -/
  | ketEpochFrame (syms : List Byte) (t : Nat) (again : Option Nat)
  /-- KET_VIB_FRAME (R306). A VIB frame supplies a neighbour sample and is forwarded with TTL 1. -/
  | ketVibFrame (lane : KetLane) (syms : List Byte) (t : Nat)
  /-- KET_DREQ_FRAME (R298). A received DREQ is answered with a DRSP carrying TURN. -/
  | ketDreqFrame (syms : List Byte) (tArr tDep : Nat)
  /-- KET_DRSP_FRAME (R298). A DRSP gives one hop-delay exchange to the median. -/
  | ketDrspFrame (syms : List Byte) (t4 : Nat)
  /-- KET_TAIL_FRAME (R301). A TAIL frame is forwarded upstream and sets GROUP at the head. -/
  | ketTailFrame (syms : List Byte)
  /-- KET_EPOCH_TICK (R299). The head or a segment head originates an EPOCH frame each ms; holdover nodes advance E.
  -/
  | ketEpochTick (t : Nat)
  /-- KET_DREQ_TICK (R298). A non-head node sends a DREQ each ms. -/
  | ketDreqTick (t1 : Nat)
  /-- KET_TAIL_TICK (R301). The tail sends a TAIL frame each ms. -/
  | ketTailTick
  /-- KET_VIB_READ (R306). Every 125 µs the vibration sensor is read and broadcast. -/
  | ketVibRead (sample : W16) (t : Nat)
  /-- KET_LANE_LOCK (R292). A lane decodes 64 valid symbols and locks. -/
  | ketLaneLock (lane : KetLane)
  /-- KET_LANE_LOST (R292). No valid symbol for 1 µs loses a lane. -/
  | ketLaneLost (lane : KetLane)
  /-- KET_HOLDOVER (R307). No good EPOCH for 4 ms enters holdover. -/
  | ketHoldover
  /-- KET_SEGMENT_HEAD (R307). Holdover for HOLD_T with KET_IN lost makes the node a segment head. -/
  | ketSegmentHead
  /-- KET_AUTO_HEAD (R302). KET_IN not locked 10 ms after enable makes an auto node head. -/
  | ketAutoHead
  /-- KET_ENABLE (R309). Writing KET.ENABLE checks and starts the link with configured index and group. -/
  | ketEnable (en : Bool)
  /-- FLY_ENABLE (R410). Writing FLY.ENABLE = 1 checks and starts the journal from a checkpoint or a scan. -/
  | flyEnable
  /-- FLY_DISABLE (R408). Writing FLY.ENABLE = 0 writes a FULL checkpoint, or is refused while live entries exist. -/
  | flyDisable
  /-- FLY_START_DONE (R411). The checkpoint start or scan ends; the write buffer is rebuilt and journalled namespaces
  become ready. -/
  | flyStartDone (unread : List Nat)
  /-- FLY_PACK_TIMEOUT (R394). A page waits PACK_US without filling and is padded for programming. -/
  | flyPackTimeout
  /-- FLY_PAGE_PROGRAM_DONE (R395). A NAND page program returns its status; commands whose pages all passed are
  reported to step 5. -/
  | flyPageProgramDone (pg : Nat) (pass : Bool)
  /-- FLY_BAND_VERIFY_DONE (R397). A closed band's verification read ends; failed pages are rebuilt and copied, the
  parity block freed. -/
  | flyBandVerifyDone (band : Nat) (checks : List PageCheck)
  /-- FLY_DESTAGE_PAGE_TIMER (R398). A DESTAGE page is programmed within 1 ms of its first record. -/
  | flyDestagePageTimer
  /-- FLY_BOOKMARK_PAGE_TIMER (R401). A BOOKMARK page is programmed within PACK_US of its first record. -/
  | flyBookmarkPageTimer
  /-- FLY_COLLECTION_START (R403). FREE falls below a watermark and collection picks a victim band. -/
  | flyCollectionStart (idle : Bool)
  /-- FLY_VICTIM_ERASE (R405). Copies stand verified and the victim is erased. -/
  | flyVictimErase (checks : List PageCheck)
  /-- FLY_ERASE_DONE (R406). An erase completes, or fails and retires the block. -/
  | flyEraseDone (die blk : Nat) (ok : Bool)
  /-- FLY_DIE_FAIL (R406). A die stops answering or retires too many blocks and leaves service. -/
  | flyDieFail (die : Nat) (dead : Bool)
  /-- FLY_DRAINED (R408). The last live entry of a read-only journal is destaged and DRAINED is programmed. -/
  | flyDrained
  /-- FLY_WARM_OFFER (R414). An offered clean line is accepted and programmed as WARM entries, or declined. -/
  | flyWarmOffer (sn way load : Nat)
  /-- GATH_LAYOUT_COMMIT (R420). Writing COMMIT checks and commits a layout slot, or uncommits it. -/
  | gathLayoutCommit (l : Fin 4)
  /-- GATH_INTENT_PROGRAM (R428). An intent record page is programmed before an update's media writes. -/
  | gathIntentProgram
  /-- GATH_STRIPE_UPDATE (R426). An update locks a stripe, reads what it needs and writes data and parity. -/
  | gathStripeUpdate (l : Fin 4) (stripe : Nat) (k : Nat) (old : List (Nat × Block))
  /-- GATH_START_RESYNC (R429). At start-up stripes with live intents are resynced. -/
  | gathStartResync (l : Fin 4) (stripe : Nat) (failed : List Nat)
  /-- GATH_CHANNEL_UNAVAILABLE (R430). A channel reset, disable or fatal fault makes a layout channel UNAVAILABLE. -/
  | gathChannelUnavailable (n : Ch)
  /-- GATH_CHANNEL_LOST (R430). UNAVAILABLE for LOSS_T, power off or enable failure makes the channel LOST. -/
  | gathChannelLost (n : Ch)
  /-- GATH_CHANNEL_RESYNC (R432). A re-enabled channel's stale strips are reconstructed and written. -/
  | gathChannelResync (l : Fin 4) (n : Ch) (strip : Nat)
  /-- GATH_RECONSTRUCT (R433). A missing or failed sector is solved from K other strips. -/
  | gathReconstruct (l : Fin 4) (nsid lba : Nat) (fetched : List (Nat × Block))
  /-- GATH_REBUILD_STRIP (R436). A lost channel's strip is rebuilt into a spare area and its map entry programmed. -/
  | gathRebuildStrip (l : Fin 4) (stripe : Nat) (n : Ch)
  /-- CACHE_FILL (R452). An offered media read is allocated, merged or dropped. -/
  | cacheFill (nsid line : Nat) (fillId : Nat) (blks : List (Nat × Block))
  /-- CACHE_OFFER_DECIDED (R458). An offer is accepted or declined, the way empties and the waiting fill is allocated.
  -/
  | cacheOfferDecided (sn way : Nat) (accepted : Bool)
  /-- CACHE_OFFER_TIMEOUT (R458). An offer undecided within OFFER_TMO is withdrawn. -/
  | cacheOfferTimeout (sn way : Nat)
  /-- CACHE_WAYLOCK_WRITE (R460). A WAYLOCK write locks or unlocks ways, refused above 8 bits. -/
  | cacheWaylockWrite (lock : W16)
  /-- CACHE_MAINT_INVALIDATE (R462). GO with INVALIDATE clears sectors of the range. -/
  | cacheMaintInvalidate
  /-- CACHE_MAINT_CLEAN_INVALIDATE (R462). GO with CLEAN_INVALIDATE offers whole lines, then invalidates. -/
  | cacheMaintCleanInvalidate
  /-- CACHE_MAINT_PREFETCH (R463). GO with PREFETCH reads the range's lines and fills them. -/
  | cacheMaintPrefetch
  /-- CACHE_MAINT_DONE (R464). The last line is dealt with, BUSY falls and DONE is set. -/
  | cacheMaintDone
  /-- CACHE_TAG_SELECT (R449). Writing TAGSEL latches a tag word into the tag data registers. -/
  | cacheTagSelect (sn : BitVec 14) (way : BitVec 4)
  /-- DRAM_UNCORRECTABLE (R444). A DRAM word is uncorrectable; a bus error returns and DRAM_UE is raised. -/
  | dramUncorrectable (pc : Fin 16) (ofs : Nat)
  /-- DRAM_PC_FAIL (R445). A pseudo-channel fails training or exceeds UE_LIMIT and leaves service. -/
  | dramPcFail (pc : Fin 16)
  /-- FABRIC_STARVE_PROMOTE (R446). A last-tier request waits STARVE_LIM and is served ahead of the middle tier. -/
  | fabricStarvePromote
  /-- REAM_ALLOC (R482). ALLOC is admitted under thresholds and delivers n handles, or waits. -/
  | reamAlloc (id : ReamId) (use : Fin 9) (n : Nat)
  /-- REAM_SHARE (R479). SHARE increments REFS. -/
  | reamShare (id : ReamId) (h : W32)
  /-- REAM_RELEASE (R480). RELEASE decrements REFS, freeing the buffer at zero. -/
  | reamRelease (id : ReamId) (h : W32)
  /-- REAM_FREE (R479). FREE by the owner clears OWNED and decrements REFS. -/
  | reamFree (id : ReamId) (h : W32)
  /-- REAM_GIVE (R479). GIVE moves ownership to another identity. -/
  | reamGive (id : ReamId) (h : W32) (dst : ReamId)
  /-- REAM_WAIT_GRANT (R484). Returned buffers let waiting requests be decided first. -/
  | reamWaitGrant (pool : PoolId)
  /-- REAM_REFILL (R481). Fewer than 128 on-chip handles triggers a refill from the ring. -/
  | reamRefill (pool : PoolId)
  /-- REAM_SPILL (R481). More than 448 on-chip handles triggers a spill to the ring. -/
  | reamSpill (pool : PoolId)
  /-- REAM_AUDIT_DONE (R481). The pool audit after a handle-word error ends. -/
  | reamAuditDone (pool : PoolId)
  /-- REAM_CHANNEL_RECLAIM (R487). A fenced channel's owned buffers are freed on its behalf. -/
  | reamChannelReclaim (n : Ch)
  /-- REAM_POOL_ENABLE (R473). Writing POOLCFG.EN = 1 builds the pool's ring. -/
  | reamPoolEnable (path : RegPath) (pool : PoolId)
  /-- DMA_TAIL_WRITE (R493). Writing TAIL makes descriptors ready for execution. -/
  | dmaTailWrite (c : Ch) (tail : W16)
  /-- DMA_DESCRIPTOR_DONE (R493). A descriptor's writes are all acknowledged; STATUS is written and HEAD advances or
  the channel halts. -/
  | dmaDescriptorDone (c : Ch) (rdErr wrErr : List Nat)
  /-- DMA_ABORT (R495). Writing ABORT stops issuing beats and ends the descriptor ABORTED. -/
  | dmaAbort (c : Ch) (done : Nat)
  /-- DMA_CLR_HALT (R494). Writing CLR_HALT resumes execution at HEAD. -/
  | dmaClrHalt (c : Ch)
  /-- SRAM_CORRECTABLE_ERROR (R502). A correctable SRAM error is corrected, counted and logged. -/
  | sramCorrectableError (mac word : Nat) (syn : Byte)
  /-- MEMPROT_REMAP_MOVE (R502). A twice-corrected word is moved to a remap entry in an idle write cycle. -/
  | memprotRemapMove (mac word : Nat)
  /-- SRAM_UNCORRECTABLE_ERROR (R503). An uncorrectable SRAM error returns a bus error and raises MEM_UE. -/
  | sramUncorrectableError (mac word : Nat)
  /-- MEMPROT_FLIP_ARM (R505). Writing FLIPCTL.ARM arms a flip of the next write to a macro. -/
  | memprotFlipArm (path : RegPath) (mac : BitVec 12)
  /-- FAULT_SOURCE_LATCH (R515). A raised source is latched, counted, recorded and starts its class consequence and
  reactions. -/
  | faultSourceLatch (same : Nat)
  /-- FAULT_STATUS_CLEAR (R517). A W1C of a status bit clears it once its condition has ended. -/
  | faultStatusClear (i : Fin 12) (v : W32)
  /-- FAULT_FORCE_SAFE (R511). Writing FORCE_SAFE raises FAULT_FORCED. -/
  | faultForceSafe (path : RegPath)
  /-- FAULT_CHIP_RST (R523). Writing FAULT.CTL.CHIP_RST starts a chip reset that may leave the safe state. -/
  | faultChipRst
  /-- FAULT_SELF (R524). The collector's shadow copies mismatch and the safe state is entered. -/
  | faultSelf
  /-- MGMT_CHANNEL_REENABLE (R519). After a BLK_RST channel reset ends, MGMT clears the bit and re-enables the
  channel. -/
  | mgmtChannelReenable (n : Ch)
  /-- MGMT_WDOG (R511). MGMT fails to serve its watchdog for 100 ms. -/
  | mgmtWdog
  /-- PLL_UNLOCK (R551). A PLL loses lock for longer than 1 µs. -/
  | pllUnlock (pll : PllId)
  /-- CRYSTAL_STOP (R551). The crystal stops and CLK_AON runs from the internal oscillator. -/
  | crystalStop
  /-- TEMP_SAMPLE (R554). Junction sensors are read every 1 ms, raising TEMP_HIGH when hot. -/
  | tempSample (t : Vector Int 9)
  /-- TEMP_CRIT (R511). Junction above 110 °C for 10 ms. -/
  | tempCrit
  /-- COLO_MIRROR_PAGE (R533). 512 unmirrored records or 1 s trigger a mirror page program. -/
  | coloMirrorPage (ok : Bool)
  /-- COLO_RESERVATION_EXTEND (R534). The head passes the limit less 8,388,608 and MGMT programs a higher limit. -/
  | coloReservationExtend
  /-- COLO_CHALLENGE_READ (R536). Reading COLO.CHAL returns a fresh challenge. -/
  | coloChallengeRead
  /-- COLO_CLEAR (R536). A response to COLO.CLEAR empties the ring or is denied. -/
  | coloClear (resp : W32) (inTime : Bool)
  /-- COLO_LOCKOUT_END (R536). Ten minutes after the third denial the lockout ends. -/
  | coloLockoutEnd
  /-- POWER_LOSS (R25). VIN_SNS falls below threshold and the power-loss sequence runs. -/
  | powerLoss
  /-- RAIL_TRIP (R541). A rail out of tolerance for 1 µs starts the power-loss sequence. -/
  | railTrip
  /-- BROWN_OUT_RESET (R545). A power-on reset is taken at the later of sequence end and 10 ms after VIN_SNS rose. -/
  | brownOutReset
  /-- POWER_ON_RESET (R567). Release of power-on reset runs bring-up, fuses, boot and enables. -/
  | powerOnReset (bifur fuseSame : Bool)
  /-- RST_N_ASSERT (R556). RST_N low starts a chip reset: fetching stops, heads retract, checkpoint. -/
  | rstNAssert
  /-- CHIP_RESET_TAKEN (R556). The chip reset is taken at the later of last park and the checkpoint. -/
  | chipResetTaken
  /-- BOOT_IMAGE_CHECK (R565). The active or other slot image is checked and booted, else recovery mode. -/
  | bootImageCheck (read0 read1 : Bool)
  /-- ROLLBACK_FUSE_UPDATE (R562). MGMT blows rollback bits when an image with a higher ROLLBACK brings CSTS.RDY to 1.
  -/
  | rollbackFuseUpdate
  /-- FUSE_PROGRAM_COMMIT (R561). Writing 0xF05E to FUSEPROG programs and reads back KEYHASH and CLEARKEY. -/
  | fuseProgramCommit (path : RegPath) (key : W16) (readBack : Bool)
  /-- PWR_DOMCTL_WRITE (R548). A domain control write requests domains on or off in the required order. -/
  | pwrDomctlWrite (path : RegPath) (hi : Bool) (v : W32)
  /-- DOMAIN_ON_COMPLETE (R549). A domain's rail, self-test and PLLs end and its status bit is set. -/
  | domainOnComplete (d : Fin 50) (faulty : List (Nat × Nat))
  /-- CLK_SSC_WRITE (R552). A spread write takes effect at the next modulation period. -/
  | clkSscWrite (path : RegPath) (v : BitVec 3)
  /-- CHANNEL_RESET (R558). A channel reset retracts the heads, fences the channel and resets its logic. -/
  | channelReset (path : RegPath) (n : Ch)
  /-- KET_BLOCK_RESET (R310). KET block reset clears its registers and silences the lanes. -/
  | ketBlockReset
  /-- FLY_BLOCK_RESET (R418). FLY block reset writes a SHORT checkpoint and resets its registers. -/
  | flyBlockReset
  /-- GATH_BLOCK_RESET (R443). GATH block reset reloads layouts and maps from the Flyleaf. -/
  | gathBlockReset
  /-- CACHE_BLOCK_RESET (R472). CACHE block reset empties every way and aborts maintenance. -/
  | cacheBlockReset
  /-- REAM_BLOCK_RESET (R507). REAM block reset returns every buffer and the write buffer is rebuilt. -/
  | reamBlockReset
  /-- DMA_BLOCK_RESET (R507). DMA block reset aborts every DMA channel. -/
  | dmaBlockReset
  /-- MEMPROT_BLOCK_RESET (R507). MEMPROT block reset clears its registers, keeping remap tables. -/
  | memprotBlockReset
  /-- CHANNEL_ENABLE (R569). Writing CHn.ENABLE = 1 runs the consistency check and moves the channel to LOADING or
  refuses it. -/
  | channelEnable (n : Ch)
  /-- CHANNEL_DISABLE (R13). Writing CHn.ENABLE = 0 disables the channel in order, then fences and reclaims. -/
  | channelDisable (n : Ch)
  /-- CHANNEL_READY (R569). Heads loaded and defect lists read move the channel to PHASE READY. -/
  | channelReady (n : Ch) (lists : Option MediaLists)
  /-- CHANNEL_FENCE (R13). The channel's fabric port is fenced and its buffers and work items are taken back. -/
  | channelFence (n : Ch)
  /-- EXPERT_UNLOCK_FIRST (R579). A first word 0xE0E5 arms an unlock sequence. -/
  | expertUnlockFirst (path : RegPath) (blk : W16)
  /-- EXPERT_UNLOCK_SECOND (R579). A second word 0x5E0E opens expert access if armed and not denied. -/
  | expertUnlockSecond (path : RegPath) (blk : W16)
  /-- EXPERT_CLOSE (R581). A 0xC105 write closes expert access. -/
  | expertClose (path : RegPath) (blk : W16)
  /-- ACCERR_CLEAR (R584). Writing ACCERR.CLR clears the access error counts and address. -/
  | accerrClear
  /-- REGISTER_WRITE (R577). A write to a register without its own row takes effect or is discarded under locks. -/
  | registerWrite (path : RegPath) (addr : BitVec 26) (bytes : Nat) (v : W64)
  /-- SIDEBAND_READ_32 (R345). MCTP request 0x01 reads 32 bits of the set-up space. -/
  | sidebandRead32 (addr : W32)
  /-- SIDEBAND_WRITE_32 (R345). MCTP request 0x02 writes 32 bits of the set-up space. -/
  | sidebandWrite32 (addr : W32) (v : W32)
  /-- SIDEBAND_READ_64 (R345). MCTP request 0x03 reads 64 bits. -/
  | sidebandRead64 (addr : W32)
  /-- SIDEBAND_WRITE_64 (R345). MCTP request 0x04 writes 64 bits. -/
  | sidebandWrite64 (addr : W32) (v : W64)
  /-- MI_READ_DATA_STRUCTURE (R344). NVMe-MI Read NVMe-MI Data Structure over the sideband. -/
  | miReadDataStructure
  /-- MI_SUBSYSTEM_HEALTH_POLL (R344). NVM Subsystem Health Status Poll. -/
  | miSubsystemHealthPoll
  /-- MI_CONTROLLER_HEALTH_POLL (R344). Controller Health Status Poll. -/
  | miControllerHealthPoll (c : Ctl)
  /-- MI_CONFIGURATION_SET (R344). Sets MCTP unit size or health status change. -/
  | miConfigurationSet (ident : Byte) (v : W16)
  /-- MI_CONFIGURATION_GET (R344). Gets MCTP unit size or health status change. -/
  | miConfigurationGet (ident : Byte)
  /-- MI_ADMIN_COMMAND (R344). An admin command tunnelled over the sideband to controller 0 or 1. -/
  | miAdminCommand (c : Ctl) (e : Sqe)
  /-- I3C_ENTDAA (R343). CCC ENTDAA assigns a dynamic address. -/
  | i3cEntdaa (a : BitVec 7)
  /-- I3C_SETDASA (R343). CCC SETDASA sets a dynamic address from the static address. -/
  | i3cSetdasa (st a : BitVec 7)
  /-- I3C_RSTDAA (R343). CCC RSTDAA resets the dynamic address. -/
  | i3cRstdaa
  /-- I3C_GETPID (R343). CCC GETPID returns the provisioned ID. -/
  | i3cGetpid
  /-- I3C_GETBCR (R343). CCC GETBCR returns the bus characteristics register. -/
  | i3cGetbcr
  /-- I3C_GETDCR (R343). CCC GETDCR returns the device characteristics register. -/
  | i3cGetdcr
  /-- I3C_GETMWL (R343). CCC GETMWL returns the maximum write length. -/
  | i3cGetmwl
  /-- I3C_GETMRL (R343). CCC GETMRL returns the maximum read length. -/
  | i3cGetmrl
  /-- I3C_SETMWL (R343). CCC SETMWL sets the maximum write length. -/
  | i3cSetmwl (v : W16)
  /-- I3C_SETMRL (R343). CCC SETMRL sets the maximum read length. -/
  | i3cSetmrl (v : W16)
  /-- I3C_ENEC (R343). CCC ENEC enables target events such as in-band interrupts. -/
  | i3cEnec (ev : Byte)
  /-- I3C_DISEC (R343). CCC DISEC disables target events. -/
  | i3cDisec (ev : Byte)
  /-- ZONE_READY (R150). CLK_WR[n] locks at the zone of the descriptor and the path front end has powered up, and
  event ZONE_READY latches in the Stitcher. -/
  | zoneReady (n : Ch) (p : Pa)
  /-- CONSISTENCY_CHECK_END (R569). A consistency check started by a write of 1 to CHn.ENABLE, FLY.ENABLE,
  GATH.LAYOUT_COMMIT or KET.ENABLE ends within 5 ms, passing or refusing with a reason code. -/
  | consistencyCheckEnd (b : CheckBlock) (o : CheckObs)
  /-- RST_N_RELEASE (R556). RST_N rises again, and boot starts if the chip reset has already been taken; during power-
  on reset its release ends the extended hold. -/
  | rstNRelease
  /-- PERST_RELEASE (R567). PERST0_N or PERST1_N is released and link training of that port starts within 20 ms. -/
  | perstRelease (c : Ctl)
  /-- VHOLD_BELOW_MINIMUM (R25). VHOLD falls below PWR.HOLDCFG.VHOLD_MIN while FLY writes the power-loss checkpoint,
  and the checkpoint is abandoned so that the next start scans. -/
  | vholdBelowMinimum
  /-- HOST_AER_UNCORRECTABLE (R346). An uncorrectable error is logged in AER on a port and HOST_AER_UNCORR is raised.
  -/
  | hostAerUncorrectable (c : Ctl)
  /-- FLY_PAGE_READ_DONE (R415). A NAND page read of the Flyleaf ends and serves a warm-level line, a collection copy
  or a destage read-back, with its DCRC checked. -/
  | flyPageReadDone (nsid line : Nat) (ok : Bool)
  /-- HINGE_SELECTION_DISAGREE (R251). The three copies of the Hinge arbiter's selection register disagree;
  CHn_HINGE_SELF is raised and the channel retracts under R241. -/
  | hingeSelectionDisagree (n : Ch)
  deriving DecidableEq, Repr

end Sys2Proof
end

