-- ==== Sys2Proof/Decode.lean ====
section
/-! DEFINITION. The table of commands gives no row any bits, so no word spells a command. The Stitcher's microwords do
have an encoding (R146 to R149): their decoder and encoder stand here. -/

namespace Sys2Proof

/-- The command a word spells by the bits of spec/opcode_table.json: the table gives none. -/
def decodeTableWord (_nbits _w : Nat) : Option Instr := none

/-- Bits [lo + k - 1 : lo] of a microword. -/
def mbits (w : W24) (lo k : Nat) : BitVec k := w.extractLsb' lo k

/-- The operation a microword encodes (R146, R147). Bits marked zero are ignored. -/
def decodeMicro (w : W24) : Micro :=
  match (mbits w 19 5).toNat with
  | 0x01 => if (mbits w 0 4).toNat < 14 then .alu (mbits w 0 4) (mbits w 14 5) (mbits w 9 5) (mbits w 4 5) else .reserved w
  | 0x02 => .addi (mbits w 14 5) (mbits w 0 14)
  | 0x03 => .ldi (mbits w 14 5) (mbits w 0 14)
  | 0x04 => .andi (mbits w 14 5) (mbits w 0 14)
  | 0x05 => .ori (mbits w 14 5) (mbits w 0 14)
  | 0x06 => .cmpi (mbits w 14 5) (mbits w 0 14)
  | 0x08 => .jmp (mbits w 13 6) (mbits w 0 13)
  | 0x09 => .call (mbits w 13 6) (mbits w 0 13)
  | 0x0A => .ret (mbits w 13 6)
  | 0x0B => .loop (mbits w 17 2) (mbits w 0 13)
  | 0x0C => if w.getLsbD 16 then .setlcReg (mbits w 17 2) (mbits w 0 5) else .setlcImm (mbits w 17 2) (mbits w 0 16)
  | 0x0D => .inp (mbits w 14 5) (mbits w 6 8)
  | 0x0E => .outp (mbits w 14 5) (mbits w 6 8)
  | 0x0F => .outi (mbits w 11 8) (mbits w 0 11)
  | 0x10 => .wait (w.getLsbD 18) (mbits w 13 5)
  | 0x11 => .fetch
  | 0x12 => .prefetch
  | 0x13 => .done (w.getLsbD 18) (w.getLsbD 17)
  | 0x14 => .mret
  | 0x15 => .trap (mbits w 0 4)
  | 0x16 => .signal (mbits w 0 4)
  | 0x17 => .halt (mbits w 0 7)
  | _ => .reserved w

/-- A microword from OP and the operand fields, each a number already at its place. -/
def mword (op : Nat) (rest : Nat) : W24 := BitVec.ofNat 24 (op * 524288 + rest)

/-- The canonical word of an operation: bits marked zero are zero, as Abist writes them (R146). -/
def encodeMicro : Micro → W24
  | .alu fn rd ra rb => mword 0x01 (rd.toNat * 16384 + ra.toNat * 512 + rb.toNat * 16 + fn.toNat)
  | .addi rd i => mword 0x02 (rd.toNat * 16384 + i.toNat)
  | .ldi rd i => mword 0x03 (rd.toNat * 16384 + i.toNat)
  | .andi rd i => mword 0x04 (rd.toNat * 16384 + i.toNat)
  | .ori rd i => mword 0x05 (rd.toNat * 16384 + i.toNat)
  | .cmpi rd i => mword 0x06 (rd.toNat * 16384 + i.toNat)
  | .jmp c t => mword 0x08 (c.toNat * 8192 + t.toNat)
  | .call c t => mword 0x09 (c.toNat * 8192 + t.toNat)
  | .ret c => mword 0x0A (c.toNat * 8192)
  | .loop l t => mword 0x0B (l.toNat * 131072 + t.toNat)
  | .setlcImm l v => mword 0x0C (l.toNat * 131072 + v.toNat)
  | .setlcReg l r => mword 0x0C (l.toNat * 131072 + 65536 + r.toNat)
  | .inp r q => mword 0x0D (r.toNat * 16384 + q.toNat * 64)
  | .outp r q => mword 0x0E (r.toNat * 16384 + q.toNat * 64)
  | .outi q i => mword 0x0F (q.toNat * 2048 + i.toNat)
  | .wait c e => mword 0x10 (c.toNat * 262144 + e.toNat * 8192)
  | .fetch => mword 0x11 0
  | .prefetch => mword 0x12 0
  | .done a f => mword 0x13 (a.toNat * 262144 + f.toNat * 131072)
  | .mret => mword 0x14 0
  | .trap c => mword 0x15 c.toNat
  | .signal k => mword 0x16 k.toNat
  | .halt c => mword 0x17 c.toNat
  | .reserved w => w

/-- The operations that have a word of their own: an ALU function below 0xE; a reserved word is one that decodes so. -/
def Micro.wellFormed : Micro → Bool
  | .alu fn _ _ _ => decide (fn.toNat < 14)
  | .reserved w => decodeMicro w == .reserved w
  | _ => true

end Sys2Proof
end

