-- ==== Sys2Proof/Machine/Codes.lean ====
section
/-! DEFINITION. The codes the spec names: CRC-8 of the runout field, CRC-16 of serial frames, CRC-32C, Gray code, dibits,
and the arithmetic of GF(256) of the gathering code. -/

namespace Sys2Proof.Machine

/-- One shift of an MSB-first CRC of width `w`. -/
def crcBit (w poly : Nat) (c : Nat) (b : Bool) : Nat :=
  let top := c.testBit (w - 1) != b
  let sh := (c * 2) % 2 ^ w
  if top then sh ^^^ poly else sh

/-- The bits of a number, most significant first. -/
def bitsMsb (w v : Nat) : List Bool := (List.range w).map fun i => v.testBit (w - 1 - i)

/-- CRC over bits in the order given, most significant first, no final inversion. -/
def crcMsb (w poly init : Nat) (bs : List Bool) : Nat := bs.foldl (crcBit w poly) init

/-- CRC-8 with polynomial 0x07 and initial value 0 over a 16 bit value (R47). -/
def crc8 (v : Nat) : Nat := crcMsb 8 0x07 0 (bitsMsb 16 v)

/-- One byte of the reflected CRC-32C (polynomial 0x1EDC6F41, reflected 0x82F63B78). -/
def crc32cByte (c b : Nat) : Nat :=
  (List.range 8).foldl (fun x _ => if x.testBit 0 then (x / 2) ^^^ 0x82F63B78 else x / 2) (c ^^^ b)

/-- CRC-32C (Castagnoli) of a byte list. -/
def crc32c (bs : List Nat) : Nat := (bs.foldl crc32cByte 0xFFFFFFFF) ^^^ 0xFFFFFFFF

/-- The four little-endian bytes of a word. -/
def bytesOf32 (v : Nat) : List Nat := [v % 256, v / 256 % 256, v / 65536 % 256, v / 16777216 % 256]

/-- The little-endian bytes of a number, `k` of them. -/
def bytesLe : Nat → Nat → List Nat
  | 0, _ => []
  | k + 1, v => v % 256 :: bytesLe k (v / 256)

/-- The number that little-endian bytes spell. -/
def ofBytesLe : List Nat → Nat
  | [] => 0
  | b :: bs => b + 256 * ofBytesLe bs

/-- The bytes of a number, most significant first, and the number they spell. -/
def bytesBe (k v : Nat) : List Byte := (bytesLe k v).reverse.map fun b => BitVec.ofNat 8 b
def ofBytesBe (l : List Byte) : Nat := l.foldl (fun a b => a * 256 + b.toNat) 0

/-- Gray code of a binary number (R45). -/
def gray (t : Nat) : Nat := t ^^^ (t / 2)

/-- The binary number of a 24 bit Gray code: the running XOR from the most significant bit down (R45). -/
def ungray (g : Nat) : Nat :=
  (List.range 24).foldl (fun t i => if g.testBit (23 - i) != t.testBit 0 then t * 2 + 1 else t * 2) 0

/-- The bits that dibit-encoded servo bits spell, most significant first; none when a dibit is 0b00 or 0b11 (R44). -/
def undibit : Nat → Nat → Option Nat
  | 0, _ => some 0
  | k + 1, v =>
    match undibit k (v / 4) with
    | none => none
    | some t => if v % 4 = 2 then some (t * 2 + 1) else if v % 4 = 1 then some (t * 2) else none

/-- Whether a number has an even count of ones in its low `w` bits. -/
def evenParity (w v : Nat) : Bool := (List.range w).foldl (fun b i => b != v.testBit i) false == false

/-- Multiplication by x in GF(256) with polynomial 0x11D (R424). -/
def gfX (a : Nat) : Nat := if a ≥ 128 then (a * 2) ^^^ 0x11D else a * 2

/-- Multiplication in GF(256) with polynomial 0x11D (R424). -/
def gfMul (a b : Nat) : Nat :=
  (List.range 8).foldl (fun acc i => (gfX acc) ^^^ (if b.testBit (7 - i) then a else 0)) 0

/-- Power in GF(256). -/
def gfPow (a : Nat) : Nat → Nat
  | 0 => 1
  | k + 1 => gfMul a (gfPow a k)

/-- The inverse in GF(256): the 254th power. -/
def gfInv (a : Nat) : Nat := gfPow a 254

/-- A two's-complement reading of the low `w` bits. -/
def sext (w v : Nat) : Int := let x := v % 2 ^ w; if x ≥ 2 ^ (w - 1) then (x : Int) - 2 ^ w else x

/-- The low `w` bits of the two's-complement form of an integer. -/
def toBits (w : Nat) (v : Int) : Nat := (v % (2 ^ w : Int)).toNat

/-- Saturate an integer to `w` signed bits. -/
def satI (w : Nat) (v : Int) : Int :=
  let m : Int := 2 ^ (w - 1)
  if v > m - 1 then m - 1 else if v < -m then -m else v

/-- Division to the nearest integer, ties away from zero (R192). -/
def roundDiv (v : Int) (d : Nat) : Int :=
  let q : Int := ((v.natAbs * 2 + d) / (2 * d) : Nat)
  if v < 0 then -q else q

/-- Clamp an integer to ±m. -/
def clampI (m v : Int) : Int := if v > m then m else if v < -m then -m else v

end Sys2Proof.Machine
end

