-- ==== Sys2Proof/Config.lean ====
section
/-! DEFINITION. What the spec leaves open and the model therefore leaves free: constants without a body, so that no proof
can see a value. Each is applied to the plain counter `State.freeCtr`, which a step that uses a free value advances. -/

namespace Sys2Proof.Config

/-- A value the spec leaves undefined or unstated (DESIGN CHOICE: free), number `i` of the run: the challenge of R536, the
bytes of a failing copy beat (R495), a port that has no content. -/
opaque freeWord (i : Nat) : BitVec 64

/-- A byte the spec leaves undefined, at offset `j` of open value `i`. -/
opaque freeByte (i j : Nat) : BitVec 8

/-- The eight characters of FR for a base version (R327): the spec gives the field and not its spelling. -/
opaque frText (baseVer : Nat) : BitVec 64

/-- The key hash in mask ROM for KEY 0x0000 (R565). -/
opaque romHash : Nat

/-- The provisioned identifier, bus and device characteristics of the I3C target (R343), which the spec does not state. -/
opaque i3cPid : BitVec 48
opaque i3cBcr : BitVec 8
opaque i3cDcr : BitVec 8

/-- Whether a min-sum message of magnitude `m` that 0.75 does not take to a whole number is rounded up (R90). -/
opaque roundUp (m : Nat) : Bool

/-- The ADC sample of a reader (R78, R79): boost in dB, ADC_FS, gain in 1/65,536 of 0.125 dB, sampling phase in 1/64 bit, and the
reader's signal, the newest value first. The analog transfer is not the spec's. -/
opaque analog (boost adcFs : Nat) (gain phase : Int) (signal : List Int) : Int

/-- The update of a baseline and of an asymmetry loop from its error signal (R81), 1/65,536 ADC step: the spec gives the signals and
no step. -/
opaque dcStep (err : Int) : Int
opaque asymStep (err : Int) : Int

/-- A phase error of the Mueller-Müller detector in 2^-32 bit (R81): the spec gives no scale. -/
opaque phaseScale (raw : Int) : Int

/-- The phase of the zero-phase start from the samples of preamble bits 0 to 15 (R81), 2^-32 bit. -/
opaque zeroPhase (samples : List Int) : Int

/-- The magnitude of the detector's soft output for a bit (R86) by the equalizer outputs, the target, the predictors and the bit's
place: the spec gives its width and no scale. -/
opaque softMagnitude (y target : List Int) (pred : List (List Int)) (k : Nat) : BitVec 5

/-- The control-port addresses of head selection, fault status and identity, which are the preamplifier's (R121). -/
opaque paHeadAddr : BitVec 7
opaque paFaultAddr : BitVec 7
opaque paIdentAddr : BitVec 7

/-- The format speed of a channel for which no image gives a zone table, in rpm (R42, R253). -/
opaque formatSpeed : Nat

/-- The observer's phase-locked loop (R264): bandwidth in 4 Hz, the angle in 2^-48 turn and the speed in 2^-48 turn per PWM period
before, the three back-EMF estimates in 1/25,595,904 µV. The spec gives its bandwidth and no loop filter. -/
opaque pll (bw : Nat) (angle speed : Int) (emf : List Int) : Int × Int

/-- The current target in mA of the voice coil's velocity loop by target and measured velocity in µV of back-EMF, and the duty of its
current loop in CLK_MOT cycles by target and measured current (R283, R284): the spec gives neither loop's gains. -/
opaque coilTarget (target measured : Int) : Int
opaque coilDuty (target measured : Int) : Int

/-- The 92 parity bytes of a Flyleaf frame (R385): the spec gives the BCH code's field and strength and neither its generator nor the order
of its bits. -/
opaque bchParity (payload : List Nat) : BitVec 736

/-- R448: the byte of the host-side region of the buffer DRAM at which the side area of the cache begins. -/
opaque sideBase : Nat

end Sys2Proof.Config
end

