-- ==== Sys2Proof/Machine/NatMap.lean ====
section
/-! DEFINITION. Sparse number stores in one canonical form: the cells of the register fields, and the words and bytes of
the addressed RAMs of the part. An unlisted key reads as zero. -/

namespace Sys2Proof.Machine

/-- A sparse map from numbers to numbers. Canonical form (`NatMap.wf`): keys strictly rising, no value zero. -/
structure NatMap where
  cells : List (Nat × Nat)
  deriving DecidableEq, Repr

def NatMap.empty : NatMap := ⟨[]⟩

def lookupCell (k : Nat) : List (Nat × Nat) → Nat
  | [] => 0
  | (a, v) :: r => if a = k then v else lookupCell k r

def insertCell (k v : Nat) : List (Nat × Nat) → List (Nat × Nat)
  | [] => if v = 0 then [] else [(k, v)]
  | (a, w) :: r =>
    if k < a then (if v = 0 then (a, w) :: r else (k, v) :: (a, w) :: r)
    else if k = a then (if v = 0 then r else (k, v) :: r)
    else (a, w) :: insertCell k v r

/-- The value under a key; an unlisted key reads as zero. -/
def NatMap.get (m : NatMap) (k : Nat) : Nat := lookupCell k m.cells

/-- Store a value under a key; storing zero removes the entry. -/
def NatMap.set (m : NatMap) (k v : Nat) : NatMap := ⟨insertCell k v m.cells⟩

/-- Return every key from `lo` up to, but without, `hi` to zero. -/
def NatMap.clear (m : NatMap) (lo hi : Nat) : NatMap :=
  ⟨m.cells.filter fun c => !(decide (lo ≤ c.1) && decide (c.1 < hi))⟩

/-- Return every key that satisfies a test to zero. -/
def NatMap.clearIf (m : NatMap) (p : Nat → Bool) : NatMap := ⟨m.cells.filter fun c => !p c.1⟩

/-- Store the values of a list at rising keys from `k`. -/
def NatMap.setMany (m : NatMap) (k : Nat) : List Nat → NatMap
  | [] => m
  | v :: vs => (m.set k v).setMany (k + 1) vs

/-- The values at `c` rising keys from `k`. -/
def NatMap.getMany (m : NatMap) (k : Nat) : Nat → List Nat
  | 0 => []
  | c + 1 => m.get k :: m.getMany (k + 1) c

/-- The non-zero values of a list at rising keys from `k`. -/
def cellsOf (k : Nat) : List Nat → List (Nat × Nat)
  | [] => []
  | v :: vs => if v = 0 then cellsOf (k + 1) vs else (k, v) :: cellsOf (k + 1) vs

/-- Store the values of a list at rising keys from `k`, as one run. -/
def NatMap.setRun (m : NatMap) (k : Nat) (vs : List Nat) : NatMap :=
  ⟨m.cells.filter (fun c => decide (c.1 < k)) ++ cellsOf k vs ++ m.cells.filter (fun c => decide (k + vs.length ≤ c.1))⟩

/-- The values at `n` rising keys from `k`, from cells whose keys rise and are at least `k`. -/
def fillRun (k : Nat) : Nat → List (Nat × Nat) → List Nat
  | 0, _ => []
  | n + 1, [] => 0 :: fillRun (k + 1) n []
  | n + 1, (a, v) :: r => if a = k then v :: fillRun (k + 1) n r else 0 :: fillRun (k + 1) n ((a, v) :: r)

/-- The values at `n` rising keys from `k`. -/
def NatMap.getRun (m : NatMap) (k n : Nat) : List Nat :=
  fillRun k n (m.cells.filter fun c => decide (k ≤ c.1) && decide (c.1 < k + n))

/-- The entry under a key of a sorted list of entries. -/
def assocGet {α : Type} (k : Nat) (l : List (Nat × α)) : Option α := (l.find? fun c => c.1 == k).map fun c => c.2

/-- Put an entry in a list sorted by key, in place of one with the same key. -/
def assocSet {α : Type} (k : Nat) (v : α) : List (Nat × α) → List (Nat × α)
  | [] => [(k, v)]
  | (a, w) :: r => if k < a then (k, v) :: (a, w) :: r else if k = a then (k, v) :: r else (a, w) :: assocSet k v r

/-- Remove the entries with keys from `lo` up to, but without, `hi`. -/
def assocDrop {α : Type} (lo hi : Nat) (l : List (Nat × α)) : List (Nat × α) :=
  l.filter fun c => !(decide (lo ≤ c.1) && decide (c.1 < hi))

/-- Keys above `b`, strictly rising, and no value zero. -/
def risingFrom (b : Nat) : List (Nat × Nat) → Bool
  | [] => true
  | (a, v) :: r => decide (b < a) && decide (v ≠ 0) && risingFrom a r

/-- The canonical form. -/
def NatMap.wf (m : NatMap) : Bool :=
  match m.cells with
  | [] => true
  | (a, v) :: r => decide (v ≠ 0) && risingFrom a r

end Sys2Proof.Machine
end

