-- ==== Sys2Proof/Machine/Regs.lean ====
section
/-! DEFINITION. The registers of the set-up space as the spec's register tables give them: one field descriptor for
each named field (address, least significant bit, width, reset value, access code of R8), and the table of all
registers by offset (R570, R571, R586). The value of every field is held in `State.regs` under the key of its
descriptor. -/

namespace Sys2Proof.Machine

/-- The register access codes of R8. -/
inductive Acc where
  | ro | rw | rwl | rws | w1c | wo
  deriving DecidableEq, Repr

/-- A register field: byte address in the set-up space, least significant bit, width, reset value, access code. -/
structure Fld where
  addr  : Nat
  lo    : Nat
  width : Nat
  reset : Nat
  acc   : Acc
  deriving DecidableEq, Repr

/-- The key under which the field's value is held. -/
def Fld.key (f : Fld) : Nat := f.addr * 32 + f.lo

/-- The base address of the window of channel n (R570). -/
def chBase (n : Nat) : Nat := 0x2000000 + n * 0x400000

/-- The class of fault source s (R509 to R511): 0 Notice, 1 Degraded, 2 Channel-fatal, 3 Device-fatal, 4 Sealed.
The per-channel table is R510's, indexed by k = s mod 40; the chip table is R511's, indexed by s - 320. -/
def classReset (s : Nat) : Nat :=
  if s < 320 then chClass.getD (s % 40) 0 else chipClass.getD (s - 320) 0
where
  chClass : List Nat := [1, 1, 0, 1, 1, 1, 2, 1, 0, 1, 2, 0, 2, 4, 2, 1, 0, 0, 1, 1,
    2, 2, 1, 2, 2, 1, 2, 1, 0, 0, 1, 2, 1, 2, 0, 2, 2, 0, 0, 0]
  chipClass : List Nat := [1, 1, 0, 1, 0, 0, 0, 0, 0, 0, 0, 1, 0, 0, 0, 1, 1, 1, 1, 1,
    1, 0, 0, 0, 1, 0, 1, 0, 0, 1, 0, 0, 0, 3, 4, 4, 3, 3, 3, 1, 3, 0, 0, 1]

/-- The reset value of the reaction bits of source s, by its class (R509). -/
def reactReset (s : Nat) : Nat := 
  match classReset s with
  | 0 => 0x01
  | 1 => 0x05
  | 2 => 0x05
  | _ => 0x26

namespace F

/-- GLB.ID.VENDOR (R584, RO): PCI vendor ID -/
def GLB_ID_VENDOR : Fld := ⟨0x0, 0, 16, 0x1fd3, .ro⟩
/-- GLB.ID.DEVICE (R584, RO): PCI device ID -/
def GLB_ID_DEVICE : Fld := ⟨0x0, 16, 16, 0x808, .ro⟩
/-- GLB.REV.STEP (R584, RO): Stepping -/
def GLB_REV_STEP : Fld := ⟨0x4, 0, 8, 0xb1, .ro⟩
/-- GLB.REV.DRAM_GIB (R584, RO): Buffer DRAM, GiB -/
def GLB_REV_DRAM_GIB : Fld := ⟨0x4, 8, 8, 0x20, .ro⟩
/-- GLB.REV.PCH (R584, RO): Number of pseudo-channels − 1; 0xF on both order codes -/
def GLB_REV_PCH : Fld := ⟨0x4, 16, 4, 0xf, .ro⟩
/-- GLB.VERSION.ROM_VER (R584, RO): Mask ROM version: [7:4] major, [3:0] minor -/
def GLB_VERSION_ROM_VER : Fld := ⟨0x8, 0, 8, 0x10, .ro⟩
/-- GLB.VERSION.IMG_VER (R584, RO): BASE_VER of the image booted; 0x0000 in recovery mode (R566) -/
def GLB_VERSION_IMG_VER : Fld := ⟨0x8, 8, 16, 0x0, .ro⟩
/-- GLB.VERSION.IMG_RB (R584, RO): ROLLBACK of the image booted -/
def GLB_VERSION_IMG_RB : Fld := ⟨0x8, 24, 6, 0x0, .ro⟩
/-- GLB.VERSION.RECOVERY (R584, RO): 1: recovery mode -/
def GLB_VERSION_RECOVERY : Fld := ⟨0x8, 30, 1, 0x0, .ro⟩
/-- GLB.SERIAL.SERIAL (R584, RO): Bytes 4k to 4k + 3 of SERIAL (R559); the value Identify reports in SN (R327) -/
def GLB_SERIAL_SERIAL (k : Nat) : Fld := ⟨0x10 + 0x4 * k, 0, 32, 0, .ro⟩
/-- GLB.EXPERT_UNLOCK.BLOCK (R584, WO): Block identity of R579 -/
def GLB_EXPERT_UNLOCK_BLOCK : Fld := ⟨0x40, 0, 16, 0x0, .wo⟩
/-- GLB.EXPERT_UNLOCK.CODE (R584, WO): 0xE0E5 first word; 0x5E0E second word; 0xC105 close; other values fail under R579 -/
def GLB_EXPERT_UNLOCK_CODE : Fld := ⟨0x40, 16, 16, 0x0, .wo⟩
/-- GLB.EXPERT_STAT.CH_OPEN (R584, RO): Bit n: channel n open -/
def GLB_EXPERT_STAT_CH_OPEN : Fld := ⟨0x44, 0, 8, 0x0, .ro⟩
/-- GLB.EXPERT_STAT.HOST_OPEN (R584, RO): Bit i: block of identity 0x0010 + i open -/
def GLB_EXPERT_STAT_HOST_OPEN : Fld := ⟨0x44, 8, 11, 0x0, .ro⟩
/-- GLB.EXPERT_STAT.ARMED (R584, RO): 1: a first word has been received -/
def GLB_EXPERT_STAT_ARMED : Fld := ⟨0x44, 19, 1, 0x0, .ro⟩
/-- GLB.EXPERT_STAT.ARM_PATH (R584, RO): Path of the first word: 0 BAR2, 1 sideband -/
def GLB_EXPERT_STAT_ARM_PATH : Fld := ⟨0x44, 20, 1, 0x0, .ro⟩
/-- GLB.EXPERT_STAT.FAIL_CNT (R584, RO): Failed sequences, saturating -/
def GLB_EXPERT_STAT_FAIL_CNT : Fld := ⟨0x44, 24, 8, 0x0, .ro⟩
/-- GLB.EXPERT_DENY.DENY (R584, RO): R580 -/
def GLB_EXPERT_DENY_DENY : Fld := ⟨0x48, 0, 1, 0x0, .ro⟩
/-- GLB.ACCERR.LOCKED_CNT (R584, RO): Writes discarded under R577 and R578, saturating -/
def GLB_ACCERR_LOCKED_CNT : Fld := ⟨0x50, 0, 16, 0x0, .ro⟩
/-- GLB.ACCERR.OFF_CNT (R584, RO): Accesses answered under R574, saturating -/
def GLB_ACCERR_OFF_CNT : Fld := ⟨0x50, 16, 7, 0x0, .ro⟩
/-- GLB.ACCERR.SIZE_CNT (R584, RO): Writes discarded under R573, saturating -/
def GLB_ACCERR_SIZE_CNT : Fld := ⟨0x50, 23, 7, 0x0, .ro⟩
/-- GLB.ACCERR.CLR (R584, WO): 1: clears the three counts and ACCERR_ADDR -/
def GLB_ACCERR_CLR : Fld := ⟨0x50, 31, 1, 0x0, .wo⟩
/-- GLB.ACCERR_ADDR.ADDR (R584, RO) -/
def GLB_ACCERR_ADDR_ADDR : Fld := ⟨0x54, 0, 32, 0x0, .ro⟩
/-- FAULT.STAT.SAFE (R537, RO): 1: safe state (R520) -/
def FAULT_STAT_SAFE : Fld := ⟨0x100000, 0, 1, 0x0, .ro⟩
/-- FAULT.STAT.SEALED (R537, RO): 1: a Sealed source has latched since power-on -/
def FAULT_STAT_SEALED : Fld := ⟨0x100000, 1, 1, 0x0, .ro⟩
/-- FAULT.STAT.SELF (R537, RO): 1: R524 -/
def FAULT_STAT_SELF : Fld := ⟨0x100000, 2, 1, 0x0, .ro⟩
/-- FAULT.STAT.ERR (R537, RO): 1: ERR_N driven low -/
def FAULT_STAT_ERR : Fld := ⟨0x100000, 3, 1, 0x0, .ro⟩
/-- FAULT.STAT.OVF (R537, W1C): 1: a source latched while FIRST.VALID was 1 -/
def FAULT_STAT_OVF : Fld := ⟨0x100000, 4, 1, 0x0, .w1c⟩
/-- FAULT.STAT.LATCH_CNT (R537, RO): Latches, saturating -/
def FAULT_STAT_LATCH_CNT : Fld := ⟨0x100000, 16, 16, 0x0, .ro⟩
/-- FAULT.FIRST.SOURCE (R537, RO): Source number -/
def FAULT_FIRST_SOURCE : Fld := ⟨0x100004, 0, 9, 0x0, .ro⟩
/-- FAULT.FIRST.CLASS (R537, RO): R509 -/
def FAULT_FIRST_CLASS : Fld := ⟨0x100004, 9, 3, 0x0, .ro⟩
/-- FAULT.FIRST.VALID (R537, W1C): 1: SOURCE holds a source; writing 1 clears VALID, SOURCE and CLASS -/
def FAULT_FIRST_VALID : Fld := ⟨0x100004, 31, 1, 0x0, .w1c⟩
/-- FAULT.FIRSTSEQ.SEQ (R537, RO) -/
def FAULT_FIRSTSEQ_SEQ (h : Nat) : Fld := ⟨0x100008 + 0x4 * h, 0, 32, 0x0, .ro⟩
/-- FAULT.CTL.CHIP_RST (R537, WO): 1: chip reset under R523 -/
def FAULT_CTL_CHIP_RST : Fld := ⟨0x100010, 0, 1, 0x0, .wo⟩
/-- FAULT.CTL.FORCE_SAFE (R537, WO): 1: raises FAULT_FORCED; discarded without expert access (R35) -/
def FAULT_CTL_FORCE_SAFE : Fld := ⟨0x100010, 1, 1, 0x0, .wo⟩
/-- FAULT.STATUS.SRC (R537, W1C): Bit b: source 32i + b latched; cleared under R517 -/
def FAULT_STATUS_SRC (i : Nat) : Fld := ⟨0x100100 + 0x4 * i, 0, 32, 0x0, .w1c⟩
/-- FAULT.MASK.MASK (R537, RWL): Bit b: source 32i + b masked (R516); bits of Sealed sources read 0 -/
def FAULT_MASK_MASK (i : Nat) : Fld := ⟨0x100140 + 0x4 * i, 0, 32, 0x0, .rwl⟩
/-- FAULT.REACT.REACT (R537, RWL): Bits of R512, restricted by R513 and R514 -/
def FAULT_REACT_REACT (s : Nat) : Fld := ⟨0x100400 + 0x4 * s, 0, 6, reactReset s, .rwl⟩
/-- FAULT.REACT.CLASS (R537, RO): R509 -/
def FAULT_REACT_CLASS (s : Nat) : Fld := ⟨0x100400 + 0x4 * s, 8, 3, classReset s, .ro⟩
/-- FAULT.REACT.COUNT (R537, RO): Latches of the source, saturating -/
def FAULT_REACT_COUNT (s : Nat) : Fld := ⟨0x100400 + 0x4 * s, 16, 8, 0x0, .ro⟩
/-- COLO.SEQ.SEQ (R537, RO): HEADHI, HEADLO, OLDESTHI, OLDESTLO -/
def COLO_SEQ_SEQ (h : Nat) : Fld := ⟨0x110000 + 0x4 * h, 0, 32, 0x0, .ro⟩
/-- COLO.STAT.UNMIRRORED (R537, RO): Records not yet mirrored, 0–8,192 -/
def COLO_STAT_UNMIRRORED : Fld := ⟨0x110010, 0, 14, 0x0, .ro⟩
/-- COLO.STAT.MIRROR (R537, RO): 1: mirroring active (R533) -/
def COLO_STAT_MIRROR : Fld := ⟨0x110010, 14, 1, 0x0, .ro⟩
/-- COLO.STAT.LOST (R537, W1C): 1: records lost unmirrored -/
def COLO_STAT_LOST : Fld := ⟨0x110010, 15, 1, 0x0, .w1c⟩
/-- COLO.STAT.CLEAR_FAILS (R537, RO): Consecutive denials, 0–3; set to 0 by a correct response and when a lockout ends (R536) -/
def COLO_STAT_CLEAR_FAILS : Fld := ⟨0x110010, 16, 2, 0x0, .ro⟩
/-- COLO.STAT.LOCKOUT (R537, RO): 1: challenges withheld (R536) -/
def COLO_STAT_LOCKOUT : Fld := ⟨0x110010, 18, 1, 0x0, .ro⟩
/-- COLO.CHAL.CHAL (R537, RO): A read returns a new challenge (R536) -/
def COLO_CHAL_CHAL : Fld := ⟨0x110014, 0, 32, 0, .ro⟩
/-- COLO.CLEAR.RESP (R537, WO) -/
def COLO_CLEAR_RESP : Fld := ⟨0x110018, 0, 32, 0x0, .wo⟩
/-- CLK.PLLSTAT.CH_LOCK (R569, RO): Channel PLLs locked -/
def CLK_PLLSTAT_CH_LOCK : Fld := ⟨0x200000, 0, 24, 0x0, .ro⟩
/-- CLK.PLLSTAT.HOST_LOCK (R569, RO): FAB, HOST, MGMT, DRAM, NAND, KET PLLs locked -/
def CLK_PLLSTAT_HOST_LOCK : Fld := ⟨0x200000, 24, 6, 0x0, .ro⟩
/-- CLK.PLLSTAT.XTAL_OK (R569, RO): Crystal running -/
def CLK_PLLSTAT_XTAL_OK : Fld := ⟨0x200000, 30, 1, 0x0, .ro⟩
/-- CLK.SSC.FAB_SS (R569, RWL): Spread on CLK_FAB -/
def CLK_SSC_FAB_SS : Fld := ⟨0x200004, 0, 1, 0x1, .rwl⟩
/-- CLK.SSC.NAND_SS (R569, RWL): Spread on CLK_NAND -/
def CLK_SSC_NAND_SS : Fld := ⟨0x200004, 1, 1, 0x1, .rwl⟩
/-- CLK.SSC.MGMT_SS (R569, RWL): Spread on CLK_MGMT -/
def CLK_SSC_MGMT_SS : Fld := ⟨0x200004, 2, 1, 0x1, .rwl⟩
/-- PWR.DOMSTAT.ON (R569, RO): domains 0 to 31 (h 0), 32 to 49 (h 1) -/
def PWR_DOMSTAT_ON (h : Nat) : Fld := ⟨0x201000 + 0x4 * h, 0, 32, 0x0, .ro⟩
/-- PWR.DOMCTL.REQ (R569, RWL): requests for the same domains -/
def PWR_DOMCTL_REQ (h : Nat) : Fld := ⟨0x201008 + 0x4 * h, 0, 32, 0x0, .rwl⟩
/-- PWR.SUPPLY.VIN_OK (R569, RO): VIN_SNS above threshold -/
def PWR_SUPPLY_VIN_OK : Fld := ⟨0x201010, 0, 1, 0x0, .ro⟩
/-- PWR.SUPPLY.PLOSS (R569, RO): Power-loss sequence running -/
def PWR_SUPPLY_PLOSS : Fld := ⟨0x201010, 1, 1, 0x0, .ro⟩
/-- PWR.SUPPLY.STEP (R569, RO): Last step of R25 reached -/
def PWR_SUPPLY_STEP : Fld := ⟨0x201010, 2, 3, 0x0, .ro⟩
/-- PWR.SUPPLY.RAIL_TRIP (R569, RO): Sequence started under R541 -/
def PWR_SUPPLY_RAIL_TRIP : Fld := ⟨0x201010, 5, 1, 0x0, .ro⟩
/-- PWR.SUPPLY.VHOLD (R569, RO): VHOLD, 50 mV per step -/
def PWR_SUPPLY_VHOLD : Fld := ⟨0x201010, 6, 10, 0x0, .ro⟩
/-- PWR.HOLDCFG.CKPT_THR (R569, RWL): 9.00 V, 50 mV per step -/
def PWR_HOLDCFG_CKPT_THR : Fld := ⟨0x201014, 0, 10, 0xb4, .rwl⟩
/-- PWR.HOLDCFG.VHOLD_MIN (R569, RWL): 6.00 V -/
def PWR_HOLDCFG_VHOLD_MIN : Fld := ⟨0x201014, 10, 10, 0x78, .rwl⟩
/-- PWR.HOLDCFG.DIV (R569, RWL): Divider ratio × 4; 0x40 is 16 -/
def PWR_HOLDCFG_DIV : Fld := ⟨0x201014, 20, 8, 0x40, .rwl⟩
/-- PWR.TEMP.TJ (R569, RO): Hottest junction, signed °C -/
def PWR_TEMP_TJ : Fld := ⟨0x201018, 0, 8, 0x0, .ro⟩
/-- PWR.TEMP.TJ_MAX (R569, RO): Highest since power-on, signed °C; 0x80 until first read -/
def PWR_TEMP_TJ_MAX : Fld := ⟨0x201018, 8, 8, 0x80, .ro⟩
/-- PWR.TEMP.SENSOR (R569, RO): 0–7 channel n; 0x8 host side -/
def PWR_TEMP_SENSOR : Fld := ⟨0x201018, 16, 4, 0x0, .ro⟩
/-- RST.CAUSE.CAUSE (R569, RO): 0x1 power-on; 0x2 RST_N ball; 0x3 FAULT.CTL.CHIP_RST; 0x4 CHIP_RST reaction; 0x5 brown-out (R545) -/
def RST_CAUSE_CAUSE : Fld := ⟨0x202000, 0, 4, 0x1, .ro⟩
/-- RST.CHRST.REQ (R569, WO): Bit n: channel reset of channel n; expert access (R35) -/
def RST_CHRST_REQ : Fld := ⟨0x202004, 0, 8, 0x0, .wo⟩
/-- RST.CHRST.IN_RST (R569, RO): Bit n: reset running (R558) -/
def RST_CHRST_IN_RST : Fld := ⟨0x202004, 8, 8, 0x0, .ro⟩
/-- RST.BLKRST.REQ (R569, WO): Bits for KET, FLY, GATH, CACHE, REAM, DMA, MEMPROT, in that order -/
def RST_BLKRST_REQ : Fld := ⟨0x202008, 0, 7, 0x0, .wo⟩
/-- RST.BOOTSTAT.SLOT (R569, RO): Slot booted -/
def RST_BOOTSTAT_SLOT : Fld := ⟨0x202010, 0, 1, 0x0, .ro⟩
/-- RST.BOOTSTAT.RECOVERY (R569, RO): Recovery mode (R566) -/
def RST_BOOTSTAT_RECOVERY : Fld := ⟨0x202010, 1, 1, 0x0, .ro⟩
/-- RST.BOOTSTAT.REJ0 (R569, RO): Code of R565 for slot 0 -/
def RST_BOOTSTAT_REJ0 : Fld := ⟨0x202010, 4, 4, 0x0, .ro⟩
/-- RST.BOOTSTAT.REJ1 (R569, RO): Code for slot 1 -/
def RST_BOOTSTAT_REJ1 : Fld := ⟨0x202010, 8, 4, 0x0, .ro⟩
/-- RST.BOOTSTAT.FUSE_RB (R569, RO): F -/
def RST_BOOTSTAT_FUSE_RB : Fld := ⟨0x202010, 12, 6, 0x0, .ro⟩
/-- RST.BOOTSTAT.IMG_RB (R569, RO): ROLLBACK of the image booted -/
def RST_BOOTSTAT_IMG_RB : Fld := ⟨0x202010, 18, 6, 0x0, .ro⟩
/-- RST.FUSEPROG.KEY (R569, WO): 0xF05E commits; other values are discarded -/
def RST_FUSEPROG_KEY : Fld := ⟨0x202480, 0, 16, 0x0, .wo⟩
/-- RST.FUSEPROG.BLANK (R569, RO): 1: KEYHASH and CLEARKEY blank -/
def RST_FUSEPROG_BLANK : Fld := ⟨0x202480, 16, 1, 0x1, .ro⟩
/-- RST.FUSEPROG.RESULT (R569, RO): 0b00 none; 0b01 programmed and verified; 0b10 refused; 0b11 read-back failed -/
def RST_FUSEPROG_RESULT : Fld := ⟨0x202480, 17, 2, 0x0, .ro⟩
/-- NVME.PORTSTAT.BIF (R346, RO): PCIE_BIF as sampled at power-on reset -/
def NVME_PORTSTAT_BIF : Fld := ⟨0x300000, 0, 1, 0, .ro⟩
/-- NVME.PORTSTAT.RATE0 (R346, RO): Port 0 rate: 0b001 2.5, 0b010 5, 0b011 8, 0b100 16, 0b101 32, 0b110 64 GT/s; 0b000 down -/
def NVME_PORTSTAT_RATE0 : Fld := ⟨0x300000, 1, 3, 0x0, .ro⟩
/-- NVME.PORTSTAT.WIDTH0 (R346, RO): Port 0 width in lanes: 0x8, 0x4 or 0x0 -/
def NVME_PORTSTAT_WIDTH0 : Fld := ⟨0x300000, 4, 4, 0x0, .ro⟩
/-- NVME.PORTSTAT.RATE1 (R346, RO): Port 1 rate, as RATE0; 0b000 with BIF = 0 -/
def NVME_PORTSTAT_RATE1 : Fld := ⟨0x300000, 8, 3, 0x0, .ro⟩
/-- NVME.PORTSTAT.WIDTH1 (R346, RO): Port 1 width -/
def NVME_PORTSTAT_WIDTH1 : Fld := ⟨0x300000, 11, 4, 0x0, .ro⟩
/-- NVME.PORTSTAT.DOWN_CNT (R346, RO): HOST_LINK_DOWN events, saturating -/
def NVME_PORTSTAT_DOWN_CNT : Fld := ⟨0x300000, 16, 8, 0x0, .ro⟩
/-- NVME.INTAKE.FETCH_STOP (R346, RO): 1: fetching stopped under step 1 of R25 or step 1 of R556. In the safe state fetching continues under R379, and FETCH_STOP reads 0 -/
def NVME_INTAKE_FETCH_STOP : Fld := ⟨0x300004, 0, 1, 0x0, .ro⟩
/-- NVME.INTAKE.OPEN_CNT (R346, RO): Commands fetched and not yet POSTED, both controllers -/
def NVME_INTAKE_OPEN_CNT : Fld := ⟨0x300004, 2, 18, 0x0, .ro⟩
/-- NVME.INTAKE.ABORT_CNT (R346, RO): Aborts that aborted their target, saturating -/
def NVME_INTAKE_ABORT_CNT : Fld := ⟨0x300004, 20, 8, 0x0, .ro⟩
/-- NVME.DBERR.QID (R346, RO): Queue of the first invalid write -/
def NVME_DBERR_QID : Fld := ⟨0x300008, 0, 10, 0x0, .ro⟩
/-- NVME.DBERR.CQ (R346, RO): 1: completion doorbell -/
def NVME_DBERR_CQ : Fld := ⟨0x300008, 10, 1, 0x0, .ro⟩
/-- NVME.DBERR.CTRL (R346, RO): Controller 0 or 1 -/
def NVME_DBERR_CTRL : Fld := ⟨0x300008, 11, 1, 0x0, .ro⟩
/-- NVME.DBERR.VALID (R346, W1C): 1: QID holds a value; writing 1 clears the register -/
def NVME_DBERR_VALID : Fld := ⟨0x300008, 31, 1, 0x0, .w1c⟩
/-- NVME.BKSTAT.ENTRIES (R379, RO): Bookmarks held, 0–1,048,576 -/
def NVME_BKSTAT_ENTRIES : Fld := ⟨0x300010, 0, 21, 0x0, .ro⟩
/-- NVME.BKSTAT.EFF_WIN (R379, RO): Age of the oldest bookmark, s, saturating at 600 (R366) -/
def NVME_BKSTAT_EFF_WIN : Fld := ⟨0x300010, 21, 10, 0x0, .ro⟩
/-- NVME.BKSTAT.DRAM_ONLY (R379, RO): 1: new bookmarks are kept in DRAM only (R367) -/
def NVME_BKSTAT_DRAM_ONLY : Fld := ⟨0x300010, 31, 1, 0x0, .ro⟩
/-- NVME.BKCNT1.HITS (R379, RO): Writes suppressed under R364, wrapping -/
def NVME_BKCNT1_HITS : Fld := ⟨0x300014, 0, 32, 0x0, .ro⟩
/-- NVME.BKCNT2.EARLY_EVICT (R379, RO): Bookmarks evicted within their window, saturating -/
def NVME_BKCNT2_EARLY_EVICT : Fld := ⟨0x300018, 0, 16, 0x0, .ro⟩
/-- NVME.BKCNT2.MISMATCH (R379, RO): Stamps found with different parameters, saturating -/
def NVME_BKCNT2_MISMATCH : Fld := ⟨0x300018, 16, 16, 0x0, .ro⟩
/-- NVME.RLOCK.USED (R379, RO): Entries in use, 0–256 -/
def NVME_RLOCK_USED : Fld := ⟨0x30001c, 0, 9, 0x0, .ro⟩
/-- NVME.RLOCK.PEAK (R379, RO): Largest USED since cleared -/
def NVME_RLOCK_PEAK : Fld := ⟨0x30001c, 9, 9, 0x0, .ro⟩
/-- NVME.RLOCK.FULL (R379, W1C): 1: fetching was stopped under R358 since cleared -/
def NVME_RLOCK_FULL : Fld := ⟨0x30001c, 18, 1, 0x0, .w1c⟩
/-- NVME.RLOCK.STRICT_NS (R379, RO): Namespaces with Strict Ordering, 0–4 -/
def NVME_RLOCK_STRICT_NS : Fld := ⟨0x30001c, 19, 3, 0x0, .ro⟩
/-- NVME.RLOCK.CLR (R379, WO): 1: sets PEAK to the current value of USED -/
def NVME_RLOCK_CLR : Fld := ⟨0x30001c, 31, 1, 0x0, .wo⟩
/-- CACHE.CFG.EN (R471, RWL): 1: lookups and fills; 0: every lookup misses and every fill is dropped -/
def CACHE_CFG_EN : Fld := ⟨0x400000, 0, 1, 0x1, .rwl⟩
/-- CACHE.CFG.FILL_EN (R471, RWL): 1: fills allocated under R452 -/
def CACHE_CFG_FILL_EN : Fld := ⟨0x400000, 1, 1, 0x1, .rwl⟩
/-- CACHE.CFG.OFFER_EN (R471, RWL): 1: evicted lines offered under R457 -/
def CACHE_CFG_OFFER_EN : Fld := ⟨0x400000, 2, 1, 0x1, .rwl⟩
/-- CACHE.CFG.OFFER_MAX (R471, RWL): Lines OFFERED at once, 1–63; 0 is taken as 1 -/
def CACHE_CFG_OFFER_MAX : Fld := ⟨0x400000, 8, 6, 0x20, .rwl⟩
/-- CACHE.CFG.OFFER_TMO (R471, RWL): R458, µs; 0 is taken as 1 -/
def CACHE_CFG_OFFER_TMO : Fld := ⟨0x400000, 16, 8, 0x32, .rwl⟩
/-- CACHE.STAT.PC_OFF (R471, RO): Bit i: pseudo-channel 8 + i out of use -/
def CACHE_STAT_PC_OFF : Fld := ⟨0x400004, 0, 8, 0x0, .ro⟩
/-- CACHE.STAT.SMALL (R471, RO): 0: 16,384 sets; 1: 8,192 sets -/
def CACHE_STAT_SMALL : Fld := ⟨0x400004, 8, 1, 0, .ro⟩
/-- CACHE.STAT.OFFERED (R471, RO): Lines now OFFERED -/
def CACHE_STAT_OFFERED : Fld := ⟨0x400004, 16, 7, 0x0, .ro⟩
/-- CACHE.WAYLOCK.LOCK (R471, RW): Bit w: way w locked; at most 8 bits (R460) -/
def CACHE_WAYLOCK_LOCK : Fld := ⟨0x400008, 0, 16, 0x0, .rw⟩
/-- CACHE.WAYLOCK.REFUSED (R471, W1C): 1: a write was refused under R460 -/
def CACHE_WAYLOCK_REFUSED : Fld := ⟨0x400008, 16, 1, 0x0, .w1c⟩
/-- CACHE.MAINT_CMD.OP (R471, RW): R462 -/
def CACHE_MAINT_CMD_OP : Fld := ⟨0x400010, 0, 2, 0x0, .rw⟩
/-- CACHE.MAINT_CMD.SCOPE (R471, RW): 0b00 range; 0b01 namespace; 0b10 whole cache; 0b11 refused -/
def CACHE_MAINT_CMD_SCOPE : Fld := ⟨0x400010, 2, 2, 0x0, .rw⟩
/-- CACHE.MAINT_CMD.TARGET_WAY (R471, RW): R461 -/
def CACHE_MAINT_CMD_TARGET_WAY : Fld := ⟨0x400010, 4, 4, 0x0, .rw⟩
/-- CACHE.MAINT_CMD.WAY_EN (R471, RW): 1: PREFETCH into TARGET_WAY -/
def CACHE_MAINT_CMD_WAY_EN : Fld := ⟨0x400010, 8, 1, 0x0, .rw⟩
/-- CACHE.MAINT_CMD.NSID (R471, RW): Namespace of the range -/
def CACHE_MAINT_CMD_NSID : Fld := ⟨0x400010, 9, 7, 0x0, .rw⟩
/-- CACHE.MAINT_CMD.GO (R471, WO): 1: start under R464 -/
def CACHE_MAINT_CMD_GO : Fld := ⟨0x400010, 31, 1, 0x0, .wo⟩
/-- CACHE.MAINT_RANGE.VALUE (R471, RW): Half of the first block, or the count; a count of 0 names no line -/
def CACHE_MAINT_RANGE_VALUE (h : Nat) : Fld := ⟨0x400014 + 0x4 * h, 0, 32, 0x0, .rw⟩
/-- CACHE.MAINT_STAT.BUSY (R471, RO): R464 -/
def CACHE_MAINT_STAT_BUSY : Fld := ⟨0x400020, 0, 1, 0x0, .ro⟩
/-- CACHE.MAINT_STAT.INTERNAL (R471, RO): 1: an operation of R465 runs or is queued -/
def CACHE_MAINT_STAT_INTERNAL : Fld := ⟨0x400020, 1, 1, 0x0, .ro⟩
/-- CACHE.MAINT_STAT.DONE (R471, W1C): 1: an operation started by GO has ended -/
def CACHE_MAINT_STAT_DONE : Fld := ⟨0x400020, 2, 1, 0x0, .w1c⟩
/-- CACHE.MAINT_STAT.REJ (R471, RO): Last refusal: 0b000 none; 0b001 busy or queued; 0b010 reserved OP or SCOPE; 0b011 PREFETCH with SCOPE 0b01 or 0b10; 0b100 no such namespace; 0b101 range beyond the namespace -/
def CACHE_MAINT_STAT_REJ : Fld := ⟨0x400020, 4, 3, 0x0, .ro⟩
/-- CACHE.MAINT_STAT.PERCENT (R471, RO): Progress of the running operation, 0–100 -/
def CACHE_MAINT_STAT_PERCENT : Fld := ⟨0x400020, 8, 8, 0x0, .ro⟩
/-- CACHE.MCNT.LOCK_INV (R471, RO): Locked lines invalidated (R466) -/
def CACHE_MCNT_LOCK_INV : Fld := ⟨0x400024, 0, 16, 0x0, .ro⟩
/-- CACHE.MCNT.PF_SKIP (R471, RO): Prefetch lines skipped (R463) -/
def CACHE_MCNT_PF_SKIP : Fld := ⟨0x400024, 16, 16, 0x0, .ro⟩
/-- CACHE.DROPCNT.NOT_EN (R471, RO): R452 -/
def CACHE_DROPCNT_NOT_EN : Fld := ⟨0x400028, 0, 8, 0x0, .ro⟩
/-- CACHE.DROPCNT.VOID (R471, RO): R453 -/
def CACHE_DROPCNT_VOID : Fld := ⟨0x400028, 8, 8, 0x0, .ro⟩
/-- CACHE.DROPCNT.RANGE (R471, RO): R467 -/
def CACHE_DROPCNT_RANGE : Fld := ⟨0x400028, 16, 8, 0x0, .ro⟩
/-- CACHE.DROPCNT.NO_VICTIM (R471, RO): R452 -/
def CACHE_DROPCNT_NO_VICTIM : Fld := ⟨0x400028, 24, 8, 0x0, .ro⟩
/-- CACHE.HITMISS.COUNT (R471, RO): Sectors found (HIT) or not found (MISS) under R450, wrapping -/
def CACHE_HITMISS_COUNT (h : Nat) : Fld := ⟨0x400030 + 0x4 * h, 0, 32, 0x0, .ro⟩
/-- CACHE.OFFERCNT.ACCEPTED (R471, RO): Lines the Flyleaf accepted -/
def CACHE_OFFERCNT_ACCEPTED : Fld := ⟨0x400038, 0, 16, 0x0, .ro⟩
/-- CACHE.OFFERCNT.DECLINED (R471, RO): Lines declined or withdrawn (R458, R459) -/
def CACHE_OFFERCNT_DECLINED : Fld := ⟨0x400038, 16, 16, 0x0, .ro⟩
/-- CACHE.TAGSEL.SET (R471, RW): Set s -/
def CACHE_TAGSEL_SET : Fld := ⟨0x400040, 0, 14, 0x0, .rw⟩
/-- CACHE.TAGSEL.WAY (R471, RW): Way w; a write latches the tag word into the data registers -/
def CACHE_TAGSEL_WAY : Fld := ⟨0x400040, 16, 4, 0x0, .rw⟩
/-- CACHE.TAG.TAG (R471, RO) -/
def CACHE_TAG_TAG (h : Nat) : Fld := ⟨0x400048 + 0x4 * h, 0, 32, 0x0, .ro⟩
/-- CACHE.FABCFG.STARVE_LIM (R471, RWL): R446, 10 ns per unit; 0 is taken as 1, above 0xC8 as 0xC8 -/
def CACHE_FABCFG_STARVE_LIM : Fld := ⟨0x408000, 0, 8, 0xc8, .rwl⟩
/-- CACHE.FABCFG.UE_LIMIT (R471, RWL): R445, uncorrectable errors per second -/
def CACHE_FABCFG_UE_LIMIT : Fld := ⟨0x408000, 8, 8, 0x10, .rwl⟩
/-- CACHE.FABCFG.PROMOTE_CNT (R471, RO): Last-tier promotions, saturating -/
def CACHE_FABCFG_PROMOTE_CNT : Fld := ⟨0x408000, 16, 16, 0x0, .ro⟩
/-- CACHE.DRAMSTAT.PC_OK (R471, RO): Bit i: pseudo-channel i trained and not faulty -/
def CACHE_DRAMSTAT_PC_OK : Fld := ⟨0x408004, 0, 16, 0x0, .ro⟩
/-- CACHE.DRAMSTAT.TRAINED (R471, RO): 1: training at start-up has ended -/
def CACHE_DRAMSTAT_TRAINED : Fld := ⟨0x408004, 16, 1, 0x0, .ro⟩
/-- CACHE.DRAMERR.CE_CNT (R471, RO): Corrected errors (R444) -/
def CACHE_DRAMERR_CE_CNT (i : Nat) : Fld := ⟨0x408008 + 0x4 * i, 0, 16, 0x0, .ro⟩
/-- CACHE.DRAMERR.UE_CNT (R471, RO): Uncorrectable errors -/
def CACHE_DRAMERR_UE_CNT (i : Nat) : Fld := ⟨0x408008 + 0x4 * i, 16, 8, 0x0, .ro⟩
/-- REAM.POOLCFG.COUNT (R506, RWL): Buffers in the pool -/
def REAM_POOLCFG_COUNT (i : Nat) : Fld := ⟨0x500000 + 0x20 * i, 0, 24, 0x0, .rwl⟩
/-- REAM.POOLCFG.SIZE (R506, RWL): 0b00 4 KiB; 0b01 64 KiB; 0b10 1 MiB; 0b11 refused at EN -/
def REAM_POOLCFG_SIZE (i : Nat) : Fld := ⟨0x500000 + 0x20 * i, 24, 2, 0x0, .rwl⟩
/-- REAM.POOLCFG.WB (R506, RWL): 1: write-buffer pool (R400) -/
def REAM_POOLCFG_WB (i : Nat) : Fld := ⟨0x500000 + 0x20 * i, 26, 1, 0x0, .rwl⟩
/-- REAM.POOLCFG.EN (R506, RWL): 1: pool in use; the ring is built at the write of 1 -/
def REAM_POOLCFG_EN (i : Nat) : Fld := ⟨0x500000 + 0x20 * i, 31, 1, 0x0, .rwl⟩
/-- REAM.POOLBASE.BASE (R506, RWL): DRAM offset ÷ 4,096 -/
def REAM_POOLBASE_BASE (i : Nat) : Fld := ⟨0x500004 + 0x20 * i, 0, 24, 0x0, .rwl⟩
/-- REAM.POOLTHR.WARN (R506, RWL): R483 -/
def REAM_POOLTHR_WARN (i : Nat) : Fld := ⟨0x500008 + 0x20 * i, 0, 8, 0x20, .rwl⟩
/-- REAM.POOLTHR.THROTTLE (R506, RWL): R482; above WARN is taken as WARN -/
def REAM_POOLTHR_THROTTLE (i : Nat) : Fld := ⟨0x500008 + 0x20 * i, 8, 8, 0x10, .rwl⟩
/-- REAM.POOLTHR.STOP (R506, RWL): R482; above THROTTLE is taken as THROTTLE -/
def REAM_POOLTHR_STOP (i : Nat) : Fld := ⟨0x500008 + 0x20 * i, 16, 8, 0x4, .rwl⟩
/-- REAM.POOLSTAT.FREE (R506, RO): F of R481 -/
def REAM_POOLSTAT_FREE (i : Nat) : Fld := ⟨0x50000c + 0x20 * i, 0, 24, 0x0, .ro⟩
/-- REAM.POOLSTAT.WARN (R506, RO): F ≤ WARN -/
def REAM_POOLSTAT_WARN (i : Nat) : Fld := ⟨0x50000c + 0x20 * i, 24, 1, 0x0, .ro⟩
/-- REAM.POOLSTAT.THROTTLED (R506, RO): F ≤ THROTTLE -/
def REAM_POOLSTAT_THROTTLED (i : Nat) : Fld := ⟨0x50000c + 0x20 * i, 25, 1, 0x0, .ro⟩
/-- REAM.POOLSTAT.STOPPED (R506, RO): F ≤ STOP -/
def REAM_POOLSTAT_STOPPED (i : Nat) : Fld := ⟨0x50000c + 0x20 * i, 26, 1, 0x0, .ro⟩
/-- REAM.POOLSTAT.AUDIT (R506, RO): R481 -/
def REAM_POOLSTAT_AUDIT (i : Nat) : Fld := ⟨0x50000c + 0x20 * i, 27, 1, 0x0, .ro⟩
/-- REAM.POOLSTAT.WAITING (R506, RO): Wait entries in use, saturating at 15 -/
def REAM_POOLSTAT_WAITING (i : Nat) : Fld := ⟨0x50000c + 0x20 * i, 28, 4, 0x0, .ro⟩
/-- REAM.CFG.THR_GAP (R506, RWL): R482, 100 ns per unit; 0 is taken as 1 -/
def REAM_CFG_THR_GAP : Fld := ⟨0x500400, 0, 8, 0xa, .rwl⟩
/-- REAM.VIOL.OP (R506, RO): 0b000 ALLOC, 0b001 SHARE, 0b010 RELEASE, 0b011 FREE, 0b100 GIVE -/
def REAM_VIOL_OP : Fld := ⟨0x500404, 0, 3, 0x0, .ro⟩
/-- REAM.VIOL.REQ (R506, RO): Identity of R478 -/
def REAM_VIOL_REQ : Fld := ⟨0x500404, 3, 4, 0x0, .ro⟩
/-- REAM.VIOL.COUNT (R506, RO): Violations, saturating -/
def REAM_VIOL_COUNT : Fld := ⟨0x500404, 8, 16, 0x0, .ro⟩
/-- REAM.VIOL.VALID (R506, W1C): 1: OP, REQ and VIOLH valid; writing 1 clears them and COUNT -/
def REAM_VIOL_VALID : Fld := ⟨0x500404, 31, 1, 0x0, .w1c⟩
/-- REAM.VIOLH.HANDLE (R506, RO) -/
def REAM_VIOLH_HANDLE : Fld := ⟨0x500408, 0, 32, 0x0, .ro⟩
/-- REAM.USE.POOL (R506, RWL): Pool of use u -/
def REAM_USE_POOL (u : Nat) : Fld := ⟨0x500420 + 0x4 * u, 0, 4, 0x0, .rwl⟩
/-- REAM.USE.NONE (R506, RWL): 1: use u has no pool; allowed for use 8 only (R475) -/
def REAM_USE_NONE (u : Nat) : Fld := ⟨0x500420 + 0x4 * u, 8, 1, 0x0, .rwl⟩
/-- DMA.RING.RING (R506, RWL) -/
def DMA_RING_RING (c h : Nat) : Fld := ⟨0x600000 + 0x100 * c + 0x4 * h, 0, 32, 0x0, .rwl⟩
/-- DMA.CTL.TAIL (R506, RW): Index one past the last descriptor made ready, modulo the ring size -/
def DMA_CTL_TAIL (c : Nat) : Fld := ⟨0x600008 + 0x100 * c, 0, 16, 0x0, .rw⟩
/-- DMA.CTL.SIZE (R506, RWL): Ring of 2^(SIZE + 4) descriptors, 16 to 65,536; values above 0xC are taken as 0xC -/
def DMA_CTL_SIZE (c : Nat) : Fld := ⟨0x600008 + 0x100 * c, 16, 4, 0x0, .rwl⟩
/-- DMA.CTL.EN (R506, RWL): 1: DMA channel runs -/
def DMA_CTL_EN (c : Nat) : Fld := ⟨0x600008 + 0x100 * c, 20, 1, 0x0, .rwl⟩
/-- DMA.CTL.ABORT (R506, WO): 1: aborts the running descriptor under R495 -/
def DMA_CTL_ABORT (c : Nat) : Fld := ⟨0x600008 + 0x100 * c, 21, 1, 0x0, .wo⟩
/-- DMA.CTL.CLR_HALT (R506, WO): 1: clears HALTED; execution resumes at HEAD -/
def DMA_CTL_CLR_HALT (c : Nat) : Fld := ⟨0x600008 + 0x100 * c, 22, 1, 0x0, .wo⟩
/-- DMA.STAT.HEAD (R506, RO): Index of the next descriptor to execute -/
def DMA_STAT_HEAD (c : Nat) : Fld := ⟨0x60000c + 0x100 * c, 0, 16, 0x0, .ro⟩
/-- DMA.STAT.LAST (R506, RO): STATUS code of the last completed descriptor -/
def DMA_STAT_LAST (c : Nat) : Fld := ⟨0x60000c + 0x100 * c, 16, 8, 0x0, .ro⟩
/-- DMA.STAT.BUSY (R506, RO): 1: a descriptor is running -/
def DMA_STAT_BUSY (c : Nat) : Fld := ⟨0x60000c + 0x100 * c, 24, 1, 0x0, .ro⟩
/-- DMA.STAT.HALTED (R506, RO): R494 -/
def DMA_STAT_HALTED (c : Nat) : Fld := ⟨0x60000c + 0x100 * c, 25, 1, 0x0, .ro⟩
/-- GATH.LAYOUT.CHAN_MASK (R442, RWL): R419; writes only while uncommitted (R421) -/
def GATH_LAYOUT_CHAN_MASK (l : Nat) : Fld := ⟨0x700000 + 0x10 * l, 0, 8, 0x0, .rwl⟩
/-- GATH.LAYOUT.K (R442, RWL): 4–6 -/
def GATH_LAYOUT_K (l : Nat) : Fld := ⟨0x700000 + 0x10 * l, 8, 3, 0x0, .rwl⟩
/-- GATH.LAYOUT.M (R442, RWL): 1 or 2 -/
def GATH_LAYOUT_M (l : Nat) : Fld := ⟨0x700000 + 0x10 * l, 11, 2, 0x0, .rwl⟩
/-- GATH.LAYOUT.SPARE (R442, RWL): Spare tracks per zone for rebuild -/
def GATH_LAYOUT_SPARE (l : Nat) : Fld := ⟨0x700000 + 0x10 * l, 16, 8, 0x0, .rwl⟩
/-- GATH.EXTENT.EXTENT (R442, RWL): Strips per channel; set by the feature commit under R420 -/
def GATH_EXTENT_EXTENT (l : Nat) : Fld := ⟨0x700004 + 0x10 * l, 0, 32, 0x0, .rwl⟩
/-- GATH.LSTAT.UNAVAIL (R442, RO): Bit n: channel n UNAVAILABLE -/
def GATH_LSTAT_UNAVAIL (l : Nat) : Fld := ⟨0x700008 + 0x10 * l, 0, 8, 0x0, .ro⟩
/-- GATH.LSTAT.LOST (R442, RO): Bit n: channel n LOST -/
def GATH_LSTAT_LOST (l : Nat) : Fld := ⟨0x700008 + 0x10 * l, 8, 8, 0x0, .ro⟩
/-- GATH.LSTAT.STATE (R442, RO): R440 -/
def GATH_LSTAT_STATE (l : Nat) : Fld := ⟨0x700008 + 0x10 * l, 16, 3, 0x0, .ro⟩
/-- GATH.LAYOUT_COMMIT.LAYOUT (R442, WO): Slot to commit -/
def GATH_LAYOUT_COMMIT_LAYOUT : Fld := ⟨0x700040, 0, 2, 0x0, .wo⟩
/-- GATH.LAYOUT_COMMIT.COMMIT (R442, WO): 1: check and commit under R420, or uncommit under R421 -/
def GATH_LAYOUT_COMMIT_COMMIT : Fld := ⟨0x700040, 2, 1, 0x0, .wo⟩
/-- GATH.LAYOUT_COMMIT.REASON (R442, RO): Reason code of the last refused commit -/
def GATH_LAYOUT_COMMIT_REASON : Fld := ⟨0x700040, 24, 8, 0x0, .ro⟩
/-- GATH.CFG.LOSS_T (R442, RWL): R430, 10 s per unit; 0x1E is 300 s; 0 is taken as 1 -/
def GATH_CFG_LOSS_T : Fld := ⟨0x700044, 0, 8, 0x1e, .rwl⟩
/-- GATH.CFG.PACE (R442, RWL): R438, 32 MB/s per unit; 0x50 is 2,560 MB/s; 0 is taken as 1 -/
def GATH_CFG_PACE : Fld := ⟨0x700044, 8, 8, 0x50, .rwl⟩
/-- GATH.CFG.IDLE_BOOST (R442, RWL): R438 -/
def GATH_CFG_IDLE_BOOST : Fld := ⟨0x700044, 16, 1, 0x1, .rwl⟩
/-- GATH.REBUILD.LAYOUT (R442, RO): Layout being rebuilt or resynced -/
def GATH_REBUILD_LAYOUT : Fld := ⟨0x700048, 0, 2, 0x0, .ro⟩
/-- GATH.REBUILD.ACTIVE (R442, RO): 1: a rebuild or resync runs -/
def GATH_REBUILD_ACTIVE : Fld := ⟨0x700048, 2, 1, 0x0, .ro⟩
/-- GATH.REBUILD.RESYNC (R442, RO): 1: it is a resync under R432 -/
def GATH_REBUILD_RESYNC : Fld := ⟨0x700048, 3, 1, 0x0, .ro⟩
/-- GATH.REBUILD.PERCENT (R442, RO): Progress, 0–100 -/
def GATH_REBUILD_PERCENT : Fld := ⟨0x700048, 4, 7, 0x0, .ro⟩
/-- GATH.CNT.RECON_CNT (R442, RO): Sectors reconstructed under R433 -/
def GATH_CNT_RECON_CNT : Fld := ⟨0x70004c, 0, 16, 0x0, .ro⟩
/-- GATH.CNT.UNREC (R442, RO): Ranges unrecoverable under R435 and R439 -/
def GATH_CNT_UNREC : Fld := ⟨0x70004c, 16, 16, 0x0, .ro⟩
/-- FLY.ENABLE.EN (R417, RW): 1: start after the consistency check of R37; 0: refused while live entries exist (R408), EN then staying 1 -/
def FLY_ENABLE_EN : Fld := ⟨0x800000, 0, 1, 0x0, .rw⟩
/-- FLY.ENABLE.REASON (R417, RO): Reason code of the last refused enable, or 0x25 for a refused disable (R569) -/
def FLY_ENABLE_REASON : Fld := ⟨0x800000, 24, 8, 0x0, .ro⟩
/-- FLY.CFG.SIZE_GIB (R417, RWL): Journal size, 64–512 GiB; writes only while EN is 0 -/
def FLY_CFG_SIZE_GIB : Fld := ⟨0x800004, 0, 10, 0x100, .rwl⟩
/-- FLY.CFG.PACK_US (R417, RWL): R394, R401, µs -/
def FLY_CFG_PACK_US : Fld := ⟨0x800004, 10, 4, 0x2, .rwl⟩
/-- FLY.CFG.VFY_THR (R417, RWL): R397, corrected bits per frame -/
def FLY_CFG_VFY_THR : Fld := ⟨0x800004, 14, 6, 0x8, .rwl⟩
/-- FLY.CFG.WARM_EN (R417, RWL): R414 -/
def FLY_CFG_WARM_EN : Fld := ⟨0x800004, 20, 1, 0x1, .rwl⟩
/-- FLY.CFG.WARM_LOAD (R417, RWL): R414, percent -/
def FLY_CFG_WARM_LOAD : Fld := ⟨0x800004, 21, 7, 0x32, .rwl⟩
/-- FLY.CFG.SPARE_WARN (R417, RWL): R407, 5 % per unit -/
def FLY_CFG_SPARE_WARN : Fld := ⟨0x800004, 28, 4, 0x2, .rwl⟩
/-- FLY.GEOM.PAGES (R417, RO): Pages per block, 64–4,096 -/
def FLY_GEOM_PAGES : Fld := ⟨0x800008, 0, 13, 0x0, .ro⟩
/-- FLY.GEOM.PLANES (R417, RO): 0b00 one, 0b01 two, 0b10 four -/
def FLY_GEOM_PLANES : Fld := ⟨0x800008, 13, 2, 0x0, .ro⟩
/-- FLY.GEOM.SYS_BLOCKS (R417, RO): R383 -/
def FLY_GEOM_SYS_BLOCKS : Fld := ⟨0x800008, 16, 8, 0x0, .ro⟩
/-- FLY.GEOM.DIES (R417, RO): Dies populated, 2–16 -/
def FLY_GEOM_DIES : Fld := ⟨0x800008, 24, 5, 0x0, .ro⟩
/-- FLY.WM.HIGH (R417, RWL): R403 -/
def FLY_WM_HIGH : Fld := ⟨0x80000c, 0, 8, 0x20, .rwl⟩
/-- FLY.WM.LOW (R417, RWL): R403; above HIGH is taken as HIGH -/
def FLY_WM_LOW : Fld := ⟨0x80000c, 8, 8, 0x10, .rwl⟩
/-- FLY.WM.STOP (R417, RWL): R403; above LOW is taken as LOW -/
def FLY_WM_STOP : Fld := ⟨0x80000c, 16, 8, 0x4, .rwl⟩
/-- FLY.WM.IDLE_MS (R417, RWL): R403, ms; 0 is taken as 1 -/
def FLY_WM_IDLE_MS : Fld := ⟨0x80000c, 24, 8, 0xa, .rwl⟩
/-- FLY.STAT.STATE (R417, RO): 0b000 disabled; 0b001 starting; 0b010 writable; 0b011 read-only; 0b100 read-only and drained; others reserved -/
def FLY_STAT_STATE : Fld := ⟨0x800010, 0, 3, 0x0, .ro⟩
/-- FLY.STAT.START_KIND (R417, RO): 0b00 FULL checkpoint; 0b01 SHORT checkpoint; 0b10 full scan; 0b11 first use -/
def FLY_STAT_START_KIND : Fld := ⟨0x800010, 3, 2, 0x0, .ro⟩
/-- FLY.STAT.FG_GC (R417, RO): 1: foreground collection running -/
def FLY_STAT_FG_GC : Fld := ⟨0x800010, 5, 1, 0x0, .ro⟩
/-- FLY.STAT.HOLD (R417, RO): 1: host entries held (FREE < STOP) -/
def FLY_STAT_HOLD : Fld := ⟨0x800010, 6, 1, 0x0, .ro⟩
/-- FLY.STAT.FREE (R417, RO): R403, saturating -/
def FLY_STAT_FREE : Fld := ⟨0x800010, 8, 12, 0x0, .ro⟩
/-- FLY.STAT.SPARE (R417, RO): R407, saturating; 0 when below zero -/
def FLY_STAT_SPARE : Fld := ⟨0x800010, 20, 12, 0x0, .ro⟩
/-- FLY.SEQ.SEQ (R417, RO): Half of the next sequence number; read the high half first, then the low half, which is latched when the high half is read -/
def FLY_SEQ_SEQ (h : Nat) : Fld := ⟨0x800018 + 0x4 * h, 0, 32, 0x0, .ro⟩
/-- FLY.DIE.IN_SERVICE (R417, RO): Bit d: die d in service -/
def FLY_DIE_IN_SERVICE : Fld := ⟨0x800020, 0, 16, 0x0, .ro⟩
/-- FLY.DIE.DIE_FAIL_BLK (R417, RWL): R406 -/
def FLY_DIE_DIE_FAIL_BLK : Fld := ⟨0x800020, 16, 8, 0x10, .rwl⟩
/-- FLY.ERRCNT.PROG_FAIL (R417, RO): R396 -/
def FLY_ERRCNT_PROG_FAIL : Fld := ⟨0x800024, 0, 8, 0x0, .ro⟩
/-- FLY.ERRCNT.ERASE_FAIL (R417, RO): R406 -/
def FLY_ERRCNT_ERASE_FAIL : Fld := ⟨0x800024, 8, 8, 0x0, .ro⟩
/-- FLY.ERRCNT.VFY_FAIL (R417, RO): R397 -/
def FLY_ERRCNT_VFY_FAIL : Fld := ⟨0x800024, 16, 8, 0x0, .ro⟩
/-- FLY.ERRCNT.COPY_RESTART (R417, RO): R405 -/
def FLY_ERRCNT_COPY_RESTART : Fld := ⟨0x800024, 24, 8, 0x0, .ro⟩
/-- KET.ENABLE.EN (R311, RW): 1: starts the link after the consistency check of R37 -/
def KET_ENABLE_EN : Fld := ⟨0x900000, 0, 1, 0x0, .rw⟩
/-- KET.ENABLE.REASON (R311, RO): Reason code of the last refused enable -/
def KET_ENABLE_REASON : Fld := ⟨0x900000, 24, 8, 0x0, .ro⟩
/-- KET.CFG.ROLE (R311, RWL): R302 -/
def KET_CFG_ROLE : Fld := ⟨0x900004, 0, 2, 0x0, .rwl⟩
/-- KET.CFG.NODE_IDX (R311, RWL): Start index, R309 -/
def KET_CFG_NODE_IDX : Fld := ⟨0x900004, 2, 10, 0x0, .rwl⟩
/-- KET.CFG.GROUP (R311, RWL): 0: from TAIL frames; 1–1,024: fixed G; above 1,024 taken as 1,024 -/
def KET_CFG_GROUP : Fld := ⟨0x900004, 12, 11, 0x0, .rwl⟩
/-- KET.PHCFG.U1_LIM (R311, RWL): Saturation of u1, 1/1,024 revolution -/
def KET_PHCFG_U1_LIM : Fld := ⟨0x900008, 0, 8, 0x10, .rwl⟩
/-- KET.PHCFG.PH_EN (R311, RWL): 1: phase control under R304 -/
def KET_PHCFG_PH_EN : Fld := ⟨0x900008, 8, 1, 0x1, .rwl⟩
/-- KET.PHCFG.REF_RPM (R311, RWL): Reference speed override for a head, rpm; 0: R303 -/
def KET_PHCFG_REF_RPM : Fld := ⟨0x900008, 10, 14, 0x0, .rwl⟩
/-- KET.PHCFG.HOLD_T (R311, RWL): Holdover before segment head, 100 ms per unit; 0 taken as 1 -/
def KET_PHCFG_HOLD_T : Fld := ⟨0x900008, 24, 8, 0xa, .rwl⟩
/-- KET.STAT.IN_LOCK (R311, RO): KET_IN locked -/
def KET_STAT_IN_LOCK : Fld := ⟨0x90000c, 0, 1, 0x0, .ro⟩
/-- KET.STAT.SYNC_LOCK (R311, RO): KET_SYNC_IN locked; 0 marks the tail -/
def KET_STAT_SYNC_LOCK : Fld := ⟨0x90000c, 1, 1, 0x0, .ro⟩
/-- KET.STAT.HEAD (R311, RO): Node is head under R302 -/
def KET_STAT_HEAD : Fld := ⟨0x90000c, 2, 1, 0x0, .ro⟩
/-- KET.STAT.SEGMENT_HEAD (R311, RO): R307 -/
def KET_STAT_SEGMENT_HEAD : Fld := ⟨0x90000c, 3, 1, 0x0, .ro⟩
/-- KET.STAT.HOLDOVER (R311, RO): R307 -/
def KET_STAT_HOLDOVER : Fld := ⟨0x90000c, 4, 1, 0x0, .ro⟩
/-- KET.STAT.EPOCH_VALID (R311, RO): R309 -/
def KET_STAT_EPOCH_VALID : Fld := ⟨0x90000c, 5, 1, 0x0, .ro⟩
/-- KET.STAT.RPM_MISMATCH (R311, RO): R305 -/
def KET_STAT_RPM_MISMATCH : Fld := ⟨0x90000c, 6, 1, 0x0, .ro⟩
/-- KET.STAT.OVERLENGTH (R311, RO): R300 -/
def KET_STAT_OVERLENGTH : Fld := ⟨0x90000c, 7, 1, 0x0, .ro⟩
/-- KET.STAT.INDEX (R311, RO): I in use -/
def KET_STAT_INDEX : Fld := ⟨0x90000c, 8, 10, 0x0, .ro⟩
/-- KET.STAT.G (R311, RO): G in use, 1–1,024 -/
def KET_STAT_G : Fld := ⟨0x90000c, 18, 11, 0x1, .ro⟩
/-- KET.DELAY.CABLE (R311, RO): c_i of R298, 0.625 ns per step, saturating at 0x1F -/
def KET_DELAY_CABLE : Fld := ⟨0x900010, 0, 5, 0x0, .ro⟩
/-- KET.DELAY.VALID (R311, RO): 1: c_i measured -/
def KET_DELAY_VALID : Fld := ⟨0x900010, 5, 1, 0x0, .ro⟩
/-- KET.DELAY.ACC_IN (R311, RO): ACC of the last good EPOCH frame -/
def KET_DELAY_ACC_IN : Fld := ⟨0x900010, 8, 24, 0x0, .ro⟩
/-- KET.EPOCH.E (R311, RO): Current epoch number -/
def KET_EPOCH_E : Fld := ⟨0x900014, 0, 16, 0x0, .ro⟩
/-- KET.EPOCH.MISS_CNT (R311, RO): Epochs run under holdover, saturating -/
def KET_EPOCH_MISS_CNT : Fld := ⟨0x900014, 16, 16, 0x0, .ro⟩
/-- KET.VIBCFG.EN (R311, RWL): 1: sensor read under R306 -/
def KET_VIBCFG_EN : Fld := ⟨0x900018, 0, 1, 0x0, .rwl⟩
/-- KET.VIBCFG.BCAST_EN (R311, RWL): 1: own sample broadcast -/
def KET_VIBCFG_BCAST_EN : Fld := ⟨0x900018, 1, 1, 0x1, .rwl⟩
/-- KET.VIBCFG.MODE (R311, RWL): SPI clock polarity and phase, modes 0–3 -/
def KET_VIBCFG_MODE : Fld := ⟨0x900018, 2, 2, 0x0, .rwl⟩
/-- KET.VIBCFG.DIV (R311, RWL): VIB_SCK = 200 MHz ÷ (2 × (DIV + 1)); 0x9 is 10 MHz -/
def KET_VIBCFG_DIV : Fld := ⟨0x900018, 4, 4, 0x9, .rwl⟩
/-- KET.VIBCFG.READ_CMD (R311, RWL): Command byte sent before each read -/
def KET_VIBCFG_READ_CMD : Fld := ⟨0x900018, 8, 8, 0x0, .rwl⟩
/-- KET.VIBSTAT.SAMPLE (R311, RO): Last own sample -/
def KET_VIBSTAT_SAMPLE : Fld := ⟨0x90001c, 0, 16, 0x0, .ro⟩
/-- KET.VIBSTAT.RX_CNT (R311, RO): VIB frames used, wrapping -/
def KET_VIBSTAT_RX_CNT : Fld := ⟨0x90001c, 16, 16, 0x0, .ro⟩
/-- KET.ERR.CRC_CNT (R311, RO): Frames discarded under R295 -/
def KET_ERR_CRC_CNT : Fld := ⟨0x900020, 0, 16, 0x0, .ro⟩
/-- KET.ERR.PREEMPT_CNT (R311, RO): Frames abandoned under R297 -/
def KET_ERR_PREEMPT_CNT : Fld := ⟨0x900020, 16, 8, 0x0, .ro⟩
/-- KET.ERR.U1_SAT (R311, RO): Saturations under R304 -/
def KET_ERR_U1_SAT : Fld := ⟨0x900020, 24, 8, 0x0, .ro⟩
/-- MEMPROT.CE.COUNT (R506, RO): Correctable errors, saturating -/
def MEMPROT_CE_COUNT : Fld := ⟨0xa00000, 0, 31, 0x0, .ro⟩
/-- MEMPROT.CE.LOG_OVF (R506, W1C): 1: errors beyond eight since cleared; writing 1 also empties the log -/
def MEMPROT_CE_LOG_OVF : Fld := ⟨0xa00000, 31, 1, 0x0, .w1c⟩
/-- MEMPROT.UE.LAST_MACRO (R506, RO): Macro of the last uncorrectable error -/
def MEMPROT_UE_LAST_MACRO : Fld := ⟨0xa00004, 0, 12, 0x0, .ro⟩
/-- MEMPROT.UE.COUNT (R506, RO): R503, saturating -/
def MEMPROT_UE_COUNT : Fld := ⟨0xa00004, 12, 10, 0x0, .ro⟩
/-- MEMPROT.UE.BUSERR_CNT (R506, RO): R501, saturating -/
def MEMPROT_UE_BUSERR_CNT : Fld := ⟨0xa00004, 22, 10, 0x0, .ro⟩
/-- MEMPROT.FLIPCTL.MACRO (R506, RWL): Target macro -/
def MEMPROT_FLIPCTL_MACRO : Fld := ⟨0xa00010, 0, 12, 0x0, .rwl⟩
/-- MEMPROT.FLIPCTL.ARM (R506, RWL): 1: flip the next write -/
def MEMPROT_FLIPCTL_ARM : Fld := ⟨0xa00010, 16, 1, 0x0, .rwl⟩
/-- MEMPROT.FLIPCTL.FIRED (R506, W1C): 1: a flip was applied -/
def MEMPROT_FLIPCTL_FIRED : Fld := ⟨0xa00010, 17, 1, 0x0, .w1c⟩
/-- MEMPROT.FLIPMASK.MASK (R506, RWL) -/
def MEMPROT_FLIPMASK_MASK (h : Nat) : Fld := ⟨0xa00014 + 0x4 * h, 0, 32, 0x0, .rwl⟩
/-- MEMPROT.REMAP.SEL (R506, RW): Macro selected -/
def MEMPROT_REMAP_SEL : Fld := ⟨0xa00020, 0, 12, 0x0, .rw⟩
/-- MEMPROT.REMAP.USED (R506, RO): Remap entries in use, 0–4 -/
def MEMPROT_REMAP_USED : Fld := ⟨0xa00020, 12, 3, 0x0, .ro⟩
/-- MEMPROT.REMAP.BIST_FAIL (R506, RO): 1: repair failed under R504 -/
def MEMPROT_REMAP_BIST_FAIL : Fld := ⟨0xa00020, 15, 1, 0x0, .ro⟩
/-- MEMPROT.LOG.MACRO (R506, RO): R500 -/
def MEMPROT_LOG_MACRO (e : Nat) : Fld := ⟨0xa00100 + 0x8 * e, 0, 12, 0x0, .ro⟩
/-- MEMPROT.LOG.SYNDROME (R506, RO): Check-bit syndrome -/
def MEMPROT_LOG_SYNDROME (e : Nat) : Fld := ⟨0xa00100 + 0x8 * e, 12, 8, 0x0, .ro⟩
/-- MEMPROT.LOG.VALID (R506, RO): 1: entry holds an error -/
def MEMPROT_LOG_VALID (e : Nat) : Fld := ⟨0xa00100 + 0x8 * e, 31, 1, 0x0, .ro⟩
/-- MEMPROT.LOGA.WORD (R506, RO) -/
def MEMPROT_LOGA_WORD (e : Nat) : Fld := ⟨0xa00104 + 0x8 * e, 0, 32, 0x0, .ro⟩
/-- AFE.INCFG.RD_EN (R114, RW): Bit r set: reader r is sampled -/
def AFE_INCFG_RD_EN (n p : Nat) : Fld := ⟨chBase n + 0x0 + 0x1000 * p, 0, 3, 0x7, .rw⟩
/-- AFE.INCFG.TERM_EN (R114, RW): 1: 100 Ω differential termination on -/
def AFE_INCFG_TERM_EN (n p : Nat) : Fld := ⟨chBase n + 0x0 + 0x1000 * p, 3, 1, 0x1, .rw⟩
/-- AFE.INCFG.CTLE_BOOST (R114, RWS): Continuous-time equalizer boost in dB; takes effect at the next preamble; loaded from the zone defaults at each zone change -/
def AFE_INCFG_CTLE_BOOST (n p : Nat) : Fld := ⟨chBase n + 0x0 + 0x1000 * p, 4, 4, 0x0, .rws⟩
/-- AFE.INCFG.ADC_FS (R114, RW): ADC full-scale trim; 0x80 is nominal, one step is 0.5 % -/
def AFE_INCFG_ADC_FS (n p : Nat) : Fld := ⟨chBase n + 0x0 + 0x1000 * p, 8, 8, 0x80, .rw⟩
/-- AFE.WRCFG.PC1 (R614, RWS): R123; takes effect at the next preamble; loaded at each zone change -/
def AFE_WRCFG_PC1 (n p : Nat) : Fld := ⟨chBase n + 0x20 + 0x1000 * p, 0, 5, 0x0, .rws⟩
/-- AFE.WRCFG.PC2 (R614, RWS): As PC1 -/
def AFE_WRCFG_PC2 (n p : Nat) : Fld := ⟨chBase n + 0x20 + 0x1000 * p, 5, 5, 0x0, .rws⟩
/-- AFE.WRCFG.WD_SWING (R614, RW): CML differential swing, 50 mV per step above 200 mV -/
def AFE_WRCFG_WD_SWING (n p : Nat) : Fld := ⟨chBase n + 0x20 + 0x1000 * p, 10, 4, 0x8, .rw⟩
/-- AFE.WRSTAT.LAST (R614, RO): Result word of R139 for the last sector -/
def AFE_WRSTAT_LAST (n p : Nat) : Fld := ⟨chBase n + 0x24 + 0x1000 * p, 0, 16, 0x0, .ro⟩
/-- AFE.WRSTAT.TORN_CNT (R614, RO): Torn sectors, saturating at 0xFFFF -/
def AFE_WRSTAT_TORN_CNT (n p : Nat) : Fld := ⟨chBase n + 0x24 + 0x1000 * p, 16, 16, 0x0, .ro⟩
/-- AFE.WRGATE.OFFTRK_THR (R614, RWL): Off-track inhibit, 1/256 track pitch -/
def AFE_WRGATE_OFFTRK_THR (n : Nat) : Fld := ⟨chBase n + 0x8000, 0, 8, 0x1f, .rwl⟩
/-- AFE.WRGATE.SQUEEZE_THR (R614, RWL): Adjacent-track check threshold of R134, 1/256 track pitch -/
def AFE_WRGATE_SQUEEZE_THR (n : Nat) : Fld := ⟨chBase n + 0x8000, 8, 8, 0x40, .rwl⟩
/-- AFE.WRGATE.WR_RETRY (R614, RWL): Retries per sector, 1–15; 0 is taken as 1 -/
def AFE_WRGATE_WR_RETRY (n : Nat) : Fld := ⟨chBase n + 0x8000, 16, 4, 0x4, .rwl⟩
/-- AFE.WRGATE.VFY_MODE (R614, RWL): R138 -/
def AFE_WRGATE_VFY_MODE (n : Nat) : Fld := ⟨chBase n + 0x8000, 20, 2, 0x0, .rwl⟩
/-- AFE.WRGATE.SHOCK_EN (R614, RWL): 1: the shock comparator parks gates -/
def AFE_WRGATE_SHOCK_EN (n : Nat) : Fld := ⟨chBase n + 0x8000, 22, 1, 0x1, .rwl⟩
/-- AFE.WRGATE.VFY_ITER (R614, RWL): Verify iteration budget, bounded as R137 states: 0 taken as 1, above 64 as 64, above ITER_MAX as ITER_MAX -/
def AFE_WRGATE_VFY_ITER (n : Nat) : Fld := ⟨chBase n + 0x8000, 24, 7, 0xc, .rwl⟩
/-- AFE.WRFLT.PFLT (R140, W1C): 1: CHn_PFLT_N asserted since last cleared -/
def AFE_WRFLT_PFLT (n : Nat) : Fld := ⟨chBase n + 0x8004, 0, 1, 0x0, .w1c⟩
/-- AFE.WRFLT.HEAD (R140, RO): Head of the first recorded fault -/
def AFE_WRFLT_HEAD (n : Nat) : Fld := ⟨chBase n + 0x8004, 1, 5, 0x0, .ro⟩
/-- AFE.WRFLT.PA_STAT (R140, RO): Preamplifier fault status as read -/
def AFE_WRFLT_PA_STAT (n : Nat) : Fld := ⟨chBase n + 0x8004, 8, 16, 0x0, .ro⟩
/-- AFE.WRFLT.OFFTRK_CNT (R140, RO): Off-track parks, saturating -/
def AFE_WRFLT_OFFTRK_CNT (n : Nat) : Fld := ⟨chBase n + 0x8004, 24, 8, 0x0, .ro⟩
/-- AFE.WRINH.INH (R140, RO): Bit h set: head h write-inhibited under R132 or R136 -/
def AFE_WRINH_INH (n : Nat) : Fld := ⟨chBase n + 0x8008, 0, 20, 0x0, .ro⟩
/-- DET.AGC.GAIN0 (R114, RO): Reader 0 gain, 0.125 dB per step -/
def DET_AGC_GAIN0 (n p : Nat) : Fld := ⟨chBase n + 0x80000 + 0x1000 * p, 0, 8, 0x0, .ro⟩
/-- DET.AGC.GAIN1 (R114, RO): Reader 1 gain -/
def DET_AGC_GAIN1 (n p : Nat) : Fld := ⟨chBase n + 0x80000 + 0x1000 * p, 8, 8, 0x0, .ro⟩
/-- DET.AGC.GAIN2 (R114, RO): Reader 2 gain -/
def DET_AGC_GAIN2 (n p : Nat) : Fld := ⟨chBase n + 0x80000 + 0x1000 * p, 16, 8, 0x0, .ro⟩
/-- DET.AGC.DROP (R114, RO): Bit r set: reader r was dropped in the last sector -/
def DET_AGC_DROP (n p : Nat) : Fld := ⟨chBase n + 0x80000 + 0x1000 * p, 24, 3, 0x0, .ro⟩
/-- DET.AGCCTL.TARGET (R114, RWL): Target peak amplitude in ADC steps -/
def DET_AGCCTL_TARGET (n p : Nat) : Fld := ⟨chBase n + 0x80004 + 0x1000 * p, 0, 8, 0x28, .rwl⟩
/-- DET.AGCCTL.ACQ_STEP (R114, RWL): Acquisition step, 2^−(ACQ_STEP + 2) -/
def DET_AGCCTL_ACQ_STEP (n p : Nat) : Fld := ⟨chBase n + 0x80004 + 0x1000 * p, 8, 4, 0x3, .rwl⟩
/-- DET.AGCCTL.TRK_STEP (R114, RWL): Tracking step, 2^−(TRK_STEP + 2) -/
def DET_AGCCTL_TRK_STEP (n p : Nat) : Fld := ⟨chBase n + 0x80004 + 0x1000 * p, 12, 4, 0x8, .rwl⟩
/-- DET.AGCCTL.HOLD (R114, RWL): 1: all three gain loops hold -/
def DET_AGCCTL_HOLD (n p : Nat) : Fld := ⟨chBase n + 0x80004 + 0x1000 * p, 16, 1, 0x0, .rwl⟩
/-- DET.TIMING.KP_ACQ (R114, RWL): Proportional gain in acquisition, 2^−KP_ACQ -/
def DET_TIMING_KP_ACQ (n p : Nat) : Fld := ⟨chBase n + 0x80008 + 0x1000 * p, 0, 4, 0x3, .rwl⟩
/-- DET.TIMING.KI_ACQ (R114, RWL): Integral gain in acquisition, 2^−(KI_ACQ + 4) -/
def DET_TIMING_KI_ACQ (n p : Nat) : Fld := ⟨chBase n + 0x80008 + 0x1000 * p, 4, 4, 0x7, .rwl⟩
/-- DET.TIMING.KP_TRK (R114, RWL): Proportional gain in tracking -/
def DET_TIMING_KP_TRK (n p : Nat) : Fld := ⟨chBase n + 0x80008 + 0x1000 * p, 8, 4, 0x6, .rwl⟩
/-- DET.TIMING.KI_TRK (R114, RWL): Integral gain in tracking -/
def DET_TIMING_KI_TRK (n p : Nat) : Fld := ⟨chBase n + 0x80008 + 0x1000 * p, 12, 4, 0xb, .rwl⟩
/-- DET.TIMING.FREQ_OFS (R114, RO): Signed frequency offset at the end of the last sector, 0.005 % per step -/
def DET_TIMING_FREQ_OFS (n p : Nat) : Fld := ⟨chBase n + 0x80008 + 0x1000 * p, 16, 8, 0x0, .ro⟩
/-- DET.EQCTL.MU (R114, RWL): Equalizer step, 2^−(MU + 8) -/
def DET_EQCTL_MU (n p : Nat) : Fld := ⟨chBase n + 0x8000c + 0x1000 * p, 0, 4, 0x4, .rwl⟩
/-- DET.EQCTL.ADAPT_EN (R114, RWL): 1: equalizer adapts under R81 -/
def DET_EQCTL_ADAPT_EN (n p : Nat) : Fld := ⟨chBase n + 0x8000c + 0x1000 * p, 4, 1, 0x1, .rwl⟩
/-- DET.EQCTL.DC_EN (R114, RWL): 1: baseline loops adapt -/
def DET_EQCTL_DC_EN (n p : Nat) : Fld := ⟨chBase n + 0x8000c + 0x1000 * p, 5, 1, 0x1, .rwl⟩
/-- DET.EQCTL.ASYM_EN (R114, RWL): 1: asymmetry loops adapt -/
def DET_EQCTL_ASYM_EN (n p : Nat) : Fld := ⟨chBase n + 0x8000c + 0x1000 * p, 6, 1, 0x1, .rwl⟩
/-- DET.EQCTL.SAVE_EN (R114, RWL): 1: adapted coefficients are written back under R82 -/
def DET_EQCTL_SAVE_EN (n p : Nat) : Fld := ⟨chBase n + 0x8000c + 0x1000 * p, 7, 1, 0x1, .rwl⟩
/-- DET.EQCTL.MSE (R114, RO): Mean squared error of the last converged sector, 1/16 ADC step² per step -/
def DET_EQCTL_MSE (n p : Nat) : Fld := ⟨chBase n + 0x8000c + 0x1000 * p, 8, 8, 0x0, .ro⟩
/-- DET.SSTAT.FREE (R114, RO): Free buffers, 0–4 -/
def DET_SSTAT_FREE (n p : Nat) : Fld := ⟨chBase n + 0x80010 + 0x1000 * p, 0, 3, 0x4, .ro⟩
/-- DET.SSTAT.PINNED (R114, RO): Buffers pinned by ladders, 0–2 -/
def DET_SSTAT_PINNED (n p : Nat) : Fld := ⟨chBase n + 0x80010 + 0x1000 * p, 3, 3, 0x0, .ro⟩
/-- DET.SSTAT.THRESH (R114, RW): Trap threshold of R97 -/
def DET_SSTAT_THRESH (n p : Nat) : Fld := ⟨chBase n + 0x80010 + 0x1000 * p, 8, 3, 0x1, .rw⟩
/-- DET.SSTAT.CNT_CLR (R114, WO): 1: clears NOT_CAPT and CHn.DET.ERRCNTp -/
def DET_SSTAT_CNT_CLR (n p : Nat) : Fld := ⟨chBase n + 0x80010 + 0x1000 * p, 15, 1, 0x0, .wo⟩
/-- DET.SSTAT.NOT_CAPT (R114, RO): Sectors not captured, saturating at 0xFFFF -/
def DET_SSTAT_NOT_CAPT (n p : Nat) : Fld := ⟨chBase n + 0x80010 + 0x1000 * p, 16, 16, 0x0, .ro⟩
/-- DET.ERRCNT.FP_FAIL (R114, RO): Sectors that failed their first pass -/
def DET_ERRCNT_FP_FAIL (n p : Nat) : Fld := ⟨chBase n + 0x80014 + 0x1000 * p, 0, 16, 0x0, .ro⟩
/-- DET.ERRCNT.SLIP_AMBIG (R114, RO): Sync-slip steps failed under R102 with two or more passing candidates -/
def DET_ERRCNT_SLIP_AMBIG (n p : Nat) : Fld := ⟨chBase n + 0x80014 + 0x1000 * p, 16, 8, 0x0, .ro⟩
/-- DET.ERRCNT.RDROP (R114, RO): Reader drops under R84 -/
def DET_ERRCNT_RDROP (n p : Nat) : Fld := ⟨chBase n + 0x80014 + 0x1000 * p, 24, 8, 0x0, .ro⟩
/-- DET.EQCOEF.COEF (R114, RWS): c_r[j] of R85; a write takes effect at the start of the next preamble and is overwritten at the next head or zone change -/
def DET_EQCOEF_COEF (n p i : Nat) : Fld := ⟨chBase n + 0x80100 + 0x1000 * p + 0x4 * i, 0, 10, 0x0, .rws⟩
/-- DET.SYNCCFG.SYNC_THR (R114, RWL): Largest Hamming distance accepted for a sync mark, 0–24 -/
def DET_SYNCCFG_SYNC_THR (n : Nat) : Fld := ⟨chBase n + 0x88000, 0, 6, 0x5, .rwl⟩
/-- DET.SYNCCFG.RESUME_THR (R114, RWL): Largest Hamming distance accepted for the resume mark, 0–24 -/
def DET_SYNCCFG_RESUME_THR (n : Nat) : Fld := ⟨chBase n + 0x88000, 8, 6, 0x5, .rwl⟩
/-- DET.ITER.ITER_FIRST (R115, RWL): First-pass budget, 1–64 -/
def DET_ITER_ITER_FIRST (n : Nat) : Fld := ⟨chBase n + 0x88004, 0, 7, 0xc, .rwl⟩
/-- DET.ITER.ITER_MAX (R115, RWL): Ceiling on any step budget, 1–64 -/
def DET_ITER_ITER_MAX (n : Nat) : Fld := ⟨chBase n + 0x88004, 8, 7, 0x40, .rwl⟩
/-- DET.LADDERSTAT.FG_ACTIVE (R117, RO): Ladders in the foreground, 0–8 -/
def DET_LADDERSTAT_FG_ACTIVE (n : Nat) : Fld := ⟨chBase n + 0x88008, 0, 4, 0x0, .ro⟩
/-- DET.LADDERSTAT.BG_ACTIVE (R117, RO): Ladders in the background, 0–8 -/
def DET_LADDERSTAT_BG_ACTIVE (n : Nat) : Fld := ⟨chBase n + 0x88008, 4, 4, 0x0, .ro⟩
/-- DET.LADDERSTAT.BG_RECOVERED (R117, RO): Sectors recovered and rewritten under R111, saturating at 0xFFFF -/
def DET_LADDERSTAT_BG_RECOVERED (n : Nat) : Fld := ⟨chBase n + 0x88008, 16, 16, 0x0, .ro⟩
/-- DET.LADDER.OP (R116, RWL): Operation from R104 -/
def DET_LADDER_OP (n k : Nat) : Fld := ⟨chBase n + 0x88100 + 0x4 * k, 0, 4, 0x0, .rwl⟩
/-- DET.LADDER.ITER (R116, RWL): Budget − 1 -/
def DET_LADDER_ITER (n k : Nat) : Fld := ⟨chBase n + 0x88100 + 0x4 * k, 4, 6, 0x0, .rwl⟩
/-- DET.LADDER.ALT (R116, RWL): Alternate coefficient set -/
def DET_LADDER_ALT (n k : Nat) : Fld := ⟨chBase n + 0x88100 + 0x4 * k, 10, 2, 0x0, .rwl⟩
/-- DET.LADDER.RMASK (R116, RWL): Reader mask for READER -/
def DET_LADDER_RMASK (n k : Nat) : Fld := ⟨chBase n + 0x88100 + 0x4 * k, 12, 3, 0x0, .rwl⟩
/-- DET.LADDER.OFFSET (R116, RWL): Signed fine offset for REREAD, 1/64 track -/
def DET_LADDER_OFFSET (n k : Nat) : Fld := ⟨chBase n + 0x88100 + 0x4 * k, 15, 8, 0x0, .rwl⟩
/-- DET.LADDER.AGC_HOLD (R116, RWL): Hold gains during REREAD -/
def DET_LADDER_AGC_HOLD (n k : Nat) : Fld := ⟨chBase n + 0x88100 + 0x4 * k, 23, 1, 0x0, .rwl⟩
/-- DET.LADDER.BG_ONLY (R116, RWL): Step runs only in the background -/
def DET_LADDER_BG_ONLY (n k : Nat) : Fld := ⟨chBase n + 0x88100 + 0x4 * k, 24, 1, 0x0, .rwl⟩
/-- STITCH.VERSION.BASE_VER (R180, RO): BASE_VER of the loaded base segment -/
def STITCH_VERSION_BASE_VER (n : Nat) : Fld := ⟨chBase n + 0x100000, 0, 16, 0x0, .ro⟩
/-- STITCH.VERSION.PATCH_LEVEL (R180, RO): Highest patch level applied; 0 if none -/
def STITCH_VERSION_PATCH_LEVEL (n : Nat) : Fld := ⟨chBase n + 0x100000, 16, 8, 0x0, .ro⟩
/-- STITCH.VERSION.AUTH (R180, RO): 1: every word came from an authenticated segment (R178) -/
def STITCH_VERSION_AUTH (n : Nat) : Fld := ⟨chBase n + 0x100000, 24, 1, 0x0, .ro⟩
/-- STITCH.VERSION.LOADED (R180, RO): 1: a base segment is loaded -/
def STITCH_VERSION_LOADED (n : Nat) : Fld := ⟨chBase n + 0x100000, 25, 1, 0x0, .ro⟩
/-- STITCH.LOADSTAT.CODE (R180, RO): R177 -/
def STITCH_LOADSTAT_CODE (n : Nat) : Fld := ⟨chBase n + 0x100004, 0, 8, 0x0, .ro⟩
/-- STITCH.LOADSTAT.SEG (R180, RO): Index within the image of the rejected segment -/
def STITCH_LOADSTAT_SEG (n : Nat) : Fld := ⟨chBase n + 0x100004, 8, 8, 0x0, .ro⟩
/-- STITCH.CTL.HALT (R180, RWL): Bit p set: Stitcher p halted at a word boundary; writes while CHn.ENABLE is 1 are discarded; the enable writes 0x0 -/
def STITCH_CTL_HALT (n : Nat) : Fld := ⟨chBase n + 0x100008, 0, 4, 0xf, .rwl⟩
/-- STITCH.CTL.STEP (R180, WO): Bit p set: halted Stitcher p executes one word -/
def STITCH_CTL_STEP (n : Nat) : Fld := ⟨chBase n + 0x100008, 4, 4, 0x0, .wo⟩
/-- STITCH.WDOG.LIMIT (R180, RWL): Limit in units of 10 µs; 0x1388 is 50 ms; 0 is taken as 1 -/
def STITCH_WDOG_LIMIT (n : Nat) : Fld := ⟨chBase n + 0x10000c, 0, 16, 0x1388, .rwl⟩
/-- STITCH.STAT.PC (R180, RO): Address of the next word -/
def STITCH_STAT_PC (n p : Nat) : Fld := ⟨chBase n + 0x100100 + 0x40 * p, 0, 13, 0x110, .ro⟩
/-- STITCH.STAT.STATE (R180, RO): 0b000 idle in FETCH; 0b001 running; 0b010 in WAIT; 0b011 level-N trap; 0b100 level-H trap; 0b101 halted by HALT field; 0b110 halted under R174; 0b111 reserved -/
def STITCH_STAT_STATE (n p : Nat) : Fld := ⟨chBase n + 0x100100 + 0x40 * p, 13, 3, 0x5, .ro⟩
/-- STITCH.STAT.SP (R180, RO): Micro-stack depth -/
def STITCH_STAT_SP (n p : Nat) : Fld := ⟨chBase n + 0x100100 + 0x40 * p, 16, 4, 0x0, .ro⟩
/-- STITCH.STAT.HCODE (R180, RO): Halt code of R174, 0x00–0x82; valid when STATE is 0b110 -/
def STITCH_STAT_HCODE (n p : Nat) : Fld := ⟨chBase n + 0x100100 + 0x40 * p, 20, 8, 0x0, .ro⟩
/-- STITCH.STAT.LAST_ABT (R180, RO): ABT bit of the last DONE; its result word is in ABTRESp -/
def STITCH_STAT_LAST_ABT (n p : Nat) : Fld := ⟨chBase n + 0x100100 + 0x40 * p, 28, 1, 0x0, .ro⟩
/-- STITCH.FRAMEN.RPC (R180, RO): R162 -/
def STITCH_FRAMEN_RPC (n p : Nat) : Fld := ⟨chBase n + 0x100104 + 0x40 * p, 0, 13, 0x0, .ro⟩
/-- STITCH.FRAMEN.Z (R180, RO): Flag at entry -/
def STITCH_FRAMEN_Z (n p : Nat) : Fld := ⟨chBase n + 0x100104 + 0x40 * p, 13, 1, 0x0, .ro⟩
/-- STITCH.FRAMEN.N (R180, RO): Flag at entry -/
def STITCH_FRAMEN_N (n p : Nat) : Fld := ⟨chBase n + 0x100104 + 0x40 * p, 14, 1, 0x0, .ro⟩
/-- STITCH.FRAMEN.C (R180, RO): Flag at entry -/
def STITCH_FRAMEN_C (n p : Nat) : Fld := ⟨chBase n + 0x100104 + 0x40 * p, 15, 1, 0x0, .ro⟩
/-- STITCH.FRAMEN.WAITING (R180, RO): R162 -/
def STITCH_FRAMEN_WAITING (n p : Nat) : Fld := ⟨chBase n + 0x100104 + 0x40 * p, 16, 1, 0x0, .ro⟩
/-- STITCH.FRAMEN.SP (R180, RO): Stack depth at entry -/
def STITCH_FRAMEN_SP (n p : Nat) : Fld := ⟨chBase n + 0x100104 + 0x40 * p, 17, 4, 0x0, .ro⟩
/-- STITCH.FRAMEN.VEC (R180, RO): Trap vector -/
def STITCH_FRAMEN_VEC (n p : Nat) : Fld := ⟨chBase n + 0x100104 + 0x40 * p, 21, 4, 0x0, .ro⟩
/-- STITCH.FRAMEN.ACTIVE (R180, RO): 1: the frame is in use -/
def STITCH_FRAMEN_ACTIVE (n p : Nat) : Fld := ⟨chBase n + 0x100104 + 0x40 * p, 31, 1, 0x0, .ro⟩
/-- STITCH.FRAMEH.RPC (R180, RO): R162 -/
def STITCH_FRAMEH_RPC (n p : Nat) : Fld := ⟨chBase n + 0x100108 + 0x40 * p, 0, 13, 0x0, .ro⟩
/-- STITCH.FRAMEH.Z (R180, RO): Flag at entry -/
def STITCH_FRAMEH_Z (n p : Nat) : Fld := ⟨chBase n + 0x100108 + 0x40 * p, 13, 1, 0x0, .ro⟩
/-- STITCH.FRAMEH.N (R180, RO): Flag at entry -/
def STITCH_FRAMEH_N (n p : Nat) : Fld := ⟨chBase n + 0x100108 + 0x40 * p, 14, 1, 0x0, .ro⟩
/-- STITCH.FRAMEH.C (R180, RO): Flag at entry -/
def STITCH_FRAMEH_C (n p : Nat) : Fld := ⟨chBase n + 0x100108 + 0x40 * p, 15, 1, 0x0, .ro⟩
/-- STITCH.FRAMEH.WAITING (R180, RO): R162 -/
def STITCH_FRAMEH_WAITING (n p : Nat) : Fld := ⟨chBase n + 0x100108 + 0x40 * p, 16, 1, 0x0, .ro⟩
/-- STITCH.FRAMEH.SP (R180, RO): Stack depth at entry -/
def STITCH_FRAMEH_SP (n p : Nat) : Fld := ⟨chBase n + 0x100108 + 0x40 * p, 17, 4, 0x0, .ro⟩
/-- STITCH.FRAMEH.VEC (R180, RO): Trap vector -/
def STITCH_FRAMEH_VEC (n p : Nat) : Fld := ⟨chBase n + 0x100108 + 0x40 * p, 21, 4, 0x0, .ro⟩
/-- STITCH.FRAMEH.ACTIVE (R180, RO): 1: the frame is in use -/
def STITCH_FRAMEH_ACTIVE (n p : Nat) : Fld := ⟨chBase n + 0x100108 + 0x40 * p, 31, 1, 0x0, .ro⟩
/-- STITCH.FRAMEDATA.DATA_N (R180, RO): DATA of the level-N frame -/
def STITCH_FRAMEDATA_DATA_N (n p : Nat) : Fld := ⟨chBase n + 0x10010c + 0x40 * p, 0, 16, 0x0, .ro⟩
/-- STITCH.FRAMEDATA.DATA_H (R180, RO): DATA of the level-H frame -/
def STITCH_FRAMEDATA_DATA_H (n p : Nat) : Fld := ⟨chBase n + 0x10010c + 0x40 * p, 16, 16, 0x0, .ro⟩
/-- STITCH.ABTRES.RESULT (R180, RO): RES_HI[3:0], RES_LO reported by that DONE -/
def STITCH_ABTRES_RESULT (n p : Nat) : Fld := ⟨chBase n + 0x100110 + 0x40 * p, 0, 20, 0x0, .ro⟩
/-- CTL.STAT.PLAUS (R228, RO): Bit L: loop L plausible in the engine in control -/
def CTL_STAT_PLAUS (n : Nat) : Fld := ⟨chBase n + 0x180000, 0, 6, 0x0, .ro⟩
/-- CTL.STAT.SEEKING (R228, RO): 1: a seek profile is running (R207) -/
def CTL_STAT_SEEKING (n : Nat) : Fld := ⟨chBase n + 0x180000, 6, 1, 0x0, .ro⟩
/-- CTL.STAT.LOADED (R228, RO): 1: heads loaded and servo acquired (R225) -/
def CTL_STAT_LOADED (n : Nat) : Fld := ⟨chBase n + 0x180000, 7, 1, 0x0, .ro⟩
/-- CTL.STAT.ONTRK (R228, RO): Bit p: path p on track (R209) -/
def CTL_STAT_ONTRK (n : Nat) : Fld := ⟨chBase n + 0x180000, 8, 4, 0x0, .ro⟩
/-- CTL.STAT.EVENTS (R228, RO): E, 1–4 -/
def CTL_STAT_EVENTS (n : Nat) : Fld := ⟨chBase n + 0x180000, 16, 3, 0x0, .ro⟩
/-- CTL.LOOPEN.EN (R228, RWL): Bit L: loop L computes; a disabled fine loop sends VALID 0 -/
def CTL_LOOPEN_EN (n : Nat) : Fld := ⟨chBase n + 0x180004, 0, 6, 0x0, .rwl⟩
/-- CTL.SWAP.REQ (R228, WO): Bit L: request a swap for loop L (R203) -/
def CTL_SWAP_REQ (n : Nat) : Fld := ⟨chBase n + 0x180008, 0, 6, 0x0, .wo⟩
/-- CTL.BANKSTAT.ACTIVE (R228, RO): Bit L: active bank of loop L -/
def CTL_BANKSTAT_ACTIVE (n : Nat) : Fld := ⟨chBase n + 0x18000c, 0, 6, 0x0, .ro⟩
/-- CTL.BANKSTAT.PEND (R228, RO): Bit L: swap pending -/
def CTL_BANKSTAT_PEND (n : Nat) : Fld := ⟨chBase n + 0x18000c, 8, 6, 0x0, .ro⟩
/-- CTL.BANKSTAT.INACT_OK (R228, RO): Bit L: last completed check of the inactive bank passed -/
def CTL_BANKSTAT_INACT_OK (n : Nat) : Fld := ⟨chBase n + 0x18000c, 16, 6, 0x0, .ro⟩
/-- CTL.BANKSTAT.REFUSED (R228, W1C): Bit L: last swap refused -/
def CTL_BANKSTAT_REFUSED (n : Nat) : Fld := ⟨chBase n + 0x18000c, 24, 6, 0x0, .w1c⟩
/-- CTL.SWAP_COLLIDE.LOOP (R228, W1C): Bit L: a write to loop L was held under R205 -/
def CTL_SWAP_COLLIDE_LOOP (n : Nat) : Fld := ⟨chBase n + 0x180010, 0, 6, 0x0, .w1c⟩
/-- CTL.SWAP_COLLIDE.HELD_CNT (R228, RO): Held writes, saturating at 0xFF -/
def CTL_SWAP_COLLIDE_HELD_CNT (n : Nat) : Fld := ⟨chBase n + 0x180010, 8, 8, 0x0, .ro⟩
/-- CTL.SWAP_COLLIDE.CLR (R228, WO): 1: clears HELD_CNT -/
def CTL_SWAP_COLLIDE_CLR (n : Nat) : Fld := ⟨chBase n + 0x180010, 31, 1, 0x0, .wo⟩
/-- CTL.SEEKCFG.SHORT_LEN (R228, RWL): Longest move without a profile, tracks -/
def CTL_SEEKCFG_SHORT_LEN (n : Nat) : Fld := ⟨chBase n + 0x180020, 0, 8, 0x8, .rwl⟩
/-- CTL.SEEKCFG.SEEK_TMO (R228, RWL): Settle allowance of R209, ms -/
def CTL_SEEKCFG_SEEK_TMO (n : Nat) : Fld := ⟨chBase n + 0x180020, 8, 8, 0x14, .rwl⟩
/-- CTL.SEEKCFG.REDIR_DECAY (R228, RWL): D of R208, coarse samples; 0 is taken as 1 -/
def CTL_SEEKCFG_REDIR_DECAY (n : Nat) : Fld := ⟨chBase n + 0x180020, 16, 8, 0x40, .rwl⟩
/-- CTL.SEEKCFG.SEEK_JUMP (R228, RWL): Track tolerance during a seek (R189) -/
def CTL_SEEKCFG_SEEK_JUMP (n : Nat) : Fld := ⟨chBase n + 0x180020, 24, 8, 0x40, .rwl⟩
/-- CTL.ONTRK.ONTRK_THR (R228, RWL): On-track window, 1/256 track -/
def CTL_ONTRK_ONTRK_THR (n : Nat) : Fld := ⟨chBase n + 0x180024, 0, 8, 0x10, .rwl⟩
/-- CTL.ONTRK.ONTRK_CNT (R228, RWL): Own samples required; 0 is taken as 1 -/
def CTL_ONTRK_ONTRK_CNT (n : Nat) : Fld := ⟨chBase n + 0x180024, 8, 4, 0x4, .rwl⟩
/-- CTL.ONTRK.JUMP_THR (R228, RWL): Track tolerance while tracking, tracks -/
def CTL_ONTRK_JUMP_THR (n : Nat) : Fld := ⟨chBase n + 0x180024, 12, 4, 0x2, .rwl⟩
/-- CTL.ONTRK.MISS_LIMIT (R228, RWL): Consecutive missing samples before implausible; 0 is taken as 1 -/
def CTL_ONTRK_MISS_LIMIT (n : Nat) : Fld := ⟨chBase n + 0x180024, 16, 4, 0x3, .rwl⟩
/-- CTL.ONTRK.SUM_MIN (R228, RWL): Burst sum minimum, 16 ADC steps per unit -/
def CTL_ONTRK_SUM_MIN (n : Nat) : Fld := ⟨chBase n + 0x180024, 20, 8, 0x40, .rwl⟩
/-- CTL.SEEKSTAT.SEEKS (R228, RO): Seeks started, wrapping -/
def CTL_SEEKSTAT_SEEKS (n : Nat) : Fld := ⟨chBase n + 0x180028, 0, 16, 0x0, .ro⟩
/-- CTL.SEEKSTAT.TMO_CNT (R228, RO): Seek timeouts, saturating -/
def CTL_SEEKSTAT_TMO_CNT (n : Nat) : Fld := ⟨chBase n + 0x180028, 16, 8, 0x0, .ro⟩
/-- CTL.RROCFG.LEARN_THR (R228, RWL): Convergence limit, 1/1,024 track RMS -/
def CTL_RROCFG_LEARN_THR (n : Nat) : Fld := ⟨chBase n + 0x180030, 0, 8, 0x8, .rwl⟩
/-- CTL.RROCFG.LEARN_MU (R228, RWL): Learning step 2^−LEARN_MU -/
def CTL_RROCFG_LEARN_MU (n : Nat) : Fld := ⟨chBase n + 0x180030, 8, 4, 0x3, .rwl⟩
/-- CTL.RROCFG.BG_EN (R228, RWL): 1: background update of R221 -/
def CTL_RROCFG_BG_EN (n : Nat) : Fld := ⟨chBase n + 0x180030, 12, 1, 0x1, .rwl⟩
/-- CTL.RROCFG.BG_MU (R228, RWL): Background step 2^−BG_MU -/
def CTL_RROCFG_BG_MU (n : Nat) : Fld := ⟨chBase n + 0x180030, 16, 4, 0xa, .rwl⟩
/-- CTL.RROSTAT.CONV (R228, RO): Bit h: table of head h CONVERGED -/
def CTL_RROSTAT_CONV (n : Nat) : Fld := ⟨chBase n + 0x180034, 0, 20, 0x0, .ro⟩
/-- CTL.RROSTAT.LEARNING (R228, RO): Bit p: path p learning -/
def CTL_RROSTAT_LEARNING (n : Nat) : Fld := ⟨chBase n + 0x180034, 20, 4, 0x0, .ro⟩
/-- CTL.LEARNPROG.REVS0 (R228, RO): Revolutions since learning began on path 0, 0–64 -/
def CTL_LEARNPROG_REVS0 (n : Nat) : Fld := ⟨chBase n + 0x180038, 0, 8, 0x0, .ro⟩
/-- CTL.LEARNPROG.REVS1 (R228, RO): As REVS0, path 1 -/
def CTL_LEARNPROG_REVS1 (n : Nat) : Fld := ⟨chBase n + 0x180038, 8, 8, 0x0, .ro⟩
/-- CTL.LEARNPROG.REVS2 (R228, RO): As REVS0, path 2 -/
def CTL_LEARNPROG_REVS2 (n : Nat) : Fld := ⟨chBase n + 0x180038, 16, 8, 0x0, .ro⟩
/-- CTL.LEARNPROG.REVS3 (R228, RO): As REVS0, path 3 -/
def CTL_LEARNPROG_REVS3 (n : Nat) : Fld := ⟨chBase n + 0x180038, 24, 8, 0x0, .ro⟩
/-- CTL.FFCFG.VIB_EN (R228, RWL): 1: vibration input of R215 -/
def CTL_FFCFG_VIB_EN (n : Nat) : Fld := ⟨chBase n + 0x180040, 0, 1, 0x1, .rwl⟩
/-- CTL.FFCFG.SHOCK_FF_EN (R228, RWL): 1: shock input of R216 -/
def CTL_FFCFG_SHOCK_FF_EN (n : Nat) : Fld := ⟨chBase n + 0x180040, 1, 1, 0x1, .rwl⟩
/-- CTL.FFCFG.STALE (R228, RWL): Age limit, 2 µs per unit; 0x7D is 250 µs -/
def CTL_FFCFG_STALE (n : Nat) : Fld := ⟨chBase n + 0x180040, 8, 8, 0x7d, .rwl⟩
/-- CTL.FFCFG.STALE_CNT (R228, RO): Stale terms, saturating -/
def CTL_FFCFG_STALE_CNT (n : Nat) : Fld := ⟨chBase n + 0x180040, 16, 16, 0x0, .ro⟩
/-- CTL.FFW.W (R228, RWL): Weight in Q2.29 -/
def CTL_FFW_W (n j : Nat) : Fld := ⟨chBase n + 0x180044 + 0x4 * j, 0, 32, 0x0, .rwl⟩
/-- CTL.SHOCK.SHOCK_THR (R228, RWL): Threshold, 1/256 of full scale -/
def CTL_SHOCK_SHOCK_THR (n : Nat) : Fld := ⟨chBase n + 0x180060, 0, 8, 0x80, .rwl⟩
/-- CTL.SHOCK.SHOCK_HOLD (R228, RWL): Hold time, µs -/
def CTL_SHOCK_SHOCK_HOLD (n : Nat) : Fld := ⟨chBase n + 0x180060, 8, 8, 0x32, .rwl⟩
/-- CTL.SHOCK.SHOCK_CNT (R228, RO): Shock events, saturating -/
def CTL_SHOCK_SHOCK_CNT (n : Nat) : Fld := ⟨chBase n + 0x180060, 16, 16, 0x0, .ro⟩
/-- CTL.FALINK.TX_EN (R228, RWL): 1: link sends idle and frames; 0: both legs at the same level -/
def CTL_FALINK_TX_EN (n : Nat) : Fld := ⟨chBase n + 0x180064, 0, 1, 0x0, .rwl⟩
/-- CTL.FALINK.FRAME_CNT (R228, RO): Frames sent, wrapping -/
def CTL_FALINK_FRAME_CNT (n : Nat) : Fld := ⟨chBase n + 0x180064, 16, 16, 0x0, .ro⟩
/-- CTL.SPSTAT.D_WAIT (R506, RO): Port-D wait cycles (R497) -/
def CTL_SPSTAT_D_WAIT (n : Nat) : Fld := ⟨chBase n + 0x180070, 0, 24, 0x0, .ro⟩
/-- CTL.SPSTAT.LOST (R506, RO): Lost writes (R498) -/
def CTL_SPSTAT_LOST (n : Nat) : Fld := ⟨chBase n + 0x180070, 24, 8, 0x0, .ro⟩
/-- CTL.SUPCFG.RESID_THR (R228, RWL): Residual threshold of R210 -/
def CTL_SUPCFG_RESID_THR (n l : Nat) : Fld := ⟨chBase n + 0x180100 + 0x20 * l, 0, 16, 0x200, .rwl⟩
/-- CTL.SUPCFG.RESID_CNT (R228, RWL): Consecutive samples; 0 is taken as 1 -/
def CTL_SUPCFG_RESID_CNT (n l : Nat) : Fld := ⟨chBase n + 0x180100 + 0x20 * l, 16, 4, 0x2, .rwl⟩
/-- CTL.SUPCFG.RECOVER_CNT (R228, RWL): Samples to recover; 0 is taken as 1 -/
def CTL_SUPCFG_RECOVER_CNT (n l : Nat) : Fld := ⟨chBase n + 0x180100 + 0x20 * l, 20, 8, 0x10, .rwl⟩
/-- CTL.SUPCFG.SEEK_SHIFT (R228, RWL): Threshold multiplier 2^SEEK_SHIFT during a seek -/
def CTL_SUPCFG_SEEK_SHIFT (n l : Nat) : Fld := ⟨chBase n + 0x180100 + 0x20 * l, 28, 3, 0x3, .rwl⟩
/-- CTL.SUPCFG.CLR (R228, WO): 1: clears SUPSTATL and LIMSTATL -/
def CTL_SUPCFG_CLR (n l : Nat) : Fld := ⟨chBase n + 0x180100 + 0x20 * l, 31, 1, 0x0, .wo⟩
/-- CTL.SUPSTAT.RESID_MAX (R228, RO): Largest|r|since cleared, in RESID_THR units, saturating -/
def CTL_SUPSTAT_RESID_MAX (n l : Nat) : Fld := ⟨chBase n + 0x180104 + 0x20 * l, 0, 16, 0x0, .ro⟩
/-- CTL.SUPSTAT.IMPL_CNT (R228, RO): Declarations, saturating -/
def CTL_SUPSTAT_IMPL_CNT (n l : Nat) : Fld := ⟨chBase n + 0x180104 + 0x20 * l, 16, 8, 0x0, .ro⟩
/-- CTL.SUPSTAT.MISS_CNT (R228, RO): Missing measurements, saturating -/
def CTL_SUPSTAT_MISS_CNT (n l : Nat) : Fld := ⟨chBase n + 0x180104 + 0x20 * l, 24, 8, 0x0, .ro⟩
/-- CTL.LIMSTAT.SAT_CNT (R228, RO): Saturations under R188, R192 and R193, saturating -/
def CTL_LIMSTAT_SAT_CNT (n l : Nat) : Fld := ⟨chBase n + 0x180108 + 0x20 * l, 0, 16, 0x0, .ro⟩
/-- HINGE.STAT.IN_CTRL (R251, RO): 0: engine A ACTIVE; 1: engine B ACTIVE -/
def HINGE_STAT_IN_CTRL (n : Nat) : Fld := ⟨chBase n + 0x200000, 0, 1, 0x0, .ro⟩
/-- HINGE.STAT.A_STATE (R251, RO): R231 -/
def HINGE_STAT_A_STATE (n : Nat) : Fld := ⟨chBase n + 0x200000, 1, 3, 0x0, .ro⟩
/-- HINGE.STAT.B_STATE (R251, RO): R231 -/
def HINGE_STAT_B_STATE (n : Nat) : Fld := ⟨chBase n + 0x200000, 4, 3, 0x2, .ro⟩
/-- HINGE.STAT.GAP (R251, RO): R240 -/
def HINGE_STAT_GAP (n : Nat) : Fld := ⟨chBase n + 0x200000, 8, 1, 0x0, .ro⟩
/-- HINGE.STAT.OVERLAP (R251, RO): R248 -/
def HINGE_STAT_OVERLAP (n : Nat) : Fld := ⟨chBase n + 0x200000, 9, 1, 0x0, .ro⟩
/-- HINGE.STAT.SHADOW_CNT (R251, RO): Agreeing samples in SHADOW, 0–64 -/
def HINGE_STAT_SHADOW_CNT (n : Nat) : Fld := ⟨chBase n + 0x200000, 10, 7, 0x0, .ro⟩
/-- HINGE.STAT.LAST_CAUSE (R251, RO): R236; 0x0: no switch since reset -/
def HINGE_STAT_LAST_CAUSE (n : Nat) : Fld := ⟨chBase n + 0x200000, 20, 4, 0x0, .ro⟩
/-- HINGE.STAT.FAILS_A (R251, RO): Entries of A into FAILED since reset, saturating -/
def HINGE_STAT_FAILS_A (n : Nat) : Fld := ⟨chBase n + 0x200000, 24, 4, 0x0, .ro⟩
/-- HINGE.STAT.FAILS_B (R251, RO): As FAILS_A, engine B -/
def HINGE_STAT_FAILS_B (n : Nat) : Fld := ⟨chBase n + 0x200000, 28, 4, 0x0, .ro⟩
/-- HINGE.CFG.HB_LIMIT (R251, RWL): Heartbeat deadline, CLK_DET cycles after t0; 0x600 is 1,536 -/
def HINGE_CFG_HB_LIMIT (n : Nat) : Fld := ⟨chBase n + 0x200004, 0, 11, 0x600, .rwl⟩
/-- HINGE.CFG.TB_EN (R251, RWL): 1: automatic take-back under R247 -/
def HINGE_CFG_TB_EN (n : Nat) : Fld := ⟨chBase n + 0x200004, 11, 1, 0x1, .rwl⟩
/-- HINGE.CFG.WR_RESUME (R251, RWL): R240, events; 0 is taken as 1 -/
def HINGE_CFG_WR_RESUME (n : Nat) : Fld := ⟨chBase n + 0x200004, 12, 4, 0x4, .rwl⟩
/-- HINGE.CFG.AGREE_THR (R251, RWL): R237, 2^−16 of full scale -/
def HINGE_CFG_AGREE_THR (n : Nat) : Fld := ⟨chBase n + 0x200004, 16, 8, 0x10, .rwl⟩
/-- HINGE.CFG.DIS_CNT (R251, RWL): R237, events; 0 is taken as 1 -/
def HINGE_CFG_DIS_CNT (n : Nat) : Fld := ⟨chBase n + 0x200004, 24, 4, 0x4, .rwl⟩
/-- HINGE.CFG.RETRY_LIMIT (R251, RWL): R246 -/
def HINGE_CFG_RETRY_LIMIT (n : Nat) : Fld := ⟨chBase n + 0x200004, 28, 2, 0x3, .rwl⟩
/-- HINGE.CFG.COPY_LIMIT (R251, RWL): R234: limit is 2^(COPY_LIMIT + 1) copies -/
def HINGE_CFG_COPY_LIMIT (n : Nat) : Fld := ⟨chBase n + 0x200004, 30, 2, 0x2, .rwl⟩
/-- HINGE.CTL.FORCE (R251, WO): 1: switch-over under R250; ignored while GAP or OVERLAP is 1 -/
def HINGE_CTL_FORCE (n : Nat) : Fld := ⟨chBase n + 0x200008, 0, 1, 0x0, .wo⟩
/-- HINGE.CNT.SWITCH_CNT (R251, RO): Switch-overs, saturating -/
def HINGE_CNT_SWITCH_CNT (n : Nat) : Fld := ⟨chBase n + 0x20000c, 0, 8, 0x0, .ro⟩
/-- HINGE.CNT.TAKEBACK_CNT (R251, RO): Take-backs, saturating -/
def HINGE_CNT_TAKEBACK_CNT (n : Nat) : Fld := ⟨chBase n + 0x20000c, 8, 8, 0x0, .ro⟩
/-- HINGE.CNT.COPY_ERR_CNT (R251, RO): State copies discarded under R233, saturating -/
def HINGE_CNT_COPY_ERR_CNT (n : Nat) : Fld := ⟨chBase n + 0x20000c, 16, 16, 0x0, .ro⟩
/-- MOT.STAT.STATE (R289, RO): R267 -/
def MOT_STAT_STATE (n : Nat) : Fld := ⟨chBase n + 0x280000, 0, 4, 0x0, .ro⟩
/-- MOT.STAT.ROT (R289, RO): 0b00 at or below 1 %; 0b01 forward; 0b10 backward; 0b11 reserved -/
def MOT_STAT_ROT (n : Nat) : Fld := ⟨chBase n + 0x280000, 4, 2, 0x0, .ro⟩
/-- MOT.STAT.IN_TOL (R289, RO): R281 -/
def MOT_STAT_IN_TOL (n : Nat) : Fld := ⟨chBase n + 0x280000, 6, 1, 0x0, .ro⟩
/-- MOT.STAT.ABOVE_FLY (R289, RO): 1: speed at or above 80 % -/
def MOT_STAT_ABOVE_FLY (n : Nat) : Fld := ⟨chBase n + 0x280000, 7, 1, 0x0, .ro⟩
/-- MOT.STAT.DEPTH_LIM (R289, RO): R260 -/
def MOT_STAT_DEPTH_LIM (n : Nat) : Fld := ⟨chBase n + 0x280000, 8, 1, 0x0, .ro⟩
/-- MOT.STAT.VMOT_LIM (R289, RO): R276 -/
def MOT_STAT_VMOT_LIM (n : Nat) : Fld := ⟨chBase n + 0x280000, 9, 1, 0x0, .ro⟩
/-- MOT.STAT.RETRACTING (R289, RO): R285 -/
def MOT_STAT_RETRACTING (n : Nat) : Fld := ⟨chBase n + 0x280000, 10, 1, 0x0, .ro⟩
/-- MOT.STAT.PARKED (R289, RO): 1: the last retract ended with park detected -/
def MOT_STAT_PARKED (n : Nat) : Fld := ⟨chBase n + 0x280000, 11, 1, 0x0, .ro⟩
/-- MOT.STAT.SPEED (R289, RO): Speed magnitude, 1/16,384 of N_f per step; 0x4000 is N_f -/
def MOT_STAT_SPEED (n : Nat) : Fld := ⟨chBase n + 0x280000, 16, 16, 0x0, .ro⟩
/-- MOT.CMD.OP (R289, WO): R268 -/
def MOT_CMD_OP (n : Nat) : Fld := ⟨chBase n + 0x280004, 0, 3, 0x0, .wo⟩
/-- MOT.START_STAT.CASE (R289, RO): Start case, encoded as below -/
def MOT_START_STAT_CASE (n : Nat) : Fld := ⟨chBase n + 0x280008, 0, 4, 0x0, .ro⟩
/-- MOT.START_STAT.SENSE_SPEED (R289, RO): Speed measured in the last SENSE, as STAT.SPEED -/
def MOT_START_STAT_SENSE_SPEED (n : Nat) : Fld := ⟨chBase n + 0x280008, 8, 16, 0x0, .ro⟩
/-- MOT.PWMCFG.WIN (R289, RWL): Sampling window, CLK_MOT cycles (R259) -/
def MOT_PWMCFG_WIN (n : Nat) : Fld := ⟨chBase n + 0x28000c, 0, 10, 0xfa, .rwl⟩
/-- MOT.PWMCFG.DEADTIME (R289, RWL): Dead time, CLK_MOT cycles; below 4 taken as 4 (R256) -/
def MOT_PWMCFG_DEADTIME (n : Nat) : Fld := ⟨chBase n + 0x28000c, 10, 6, 0x14, .rwl⟩
/-- MOT.PWMCFG.SLEW (R289, RWL): Spindle gate slew (R257) -/
def MOT_PWMCFG_SLEW (n : Nat) : Fld := ⟨chBase n + 0x28000c, 16, 2, 0x1, .rwl⟩
/-- MOT.PWMCFG.VC_SLEW (R289, RWL): Voice-coil gate slew (R257) -/
def MOT_PWMCFG_VC_SLEW (n : Nat) : Fld := ⟨chBase n + 0x28000c, 18, 2, 0x1, .rwl⟩
/-- MOT.DEPTHSTAT.DEPTH (R289, RO): floor((4,166 − WIN) × 4,096 ÷ 4,166) -/
def MOT_DEPTHSTAT_DEPTH (n : Nat) : Fld := ⟨chBase n + 0x280010, 0, 12, 0xf0a, .ro⟩
/-- MOT.DEPTHSTAT.LIM_CNT (R289, RO): Limited speed strobes, saturating -/
def MOT_DEPTHSTAT_LIM_CNT (n : Nat) : Fld := ⟨chBase n + 0x280010, 16, 16, 0x0, .ro⟩
/-- MOT.CUR.I_FS (R289, RWL): Current for a torque command of 1.0 -/
def MOT_CUR_I_FS (n : Nat) : Fld := ⟨chBase n + 0x280014, 0, 8, 0xc0, .rwl⟩
/-- MOT.CUR.OC_THR (R289, RWL): Overcurrent threshold (R262) -/
def MOT_CUR_OC_THR (n : Nat) : Fld := ⟨chBase n + 0x280014, 8, 8, 0xf0, .rwl⟩
/-- MOT.CUR.I_ALIGN (R289, RWL): Align current (R273) -/
def MOT_CUR_I_ALIGN (n : Nat) : Fld := ⟨chBase n + 0x280014, 16, 8, 0x40, .rwl⟩
/-- MOT.CUR.I_ACCEL (R289, RWL): Ramp and acceleration current (R273, R274) -/
def MOT_CUR_I_ACCEL (n : Nat) : Fld := ⟨chBase n + 0x280014, 24, 8, 0xa0, .rwl⟩
/-- MOT.CURPI.KP (R289, RWL): Duty per unit current error, 1/256 per step; 0x100 is 1.0 -/
def MOT_CURPI_KP (n : Nat) : Fld := ⟨chBase n + 0x280018, 0, 12, 0x100, .rwl⟩
/-- MOT.CURPI.KI (R289, RWL): Duty per unit error per period, 1/4,096 per step -/
def MOT_CURPI_KI (n : Nat) : Fld := ⟨chBase n + 0x280018, 16, 12, 0x20, .rwl⟩
/-- MOT.STARTCFG.ALIGN_T (R289, RWL): Each align step, 2 ms per unit; 0x19 is 50 ms -/
def MOT_STARTCFG_ALIGN_T (n : Nat) : Fld := ⟨chBase n + 0x28001c, 0, 8, 0x19, .rwl⟩
/-- MOT.STARTCFG.OL_ACCEL (R289, RWL): Ramp rate, electrical Hz per second; 0 taken as 1 -/
def MOT_STARTCFG_OL_ACCEL (n : Nat) : Fld := ⟨chBase n + 0x28001c, 8, 8, 0x28, .rwl⟩
/-- MOT.STARTCFG.SPINUP_TMO (R289, RWL): Spin-up limit, s; 0 taken as 1 -/
def MOT_STARTCFG_SPINUP_TMO (n : Nat) : Fld := ⟨chBase n + 0x28001c, 16, 8, 0x3c, .rwl⟩
/-- MOT.STARTCFG.HANDOVER (R289, RWL): Handover speed, % (R273) -/
def MOT_STARTCFG_HANDOVER (n : Nat) : Fld := ⟨chBase n + 0x28001c, 24, 4, 0x5, .rwl⟩
/-- MOT.BRAKE.VMOT_SOFT (R289, RWL): 13.00 V: full braking current up to here -/
def MOT_BRAKE_VMOT_SOFT (n : Nat) : Fld := ⟨chBase n + 0x280020, 0, 10, 0x104, .rwl⟩
/-- MOT.BRAKE.VMOT_MAX (R289, RWL): 14.00 V: ceiling of R263 and R276 -/
def MOT_BRAKE_VMOT_MAX (n : Nat) : Fld := ⟨chBase n + 0x280020, 10, 10, 0x118, .rwl⟩
/-- MOT.BRAKE.I_BRAKE (R289, RWL): Braking current, 1/256 of ISENSE_FS -/
def MOT_BRAKE_I_BRAKE (n : Nat) : Fld := ⟨chBase n + 0x280020, 20, 8, 0x80, .rwl⟩
/-- MOT.BRAKE.BRAKE_TMO (R289, RWL): Braking limit, 4 s per unit; 0 taken as 1 -/
def MOT_BRAKE_BRAKE_TMO (n : Nat) : Fld := ⟨chBase n + 0x280020, 28, 4, 0xf, .rwl⟩
/-- MOT.VMOT.VMOT (R289, RO): VMOT measured in the last PWM period, 50 mV per step -/
def MOT_VMOT_VMOT (n : Nat) : Fld := ⟨chBase n + 0x280024, 0, 10, 0x0, .ro⟩
/-- MOT.VMOT.DIV (R289, RWL): Divider ratio × 4 of R255; 0x40 is 16 -/
def MOT_VMOT_DIV (n : Nat) : Fld := ⟨chBase n + 0x280024, 16, 8, 0x40, .rwl⟩
/-- MOT.OBS.SPD_THR (R289, RWL): Speed disagreement, 1/256 of the observer speed; 0x10 is 6.25 % -/
def MOT_OBS_SPD_THR (n : Nat) : Fld := ⟨chBase n + 0x280028, 0, 8, 0x10, .rwl⟩
/-- MOT.OBS.ANG_THR (R289, RWL): Angle disagreement, degrees electrical -/
def MOT_OBS_ANG_THR (n : Nat) : Fld := ⟨chBase n + 0x280028, 8, 8, 0x1e, .rwl⟩
/-- MOT.OBS.PLL_BW (R289, RWL): Observer bandwidth, 4 Hz per unit -/
def MOT_OBS_PLL_BW (n : Nat) : Fld := ⟨chBase n + 0x280028, 16, 8, 0x40, .rwl⟩
/-- MOT.MODEL0.R_S (R289, RWL): Phase resistance, 1 mΩ per step -/
def MOT_MODEL0_R_S (n : Nat) : Fld := ⟨chBase n + 0x28002c, 0, 12, 0x0, .rwl⟩
/-- MOT.MODEL0.L_S (R289, RWL): Phase inductance, 0.1 µH per step -/
def MOT_MODEL0_L_S (n : Nat) : Fld := ⟨chBase n + 0x28002c, 12, 12, 0x0, .rwl⟩
/-- MOT.MODEL1.K_E (R289, RWL): Phase back-EMF constant, 1 µV·s per electrical radian -/
def MOT_MODEL1_K_E (n : Nat) : Fld := ⟨chBase n + 0x280030, 0, 16, 0x0, .rwl⟩
/-- MOT.MODEL1.ISENSE_FS (R289, RWL): Current at ADC full scale, mA -/
def MOT_MODEL1_ISENSE_FS (n : Nat) : Fld := ⟨chBase n + 0x280030, 16, 16, 0x0, .rwl⟩
/-- MOT.RUNCFG.DIR (R289, RWL): 0: forward is U, V, W; 1: forward is U, W, V; written under R275 -/
def MOT_RUNCFG_DIR (n : Nat) : Fld := ⟨chBase n + 0x280034, 0, 1, 0x0, .rwl⟩
/-- MOT.RUNCFG.ACC_TOL (R289, RWL): Access tolerance, 0.01 % per unit (R281) -/
def MOT_RUNCFG_ACC_TOL (n : Nat) : Fld := ⟨chBase n + 0x280034, 8, 8, 0x14, .rwl⟩
/-- MOT.RUNCFG.ACC_CNT (R289, RWL): Strobes within tolerance; 0 taken as 1 -/
def MOT_RUNCFG_ACC_CNT (n : Nat) : Fld := ⟨chBase n + 0x280034, 16, 8, 0x10, .rwl⟩
/-- MOT.VCM.VC_FS (R289, RWL): Current for a coarse command of 1.0, mA; 0x5DC is 1,500 mA -/
def MOT_VCM_VC_FS (n : Nat) : Fld := ⟨chBase n + 0x280038, 0, 12, 0x5dc, .rwl⟩
/-- MOT.VCM.RET_DIR (R289, RWL): R284 -/
def MOT_VCM_RET_DIR (n : Nat) : Fld := ⟨chBase n + 0x280038, 12, 1, 0x0, .rwl⟩
/-- MOT.VCM.VC_R (R289, RWL): Coil resistance, 50 mΩ per step; 0x50 is 4.0 Ω -/
def MOT_VCM_VC_R (n : Nat) : Fld := ⟨chBase n + 0x280038, 16, 8, 0x50, .rwl⟩
/-- MOT.RETCFG.RET_VEL (R289, RWL): Velocity as coil back-EMF, 2 mV per step -/
def MOT_RETCFG_RET_VEL (n : Nat) : Fld := ⟨chBase n + 0x28003c, 0, 8, 0x20, .rwl⟩
/-- MOT.RETCFG.RET_ILIM (R289, RWL): Current limit, 1/256 of VC_FS -/
def MOT_RETCFG_RET_ILIM (n : Nat) : Fld := ⟨chBase n + 0x28003c, 8, 8, 0x80, .rwl⟩
/-- MOT.RETCFG.RET_HOLD (R289, RWL): Holding current, 1/256 of VC_FS -/
def MOT_RETCFG_RET_HOLD (n : Nat) : Fld := ⟨chBase n + 0x28003c, 16, 8, 0x40, .rwl⟩
/-- MOT.RETCFG.RET_TMO (R289, RWL): Park limit, 2 ms per unit; 0 taken as 1 -/
def MOT_RETCFG_RET_TMO (n : Nat) : Fld := ⟨chBase n + 0x28003c, 24, 4, 0xf, .rwl⟩
/-- MOT.CNT.LOSS_CNT (R289, RO): Rotor losses (R277) -/
def MOT_CNT_LOSS_CNT (n : Nat) : Fld := ⟨chBase n + 0x280040, 0, 8, 0x0, .ro⟩
/-- MOT.CNT.OC_CNT (R289, RO): Cut PWM periods (R262) -/
def MOT_CNT_OC_CNT (n : Nat) : Fld := ⟨chBase n + 0x280040, 8, 8, 0x0, .ro⟩
/-- MOT.CNT.VMOT_CNT (R289, RO): VMOT episodes (R263) -/
def MOT_CNT_VMOT_CNT (n : Nat) : Fld := ⟨chBase n + 0x280040, 16, 8, 0x0, .ro⟩
/-- MOT.CNT.RET_CNT (R289, RO): Completed retracts (R285) -/
def MOT_CNT_RET_CNT (n : Nat) : Fld := ⟨chBase n + 0x280040, 24, 8, 0x0, .ro⟩
/-- SCHED.FMT.FMT_RPM (R75, RO): Format speed N_f in rpm; 0 until the zone table is applied -/
def SCHED_FMT_FMT_RPM (n : Nat) : Fld := ⟨chBase n + 0x300000, 0, 14, 0x0, .ro⟩
/-- SCHED.FMT.SURFACES (R75, RO): Number of surfaces, 1–20 -/
def SCHED_FMT_SURFACES (n : Nat) : Fld := ⟨chBase n + 0x300000, 16, 5, 0x0, .ro⟩
/-- SCHED.FMT.ZTAB_VER (R75, RO): Zone table version from the image -/
def SCHED_FMT_ZTAB_VER (n : Nat) : Fld := ⟨chBase n + 0x300000, 24, 8, 0x0, .ro⟩
/-- SCHED.MAP_GEN.GEN (R75, RO): Increments by one at each map change; wraps from 0xFFFF to 0x0000 -/
def SCHED_MAP_GEN_GEN (n : Nat) : Fld := ⟨chBase n + 0x300004, 0, 16, 0x0, .ro⟩
/-- SCHED.DESC_REJ.REASON (R75, RO): Reason code from R65 of the first rejection while VALID is 0 -/
def SCHED_DESC_REJ_REASON (n : Nat) : Fld := ⟨chBase n + 0x300008, 0, 8, 0x0, .ro⟩
/-- SCHED.DESC_REJ.COUNT (R75, RO): Rejections since VALID was last cleared, saturating at 0xFFFF -/
def SCHED_DESC_REJ_COUNT (n : Nat) : Fld := ⟨chBase n + 0x300008, 8, 16, 0x0, .ro⟩
/-- SCHED.DESC_REJ.VALID (R75, W1C): 1: REASON holds a code; writing 1 clears VALID, REASON and COUNT -/
def SCHED_DESC_REJ_VALID (n : Nat) : Fld := ⟨chBase n + 0x300008, 31, 1, 0x0, .w1c⟩
/-- SCHED.DEFECT_STAT.GROWN_CNT (R75, RO): Entries in the grown lists of all surfaces, saturating at 0xFFFF -/
def SCHED_DEFECT_STAT_GROWN_CNT (n : Nat) : Fld := ⟨chBase n + 0x30000c, 0, 16, 0x0, .ro⟩
/-- SCHED.DEFECT_STAT.SPARE_LEFT (R75, RO): Free relocation slots on the channel, saturating at 0xFFFF -/
def SCHED_DEFECT_STAT_SPARE_LEFT (n : Nat) : Fld := ⟨chBase n + 0x30000c, 16, 16, 0x0, .ro⟩
/-- SCHED.SPECCFG.RA_EN (R379, RWL): 1: read-ahead under R369 -/
def SCHED_SPECCFG_RA_EN (n : Nat) : Fld := ⟨chBase n + 0x300010, 0, 1, 0x1, .rwl⟩
/-- SCHED.SPECCFG.SSEEK_EN (R379, RWL): 1: speculative seeks under R371 -/
def SCHED_SPECCFG_SSEEK_EN (n : Nat) : Fld := ⟨chBase n + 0x300010, 1, 1, 0x1, .rwl⟩
/-- SCHED.SPECCFG.RA_TRIG (R379, RWL): Consecutive sequential reads that start read-ahead; 0 is taken as 1 -/
def SCHED_SPECCFG_RA_TRIG (n : Nat) : Fld := ⟨chBase n + 0x300010, 4, 4, 0x2, .rwl⟩
/-- SCHED.SPECCFG.RA_DEPTH (R379, RWL): Signatures read ahead, 0–255 -/
def SCHED_SPECCFG_RA_DEPTH (n : Nat) : Fld := ⟨chBase n + 0x300010, 8, 8, 0x10, .rwl⟩
/-- SCHED.SPECSTAT.RA_VOID (R379, RO): Speculative fills voided under R370, saturating -/
def SCHED_SPECSTAT_RA_VOID (n : Nat) : Fld := ⟨chBase n + 0x300014, 0, 16, 0x0, .ro⟩
/-- SCHED.SPECSTAT.SSEEK_REDIR (R379, RO): Speculative seeks redirected, saturating -/
def SCHED_SPECSTAT_SSEEK_REDIR (n : Nat) : Fld := ⟨chBase n + 0x300014, 16, 8, 0x0, .ro⟩
/-- PAGE.ENABLE.EN (R569, RW): 1: check under R569; 0: disable under R13 -/
def PAGE_ENABLE_EN (n : Nat) : Fld := ⟨chBase n + 0x3f0000, 0, 1, 0x0, .rw⟩
/-- PAGE.ENABLE.PHASE (R569, RO): 0b000 disabled; 0b001 checking; 0b010 loading; 0b011 ready; 0b100 refused; others reserved -/
def PAGE_ENABLE_PHASE (n : Nat) : Fld := ⟨chBase n + 0x3f0000, 4, 3, 0x0, .ro⟩
/-- PAGE.ENABLE_STATUS.REASON (R569, RO): Last refusal, R569 -/
def PAGE_ENABLE_STATUS_REASON (n : Nat) : Fld := ⟨chBase n + 0x3f0004, 0, 8, 0x0, .ro⟩
/-- PAGE.ENABLE_STATUS.COUNT (R569, RO): Refusals, saturating -/
def PAGE_ENABLE_STATUS_COUNT (n : Nat) : Fld := ⟨chBase n + 0x3f0004, 8, 8, 0x0, .ro⟩

end F

/-- A register, or an array of registers of up to two indices: offset (from BAR2, or from the channel base), counts
and strides, and the fields of the register of channel n with indices i and j. -/
structure RegDesc where
  off : Nat
  c1 : Nat
  s1 : Nat
  c2 : Nat
  s2 : Nat
  flds : Nat → Nat → Nat → List Fld

namespace RegTab
open F

/-- The registers of GLB (R586). -/
def glb : List RegDesc := [
  ⟨0x0, 1, 0x4, 1, 0x4, fun _ _ _ => [GLB_ID_VENDOR, GLB_ID_DEVICE]⟩,
  ⟨0x4, 1, 0x4, 1, 0x4, fun _ _ _ => [GLB_REV_STEP, GLB_REV_DRAM_GIB, GLB_REV_PCH]⟩,
  ⟨0x8, 1, 0x4, 1, 0x4, fun _ _ _ => [GLB_VERSION_ROM_VER, GLB_VERSION_IMG_VER, GLB_VERSION_IMG_RB, GLB_VERSION_RECOVERY]⟩,
  ⟨0x10, 5, 0x4, 1, 0x4, fun _ k _ => [GLB_SERIAL_SERIAL k]⟩,
  ⟨0x40, 1, 0x4, 1, 0x4, fun _ _ _ => [GLB_EXPERT_UNLOCK_BLOCK, GLB_EXPERT_UNLOCK_CODE]⟩,
  ⟨0x44, 1, 0x4, 1, 0x4, fun _ _ _ => [GLB_EXPERT_STAT_CH_OPEN, GLB_EXPERT_STAT_HOST_OPEN, GLB_EXPERT_STAT_ARMED, GLB_EXPERT_STAT_ARM_PATH, GLB_EXPERT_STAT_FAIL_CNT]⟩,
  ⟨0x48, 1, 0x4, 1, 0x4, fun _ _ _ => [GLB_EXPERT_DENY_DENY]⟩,
  ⟨0x50, 1, 0x4, 1, 0x4, fun _ _ _ => [GLB_ACCERR_LOCKED_CNT, GLB_ACCERR_OFF_CNT, GLB_ACCERR_SIZE_CNT, GLB_ACCERR_CLR]⟩,
  ⟨0x54, 1, 0x4, 1, 0x4, fun _ _ _ => [GLB_ACCERR_ADDR_ADDR]⟩]

/-- The registers of FAULT (R586). -/
def fault : List RegDesc := [
  ⟨0x100000, 1, 0x4, 1, 0x4, fun _ _ _ => [FAULT_STAT_SAFE, FAULT_STAT_SEALED, FAULT_STAT_SELF, FAULT_STAT_ERR, FAULT_STAT_OVF, FAULT_STAT_LATCH_CNT]⟩,
  ⟨0x100004, 1, 0x4, 1, 0x4, fun _ _ _ => [FAULT_FIRST_SOURCE, FAULT_FIRST_CLASS, FAULT_FIRST_VALID]⟩,
  ⟨0x100008, 2, 0x4, 1, 0x4, fun _ h _ => [FAULT_FIRSTSEQ_SEQ h]⟩,
  ⟨0x100010, 1, 0x4, 1, 0x4, fun _ _ _ => [FAULT_CTL_CHIP_RST, FAULT_CTL_FORCE_SAFE]⟩,
  ⟨0x100100, 12, 0x4, 1, 0x4, fun _ i _ => [FAULT_STATUS_SRC i]⟩,
  ⟨0x100140, 12, 0x4, 1, 0x4, fun _ i _ => [FAULT_MASK_MASK i]⟩,
  ⟨0x100400, 384, 0x4, 1, 0x4, fun _ s _ => [FAULT_REACT_REACT s, FAULT_REACT_CLASS s, FAULT_REACT_COUNT s]⟩]

/-- The registers of COLO (R586). -/
def colo : List RegDesc := [
  ⟨0x110000, 4, 0x4, 1, 0x4, fun _ h _ => [COLO_SEQ_SEQ h]⟩,
  ⟨0x110010, 1, 0x4, 1, 0x4, fun _ _ _ => [COLO_STAT_UNMIRRORED, COLO_STAT_MIRROR, COLO_STAT_LOST, COLO_STAT_CLEAR_FAILS, COLO_STAT_LOCKOUT]⟩,
  ⟨0x110014, 1, 0x4, 1, 0x4, fun _ _ _ => [COLO_CHAL_CHAL]⟩,
  ⟨0x110018, 1, 0x4, 1, 0x4, fun _ _ _ => [COLO_CLEAR_RESP]⟩]

/-- The registers of CLK, PWR, RST (R586). -/
def clkPwrRst : List RegDesc := [
  ⟨0x200000, 1, 0x4, 1, 0x4, fun _ _ _ => [CLK_PLLSTAT_CH_LOCK, CLK_PLLSTAT_HOST_LOCK, CLK_PLLSTAT_XTAL_OK]⟩,
  ⟨0x200004, 1, 0x4, 1, 0x4, fun _ _ _ => [CLK_SSC_FAB_SS, CLK_SSC_NAND_SS, CLK_SSC_MGMT_SS]⟩,
  ⟨0x201000, 2, 0x4, 1, 0x4, fun _ h _ => [PWR_DOMSTAT_ON h]⟩,
  ⟨0x201008, 2, 0x4, 1, 0x4, fun _ h _ => [PWR_DOMCTL_REQ h]⟩,
  ⟨0x201010, 1, 0x4, 1, 0x4, fun _ _ _ => [PWR_SUPPLY_VIN_OK, PWR_SUPPLY_PLOSS, PWR_SUPPLY_STEP, PWR_SUPPLY_RAIL_TRIP, PWR_SUPPLY_VHOLD]⟩,
  ⟨0x201014, 1, 0x4, 1, 0x4, fun _ _ _ => [PWR_HOLDCFG_CKPT_THR, PWR_HOLDCFG_VHOLD_MIN, PWR_HOLDCFG_DIV]⟩,
  ⟨0x201018, 1, 0x4, 1, 0x4, fun _ _ _ => [PWR_TEMP_TJ, PWR_TEMP_TJ_MAX, PWR_TEMP_SENSOR]⟩,
  ⟨0x202000, 1, 0x4, 1, 0x4, fun _ _ _ => [RST_CAUSE_CAUSE]⟩,
  ⟨0x202004, 1, 0x4, 1, 0x4, fun _ _ _ => [RST_CHRST_REQ, RST_CHRST_IN_RST]⟩,
  ⟨0x202008, 1, 0x4, 1, 0x4, fun _ _ _ => [RST_BLKRST_REQ]⟩,
  ⟨0x202010, 1, 0x4, 1, 0x4, fun _ _ _ => [RST_BOOTSTAT_SLOT, RST_BOOTSTAT_RECOVERY, RST_BOOTSTAT_REJ0, RST_BOOTSTAT_REJ1, RST_BOOTSTAT_FUSE_RB, RST_BOOTSTAT_IMG_RB]⟩,
  ⟨0x202480, 1, 0x4, 1, 0x4, fun _ _ _ => [RST_FUSEPROG_KEY, RST_FUSEPROG_BLANK, RST_FUSEPROG_RESULT]⟩]

/-- The registers of NVME (R586). -/
def nvme : List RegDesc := [
  ⟨0x300000, 1, 0x4, 1, 0x4, fun _ _ _ => [NVME_PORTSTAT_BIF, NVME_PORTSTAT_RATE0, NVME_PORTSTAT_WIDTH0, NVME_PORTSTAT_RATE1, NVME_PORTSTAT_WIDTH1, NVME_PORTSTAT_DOWN_CNT]⟩,
  ⟨0x300004, 1, 0x4, 1, 0x4, fun _ _ _ => [NVME_INTAKE_FETCH_STOP, NVME_INTAKE_OPEN_CNT, NVME_INTAKE_ABORT_CNT]⟩,
  ⟨0x300008, 1, 0x4, 1, 0x4, fun _ _ _ => [NVME_DBERR_QID, NVME_DBERR_CQ, NVME_DBERR_CTRL, NVME_DBERR_VALID]⟩,
  ⟨0x300010, 1, 0x4, 1, 0x4, fun _ _ _ => [NVME_BKSTAT_ENTRIES, NVME_BKSTAT_EFF_WIN, NVME_BKSTAT_DRAM_ONLY]⟩,
  ⟨0x300014, 1, 0x4, 1, 0x4, fun _ _ _ => [NVME_BKCNT1_HITS]⟩,
  ⟨0x300018, 1, 0x4, 1, 0x4, fun _ _ _ => [NVME_BKCNT2_EARLY_EVICT, NVME_BKCNT2_MISMATCH]⟩,
  ⟨0x30001c, 1, 0x4, 1, 0x4, fun _ _ _ => [NVME_RLOCK_USED, NVME_RLOCK_PEAK, NVME_RLOCK_FULL, NVME_RLOCK_STRICT_NS, NVME_RLOCK_CLR]⟩]

/-- The registers of CACHE (R586). -/
def cache : List RegDesc := [
  ⟨0x400000, 1, 0x4, 1, 0x4, fun _ _ _ => [CACHE_CFG_EN, CACHE_CFG_FILL_EN, CACHE_CFG_OFFER_EN, CACHE_CFG_OFFER_MAX, CACHE_CFG_OFFER_TMO]⟩,
  ⟨0x400004, 1, 0x4, 1, 0x4, fun _ _ _ => [CACHE_STAT_PC_OFF, CACHE_STAT_SMALL, CACHE_STAT_OFFERED]⟩,
  ⟨0x400008, 1, 0x4, 1, 0x4, fun _ _ _ => [CACHE_WAYLOCK_LOCK, CACHE_WAYLOCK_REFUSED]⟩,
  ⟨0x400010, 1, 0x4, 1, 0x4, fun _ _ _ => [CACHE_MAINT_CMD_OP, CACHE_MAINT_CMD_SCOPE, CACHE_MAINT_CMD_TARGET_WAY, CACHE_MAINT_CMD_WAY_EN, CACHE_MAINT_CMD_NSID, CACHE_MAINT_CMD_GO]⟩,
  ⟨0x400014, 3, 0x4, 1, 0x4, fun _ h _ => [CACHE_MAINT_RANGE_VALUE h]⟩,
  ⟨0x400020, 1, 0x4, 1, 0x4, fun _ _ _ => [CACHE_MAINT_STAT_BUSY, CACHE_MAINT_STAT_INTERNAL, CACHE_MAINT_STAT_DONE, CACHE_MAINT_STAT_REJ, CACHE_MAINT_STAT_PERCENT]⟩,
  ⟨0x400024, 1, 0x4, 1, 0x4, fun _ _ _ => [CACHE_MCNT_LOCK_INV, CACHE_MCNT_PF_SKIP]⟩,
  ⟨0x400028, 1, 0x4, 1, 0x4, fun _ _ _ => [CACHE_DROPCNT_NOT_EN, CACHE_DROPCNT_VOID, CACHE_DROPCNT_RANGE, CACHE_DROPCNT_NO_VICTIM]⟩,
  ⟨0x400030, 2, 0x4, 1, 0x4, fun _ h _ => [CACHE_HITMISS_COUNT h]⟩,
  ⟨0x400038, 1, 0x4, 1, 0x4, fun _ _ _ => [CACHE_OFFERCNT_ACCEPTED, CACHE_OFFERCNT_DECLINED]⟩,
  ⟨0x400040, 1, 0x4, 1, 0x4, fun _ _ _ => [CACHE_TAGSEL_SET, CACHE_TAGSEL_WAY]⟩,
  ⟨0x400048, 2, 0x4, 1, 0x4, fun _ h _ => [CACHE_TAG_TAG h]⟩,
  ⟨0x408000, 1, 0x4, 1, 0x4, fun _ _ _ => [CACHE_FABCFG_STARVE_LIM, CACHE_FABCFG_UE_LIMIT, CACHE_FABCFG_PROMOTE_CNT]⟩,
  ⟨0x408004, 1, 0x4, 1, 0x4, fun _ _ _ => [CACHE_DRAMSTAT_PC_OK, CACHE_DRAMSTAT_TRAINED]⟩,
  ⟨0x408008, 16, 0x4, 1, 0x4, fun _ i _ => [CACHE_DRAMERR_CE_CNT i, CACHE_DRAMERR_UE_CNT i]⟩]

/-- The registers of REAM (R586). -/
def ream : List RegDesc := [
  ⟨0x500000, 16, 0x20, 1, 0x4, fun _ i _ => [REAM_POOLCFG_COUNT i, REAM_POOLCFG_SIZE i, REAM_POOLCFG_WB i, REAM_POOLCFG_EN i]⟩,
  ⟨0x500004, 16, 0x20, 1, 0x4, fun _ i _ => [REAM_POOLBASE_BASE i]⟩,
  ⟨0x500008, 16, 0x20, 1, 0x4, fun _ i _ => [REAM_POOLTHR_WARN i, REAM_POOLTHR_THROTTLE i, REAM_POOLTHR_STOP i]⟩,
  ⟨0x50000c, 16, 0x20, 1, 0x4, fun _ i _ => [REAM_POOLSTAT_FREE i, REAM_POOLSTAT_WARN i, REAM_POOLSTAT_THROTTLED i, REAM_POOLSTAT_STOPPED i, REAM_POOLSTAT_AUDIT i, REAM_POOLSTAT_WAITING i]⟩,
  ⟨0x500400, 1, 0x4, 1, 0x4, fun _ _ _ => [REAM_CFG_THR_GAP]⟩,
  ⟨0x500404, 1, 0x4, 1, 0x4, fun _ _ _ => [REAM_VIOL_OP, REAM_VIOL_REQ, REAM_VIOL_COUNT, REAM_VIOL_VALID]⟩,
  ⟨0x500408, 1, 0x4, 1, 0x4, fun _ _ _ => [REAM_VIOLH_HANDLE]⟩,
  ⟨0x500420, 9, 0x4, 1, 0x4, fun _ u _ => [REAM_USE_POOL u, REAM_USE_NONE u]⟩]

/-- The registers of DMA (R586). -/
def dma : List RegDesc := [
  ⟨0x600000, 8, 0x100, 2, 0x4, fun _ c h => [DMA_RING_RING c h]⟩,
  ⟨0x600008, 8, 0x100, 1, 0x4, fun _ c _ => [DMA_CTL_TAIL c, DMA_CTL_SIZE c, DMA_CTL_EN c, DMA_CTL_ABORT c, DMA_CTL_CLR_HALT c]⟩,
  ⟨0x60000c, 8, 0x100, 1, 0x4, fun _ c _ => [DMA_STAT_HEAD c, DMA_STAT_LAST c, DMA_STAT_BUSY c, DMA_STAT_HALTED c]⟩]

/-- The registers of GATH (R586). -/
def gath : List RegDesc := [
  ⟨0x700000, 4, 0x10, 1, 0x4, fun _ l _ => [GATH_LAYOUT_CHAN_MASK l, GATH_LAYOUT_K l, GATH_LAYOUT_M l, GATH_LAYOUT_SPARE l]⟩,
  ⟨0x700004, 4, 0x10, 1, 0x4, fun _ l _ => [GATH_EXTENT_EXTENT l]⟩,
  ⟨0x700008, 4, 0x10, 1, 0x4, fun _ l _ => [GATH_LSTAT_UNAVAIL l, GATH_LSTAT_LOST l, GATH_LSTAT_STATE l]⟩,
  ⟨0x700040, 1, 0x4, 1, 0x4, fun _ _ _ => [GATH_LAYOUT_COMMIT_LAYOUT, GATH_LAYOUT_COMMIT_COMMIT, GATH_LAYOUT_COMMIT_REASON]⟩,
  ⟨0x700044, 1, 0x4, 1, 0x4, fun _ _ _ => [GATH_CFG_LOSS_T, GATH_CFG_PACE, GATH_CFG_IDLE_BOOST]⟩,
  ⟨0x700048, 1, 0x4, 1, 0x4, fun _ _ _ => [GATH_REBUILD_LAYOUT, GATH_REBUILD_ACTIVE, GATH_REBUILD_RESYNC, GATH_REBUILD_PERCENT]⟩,
  ⟨0x70004c, 1, 0x4, 1, 0x4, fun _ _ _ => [GATH_CNT_RECON_CNT, GATH_CNT_UNREC]⟩]

/-- The registers of FLY (R586). -/
def fly : List RegDesc := [
  ⟨0x800000, 1, 0x4, 1, 0x4, fun _ _ _ => [FLY_ENABLE_EN, FLY_ENABLE_REASON]⟩,
  ⟨0x800004, 1, 0x4, 1, 0x4, fun _ _ _ => [FLY_CFG_SIZE_GIB, FLY_CFG_PACK_US, FLY_CFG_VFY_THR, FLY_CFG_WARM_EN, FLY_CFG_WARM_LOAD, FLY_CFG_SPARE_WARN]⟩,
  ⟨0x800008, 1, 0x4, 1, 0x4, fun _ _ _ => [FLY_GEOM_PAGES, FLY_GEOM_PLANES, FLY_GEOM_SYS_BLOCKS, FLY_GEOM_DIES]⟩,
  ⟨0x80000c, 1, 0x4, 1, 0x4, fun _ _ _ => [FLY_WM_HIGH, FLY_WM_LOW, FLY_WM_STOP, FLY_WM_IDLE_MS]⟩,
  ⟨0x800010, 1, 0x4, 1, 0x4, fun _ _ _ => [FLY_STAT_STATE, FLY_STAT_START_KIND, FLY_STAT_FG_GC, FLY_STAT_HOLD, FLY_STAT_FREE, FLY_STAT_SPARE]⟩,
  ⟨0x800018, 2, 0x4, 1, 0x4, fun _ h _ => [FLY_SEQ_SEQ h]⟩,
  ⟨0x800020, 1, 0x4, 1, 0x4, fun _ _ _ => [FLY_DIE_IN_SERVICE, FLY_DIE_DIE_FAIL_BLK]⟩,
  ⟨0x800024, 1, 0x4, 1, 0x4, fun _ _ _ => [FLY_ERRCNT_PROG_FAIL, FLY_ERRCNT_ERASE_FAIL, FLY_ERRCNT_VFY_FAIL, FLY_ERRCNT_COPY_RESTART]⟩]

/-- The registers of KET (R586). -/
def ket : List RegDesc := [
  ⟨0x900000, 1, 0x4, 1, 0x4, fun _ _ _ => [KET_ENABLE_EN, KET_ENABLE_REASON]⟩,
  ⟨0x900004, 1, 0x4, 1, 0x4, fun _ _ _ => [KET_CFG_ROLE, KET_CFG_NODE_IDX, KET_CFG_GROUP]⟩,
  ⟨0x900008, 1, 0x4, 1, 0x4, fun _ _ _ => [KET_PHCFG_U1_LIM, KET_PHCFG_PH_EN, KET_PHCFG_REF_RPM, KET_PHCFG_HOLD_T]⟩,
  ⟨0x90000c, 1, 0x4, 1, 0x4, fun _ _ _ => [KET_STAT_IN_LOCK, KET_STAT_SYNC_LOCK, KET_STAT_HEAD, KET_STAT_SEGMENT_HEAD, KET_STAT_HOLDOVER, KET_STAT_EPOCH_VALID, KET_STAT_RPM_MISMATCH, KET_STAT_OVERLENGTH, KET_STAT_INDEX, KET_STAT_G]⟩,
  ⟨0x900010, 1, 0x4, 1, 0x4, fun _ _ _ => [KET_DELAY_CABLE, KET_DELAY_VALID, KET_DELAY_ACC_IN]⟩,
  ⟨0x900014, 1, 0x4, 1, 0x4, fun _ _ _ => [KET_EPOCH_E, KET_EPOCH_MISS_CNT]⟩,
  ⟨0x900018, 1, 0x4, 1, 0x4, fun _ _ _ => [KET_VIBCFG_EN, KET_VIBCFG_BCAST_EN, KET_VIBCFG_MODE, KET_VIBCFG_DIV, KET_VIBCFG_READ_CMD]⟩,
  ⟨0x90001c, 1, 0x4, 1, 0x4, fun _ _ _ => [KET_VIBSTAT_SAMPLE, KET_VIBSTAT_RX_CNT]⟩,
  ⟨0x900020, 1, 0x4, 1, 0x4, fun _ _ _ => [KET_ERR_CRC_CNT, KET_ERR_PREEMPT_CNT, KET_ERR_U1_SAT]⟩]

/-- The registers of MEMPROT (R586). -/
def memprot : List RegDesc := [
  ⟨0xa00000, 1, 0x4, 1, 0x4, fun _ _ _ => [MEMPROT_CE_COUNT, MEMPROT_CE_LOG_OVF]⟩,
  ⟨0xa00004, 1, 0x4, 1, 0x4, fun _ _ _ => [MEMPROT_UE_LAST_MACRO, MEMPROT_UE_COUNT, MEMPROT_UE_BUSERR_CNT]⟩,
  ⟨0xa00010, 1, 0x4, 1, 0x4, fun _ _ _ => [MEMPROT_FLIPCTL_MACRO, MEMPROT_FLIPCTL_ARM, MEMPROT_FLIPCTL_FIRED]⟩,
  ⟨0xa00014, 3, 0x4, 1, 0x4, fun _ h _ => [MEMPROT_FLIPMASK_MASK h]⟩,
  ⟨0xa00020, 1, 0x4, 1, 0x4, fun _ _ _ => [MEMPROT_REMAP_SEL, MEMPROT_REMAP_USED, MEMPROT_REMAP_BIST_FAIL]⟩,
  ⟨0xa00100, 8, 0x8, 1, 0x4, fun _ e _ => [MEMPROT_LOG_MACRO e, MEMPROT_LOG_SYNDROME e, MEMPROT_LOG_VALID e]⟩,
  ⟨0xa00104, 8, 0x8, 1, 0x4, fun _ e _ => [MEMPROT_LOGA_WORD e]⟩]

/-- The registers of the channel sub-block AFE (R586). -/
def chAfe : List RegDesc := [
  ⟨0x0, 4, 0x1000, 1, 0x4, fun n p _ => [AFE_INCFG_RD_EN n p, AFE_INCFG_TERM_EN n p, AFE_INCFG_CTLE_BOOST n p, AFE_INCFG_ADC_FS n p]⟩,
  ⟨0x20, 4, 0x1000, 1, 0x4, fun n p _ => [AFE_WRCFG_PC1 n p, AFE_WRCFG_PC2 n p, AFE_WRCFG_WD_SWING n p]⟩,
  ⟨0x24, 4, 0x1000, 1, 0x4, fun n p _ => [AFE_WRSTAT_LAST n p, AFE_WRSTAT_TORN_CNT n p]⟩,
  ⟨0x8000, 1, 0x4, 1, 0x4, fun n _ _ => [AFE_WRGATE_OFFTRK_THR n, AFE_WRGATE_SQUEEZE_THR n, AFE_WRGATE_WR_RETRY n, AFE_WRGATE_VFY_MODE n, AFE_WRGATE_SHOCK_EN n, AFE_WRGATE_VFY_ITER n]⟩,
  ⟨0x8004, 1, 0x4, 1, 0x4, fun n _ _ => [AFE_WRFLT_PFLT n, AFE_WRFLT_HEAD n, AFE_WRFLT_PA_STAT n, AFE_WRFLT_OFFTRK_CNT n]⟩,
  ⟨0x8008, 1, 0x4, 1, 0x4, fun n _ _ => [AFE_WRINH_INH n]⟩]

/-- The registers of the channel sub-block DET (R586). -/
def chDet : List RegDesc := [
  ⟨0x80000, 4, 0x1000, 1, 0x4, fun n p _ => [DET_AGC_GAIN0 n p, DET_AGC_GAIN1 n p, DET_AGC_GAIN2 n p, DET_AGC_DROP n p]⟩,
  ⟨0x80004, 4, 0x1000, 1, 0x4, fun n p _ => [DET_AGCCTL_TARGET n p, DET_AGCCTL_ACQ_STEP n p, DET_AGCCTL_TRK_STEP n p, DET_AGCCTL_HOLD n p]⟩,
  ⟨0x80008, 4, 0x1000, 1, 0x4, fun n p _ => [DET_TIMING_KP_ACQ n p, DET_TIMING_KI_ACQ n p, DET_TIMING_KP_TRK n p, DET_TIMING_KI_TRK n p, DET_TIMING_FREQ_OFS n p]⟩,
  ⟨0x8000c, 4, 0x1000, 1, 0x4, fun n p _ => [DET_EQCTL_MU n p, DET_EQCTL_ADAPT_EN n p, DET_EQCTL_DC_EN n p, DET_EQCTL_ASYM_EN n p, DET_EQCTL_SAVE_EN n p, DET_EQCTL_MSE n p]⟩,
  ⟨0x80010, 4, 0x1000, 1, 0x4, fun n p _ => [DET_SSTAT_FREE n p, DET_SSTAT_PINNED n p, DET_SSTAT_THRESH n p, DET_SSTAT_CNT_CLR n p, DET_SSTAT_NOT_CAPT n p]⟩,
  ⟨0x80014, 4, 0x1000, 1, 0x4, fun n p _ => [DET_ERRCNT_FP_FAIL n p, DET_ERRCNT_SLIP_AMBIG n p, DET_ERRCNT_RDROP n p]⟩,
  ⟨0x80100, 4, 0x1000, 36, 0x4, fun n p i => [DET_EQCOEF_COEF n p i]⟩,
  ⟨0x88000, 1, 0x4, 1, 0x4, fun n _ _ => [DET_SYNCCFG_SYNC_THR n, DET_SYNCCFG_RESUME_THR n]⟩,
  ⟨0x88004, 1, 0x4, 1, 0x4, fun n _ _ => [DET_ITER_ITER_FIRST n, DET_ITER_ITER_MAX n]⟩,
  ⟨0x88008, 1, 0x4, 1, 0x4, fun n _ _ => [DET_LADDERSTAT_FG_ACTIVE n, DET_LADDERSTAT_BG_ACTIVE n, DET_LADDERSTAT_BG_RECOVERED n]⟩,
  ⟨0x88100, 16, 0x4, 1, 0x4, fun n k _ => [DET_LADDER_OP n k, DET_LADDER_ITER n k, DET_LADDER_ALT n k, DET_LADDER_RMASK n k, DET_LADDER_OFFSET n k, DET_LADDER_AGC_HOLD n k, DET_LADDER_BG_ONLY n k]⟩]

/-- The registers of the channel sub-block STITCH (R586). -/
def chStitch : List RegDesc := [
  ⟨0x100000, 1, 0x4, 1, 0x4, fun n _ _ => [STITCH_VERSION_BASE_VER n, STITCH_VERSION_PATCH_LEVEL n, STITCH_VERSION_AUTH n, STITCH_VERSION_LOADED n]⟩,
  ⟨0x100004, 1, 0x4, 1, 0x4, fun n _ _ => [STITCH_LOADSTAT_CODE n, STITCH_LOADSTAT_SEG n]⟩,
  ⟨0x100008, 1, 0x4, 1, 0x4, fun n _ _ => [STITCH_CTL_HALT n, STITCH_CTL_STEP n]⟩,
  ⟨0x10000c, 1, 0x4, 1, 0x4, fun n _ _ => [STITCH_WDOG_LIMIT n]⟩,
  ⟨0x100100, 4, 0x40, 1, 0x4, fun n p _ => [STITCH_STAT_PC n p, STITCH_STAT_STATE n p, STITCH_STAT_SP n p, STITCH_STAT_HCODE n p, STITCH_STAT_LAST_ABT n p]⟩,
  ⟨0x100104, 4, 0x40, 1, 0x4, fun n p _ => [STITCH_FRAMEN_RPC n p, STITCH_FRAMEN_Z n p, STITCH_FRAMEN_N n p, STITCH_FRAMEN_C n p, STITCH_FRAMEN_WAITING n p, STITCH_FRAMEN_SP n p, STITCH_FRAMEN_VEC n p, STITCH_FRAMEN_ACTIVE n p]⟩,
  ⟨0x100108, 4, 0x40, 1, 0x4, fun n p _ => [STITCH_FRAMEH_RPC n p, STITCH_FRAMEH_Z n p, STITCH_FRAMEH_N n p, STITCH_FRAMEH_C n p, STITCH_FRAMEH_WAITING n p, STITCH_FRAMEH_SP n p, STITCH_FRAMEH_VEC n p, STITCH_FRAMEH_ACTIVE n p]⟩,
  ⟨0x10010c, 4, 0x40, 1, 0x4, fun n p _ => [STITCH_FRAMEDATA_DATA_N n p, STITCH_FRAMEDATA_DATA_H n p]⟩,
  ⟨0x100110, 4, 0x40, 1, 0x4, fun n p _ => [STITCH_ABTRES_RESULT n p]⟩]

/-- The registers of the channel sub-block CTL (R586). -/
def chCtl : List RegDesc := [
  ⟨0x180000, 1, 0x4, 1, 0x4, fun n _ _ => [CTL_STAT_PLAUS n, CTL_STAT_SEEKING n, CTL_STAT_LOADED n, CTL_STAT_ONTRK n, CTL_STAT_EVENTS n]⟩,
  ⟨0x180004, 1, 0x4, 1, 0x4, fun n _ _ => [CTL_LOOPEN_EN n]⟩,
  ⟨0x180008, 1, 0x4, 1, 0x4, fun n _ _ => [CTL_SWAP_REQ n]⟩,
  ⟨0x18000c, 1, 0x4, 1, 0x4, fun n _ _ => [CTL_BANKSTAT_ACTIVE n, CTL_BANKSTAT_PEND n, CTL_BANKSTAT_INACT_OK n, CTL_BANKSTAT_REFUSED n]⟩,
  ⟨0x180010, 1, 0x4, 1, 0x4, fun n _ _ => [CTL_SWAP_COLLIDE_LOOP n, CTL_SWAP_COLLIDE_HELD_CNT n, CTL_SWAP_COLLIDE_CLR n]⟩,
  ⟨0x180020, 1, 0x4, 1, 0x4, fun n _ _ => [CTL_SEEKCFG_SHORT_LEN n, CTL_SEEKCFG_SEEK_TMO n, CTL_SEEKCFG_REDIR_DECAY n, CTL_SEEKCFG_SEEK_JUMP n]⟩,
  ⟨0x180024, 1, 0x4, 1, 0x4, fun n _ _ => [CTL_ONTRK_ONTRK_THR n, CTL_ONTRK_ONTRK_CNT n, CTL_ONTRK_JUMP_THR n, CTL_ONTRK_MISS_LIMIT n, CTL_ONTRK_SUM_MIN n]⟩,
  ⟨0x180028, 1, 0x4, 1, 0x4, fun n _ _ => [CTL_SEEKSTAT_SEEKS n, CTL_SEEKSTAT_TMO_CNT n]⟩,
  ⟨0x180030, 1, 0x4, 1, 0x4, fun n _ _ => [CTL_RROCFG_LEARN_THR n, CTL_RROCFG_LEARN_MU n, CTL_RROCFG_BG_EN n, CTL_RROCFG_BG_MU n]⟩,
  ⟨0x180034, 1, 0x4, 1, 0x4, fun n _ _ => [CTL_RROSTAT_CONV n, CTL_RROSTAT_LEARNING n]⟩,
  ⟨0x180038, 1, 0x4, 1, 0x4, fun n _ _ => [CTL_LEARNPROG_REVS0 n, CTL_LEARNPROG_REVS1 n, CTL_LEARNPROG_REVS2 n, CTL_LEARNPROG_REVS3 n]⟩,
  ⟨0x180040, 1, 0x4, 1, 0x4, fun n _ _ => [CTL_FFCFG_VIB_EN n, CTL_FFCFG_SHOCK_FF_EN n, CTL_FFCFG_STALE n, CTL_FFCFG_STALE_CNT n]⟩,
  ⟨0x180044, 5, 0x4, 1, 0x4, fun n j _ => [CTL_FFW_W n j]⟩,
  ⟨0x180060, 1, 0x4, 1, 0x4, fun n _ _ => [CTL_SHOCK_SHOCK_THR n, CTL_SHOCK_SHOCK_HOLD n, CTL_SHOCK_SHOCK_CNT n]⟩,
  ⟨0x180064, 1, 0x4, 1, 0x4, fun n _ _ => [CTL_FALINK_TX_EN n, CTL_FALINK_FRAME_CNT n]⟩,
  ⟨0x180070, 1, 0x4, 1, 0x4, fun n _ _ => [CTL_SPSTAT_D_WAIT n, CTL_SPSTAT_LOST n]⟩,
  ⟨0x180100, 6, 0x20, 1, 0x4, fun n l _ => [CTL_SUPCFG_RESID_THR n l, CTL_SUPCFG_RESID_CNT n l, CTL_SUPCFG_RECOVER_CNT n l, CTL_SUPCFG_SEEK_SHIFT n l, CTL_SUPCFG_CLR n l]⟩,
  ⟨0x180104, 6, 0x20, 1, 0x4, fun n l _ => [CTL_SUPSTAT_RESID_MAX n l, CTL_SUPSTAT_IMPL_CNT n l, CTL_SUPSTAT_MISS_CNT n l]⟩,
  ⟨0x180108, 6, 0x20, 1, 0x4, fun n l _ => [CTL_LIMSTAT_SAT_CNT n l]⟩]

/-- The registers of the channel sub-block HINGE (R586). -/
def chHinge : List RegDesc := [
  ⟨0x200000, 1, 0x4, 1, 0x4, fun n _ _ => [HINGE_STAT_IN_CTRL n, HINGE_STAT_A_STATE n, HINGE_STAT_B_STATE n, HINGE_STAT_GAP n, HINGE_STAT_OVERLAP n, HINGE_STAT_SHADOW_CNT n, HINGE_STAT_LAST_CAUSE n, HINGE_STAT_FAILS_A n, HINGE_STAT_FAILS_B n]⟩,
  ⟨0x200004, 1, 0x4, 1, 0x4, fun n _ _ => [HINGE_CFG_HB_LIMIT n, HINGE_CFG_TB_EN n, HINGE_CFG_WR_RESUME n, HINGE_CFG_AGREE_THR n, HINGE_CFG_DIS_CNT n, HINGE_CFG_RETRY_LIMIT n, HINGE_CFG_COPY_LIMIT n]⟩,
  ⟨0x200008, 1, 0x4, 1, 0x4, fun n _ _ => [HINGE_CTL_FORCE n]⟩,
  ⟨0x20000c, 1, 0x4, 1, 0x4, fun n _ _ => [HINGE_CNT_SWITCH_CNT n, HINGE_CNT_TAKEBACK_CNT n, HINGE_CNT_COPY_ERR_CNT n]⟩]

/-- The registers of the channel sub-block MOT (R586). -/
def chMot : List RegDesc := [
  ⟨0x280000, 1, 0x4, 1, 0x4, fun n _ _ => [MOT_STAT_STATE n, MOT_STAT_ROT n, MOT_STAT_IN_TOL n, MOT_STAT_ABOVE_FLY n, MOT_STAT_DEPTH_LIM n, MOT_STAT_VMOT_LIM n, MOT_STAT_RETRACTING n, MOT_STAT_PARKED n, MOT_STAT_SPEED n]⟩,
  ⟨0x280004, 1, 0x4, 1, 0x4, fun n _ _ => [MOT_CMD_OP n]⟩,
  ⟨0x280008, 1, 0x4, 1, 0x4, fun n _ _ => [MOT_START_STAT_CASE n, MOT_START_STAT_SENSE_SPEED n]⟩,
  ⟨0x28000c, 1, 0x4, 1, 0x4, fun n _ _ => [MOT_PWMCFG_WIN n, MOT_PWMCFG_DEADTIME n, MOT_PWMCFG_SLEW n, MOT_PWMCFG_VC_SLEW n]⟩,
  ⟨0x280010, 1, 0x4, 1, 0x4, fun n _ _ => [MOT_DEPTHSTAT_DEPTH n, MOT_DEPTHSTAT_LIM_CNT n]⟩,
  ⟨0x280014, 1, 0x4, 1, 0x4, fun n _ _ => [MOT_CUR_I_FS n, MOT_CUR_OC_THR n, MOT_CUR_I_ALIGN n, MOT_CUR_I_ACCEL n]⟩,
  ⟨0x280018, 1, 0x4, 1, 0x4, fun n _ _ => [MOT_CURPI_KP n, MOT_CURPI_KI n]⟩,
  ⟨0x28001c, 1, 0x4, 1, 0x4, fun n _ _ => [MOT_STARTCFG_ALIGN_T n, MOT_STARTCFG_OL_ACCEL n, MOT_STARTCFG_SPINUP_TMO n, MOT_STARTCFG_HANDOVER n]⟩,
  ⟨0x280020, 1, 0x4, 1, 0x4, fun n _ _ => [MOT_BRAKE_VMOT_SOFT n, MOT_BRAKE_VMOT_MAX n, MOT_BRAKE_I_BRAKE n, MOT_BRAKE_BRAKE_TMO n]⟩,
  ⟨0x280024, 1, 0x4, 1, 0x4, fun n _ _ => [MOT_VMOT_VMOT n, MOT_VMOT_DIV n]⟩,
  ⟨0x280028, 1, 0x4, 1, 0x4, fun n _ _ => [MOT_OBS_SPD_THR n, MOT_OBS_ANG_THR n, MOT_OBS_PLL_BW n]⟩,
  ⟨0x28002c, 1, 0x4, 1, 0x4, fun n _ _ => [MOT_MODEL0_R_S n, MOT_MODEL0_L_S n]⟩,
  ⟨0x280030, 1, 0x4, 1, 0x4, fun n _ _ => [MOT_MODEL1_K_E n, MOT_MODEL1_ISENSE_FS n]⟩,
  ⟨0x280034, 1, 0x4, 1, 0x4, fun n _ _ => [MOT_RUNCFG_DIR n, MOT_RUNCFG_ACC_TOL n, MOT_RUNCFG_ACC_CNT n]⟩,
  ⟨0x280038, 1, 0x4, 1, 0x4, fun n _ _ => [MOT_VCM_VC_FS n, MOT_VCM_RET_DIR n, MOT_VCM_VC_R n]⟩,
  ⟨0x28003c, 1, 0x4, 1, 0x4, fun n _ _ => [MOT_RETCFG_RET_VEL n, MOT_RETCFG_RET_ILIM n, MOT_RETCFG_RET_HOLD n, MOT_RETCFG_RET_TMO n]⟩,
  ⟨0x280040, 1, 0x4, 1, 0x4, fun n _ _ => [MOT_CNT_LOSS_CNT n, MOT_CNT_OC_CNT n, MOT_CNT_VMOT_CNT n, MOT_CNT_RET_CNT n]⟩]

/-- The registers of the channel sub-block SCHED (R586). -/
def chSched : List RegDesc := [
  ⟨0x300000, 1, 0x4, 1, 0x4, fun n _ _ => [SCHED_FMT_FMT_RPM n, SCHED_FMT_SURFACES n, SCHED_FMT_ZTAB_VER n]⟩,
  ⟨0x300004, 1, 0x4, 1, 0x4, fun n _ _ => [SCHED_MAP_GEN_GEN n]⟩,
  ⟨0x300008, 1, 0x4, 1, 0x4, fun n _ _ => [SCHED_DESC_REJ_REASON n, SCHED_DESC_REJ_COUNT n, SCHED_DESC_REJ_VALID n]⟩,
  ⟨0x30000c, 1, 0x4, 1, 0x4, fun n _ _ => [SCHED_DEFECT_STAT_GROWN_CNT n, SCHED_DEFECT_STAT_SPARE_LEFT n]⟩,
  ⟨0x300010, 1, 0x4, 1, 0x4, fun n _ _ => [SCHED_SPECCFG_RA_EN n, SCHED_SPECCFG_SSEEK_EN n, SCHED_SPECCFG_RA_TRIG n, SCHED_SPECCFG_RA_DEPTH n]⟩,
  ⟨0x300014, 1, 0x4, 1, 0x4, fun n _ _ => [SCHED_SPECSTAT_RA_VOID n, SCHED_SPECSTAT_SSEEK_REDIR n]⟩]

/-- The registers of the channel sub-block PAGE (R586). -/
def chPage : List RegDesc := [
  ⟨0x3f0000, 1, 0x4, 1, 0x4, fun n _ _ => [PAGE_ENABLE_EN n, PAGE_ENABLE_PHASE n]⟩,
  ⟨0x3f0004, 1, 0x4, 1, 0x4, fun n _ _ => [PAGE_ENABLE_STATUS_REASON n, PAGE_ENABLE_STATUS_COUNT n]⟩]

end RegTab

/-- The register of a list that lies at an offset, with its indices. -/
def findReg (n off : Nat) : List RegDesc → Option (List Fld)
  | [] => none
  | d :: ds =>
    let x := off - d.off
    let i := if d.c2 ≤ 1 ∨ d.s2 < d.s1 then x / d.s1 else x % d.s2 / d.s1
    let j := if d.c2 ≤ 1 then 0 else if d.s2 < d.s1 then x % d.s1 / d.s2 else x / d.s2
    if d.off ≤ off ∧ i < d.c1 ∧ j < d.c2 ∧ off = d.off + i * d.s1 + j * d.s2 then some (d.flds n i j)
    else findReg n off ds

/-- The registers of a window or of a channel sub-block, by the address's block (R570, R571). -/
def blockRegs (a : Nat) : List RegDesc :=
  if a < 0x100000 then RegTab.glb
  else if a < 0x110000 then RegTab.fault
  else if a < 0x200000 then RegTab.colo
  else if a < 0x300000 then RegTab.clkPwrRst
  else if a < 0x400000 then RegTab.nvme
  else if a < 0x500000 then RegTab.cache
  else if a < 0x600000 then RegTab.ream
  else if a < 0x700000 then RegTab.dma
  else if a < 0x800000 then RegTab.gath
  else if a < 0x900000 then RegTab.fly
  else if a < 0xA00000 then RegTab.ket
  else if a < 0xB00000 then RegTab.memprot
  else if a < 0x2000000 then []
  else
    let o := (a - 0x2000000) % 0x400000
    if o < 0x80000 then RegTab.chAfe
    else if o < 0x100000 then RegTab.chDet
    else if o < 0x180000 then RegTab.chStitch
    else if o < 0x200000 then RegTab.chCtl
    else if o < 0x280000 then RegTab.chHinge
    else if o < 0x300000 then RegTab.chMot
    else if o < 0x3F0000 then RegTab.chSched
    else RegTab.chPage

/-- The fields of the 32 bit register at byte address `a`; none where no register is described (R572). -/
def regAt (a : Nat) : Option (List Fld) :=
  if a < 0x2000000 then findReg 0 a (blockRegs a)
  else findReg ((a - 0x2000000) / 0x400000) ((a - 0x2000000) % 0x400000) (blockRegs a)

end Sys2Proof.Machine
end

