-- ==== Sys2Proof/Machine/State.lean ====
section
/-! DEFINITION. The state of the ON8C as plain data: the waiting commands, the register fields, and every piece of state
the spec gives a block beyond its registers. The two reasons a command can stop, and the state after reset. -/

namespace Sys2Proof.Machine

/-! ### Stitchers and paths (chapters 3 to 5) -/

/-- A trap frame of a Stitcher (R162). -/
structure Frame where
  rpc     : BitVec 13
  z       : Bool
  n       : Bool
  c       : Bool
  waiting : Bool
  sp      : Nat
  vec     : BitVec 4
  data    : W16
  active  : Bool
  deriving DecidableEq, Repr

/-- What a Stitcher is doing (CHn.STITCH.STATp.STATE): waiting in FETCH, executing, waiting for an event, or halted
under R174. Halting by CTL.HALT is read from that field; trap levels from the frames. -/
inductive StMode where
  | idle
  | running
  | waiting (ev : Fin 32)
  | halted
  deriving DecidableEq, Repr

/-- One Stitcher (R155 to R174). -/
structure Stitcher where
  r        : Vector W16 32
  z        : Bool
  n        : Bool
  c        : Bool
  pc       : BitVec 13
  lc       : Vector W16 4
  /-- return addresses, the newest first; at most eight (R157) -/
  stack    : List (BitVec 13)
  /-- event latches (R150) -/
  ev       : BitVec 32
  tmask    : W16
  tpend    : W16
  frN      : Frame
  frH      : Frame
  mode     : StMode
  hcode    : Byte
  lastAbt  : Bool
  abtRes   : BitVec 20
  /-- the current descriptor -/
  cur      : Option Desc
  /-- descriptors the scheduler has handed over and FETCH has not taken (R168) -/
  handed   : List Desc
  prefetch : Option Desc
  /-- PREFETCH was executed and no descriptor delivered since (R171) -/
  wantPre  : Bool
  /-- Stitchers that signalled since the last PEER trap (R159) -/
  peers    : BitVec 4
  /-- DATA of the last STORE_ERR, STACK_ERR or ILLEGAL, and of the last SOFT trap -/
  errData  : W16
  softData : W16
  /-- last write result code, DATA of WRITE_FAULT; flags of the last framing, DATA of SYNC; action of the last late arm -/
  wrCode   : W16
  syncFlags : W16
  lateAct  : W16
  /-- TAG of the work item of the last ABORT, its DATA (R159) -/
  abtTag   : W16
  /-- ARM_SLOT port (R152) -/
  armSlot  : BitVec 11
  /-- the last wedge of the Stitcher's surface (R152): binary track, invalid; number, invalid; index -/
  wtrk     : W24
  wtrkBad  : Bool
  wnum     : BitVec 9
  wnumBad  : Bool
  widx     : Bool
  /-- watchdog of R173: 0 stopped, 1 running, 2 after the first expiry -/
  wd       : Fin 3
  deriving DecidableEq, Repr

/-- The action armed on a path (R153). -/
structure Arm where
  /-- 1 CAPTURE, 2 WRITE, 3 VERIFY, 4 SCAN, 5 RAW -/
  act    : Fin 6
  slot   : Nat
  /-- parts that have not begun -/
  left   : Nat
  /-- the window in which the next part begins -/
  window : Nat
  /-- the channel bit of the sector at which the next part begins (R56) -/
  pos    : Nat
  /-- a part is open (write) or being captured -/
  isOpen : Bool
  /-- a part has begun -/
  begun  : Bool
  /-- COMMIT written since the last part was armed (R154) -/
  commit : Bool
  /-- a cause of R139 has parked the open gate; its code -/
  cause  : Option Nat
  deriving DecidableEq, Repr

/-- A sector being captured: what the parts so far have given (R94, R100). -/
structure Capturing where
  /-- the signals of the readers at the sample times of the parts, end to end; how many are the first part's, for a split sector -/
  sig    : List (Vector Int 3)
  cut    : Option Nat
  /-- the signals of the resync field before the second part -/
  resync : List (Vector Int 3)
  /-- sample times of thermal-asperity flags -/
  ta     : List Nat
  deriving DecidableEq, Repr

/-- A buffer of the sample store that holds a sector (R94): the action and descriptor that captured it; its 7-bit samples; the
sample times of its first part, for a split sector, and the offset of the resume mark when that was found (R100); asperity flags;
readers dropped (R84); a word has an uncorrectable error; the gains, 1/65,536 of 0.125 dB, and the frequency offset, 2^-32, in which
the loops ended. -/
structure SampleBuf where
  act    : Fin 6
  desc   : Desc
  run    : List (Vector Int 3)
  cut    : Option Nat
  resume : Option Int
  ta     : List Nat
  drop   : BitVec 3
  bad    : Bool
  gains  : Vector Int 3
  freq   : Int
  deriving DecidableEq, Repr

/-- A sector in the write FIFO (R126): its CRC-32C matched, differed, or a FIFO word has a memory error. -/
inductive FifoSec where
  | good | differs | broken
  deriving DecidableEq, Repr

/-- A frame of the preamplifier control port: read, address, data (R121). -/
structure PaFrame where
  rd   : Bool
  addr : BitVec 7
  data : W16
  deriving DecidableEq, Repr

/-- The hardware of one path beyond its registers. -/
structure PathSt where
  arm      : Option Arm
  /-- the sector being captured, and the sectors in the sample store that wait for their first-pass decode, the oldest first; free
  and pinned buffers are counted in SSTATp (R92, R95) -/
  cap      : Capturing
  wait     : List SampleBuf
  /-- values of the baseline and asymmetry loops, 1/65,536 ADC step (R81) -/
  dc       : Vector Int 3
  asym     : Vector Int 3
  /-- write FIFO: fetching; the sectors held, the oldest first; at most two (R126) -/
  wfFetch  : Bool
  fifo     : List FifoSec
  /-- preamplifier frames requested and not completed (R121) -/
  pa       : List PaFrame
  /-- the head last selected (R121) and the zone requested (R80); the head and zone whose coefficients are loaded (R82) -/
  head     : Option Nat
  zone     : Option Nat
  loaded   : Option (Nat × Nat)
  fePower  : Bool
  /-- CLK_WR at the zone requested (R80) -/
  zoneOk   : Bool
  /-- a gate parked with an error above SQUEEZE_THR since the last work item of the path ended (R134) -/
  squeeze  : Bool
  /-- the channel bits that the write-data pair drove in the last part, and how much earlier each transition was written, 1/64 bit
  (R119, R123) -/
  wdata    : List Bool
  wshift   : List Nat
  deriving DecidableEq, Repr

/-- The use of a work item (R169). -/
inductive ItemKind where
  | hostRead | hostWrite | destage | spec | rewrite | verify | recheck | ladder | scan | learn | format | rawCap | image
  deriving DecidableEq, Repr

/-- A work item of a channel's work ring, or taken and running (R63, R168). -/
structure Item where
  desc   : Desc
  kind   : ItemKind
  /-- fetch numbers of the commands it serves -/
  cmds   : List Nat
  /-- per path: the namespace and logical block of its sector; the media class (0 Urgent, 1 Normal, 2 Bulk, 3 below) -/
  lb     : Vector (Option (Nat × Nat)) 4
  cls    : Nat
  /-- chosen by the scheduler; handed to its Stitchers and its seek started (R168, R171) -/
  taken  : Bool
  sought : Bool
  /-- per path: the result word of its last sector, ended by DONE with END, ended on an abort -/
  res    : Vector (Option Nat) 4
  ended  : Vector Bool 4
  abt    : Vector Bool 4
  /-- aborted by a rotor loss or a fence: placed again when its paths have ended (R278, R13) -/
  again  : Bool
  /-- per path: write retries made (R134), rewrites after a failed verify (R137) -/
  retry  : Vector Nat 4
  vfail  : Vector Nat 4
  /-- per path: the retry of R136 after a preamplifier fault has been made -/
  paRetry : Vector Bool 4
  /-- the layout and stripe of the GATH update it is part of (R425) -/
  stripe : Option (Nat × Nat)
  deriving DecidableEq, Repr

/-- A sector to carry: its channel block, buffer and logical block; a fixed slot when it lies in a spare strip (R437). -/
structure Sector where
  blk : Nat
  hdl : Nat
  lb  : Option (Nat × Nat)
  fix : Option SlotId := none
  deriving DecidableEq, Repr

/-- The values with which a ladder step runs (R105, R117). -/
structure StepRun where
  op     : Nat
  budget : Nat
  alt    : Nat
  rmask  : BitVec 3
  offset : Int
  hold   : Bool
  deriving DecidableEq, Repr

/-- A retry ladder of one sector (R104 to R111). -/
structure Ladder where
  path : Pa
  pos  : SlotId
  /-- the one-path descriptor of its REREADs -/
  desc : Desc
  step : Nat
  /-- the step in progress (R106, R117) -/
  run  : Option StepRun
  /-- the samples kept in a pinned buffer (R106) -/
  kept : Option SampleBuf
  /-- the gains in which the last pass ended (R105) -/
  gains : Vector Int 3
  /-- the work item whose sector it is of (R113) -/
  tag  : W16
  /-- fetch numbers of the attached commands -/
  cmds : List Nat
  /-- the submission queues of every command that ever attached (R110): 131,072 × controller + queue -/
  ever : List Nat
  /-- a write to the sector was accepted; fetch numbers below this one keep the foreground (R107) -/
  barrier : Option Nat
  /-- logical block, or none for a sector of no namespace (R111) -/
  lblk : Option (Nat × Nat)
  deriving DecidableEq, Repr

/-- A run of channel blocks taken by a namespace (its identifier) or by a layout (R70). -/
structure Run where
  base   : Nat
  len    : Nat
  layout : Bool
  owner  : Nat
  deriving DecidableEq, Repr

/-- The defect lists in a channel's system area (R71): slots and wedges of the primary list, and the grown list. -/
structure SysArea where
  prim   : List SlotId
  wedges : List (Nat × Nat × Nat)
  grown  : List Reloc
  deriving DecidableEq, Repr

/-- A recovered sector that waits for a buffer to be written back from (R111, R484): slot, logical block, content. -/
structure Rewrite where
  pos : SlotId
  lb  : Option (Nat × Nat)
  blk : Block
  deriving DecidableEq, Repr

/-- The media scheduler, defect and map state of a channel (chapter 2). -/
structure Sched where
  ring    : List Item
  ladders : List Ladder
  nextTag : Nat
  prim    : List SlotId
  wedges  : List (Nat × Nat × Nat)
  grown   : List Reloc
  runs    : List Run
  /-- preamplifier faults counted per head since the last channel reset (R136) -/
  paFaults : List Nat
  /-- heads whose runout learning has not converged since the last channel reset (R132) -/
  noconv : List Nat
  /-- sectors left unreadable since the channel was last enabled (R329) -/
  unrec  : Nat
  /-- the last result word that each path's sectors gave the scheduler, with its TAG (R113) -/
  results : Vector (Option (W16 × Nat)) 4
  rewrites : List Rewrite
  deriving DecidableEq, Repr

/-! ### Servo control (chapter 6) -/

/-- A seek profile in progress (R207, R208). Positions are in 2^-29 track. -/
structure Seek where
  cls   : Nat
  p0    : Int
  dist  : Int
  i     : Nat
  /-- residue step of a redirect, and the samples over which it decays (R208) -/
  v     : Int
  d     : Nat
  deriving DecidableEq, Repr

/-- Repeatable-runout learning on a path (R220). -/
structure Learn where
  head  : Nat
  /-- own samples of the revolution, how many were missing, sum of squares of e_p in 2^-58 track² -/
  cnt   : Nat
  miss  : Nat
  sumSq : Nat
  /-- consecutive converged revolutions -/
  conv  : Nat
  deriving DecidableEq, Repr

/-- The loop context of one engine (R191, R233). Loop inputs, outputs and states are in 2^-29. -/
structure EngCtx where
  /-- the 12 states of each loop, and its last y0, y1, y2 and u0 -/
  x      : Vector (List Int) 6
  y      : Vector (Int × Int × Int) 6
  u0     : Vector Int 6
  /-- consecutive samples: above the threshold, missing, within the threshold since implausible (R210, R212) -/
  resid  : Vector Nat 6
  miss   : Vector Nat 6
  good   : Vector Nat 6
  /-- the loops that are plausible -/
  pl     : BitVec 6
  /-- consecutive coarse samples at the limit with growing error (R214) -/
  satRun : Nat
  seek   : Option Seek
  /-- the coarse reference (R207), 2^-29 track -/
  ref    : Int
  /-- the last microactuator command of each path, and the frame sequence number modulo 32 (R222) -/
  cmd    : Vector Int 4
  seq    : Nat
  deriving DecidableEq, Repr

/-- The header of a learned table in the channel region (R217): state 0 EMPTY, 1 LEARNING, 2 CONVERGED; revolutions learned; CRC. -/
structure TblHdr where
  st   : Nat
  revs : Nat
  crc  : Nat
  deriving DecidableEq, Repr

/-- The header of the working copy of a learned table on a path (R218). -/
structure WorkTbl where
  head : Nat
  st   : Nat
  revs : Nat
  deriving DecidableEq, Repr

/-- The servo control of a channel (R182 to R226). -/
structure Servo where
  engA   : EngCtx
  engB   : EngCtx
  /-- consecutive coarse samples implausible in the engine in control (R213) -/
  badRun : Nat
  /-- the coarse target T_c (R206), 2^-29 track -/
  tc     : Int
  /-- fine references: track, and ladder offset in 2^-29 track, per path (R188) -/
  track  : Vector Nat 4
  offs   : Vector Int 4
  /-- the paths of the last seek, and those whose ON_TRACK it waits for -/
  seekOn : BitVec 4
  waitOn : BitVec 4
  settle : Vector Nat 4
  tmoRow : Nat
  /-- per path: position error measured or estimated, and the head's position, 2^-29 track -/
  err    : Vector Int 4
  pos    : Vector Int 4
  /-- the frames that began at the last event (R222), the code groups they made on the link, and its running disparity -/
  frames : List (List Byte)
  line   : List (BitVec 10)
  rd     : Bool
  /-- the last commands of the coarse and spindle loops, 18 bit (R193), and the torque commands of the last strobe in order (R248) -/
  vcCmd  : Int
  tqCmd  : Int
  tqOut  : List Int
  learn  : Vector (Option Learn) 4
  /-- learned tables of the channel region: headers by head; entries by 512 h + w (R217); whether the region holds them -/
  hdrs   : List (Option TblHdr)
  tbl    : NatMap
  tblIn  : Bool
  /-- per path: the working copy in the scratchpad -/
  work   : Vector (Option WorkTbl) 4
  /-- vibration samples of the five sources with their arrival times in 0.625 ns steps; none before the first (R215) -/
  vib    : Vector (Option (Int × Nat)) 5
  shockPend : Bool
  /-- loops whose inactive bank is being checked (R203) -/
  chk    : BitVec 6
  /-- loading: off the ramp; 0 first try, 1 returning to the ramp, 2 second try (R225) -/
  loading   : Bool
  loadTry   : Nat
  deriving DecidableEq, Repr

/-- The Hinge arbiter of a channel beyond its registers (chapter 7). -/
structure Hinge where
  /-- a cause of R236 latched and not yet acted on -/
  cause  : Option Nat
  /-- good copies in a row at the receiving engine, and copies missed in a row (R231, R234) -/
  good   : Nat
  miss   : Nat
  /-- self-checks passed in a row in RECOVERING; the bank copy runs (R245) -/
  pass   : Nat
  copying : Bool
  /-- bank words (loop, index, value) and swap requests held during the copy (R245) -/
  held   : List (Nat × Nat × Nat)
  heldSw : Nat
  /-- the gap: event k + 1 is still to come, and plausible events after it (R240) -/
  gapNew : Bool
  gapCnt : Nat
  /-- the next spindle strobe sends no torque command (R239) -/
  spinGap : Bool
  /-- a forced take-back acts at the next event (R250) -/
  force  : Bool
  /-- consecutive events at which the engines disagreed; the extra self-check has been ordered (R237) -/
  dis    : Nat
  disPend : Bool
  /-- engines whose state and bank memory has an uncorrectable error: bit 0 engine A, bit 1 engine B (R235, R503) -/
  memBad : BitVec 2
  /-- the take-back event in progress: its stagger class, and whether A's copy reaches B whole (R248); the next strobe follows the same
  order -/
  overlap : Option (Nat × Bool)
  spinTb : Bool
  deriving DecidableEq, Repr

/-- The spindle gate outputs (R267). -/
inductive Gates where
  | hiZ | align60 | align0 | forced | observer | zeroVec
  deriving DecidableEq, Repr

/-- The voice-coil regulator (R283 to R285): outputs off, current mode, velocity mode for loading and for the retract, the
holding current after park. -/
inductive VcMode where
  | off | current | load | retract | hold
  deriving DecidableEq, Repr

/-- The commutation block of a channel beyond its registers (chapter 8). -/
structure Motor where
  gates  : Gates
  vc     : VcMode
  /-- the coarse command applied in the present voice-coil period -/
  vcI    : Int
  /-- a start is in progress (R272 to R274); braking ends in OFF (R276) -/
  starting : Bool
  toOff  : Bool
  /-- STOP (true) or COAST that acts once the retract has ended (R269) -/
  after  : Option Bool
  /-- failed handovers and rotor losses in ACCEL of this start (R273, R279) -/
  hand   : Nat
  losses : Nat
  /-- consecutive disagreeing electrical cycles (R265) -/
  bad    : Nat
  /-- consecutive PWM periods cut (R262) -/
  cutRun : Nat
  /-- a VMOT episode of R263 -/
  vmotHi : Bool
  /-- a PWM period since the last strobe was limited; consecutive limited strobes (R260) -/
  limited : Bool
  limRun : Nat
  /-- consecutive strobes within tolerance (R281) -/
  tolRun : Nat
  /-- the catch detector runs; STOP was written in LOST (R277, R280) -/
  catching : Bool
  stopCaught : Bool
  /-- the next strobe is the first in RUN (R266) -/
  runNew : Bool
  /-- last measured speed, signed, 1/16,384 of N_f -/
  speed  : Int
  /-- MGMT holds this channel's START (R270) -/
  held   : Bool
  /-- the observer's angle in 2^-48 turn and speed in 2^-48 turn per PWM period (R264) -/
  angle  : Int
  omega  : Int
  /-- the d and q integrators of the current regulator, 2^-28 duty (R261) -/
  intD   : Int
  intQ   : Int
  /-- the duties of the three phases in the period under way, CLK_MOT cycles (R258) -/
  duty   : List Nat
  /-- the cycles for which each phase's high-side and low-side command is asserted in it, and their edge time in ns (R256, R257) -/
  gateT  : List (Nat × Nat)
  edge   : Nat
  /-- the ADC offsets of phases U and V, and the sums and number of the samples they are calibrated from (R271) -/
  offU   : Int
  offV   : Int
  calSum : Int × Int × Nat
  /-- the last corrected current samples of the three phases, 1/2,048 of full scale (R259) -/
  cur    : List Int
  /-- the second back-EMF estimate of the last period, 1/1,092,091,904 µV, empty before the first (R265) -/
  emf    : List Int
  /-- the last zero crossing: its number of 0 to 5 in a forward cycle; and the time since it, 2^-16 period -/
  zc     : Option Nat
  since  : Nat
  /-- crossings and failed crossings of the electrical cycle under way, counted on the observer angle -/
  cyc    : Option (Nat × Nat)
  /-- intervals of consecutive forward crossings while the catch detector runs, newest first (R277) -/
  ints   : List Nat
  /-- PWM periods since the present state or measurement began; advance and last angle of the measured back-EMF vector, 2^-48 turn (R271) -/
  periods : Nat
  adv    : Int
  vec    : Option Int
  /-- the forced angle of RAMP, and at the handover speed the angle turned and the angle turned in agreement (R273) -/
  forced : Int
  turned : Int
  agreed : Int
  /-- the voice-coil current target in 1/32,768 mA, consecutive periods at rest at the current limit, the cycles for which the commands of
  legs A and B are asserted, and their edge time in ns (R283 to R285) -/
  vcT    : Int
  parkRun : Nat
  vcGate : List (Nat × Nat)
  vcEdge : Nat
  deriving DecidableEq, Repr

/-! ### Colophon, fuses, boot flash, fault collector (chapters 16 and 17) -/

/-- A Colophon record (R527): sequence number, source identity, event code, occurrences, 16 payload bytes. The CRC is
computed on a read. -/
structure ColoRec where
  seq     : Nat
  src     : Nat
  code    : Nat
  rep     : Nat
  payload : List Nat
  deriving DecidableEq, Repr

/-- The Colophon (R526 to R536). -/
structure Colo where
  /-- the ring, the newest record first; at most 8,192 -/
  recs     : List ColoRec
  /-- number of the next record -/
  next     : Nat
  /-- the reservation has been read and records receive numbers (R534) -/
  numbered : Bool
  /-- records waiting for a number, the oldest first, at most 64; how many were lost beyond them -/
  waiting  : List ColoRec
  waitLost : Nat
  /-- the limit of the newest valid reservation in the boot flash -/
  limit    : Option Nat
  /-- records with a lower number are in the mirror or need none -/
  mirNext  : Nat
  /-- the mirror in the Flyleaf system area, the newest record first (R533) -/
  mirror   : List ColoRec
  /-- the last sequence cleared (R535) -/
  lastClr  : Nat
  /-- the challenge in force (R536) -/
  chal     : Option Nat
  /-- per controller: the header bytes, OLDEST and the record count of its log snapshot (R535) -/
  snaps    : Vector (List Nat × Nat × Nat) 2
  deriving DecidableEq, Repr

/-- A fuse field with its CRC-32C (R559). -/
structure FuseField where
  val : Nat
  crc : Nat
  deriving DecidableEq, Repr

/-- The fuse array (R559, R560) and the 80 bytes written to the programming window (R561), by byte. -/
structure Fuses where
  serial   : FuseField
  keyhash  : FuseField
  clearkey : FuseField
  rbA      : Nat
  rbB      : Nat
  window   : NatMap
  deriving DecidableEq, Repr

/-- The boot flash and what was booted from it (R333, R563 to R567). -/
structure Boot where
  /-- images in slots 0 and 1 -/
  slots   : Vector (Option Image) 2
  /-- the boot-control sectors (R563): generation and active slot of each that is valid -/
  ctl     : Vector (Option (Nat × Nat)) 2
  /-- the slot that becomes active at the next reset (Firmware Commit), and the image downloaded and not committed -/
  nextAct : Option Nat
  staged  : Option Image
  /-- the image in use; none in recovery mode and before the boot -/
  image   : Option Image
  /-- boot has ended: the port serves commands (step 6 of R567) -/
  booted  : Bool
  /-- the PCIE_BIF sample (R313) -/
  bifur   : Bool
  /-- channels that have reached PHASE READY since the boot (R568) -/
  chUp    : BitVec 8
  deriving DecidableEq, Repr

/-- Resets and the power-loss sequence in progress (R25, R515, R519, R545, R556). -/
structure Rst where
  /-- a chip reset runs: its cause as RST.CAUSE has it; the source whose CHIP_RST reaction it is -/
  chip    : Option (Nat × Option Nat)
  /-- RST_N is low; the reset has been taken and boot waits for the release -/
  rstLow  : Bool
  waitRel : Bool
  /-- the power-loss sequence has not yet written or given up its checkpoint -/
  ckptOpen : Bool
  /-- per channel: the source whose BLK_RST channel reset has ended and whose enable MGMT owes (R519), and the powered-on times of the enables it
  has made so -/
  reen    : Vector (Option Nat) 8
  reenAt  : Vector (List Nat) 8
  /-- PERSTn_N is low -/
  perst   : Vector Bool 2
  /-- the last sequence and flyer values latched by a read of a HI register (R392, R515, R526), by LO register address -/
  latchLo : NatMap
  /-- expert unlock sequences armed, by path and block (R579) -/
  armed   : List (RegPath × Nat)
  /-- Channel-fatal sources whose condition lasts (R517); the TEMP_HIGH condition (R511) -/
  cond    : List Nat
  hot     : Bool
  deriving DecidableEq, Repr

def Colo.reset : Colo where
  recs := []
  next := 0
  numbered := false
  waiting := []
  waitLost := 0
  limit := none
  mirNext := 0
  mirror := []
  lastClr := 0
  chal := none
  snaps := Vector.replicate 2 ([], 0, 0)

def Fuses.reset : Fuses := ⟨⟨0, 0⟩, ⟨0, 0⟩, ⟨0, 0⟩, 0, 0, NatMap.empty⟩

def Boot.reset : Boot where
  slots := Vector.replicate 2 none
  ctl := Vector.replicate 2 none
  nextAct := none
  staged := none
  image := none
  booted := false
  bifur := false
  chUp := 0

def Rst.reset : Rst where
  chip := none
  rstLow := false
  waitRel := false
  ckptOpen := false
  reen := Vector.replicate 8 none
  reenAt := Vector.replicate 8 []
  perst := Vector.replicate 2 false
  latchLo := NatMap.empty
  armed := []
  cond := []
  hot := false

/-! ### Ream, buffer DRAM, cache, protected memories (chapters 14 and 15) -/

/-- The side record of a 4 KiB unit of a buffer (R477). -/
structure Side where
  md     : List Nat
  crc    : Nat
  valid  : Bool
  poison : Bool
  deriving DecidableEq, Repr

/-- A request waiting in Ream (R484): requester, use, number of buffers, and the command whose buffers they are. -/
structure ReamWait where
  id  : Nat
  use : Nat
  n   : Nat
  cmd : Option Nat
  deriving DecidableEq, Repr

/-- A pool (R473, R481): indexes held on chip, indexes returned to the ring, the first index never taken from the ring
since it was built, the wait entries, the round-robin pointers of the three classes (R485), and whether a throttled admission has been made in
the present gap (R482). -/
structure Pool where
  chip  : List Nat
  ring  : List Nat
  fresh : Nat
  waits : List ReamWait
  rr    : Vector Nat 3
  paced : Bool
  deriving DecidableEq, Repr

/-- Ream (R473 to R488). -/
structure Ream where
  pools : Vector Pool 16
  /-- control words by handle (R478) -/
  ctl   : NatMap
  /-- side records by 4 KiB unit of the buffer DRAM -/
  sides : List (Nat × Side)
  /-- the handles the last ALLOC delivered, and whether the last operation was answered with an error -/
  ans   : List Nat
  err   : Bool
  deriving DecidableEq, Repr

/-- A non-empty way of the cache (R447 to R449): the tag word's fields. The data bytes lie in the buffer DRAM, and the side records beside
those of the buffers, by 4 KiB unit. -/
structure Way where
  sn      : Nat
  way     : Nat
  valid   : BitVec 16
  spec    : Bool
  retain  : Bool
  offered : Bool
  nsid    : Nat
  line    : Nat
  deriving DecidableEq, Repr

/-- A fill in flight (R452, R453): its number, line, whether a write voided it, whether it is a maintenance prefetch, a
read-ahead fill, the sectors asked for, and the command it serves. -/
structure Fill where
  id    : Nat
  nsid  : Nat
  line  : Nat
  void  : Bool
  pf    : Bool
  spec  : Bool
  sects : BitVec 16
  cmd   : Option Nat
  deriving DecidableEq, Repr

/-- A fill that chose a way and waits for the decision of its offer, or for the end of a read that pins it (R451, R458, R470). -/
structure WaitFill where
  sn   : Nat
  way  : Nat
  fill : Fill
  blks : List (Nat × Block)
  deriving DecidableEq, Repr

/-- A maintenance operation (R462, R465): OP, SCOPE, namespace, first block, count, target way of a PREFETCH, started by
the ON8C itself; the pseudo-channel whose sets it covers; the command that waits for it (R465); the lines it walks (PERCENT). -/
structure Maint where
  op   : Nat
  scp  : Nat
  nsid : Nat
  lba  : Nat
  cnt  : Nat
  way  : Option Nat
  own  : Bool
  pc   : Option Nat
  cmd  : Option Nat
  total : Nat
  deriving DecidableEq, Repr

/-- The buffer cache. -/
structure Cache where
  ways  : List Way
  /-- ways from which hits are being read: set, way, the command that reads (R451) -/
  pins  : List (Nat × Nat × Nat)
  /-- pseudo-LRU trees by set: bit i is node i + 1 -/
  plru  : NatMap
  fills : List Fill
  nextFill : Nat
  waitF : List WaitFill
  run   : Option Maint
  queue : List Maint
  /-- lines of a PREFETCH whose request for buffers has not been admitted (R463, R484) -/
  pfLines : List Nat
  /-- reads that wait for an incomplete speculative line: command, namespace, line (R369) -/
  specW : List (Nat × Nat × Nat)
  deriving DecidableEq, Repr

/-- On-chip SRAM protection (R499 to R505). -/
structure MemProt where
  /-- words that have logged a correctable error since power-on, by macro and word -/
  seen  : List (Nat × Nat)
  /-- remap entries in use, by macro and word; macros that failed repair -/
  remap : List (Nat × Nat)
  bist  : List Nat
  /-- moves waiting for an idle write cycle (R502) -/
  moves : List (Nat × Nat)
  /-- words stored under a flip: macro, word, bits flipped in data, bits flipped in the check bits -/
  flips : List (Nat × Nat × Nat × Nat)
  deriving DecidableEq, Repr

def Pool.reset : Pool := ⟨[], [], 0, [], Vector.replicate 3 0, false⟩
def Ream.reset : Ream := ⟨Vector.replicate 16 Pool.reset, NatMap.empty, [], [], false⟩
def Cache.reset : Cache := ⟨[], [], NatMap.empty, [], 0, [], none, [], [], []⟩
def MemProt.reset : MemProt := ⟨[], [], [], [], []⟩

/-! ### The Flyleaf (chapter 12) and GATH (chapter 13) -/

/-- A bookmark (R363, R401); `dram` when it is kept in the buffer DRAM only (R367). -/
structure Bookmark where
  nsid  : Nat
  gen   : Nat
  stamp : Nat
  opc   : Nat
  lba   : Nat
  cnt   : Nat
  status : Nat
  pot   : Nat
  dram  : Bool
  deriving DecidableEq, Repr

/-- A journal entry (R389, R390) with its data. -/
structure FEntry where
  seq    : Nat
  lba    : Nat
  cnt    : Nat
  nsid   : Nat
  gen    : Nat
  kind   : Nat
  bm     : Bool
  copy   : Bool
  pos    : Nat
  len    : Nat
  stamp  : Nat
  opc    : Nat
  act    : Nat
  bmLba  : Nat
  bmCnt  : Nat
  blk    : Block
  /-- protection information of a range of zero sectors, which the entry's layout has no place for (R613) -/
  zpi    : Option (Nat × Nat × Bool)
  deriving DecidableEq, Repr

/-- A page programmed or being programmed (R386 to R388). Entries in order; DESTAGE ranges; BOOKMARK records. -/
structure FPage where
  id    : Nat
  die   : Nat
  blk   : Nat
  page  : Nat
  band  : Nat
  ptype : Nat
  maxSeq : Nat
  pot   : Nat
  ents  : List FEntry
  dst   : List (Nat × Nat)
  bms   : List Bookmark
  deriving DecidableEq, Repr

/-- The state of a journal block. -/
inductive BlkSt where
  | free | opened | closed | condemned | retired | erasing
  deriving DecidableEq, Repr

/-- A journal block (R384, R402, R406): erase count, band, next page to program. -/
structure FBlk where
  die    : Nat
  num    : Nat
  st     : BlkSt
  erases : Nat
  band   : Nat
  fill   : Nat
  deriving DecidableEq, Repr

inductive BandSt where
  | opened | closed | verified | victim
  deriving DecidableEq, Repr

/-- A band (R384): its number, whether it is the host band's, its state, its parity die. -/
structure FBand where
  num  : Nat
  host : Bool
  st   : BandSt
  par  : Nat
  deriving DecidableEq, Repr

/-- A checkpoint (R409, R410): FULL or SHORT, its generation, the next sequence number, powered-on time, the blocks, the
live sequence numbers, the bookmarks of a FULL one; of a SHORT one the pages of its record bitmap (die, block, page) and the bands that were
open; CONSUMED, and whether all its pages passed. -/
structure Ckpt where
  full  : Bool
  gen   : Nat
  seq   : Nat
  pot   : Nat
  blks  : List FBlk
  live  : List Nat
  bms   : List Bookmark
  recs  : List (Nat × Nat × Nat)
  bands : List Nat
  consumed : Bool
  good  : Bool
  deriving DecidableEq, Repr

/-- The Flyleaf journal controller and what its dies hold. -/
structure Fly where
  blks   : List FBlk
  bands  : List FBand
  pages  : List FPage
  /-- pages whose program has begun and not returned (R395) -/
  flight : List FPage
  nextId : Nat
  nextBand : Nat
  /-- entries waiting to be packed into the host band and into the copy band (R394) -/
  packH  : List FEntry
  packC  : List FEntry
  /-- sequence numbers of the live entries (R398) -/
  live   : List Nat
  /-- destage records and bookmarks waiting for their page; destage records in the system area (R398, R401, R408) -/
  pendDst : List (Nat × Nat)
  pendBm  : List (Bookmark × Option Nat)
  sysDst  : List (Nat × Nat)
  nextSeq : Nat
  bms     : List Bookmark
  /-- blocks retired in all; die and powered-on time of each retirement (R406) -/
  retired : Nat
  hour    : List (Nat × Nat)
  ckpts   : Vector (Option Ckpt) 2
  ckGen   : Nat
  /-- the checkpoint in use has not been marked CONSUMED yet -/
  ckUse   : Option (Fin 2)
  /-- recorded in the system area: read-only, drained; first use has passed; SPARE at first enable -/
  roRec   : Bool
  drained : Bool
  /-- FLY was disabled by a write since the journal became read-only (R408) -/
  wasOff  : Bool
  used    : Bool
  spare0  : Option Int
  /-- powered-on time, s -/
  pot     : Nat
  /-- the warm index: lines whose WARM entries are programmed, and those still in programming (R414) -/
  warm    : List (Nat × Nat)
  warmPend : List (Nat × Nat × Nat × Nat)
  /-- reads that wait for a warm line: command, namespace, line (R415) -/
  warmW   : List (Nat × Nat × Nat)
  victim  : Option Nat
  /-- copies of the running collection that have not begun: entries, DESTAGE ranges, bookmarks; a host entry has stopped it (R403) -/
  gcQ     : List FEntry
  gcDst   : List (Nat × Nat)
  gcBms   : List Bookmark
  gcStop  : Bool
  /-- pages of the victim with something to copy, all its pages, pages copied, host pages admitted since (R404) -/
  gcKeep  : Nat
  gcAll   : Nat
  gcDone  : Nat
  gcHost  : Nat
  /-- pages (die, block) that received copies of the victim and await their read-back (R405) -/
  target  : List (Nat × Nat)
  /-- counters of R417 -/
  hostEnt : Nat
  copied  : Nat
  startMs : Nat
  warmAcc : Nat
  warmDec : Nat
  restarts : Nat
  /-- the dies as the enable found them; the start kind chosen -/
  dies    : List (Nat × List Nat)
  /-- the current generation per namespace (R392) -/
  nsgen   : NatMap
  /-- the mirrors of the channels' grown lists (R71); the learned tables saved at an orderly shutdown, by channel: headers and
  entries (R218) -/
  grown  : List (Nat × List Reloc)
  tables : List (Nat × List (Option TblHdr) × NatMap)
  /-- enable check running -/
  checking : Bool
  deriving DecidableEq, Repr

/-- GATH's state of one layout (R428 to R439). Strips are (stripe, strip index i). -/
structure Layout where
  /-- strips marked in the stale maps: channel, strip of the extent -/
  stale   : List (Nat × Nat)
  /-- rebuild map: stripe, strip index, target channel, spare index -/
  rebuilt : List (Nat × Nat × Nat × Nat)
  /-- intent records programmed, and stripes whose record waits for its page: stripe, strips named -/
  intents : List (Nat × Nat)
  pendInt : List (Nat × Nat)
  /-- updates under way: stripe, command, items not ended -/
  locks   : List (Nat × Nat × Nat)
  /-- next spare strip per channel; counts of R442 -/
  spareAt : Vector Nat 8
  recon   : Nat
  unrec   : Nat
  /-- start-up resyncs that must end before the layout's namespaces report ready -/
  resync  : List Nat
  rebAt   : Nat
  deriving DecidableEq, Repr

/-- A sector that GATH must solve for (R433): its buffer, the commands, and whether a ladder of it runs beside. -/
structure Recon where
  nsid   : Nat
  lba    : Nat
  hdl    : Nat
  cmds   : List Nat
  ladder : Bool
  deriving DecidableEq, Repr

/-- GATH: the layouts, and the slot whose commit check runs. -/
structure Gath where
  lay   : Vector Layout 4
  /-- strips that the running resync began with (R442's PERCENT) -/
  reTotal : Nat
  check : Option (Fin 4)
  /-- the check is of an uncommit, or of the feature's commit, which sets EXTENT itself (R420, R421) -/
  uncommit : Bool
  auto  : Bool
  recon : List Recon
  deriving DecidableEq, Repr

def Fly.reset : Fly where
  blks := []
  bands := []
  pages := []
  flight := []
  nextId := 0
  nextBand := 0
  packH := []
  packC := []
  live := []
  pendDst := []
  pendBm := []
  sysDst := []
  nextSeq := 0
  bms := []
  retired := 0
  hour := []
  ckpts := Vector.replicate 2 none
  ckGen := 0
  ckUse := none
  roRec := false
  drained := false
  wasOff := false
  used := false
  spare0 := none
  pot := 0
  warm := []
  warmPend := []
  warmW := []
  victim := none
  gcQ := []
  gcDst := []
  gcBms := []
  gcStop := false
  gcKeep := 0
  gcAll := 0
  gcDone := 0
  gcHost := 0
  target := []
  hostEnt := 0
  copied := 0
  startMs := 0
  warmAcc := 0
  warmDec := 0
  restarts := 0
  dies := []
  nsgen := NatMap.empty
  grown := []
  tables := []
  checking := false

def Layout.reset : Layout := ⟨[], [], [], [], [], Vector.replicate 8 0, 0, 0, [], 0⟩
def Gath.reset : Gath := ⟨Vector.replicate 4 Layout.reset, 0, none, false, false, []⟩

/-! ### Host port, front end, dispatcher (chapters 10 and 11) -/

/-- A fetched command (R334): OPEN, or POSTING once its entry has been handed to the host port. A POSTED command leaves
the table. -/
structure Cmd where
  /-- place in fetch order -/
  k       : Nat
  ctl     : Ctl
  /-- submission queue; 0 admin; 65,536 a command tunnelled over the sideband -/
  qid     : Nat
  e       : Sqe
  posting : Bool
  /-- its own row has begun -/
  started : Bool
  /-- the status its completion carries, once decided: 256 × type + code -/
  status  : Option Nat
  dw0     : Nat
  dw1     : Nat
  /-- its controller was reset: no completion is posted (R375) -/
  dead    : Bool
  /-- ranges it covers, logical blocks; `wr` when it writes them -/
  ranges  : List LRange
  wr      : Bool
  handles : List Nat
  /-- buffers it waits for in Ream; the transfer from the host it waits for -/
  wantBuf : Nat
  wantXfer : Bool
  /-- work items, stripe updates or reconstructions not ended -/
  items   : Nat
  /-- journal entries whose page has not passed (R395) -/
  ents    : Nat
  /-- a NAND program or a gate has begun for it (R334) -/
  begun   : Bool
  /-- run of sequence numbers (R391) -/
  seq0    : Nat
  seqLen  : Nat
  /-- the write version it waits for (R355); the stamped original it waits for (R364); range locks it waits for (R358) -/
  verWait  : List (Nat × Nat)
  /-- metadata of zero blocks that the write buffer gave a read (R613) -/
  zmd      : List (Nat × List Byte)
  stampWait : Option Nat
  lockWait : Bool
  /-- its completion follows the POSTED state of another command (R335); the queue whose deletion it is (R338) -/
  after   : Option Nat
  delQ    : Option Nat
  /-- the first block that ended unrecovered, in time (R373) -/
  err     : Option Nat
  /-- blocks to read from media once its buffers are there; write-buffer buffers it shares (R24); Copy: source ranges, and
  whether its write phase has begun -/
  todo    : List Nat
  shares  : List Nat
  srcs    : List LRange
  phase   : Nat
  /-- the block whose consistency check a Set Features waits for: a channel, 8 FLY, 9 GATH, 10 KET (R330) -/
  waitChk : Option Nat
  /-- a Read: where each block found so far lies, as a 4 KiB unit of the buffer DRAM; none for a zero sector -/
  data   : List (Nat × Option Nat)
  /-- the write was accepted under the unit of one block (R361), or the effect stands -/
  done    : Bool
  deriving DecidableEq, Repr

/-- An I/O or admin submission queue (R319 to R322). `avail` entries wait to be fetched. -/
structure Sq where
  ctl   : Ctl
  qid   : Nat
  size  : Nat
  cqid  : Nat
  prio  : Nat
  tail  : Nat
  avail : Nat
  /-- its deletion has been decided (R338) -/
  gone  : Bool
  deriving DecidableEq, Repr

/-- A completion queue entry as written to host memory, at its place in the queue (R320): dwords 0 and 1, the head of the command's
submission queue, its identifiers, phase tag and status. -/
structure Cqe where
  slot   : Nat
  dw0    : Nat
  dw1    : Nat
  sqHead : Nat
  sqid   : Nat
  cid    : Nat
  phase  : Bool
  status : Nat
  deriving DecidableEq, Repr

/-- A completion queue (R320, R321, R331): entries posted and not yet freed by the host, and the entries whose interrupt
coalescing holds; vector; interrupts enabled. -/
structure Cq where
  ctl   : Ctl
  qid   : Nat
  size  : Nat
  vec   : Nat
  ien   : Bool
  head  : Nat
  tail  : Nat
  held  : Nat
  /-- phase tag of the next entry, and the entries as the queue's memory holds them -/
  phase : Bool
  cqes  : List Cqe
  deriving DecidableEq, Repr

/-- An asynchronous event (R340, R341): type, information, log page. -/
structure AsyncEv where
  typ  : Nat
  info : Nat
  page : Nat
  deriving DecidableEq, Repr

/-- An Error Information entry (R329, R373). -/
structure ErrEntry where
  cnt    : Nat
  sqid   : Nat
  cid    : Nat
  status : Nat
  lba    : Nat
  nsid   : Nat
  deriving DecidableEq, Repr

/-- A controller (R318, R323, R330, R340). -/
structure Ctlr where
  en     : Bool
  rdy    : Bool
  ams    : Nat
  shst   : Nat
  /-- features 0x01, 0x07 (queues granted, SQ and CQ, when set), 0x08, 0x0B, 0x81 -/
  arb    : Nat
  nq     : Option (Nat × Nat)
  coal   : Nat
  aec    : Nat
  hostId : Option Nat
  /-- outstanding Asynchronous Event Requests by fetch number, pending events, masked pages and types -/
  aers   : List Nat
  events : List AsyncEv
  masked : List (Nat × Nat)
  /-- saved feature values (R330) -/
  saved  : List (Nat × Nat)
  errs   : List ErrEntry
  errCnt : Nat
  changed : List Nat
  /-- reservation notifications -/
  resLog : List (Nat × Nat)
  /-- reservation notifications made -/
  resCnt : Nat
  /-- round-robin places: queue last served among urgent, high, medium, low, and all I/O queues; weighted credits left: high,
  medium, low -/
  last   : Vector Nat 5
  credits : Nat × Nat × Nat
  /-- MSI-X messages sent, by vector (R320) -/
  msix   : List Nat
  /-- AER: uncorrectable errors logged; poisoned TLPs reported (R317) -/
  aerLog : Nat
  deriving DecidableEq, Repr

/-- A zone of a zoned namespace (R328): state 0 empty, 1 implicitly open, 2 explicitly open, 3 closed, 4 full, 6 offline,
and the write pointer. -/
structure Zone where
  st : Nat
  wp : Nat
  deriving DecidableEq, Repr

/-- Registrations and the reservation of a namespace (R342). -/
structure Resv where
  regs   : List (Nat × Nat)
  holder : Option Nat
  typ    : Option ResType
  gen    : Nat
  /-- kept through power loss -/
  ptpl   : Bool
  deriving DecidableEq, Repr

/-- A namespace (R332). -/
structure Ns where
  nsid   : Nat
  stream : Bool
  place  : Nat
  strict : Bool
  dup    : Bool
  window : Nat
  zoned  : Bool
  base   : Nat
  nsze   : Nat
  lbaf   : Nat
  /-- protection information type; metadata moves with the data -/
  pi     : Nat
  mset   : Bool
  tler   : Nat
  attach : List Ctl
  zones  : List Zone
  resv   : Resv
  /-- a Format or Sanitize of it runs; blocks marked unreadable until written (R412) -/
  busy   : Bool
  bad    : List Nat
  deriving DecidableEq, Repr

/-- A version in the write buffer (R355, R400): the write it is of, its range, effect (KIND of R390), buffer, sequence
number, accepted, its destage item is in a ring or on media. -/
structure WbVer where
  k     : Nat
  nsid  : Nat
  lba   : Nat
  cnt   : Nat
  kind  : Nat
  hdl   : Option Nat
  seq   : Nat
  acc   : Bool
  run   : Bool
  /-- protection information of a range of zero sectors: application tag, reference tag of its first block, whether the tag rises from
  block to block (R613) -/
  zpi   : Option (Nat × Nat × Bool)
  /-- its buffer was lost and the data is to be read back from the Flyleaf before it is destaged (R18, R507) -/
  lost  : Bool
  deriving DecidableEq, Repr

/-- A range-lock entry (R357). -/
structure Lock where
  k    : Nat
  nsid : Nat
  lba  : Nat
  cnt  : Nat
  wr   : Bool
  deriving DecidableEq, Repr

/-- The sequential-read tracker of a namespace (R369): next block expected and the reads in a row. -/
structure Track where
  nsid : Nat
  next : Nat
  run  : Nat
  deriving DecidableEq, Repr

/-- A Device Self-test result: code, result, failing segment. -/
structure SelfTest where
  code   : Nat
  result : Nat
  step   : Nat
  deriving DecidableEq, Repr

/-- The I3C target and the NVMe-MI responder (R343 to R345). -/
structure I3c where
  dyn    : Option Nat
  static : Nat
  mwl    : Nat
  mrl    : Nat
  evEn   : Bool
  mtu    : Nat
  hsc    : Nat
  /-- in-band interrupts signalled, one for each packet ready for reading (R343) -/
  ibis   : Nat
  /-- the last answer: bytes of a CCC or MI response, low byte first; the status byte of R345 -/
  ans    : List Nat
  stat   : Nat
  deriving DecidableEq, Repr

/-- Work that waits for its channel to be ready (R377): channel, formatter command, kind, commands, class, speculative,
verify, sectors as channel block, buffer and logical block. -/
structure Parked where
  ch    : Ch
  cmd   : Nat
  kind  : ItemKind
  cmds  : List Nat
  cls   : Nat
  wver  : Bool
  sects : List Sector
  stripe : Option (Nat × Nat)
  deriving DecidableEq, Repr

/-- The host side. -/
structure HostSt where
  ctls   : Vector Ctlr 2
  sqs    : List Sq
  cqs    : List Cq
  cmds   : List Cmd
  nextK  : Nat
  nss    : List Ns
  wb     : List WbVer
  locks  : List Lock
  parked : List Parked
  tracks : List Track
  /-- Self-test running, and the last results -/
  test   : Option Nat
  tests  : List SelfTest
  /-- Sanitize status of the subsystem: state, namespaces still to do -/
  sanSt  : Nat
  /-- dword 10 of the last Sanitize -/
  sanDw  : Nat
  /-- the data of the last completion that returned any, low byte first -/
  ret    : List Nat
  i3c    : I3c
  deriving DecidableEq, Repr

def Ctlr.reset : Ctlr where
  en := false
  rdy := false
  ams := 0
  shst := 0
  arb := 0x07030003
  nq := none
  coal := 0
  aec := 0
  hostId := none
  aers := []
  events := []
  masked := []
  saved := []
  errs := []
  errCnt := 0
  changed := []
  resLog := []
  resCnt := 0
  last := Vector.replicate 5 0
  credits := (0, 0, 0)
  msix := []
  aerLog := 0

def I3c.reset : I3c := ⟨none, 0x1D, 0, 0, true, 64, 0, 0, [], 0⟩

def HostSt.reset : HostSt where
  ctls := Vector.replicate 2 Ctlr.reset
  sqs := []
  cqs := []
  cmds := []
  nextK := 0
  nss := []
  wb := []
  locks := []
  parked := []
  tracks := []
  test := none
  tests := []
  sanSt := 0
  sanDw := 0
  ret := []
  i3c := I3c.reset

/-- The Kettle link beyond its registers (chapter 9). Times are in steps of 0.625 ns. -/
structure Ket where
  /-- the frames that the last command to send any sent on KET_OUT and on KET_SYNC_OUT: the symbols after the start symbol -/
  down   : List (List Nat)
  up     : List (List Nat)
  /-- the last sixteen exchanges, T4 - T1 - TURN, the newest first (R298); REQ_ID and T1 of the last DREQ -/
  exch   : List Int
  reqId  : Nat
  reqT   : Option Int
  /-- the local epoch instant, and the reference speed in use (R299, R303) -/
  epochT : Int
  refRpm : Nat
  /-- the last tail index received at the head (R301) -/
  tail   : Option Nat
  vibSeq : Nat
  /-- a consistency check runs; the epochs have begun since the check passed -/
  checking : Bool
  began  : Bool
  /-- the code groups that the last command to send any put on KET_OUT and on KET_SYNC_OUT, and each lane's running disparity (R292) -/
  codeD  : List Nat
  codeU  : List Nat
  rdD    : Bool
  rdU    : Bool
  /-- the byte last sent to the vibration sensor (R306) -/
  mosi   : Nat
  deriving DecidableEq, Repr

def Ket.reset : Ket := ⟨[], [], [], 0, none, 0, 0, none, 0, false, false, [], [], false, false, 0⟩
/-- One channel (R11). -/
structure Chan where
  st    : Vector Stitcher 4
  path  : Vector PathSt 4
  sched : Sched
  servo : Servo
  hinge : Hinge
  mot   : Motor
  /-- the zone table applied at the enable (R75), and the coefficient table by head and zone (R82) -/
  zt    : Option ZoneTable
  eqTbl : List (Nat × Nat × List Nat)
  /-- CHn_PFLT_N asserted (R130) -/
  pflt  : Bool
  /-- the frames of the last request on the preamplifier control port (R121) -/
  frames : List PaFrame
  /-- the system area, once it has been read; the medium keeps it -/
  sys   : Option SysArea
  deriving DecidableEq, Repr

def Frame.none : Frame := ⟨0, false, false, false, false, 0, 0, 0, false⟩

/-- A Stitcher after a channel reset (R181). -/
def Stitcher.reset : Stitcher where
  r := Vector.replicate 32 0
  z := false
  n := false
  c := false
  pc := 0x0110
  lc := Vector.replicate 4 0
  stack := []
  ev := 0
  tmask := 0
  tpend := 0
  frN := Frame.none
  frH := Frame.none
  mode := .running
  hcode := 0
  lastAbt := false
  abtRes := 0
  cur := none
  handed := []
  prefetch := none
  wantPre := false
  peers := 0
  errData := 0
  softData := 0
  wrCode := 0
  syncFlags := 0
  lateAct := 0
  abtTag := 0
  armSlot := 0
  wtrk := 0
  wtrkBad := false
  wnum := 0
  wnumBad := false
  widx := false
  wd := 0

def Capturing.none : Capturing := ⟨[], Option.none, [], []⟩

/-- A path with nothing armed (R118, R141). -/
def PathSt.reset : PathSt where
  arm := none
  cap := Capturing.none
  wait := []
  dc := Vector.replicate 3 0
  asym := Vector.replicate 3 0
  wfFetch := false
  fifo := []
  pa := []
  head := none
  zone := none
  loaded := none
  fePower := false
  zoneOk := false
  squeeze := false
  wdata := []
  wshift := []

/-- A scheduler with no work item, no defect list read and no run of channel blocks taken (R76). -/
def Sched.reset : Sched := ⟨[], [], 0, [], [], [], [], [], [], 0, Vector.replicate 4 none, []⟩

/-- An engine with zero state (R230, R245). -/
def EngCtx.reset : EngCtx where
  x := Vector.replicate 6 []
  y := Vector.replicate 6 (0, 0, 0)
  u0 := Vector.replicate 6 0
  resid := Vector.replicate 6 0
  miss := Vector.replicate 6 0
  good := Vector.replicate 6 0
  pl := 0
  satRun := 0
  seek := none
  ref := 0
  cmd := Vector.replicate 4 0
  seq := 0

/-- The control loops after a channel reset (R230). -/
def Servo.reset : Servo where
  engA := EngCtx.reset
  engB := EngCtx.reset
  badRun := 0
  tc := 0
  track := Vector.replicate 4 0
  offs := Vector.replicate 4 0
  seekOn := 0
  waitOn := 0
  settle := Vector.replicate 4 0
  tmoRow := 0
  err := Vector.replicate 4 0
  pos := Vector.replicate 4 0
  frames := []
  line := []
  rd := false
  vcCmd := 0
  tqCmd := 0
  tqOut := []
  learn := Vector.replicate 4 none
  hdrs := []
  tbl := NatMap.empty
  tblIn := false
  work := Vector.replicate 4 none
  vib := Vector.replicate 5 none
  shockPend := false
  chk := 0
  loading := false
  loadTry := 0

def Hinge.reset : Hinge := ⟨none, 0, 0, 0, false, [], 0, false, 0, false, false, 0, false, 0, none, false⟩

/-- The spindle and the heads at power-on: OFF, on the ramp. -/
def Motor.reset : Motor where
  gates := .hiZ
  vc := .off
  vcI := 0
  starting := false
  toOff := false
  after := none
  hand := 0
  losses := 0
  bad := 0
  cutRun := 0
  vmotHi := false
  limited := false
  limRun := 0
  tolRun := 0
  catching := false
  stopCaught := false
  runNew := false
  speed := 0
  held := false
  angle := 0
  omega := 0
  intD := 0
  intQ := 0
  duty := [0, 0, 0]
  gateT := [(0, 0), (0, 0), (0, 0)]
  edge := 3
  offU := 0
  offV := 0
  calSum := (0, 0, 0)
  cur := [0, 0, 0]
  emf := []
  zc := none
  since := 0
  cyc := none
  ints := []
  periods := 0
  adv := 0
  vec := none
  forced := 0
  turned := 0
  agreed := 0
  vcT := 0
  parkRun := 0
  vcGate := [(0, 0), (0, 0)]
  vcEdge := 3

def Chan.reset : Chan where
  st := Vector.replicate 4 Stitcher.reset
  path := Vector.replicate 4 PathSt.reset
  sched := Sched.reset
  servo := Servo.reset
  hinge := Hinge.reset
  mot := Motor.reset
  zt := none
  eqTbl := []
  pflt := false
  frames := []
  sys := none

/-- A report of a fault source that has not reached the collector (R515): source number, instance of the raising rule
(0xFFFF when none), cause or reason code, status register (R529). -/
structure Raise where
  src    : Nat
  inst   : Nat
  cause  : Nat
  status : Nat
  deriving DecidableEq, Repr

/-- The state of the block. -/
structure State where
  /-- the commands waiting, first in first out -/
  pending : List Instr
  /-- the register fields, by `Fld.key`, each XOR its reset value -/
  regs : NatMap
  /-- the values in force of the RWS fields, whose cells in `regs` are the shadows (R583) -/
  force : NatMap
  /-- the model's own: how many open values have been used (log entry 2) -/
  freeCtr : Nat
  /-- the order code: ON8C-16 (R3) -/
  small : Bool
  /-- the channels (R11) -/
  chans : Vector Chan 8
  /-- control stores: microwords by address (R143) -/
  store : Vector NatMap 8
  /-- scratchpad banks: 64-bit words by 8,192 × bank + word (R496) -/
  pads : Vector NatMap 8
  /-- coefficient banks: 32-bit words by 256 × (12 × engine + 2 × loop + bank) + index (R200) -/
  banks : Vector NatMap 8
  /-- the buffer DRAM, by byte offset (R16) -/
  dram : NatMap
  /-- reports that have not reached the collector (R515) -/
  raised : List Raise
  colo : Colo
  fuses : Fuses
  boot : Boot
  rst : Rst
  ream : Ream
  cache : Cache
  mem : MemProt
  fly : Fly
  gath : Gath
  host : HostSt
  ket : Ket
  deriving DecidableEq, Repr

/-- Closed: no command of the block stops with a fault. -/
inductive Fault where
  /-- Raised by no meaning: the spec stops no command. -/
  | stuck
  deriving DecidableEq, Repr

/-- Closed: the reasons a command can be refused. -/
inductive Refusal where
  /-- Raised only by a dispatch arm whose command has no meaning yet; safe. -/
  | notModelled (mnemonic : String)
  deriving DecidableEq, Repr

/-- The machine right after reset: every field at the value the spec states for reset, or the value a log entry names. -/
def State.reset : State where
  pending := []
  regs := NatMap.empty
  force := NatMap.empty
  freeCtr := 0
  small := false
  chans := Vector.replicate 8 Chan.reset
  store := Vector.replicate 8 NatMap.empty
  pads := Vector.replicate 8 NatMap.empty
  banks := Vector.replicate 8 NatMap.empty
  dram := NatMap.empty
  raised := []
  colo := Colo.reset
  fuses := Fuses.reset
  boot := Boot.reset
  rst := Rst.reset
  ream := Ream.reset
  cache := Cache.reset
  mem := MemProt.reset
  fly := Fly.reset
  gath := Gath.reset
  host := HostSt.reset
  ket := Ket.reset

end Sys2Proof.Machine
end

