-- ==== Sys2Proof/Machine/Ops.lean ====
section
/-! DEFINITION. The named operations over the state that every family of commands uses: register fields, counters, fresh
free values, channels, Stitchers and paths, and the report of a fault source. -/

namespace Sys2Proof.Machine

/-! ### Register fields -/

/-- The value of a register field. -/
def State.get (s : State) (f : Fld) : Nat := s.regs.get f.key ^^^ f.reset

/-- Store a value in a register field; bits beyond the field's width are dropped. -/
def State.set (s : State) (f : Fld) (v : Nat) : State :=
  { s with regs := s.regs.set f.key ((v % 2 ^ f.width) ^^^ f.reset) }

/-- The value in force of a field whose cell is a shadow (R583, R140). -/
def State.inForce (s : State) (f : Fld) : Nat := s.force.get f.key ^^^ f.reset

/-- At an event that its description names the shadow of a field takes effect (R583). -/
def takeShadow (f : Fld) (s : State) : State := { s with force := s.force.set f.key (s.regs.get f.key) }

/-- A one-bit field as a truth value. -/
def State.flag (s : State) (f : Fld) : Bool := s.get f ≠ 0

/-- Store a truth value in a one-bit field. -/
def State.setFlag (s : State) (f : Fld) (b : Bool) : State := s.set f b.toNat

/-- Bit `i` of a bitmap field. -/
def State.bit (s : State) (f : Fld) (i : Nat) : Bool := (s.get f).testBit i

/-- `v` with bit `i` set to `b`. -/
def withBit (v i : Nat) (b : Bool) : Nat :=
  if b then v ||| 2 ^ i else if v.testBit i then v - 2 ^ i else v

/-- Store bit `i` of a bitmap field. -/
def State.setBit (s : State) (f : Fld) (i : Nat) (b : Bool) : State := s.set f (withBit (s.get f) i b)

/-- Add to a count that saturates at its field's largest value. -/
def State.addSat (s : State) (f : Fld) (k : Nat) : State := s.set f (min (2 ^ f.width - 1) (s.get f + k))

/-- Increment a saturating count. -/
def State.inc (s : State) (f : Fld) : State := s.addSat f 1

/-- Increment a count that wraps. -/
def State.incWrap (s : State) (f : Fld) : State := s.set f (s.get f + 1)

/-- Return every field of the addresses from `lo` up to, but without, `hi` to its reset value. -/
def State.resetRegs (s : State) (lo hi : Nat) : State := { s with regs := s.regs.clear (lo * 32) (hi * 32) }

/-- Do `f` when `b` holds. -/
def State.when (s : State) (b : Bool) (f : State → State) : State := if b then f s else s

/-- The state after `f` for each element of a list in turn. -/
def State.each {α : Type} (s : State) (l : List α) (f : α → State → State) : State := l.foldl (fun t a => f a t) s

/-! ### Free values -/

/-- The next open value, low `w` bits. -/
def State.fresh (s : State) : BitVec 64 := Config.freeWord s.freeCtr

/-- Advance past the open value in use. -/
def State.used (s : State) : State := { s with freeCtr := s.freeCtr + 1 }

/-! ### Channels, Stitchers, paths -/

def State.chan (s : State) (n : Ch) : Chan := s.chans[n]

def State.modChan (s : State) (n : Ch) (f : Chan → Chan) : State :=
  { s with chans := s.chans.set n (f s.chans[n]) }

def State.stit (s : State) (n : Ch) (p : Pa) : Stitcher := (s.chan n).st[p]

def State.modStit (s : State) (n : Ch) (p : Pa) (f : Stitcher → Stitcher) : State :=
  s.modChan n fun c => { c with st := c.st.set p (f c.st[p]) }

def State.pathSt (s : State) (n : Ch) (p : Pa) : PathSt := (s.chan n).path[p]

def State.modPath (s : State) (n : Ch) (p : Pa) (f : PathSt → PathSt) : State :=
  s.modChan n fun c => { c with path := c.path.set p (f c.path[p]) }

def State.modSched (s : State) (n : Ch) (f : Sched → Sched) : State :=
  s.modChan n fun c => { c with sched := f c.sched }

/-- All paths of a channel. -/
def allPaths : List Pa := [0, 1, 2, 3]

/-- All channels. -/
def allChans : List Ch := [0, 1, 2, 3, 4, 5, 6, 7]

/-! ### Fault sources -/

/-- Source number of slot k of channel n (R508). -/
def chSrc (n : Ch) (k : Nat) : Nat := 40 * n.val + k

/-- Source number of host-side slot k (R508). -/
def hostSrc (k : Nat) : Nat := 320 + k

/-- Report a fault source to the collector (R515); it is latched by FAULT_SOURCE_LATCH. -/
def State.raise (s : State) (src : Nat) (inst : Nat := 0xFFFF) (cause : Nat := 0) (status : Nat := 0) : State :=
  { s with raised := s.raised ++ [⟨src, inst, cause, status⟩] }

/-! ### Descriptors (R63) -/

/-- Bits [hi:lo] of a word as a number. -/
def bitsOf (w : W32) (hi lo : Nat) : Nat := (w.toNat >>> lo) % 2 ^ (hi - lo + 1)

def descCmd (d : Desc) : Nat := bitsOf d[0] 7 0
def descEn (d : Desc) (p : Pa) : Bool := d[0].getLsbD (8 + p.val)
def descEnMask (d : Desc) : Nat := bitsOf d[0] 11 8
def descZone (d : Desc) : Nat := bitsOf d[0] 16 12
def descSlot (d : Desc) : Nat := bitsOf d[0] 27 17
/-- Dword i of a descriptor, zero beyond its twelve. -/
def descDw (d : Desc) (i : Nat) : W32 := d.toList.getD i 0
def descTrack (d : Desc) (p : Pa) : Nat := bitsOf (descDw d (1 + p.val)) 23 0
def descSurf (d : Desc) (p : Pa) : Nat := bitsOf (descDw d (1 + p.val)) 28 24
def descHandle (d : Desc) (p : Pa) : W32 := descDw d (5 + p.val)
def descGen (d : Desc) : Nat := bitsOf d[9] 15 0
def descTag (d : Desc) : W16 := BitVec.ofNat 16 (bitsOf d[9] 31 16)
def descSpec (d : Desc) : Bool := d[10].getLsbD 0
def descWverify (d : Desc) : Bool := d[10].getLsbD 1
def descLadder (d : Desc) : Nat := bitsOf d[10] 5 2

/-- A list with element `i` replaced. -/
def listSet {α : Type} (l : List α) (i : Nat) (a : α) : List α := l.set i a

/-- A list without element `i`. -/
def listDrop {α : Type} (l : List α) (i : Nat) : List α := l.take i ++ l.drop (i + 1)

end Sys2Proof.Machine
end

