-- ==== Sys2Proof/Machine/Lock.lean ====
section
/-! DEFINITION. Accesses to the set-up space (R573 to R581): the domain that serves a window, expert access, the unlock
sequence that any other write breaks, and the writes that are discarded. -/

namespace Sys2Proof.Machine

/-! ### Domains (R546, R570, R571) -/

/-- Whether a power domain is on. Domain numbers: 4n to 4n + 3 the channel's AFE, DET, CTL, MOT; 32 and up as DOMSTAT
orders the others. -/
def domOn (d : Nat) (s : State) : Bool := s.bit (F.PWR_DOMSTAT_ON (d / 32)) (d % 32)

/-- The domain that serves an address; none for an address of no window. -/
def addrDomain (a : Nat) : Option Nat :=
  if a < 0x100000 then some 47
  else if a < 0x110000 then some 46
  else if a < 0x300000 then some 47
  else if a < 0x400000 then some 34
  else if a < 0x500000 then some (if a < 0x408000 then 38 else 35)
  else if a < 0x600000 then some 39
  else if a < 0x700000 then some 35
  else if a < 0x800000 then some 40
  else if a < 0x900000 then some 41
  else if a < 0xA00000 then some 44
  else if a < 0xB00000 then some 35
  else if a < 0x2000000 then none
  else
    let n := (a - 0x2000000) / 0x400000
    let o := a % 0x400000
    some (if o < 0x80000 then 4 * n else if o < 0x180000 then 4 * n + 1 else if o < 0x280000 then 4 * n + 2
      else if o < 0x300000 then 4 * n + 3 else if o < 0x3F0000 then 4 * n + 1 else 35)

/-- An access answered as a bus error (R574): the serving domain is off, or the channel is in reset. The domains AON and
FAULT never go off. -/
def windowOff (a : Nat) (s : State) : Bool :=
  match addrDomain a with
  | none => false
  | some d =>
    if d = 47 || d = 46 then false
    else !domOn d s || (decide (0x2000000 ≤ a) && decide (a % 0x400000 < 0x3F0000) && s.bit F.RST_CHRST_IN_RST ((a - 0x2000000) / 0x400000))

/-- The bus error of R574. -/
def busOff (s : State) : State := s.inc F.GLB_ACCERR_OFF_CNT

/-! ### Expert access (R577 to R581) -/

/-- The block identity of an address (R579): below 8 a channel, else 0x10 and up; none for GLB. -/
def blockIdent (a : Nat) : Option Nat :=
  if a < 0x100000 then none
  else if a < 0x110000 then some 0x10
  else if a < 0x200000 then some 0x11
  else if a < 0x300000 then some 0x12
  else if a < 0xB00000 then some (0x13 + (a - 0x300000) / 0x100000)
  else if a < 0x2000000 then none
  else some ((a - 0x2000000) / 0x400000)

/-- Whether expert access to a block is open. -/
def blockOpen (b : Nat) (s : State) : Bool :=
  if b < 8 then s.bit F.GLB_EXPERT_STAT_CH_OPEN b else s.bit F.GLB_EXPERT_STAT_HOST_OPEN (b - 0x10)

/-- Whether expert access to the block of an address is open. -/
def addrOpen (a : Nat) (s : State) : Bool :=
  match blockIdent a with
  | some b => blockOpen b s
  | none => false

/-- A write that is no second word of the armed sequence voids it (R579). -/
def breakSeq (s : State) : State :=
  if s.flag F.GLB_EXPERT_STAT_ARMED then
    { (s.setFlag F.GLB_EXPERT_STAT_ARMED false).inc F.GLB_EXPERT_STAT_FAIL_CNT with rst := { s.rst with armed := [] } }
  else s

/-- A write discarded under R577 or R578. -/
def discard (a : Nat) (s : State) : State :=
  (s.inc F.GLB_ACCERR_LOCKED_CNT).when (s.get F.GLB_ACCERR_ADDR_ADDR == 0) fun t => t.set F.GLB_ACCERR_ADDR_ADDR a

/-- A register write reaches the set-up arbiter (R574, R575, R579). -/
def arbWrite (a : Nat) (f : State → State) (s : State) : State :=
  let t := breakSeq s
  if windowOff a t then busOff t else f t

/-- A write to a field that needs expert access, with the locking condition of its own (R577, R578). -/
def lockedWrite (path : RegPath) (a : Nat) (locked : Bool) (f : State → State) (s : State) : State :=
  arbWrite a (fun t => if (path != .mgmt && !addrOpen a t) || locked then discard a t else f t) s

end Sys2Proof.Machine
end

