-- ==== Sys2Proof/Machine/DmaRing.lean ====
section
/-! DEFINITION. The rings of the copy engine (R489, R490, R493, R494): the next descriptor, its refusal, and its end. -/

namespace Sys2Proof.Machine

/-- DMA channel `c` runs when it is enabled, not halted, and a descriptor is ready (R493), and never during the power-loss sequence
(R25). -/
def dmaReady (c : Ch) (s : State) : Bool :=
  s.flag (F.DMA_CTL_EN c) && !s.flag F.PWR_SUPPLY_PLOSS && !s.flag (F.DMA_STAT_HALTED c) && !s.flag (F.DMA_STAT_BUSY c) &&
    s.get (F.DMA_STAT_HEAD c) != s.get (F.DMA_CTL_TAIL c) % 2 ^ (min 12 (s.get (F.DMA_CTL_SIZE c)) + 4)

/-- The byte offset of the descriptor at HEAD. -/
def dmaDescAt (c : Ch) (s : State) : Nat :=
  s.get (F.DMA_RING_RING c 0) + s.get (F.DMA_RING_RING c 1) * 4294967296 + 32 * s.get (F.DMA_STAT_HEAD c)

/-- The running descriptor ends with a code: STATUS, and FAIL_OFS, are written, HEAD advances, and any code but DONE halts the
channel (R493, R494). -/
def dmaEnd (c : Ch) (code ofs : Nat) (s : State) : State :=
  let at_ := dmaDescAt c s
  let t := { s with dram := s.dram.setRun (at_ + 24) (bytesLe 4 code ++ bytesLe 4 ofs) }
  let t := t.set (F.DMA_STAT_HEAD c) ((t.get (F.DMA_STAT_HEAD c) + 1) % 2 ^ (min 12 (t.get (F.DMA_CTL_SIZE c)) + 4))
  let t := (t.set (F.DMA_STAT_LAST c) code).setFlag (F.DMA_STAT_BUSY c) false
  t.when (code != 1) fun u => (u.setFlag (F.DMA_STAT_HALTED c) true).raise (hostSrc 30) 0xFFFF code

/-- A descriptor as the engine reads it (R489). -/
structure DmaDesc where
  src   : Nat
  dst   : Nat
  len   : Nat
  srcW  : Nat
  dstW  : Nat
  deriving DecidableEq, Repr

def dmaDesc (c : Ch) (s : State) : DmaDesc :=
  let b := s.dram.getRun (dmaDescAt c s) 24
  ⟨ofBytesLe (b.take 8), ofBytesLe ((b.drop 8).take 8), ofBytesLe ((b.drop 16).take 4), b.getD 20 0 % 8, b.getD 21 0 % 8⟩

/-- A descriptor that the engine refuses (R490). A length of zero is no length of R489. -/
def dmaRefused (d : DmaDesc) : Bool :=
  d.srcW == 7 || d.dstW == 7 || decide (1 < d.src / 2 ^ 62) || decide (1 < d.dst / 2 ^ 62) || d.src % 2 ^ d.srcW != 0 ||
    d.dst % 2 ^ d.dstW != 0 || d.len % 2 ^ max d.srcW d.dstW != 0 || d.len == 0

/-- The next descriptor starts, or is refused. FAIL_OFS of a refused one is an open value. -/
def dmaKick (c : Ch) (s : State) : State :=
  if !dmaReady c s then s
  else if dmaRefused (dmaDesc c s) then dmaEnd c 5 (s.fresh.toNat % 4294967296) s.used
  else s.setFlag (F.DMA_STAT_BUSY c) true

/-- CLR_HALT is written (R494). -/
def dmaResume (c : Ch) (s : State) : State := dmaKick c (s.setFlag (F.DMA_STAT_HALTED c) false)

end Sys2Proof.Machine
end

