-- ==== Sys2Proof/Machine/Sha.lean ====
section
/-! DEFINITION. SHA-384 and HMAC-SHA-384, which the response to a Colophon challenge is made with (R536). -/

namespace Sys2Proof.Machine

/-! ### SHA-384 and HMAC-SHA-384 (R536), as FIPS 180-4 and FIPS 198-1 define them; the spec names them and does not repeat
them (PRESUMED, log entry 7). -/

/-- The largest number of `w` bits whose `k`-th power is at most `n`, found bit by bit from the top. -/
def rootFloor (k n w : Nat) : Nat :=
  (List.range w).foldl (fun x i => if (x + 2 ^ (w - 1 - i)) ^ k ≤ n then x + 2 ^ (w - 1 - i) else x) 0

/-- The first 64 fraction bits of the `k`-th root of `p`. -/
def rootFraction (k p : Nat) : W64 := BitVec.ofNat 64 (rootFloor k (p * 2 ^ (64 * k)) 69)

/-- The first eighty primes. -/
def shaPrimes : List Nat := (List.range 410).filter fun p => decide (2 ≤ p) && (List.range p).all fun d => decide (d < 2) || p % d != 0

/-- The round constants: the fractions of the cube roots of the first eighty primes. -/
def shaK : List W64 := shaPrimes.map (rootFraction 3)

/-- The initial state of SHA-384: the fractions of the square roots of the ninth to the sixteenth prime. -/
def shaInit : List W64 := ((shaPrimes.drop 8).take 8).map (rootFraction 2)

/-- A schedule extended to 80 words. -/
def shaExpand : Nat → List W64 → List W64
  | 0, w => w
  | k + 1, w =>
    let n := w.length
    let a := w.getD (n - 15) 0
    let b := w.getD (n - 2) 0
    let x := a.rotateRight 1 ^^^ a.rotateRight 8 ^^^ (a >>> 7)
    let y := b.rotateRight 19 ^^^ b.rotateRight 61 ^^^ (b >>> 6)
    shaExpand k (w ++ [w.getD (n - 16) 0 + x + w.getD (n - 7) 0 + y])

/-- One round on the eight working words. -/
def shaRound (st : List W64) (kw : W64 × W64) : List W64 :=
  let g := fun i => st.getD i 0
  let e := g 4
  let a := g 0
  let t1 := g 7 + (e.rotateRight 14 ^^^ e.rotateRight 18 ^^^ e.rotateRight 41) + ((e &&& g 5) ^^^ (~~~e &&& g 6)) + kw.1 + kw.2
  let t2 := (a.rotateRight 28 ^^^ a.rotateRight 34 ^^^ a.rotateRight 39) + ((a &&& g 1) ^^^ (a &&& g 2) ^^^ (g 1 &&& g 2))
  [t1 + t2, a, g 1, g 2, g 3 + t1, e, g 5, g 6]

/-- The state after one 128-byte block. -/
def shaBlock (st : List W64) (blk : List W64) : List W64 :=
  ((shaK.zip (shaExpand 64 blk)).foldl shaRound st).zipWith (· + ·) st

/-- Big-endian words of a byte list. -/
def shaWords (fuel : Nat) (bs : List Nat) : List W64 :=
  match fuel with
  | 0 => []
  | k + 1 => if bs.isEmpty then [] else
      BitVec.ofNat 64 ((bs.take 8).foldl (fun v b => v * 256 + b) 0) :: shaWords k (bs.drop 8)

/-- Blocks of sixteen words absorbed in turn. -/
def shaAbsorb (fuel : Nat) (st : List W64) (ws : List W64) : List W64 :=
  match fuel with
  | 0 => st
  | k + 1 => if ws.isEmpty then st else shaAbsorb k (shaBlock st (ws.take 16)) (ws.drop 16)

/-- The 48 bytes of SHA-384 over a byte list. -/
def sha384 (bs : List Nat) : List Nat :=
  let n := bs.length
  let pad := (240 - (n + 1) % 128) % 128
  let msg := bs ++ [0x80] ++ List.replicate (pad + 8) 0 ++ (List.range 8).map fun i => n * 8 / 256 ^ (7 - i) % 256
  let ws := shaWords (msg.length / 8) msg
  ((shaAbsorb (msg.length / 128) shaInit ws).take 6).flatMap fun w => (List.range 8).map fun i => w.toNat / 256 ^ (7 - i) % 256

/-- HMAC-SHA-384 with a key of at most 128 bytes. -/
def hmac384 (key msg : List Nat) : List Nat :=
  let k := key ++ List.replicate (128 - key.length) 0
  sha384 (k.map (· ^^^ 0x5C) ++ sha384 (k.map (· ^^^ 0x36) ++ msg))

end Sys2Proof.Machine
end

