-- ==== Sys2Proof/Machine/Colo.lean ====
section
/-! DEFINITION. The Colophon (chapter 16): records, their numbers and the ring, the mirror, the challenge and the clear. -/

namespace Sys2Proof.Machine

/-! ### Records (R526 to R534) -/

/-- Sixteen payload bytes from the bytes given, the rest zero (R529). -/
def payload16 (bs : List Nat) : List Nat := (bs ++ List.replicate 16 0).take 16

/-- Write a new record at the head of the ring (R526). The second part is the number of the record it overwrote. -/
def Colo.push (c : Colo) (src code : Nat) (pl : List Nat) : Colo × Option Nat :=
  let rs := ⟨c.next, src, code, 1, pl⟩ :: c.recs
  ({ c with recs := rs.take 8192, next := c.next + 1 }, (rs.drop 8192).head?.map fun r => r.seq)

/-- Whether a new event is the newest record again (R530). -/
def Colo.repeats (c : Colo) (src code : Nat) (pl : List Nat) : Bool :=
  match c.recs with
  | r :: _ => r.src == src && r.code == code && r.payload == pl && decide (r.rep < 0xFFFF) && decide (c.mirNext ≤ r.seq)
  | [] => false

/-- REPEAT of the newest record goes up by one (R530). -/
def Colo.again (c : Colo) : Colo :=
  match c.recs with
  | r :: rs => { c with recs := { r with rep := r.rep + 1 } :: rs }
  | [] => c

/-- Whether a record overwritten in the ring is lost: mirroring is active and it had not been mirrored (R533). -/
def coloLost (s : State) (q : Option Nat) : Bool :=
  match q with
  | some n => s.flag F.COLO_STAT_MIRROR && decide (s.colo.mirNext ≤ n)
  | none => false

/-- Number and write a record (R526, R530, R533). An overwritten unmirrored record makes a RECORDS_LOST record, which
overwrites the next one as well. -/
def coloWrite (src code : Nat) (pl : List Nat) (s : State) : State :=
  if s.colo.repeats src code pl then { s with colo := s.colo.again }
  else
    let r := s.colo.push src code pl
    let t := { s with colo := r.1 }
    if coloLost s r.2 then
      let first := r.2.getD 0
      { (t.setFlag F.COLO_STAT_LOST true) with colo := (t.colo.push 0xC00A 0x0402 (payload16 (bytesLe 6 first ++ bytesLe 4 2))).1 }
    else t

/-- Record an event (R526 to R530). Before the reservation is read, records wait in a queue of 64 (R534). -/
def State.record (s : State) (src code : Nat) (bs : List Nat) : State :=
  if s.colo.numbered then coloWrite src code (payload16 bs) s
  else if s.colo.waiting.length < 64 then
    { s with colo := { s.colo with waiting := s.colo.waiting ++ [⟨0, src, code, 1, payload16 bs⟩] } }
  else { s with colo := { s.colo with waitLost := s.colo.waitLost + 1 } }

/-- Source identity of a channel block (R528): channel, block, instance. -/
def chanIdent (n blk inst : Nat) : Nat := 0x8000 + n * 256 + blk * 16 + inst

/-- Source identity of a host-side block (R528). -/
def hostIdent (b : Nat) : Nat := 0xC000 + b

/-- The RESET record of a reset (R529): its kind in the order of the table of R377, and the channel or port. -/
def resetRecord (kind b : Nat) (s : State) : State := s.record (hostIdent 0xB) 0x0200 [kind, b]

/-- Start the numbering at power-on (R534): the newest reservation, the mirror, the new limit, the POWER_ON record, and the
records that waited. -/
def coloStart (s : State) : State :=
  let l := s.colo.limit.getD 0
  let m := s.colo.mirror.head?.map fun r => r.seq
  let s0 := match m with | some q => max l (q + 8193) | none => l
  let t := { s with colo := { s.colo with
    next := s0, numbered := true, limit := some (s0 + 16777216), mirNext := s0, waiting := [], waitLost := 0 } }
  let t := t.record (hostIdent 0x0B) 0x0201 (bytesLe 6 (m.getD 0))
  let t := t.each s.colo.waiting fun r u => u.record r.src r.code r.payload
  t.when (decide (0 < s.colo.waitLost)) fun u => u.record (hostIdent 0x0A) 0x0402 (bytesLe 6 0 ++ bytesLe 4 s.colo.waitLost)

/-- The number of the newest record (COLO.HEAD). -/
def Colo.headSeq (c : Colo) : Nat := c.next - 1

/-- The oldest number in the ring (COLO.OLDEST). -/
def Colo.oldest (c : Colo) : Nat := (c.recs.getLast?.map fun r => r.seq).getD 0

/-- Records not yet mirrored (COLO.STAT.UNMIRRORED). -/
def Colo.unmirrored (c : Colo) : List ColoRec := c.recs.filter fun r => decide (c.mirNext ≤ r.seq)

/-- The 32 bytes of a record (R527). -/
def ColoRec.bytes (r : ColoRec) : List Nat :=
  let a := bytesLe 6 r.seq ++ bytesLe 2 r.src ++ bytesLe 2 r.code
  a ++ bytesLe 2 r.rep ++ r.payload ++ bytesLe 4 (crc32c (a ++ r.payload))

/-- Mirroring of the ring starts (R533): with the oldest record then in the ring. -/
def coloMirrorOn (s : State) : State :=
  { (s.setFlag F.COLO_STAT_MIRROR true) with colo := { s.colo with mirNext := max s.colo.mirNext s.colo.oldest } }

/-- A mirror page of up to 512 unmirrored records, the oldest first, is programmed, or fails on both dies and is retried
(R533). -/
def coloMirror (ok : Bool) (s : State) : State :=
  let page := s.colo.unmirrored.reverse.take 512
  if !s.flag F.COLO_STAT_MIRROR || page.isEmpty then s
  else if ok then
    let c := s.colo
    { s with colo := { c with
      mirNext := (page.getLast?.map fun r => r.seq + 1).getD c.mirNext, mirror := (page.reverse ++ c.mirror).take 1048576 } }
  else s.raise (hostSrc 42)

/-- MGMT programs a higher limit once the head passes the limit in force less 8,388,608 (R534). -/
def coloExtend (s : State) : State :=
  match s.colo.limit with
  | some l => if l < s.colo.headSeq + 8388608 then { s with colo := { s.colo with limit := some (l + 16777216) } } else s
  | none => s

/-- A read of COLO.CHAL (R536): a fresh challenge, or zero during a lockout. -/
def coloChallenge (s : State) : State :=
  if s.flag F.COLO_STAT_LOCKOUT then { (s.set F.COLO_CHAL_CHAL 0) with colo := { s.colo with chal := none } }
  else
    let v := s.fresh.toNat % 4294967296
    { (s.used.set F.COLO_CHAL_CHAL v) with colo := { s.colo with chal := some v } }

/-- The response that clears the Colophon after challenge `c` (R536). -/
def coloAnswer (f : Fuses) (c : Nat) : Nat :=
  ((hmac384 (bytesLe 32 f.clearkey.val) (bytesLe 4 c ++ bytesLe 20 f.serial.val)).take 4).foldl (fun v b => v * 256 + b) 0

/-- Whether a response written to COLO.CLEAR is correct (R536). A blank key denies every response. -/
def coloAccepts (resp : W32) (inTime : Bool) (s : State) : Bool :=
  match s.colo.chal with
  | some c => inTime && decide (s.fuses.clearkey.val ≠ 0) && resp.toNat == coloAnswer s.fuses c
  | none => false

/-- A correct response: the ring and the mirror are emptied and the new log begins with COLO_CLEARED (R536). -/
def coloErase (s : State) : State :=
  let c := s.colo
  let first := (c.mirror.getLast?.map fun r => r.seq).getD c.oldest
  let last := c.headSeq
  let t := { s with colo := { c with recs := [], mirror := [], mirNext := c.next, lastClr := last, chal := none } }
  (t.set F.COLO_STAT_CLEAR_FAILS 0).record (hostIdent 0x0A) 0x0400 (bytesLe 6 first ++ bytesLe 6 last)

/-- A denied response (R536). With no challenge in force the record's challenge bytes are an open value. -/
def coloDeny (s : State) : State :=
  let fails := min 3 (s.get F.COLO_STAT_CLEAR_FAILS + 1)
  let ch := s.colo.chal.getD (s.fresh.toNat % 4294967296)
  let t := (if s.colo.chal.isNone then s.used else s)
  let t := { t with colo := { t.colo with chal := none } }
  let t := (t.set F.COLO_STAT_CLEAR_FAILS fails).when (fails == 3) fun u => u.setFlag F.COLO_STAT_LOCKOUT true
  t.record (hostIdent 0x0A) 0x0401 (bytesLe 4 ch ++ [fails])

/-- A write of COLO.CLEAR (R536). -/
def coloClear (resp : W32) (inTime : Bool) (s : State) : State :=
  if coloAccepts resp inTime s then coloErase s else coloDeny s

/-- The lockout ends (R536). -/
def coloUnlock (s : State) : State :=
  s.when (s.flag F.COLO_STAT_LOCKOUT) fun t => (t.setFlag F.COLO_STAT_LOCKOUT false).set F.COLO_STAT_CLEAR_FAILS 0

/-! ### Commands -/

/-- COLO_MIRROR_PAGE (R533). -/
def execColoMirrorPage (ok : Bool) (s : State) : Host.Outcome State Fault Refusal := .next (coloMirror ok s)
/-- COLO_RESERVATION_EXTEND (R534). -/
def execColoReservationExtend (s : State) : Host.Outcome State Fault Refusal := .next (coloExtend s)
/-- COLO_CHALLENGE_READ (R536). -/
def execColoChallengeRead (s : State) : Host.Outcome State Fault Refusal := .next (coloChallenge s)
/-- COLO_LOCKOUT_END (R536). -/
def execColoLockoutEnd (s : State) : Host.Outcome State Fault Refusal := .next (coloUnlock s)

end Sys2Proof.Machine
end

