-- ==== Sys2Proof/Machine/HostOps.lean ====
section
/-! DEFINITION. Named operations over the host side that every family uses: commands and their completion, namespaces,
asynchronous events, Error Information entries. -/

namespace Sys2Proof.Machine

def State.modHost (s : State) (f : HostSt → HostSt) : State := { s with host := f s.host }

/-! ### Commands (R334, R373) -/

/-- The fetched command with number `k`. -/
def State.cmd (s : State) (k : Nat) : Option Cmd := s.host.cmds.find? fun c => c.k == k

/-- Change the command with number `k`. -/
def State.modCmd (s : State) (k : Nat) (f : Cmd → Cmd) : State :=
  s.modHost fun h => { h with cmds := h.cmds.map fun c => if c.k == k then f c else c }

/-- A status of type `t` and code `c`. -/
def sct (t c : Nat) : Nat := t * 256 + c

def stOk : Nat := 0
def stOpcode : Nat := sct 0 0x01
def stField : Nat := sct 0 0x02
def stTransfer : Nat := sct 0 0x04
def stInternal : Nat := sct 0 0x06
def stAborted : Nat := sct 0 0x07
def stSqDeleted : Nat := sct 0 0x08
def stInvalidNs : Nat := sct 0 0x0B
def stProtected : Nat := sct 0 0x20
def stLbaRange : Nat := sct 0 0x80
def stNotReady : Nat := sct 0 0x82
def stResConflict : Nat := sct 0 0x83
def stUnrec : Nat := sct 2 0x81
def stCheckRefused : Nat := sct 7 0xC0
def stChannel : Nat := sct 7 0xC1
def stStrict : Nat := sct 7 0xC3
/-- A descriptor rejected under R66 (R331). -/
def stDescriptor : Nat := sct 7 0xC4

/-- A command's completion is decided; it is decided once (R335, R373). -/
def State.finish (s : State) (k st : Nat) : State :=
  s.modCmd k fun c => if c.status.isNone then { c with status := some st } else c

/-- As `finish`, with dwords 0 and 1 of the completion. -/
def State.finishDw (s : State) (k st dw0 dw1 : Nat) : State :=
  s.modCmd k fun c => if c.status.isNone then { c with status := some st, dw0 := dw0, dw1 := dw1 } else c

/-- A command is OPEN and undecided. -/
def Cmd.isOpen (c : Cmd) : Bool := !c.posting && c.status.isNone

/-- Whether a command is a Copy. -/
def Cmd.isCopy (c : Cmd) : Bool := decide (0 < c.qid) && c.e.opc == 0x19#8

/-- The port and the use under which a command asks for its buffers (R474, R478): a read and a Verify as the dispatcher's media
delivery, the read phase of a Copy as its staging, everything else as host intake. -/
def Cmd.bufUse (c : Cmd) : Nat × Nat :=
  if c.isCopy && c.phase == 0 then (0xF, 5)
  else if decide (0 < c.qid) && (c.e.opc == 0x02#8 || c.e.opc == 0x0C#8) then (0xF, 1)
  else (8 + c.ctl.val, 0)

/-- Whether the command's data comes from host memory. -/
def Cmd.takesXfer (c : Cmd) : Bool := c.bufUse.2 == 0 && !c.isCopy

/-- Nothing a command waits for is left. -/
def Cmd.settled (c : Cmd) : Bool :=
  c.started && c.wantBuf == 0 && !c.wantXfer && c.items == 0 && c.ents == 0 && c.verWait.isEmpty &&
    c.stampWait.isNone && !c.lockWait && c.delQ.isNone && c.waitChk.isNone && c.todo.isEmpty

/-- Whether a write runs on through a reset: a program or a gate has begun for it (R334, R376). -/
def runsOn (c : Cmd) : Bool := c.begun || c.dead

/-- Destage, collection, rebuild and the warm level stop: in the safe state (R521), in the power-loss sequence (R25, R413) and in a
chip reset (R615). -/
def stopped (s : State) : Bool := s.flag F.FAULT_STAT_SAFE || s.flag F.PWR_SUPPLY_PLOSS || s.rst.chip.isSome

/-- Commands that wait for the check of a block end with it (R330, R331); one that only waits for its end (block + 16) succeeds. -/
def checkDone (b r : Nat) (s : State) : State :=
  s.each (s.host.cmds.filter fun c => c.waitChk == some b || c.waitChk == some (b + 16)) fun c t =>
    let t := t.modCmd c.k fun d => { d with waitChk := none }
    if r = 0 || c.waitChk != some b then t.finish c.k stOk else t.finishDw c.k stCheckRefused r 0

/-- Every work item of a command gone, by one. -/
def State.itemDone (s : State) (k : Nat) : State := s.modCmd k fun c => { c with items := c.items - 1 }

/-- Mark an OPEN, undecided command whose row has not begun as begun, when `ok` accepts its entry. -/
def startable (ok : Sqe → Bool) (k : Nat) (s : State) : Option Cmd :=
  match s.cmd k with
  | some c => if c.isOpen && !c.started && !c.lockWait && c.stampWait.isNone && ok c.e then some c else none
  | none => none

def markStarted (k : Nat) (s : State) : State := s.modCmd k fun c => { c with started := true }

/-! ### Namespaces -/

def State.ns (s : State) (nsid : Nat) : Option Ns := s.host.nss.find? fun n => n.nsid == nsid

def State.modNs (s : State) (nsid : Nat) (f : Ns → Ns) : State :=
  s.modHost fun h => { h with nss := h.nss.map fun n => if n.nsid == nsid then f n else n }

/-! ### Controllers -/

def State.ctlr (s : State) (c : Ctl) : Ctlr := s.host.ctls[c]

def State.modCtlr (s : State) (c : Ctl) (f : Ctlr → Ctlr) : State :=
  s.modHost fun h => { h with ctls := h.ctls.set c (f h.ctls[c]) }

def allCtls : List Ctl := [0, 1]

/-- Whether Asynchronous Event Configuration enables an event (R341; R340's bits as NVM Express numbers them, PRESUMED, log
entry 7). -/
def aecEnables (aec typ info : Nat) : Bool :=
  if typ == 7 then aec.testBit (16 + info)
  else if typ == 1 then aec.testBit (2 - info)
  else if typ == 2 then (if info == 0 then aec.testBit 8 else if info == 1 then aec.testBit 9 else true)
  else true

/-- The mask an event falls under: per log page for vendor events, per type otherwise (R340, R341). -/
def AsyncEv.maskKey (e : AsyncEv) : Nat × Nat := if e.typ == 7 then (7, e.page) else (e.typ, 0)

/-- An asynchronous event for controller `c` becomes pending, unless it is disabled, masked or already pending. -/
def State.aen (s : State) (c : Ctl) (typ info page : Nat) : State :=
  let e : AsyncEv := ⟨typ, info, page⟩
  s.modCtlr c fun t =>
    if aecEnables t.aec typ info && !t.masked.contains e.maskKey && !t.events.contains e then { t with events := t.events ++ [e] } else t

/-- An event for each controller. -/
def State.aenAll (s : State) (typ info page : Nat) : State := s.each allCtls fun c t => t.aen c typ info page

/-- A channel changed the state in byte 0 of its Channel Status entry (R341, information 0x00). -/
def State.chanEvent (s : State) : State := s.aenAll 7 0x00 0xC0

/-- Add an Error Information entry; the page keeps the newest 64 (R327, R329). -/
def State.errInfo (s : State) (c : Ctl) (sqid cid st lba nsid : Nat) : State :=
  s.modCtlr c fun t =>
    { t with errs := (⟨t.errCnt + 1, sqid, cid, st, lba, nsid⟩ :: t.errs).take 64, errCnt := t.errCnt + 1 }

/-- An Error Information entry for a block left unreadable, in every controller the namespace is attached to (R329). -/
def State.errUnread (s : State) (nsid lba : Nat) : State :=
  match s.ns nsid with
  | some n => s.each n.attach fun c t => t.errInfo c 0xFFFF 0xFFFF stUnrec lba nsid
  | none => s

/-- The data of a completion. -/
def State.answer (s : State) (bs : List Nat) : State := s.modHost fun h => { h with ret := bs }

end Sys2Proof.Machine
end

