-- ==== Sys2Proof/Machine/Ream.lean ====
section
/-! DEFINITION. Ream (R473 to R488): pools, admission, allocation, sharing, release, waits, violations and reclaim; and
the 4 KiB units of the buffer DRAM with their side records. -/

namespace Sys2Proof.Machine

def emptyHandle : Nat := 0xFFFFFFFF

def State.pool (s : State) (i : PoolId) : Pool := s.ream.pools[i]
def State.modPool (s : State) (i : PoolId) (f : Pool → Pool) : State :=
  { s with ream := { s.ream with pools := s.ream.pools.set i (f s.ream.pools[i]) } }
def State.modReam (s : State) (f : Ream → Ream) : State := { s with ream := f s.ream }
def allPools : List PoolId := [0, 1, 2, 3, 4, 5, 6, 7, 8, 9, 10, 11, 12, 13, 14, 15]

/-! ### Handles and control words (R476, R478) -/

def mkHandle (i : PoolId) (x : Nat) : Nat := i.val * 16777216 + x
def handleIdx (h : Nat) : Nat := h % 16777216
def handlePool (h : Nat) : PoolId := ⟨h / 16777216 % 16, Nat.mod_lt _ (by decide)⟩
def ctlRefs (w : Nat) : Nat := w % 256
def ctlLive (w : Nat) : Bool := w.testBit 8
def ctlOwned (w : Nat) : Bool := w.testBit 9
def ctlOwner (w : Nat) : Nat := w / 1024 % 16
def mkCtl (refs : Nat) (owned : Bool) (owner : Nat) : Nat := refs + 256 + owned.toNat * 512 + owner * 1024

/-- Buffer size of a pool in 4 KiB units (R473). -/
def poolUnits (i : PoolId) (s : State) : Nat :=
  match s.get (F.REAM_POOLCFG_SIZE i) with
  | 0 => 1
  | 1 => 16
  | _ => 256

/-- A pseudo-channel in 4 KiB units (R16). The buffer DRAM's offsets run over the channel regions in channel order, the host-side region,
which is interleaved across pseudo-channels 0 to 7 unit by unit, and the cache region. -/
def pcUnits (s : State) : Nat := if s.small then 262144 else 524288
def hostUnits (s : State) : Nat := 4 * pcUnits s

/-- The pseudo-channel of a unit. -/
def unitPc (u : Nat) (s : State) : Nat :=
  let h := pcUnits s / 2
  if u < hostUnits s then u / h else if u < 2 * hostUnits s then (u - hostUnits s) % 8 else 8 + (u - 2 * hostUnits s) / pcUnits s

/-- The unit that holds an offset of a pseudo-channel. -/
def unitAt (pc ofs : Nat) (s : State) : Nat :=
  let h := pcUnits s / 2
  let x := ofs / 4096
  if 8 ≤ pc then 2 * hostUnits s + (pc - 8) * pcUnits s + x else if x < h then pc * h + x else hostUnits s + (x - h) * 8 + pc

/-- The host side does not use the slice of a faulty pseudo-channel (R18). -/
def unitOk (u : Nat) (s : State) : Bool := !s.flag F.CACHE_DRAMSTAT_TRAINED || s.bit F.CACHE_DRAMSTAT_PC_OK (unitPc u s)

/-- The units of `lo` up to `hi` that lie in a pseudo-channel's slice. -/
def sliceCount (pc lo hi : Nat) (s : State) : Nat :=
  let h := pcUnits s / 2
  let a := min hi ((pc + 1) * h) - max lo (pc * h)
  let x := max lo (hostUnits s) - hostUnits s
  let y := min hi (2 * hostUnits s) - hostUnits s
  a + ((y + 7 - pc) / 8 - (x + 7 - pc) / 8)

/-- The first 4 KiB unit of the buffer DRAM that a buffer covers (R476). -/
def handleUnit (h : Nat) (s : State) : Nat :=
  s.get (F.REAM_POOLBASE_BASE (handlePool h)) + handleIdx h * poolUnits (handlePool h) s

/-! ### Thresholds (R482, R483) -/

/-- Whether index `x` of a pool may be handed out: a pool of 4 KiB buffers loses those in the slice of a faulty pseudo-channel; larger
buffers reach over every slice (R18). -/
def indexOk (i : PoolId) (s : State) (x : Nat) : Bool :=
  poolUnits i s != 1 || unitOk (s.get (F.REAM_POOLBASE_BASE i) + x) s

/-- The buffers never handed out that a pool has lost with faulty pseudo-channels. -/
def poolLost (i : PoolId) (s : State) : Nat :=
  let b := s.get (F.REAM_POOLBASE_BASE i)
  if poolUnits i s != 1 || !s.flag F.CACHE_DRAMSTAT_TRAINED then 0
  else (((List.range 8).filter fun pc => !s.bit F.CACHE_DRAMSTAT_PC_OK pc).map fun pc =>
    sliceCount pc (b + (s.pool i).fresh) (b + s.get (F.REAM_POOLCFG_COUNT i)) s).sum

/-- The free count F of a pool (R481). -/
def poolFree (i : PoolId) (s : State) : Nat :=
  let p := s.pool i
  p.chip.length + p.ring.length + (s.get (F.REAM_POOLCFG_COUNT i) - p.fresh - poolLost i s)

def poolThr (v : Nat) (i : PoolId) (s : State) : Nat := v * s.get (F.REAM_POOLCFG_COUNT i) / 256
def poolWarn (i : PoolId) (s : State) : Nat := poolThr (s.get (F.REAM_POOLTHR_WARN i)) i s
def poolThrottle (i : PoolId) (s : State) : Nat := min (poolThr (s.get (F.REAM_POOLTHR_THROTTLE i)) i s) (poolWarn i s)
def poolStop (i : PoolId) (s : State) : Nat := min (poolThr (s.get (F.REAM_POOLTHR_STOP i)) i s) (poolThrottle i s)

/-- Whether F stands at or below a threshold, in an enabled pool. -/
def poolAt (thr : Nat) (i : PoolId) (s : State) : Bool := s.flag (F.REAM_POOLCFG_EN i) && decide (poolFree i s ≤ thr)

/-- Bring POOLSTAT up to date; a downward crossing of WARN raises REAM_POOL_LOW (R483). -/
def poolSync (i : PoolId) (s : State) : State :=
  let f := poolFree i s
  let low := decide (f ≤ poolWarn i s)
  let t := s.when (low && !s.flag (F.REAM_POOLSTAT_WARN i)) fun u => u.raise (hostSrc 27) i.val
  let t := (t.set (F.REAM_POOLSTAT_FREE i) f).setFlag (F.REAM_POOLSTAT_WARN i) low
  let t := t.setFlag (F.REAM_POOLSTAT_THROTTLED i) (decide (f ≤ poolThrottle i s))
  let t := t.setFlag (F.REAM_POOLSTAT_STOPPED i) (decide (f ≤ poolStop i s))
  t.set (F.REAM_POOLSTAT_WAITING i) (min 15 (s.pool i).waits.length)

/-- The class of an ALLOC: 0 media channels, 1 host intake, 2 background (R474). -/
def allocClass (id use : Nat) : Fin 3 := if use == 1 then 0 else if use == 0 && (id == 8 || id == 9) then 1 else 2

/-- Admission at free count `f` (R482); `paced` when a throttled request has been admitted in the present gap of THR_GAP. -/
def admits (cls : Fin 3) (n f thro stop : Nat) (paced : Bool) : Bool :=
  match cls with
  | 0 => decide (n ≤ f)
  | 1 => decide (stop < f) && decide (n ≤ f - stop) && (decide (thro < f) || !paced)
  | 2 => decide (thro < f) && decide (n ≤ f - thro)

/-- Whether a request of a class for `n` buffers of pool `i` is admitted now. -/
def admitted (i : PoolId) (cls : Fin 3) (n : Nat) (s : State) : Bool :=
  admits cls n (poolFree i s) (poolThrottle i s) (poolStop i s) (s.pool i).paced

/-! ### Operations (R479, R480) -/

/-- At most `n` indexes from `x` on that may be handed out, and where the search ended; every run of eight units has one unless no
pseudo-channel is left. -/
def freshRun (ok : Nat → Bool) (count : Nat) : Nat → Nat → Nat → List Nat × Nat
  | 0, _, x => ([], x)
  | f + 1, n, x =>
    if n = 0 ∨ count ≤ x then ([], x)
    else if ok x then let r := freshRun ok count f (n - 1) (x + 1); (x :: r.1, r.2)
    else freshRun ok count f n (x + 1)

/-- The next `n` free indexes, and the pool without them: handles on chip first, then the ring. -/
def takeFree (ok : Nat → Bool) (n count : Nat) (p : Pool) : List Nat × Pool :=
  let a := p.chip.take n
  let n1 := n - a.length
  let b := freshRun ok count (8 * n1 + 8) n1 p.fresh
  let c := p.ring.take (n1 - b.1.length)
  (a ++ b.1 ++ c, { p with chip := p.chip.drop n, fresh := b.2, ring := p.ring.drop (n1 - b.1.length) })

/-- Allocation clears the side records of the buffer (R477, R488). -/
def clearSide (h : Nat) (s : State) : State :=
  let u := handleUnit h s
  s.modReam fun r => { r with sides := assocDrop u (u + poolUnits (handlePool h) s) r.sides }

/-- Give `n` buffers of pool `i` to requester `id`; the handles are the first part. -/
def grantBuffers (i : PoolId) (id n : Nat) (s : State) : List Nat × State :=
  let r := takeFree (indexOk i s) n (s.get (F.REAM_POOLCFG_COUNT i)) (s.pool i)
  let hs := r.1.map (mkHandle i)
  let t := s.modPool i fun _ => r.2
  let t := t.each hs fun h u => clearSide h (u.modReam fun m => { m with ctl := m.ctl.set h (mkCtl 1 true id) })
  (hs, poolSync i t)

/-- An admitted request (R482, R485): the class's pointer passes the requester, and a throttled admission closes the gap. -/
def admitReq (i : PoolId) (cls : Fin 3) (id n : Nat) (s : State) : List Nat × State :=
  grantBuffers i id n (s.modPool i fun p => { p with
    rr := p.rr.set cls ((id + 1) % 16), paced := p.paced || (cls == 1 && decide (poolFree i s ≤ poolThrottle i s)) })

/-- A violation of R479 (R486): REAM.VIOL and VIOLH keep the first, COUNT counts every one. -/
def violate (op id h : Nat) (s : State) : State :=
  let t := if s.flag F.REAM_VIOL_VALID then s else
    (((s.set F.REAM_VIOL_OP op).set F.REAM_VIOL_REQ id).set F.REAM_VIOLH_HANDLE h).setFlag F.REAM_VIOL_VALID true
  ((t.inc F.REAM_VIOL_COUNT).raise (hostSrc 29)).modReam fun r => { r with err := true, ans := [emptyHandle] }

/-- The pool of a use, unless it has none or its pool is off (R474, R475). -/
def usePool (use : Nat) (s : State) : Option PoolId :=
  let i : PoolId := ⟨s.get (F.REAM_USE_POOL use) % 16, Nat.mod_lt _ (by decide)⟩
  if s.flag (F.REAM_USE_NONE use) || !s.flag (F.REAM_POOLCFG_EN i) then none else some i

/-- Distance of an identity from a round-robin pointer. -/
def rrDist (ptr id : Nat) : Nat := (id + 16 - ptr) % 16

/-- The waiting request of a class that comes first after the pointer and is admitted now. -/
def nextWait (i : PoolId) (cls : Fin 3) (s : State) : Option ReamWait :=
  let p := s.pool i
  let cs := p.waits.filter fun w => allocClass w.id w.use == cls &&
    admitted i cls w.n s
  cs.foldl (fun b w => match b with
    | none => some w
    | some v => if rrDist p.rr[cls] w.id < rrDist p.rr[cls] v.id then some w else some v) none

/-- An ALLOC for command `cmd` (R482 to R484): the handles, or the empty list when the request waits (also behind one of its class that
returned buffers now admit), is refused, or is not sent because the port already waits on the pool. -/
def alloc (id use n : Nat) (cmd : Option Nat) (s : State) : List Nat × State :=
  match usePool use s with
  | none =>
    let h := s.fresh.toNat % 4294967296
    ([], violate 0 id h s.used)
  | some i =>
    if n == 0 || decide (512 < n) then ([], violate 0 id (s.fresh.toNat % 4294967296) s.used)
    else if (s.pool i).waits.any fun w => w.id == id then ([], s.modReam fun r => { r with ans := [emptyHandle], err := false })
    else if admitted i (allocClass id use) n s && (nextWait i (allocClass id use) s).isNone then
      let g := admitReq i (allocClass id use) id n s
      (g.1, g.2.modReam fun r => { r with ans := g.1, err := false })
    else
      let t := s.modPool i fun p => { p with waits := p.waits ++ [⟨id, use, n, cmd⟩] }
      ([], (poolSync i t).modReam fun r => { r with ans := [emptyHandle], err := false })

/-- The control word of a handle an operation may act on; none breaks R479 (R486). -/
def handleCtl (h : Nat) (s : State) : Option Nat :=
  let i := handlePool h
  let w := s.ream.ctl.get h
  if h < 268435456 && decide (handleIdx h < s.get (F.REAM_POOLCFG_COUNT i)) && s.flag (F.REAM_POOLCFG_EN i) && ctlLive w then some w
  else none

/-- Store a control word whose REFS may have reached zero: the buffer then returns to the free store (R480). -/
def putCtl (h refs : Nat) (owned : Bool) (owner : Nat) (s : State) : State :=
  let i := handlePool h
  let t := s.modReam fun r => { r with err := false, ctl := r.ctl.set h (if refs = 0 then 0 else mkCtl refs owned owner) }
  if refs = 0 then poolSync i (t.modPool i fun p => if indexOk i s (handleIdx h) then { p with chip := p.chip ++ [handleIdx h] } else p) else t

/-- SHARE (R479, R480). -/
def share (id h : Nat) (s : State) : State :=
  match handleCtl h s with
  | none => violate 1 id h s
  | some w =>
    if ctlRefs w = 255 then (s.raise (hostSrc 28)).modReam fun r => { r with err := true }
    else putCtl h (ctlRefs w + 1) (ctlOwned w) (ctlOwner w) s

/-- RELEASE (R479, R480). -/
def release (id h : Nat) (s : State) : State :=
  match handleCtl h s with
  | none => violate 2 id h s
  | some w =>
    if (ctlOwned w).toNat < ctlRefs w then putCtl h (ctlRefs w - 1) (ctlOwned w) (ctlOwner w) s else violate 2 id h s

/-- FREE (R479, R480). -/
def freeBuf (id h : Nat) (s : State) : State :=
  match handleCtl h s with
  | none => violate 3 id h s
  | some w =>
    if ctlOwned w && ctlOwner w == id then putCtl h (ctlRefs w - 1) false (ctlOwner w) s else violate 3 id h s

/-- GIVE (R479). -/
def give (id h dst : Nat) (s : State) : State :=
  match handleCtl h s with
  | none => violate 4 id h s
  | some w =>
    if ctlOwned w && ctlOwner w == id then putCtl h (ctlRefs w) true dst s else violate 4 id h s

/-- Free, on its owner's behalf, a buffer the device itself holds; nothing when it is no longer owned. -/
def dropBuf (h : Nat) (s : State) : State :=
  match handleCtl h s with
  | some w => if ctlOwned w then putCtl h (ctlRefs w - 1) false (ctlOwner w) s else s
  | none => s

/-- Ream frees, for a fenced channel, every buffer the channel owns (R487). -/
def reclaim (n : Ch) (s : State) : State :=
  s.each (s.ream.ctl.cells.filter fun c => ctlOwned c.2 && ctlOwner c.2 == n.val) fun c t => dropBuf c.1 t

/-! ### Waiting requests (R484, R485) -/

/-- A waiting request of a class is granted; the command whose buffers they are goes on. -/
def grantOf (i : PoolId) (cls : Fin 3) (s : State) (w : ReamWait) : State :=
  let g := admitReq i cls w.id w.n (s.modPool i fun p => { p with waits := p.waits.filter (fun v => v.id != w.id) })
  let u := g.2.modReam fun r => { r with ans := g.1, err := false }
  match w.cmd with
  | some k => u.modCmd k fun c => { c with handles := c.handles ++ g.1, wantBuf := c.wantBuf - w.n, wantXfer := c.takesXfer }
  | none => u

/-- Grant one waiting request of the first class that has one. -/
def grantOne (i : PoolId) (s : State) : Option State :=
  match (nextWait i 0 s).map (grantOf i 0 s) with
  | some t => some t
  | none => match (nextWait i 1 s).map (grantOf i 1 s) with
    | some t => some t
    | none => (nextWait i 2 s).map (grantOf i 2 s)

def grantAll : Nat → PoolId → State → State
  | 0, _, s => s
  | k + 1, i, s => match grantOne i s with | some t => grantAll k i t | none => s

/-- Commands that still wait for the wait entry of their port send their request, in fetch order. -/
def resendWaits (s : State) : State :=
  s.each (s.host.cmds.filter fun c => decide (0 < c.wantBuf)) fun c t =>
    match usePool c.bufUse.2 t with
    | some i =>
      if (t.pool i).waits.any fun w => w.id == c.bufUse.1 then t
      else
        let r := alloc c.bufUse.1 c.bufUse.2 c.wantBuf (some c.k) t
        if r.1.isEmpty then r.2
        else r.2.modCmd c.k fun d => { d with handles := d.handles ++ r.1, wantBuf := 0, wantXfer := c.takesXfer }
    | none => t

/-- A background request, sent only when it is admitted at once (DESIGN CHOICE, log entry 8). -/
def tryAlloc (id use n : Nat) (s : State) : Option (List Nat × State) :=
  match usePool use s with
  | none => none
  | some i =>
    if decide (0 < n) && decide (n ≤ 512) && !((s.pool i).waits.any fun w => w.id == id) &&
        admitted i (allocClass id use) n s && (nextWait i (allocClass id use) s).isNone
    then some (admitReq i (allocClass id use) id n s) else none

/-- REAM_WAIT_GRANT: waiting requests of a pool are decided while any is admitted. The gap of THR_GAP has then passed (DESIGN CHOICE, log
entry 8: time is not modelled). -/
def waitGrant (i : PoolId) (s : State) : State :=
  resendWaits (poolSync i (grantAll (s.pool i).waits.length i (s.modPool i fun p => { p with paced := false })))

/-! ### The handle store (R481) -/

/-- Refill: with fewer than 128 handles on chip, up to 256 are brought from the ring (how many is a DESIGN CHOICE, log
entry 8). -/
def refill (i : PoolId) (s : State) : State :=
  let p := s.pool i
  if !s.flag (F.REAM_POOLCFG_EN i) || decide (128 ≤ p.chip.length) then s
  else
    let r := takeFree (indexOk i s) (256 - p.chip.length) (s.get (F.REAM_POOLCFG_COUNT i)) { p with chip := [] }
    s.modPool i fun _ => { r.2 with chip := p.chip ++ r.1 }

/-- Spill: with more than 448 handles on chip, all but 256 go to the ring. -/
def spill (i : PoolId) (s : State) : State :=
  let p := s.pool i
  if decide (p.chip.length ≤ 448) then s
  else s.modPool i fun _ => { p with chip := p.chip.take 256, ring := p.ring ++ p.chip.drop 256 }

/-- A word of two handles on chip is lost to an uncorrectable error; the pool is then audited (R481). -/
def loseHandle (i : PoolId) (word : Nat) (s : State) : State :=
  poolSync i ((s.modPool i fun p => { p with chip := p.chip.take (2 * word) ++ p.chip.drop (2 * word + 2) }).setFlag (F.REAM_POOLSTAT_AUDIT i) true)

/-- The audit ends: every free buffer that was in neither store returns to the ring (R481). -/
def auditDone (i : PoolId) (s : State) : State :=
  if !s.flag (F.REAM_POOLSTAT_AUDIT i) then s
  else
    let p := s.pool i
    let lost := (List.range p.fresh).filter fun x =>
      !ctlLive (s.ream.ctl.get (mkHandle i x)) && !p.chip.contains x && !p.ring.contains x && indexOk i s x
    poolSync i ((s.modPool i fun _ => { p with ring := p.ring ++ lost }).setFlag (F.REAM_POOLSTAT_AUDIT i) false)

/-- A pool's ring is built (R473, R481): every buffer free. -/
def buildPool (i : PoolId) (s : State) : State :=
  let t := s.modPool i fun _ => Pool.reset
  let t := t.modReam fun r => { r with ctl := r.ctl.clear (mkHandle i 0) (mkHandle i 0 + 16777216) }
  let f := t.get (F.REAM_POOLCFG_COUNT i)
  let t := ((t.set (F.REAM_POOLSTAT_FREE i) f).setFlag (F.REAM_POOLSTAT_WARN i) (decide (f ≤ poolWarn i t)))
  poolSync i (t.setFlag (F.REAM_POOLSTAT_AUDIT i) false)

/-- A write of 1 to POOLCFG.EN: a size of 0b11 is refused. -/
def poolOn (i : PoolId) (s : State) : State :=
  if s.flag (F.REAM_POOLCFG_EN i) || s.get (F.REAM_POOLCFG_SIZE i) == 3 then s
  else buildPool i (s.setFlag (F.REAM_POOLCFG_EN i) true)

/-- Whether two enabled pools overlap, or one enters the cache region (R473). -/
def poolsOverlap (s : State) : Bool :=
  let half := if s.small then 2097152 else 4194304
  let ps := (allPools.filter fun (i : PoolId) => s.flag (F.REAM_POOLCFG_EN i)).map fun (i : PoolId) =>
    (s.get (F.REAM_POOLBASE_BASE i), s.get (F.REAM_POOLBASE_BASE i) + s.get (F.REAM_POOLCFG_COUNT i) * poolUnits i s)
  let rec clash : List (Nat × Nat) → Bool
    | [] => false
    | a :: r => r.any (fun b => decide (a.1 < b.2) && decide (b.1 < a.2)) || clash r
  ps.any (fun a => decide (half < a.2)) || clash ps

/-- Whether use `u` obeys R474 and R475. -/
def useOk (u : Nat) (s : State) : Bool :=
  let i : PoolId := ⟨s.get (F.REAM_USE_POOL u) % 16, Nat.mod_lt _ (by decide)⟩
  if s.flag (F.REAM_USE_NONE u) then u == 8
  else
    let sz := s.get (F.REAM_POOLCFG_SIZE i)
    s.flag (F.REAM_POOLCFG_EN i) && (s.flag (F.REAM_POOLCFG_WB i) == (u == 0)) &&
      (if u == 8 then sz == 2 else if u == 6 then true else sz == 0) &&
      (u == 0 || s.flag (F.REAM_USE_NONE 0) || s.get (F.REAM_USE_POOL u) != s.get (F.REAM_USE_POOL 0))

/-- The pool conditions of R473 that refuse an enable with reason 0x0C. -/
def poolsBad (s : State) : Bool :=
  !(allPools.any fun i => s.flag (F.REAM_POOLCFG_EN i) && s.flag (F.REAM_POOLCFG_WB i)) || poolsOverlap s ||
    !((List.range 9).all fun u => useOk u s)

/-! ### Units of the buffer DRAM (R477) -/

/-- A list cut or filled with zeros to `n` numbers. -/
def padTo (n : Nat) (l : List Nat) : List Nat := l.take n ++ List.replicate (n - l.length) 0

/-- Write a block to a 4 KiB unit with its side record (R19 step 3, R93). -/
def putUnit (u : Nat) (b : Block) (s : State) : State :=
  let d := padTo 4096 (b.data.map BitVec.toNat)
  let sd : Side := ⟨padTo 64 (b.md.map BitVec.toNat), crc32c d, true, false⟩
  { s with dram := s.dram.setRun (u * 4096) d, ream := { s.ream with sides := assocSet u sd s.ream.sides } }

/-- The block in a 4 KiB unit. -/
def getUnit (u : Nat) (s : State) : Block :=
  let sd := (assocGet u s.ream.sides).getD ⟨[], 0, false, false⟩
  ⟨(s.dram.getRun (u * 4096) 4096).map (BitVec.ofNat 8), (padTo 64 sd.md).map (BitVec.ofNat 8)⟩

/-- Whether the data of a unit matches the CRC-32C of its side record. -/
def unitMatch (u : Nat) (s : State) : Bool :=
  match assocGet u s.ream.sides with
  | some sd => sd.valid && sd.crc == crc32c (s.dram.getRun (u * 4096) 4096)
  | none => false

/-- Whether a unit is poisoned (R488). -/
def unitPoison (u : Nat) (s : State) : Bool := ((assocGet u s.ream.sides).map fun sd => sd.poison).getD false

/-- Set POISON in the side record of a unit (R488). -/
def poisonUnit (u : Nat) (s : State) : State :=
  let sd := (assocGet u s.ream.sides).getD ⟨[], 0, false, false⟩
  s.modReam fun r => { r with sides := assocSet u { sd with poison := true } r.sides }

/-- Write blocks into buffers, one 4 KiB buffer each. -/
def putBlocks : List Nat → List Block → State → State
  | h :: hs, b :: bs, s => putBlocks hs bs (putUnit (handleUnit h s) b s)
  | _, _, s => s

/-- A REAM block reset (R507): operations and wait entries are abandoned, every buffer returns to its pool's ring. -/
def reamFlush (s : State) : State :=
  allPools.foldl (fun t (i : PoolId) => if t.flag (F.REAM_POOLCFG_EN i) then buildPool i t else t) s

/-! ### Commands -/

/-- REAM_ALLOC (R482). -/
def execReamAlloc (id : ReamId) (use : Fin 9) (n : Nat) (s : State) : Host.Outcome State Fault Refusal :=
  .next (alloc id.val use.val n none s).2
/-- REAM_SHARE (R479). -/
def execReamShare (id : ReamId) (h : W32) (s : State) : Host.Outcome State Fault Refusal := .next (share id.val h.toNat s)
/-- REAM_RELEASE (R480). -/
def execReamRelease (id : ReamId) (h : W32) (s : State) : Host.Outcome State Fault Refusal := .next (release id.val h.toNat s)
/-- REAM_FREE (R479). -/
def execReamFree (id : ReamId) (h : W32) (s : State) : Host.Outcome State Fault Refusal := .next (freeBuf id.val h.toNat s)
/-- REAM_GIVE (R479). -/
def execReamGive (id : ReamId) (h : W32) (dst : ReamId) (s : State) : Host.Outcome State Fault Refusal :=
  .next (give id.val h.toNat dst.val s)
/-- REAM_REFILL (R481). -/
def execReamRefill (pool : PoolId) (s : State) : Host.Outcome State Fault Refusal := .next (refill pool s)
/-- REAM_SPILL (R481). -/
def execReamSpill (pool : PoolId) (s : State) : Host.Outcome State Fault Refusal := .next (spill pool s)
/-- REAM_AUDIT_DONE (R481). -/
def execReamAuditDone (pool : PoolId) (s : State) : Host.Outcome State Fault Refusal := .next (auditDone pool s)
/-- REAM_CHANNEL_RECLAIM (R487). -/
def execReamChannelReclaim (n : Ch) (s : State) : Host.Outcome State Fault Refusal := .next (reclaim n s)

end Sys2Proof.Machine
end

