-- ==== Sys2Proof/Machine/Cache.lean ====
section
/-! DEFINITION. The buffer cache and the health of the buffer DRAM (chapter 14): lookup, fill, replacement, offers,
invalidation, tags, and the errors of the pseudo-channels. -/

namespace Sys2Proof.Machine

def State.modCache (s : State) (f : Cache → Cache) : State := { s with cache := f s.cache }

/-! ### Placement (R447, R448) -/

def cacheSets (s : State) : Nat := if s.small then 8192 else 16384
def pcSize (s : State) : Nat := if s.small then 1073741824 else 2147483648

/-- The set of a line (R447). -/
def lineSet (nsid line : Nat) (s : State) : Nat := (line + 1031 * (nsid - 1)) % cacheSets s

/-- The first 4 KiB unit of a way in the buffer DRAM (R447). -/
def wayUnit (sn w : Nat) (s : State) : Nat := ((8 + sn % 8) * pcSize s + (sn / 8 * 16 + w) * 65536) / 4096

/-- Whether a pseudo-channel 0 to 7 that holds part of the way's side record has been declared faulty (R448). -/
def sideLost (sn w : Nat) (s : State) : Bool :=
  let a := (16 * sn + w) * 1088
  s.flag F.CACHE_DRAMSTAT_TRAINED &&
    (!s.bit F.CACHE_DRAMSTAT_PC_OK (a / 4096 % 8) || !s.bit F.CACHE_DRAMSTAT_PC_OK ((a + 1087) / 4096 % 8))

def wayLocked (w : Nat) (s : State) : Bool := s.bit F.CACHE_WAYLOCK_LOCK w

/-- Whether a hit is being read from a way (R451). -/
def pinned (sn w : Nat) (s : State) : Bool := s.cache.pins.any fun p => p.1 == sn && p.2.1 == w

/-! ### Ways -/

def Way.is (v : Way) (sn w : Nat) : Bool := v.sn == sn && v.way == w

def State.way (s : State) (sn w : Nat) : Option Way := s.cache.ways.find? fun v => v.is sn w

/-- The way that holds a line, with data or retained. -/
def State.wayOf (s : State) (nsid line : Nat) : Option Way :=
  s.cache.ways.find? fun v => v.sn == lineSet nsid line s && v.nsid == nsid && v.line == line

/-- Bring the count of OFFERED lines up to date. -/
def offerSync (s : State) : State := s.set F.CACHE_STAT_OFFERED (s.cache.ways.filter fun v => v.offered).length

/-- Replace the contents of a way; none empties it. -/
def putWay (sn w : Nat) (v : Option Way) (s : State) : State :=
  offerSync (s.modCache fun c =>
    { c with ways := (match v with | some x => [x] | none => []) ++ c.ways.filter fun x => !x.is sn w })

/-- The tag word of a way (R449). -/
def tagWord (v : Way) : Nat :=
  v.valid.toNat + v.spec.toNat * 65536 + v.retain.toNat * 131072 + v.offered.toNat * 262144 + v.nsid % 128 * 524288 +
    v.line % 68719476736 * 67108864

/-! ### Pseudo-LRU (R449, R456) -/

/-- The tree after a way was used: every node on its path points away from it. -/
def plruTouch (w tree : Nat) : Nat :=
  (List.range 4).foldl (fun t d =>
    let leaf := 16 + w
    let node := leaf / 2 ^ (4 - d)
    withBit t (node - 1) (leaf / 2 ^ (3 - d) % 2 == 0)) tree

def touchWay (sn w : Nat) (s : State) : State :=
  s.modCache fun c => { c with plru := c.plru.set sn (plruTouch w (c.plru.get sn)) }

/-- The ways below a node, `d` levels up from the leaves. -/
def waysBelow (node d : Nat) : List Nat := (List.range (2 ^ d)).map fun i => node * 2 ^ d + i - 16

/-- Walk the tree from a node to an eligible way. -/
def plruWalk (tree : Nat) (elig : List Nat) : Nat → Nat → Nat
  | 0, node => node - 16
  | d + 1, node =>
    let named := 2 * node + (tree.testBit (node - 1)).toNat
    let other := 2 * node + (!tree.testBit (node - 1)).toNat
    plruWalk tree elig d (if (waysBelow named d).any elig.contains then named else other)

/-- The victim of a fill into a set (R456). -/
def victim (sn : Nat) (s : State) : Option Nat :=
  let elig := (List.range 16).filter fun w =>
    !wayLocked w s && !sideLost sn w s && (match s.way sn w with
      | some v => !v.offered
      | none => true) && !pinned sn w s
  if elig.isEmpty then none else some (plruWalk (s.cache.plru.get sn) elig 4 1)

/-! ### Sectors -/

/-- Store sectors in a way's DRAM and side record (R448). -/
def storeSectors (v : Way) (blks : List (Nat × Block)) (s : State) : Way × State :=
  blks.foldl (fun (acc : Way × State) b =>
    ({ acc.1 with valid := acc.1.valid ||| BitVec.ofNat 16 (2 ^ (b.1 % 16)), retain := false },
     putUnit (wayUnit v.sn v.way s + b.1 % 16) b.2 acc.2)) (v, s)

/-- The block a way holds for sector `i`. -/
def waySector (v : Way) (i : Nat) (s : State) : Block := getUnit (wayUnit v.sn v.way s + i) s

/-! ### Offers (R457 to R459) -/

/-- Whether an evicted line is offered to the Flyleaf (R457). -/
def offers (v : Way) (s : State) : Bool :=
  v.valid == 0xFFFF#16 && !v.spec && s.flag F.CACHE_CFG_OFFER_EN &&
    decide ((s.cache.ways.filter fun x => x.offered).length < max 1 (s.get F.CACHE_CFG_OFFER_MAX))

/-! ### Allocation (R452, R461, R467) -/

/-- Whether a line lies in the pending range of the running maintenance operation (R462). -/
def Maint.covers (m : Maint) (nsid line sn : Nat) : Bool :=
  match m.pc with
  | some pc => sn % 8 == pc
  | none =>
    if m.scp == 2 then true
    else if m.scp == 1 then nsid == m.nsid
    else nsid == m.nsid && decide (0 < m.cnt) && decide (m.lba / 16 ≤ line) && decide (line ≤ (m.lba + m.cnt - 1) / 16)

def inPending (nsid line : Nat) (s : State) : Bool :=
  match s.cache.run with
  | some m => m.covers nsid line (lineSet nsid line s)
  | none => false

/-- The sectors of a line that a range covers, as a mask. -/
def Maint.mask (m : Maint) (line : Nat) : BitVec 16 :=
  if m.scp == 0 && m.pc.isNone then
    BitVec.ofNat 16 ((List.range 16).foldl (fun v i =>
      if decide (m.lba ≤ line * 16 + i) && decide (line * 16 + i < m.lba + m.cnt) then v + 2 ^ i else v) 0)
  else 0xFFFF#16

/-- Put a fill's sectors into a way that is empty or holds nothing to keep. -/
def fillInto (sn w : Nat) (f : Fill) (blks : List (Nat × Block)) (s : State) : State :=
  let r := storeSectors ⟨sn, w, 0, false, false, false, f.nsid, f.line⟩ blks s
  touchWay sn w (putWay sn w (some r.1) r.2)

/-- Merge a fill's sectors into the way that holds the line. -/
def mergeInto (v : Way) (blks : List (Nat × Block)) (s : State) : State :=
  let r := storeSectors v blks s
  touchWay v.sn v.way (putWay v.sn v.way (some r.1) r.2)

/-- A fill waits for the way it chose: until the way's offer is decided, or until no hit is read from it (R451, R458, R470). -/
def waitFill (sn w : Nat) (f : Fill) (blks : List (Nat × Block)) (s : State) : State :=
  s.modCache fun c => { c with waitF := c.waitF ++ [⟨sn, w, f, blks⟩] }

/-- A line leaves a way at once: an offer of it is withdrawn (R458, R459). -/
def clearWay (v : Way) (s : State) : State := putWay v.sn v.way none (if v.offered then s.incWrap F.CACHE_OFFERCNT_DECLINED else s)

/-- A prefetch fills its target way, which it replaces without offering it (R461). -/
def fillTarget (sn w : Nat) (f : Fill) (blks : List (Nat × Block)) (s : State) : State :=
  if sideLost sn w s then s.inc F.CACHE_DROPCNT_NOT_EN
  else if pinned sn w s then waitFill sn w f blks s
  else fillInto sn w f blks (match s.way sn w with | some v => clearWay v s | none => s)

/-- A fill merges into the way that holds its line (R452). -/
def mergeFill (v : Way) (f : Fill) (blks : List (Nat × Block)) (s : State) : State :=
  if pinned v.sn v.way s then waitFill v.sn v.way f blks s else mergeInto v blks s

/-- Allocate a fill (R452, R455, R469, R470). -/
def cacheAlloc (f : Fill) (blks : List (Nat × Block)) (s : State) : State :=
  let sn := lineSet f.nsid f.line s
  if !s.flag F.CACHE_CFG_EN || !s.flag F.CACHE_CFG_FILL_EN || s.bit F.CACHE_STAT_PC_OFF (sn % 8) then s.inc F.CACHE_DROPCNT_NOT_EN
  else if f.void then s.inc F.CACHE_DROPCNT_VOID
  else if inPending f.nsid f.line s && !f.pf then s.inc F.CACHE_DROPCNT_RANGE
  else if blks.isEmpty then s
  else
    let present := s.wayOf f.nsid f.line
    let target := match s.cache.run with | some m => if f.pf then m.way else none | none => none
    match target, present with
    | some w, some v => if v.way == w || wayLocked v.way s then mergeFill v f blks s else fillTarget sn w f blks (clearWay v s)
    | some w, none => fillTarget sn w f blks s
    | none, some v => mergeFill v f blks s
    | none, none =>
      match (List.range 16).find? fun w => (s.way sn w).isNone && !wayLocked w s && !sideLost sn w s && !pinned sn w s with
      | some w => fillInto sn w f blks s
      | none =>
        match victim sn s with
        | none => s.inc F.CACHE_DROPCNT_NO_VICTIM
        | some w =>
          match s.way sn w with
          | some v =>
            if offers v s then
              waitFill sn w f blks (putWay sn w (some { v with offered := true }) s)
            else fillInto sn w f blks s
          | none => fillInto sn w f blks s

/-- Whether a waiting fill may be allocated now. -/
def fillReady (s : State) (x : WaitFill) : Bool :=
  !pinned x.sn x.way s && (match s.way x.sn x.way with | some v => !v.offered | none => true)

/-- The fills whose way is free for them are allocated, each checked again at that moment (R458). One that empties an offered way frees the
fill that waited there. -/
def waitersFrom : Nat → State → State
  | 0, s => s
  | n + 1, s =>
    let ws := s.cache.waitF.filter (fillReady s)
    if ws.isEmpty then s
    else waitersFrom n ((s.modCache fun c => { c with waitF := c.waitF.filter fun x => !fillReady s x }).each ws fun x t => cacheAlloc x.fill x.blks t)

def runWaiters (s : State) : State := waitersFrom s.cache.waitF.length s

/-- Ways emptied by an error, with what waited for them. -/
def clearWays (vs : List Way) (s : State) : State := runWaiters (s.each vs clearWay)

/-- A line leaves its way by an invalidation: a locked way keeps NSID and LINE with RETAIN (R449, R466). -/
def dropLine (v : Way) (s : State) : State :=
  if wayLocked v.way s then
    putWay v.sn v.way (some { v with valid := 0, spec := false, retain := true, offered := false }) s
  else putWay v.sn v.way none s

/-- The offer of a way ends: counted, the way emptied, the waiting fill allocated (R458). -/
def offerEnd (sn w : Nat) (accepted : Bool) (s : State) : State :=
  match s.way sn w with
  | some v =>
    if v.offered then
      let t := s.incWrap (if accepted then F.CACHE_OFFERCNT_ACCEPTED else F.CACHE_OFFERCNT_DECLINED)
      runWaiters (dropLine v t)
    else s
  | none => s

/-! ### Invalidation by a write (R19 step 4, R370, R453, R459, R468) -/

/-- Whether a line overlaps a range of blocks. -/
def lineOverlaps (line lba cnt : Nat) : Bool := decide (line * 16 < lba + cnt) && decide (lba < line * 16 + 16)

def voidFills (nsid lba cnt : Nat) (s : State) : State :=
  let v := fun (f : Fill) => if f.nsid == nsid && lineOverlaps f.line lba cnt then { f with void := true } else f
  s.modCache fun c => { c with fills := c.fills.map v, waitF := c.waitF.map fun x => { x with fill := v x.fill } }

/-- Every line that overlaps a write's range is invalidated, fills in flight are void, offers are withdrawn. -/
def cacheInvalidate (nsid lba cnt : Nat) (s : State) : State :=
  let t := voidFills nsid lba cnt s
  t.each (t.cache.ways.filter fun v => v.nsid == nsid && lineOverlaps v.line lba cnt) fun v u =>
    if v.offered then offerEnd v.sn v.way false u
    else dropLine v u

/-! ### Lookup (R450, R451) -/

/-- The way in which a lookup finds a block; a set out of use has none (R18). -/
def cacheHit (nsid lba : Nat) (s : State) : Option Way :=
  if !s.flag F.CACHE_CFG_EN || s.bit F.CACHE_STAT_PC_OFF (lineSet nsid (lba / 16) s % 8) then none
  else match s.wayOf nsid (lba / 16) with
    | some v => if v.valid.getLsbD (lba % 16) && !v.spec then some v else none
    | none => none

/-- A block found: counted, the way used and pinned for the read (R450, R451, R456). -/
def takeHit (k : Nat) (v : Way) (s : State) : State :=
  let t := (s.incWrap (F.CACHE_HITMISS_COUNT 0)).modCache fun c =>
    { c with pins := if c.pins.contains (v.sn, v.way, k) then c.pins else c.pins ++ [(v.sn, v.way, k)] }
  touchWay v.sn v.way t

/-- The pins of a command end; fills that waited for them go on (R470). -/
def unpin (k : Nat) (s : State) : State :=
  runWaiters (s.modCache fun c => { c with pins := c.pins.filter fun p => p.2.2 != k })

/-- Open a fill: a read of a line is in flight. -/
def openFill (nsid line : Nat) (sects : BitVec 16) (pf spec : Bool) (cmd : Option Nat) (s : State) : Nat × State :=
  let id := s.cache.nextFill
  (id, s.modCache fun c => { c with nextFill := id + 1, fills := c.fills ++ [⟨id, nsid, line, false, pf, spec, sects, cmd⟩] })

def State.fill (s : State) (id : Nat) : Option Fill := s.cache.fills.find? fun f => f.id == id
def dropFill (id : Nat) (s : State) : State := s.modCache fun c => { c with fills := c.fills.filter fun f => f.id != id }

/-- CACHE_FILL: an offered media read (R22 step 8). Only sectors that the read asked of the media are offered: never those served from the
write buffer, nor those a background ladder recovered (R454). A fill that is not in flight is one that was offered after its read
ended, with nothing voiding it. -/
def cacheFill (nsid line id : Nat) (blks : List (Nat × Block)) (s : State) : State :=
  match s.fill id with
  | some f => cacheAlloc f (blks.filter fun b => f.sects.getLsbD (b.1 % 16)) (dropFill id s)
  | none => cacheAlloc ⟨id, nsid, line, false, false, false, 0, none⟩ blks s

/-! ### Way locks (R460) -/

def bitCount (w v : Nat) : Nat := (List.range w).foldl (fun n i => n + (v.testBit i).toNat) 0

def waylockWrite (lock : W16) (s : State) : State :=
  if 8 < bitCount 16 lock.toNat then s.setFlag F.CACHE_WAYLOCK_REFUSED true
  else
    let freed := fun (w : Nat) => wayLocked w s && !lock.getLsbD w
    let t := s.set F.CACHE_WAYLOCK_LOCK lock.toNat
    t.each (t.cache.ways.filter fun v => freed v.way && v.retain) fun v u => putWay v.sn v.way none u

/-! ### Tags (R449) -/

/-- An uncorrectable error in a tag word empties its set; locked ways stay locked with RETAIN cleared (R449). -/
def tagError (sn : Nat) (s : State) : State :=
  (clearWays (s.cache.ways.filter fun v => v.sn == sn) s).raise (hostSrc 25)

/-- A write of TAGSEL latches the tag word (R449). -/
def tagSelect (sn : BitVec 14) (w : BitVec 4) (s : State) : State :=
  let v := ((s.way sn.toNat w.toNat).map tagWord).getD 0
  (((s.set F.CACHE_TAGSEL_SET sn.toNat).set F.CACHE_TAGSEL_WAY w.toNat).set (F.CACHE_TAG_TAG 0) v).set (F.CACHE_TAG_TAG 1) (v / 4294967296)

/-- The way whose data holds a byte of the cache region. -/
def wayAt (pc ofs : Nat) (s : State) : Option Way :=
  let i := ofs / 65536
  s.way (i / 16 * 8 + (pc - 8)) (i % 16)

/-! ### Commands -/

/-- CACHE_FILL (R452). -/
def execCacheFill (nsid line fillId : Nat) (blks : List (Nat × Block)) (s : State) : Host.Outcome State Fault Refusal :=
  .next (cacheFill nsid line fillId blks s)
/-- CACHE_OFFER_DECIDED (R458). -/
def execCacheOfferDecided (sn way : Nat) (accepted : Bool) (s : State) : Host.Outcome State Fault Refusal :=
  .next (offerEnd sn way accepted s)
/-- CACHE_OFFER_TIMEOUT (R458): an offer not yet decided is withdrawn and counted as declined. -/
def execCacheOfferTimeout (sn way : Nat) (s : State) : Host.Outcome State Fault Refusal :=
  .next (if (s.way sn way).any fun v => s.fly.warmPend.any fun x => x.1 == v.nsid && x.2.1 == v.line then s else offerEnd sn way false s)
/-- FABRIC_STARVE_PROMOTE (R446). -/
def execFabricStarvePromote (s : State) : Host.Outcome State Fault Refusal := .next (s.inc F.CACHE_FABCFG_PROMOTE_CNT)

end Sys2Proof.Machine
end

