-- ==== Sys2Proof/Machine/Media.lean ====
section
/-! DEFINITION. What lies on the medium, bit by bit: the fields of a servo wedge (R43), the resync field (R50), a data sector
with its marks, check field, codeword and postamble (R52 to R55), the low-density parity-check code (R88, R89), its decoder
(R90), and the precompensated write data (R123). -/

namespace Sys2Proof.Machine

/-! ### Fields and marks -/

/-- `n` bits of the repeated pattern 0b1100. -/
def pattern1100 (n : Nat) : List Bool := (List.range n).map fun i => decide (i % 4 < 2)

/-- The servo address mark (R43). -/
def addressMark : List Bool := bitsMsb 24 0xC35A96

/-- The two sync marks of a sector (R52) and the resume mark (R50), most significant bit first (DESIGN CHOICE, log entry 67). -/
def primaryMark : List Bool := bitsMsb 48 0x5D2C87E13B96
def secondaryMark : List Bool := bitsMsb 48 0xA61F3E09D4C5
def resumeMark : List Bool := bitsMsb 48 0x3B965D2CE187

/-- The resync field that opens every data window (R50). -/
def resyncField : List Bool := pattern1100 208 ++ resumeMark

/-- A value in dibits, most significant bit first (R44). -/
def dibits (w v : Nat) : List Bool := (bitsMsb w v).flatMap fun b => if b then [true, false] else [false, true]

/-- The wedge field: number, index, parity of itself, parity of the Gray-coded track (R46). -/
def wedgeWord (w track : Nat) : Nat :=
  let v := w % 512 * 8 + (if w = 0 then 4 else 0)
  v + (if evenParity 12 v then 0 else 2) + (if evenParity 24 (gray track) then 0 else 1)

/-- The runout field: the correction and its CRC-8 (R47). -/
def runoutWord (v : Nat) : Nat := v % 65536 * 256 + crc8 (v % 65536)

/-- The 576 servo bits of wedge `w` of a track with written-in correction `v` (R43); the amplitudes of the bursts are the
head's. -/
def servoField (w track v : Nat) : List Bool :=
  pattern1100 120 ++ addressMark ++ dibits 24 (gray track) ++ dibits 12 (wedgeWord w track) ++ dibits 24 (runoutWord v) ++
    pattern1100 256 ++ pattern1100 56

/-- The check value of a sector: the CRC-32C of its data, bits [11:0] of its track and bits [3:0] of its slot (R54). -/
def checkValue (crc track slot : Nat) : Nat := crc % 2 ^ 32 + track % 4096 * 2 ^ 32 + slot % 16 * 2 ^ 44

/-- The check field: each check bit nine times, then 32 bits of pattern (R52, R54). -/
def checkField (v : Nat) : List Bool := ((bitsMsb 48 v).flatMap fun b => List.replicate 9 b) ++ pattern1100 32

/-! ### The scrambler (R55) -/

/-- The seed for a sector's address. -/
def scrambleSeed (track slot : Nat) : Nat :=
  let v := (slot % 2 ^ 11 * 2 ^ 20 + track % 2 ^ 20) ^^^ 0x55555555
  if v = 0 then 1 else v

/-- One step of the generator x^31 + x^28 + 1. -/
def scrambleNext (v : Nat) : Nat := v * 2 % 2 ^ 31 + (v.testBit 30 != v.testBit 27).toNat

/-- `n` bits of the sequence from a register value: the bit that leaves the register (DESIGN CHOICE, log entry 67). -/
def scrambleBits : Nat → Nat → List Bool
  | 0, _ => []
  | n + 1, v => v.testBit 30 :: scrambleBits n (scrambleNext v)

/-- A codeword scrambled, or descrambled, for an address. -/
def scramble (track slot : Nat) (bs : List Bool) : List Bool := bs.zipWith (· != ·) (scrambleBits bs.length (scrambleSeed track slot))

/-! ### The code (R88, R89) -/

/-- The shift of block (r, c) of the parity-check matrix; none for a zero block. -/
def blockShift (r c : Nat) : Option Nat :=
  if c < 130 then
    if r = c % 18 ∨ r = (c + 6) % 18 ∨ r = (c + 12) % 18 then some ((5 * c * c + 73 * r + c) % 256) else none
  else if c = 130 then if r = 0 ∨ r = 17 then some 1 else if r = 9 then some 0 else none
  else if c < 148 ∧ (r = c - 131 ∨ r = c - 130) then some 0 else none

/-- One block of 256 codeword bits, bit `i` at position `i`. -/
abbrev CBlock := BitVec 256

/-- A circulant with shift `k` on a block: row `i` takes position (i + k) mod 256. -/
def circulant (k : Nat) (b : CBlock) : CBlock := b.rotateRight k

/-- Block row `r` of the matrix over the blocks of a codeword. -/
def blockRow (r : Nat) (bs : List CBlock) : CBlock :=
  bs.zipIdx.foldl (fun a x => match blockShift r x.2 with | some k => a ^^^ circulant k x.1 | none => a) 0

/-- The syndrome is zero. -/
def syndromeZero (bs : List CBlock) : Bool := (List.range 18).all fun r => blockRow r bs == 0

/-- The block whose bits are given from position 0. -/
def blockOf (bs : List Bool) : CBlock := BitVec.ofNat 256 (bs.foldr (fun b v => 2 * v + b.toNat) 0)

/-- Blocks of a bit list. -/
def blocksOf : Nat → List Bool → List CBlock
  | 0, _ => []
  | n + 1, bs => blockOf (bs.take 256) :: blocksOf n (bs.drop 256)

def blockBits (b : CBlock) : List Bool := (List.range 256).map fun i => b.getLsbD i

/-- The parity blocks after block column 130: block row r gives the one of column 131 + r. -/
def parityTail (s : Nat → CBlock) (p0 : CBlock) : Nat → CBlock
  | 0 => s 0 ^^^ circulant 1 p0
  | r + 1 => s (r + 1) ^^^ parityTail s p0 r ^^^ (if r + 1 = 9 then p0 else 0)

/-- The eighteen parity blocks of 130 information blocks (R88): the sum of all block rows leaves the first alone. -/
def ldpcParity (info : List CBlock) : List CBlock :=
  let s := fun r => blockRow r info
  let p0 := (List.range 18).foldl (fun a r => a ^^^ s r) 0
  p0 :: (List.range 17).map fun r => parityTail s p0 r

/-- The information bits of data and metadata bytes: bit 8b + k is bit 7 - k of byte b (R89). -/
def infoBits (bytes : List Nat) : List Bool := bytes.flatMap fun b => bitsMsb 8 b

/-- The codeword of 4,160 bytes. -/
def codewordBits (bytes : List Nat) : List Bool :=
  let bs := infoBits bytes
  bs ++ (ldpcParity (blocksOf 130 bs)).flatMap blockBits

/-- The bytes of information bits. -/
def bytesOfBits : Nat → List Bool → List Nat
  | 0, _ => []
  | n + 1, bs => (bs.take 8).foldl (fun v b => 2 * v + b.toNat) 0 :: bytesOfBits n (bs.drop 8)

/-! ### A sector on the medium (R52) -/

/-- Bytes cut or filled with zeros to a length. -/
def fitBytes (n : Nat) (l : List Nat) : List Nat := (l ++ List.replicate (n - l.length) 0).take n

/-- The 38,912 channel bits of a sector at an address. The bits of the splice are an open value. -/
def sectorBits (track slot crc : Nat) (data md : List Nat) : List Bool :=
  pattern1100 336 ++ primaryMark ++ checkField (checkValue crc track slot) ++ secondaryMark ++
    scramble track slot (codewordBits (fitBytes 4096 data ++ fitBytes 64 md)) ++ pattern1100 32 ++
    (List.range 96).map fun i => (Config.freeByte i 0).getLsbD 0

/-- Write precompensation (R123): for each bit of a stream, how much earlier its transition is written, in 1/64 bit. `t1` and
`t2` say whether the two bits before held a transition, `b0` is the bit before. -/
def precomp (pc1 pc2 : Nat) : Bool → Bool → Bool → List Bool → List Nat
  | _, _, _, [] => []
  | b0, t1, t2, b :: bs =>
    let t := b != b0
    (if t && t1 then pc1 else if t && t2 then pc2 else 0) :: precomp pc1 pc2 b t t1 bs

/-! ### The decoder (R90) -/

/-- The non-zero blocks of a block row: column and shift. -/
def rowBlocks (r : Nat) : List (Nat × Nat) := (List.range 148).filterMap fun c => (blockShift r c).map fun k => (c, k)

/-- The log-likelihood ratios of the codeword bits as they stand, and the check-to-bit messages by (block row, column, row). -/
structure DecSt where
  post : Array Int
  msg  : Array Int

/-- A magnitude normalized by 0.75; which way a fraction is rounded the spec does not say (free value). -/
def normMsg (m : Nat) : Nat := 3 * m / 4 + (if m % 4 ≠ 0 ∧ Config.roundUp m then 1 else 0)

/-- One check: row `i` of block row `r`. Each bit gets the product of the signs and the normalized least magnitude of the
others' 6-bit messages. -/
def decCheck (r : Nat) (cols : List (Nat × Nat)) (st : DecSt) (i : Nat) : DecSt :=
  let vs := cols.map fun c => (256 * c.1 + (i + c.2) % 256, (r * 148 + c.1) * 256 + i)
  let qs := vs.map fun v => st.post.getD v.1 0 - st.msg.getD v.2 0
  let ms := qs.map fun q => satI 6 q
  let neg := ms.foldl (fun b m => b != decide (m < 0)) false
  let low := fun (j : Nat) => (ms.zipIdx.filter fun m => m.2 != j).foldl (fun a m => min a m.1.natAbs) 32
  ((vs.zip (qs.zip ms)).zipIdx).foldl (fun st x =>
    let v := x.1.1
    let k := (normMsg (low x.2) : Int)
    let n := if neg != decide (x.1.2.2 < 0) then -k else k
    ⟨st.post.setIfInBounds v.1 (x.1.2.1 + n), st.msg.setIfInBounds v.2 n⟩) st

/-- One iteration: the block rows in turn. -/
def decIteration (st : DecSt) : DecSt :=
  (List.range 18).foldl (fun st r => let cols := rowBlocks r; (List.range 256).foldl (decCheck r cols) st) st

/-- The hard decisions of the ratios: a negative one is a 1. -/
def hardBits (st : DecSt) : List Bool := st.post.toList.map fun q => decide (q < 0)

/-- Decoding within a budget: the bits, when the syndrome becomes zero. -/
def decRun : Nat → DecSt → Option (List Bool)
  | 0, st => let b := hardBits st; if syndromeZero (blocksOf 148 b) then some b else none
  | n + 1, st => let b := hardBits st; if syndromeZero (blocksOf 148 b) then some b else decRun n (decIteration st)

/-- The layered normalized min-sum decoder over descrambled 6-bit ratios (R90). -/
def ldpcDecode (budget : Nat) (llr : List Int) : Option (List Bool) :=
  decRun budget ⟨(llr.map (satI 6)).toArray, Array.replicate (18 * 148 * 256) 0⟩

end Sys2Proof.Machine
end

