-- ==== Sys2Proof/Machine/Detect.lean ====
section
/-! DEFINITION. The read channel of a path (chapter 3): front end, adaptive loops (R78 to R84), equalizer (R85), detector (R86),
framing (R98 to R101), and the decode of a sector from its stored samples (R87 to R91, R101, R102). The arithmetic that the rules
leave open is that of log entry 68. -/

namespace Sys2Proof.Machine

/-! ### Settings of a pass -/

/-- What equalizer and detector work with: 36 coefficients (1/128), the target and the predictors of the zone, which of the baseline
and asymmetry loops adapt and from which values, and the readers in use. -/
structure DetCfg where
  coefs  : List Int
  target : List Int
  pred   : List (List Int)
  dcEn   : Bool
  asymEn : Bool
  dc     : Vector Int 3
  asym   : Vector Int 3
  mask   : BitVec 3

/-- The settings of the gain and timing loops of a live pass (R81, R83, R84). -/
structure LiveCfg where
  det    : DetCfg
  boost  : Nat
  adcFs  : Nat
  rdEn   : BitVec 3
  aim    : Nat
  acq    : Nat
  trk    : Nat
  hold   : Bool
  kpA    : Nat
  kiA    : Nat
  kpT    : Nat
  kiT    : Nat
  gain   : Vector Int 3

/-! ### The detector (R86) -/

/-- A path through the 16-state trellis: its metric, its bits and its error samples, the newest first. -/
structure Surv where
  metric : Nat
  bits   : List Bool
  errs   : List Int

def symbol (b : Bool) : Int := if b then 1 else -1

/-- The target's output for the last five bits, the newest first. -/
def targetOut (target : List Int) (bs : List Bool) : Int := (target.zip bs).foldl (fun a x => a + x.1 * symbol x.2) 0

/-- The last `k` bits of a state or pattern number, the newest first. -/
def stateBits (k v : Nat) : List Bool := (List.range k).map fun i => v.testBit i

/-- The noise that the predictor of a bit pattern expects from the errors before (1/128 taps). -/
def predicted (pred : List (List Int)) (pat : Nat) (errs : List Int) : Int :=
  roundDiv (((pred.getD pat []).zip errs).foldl (fun a x => a + x.1 * x.2) 0) 128

/-- One bit of the trellis: each state takes the better of its two predecessors, the one with the oldest bit 0 among equals. -/
def acs (c : DetCfg) (y : Int) (sts : List Surv) : List Surv :=
  (List.range 16).map fun st =>
    let cand := fun (old : Nat) =>
      let pat := st % 2 + 2 * (st / 2 + 8 * old)
      let pr := sts.getD (st / 2 + 8 * old) ⟨0, [], []⟩
      let e := y - targetOut c.target (stateBits 5 pat)
      let w := e - predicted c.pred pat pr.errs
      (⟨pr.metric + w.natAbs * w.natAbs, decide (st % 2 = 1) :: pr.bits, (e :: pr.errs).take 16⟩ : Surv)
    let a := cand 0
    let b := cand 1
    if b.metric < a.metric then b else a

/-- The survivor with the least metric. -/
def bestSurv (sts : List Surv) : Surv :=
  match sts with
  | [] => ⟨0, [], []⟩
  | a :: r => r.foldl (fun m x => if x.metric < m.metric then x else m) a

/-! ### Correction and equalizer (R81, R85) -/

/-- The running state of a pass: baseline and asymmetry values; the corrected samples of the last twelve sample times, the newest
first; all equalizer outputs and corrected samples, the newest first; the trellis. -/
structure DetSt where
  dc   : Vector Int 3
  asym : Vector Int 3
  ys   : List Int
  xs   : List (Vector Int 3)
  sts  : List Surv

def DetSt.start (c : DetCfg) : DetSt := ⟨c.dc, c.asym, [], [], List.replicate 16 ⟨0, [], []⟩⟩

/-- A baseline- and asymmetry-corrected sample, 1/65,536 ADC step; zero for a reader not in use (R85). -/
def correct (c : DetCfg) (d : DetSt) (x : Vector Int 3) : Vector Int 3 :=
  Vector.ofFn fun r => if c.mask.getLsbD r then x[r] * 65536 - d.dc[r] - d.asym[r] * (x[r] * x[r]) else 0

/-- y[k] from the samples x[k + 5] down to x[k - 6], 1/128 ADC step (R85). -/
def equalize (coefs : List Int) (xs : List (Vector Int 3)) : Int :=
  roundDiv ((List.finRange 3).foldl (fun a r =>
    (xs.take 12).zipIdx.foldl (fun b x => b + coefs.getD (12 * r.val + x.2) 0 * x.1[r]) a) 0) 65536

/-- Whether bit `k` lies in the codeword (R52). -/
def inCodeword (k : Int) : Bool := decide (896 ≤ k) && decide (k < 38784)

/-- One sample time: the sample of time `k` enters, bit k - 5 leaves equalizer and detector, and the baseline and asymmetry loops
adapt on it (R81). -/
def detBit (c : DetCfg) (k : Int) (x : Vector Int 3) (d : DetSt) : DetSt :=
  let xs := correct c d x :: d.xs
  let y := equalize c.coefs xs
  let sts := acs c y d.sts
  let e := (bestSurv sts).errs.headD 0
  let mid := xs.getD 5 (Vector.replicate 3 0)
  { dc := if c.dcEn then d.dc.map fun v => v + Config.dcStep e else d.dc
    asym := if c.asymEn && inCodeword (k - 5) then
        Vector.ofFn fun r => d.asym[r] + Config.asymStep (e * (mid[r] * mid[r])) else d.asym
    ys := y :: d.ys
    xs := xs
    sts := sts }

/-- A run of samples from time `k`, with the five times after it that the last bits need. -/
def detRun (c : DetCfg) : Int → List (Vector Int 3) → DetSt → DetSt
  | _, [], d => d
  | k, x :: r, d => detRun c (k + 1) r (detBit c k x d)

/-- What the detector gives of a run, in order of time: hard decisions, equalizer outputs, corrected samples. -/
structure DetOut where
  hard : List Bool
  ys   : List Int
  xs   : List (Vector Int 3)
  dc   : Vector Int 3
  asym : Vector Int 3

/-- Detection of a run that begins at time `k0` (R86). -/
def detect (c : DetCfg) (k0 : Int) (run : List (Vector Int 3)) : DetOut :=
  let d := detRun c k0 (run ++ List.replicate 5 (Vector.replicate 3 0)) (DetSt.start c)
  ⟨(bestSurv d.sts).bits.reverse.drop 5, d.ys.reverse.drop 5, d.xs.reverse.take run.length, d.dc, d.asym⟩

/-- The 6-bit log-likelihood ratios: the sign is the hard decision's, the magnitude an open value (R86). -/
def softBits (c : DetCfg) (o : DetOut) : List Int :=
  o.hard.zipIdx.map fun b =>
    let m := ((Config.softMagnitude o.ys c.target c.pred b.2).toNat : Int)
    if b.1 then -1 - m else m

/-! ### The live pass: gain and timing loops (R78 to R84) -/

/-- A field over which gain and timing loops acquire: the gain loops to bit `gainEnd`, the timing loop from `timeFrom` to `timeEnd`,
and tracking after (R83, R84). -/
structure AcqField where
  gainEnd  : Int
  timeFrom : Int
  timeEnd  : Int

def preambleField : AcqField := ⟨64, 16, 192⟩
def resyncAcq : AcqField := ⟨48, 16, 144⟩

/-- The state of a live pass: gains in 1/65,536 of 0.125 dB; readers at the top of the range at every bit of the acquisition, readers
dropped; sampling phase and frequency offset in 2^-32 bit; the signals and the samples so far, the newest first. -/
structure LiveSt where
  gain  : Vector Int 3
  stuck : BitVec 3
  drop  : BitVec 3
  phase : Int
  freq  : Int
  sig   : List (Vector Int 3)
  out   : List (Vector Int 3)
  det   : DetSt

/-- The top of the gain range, 31.875 dB. -/
def gainMax : Int := 255 * 65536

/-- The ADC samples of one time: variable gain, continuous-time equalizer and 7-bit converter (R78, R79). -/
def adcSample (c : LiveCfg) (st : LiveSt) (v : Vector Int 3) : Vector Int 3 :=
  Vector.ofFn fun r =>
    if c.rdEn.getLsbD r then satI 7 (Config.analog c.boost c.adcFs st.gain[r] (st.phase / 2 ^ 26) ((v :: st.sig).map fun x => x[r])) else 0

/-- The gain of a reader after a bit: the peak of the last four samples against TARGET (R81, R84). -/
def gainStep (c : LiveCfg) (acq : Bool) (g : Int) (recent : List Int) : Int :=
  if c.hold then g
  else
    let peak := recent.foldl (fun m x => max m x.natAbs) 0
    min gainMax (max 0 (g + roundDiv (((c.aim : Int) - peak) * 65536) (2 ^ ((if acq then c.acq else c.trk) + 2))))

/-- A reader's gain stays at 31.875 dB so far. -/
def stuckAt (st : LiveSt) (gain : Vector Int 3) : BitVec 3 :=
  st.stuck &&& BitVec.ofNat 3 ((List.finRange 3).foldl (fun a r => if gain[r] = gainMax then a + 2 ^ r.val else a) 0)

/-- The timing loop after a bit: Mueller-Müller on the detector's decisions, proportional and integral gain (R81, R83). It holds
lock up to 0.5 %. -/
def timeStep (c : LiveCfg) (acq : Bool) (y1 y0 d1 d0 : Int) (st : LiveSt) : Int × Int :=
  let t := Config.phaseScale (y1 * d0 - y0 * d1)
  let f := clampI (2 ^ 32 / 200) (st.freq + roundDiv t (2 ^ ((if acq then c.kiA else c.kiT) + 4)))
  (st.phase + roundDiv t (2 ^ (if acq then c.kpA else c.kpT)) + f, f)

/-- One sample time `k` of a live pass over an acquisition field and what follows it. -/
def liveBit (c : LiveCfg) (f : AcqField) (k : Int) (v : Vector Int 3) (st : LiveSt) : LiveSt :=
  let x := adcSample c st v
  let out := x :: st.out
  let acq := decide (k < f.gainEnd)
  let gain : Vector Int 3 := if 0 ≤ k then Vector.ofFn fun r => gainStep c acq st.gain[r] ((out.take 4).map fun x => x[r]) else st.gain
  let stuck := if 0 ≤ k && acq then stuckAt st gain else st.stuck
  let drop := if k = f.gainEnd then st.drop ||| st.stuck else st.drop
  let det := detBit { c.det with mask := c.det.mask &&& ~~~drop } k x st.det
  let best := bestSurv det.sts
  let b := k - 5
  let y1 := det.ys.headD 0
  let y0 := (det.ys.drop 1).headD 0
  let (phase, freq) :=
    if b = f.timeFrom then (Config.zeroPhase ((out.take 16).map fun x => x[1]), st.freq)
    else if f.timeFrom < b then
      timeStep c (decide (b < f.timeEnd)) y1 y0 (y1 - best.errs.headD 0) (y0 - (best.errs.drop 1).headD 0) st
    else (st.phase, st.freq)
  ⟨gain, stuck, drop, phase, freq, v :: st.sig, out, det⟩

def liveRun (c : LiveCfg) (f : AcqField) : Int → List (Vector Int 3) → LiveSt → LiveSt
  | _, [], st => st
  | k, v :: r, st => liveRun c f (k + 1) r (liveBit c f k v st)

def LiveSt.start (c : LiveCfg) : LiveSt := ⟨c.gain, 7, 0, 0, 0, [], [], DetSt.start c.det⟩

/-! ### Marks (R98, R100) -/

/-- A bit of a list at an integer place; 0 outside it. -/
def bitAt (bs : Array Bool) (i : Int) : Bool := if 0 ≤ i then bs.getD i.toNat false else false

def hamming (mark : List Bool) (bs : Array Bool) (i : Int) : Nat :=
  (mark.zipIdx.filter fun x => bitAt bs (i + (x.2 : Int)) != x.1).length

/-- The offsets of a search window, the nearest first, the earlier of two equally near first (R98). -/
def searchOrder : List Int := 0 :: (List.range 8).flatMap fun i => [-((i : Int) + 1), (i : Int) + 1]

/-- The offset at which a mark is found: the least distance, if it is within the threshold. -/
def findMark (mark : List Bool) (nominal : Int) (thr : Nat) (bs : Array Bool) : Option Int :=
  let best := searchOrder.foldl (fun (m : Int × Nat) e =>
    let h := hamming mark bs (nominal + e); if h < m.2 then (e, h) else m) (0, 49)
  if best.2 ≤ thr then some best.1 else none

/-- A threshold above 24 is taken as 24 (R115). -/
def markThr (v : Nat) : Nat := min 24 v

/-- A part of a capture ends with the sector: the signals of the whole sector become stored samples. The first sample time is 12
bits before the preamble (R94). -/
def storeSamples (c : LiveCfg) (thr : Nat) (act : Fin 6) (d : Desc) (x : Capturing) : SampleBuf × Vector Int 3 × Vector Int 3 :=
  let n := x.cut.getD x.sig.length
  let a := liveRun c preambleField (-12) (x.sig.take n) (LiveSt.start c)
  let tail := x.sig.drop n
  match x.cut with
  | none => (⟨act, d, a.out.reverse, none, none, x.ta, a.drop, false, a.gain, a.freq⟩, a.det.dc, a.det.asym)
  | some _ =>
    let fresh : LiveSt := { a with stuck := 7, sig := [], out := [], det := { DetSt.start c.det with dc := a.det.dc, asym := a.det.asym } }
    let s := liveRun c resyncAcq 0 x.resync fresh
    let hard := (detect { c.det with mask := c.det.mask &&& ~~~s.drop, dc := a.det.dc, asym := a.det.asym } 0
      (s.out.reverse ++ (liveRun c resyncAcq 256 (tail.take 16) { s with out := [] }).out.reverse)).hard
    let b := liveRun c preambleField ((n : Int) - 12) tail { s with sig := [], out := [], det := a.det }
    (⟨act, d, a.out.reverse ++ b.out.reverse, some n, findMark resumeMark 208 thr hard.toArray, x.ta, a.drop ||| b.drop, false, b.gain, b.freq⟩,
      b.det.dc, b.det.asym)

/-! ### Framing and decoding (R87, R89 to R91, R99 to R102) -/

/-- The framing of a sector (R99, R100): marks found; the offset applied to the first and to the second part; which of them a found
mark has set. -/
structure Framing where
  pri   : Option Int
  sec   : Option Int
  one   : Int
  two   : Int
  set1  : Bool
  set2  : Bool

/-- The place of the second part in the stored run follows the resume mark, or is nominal (R100). A bit of the run by its nominal
place: 12 times lie before the preamble. -/
def runIndex (b : SampleBuf) (x off1 off2 : Int) : Int :=
  match b.cut with
  | some n => if (n : Int) ≤ x + 12 then x + 12 + off2 else x + 12 + off1
  | none => x + 12 + off1

/-- The hard decisions in the order of nominal places, the second part moved to its resume mark: what the marks are searched in. -/
def alignedRun (b : SampleBuf) (hard : Array Bool) : Array Bool :=
  match b.cut, b.resume with
  | some n, some e => ((List.range hard.size).map fun i => if n ≤ i then bitAt hard ((i : Int) + e) else bitAt hard i).toArray
  | _, _ => hard

/-- Framing on the secondary mark when it is found, else on the primary (R99). -/
def frameOn (b : SampleBuf) (thr : Nat) (hard : Array Bool) : Framing :=
  let al := alignedRun b hard
  let pri := findMark primaryMark (336 + 12) thr al
  let sec := findMark secondaryMark (848 + 12) thr al
  let e := match sec with | some e => e | none => pri.getD 0
  let place : Nat := if sec.isSome then 848 + 12 else 336 + 12
  let found := sec.isSome || pri.isSome
  let inTwo := match b.cut with | some n => decide (n ≤ place) | none => false
  ⟨pri, sec, e, b.resume.getD 0 + (if inTwo then e else 0), found && !inTwo, b.resume.isSome || (found && inTwo)⟩

/-- Framing from the nominal positions (R101, BLIND). -/
def frameBlind : Framing := ⟨none, none, 0, 0, false, false⟩

/-- Offset `d` of a sync-slip candidate: added to the parts that no mark has set, or to all when every part was set (R101). -/
def Framing.slip (f : Framing) (split : Bool) (d : Int) : Framing :=
  let all := f.set1 && (!split || f.set2)
  { f with one := if all || !f.set1 then f.one + d else f.one
           two := if all || !f.set2 then f.two + d else f.two }

/-- Majority of an odd number of bits (R87). -/
def majority (l : List Bool) : Bool := decide (l.length < 2 * l.count true)

/-- The 48 check bits of a framed sector (R54, R87). -/
def checkBits (b : SampleBuf) (f : Framing) (hard : Array Bool) : Nat :=
  (List.range 48).foldl (fun v j =>
    v * 2 + (majority ((List.range 9).map fun m => bitAt hard (runIndex b (384 + 9 * j + m : Nat) f.one f.two))).toNat) 0

/-- What a decode gives: converged, the check field passed, the bytes, and the codeword as it lies on the medium. -/
structure Decoded where
  converged : Bool
  check     : Bool
  bytes     : List Nat
  bits      : List Bool

/-- The codeword of a framed sector decoded within a budget, and its check (R54, R89 to R91). The address expected is the
descriptor's. -/
def decodeFramed (b : SampleBuf) (p : Pa) (f : Framing) (budget : Nat) (hard : Array Bool) (llr : Array Int) : Decoded :=
  let tr := descTrack b.desc p
  let sl := descSlot b.desc
  let raw := (List.range 37888).map fun k => let i := runIndex b (896 + k : Nat) f.one f.two; if 0 ≤ i then llr.getD i.toNat 0 else 0
  let key := scrambleBits 37888 (scrambleSeed tr sl)
  match ldpcDecode budget (raw.zipWith (fun v k => if k then -v else v) key) with
  | none => ⟨false, false, [], []⟩
  | some w =>
    let bytes := bytesOfBits 4160 w
    ⟨true, checkBits b f hard == checkValue (crc32c (bytes.take 4096)) tr sl, bytes, w.zipWith (· != ·) key⟩

/-- The ratios of bits within 16 bits of an asperity flag are set to zero (R104, TA). -/
def blankTa (ta : List Nat) (llr : List Int) : List Int :=
  llr.zipIdx.map fun x => if ta.any fun t => decide (t ≤ x.2 + 16) && decide (x.2 ≤ t + 16) then 0 else x.1

/-- The observation of a sector that the rest of the model works with (R91, R99): marks, a missed resume mark, a split
sector, the offsets of its parts, what the decode gave, and what the detector did. -/
structure DecodeObs where
  pri        : Option Int
  sec        : Option Int
  resumeMiss : Bool
  split      : Bool
  one        : Int
  two        : Int
  dec        : Decoded
  out        : DetOut

def DecodeObs.converged (o : DecodeObs) : Bool := o.dec.converged
def DecodeObs.check (o : DecodeObs) : Bool := o.dec.check

/-- The block of decoded bytes (R53, R93). -/
def Decoded.blk (d : Decoded) : Block := ⟨(d.bytes.take 4096).map (BitVec.ofNat 8), (d.bytes.drop 4096).map (BitVec.ofNat 8)⟩

def DecodeObs.blk (o : DecodeObs) : Block := o.dec.blk

/-- Detection and decoding of a stored sector. With both marks missed nothing is framed, and nothing decodes (R99). -/
def observe (c : DetCfg) (thr budget : Nat) (ta : Bool) (p : Pa) (b : SampleBuf) : DecodeObs :=
  let o := detect c (-12) b.run
  let hard := o.hard.toArray
  let llr := if ta then blankTa b.ta (softBits c o) else softBits c o
  let f := frameOn b thr hard
  let dec := if f.pri.isNone && f.sec.isNone then ⟨false, false, [], []⟩ else decodeFramed b p f budget hard llr.toArray
  ⟨f.pri, f.sec, b.resume.isNone, b.cut.isSome, f.one, f.two, dec, o⟩

/-- The nine candidates of a sync-slip recovery (R101); with `blind` the framing is nominal. -/
def observeSlip (c : DetCfg) (thr budget : Nat) (blind : Bool) (p : Pa) (b : SampleBuf) : List Decoded :=
  let o := detect c (-12) b.run
  let hard := o.hard.toArray
  let f := if blind then frameBlind else frameOn b thr hard
  (List.range 9).map fun i => decodeFramed b p (f.slip b.cut.isSome ((i : Int) - 4)) budget hard (softBits c o).toArray

/-! ### Equalizer adaptation (R81, R82) -/

/-- Error samples of a converged sector's codeword: decoded bits through the target, minus the equalizer output. -/
def adaptErrors (c : DetCfg) (b : SampleBuf) (o : DecodeObs) : List (Int × Int) :=
  let ys := o.out.ys.toArray
  ((List.range 37888).zip o.dec.bits).foldl (fun (a : List Bool × List (Int × Int)) x =>
    let bs := (x.2 :: a.1).take 5
    let i := runIndex b (896 + x.1 : Nat) o.one o.two
    (bs, if bs.length = 5 && decide (0 ≤ i) then (i, targetOut c.target bs - ys.getD i.toNat 0) :: a.2 else a.2)) ([], []) |>.2

/-- A coefficient after a sector: the step 2^-(MU + 8) on the product of error and sample. -/
def adaptCoef (c : DetCfg) (mu : Nat) (es : List (Int × Int)) (xs : Array (Vector Int 3)) (r : Fin 3) (j : Nat) : Int :=
  let sum := es.foldl (fun a e => let i := e.1 + 5 - (j : Int); a + e.2 * (if 0 ≤ i then (xs.getD i.toNat (Vector.replicate 3 0))[r] else 0)) 0
  satI 10 (c.coefs.getD (12 * r.val + j) 0 + roundDiv sum (2 ^ (mu + 8) * 65536))

/-- Mean squared error in 1/16 squared ADC step (R86's errors are in 1/128 step). -/
def meanSquare (es : List (Int × Int)) : Nat :=
  if es.isEmpty then 0 else min 255 (es.foldl (fun a e => a + e.2.natAbs * e.2.natAbs) 0 / (es.length * 1024))

end Sys2Proof.Machine
end

