-- ==== Sys2Proof/Machine/Path.lean ====
section
/-! DEFINITION. The hardware of a path: slot geometry (R51, R56, R59), event latches and traps of its Stitcher (R150,
R159), the settings of its read channel (R81 to R86, R115, R116), the armed action (R153, R154), the write gate (R128, R614), the
sample store (R94 to R97) and the result of a sector (R113, R139). -/

namespace Sys2Proof.Machine

/-! ### Geometry -/

/-- The channel-bit rate of a zone, in 10 Mbit/s (R60). -/
def zoneRate (z : Nat) : Nat := if z ≤ 30 then 800 - 11 * z else 460

/-- B_w: channel bits of a data window at format speed `rpm` in zone `z` (R51). -/
def windowBits (rpm z : Nat) : Nat := zoneRate z * (114422700 - 40 * rpm) / (100 * rpm)

/-- U_w: usable bits of a data window (R51). -/
def usableBits (rpm z : Nat) : Nat := windowBits rpm z - 256

/-- Slots per track (R59). -/
def slotsPerTrack (rpm z : Nat) : Nat := usableBits rpm z / 76

/-- The window in which slot `i` begins (R56). -/
def slotWindow (rpm z i : Nat) : Nat := i * 38912 / usableBits rpm z

/-- Whether slot `i` is split (R56). -/
def slotSplit (rpm z i : Nat) : Bool :=
  let u := usableBits rpm z
  decide (u < i * 38912 % u + 38912)

/-- The channel bits of slot `i` that lie in its first window, when it is split (R56). -/
def slotCut (rpm z i : Nat) : Nat := let u := usableBits rpm z; u - i * 38912 % u

/-! ### Event latches and traps of a Stitcher -/

/-- The trap an event raises (R159). -/
def eventTrap (e : Nat) : Option Nat :=
  match e with
  | 0 => some 8 | 6 => some 9 | 8 => some 11 | 9 => some 5 | 10 => some 7 | 11 => some 10
  | 12 => some 12 | 13 => some 13 | 14 => some 14 | 15 => some 4 | _ => none

/-- A trap of level H (0 to 6) and trap 15 are always enabled; a level-N trap by its TMASK bit (R159). -/
def Stitcher.enabled (t : Stitcher) (v : Nat) : Bool := decide (v < 7) || decide (v = 15) || t.tmask.getLsbD v

/-- Set a bit of a bit vector. -/
def setB {w : Nat} (x : BitVec w) (i : Nat) : BitVec w := x ||| BitVec.ofNat w (2 ^ i)

/-- Clear a bit of a bit vector. -/
def clrB {w : Nat} (x : BitVec w) (i : Nat) : BitVec w := x &&& ~~~(BitVec.ofNat w (2 ^ i))

/-- An event occurs (R150, R165). An event already latched is not counted twice; a WAIT on it completes and consumes it,
and its trap is then not raised; otherwise an enabled trap becomes pending (DEDUCED: a trap is raised when it is enabled
at the event). -/
def Stitcher.latch (t : Stitcher) (e : Nat) : Stitcher :=
  if 16 ≤ e then t
  else if t.mode = .waiting (Fin.ofNat 32 e) then { t with mode := .running, pc := t.pc + 1 }
  else if t.ev.getLsbD e then t
  else
    let u := { t with ev := setB t.ev e }
    match eventTrap e with
    | some v => if t.enabled v then { u with tpend := setB u.tpend v } else u
    | none => u

/-- Latch an event in the Stitcher of a path. -/
def State.event (s : State) (n : Ch) (p : Pa) (e : Nat) : State := s.modStit n p fun t => t.latch e

/-! ### Sample store -/

/-- A sample buffer leaves the free ones; a downward crossing of THRESH latches SSTORE (R97). -/
def takeBuffer (n : Ch) (p : Pa) (s : State) : State :=
  let f := s.get (F.DET_SSTAT_FREE n p)
  let th := s.get (F.DET_SSTAT_THRESH n p)
  let s1 := s.set (F.DET_SSTAT_FREE n p) (f - 1)
  if th < f ∧ f - 1 ≤ th then s1.event n p 11 else s1

/-- A capturing or decoding buffer becomes free again. -/
def freeBuffer (n : Ch) (p : Pa) (s : State) : State := s.set (F.DET_SSTAT_FREE n p) (s.get (F.DET_SSTAT_FREE n p) + 1)

/-- A decoding buffer becomes pinned (R95). -/
def pinBuffer (n : Ch) (p : Pa) (s : State) : State := s.set (F.DET_SSTAT_PINNED n p) (s.get (F.DET_SSTAT_PINNED n p) + 1)

/-- Every buffer of a path that no ladder pins becomes free: nothing is captured or waits any more (R13, R118). -/
def clearStore (n : Ch) (p : Pa) (s : State) : State :=
  (s.set (F.DET_SSTAT_FREE n p) (4 - s.get (F.DET_SSTAT_PINNED n p))).modPath n p fun q =>
    { q with arm := none, cap := Capturing.none, wait := [], wfFetch := false, fifo := [], squeeze := false }

/-- A pinned buffer becomes free (R95). -/
def unpinBuffer (n : Ch) (p : Pa) (s : State) : State :=
  (s.set (F.DET_SSTAT_PINNED n p) (s.get (F.DET_SSTAT_PINNED n p) - 1)).set (F.DET_SSTAT_FREE n p)
    (s.get (F.DET_SSTAT_FREE n p) + 1)

/-! ### Results -/

/-- Write RES_LO and RES_HI and latch RESULT (R155). -/
def showResult (n : Ch) (p : Pa) (word : Nat) (s : State) : State :=
  s.modStit n p fun t =>
    ({ t with r := (t.r.set 28 (BitVec.ofNat 16 word)).set 29 (BitVec.ofNat 16 (word / 65536 % 16)) }).latch 8

/-- The result of the armed action, which has ended. -/
def putResult (n : Ch) (p : Pa) (word : Nat) (s : State) : State :=
  showResult n p word (s.modPath n p fun q => { q with arm := none })

/-- The work item of a channel with a tag. -/
def findItem (tag : W16) : List Item → Option Item
  | [] => none
  | i :: r => if descTag i.desc = tag then some i else findItem tag r

/-- Change the work item with a tag. -/
def modItem (tag : W16) (f : Item → Item) : List Item → List Item
  | [] => []
  | i :: r => if descTag i.desc = tag then f i :: r else i :: modItem tag f r

/-- The retry count of the current work item on a path (R139, bits [12:9]). -/
def retryCount (n : Ch) (p : Pa) (s : State) : Nat :=
  match (s.stit n p).cur with
  | none => 0
  | some d =>
    match findItem (descTag d) (s.chan n).sched.ring with
    | some i => i.retry[p]
    | none => 0

/-- The result word of a written sector (R139): code, TORN, retry count. -/
def writeWord (code : Nat) (torn : Bool) (retry : Nat) : Nat := code + torn.toNat * 256 + min 15 retry * 512

/-- The scheduler takes the result word of a sector of a path, with the work item's TAG (R113). -/
def noteResult (n : Ch) (p : Pa) (tag : W16) (word : Nat) (s : State) : State :=
  s.modSched n fun c => { c with results := c.results.set p (some (tag, word)) }

/-- The result of a sector of the current descriptor: to the Stitcher and to the scheduler (R113). -/
def sectorResult (n : Ch) (p : Pa) (word : Nat) (s : State) : State :=
  match (s.stit n p).cur with
  | some d => noteResult n p (descTag d) word (putResult n p word s)
  | none => putResult n p word s

/-- A written sector ends: WRSTAT, the torn count, RES_LO and RES_HI (R139). The write FIFO gives the sector up, or the fetch of a
sector that it does not hold yet (R126). -/
def writeResult (n : Ch) (p : Pa) (code : Nat) (torn : Bool) (s : State) : State :=
  let w := writeWord code torn (retryCount n p s)
  let s := s.modPath n p fun q => { q with fifo := q.fifo.drop 1, wfFetch := q.wfFetch && !q.fifo.isEmpty }
  let s1 := (s.set (F.AFE_WRSTAT_LAST n p) w).when torn fun s => s.inc (F.AFE_WRSTAT_TORN_CNT n p)
  sectorResult n p w (s1.modStit n p fun t => { t with wrCode := BitVec.ofNat 16 code })

/-! ### The write gate -/

/-- The order in which causes are reported (R139). -/
def causeOrder : List Nat := [0x1D, 0x1C, 0x16, 0x14, 0x1B, 0x1A, 0x13, 0x12, 0x15, 0x17, 0x1E, 0x18]

/-- The first cause of a list, by the order of R139. -/
def firstCause (cs : List Nat) : Option Nat := causeOrder.find? fun c => cs.contains c

/-- The head that path p has selected. -/
def pathHead (n : Ch) (p : Pa) (s : State) : Option Nat :=
  match (s.stit n p).cur with
  | some d => some (descSurf d p)
  | none => (s.pathSt n p).head

/-- Whether the position error of the head of path p is within OFFTRK_THR (R128, R129). WRGATE applies from the next sample event
(R140): its values in force count. -/
def onTrackErr (n : Ch) (p : Pa) (s : State) : Bool :=
  decide ((s.chan n).servo.err[p].natAbs * 256 ≤ s.inForce (F.AFE_WRGATE_OFFTRK_THR n) * 2 ^ 29)

/-- The sector at the head of the write FIFO is in a state (R126); nothing of the kind for FORMAT_TRACK. -/
def fifoIs (n : Ch) (p : Pa) (v : FifoSec) (s : State) : Bool :=
  (s.pathSt n p).fifo.head? == some v && match (s.stit n p).cur with | some d => descCmd d != 0x11 | none => true

/-- Every condition of R128 and R372 that holds the gate of path p closed, as the code of R614. `ready`: committed in time, with
the sector in the FIFO and the preamplifier frames sent; `second`: the part follows a part already written (exempt from the cutoff
of R131, and from the spindle's tolerance under it, for the sector is written to its end). The code of a SPEC bit that is set in a
WRITE_SIG, of a FIFO that does not hold the whole sector, and of a chip reset that has started (R615), is 0x18 (DESIGN CHOICE, log
entry 69: R614, R126 and R615 name none). -/
def gateCauses (n : Ch) (p : Pa) (ready second : Bool) (s : State) : List Nat :=
  let head := (pathHead n p s).getD 0
  let spec := match (s.stit n p).cur with | some d => descCmd d == 0x02 && descSpec d | none => true
  let ploss := s.flag F.PWR_SUPPLY_PLOSS
  (if s.flag F.FAULT_STAT_SAFE then [0x1D] else []) ++
  (if ploss && !second then [0x1C] else []) ++
  (if fifoIs n p .differs s && !second then [0x16] else []) ++
  (if (s.chan n).pflt then [0x14] else []) ++
  (if s.flag (F.HINGE_STAT_GAP n) then [0x1B] else []) ++
  (if !(s.bit (F.CTL_STAT_PLAUS n) 0 && s.bit (F.CTL_STAT_PLAUS n) (p.val + 1)) then [0x1A] else []) ++
  (if (s.chan n).servo.shockPend && s.inForce (F.AFE_WRGATE_SHOCK_EN n) != 0 then [0x13] else []) ++
  (if !onTrackErr n p s then [0x12] else []) ++
  (if fifoIs n p .broken s && !second then [0x15] else []) ++
  (if s.bit (F.AFE_WRINH_INH n) head || !s.bit (F.CTL_RROSTAT_CONV n) head then [0x17] else []) ++
  (if !s.flag (F.MOT_STAT_IN_TOL n) && !(ploss && second) then [0x1E] else []) ++
  (if spec || !ready || (s.rst.chip.isSome && !second) then [0x18] else [])

/-- A cause parks the open gate of path p (R129, R130). A gate that is parked already is not open, and nothing changes. -/
def parkGate (n : Ch) (p : Pa) (code : Nat) (s : State) : State :=
  match (s.pathSt n p).arm with
  | none => s
  | some a =>
    if a.act = 2 ∧ a.isOpen ∧ a.cause.isNone then
      let wide := decide (s.inForce (F.AFE_WRGATE_SQUEEZE_THR n) * 2 ^ 29 < (s.chan n).servo.err[p].natAbs * 256)
      s.modPath n p fun q => { q with arm := some { a with cause := some code, left := 0 }, squeeze := q.squeeze || wide }
    else s

/-- A cause parks every gate of the channel (R130). -/
def parkAll (n : Ch) (code : Nat) (s : State) : State := s.each allPaths fun p t => parkGate n p code t

/-- A command of path p has ended: its idle fine loop holds the head on the track nearest to its position (R184). -/
def holdHead (n : Ch) (p : Pa) (s : State) : State :=
  s.modChan n fun c => { c with servo := { c.servo with
    track := c.servo.track.set p (roundDiv c.servo.pos[p] 536870912).toNat, offs := c.servo.offs.set p 0 } }

/-! ### Arming and parts -/

/-- The parts of the sector armed: how many, and the window of the first (R56, R170). -/
def armParts (n : Ch) (d : Desc) (act : Nat) (slot : Nat) (s : State) : Nat × Nat :=
  let rpm := s.get (F.SCHED_FMT_FMT_RPM n)
  if act = 4 then (bitsOf d[10] 17 9 + 1, 0)
  else if act = 2 ∧ descCmd d = 0x11 then (512, 0)
  else if rpm = 0 then (1, 0)
  else ((if slotSplit rpm (descZone d) slot then 2 else 1), slotWindow rpm (descZone d) slot % 512)

/-- The sector of an armed write ends between its parts: its last bit driven lies before the last codeword bit, so it is torn (R133).
Its code is that of a part that did not open (DESIGN CHOICE, log entry 69). -/
def cancelRest (n : Ch) (p : Pa) (a : Arm) (s : State) : State :=
  if a.act = 2 && a.begun then writeResult n p 0x18 true (s.event n p 9)
  else (s.modPath n p fun q => { q with arm := none, cap := Capturing.none }).when (a.begun && a.act != 4) (freeBuffer n p)

/-- ARM_ACT is written with an action of R153; with no current descriptor there is no sector to arm (DESIGN CHOICE, log entry 69). -/
def armAction (n : Ch) (p : Pa) (act : Fin 6) (s : State) : State :=
  let q := s.pathSt n p
  let begun := match q.arm with | some a => a.begun | none => false
  if act = 0 then
    match q.arm with
    | none => s
    | some a =>
      if a.isOpen && a.act != 4 then s.modPath n p fun q => { q with arm := some { a with left := 0 } }
      else cancelRest n p a s
  else if begun then
    (s.modStit n p fun t => { t with lateAct := BitVec.ofNat 16 act.val }).event n p 10
  else
    match (s.stit n p).cur with
    | none => s
    | some d =>
      let slot := (s.stit n p).armSlot.toNat
      let (k, w) := armParts n d act.val slot s
      s.modPath n p fun q => { q with arm := some ⟨act, slot, k, w, 0, false, false, false, none⟩ }

/-- COMMIT is written for the part that is pending, which may be the second while the first is open (R154). -/
def armCommit (n : Ch) (p : Pa) (s : State) : State :=
  match (s.pathSt n p).arm with
  | none => s
  | some a => if a.act = 2 ∧ 0 < a.left then s.modPath n p fun q => { q with arm := some { a with commit := true } } else s

/-- Every frame requested for the signature has completed (R122). -/
def framesDone (n : Ch) (s : State) : Bool := allPaths.all fun p => (s.pathSt n p).pa.isEmpty

/-- The first bit of the next write part of path p passes (R122, R125, R126, R128, R154, R614). -/
def writeFirstBit (n : Ch) (p : Pa) (a : Arm) (inTime : Bool) (s : State) : State :=
  let q := s.pathSt n p
  let format := match (s.stit n p).cur with | some d => descCmd d = 0x11 | none => false
  let ready := a.commit && inTime && (a.begun || framesDone n s) && (format || a.begun || q.fifo.head? == some .good)
  match firstCause (gateCauses n p ready a.begun s) with
  | none =>
    (s.modPath n p fun q =>
      { q with arm := some { a with left := a.left - 1, window := (a.window + 1) % 512, isOpen := true, begun := true,
                                    commit := false } }).event n p 5
  | some c =>
    let s1 := if a.commit && inTime then s
      else (s.modStit n p fun t => { t with lateAct := 2 }).event n p 10
    writeResult n p c a.begun s1

/-- The first bit of the next captured part of path p passes (R96, R154). -/
def captureFirstBit (n : Ch) (p : Pa) (a : Arm) (inTime : Bool) (s : State) : State :=
  if !inTime && !a.begun then
    sectorResult n p 0x06 ((s.modStit n p fun t => { t with lateAct := BitVec.ofNat 16 a.act.val }).event n p 10)
  else
    let b := { a with left := a.left - 1, window := (a.window + 1) % 512, isOpen := true, begun := true }
    let begin_ (s : State) : State := (s.modPath n p fun q => { q with arm := some b }).event n p 5
    if a.begun then begin_ s
    else if s.get (F.DET_SSTAT_FREE n p) = 0 then
      sectorResult n p 0x06 (s.inc (F.DET_SSTAT_NOT_CAPT n p))
    else begin_ (takeBuffer n p (s.modPath n p fun q => { q with cap := Capturing.none }))

/-- PART_FIRST_BIT (R154): the position counter reaches the first bit of the next part of the armed action. -/
def partFirst (n : Ch) (p : Pa) (inTime : Bool) (s : State) : State :=
  match (s.pathSt n p).arm with
  | none => s
  | some a =>
    if a.left = 0 ∨ a.isOpen then s
    else if a.act = 2 then writeFirstBit n p a inTime s
    else if a.act = 4 then s
    else captureFirstBit n p a inTime s

/-- The codes of a framing (R99, R100, R113): the flags in bits [12:8] of the result word. -/
def resultFlags (o : DecodeObs) (drop : BitVec 3) : Nat :=
  (match o.pri, o.sec with
   | some a, some b => if a = b then 0 else 0x100
   | none, some _ => 0x200
   | some _, none => 0x400
   | none, none => 0) +
  (if o.split && o.resumeMiss then 0x800 else 0) + (if drop = 0 then 0 else 0x1000)

/-- The first-pass result code of a sector (R84, R91, R99). -/
def firstPassCode (o : DecodeObs) (drop : BitVec 3) : Nat :=
  if drop = 7 then 0x07
  else if o.pri.isNone && o.sec.isNone then 0x02
  else if !o.converged then 0x03
  else if !o.check then 0x04
  else 0x00

/-! ### The settings of the read channel -/

/-- The zone defaults of a channel (R81). -/
def zoneDflt (c : Chan) (z : Nat) : Option ZoneDflt := c.zt.bind fun t => t.dflt[z]?

/-- A budget: 0 is taken as 1, above 64 as 64, and above ITER_MAX, itself so bounded, as ITER_MAX (R116, R137). -/
def iterBudget (n : Ch) (v : Nat) (s : State) : Nat :=
  min (max 1 (min 64 v)) (max 1 (min 64 (s.get (F.DET_ITER_ITER_MAX n))))

/-- The coefficients in use on a path (R82, R583). -/
def coefsInUse (n : Ch) (p : Pa) (s : State) : List Int := (List.range 36).map fun i => sext 10 (s.inForce (F.DET_EQCOEF_COEF n p i))

/-- Start values of three loops from a list. -/
def three (l : List Int) : Vector Int 3 := Vector.ofFn fun i => l.getD i.val 0

/-- Equalizer and detector settings of a pass in zone `z` with the readers of a mask (R81, R85, R86). A loop whose enable bit is clear
holds its value. -/
def detCfg (n : Ch) (p : Pa) (z : Nat) (coefs : List Int) (mask : BitVec 3) (s : State) : DetCfg :=
  let d := zoneDflt (s.chan n) z
  let dcEn := s.flag (F.DET_EQCTL_DC_EN n p)
  let asymEn := s.flag (F.DET_EQCTL_ASYM_EN n p)
  { coefs := coefs
    target := (d.map fun x => x.target).getD []
    pred := (d.map fun x => x.pred).getD []
    dcEn := dcEn
    asymEn := asymEn
    dc := if dcEn then Vector.replicate 3 0 else (s.pathSt n p).dc
    asym := if asymEn then three ((d.map fun x => x.asym).getD []) else (s.pathSt n p).asym
    mask := mask }

/-- The gains at the end of the last sector, 1/65,536 of 0.125 dB. -/
def lastGains (n : Ch) (p : Pa) (s : State) : Vector Int 3 :=
  three [(s.get (F.DET_AGC_GAIN0 n p) : Int) * 65536, (s.get (F.DET_AGC_GAIN1 n p) : Int) * 65536, (s.get (F.DET_AGC_GAIN2 n p) : Int) * 65536]

/-- The live settings of the capture of a descriptor's sector; `held` are the gains that an AGC_HOLD step keeps (R81, R105). -/
def liveCfg (n : Ch) (p : Pa) (d : Desc) (held : Option (Vector Int 3)) (s : State) : LiveCfg :=
  let z := descZone d
  let g := (zoneDflt (s.chan n) z).map fun x => three ((x.gains.getD (descSurf d p) []).map fun v => (v : Int) * 65536)
  let hold := s.flag (F.DET_AGCCTL_HOLD n p)
  { det := detCfg n p z (coefsInUse n p s) 7 s
    boost := s.inForce (F.AFE_INCFG_CTLE_BOOST n p)
    adcFs := s.get (F.AFE_INCFG_ADC_FS n p)
    rdEn := BitVec.ofNat 3 (s.get (F.AFE_INCFG_RD_EN n p))
    aim := s.get (F.DET_AGCCTL_TARGET n p)
    acq := s.get (F.DET_AGCCTL_ACQ_STEP n p)
    trk := s.get (F.DET_AGCCTL_TRK_STEP n p)
    hold := hold || held.isSome
    kpA := s.get (F.DET_TIMING_KP_ACQ n p)
    kiA := s.get (F.DET_TIMING_KI_ACQ n p)
    kpT := s.get (F.DET_TIMING_KP_TRK n p)
    kiT := s.get (F.DET_TIMING_KI_TRK n p)
    gain := held.getD (if hold then lastGains n p s else g.getD (Vector.replicate 3 0)) }

/-- The gains that a REREAD with AGC_HOLD keeps for the capture of its descriptor (R105). -/
def heldGains (n : Ch) (d : Desc) (s : State) : Option (Vector Int 3) :=
  match (s.chan n).sched.ladders.find? fun l => l.desc == d with
  | some l => match l.run with | some r => if r.hold then some l.gains else none | none => none
  | none => none

/-- What the loops of a path show at the end of a captured sector (R84, and the AGC and TIMING registers): gains, drops, frequency
offset in 0.005 % steps; each drop is counted and raises CHn_READER_DROP. -/
def captureStatus (n : Ch) (p : Pa) (b : SampleBuf) (s : State) : State :=
  let g := fun (i : Fin 3) => (b.gains[i] / 65536).toNat
  let t := ((((s.set (F.DET_AGC_GAIN0 n p) (g 0)).set (F.DET_AGC_GAIN1 n p) (g 1)).set (F.DET_AGC_GAIN2 n p) (g 2)).set
    (F.DET_AGC_DROP n p) b.drop.toNat).set (F.DET_TIMING_FREQ_OFS n p) (toBits 8 (satI 8 (roundDiv (b.freq * 20000) (2 ^ 32))))
  t.each ((List.range 3).filter fun r => b.drop.getLsbD r) fun _ u => (u.inc (F.DET_ERRCNT_RDROP n p)).raise (chSrc n 2) p

/-- A part that a capture has taken (R94). -/
def addPart (x : Capturing) (more : Bool) (o : Capture) : Capturing :=
  { sig := x.sig ++ o.sig
    cut := if more then some (x.sig.length + o.sig.length) else x.cut
    resync := x.resync ++ (if x.cut.isSome then o.resync else [])
    ta := x.ta ++ o.ta.map fun t => x.sig.length + t }

/-- A captured sector lies whole in its sample buffer, behind those that wait for their decode (R92, R94). -/
def sectorCaptured (n : Ch) (p : Pa) (act : Fin 6) (d : Desc) (s : State) : State :=
  let r := storeSamples (liveCfg n p d (heldGains n d s) s) (markThr (s.get (F.DET_SYNCCFG_RESUME_THR n))) act d (s.pathSt n p).cap
  captureStatus n p r.1 (s.modPath n p fun q =>
    { q with arm := none, cap := Capturing.none, wait := q.wait ++ [r.1], dc := r.2.1, asym := r.2.2 })

/-- PART_LAST_BIT (R125, R133): a part ends. `last` is the last channel bit of the sector driven before the gate parked;
it counts where a cause of R139 parked the gate. A sector that parked, or whose rest was cancelled, before bit 38,783 is torn. -/
def partLast (n : Ch) (p : Pa) (last : Nat) (o : Capture) (s : State) : State :=
  match (s.pathSt n p).arm with
  | none => s
  | some a =>
    if !a.isOpen || a.act = 4 then s
    else
      let cut := match (s.stit n p).cur with | some d => slotCut (s.get (F.SCHED_FMT_FMT_RPM n)) (descZone d) a.slot | none => 0
      let split := match (s.stit n p).cur with
        | some d => descCmd d != 0x11 && slotSplit (s.get (F.SCHED_FMT_FMT_RPM n)) (descZone d) a.slot | none => false
      let b := { a with isOpen := false, pos := cut }
      let s1 := (s.modPath n p fun q => { q with arm := some b }).event n p 7
      if a.act = 2 then
        match a.cause with
        | some c =>
          if 38783 ≤ last then writeResult n p 0x10 false s1
          else writeResult n p c true (s1.event n p 9)
        | none =>
          if a.left = 0 then (if split && a.pos = 0 then cancelRest n p b s1 else writeResult n p 0x10 false s1)
          else s1
      else
        let t := s1.modPath n p fun q => { q with cap := addPart q.cap (decide (0 < a.left)) o }
        if 0 < a.left then t
        else if a.act = 5 then sectorResult n p 0x00 (freeBuffer n p (t.modPath n p fun q => { q with cap := Capturing.none }))
        else
          match (s.stit n p).cur with
          | some d => sectorCaptured n p a.act d t
          | none => freeBuffer n p (t.modPath n p fun q => { q with arm := none, cap := Capturing.none })

/-- After the power-loss cutoff a Stitcher takes its POWER_LOSS trap once no begun sector is left (R131). -/
def powerTrap (n : Ch) (p : Pa) (s : State) : State :=
  let begun := match (s.pathSt n p).arm with | some a => a.act = 2 && a.begun | none => false
  if s.flag F.PWR_SUPPLY_PLOSS && !begun then s.modStit n p fun t => { t with tpend := setB t.tpend 3 } else s

end Sys2Proof.Machine
end

