-- ==== Sys2Proof/Machine/Pad.lean ====
section
/-! DEFINITION. The scratchpad banks as the engines use them (R217, R218, R226 to R228): 16 and 32 bit pieces of their 64
bit words, calibration records, seek profiles, and the learned tables of the heads in use. -/

namespace Sys2Proof.Machine

/-- The 16 bits at a byte offset of a scratchpad bank. -/
def pad16 (n : Ch) (b ofs : Nat) (s : State) : Nat := s.pads[n].get (8192 * b + ofs / 8) >>> (ofs % 8 * 8) % 65536

/-- The 32 bits at a byte offset of a scratchpad bank. -/
def pad32 (n : Ch) (b ofs : Nat) (s : State) : Nat := s.pads[n].get (8192 * b + ofs / 8) >>> (ofs % 8 * 8) % 4294967296

def State.modPads (s : State) (n : Ch) (f : NatMap → NatMap) : State := { s with pads := s.pads.set n (f s.pads[n]) }

/-- Store 16 bits at an even byte offset. -/
def putPad16 (n : Ch) (b ofs v : Nat) (s : State) : State :=
  s.modPads n fun m =>
    let k := 8192 * b + ofs / 8
    let sh := ofs % 8 * 8
    let old := m.get k
    m.set k (old - ((old >>> sh) % 65536) <<< sh + (v % 65536) <<< sh)

/-! ### Calibration records (R228) -/

def calGain (n : Ch) (h : Nat) (s : State) : Int := sext 32 (pad32 n 1 (0x1000 + h * 16) s)
/-- o_h in 1/256 track. -/
def calOffset (n : Ch) (h : Nat) (s : State) : Int := sext 32 (pad32 n 1 (0x1004 + h * 16) s)
def calKfa (n : Ch) (h : Nat) (s : State) : Int := pad32 n 1 (0x1008 + h * 16) s
def calLearn (n : Ch) (h : Nat) (s : State) : Nat := pad32 n 1 (0x100C + h * 16) s % 16777216

/-! ### Seek profiles (R226) -/

def profS (n : Ch) (k q : Nat) (s : State) : Int := pad16 n 0 ((k - 3) * 0x800 + q * 4) s
def profF (n : Ch) (k q : Nat) (s : State) : Int := sext 16 (pad16 n 0 ((k - 3) * 0x800 + q * 4 + 2) s)
def profM (n : Ch) (k : Nat) (s : State) : Nat := pad16 n 0 (0x9000 + 4 * (k - 3)) s

/-! ### Learned tables (R217, R218) -/

/-- The entry in use on path p for wedge w, in 1/4,096 track. -/
def rroEntry (n : Ch) (p : Pa) (w : Nat) (s : State) : Int := sext 16 (pad16 n 1 (p.val * 0x400 + w * 2) s)

/-- Four 16 bit entries as one scratchpad word. -/
def packWords : List Nat → List Nat
  | a :: b :: c :: d :: r => (a % 65536 + b % 65536 * 65536 + c % 65536 * 4294967296 + d % 65536 * 281474976710656) :: packWords r
  | _ => []

def unpackWords (l : List Nat) : List Nat := l.flatMap fun w => [w % 65536, w / 65536 % 65536, w / 4294967296 % 65536, w / 281474976710656 % 65536]

/-- The bytes that a table's CRC-32C covers: its entries, then head number, state and revolutions (R217; the order is log entry 73's). -/
def tableBytes (h st revs : Nat) (es : List Nat) : List Nat := es.flatMap (fun e => bytesLe 2 (e % 65536)) ++ [h % 256, st % 256, revs % 256]

def regionEntries (n : Ch) (h : Nat) (s : State) : List Nat := (s.chan n).servo.tbl.getRun (512 * h) 512

/-- State and revolutions of a head's table in the channel region; EMPTY when its CRC fails (R217). -/
def regionHdr (n : Ch) (h : Nat) (s : State) : Nat × Nat :=
  match (s.chan n).servo.hdrs.getD h none with
  | none => (0, 0)
  | some x => if x.crc = crc32c (tableBytes h x.st x.revs (regionEntries n h s)) then (x.st, x.revs) else (0, 0)

/-- The state of a head's table: 0 EMPTY, 1 LEARNING, 2 CONVERGED; of its working copy while a path has one (R218). -/
def tblState (n : Ch) (h : Nat) (s : State) : Nat :=
  match (s.chan n).servo.work.toList.find? fun w => w.any fun x => x.head == h with
  | some (some w) => w.st
  | _ => (regionHdr n h s).1

/-- The table of head h is copied into the scratchpad for path p. -/
def loadTable (n : Ch) (p : Pa) (h : Nat) (s : State) : State :=
  let r := regionHdr n h s
  (s.modPads n fun m => m.setRun (8192 + p.val * 128) (packWords (regionEntries n h s))).modChan n fun c =>
    { c with servo := { c.servo with work := c.servo.work.set p (some ⟨h, r.1, r.2⟩) } }

/-- A list with `v` at place `i`, as long as it must be. -/
def putAt {α : Type} (l : List (Option α)) (i : Nat) (v : α) : List (Option α) := (l ++ List.replicate (i + 1 - l.length) none).set i (some v)

/-- The table in use on path p is written back with a new CRC. -/
def saveTable (n : Ch) (p : Pa) (s : State) : State :=
  match (s.chan n).servo.work[p] with
  | none => s
  | some w =>
    let es := unpackWords (s.pads[n].getRun (8192 + p.val * 128) 128)
    s.modChan n fun c => { c with servo := { c.servo with
      tbl := c.servo.tbl.setRun (512 * w.head) es
      hdrs := putAt c.servo.hdrs w.head ⟨w.st, w.revs, crc32c (tableBytes w.head w.st w.revs es)⟩ } }

/-- Path p selects head h: the table of the head it leaves is written back, that of the new head taken. -/
def selectHead (n : Ch) (p : Pa) (h : Nat) (s : State) : State :=
  if (s.pathSt n p).head = some h ∧ ((s.chan n).servo.work[p]).isSome then s
  else (loadTable n p h (saveTable n p s)).modPath n p fun q => { q with head := some h }

/-- At a disable the tables in use are written back; the heads stay those last used (R184, R218). -/
def saveTables (n : Ch) (s : State) : State :=
  s.each allPaths fun p t => (saveTable n p t).modChan n fun c => { c with servo := { c.servo with work := c.servo.work.set p none } }

/-- An orderly shutdown saves every table to the Flyleaf, those in use as they stand (R218). -/
def tablesToFly (s : State) : State :=
  let t := s.each allChans fun n u => u.each allPaths fun p v => saveTable n p v
  let l := allChans.filterMap fun n =>
    let v := (t.chan n).servo
    if v.hdrs.all fun h => h.isNone then none else some (n.val, v.hdrs, v.tbl)
  let t := { t with fly := { t.fly with tables := t.fly.tables.filter (fun (x : Nat × List (Option TblHdr) × NatMap) => !l.any fun y => y.1 == x.1) ++ l } }
  t.each allChans fun n u => u.modChan n fun c => { c with servo := { c.servo with tblIn := c.servo.hdrs.all fun h => h.isNone } }

/-- At the enable after a shutdown, or when the region holds none, the saved tables are loaded back into the channel region (R218). A
table whose learning was cut short is EMPTY (DESIGN CHOICE, log entry 73). -/
def tablesFromFly (n : Ch) (s : State) : State :=
  let t := if (s.chan n).servo.tblIn then s
    else match s.fly.tables.find? fun x => x.1 == n.val with
      | some x => s.modChan n fun c => { c with servo := { c.servo with hdrs := x.2.1, tbl := x.2.2, tblIn := true } }
      | none => s.modChan n fun c => { c with servo := { c.servo with tblIn := true } }
  t.modChan n fun c => { c with servo := { c.servo with hdrs := c.servo.hdrs.map fun h => if h.any fun x => x.st == 1 then none else h } }

end Sys2Proof.Machine
end

