-- ==== Sys2Proof/Machine/Map.lean ====
section
/-! DEFINITION. Channel blocks, slot positions and signatures (R56 to R76): the mapping order, the skip rules, relocation,
the runs of channel blocks, the checks of a descriptor, and the work rings. -/

namespace Sys2Proof

open Machine

/-! ### Geometry of a channel (R58, R67, R73) -/

def ZoneTable.firstOf (z : ZoneTable) (s zn : Nat) : Nat := (z.first.getD s []).getD zn 0
def ZoneTable.spareOf (z : ZoneTable) (s zn : Nat) : Nat := (z.spare.getD s []).getD zn 0
def ZoneTable.tracksOf (z : ZoneTable) (s : Nat) : Nat := z.tracks.getD s 0

/-- One past the last track of a zone, the system area of zone 31 left out (R73). -/
def ZoneTable.zoneEnd (z : ZoneTable) (s zn : Nat) : Nat := if zn < 31 then z.firstOf s (zn + 1) else z.tracksOf s - 256

/-- U(s, z) (R67). -/
def ZoneTable.userTracks (z : ZoneTable) (s zn : Nat) : Nat := z.zoneEnd s zn - z.spareOf s zn - z.firstOf s zn

def ZoneTable.quads (z : ZoneTable) : Nat := (z.surfaces + 3) / 4
def ZoneTable.quadSurfs (z : ZoneTable) (q : Nat) : Nat := min 4 (z.surfaces - 4 * q)

/-- T(q, z) (R67). -/
def ZoneTable.quadTracks (z : ZoneTable) (q zn : Nat) : Nat :=
  match (List.range (z.quadSurfs q)).map fun p => z.userTracks (4 * q + p) zn with
  | [] => 0
  | t :: ts => ts.foldl min t

/-- SPT of a zone (R59). -/
def ZoneTable.spt (z : ZoneTable) (zn : Nat) : Nat := slotsPerTrack z.rpm zn

/-- The zone of a track, zone 31 for the system area (R58, R71). -/
def ZoneTable.zoneOf (z : ZoneTable) (s t : Nat) : Nat :=
  ((List.range 32).filter fun zn => decide (z.firstOf s zn ≤ t)).getLastD 0

/-! ### Mapping order (R68) -/

/-- A slot position: zone, logical track, quad, slot, path. -/
structure Pos where
  z : Nat
  k : Nat
  q : Nat
  i : Nat
  p : Nat
  deriving DecidableEq, Repr

/-- The position's place on the medium. -/
def Pos.slot (z : ZoneTable) (x : Pos) : SlotId := ⟨4 * x.q + x.p, z.firstOf (4 * x.q + x.p) x.z + x.k, x.i⟩

/-- Slot positions of one logical track of a quad. -/
def ZoneTable.quadSize (z : ZoneTable) (q zn : Nat) : Nat := z.spt zn * z.quadSurfs q

/-- Positions of a zone. -/
def ZoneTable.zoneSize (z : ZoneTable) (zn : Nat) : Nat :=
  (List.range z.quads).foldl (fun n q => n + z.quadTracks q zn * z.quadSize q zn) 0

/-- The quads that have logical track `k` of a zone. -/
def ZoneTable.quadsAt (z : ZoneTable) (zn k : Nat) : List Nat := (List.range z.quads).filter fun q => decide (k < z.quadTracks q zn)

/-- Positions of one logical track over the quads that have it. -/
def ZoneTable.trackSize (z : ZoneTable) (zn k : Nat) : Nat := (z.quadsAt zn k).foldl (fun n q => n + z.quadSize q zn) 0

/-- The logical tracks at which the set of quads changes, above `k0`, and the last. -/
def ZoneTable.nextBreak (z : ZoneTable) (zn k0 : Nat) : Option Nat :=
  ((List.range z.quads).map fun q => z.quadTracks q zn).foldl (fun b t =>
    if decide (k0 < t) then (match b with | some x => some (min x t) | none => some t) else b) none

/-- The position of rank `r` among the quads of one logical track. -/
def ZoneTable.inTrack (z : ZoneTable) (zn k : Nat) : List Nat → Nat → Option Pos
  | [], _ => none
  | q :: qs, r =>
    if r < z.quadSize q zn then some ⟨zn, k, q, r / z.quadSurfs q, r % z.quadSurfs q⟩ else z.inTrack zn k qs (r - z.quadSize q zn)

/-- The position of rank `r` of a zone, from logical track `k0`. -/
def ZoneTable.inZone (z : ZoneTable) (zn : Nat) : Nat → Nat → Nat → Option Pos
  | 0, _, _ => none
  | fuel + 1, k0, r =>
    match z.nextBreak zn k0 with
    | none => none
    | some k1 =>
      let a := z.trackSize zn k0
      if r < (k1 - k0) * a then z.inTrack zn (k0 + r / a) (z.quadsAt zn k0) (r % a) else z.inZone zn fuel k1 (r - (k1 - k0) * a)

/-- The position of rank `r` of the channel, from zone `zn`. -/
def ZoneTable.posOf (z : ZoneTable) : Nat → Nat → Nat → Option Pos
  | 0, _, _ => none
  | fuel + 1, zn, r => if r < z.zoneSize zn then z.inZone zn (z.quads + 1) 0 r else z.posOf fuel (zn + 1) (r - z.zoneSize zn)

/-- Positions of a zone's logical tracks below `k`. -/
def ZoneTable.ranksBelow (z : ZoneTable) (zn k : Nat) : Nat :=
  (List.range z.quads).foldl (fun n q => n + min k (z.quadTracks q zn) * z.quadSize q zn) 0

/-- The rank of a slot in the mapping order; none for a slot that maps no channel block. -/
def ZoneTable.rankOf (z : ZoneTable) (x : SlotId) : Option Nat :=
  let zn := z.zoneOf x.surf x.track
  let q := x.surf / 4
  let k := x.track - z.firstOf x.surf zn
  if x.surf < z.surfaces && decide (k < z.quadTracks q zn) && decide (x.slot < z.spt zn) then
    let below := (List.range zn).foldl (fun n y => n + z.zoneSize y) 0
    let qs := (z.quadsAt zn k).filter fun y => decide (y < q)
    some (below + z.ranksBelow zn k + qs.foldl (fun n y => n + z.quadSize y zn) 0 + x.slot * z.quadSurfs q + x.surf % 4)
  else none

end Sys2Proof

namespace Sys2Proof.Machine

/-! ### Skipped slots (R72) -/

/-- The slots of a track that rules 1 and 2 skip. -/
def skipOne (c : Chan) (z : ZoneTable) (sf t : Nat) : List Nat :=
  let zn := z.zoneOf sf t
  let ws := (c.sched.wedges.filter fun w => w.1 == sf && w.2.1 == t).map fun w => w.2.2
  (List.range (z.spt zn)).filter fun i =>
    c.sched.prim.contains ⟨sf, t, i⟩ ||
      ws.any fun w => slotWindow z.rpm zn i == w || (i * 38912 + 38911) / usableBits z.rpm zn == w

/-- The slots of a track that are skipped: all of them when rules 1 and 2 skip more than 64 (rule 3). -/
def skipTrack (c : Chan) (z : ZoneTable) (sf t : Nat) : List Nat :=
  let l := skipOne c z sf t
  if 64 < l.length then List.range (z.spt (z.zoneOf sf t)) else l

/-- The tracks on which the primary list names anything. -/
def badTracks (c : Chan) : List (Nat × Nat) :=
  ((c.sched.prim.map fun x => (x.surf, x.track)) ++ c.sched.wedges.map fun w => (w.1, w.2.1)).dedup

def isSkipped (c : Chan) (z : ZoneTable) (x : SlotId) : Bool :=
  (badTracks c).contains (x.surf, x.track) && (skipTrack c z x.surf x.track).contains x.slot

def insertSorted (a : Nat) : List Nat → List Nat
  | [] => [a]
  | b :: r => if a ≤ b then a :: b :: r else b :: insertSorted a r

/-- The ranks of all skipped slots, rising. -/
def skipRanks (c : Chan) (z : ZoneTable) : List Nat :=
  ((badTracks c).flatMap fun t => (skipTrack c z t.1 t.2).filterMap fun i => z.rankOf ⟨t.1, t.2, i⟩).foldl (fun l a => insertSorted a l) []

/-- The rank of channel block `b`: the block-th position that is not skipped (R68). -/
def blockRank (c : Chan) (z : ZoneTable) (b : Nat) : Nat := (skipRanks c z).foldl (fun r x => if x ≤ r then r + 1 else r) b

/-- The slot that channel block `b` maps to, before relocation. -/
def blockSlot (c : Chan) (b : Nat) : Option SlotId :=
  match c.zt with
  | some z => (z.posOf 32 0 (blockRank c z b)).map fun x => x.slot z
  | none => none

/-- The channel block that a slot holds; none for a skipped slot, a spare or the system area. -/
def slotBlock (c : Chan) (x : SlotId) : Option Nat :=
  match c.zt with
  | some z =>
    if isSkipped c z x then none
    else (z.rankOf x).map fun r => r - ((skipRanks c z).filter fun y => decide (y < r)).length
  | none => none

/-- The user capacity of a channel in blocks (R68). -/
def chanBlocks (c : Chan) : Nat :=
  match c.zt with
  | some z => (List.range 32).foldl (fun n zn => n + z.zoneSize zn) 0 - (skipRanks c z).length
  | none => 0

/-- The slot at which a slot's sector lies: relocations followed, a failed relocation slot's too (R74, R137). -/
def relocEnd (gs : List Reloc) : Nat → SlotId → SlotId
  | 0, x => x
  | fuel + 1, x => match gs.find? fun r => r.src == x with
    | some r => relocEnd gs fuel r.dst
    | none => x

/-- The slot whose sector a relocation slot stands for. -/
def relocStart (gs : List Reloc) : Nat → SlotId → SlotId
  | 0, x => x
  | fuel + 1, x => match gs.find? fun r => r.dst == x with
    | some r => relocStart gs fuel r.src
    | none => x

/-- The slot that holds a channel block: its relocation slot when it is on the grown list (R74). -/
def placeOf (c : Chan) (b : Nat) : Option (SlotId × Bool) :=
  (blockSlot c b).map fun x =>
    let y := relocEnd c.sched.grown c.sched.grown.length x
    (y, y != x)

/-! ### Relocation (R73, R74) -/

/-- Spare tracks per zone that committed layouts reserve on channel `n` for rebuild (R73, R419): the largest SPARE of the layouts that
take the channel (DESIGN CHOICE, log entry 70: the rules do not say how several combine). -/
def reservedSpare (n : Ch) (s : State) : Nat :=
  ((s.chan n).sched.runs.filter fun r => r.layout).foldl (fun a r => max a (s.get (F.GATH_LAYOUT_SPARE r.owner))) 0

/-- The tracks of a zone that serve relocation: those beyond T(q, z) and the first part of the spare tracks. -/
def relocTracks (n : Ch) (z : ZoneTable) (sf zn : Nat) (s : State) : List Nat :=
  let a := z.firstOf sf zn
  let u := z.userTracks sf zn
  let t := z.quadTracks (sf / 4) zn
  ((List.range (u - t)).map (a + t + ·)) ++ (List.range (z.spareOf sf zn - reservedSpare n s)).map (a + u + ·)

/-- The zones in order of nearness to `zn`, the outer first among equals (R74). -/
def nearZones (zn : Nat) : List Nat :=
  zn :: (List.range 31).flatMap fun d => (if d + 1 ≤ zn then [zn - (d + 1)] else []) ++ (if zn + d + 1 < 32 then [zn + d + 1] else [])

def relocFree (n : Ch) (z : ZoneTable) (x : SlotId) (s : State) : Bool :=
  !isSkipped (s.chan n) z x && !(s.chan n).sched.grown.any fun r => r.dst == x || r.src == x

/-- A free relocation slot of a zone of a surface. Which of them is taken the rule does not say (DESIGN CHOICE, log entry 70): the
tracks beyond T(q, z) first, then the spare tracks, each upward, and on a track the lowest slot. -/
def relocIn (n : Ch) (z : ZoneTable) (sf zn : Nat) (s : State) : Option SlotId :=
  (relocTracks n z sf zn s).findSome? fun t =>
    ((List.range (z.spt zn)).find? fun i => relocFree n z ⟨sf, t, i⟩ s).map fun i => ⟨sf, t, i⟩

/-- The relocation slot for a grown defect (R74). -/
def relocSlot (n : Ch) (x : SlotId) (s : State) : Option SlotId :=
  match (s.chan n).zt with
  | none => none
  | some z =>
    let zn := z.zoneOf x.surf x.track
    (x.surf :: (List.range z.surfaces).filter (· != x.surf)).findSome? fun sf =>
      (nearZones zn).findSome? fun y => relocIn n z sf y s

/-- The slots of a track that are skipped or on the grown list, or hold a relocated sector. -/
def takenSlots (c : Chan) (z : ZoneTable) (sf t : Nat) : List Nat :=
  ((if (badTracks c).contains (sf, t) then skipTrack c z sf t else []) ++
    ((c.sched.grown.flatMap fun r => [r.src, r.dst]).filter fun x => x.surf == sf && x.track == t).map fun x => x.slot).dedup

/-- Free relocation slots of a channel (R75). -/
def spareLeft (n : Ch) (s : State) : Nat :=
  match (s.chan n).zt with
  | none => 0
  | some z =>
    (List.range z.surfaces).foldl (fun a sf => (List.range 32).foldl (fun b zn =>
      (relocTracks n z sf zn s).foldl (fun e t => e + (z.spt zn - (takenSlots (s.chan n) z sf t).length)) b) a) 0

def defectSync (n : Ch) (s : State) : State :=
  (s.set (F.SCHED_DEFECT_STAT_GROWN_CNT n) (min 0xFFFF (s.chan n).sched.grown.length)).set (F.SCHED_DEFECT_STAT_SPARE_LEFT n)
    (min 0xFFFF (spareLeft n s))

/-- The grown list changes: in use, in the system area, and in the Flyleaf's mirror while FLY is enabled (R71). -/
def setGrown (n : Ch) (l : List Reloc) (s : State) : State :=
  let t := s.modChan n fun c => { c with sched := { c.sched with grown := l }, sys := c.sys.map fun x => { x with grown := l } }
  t.when (t.get F.FLY_ENABLE_EN != 0) fun u =>
    { u with fly := { u.fly with grown := u.fly.grown.filter (fun g => g.1 != n.val) ++ [(n.val, l)] } }

/-- Add a slot to the grown list and relocate it (R74, R75); false when no relocation slot is free, and the lists then stay as
they are and CHn_RELOC_EXHAUSTED is raised. A relocation slot that fails stays on the list and is relocated in turn (R137). -/
def relocate (n : Ch) (x : SlotId) (s : State) : Bool × State :=
  match relocSlot n x s with
  | none => (false, s.raise (chSrc n 1))
  | some d =>
    (true, defectSync n ((setGrown n ((s.chan n).sched.grown ++ [⟨x, d⟩]) s).incWrap (F.SCHED_MAP_GEN_GEN n)))

/-! ### Runs of channel blocks (R70) -/

def runFree (rs : List Run) (b len : Nat) : Bool := rs.all fun r => decide (b + len ≤ r.base) || decide (r.base + r.len ≤ b)

/-- The lowest free run of `len` blocks. -/
def lowestRun (rs : List Run) (cap len : Nat) : Option Nat :=
  ((0 :: rs.map fun r => r.base + r.len).filter fun b => decide (b + len ≤ cap) && runFree rs b len).foldl
    (fun m b => match m with | some x => some (min x b) | none => some b) none

/-- The highest free run of `len` blocks. -/
def highestRun (rs : List Run) (cap len : Nat) : Option Nat :=
  (((cap - len) :: rs.filterMap fun r => if len ≤ r.base then some (r.base - len) else none).filter fun b =>
    decide (b + len ≤ cap) && runFree rs b len).foldl (fun m b => match m with | some x => some (max x b) | none => some b) none

/-! ### Descriptors (R63, R65) -/

/-- The dwords of a descriptor but the last, and its check. The CRC-32C takes each dword least significant byte first (DESIGN CHOICE,
log entry 70: R63 gives no byte order). -/
def sealDesc (ws : List W32) : Desc :=
  let l := (ws ++ List.replicate 11 0).take 11
  Vector.ofFn fun (i : Fin 12) => if i.val = 11 then BitVec.ofNat 32 (crc32c (l.flatMap fun w => bytesLe 4 w.toNat)) else l.getD i.val 0

/-- One sector of a signature: path, slot, handle. -/
structure Part where
  slot : SlotId
  hdl  : Nat
  lb   : Option (Nat × Nat)
  deriving DecidableEq, Repr

/-- A descriptor of one signature over the parts given, all of one slot index and zone. -/
def mkDesc (cmd zn : Nat) (ps : List Part) (gen : Nat) (tag : W16) (spec wver : Bool) (ladder : Nat) : Desc :=
  let slot := (ps.head?.map fun x => x.slot.slot).getD 0
  let at_ := fun (p : Nat) => ps.find? fun x => x.slot.surf % 4 == p
  let en := (List.range 4).foldl (fun v p => if (at_ p).isSome then v + 2 ^ (8 + p) else v) 0
  let pos := (List.range 4).map fun p => match at_ p with
    | some x => BitVec.ofNat 32 (x.slot.track % 16777216 + x.slot.surf % 32 * 16777216)
    | none => 0#32
  let hs := (List.range 4).map fun p => match at_ p with | some x => BitVec.ofNat 32 x.hdl | none => 0#32
  sealDesc ([BitVec.ofNat 32 (cmd + en + zn * 4096 + slot % 2048 * 131072)] ++ pos ++ hs ++
    [BitVec.ofNat 32 (gen + tag.toNat * 65536), BitVec.ofNat 32 (spec.toNat + wver.toNat * 2 + ladder % 16 * 4)])

/-- The check of a descriptor's dwords (R65, reason 0x09). -/
def descSealed (d : Desc) : Bool := d == sealDesc (d.toList.take 11)

/-- The slot a path names in a descriptor. -/
def descSlotId (d : Desc) (p : Pa) : SlotId := ⟨descSurf d p, descTrack d p, descSlot d⟩
def descPaths (d : Desc) : List Pa := allPaths.filter fun p => descEn d p

/-- The difference of the largest and the smallest of a list. -/
def spreadOf (l : List Int) : Int :=
  match l with
  | [] => 0
  | t :: ts => ts.foldl max t - ts.foldl min t

/-- The spread of offset-corrected tracks, in 1/256 track (R62, R228, reason 0x05). -/
def descSpread (n : Ch) (d : Desc) (s : State) : Int :=
  spreadOf ((descPaths d).map fun p => 256 * (descTrack d p : Int) - calOffset n (descSurf d p) s)

/-- The reason code of R65, 0x00 when the descriptor passes. -/
def descReason (n : Ch) (d : Desc) (s : State) : Nat :=
  let ps := descPaths d
  if !descSealed d then 0x09
  else if descEnMask d = 0 then 0x0A
  else if descGen d ≠ s.get (F.SCHED_MAP_GEN_GEN n) then 0x08
  else match (s.chan n).zt with
    | none => 0x02
    | some z =>
      if ps.any fun p => descSurf d p % 4 != p.val then 0x01
      else if ps.any fun p => decide (z.surfaces ≤ descSurf d p) then 0x02
      else if ps.any fun p => decide (z.tracksOf (descSurf d p) ≤ descTrack d p) then 0x03
      else if ps.any fun p => z.zoneOf (descSurf d p) (descTrack d p) != descZone d then 0x04
      else if 5120 < descSpread n d s then 0x05
      else if z.spt (descZone d) ≤ descSlot d then 0x06
      else if ps.any fun p => isSkipped (s.chan n) z (descSlotId d p) then 0x07
      else 0

/-! ### The work ring (R69, R368) -/

def Item.new (d : Desc) (kind : ItemKind) (cmds : List Nat) (lb : Vector (Option (Nat × Nat)) 4) (cls : Nat) : Item :=
  ⟨d, kind, cmds, lb, cls, false, false, Vector.replicate 4 none, Vector.replicate 4 false, Vector.replicate 4 false, false,
    Vector.replicate 4 0, Vector.replicate 4 0, Vector.replicate 4 false, none⟩

/-- Place one signature in the ring of channel `n`. -/
def placeSig (n : Ch) (cmd : Nat) (kind : ItemKind) (cmds : List Nat) (cls : Nat) (spec wver : Bool) (ladder : Nat)
    (stripe : Option (Nat × Nat)) (ps : List Part) (s : State) : State :=
  match (s.chan n).zt, ps with
  | some z, x :: _ =>
    let tag := BitVec.ofNat 16 (s.chan n).sched.nextTag
    let d := mkDesc cmd (z.zoneOf x.slot.surf x.slot.track) ps (s.get (F.SCHED_MAP_GEN_GEN n)) tag spec wver ladder
    let lb : Vector (Option (Nat × Nat)) 4 := Vector.ofFn fun p => (ps.find? fun y => y.slot.surf % 4 == p.val).bind fun y => y.lb
    s.modSched n fun c => { c with nextTag := (c.nextTag + 1) % 65536, ring := c.ring ++ [{ Item.new d kind cmds lb cls with stripe := stripe }] }
  | _, _ => s

/-- Whether two unrelocated slots belong to one signature (R69). -/
def sameSig (z : ZoneTable) (a b : SlotId) : Bool :=
  a.surf / 4 == b.surf / 4 && a.slot == b.slot && z.zoneOf a.surf a.track == z.zoneOf b.surf b.track &&
    a.track - z.firstOf a.surf (z.zoneOf a.surf a.track) == b.track - z.firstOf b.surf (z.zoneOf b.surf b.track)

/-- An unrelocated sector joins the signature of its logical track, quad and slot, or begins one (R69). -/
def joinSig (z : ZoneTable) (pt : Part) : List (Bool × List Part) → List (Bool × List Part)
  | [] => [(false, [pt])]
  | (rel, ps) :: gs =>
    if !rel && ps.all fun q => sameSig z pt.slot q.slot && q.slot.surf != pt.slot.surf then (rel, ps ++ [pt]) :: gs
    else (rel, ps) :: joinSig z pt gs

/-- Group the sectors of a run into signatures in the order of their first blocks, relocated sectors alone (R69, R74). -/
def groupSigs (c : Chan) (z : ZoneTable) (xs : List Sector) : List (Bool × List Part) :=
  xs.foldl (fun gs x =>
    match (match x.fix with | some sl => some (sl, true) | none => placeOf c x.blk) with
    | none => gs
    | some (sl, true) => gs ++ [(true, [⟨sl, x.hdl, x.lb⟩])]
    | some (sl, false) => joinSig z ⟨sl, x.hdl, x.lb⟩ gs) []

/-- Place the signatures of a run of channel blocks; the first part is how many items that made. -/
def placeRun (n : Ch) (cmd : Nat) (kind : ItemKind) (cmds : List Nat) (cls : Nat) (spec wver : Bool)
    (stripe : Option (Nat × Nat)) (xs : List Sector) (s : State) : Nat × State :=
  match (s.chan n).zt with
  | none => (0, s)
  | some z =>
    let gs := groupSigs (s.chan n) z xs
    (gs.length, s.each gs fun g t => placeSig n cmd kind cmds cls spec wver 0 stripe g.2 t)

/-! ### Namespaces on channels (R70, R423) -/

/-- The channel a number names. -/
def chOf (n : Nat) : Ch := ⟨n % 8, Nat.mod_lt _ (by decide)⟩

/-- A channel is absent when its four domains are off (R14). -/
def chanAbsent (n : Ch) (s : State) : Bool := (s.get (F.PWR_DOMSTAT_ON 0) >>> (4 * n.val)) % 16 == 0

/-- A channel is failed: a Channel-fatal status bit of it is set (R13, R509), or its pseudo-channel is faulty (R18). -/
def chanFailed (n : Ch) (s : State) : Bool :=
  (s.flag F.CACHE_DRAMSTAT_TRAINED && !s.bit F.CACHE_DRAMSTAT_PC_OK n) || (List.range 40).any fun k => classReset (chSrc n k) == 2 && s.bit (F.FAULT_STATUS_SRC (chSrc n k / 32)) (chSrc n k % 32)

/-- A channel takes work items (R569). -/
def chanReady (n : Ch) (s : State) : Bool := s.get (F.PAGE_ENABLE_PHASE n) == 3 && !chanFailed n s

/-- The channels of a layout in ascending order (R419). -/
def layoutChans (l : Nat) (s : State) : List Nat := (List.range 8).filter fun n => s.bit (F.GATH_LAYOUT_CHAN_MASK l) n

/-- The layout registers are read from the Flyleaf, which records committed layouts alone (R420, R443): drafts in the registers of an
uncommitted slot are gone. -/
def dropDrafts (s : State) : State :=
  s.each [0, 1, 2, 3] fun l t => if t.get (F.GATH_LSTAT_STATE l) = 0 then t.resetRegs (0x700000 + 16 * l) (0x700008 + 16 * l) else t

/-- The parameters of a layout: K, M, W. -/
def layoutK (l : Nat) (s : State) : Nat := s.get (F.GATH_LAYOUT_K l)
def layoutM (l : Nat) (s : State) : Nat := s.get (F.GATH_LAYOUT_M l)
def layoutW (l : Nat) (s : State) : Nat := (layoutChans l s).length

/-- The first channel block of a layout's extent on a channel (R70). -/
def extentBase (l n : Nat) (s : State) : Nat :=
  (((s.chan (chOf n)).sched.runs.find? fun r => r.layout && r.owner == l).map fun r => r.base).getD 0

/-- The strip index on its channel of the strip at position `q` of stripe `st` (R423). -/
def stripIndex (w km st q : Nat) : Nat :=
  let p0 := w * (st / w)
  (List.range (st - p0)).foldl (fun a t => if (q + w - t) % w < km then a + 1 else a) (st / w * km)

/-- The channel and the strip index of strip `i` of stripe `st` of layout `l`. -/
def stripAt (l st i : Nat) (s : State) : Nat × Nat :=
  let w := layoutW l s
  let q := (st + i) % w
  ((layoutChans l s).getD q 0, stripIndex w (layoutK l s + layoutM l s) st q)

/-- Place of a logical block: channel and channel block; for a gathering namespace also stripe and strip (R70, R423). -/
def nsPlace (v : Ns) (a : Nat) (s : State) : Nat × Nat × Nat × Nat :=
  if v.place < 8 then (v.place, v.base + a, 0, 0)
  else
    let l := v.place - 0x80
    let k := layoutK l s
    let st := v.base + a / (64 * k)
    let j := a % (64 * k) / 64
    let x := stripAt l st j s
    (x.1, extentBase l x.1 s + 64 * x.2 + a % 64, st, j)

/-- The media class of a submission queue's work (R324). -/
def mediaClass (qid prio : Nat) : Nat := if qid = 0 then 1 else if prio = 0 then 0 else if prio = 3 then 2 else 1

end Sys2Proof.Machine
end

