-- ==== Sys2Proof/Machine/Fly.lean ====
section
/-! DEFINITION. The Flyleaf journal (chapter 12): blocks, bands, pages, packing, programs and their results, destage
records, bookmarks, collection, erasure, dies, the read-only state, checkpoints and the scan. -/

namespace Sys2Proof.Machine

def State.modFly (s : State) (f : Fly → Fly) : State := { s with fly := f s.fly }

/-! ### Dies and blocks (R383, R402, R403, R407) -/

/-- The dies in service, rising. -/
def diesIn (s : State) : List Nat := (List.range 16).filter fun d => s.bit F.FLY_DIE_IN_SERVICE d

def flyPages (s : State) : Nat := s.get F.FLY_GEOM_PAGES
def wmHigh (s : State) : Nat := s.get F.FLY_WM_HIGH
def wmLow (s : State) : Nat := min (s.get F.FLY_WM_LOW) (wmHigh s)
def wmStop (s : State) : Nat := min (s.get F.FLY_WM_STOP) (wmLow s)

def minOf (d : Int) (l : List Int) : Int := match l with | [] => d | a :: r => r.foldl min a

/-- FREE: the smallest number of free blocks on any die in service (R403). -/
def flyFree (s : State) : Nat :=
  (minOf 0 ((diesIn s).map fun d => ((s.fly.blks.filter fun b => b.die == d && b.st == .free).length : Int))).toNat

/-- B_s for `n` dies (R407). -/
def blocksNeeded (n : Nat) (s : State) : Nat :=
  let den := (n - 1) * flyPages s * 16384
  (s.get F.FLY_CFG_SIZE_GIB * 2 ^ 30 + den - 1) / den + wmHigh s + 2

/-- SPARE: the smallest number of good journal blocks beyond B_s, over the dies given (R407). -/
def spareOf (ds : List Nat) (blks : List FBlk) (s : State) : Int :=
  minOf 0 (ds.map fun d => ((blks.filter fun b => b.die == d && b.st != .retired).length : Int) - blocksNeeded ds.length s)

def flySpare (s : State) : Int := spareOf (diesIn s) s.fly.blks s

/-- Bring FREE, SPARE and HOLD up to date; the available-spare warning when SPARE falls below its limit (R407). -/
def flySync (s : State) : State :=
  let f := flyFree s
  let sp := flySpare s
  let warned := match s.fly.spare0 with
    | some s0 => decide (sp * 100 < s0 * (5 * s.get F.FLY_CFG_SPARE_WARN))
    | none => false
  let was := match s.fly.spare0 with
    | some s0 => decide ((s.get F.FLY_STAT_SPARE : Int) * 100 < s0 * (5 * s.get F.FLY_CFG_SPARE_WARN))
    | none => true
  let t := ((s.set F.FLY_STAT_FREE (min 4095 f)).set F.FLY_STAT_SPARE (min 4095 sp.toNat)).setFlag F.FLY_STAT_HOLD
    (s.get F.FLY_STAT_STATE == 2 && decide (f < wmStop s))
  let t := t.when (decide (wmHigh s ≤ f)) fun u => u.setFlag F.FLY_STAT_FG_GC false
  t.when (warned && !was) fun u => u.aenAll 1 2 0x02

def modBlk (die num : Nat) (f : FBlk → FBlk) (s : State) : State :=
  s.modFly fun y => { y with blks := y.blks.map fun b => if b.die == die && b.num == num then f b else b }

def modBand (num : Nat) (f : FBand → FBand) (s : State) : State :=
  s.modFly fun y => { y with bands := y.bands.map fun b => if b.num == num then f b else b }

/-- The free block of a die that a new band takes: lowest erase count, then lowest number (R402). -/
def pickBlock (die : Nat) (s : State) : Option FBlk :=
  (s.fly.blks.filter fun b => b.die == die && b.st == .free).foldl (fun m b => match m with
    | none => some b
    | some x => if b.erases < x.erases || (b.erases == x.erases && decide (b.num < x.num)) then some b else some x) none

/-- Open a band of one free block from each die in service (R384, R402); none when a die has no free block. -/
def openBand (host : Bool) (s : State) : Option State :=
  let ds := diesIn s
  let bs := ds.filterMap fun d => pickBlock d s
  if bs.length != ds.length || ds.length < 2 then none
  else
    let num := s.fly.nextBand
    let t := s.modFly fun y => { y with
      nextBand := num + 1, bands := y.bands ++ [⟨num, host, .opened, ds.getD (num % ds.length) 0⟩],
      blks := y.blks.map fun b => if bs.contains b then { b with st := .opened, band := num, fill := 0 } else b }
    some (flySync t)

/-- The open band for host entries, or for copies. -/
def openBandOf (host : Bool) (s : State) : Option FBand := s.fly.bands.find? fun b => b.host == host && b.st == .opened

/-- The block that takes the next page of a band: rising die order within a stripe, the parity die skipped (R384, R394). -/
def nextBlock (b : FBand) (s : State) : Option FBlk :=
  (s.fly.blks.filter fun x => x.band == b.num && x.st == .opened && x.die != b.par && decide (x.fill < flyPages s)).foldl
    (fun m x => match m with
      | none => some x
      | some y => if x.fill < y.fill || (x.fill == y.fill && decide (x.die < y.die)) then some x else some y) none

/-- A band is closed when every block in it that takes programs is full (R397). -/
def closeFull (b : FBand) (s : State) : State :=
  if (nextBlock b s).isSome then s
  else
    let t := modBand b.num (fun x => { x with st := .closed }) s
    t.modFly fun y => { y with blks := y.blks.map fun x => if x.band == b.num && x.st == .opened then { x with st := .closed } else x }

/-- Mark the checkpoint in use CONSUMED, before the first program after a start (R410). -/
def consume (s : State) : State :=
  match s.fly.ckUse with
  | some i => s.modFly fun y => { y with ckUse := none, ckpts := y.ckpts.set i (y.ckpts[i].map fun c => { c with consumed := true }) }
  | none => s

/-- A program of one page of the band begins; none when no band can take it, or the power is lost (R25). -/
def startPage (host : Bool) (ptype : Nat) (es : List FEntry) (dst : List (Nat × Nat)) (bms : List Bookmark) (s : State) :
    Option State :=
  if s.flag F.PWR_SUPPLY_PLOSS then none else
  let s1 := match openBandOf host s with | some _ => some s | none => openBand host s
  match s1 with
  | none => none
  | some t =>
    match openBandOf host t with
    | none => none
    | some b =>
      match nextBlock b t with
      | none => none
      | some x =>
        let pg : FPage := ⟨t.fly.nextId, x.die, x.num, x.fill, b.num, ptype, t.fly.nextSeq - 1, t.fly.pot, es, dst, bms⟩
        let u := (consume t).modFly fun y => { y with nextId := y.nextId + 1, flight := y.flight ++ [pg] }
        let u := modBlk x.die x.num (fun z => { z with fill := z.fill + 1 }) u
        some (closeFull b u)

/-! ### Packing and programs (R394 to R396) -/

/-- The command that owns a sequence number (R391). -/
def seqOwner (q : Nat) (s : State) : Option Cmd := s.host.cmds.find? fun c => decide (c.seq0 ≤ q) && decide (q < c.seq0 + c.seqLen)

/-- A program holding entries of their commands has begun (R334). -/
def markBegun (es : List FEntry) (s : State) : State :=
  s.each es fun e t => if e.copy then t else match seqOwner e.seq t with
    | some c => t.modCmd c.k fun d => { d with begun := true }
    | none => t

/-- Whether the ratio of foreground collection admits one more host page (R404): with v the fraction of the victim's pages that hold
something to copy, (1 - v) / v host pages for each page copied; freely when v = 0, and while no band can be collected. -/
def ratioAdmits (s : State) : Bool :=
  let y := s.fly
  !s.flag F.FLY_STAT_FG_GC || y.victim.isNone || decide ((y.gcHost + 1) * y.gcKeep ≤ y.gcDone * (y.gcAll - y.gcKeep))

/-- Whether host entries are admitted: the journal is writable, FREE is not below STOP, and the ratio allows it (R403, R404, R408). -/
def hostAdmitted (s : State) : Bool :=
  s.get F.FLY_STAT_STATE == 2 && decide (wmStop s ≤ flyFree s) && !s.flag F.PWR_SUPPLY_PLOSS && ratioAdmits s

/-- Pack waiting entries four to a page while pages fill (R394). -/
def packFull (host : Bool) : Nat → State → State
  | 0, s => s
  | fuel + 1, s =>
    let q := if host then s.fly.packH else s.fly.packC
    if q.length < 4 || (host && !hostAdmitted s) then s
    else match startPage host 1 (q.take 4) [] [] s with
      | none => s
      | some t =>
        let t := t.modFly fun y => if host then { y with packH := y.packH.drop 4, gcHost := y.gcHost + 1 } else { y with packC := y.packC.drop 4 }
        packFull host fuel (markBegun (q.take 4) t)

/-- Entries whose data is ready join the pack queue. A host entry stops background collection at the next page boundary (R403). -/
def flyPush (host : Bool) (es : List FEntry) (s : State) : State :=
  let stop := host && !es.isEmpty && s.fly.victim.isSome && !s.flag F.FLY_STAT_FG_GC
  let t := s.modFly fun y => if host then { y with packH := y.packH ++ es, gcStop := y.gcStop || stop } else { y with packC := y.packC ++ es }
  packFull host ((if host then t.fly.packH else t.fly.packC).length) t

/-- A page that cannot be filled is padded and programmed (R394). -/
def packRest (host : Bool) (s : State) : State :=
  let q := if host then s.fly.packH else s.fly.packC
  if q.isEmpty || (host && !hostAdmitted s) then s
  else match startPage host 1 (q.take 4) [] [] s with
    | none => s
    | some t => markBegun (q.take 4) (t.modFly fun y => if host then { y with packH := y.packH.drop 4, gcHost := y.gcHost + 1 } else { y with packC := y.packC.drop 4 })

/-- Withdraw the entries of a command that still wait to be packed (R334). -/
def unpack (c : Cmd) (s : State) : State :=
  s.modFly fun y => { y with packH := y.packH.filter fun e => !(decide (c.seq0 ≤ e.seq) && decide (e.seq < c.seq0 + c.seqLen)) }

/-! ### Bookmarks (R363, R366, R367) -/

def bkSync (s : State) : State :=
  let b := s.fly.bms
  let age := match b.getLast? with | some x => s.fly.pot - x.pot | none => 0
  (s.set F.NVME_BKSTAT_ENTRIES b.length).set F.NVME_BKSTAT_EFF_WIN (min 600 age)

/-- Record a bookmark; a full table evicts the oldest, counted when it is still inside its window (R366). -/
def putBookmark (b : Bookmark) (s : State) : State :=
  let dropped := (s.fly.bms.drop 1048575).head?
  let early := match dropped with
    | some x => (match s.ns x.nsid with | some v => decide (s.fly.pot < x.pot + v.window) | none => false)
    | none => false
  let t := s.modFly fun y => { y with bms := b :: y.bms.take 1048575 }
  bkSync (t.when early fun u => u.inc F.NVME_BKCNT2_EARLY_EVICT)

/-- The bookmark that answers a stamp in a namespace. -/
def findBookmark (nsid stamp : Nat) (s : State) : Option Bookmark :=
  s.fly.bms.find? fun b => b.nsid == nsid && b.stamp == stamp && b.gen == s.fly.nsgen.get nsid

/-! ### Live entries and destage records (R398, R399) -/

/-- Entries become void: no longer live, and their numbers go into a destage record. -/
def unlive (qs : List Nat) (s : State) : State :=
  let hit := qs.filter fun q => s.fly.live.contains q
  s.modFly fun y => { y with live := y.live.filter fun q => !qs.contains q, pendDst := y.pendDst ++ hit.map fun q => (q, 1) }

/-- Join neighbouring ranges of a destage record (R398: consecutive numbers form one range). -/
def joinRanges : List (Nat × Nat) → List (Nat × Nat)
  | [] => []
  | (a, n) :: r => match joinRanges r with
    | (b, m) :: q => if a + n = b then (a, n + m) :: q else (a, n) :: (b, m) :: q
    | [] => [(a, n)]

/-- A range in its place among others, by first number. -/
def insertRange (r : Nat × Nat) : List (Nat × Nat) → List (Nat × Nat)
  | [] => [r]
  | x :: l => if r.1 ≤ x.1 then r :: x :: l else x :: insertRange r l

/-- The ranges of the numbers that wait for a record, rising and joined. -/
def destageRanges (rs : List (Nat × Nat)) : List (Nat × Nat) := joinRanges (rs.foldl (fun l r => insertRange r l) [])

def FEntry.isLiveKind (e : FEntry) : Bool := decide (1 ≤ e.kind) && decide (e.kind ≤ 3)

/-- A DESTAGE page is programmed, or in a read-only journal the records go into the system area (R398, R408). -/
def destagePage (s : State) : State :=
  let rs := destageRanges s.fly.pendDst
  if rs.isEmpty then s
  else if s.get F.FLY_STAT_STATE == 2 then
    match startPage true 2 [] (rs.take 1056) [] s with
    | some t => t.modFly fun y => { y with pendDst := rs.drop 1056 }
    | none => s
  else s.modFly fun y => { y with pendDst := [], sysDst := y.sysDst ++ rs }

/-- A BOOKMARK page is programmed (R401); while the journal is read-only bookmarks stay in DRAM (R367, R408). -/
def bookmarkPage (s : State) : State :=
  if s.fly.pendBm.isEmpty || s.get F.FLY_STAT_STATE != 2 then s
  else
    let now := s.fly.pendBm.take 264
    match startPage true 3 [] [] (now.map fun b => b.1) s with
    | some t => t
    | none => s

/-- Whether a sequence number is covered by a destage record that stands, or waits for its page. -/
def isDestaged (q : Nat) (s : State) : Bool :=
  let cov := fun (r : Nat × Nat) => decide (r.1 ≤ q) && decide (q < r.1 + r.2)
  s.fly.sysDst.any cov || s.fly.pendDst.any cov || s.fly.pages.any fun p => p.dst.any cov

/-! ### Results of a program (R395, R396) -/

/-- An entry's program has passed: it is live, and its command has one entry fewer to wait for. -/
def entryPassed (e : FEntry) (s : State) : State :=
  let t := if e.isLiveKind && e.gen == s.fly.nsgen.get e.nsid && !s.fly.live.contains e.seq && !(e.copy && isDestaged e.seq s) then s.modFly fun y => { y with live := y.live ++ [e.seq] } else s
  if e.copy || e.kind == 7 then t
  else match seqOwner e.seq t with
    | some c => t.modCmd c.k fun d => { d with ents := d.ents - 1 }
    | none => t

/-- A WARM entry's program has passed: the line enters the warm index with its sixteenth (R414). -/
def warmPassed (e : FEntry) (s : State) : State :=
  let ln := e.lba / 16
  match s.fly.warmPend.find? fun w => w.1 == e.nsid && w.2.1 == ln with
  | some w =>
    let rest := s.fly.warmPend.filter fun x => !(x.1 == e.nsid && x.2.1 == ln)
    if w.2.2.1 ≤ 1 then s.modFly fun y => { y with warmPend := rest, warm := y.warm ++ [(e.nsid, ln)] }
    else s.modFly fun y => { y with warmPend := rest ++ [(w.1, w.2.1, w.2.2.1 - 1, w.2.2.2)] }
  | none => s

/-- Every WARM line that overlaps a range leaves the index (R415, R459). -/
def warmDrop (nsid lba cnt : Nat) (s : State) : State :=
  s.modFly fun y => { y with
    warm := y.warm.filter fun w => !(w.1 == nsid && lineOverlaps w.2 lba cnt),
    warmPend := y.warmPend.filter fun w => !(w.1 == nsid && lineOverlaps w.2.1 lba cnt),
    packC := y.packC.filter fun e => !(e.kind == 7 && e.nsid == nsid && lineOverlaps (e.lba / 16) lba cnt) }

/-- The bookmark an entry carries (R363, R389). -/
def FEntry.bookmark (e : FEntry) (pot : Nat) : Bookmark := ⟨e.nsid, e.gen, e.stamp, e.opc, e.bmLba, e.bmCnt, 0, pot, false⟩

/-- The band's parity die, or another band's: the page's kind decides what its program passing does. -/
def pagePassed (p : FPage) (s : State) : State :=
  let t := s.modFly fun y => { y with pages := y.pages ++ [p] }
  let t := t.each p.ents fun e u => if e.kind == 7 then warmPassed e u else entryPassed e u
  let hostN := (p.ents.filter fun e => !e.copy && e.kind != 7).length
  let t := t.modFly fun y => { y with
    hostEnt := y.hostEnt + hostN,
    copied := y.copied + (if p.ents.any fun e => e.copy then 1 else 0), gcDone := y.gcDone + (if p.ents.any fun e => e.copy then 1 else 0),
    target := if (p.ents.any fun e => e.copy) && !y.target.contains (p.die, p.blk) then y.target ++ [(p.die, p.blk)] else y.target }
  if p.ptype == 3 then
    let mine := t.fly.pendBm.filter fun b => p.bms.contains b.1
    let t := t.each mine fun b u => match b.2 with
      | some k => putBookmark b.1 (u.modCmd k fun c => { c with ents := c.ents - 1 })
      | none => u
    t.modFly fun y => { y with pendBm := y.pendBm.filter fun b => !p.bms.contains b.1 }
  else t

/-- The live entries that lie in a block's pages. -/
def liveIn (die blk : Nat) (s : State) : List FEntry :=
  ((s.fly.pages.filter fun p => p.die == die && p.blk == blk).flatMap fun p => p.ents).filter fun e =>
    e.isLiveKind && s.fly.live.contains e.seq

/-- A block takes no further program and waits for the copies of its live entries (R396, R397, R406). -/
def condemn (die blk : Nat) (s : State) : State :=
  let t := modBlk die blk (fun b => { b with st := .condemned }) s
  flyPush false ((liveIn die blk t).map fun e => { e with copy := true }) t

/-- A page program fails (R396; of a page of copies, R405): its entries and records are programmed again. -/
def pageFailed (p : FPage) (s : State) : State :=
  let t := (s.raise (hostSrc 12) p.die).inc F.FLY_ERRCNT_PROG_FAIL
  let t := condemn p.die p.blk t
  let copies := p.ents.any fun e => e.copy
  let t := t.modFly fun y => if copies || p.ents.any fun e => e.kind == 7 then { y with packC := p.ents ++ y.packC } else { y with packH := p.ents ++ y.packH }
  let t := t.when copies fun u => (u.inc F.FLY_ERRCNT_COPY_RESTART).modFly fun y => { y with restarts := y.restarts + 1 }
  let t := t.modFly fun y => { y with
    pendDst := p.dst ++ y.pendDst
    pendBm := y.pendBm ++ (p.bms.filter fun b => !y.pendBm.any fun x => x.1 == b).map fun b => (b, none) }
  match openBandOf true t with
  | some b => closeFull b t
  | none => t

/-- FLY_PAGE_PROGRAM_DONE for a page in flight. -/
def programDone (pg : Nat) (pass : Bool) (s : State) : State :=
  match s.fly.flight.find? fun p => p.id == pg with
  | none => s
  | some p =>
    let t := s.modFly fun y => { y with flight := y.flight.filter fun x => x.id != pg }
    if pass then pagePassed p t else pageFailed p t

/-! ### Verification, retirement, erasure (R397, R405, R406) -/

/-- A bookmark is inside its window (R366). -/
def inWindow (b : Bookmark) (s : State) : Bool := s.fly.bms.any fun x => x.nsid == b.nsid && x.stamp == b.stamp && x.gen == b.gen && x.pot == b.pot

/-- What pages that go out of use hold besides live entries: their records and bookmarks are programmed again, their warm lines leave the
index. -/
def keepRecords (ps : List FPage) (s : State) : State :=
  let marks := (ps.flatMap fun p => p.bms ++ (p.ents.filter fun e => e.bm).map fun e => e.bookmark p.pot).filter fun b => inWindow b s
  let t := s.modFly fun y => { y with pendDst := y.pendDst ++ ps.flatMap (fun p => p.dst), pendBm := y.pendBm ++ marks.map fun b => (b, none) }
  t.each ((ps.flatMap fun p => p.ents).filter fun e => e.kind == 7) fun e u => warmDrop e.nsid e.lba 1 u

/-- A block is retired now: counted, and counted against DIE_FAIL_BLK (R406, R417). Its content is not read again. -/
def retire (die blk : Nat) (s : State) : State :=
  let mine := fun (p : FPage) => p.die == die && p.blk == blk
  let t := keepRecords (s.fly.pages.filter mine) (modBlk die blk (fun b => { b with st := .retired }) s)
  flySync (t.modFly fun y => { y with retired := y.retired + 1, hour := y.hour ++ [(die, y.pot)], pages := y.pages.filter fun p => !mine p })

/-- The live entries of a block whose only copy on the Flyleaf lies in it. -/
def onlyIn (die blk : Nat) (s : State) : List FEntry :=
  (liveIn die blk s).filter fun e => !s.fly.pages.any fun p => !(p.die == die && p.blk == blk) && p.ents.any fun x => x.seq == e.seq

/-- Whether a page check fails the test of R397. -/
def checkFails (c : PageCheck) (s : State) : Bool := !c.decoded || decide (s.get F.FLY_CFG_VFY_THR < c.bits)

/-- The verification read of a closed band ends (R397). Its parity block goes to erasure. -/
def bandVerified (band : Nat) (checks : List PageCheck) (s : State) : State :=
  match s.fly.bands.find? fun b => b.num == band && b.st == .closed with
  | none => s
  | some b =>
    if s.fly.flight.any fun p => p.band == band then s
    else
      let bad := checks.filter fun c => checkFails c s && s.fly.blks.any fun x => x.band == band && x.die == c.die && x.die != b.par
      let t := s.each bad fun c u =>
        match s.fly.blks.find? fun x => x.band == band && x.die == c.die with
        | some x =>
          let v := (u.raise (hostSrc 14) c.die).inc F.FLY_ERRCNT_VFY_FAIL
          if (v.fly.blks.any fun y => y.die == x.die && y.num == x.num && y.st == .condemned) then v
          else
            let es := (liveIn x.die x.num v).filter fun e => v.fly.pages.any fun p => p.page == c.page && p.die == x.die && p.blk == x.num && p.ents.contains e
            flyPush false (es.map fun e => { e with copy := true }) (modBlk x.die x.num (fun y => { y with st := .condemned }) v)
        | none => u
      let t := modBand band (fun x => { x with st := .verified }) t
      t.modFly fun y => { y with blks := y.blks.map fun x => if x.band == band && x.die == b.par then { x with st := .erasing } else x }

/-- An erase ends (R406). -/
def eraseDone (die blk : Nat) (ok : Bool) (s : State) : State :=
  match s.fly.blks.find? fun b => b.die == die && b.num == blk && b.st == .erasing with
  | none => s
  | some _ =>
    let t := s.modFly fun y => { y with pages := y.pages.filter fun p => !(p.die == die && p.blk == blk) }
    if ok then
      let t := flySync (modBlk die blk (fun b => { b with st := .free, erases := b.erases + 1, band := 0, fill := 0 }) t)
      packFull true t.fly.packH.length t
    else retire die blk ((t.raise (hostSrc 13) die).inc F.FLY_ERRCNT_ERASE_FAIL)

/-! ### Collection (R399, R401, R403, R404) -/

def bandBlocks (band : Nat) (s : State) : List FBlk := s.fly.blks.filter fun b => b.band == band && b.st != .free && b.st != .retired
def bandPages (band : Nat) (s : State) : List FPage := s.fly.pages.filter fun p => p.band == band

/-- A destage range is needed while some page outside the victim holds an entry it covers (R399). -/
def rangeNeeded (victim : Nat) (r : Nat × Nat) (s : State) : Bool :=
  s.fly.pages.any fun p => p.band != victim && p.ents.any fun e => decide (r.1 ≤ e.seq) && decide (e.seq < r.1 + r.2)

def bandLive (band : Nat) (s : State) : List FEntry :=
  ((bandPages band s).flatMap fun p => p.ents).filter fun e => e.isLiveKind && s.fly.live.contains e.seq
def bandRanges (band : Nat) (s : State) : List (Nat × Nat) := ((bandPages band s).flatMap fun p => p.dst).filter fun r => rangeNeeded band r s
def bandMarks (band : Nat) (s : State) : List Bookmark :=
  ((bandPages band s).flatMap fun p => p.bms ++ (p.ents.filter fun e => e.bm).map fun e => e.bookmark p.pot).filter fun b => inWindow b s

def bandWeight (band : Nat) (s : State) : Nat := (bandLive band s).length + (bandRanges band s).length + (bandMarks band s).length

/-- The victim: closed and verified, with the least to keep, then the lowest BAND (R403). -/
def pickVictim (s : State) : Option FBand :=
  (s.fly.bands.filter fun b => b.st == .verified).foldl (fun m b => match m with
    | none => some b
    | some x => if bandWeight b.num s < bandWeight x.num s || (bandWeight b.num s == bandWeight x.num s && decide (b.num < x.num)) then some b else some x) none

/-- Whether a page of collection copies is being programmed. -/
def gcBusy (s : State) : Bool :=
  s.fly.flight.any fun p => p.ents.any (fun e => e.copy) || (p.ptype != 1 && s.fly.bands.any fun b => b.num == p.band && !b.host)

/-- The next page of collection copies (R404): the DESTAGE ranges, the bookmarks, the entries that are still live. One page is programmed
at a time. -/
def gcStep (s : State) : State :=
  let y := s.fly
  let es := y.gcQ.filter fun e => y.live.contains e.seq
  if y.victim.isNone || y.gcStop || gcBusy s || s.get F.FLY_STAT_STATE != 2 then s
  else if !y.gcDst.isEmpty then
    match startPage false 2 [] (y.gcDst.take 1056) [] s with
    | some t => t.modFly fun z => { z with gcDst := z.gcDst.drop 1056 }
    | none => s
  else if !y.gcBms.isEmpty then
    match startPage false 3 [] [] (y.gcBms.take 264) s with
    | some t => t.modFly fun z => { z with gcBms := z.gcBms.drop 264 }
    | none => s
  else if es.isEmpty then s.modFly fun z => { z with gcQ := [] }
  else match startPage false 1 (es.take 4) [] [] s with
    | some t => t.modFly fun z => { z with gcQ := es.drop 4 }
    | none => s

/-- Whether a page of a victim holds something to copy. -/
def pageKeeps (band : Nat) (s : State) (p : FPage) : Bool :=
  (p.ents.any fun e => (e.isLiveKind && s.fly.live.contains e.seq) || (e.bm && inWindow (e.bookmark p.pot) s)) ||
    (p.dst.any fun r => rangeNeeded band r s) || p.bms.any fun b => inWindow b s

/-- Begin to copy what a victim must keep (R404). -/
def copyVictim (band : Nat) (s : State) : State :=
  let ps := bandPages band s
  let t := s.modFly fun y => { y with
    victim := some band, target := [], gcStop := false, gcQ := (bandLive band s).map fun e => { e with copy := true }, gcDst := bandRanges band s
    gcBms := bandMarks band s, gcKeep := (ps.filter (pageKeeps band s)).length, gcAll := ps.length, gcDone := 0, gcHost := 0 }
  gcStep (modBand band (fun b => { b with st := .victim }) t)

/-- The journal becomes read-only (R408). -/
def flyReadOnly (s : State) : State :=
  if s.get F.FLY_STAT_STATE != 2 then s
  else
    let t := (s.set F.FLY_STAT_STATE 3).raise (hostSrc 16)
    let t := ((t.aenAll 7 0x01 0xC1).setFlag F.FLY_STAT_FG_GC false).setFlag F.FLY_STAT_HOLD false
    let t := t.modFly fun y => { y with roRec := true, wasOff := false, victim := none, gcQ := [], gcDst := [], gcBms := [], warm := [], warmPend := [], packC := y.packC.filter fun e => e.kind != 7 }
    let t := t.setFlag F.NVME_BKSTAT_DRAM_ONLY true
    let t := t.each t.fly.pendBm fun b u => match b.2 with
      | some k => putBookmark { b.1 with dram := true } (u.modCmd k fun c => { c with ents := c.ents - 1 })
      | none => u
    destagePage (t.modFly fun y => { y with pendBm := [] })

/-- Collection starts, or host entries are held, by where FREE stands (R403). `idle`: no host entry was programmed for
WM.IDLE_MS. -/
def collect (idle : Bool) (s : State) : State :=
  let f := flyFree s
  if s.get F.FLY_STAT_STATE != 2 || decide (wmHigh s ≤ f) then s
  else if f < wmStop s && flySpare s == 0 && !s.fly.packH.isEmpty then flyReadOnly s
  else
    let fg := decide (f < wmLow s)
    let t := flySync (s.when fg fun u => u.setFlag F.FLY_STAT_FG_GC true)
    if !fg && !idle then t
    else if t.fly.victim.isSome then packFull true t.fly.packH.length (gcStep (t.modFly fun y => { y with gcStop := false }))
    else match pickVictim t with
      | some b => let u := copyVictim b.num t; packFull true u.fly.packH.length u
      | none => t

/-- Whether every copy of the running collection has been programmed. -/
def copiesDone (s : State) : Bool := s.fly.packC.isEmpty && s.fly.gcQ.isEmpty && s.fly.gcDst.isEmpty && s.fly.gcBms.isEmpty && !gcBusy s

/-- A condemned block is retired once every live entry in it stands elsewhere; until then those left are copied. -/
def retireCondemned (s : State) : State :=
  s.each (s.fly.blks.filter fun b => b.st == .condemned) fun b t =>
    let es := onlyIn b.die b.num t
    if es.isEmpty then retire b.die b.num t else flyPush false (es.map fun e => { e with copy := true }) t

/-- A read of a warm line of the victim is in flight (R415). -/
def victimRead (v : Nat) (s : State) : Bool :=
  ((bandPages v s).flatMap fun p => p.ents).any fun e => e.kind == 7 && s.fly.warmW.any fun w => w.2 == (e.nsid, e.lba / 16)

/-- The target pages have been read back (R405): a failed target block is retired and its copies are made again; otherwise
condemned blocks without live entries are retired, and the victim is erased. -/
def victimErase (checks : List PageCheck) (s : State) : State :=
  if !copiesDone s then gcStep (packRest false s)
  else
    let bad := (s.fly.target.filter fun x => checks.any fun c => c.die == x.1 && checkFails c s)
    if !bad.isEmpty then
      let again := bad.flatMap fun x => ((s.fly.pages.filter fun p => p.die == x.1 && p.blk == x.2).flatMap fun p => p.ents).filter fun e => e.copy && s.fly.live.contains e.seq
      let t := s.each bad fun x u => retire x.1 x.2 u
      let t := (t.inc F.FLY_ERRCNT_COPY_RESTART).modFly fun y => { y with restarts := y.restarts + 1, target := y.target.filter fun x => !bad.contains x }
      packRest false (flyPush false again t)
    else
      let t := retireCondemned s
      if !copiesDone t then packRest false t else
      let t := t.modFly fun y => { y with target := [] }
      match t.fly.victim with
      | none => t
      | some v =>
        if victimRead v t then t else
        let lines := ((bandPages v t).flatMap fun p => p.ents).filter fun e => e.kind == 7
        let t := t.each lines fun e u => warmDrop e.nsid e.lba 1 u
        flySync (t.modFly fun y => { y with
          victim := none, bands := y.bands.filter fun b => b.num != v,
          blks := y.blks.map fun b => if b.band == v && b.st != .retired && b.st != .free then { b with st := .erasing } else b })

/-! ### Dies (R406) -/

/-- Close every open band. -/
def closeBands (s : State) : State :=
  s.modFly fun y => { y with
    bands := y.bands.map fun b => if b.st == .opened then { b with st := .closed } else b,
    blks := y.blks.map fun b => if b.st == .opened then { b with st := .closed } else b }

/-- A die leaves service (R406): what only it held is programmed again from the write buffer and the bookmark table. -/
def dieOut (die : Nat) (s : State) : State :=
  let t := (s.setBit F.FLY_DIE_IN_SERVICE die false).raise (hostSrc 15) die
  let onDie := (t.fly.pages.filter fun p => p.die == die)
  let lost := (onDie.flatMap fun p => p.ents).filter fun e =>
    e.isLiveKind && t.fly.live.contains e.seq && !t.fly.pages.any fun p => p.die != die && p.ents.any fun x => x.seq == e.seq
  let marks := onDie.flatMap fun p => (p.bms ++ (p.ents.filter fun e => e.bm).map fun e => e.bookmark p.pot).filter fun b => inWindow b t
  let flight := t.fly.flight.filter fun p => p.die == die
  let t := t.modFly fun y => { y with
    flight := y.flight.filter fun p => p.die != die, pages := y.pages.filter fun p => p.die != die,
    packH := (flight.flatMap fun p => p.ents.filter fun e => !e.copy && e.kind != 7) ++ y.packH,
    packC := (flight.flatMap fun p => p.ents.filter fun e => e.copy) ++ y.packC,
    pendBm := y.pendBm ++ marks.map (fun b => (b, none)),
    pendDst := y.pendDst ++ onDie.flatMap (fun p => p.dst) ++ flight.flatMap (fun p => p.dst) }
  let t := flySync (closeBands t)
  let t := flyPush false (lost.map fun e => { e with copy := true }) t
  if flySpare t < 0 then flyReadOnly t else t

/-- Blocks that a die has retired in the last hour of powered-on time. -/
def retiredHour (die : Nat) (s : State) : Nat := (s.fly.hour.filter fun x => x.1 == die && decide (s.fly.pot < x.2 + 3600)).length

/-- FLY_DIE_FAIL: the die does not answer, or it retired more than DIE_FAIL_BLK blocks within the hour. -/
def dieFail (die : Nat) (dead : Bool) (s : State) : State :=
  if s.bit F.FLY_DIE_IN_SERVICE die && (dead || decide (s.get F.FLY_DIE_DIE_FAIL_BLK < retiredHour die s)) then dieOut die s else s

/-! ### Checkpoints and the start (R409 to R412) -/

/-- Write a checkpoint into the older slot; `good` when its last page passed. -/
def checkpoint (full good : Bool) (s : State) : State :=
  let y := s.fly
  let i : Fin 2 := ⟨y.ckGen % 2, Nat.mod_lt _ (by decide)⟩
  let rec_ := y.pages.filter fun p => p.ptype == 2 || p.ptype == 3 || p.ents.any fun e => e.bm
  let c : Ckpt := {
    full := full, gen := y.ckGen + 1, seq := y.nextSeq, pot := y.pot, blks := y.blks, live := y.live, bms := if full then y.bms else []
    recs := if full then [] else rec_.map fun p => (p.die, p.blk, p.page)
    bands := (y.bands.filter fun b => b.st == .opened).map fun b => b.num, consumed := false, good := good }
  s.modFly fun z => { z with ckGen := z.ckGen + 1, ckpts := z.ckpts.set i (some c) }

/-- The page at each write pointer a checkpoint records is erased (R410). -/
def Ckpt.current (c : Ckpt) (s : State) : Bool :=
  c.blks.all fun b => s.fly.blks.any fun x => x.die == b.die && x.num == b.num && x.fill == b.fill

def newerCkpt (a b : Option Ckpt) : Bool :=
  match a, b with | some x, some y => decide (y.gen < x.gen) | some _, none => true | _, _ => false

/-- The newest checkpoint, when it may be used (R410). -/
def usableCkpt (s : State) : Option (Fin 2 × Ckpt) :=
  let i : Fin 2 := if newerCkpt s.fly.ckpts[0] s.fly.ckpts[1] then 0 else 1
  match s.fly.ckpts[i] with
  | some c => if c.good && !c.consumed && c.current s then some (i, c) else none
  | none => none

/-- Whether a scan reads a page (R411): from a SHORT checkpoint those that its bitmaps mark and those of the bands that were open. -/
def scanReads (p : FPage) (s : State) : Bool :=
  s.bit F.FLY_DIE_IN_SERVICE p.die && match s.fly.ckUse.bind fun i => s.fly.ckpts[i] with
    | some c => c.recs.contains (p.die, p.blk, p.page) || c.bands.contains p.band || p.ents.any fun e => c.live.contains e.seq
    | none => true

/-- The entries a scan keeps (R411): good units, without those a generation or a FORMAT makes void. -/
def scanCand (s : State) : List FEntry :=
  let all := (s.fly.pages.filter fun p => p.ptype == 1 && scanReads p s).flatMap fun p => p.ents.filter fun e => e.kind != 7 && e.kind != 8
  let cand := all.foldl (fun (l : List FEntry) e => if l.any fun x => x.seq == e.seq then l else l ++ [e]) []
  let has := fun (q : Nat) => cand.any (fun x => x.seq == q) || isDestaged q s
  let unit := fun (e : FEntry) =>
    let u := e.pos / 256
    let first := e.seq - e.pos + u * 256
    (List.range (min 256 (e.len - u * 256))).all fun i => has (first + i)
  let fmt := fun (e : FEntry) => cand.any fun x => x.kind == 5 && x.nsid == e.nsid && decide (e.seq < x.seq)
  cand.filter fun e => unit e && e.gen == s.fly.nsgen.get e.nsid && !fmt e

/-- Whether every number of an entry's command is accounted for (R411). -/
def scanWhole (e : FEntry) (cand : List FEntry) (s : State) : Bool :=
  (List.range e.len).all fun i => cand.any (fun x => x.seq == e.seq - e.pos + i) || isDestaged (e.seq - e.pos + i) s

/-- The entries that are live after a scan: for each block, the entry of highest number that covers it, unless destaged. -/
def scanLive (cand : List FEntry) (s : State) : List FEntry :=
  let data := cand.filter fun e => e.isLiveKind
  data.filter fun e => !isDestaged e.seq s &&
    (List.range e.cnt).any fun i => !data.any fun x => x.nsid == e.nsid && decide (e.seq < x.seq) && decide (x.lba ≤ e.lba + i) && decide (e.lba + i < x.lba + x.cnt)

/-- The bookmarks a scan finds, the newest first, those past their window left out. -/
def scanMarks (cand : List FEntry) (s : State) : List Bookmark :=
  let bs := (s.fly.pages.flatMap fun p => p.bms) ++
    (cand.filter fun e => e.bm && scanWhole e cand s).map fun e =>
      e.bookmark (((s.fly.pages.find? fun p => p.ents.contains e).map fun p => p.pot).getD 0)
  let keep := bs.filter fun b => match s.ns b.nsid with | some v => decide (s.fly.pot < b.pot + v.window) && b.gen == s.fly.nsgen.get b.nsid | none => false
  (keep.foldl (fun (l : List Bookmark) b => (l.filter fun x => decide (b.pot < x.pot)) ++ b :: l.filter fun x => !decide (b.pot < x.pot)) []).take 1048576

/-- The erase counts after a start without a checkpoint: those that the headers of page 0 give; a block without a programmed page takes the
largest of its die (R411). -/
def scanErases (s : State) : State :=
  s.modFly fun y => { y with blks := y.blks.map fun b =>
    if (y.pages.any fun p => p.die == b.die && p.blk == b.num) then b
    else { b with erases := ((y.blks.filter fun x => x.die == b.die && y.pages.any fun p => p.die == x.die && p.blk == x.num).map fun x => x.erases).foldl max 0 } }

/-- The entries in the pages whose numbers are live. -/
def liveEntries (qs : List Nat) (s : State) : List FEntry :=
  ((s.fly.pages.flatMap fun p => p.ents).foldl (fun (l : List FEntry) e => if qs.contains e.seq && !l.any (fun x => x.seq == e.seq) then l ++ [e] else l) [])

/-! ### The warm level (R414) -/

/-- FLY accepts an offered line only when all of R414 holds. `load`: percent of the journal user ceiling in the last 1 ms. -/
def warmAccepts (load : Nat) (s : State) : Bool :=
  s.flag F.FLY_CFG_WARM_EN && s.get F.FLY_STAT_STATE == 2 && decide (wmHigh s ≤ flyFree s) && decide (load < s.get F.FLY_CFG_WARM_LOAD)

/-- FLY_WARM_OFFER: sixteen WARM entries, or a decline at once (R458). -/
def warmOffer (sn w load : Nat) (s : State) : State :=
  match s.way sn w with
  | none => s
  | some v =>
    if !v.offered then s
    else if warmAccepts load s then
      let es := (List.range 16).map fun i =>
        (⟨0, v.line * 16 + i, 1, v.nsid, s.fly.nsgen.get v.nsid, 7, false, false, i, 16, 0, 0, 0, 0, 0, waySector v i s, none⟩ : FEntry)
      let t := s.modFly fun y => { y with warmAcc := y.warmAcc + 1, warmPend := y.warmPend ++ [(v.nsid, v.line, 16, 0)] }
      flyPush false es t
    else offerEnd sn w false (s.modFly fun y => { y with warmDec := y.warmDec + 1 })

end Sys2Proof.Machine
end

