-- ==== Sys2Proof/Machine/Flags.lean ====
section
/-! DEFINITION. The arithmetic and flags of the Stitcher ALU (R147, R148), and the conditions of JMP, CALL and RET (R149). -/

namespace Sys2Proof.Machine

/-- Set Z and N from a result (R148). -/
def Stitcher.setZN (t : Stitcher) (v : W16) : Stitcher := { t with z := v == 0, n := v.msb }

/-- The result and the carry of ALU function `fn` on `a` and `b`; `cnt` is the count of SHLI and SHRI, `c` the carry
before (R148). -/
def aluResult (fn : BitVec 4) (a b : W16) (cnt : Nat) (c : Bool) : W16 × Bool :=
  let k := b.toNat % 16
  match fn.toNat with
  | 0x0 => (a + b, decide (65536 ≤ a.toNat + b.toNat))
  | 0x1 => (a - b, decide (b.toNat ≤ a.toNat))
  | 0x2 => (a &&& b, c)
  | 0x3 => (a ||| b, c)
  | 0x4 => (a ^^^ b, c)
  | 0x5 => (a <<< k, if k = 0 then c else a.getLsbD (16 - k))
  | 0x6 => (a >>> k, if k = 0 then c else a.getLsbD (k - 1))
  | 0x7 => (a.sshiftRight k, if k = 0 then c else a.getLsbD (k - 1))
  | 0x8 => (a <<< cnt, if cnt = 0 then c else a.getLsbD (16 - cnt))
  | 0x9 => (a >>> cnt, if cnt = 0 then c else a.getLsbD (cnt - 1))
  | 0xA => (a, c)
  | 0xB => (~~~a, c)
  | 0xC => (a - b, decide (b.toNat ≤ a.toNat))
  | 0xD => (a &&& b, c)
  | _ => (0, c)

/-- Whether an ALU function writes RD: all but CMP and TST (R148). -/
def aluWrites (fn : BitVec 4) : Bool := fn != 0xC && fn != 0xD

/-- Read a micro-register; r0 reads as zero (R155). -/
def Stitcher.reg (t : Stitcher) (i : Fin 32) : W16 := if i = 0 then 0 else t.r[i]

/-- Write a micro-register; writes to r0 are discarded (R155). -/
def Stitcher.setReg (t : Stitcher) (i : Fin 32) (v : W16) : Stitcher :=
  if i = 0 then t else { t with r := t.r.set i v }

/-- Whether condition COND holds (R149). -/
def Stitcher.condHolds (t : Stitcher) (cond : BitVec 6) : Bool :=
  match cond.toNat with
  | 0x00 => true
  | 0x01 => t.z
  | 0x02 => !t.z
  | 0x03 => t.n
  | 0x04 => !t.n
  | 0x05 => t.c
  | 0x06 => !t.c
  | 0x07 => t.c && !t.z
  | 0x08 => !t.c || t.z
  | 0x09 => t.prefetch.isSome
  | e => decide (0x20 ≤ e) && t.ev.getLsbD (e - 0x20)

end Sys2Proof.Machine
end

