-- ==== Sys2Proof/Machine/Operands.lean ====
section
/-! DEFINITION. The operand forms of the Stitcher: immediates, the ports of R152 that are read and written, and the path
actions the written ports start. -/

namespace Sys2Proof.Machine

/-- IMM14 sign-extended (R147). -/
def immS (i : BitVec 14) : W16 := i.signExtend 16

/-- IMM14 zero-extended (R147). -/
def immZ (i : BitVec 14) : W16 := i.zeroExtend 16

/-- The frame of the active trap level (R162). -/
def Stitcher.activeFrame (t : Stitcher) : Option Frame :=
  if t.frH.active then some t.frH else if t.frN.active then some t.frN else none

/-- Flags, WAITING, SP and VEC of a frame as port 0x2B and CHn.STITCH.FRAMENp order them: Z [0], N [1], C [2],
WAITING [3], SP [7:4], VEC [11:8] (DEDUCED: the places of FRAMENp counted from bit 13). -/
def frameFlags (f : Frame) : W16 :=
  BitVec.ofNat 16 (f.z.toNat + f.n.toNat * 2 + f.c.toNat * 4 + f.waiting.toNat * 8 + f.sp % 16 * 16 + f.vec.toNat * 256)

/-- Half-dword `h` of a descriptor (port 2d or 2d + 1, R152). -/
def descHalf (d : Desc) (h : Nat) : W16 :=
  BitVec.ofNat 16 ((descDw d (h / 2)).toNat / (if h % 2 = 0 then 1 else 65536))

/-- Whether a port reads from the current descriptor. -/
def portNeedsDesc (port : Nat) : Bool := decide (port < 0x18) || (decide (0x1C ≤ port) && decide (port ≤ 0x1E))

/-- The value of a port that reads (R152). `free`: what a descriptor port reads with no current descriptor, which the
spec leaves open. Ports 0x2A to 0x2C with no trap active, and the ports that are only written, read 0 (DESIGN CHOICE, log entry
69: the table gives them no value then). -/
def portRead (n : Ch) (p : Pa) (port : Nat) (free : W16) (s : State) : W16 :=
  let t := s.stit n p
  let q := s.pathSt n p
  let fr := t.activeFrame
  if portNeedsDesc port then
    match t.cur with
    | none => free
    | some d =>
      if port < 0x18 then descHalf d port
      else if port = 0x1C then BitVec.ofNat 16 (descTrack d p)
      else if port = 0x1D then BitVec.ofNat 16 (descTrack d p / 65536)
      else BitVec.ofNat 16 (descSurf d p)
  else
    match port with
    | 0x18 => t.wtrk.setWidth 16
    | 0x19 => BitVec.ofNat 16 (t.wtrk.toNat / 65536 + t.wtrkBad.toNat * 32768)
    | 0x1A => BitVec.ofNat 16 (t.wnum.toNat + t.wnumBad.toNat * 32768)
    | 0x1B => BitVec.ofNat 16 t.widx.toNat
    | 0x1F => BitVec.ofNat 16 (p.val + n.val * 4)
    | 0x22 =>
      match q.arm with
      | some a => if a.left = 0 then 0xFFFF else BitVec.ofNat 16 a.window
      | none => 0xFFFF
    | 0x25 => BitVec.ofNat 16 ((!q.fifo.isEmpty).toNat + (q.fifo.head? == some .good).toNat * 2)
    | 0x28 => t.tmask
    | 0x29 => t.tpend
    | 0x2A => match fr with | some f => f.rpc.zeroExtend 16 | none => 0
    | 0x2B => match fr with | some f => frameFlags f | none => 0
    | 0x2C => match fr with | some f => f.data | none => 0
    | 0x2D => BitVec.ofNat 16 t.stack.length
    | _ => 0

/-- Writing WFIFO starts fetching the sector into the write FIFO, which holds two sectors (R126). Written while a fetch runs, or
while the FIFO is full, it starts nothing (DESIGN CHOICE, log entry 69). -/
def startWfifo (n : Ch) (p : Pa) (s : State) : State :=
  s.modPath n p fun q => if q.wfFetch || decide (2 ≤ q.fifo.length) then q else { q with wfFetch := true }

/-- The write settings of a head and zone: at most four frames (R122). -/
def settingFrames (c : Chan) (h z : Nat) : List PaFrame :=
  match c.zt with
  | some zt => (((zt.wset.getD h []).getD z []).take 4).map fun x => ⟨false, x.1, x.2⟩
  | none => []

/-- The frame that selects a head; which address and data do it is the preamplifier's (R121, log entry 69). -/
def headFrame (h : Nat) : PaFrame := ⟨false, Config.paHeadAddr, BitVec.ofNat 16 h⟩

/-- Load an RWS field at an event its description names: shadow and value in force (R583). -/
def loadRws (f : Fld) (v : Nat) (s : State) : State :=
  let t := s.set f v
  { t with force := t.force.set f.key (t.regs.get f.key) }

/-- The RWS fields of a path (R583). -/
def rwsFields (n : Ch) (p : Pa) : List Fld :=
  [F.AFE_INCFG_CTLE_BOOST n p, F.AFE_WRCFG_PC1 n p, F.AFE_WRCFG_PC2 n p] ++
  (List.range 36).map fun i => F.DET_EQCOEF_COEF n p i

/-- The coefficient entry of a head and zone, or the zone default (R82). -/
def eqEntry (c : Chan) (h z : Nat) : List Nat :=
  match c.eqTbl.find? fun e => e.1 == h && e.2.1 == z with
  | some e => e.2.2
  | none => match zoneDflt c z with
    | some d => d.coefs
    | none => []

/-- A path changes zone: the zone defaults are loaded (R78, R123). -/
def loadZone (n : Ch) (p : Pa) (z : Nat) (s : State) : State :=
  match zoneDflt (s.chan n) z with
  | none => s
  | some d => loadRws (F.AFE_WRCFG_PC2 n p) d.pc2
      (loadRws (F.AFE_WRCFG_PC1 n p) d.pc1 (loadRws (F.AFE_INCFG_CTLE_BOOST n p) d.boost s))

/-- A path changes head or zone: the coefficient entry of the new head and zone is loaded (R82). -/
def loadCoefs (n : Ch) (p : Pa) (h z : Nat) (s : State) : State :=
  (s.modPath n p fun q => { q with loaded := some (h, z) }).each ((eqEntry (s.chan n) h z).zipIdx.take 36) fun e t =>
    loadRws (F.DET_EQCOEF_COEF n p e.2) e.1 t

/-- Writing FE_CTL powers the front end and requests the descriptor's zone, or powers it down (R80). With no current descriptor
there is no zone to request (DESIGN CHOICE, log entry 69). -/
def setFrontEnd (n : Ch) (p : Pa) (up : Bool) (s : State) : State :=
  if !up then s.modPath n p fun q => { q with fePower := false, zoneOk := false }
  else match (s.stit n p).cur with
    | none => s
    | some d =>
      let h := descSurf d p
      let z := descZone d
      let q := s.pathSt n p
      let same := q.zone == some z
      ((s.modPath n p fun q => { q with fePower := true, zone := some z, zoneOk := q.zoneOk && same }).when (!same) (loadZone n p z)).when
        (q.loaded != some (h, z)) (loadCoefs n p h z)

/-- Writing PA_CMD requests the preamplifier frames: head selection, and with `settings` the write settings (R121, R122, R152). With
no current descriptor there is no head to select (DESIGN CHOICE, log entry 69). -/
def sendPaCmd (n : Ch) (p : Pa) (settings : Bool) (s : State) : State :=
  match (s.stit n p).cur with
  | none => s
  | some d =>
    let fs := headFrame (descSurf d p) :: if settings then settingFrames (s.chan n) (descSurf d p) (descZone d) else []
    let t := ((selectHead n p (descSurf d p) s).modPath n p fun q => { q with pa := q.pa ++ fs }).modChan n fun c => { c with frames := fs }
    match (s.pathSt n p).zone with
    | some z => t.when ((s.pathSt n p).loaded != some (descSurf d p, z)) (loadCoefs n p (descSurf d p) z)
    | none => t

/-- Writing TMASK: bits 7 to 14 (R152, R161). -/
def writeTmask (n : Ch) (p : Pa) (v : W16) (s : State) : State := s.modStit n p fun t => { t with tmask := v &&& 0x7F80 }

/-- A write to a port (R152); reserved ports and reserved values are ignored. So is a write to a port that is only read, and ARM_SLOT
keeps the 11 bits of a slot index (DESIGN CHOICE, log entry 69). -/
def portWrite (n : Ch) (p : Pa) (port : Nat) (v : W16) (s : State) : State :=
  match port with
  | 0x20 => s.modStit n p fun t => { t with armSlot := v.setWidth 11 }
  | 0x21 => if h : v.toNat < 6 then armAction n p ⟨v.toNat, h⟩ s else s
  | 0x23 => if v = 1 then armCommit n p s else s
  | 0x24 => if v = 1 then startWfifo n p s else s
  | 0x26 => if v = 1 then sendPaCmd n p false s else if v = 3 then sendPaCmd n p true s else s
  | 0x27 => if v = 1 then setFrontEnd n p true s else if v = 0 then setFrontEnd n p false s else s
  | 0x28 => writeTmask n p v s
  | _ => s

end Sys2Proof.Machine
end

