-- ==== Sys2Proof/Machine/Stitch.lean ====
section
/-! DEFINITION. The Stitcher microsequencer (chapter 5): one microword per command, traps, the watchdog, descriptors handed
over, and the store. -/

namespace Sys2Proof.Machine

/-! ### The cycle -/

/-- One cycle of TIMER: it decrements while non-zero, and event TIMER latches when it reaches zero (R155). -/
def Stitcher.tick (t : Stitcher) : Stitcher :=
  let v := t.r[30]
  if v = 0 then t
  else
    let u := { t with r := t.r.set 30 (v - 1) }
    if v = 1 then u.latch 12 else u

/-- Whether Stitcher p is executing words: not waiting, not idle and not halted under R174. -/
def Stitcher.executing (t : Stitcher) : Bool := t.mode == .running

/-- CTL.HALT holds the Stitcher (chapter 5, CHn.STITCH.CTL). -/
def heldByHalt (n : Ch) (p : Pa) (s : State) : Bool := s.bit (F.STITCH_CTL_HALT n) p

/-- Whether trap v may be taken now (R160, R161). -/
def Stitcher.mayTake (t : Stitcher) (v : Nat) : Bool :=
  t.tpend.getLsbD v && t.enabled v && !t.frH.active && (decide (v < 7) || !t.frN.active)

/-- The trap that is taken: the lowest vector allowed (R161). -/
def Stitcher.nextTrap (t : Stitcher) : Option Nat := (List.range 16).find? t.mayTake

/-- A Stitcher executes the word at its address: it is running, CTL.HALT does not hold it, and no trap is to be taken before (R161). -/
def wordRuns (n : Ch) (p : Pa) (s : State) : Bool :=
  (s.stit n p).executing && !heldByHalt n p s && (s.stit n p).nextTrap.isNone

/-- A word of the current address takes one cycle: TIMER ticks, the next address is the one after, then the word acts. -/
def stitchCycle (n : Ch) (p : Pa) (f : State → State) (s : State) : State :=
  f (s.modStit n p fun t => { t.tick with pc := t.pc + 1 })

/-- A word command executes on a Stitcher that executes words; otherwise nothing happens. -/
def stitchWord (n : Ch) (p : Pa) (f : State → State) (s : State) : State :=
  if wordRuns n p s then stitchCycle n p f s else s

/-- Halt with a code (R174). -/
def stitchHalt (n : Ch) (p : Pa) (code : Nat) (s : State) : State :=
  (s.modStit n p fun t => { t with mode := .halted, hcode := BitVec.ofNat 8 code }).raise (chSrc n 6) p code code

/-- STORE_ERR, STACK_ERR or ILLEGAL (vectors 0 to 2): pending with its DATA, or halt code 0x80 within a level-H handler
(R159, R160). -/
def errTrap (n : Ch) (p : Pa) (v : Nat) (data : W16) (s : State) : State :=
  if (s.stit n p).frH.active then stitchHalt n p 0x80 s
  else s.modStit n p fun t => { t with tpend := setB t.tpend v, errData := data }

/-- The address of the word that is executing: the one before the next address. -/
def wordAddr (t : Stitcher) : W16 := (t.pc - 1).zeroExtend 16

/-! ### Words -/

def wordAlu (n : Ch) (p : Pa) (fn : BitVec 4) (rd ra rb : Fin 32) (s : State) : State :=
  s.modStit n p fun t =>
    let (v, c) := aluResult fn (t.reg ra) (t.reg rb) (rb.val % 16) t.c
    let u := { t.setZN v with c := c }
    if aluWrites fn then u.setReg rd v else u

/-- ADDI and CMPI set C as ADD and CMP do; LDI, ANDI and ORI leave it (R147, R148). -/
def wordAddi (n : Ch) (p : Pa) (rd : Fin 32) (imm : BitVec 14) (s : State) : State :=
  s.modStit n p fun t =>
    let (v, c) := aluResult 0 (t.reg rd) (immS imm) 0 t.c
    { t.setZN v with c := c }.setReg rd v

def wordLdi (n : Ch) (p : Pa) (rd : Fin 32) (imm : BitVec 14) (s : State) : State :=
  s.modStit n p fun t => (t.setZN (immS imm)).setReg rd (immS imm)

def wordAndi (n : Ch) (p : Pa) (rd : Fin 32) (imm : BitVec 14) (s : State) : State :=
  s.modStit n p fun t => let v := t.reg rd &&& immZ imm; (t.setZN v).setReg rd v

def wordOri (n : Ch) (p : Pa) (rd : Fin 32) (imm : BitVec 14) (s : State) : State :=
  s.modStit n p fun t => let v := t.reg rd ||| immZ imm; (t.setZN v).setReg rd v

def wordCmpi (n : Ch) (p : Pa) (rd : Fin 32) (imm : BitVec 14) (s : State) : State :=
  s.modStit n p fun t =>
    let (v, c) := aluResult 1 (t.reg rd) (immS imm) 0 t.c
    { t.setZN v with c := c }

def wordJmp (n : Ch) (p : Pa) (cond : BitVec 6) (target : BitVec 13) (s : State) : State :=
  s.modStit n p fun t => if t.condHolds cond then { t with pc := target } else t

/-- CALL: a full micro-stack raises STACK_ERR and the word is not carried out (R157). -/
def wordCall (n : Ch) (p : Pa) (cond : BitVec 6) (target : BitVec 13) (s : State) : State :=
  let t := s.stit n p
  if !t.condHolds cond then s
  else if 8 ≤ t.stack.length then errTrap n p 1 (wordAddr t) s
  else s.modStit n p fun t => { t with stack := t.pc :: t.stack, pc := target }

/-- The depth below which RET may not pop: the one saved in the active frame (R157). -/
def stackFloor (t : Stitcher) : Nat := match t.activeFrame with | some f => f.sp | none => 0

/-- RET: an empty stack, or one at the depth of the active frame, raises STACK_ERR (R157). -/
def wordRet (n : Ch) (p : Pa) (cond : BitVec 6) (s : State) : State :=
  let t := s.stit n p
  if !t.condHolds cond then s
  else match t.stack with
    | [] => errTrap n p 1 (wordAddr t) s
    | a :: r =>
      if t.stack.length ≤ stackFloor t then errTrap n p 1 (wordAddr t) s
      else s.modStit n p fun t => { t with stack := r, pc := a }

def wordLoop (n : Ch) (p : Pa) (lc : Fin 4) (target : BitVec 13) (s : State) : State :=
  s.modStit n p fun t =>
    if t.lc[lc] = 0 then t
    else
      let v := t.lc[lc] - 1
      let u := { t with lc := t.lc.set lc v }
      if v = 0 then u else { u with pc := target }

def wordSetlc (n : Ch) (p : Pa) (lc : Fin 4) (src : LcSrc) (s : State) : State :=
  s.modStit n p fun t =>
    let v := match src with | .imm v => v | .reg r => t.reg r
    { t with lc := t.lc.set lc v }

/-- IN: a descriptor port with no current descriptor reads an open value (DESIGN CHOICE: free). -/
def wordIn (n : Ch) (p : Pa) (r : Fin 32) (port : Byte) (s : State) : State :=
  let v := portRead n p port.toNat (s.fresh.setWidth 16) s
  let s1 := if portNeedsDesc port.toNat && (s.stit n p).cur.isNone then s.used else s
  s1.modStit n p fun t => t.setReg r v

def wordOut (n : Ch) (p : Pa) (r : Fin 32) (port : Byte) (s : State) : State :=
  portWrite n p port.toNat ((s.stit n p).reg r) s

def wordOuti (n : Ch) (p : Pa) (port : Byte) (imm : BitVec 11) (s : State) : State :=
  portWrite n p port.toNat (imm.zeroExtend 16) s

/-- WAIT (R151): CLR clears the latch first; a latched event completes the word and is consumed. -/
def wordWait (n : Ch) (p : Pa) (clr : Bool) (ev : Fin 32) (s : State) : State :=
  s.modStit n p fun t =>
    let u := if clr then { t with ev := clrB t.ev ev } else t
    if u.ev.getLsbD ev then { u with ev := clrB u.ev ev }
    else { u with mode := .waiting ev, pc := u.pc - 1 }

/-- A descriptor becomes current: the dispatch word is next and the watchdog starts (R147, R173). -/
def Stitcher.start (t : Stitcher) (d : Desc) : Stitcher :=
  { t with cur := some d, pc := BitVec.ofNat 13 (0x0010 + descCmd d), mode := .running, wd := 1 }

/-- Within a trap, FETCH discards both frames, the micro-stack, the latches of events 0x00 to 0x0C and 0x0F and every
pending trap but POWER_LOSS, PEER and DESC (R166). -/
def Stitcher.abandon (t : Stitcher) : Stitcher :=
  if t.activeFrame.isSome then
    { t with frN := Frame.none, frH := Frame.none, stack := [], ev := t.ev &&& 0x6000, tpend := t.tpend &&& 0x6008 }
  else t

/-- FETCH takes the prefetched descriptor, else one handed over, else waits (R147, R171). -/
def wordFetch (n : Ch) (p : Pa) (s : State) : State :=
  s.modStit n p fun t =>
    let u := { t.abandon with cur := none, wd := 0 }
    match u.prefetch with
    | some d => { u with prefetch := none }.start d
    | none =>
      match u.handed with
      | d :: r => { u with handed := r }.start d
      | [] => { u with mode := .idle, pc := u.pc - 1 }

def wordPrefetch (n : Ch) (p : Pa) (s : State) : State := s.modStit n p fun t => { t with wantPre := true }

/-- The result word that DONE reports (R147). -/
def doneWord (t : Stitcher) : Nat := (t.reg 28).toNat + (t.reg 29).toNat % 16 * 65536

/-- DONE (R168): the result goes to the work item of the current descriptor; END ends the path's part and stops the
watchdog, and the idle head is held where it is (R184); ABT keeps the word in ABTRESp. -/
def wordDone (n : Ch) (p : Pa) (abt fin : Bool) (s : State) : State :=
  let t := s.stit n p
  let w := doneWord t
  let s1 := match t.cur with
    | none => s
    | some d => s.modSched n fun c => { c with ring := modItem (descTag d) (fun i =>
        { i with res := i.res.set p (some w), ended := i.ended.set p (i.ended[p] || fin),
                 abt := i.abt.set p (i.abt[p] || abt) }) c.ring }
  (s1.when (fin && t.cur.isSome) (holdHead n p)).modStit n p fun t =>
    let u := { t with lastAbt := abt, abtRes := if abt then BitVec.ofNat 20 w else t.abtRes }
    if fin then { u with cur := none, wd := 0 } else u

/-- Return from a frame (R164). -/
def Stitcher.unwind (t : Stitcher) (f : Frame) : Stitcher :=
  { t with z := f.z, n := f.n, c := f.c, pc := f.rpc, stack := t.stack.drop (t.stack.length - f.sp) }

/-- MRET takes two cycles and returns from the active level (R164). With no trap active the spec gives it nothing to
restore: the next word follows (DESIGN CHOICE). -/
def wordMret (n : Ch) (p : Pa) (s : State) : State :=
  s.modStit n p fun t0 =>
    let t := t0.tick
    if t.frH.active then { t.unwind t.frH with frH := Frame.none }
    else if t.frN.active then { t.unwind t.frN with frN := Frame.none }
    else t

/-- TRAP raises SOFT with CODE; while a trap is active it is ILLEGAL (R159). -/
def wordTrap (n : Ch) (p : Pa) (code : BitVec 4) (s : State) : State :=
  let t := s.stit n p
  if t.activeFrame.isSome then errTrap n p 2 (wordAddr t) s
  else s.modStit n p fun t => { t with tpend := setB t.tpend 15, softData := code.zeroExtend 16 }

/-- SIGNAL latches PEER in each Stitcher of MASK other than itself (R147). -/
def wordSignal (n : Ch) (p : Pa) (mask : BitVec 4) (s : State) : State :=
  s.each allPaths fun q u =>
    if q ≠ p ∧ mask.getLsbD q then u.modStit n q fun t => { t with peers := setB t.peers p }.latch 13 else u

def wordHalt (n : Ch) (p : Pa) (code : BitVec 7) (s : State) : State := stitchHalt n p code.toNat s

/-- A reserved operation or function takes the ILLEGAL trap (R145, R147, R148). -/
def wordReserved (n : Ch) (p : Pa) (s : State) : State := errTrap n p 2 (wordAddr (s.stit n p)) s

/-- The effect of a decoded word (R147). -/
def wordMicro (n : Ch) (p : Pa) (m : Micro) (s : State) : State :=
  match m with
  | .alu fn rd ra rb => wordAlu n p fn rd.toFin ra.toFin rb.toFin s
  | .addi rd i => wordAddi n p rd.toFin i s
  | .ldi rd i => wordLdi n p rd.toFin i s
  | .andi rd i => wordAndi n p rd.toFin i s
  | .ori rd i => wordOri n p rd.toFin i s
  | .cmpi rd i => wordCmpi n p rd.toFin i s
  | .jmp c t => wordJmp n p c t s
  | .call c t => wordCall n p c t s
  | .ret c => wordRet n p c s
  | .loop l t => wordLoop n p l.toFin t s
  | .setlcImm l v => wordSetlc n p l.toFin (.imm v) s
  | .setlcReg l r => wordSetlc n p l.toFin (.reg r.toFin) s
  | .inp r q => wordIn n p r.toFin q s
  | .outp r q => wordOut n p r.toFin q s
  | .outi q i => wordOuti n p q i s
  | .wait c e => wordWait n p c e.toFin s
  | .fetch => wordFetch n p s
  | .prefetch => wordPrefetch n p s
  | .done a f => wordDone n p a f s
  | .mret => wordMret n p s
  | .trap c => wordTrap n p c s
  | .signal k => wordSignal n p k s
  | .halt c => wordHalt n p c s
  | .reserved _ => wordReserved n p s

/-! ### Traps taken -/

/-- DATA of the frame of trap v (R159). -/
def trapData (n : Ch) (p : Pa) (v : Nat) (s : State) : W16 :=
  let t := s.stit n p
  match v with
  | 0 | 1 | 2 => t.errData
  | 4 => t.abtTag
  | 5 => t.wrCode
  | 7 => t.lateAct
  | 8 => portRead n p 0x1A 0 s
  | 9 => t.syncFlags
  | 10 => BitVec.ofNat 16 (s.get (F.DET_SSTAT_FREE n p))
  | 11 => t.reg 28
  | 13 => t.peers.zeroExtend 16
  | 14 => match t.prefetch with | some d => BitVec.ofNat 16 (descCmd d) | none => 0
  | 15 => t.softData
  | _ => 0

/-- The event whose latch a trap's entry clears (R164). -/
def trapEvent (v : Nat) : Option Nat :=
  match v with
  | 4 => some 15 | 5 => some 9 | 7 => some 10 | 8 => some 0 | 9 => some 6 | 10 => some 11 | 11 => some 8
  | 12 => some 12 | 13 => some 13 | 14 => some 14 | _ => none

/-- Taking trap v (R162, R163): the frame of its level saves where MRET resumes, the flags, WAITING, the stack depth, the
vector and DATA; the next address is the vector. One cycle passes in which no word executes. -/
def takeTrap (n : Ch) (p : Pa) (v : Nat) (s : State) : State :=
  let data := trapData n p v s
  s.modStit n p fun t =>
    let waiting := match t.mode with | .waiting _ => true | .idle => true | _ => false
    let f : Frame := ⟨t.pc, t.z, t.n, t.c, waiting, t.stack.length, BitVec.ofNat 4 v, data, true⟩
    let u := { t with mode := .running, pc := BitVec.ofNat 13 v, tpend := clrB t.tpend v,
                      peers := if v = 13 then 0 else t.peers,
                      ev := match trapEvent v with | some e => clrB t.ev e | none => t.ev }
    (if v < 7 then { u with frH := f } else { u with frN := f }).tick

/-- STITCH_TRAP_TAKEN (R160 to R163): at a word boundary the lowest trap allowed is taken. -/
def trapTaken (n : Ch) (p : Pa) (s : State) : State :=
  let t := s.stit n p
  if t.mode = .halted ∨ heldByHalt n p s then s
  else match t.nextTrap with
    | some v => takeTrap n p v s
    | none => s

/-! ### Watchdog, descriptors, abort -/

/-- First expiry: trap 6 (R173). -/
def watchdogExpire (n : Ch) (p : Pa) (s : State) : State :=
  if (s.stit n p).wd = 1 then s.modStit n p fun t => { t with wd := 2, tpend := setB t.tpend 6 } else s

/-- Second expiry: halt code 0x81 (R173). -/
def watchdogHalt (n : Ch) (p : Pa) (s : State) : State :=
  if (s.stit n p).wd = 2 then stitchHalt n p 0x81 (s.modStit n p fun t => { t with wd := 0 }) else s

/-- TIMER reaches zero while no word executes (R155). -/
def timerExpire (n : Ch) (p : Pa) (s : State) : State :=
  s.modStit n p fun t => if t.r[30] = 0 then t else { t with r := t.r.set 30 0 }.latch 12

/-- Hand a descriptor to a Stitcher: one idle in FETCH starts it (R168). -/
def handDesc (n : Ch) (d : Desc) (p : Pa) (s : State) : State :=
  s.modStit n p fun t => if t.mode = .idle then t.start d else { t with handed := t.handed ++ [d] }

/-- The first descriptor handed over that has a tag, and the others. -/
def takeTagged (tag : W16) : List Desc → Option Desc × List Desc
  | [] => (none, [])
  | d :: r => if descTag d = tag then (some d, r) else
    let (a, b) := takeTagged tag r
    (a, d :: b)

/-- The item of a tag that the scheduler has chosen for a path and not yet sought (R171). -/
def chosenItem (n : Ch) (p : Pa) (tag : W16) (s : State) : Option Item :=
  match findItem tag (s.chan n).sched.ring with
  | some i => if i.taken && !i.sought && descEn i.desc p && !i.ended[p] then some i else none
  | none => none

/-- Whether a Stitcher holds a descriptor with a tag: current, prefetched or handed over. -/
def Stitcher.holds (t : Stitcher) (tag : W16) : Bool :=
  (t.cur.toList ++ t.prefetch.toList ++ t.handed).any fun d => descTag d == tag

/-- The scheduler places the next descriptor for the path, which it has chosen or handed over, in the prefetch buffer that PREFETCH
asked for; DESC latches (R171). -/
def prefetchDeliver (n : Ch) (p : Pa) (tag : W16) (s : State) : State :=
  let t := s.stit n p
  if !t.wantPre ∨ t.prefetch.isSome then s
  else match takeTagged tag t.handed with
    | (some d, r) =>
      s.modStit n p fun t => { t with handed := r, prefetch := some d, wantPre := false }.latch 14
    | (none, _) => match chosenItem n p tag s with
      | some i => if t.holds tag then s else s.modStit n p fun t => { t with prefetch := some i.desc, wantPre := false }.latch 14
      | none => s

/-- Withdrawal empties the buffer without a trap; the scheduler holds the descriptor again (R171). One whose seek has begun is handed
over again; one that no Stitcher holds any more may be passed over for other work. -/
def prefetchWithdraw (n : Ch) (p : Pa) (s : State) : State :=
  match (s.stit n p).prefetch with
  | none => s
  | some d =>
    let s1 := s.modStit n p fun t => { t with prefetch := none }
    match findItem (descTag d) (s.chan n).sched.ring with
    | none => s1
    | some i =>
      if i.sought then s1.modStit n p fun t => { t with handed := d :: t.handed }
      else if allPaths.any fun q => (s1.stit n q).holds (descTag d) then s1
      else s1.modSched n fun c => { c with ring := modItem (descTag d) (fun j => { j with taken := false }) c.ring }

/-- An abort of a work item reaches the Stitchers whose current descriptor carries the tag as event ABORT; elsewhere the
descriptor is withdrawn (R172). -/
def abortTag (n : Ch) (tag : W16) (s : State) : State :=
  let hit (t : Stitcher) : Bool := match t.cur with | some d => descTag d == tag | none => false
  let s1 := s.each allPaths fun p u =>
    u.modStit n p fun t =>
      if hit t then (if t.ev.getLsbD 15 then t else { t with abtTag := tag }.latch 15)
      else { t with prefetch := (match t.prefetch with | some d => if descTag d = tag then none else some d | none => none),
                    handed := t.handed.filter fun d => descTag d != tag }
  if allPaths.any fun p => hit (s.stit n p) then s1
  else s1.modSched n fun c => { c with ring := c.ring.filter fun i => descTag i.desc != tag }

/-! ### The store (R143, R175 to R180) -/

/-- The store word at an address. -/
def storeWord (n : Ch) (a : BitVec 13) (s : State) : W24 := BitVec.ofNat 24 (s.store[n].get a.toNat)

end Sys2Proof.Machine

namespace Sys2Proof

open Machine

/-- The little-endian field of `k` bytes at an offset of a segment (R175). -/
def Segment.field (g : Segment) (ofs k : Nat) : Nat := ofBytesLe (((g.bytes.drop ofs).take k).map BitVec.toNat)

def Segment.magic (g : Segment) : Nat := g.field 0x000 4
def Segment.type (g : Segment) : Nat := g.field 0x004 2
def Segment.key (g : Segment) : Nat := g.field 0x006 2
def Segment.baseVer (g : Segment) : Nat := g.field 0x008 2
def Segment.patch (g : Segment) : Nat := g.field 0x00A 1
def Segment.chanMask (g : Segment) : Nat := g.field 0x00B 1
def Segment.start (g : Segment) : Nat := g.field 0x00C 2
def Segment.count (g : Segment) : Nat := g.field 0x00E 2

/-- The word array of a segment. -/
def Segment.array (g : Segment) : List Nat := ((g.bytes.drop 0x0A0).take (4 * g.count)).map BitVec.toNat

/-- HASH is the SHA-384 of the word array (R175). -/
def Segment.hashOk (g : Segment) : Bool := ((g.bytes.drop 0x010).take 48).map BitVec.toNat == sha384 g.array

/-- The microwords of a segment: bits [23:0] of each four bytes. -/
def Segment.words (g : Segment) : List Nat :=
  (List.range g.count).map fun i => ofBytesLe ((g.array.drop (4 * i)).take 4) % 16777216

end Sys2Proof

namespace Sys2Proof.Machine

/-- The first reason of R177 for which a base segment is rejected. -/
def baseReject (g : Segment) : Option Nat :=
  if g.magic ≠ 0x5C1D0E08 ∨ g.type ≠ 1 ∨ g.key ≠ 0 then some 0x01
  else if !g.sigOk then some 0x02
  else if !g.hashOk then some 0x03
  else if g.start ≠ 0 ∨ g.count < 0x0111 ∨ 8192 < g.count then some 0x06
  else none

/-- The first reason of R177 for which a patch segment is rejected, given the base version and the level applied. -/
def patchReject (ver lvl : Nat) (g : Segment) : Option Nat :=
  if g.magic ≠ 0x5C1D0E08 ∨ g.type ≠ 2 ∨ (g.key ≠ 0 ∧ g.key ≠ 1) then some 0x01
  else if !g.sigOk then some 0x02
  else if !g.hashOk then some 0x03
  else if g.baseVer ≠ ver then some 0x04
  else if g.patch ≤ lvl then some 0x05
  else if g.count < 1 ∨ 512 < g.count ∨ 8192 < g.start + g.count then some 0x06
  else none

/-- Loading stops at the first rejected segment: CODE, SEG and the fault source (R176, R177). -/
def rejectLoad (n : Ch) (code seg : Nat) (s : State) : State :=
  ((s.set (F.STITCH_LOADSTAT_CODE n) code).set (F.STITCH_LOADSTAT_SEG n) seg).raise (chSrc n 7) 0xFFFF code
    (code + seg * 256)

def putWords (n : Ch) (g : Segment) (s : State) : State :=
  { s with store := s.store.set n (s.store[n].setMany g.start g.words) }

/-- VERSION after a base segment: the version, authenticated and loaded, or nothing loaded. -/
def setVersion (n : Ch) (ver : Nat) (loaded : Bool) (s : State) : State :=
  (((s.set (F.STITCH_VERSION_BASE_VER n) ver).set (F.STITCH_VERSION_PATCH_LEVEL n) 0).setFlag
    (F.STITCH_VERSION_AUTH n) loaded).setFlag (F.STITCH_VERSION_LOADED n) loaded

/-- Apply segments in order, `i` the index of the first (R176). A segment whose words fail the read-back check is not applied: a base
leaves the cleared store, a patch the store before it. -/
def loadSegs (n : Ch) (i : Nat) (base : Bool) : List Segment → State → State
  | [], s => s.set (F.STITCH_LOADSTAT_CODE n) 0
  | g :: r, s =>
    if !g.chanMask.testBit n then loadSegs n (i + 1) base r s
    else if base then
      match baseReject g with
      | some c => rejectLoad n c i s
      | none =>
        let s1 : State := { s with store := s.store.set n NatMap.empty }
        if g.readBack then loadSegs n (i + 1) false r (setVersion n g.baseVer true (putWords n g s1))
        else rejectLoad n 0x08 i (setVersion n 0 false s1)
    else
      match patchReject (s.get (F.STITCH_VERSION_BASE_VER n)) (s.get (F.STITCH_VERSION_PATCH_LEVEL n)) g with
      | some c => rejectLoad n c i s
      | none =>
        if g.readBack then loadSegs n (i + 1) false r ((putWords n g s).set (F.STITCH_VERSION_PATCH_LEVEL n) g.patch)
        else rejectLoad n 0x08 i s

/-- The CHn_DET domain, which holds the store, is powered. -/
def detPowered (n : Ch) (s : State) : Bool := s.bit (F.PWR_DOMSTAT_ON 0) (4 * n.val + 1)

/-- MGMT loads the store of channel n once CHn_DET is powered; while the channel is enabled the load is refused with 0x07 (R176, R178). -/
def storeLoad (n : Ch) (segs : List Segment) (s : State) : State :=
  if s.flag (F.PAGE_ENABLE_EN n) then rejectLoad n 0x07 0 s
  else if detPowered n s then loadSegs n 0 true segs s
  else s

/-! ### Meanings of the Stitcher commands -/

def execAluAdd (n : Ch) (p : Pa) (rd ra rb : Fin 32) (s : State) : Host.Outcome State Fault Refusal :=
  .next (stitchWord n p (wordAlu n p 0x0 rd ra rb) s)

def execAluSub (n : Ch) (p : Pa) (rd ra rb : Fin 32) (s : State) : Host.Outcome State Fault Refusal :=
  .next (stitchWord n p (wordAlu n p 0x1 rd ra rb) s)

def execAluAnd (n : Ch) (p : Pa) (rd ra rb : Fin 32) (s : State) : Host.Outcome State Fault Refusal :=
  .next (stitchWord n p (wordAlu n p 0x2 rd ra rb) s)

def execAluOr (n : Ch) (p : Pa) (rd ra rb : Fin 32) (s : State) : Host.Outcome State Fault Refusal :=
  .next (stitchWord n p (wordAlu n p 0x3 rd ra rb) s)

def execAluXor (n : Ch) (p : Pa) (rd ra rb : Fin 32) (s : State) : Host.Outcome State Fault Refusal :=
  .next (stitchWord n p (wordAlu n p 0x4 rd ra rb) s)

def execAluShl (n : Ch) (p : Pa) (rd ra rb : Fin 32) (s : State) : Host.Outcome State Fault Refusal :=
  .next (stitchWord n p (wordAlu n p 0x5 rd ra rb) s)

def execAluShr (n : Ch) (p : Pa) (rd ra rb : Fin 32) (s : State) : Host.Outcome State Fault Refusal :=
  .next (stitchWord n p (wordAlu n p 0x6 rd ra rb) s)

def execAluAsr (n : Ch) (p : Pa) (rd ra rb : Fin 32) (s : State) : Host.Outcome State Fault Refusal :=
  .next (stitchWord n p (wordAlu n p 0x7 rd ra rb) s)

def execAluShli (n : Ch) (p : Pa) (rd ra : Fin 32) (cnt : Fin 16) (s : State) : Host.Outcome State Fault Refusal :=
  .next (stitchWord n p (wordAlu n p 0x8 rd ra (Fin.ofNat 32 cnt.val)) s)

def execAluShri (n : Ch) (p : Pa) (rd ra : Fin 32) (cnt : Fin 16) (s : State) : Host.Outcome State Fault Refusal :=
  .next (stitchWord n p (wordAlu n p 0x9 rd ra (Fin.ofNat 32 cnt.val)) s)

def execAluMov (n : Ch) (p : Pa) (rd ra : Fin 32) (s : State) : Host.Outcome State Fault Refusal :=
  .next (stitchWord n p (wordAlu n p 0xA rd ra 0) s)

def execAluNot (n : Ch) (p : Pa) (rd ra : Fin 32) (s : State) : Host.Outcome State Fault Refusal :=
  .next (stitchWord n p (wordAlu n p 0xB rd ra 0) s)

def execAluCmp (n : Ch) (p : Pa) (ra rb : Fin 32) (s : State) : Host.Outcome State Fault Refusal :=
  .next (stitchWord n p (wordAlu n p 0xC 0 ra rb) s)

def execAluTst (n : Ch) (p : Pa) (ra rb : Fin 32) (s : State) : Host.Outcome State Fault Refusal :=
  .next (stitchWord n p (wordAlu n p 0xD 0 ra rb) s)

def execAddi (n : Ch) (p : Pa) (rd : Fin 32) (imm : BitVec 14) (s : State) : Host.Outcome State Fault Refusal :=
  .next (stitchWord n p (wordAddi n p rd imm) s)

def execLdi (n : Ch) (p : Pa) (rd : Fin 32) (imm : BitVec 14) (s : State) : Host.Outcome State Fault Refusal :=
  .next (stitchWord n p (wordLdi n p rd imm) s)

def execAndi (n : Ch) (p : Pa) (rd : Fin 32) (imm : BitVec 14) (s : State) : Host.Outcome State Fault Refusal :=
  .next (stitchWord n p (wordAndi n p rd imm) s)

def execOri (n : Ch) (p : Pa) (rd : Fin 32) (imm : BitVec 14) (s : State) : Host.Outcome State Fault Refusal :=
  .next (stitchWord n p (wordOri n p rd imm) s)

def execCmpi (n : Ch) (p : Pa) (rd : Fin 32) (imm : BitVec 14) (s : State) : Host.Outcome State Fault Refusal :=
  .next (stitchWord n p (wordCmpi n p rd imm) s)

def execJmp (n : Ch) (p : Pa) (cond : BitVec 6) (target : BitVec 13) (s : State) : Host.Outcome State Fault Refusal :=
  .next (stitchWord n p (wordJmp n p cond target) s)

def execCall (n : Ch) (p : Pa) (cond : BitVec 6) (target : BitVec 13) (s : State) : Host.Outcome State Fault Refusal :=
  .next (stitchWord n p (wordCall n p cond target) s)

def execRet (n : Ch) (p : Pa) (cond : BitVec 6) (s : State) : Host.Outcome State Fault Refusal :=
  .next (stitchWord n p (wordRet n p cond) s)

def execLoop (n : Ch) (p : Pa) (lc : Fin 4) (target : BitVec 13) (s : State) : Host.Outcome State Fault Refusal :=
  .next (stitchWord n p (wordLoop n p lc target) s)

def execSetlc (n : Ch) (p : Pa) (lc : Fin 4) (src : LcSrc) (s : State) : Host.Outcome State Fault Refusal :=
  .next (stitchWord n p (wordSetlc n p lc src) s)

def execPortIn (n : Ch) (p : Pa) (r : Fin 32) (port : Byte) (s : State) : Host.Outcome State Fault Refusal :=
  .next (stitchWord n p (wordIn n p r port) s)

def execPortOut (n : Ch) (p : Pa) (r : Fin 32) (port : Byte) (s : State) : Host.Outcome State Fault Refusal :=
  .next (stitchWord n p (wordOut n p r port) s)

def execPortOuti (n : Ch) (p : Pa) (port : Byte) (imm : BitVec 11) (s : State) : Host.Outcome State Fault Refusal :=
  .next (stitchWord n p (wordOuti n p port imm) s)

def execArmCancel (n : Ch) (p : Pa) (s : State) : Host.Outcome State Fault Refusal :=
  .next (stitchWord n p (armAction n p 0) s)

def execArmCapture (n : Ch) (p : Pa) (s : State) : Host.Outcome State Fault Refusal :=
  .next (stitchWord n p (armAction n p 1) s)

def execArmWrite (n : Ch) (p : Pa) (s : State) : Host.Outcome State Fault Refusal :=
  .next (stitchWord n p (armAction n p 2) s)

def execArmVerify (n : Ch) (p : Pa) (s : State) : Host.Outcome State Fault Refusal :=
  .next (stitchWord n p (armAction n p 3) s)

def execArmScan (n : Ch) (p : Pa) (s : State) : Host.Outcome State Fault Refusal :=
  .next (stitchWord n p (armAction n p 4) s)

def execArmRaw (n : Ch) (p : Pa) (s : State) : Host.Outcome State Fault Refusal :=
  .next (stitchWord n p (armAction n p 5) s)

def execPortCommit (n : Ch) (p : Pa) (s : State) : Host.Outcome State Fault Refusal :=
  .next (stitchWord n p (armCommit n p) s)

def execPortWfifoStart (n : Ch) (p : Pa) (s : State) : Host.Outcome State Fault Refusal :=
  .next (stitchWord n p (startWfifo n p) s)

def execPortPaCmd (n : Ch) (p : Pa) (settings : Bool) (s : State) : Host.Outcome State Fault Refusal :=
  .next (stitchWord n p (sendPaCmd n p settings) s)

def execPortFeCtl (n : Ch) (p : Pa) (up : Bool) (s : State) : Host.Outcome State Fault Refusal :=
  .next (stitchWord n p (setFrontEnd n p up) s)

def execPortTmaskWrite (n : Ch) (p : Pa) (v : W16) (s : State) : Host.Outcome State Fault Refusal :=
  .next (stitchWord n p (writeTmask n p v) s)

def execWait (n : Ch) (p : Pa) (clr : Bool) (ev : Fin 32) (s : State) : Host.Outcome State Fault Refusal :=
  .next (stitchWord n p (wordWait n p clr ev) s)

def execFetch (n : Ch) (p : Pa) (s : State) : Host.Outcome State Fault Refusal :=
  .next (stitchWord n p (wordFetch n p) s)

def execPrefetch (n : Ch) (p : Pa) (s : State) : Host.Outcome State Fault Refusal :=
  .next (stitchWord n p (wordPrefetch n p) s)

def execDone (n : Ch) (p : Pa) (abt fin : Bool) (s : State) : Host.Outcome State Fault Refusal :=
  .next (stitchWord n p (wordDone n p abt fin) s)

def execMret (n : Ch) (p : Pa) (s : State) : Host.Outcome State Fault Refusal :=
  .next (stitchWord n p (wordMret n p) s)

def execTrap (n : Ch) (p : Pa) (code : BitVec 4) (s : State) : Host.Outcome State Fault Refusal :=
  .next (stitchWord n p (wordTrap n p code) s)

def execSignal (n : Ch) (p : Pa) (mask : BitVec 4) (s : State) : Host.Outcome State Fault Refusal :=
  .next (stitchWord n p (wordSignal n p mask) s)

def execHalt (n : Ch) (p : Pa) (code : BitVec 7) (s : State) : Host.Outcome State Fault Refusal :=
  .next (stitchWord n p (wordHalt n p code) s)

/-- A word with a reserved OP or FN (R145). A word that decodes to a defined operation is executed as that operation. -/
def execReservedOperation (n : Ch) (p : Pa) (w : W24) (s : State) : Host.Outcome State Fault Refusal :=
  .next (stitchWord n p (wordMicro n p (decodeMicro w)) s)

def execStitchTrapTaken (n : Ch) (p : Pa) (s : State) : Host.Outcome State Fault Refusal := .next (trapTaken n p s)

def execStitchTimerExpire (n : Ch) (p : Pa) (s : State) : Host.Outcome State Fault Refusal := .next (timerExpire n p s)

def execStitchWatchdogExpire (n : Ch) (p : Pa) (s : State) : Host.Outcome State Fault Refusal :=
  .next (watchdogExpire n p s)

def execStitchWatchdogHalt (n : Ch) (p : Pa) (s : State) : Host.Outcome State Fault Refusal :=
  .next (watchdogHalt n p s)

def execDescPrefetchDeliver (n : Ch) (p : Pa) (tag : W16) (s : State) : Host.Outcome State Fault Refusal :=
  .next (prefetchDeliver n p tag s)

def execDescPrefetchWithdraw (n : Ch) (p : Pa) (s : State) : Host.Outcome State Fault Refusal :=
  .next (prefetchWithdraw n p s)

def execWorkItemAbort (n : Ch) (tag : W16) (s : State) : Host.Outcome State Fault Refusal := .next (abortTag n tag s)

def execStoreSegmentLoad (n : Ch) (segs : List Segment) (s : State) : Host.Outcome State Fault Refusal :=
  .next (storeLoad n segs s)

end Sys2Proof.Machine
end

