-- ==== Sys2Proof/Machine/Disp.lean ====
section
/-! DEFINITION. The work dispatcher (R19 to R24, R353 to R361, R368): versions of the write buffer, the lookup of a read, the
placing of media work, destage, acceptance and failure of writes, and the withdrawal of a command's work. -/

namespace Sys2Proof

/-- The request stamp of a command: dword 2 and the low half of dword 3 (R326). -/
def Sqe.stamp (e : Sqe) : Nat := e.cdw2.toNat + e.cdw3.toNat % 65536 * 4294967296

end Sys2Proof

namespace Sys2Proof.Machine

/-! ### Versions of the write buffer (R355, R400) -/

def WbVer.covers (w : WbVer) (nsid a : Nat) : Bool := w.nsid == nsid && decide (w.lba ≤ a) && decide (a < w.lba + w.cnt)
def WbVer.overlaps (w u : WbVer) : Bool := w.nsid == u.nsid && decide (w.lba < u.lba + u.cnt) && decide (u.lba < w.lba + w.cnt)

/-- `u` wholly replaces `w`. -/
def WbVer.replaces (u w : WbVer) : Bool :=
  u.nsid == w.nsid && decide (w.k < u.k) && decide (u.lba ≤ w.lba) && decide (w.lba + w.cnt ≤ u.lba + u.cnt)

/-- The version of highest fetch number. -/
def newestVer : List WbVer → Option WbVer
  | [] => none
  | w :: r => match newestVer r with
    | some u => if w.k < u.k then some u else some w
    | none => some w

/-- The version a command fetched as `k` takes for a block: the newest whose write was fetched before it. -/
def versionFor (k nsid a : Nat) (s : State) : Option WbVer := newestVer (s.host.wb.filter fun w => w.covers nsid a && decide (w.k < k))

def State.modVers (s : State) (k : Nat) (f : WbVer → WbVer) : State :=
  s.modHost fun h => { h with wb := h.wb.map fun w => if w.k == k then f w else w }

/-- The versions of a write leave the write buffer. -/
def dropVers (k : Nat) (s : State) : State := s.modHost fun h => { h with wb := h.wb.filter fun w => w.k != k }

/-! ### Gathering places (R423, R430 to R432, R437) -/

def State.layout (s : State) (l : Fin 4) : Layout := s.gath.lay[l]
def State.modLayout (s : State) (l : Fin 4) (f : Layout → Layout) : State :=
  { s with gath := { s.gath with lay := s.gath.lay.set l (f s.gath.lay[l]) } }
def layoutOf (v : Ns) : Fin 4 := ⟨(v.place - 0x80) % 4, Nat.mod_lt _ (by decide)⟩

/-- A channel of a layout that the layout does not use now. An UNAVAILABLE channel that is enabled again is used, but for the
strips marked stale (R432). -/
def gathMissing (l c : Nat) (s : State) : Bool :=
  s.bit (F.GATH_LSTAT_LOST l) c || (s.bit (F.GATH_LSTAT_UNAVAIL l) c && !chanReady (chOf c) s) || chanAbsent (chOf c) s || chanFailed (chOf c) s

/-- The spare slots of a channel for rebuild, in an order of the model's own (DESIGN CHOICE, log entry 12). -/
def spareSlots (n : Ch) (s : State) : List SlotId :=
  match (s.chan n).zt with
  | none => []
  | some z =>
    let r := reservedSpare n s
    (List.range 32).flatMap fun zn => (List.range z.surfaces).flatMap fun sf =>
      (List.range (min r (z.spareOf sf zn))).flatMap fun t =>
        ((List.range (z.spt zn)).map fun i => (⟨sf, z.zoneEnd sf zn - min r (z.spareOf sf zn) + t, i⟩ : SlotId)).filter fun x => !isSkipped (s.chan n) z x

/-- The slot of block `o` of spare strip `x`. -/
def spareSlot (n : Ch) (x o : Nat) (s : State) : Option SlotId := (spareSlots n s)[64 * x + o]?

/-- Where block `o` of strip `i` of a stripe is read or written now: channel, channel block, fixed slot; none while missing. -/
def gathSpot (l : Fin 4) (st i o : Nat) (s : State) : Option (Nat × Nat × Option SlotId) :=
  match (s.layout l).rebuilt.find? fun r => r.1 == st && r.2.1 == i with
  | some r => if gathMissing l r.2.2.1 s then none else (spareSlot (chOf r.2.2.1) r.2.2.2 o s).map fun x => (r.2.2.1, 0, some x)
  | none =>
    let c := stripAt l st i s
    if gathMissing l c.1 s then none else some (c.1, extentBase l c.1 s + 64 * c.2 + o, none)

/-- Whether a strip is marked in the stale map of its channel. -/
def gathStale (l : Fin 4) (st i : Nat) (s : State) : Bool := (s.layout l).stale.contains (stripAt l st i s)

/-- Where a block of a namespace is read; none when GATH must solve for it. -/
def readSpot (v : Ns) (a : Nat) (s : State) : Option (Nat × Nat × Option SlotId) :=
  if v.place < 8 then some (v.place, v.base + a, none)
  else
    let x := nsPlace v a s
    if gathStale (layoutOf v) x.2.2.1 x.2.2.2 s then none else gathSpot (layoutOf v) x.2.2.1 x.2.2.2 (a % 64) s

/-! ### Placing work -/

def addItems (ks : List Nat) (n : Nat) (s : State) : State := s.each ks fun k t => t.modCmd k fun c => { c with items := c.items + n }

/-- Work of one channel: placed in its ring while the channel is ready, otherwise kept until it is (R377). The first part is
how many items that makes. -/
def placeOn (n : Ch) (cmd : Nat) (kind : ItemKind) (ks : List Nat) (cls : Nat) (wver : Bool) (stripe : Option (Nat × Nat))
    (xs : List Sector) (s : State) : Nat × State :=
  if xs.isEmpty then (0, s)
  else if chanReady n s then placeRun n cmd kind ks cls false wver stripe xs s
  else (1, s.modHost fun h => { h with parked := h.parked ++ [⟨n, cmd, kind, ks, cls, wver, xs, stripe⟩] })

/-- Work of a single-channel namespace. On an absent or failed channel a command completes with Channel Unavailable (R331), and
a destage waits. -/
def hostDispatch (n : Ch) (cmd : Nat) (kind : ItemKind) (ks : List Nat) (cls : Nat) (xs : List Sector) (s : State) : State :=
  if xs.isEmpty then s
  else if (chanAbsent n s || chanFailed n s) && kind != .destage then s.each ks fun k t => t.finish k stChannel
  else
    let r := placeOn n cmd kind ks cls false none xs s
    if kind == .destage then r.2 else addItems ks r.1 r.2

/-- The media class of a command's work (R324). -/
def cmdClass (c : Cmd) (s : State) : Nat :=
  match s.host.sqs.find? fun q => q.ctl == c.ctl && q.qid == c.qid with
  | some q => mediaClass c.qid q.prio
  | none => 1

/-- Updates of a write's stripes begin: they wait for the intent record and their lock (R425, R428). -/
def gathStart (v : Ns) (k : Nat) (host : Bool) (xs : List (Nat × Nat)) (s : State) : State :=
  let l := layoutOf v
  let sts := (xs.map fun x => (nsPlace v x.1 s).2.2.1).foldl (fun r a => if r.contains a then r else insertSorted a r) []
  let named := fun (st : Nat) => (xs.filter fun x => (nsPlace v x.1 s).2.2.1 == st).foldl (fun m x => m ||| 2 ^ (nsPlace v x.1 s).2.2.2)
    ((2 ^ layoutM l s - 1) * 2 ^ layoutK l s)
  let t := s.modLayout l fun y => { y with
    pendInt := y.pendInt ++ sts.map fun st => (st, named st)
    locks := y.locks ++ sts.map fun st => (st, k, 0) }
  if host then addItems [k] sts.length t else t

/-- The media writes of a write: blocks with their buffers, the empty handle for a zero sector (R613). -/
def mediaWrite (v : Ns) (k : Nat) (kind : ItemKind) (cls : Nat) (xs : List (Nat × Nat)) (s : State) : State :=
  if v.place < 8 then
    hostDispatch (chOf v.place) 0x02 kind [k] cls (xs.map fun x => { blk := v.base + x.1, hdl := x.2, lb := some (v.nsid, x.1) }) s
  else if xs.isEmpty then s
  else gathStart v k (kind == .hostWrite) xs s

/-- The metadata field of a zero sector with protection information (R613): the guard of zeros is zero. -/
def zeroField (z : Nat × Nat × Bool) (i : Nat) : List Byte :=
  [0#8, 0#8] ++ bytesBe 2 z.1 ++ bytesBe 4 ((z.2.1 + if z.2.2 then i else 0) % 4294967296)

/-- The metadata of a zero block of a version. -/
def verZero (w : WbVer) (a : Nat) : List Byte := match w.zpi with | some z => zeroField z (a - w.lba) | none => []

/-- The metadata of a zero sector on its way to the media: that of the version whose media write runs. -/
def zeroMeta (lb : Option (Nat × Nat)) (s : State) : List Byte :=
  match lb with
  | some x => match s.host.wb.find? fun w => w.run && w.hdl.isNone && w.covers x.1 x.2 with
    | some w => verZero w x.2
    | none => []
  | none => []

def verSectors (w : WbVer) : List (Nat × Nat) := (List.range w.cnt).map fun i => (w.lba + i, w.hdl.getD emptyHandle)

/-! ### Destage and write-through (R23, R361, R408) -/

/-- An accepted version that a later accepted write has wholly replaced is not destaged. -/
def superseded (w : WbVer) (s : State) : Bool := s.host.wb.any fun u => u.acc && u.replaces w

/-- A write-through version of a command whose media writes may be placed. -/
def isThrough (w : WbVer) (s : State) : Bool := !w.acc && match s.cmd w.k with | some c => c.phase == 4 && c.status.isNone | none => false

/-- Whether a namespace lies on a layout in FAILED (R440). -/
def onFailed (v : Ns) (s : State) : Bool := decide (8 ≤ v.place) && s.get (F.GATH_LSTAT_STATE (layoutOf v)) == 4

/-- A version waits while its data is to be read back, its layout has FAILED, another on its sectors is on its way to the media, or an
earlier one has still to go there. -/
def verBlocked (w : WbVer) (s : State) : Bool := w.lost || (w.acc && (s.ns w.nsid).any fun v => onFailed v s) ||
  s.host.wb.any fun u => u.overlaps w && u.k != w.k &&
    ((u.run && u.acc) || (decide (u.k < w.k) && u.acc && (!superseded u s || isThrough w s)))

/-- Destage runs at Bulk class; at Normal class while the write-buffer pool stands at or below THROTTLE or FLY collects in the foreground
(R23). -/
def destageUrgent (s : State) : Bool :=
  s.flag F.FLY_STAT_FG_GC || match usePool 0 s with | some i => poolAt (poolThrottle i s) i s | none => false
def destageClass (s : State) : Nat := if destageUrgent s then 1 else 2

/-- A version whose buffer was lost gets a buffer again from its journal entry; its request waits while it is not admitted. -/
def restoreVer (w : WbVer) (s : State) : State :=
  let e := ((s.fly.pages ++ s.fly.flight).flatMap (fun p => p.ents) ++ s.fly.packH).find? fun e => e.seq == w.seq && e.kind == 1
  let back := fun (h : Option Nat) (t : State) => t.modHost fun x => { x with wb := x.wb.map fun v => if v == w then { v with hdl := h, lost := false } else v }
  match e, w.hdl with
  | some e, some old => match tryAlloc 0xA 0 1 s with
    | some (h :: _, t) => dropBuf old (back (some h) (give 0xA h 0xF (putUnit (handleUnit h s) e.blk t)))
    | _ => s
  | _, h => back h s

/-- Place the media writes that may start now, write by write, after what was lost has been read back. -/
def pump (s : State) : State :=
  if stopped s then s else
  let s := s.each (s.host.wb.filter fun w => w.lost) restoreVer
  let ks := (s.host.wb.map fun w => w.k).foldl (fun r a => if r.contains a then r else insertSorted a r) []
  s.each ks fun k t =>
    let ws := t.host.wb.filter fun w => w.k == k && !w.run && (w.acc || isThrough w t) && !(w.acc && superseded w t) && !verBlocked w t
    match ws with
    | [] => t
    | w :: _ =>
      match t.ns w.nsid with
      | none => t
      | some v =>
        let u := t.modVers k fun x => if ws.contains x then { x with run := true } else x
        let cls := match t.cmd k with | some c => cmdClass c t | none => 2
        if w.acc then mediaWrite v k .destage (destageClass t) (ws.flatMap verSectors) u else mediaWrite v k .hostWrite cls (ws.flatMap verSectors) u

/-- Whether any media write of a destage is left. -/
def destageLeft (k : Nat) (s : State) : Bool :=
  (allChans.any fun n => (s.chan n).sched.ring.any fun i => i.kind == .destage && i.cmds.contains k) ||
    (s.host.parked.any fun p => p.kind == .destage && p.cmds.contains k) ||
    s.gath.lay.toList.any fun y => y.locks.any fun x => x.2.1 == k

/-- DESTAGE_COMPLETE: the versions on media, and the ones they replace, leave the write buffer, and their journal entries
become invalid (R23, R398). -/
def destageDone (k : Nat) (s : State) : State :=
  let ws := s.host.wb.filter fun w => w.k == k && w.run && w.acc
  if ws.isEmpty || destageLeft k s then s
  else
    let gone := s.host.wb.filter fun w => ws.contains w || (w.acc && !w.run && ws.any fun u => u.replaces w)
    let t := s.modHost fun h => { h with wb := h.wb.filter fun w => !gone.contains w }
    let t := t.each (gone.filterMap fun w => w.hdl) fun h u => dropBuf h u
    let t := unlive (gone.map fun w => w.seq) t
    pump (if t.get F.FLY_STAT_STATE == 3 then destagePage t else t)

/-! ### Reads (R22, R355, R369, R415) -/

/-- Where a block of a read lies is known. -/
def found (k a : Nat) (u : Option Nat) (s : State) : State :=
  s.modCmd k fun c => { c with data := c.data.filter (fun x => x.1 != a) ++ [(a, u)] }

/-- Look up one block for a command: cache, write buffer, warm level, media. A version whose data is still to be read back holds it up. -/
def lookupBlock (k : Nat) (v : Ns) (a : Nat) (s : State) : State :=
  match cacheHit v.nsid a s with
  | some w => found k a (some (wayUnit w.sn w.way s + a % 16)) (takeHit k w s)
  | none =>
    let t := s.incWrap (F.CACHE_HITMISS_COUNT 1)
    let t := match versionFor k v.nsid a t with | some w => if w.lost then restoreVer w t else t | none => t
    match versionFor k v.nsid a t with
    | some w =>
      if w.lost then t.modCmd k fun c => { c with verWait := c.verWait ++ [(k, a)] } else
      let t := match w.hdl with
        | some h => (share 0xF h t).modCmd k fun c => { c with shares := c.shares ++ [h] }
        | none => t
      let t := found k a (w.hdl.map fun h => handleUnit h s) (if w.hdl.isNone && w.zpi.isSome then
        t.modCmd k fun c => { c with zmd := c.zmd.filter (fun x => x.1 != a) ++ [(a, verZero w a)] } else t)
      if w.acc then t else t.modCmd k fun c => { c with verWait := c.verWait ++ [(w.k, a)] }
    | none =>
      if s.cache.fills.any fun f => f.spec && !f.void && f.nsid == v.nsid && f.line == a / 16 then
        t.modCache fun c => { c with specW := c.specW ++ [(k, v.nsid, a / 16)] }
      else if s.fly.warm.contains (v.nsid, a / 16) then t.modFly fun y => { y with warmW := y.warmW ++ [(k, v.nsid, a / 16)] }
      else t.modCmd k fun c => { c with todo := c.todo ++ [a] }

/-- The buffers of a command that hold no block yet. -/
def unusedHandles (c : Cmd) (s : State) : List Nat := c.handles.filter fun h => !c.data.any fun d => d.2 == some (handleUnit h s)

/-- The submission queue of a command, as ladders remember it. -/
def queueKey (k : Nat) (s : State) : Nat := match s.cmd k with | some c => 131072 * c.ctl.val + c.qid | none => 0

/-- A command attaches to the ladder that runs for a block (R110). -/
def attachLadder (n : Ch) (k nsid a : Nat) (s : State) : State :=
  let at_ := fun (l : Ladder) => if l.lblk == some (nsid, a) then { l with cmds := l.cmds ++ [k], ever := l.ever ++ [queueKey k s] } else l
  (s.modSched n fun y => { y with ladders := y.ladders.map at_ }).modCmd k fun c => { c with items := c.items + 1 }

/-- A ladder that a command fetched as `k` may attach to. -/
def ladderFor (n : Ch) (k nsid a : Nat) (s : State) : Bool :=
  (s.chan n).sched.ladders.any fun l => l.lblk == some (nsid, a) && (match l.barrier with | some b => decide (k < b) | none => true)

/-- The media reads of a command's remaining blocks, one buffer each. -/
def placeMedia (c : Cmd) (v : Ns) (hs : List Nat) (s : State) : State :=
  let ps := c.todo.zip hs
  let t := s.modCmd c.k fun d => { d with todo := d.todo.drop ps.length }
  let t := t.each ps fun x u => found c.k x.1 (some (handleUnit x.2 s)) u
  let t := if c.e.opc == 0x02#8 then
    (ps.foldl (fun r x => if r.contains (x.1 / 16) then r else r ++ [x.1 / 16]) []).foldl (fun u ln =>
      (openFill v.nsid ln (BitVec.ofNat 16 ((ps.filter fun x => x.1 / 16 == ln).foldl (fun m x => m ||| 2 ^ (x.1 % 16)) 0)) false false (some c.k) u).2) t
    else t
  let spot := fun (x : Nat × Nat) => readSpot v x.1 s
  let solve := ps.filter fun x => (spot x).isNone
  let t := { t with gath := { t.gath with recon := t.gath.recon ++ solve.map fun x => ⟨v.nsid, x.1, x.2, [c.k], false⟩ } }
  let t := addItems [c.k] solve.length t
  t.each allChans fun n u =>
    let mine := ps.filterMap fun x => match spot x with | some y => if y.1 == n.val then some (x, y.2) else none | none => none
    let lad := mine.filter fun x => ladderFor n c.k v.nsid x.1.1 s
    let u := u.each lad fun x w => attachLadder n c.k v.nsid x.1.1 w
    hostDispatch n 0x01 (if c.e.opc == 0x0C#8 then .verify else .hostRead) [c.k] (cmdClass c s)
      ((mine.filter fun x => !lad.contains x).map fun x => { blk := x.2.1, hdl := x.1.2, lb := some (v.nsid, x.1.1), fix := x.2.2 }) u

/-- Ask for `n` buffers for a command: they join its handles, or it waits for them. -/
def askBuffers (c : Cmd) (n : Nat) (s : State) : State :=
  let r := alloc c.bufUse.1 c.bufUse.2 n (some c.k) s
  if r.1.isEmpty then r.2.modCmd c.k fun d => { d with wantBuf := n } else r.2.modCmd c.k fun d => { d with handles := d.handles ++ r.1 }

/-- Place a command's remaining media blocks in the buffers it has, and get buffers for the rest, at most 512 in one request (R22 steps 4
and 5, R478). -/
def placeSome : Nat → Nat → State → State
  | 0, _, s => s
  | f + 1, k, s =>
    match s.cmd k with
    | none => s
    | some c =>
      if c.todo.isEmpty || decide (0 < c.wantBuf) || c.status.isSome then s
      else match s.ns c.e.nsid.toNat with
        | none => s
        | some v =>
          let un := unusedHandles c s
          if un.isEmpty then placeSome f k (askBuffers c (min 512 c.todo.length) s) else placeSome f k (placeMedia c v un s)

def placeTodo (k : Nat) (s : State) : State :=
  placeSome (match s.cmd k with | some c => 2 * c.todo.length | none => 0) k s

/-- Look up the blocks of a command again: those given. -/
def lookupAgain (k : Nat) (bs : List Nat) (s : State) : State :=
  match s.cmd k with
  | none => s
  | some c => match s.ns c.e.nsid.toNat with
    | none => s
    | some v => placeTodo k (s.each bs fun a t => lookupBlock k v a t)

/-- The blocks a command reads. -/
def readBlocks (c : Cmd) : List Nat := (if c.isCopy then c.srcs else c.ranges).flatMap fun r => (List.range r.cnt).map (r.lba + ·)

/-! ### Effects of writes (R19 to R21, R360, R361, R389 to R393) -/

/-- A part of a write: first block, count, KIND, buffer. -/
structure Piece where
  lba  : Nat
  cnt  : Nat
  kind : Nat
  hdl  : Option Nat
  zpi  : Option (Nat × Nat × Bool)
  deriving DecidableEq, Repr

/-- Whether a write goes through the journal now. -/
def journalled (v : Ns) (s : State) : Bool := !v.stream && s.get F.FLY_STAT_STATE == 2

/-- First block and block count that a command's bookmark records (R363). -/
def bmRange (c : Cmd) : Nat × Nat := ((c.ranges.head?.map fun r => r.lba).getD 0, c.ranges.foldl (fun n r => n + r.cnt) 0)

/-- Whether a command leaves a bookmark. -/
def stamped (c : Cmd) (v : Ns) : Bool := v.dup && c.e.stamp != 0

/-- The journal entries of a write's pieces. -/
def mkEntries (c : Cmd) (v : Ns) (act : Nat) (ps : List Piece) (s : State) : List FEntry :=
  let n := ps.length
  let zero : Block := ⟨List.replicate 4096 0, List.replicate 64 0⟩
  ps.zipIdx.map fun x =>
    let bm := stamped c v && x.2 + 1 == n
    { seq := c.seq0 + x.2, lba := x.1.lba, cnt := x.1.cnt, nsid := v.nsid, gen := s.fly.nsgen.get v.nsid, kind := x.1.kind, bm := bm
      copy := false, pos := x.2 % 512, len := min 512 (n - x.2 / 512 * 512), stamp := if bm then c.e.stamp else 0, opc := c.e.opc.toNat
      act := act, bmLba := if bm then (bmRange c).1 else 0, bmCnt := if bm then (bmRange c).2 else 0
      blk := match x.1.hdl with
        | some h => getUnit (handleUnit h s) s
        | none => match x.1.zpi with | some z => { zero with md := zeroField z 0 ++ List.replicate 56 0#8 } | none => zero
      zpi := x.1.zpi }

/-- The effect of a write begins: cache lines are invalidated, its versions enter the write buffer, and it is journalled or
written to the media. -/
def beginEffect (c : Cmd) (v : Ns) (ps : List Piece) (s : State) : State :=
  let t := s.each ps fun p u => warmDrop v.nsid p.lba p.cnt (cacheInvalidate v.nsid p.lba p.cnt u)
  let vs := ps.zipIdx.map fun x => (⟨c.k, v.nsid, x.1.lba, x.1.cnt, x.1.kind, x.1.hdl, c.seq0 + x.2, false, v.stream, x.1.zpi, false⟩ : WbVer)
  let t := t.modHost fun h => { h with wb := h.wb ++ vs }
  if journalled v s && decide (ps.length ≤ c.seqLen) then
    let es := mkEntries c v 0 ps s
    flyPush true es (t.modCmd c.k fun d => { d with phase := 3, ents := es.length })
  else
    let t := t.modCmd c.k fun d => { d with phase := 4 }
    if v.stream then mediaWrite v c.k .hostWrite (cmdClass c s) (vs.flatMap verSectors) t else pump t

def mkBookmark (c : Cmd) (v : Ns) (s : State) : Bookmark :=
  ⟨v.nsid, s.fly.nsgen.get v.nsid, c.e.stamp, c.e.opc.toNat, (bmRange c).1, (bmRange c).2, 0, s.fly.pot, false⟩

/-- The last media write of a write command has ended: its bookmark is programmed, or kept in DRAM (R363, R367). -/
def mediaDone (c : Cmd) (v : Ns) (s : State) : State :=
  let t := s.modCmd c.k fun d => { d with done := true }
  if !stamped c v then t
  else if s.get F.FLY_STAT_STATE == 2 then
    (t.modFly fun y => { y with pendBm := y.pendBm ++ [(mkBookmark c v s, some c.k)] }).modCmd c.k fun d => { d with ents := d.ents + 1 }
  else putBookmark { mkBookmark c v s with dram := true } t

/-- Whether versions of a write still wait to be placed on the media. -/
def unplaced (k : Nat) (s : State) : Bool := s.host.wb.any fun w => w.k == k && !w.run

/-- The write phase of a Copy asks for its buffers, at most 512 in one request. -/
def copyBuffers (n : Nat) : Nat → Nat → State → State
  | 0, _, s => s
  | f + 1, k, s =>
    match s.cmd k with
    | none => s
    | some c =>
      let have_ := (unusedHandles c s).length
      if n ≤ have_ || decide (0 < c.wantBuf) then s else copyBuffers n f k (askBuffers c (min 512 (n - have_)) s)

/-- The write phase of a Copy begins once its blocks are read: write buffers, then the data, then the effect (R326). -/
def copyAdvance (c : Cmd) (s : State) : State :=
  let n := (readBlocks c).length
  copyBuffers n n c.k (if c.phase == 0 then s.modCmd c.k fun d => { d with phase := 1 } else s)

/-- The metadata field of a zero block that a command read from the write buffer (R613). -/
def zeroOf (a : Nat) (c : Cmd) : List Nat := padTo 64 (((assocGet a c.zmd).getD []).map BitVec.toNat)

/-- The data of a Copy moves into its write buffers. -/
def copyMove (c : Cmd) (v : Ns) (s : State) : State :=
  let bs := readBlocks c
  let dst := c.handles.drop (c.handles.length - bs.length)
  let t := s.each (bs.zip dst) fun x u =>
    putUnit (handleUnit x.2 s) (match (c.data.find? fun d => d.1 == x.1).bind fun d => d.2 with
      | some q => getUnit q s | none => ⟨[], (zeroOf x.1 c).map (BitVec.ofNat 8)⟩) u
  let t := t.each (c.handles.take (c.handles.length - bs.length)) fun h u => dropBuf h u
  let t := t.modCmd c.k fun d => { d with handles := dst }
  let base := (c.ranges.head?.map fun r => r.lba).getD 0
  beginEffect { c with handles := dst } v (dst.zipIdx.map fun x => ⟨base + x.2, 1, 1, some x.1, none⟩) t

/-- A command whose reads, transfers or media writes may have ended goes on. -/
def advance (k : Nat) (s : State) : State :=
  match s.cmd k with
  | none => s
  | some c =>
    if !c.started || decide (0 < c.items) || c.status.isSome || decide (0 < c.wantBuf) || c.wantXfer || !c.todo.isEmpty ||
        !c.verWait.isEmpty || (s.cache.specW.any fun w => w.1 == k) || s.fly.warmW.any fun w => w.1 == k then s
    else match s.ns c.e.nsid.toNat with
      | none => s
      | some v =>
        if c.isCopy && decide (c.phase < 3) then
          let t := copyAdvance c s
          match t.cmd k with
          | some d => if d.phase == 1 && d.wantBuf == 0 then copyMove d v t else t
          | none => t
        else if c.phase == 4 && !c.done && !unplaced k s then mediaDone c v s
        else s

/-- Commands that were waiting for buffers go on. -/
def resume (s : State) : State := s.each (s.host.cmds.map fun c => c.k) fun k t => advance k (placeTodo k t)

/-- A work item, stripe update or reconstruction of a command has ended. -/
def endItem (k : Nat) (s : State) : State := advance k (s.itemDone k)

/-! ### Ladders in the scheduler (R108, R110) -/

/-- Bring the counts of ladders up to date. -/
def ladderSync (n : Ch) (s : State) : State :=
  let l := (s.chan n).sched.ladders
  (s.set (F.DET_LADDERSTAT_FG_ACTIVE n) (min 15 (l.filter fun x => !x.cmds.isEmpty).length)).set (F.DET_LADDERSTAT_BG_ACTIVE n)
    (min 15 (l.filter fun x => x.cmds.isEmpty).length)

/-- A ladder ends: its pinned buffer is freed, and REREADs of it that wait are taken back. -/
def dropLadder (n : Ch) (l : Ladder) (s : State) : State :=
  let t := s.modSched n fun y => { y with
    ladders := y.ladders.filter fun x => x != l
    ring := y.ring.filter fun i => i.taken || !(i.kind == .ladder && i.desc == l.desc) }
  ladderSync n (t.when l.kept.isSome fun u => unpinBuffer n l.path u)

/-- A ladder is cancelled (R110): its sector ends CANCELLED (R113), and the commands attached have nothing more to wait for from it. -/
def cancelLadder (n : Ch) (l : Ladder) (s : State) : State :=
  (noteResult n l.path l.tag 0x08 (dropLadder n l s)).each l.cmds fun k u => endItem k u

/-- Acceptance of a write to a sector: its ladder goes on only for commands fetched before the write (R107, R374). -/
def ladderBarrier (k nsid lba cnt : Nat) (s : State) : State :=
  s.each allChans fun n t =>
    t.each ((t.chan n).sched.ladders.filter fun l => match l.lblk with
      | some (v, a) => v == nsid && decide (lba ≤ a) && decide (a < lba + cnt)
      | none => false) fun l u =>
      if l.cmds.any fun x => decide (x < k) then
        let bar := fun (x : Ladder) => if x == l then { x with barrier := some (match x.barrier with | some b => min b k | none => k) } else x
        u.modSched n fun y => { y with ladders := y.ladders.map bar }
      else cancelLadder n l u

/-- A background rewrite that meets an accepted write to its sector is dropped (R374). -/
def dropRewrites (nsid lba cnt : Nat) (s : State) : State :=
  let hit := fun (i : Item) => i.kind == .rewrite && !i.taken && i.lb.toList.any fun x => match x with
    | some y => y.1 == nsid && decide (lba ≤ y.2) && decide (y.2 < lba + cnt)
    | none => false
  s.each allChans fun n t =>
    let t := t.each ((t.chan n).sched.ring.filter hit) fun i u => u.each (descPaths i.desc) fun p w => dropBuf (descHandle i.desc p).toNat w
    t.modSched n fun c => { c with ring := c.ring.filter fun i => !hit i }

/-- A command leaves every ladder it is attached to; with `cancel` a ladder that it was the last to hold is cancelled. A ladder
behind an accepted write ends with its foreground. -/
def leaveLadders (k : Nat) (cancel : Bool) (s : State) : State :=
  s.each allChans fun n t =>
    t.each ((t.chan n).sched.ladders.filter fun l => l.cmds.contains k) fun l u =>
      let l2 := { l with cmds := l.cmds.filter (· != k) }
      let u := u.modSched n fun y => { y with ladders := y.ladders.map fun x => if x == l then l2 else x }
      let u := u.modCmd k fun c => { c with items := c.items - 1 }
      if l2.cmds.isEmpty && (cancel || l.barrier.isSome) then cancelLadder n l2 u else ladderSync n u

/-- Ladders that a command of a submission queue ever attached to are cancelled (queue deletion, R110). -/
def cancelEver (key : Nat) (s : State) : State :=
  s.each allChans fun n t => t.each ((t.chan n).sched.ladders.filter fun l => l.ever.contains key) fun l u => cancelLadder n l u

/-! ### Withdrawal, failure, acceptance -/

/-- The work of a command is withdrawn (R172): waiting items go, running ones serve nobody any more. -/
def withdrawWork (k : Nat) (s : State) : State :=
  let host := fun (i : Item) => i.cmds == [k] && i.kind != .destage
  let t := s.each allChans fun n u =>
    let w := u.each ((u.chan n).sched.ring.filter host) fun i x => if i.taken then abortTag n (descTag i.desc) x else x
    w.modSched n fun y => { y with ring := (y.ring.filter fun i => i.taken || !host i).map fun i => if host i then { i with cmds := [] } else i }
  let t := t.modHost fun h => { h with parked := h.parked.filter fun p => !(p.cmds == [k] && p.kind != .destage) }
  let t := { t with gath := { t.gath with recon := t.gath.recon.filter fun r => r.cmds != [k] } }
  let t := { t with gath := { t.gath with lay := t.gath.lay.map fun (y : Layout) => { y with locks := y.locks.filter fun x => !(x.2.1 == k && x.2.2 == 0) } } }
  let t := t.modCache fun c => { c with specW := c.specW.filter fun w => w.1 != k }
  let t := t.modFly fun y => { y with warmW := y.warmW.filter fun w => w.1 != k }
  let t := t.modReam fun r => { r with pools := r.pools.map fun (p : Pool) => { p with waits := p.waits.filter fun w => w.cmd != some k } }
  t.modCmd k fun c => { c with items := 0, todo := [], verWait := [], wantBuf := 0, wantXfer := false }

/-- What a command holds is given back: pins, shares, buffers still its own, range locks. -/
def freeCmd (c : Cmd) (s : State) : State :=
  let t := s.each c.shares fun h u => release 0xF h u
  let t := t.each c.handles fun h u => dropBuf h u
  let t := unpin c.k t
  let t := t.modHost fun h => { h with locks := h.locks.filter fun l => l.k != c.k }
  t.set F.NVME_RLOCK_USED t.host.locks.length

/-- A write leaves no effect (R20, R334): its entries are withdrawn or invalid, its versions go, and reads that wait for them
look again. -/
def undoWrite (c : Cmd) (s : State) : State :=
  let t := unpack c s
  let t := unlive ((t.host.wb.filter fun w => w.k == c.k).map fun w => w.seq) t
  let t := t.modFly fun y => { y with pendBm := y.pendBm.filter fun b => b.2 != some c.k }
  let t := t.modHost fun h => { h with
    wb := h.wb.filter fun w => w.k != c.k
    cmds := h.cmds.map fun d => { d with verWait := d.verWait.map fun x => if x.1 == c.k then (d.k, x.2) else x } }
  pump (t.modCmd c.k fun d => { d with ents := 0, begun := false, handles := [], shares := [] })

/-- A command ends with an error: its work is withdrawn and what it holds is freed. -/
def failCmd (k st : Nat) (s : State) : State :=
  match s.cmd k with
  | none => s
  | some c =>
    let t := leaveLadders k false (withdrawWork k s)
    let t := freeCmd c t
    let t := if c.wr then undoWrite c t else t.modCmd k fun d => { d with handles := [], shares := [] }
    t.finish k st

/-- The versions of a write are accepted (R348): its buffers become the write buffer and its destage is placed; a write on the
media leaves the write buffer. -/
def acceptWrite (c : Cmd) (s : State) : State :=
  let t := s.each c.ranges fun r u => dropRewrites c.e.nsid.toNat r.lba r.cnt (ladderBarrier c.k c.e.nsid.toNat r.lba r.cnt u)
  if c.phase == 3 then
    let t := t.each c.handles fun h u => give (8 + c.ctl.val) h 0xF u
    pump ((t.modVers c.k fun w => { w with acc := true }).modCmd c.k fun d => { d with handles := [] })
  else pump (dropVers c.k t)

/-! ### Commands -/

/-- DESTAGE_COMPLETE (R23). -/
def execDestageComplete (k : Nat) (s : State) : Host.Outcome State Fault Refusal := .next (destageDone k s)

end Sys2Proof.Machine
end

