-- ==== Sys2Proof/Machine/Gath.lean ====
section
/-! DEFINITION. GATH (chapter 13): layouts and their commit, the code, updates of stripes, intents, the availability of
channels, degraded reads, resync and rebuild. -/

namespace Sys2Proof.Machine

/-! ### The code (R424) -/

def xorList : List Nat → List Nat → List Nat
  | a :: r, b :: q => (a ^^^ b) :: xorList r q
  | _, _ => []

/-- The 4,160 bytes of a block that the code covers. -/
def codeBytes (b : Block) : List Nat := padTo 4096 (b.data.map BitVec.toNat) ++ padTo 64 (b.md.map BitVec.toNat)
def ofCode (l : List Nat) : Block := ⟨(l.take 4096).map (BitVec.ofNat 8), (l.drop 4096).map (BitVec.ofNat 8)⟩
def zeroCode : List Nat := List.replicate 4160 0
def mulCode (g : Nat) (l : List Nat) : List Nat := l.map (gfMul g)

/-- P and Q of data strips given with their indexes. -/
def codeP (ds : List (Nat × List Nat)) : List Nat := ds.foldl (fun a d => xorList a d.2) zeroCode
def codeQ (ds : List (Nat × List Nat)) : List Nat := ds.foldl (fun a d => xorList a (mulCode (gfPow 2 d.1) d.2)) zeroCode

/-- Data strip `j` from others of its stripe: `ds` the data strips at hand, `p` and `q` the parity at hand. None when they do
not determine it. -/
def solve (k j : Nat) (ds : List (Nat × List Nat)) (p q : Option (List Nat)) : Option (List Nat) :=
  match (List.range k).filter fun i => i != j && !ds.any fun d => d.1 == i with
  | [] => match p, q with
    | some x, _ => some (xorList x (codeP ds))
    | none, some y => some (mulCode (gfInv (gfPow 2 j)) (xorList y (codeQ ds)))
    | none, none => none
  | [y] => match p, q with
    | some a, some b =>
      let pa := xorList a (codeP ds)
      let qb := xorList b (codeQ ds)
      some (mulCode (gfInv (gfPow 2 j ^^^ gfPow 2 y)) (xorList (mulCode (gfPow 2 y) pa) qb))
    | _, _ => none
  | _ => none

/-! ### States (R430, R440) -/

def committed (l : Fin 4) (s : State) : Bool := s.get (F.GATH_LSTAT_STATE l) != 0
def allLayouts : List (Fin 4) := [0, 1, 2, 3]

/-- Strips of channel `c` that are in the rebuild map. -/
def rebuiltOf (l : Fin 4) (c : Nat) (s : State) : Nat := ((s.layout l).rebuilt.filter fun r => (stripAt l r.1 r.2.1 s).1 == c).length

/-- d of R440. -/
def layoutDown (l : Fin 4) (s : State) : Nat :=
  ((layoutChans l s).filter fun c => s.bit (F.GATH_LSTAT_UNAVAIL l) c ||
    (s.bit (F.GATH_LSTAT_LOST l) c && decide (rebuiltOf l c s < s.get (F.GATH_EXTENT_EXTENT l)))).length

/-- Strips of LOST channels that the layout still rebuilds. -/
def toRebuild (l : Fin 4) (s : State) : Nat :=
  if layoutW l s ≤ layoutK l s + layoutM l s then 0
  else ((layoutChans l s).filter fun c => s.bit (F.GATH_LSTAT_LOST l) c).foldl (fun a c => a + (s.get (F.GATH_EXTENT_EXTENT l) - rebuiltOf l c s)) 0

/-- The layout that rebuilds or resyncs: a resync first, then the lowest layout with strips to rebuild (R436). -/
def rebuildSync (s : State) : State :=
  let re := allLayouts.find? fun l => committed l s && (layoutChans l s).any fun c => s.bit (F.GATH_LSTAT_UNAVAIL l) c && chanReady (chOf c) s
  let rb := allLayouts.find? fun l => committed l s && decide (0 < toRebuild l s)
  match re, rb with
  | some l, _ =>
    let left := ((s.layout l).stale.filter fun x => s.bit (F.GATH_LSTAT_UNAVAIL l) x.1 && chanReady (chOf x.1) s).length
    let same := s.flag F.GATH_REBUILD_RESYNC && s.get F.GATH_REBUILD_LAYOUT == l.val
    let tot := if same then max s.gath.reTotal left else left
    let t := { s with gath := { s.gath with reTotal := tot } }
    (((t.set F.GATH_REBUILD_LAYOUT l.val).setFlag F.GATH_REBUILD_ACTIVE true).setFlag F.GATH_REBUILD_RESYNC true).set F.GATH_REBUILD_PERCENT
      ((tot - left) * 100 / max 1 tot)
  | none, some l =>
    let tot := ((layoutChans l s).filter fun c => s.bit (F.GATH_LSTAT_LOST l) c).length * s.get (F.GATH_EXTENT_EXTENT l)
    (((s.set F.GATH_REBUILD_LAYOUT l.val).setFlag F.GATH_REBUILD_ACTIVE true).setFlag F.GATH_REBUILD_RESYNC false).set F.GATH_REBUILD_PERCENT
      ((tot - toRebuild l s) * 100 / max 1 tot)
  | none, none => (s.setFlag F.GATH_REBUILD_ACTIVE false).setFlag F.GATH_REBUILD_RESYNC false

/-- Bring a layout's state up to date; each change is posted and reported (R440, R441). -/
def layoutSync (l : Fin 4) (s : State) : State :=
  if !committed l s then s
  else
    let d := layoutDown l s
    let run5 := s.flag F.GATH_REBUILD_ACTIVE && s.get F.GATH_REBUILD_LAYOUT == l.val
    let st := if d = 0 then 1 else if layoutM l s < d then 4 else if run5 then 3 else 2
    let old := s.get (F.GATH_LSTAT_STATE l)
    if st = old then s
    else
      let t := (s.set (F.GATH_LSTAT_STATE l) st).aenAll 7 0x02 0xC2
      let t := t.when (old == 1) fun u => u.raise (hostSrc 18) l.val
      t.when (st == 4) fun u => u.raise (hostSrc 19) l.val

/-- Bring the rebuild and every layout up to date. A layout that leaves FAILED lets its accepted writes go on to the media (R440). -/
def gathSync (s : State) : State :=
  let t := (rebuildSync s).each allLayouts layoutSync
  t.when (allLayouts.any fun l => s.get (F.GATH_LSTAT_STATE l) == 4 && t.get (F.GATH_LSTAT_STATE l) != 4) pump

/-- A gathering lost or regained a channel (R341, information 0x02). -/
def gathEvent (s : State) : State := s.aenAll 7 0x02 0xC2

/-! ### Commit (R420 to R422) -/

/-- Strips of spare area on a channel with `sp` spare tracks per zone reserved. -/
def spareStrips (n : Ch) (sp : Nat) (s : State) : Nat :=
  match (s.chan n).zt with
  | none => 0
  | some z =>
    ((List.range 32).foldl (fun a zn => (List.range z.surfaces).foldl (fun b sf =>
      (List.range (min sp (z.spareOf sf zn))).foldl (fun c t =>
        c + ((List.range (z.spt zn)).filter fun i =>
          !isSkipped (s.chan n) z ⟨sf, z.zoneEnd sf zn - min sp (z.spareOf sf zn) + t, i⟩).length) b) a) 0) / 64

/-- Whether a channel holds a run of `e` strips; `room`: the runs taken on it and its blocks. -/
def runFits (e : Nat) (room : List Run × Nat) : Bool := (highestRun room.1 room.2 (64 * e)).isSome

def roomOf (n : Ch) (s : State) : List Run × Nat := ((s.chan n).sched.runs, chanBlocks (s.chan n))

def extentFits (n : Ch) (e : Nat) (s : State) : Bool := runFits e (roomOf n s)

/-- The strips of spare area on the channel of a layout that has fewest; none are asked for when W = K + M. -/
def leastSpare (l : Fin 4) (s : State) : Nat :=
  if layoutW l s ≤ layoutK l s + layoutM l s then 4294967295
  else ((layoutChans l s).map fun c => spareStrips (chOf c) (s.get (F.GATH_LAYOUT_SPARE l)) s).foldl min 4294967295

/-- Whether `least` strips of spare area on every channel serve an extent of `e` strips (R420). -/
def spareServes (l : Fin 4) (e least : Nat) (s : State) : Bool :=
  let km := layoutK l s + layoutM l s
  decide ((layoutW l s - km) * e / km ≤ least)

def spareFits (l : Fin 4) (e : Nat) (s : State) : Bool := spareServes l e (leastSpare l s) s

/-- EXTENT of the feature's commit: the largest multiple of K + M that fits (R420). -/
def autoExtent (l : Fin 4) (s : State) : Nat :=
  let km := layoutK l s + layoutM l s
  let rooms := (layoutChans l s).map fun c => roomOf (chOf c) s
  let least := leastSpare l s
  let most := (rooms.map fun r => r.2 / 64).foldl min 4294967295
  ((List.range (most / max 1 km + 1)).reverse.find? fun q =>
    rooms.all (runFits (q * km)) && spareServes l (q * km) least s).getD 0 * km

/-- The reason code of a commit check (R569). -/
def gathReason (l : Fin 4) (s : State) : Nat :=
  let cs := layoutChans l s
  let km := layoutK l s + layoutM l s
  let e := s.get (F.GATH_EXTENT_EXTENT l)
  if s.flag F.FAULT_STAT_SAFE then 0x1F
  else if s.get F.FLY_STAT_STATE != 2 then 0x40
  else if cs.any fun c => !s.flag (F.PAGE_ENABLE_EN (chOf c)) || chanFailed (chOf c) s then 0x41
  else if layoutK l s < 4 || decide (6 < layoutK l s) || layoutM l s < 1 || decide (2 < layoutM l s) || decide (layoutW l s < km) then 0x42
  else if e = 0 || e % km != 0 then 0x43
  else if cs.any fun c => !extentFits (chOf c) e s then 0x44
  else if !spareFits l e s then 0x45
  else 0

def nssOn (l : Fin 4) (s : State) : List Ns := s.host.nss.filter fun v => v.place == 0x80 + l.val

/-- The layout takes its extent on each channel (R70). -/
def doCommit (l : Fin 4) (s : State) : State :=
  let e := s.get (F.GATH_EXTENT_EXTENT l)
  let t := s.each (layoutChans l s) fun c u =>
    let n := chOf c
    match highestRun (u.chan n).sched.runs (chanBlocks (u.chan n)) (64 * e) with
    | some b => defectSync n (u.modSched n fun y => { y with runs := y.runs ++ [⟨b, 64 * e, true, l.val⟩] })
    | none => u
  (t.modLayout l fun _ => Layout.reset).set (F.GATH_LSTAT_STATE l) 1

def doUncommit (l : Fin 4) (s : State) : State :=
  let t := s.each allChans fun n u => u.modSched n fun y => { y with runs := y.runs.filter fun r => !(r.layout && r.owner == l.val) }
  let t := ((t.set (F.GATH_LSTAT_STATE l) 0).set (F.GATH_LSTAT_UNAVAIL l) 0).set (F.GATH_LSTAT_LOST l) 0
  gathSync (t.modLayout l fun _ => Layout.reset)

/-- A commit check ends; the reason is zero when it passed. -/
def gathCheckEnd (s : State) : Nat × State :=
  match s.gath.check with
  | none => (0, s)
  | some l =>
    let t := { s with gath := { s.gath with check := none, uncommit := false, auto := false } }
    if s.gath.uncommit then
      let r := if s.flag F.FAULT_STAT_SAFE then 0x1F else if (nssOn l s).isEmpty then 0 else 0x46
      if r ≠ 0 then (r, t.set F.GATH_LAYOUT_COMMIT_REASON r) else (0, doUncommit l t)
    else if committed l s then (0, t)
    else
      let t := if s.gath.auto then t.set (F.GATH_EXTENT_EXTENT l) (autoExtent l s) else t
      let r := gathReason l t
      if r ≠ 0 then (r, t.set F.GATH_LAYOUT_COMMIT_REASON r) else (0, doCommit l t)

/-- A write of 1 to COMMIT starts the check of a slot; a check that runs is not disturbed (R569). -/
def commitStart (l : Fin 4) (un auto : Bool) (s : State) : State :=
  if s.gath.check.isSome then s else { s with gath := { s.gath with check := some l, uncommit := un, auto := auto } }

/-! ### Updates (R425 to R428, R431) -/

/-- Intent records waiting for their page are programmed (R428). -/
def intentProgram (s : State) : State :=
  s.each allLayouts fun l t => t.modLayout l fun y => { y with pendInt := y.pendInt.drop 2048, intents := y.intents ++ y.pendInt.take 2048 }

/-- The intent of a stripe is programmed: no record of it waits. -/
def intentReady (l : Fin 4) (st : Nat) (s : State) : Bool :=
  ((s.layout l).intents.any fun x => x.1 == st) && !(s.layout l).pendInt.any fun x => x.1 == st

/-- The update of a stripe ends: its lock is released and its intent lapses when no other update of it waits. -/
def updateEnd (l : Fin 4) (st k : Nat) (s : State) : State :=
  let t := s.modLayout l fun y => { y with locks := y.locks.filter fun x => !(x.1 == st && x.2.1 == k) }
  let t := t.when (!(t.layout l).locks.any fun x => x.1 == st) fun u => u.modLayout l fun y => { y with intents := y.intents.filter fun x => x.1 != st }
  endItem k t

/-- One work item of an update has ended. -/
def updateItem (l : Fin 4) (st k : Nat) (s : State) : State :=
  let t := s.modLayout l fun y => { y with locks := y.locks.map fun x => if x.1 == st && x.2.1 == k then (st, k, x.2.2 - 1) else x }
  if (t.layout l).locks.any fun x => x.1 == st && x.2.1 == k && x.2.2 == 0 then updateEnd l st k t else t

/-- A strip that should have gone to a channel the layout does not use is marked stale on an UNAVAILABLE channel (R431). -/
def markStale (l : Fin 4) (st i : Nat) (s : State) : State :=
  let c := stripAt l st i s
  if s.bit (F.GATH_LSTAT_LOST l) c.1 || (s.layout l).stale.contains c then s
  else s.modLayout l fun y => { y with stale := y.stale ++ [c] }

/-- The new blocks that a write has for a stripe: strip, block, buffer, logical block. -/
def stripeNew (v : Ns) (k st : Nat) (s : State) : List (Nat × Nat × Nat × Nat) :=
  (s.host.wb.filter fun w => w.k == k && w.run).flatMap fun w => (verSectors w).filterMap fun x =>
    let y := nsPlace v x.1 s
    if y.2.2.1 == st then some (y.2.2.2, x.1 % 64, x.2, x.1) else none

/-- All of a list, or none. -/
def allSome {α : Type} : List (Option α) → Option (List α)
  | [] => some []
  | none :: _ => none
  | some a :: r => (allSome r).map fun l => a :: l

/-- The old contents of block `o` of a strip. -/
def oldBlock (old : List (Nat × Block)) (o i : Nat) : Option (List Nat) := (assocGet (i * 64 + o) old).map codeBytes

/-- Reconstruct-write: the parity from every data strip, the new ones and the old (R426). -/
def parityFull (k m o : Nat) (new : List (Nat × List Nat)) (old : List (Nat × Block)) : Option (List (List Nat)) :=
  (allSome ((List.range k).map fun i => match new.find? fun x => x.1 == i with
    | some x => some (i, x.2)
    | none => (oldBlock old o i).map fun b => (i, b))).map fun ds => if m = 1 then [codeP ds] else [codeP ds, codeQ ds]

/-- Read-modify-write: the parity from the old parity and the change of each strip (R426). -/
def parityDelta (k m o : Nat) (new : List (Nat × List Nat)) (old : List (Nat × Block)) : Option (List (List Nat)) :=
  (allSome (new.map fun x => (oldBlock old o x.1).map fun b => (x.1, xorList x.2 b))).bind fun ds =>
    match oldBlock old o k, oldBlock old o (k + 1) with
    | some p, some q => some (if m = 1 then [xorList p (codeP ds)] else [xorList p (codeP ds), xorList q (codeQ ds)])
    | some p, none => if m = 1 then some [xorList p (codeP ds)] else none
    | none, _ => none

/-- The parity blocks for block `o` of a stripe from the new and old contents, by the form that needs fewer strip reads and by
read-modify-write on a tie; a stripe with an intent record at start-up from the data alone (R426). None when the old contents given do not
suffice. -/
def parityAt (k m o : Nat) (intent : Bool) (new : List (Nat × List Nat)) (old : List (Nat × Block)) : Option (List (List Nat)) :=
  if new.length + m ≤ k - new.length && !intent then parityDelta k m o new old else parityFull k m o new old

/-- The parity of a stripe for a write: for each block of a strip that it changes, the parity blocks. None when the contents at hand do
not give them. -/
def stripeParity (l : Fin 4) (st k : Nat) (old : List (Nat × Block)) (v : Ns) (s : State) : Option (List (Nat × List (List Nat))) :=
  let new := stripeNew v k st s
  let os := (new.map fun y => y.2.1).foldl (fun r a => if r.contains a then r else insertSorted a r) []
  let bytes := fun (h a : Nat) => if h == emptyHandle then codeBytes ⟨[], zeroMeta (some (v.nsid, a)) s⟩ else codeBytes (getUnit (handleUnit h s) s)
  allSome (os.map fun o => (parityAt (layoutK l s) (layoutM l s) o ((s.layout l).resync.contains st) ((new.filter fun y => y.2.1 == o).map fun y => (y.1, bytes y.2.2.1 y.2.2.2)) old).map fun ps => (o, ps))

/-- The parity blocks as strip index, block and contents. -/
def parityBlocks (km : Nat) (ps : List (Nat × List (List Nat))) : List (Nat × Nat × List Nat) :=
  ps.flatMap fun x => x.2.zipIdx.map fun y => (km + y.2, x.1, y.1)

/-- The blocks that an update writes to a stripe: strip, block, buffer, and the logical block of data. -/
def stripeAll (l : Fin 4) (st k : Nat) (v : Ns) (ps : List (Nat × List (List Nat))) (hs : List Nat) (s : State) :
    List (Nat × Nat × Nat × Option (Nat × Nat)) :=
  (stripeNew v k st s).map (fun y => (y.1, y.2.1, y.2.2.1, some (v.nsid, y.2.2.2))) ++
    (hs.zip (parityBlocks (layoutK l s) ps)).map fun x => (x.2.1, x.2.2.1, x.1, none)

/-- The media writes of an update are placed, those of channels that the layout does not use marked stale; `t` is the state with the
buffers of the parity. -/
def stripePlace (l : Fin 4) (st k : Nat) (all : List (Nat × Nat × Nat × Option (Nat × Nat))) (s t : State) : State :=
  let host := match s.cmd k with | some c => c.phase == 4 | none => false
  let cls := match s.cmd k with | some c => cmdClass c s | none => 2
  let away := all.filter fun y => (gathSpot l st y.1 y.2.1 s).isNone
  let t := t.each away fun y u => markStale l st y.1 u
  let r := allChans.foldl (fun (acc : Nat × State) n =>
    let xs := all.filterMap fun y => match gathSpot l st y.1 y.2.1 s with
      | some p => if p.1 == n.val then some ({ blk := p.2.1, hdl := y.2.2.1, lb := y.2.2.2, fix := p.2.2 } : Sector) else none
      | none => none
    let q := placeOn n 0x02 (if host then .hostWrite else .destage) [k] cls false (some (l.val, st)) xs acc.2
    (acc.1 + q.1, q.2)) (0, t)
  let whole := (List.range (layoutK l s + layoutM l s)).filter fun i => (all.filter fun y => y.1 == i).length == 64
  let u := r.2.modLayout l fun y => { y with
    stale := y.stale.filter fun z => !whole.any fun i => z == stripAt l st i s && !gathMissing l z.1 s }
  if r.1 = 0 then updateEnd l st k u
  else u.modLayout l fun y => { y with locks := y.locks.map fun z => if z.1 == st && z.2.1 == k then (st, k, r.1) else z }

/-- GATH_STRIPE_UPDATE: the update of a stripe for a write holds its lock, computes the parity and places the media writes. It
waits for its intent record, for updates fetched before it, and for its buffers. -/
def stripeUpdate (l : Fin 4) (st k : Nat) (old : List (Nat × Block)) (s : State) : State :=
  match (s.layout l).locks.find? fun x => x.1 == st, s.host.wb.find? fun w => w.k == k && w.run with
  | some x, some w =>
    if x.2.1 != k || x.2.2 != 0 || !intentReady l st s then s
    else match s.ns w.nsid with
      | none => s
      | some v =>
        match stripeParity l st k old v s with
        | none => s
        | some ps =>
          let blocks := parityBlocks (layoutK l s) ps
          match tryAlloc 0xB 3 blocks.length s with
          | none => s
          | some (hs, t) =>
            let t := t.each (hs.zip blocks) fun x u => putUnit (handleUnit x.1 s) (ofCode x.2.2.2) u
            stripePlace l st k (stripeAll l st k v ps hs s) s t
  | _, _ => s

/-! ### Degraded reads (R433 to R435) -/

/-- A command's read ends unrecovered at a block (R373): an Error Information entry, and the command fails. -/
def failRead (k nsid lba : Nat) (s : State) : State :=
  match s.cmd k with
  | some c => if c.status.isSome then s
    else failCmd k stUnrec ((s.errInfo c.ctl c.qid c.e.cid.toNat stUnrec lba nsid).modCmd k fun d => { d with err := some lba })
  | none => s

/-- A block is delivered to a command (R93). -/
def deliverTo (k a : Nat) (b : Block) (s : State) : State :=
  match s.cmd k with
  | some c => match c.data.find? fun d => d.1 == a with
    | some (_, some u) => putUnit u b s
    | _ => s
  | none => s

def dropRecon (r : Recon) (s : State) : State := { s with gath := { s.gath with recon := s.gath.recon.filter fun x => x != r } }

/-- Commands of a reconstruction leave the ladder that runs beside it (R434). -/
def leaveOne (nsid lba k : Nat) (s : State) : State :=
  let g := fun (l : Ladder) => if l.lblk == some (nsid, lba) then { l with cmds := l.cmds.filter (· != k) } else l
  s.each allChans fun n t => ladderSync n (t.modSched n fun y => { y with ladders := y.ladders.map g })

/-- Strips of a stripe that the layout cannot read now. -/
def missingStrips (l : Fin 4) (st : Nat) (s : State) : Nat :=
  ((List.range (layoutK l s + layoutM l s)).filter fun i => gathStale l st i s || (gathSpot l st i 0 s).isNone).length

/-- GATH_RECONSTRUCT: `fetched` holds the blocks read from the other strips, by strip index. It waits while an update holds the stripe's
lock (R425). -/
def reconstruct (l : Fin 4) (nsid lba : Nat) (fetched : List (Nat × Block)) (s : State) : State :=
  match s.gath.recon.find? fun r => r.nsid == nsid && r.lba == lba, s.ns nsid with
  | some r, some v =>
    let x := nsPlace v lba s
    let st := x.2.2.1
    let j := x.2.2.2
    let k := layoutK l s
    let t := dropRecon r s
    if (s.layout l).locks.any fun y => y.1 == st && decide (0 < y.2.2) then s
    else if layoutM l s < missingStrips l st s then
      let u := t.inc F.GATH_CNT_UNREC |>.modLayout l fun y => { y with unrec := y.unrec + 1 }
      if r.ladder then u else u.each r.cmds fun c w => failRead c nsid lba w
    else
      let at_ := fun (i : Nat) => if i == j then none else (assocGet i fetched).map codeBytes
      let ds := (List.range k).filterMap fun i => (at_ i).map fun b => (i, b)
      let p := at_ k
      let q := if layoutM l s = 2 then at_ (k + 1) else none
      let a := solve k j ds p q
      let bad := ds.length + 1 == k && p.isSome && q.isSome && a != solve k j ds none q
      match a with
      | some bs =>
        if bad then
          let u := t.raise (hostSrc 21) l.val
          if r.ladder then u else u.each r.cmds fun c w => failRead c nsid lba w
        else
          let u := (t.inc F.GATH_CNT_RECON_CNT).modLayout l fun y => { y with recon := y.recon + 1 }
          u.each r.cmds fun c w => endItem c (leaveOne nsid lba c (deliverTo c lba (ofCode bs) w))
      | none => if r.ladder then t else t.each r.cmds fun c w => failRead c nsid lba w
  | _, _ => s

/-! ### Availability (R430, R432) -/

/-- GATH_CHANNEL_UNAVAILABLE: a channel that is reset, disabled or failed leaves every layout that uses it for the time. -/
def chanUnavailable (n : Ch) (s : State) : State :=
  if chanReady n s then s
  else gathSync (s.each allLayouts fun l t =>
    if committed l t && t.bit (F.GATH_LAYOUT_CHAN_MASK l) n && !t.bit (F.GATH_LSTAT_LOST l) n && !t.bit (F.GATH_LSTAT_UNAVAIL l) n then
      gathEvent (t.setBit (F.GATH_LSTAT_UNAVAIL l) n true) else t)

/-- A channel becomes LOST in a layout that uses it (R430). -/
def loseIn (l : Fin 4) (n : Ch) (s : State) : State :=
  if committed l s && s.bit (F.GATH_LAYOUT_CHAN_MASK l) n && !s.bit (F.GATH_LSTAT_LOST l) n then
    gathEvent (((s.setBit (F.GATH_LSTAT_LOST l) n true).setBit (F.GATH_LSTAT_UNAVAIL l) n false).modLayout l fun y =>
      { y with stale := y.stale.filter fun x => x.1 != n.val, rebAt := 0 })
  else s

/-- A channel whose enable check failed, or whose pseudo-channel did, is LOST in every layout (R430). -/
def loseChan (n : Ch) (s : State) : State := gathSync (s.each allLayouts fun l t => loseIn l n t)

/-- GATH_CHANNEL_LOST. -/
def chanLost (n : Ch) (s : State) : State :=
  gathSync (s.each allLayouts fun l t => if t.bit (F.GATH_LSTAT_UNAVAIL l) n || chanAbsent n t then loseIn l n t else t)

/-- The resync of a channel ends: PRESENT again. -/
def resyncEnd (l : Fin 4) (n : Ch) (s : State) : State := gathSync (gathEvent ((s.setBit (F.GATH_LSTAT_UNAVAIL l) n false).raise (hostSrc 22) l.val))

/-- GATH_CHANNEL_RESYNC: a marked strip of a channel that is enabled again has been reconstructed and written. -/
def chanResync (l : Fin 4) (n : Ch) (strip : Nat) (s : State) : State :=
  if !committed l s || !s.bit (F.GATH_LSTAT_UNAVAIL l) n || !chanReady n s then s
  else
    let t := gathSync (s.modLayout l fun y => { y with stale := y.stale.filter fun x => x != (n.val, strip) })
    if (t.layout l).stale.any fun x => x.1 == n.val then t else resyncEnd l n t

/-- The namespace and logical block of block `o` of data strip `j` of a stripe. -/
def stripeBlock (l : Fin 4) (st j o : Nat) (s : State) : Option (Nat × Nat) :=
  let k := layoutK l s
  ((nssOn l s).find? fun v => decide (v.base ≤ st) && decide ((st - v.base) * (64 * k) < v.nsze)).map fun v =>
    (v.nsid, (st - v.base) * (64 * k) + 64 * j + o)

/-- A block is left unreadable until it is written (R412). -/
def markBad (nsid a : Nat) (s : State) : State :=
  (s.modNs nsid fun v => { v with bad := if v.bad.contains a then v.bad else v.bad ++ [a] }).errUnread nsid a

/-- GATH_START_RESYNC: a stripe with an intent is resynced; `failed` are the data sectors that fail, as 64 × strip + block:
one that the intent names, and one that more fail beside than the old parity can replace, is unreadable until it is written. -/
def startResync (l : Fin 4) (st : Nat) (failed : List Nat) (s : State) : State :=
  match (s.layout l).intents.find? fun x => x.1 == st with
  | none => s
  | some x =>
    if (s.layout l).locks.any fun y => y.1 == st then s
    else
      let many := fun (f : Nat) => decide (layoutM l s < (failed.filter fun g => g % 64 == f % 64).length)
      let lost := failed.filter fun f => x.2.testBit (f / 64) || many f
      let t := s.each lost fun f u => match stripeBlock l st (f / 64) (f % 64) u with
        | some b => (markBad b.1 b.2 u).raise (hostSrc 20) l.val
        | none => u
      t.modLayout l fun y => { y with intents := y.intents.filter (fun z => z.1 != st), resync := y.resync.filter (· != st) }

/-! ### Rebuild (R436 to R439) -/

/-- The strip index that channel `c` holds in a stripe. -/
def stripOn (l : Fin 4) (st c : Nat) (s : State) : Option Nat := (List.range (layoutK l s + layoutM l s)).find? fun i => (stripAt l st i s).1 == c

/-- The target of a rebuilt strip of a stripe. -/
def rebuildTarget (l : Fin 4) (st : Nat) (s : State) : Option Nat :=
  let w := layoutW l s
  let km := layoutK l s + layoutM l s
  let cs := layoutChans l s
  ((List.range w).map fun i => cs.getD ((st + km + i) % w) 0).find? fun c =>
    (stripOn l st c s).isNone && (!(s.layout l).rebuilt.any fun r => r.1 == st && r.2.2.1 == c) &&
      !s.bit (F.GATH_LSTAT_UNAVAIL l) c && !gathMissing l c s && (spareSlot (chOf c) (s.layout l).spareAt[chOf c] 63 s).isSome

/-- Whether a later stripe holds a strip of a channel. -/
def laterStrip (l : Fin 4) (st c : Nat) (s : State) : Bool :=
  let tot := s.get (F.GATH_EXTENT_EXTENT l) / max 1 (layoutK l s + layoutM l s) * layoutW l s
  (List.range (layoutW l s)).any fun d => decide (st + d + 1 < tot) && (stripOn l (st + d + 1) c s).isSome

/-- GATH_REBUILD_STRIP: the strip of a LOST channel has been rebuilt into the target's next free spare strip, and its map entry
is programmed; or it cannot be rebuilt. -/
def rebuildStrip (l : Fin 4) (st : Nat) (n : Ch) (s : State) : State :=
  if !committed l s || !s.bit (F.GATH_LSTAT_LOST l) n || decide (layoutW l s ≤ layoutK l s + layoutM l s) || decide (st < (s.layout l).rebAt) ||
      !s.flag F.GATH_REBUILD_ACTIVE || s.get F.GATH_REBUILD_LAYOUT != l.val || s.flag F.GATH_REBUILD_RESYNC ||
      (s.layout l).locks.any fun x => x.1 == st && decide (0 < x.2.2) then s
  else match stripOn l st n.val s with
    | none => s
    | some i =>
      if (s.layout l).rebuilt.any fun r => r.1 == st && r.2.1 == i then s
      else
        let t := s.modLayout l fun y => { y with rebAt := st }
        let t :=
          if layoutM l s < missingStrips l st s then (t.inc F.GATH_CNT_UNREC).raise (hostSrc 20) l.val |>.modLayout l fun y => { y with unrec := y.unrec + 1 }
          else match rebuildTarget l st s with
            | some c => t.modLayout l fun y => { y with
                rebuilt := y.rebuilt ++ [(st, i, c, y.spareAt[chOf c])], spareAt := y.spareAt.set (chOf c) (y.spareAt[chOf c] + 1) }
            | none => t
        let t := gathSync t
        if laterStrip l st n.val s || (layoutChans l s).any fun c => s.bit (F.GATH_LSTAT_LOST l) c && (stripOn l st c s).any fun j =>
            !(t.layout l).rebuilt.any fun r => r.1 == st && r.2.1 == j then t
        else
          let t := gathEvent (t.raise (hostSrc 22) l.val)
          layoutSync l ((t.setFlag F.GATH_REBUILD_ACTIVE false).modLayout l fun y => { y with rebAt := st + 1 })

/-! ### Block reset (R443) -/

/-- A GATH block reset: configuration at reset; layouts, channel states and maps come back from the Flyleaf; commands with work
in GATH complete with Internal Error (R377). -/
def gathReset (s : State) : State :=
  let t := dropDrafts ((resetRecord 6 2 s).resetRegs 0x700044 0x700050)
  let ks := allLayouts.flatMap fun l => (s.layout l).locks.map fun x => x.2.1
  let t := t.each (s.host.cmds.filter fun c => c.waitChk == some 9 || c.waitChk == some 25) fun c u => u.finish c.k stInternal
  let t := t.each (ks ++ s.gath.recon.flatMap fun r => r.cmds) fun k u => failCmd k stInternal u
  let t := { t with gath := { t.gath with
    check := none, recon := [], lay := t.gath.lay.map fun (y : Layout) => { y with locks := [], pendInt := [], rebAt := 0 } } }
  let t := t.each ks fun k u => u.modVers k fun w => if w.acc then { w with run := false } else w
  pump (gathSync t)

/-! ### Commands -/

/-- GATH_LAYOUT_COMMIT (R420): a register write. -/
def execGathLayoutCommit (l : Fin 4) (s : State) : Host.Outcome State Fault Refusal := .next (arbWrite 0x700040 (commitStart l false false) s)
/-- GATH_INTENT_PROGRAM (R428). -/
def execGathIntentProgram (s : State) : Host.Outcome State Fault Refusal := .next (intentProgram s)
/-- GATH_STRIPE_UPDATE (R426). -/
def execGathStripeUpdate (l : Fin 4) (stripe k : Nat) (old : List (Nat × Block)) (s : State) : Host.Outcome State Fault Refusal :=
  .next (stripeUpdate l stripe k old s)
/-- GATH_START_RESYNC (R429). -/
def execGathStartResync (l : Fin 4) (stripe : Nat) (failed : List Nat) (s : State) : Host.Outcome State Fault Refusal :=
  .next (if stopped s then s else startResync l stripe failed s)
/-- GATH_CHANNEL_UNAVAILABLE (R430). -/
def execGathChannelUnavailable (n : Ch) (s : State) : Host.Outcome State Fault Refusal := .next (chanUnavailable n s)
/-- GATH_CHANNEL_LOST (R430). -/
def execGathChannelLost (n : Ch) (s : State) : Host.Outcome State Fault Refusal := .next (chanLost n s)
/-- GATH_CHANNEL_RESYNC (R432). -/
def execGathChannelResync (l : Fin 4) (n : Ch) (strip : Nat) (s : State) : Host.Outcome State Fault Refusal := .next (if stopped s then s else chanResync l n strip s)
/-- GATH_RECONSTRUCT (R433). -/
def execGathReconstruct (l : Fin 4) (nsid lba : Nat) (fetched : List (Nat × Block)) (s : State) : Host.Outcome State Fault Refusal :=
  .next (reconstruct l nsid lba fetched s)
/-- GATH_REBUILD_STRIP (R436). -/
def execGathRebuildStrip (l : Fin 4) (stripe : Nat) (n : Ch) (s : State) : Host.Outcome State Fault Refusal := .next (if stopped s then s else rebuildStrip l stripe n s)
/-- GATH_BLOCK_RESET (R443). -/
def execGathBlockReset (s : State) : Host.Outcome State Fault Refusal := .next (gathReset s)

end Sys2Proof.Machine
end

