-- ==== Sys2Proof/Machine/Host.lean ====
section
/-! DEFINITION. Command intake and completion (chapters 10 and 11): doorbells, arbitration and fetch, stamps, range locks,
protection information, the transfer of data, and the handing over and posting of completions. -/

namespace Sys2Proof

/-! ### Fields of an entry (NVM Express, log entry 7) -/

def Sqe.slba (e : Sqe) : Nat := e.cdw10.toNat + e.cdw11.toNat * 4294967296
def Sqe.nlb (e : Sqe) : Nat := e.cdw12.toNat % 65536 + 1
def Sqe.ns (e : Sqe) : Nat := e.nsid.toNat
/-- Low byte of dword 10: the CNS, LID or feature identifier. -/
def Sqe.sel (e : Sqe) : Nat := e.cdw10.toNat % 256
/-- Zone Management Send: the zone action. -/
def Sqe.zsa (e : Sqe) : Nat := e.cdw13.toNat % 256
/-- Dataset Management: Deallocate. -/
def Sqe.dealloc (e : Sqe) : Bool := e.cdw11.getLsbD 2

/-- PRACT and PRCHK of a command. -/
def Sqe.pract (e : Sqe) : Bool := e.cdw12.getLsbD 29
def Sqe.chkGuard (e : Sqe) : Bool := e.cdw12.getLsbD 28
def Sqe.chkApp (e : Sqe) : Bool := e.cdw12.getLsbD 27
def Sqe.chkRef (e : Sqe) : Bool := e.cdw12.getLsbD 26

/-- Blocks of a zone (R328). -/
def zoneSize : Nat := 262144

/-- Whether an I/O command is a write (R350). -/
def Sqe.writes (e : Sqe) : Bool :=
  [0x01#8, 0x08#8, 0x19#8, 0x7D#8].contains e.opc || (e.opc == 0x09#8 && e.dealloc) || (e.opc == 0x79#8 && [2, 4, 5].contains e.zsa)

end Sys2Proof

namespace Sys2Proof.Machine

/-! ### Queues -/

def State.sq (s : State) (c : Ctl) (qid : Nat) : Option Sq := s.host.sqs.find? fun q => q.ctl == c && q.qid == qid
def State.modSq (s : State) (c : Ctl) (qid : Nat) (f : Sq → Sq) : State :=
  s.modHost fun h => { h with sqs := h.sqs.map fun q => if q.ctl == c && q.qid == qid then f q else q }
def State.cq (s : State) (c : Ctl) (qid : Nat) : Option Cq := s.host.cqs.find? fun q => q.ctl == c && q.qid == qid
def State.modCq (s : State) (c : Ctl) (qid : Nat) (f : Cq → Cq) : State :=
  s.modHost fun h => { h with cqs := h.cqs.map fun q => if q.ctl == c && q.qid == qid then f q else q }

/-- Bring OPEN_CNT up to date. -/
def openSync (s : State) : State := s.set F.NVME_INTAKE_OPEN_CNT s.host.cmds.length

/-- An invalid doorbell write (R320, R340, R346): recorded, reported, otherwise ignored. -/
def badDoorbell (c : Ctl) (qid : Nat) (isCq : Bool) (s : State) : State :=
  let t := if s.flag F.NVME_DBERR_VALID then s
    else (((s.set F.NVME_DBERR_QID qid).setFlag F.NVME_DBERR_CQ isCq).set F.NVME_DBERR_CTRL c.val).setFlag F.NVME_DBERR_VALID true
  (t.raise (hostSrc 4) c.val).aen c 0 0x01 0x01

/-- SQ_TAIL_DOORBELL (R320, R338). A doorbell of no queue, and of a queue being deleted, is ignored. -/
def sqTail (c : Ctl) (qid tail : Nat) (s : State) : State :=
  match s.sq c qid with
  | none => s
  | some q =>
    if q.gone then s
    else if q.size ≤ tail then badDoorbell c qid false s
    else
      let add := (tail + q.size - q.tail) % q.size
      if q.size - 1 - q.avail < add then badDoorbell c qid false s
      else s.modSq c qid fun x => { x with tail := tail, avail := x.avail + add }

/-- CQ_HEAD_DOORBELL (R320, R321). -/
def cqHead (c : Ctl) (qid head : Nat) (s : State) : State :=
  match s.cq c qid with
  | none => s
  | some q => if q.size ≤ head then badDoorbell c qid true s else s.modCq c qid fun x => { x with head := head }

/-! ### Checks at the fetch (R325, R326, R330, R376, R378) -/

def adminOpcodes : List Byte :=
  [0x00, 0x01, 0x02, 0x04, 0x05, 0x06, 0x08, 0x09, 0x0A, 0x0C, 0x0D, 0x10, 0x11, 0x14, 0x15, 0x1D, 0x1E, 0x80, 0x84]
def ioOpcodes : List Byte := [0x00, 0x01, 0x02, 0x08, 0x09, 0x0C, 0x0D, 0x0E, 0x11, 0x15, 0x19, 0x79, 0x7A, 0x7D]
def logPages : List Nat := [0x01, 0x02, 0x03, 0x04, 0x05, 0x06, 0x80, 0x81, 0xC0, 0xC1, 0xC2, 0xC3]
def featureIds : List Nat := [0x01, 0x05, 0x06, 0x07, 0x08, 0x0B, 0x81, 0xC0, 0xC1, 0xC2, 0xC3]

/-- R616: a bit of dword 11 that must be zero is set. -/
def vendorBits (fid : Nat) (dw : W32) : Bool :=
  match fid with
  | 0xC0 => dw.toNat / 16777216 != 0
  | 0xC1 => dw.toNat / 2048 != 0
  | 0xC2 => dw.toNat / 33554432 != 0
  | 0xC3 => dw.toNat / 256 != 0 || dw.getLsbD 3
  | _ => false

/-- The status of an admin command that no further step decides. -/
def adminStatus (e : Sqe) : Option Nat :=
  if !adminOpcodes.contains e.opc then some stOpcode
  else match e.opc.toNat with
    | 0x02 => if logPages.contains e.sel then none else some (sct 1 0x09)
    | 0x06 => if [0, 1, 5].contains e.sel then none else some stField
    | 0x09 =>
      if !featureIds.contains e.sel || vendorBits e.sel e.cdw11 then some stField
      else if e.sel == 0xC3 then
        let a := e.cdw11.toNat / 16 % 16
        if a == 0 then some stOk else if 7 ≤ a then some stField else none
      else none
    | 0x0A => if featureIds.contains e.sel then none else some stField
    | 0x0D => if e.cdw10.toNat % 16 ≤ 1 then none else some stField
    | 0x10 => if e.cdw10.toNat / 8 % 8 ≤ 3 then none else some stField
    | 0x14 => if [0x1, 0x2, 0xF].contains (e.cdw10.toNat % 16) then none else some stField
    | 0x15 => if e.cdw10.toNat % 16 ≤ 1 then none else some stField
    | 0x84 => if e.cdw10.toNat % 8 == 3 then none else some stField
    | _ => none

/-- The status of an admin command as the device stands: recovery mode accepts four commands (R566, log entry 60). -/
def adminCheck (e : Sqe) (s : State) : Option Nat :=
  if s.flag F.RST_BOOTSTAT_RECOVERY && !([0x02#8, 0x06#8, 0x10#8, 0x11#8].contains e.opc) then some stOpcode else adminStatus e

/-- Whether a channel has come up since the boot, has failed, or is absent (R568, R14). -/
def chanSettled (n : Ch) (s : State) : Bool := s.boot.chUp.getLsbD n.val || chanFailed n s || chanAbsent n s

/-- Whether the channels that a namespace lies on have come up (R568). -/
def chansSettled (v : Ns) (s : State) : Bool :=
  if v.place < 8 then chanSettled (chOf v.place) s
  else let l := layoutOf v
    (layoutChans l.val s).all fun n => s.bit (F.GATH_LSTAT_LOST l) n || chanSettled (chOf n) s

/-- Whether a namespace can serve commands (R318, R376, R378, R411, R429, R568). -/
def nsReady (v : Ns) (s : State) : Bool :=
  !v.busy && chansSettled v s && ((v.stream && (!v.dup || s.get F.FLY_STAT_STATE != 1)) || decide (2 ≤ s.get F.FLY_STAT_STATE)) &&
    (decide (v.place < 8) || (s.layout (layoutOf v)).resync.isEmpty)

/-- Whether an I/O opcode belongs to the namespace's command set (R326). -/
def setOk (v : Ns) (opc : Byte) : Bool :=
  if v.zoned then !([0x09#8, 0x19#8].contains opc) else !([0x79#8, 0x7A#8, 0x7D#8].contains opc)

/-- The status of an I/O command that no further step decides. -/
def ioStatus (c : Ctl) (e : Sqe) (s : State) : Option Nat :=
  if !ioOpcodes.contains e.opc then some stOpcode
  else if e.ns == 0 || decide (64 < e.ns) then some stInvalidNs
  else match s.ns e.ns with
    | none => some stField
    | some v =>
      if !v.attach.contains c then some stField
      else if !setOk v e.opc then some stOpcode
      else if !nsReady v s then some stNotReady
      else if [0x01#8, 0x02#8].contains e.opc && decide (512 < e.nlb) then some stField
      else if e.opc == 0x7D#8 && decide (256 < e.nlb) then some stField
      else if [0x01#8, 0x02#8, 0x08#8, 0x0C#8].contains e.opc && decide (v.nsze < e.slba + e.nlb) then some stLbaRange
      else if [0x79#8, 0x7A#8, 0x7D#8].contains e.opc && decide (v.nsze ≤ e.slba) then some stLbaRange
      else if e.opc == 0x09#8 && !e.dealloc then some stOk
      else none

/-! ### Commands -/

/-- The ranges a command covers as far as its entry gives them (R357, R363). -/
def sqeRanges (e : Sqe) : List LRange :=
  if [0x01#8, 0x02#8, 0x08#8, 0x0C#8].contains e.opc then [⟨e.slba, e.nlb⟩]
  else if e.opc == 0x79#8 then [⟨e.slba / zoneSize * zoneSize, zoneSize⟩]
  else if e.opc == 0x7D#8 then [⟨e.slba / zoneSize * zoneSize, zoneSize⟩]
  else []

/-- Journal entries of a command (R391, R613): those its entry names; for a Copy as many as its ranges can hold, of which the rest stay
unused (DESIGN CHOICE, log entry 77). -/
def seqCount (e : Sqe) : Nat :=
  if [0x01#8, 0x7D#8].contains e.opc then e.nlb
  else if e.opc == 0x08#8 then 1
  else if e.opc == 0x09#8 then e.cdw10.toNat % 256 + 1
  else if e.opc == 0x79#8 then 1
  else if e.opc == 0x19#8 then (e.cdw12.toNat % 256 + 1) * 65536
  else 0

def Cmd.new (k : Nat) (c : Ctl) (qid : Nat) (e : Sqe) : Cmd where
  k := k
  ctl := c
  qid := qid
  e := e
  posting := false
  started := false
  status := none
  dw0 := 0
  dw1 := 0
  dead := false
  ranges := if qid = 0 ∨ qid = 65536 then [] else sqeRanges e
  wr := qid != 0 && qid != 65536 && e.writes
  handles := []
  wantBuf := 0
  wantXfer := false
  items := 0
  ents := 0
  begun := false
  seq0 := 0
  seqLen := 0
  verWait := []
  zmd := []
  stampWait := none
  lockWait := false
  after := none
  delQ := none
  err := none
  todo := []
  shares := []
  srcs := []
  phase := 0
  waitChk := none
  data := []
  done := false

/-- Add a command in fetch order (R334, R349). -/
def addCmd (c : Ctl) (qid : Nat) (e : Sqe) (st : Option Nat) (s : State) : State :=
  openSync (s.modHost fun h => { h with cmds := h.cmds ++ [{ Cmd.new h.nextK c qid e with status := st }], nextK := h.nextK + 1 })

/-! ### Request stamps (R362 to R365) -/

/-- Whether a bookmark is of the same write: same opcode, first block and count. A Zone Append names its zone. -/
def Bookmark.same (b : Bookmark) (c : Cmd) : Bool :=
  b.opc == c.e.opc.toNat &&
    (if c.e.opc == 0x7D#8 then b.lba / zoneSize == c.e.slba / zoneSize && b.cnt == c.e.nlb
     else b.lba == (bmRange c).1 && b.cnt == (bmRange c).2)

/-- An earlier-fetched write with the same stamp that has not ended. -/
def stampHeld (c : Cmd) (s : State) : Option Cmd :=
  s.host.cmds.find? fun d => decide (d.k < c.k) && d.wr && d.e.nsid == c.e.nsid && d.e.stamp == c.e.stamp && d.status.isNone && !d.done

/-- Handle a stamped write (R364). The first part says that it executes as a new write. -/
def stampLookup (c : Cmd) (s : State) : Bool × State :=
  match s.ns c.e.ns with
  | none => (true, s)
  | some v =>
    if !c.wr || !stamped c v then (true, s)
    else match findBookmark v.nsid c.e.stamp s with
      | some b =>
        if b.same c then
          let t := s.incWrap F.NVME_BKCNT1_HITS
          (false, if c.e.opc == 0x7D#8 then t.finishDw c.k b.status (b.lba % 4294967296) (b.lba / 4294967296) else t.finishDw c.k b.status 0xC2 0)
        else (false, (s.inc F.NVME_BKCNT2_MISMATCH).finish c.k stField)
      | none => match stampHeld c s with
        | some d => (false, s.modCmd c.k fun x => { x with stampWait := some d.k })
        | none => (true, s)

/-! ### Range locks (R357, R358) -/

def lockSync (s : State) : State :=
  let n := s.host.locks.length
  (s.set F.NVME_RLOCK_USED n).set F.NVME_RLOCK_PEAK (max n (s.get F.NVME_RLOCK_PEAK))

/-- The table entries a command takes: one for each range, for a Copy each source and the destination. -/
def lockEntries (c : Cmd) : List Lock :=
  (c.ranges.map fun r => ⟨c.k, c.e.ns, r.lba, r.cnt, c.wr⟩) ++ c.srcs.map fun r => ⟨c.k, c.e.ns, r.lba, r.cnt, false⟩

/-- Whether a command takes range-lock entries. -/
def locking (c : Cmd) (s : State) : Bool :=
  match s.ns c.e.ns with
  | some v => v.strict && !(lockEntries c).isEmpty && (c.wr || c.e.opc == 0x02#8 || c.e.opc == 0x0C#8)
  | none => false

/-- Take all entries of a command, or none: it then waits and the table counts as full. -/
def takeLocks (k : Nat) (s : State) : State :=
  match s.cmd k with
  | none => s
  | some c =>
    let es := lockEntries c
    if !locking c s || s.host.locks.any fun l => l.k == k then s
    else if s.host.locks.length + es.length ≤ 256 then
      lockSync ((s.modHost fun h => { h with locks := h.locks ++ es }).modCmd k fun d => { d with lockWait := false })
    else (s.setFlag F.NVME_RLOCK_FULL true).modCmd k fun d => { d with lockWait := true }

def rangesMeet (a b : LRange) : Bool := decide (a.lba < b.lba + b.cnt) && decide (b.lba < a.lba + a.cnt)

/-- Whether an earlier-fetched command of the same namespace conflicts with `c`; a Dataset Management or Copy whose ranges are not
known yet counts as covering all of it. -/
def conflicts (d c : Cmd) : Bool :=
  d.e.nsid == c.e.nsid && decide (d.k < c.k) && (d.wr || c.wr) &&
    (([0x09#8, 0x19#8].contains d.e.opc && !d.started) ||
      (lockEntries d).any fun x => (lockEntries c).any fun y => (x.wr || y.wr) && rangesMeet ⟨x.lba, x.cnt⟩ ⟨y.lba, y.cnt⟩)

/-- Whether a Strict Ordering command may start. -/
def lockClear (c : Cmd) (s : State) : Bool :=
  match s.ns c.e.ns with
  | some v => !v.strict || !s.host.cmds.any fun d => decide (0 < d.qid) && decide (d.qid < 65536) && conflicts d c
  | none => true

/-- RANGE_LOCK_GRANT: the waiting commands take their entries in fetch order while they fit. -/
def lockGrant (s : State) : State :=
  (s.host.cmds.filter fun c => c.lockWait).foldl (fun t c =>
    if (t.host.cmds.any fun d => d.lockWait && decide (d.k < c.k)) then t else takeLocks c.k t) s

/-! ### Arbitration (R322, R323) -/

/-- Whether an I/O queue of a controller has entries to fetch. -/
def Sq.waiting (q : Sq) (c : Ctl) : Bool := q.ctl == c && decide (0 < q.qid) && !q.gone && decide (0 < q.avail)

/-- The next queue in round robin after queue `last`. -/
def rrNext (last : Nat) (qs : List Sq) : Option Sq :=
  let pick := fun (l : List Sq) => l.foldl (fun (m : Option Sq) q => match m with
    | none => some q
    | some x => if q.qid < x.qid then some q else some x) none
  match pick (qs.filter fun q => decide (last < q.qid)) with
  | some q => some q
  | none => pick qs

/-- Weight of a class: HPW + 1, MPW + 1, LPW + 1. -/
def classWeight (arb cl : Nat) : Nat := match cl with | 1 => arb / 16777216 % 256 + 1 | 2 => arb / 65536 % 256 + 1 | _ => arb / 256 % 256 + 1

/-- The queue an arbitration grants, with the controller's pointers after it. A grant uses one credit of its class
(DEDUCED). -/
def arbitrate (c : Ctl) (s : State) : Option (Sq × Ctlr) :=
  let t := s.ctlr c
  let qs := s.host.sqs.filter fun q => q.waiting c
  match s.host.sqs.find? fun q => q.ctl == c && q.qid == 0 && decide (0 < q.avail) with
  | some q => some (q, t)
  | none =>
    if t.ams != 1 then (rrNext t.last[4] qs).map fun q => (q, { t with last := t.last.set 4 q.qid })
    else match rrNext t.last[0] (qs.filter fun q => q.prio == 0) with
      | some q => some (q, { t with last := t.last.set 0 q.qid })
      | none =>
        let cr := t.credits
        let full := (classWeight t.arb 1, classWeight t.arb 2, classWeight t.arb 3)
        let pick := fun (cr : Nat × Nat × Nat) =>
          match (if cr.1 = 0 then none else rrNext t.last[1] (qs.filter fun q => q.prio == 1)) with
          | some q => some (q, { t with last := t.last.set 1 q.qid, credits := (cr.1 - 1, cr.2.1, cr.2.2) })
          | none => match (if cr.2.1 = 0 then none else rrNext t.last[2] (qs.filter fun q => q.prio == 2)) with
            | some q => some (q, { t with last := t.last.set 2 q.qid, credits := (cr.1, cr.2.1 - 1, cr.2.2) })
            | none => match (if cr.2.2 = 0 then none else rrNext t.last[3] (qs.filter fun q => q.prio == 3)) with
              | some q => some (q, { t with last := t.last.set 3 q.qid, credits := (cr.1, cr.2.1, cr.2.2 - 1) })
              | none => none
        match pick cr with
        | some x => some x
        | none => pick full

/-- One entry is fetched (R319, R325, R326, R357, R364, R379, R391). -/
def fetchOne (c : Ctl) (qid : Nat) (e : Sqe) (s : State) : State :=
  let k := s.host.nextK
  let st := if s.flag F.FAULT_STAT_SAFE then some stInternal else if qid = 0 then adminCheck e s else ioStatus c e s
  let t := (addCmd c qid e st s).modSq c qid fun q => { q with avail := q.avail - 1 }
  if qid = 0 || st.isSome then t
  else
    let n := match t.ns e.ns with | some v => if v.stream || !e.writes then 0 else seqCount e | none => 0
    let t := (t.modCmd k fun x => { x with seq0 := t.fly.nextSeq, seqLen := n }).modFly fun y => { y with nextSeq := y.nextSeq + n }
    if [0x09#8, 0x19#8].contains e.opc then t
    else match t.cmd k with
      | none => t
      | some x =>
        let r := stampLookup x t
        match r.2.cmd k with
        | some y => if y.status.isSome then r.2 else takeLocks k r.2
        | none => r.2

/-- Whether fetching stops at an entry: a Strict Ordering command waits for the table (R358). -/
def fetchHeld (qid : Nat) (e : Sqe) (s : State) : Bool :=
  qid != 0 && (s.host.cmds.any fun c => c.lockWait) && (match s.ns e.ns with | some v => v.strict | none => false)

def fetchMany (c : Ctl) (qid : Nat) : List Sqe → State → State
  | [], s => s
  | e :: es, s => if fetchHeld qid e s then s else fetchMany c qid es (fetchOne c qid e s)

/-- COMMAND_FETCH: one grant of the arbitration; `es` are the entries found in the granted queue. -/
def commandFetch (c : Ctl) (es : List Sqe) (s : State) : State :=
  let t := s.ctlr c
  if !t.en || !t.rdy || s.flag F.NVME_INTAKE_FETCH_STOP then s
  else match arbitrate c s with
    | none => s
    | some (q, u) =>
      let ab := t.arb % 8
      let n := if ab = 7 then q.avail else min q.avail (2 ^ ab)
      fetchMany c q.qid (es.take n) (s.modCtlr c fun _ => u)

/-! ### Protection information (R19, R328) -/

def piGuard (d : List Byte) : Nat := crcMsb 16 0x8BB7 0 (d.flatMap fun b => bitsMsb 8 b.toNat)

/-- The reference tag of block `i` of a command. -/
def refTag (v : Ns) (e : Sqe) (i : Nat) : Nat := (e.cdw14.toNat + if v.pi == 3 then 0 else i) % 4294967296

/-- The metadata field with protection information generated. -/
def piMake (v : Ns) (e : Sqe) (i : Nat) (d : List Byte) : List Byte :=
  bytesBe 2 (piGuard d) ++ bytesBe 2 (e.cdw15.toNat % 65536) ++ bytesBe 4 (refTag v e i)

/-- The status of a check of a block's protection information; none when it passes. -/
def piCheck (v : Ns) (e : Sqe) (i : Nat) (b : Block) : Option Nat :=
  let app := ofBytesBe ((b.md.drop 2).take 2)
  let ref := ofBytesBe ((b.md.drop 4).take 4)
  let mask := e.cdw15.toNat / 65536
  if v.pi == 0 || v.lbaf != 1 then none
  else if app == 0xFFFF && (v.pi != 3 || ref == 0xFFFFFFFF) then none
  else if e.chkGuard && ofBytesBe (b.md.take 2) != piGuard b.data then some (sct 2 0x82)
  else if e.chkApp && (app &&& mask) != (e.cdw15.toNat % 65536 &&& mask) then some (sct 2 0x83)
  else if e.chkRef && v.pi != 3 && ref != refTag v e i then some (sct 2 0x84)
  else none

/-- Whether the device inserts the protection information on a write and strips it on a read. -/
def piInserts (v : Ns) (e : Sqe) : Bool := v.pi != 0 && v.lbaf == 1 && e.pract

/-! ### Host data of a write (R19 steps 3 to 5, R20, R317) -/

/-- Whether a command that is no write of blocks reads host memory besides its entry: ranges, keys, identifiers, an image. -/
def readsHost (c : Cmd) : Bool :=
  if c.qid == 65536 then false
  else if c.qid == 0 then
    [0x11#8, 0x15#8, 0x1D#8].contains c.e.opc || (c.e.opc == 0x09#8 && c.e.sel == 0x81) || (c.e.opc == 0x0D#8 && c.e.cdw10.toNat % 16 == 0)
  else [0x09#8, 0x0D#8, 0x11#8, 0x15#8, 0x19#8].contains c.e.opc

/-- HOST_DATA_TRANSFER_DONE. -/
def transferDone (k : Nat) (ok : Bool) (data : List Block) (s : State) : State :=
  match s.cmd k with
  | none => s
  | some c =>
    if c.status.isSome then s
    else if !c.wantXfer then
      if !ok && !c.started && readsHost c then (failCmd k stTransfer s).raise (hostSrc 2) c.ctl.val else s
    else if !ok || data.length != c.handles.length then (failCmd k stTransfer s).raise (hostSrc 2) c.ctl.val
    else match s.ns c.e.ns with
      | none => failCmd k stInvalidNs s
      | some v =>
        let ins := piInserts v c.e
        let bs := data.zipIdx.map fun x => if ins then { x.1 with md := piMake v c.e x.2 x.1.data } else x.1
        match (if ins then [] else data.zipIdx).findSome? fun x => piCheck v c.e x.2 x.1 with
        | some st => failCmd k st s
        | none =>
          let base := (c.ranges.head?.map fun r => r.lba).getD 0
          let t := (putBlocks c.handles bs s).modCmd k fun d => { d with wantXfer := false }
          beginEffect c v (c.handles.zipIdx.map fun x => ⟨base + x.2, 1, 1, some x.1, none⟩) t

/-! ### The data of a read (R22 step 6, R488) -/

/-- Whether the data of a unit may be handed to the host. -/
def unitGood (u : Nat) (s : State) : Bool :=
  match assocGet u s.ream.sides with
  | some sd => !sd.poison && sd.valid && sd.crc == crc32c (s.dram.getRun (u * 4096) 4096)
  | none => false

/-- The blocks of a read in order, with the unit each lies in. -/
def readUnits (c : Cmd) : List (Nat × Option Nat) :=
  (readBlocks c).map fun a => (a, (c.data.find? fun d => d.1 == a).bind fun d => d.2)

/-- Metadata bytes of a format (R328). -/
def mdBytes (lbaf : Nat) : Nat := match lbaf with | 1 => 8 | 2 => 64 | _ => 0

/-- The bytes a read returns: data and, unless stripped, metadata, block by block. -/
def readBytes (v : Ns) (c : Cmd) (s : State) : List Nat :=
  let m := if piInserts v c.e then 0 else mdBytes v.lbaf
  (readUnits c).flatMap fun x => match x.2 with
    | some u => let b := getUnit u s; (b.data ++ b.md.take m).map BitVec.toNat
    | none => List.replicate 4096 0 ++ (zeroOf x.1 c).take m

/-- Blocks whose data fails its check when the host port reads it. -/
def badUnits (c : Cmd) (s : State) : List Nat :=
  (readUnits c).filterMap fun x => match x.2 with
    | some u => if unitGood u s then none else some x.1
    | none => none

/-- Read a block again whose unit failed its check: a version of the write buffer from its entry in the Flyleaf, any other block from the
media (R488). -/
def rereadBlock (c : Cmd) (v : Ns) (a : Nat) (s : State) : State :=
  match versionFor c.k v.nsid a s with
  | some w => lookupBlock c.k v a (if w.acc then s.modHost fun h => { h with wb := h.wb.map fun x => if x == w then { x with lost := true } else x } else s)
  | none => s.modCmd c.k fun d => { d with todo := d.todo ++ [a] }

/-- A read whose blocks are all there moves to the host, is reissued once for blocks that fail their check, or fails. -/
def readFinish (c : Cmd) (v : Ns) (s : State) : State :=
  match badUnits c s with
  | [] =>
    match (readUnits c).zipIdx.findSome? fun x => match x.1.2 with | some u => piCheck v c.e x.2 (getUnit u s) | none => none with
    | some st => failCmd c.k st s
    | none => (s.answer (readBytes v c s)).finish c.k stOk
  | a :: as =>
    if c.phase == 0 then
      placeTodo c.k ((s.modCmd c.k fun d => { d with phase := 1, data := d.data.filter fun x => !(a :: as).contains x.1 }).each (a :: as) fun b t =>
        rereadBlock c v b t)
    else ((failCmd c.k stUnrec s).modCmd c.k fun d => { d with err := some a }).errInfo c.ctl c.qid c.e.cid.toNat stUnrec a v.nsid

/-! ### Completion (R321, R331, R334, R335, R348, R354) -/

/-- Whether nothing a command waits for is left, so that it can complete with success. -/
def cmdSettled (c : Cmd) (s : State) : Bool :=
  c.settled && !(s.cache.specW.any fun w => w.1 == c.k) && !(s.fly.warmW.any fun w => w.1 == c.k) && (!c.wr || c.done)

/-- Bring a command's status to its end: data of a read, success of a settled command. -/
def cmdDecide (k : Nat) (s : State) : State :=
  match s.cmd k with
  | none => s
  | some c =>
    if c.status.isSome || !cmdSettled c s then s
    else match s.ns c.e.ns with
      | some v => if c.qid != 0 && c.e.opc == 0x02#8 then readFinish c v s else s.finish k stOk
      | none => s.finish k stOk

/-- Delete I/O Submission Queue commands complete once no command of their queue is left (R338). -/
def delSync (s : State) : State :=
  s.each s.host.cmds fun d t => match d.delQ with
    | none => t
    | some q =>
      if t.host.cmds.any fun c => c.ctl == d.ctl && c.qid == q then t
      else
        let t := t.modHost fun h => { h with sqs := h.sqs.filter fun x => !(x.ctl == d.ctl && x.qid == q) }
        (t.modCmd d.k fun x => { x with delQ := none }).finish d.k stOk

/-- A command leaves the table: what it holds is freed; the effect of a successful write stands and its destage begins. -/
def retireCmd (c : Cmd) (s : State) : State :=
  if c.begun && c.phase == 3 && !c.done && decide (0 < c.ents) && !c.dead && c.status == some stInternal then
    s.modCmd c.k fun d => { d with dead := true, posting := false }
  else
  let ok := c.wr && c.status == some stOk
  let clr := fun (v : Ns) => { v with bad := v.bad.filter fun a => !c.ranges.any fun r => decide (r.lba ≤ a) && decide (a < r.lba + r.cnt) }
  let t := if ok && c.done && decide (3 ≤ c.phase) then acceptWrite c (s.modNs c.e.ns clr) else s
  let c2 := (t.cmd c.k).getD c
  let t := freeCmd c2 t
  delSync (openSync (t.modHost fun h => { h with cmds := h.cmds.filter fun d => d.k != c.k }))

/-- The completion queue of a command. -/
def cmdCq (c : Cmd) (s : State) : Option Cq :=
  match s.sq c.ctl c.qid with
  | some q => s.cq c.ctl q.cqid
  | none => none

/-- Entries of a completion queue handed to the host port and not posted. -/
def cqPosting (q : Cq) (s : State) : Nat :=
  (s.host.cmds.filter fun c => c.posting && c.ctl == q.ctl && (cmdCq c s).any fun x => x.qid == q.qid).length

def cqRoom (q : Cq) (s : State) : Bool := decide ((q.tail + q.size - q.head) % q.size + cqPosting q s < q.size - 1)

/-- A write that has not begun and whose ranges are not known: they stand in host memory, or it is of all zones. -/
def rangesUnknown (d : Cmd) : Bool :=
  !d.started && d.status.isNone && ([0x09#8, 0x19#8].contains d.e.opc || (d.e.opc == 0x79#8 && d.e.cdw13.getLsbD 8))

/-- An earlier-fetched overlapping write that is not POSTED (R354). -/
def writeBefore (c : Cmd) (s : State) : Bool :=
  c.wr && s.host.cmds.any fun d => decide (d.k < c.k) && d.wr && d.e.nsid == c.e.nsid &&
    (rangesUnknown d || c.ranges.any fun x => d.ranges.any (rangesMeet x))

/-- COMPLETION_ENTRY_HANDOFF: the command becomes POSTING; one of a reset controller is discarded (R375). -/
def handoff (k : Nat) (s : State) : State :=
  let t := cmdDecide k s
  match t.cmd k with
  | none => t
  | some c =>
    if c.posting || c.status.isNone then t
    else if c.dead then retireCmd c t
    else if t.flag F.PWR_SUPPLY_PLOSS || writeBefore c t || (match c.after with | some a => (t.cmd a).isSome | none => false) then t
    else if c.qid = 65536 then t.modCmd k fun d => { d with posting := true }
    else match cmdCq c t with
      | none => t
      | some q => if cqRoom q t then t.modCmd k fun d => { d with posting := true } else t

/-- Coalescing threshold and time of a controller. -/
def coalThr (t : Ctlr) : Nat := t.coal % 256 + 1
def coalTime (t : Ctlr) : Nat := t.coal / 256 % 256

/-- Entries held for coalescing on a vector. -/
def vecHeld (c : Ctl) (vec : Nat) (s : State) : Nat :=
  (s.host.cqs.filter fun q => q.ctl == c && q.vec == vec).foldl (fun n q => n + q.held) 0

/-- Send the MSI-X message of a vector. -/
def sendMsix (c : Ctl) (vec : Nat) (s : State) : State :=
  (s.modHost fun h => { h with cqs := h.cqs.map fun q => if q.ctl == c && q.vec == vec then { q with held := 0 } else q }).modCtlr c
    fun t => { t with msix := t.msix ++ [vec] }

/-- The interrupt of a posted entry (R320, R331): never held for the admin queue or an error. -/
def interrupt (q : Cq) (st : Nat) (s : State) : State :=
  if !q.ien then s
  else
    let t := s.modCq q.ctl q.qid fun x => { x with held := x.held + 1 }
    if q.qid = 0 || st != 0 || coalTime (s.ctlr q.ctl) = 0 || decide (coalThr (s.ctlr q.ctl) ≤ vecHeld q.ctl q.vec t) then sendMsix q.ctl q.vec t
    else t

/-- The entry of a command is written at the tail of its completion queue, the phase tag last (R320). -/
def writeCqe (q : Cq) (c : Cmd) (s : State) : State :=
  let hd := match s.sq c.ctl c.qid with | some x => (x.tail + x.size - x.avail) % x.size | none => 0
  let e : Cqe := ⟨q.tail, c.dw0, c.dw1, hd, c.qid, c.e.cid.toNat, q.phase, c.status.getD 0⟩
  let nx := (q.tail + 1) % q.size
  s.modCq q.ctl q.qid fun x => { x with
    tail := nx, phase := if nx = 0 then !x.phase else x.phase, cqes := e :: x.cqes.filter fun y => y.slot != e.slot }

/-- COMPLETION_POSTED: the entry's last TLP is handed to the link layer (R348). -/
def posted (k : Nat) (s : State) : State :=
  match s.cmd k with
  | none => s
  | some c =>
    if !c.posting || s.flag F.PWR_SUPPLY_PLOSS then s
    else
      let t := match cmdCq c s with
        | some q => interrupt q (c.status.getD 0) (writeCqe q c s)
        | none => s
      retireCmd c t

/-! ### Commands of the table -/

/-- SQ_TAIL_DOORBELL (R320). -/
def execSqTailDoorbell (c : Ctl) (qid tail : Nat) (s : State) : Host.Outcome State Fault Refusal := .next (sqTail c qid tail s)
/-- CQ_HEAD_DOORBELL (R321). -/
def execCqHeadDoorbell (c : Ctl) (qid head : Nat) (s : State) : Host.Outcome State Fault Refusal := .next (cqHead c qid head s)
/-- COMMAND_FETCH (R322). -/
def execCommandFetch (c : Ctl) (es : List Sqe) (s : State) : Host.Outcome State Fault Refusal := .next (commandFetch c es s)
/-- COMPLETION_ENTRY_HANDOFF (R334). -/
def execCompletionEntryHandoff (k : Nat) (s : State) : Host.Outcome State Fault Refusal := .next (handoff k s)
/-- COMPLETION_POSTED (R348). -/
def execCompletionPosted (k : Nat) (s : State) : Host.Outcome State Fault Refusal := .next (posted k s)
/-- INTERRUPT_COALESCING_TIMER (R331). -/
def execInterruptCoalescingTimer (c : Ctl) (vec : Nat) (s : State) : Host.Outcome State Fault Refusal :=
  .next (if 0 < vecHeld c vec s then sendMsix c vec s else s)
/-- HOST_DATA_TRANSFER_DONE (R19). -/
def execHostDataTransferDone (k : Nat) (ok : Bool) (data : List Block) (s : State) : Host.Outcome State Fault Refusal :=
  .next (transferDone k ok data s)
/-- RANGE_LOCK_GRANT (R358). -/
def execRangeLockGrant (s : State) : Host.Outcome State Fault Refusal := .next (lockGrant s)
/-- STAMP_ORIGINAL_ENDED (R364): the duplicate that waits is handled once its original has ended. -/
def execStampOriginalEnded (k : Nat) (s : State) : Host.Outcome State Fault Refusal :=
  .next (match s.cmd k with
    | some c =>
      if c.stampWait.isNone || c.status.isSome || (stampHeld c s).isSome then s
      else (stampLookup { c with stampWait := none } (s.modCmd k fun d => { d with stampWait := none })).2
    | none => s)
/-- BOOKMARK_EXPIRE (R366): at powered-on time `now` the bookmarks past their namespace's window are dropped. -/
def execBookmarkExpire (now : Nat) (s : State) : Host.Outcome State Fault Refusal :=
  .next (
    let keep := fun (b : Bookmark) => match s.ns b.nsid with | some v => decide (now < b.pot + v.window) | none => false
    bkSync (s.modFly fun y => { y with pot := max now y.pot, bms := y.bms.filter keep }))

end Sys2Proof.Machine
end

