-- ==== Sys2Proof/Machine/Io.lean ====
section
/-! DEFINITION. The I/O commands (R19 to R24, R326, R353 to R361, R368 to R370, R613): Flush, Write, Read, Write Zeroes,
Dataset Management, Verify, Copy, the zone commands, and the read-ahead of the dispatcher. -/

namespace Sys2Proof.Machine

/-! ### Reservations that govern access (R342) -/

def resAll (t : ResType) : Bool := t == .writeExclusiveAll || t == .exclusiveAccessAll
def resRegistrants (t : ResType) : Bool := t == .writeExclusiveRegistrants || t == .exclusiveAccessRegistrants || resAll t
def resWriteOnly (t : ResType) : Bool := t == .writeExclusive || t == .writeExclusiveRegistrants || t == .writeExclusiveAll

/-- Whether a host identifier is registered. -/
def Resv.has (r : Resv) (h : Option Nat) : Bool := match h with | some x => r.regs.any fun y => y.1 == x | none => false

/-- Whether the reservation lets a controller write (or read) the namespace. -/
def resvAllows (c : Ctl) (v : Ns) (writes : Bool) (s : State) : Bool :=
  match v.resv.typ with
  | none => true
  | some t =>
    let h := (s.ctlr c).hostId
    (h.isSome && v.resv.holder == h) || (resRegistrants t && v.resv.has h) || (resWriteOnly t && !writes)

/-! ### The start of a command -/

/-- An earlier-fetched Format or Sanitize of the namespace has not ended: a write waits for it (R356). -/
def formatAhead (c : Cmd) (s : State) : Bool :=
  s.host.cmds.any fun d => decide (d.k < c.k) && d.qid == 0 && d.status.isNone && (d.e.opc == 0x84#8 ||
    (d.e.opc == 0x80#8 && (d.e.nsid == c.e.nsid || d.e.ns == 0xFFFFFFFF)))

/-- An I/O command whose own step begins: OPEN, not started, its locks taken and free of conflicts. A command that a reservation
refuses ends (R342), and so does a write to a layout in FAILED (R440). -/
def ioStart (opc : Byte) (k : Nat) (writes : Bool) (f : Cmd → Ns → State → State) (s : State) : State :=
  match startable (fun e => e.opc == opc) k s with
  | none => s
  | some c =>
    if c.qid = 0 || c.qid = 65536 then s
    else match s.ns c.e.ns with
      | none => s.finish k stInvalidNs
      | some v =>
        if !lockClear c s || (c.wr && formatAhead c s) then s
        else if !resvAllows c.ctl v writes s then s.finish k stResConflict
        else if c.wr && onFailed v s then s.finish k stProtected
        else f c v s

/-! ### Zones (R326, R328; states and status codes as the Zoned Namespace command set numbers them, log entry 7) -/

def State.modZone (s : State) (nsid i : Nat) (f : Zone → Zone) : State :=
  s.modNs nsid fun v => { v with zones := v.zones.mapIdx fun j z => if j == i then f z else z }

def Zone.isOpen (z : Zone) : Bool := z.st == 1 || z.st == 2
def Zone.active (z : Zone) : Bool := z.isOpen || z.st == 3
def zoneOpen (v : Ns) : Nat := (v.zones.filter Zone.isOpen).length
def zoneActive (v : Ns) : Nat := (v.zones.filter Zone.active).length

/-- The status that refuses a zone as the target of `n` blocks at offset `o`. -/
def zoneRefuse (v : Ns) (z : Zone) (o n : Nat) : Option Nat :=
  if z.st == 6 then some (sct 1 0xBB)
  else if z.st == 4 then some (sct 1 0xB9)
  else if zoneSize < o + n then some (sct 1 0xB8)
  else if o != z.wp then some (sct 1 0xBC)
  else if z.st == 0 && decide (64 ≤ zoneActive v) then some (sct 1 0xBD)
  else if !z.isOpen && decide (64 ≤ zoneOpen v) && !(v.zones.any fun y => y.st == 1) then some (sct 1 0xBE)
  else none

/-- With 64 zones open, the first implicitly opened one is closed to make room. -/
def zoneRoom (v : Ns) (s : State) : State :=
  if zoneOpen v < 64 then s
  else match v.zones.findIdx? fun y => y.st == 1 with
    | some i => s.modZone v.nsid i fun z => { z with st := 3 }
    | none => s

/-- The write pointer moves by `n` blocks. -/
def zoneTake (v : Ns) (i n : Nat) (s : State) : State :=
  let opened := (v.zones[i]?).any Zone.isOpen
  let t := if opened then s else zoneRoom v s
  t.modZone v.nsid i fun z => { z with wp := z.wp + n, st := if zoneSize ≤ z.wp + n then 4 else if z.st == 2 then 2 else 1 }

/-! ### Write, Zone Append (R19, R21) -/

/-- Buffers for the data of a write (R19 step 2); the transfer follows. -/
def writeBuffers (c : Cmd) (n : Nat) (s : State) : State :=
  let t := markStarted c.k s
  let r := alloc (8 + c.ctl.val) 0 n (some c.k) t
  if r.1.isEmpty then r.2.modCmd c.k fun d => { d with wantBuf := n }
  else r.2.modCmd c.k fun d => { d with handles := d.handles ++ r.1, wantXfer := true }

/-- WRITE. -/
def startWrite (k : Nat) (s : State) : State :=
  ioStart 0x01 k true (fun c v s =>
    if !v.zoned then writeBuffers c c.e.nlb s
    else
      let i := c.e.slba / zoneSize
      match v.zones[i]? with
      | none => s.finish k stLbaRange
      | some z => match zoneRefuse v z (c.e.slba % zoneSize) c.e.nlb with
        | some st => s.finish k st
        | none => writeBuffers c c.e.nlb (zoneTake v i c.e.nlb s)) s

/-- ZONE_APPEND: the blocks go to the write pointer, which the completion returns. -/
def startAppend (k : Nat) (s : State) : State :=
  ioStart 0x7D k true (fun c v s =>
    let i := c.e.slba / zoneSize
    if c.e.slba % zoneSize != 0 then s.finish k stField
    else match v.zones[i]? with
      | none => s.finish k stLbaRange
      | some z => match zoneRefuse v z z.wp c.e.nlb with
        | some st => s.finish k st
        | none =>
          let a := i * zoneSize + z.wp
          let t := (zoneTake v i c.e.nlb s).modCmd k fun d => { d with ranges := [⟨a, c.e.nlb⟩], dw0 := a % 4294967296, dw1 := a / 4294967296 }
          writeBuffers { c with ranges := [⟨a, c.e.nlb⟩] } c.e.nlb t) s

/-! ### Write Zeroes, Dataset Management (R613) -/

/-- WRITE_ZEROES. -/
def startZeroes (k : Nat) (s : State) : State :=
  ioStart 0x08 k true (fun c v s =>
    let go := fun (s : State) =>
      beginEffect c v [⟨c.e.slba, c.e.nlb, if c.e.cdw12.getLsbD 25 then 3 else 2, none,
        if piInserts v c.e then some (c.e.cdw15.toNat % 65536, refTag v c.e 0, v.pi != 3) else none⟩] (markStarted k s)
    if !v.zoned then go s
    else
      let i := c.e.slba / zoneSize
      match v.zones[i]? with
      | none => s.finish k stLbaRange
      | some z => match zoneRefuse v z (c.e.slba % zoneSize) c.e.nlb with
        | some st => s.finish k st
        | none => go (zoneTake v i c.e.nlb s)) s

/-- The ranges of a command arrive from host memory: its stamp is looked up and its locks are taken (R357, R364). The first part
says that it may go on. -/
def withRanges (c : Cmd) (dst src : List LRange) (s : State) : Bool × State :=
  if c.ranges == dst && c.srcs == src then (true, s)
  else
    let t := s.modCmd c.k fun d => { d with ranges := dst, srcs := src }
    let r := stampLookup { c with ranges := dst, srcs := src } t
    if !r.1 then (false, r.2)
    else
      let u := takeLocks c.k r.2
      match u.cmd c.k with
      | some d => (!d.lockWait && lockClear d u, u)
      | none => (false, u)

/-- A list of ranges read from host memory is short when the read failed (R317). -/
def rangesLost (c : Cmd) (n : Nat) (rs : List LRange) : Bool := rs.length != n && c.ranges.isEmpty

/-- DATASET_MANAGEMENT_DEALLOCATE. -/
def startDealloc (k : Nat) (rs : List LRange) (s : State) : State :=
  ioStart 0x09 k true (fun c v s =>
    if !c.e.dealloc then s
    else if rangesLost c (c.e.cdw10.toNat % 256 + 1) rs then (s.finish k stTransfer).raise (hostSrc 2) c.ctl.val
    else
      let rs := if c.ranges.isEmpty then rs else c.ranges
      if rs.any fun r => decide (v.nsze < r.lba + r.cnt) then s.finish k stLbaRange
      else
        let g := withRanges c rs [] s
        if !g.1 then g.2
        else
          let ps : List Piece := (rs.filter fun r => decide (0 < r.cnt)).map fun r => ⟨r.lba, r.cnt, 3, none, none⟩
          let t := markStarted k g.2
          if ps.isEmpty then t.finish k stOk else beginEffect { c with ranges := rs } v ps t) s

/-! ### Read-ahead (R369) -/

/-- Whether a line may be read ahead: whole, and neither cached, in flight, nor covered by the write buffer. -/
def lineFree (v : Ns) (ln : Nat) (s : State) : Bool :=
  decide (ln * 16 + 16 ≤ v.nsze) && (s.wayOf v.nsid ln).isNone && !(s.cache.fills.any fun f => f.nsid == v.nsid && f.line == ln) &&
    !(s.host.wb.any fun w => w.nsid == v.nsid && lineOverlaps ln w.lba w.cnt) && !(s.fly.warm.contains (v.nsid, ln))

/-- Issue the speculative reads of one line in buffers of the background use; none when they are not admitted, when a sector of
it cannot be read where it lies, or when they are more than `left` signatures. -/
def aheadLine (v : Ns) (ln left : Nat) (s : State) : Option (Nat × State) :=
  let bs := (List.range 16).map (ln * 16 + ·)
  let spots := bs.filterMap fun a => readSpot v a s
  let ch := spots.head?.map fun x => x.1
  match ch with
  | none => none
  | some n =>
    if spots.length != 16 || (spots.any fun x => !chanReady (chOf x.1) s) then none
    else match tryAlloc 0xF 2 16 s with
      | none => none
      | some g =>
        let xs := (spots.zip (bs.zip g.1)).map fun x => (x.1.1, ({ blk := x.1.2.1, hdl := x.2.2, lb := some (v.nsid, x.2.1), fix := x.1.2.2 } : Sector))
        let r := (List.range 8).foldl (fun (acc : Nat × State) c =>
          let mine := (xs.filter fun x => x.1 == c).map fun x => x.2
          if mine.isEmpty then acc
          else
            let p := placeRun (chOf c) 0x01 .spec [] 2 true false none mine acc.2
            (acc.1 + p.1, p.2)) (0, g.2)
        if left < r.1 || 8 ≤ n then none
        else some (r.1, (openFill v.nsid ln 0xFFFF#16 false true none r.2).2)

/-- Issue read-ahead from a line on, up to `left` signatures. -/
def aheadFrom (v : Ns) : Nat → Nat → Nat → State → State
  | 0, _, _, s => s
  | fuel + 1, ln, left, s =>
    if !lineFree v ln s then aheadFrom v fuel (ln + 1) left s
    else match aheadLine v ln left s with
      | some r => aheadFrom v fuel (ln + 1) (left - r.1) r.2
      | none => s

/-- Signatures of read-ahead of a namespace that are in the rings. -/
def aheadOut (nsid : Nat) (s : State) : Nat :=
  allChans.foldl (fun n c => n + ((s.chan c).sched.ring.filter fun i => i.kind == .spec && descSpec i.desc && i.lb.toList.any fun x => match x with | some y => y.1 == nsid | none => false).length) 0

/-- Read-ahead of a namespace whose reads run in sequence. -/
def readAhead (nsid : Nat) (s : State) : State :=
  match s.ns nsid, s.host.tracks.find? fun x => x.nsid == nsid with
  | some v, some tr =>
    if v.nsze ≤ tr.next then s
    else
      let n := (nsPlace v tr.next s).1
      let depth := s.get (F.SCHED_SPECCFG_RA_DEPTH n)
      if !s.flag (F.SCHED_SPECCFG_RA_EN n) || tr.run < max 1 (s.get (F.SCHED_SPECCFG_RA_TRIG n)) || s.flag F.FAULT_STAT_SAFE then s
      else aheadFrom v (depth + 1) ((tr.next + 15) / 16) (depth - aheadOut nsid s) s
  | _, _ => s

/-- The sequence of a namespace's reads goes on or begins anew; `run` counts the reads that begin where the one before ended
(DEDUCED). -/
def track (nsid lba cnt : Nat) (s : State) : State :=
  s.modHost fun h =>
    let run := match h.tracks.find? fun x => x.nsid == nsid with
      | some x => if x.next == lba then x.run + 1 else 0
      | none => 0
    { h with tracks := (h.tracks.filter fun x => x.nsid != nsid) ++ [⟨nsid, lba + cnt, run⟩] }

/-! ### Read, Verify (R22, R353, R412) -/

/-- A block of a zoned namespace at or beyond its zone's write pointer reads as zero. -/
def beyondWp (v : Ns) (a : Nat) : Bool :=
  v.zoned && match v.zones[a / zoneSize]? with | some z => decide (z.wp ≤ a % zoneSize) | none => false

/-- The first block that was left unreadable and that no version covers (R412). -/
def unreadable (c : Cmd) (v : Ns) (bs : List Nat) (s : State) : Option Nat := bs.find? fun a => v.bad.contains a && (versionFor c.k v.nsid a s).isNone

/-- A read completes with Unrecovered Read Error for a block (R373). -/
def failRead1 (k : Nat) (c : Cmd) (v : Ns) (a : Nat) (s : State) : State :=
  ((failCmd k stUnrec s).modCmd k fun d => { d with err := some a }).errInfo c.ctl c.qid c.e.cid.toNat stUnrec a v.nsid

/-- READ. -/
def startRead (k : Nat) (s : State) : State :=
  ioStart 0x02 k false (fun c v s =>
    let t := track v.nsid c.e.slba c.e.nlb (markStarted k s)
    match unreadable c v (readBlocks c) t with
    | some a => failRead1 k c v a t
    | none =>
      let t := t.each (readBlocks c) fun a u => if beyondWp v a then found k a none u else lookupBlock k v a u
      readAhead v.nsid (placeTodo k t)) s

/-- VERIFY: every block is read from the media and decoded. -/
def startVerify (k : Nat) (s : State) : State :=
  ioStart 0x0C k false (fun c v s =>
    let t := markStarted k s
    match unreadable c v (readBlocks c) t with
    | some a => failRead1 k c v a t
    | none => placeTodo k (t.modCmd k fun d => { d with todo := (readBlocks c).filter fun a => !beyondWp v a })) s

/-- FLUSH: every accepted write is persistent already. -/
def startFlush (k : Nat) (s : State) : State := ioStart 0x00 k true (fun _ _ s => (markStarted k s).finish k stOk) s

/-! ### Copy (R326, R391) -/

/-- COPY. -/
def startCopy (k : Nat) (rs : List LRange) (s : State) : State :=
  ioStart 0x19 k true (fun c v s =>
    let nr := c.e.cdw12.toNat % 256 + 1
    if 128 < nr then s.finish k (sct 1 0x83)
    else if c.e.cdw12.toNat / 256 % 16 != 0 then s.finish k stField
    else if rangesLost c nr rs then (s.finish k stTransfer).raise (hostSrc 2) c.ctl.val
    else
      let src := if c.ranges.isEmpty then rs else c.srcs
      let n := src.foldl (fun m r => m + r.cnt) 0
      if n == 0 then s.finish k stField
      else if (src.any fun r => decide (v.nsze < r.lba + r.cnt)) || decide (v.nsze < c.e.slba + n) then s.finish k stLbaRange
      else
        let g := withRanges c [⟨c.e.slba, n⟩] src s
        if !g.1 then g.2
        else
          let t := markStarted k g.2
          let t := if v.stream then t else t.modCmd k fun d => { d with seqLen := min n d.seqLen }
          match t.cmd k with
          | none => t
          | some d => match unreadable d v (readBlocks d) t with
            | some a => failRead1 k d v a t
            | none => advance k (placeTodo k (t.each (readBlocks d) fun a u => lookupBlock k v a u))) s

/-! ### Zone Management (R326, R350, R390) -/

def zsaOf (a : ZoneAct) : Nat := match a with | .close => 1 | .finish => 2 | .opn => 3 | .reset => 4 | .offline => 5

/-- The zone after an action; an error when its state does not allow it. A finished zone keeps what was written of it: the rest reads as
zero. -/
def zoneAct (v : Ns) (a : ZoneAct) (z : Zone) : Except Nat Zone :=
  let bad : Except Nat Zone := .error (sct 1 0xBF)
  match a with
  | .close => if z.active then .ok { z with st := 3 } else bad
  | .opn =>
    if z.st == 2 then .ok z
    else if z.st == 4 || z.st == 6 then bad
    else if z.st == 0 && decide (64 ≤ zoneActive v) then .error (sct 1 0xBD)
    else if z.st != 1 && decide (64 ≤ zoneOpen v) && !(v.zones.any fun y => y.st == 1) then .error (sct 1 0xBE)
    else .ok { z with st := 2 }
  | .finish => if z.st == 6 then bad else .ok { z with st := 4 }
  | .reset => if z.st == 6 then bad else .ok ⟨0, 0⟩
  | .offline => .ok { z with st := 6 }

/-- Whether Select All takes a zone in. -/
def zoneSelected (a : ZoneAct) (z : Zone) : Bool :=
  match a with
  | .close => z.isOpen
  | .finish => z.active
  | .opn => z.st == 3
  | .reset => z.active || z.st == 4
  | .offline => z.st == 5

/-- An action on one zone has taken place: a reset discards what caches hold of it. -/
def zoneDone (v : Ns) (a : ZoneAct) (i : Nat) (z : Zone) (s : State) : State :=
  let t := if a == .opn && !((v.zones[i]?).any Zone.isOpen) then zoneRoom v s else s
  let t := t.modZone v.nsid i fun _ => z
  if a == .reset || a == .offline then warmDrop v.nsid (i * zoneSize) zoneSize (cacheInvalidate v.nsid (i * zoneSize) zoneSize t) else t

/-- ZONE_MANAGEMENT_SEND. -/
def startZoneSend (k : Nat) (a : ZoneAct) (s : State) : State :=
  ioStart 0x79 k true (fun c v s =>
    if c.e.zsa != zsaOf a then s
    else
      let all := c.e.cdw13.getLsbD 8
      let is := if all then (List.range v.zones.length).filter fun i => (v.zones[i]?).any (zoneSelected a) else [c.e.slba / zoneSize]
      let acts := is.map fun i => match v.zones[i]? with | some z => zoneAct v a z | none => .error stLbaRange
      match acts.findSome? fun x => match x with | .error st => some st | .ok _ => none with
      | some st => s.finish k st
      | none =>
        let t := (is.zip acts).foldl (fun u x => match x.2 with | .ok z => zoneDone v a x.1 z u | .error _ => u) (markStarted k s)
        if !c.wr then t.finish k stOk
        else if journalled v t then
          let es := (mkEntries c v (zsaOf a) [⟨c.e.slba / zoneSize * zoneSize, zoneSize, 4, none, none⟩] t)
          flyPush true es (t.modCmd k fun d => { d with phase := 3, ents := es.length })
        else mediaDone { c with phase := 4 } v (t.modCmd k fun d => { d with phase := 4 })) s

/-- The zone state as Report Zones gives it. -/
def zoneState (st : Nat) : Nat := match st with | 0 => 1 | 1 => 2 | 2 => 3 | 3 => 4 | 4 => 0xE | _ => 0xF

/-- ZONE_MANAGEMENT_RECEIVE: Report Zones, 64 header bytes and 64 bytes for each zone from the zone at SLBA. -/
def startZoneReport (k : Nat) (s : State) : State :=
  ioStart 0x7A k false (fun c v s =>
    let i0 := c.e.slba / zoneSize
    let zs := v.zones.drop i0
    let hdr := bytesLe 8 v.zones.length ++ List.replicate 56 0
    let one := fun (x : Zone × Nat) =>
      [2, zoneState x.1.st * 16] ++ List.replicate 6 0 ++ bytesLe 8 zoneSize ++ bytesLe 8 ((i0 + x.2) * zoneSize) ++
        bytesLe 8 ((i0 + x.2) * zoneSize + (if x.1.st == 4 then zoneSize else x.1.wp)) ++ List.replicate 32 0
    let len := (c.e.cdw12.toNat + 1) * 4
    ((markStarted k s).answer ((hdr ++ zs.zipIdx.flatMap one).take len)).finish k stOk) s

/-! ### Waiting reads (R355, R369, R370) -/

/-- WRITE_BUFFER_READ_WAIT_END: the blocks whose writer failed are looked up again; those whose writer is accepted are served. -/
def readWaitEnd (k : Nat) (s : State) : State :=
  match s.cmd k with
  | none => s
  | some c =>
    let ended := fun (w : Nat) => (s.host.wb.any fun x => x.k == w && x.acc) || (s.cmd w).isNone
    let again := c.verWait.filter fun x => x.1 == k
    let t := s.modCmd k fun d => { d with verWait := d.verWait.filter fun x => x.1 != k && !ended x.1 }
    advance k (lookupAgain k (again.map fun x => x.2) t)

/-- The reads that wait for a line look up its blocks again. -/
def specWake (nsid line : Nat) (s : State) : State :=
  let ks := ((s.cache.specW.filter fun w => w.2.1 == nsid && w.2.2 == line).map fun w => w.1).dedup
  let t := s.modCache fun c => { c with specW := c.specW.filter fun w => !(w.2.1 == nsid && w.2.2 == line) }
  t.each ks fun k u => match u.cmd k with
    | some c => advance k (lookupAgain k ((readBlocks c).filter fun a => a / 16 == line && !(c.data.any fun d => d.1 == a) && !c.todo.contains a) u)
    | none => u

/-- SPECULATIVE_FILL_ARRIVE: a whole good line becomes clean, a void one is discarded and counted, any other is dropped. -/
def specArrive (nsid line : Nat) (good : Bool) (data : List Block) (s : State) : State :=
  match s.cache.fills.find? fun f => f.spec && f.nsid == nsid && f.line == line with
  | none => s
  | some f =>
    let t := dropFill f.id s
    let t := if f.void then
        (match t.ns nsid with | some v => t.inc (F.SCHED_SPECSTAT_RA_VOID (nsPlace v (line * 16) t).1) | none => t)
      else if good && data.length == 16 then cacheAlloc f (data.zipIdx.map fun x => (x.2, x.1)) t
      else t
    readAhead nsid (specWake nsid line t)

/-! ### Commands of the table -/

/-- FLUSH (R326). -/
def execFlush (k : Nat) (s : State) : Host.Outcome State Fault Refusal := .next (startFlush k s)
/-- WRITE (R19, R21). -/
def execWrite (k : Nat) (s : State) : Host.Outcome State Fault Refusal := .next (startWrite k s)
/-- READ (R22). -/
def execRead (k : Nat) (s : State) : Host.Outcome State Fault Refusal := .next (startRead k s)
/-- WRITE_ZEROES (R613). -/
def execWriteZeroes (k : Nat) (s : State) : Host.Outcome State Fault Refusal := .next (startZeroes k s)
/-- DATASET_MANAGEMENT_DEALLOCATE (R613). -/
def execDatasetManagementDeallocate (k : Nat) (rs : List LRange) (s : State) : Host.Outcome State Fault Refusal := .next (startDealloc k rs s)
/-- VERIFY (R326). -/
def execVerify (k : Nat) (s : State) : Host.Outcome State Fault Refusal := .next (startVerify k s)
/-- COPY (R326). -/
def execCopy (k : Nat) (rs : List LRange) (s : State) : Host.Outcome State Fault Refusal := .next (startCopy k rs s)
/-- ZONE_MANAGEMENT_SEND (R326). -/
def execZoneManagementSend (k : Nat) (act : ZoneAct) (s : State) : Host.Outcome State Fault Refusal := .next (startZoneSend k act s)
/-- ZONE_MANAGEMENT_RECEIVE (R326). -/
def execZoneManagementReceive (k : Nat) (s : State) : Host.Outcome State Fault Refusal := .next (startZoneReport k s)
/-- ZONE_APPEND (R326). -/
def execZoneAppend (k : Nat) (s : State) : Host.Outcome State Fault Refusal := .next (startAppend k s)
/-- WRITE_BUFFER_READ_WAIT_END (R355). -/
def execWriteBufferReadWaitEnd (k : Nat) (s : State) : Host.Outcome State Fault Refusal := .next (readWaitEnd k s)
/-- SPECULATIVE_FILL_ARRIVE (R369). -/
def execSpeculativeFillArrive (nsid line : Nat) (good : Bool) (data : List Block) (s : State) : Host.Outcome State Fault Refusal :=
  .next (specArrive nsid line good data s)

end Sys2Proof.Machine
end

