-- ==== Sys2Proof/Machine/Ctrl.lean ====
section
/-! DEFINITION. Controllers, ports and queues (R312 to R325, R334 to R339, R346, R347, R375, R376, R409): enable, resets,
shutdown, links, the queue commands, and how a command is cancelled. -/

namespace Sys2Proof.Machine

/-! ### Cancelling a command (R334, R337, R338, R375) -/

/-- Whether a command is in a Low-class queue. -/
def lowClass (c : Cmd) (s : State) : Bool := match s.sq c.ctl c.qid with | some q => decide (0 < q.qid) && q.prio == 3 | none => false

/-- Whether an Abort would abort a command now; `low` takes Low-class commands in. -/
def abortable (low : Bool) (c : Cmd) (s : State) : Bool :=
  if c.posting || c.status.isSome || c.qid == 65536 then false
  else if c.qid == 0 then c.e.opc == 0x0C#8
  else if !low && lowClass c s then false
  else if c.e.opc == 0x02#8 || c.e.opc == 0x0C#8 then true
  else if c.isCopy then decide (c.phase < 3)
  else if c.e.opc == 0x01#8 || c.e.opc == 0x7D#8 then decide (c.phase < 3) || !c.begun
  else false

/-- The effect of an Abort on a command that it aborts; no completion is decided yet. -/
def cancelCmd (k : Nat) (s : State) : State :=
  match s.cmd k with
  | none => s
  | some c =>
    let t := leaveLadders k true (withdrawWork k s)
    let t := freeCmd c t
    let t := t.modCtlr c.ctl fun x => { x with aers := x.aers.filter (· != k) }
    if c.wr then undoWrite c t else t.modCmd k fun d => { d with handles := [], shares := [], stampWait := none, lockWait := false }

/-- A cancelled command completes with a status. -/
def abortCmd (k st : Nat) (s : State) : State :=
  (cancelCmd k s).modCmd k fun d => { d with status := some st, stampWait := none, lockWait := false }

/-- Outstanding Aborts of a controller fetched before this one. -/
def abortsBefore (c : Cmd) (s : State) : Nat :=
  (s.host.cmds.filter fun d => d.ctl == c.ctl && d.qid == 0 && d.e.opc == 0x08#8 && decide (d.k < c.k)).length

/-- The decision of an Abort (R334 to R337). -/
def abortDecide (c : Cmd) (s : State) : State :=
  let qid := c.e.cdw10.toNat % 65536
  let cid := c.e.cdw10.toNat / 65536
  if 8 ≤ abortsBefore c s then s.finish c.k (sct 1 0x03)
  else match s.host.cmds.find? fun d => d.ctl == c.ctl && d.qid == qid && d.e.cid.toNat == cid && d.k != c.k with
    | none => s.finishDw c.k stOk 1 0
    | some d =>
      if abortable false d s then ((abortCmd d.k stAborted s).inc F.NVME_INTAKE_ABORT_CNT).finishDw c.k stOk 0 0
      else
        let t := if d.posting || (d.status.isSome && d.status != some stAborted) then s.modCmd c.k fun x => { x with after := some d.k } else s
        t.finishDw c.k stOk 1 0

/-! ### Admin commands -/

/-- An admin command whose own step begins. -/
def adminStart (ok : Sqe → Bool) (k : Nat) (f : Cmd → State → State) (s : State) : State :=
  match startable ok k s with
  | some c => if c.qid = 0 || c.qid = 65536 then f c (markStarted k s) else s
  | none => s

def adminOp (opc : Byte) (e : Sqe) : Bool := e.opc == opc
def setFeat (fid : Nat) (e : Sqe) : Bool := e.opc == 0x09#8 && e.sel == fid

/-! ### Queues (R319, R325, R338, R339) -/

/-- I/O queues of each kind, by mode. -/
def queueLimit (s : State) : Nat := if s.boot.bifur then 256 else 512

/-- DELETE_IO_SUBMISSION_QUEUE. -/
def deleteSq (c : Cmd) (s : State) : State :=
  let qid := c.e.cdw10.toNat % 65536
  match s.sq c.ctl qid with
  | none => s.finish c.k (sct 1 0x01)
  | some q =>
    if qid == 0 || q.gone then s.finish c.k (sct 1 0x01)
    else
      let t := s.modSq c.ctl qid fun x => { x with gone := true, avail := 0 }
      let t := t.each ((t.host.cmds.filter fun d => d.ctl == c.ctl && d.qid == qid).map fun d => d.k) fun k u =>
        match u.cmd k with
        | some d => if abortable true d u then abortCmd k stSqDeleted u else u
        | none => u
      delSync (resetRecord 1 0 ((cancelEver (131072 * c.ctl.val + qid) t).modCmd c.k fun d => { d with delQ := some qid }))

/-- CREATE_IO_SUBMISSION_QUEUE. -/
def createSq (c : Cmd) (s : State) : State :=
  let qid := c.e.cdw10.toNat % 65536
  let size := c.e.cdw10.toNat / 65536 + 1
  let cqid := c.e.cdw11.toNat / 65536
  let lim := match (s.ctlr c.ctl).nq with | some x => x.1 | none => queueLimit s
  if qid == 0 || decide (lim < qid) || (s.sq c.ctl qid).isSome then s.finish c.k (sct 1 0x01)
  else if size < 2 then s.finish c.k (sct 1 0x02)
  else if cqid == 0 || (s.cq c.ctl cqid).isNone then s.finish c.k (sct 1 0x00)
  else if !c.e.cdw11.getLsbD 0 then s.finish c.k stField
  else (s.modHost fun h => { h with sqs := h.sqs ++ [⟨c.ctl, qid, size, cqid, c.e.cdw11.toNat / 2 % 4, 0, 0, false⟩] }).finish c.k stOk

/-- DELETE_IO_COMPLETION_QUEUE. -/
def deleteCq (c : Cmd) (s : State) : State :=
  let qid := c.e.cdw10.toNat % 65536
  if qid == 0 || (s.cq c.ctl qid).isNone then s.finish c.k (sct 1 0x01)
  else if s.host.sqs.any fun q => q.ctl == c.ctl && q.cqid == qid then s.finish c.k (sct 1 0x0C)
  else (s.modHost fun h => { h with cqs := h.cqs.filter fun q => !(q.ctl == c.ctl && q.qid == qid) }).finish c.k stOk

/-- CREATE_IO_COMPLETION_QUEUE. -/
def createCq (c : Cmd) (s : State) : State :=
  let qid := c.e.cdw10.toNat % 65536
  let size := c.e.cdw10.toNat / 65536 + 1
  let vec := c.e.cdw11.toNat / 65536
  let lim := match (s.ctlr c.ctl).nq with | some x => x.2 | none => queueLimit s
  if qid == 0 || decide (lim < qid) || (s.cq c.ctl qid).isSome then s.finish c.k (sct 1 0x01)
  else if size < 2 then s.finish c.k (sct 1 0x02)
  else if queueLimit s < vec then s.finish c.k (sct 1 0x08)
  else if !c.e.cdw11.getLsbD 0 then s.finish c.k stField
  else (s.modHost fun h => { h with cqs := h.cqs ++ [⟨c.ctl, qid, size, vec, c.e.cdw11.getLsbD 1, 0, 0, 0, true, []⟩] }).finish c.k stOk

/-! ### Controllers (R318, R347, R375, R376) -/

/-- Whether a controller's port exists (R313). -/
def portThere (c : Ctl) (s : State) : Bool := c == 0 || s.boot.bifur

/-- CONTROLLER_ENABLE: refused settings leave the controller disabled. -/
def ctlEnable (c : Ctl) (ams iosqes iocqes aqaSq aqaCq : Nat) (s : State) : State :=
  let t := s.ctlr c
  if t.en || t.rdy || !portThere c s || s.rst.perst[c] || !s.boot.booted || s.rst.chip.isSome then s
  else if 2 ≤ ams || iosqes != 6 || iocqes != 4 then s
  else
    (s.modCtlr c fun x => { x with en := true, rdy := true, ams := ams, shst := 0 }).modHost fun h => { h with
      sqs := h.sqs ++ [⟨c, 0, aqaSq % 4096 + 1, 0, 0, 0, 0, false⟩]
      cqs := h.cqs ++ [⟨c, 0, aqaCq % 4096 + 1, 0, true, 0, 0, 0, true, []⟩] }

/-- A saved feature value, or its default. -/
def savedOr (t : Ctlr) (fid dflt : Nat) : Nat := match t.saved.find? fun x => x.1 == fid with | some x => x.2 | none => dflt

/-- The NVM Express reset values of a controller; saved features, and the error log, stand. -/
def ctlClear (t : Ctlr) : Ctlr :=
  { Ctlr.reset with rdy := t.rdy, arb := savedOr t 0x01 0x07030003, coal := savedOr t 0x08 0, aec := savedOr t 0x0B 0, saved := t.saved,
                    errs := t.errs, errCnt := t.errCnt, changed := t.changed, resLog := t.resLog, aerLog := t.aerLog }

/-- A run-on Format or Sanitize leaves its namespaces not ready (R376). -/
def markBusy (c : Ctl) (s : State) : State :=
  let fs := s.host.cmds.filter fun d => d.ctl == c && d.qid == 0 && d.status.isNone && (d.e.opc == 0x80#8 || d.e.opc == 0x84#8)
  s.modHost fun h => { h with nss := h.nss.map fun v => if fs.any fun d => d.e.opc == 0x84#8 || d.e.ns == v.nsid || d.e.ns == 0xFFFFFFFF then { v with busy := true } else v }

/-- What a reset does to the commands of a controller (R375). -/
def stopCmds (c : Ctl) (s : State) : State :=
  let ks := (s.host.cmds.filter fun d => d.ctl == c && d.qid != 65536).map fun d => d.k
  s.each ks fun k t => match t.cmd k with
    | none => t
    | some d =>
      if d.posting || d.status.isSome then retireCmd d t
      else if abortable true d t then
        let u := cancelCmd k t
        openSync (u.modHost fun h => { h with cmds := h.cmds.filter fun x => x.k != k })
      else t.modCmd k fun x => { x with dead := true }

/-- A controller reset: CC.EN goes to 0. -/
def ctlReset (kind : Nat) (c : Ctl) (s : State) : State :=
  if !(s.ctlr c).en then s
  else
    let t := stopCmds c (markBusy c (resetRecord kind c.val s))
    let t := t.modHost fun h => { h with sqs := h.sqs.filter fun q => q.ctl != c, cqs := h.cqs.filter fun q => q.ctl != c }
    (lockGrant t).modCtlr c ctlClear

/-- RUN_ON_COMMANDS_DONE: a Format, Sanitize or Firmware Commit does not hold CSTS.RDY. -/
def runOnDone (c : Ctl) (s : State) : State :=
  let t := s.each (s.host.cmds.filter fun d => d.ctl == c && d.dead) fun d u => handoff d.k u
  let left := t.host.cmds.any fun d => d.ctl == c && d.dead && !(d.qid == 0 && [0x80#8, 0x84#8, 0x10#8].contains d.e.opc)
  if (t.ctlr c).en || left then t else t.modCtlr c fun x => { x with rdy := false }

/-! ### Shutdown (R409) -/

/-- A checkpoint is written while the journal is started. -/
def flyCheckpoint (full : Bool) (s : State) : State :=
  if s.get F.FLY_STAT_STATE == 2 || s.get F.FLY_STAT_STATE == 3 then checkpoint full true s else s

/-- ORDERLY_SHUTDOWN: with every enabled controller shutting down, the learned tables are saved, a FULL checkpoint and then shutdown complete. -/
def orderly (c : Ctl) (s : State) : State :=
  if !(s.ctlr c).en || (s.ctlr c).shst == 2 then s
  else
    let t := s.modCtlr c fun x => { x with shst := 1 }
    let en := allCtls.filter fun d => (t.ctlr d).en
    if en.all fun d => (t.ctlr d).shst != 0 then
      (flyCheckpoint true (tablesToFly t)).each en fun d u => u.modCtlr d fun x => { x with shst := 2 }
    else t

/-- ABRUPT_SHUTDOWN. -/
def abrupt (c : Ctl) (s : State) : State :=
  if !(s.ctlr c).en || (s.ctlr c).shst == 2 then s else (flyCheckpoint false s).modCtlr c fun x => { x with shst := 2 }

/-! ### Ports (R312 to R317, R346, R347) -/

def setPort (c : Ctl) (rate width : Nat) (s : State) : State :=
  if c == 0 then (s.set F.NVME_PORTSTAT_RATE0 rate).set F.NVME_PORTSTAT_WIDTH0 width
  else (s.set F.NVME_PORTSTAT_RATE1 rate).set F.NVME_PORTSTAT_WIDTH1 width

/-- HOST_LINK_DOWN. -/
def linkDown (c : Ctl) (s : State) : State :=
  if !portThere c s then s else ((setPort c 0 0 s).inc F.NVME_PORTSTAT_DOWN_CNT).raise (hostSrc 0) c.val

/-- LINK_TRAINED (R314). -/
def linkTrained (c : Ctl) (rate width : Nat) (s : State) : State :=
  if !portThere c s || s.rst.perst[c] || rate == 0 || decide (6 < rate) then s
  else if !s.boot.bifur && width == 8 then setPort c rate 8 s
  else if width == 4 then
    let t := setPort c rate 4 s
    if s.boot.bifur then t else t.raise (hostSrc 1) c.val
  else s

/-- PERST_ASSERT. -/
def perstAssert (c : Ctl) (s : State) : State :=
  if !portThere c s || s.rst.perst[c] then s
  else
    let t := { s with rst := { s.rst with perst := s.rst.perst.set c true } }
    if s.rst.chip.isSome then t else ctlReset 4 c (setPort c 0 0 t)

/-! ### Commands of the table -/

/-- CONTROLLER_ENABLE (R318). -/
def execControllerEnable (c : Ctl) (ams iosqes iocqes aqaSq aqaCq : Nat) (s : State) : Host.Outcome State Fault Refusal :=
  .next (ctlEnable c ams iosqes iocqes aqaSq aqaCq s)
/-- CONTROLLER_RESET (R375). -/
def execControllerReset (c : Ctl) (s : State) : Host.Outcome State Fault Refusal := .next (ctlReset 2 c s)
/-- RUN_ON_COMMANDS_DONE (R376). -/
def execRunOnCommandsDone (c : Ctl) (s : State) : Host.Outcome State Fault Refusal := .next (runOnDone c s)
/-- FUNCTION_LEVEL_RESET (R347). -/
def execFunctionLevelReset (c : Ctl) (s : State) : Host.Outcome State Fault Refusal := .next (if portThere c s then ctlReset 3 c s else s)
/-- PERST_ASSERT (R347). -/
def execPerstAssert (c : Ctl) (s : State) : Host.Outcome State Fault Refusal := .next (perstAssert c s)
/-- ORDERLY_SHUTDOWN (R409). -/
def execOrderlyShutdown (c : Ctl) (s : State) : Host.Outcome State Fault Refusal := .next (orderly c s)
/-- ABRUPT_SHUTDOWN (R409). -/
def execAbruptShutdown (c : Ctl) (s : State) : Host.Outcome State Fault Refusal := .next (abrupt c s)
/-- HOST_LINK_DOWN (R346). -/
def execHostLinkDown (c : Ctl) (s : State) : Host.Outcome State Fault Refusal := .next (linkDown c s)
/-- LINK_TRAINED (R314). -/
def execLinkTrained (c : Ctl) (rate width : Nat) (s : State) : Host.Outcome State Fault Refusal := .next (linkTrained c rate width s)
/-- POISONED_HOST_WRITE_TLP (R317): discarded, and reported through AER. -/
def execPoisonedHostWriteTlp (c : Ctl) (s : State) : Host.Outcome State Fault Refusal :=
  .next (if portThere c s then s.modCtlr c fun x => { x with aerLog := x.aerLog + 1 } else s)
/-- HOST_AER_UNCORRECTABLE (R346). -/
def execHostAerUncorrectable (c : Ctl) (s : State) : Host.Outcome State Fault Refusal :=
  .next (if portThere c s then (s.modCtlr c fun x => { x with aerLog := x.aerLog + 1 }).raise (hostSrc 3) c.val else s)
/-- DELETE_IO_SUBMISSION_QUEUE (R338). -/
def execDeleteIoSubmissionQueue (k : Nat) (s : State) : Host.Outcome State Fault Refusal := .next (adminStart (adminOp 0x00) k deleteSq s)
/-- CREATE_IO_SUBMISSION_QUEUE (R325). -/
def execCreateIoSubmissionQueue (k : Nat) (s : State) : Host.Outcome State Fault Refusal := .next (adminStart (adminOp 0x01) k createSq s)
/-- DELETE_IO_COMPLETION_QUEUE (R325). -/
def execDeleteIoCompletionQueue (k : Nat) (s : State) : Host.Outcome State Fault Refusal := .next (adminStart (adminOp 0x04) k deleteCq s)
/-- CREATE_IO_COMPLETION_QUEUE (R325). -/
def execCreateIoCompletionQueue (k : Nat) (s : State) : Host.Outcome State Fault Refusal := .next (adminStart (adminOp 0x05) k createCq s)
/-- ABORT (R334). -/
def execAbort (k : Nat) (s : State) : Host.Outcome State Fault Refusal := .next (adminStart (adminOp 0x08) k abortDecide s)

end Sys2Proof.Machine
end

