-- ==== Sys2Proof/Machine/Code8b.lean ====
section
/-! DEFINITION. The 8b/10b coding of the fine-actuator link (R222) and of the Kettle lanes (R292): the code group of a symbol
under a running disparity, and the idle line. The spec names the code and not its tables: the code groups are those of the
published 8b/10b code (PRESUMED, log entry 72). A disparity is a truth value: true positive. -/

namespace Sys2Proof.Machine

/-- A symbol: a control (K) or data (D) character and its byte, HGFEDCBA. -/
structure Symbol where
  ctl  : Bool
  byte : Nat
  deriving DecidableEq, Repr

/-- The six bits abcdei of the low five bits of a data byte at negative disparity. -/
def sixBits : List Nat :=
  [0b100111, 0b011101, 0b101101, 0b110001, 0b110101, 0b101001, 0b011001, 0b111000] ++
  [0b111001, 0b100101, 0b010101, 0b110100, 0b001101, 0b101100, 0b011100, 0b010111] ++
  [0b011011, 0b100011, 0b010011, 0b110010, 0b001011, 0b101010, 0b011010, 0b111010] ++
  [0b110011, 0b100110, 0b010110, 0b110110, 0b001110, 0b101110, 0b011110, 0b101011]

/-- The four bits fghj of the high three bits at negative disparity, of a data byte and of a control character. -/
def fourBits : List Nat := [0b1011, 0b1001, 0b0101, 0b1100, 0b1101, 0b1010, 0b0110, 0b1110]
def fourBitsK : List Nat := [0b1011, 0b0110, 0b1010, 0b1100, 0b1101, 0b0101, 0b1001, 0b0111]

/-- How many of the low `w` bits are ones. -/
def ones (w v : Nat) : Nat := (List.range w).foldl (fun n i => n + (v.testBit i).toNat) 0

/-- The alternate code D.x.A7, which keeps five equal bits from standing in a row. -/
def alternate7 (x : Nat) (rd : Bool) : Bool := if rd then [11, 13, 14].contains x else [17, 18, 20].contains x

/-- The code group of a symbol, bit a first, and the running disparity after it. -/
def codeGroup (y : Symbol) (rd : Bool) : Nat × Bool :=
  let x := y.byte % 32
  let z := y.byte / 32 % 8
  let six := if y.ctl && x == 28 then 0b001111 else sixBits.getD x 0
  let bal := ones 6 six == 3
  let a := if rd && (!bal || x == 7) then 63 - six else six
  let mid := rd != !bal
  let four := if y.ctl then fourBitsK.getD z 0 else if z == 7 && alternate7 x mid then 0b0111 else fourBits.getD z 0
  let balF := ones 4 four == 2
  let b := if mid && (y.ctl || !balF || z == 3) then 15 - four else four
  (a * 16 + b, mid != !balF)

/-- The code groups of symbols in turn, and the running disparity after them. -/
def codeGroups : List Symbol → Bool → List Nat × Bool
  | [], rd => ([], rd)
  | y :: ys, rd =>
    let g := codeGroup y rd
    let r := codeGroups ys g.2
    (g.1 :: r.1, r.2)

def dataSym (v : Nat) : Symbol := ⟨false, v⟩

/-- K28.5, and the pair that an idle line repeats: K28.5 and D16.2. It leaves the disparity as it was. -/
def k28_5 : Symbol := ⟨true, 0xBC⟩
def idlePair : List Symbol := [k28_5, dataSym 0x50]

end Sys2Proof.Machine
end

