-- ==== Sys2Proof/Machine/Drive.lean ====
section
/-! DEFINITION. What a spindle or voice-coil PWM period computes (R256 to R265, R271, R273, R277, R283, R284): the arithmetic of angles, the
current regulator and its duties, the two back-EMF estimates, zero crossings, and the voice-coil regulator. -/

namespace Sys2Proof.Machine

def State.mot (s : State) (n : Ch) : Motor := (s.chan n).mot
def State.modMot (s : State) (n : Ch) (f : Motor → Motor) : State := s.modChan n fun c => { c with mot := f c.mot }
def State.modServo (s : State) (n : Ch) (f : Servo → Servo) : State := s.modChan n fun c => { c with servo := f c.servo }

/-! ### States (R267) -/

def stOff : Nat := 0
def stSense : Nat := 1
def stAlign : Nat := 2
def stRamp : Nat := 3
def stAccel : Nat := 4
def stRun : Nat := 5
def stLost : Nat := 6
def stBrake : Nat := 7
def stCoast : Nat := 8
def stRectify : Nat := 9
def stFault : Nat := 10

def motState (n : Ch) (s : State) : Nat := s.get (F.MOT_STAT_STATE n)
def motIn (n : Ch) (l : List Nat) (s : State) : Bool := l.contains (motState n s)

/-! ### Angles -/

/-- One electrical turn, in the unit of every angle here. -/
def turn : Int := 281474976710656

/-- An angle wrapped into half a turn on either side of zero. -/
def wrapTurn (a : Int) : Int := (a + turn / 2) % turn - turn / 2

/-- cos of an angle, 1/2^60, by its Taylor series to the 26th power. -/
def cosFine (a : Int) : Int :=
  let x := wrapTurn a * 7244019458077122842 / turn
  let x2 := x * x / 1152921504606846976
  (List.range 13).foldr (fun k acc => 1152921504606846976 - x2 * acc / 1152921504606846976 / (((2 * k + 1) * (2 * k + 2) : Nat) : Int)) 1152921504606846976

/-- cos and sin of an angle, 1/2^30. -/
def cosTurn (a : Int) : Int := roundDiv (cosFine a) 1073741824
def sinTurn (a : Int) : Int := cosTurn (a - turn / 4)

/-- atan 2^-k in 2^-48 turn, for the rotations of `angleOf`. -/
def atanTab : List Int := [35184372088832, 20770547670515, 10974586953444, 5570871696862, 2796246208089, 1399486241028, 699913886760,
  349978300884, 174991820497, 87496244017, 43748163730, 21874087080, 10937044192, 5468522177, 2734261099, 1367130551, 683565276,
  341782638, 170891319, 85445659]

/-- The angle of the vector (x, y). -/
def angleOf (x y : Int) : Int :=
  let st : Int × Int × Int := if x < 0 then (-x * 1048576, -y * 1048576, turn / 2) else (x * 1048576, y * 1048576, 0)
  let r := atanTab.zipIdx.foldl (fun (v : Int × Int × Int) t =>
    if v.2.1 < 0 then (v.1 - v.2.1 / 2 ^ t.2, v.2.1 + v.1 / 2 ^ t.2, v.2.2 - t.1) else (v.1 + v.2.1 / 2 ^ t.2, v.2.1 - v.1 / 2 ^ t.2, v.2.2 + t.1)) st
  r.2.2 % turn

/-- The largest natural whose square is at most v, of at most 40 bits. -/
def isqrt (v : Nat) : Nat := (List.range 40).foldl (fun r i => let t := r + 2 ^ (39 - i); if t * t ≤ v then t else r) 0

/-- One over the square root of three. -/
def overRoot3 (v : Int) : Int := roundDiv (v * 577350269189625764) 1000000000000000000

/-- Three phase values on the two axes of the plane, the second along a quarter turn of the forward sequence: with DIR set V and W change
places (R275). -/
def plane (dir : Bool) (v : List Int) : Int × Int :=
  let a := v.getD 0 0; let b := v.getD 1 0; let c := v.getD 2 0
  (roundDiv (2 * a - b - c) 3, overRoot3 (if dir then c - b else b - c))

/-- The phase values of a vector of the plane. -/
def phases (dir : Bool) (v : Int × Int) : List Int :=
  let r := overRoot3 v.2 * 3
  let b := roundDiv (-v.1 + r) 2
  let c := roundDiv (-v.1 - r) 2
  if dir then [v.1, c, b] else [v.1, b, c]

/-! ### Speeds (R253) -/

/-- The format speed of the channel, rpm (R42): that of the image's zone table. -/
def formatRpm (n : Ch) (s : State) : Nat :=
  match s.boot.image.bind fun g => g.zones.getD n.val none with
  | some z => max 1 z.rpm
  | none => max 1 Config.formatSpeed

/-- An electrical speed in 2^-48 turn per PWM period as 1/16,384 of N_f: f_e is N ÷ 10 Hz. -/
def speedOf (n : Ch) (w : Int) (s : State) : Int := roundDiv (w * 32768000000000) (281474976710656 * 4166 * formatRpm n s)

/-! ### Modulation depth and gate commands (R256 to R260) -/

/-- WIN as used (R259). -/
def pwmWin (n : Ch) (s : State) : Nat := min 1000 (max 250 (s.get (F.MOT_PWMCFG_WIN n)))

/-- DEPTH as DEPTHSTAT shows it. -/
def pwmDepth (n : Ch) (s : State) : Nat := (4166 - pwmWin n s) * 4096 / 4166

/-- The edge times of R257, ns. -/
def edgeNs (v : Nat) : Nat := [1, 3, 8, 20].getD v 1

/-- For how many of `period` cycles the high-side and low-side commands of one leg are asserted at a duty: half of the dead time goes off
either side of an edge (R256); a leg without an edge has none. -/
def legTimes (period dead d : Nat) : Nat × Nat :=
  if d = 0 then (0, period) else if period ≤ d then (period, 0) else (d - max 4 dead, period - d - max 4 dead)

/-! ### The current regulator (R260, R261) -/

/-- Whether the block drives the spindle. -/
def driving (n : Ch) (s : State) : Bool := (s.mot n).gates != .hiZ

/-- VMOT_SOFT as used (R263). -/
def vmotSoft (n : Ch) (s : State) : Nat := min (s.get (F.MOT_BRAKE_VMOT_SOFT n)) (s.get (F.MOT_BRAKE_VMOT_MAX n) - 1)

/-- The rotor angle in use and the q-axis target, 2^-28 of full scale: the align vectors stand at 60 and 0 degrees (R273 step 1). -/
def angleUse (n : Ch) (s : State) : Int :=
  match (s.mot n).gates with
  | .align60 => turn / 6 - turn / 4
  | .align0 => -(turn / 4)
  | .forced => (s.mot n).forced
  | _ => (s.mot n).angle

/-- The braking factor s of R276 applied to a value: full up to VMOT_SOFT, nothing at VMOT_MAX. -/
def brakeScale (n : Ch) (v : Int) (s : State) : Int :=
  let hi := s.get (F.MOT_BRAKE_VMOT_MAX n)
  let lo := vmotSoft n s
  let x := min hi (max lo (s.get (F.MOT_VMOT_VMOT n)))
  roundDiv (v * ((hi - x : Nat) : Int)) (max 1 (hi - lo))

/-- The q-axis target of the present state (R261, R273, R276). -/
def qTarget (n : Ch) (s : State) : Int :=
  let m := s.mot n
  match m.gates with
  | .align60 | .align0 => s.get (F.MOT_CUR_I_ALIGN n) * 1048576
  | .forced => s.get (F.MOT_CUR_I_ACCEL n) * 1048576
  | _ =>
    if s.get (F.MOT_STAT_STATE n) = stRun then (s.chan n).servo.tqCmd * (s.get (F.MOT_CUR_I_FS n) : Int) * 8
    else if s.get (F.MOT_STAT_STATE n) = stBrake then
      let b := brakeScale n (s.get (F.MOT_BRAKE_I_BRAKE n) * 1048576) s
      if m.omega < 0 then b else -b
    else s.get (F.MOT_CUR_I_ACCEL n) * 1048576

/-- The vector asked for, its integrators, and the phase values it gives, 2^-28 duty. -/
structure VecCmd where
  intD : Int
  intQ : Int
  duty : List Nat
  lim  : Bool

/-- Phase values as centred duties, scaled towards zero along their angle when the largest would exceed the depth (R260). -/
def dutiesOf (win : Nat) (v : List Int) : List Nat × Bool :=
  let hi := v.foldl max (v.getD 0 0)
  let lo := v.foldl min (v.getD 0 0)
  let span := hi - lo
  let room : Int := (4166 - 2 * win : Nat)
  let lim := decide (room * 268435456 < span * 4166)
  let d := v.map fun x =>
    let off := 2 * x - hi - lo
    if lim then (roundDiv (4166 * span + off * room) (2 * span.natAbs)).toNat
    else (roundDiv (4166 * (268435456 + off)) 536870912).toNat
  (d, lim)

/-- One period of the current regulator. -/
def regulate (n : Ch) (s : State) : VecCmd :=
  let m := s.mot n
  let dir := s.flag (F.MOT_RUNCFG_DIR n)
  let a := angleUse n s
  let c := cosTurn a
  let q := sinTurn a
  let i := plane dir (m.cur.map (· * 131072))
  let eD := -(roundDiv (i.1 * c + i.2 * q) 1073741824)
  let eQ := qTarget n s - roundDiv (i.2 * c - i.1 * q) 1073741824
  let kp : Int := s.get (F.MOT_CURPI_KP n)
  let ki : Int := s.get (F.MOT_CURPI_KI n)
  let vd := roundDiv (kp * eD) 256 + m.intD
  let vq := roundDiv (kp * eQ) 256 + m.intQ
  let r := dutiesOf (pwmWin n s) (phases dir (roundDiv (vd * c - vq * q) 1073741824, roundDiv (vd * q + vq * c) 1073741824))
  let hold := fun (x e : Int) => if r.2 then x else x + roundDiv (ki * e) 4096
  ⟨hold m.intD eD, hold m.intQ eQ, r.1, r.2⟩

/-! ### Back-EMF estimates (R264, R265) -/

/-- The observer's estimate of each phase's back-EMF: applied voltage (duties × VMOT) less resistive and inductive drop, 1/25,595,904 µV. -/
def modelEmf (n : Ch) (old : List Int) (s : State) : List Int :=
  let m := s.mot n
  let fs : Int := s.get (F.MOT_MODEL1_ISENSE_FS n)
  let sum : Nat := m.duty.sum
  (List.range 3).map fun k =>
    let i := m.cur.getD k 0
    2048 * (3 * (m.duty.getD k 0 : Int) - (sum : Int)) * (s.get (F.MOT_VMOT_VMOT n) : Int) * 50000
      - s.get (F.MOT_MODEL0_R_S n) * i * fs * 12498 - s.get (F.MOT_MODEL0_L_S n) * (i - old.getD k 0) * fs * 60000

/-- The second estimate from the 32 samples of terminals and centre tap (R265), 1/1,092,091,904 µV. -/
def secondEmf (n : Ch) (term : List (Vector Int 4)) (old : List Int) (s : State) : List Int :=
  let m := s.mot n
  let fs : Int := s.get (F.MOT_MODEL1_ISENSE_FS n)
  let tap : Int := (term.map fun v => v[3]).sum
  [(term.map fun v => v[0]).sum, (term.map fun v => v[1]).sum, (term.map fun v => v[2]).sum].zipIdx.map fun (x : Int × Nat) =>
    let i := m.cur.getD x.2 0
    (x.1 - tap) * (s.get (F.MOT_VMOT_DIV n) : Int) * 8531968
      - s.get (F.MOT_MODEL0_R_S n) * i * fs * 533248 - s.get (F.MOT_MODEL0_L_S n) * (i - old.getD x.2 0) * fs * 2560000

/-- The angle of a back-EMF vector as a rotor angle: the back-EMF leads the rotor by a quarter turn. -/
def rotorAngle (dir : Bool) (e : List Int) : Int := let v := plane dir e; (angleOf v.1 v.2 - turn / 4) % turn

/-- Whether a back-EMF vector's amplitude reaches that of 1 % of N_f through K_E (R271): K_E · 2π · N_f ÷ 1,000 µV. -/
def emfTurns (n : Ch) (e : List Int) (s : State) : Bool :=
  let v := plane (s.flag (F.MOT_RUNCFG_DIR n)) e
  let lim : Int := s.get (F.MOT_MODEL1_K_E n) * formatRpm n s * 6861816
  decide (lim * lim ≤ v.1 * v.1 + v.2 * v.2)

/-- The crossings of one period, by phase: number 0 to 5 in the forward cycle and the part of the period since it, 2^-16. Nominal angles are
multiples of 60 degrees, a forward sequence U falling, W rising, V falling, U rising, W falling, V rising. -/
def crossings (dir : Bool) (old new : List Int) : List (Nat × Nat) :=
  if old.isEmpty then []
  else
    let order := if dir then [0, 2, 1] else [0, 1, 2]
    (List.range 3).filterMap fun k =>
      let a := old.getD (order.getD k 0) 0
      let b := new.getD (order.getD k 0) 0
      if decide (a < 0) == decide (b < 0) then none
      else some (if b < 0 then [0, 2, 4].getD k 0 else [3, 5, 1].getD k 0, b.natAbs * 65536 / max 1 (a.natAbs + b.natAbs))

/-- Whether a crossing fails against the observer (R265): its angle, and the speed of the interval since the last crossing, 2^-16 period. -/
def crossFails (n : Ch) (k : Nat) (interval : Option Nat) (s : State) : Bool :=
  let m := s.mot n
  let d := wrapTurn (m.angle - (k : Int) * (turn / 6))
  decide ((s.get (F.MOT_OBS_ANG_THR n) : Int) * turn < (d.natAbs : Int) * 360) ||
  match interval with
  | none => false
  | some t =>
    let x : Int := 6 * (t : Int) * m.omega
    decide ((s.get (F.MOT_OBS_SPD_THR n) : Int) * (x.natAbs : Int) < ((turn * 65536 - x).natAbs : Int) * 256)

/-- One crossing is taken: it counts in the cycle under way, and in forward sequence among the detector's intervals (R265, R277). -/
def takeCrossing (n : Ch) (x : Nat × Nat) (s : State) : State :=
  let m := s.mot n
  let t := m.since - x.2
  let bad := crossFails n x.1 (m.zc.map fun _ => t) s
  let fwd := m.zc == some ((x.1 + 5) % 6)
  s.modMot n fun m => { m with
    zc := some x.1
    since := x.2
    cyc := m.cyc.map fun c => (c.1 + 1, c.2 + bad.toNat)
    ints := if m.catching && fwd then (t :: m.ints).take 11 else [] }

/-- The catch detector's speed: the mean of its intervals, 2^-48 turn per period (R277). -/
def detectorOmega (m : Motor) : Int := roundDiv (turn * 65536 * (m.ints.length : Int)) (max 1 (6 * m.ints.sum))

/-- Twelve consecutive crossings with intervals within 3 % of their mean (R277 step 4). -/
def detectorDone (m : Motor) : Bool :=
  m.ints.length == 11 && m.ints.all fun t => decide (((t * 11 : Nat) - (m.ints.sum : Nat) : Int).natAbs * 100 ≤ 3 * m.ints.sum)

/-- The observer takes a seed (R272, R276, R277). -/
def seed (n : Ch) (angle omega : Int) (s : State) : State :=
  s.modMot n fun m => { m with angle := angle % turn, omega := omega, intD := 0, intQ := 0, cyc := none }

/-- The measurement of the back-EMF vector begins anew (R271). -/
def measureStart (n : Ch) (s : State) : State := s.modMot n fun m => { m with periods := 0, adv := 0, calSum := (0, 0, 0) }

/-- The mean angle advance of the measurement; none below the amplitude of 1 % (R271). -/
def measuredOmega (n : Ch) (s : State) : Int :=
  let m := s.mot n
  if emfTurns n m.emf s then roundDiv m.adv (max 1 m.periods) else 0

/-- The observer is seeded with the measured vector (R272, R276): in backward rotation the back-EMF lags the rotor. -/
def seedVector (n : Ch) (w : Int) (s : State) : State := seed n ((s.mot n).vec.getD 0 + if w < 0 then turn / 2 else 0) w s

/-- The last measured speed as 2^-48 turn per period. -/
def omegaBack (n : Ch) (s : State) : Int := roundDiv ((s.mot n).speed * 4166 * formatRpm n s * turn) 32768000000000

/-- The amplitude of the current vector, 2^-29 of full scale (R266). -/
def currentAmp (n : Ch) (s : State) : Nat := isqrt (((s.mot n).cur.map fun i => i.natAbs * i.natAbs).sum * 2 * 68719476736 / 3)

/-! ### The voice coil (R283 to R285) -/

/-- The sign of motion towards the ramp: the outer diameter while RET_DIR is 0 (R284). -/
def rampSign (n : Ch) (s : State) : Int := if s.flag (F.MOT_VCM_RET_DIR n) then 1 else -1

/-- The coil's back-EMF in µV: CHn_VCB − VC_R × i (R284). -/
def coilVel (n : Ch) (current vcb : Int) (s : State) : Int := vcb - (s.get (F.MOT_VCM_VC_R n) : Int) * 50 * current

/-- A current fraction in 1/256 of VC_FS as 1/32,768 mA. -/
def coilFrac (n : Ch) (f : Nat) (s : State) : Int := ((s.get (F.MOT_VCM_VC_FS n) * f * 128 : Nat) : Int)

/-- The current target of the period, 1/32,768 mA (R283, R284, R285 step 3). -/
def coilAim (n : Ch) (current vcb : Int) (s : State) : Int :=
  let v := coilVel n current vcb s
  let lim := coilFrac n (s.get (F.MOT_RETCFG_RET_ILIM n)) s
  let vel := fun (sign : Int) => clampI lim (Config.coilTarget (sign * (s.get (F.MOT_RETCFG_RET_VEL n) : Int) * 2000) v * 32768)
  match (s.mot n).vc with
  | .off => 0
  | .current => (s.chan n).servo.vcCmd * (s.get (F.MOT_VCM_VC_FS n) : Int)
  | .load => vel (-(rampSign n s))
  | .retract => vel (rampSign n s)
  | .hold => rampSign n s * coilFrac n (s.get (F.MOT_RETCFG_RET_HOLD n)) s

/-- At rest against the ramp: below RET_VEL ÷ 8 with the current at RET_ILIM (R285 step 2). -/
def atRest (n : Ch) (current vcb aim : Int) (s : State) : Bool :=
  decide ((coilVel n current vcb s).natAbs * 8 < s.get (F.MOT_RETCFG_RET_VEL n) * 2000) &&
  decide (aim.natAbs = (coilFrac n (s.get (F.MOT_RETCFG_RET_ILIM n)) s).natAbs)

/-- The legs A and B of the bridge at a duty of ±250 cycles about the centre; all low while the coil is off. -/
def coilGates (n : Ch) (aim current : Int) (s : State) : List (Nat × Nat) :=
  if (s.mot n).vc = .off then [(0, 0), (0, 0)]
  else
    let d := clampI 250 (Config.coilDuty aim current)
    let dead := s.get (F.MOT_PWMCFG_DEADTIME n)
    [legTimes 500 dead (250 + d).toNat, legTimes 500 dead (250 - d).toNat]

end Sys2Proof.Machine
end

