-- ==== Sys2Proof/Machine/Motor.lean ====
section
/-! DEFINITION. The commutation block of a channel (R253 to R291): its states and commands, starts, braking, rotor loss and
catch-spin, the speed windows, the voice coil, load and retract. -/

namespace Sys2Proof.Machine

/-! ### States -/

/-- The gate outputs a state is entered with (R267). -/
def entryGates (st : Nat) : Gates :=
  if st = stAlign then .align60 else if st = stRamp then .forced
  else if st = stAccel || st = stRun || st = stBrake then .observer else .hiZ

/-- What a state begins with: its counts and measurements anew. RUN, which follows ACCEL on the same observer, keeps the cycle check; the
regulator's integrators start from zero when the gates have been at high impedance. -/
def Motor.entered (m : Motor) (st : Nat) : Motor :=
  let run := st == stRun
  let g := entryGates st
  let keep := g != .hiZ && m.gates != .hiZ
  { m with
    gates := g, limRun := 0, tolRun := 0, catching := false, runNew := run
    bad := if run then m.bad else 0, cyc := if run then m.cyc else none
    intD := if keep then m.intD else 0, intQ := if keep then m.intQ else 0
    periods := 0, adv := 0, calSum := (0, 0, 0), ints := [], forced := 0, turned := 0, agreed := 0 }

/-- The block enters a state: leaving RUN ends IN_TOL (R281); entering RUN, the next strobe is its first (R266). -/
def enter (n : Ch) (st : Nat) (s : State) : State :=
  let t := (s.set (F.MOT_STAT_STATE n) st).modMot n fun m => m.entered st
  let t := t.when (st != stRun) fun u => u.setFlag (F.MOT_STAT_IN_TOL n) false
  t.when (st != stBrake) fun u => u.setFlag (F.MOT_STAT_VMOT_LIM n) false

/-- The heads are off the ramp: loaded, or on their way (R225). -/
def headsOff (n : Ch) (s : State) : Bool := s.flag (F.CTL_STAT_LOADED n) || (s.chan n).servo.loading

/-! ### Retract (R285, R287) -/

/-- A retract starts; one that runs is not restarted (R269). The coarse loop no longer drives the coil. -/
def startRetract (n : Ch) (s : State) : State :=
  if s.flag (F.MOT_STAT_RETRACTING n) || !headsOff n s then s
  else
    let t := (s.setFlag (F.MOT_STAT_RETRACTING n) true).modMot n fun m => { m with vc := .retract }
    (t.setFlag (F.MOT_STAT_PARKED n) false).modServo n fun v => { v with loading := false }

/-- A start that is in progress ends with a case (R269, R273, R274). -/
def endStart (n : Ch) (case : Nat) (s : State) : State :=
  if (s.mot n).starting then (s.set (F.MOT_START_STAT_CASE n) case).modMot n fun m => { m with starting := false } else s

/-- A start that ends in case 0x5, 0x6 or 0x8: COAST and CHn_SPINUP_FAIL (R274). -/
def failStart (n : Ch) (case : Nat) (s : State) : State :=
  (enter n stCoast (endStart n case s)).raise (chSrc n 26) 0xFFFF case

/-- FAULT is entered (R288): the spindle coasts and the heads retract. -/
def enterFault (n : Ch) (k : Nat) (s : State) : State :=
  (startRetract n (enter n stFault (s.modMot n fun m => { m with starting := false, stopCaught := false }))).raise (chSrc n k)

/-- Braking from high impedance begins with the observer seeded with the back-EMF vector and the last speed (R276). -/
def brakeSeed (n : Ch) (s : State) : State := if driving n s then s else seedVector n (omegaBack n s) s

/-- STOP acts on the spindle (R268, R269, R276, R280). -/
def stopNow (n : Ch) (s : State) : State :=
  if motState n s = stLost then s.modMot n fun m => { m with stopCaught := true }
  else if motIn n [stOff, stRectify, stFault] s then s
  else
    let t := if motIn n [stSense, stAlign, stRamp, stAccel] s then endStart n 7 s else s
    enter n stBrake (brakeSeed n (t.modMot n fun m => { m with starting := false, toOff := true, held := false }))

/-- COAST acts on the spindle (R268, R269, R280). -/
def coastNow (n : Ch) (s : State) : State :=
  if motIn n [stRectify, stFault] s then s
  else
    let t := if motIn n [stSense, stAlign, stRamp, stAccel] s then endStart n 7 s else s
    enter n stCoast (t.modMot n fun m => { m with starting := false, stopCaught := false, held := false })

/-- The second try to load (R225): within the media-access tolerance, on an enabled channel, with the heads on the ramp. -/
def secondTry (n : Ch) (s : State) : State :=
  if (s.chan n).servo.loadTry = 1 && motState n s = stRun && s.flag (F.MOT_STAT_IN_TOL n) && s.flag (F.PAGE_ENABLE_EN n) &&
      !headsOff n s && !s.flag (F.MOT_STAT_RETRACTING n) then
    ((s.modMot n fun m => { m with vc := .load }).modServo n fun v => { v with loading := true, loadTry := 2 }).setFlag (F.MOT_STAT_PARKED n) false
  else s

/-- A retract has ended: STOP or COAST that waited for it acts (R269). -/
def afterRetract (n : Ch) (s : State) : State :=
  let t := (s.setFlag (F.MOT_STAT_RETRACTING n) false).setFlag (F.CTL_STAT_LOADED n) false
  match (t.mot n).after with
  | some true => stopNow n (t.modMot n fun m => { m with after := none })
  | some false => coastNow n (t.modMot n fun m => { m with after := none })
  | none => secondTry n t

/-- The safe state and a Channel-fatal fault (R280, R285, R287): the heads retract; with `coast` the spindle coasts. -/
def parkHeads (n : Ch) (coast : Bool) (s : State) : State :=
  let t := startRetract n s
  if coast then
    coastNow n t
  else if motState n t = stLost then coastNow n t else t

/-- Whether some path of a channel writes a sector that has begun. -/
def sectorBegun (n : Ch) (s : State) : Bool :=
  allPaths.any fun p => match (s.pathSt n p).arm with | some a => a.act == 2 && a.begun | none => false

/-- In a chip reset, a channel whose last begun sector has ended (`was`: it had one) retracts (R615). -/
def chipRetract (n : Ch) (was : Bool) (s : State) : State :=
  if s.rst.chip.isSome && was && !sectorBegun n s then parkHeads n true s else s

/-- Step 3 of R25 (R286): RECTIFY; a start in progress records ABORTED. -/
def rectify (n : Ch) (s : State) : State :=
  enter n stRectify ((endStart n 7 s).modMot n fun m => { m with stopCaught := false, after := none, held := false })

/-! ### Commands (R268) -/

/-- Commands other than UNLOAD are discarded in the safe state (R287). -/
def motCmd (f : State → State) (s : State) : State := if s.flag F.FAULT_STAT_SAFE then s else f s

def motStart (n : Ch) (s : State) : State :=
  if motIn n [stOff, stCoast, stBrake] s then
    enter n stSense (s.modMot n fun m => { m with starting := true, toOff := false, hand := 0, losses := 0 })
  else s

/-! ### The limit on channels that spin up (R270) -/

/-- Channels that may come to ALIGN, RAMP or ACCEL, or are there. -/
def spinning (s : State) : Nat := (allChans.filter fun c => (s.mot c).starting || motIn c [stAlign, stRamp, stAccel] s).length

/-- The concurrent spin-up count of the image, 1 to 8. -/
def spinLimit (s : State) : Nat := match s.boot.image with | some g => min 8 (max 1 g.spinCount) | none => 1

/-- MGMT issues a START, or holds it while as many channels spin up as may. -/
def mgmtStart (n : Ch) (s : State) : State :=
  if s.flag F.FAULT_STAT_SAFE || !motIn n [stOff, stCoast, stBrake] s then s
  else if spinning s < spinLimit s then motStart n s
  else s.modMot n fun m => { m with held := true }

/-- A disabled channel's spindle is on its way to RUN within tolerance; or stands or coasts, and MGMT starts it when it enables the channel
(R268). -/
def spinsUp (n : Ch) (s : State) : Bool :=
  !s.flag (F.PAGE_ENABLE_EN n) && (s.get (F.PAGE_ENABLE_PHASE n) != 1) &&
    ((s.mot n).held || (s.mot n).starting || motState n s == stAccel || (motState n s == stRun && !s.flag (F.MOT_STAT_IN_TOL n)))
def needsStart (n : Ch) (s : State) : Bool :=
  !s.flag (F.PAGE_ENABLE_EN n) && (s.get (F.PAGE_ENABLE_PHASE n) != 1) && !s.flag F.FAULT_STAT_SAFE &&
    motIn n [stOff, stCoast] s

/-- MGMT issues the STARTs it holds, in channel-number order, as far as the limit lets it. -/
def releaseStarts (s : State) : State :=
  s.each allChans fun n u => u.when (u.mot n).held fun v => mgmtStart n (v.modMot n fun m => { m with held := false })

def motStop (n : Ch) (s : State) : State :=
  if motIn n [stOff, stRectify, stFault] s then s
  else if motState n s = stLost then stopNow n (startRetract n s)
  else if headsOff n s then (startRetract n s).modMot n fun m => { m with after := some true }
  else stopNow n s

def motCoast (n : Ch) (s : State) : State :=
  if motIn n [stRectify, stFault] s then s
  else if motState n s = stLost then coastNow n (startRetract n s)
  else if headsOff n s then (startRetract n s).modMot n fun m => { m with after := some false }
  else coastNow n s

def motLoad (n : Ch) (s : State) : State :=
  if motState n s = stRun && s.flag (F.MOT_STAT_IN_TOL n) && s.flag (F.PAGE_ENABLE_EN n) && !headsOff n s && !s.flag (F.MOT_STAT_RETRACTING n) then
    ((s.modMot n fun m => { m with vc := .load }).modServo n fun v => { v with loading := true, loadTry := 0 }).setFlag
      (F.MOT_STAT_PARKED n) false
  else s

/-! ### Speeds (R253, R272, R274, R281, R282) -/

/-- At or below 1 % of N_f, in either direction. -/
def slowRotor (speed : Int) : Bool := decide (speed.natAbs * 100 ≤ 16384)

/-- Record a measured speed. -/
def putSpeed (n : Ch) (speed : Int) (s : State) : State :=
  let t := (s.set (F.MOT_STAT_SPEED n) (min 65535 speed.natAbs)).set (F.MOT_STAT_ROT n)
    (if slowRotor speed then 0 else if speed < 0 then 2 else 1)
  (t.setFlag (F.MOT_STAT_ABOVE_FLY n) (decide (80 * 16384 ≤ speed.natAbs * 100))).modMot n fun m => { m with speed := speed }

/-- Below 80 % with the heads loaded, the heads retract; in RUN or ACCEL the block enters FAULT (R282). In LOST, R279 applies. -/
def underspeed (n : Ch) (s : State) : State :=
  if s.flag (F.MOT_STAT_ABOVE_FLY n) || !headsOff n s || motState n s == stLost then s
  else if motIn n [stRun, stAccel] s then enterFault n 24 s
  else startRetract n s

/-- The ADC offsets are those the samples of SENSE average to (R271). -/
def calibrate (n : Ch) (s : State) : State :=
  s.modMot n fun m => if m.calSum.2.2 = 0 then m else { m with
    offU := roundDiv m.calSum.1 m.calSum.2.2, offV := roundDiv m.calSum.2.1 m.calSum.2.2 }

/-- The speed a measurement gives (R271). -/
def measuredSpeed (n : Ch) (s : State) : Int := speedOf n (measuredOmega n s) s

/-- SENSE ends: offsets, speed and the observer's seed are taken. -/
def senseTaken (n : Ch) (s : State) : State :=
  let v := measuredSpeed n s
  seedVector n (measuredOmega n s) ((putSpeed n v (calibrate n s)).set (F.MOT_START_STAT_SENSE_SPEED n) (min 65535 v.natAbs))

/-- SENSE ends: the start table decides (R272). -/
def senseEnd (n : Ch) (s : State) : State :=
  if motState n s ≠ stSense then s
  else
    let v := measuredSpeed n s
    let t := senseTaken n s
    if slowRotor v then enter n stAlign (t.set (F.MOT_START_STAT_CASE n) 1)
    else if v < 0 then enter n stBrake (t.set (F.MOT_START_STAT_CASE n) 4)
    else if decide (v.natAbs * 100 ≤ 3 * 16384) then enter n stBrake (t.set (F.MOT_START_STAT_CASE n) 3)
    else enter n stAccel (t.set (F.MOT_START_STAT_CASE n) 2)

/-- An align step ends (R273 step 1). -/
def alignStep (n : Ch) (s : State) : State :=
  if motState n s ≠ stAlign then s
  else if (s.mot n).gates = .align60 then s.modMot n fun m => { m with gates := .align0 }
  else enter n stRamp s

/-- No handover in RAMP (R273 step 4). -/
def handoverFail (n : Ch) (s : State) : State :=
  if motState n s ≠ stRamp then s
  else if 1 ≤ (s.mot n).hand then failStart n 5 s
  else enter n stSense (s.modMot n fun m => { m with hand := m.hand + 1 })

/-- BRAKE ends at or below 1 %: OFF after a STOP, ALIGN in a start (R276). -/
def brakeEnd (n : Ch) (s : State) : State :=
  if (s.mot n).toOff then enter n stOff (s.modMot n fun m => { m with toOff := false }) else enter n stAlign s

/-- A phase of 20 ms of braking below 5 % ends (R276): zero vector and measurement alternate. -/
def brakePhase (n : Ch) (s : State) : State :=
  if motState n s ≠ stBrake then s
  else match (s.mot n).gates with
    | .zeroVec => (measureStart n s).modMot n fun m => { m with gates := .hiZ }
    | .hiZ =>
      let v := measuredSpeed n s
      let t := putSpeed n v s
      if slowRotor v then brakeEnd n t else t.modMot n fun m => { m with gates := .zeroVec }
    | _ => if decide ((s.mot n).speed.natAbs * 100 < 5 * 16384) then s.modMot n fun m => { m with gates := .zeroVec } else s

def brakeTimeout (n : Ch) (s : State) : State :=
  if motState n s ≠ stBrake then s
  else if (s.mot n).starting then failStart n 8 s
  else (enter n stCoast (s.modMot n fun m => { m with toOff := false })).raise (chSrc n 27)

def spinupTimeout (n : Ch) (s : State) : State := if (s.mot n).starting then failStart n 6 s else s

/-! ### Rotor loss and catch-spin (R277 to R280) -/

/-- Abort every work item of a channel; each is placed again when its paths have ended (R278, R13). A descriptor that no
Stitcher has fetched goes back to its place in the ring. -/
def abortAll (n : Ch) (s : State) : State :=
  let t := s.each allPaths fun p u => u.modStit n p fun x =>
    let y := { x with handed := [], prefetch := none }
    if y.cur.isSome then y.latch 15 else y
  t.modSched n fun c => { c with ring := c.ring.map fun i =>
    let held := allPaths.any fun p => match (s.stit n p).cur with | some d => descTag d == descTag i.desc | none => false
    if i.taken && held then { i with again := true } else { i with taken := false, sought := false } }

/-- The rotor is lost (R277, R279). -/
def rotorLost (n : Ch) (s : State) : State :=
  if !motIn n [stAccel, stRun] s then s
  else
    let t := ((s.inc (F.MOT_CNT_LOSS_CNT n)).raise (chSrc n 22))
    if motState n s = stAccel && !headsOff n s then
      if 1 ≤ (s.mot n).losses then failStart n 6 t
      else enter n stSense (t.modMot n fun m => { m with losses := m.losses + 1 })
    else abortAll n (enter n stLost t)

/-- The rotor is reacquired: the observer is seeded with the detector's angle and speed; ACCEL, or BRAKE after a STOP (R277, R280). -/
def reacquire (n : Ch) (s : State) : State :=
  if motState n s ≠ stLost || !(s.mot n).catching then s
  else
    let m := s.mot n
    let w := detectorOmega m
    let t := seed n ((m.zc.getD 0 : Int) * (turn / 6) + roundDiv (w * m.since) 65536) w (putSpeed n (speedOf n w s) s)
    if m.stopCaught then enter n stBrake (t.modMot n fun m => { m with stopCaught := false, toOff := true })
    else enter n stAccel t

def catchTimeout (n : Ch) (s : State) : State := if motState n s = stLost then enterFault n 23 s else s

/-! ### PWM periods (R259 to R263) -/

/-- The VMOT ceiling: an episode begins above VMOT_MAX and ends below VMOT_SOFT (R263); STAT.VMOT_LIM in BRAKE (R276). -/
def vmotPeriod (n : Ch) (v : Nat) (s : State) : State :=
  let t := s.set (F.MOT_VMOT_VMOT n) v
  let t := t.when (motState n t = stBrake) fun u => u.setFlag (F.MOT_STAT_VMOT_LIM n) (decide (vmotSoft n u < v))
  if (t.mot n).vmotHi then
    if v < vmotSoft n t then t.modMot n fun m => { m with vmotHi := false } else t
  else if driving n t && decide (t.get (F.MOT_BRAKE_VMOT_MAX n) < v) then
    ((t.modMot n fun m => { m with vmotHi := true }).inc (F.MOT_CNT_VMOT_CNT n)).raise (chSrc n 32)
  else t

/-- FAULT after 48 cut periods (R262). -/
def motFault (n : Ch) (s : State) : State := if motState n s = stFault then s else enterFault n 31 s

/-- The samples of a period less their offsets, and i_W = −(i_U + i_V) (R259, R271). In SENSE they calibrate the offsets. -/
def sampleCurrents (n : Ch) (iu iv : BitVec 12) (s : State) : State :=
  let sense := motState n s == stSense
  s.modMot n fun m =>
    let u := iu.toInt - m.offU
    let v := iv.toInt - m.offV
    { m with cur := [u, v, -(u + v)]
             calSum := if sense then (m.calSum.1 + iu.toInt, m.calSum.2.1 + iv.toInt, m.calSum.2.2 + 1) else m.calSum }

/-- The overcurrent cut of a period (R262): a sample above OC_THR, 8 ADC steps per unit. -/
def currentPeriod (n : Ch) (s : State) : State :=
  let thr := s.get (F.MOT_CUR_OC_THR n) * 8
  if !(driving n s && (s.mot n).cur.any fun i => decide (thr < i.natAbs)) then s.modMot n fun m => { m with cutRun := 0 }
  else
    let t := (s.inc (F.MOT_CNT_OC_CNT n)).when ((s.mot n).cutRun == 0) fun u => u.raise (chSrc n 30)
    let t := t.modMot n fun m => { m with cutRun := m.cutRun + 1 }
    if 48 ≤ (t.mot n).cutRun then motFault n t else t

/-- The observer's period (R264): it runs from RAMP on while the block drives. -/
def observerPeriod (n : Ch) (old : List Int) (s : State) : State :=
  if !(driving n s && motIn n [stRamp, stAccel, stRun, stBrake] s) then s
  else
    let m := s.mot n
    let r := Config.pll (s.get (F.MOT_OBS_PLL_BW n)) m.angle m.omega (modelEmf n old s)
    s.modMot n fun m => { m with angle := r.1 % turn, omega := r.2 }

/-- Crossings of one period in the order of their times: the earliest lies longest back. -/
def insertCrossing (x : Nat × Nat) : List (Nat × Nat) → List (Nat × Nat)
  | [] => [x]
  | y :: l => if y.2 ≤ x.2 then x :: y :: l else y :: insertCrossing x l

/-- The second estimate's period (R265, R271): the estimate, its vector's advance while the gates are at high impedance, its crossings in
the order of their times. -/
def estimatePeriod (n : Ch) (term : List (Vector Int 4)) (old : List Int) (s : State) : State :=
  let dir := s.flag (F.MOT_RUNCFG_DIR n)
  let m := s.mot n
  let e := secondEmf n term old s
  let a := rotorAngle dir e
  let xs := (crossings dir m.emf e).foldr insertCrossing []
  let t := s.modMot n fun m => { m with
    emf := e, vec := some a, since := m.since + 65536, periods := m.periods + 1
    adv := if m.gates = .hiZ then m.adv + wrapTurn (a - m.vec.getD a) else m.adv }
  t.each xs fun x u => takeCrossing n x u

/-- The speed of a period, 1/16,384 of N_f: the observer's while it commutates, the detector's in LOST, else that of the measured vector. -/
def periodSpeed (n : Ch) (adv : Int) (s : State) : Int :=
  let m := s.mot n
  if motState n s = stLost then (if m.ints.isEmpty then m.speed else speedOf n (detectorOmega m) s)
  else if m.gates = .observer then speedOf n m.omega s
  else if m.gates = .hiZ then (if emfTurns n m.emf s then speedOf n adv s else 0)
  else m.speed

/-- In ACCEL and RUN the electrical cycle ends as the observer angle passes 0°; three consecutive ones that disagree lose the rotor (R265). -/
def cyclePeriod (n : Ch) (s : State) : State :=
  let c := (s.mot n).cyc
  let t := s.modMot n fun m => { m with
    cyc := some (0, 0)
    bad := match m.cyc with | some x => if 2 ≤ x.2 ∨ x.1 < 4 then m.bad + 1 else 0 | none => m.bad }
  if c.isSome && decide (3 ≤ (t.mot n).bad) then rotorLost n t else t

/-- Whether the observer angle passed 0° forward. -/
def passedZero (old new : Int) : Bool := decide (new < old) && decide (0 < wrapTurn (new - old))

/-- The forced speed of RAMP after its periods, and the handover speed, 2^-48 turn per period (R273). -/
def handoverOmega (n : Ch) (s : State) : Int :=
  roundDiv (((min 10 (max 2 (s.get (F.MOT_STARTCFG_HANDOVER n))) * formatRpm n s : Nat) : Int) * 4166 * turn) 200000000000
def forcedOmega (n : Ch) (s : State) : Int :=
  min (handoverOmega n s) (roundDiv (((max 1 (s.get (F.MOT_STARTCFG_OL_ACCEL n)) * (s.mot n).periods : Nat) : Int) * 17355556 * turn) 40000000000000000)

/-- A period of RAMP (R273): the forced angle advances; at the handover speed a whole turn within ANG_THR hands over, four turns without fail. -/
def rampPeriod (n : Ch) (s : State) : State :=
  let w := forcedOmega n s
  let at_ := decide (w = handoverOmega n s)
  let thr : Int := s.get (F.MOT_OBS_ANG_THR n)
  let t := s.modMot n fun m =>
    let f := (m.forced + w) % turn
    let near := decide (((wrapTurn (m.angle - f)).natAbs : Int) * 360 ≤ thr * turn)
    { m with forced := f, turned := if at_ then m.turned + w else 0, agreed := if at_ && near then m.agreed + w else 0 }
  if turn ≤ (t.mot n).agreed then enter n stAccel t
  else if 4 * turn ≤ (t.mot n).turned then handoverFail n t
  else t

/-- The catch detector starts (R277 step 3). -/
def catchStart (n : Ch) (s : State) : State := s.modMot n fun m => { m with catching := true, zc := none, ints := [] }

/-- A period of LOST (R277, R279): the detector starts once every current is below 1/64 of full scale or after 1 ms; it reacquires the rotor,
or finds it below 80 %. -/
def catchPeriod (n : Ch) (s : State) : State :=
  let m := s.mot n
  if !m.catching then
    if m.cur.all (fun i => decide (i.natAbs < 32)) || decide (48 ≤ m.periods) then catchStart n s else s
  else if detectorDone m then reacquire n s
  else if !m.ints.isEmpty && !s.flag (F.MOT_STAT_ABOVE_FLY n) then enterFault n 23 s
  else s

/-- The checks of a period by state. -/
def statePeriod (n : Ch) (s : State) : State :=
  if motState n s = stRamp then rampPeriod n s
  else if motState n s = stLost then catchPeriod n s
  else if motState n s = stBrake && (s.mot n).gates == .observer && decide ((s.mot n).speed.natAbs * 100 < 5 * 16384) then
    s.modMot n fun m => { m with gates := .zeroVec }
  else s

/-- The duties and gate commands of the next period (R256, R258 to R263): none at high impedance, all low sides in the zero vector. -/
def gatePeriod (n : Ch) (s : State) : State :=
  let e := edgeNs (s.get (F.MOT_PWMCFG_SLEW n))
  let dead := s.get (F.MOT_PWMCFG_DEADTIME n)
  if !driving n s then s.modMot n fun m => { m with duty := [0, 0, 0], gateT := [(0, 0), (0, 0), (0, 0)], edge := e }
  else if (s.mot n).vmotHi || (s.mot n).gates == .zeroVec then
    s.modMot n fun m => { m with duty := [0, 0, 0], gateT := [(0, 4166), (0, 4166), (0, 4166)], edge := e }
  else
    let r := regulate n s
    s.modMot n fun m => { m with
      intD := r.intD, intQ := r.intQ, duty := r.duty, gateT := r.duty.map (legTimes 4166 dead), edge := e, limited := m.limited || r.lim }

/-- One spindle PWM period. -/
def pwmPeriod (n : Ch) (o : PwmObs) (s : State) : State :=
  let old := (s.mot n).cur
  let was := (s.mot n).angle
  let adv := (s.mot n).adv
  let t := currentPeriod n (sampleCurrents n o.iu o.iv (vmotPeriod n o.vmot.toNat s))
  let t := observerPeriod n old t
  let t := t.when (motIn n [stAccel, stRun] t && passedZero was (t.mot n).angle) (cyclePeriod n)
  let t := estimatePeriod n o.term old t
  let t := underspeed n (putSpeed n (periodSpeed n ((t.mot n).adv - adv) t) t)
  gatePeriod n (statePeriod n t)

/-! ### Speed strobes: depth limit and tolerance (R260, R281) -/

/-- 16 limited strobes in RUN raise CHn_DEPTH_LIMIT once (R260). -/
def depthLimit (n : Ch) (s : State) : State := if motState n s = stRun then s.raise (chSrc n 29) else s

def depthStrobe (n : Ch) (s : State) : State :=
  let lim := (s.mot n).limited
  let t := (s.setFlag (F.MOT_STAT_DEPTH_LIM n) lim).when lim fun u => u.inc (F.MOT_DEPTHSTAT_LIM_CNT n)
  let t := t.modMot n fun m => { m with limited := false, limRun := if lim && motState n t = stRun then m.limRun + 1 else 0 }
  if (t.mot n).limRun = 16 then depthLimit n t else t

/-- |speed - N_f| within RUNCFG.ACC_TOL × 0.01 %, at most 40 (R281). -/
def inTol (n : Ch) (speed : Int) (s : State) : Bool :=
  decide ((speed - 16384).natAbs * 10000 ≤ min 40 (s.get (F.MOT_RUNCFG_ACC_TOL n)) * 16384)

def tolStrobe (n : Ch) (speed : Int) (s : State) : State :=
  if motState n s ≠ stRun then s
  else if inTol n speed s then
    let t := s.modMot n fun m => { m with tolRun := m.tolRun + 1 }
    t.when (decide (max 1 (t.get (F.MOT_RUNCFG_ACC_CNT n)) ≤ (t.mot n).tolRun)) fun u => secondTry n (u.setFlag (F.MOT_STAT_IN_TOL n) true)
  else (s.modMot n fun m => { m with tolRun := 0 }).setFlag (F.MOT_STAT_IN_TOL n) false

/-- ACCEL enters RUN within 1 % of N_f (R274). -/
def runReached (n : Ch) (speed : Int) (s : State) : State :=
  if motState n s = stAccel && decide ((speed - 16384).natAbs * 100 ≤ 16384) then
    enter n stRun (s.modMot n fun m => { m with starting := false })
  else s

/-! ### Voice coil, direction -/

/-- A voice-coil PWM period: in current mode the latest coarse command is the target (R283). A retract at rest for 2 ms, 800 periods, is
parked (R285 step 2). -/
def coilPeriod (n : Ch) (current vcb : Int) (s : State) : State :=
  let aim := coilAim n current vcb s
  let rest := atRest n current vcb aim s
  let cmd := (s.chan n).servo.vcCmd
  let gate := coilGates n aim current s
  let e := edgeNs (s.get (F.MOT_PWMCFG_VC_SLEW n))
  s.modMot n fun m =>
    let run := if m.vc = .retract && rest then m.parkRun + 1 else 0
    { m with
      vcI := if m.vc = .current then cmd else m.vcI, vcT := aim, vcGate := gate, vcEdge := e, parkRun := run
      vc := if 800 ≤ run then .hold else m.vc }

/-- A write that changes RUNCFG.DIR (R275). -/
def dirWrite (n : Ch) (dir : Bool) (s : State) : State :=
  if s.flag (F.MOT_RUNCFG_DIR n) = dir then s
  else if motState n s = stOff && slowRotor (s.mot n).speed then s.setFlag (F.MOT_RUNCFG_DIR n) dir
  else s.raise (chSrc n 28)

/-! ### Commands -/

/-- MOT_START (R268). -/
def execMotStart (n : Ch) (s : State) : Host.Outcome State Fault Refusal :=
  .next (arbWrite (F.MOT_CMD_OP n).addr (motCmd (motStart n)) s)
/-- MOT_STOP (R268). -/
def execMotStop (n : Ch) (s : State) : Host.Outcome State Fault Refusal :=
  .next (arbWrite (F.MOT_CMD_OP n).addr (motCmd (motStop n)) s)
/-- MOT_COAST (R268). -/
def execMotCoast (n : Ch) (s : State) : Host.Outcome State Fault Refusal :=
  .next (arbWrite (F.MOT_CMD_OP n).addr (motCmd (motCoast n)) s)
/-- MOT_UNLOAD (R268). -/
def execMotUnload (n : Ch) (s : State) : Host.Outcome State Fault Refusal :=
  .next (arbWrite (F.MOT_CMD_OP n).addr (startRetract n) s)
/-- MOT_LOAD (R268). -/
def execMotLoad (n : Ch) (s : State) : Host.Outcome State Fault Refusal :=
  .next (arbWrite (F.MOT_CMD_OP n).addr (motCmd (motLoad n)) s)
/-- SENSE_END (R272). -/
def execSenseEnd (n : Ch) (s : State) : Host.Outcome State Fault Refusal := .next (senseEnd n s)
/-- ALIGN_STEP_END (R273). -/
def execAlignStepEnd (n : Ch) (s : State) : Host.Outcome State Fault Refusal := .next (alignStep n s)
/-- RAMP_HANDOVER (R273). -/
def execRampHandover (n : Ch) (s : State) : Host.Outcome State Fault Refusal :=
  .next (if motState n s = stRamp then enter n stAccel s else s)
/-- RAMP_HANDOVER_FAIL (R273). -/
def execRampHandoverFail (n : Ch) (s : State) : Host.Outcome State Fault Refusal := .next (handoverFail n s)
/-- SPINUP_TIMEOUT (R274). -/
def execSpinupTimeout (n : Ch) (s : State) : Host.Outcome State Fault Refusal := .next (spinupTimeout n s)
/-- BRAKE_PHASE_TIMER (R276). -/
def execBrakePhaseTimer (n : Ch) (s : State) : Host.Outcome State Fault Refusal := .next (brakePhase n s)
/-- BRAKE_TIMEOUT (R276). -/
def execBrakeTimeout (n : Ch) (s : State) : Host.Outcome State Fault Refusal := .next (brakeTimeout n s)
/-- ROTOR_LOST (R277). -/
def execRotorLost (n : Ch) (s : State) : Host.Outcome State Fault Refusal := .next (rotorLost n s)
/-- CATCH_DETECTOR_START (R277). -/
def execCatchDetectorStart (n : Ch) (s : State) : Host.Outcome State Fault Refusal :=
  .next (if motState n s = stLost then catchStart n s else s)
/-- CATCH_REACQUIRE (R277). -/
def execCatchReacquire (n : Ch) (s : State) : Host.Outcome State Fault Refusal := .next (reacquire n s)
/-- CATCH_TIMEOUT (R279). -/
def execCatchTimeout (n : Ch) (s : State) : Host.Outcome State Fault Refusal := .next (catchTimeout n s)
/-- PWM_PERIOD (R258); MGMT issues the STARTs it holds as it can (R270). -/
def execPwmPeriod (n : Ch) (o : PwmObs) (s : State) : Host.Outcome State Fault Refusal := .next (releaseStarts (pwmPeriod n o s))
/-- MOT_FAULT (R262). -/
def execMotFault (n : Ch) (s : State) : Host.Outcome State Fault Refusal := .next (motFault n s)
/-- DEPTH_LIMIT (R260). -/
def execDepthLimit (n : Ch) (s : State) : Host.Outcome State Fault Refusal := .next (depthLimit n s)
/-- IN_TOLERANCE (R281). -/
def execInTolerance (n : Ch) (s : State) : Host.Outcome State Fault Refusal :=
  .next (if motState n s = stRun then s.setFlag (F.MOT_STAT_IN_TOL n) true else s)
/-- SPIN_OFF_TOLERANCE (R281). -/
def execSpinOffTolerance (n : Ch) (s : State) : Host.Outcome State Fault Refusal :=
  .next (if motState n s = stRun && !s.flag (F.MOT_STAT_IN_TOL n) then s.raise (chSrc n 25) else s)
/-- RUNCFG_DIR_WRITE (R275). -/
def execRuncfgDirWrite (path : RegPath) (n : Ch) (dir : Bool) (s : State) : Host.Outcome State Fault Refusal :=
  .next (lockedWrite path (F.MOT_RUNCFG_DIR n).addr false (dirWrite n dir) s)
/-- RETRACT_PARK_DETECT (R285 step 2). -/
def execRetractParkDetect (n : Ch) (s : State) : Host.Outcome State Fault Refusal :=
  .next (if (s.mot n).vc = .retract then s.modMot n fun m => { m with vc := .hold } else s)
/-- RETRACT_HOLD_END (R285 step 3). -/
def execRetractHoldEnd (n : Ch) (s : State) : Host.Outcome State Fault Refusal :=
  .next (if (s.mot n).vc = .hold then
    afterRetract n (((s.modMot n fun m => { m with vc := .off }).setFlag (F.MOT_STAT_PARKED n) true).inc (F.MOT_CNT_RET_CNT n))
  else s)
/-- RETRACT_TIMEOUT (R285). -/
def execRetractTimeout (n : Ch) (s : State) : Host.Outcome State Fault Refusal :=
  .next (if (s.mot n).vc = .retract then afterRetract n ((s.modMot n fun m => { m with vc := .off }).raise (chSrc n 33)) else s)
/-- VOICE_COIL_PERIOD (R283): the coil's current in mA and its terminal voltage in µV. -/
def execVoiceCoilPeriod (n : Ch) (current vcb : Int) (s : State) : Host.Outcome State Fault Refusal := .next (coilPeriod n current vcb s)

end Sys2Proof.Machine
end

