-- ==== Sys2Proof/Machine/Hinge.lean ====
section
/-! DEFINITION. The Hinge arbiter (R231 to R252): engine states, causes, switch-over and its gap, state copies, self-checks,
recovery and take-back. Each engine has a loop context and coefficient banks of its own. -/

namespace Sys2Proof.Machine

def State.servo (s : State) (n : Ch) : Servo := (s.chan n).servo
def State.hinge (s : State) (n : Ch) : Hinge := (s.chan n).hinge
def State.modHinge (s : State) (n : Ch) (f : Hinge → Hinge) : State := s.modChan n fun c => { c with hinge := f c.hinge }

/-! ### Engine states (R231). An engine is named by a truth value: false A, true B. -/

def engActive : Nat := 0
def engStandby : Nat := 1
def engNotReady : Nat := 2
def engRecovering : Nat := 3
def engShadow : Nat := 4
def engFailed : Nat := 5
def engRetired : Nat := 6

def engField (n : Ch) (b : Bool) : Fld := if b then F.HINGE_STAT_B_STATE n else F.HINGE_STAT_A_STATE n
def engState (n : Ch) (b : Bool) (s : State) : Nat := s.get (engField n b)
def setEng (n : Ch) (b : Bool) (v : Nat) (s : State) : State := s.set (engField n b) v
/-- The engine in control is B. -/
def inCtrl (n : Ch) (s : State) : Bool := s.flag (F.HINGE_STAT_IN_CTRL n)
/-- The engine that is not in control. -/
def otherEng (n : Ch) (s : State) : Bool := !inCtrl n s

/-- The loop context of an engine. -/
def State.eng (s : State) (n : Ch) (b : Bool) : EngCtx := if b then (s.servo n).engB else (s.servo n).engA
def State.modEng (s : State) (n : Ch) (b : Bool) (f : EngCtx → EngCtx) : State :=
  s.modServo n fun v => if b then { v with engB := f v.engB } else { v with engA := f v.engA }
def State.modEngs (s : State) (n : Ch) (f : EngCtx → EngCtx) : State :=
  s.modServo n fun v => { v with engA := f v.engA, engB := f v.engB }

/-- The context of the engine in control. -/
def ctlEng (n : Ch) (s : State) : EngCtx := s.eng n (inCtrl n s)

/-- The other engine computes every sample from its own context and receives copies (R231, R233). -/
def otherComputes (n : Ch) (s : State) : Bool := [engStandby, engNotReady, engShadow].contains (engState n (otherEng n s) s)

/-- CTL.STAT shows the loops plausible in the engine in control, and its seek. -/
def syncCtl (n : Ch) (s : State) : State :=
  (s.set (F.CTL_STAT_PLAUS n) (ctlEng n s).pl.toNat).setFlag (F.CTL_STAT_SEEKING n) (ctlEng n s).seek.isSome

/-- R232. -/
def otherReady (n : Ch) (s : State) : Bool := [engStandby, engShadow].contains (engState n (otherEng n s) s)

/-- An engine enters FAILED, or RETIRED at its (RETRY_LIMIT + 1)th failure (R246); it is reset (R245). -/
def failEngine (n : Ch) (b : Bool) (s : State) : State :=
  let f := if b then F.HINGE_STAT_FAILS_B n else F.HINGE_STAT_FAILS_A n
  let t := s.inc f
  let t := (t.set (F.HINGE_STAT_SHADOW_CNT n) 0).modHinge n fun h => { h with good := 0, miss := 0, pass := 0, copying := false, dis := 0 }
  let t := t.modEng n b fun _ => EngCtx.reset
  if s.get (F.HINGE_CFG_RETRY_LIMIT n) < t.get f then (setEng n b engRetired t).raise (chSrc n 19) b.toNat
  else setEng n b engFailed t

/-- A cause of R236 is latched; the first one stands until it acts. -/
def latchCause (n : Ch) (c : Nat) (s : State) : State :=
  s.modHinge n fun h => { h with cause := match h.cause with | some x => some x | none => some c }

/-- No engine is ready (R241): the heads retract and CHn_ENGINES_FAILED is raised. -/
def enginesFailed (n : Ch) (s : State) : State :=
  (startRetract n (s.modHinge n fun h => { h with cause := none })).raise (chSrc n 20)

/-- Control moves to the ready engine; a forced switch makes A SHADOW, not FAILED (R238, R250). -/
def switchOver (n : Ch) (cause : Nat) (s : State) : State :=
  if !otherReady n s then enginesFailed n s
  else
    let b := inCtrl n s
    let t := if cause = 6 then setEng n b engShadow s else failEngine n b s
    let t := (setEng n (!b) engActive t).setFlag (F.HINGE_STAT_IN_CTRL n) (!b)
    let t := ((t.set (F.HINGE_STAT_LAST_CAUSE n) cause).inc (F.HINGE_CNT_SWITCH_CNT n)).setFlag (F.HINGE_STAT_GAP n) true
    let t := t.modHinge n fun h => { h with cause := none, gapNew := true, gapCnt := 0, spinGap := true, force := false, good := 0, miss := 0, spinTb := false }
    let t := syncCtl n t
    ((parkAll n 0x1B t).raise (chSrc n 15) 0xFFFF cause).set (F.HINGE_STAT_SHADOW_CNT n) 0

/-- Take-back is due at an event (R247, R249, R250): no cause stands against B. -/
def takeBackDue (n : Ch) (s : State) : Bool :=
  (s.hinge n).cause.isNone && inCtrl n s && engState n false s == engShadow &&
    ((s.hinge n).force || (s.get (F.HINGE_STAT_SHADOW_CNT n) == 64 && s.flag (F.HINGE_CFG_TB_EN n) && !s.flag (F.CTL_STAT_SEEKING n)))

/-- Engine A takes control back (R248); no gap, and LAST_CAUSE stays. The next spindle strobe follows the same order. -/
def takeBack (n : Ch) (s : State) : State :=
  let t := (setEng n true engStandby (setEng n false engActive s)).setFlag (F.HINGE_STAT_IN_CTRL n) false
  let t := (t.inc (F.HINGE_CNT_TAKEBACK_CNT n)).set (F.HINGE_STAT_SHADOW_CNT n) 0
  syncCtl n ((t.modHinge n fun h => { h with force := false, good := 0, miss := 0, spinTb := true }).raise (chSrc n 16))

/-! ### Copies, self-checks, recovery (R233 to R235, R245) -/

/-- What a good copy leaves in the receiver (R233): the sender's context but its own last inputs and its count of R214. -/
def copyCtx (sent own : EngCtx) : EngCtx := { sent with u0 := own.u0, satRun := own.satRun }

/-- One state copy arrives at the other engine, good or bad (R231, R233, R234). A good one replaces the receiver's context. -/
def stateCopy (n : Ch) (good : Bool) (s : State) : State :=
  let b := otherEng n s
  let st := engState n b s
  if !otherComputes n s then s
  else if good then
    let t := (s.modHinge n fun h => { h with good := h.good + 1, miss := 0 }).modEng n b (copyCtx (ctlEng n s))
    if st = engNotReady && decide (16 ≤ (t.hinge n).good) then setEng n b engStandby t else t
  else
    let t := (s.inc (F.HINGE_CNT_COPY_ERR_CNT n)).modHinge n fun h => { h with good := 0, miss := h.miss + 1 }
    if st = engStandby && decide (2 ^ (s.get (F.HINGE_CFG_COPY_LIMIT n) + 1) ≤ (t.hinge n).miss) then
      (setEng n b engNotReady t).raise (chSrc n 18)
    else t

/-- A RECOVERING engine passes or fails its self-checks (R245, R246). -/
def recovered (n : Ch) (ok : Bool) (s : State) : State :=
  let b := otherEng n s
  if engState n b s ≠ engRecovering then s
  else
    let t := s.modHinge n fun h => { h with pass := 0, good := 0, miss := 0, copying := false }
    if !ok then (setEng n b engRetired t).raise (chSrc n 19) b.toNat
    else if b then setEng n b engStandby t
    else (setEng n b engShadow t).set (F.HINGE_STAT_SHADOW_CNT n) 0

/-- The self-check of the engine that is not in control ends. -/
def otherCheck (n : Ch) (ok : Bool) (s : State) : State :=
  let b := otherEng n s
  let st := engState n b s
  if st = engRecovering then
    if (s.hinge n).copying then s
    else if !ok then recovered n false s
    else
      let t := s.modHinge n fun h => { h with pass := h.pass + 1 }
      if 16 ≤ (t.hinge n).pass then recovered n true t else t
  else if !ok && otherComputes n s then failEngine n b s
  else s

/-- An engine that failed before this event is put in RECOVERING, and the bank copy begins (R245). -/
def beginRecovery (n : Ch) (s : State) : State :=
  let b := otherEng n s
  if engState n b s = engFailed then (setEng n b engRecovering s).modHinge n fun h => { h with copying := true, pass := 0 } else s

/-- An engine's self-check finds its memories good (R235, R503). -/
def memGood (n : Ch) (b : Bool) (s : State) : Bool := !(s.hinge n).memBad.getLsbD b.toNat

/-- After the step-12 work: the copy, both self-checks and heartbeats (R233, R235). At a take-back event no copy reaches A. -/
def hingePost (n : Ch) (a b : EngineObs) (s : State) : State :=
  let ctl := if inCtrl n s then b else a
  let oth := if inCtrl n s then a else b
  let t := if (s.hinge n).overlap.isSome then s else stateCopy n oth.copyOk s
  let t := otherCheck n (oth.selfOk && oth.beat && memGood n (otherEng n t) t) t
  if !(ctl.selfOk && memGood n (inCtrl n t) t) then latchCause n 2 t else if !ctl.beat then latchCause n 1 t else t

/-- The arbiter compares the coarse y0 of both engines, in 2^-29 (R237, R247): SHADOW_CNT counts agreement in SHADOW, and after
DIS_CNT events of disagreement in a row an extra self-check is ordered. -/
def compareEngines (n : Ch) (ya yb : Int) (s : State) : State :=
  let far := decide (s.get (F.HINGE_CFG_AGREE_THR n) * 8192 < (ya - yb).natAbs)
  let t := s.when (inCtrl n s && engState n false s == engShadow) fun u =>
    u.set (F.HINGE_STAT_SHADOW_CNT n) (if far then 0 else min 64 (u.get (F.HINGE_STAT_SHADOW_CNT n) + 1))
  let k := if far then (s.hinge n).dis + 1 else 0
  let due := far && decide (max 1 (s.get (F.HINGE_CFG_DIS_CNT n)) ≤ k)
  t.modHinge n fun h => { h with dis := if due then 0 else k, disPend := h.disPend || due }

/-! ### The gap (R240) -/

/-- The coarse loop and every fine loop of a path that holds a signature are plausible. -/
def gapPlausible (n : Ch) (s : State) : Bool :=
  s.bit (F.CTL_STAT_PLAUS n) 0 && allPaths.all fun p => (s.stit n p).cur.isNone || s.bit (F.CTL_STAT_PLAUS n) (p.val + 1)

def gapEnd (n : Ch) (s : State) : State := (s.setFlag (F.HINGE_STAT_GAP n) false).modHinge n fun h => { h with gapNew := false, gapCnt := 0 }

/-- An event of the new engine in control passes in the gap. -/
def gapEvent (n : Ch) (s : State) : State :=
  if !s.flag (F.HINGE_STAT_GAP n) then s
  else if (s.hinge n).gapNew then s.modHinge n fun h => { h with gapNew := false }
  else
    let k := if gapPlausible n s then (s.hinge n).gapCnt + 1 else 0
    if max 1 (s.get (F.HINGE_CFG_WR_RESUME n)) ≤ k then gapEnd n s else s.modHinge n fun h => { h with gapCnt := k }

/-! ### Decisions (R237, R250) -/

/-- The extra self-check that the arbiter ordered ends (R237). -/
def engineDisagree (n : Ch) (aOk bOk : Bool) (s : State) : State :=
  if !(s.hinge n).disPend then s
  else
    let t := s.modHinge n fun h => { h with disPend := false, dis := 0 }
    let okA := aOk && memGood n false s
    let okB := bOk && memGood n true s
    let ctl := if inCtrl n s then okB else okA
    let oth := if inCtrl n s then okA else okB
    if !ctl && !oth then enginesFailed n t
    else if ctl && oth then t.raise (chSrc n 17)
    else if !ctl then latchCause n 5 t
    else if otherComputes n t then failEngine n (otherEng n t) t
    else t

/-- A write of 1 to CTL.FORCE (R250). The cause FORCED is that of an expert write (R236); a write without expert access latches none
(log entry 74). -/
def hingeForce (n : Ch) (open_ aOk bOk : Bool) (s : State) : State :=
  if s.flag (F.HINGE_STAT_GAP n) || s.flag (F.HINGE_STAT_OVERLAP n) || !(aOk && bOk && memGood n false s && memGood n true s) then s
  else if !inCtrl n s && engState n false s == engActive && engState n true s == engStandby then (if open_ then latchCause n 6 s else s)
  else if inCtrl n s && engState n false s == engShadow then s.modHinge n fun h => { h with force := true }
  else s

/-- The three copies of the selection register disagree (R251). -/
def selectionDisagree (n : Ch) (s : State) : State := (startRetract n s).raise (chSrc n 21)

/-! ### Commands -/

/-- SWITCH_GAP_END (R240). -/
def execSwitchGapEnd (n : Ch) (s : State) : Host.Outcome State Fault Refusal :=
  .next (if s.flag (F.HINGE_STAT_GAP n) then gapEnd n s else s)
/-- ENGINE_DISAGREE (R237). -/
def execEngineDisagree (n : Ch) (aOk bOk : Bool) (s : State) : Host.Outcome State Fault Refusal := .next (engineDisagree n aOk bOk s)
/-- STANDBY_READY (R231): the sixteenth good copy in a row. -/
def execStandbyReady (n : Ch) (s : State) : Host.Outcome State Fault Refusal :=
  .next (if engState n (otherEng n s) s = engNotReady then setEng n (otherEng n s) engStandby s else s)
/-- HINGE_LINK_LOSS (R234). -/
def execHingeLinkLoss (n : Ch) (s : State) : Host.Outcome State Fault Refusal :=
  .next (if engState n (otherEng n s) s = engStandby then
    ((setEng n (otherEng n s) engNotReady s).modHinge n fun h => { h with good := 0 }).raise (chSrc n 18) else s)
/-- ENGINE_RECOVERED (R245, R246). -/
def execEngineRecovered (n : Ch) (ok : Bool) (s : State) : Host.Outcome State Fault Refusal := .next (recovered n ok s)
/-- HINGE_FORCE (R250). -/
def execHingeForce (path : RegPath) (n : Ch) (aOk bOk : Bool) (s : State) : Host.Outcome State Fault Refusal :=
  .next (arbWrite (F.HINGE_CTL_FORCE n).addr (fun t => hingeForce n (path == .mgmt || addrOpen (F.HINGE_CTL_FORCE n).addr t) aOk bOk t) s)
/-- HINGE_SELECTION_DISAGREE (R251). -/
def execHingeSelectionDisagree (n : Ch) (s : State) : Host.Outcome State Fault Refusal := .next (selectionDisagree n s)

end Sys2Proof.Machine
end

