-- ==== Sys2Proof/Machine/Servo.lean ====
section
/-! DEFINITION. The servo control engines (R182 to R230): coefficient banks, the loop arithmetic, seeks, the measurement of
a wedge, supervision, feed-forward, runout learning, the fine-actuator frame, the channel sample event, and the spindle
strobe. Both engines compute every sample, each from its own context and banks. Loop quantities are integers in 2^-29. -/

namespace Sys2Proof.Machine

/-- 1.0 in Q2.29. -/
def one : Int := 536870912

/-- Count saturations of a loop (CHn.CTL.LIMSTATL). -/
def countSat (n : Ch) (l : Loop) (k : Nat) (s : State) : State := if k = 0 then s else s.addSat (F.CTL_LIMSTAT_SAT_CNT n l) k

/-- A value saturated to Q2.29, and whether it was (R188, R192). -/
def satQ (v : Int) : Int × Nat := let w := satI 32 v; (w, (w != v).toNat)

/-! ### Coefficient banks (R200 to R205) -/

/-- The key of word `i` of bank `b` of loop `l` in engine `e`. -/
def bankKey (e : Bool) (l : Loop) (b : Bool) (i : Nat) : Nat := 256 * (12 * e.toNat + 2 * l.val + b.toNat) + i

/-- The words of a bank of an engine. -/
def bankWords (n : Ch) (e : Bool) (l : Loop) (b : Bool) (s : State) : List Nat := s.banks[n].getRun (bankKey e l b 0) 256

def activeBank (n : Ch) (l : Loop) (s : State) : Bool := s.bit (F.CTL_BANKSTAT_ACTIVE n) l

/-- R201, in one engine. -/
def bankValidIn (n : Ch) (e : Bool) (l : Loop) (b : Bool) (s : State) : Bool :=
  let ws := bankWords n e l b s
  let h := ws.getD 0 0
  h / 65536 == 0xC0E5 && h / 4096 % 16 == l.val && ws.getD 255 0 == crc32c ((ws.take 255).flatMap (bytesLe 4))

/-- R201: valid in both engines. -/
def bankValid (n : Ch) (l : Loop) (b : Bool) (s : State) : Bool := bankValidIn n false l b s && bankValidIn n true l b s

/-- A word is written in both engines (R202). -/
def putBank (n : Ch) (l : Loop) (b : Bool) (i v : Nat) (s : State) : State :=
  { s with banks := s.banks.set n ((s.banks[n].set (bankKey false l b i) v).set (bankKey true l b i) v) }

/-- The active bank of a loop carries RESET_STATE in an engine (R204). -/
def resetState (n : Ch) (e : Bool) (l : Loop) (s : State) : Bool := (bankWords n e l (activeBank n l s) s).getD 0 0 % 2 == 1

/-- A swap takes effect in both engines (R203, R204). -/
def swapBank (n : Ch) (l : Loop) (s : State) : State :=
  let t := (s.setBit (F.CTL_BANKSTAT_ACTIVE n) l (!activeBank n l s)).setBit (F.CTL_BANKSTAT_PEND n) l false
  t.each [false, true] fun e u => if resetState n e l u then u.modEng n e fun c => { c with x := c.x.set l [] } else u

/-- A swap waits for the loop's sample boundary: requested, and the check after the last write has passed (R203). -/
def swapDue (n : Ch) (l : Loop) (s : State) : Bool :=
  s.bit (F.CTL_BANKSTAT_PEND n) l && !(s.servo n).chk.getLsbD l && s.bit (F.CTL_BANKSTAT_INACT_OK n) l

/-- A swap request for one loop (R203). -/
def requestSwap (n : Ch) (l : Loop) (s : State) : State :=
  if s.bit (F.CTL_BANKSTAT_PEND n) l then s
  else (s.setBit (F.CTL_BANKSTAT_PEND n) l true).modServo n fun v => { v with chk := setB v.chk l }

def allLoops : List Loop := [0, 1, 2, 3, 4, 5]

/-- A write of CHn.CTL.SWAP; during a bank copy it is held (R203, R245). -/
def swapRequest (n : Ch) (mask : Nat) (s : State) : State :=
  if (s.hinge n).copying then s.modHinge n fun h => { h with heldSw := h.heldSw ||| mask }
  else s.each (allLoops.filter fun (l : Loop) => mask.testBit l) fun l t => requestSwap n l t

/-- The check of an inactive bank ends (R201, R203). -/
def swapChecked (n : Ch) (l : Loop) (s : State) : State :=
  if !(s.servo n).chk.getLsbD l then s
  else
    let t := s.modServo n fun v => { v with chk := clrB v.chk l }
    if bankValid n l (!activeBank n l s) s then
      let t := t.setBit (F.CTL_BANKSTAT_INACT_OK n) l true
      if s.bit (F.CTL_LOOPEN_EN n) l then t else swapBank n l t
    else
      ((((t.setBit (F.CTL_BANKSTAT_INACT_OK n) l false).setBit (F.CTL_BANKSTAT_PEND n) l false).setBit (F.CTL_BANKSTAT_REFUSED n) l
        true).raise (chSrc n 8) l)

/-- A word is written to the inactive bank; a running check restarts (R202, R203). -/
def bankWrite (n : Ch) (l : Loop) (i v : Nat) (s : State) : State :=
  let t := putBank n l (!activeBank n l s) i v s
  if s.bit (F.CTL_BANKSTAT_PEND n) l then t.modServo n fun x => { x with chk := setB x.chk l } else t

/-- A write that meets the swap of its loop lands in the bank that has just become inactive (R205). -/
def bankCollide (n : Ch) (l : Loop) (i v : Nat) (s : State) : State :=
  ((putBank n l (!activeBank n l s) i v s).setBit (F.CTL_SWAP_COLLIDE_LOOP n) l true).inc (F.CTL_SWAP_COLLIDE_HELD_CNT n)

/-- A coefficient write window access (R202, R205, R245). -/
def coefWrite (n : Ch) (l : Loop) (i v : Nat) (atSwap : Bool) (s : State) : State :=
  if (s.hinge n).copying then s.modHinge n fun h => { h with held := h.held ++ [(l.val, i, v)] }
  else if atSwap then bankCollide n l i v s
  else bankWrite n l i v s

/-- Both banks of every loop are copied from the engine in control into the other (R245). -/
def copyBanks (n : Ch) (s : State) : State :=
  let from_ := bankKey (inCtrl n s) 0 false 0
  let into := bankKey (otherEng n s) 0 false 0
  { s with banks := s.banks.set n (s.banks[n].setRun into (s.banks[n].getRun from_ 3072)) }

/-- The bank copy into a recovering engine ends; what was held applies to both engines (R245). -/
def copyDone (n : Ch) (s : State) : State :=
  if !(s.hinge n).copying then s
  else
    let hs := (s.hinge n).held
    let m := (s.hinge n).heldSw
    let t := (copyBanks n s).modHinge n fun h => { h with copying := false, held := [], heldSw := 0, pass := 0, memBad := clrB h.memBad (otherEng n s).toNat }
    let t := t.each hs fun w u => bankWrite n ⟨w.1 % 6, Nat.mod_lt _ (by decide)⟩ w.2.1 w.2.2 u
    swapRequest n m t

/-! ### Loop arithmetic (R191 to R193) -/

/-- Products rounded to 37 fraction bits, and summed. -/
def dot : List Int → List Int → Int
  | c :: cs, x :: xs => roundDiv (c * x) 2097152 + dot cs xs
  | _, _ => 0

/-- A sum rounded to 29 fraction bits and saturated, and whether it saturated. -/
def roundSum (v : Int) : Int × Nat := satQ (roundDiv v 256)

def row (w : List Int) (base k i : Nat) : List Int := (w.drop (base + k * i)).take k

/-- Twelve states: a fresh loop's are zero. -/
def states (x : List Int) : List Int := (x ++ List.replicate 12 0).take 12

/-- y = C x + D u: the three outputs with their saturations. -/
def lawOut (w x u : List Int) : List (Int × Nat) :=
  (List.range 3).map fun i => roundSum (dot (row w 193 12 i) x + dot (row w 229 4 i) u)

/-- x' = A x + B u. -/
def lawNext (w x u : List Int) : List (Int × Nat) :=
  (List.range 12).map fun i => roundSum (dot (row w 1 12 i) x + dot (row w 145 4 i) u)

def bankInts (n : Ch) (e : Bool) (l : Loop) (s : State) : List Int := (bankWords n e l (activeBank n l s) s).map (sext 32)

/-- Y0_LIM of a loop's active bank (R193). -/
def y0Lim (n : Ch) (e : Bool) (l : Loop) (s : State) : Int := (bankInts n e l s).getD 241 0

/-- Outputs of a law at a sample, and how many values saturated: `add` joins y0 before it is limited to ±Y0_LIM (R193, R207). -/
def loopOut (w x u : List Int) (add : Int) : (Int × Int × Int) × Nat :=
  let ys := lawOut w (states x) u
  let y := fun (i : Nat) => (ys.getD i (0, 0)).1
  let raw := y 0 + add
  let y0 := clampI (w.getD 241 0) raw
  ((y0, y 1, y 2), ys.foldl (fun a v => a + v.2) 0 + (y0 != raw).toNat)

/-- The state update of a loop in an engine, and how many states saturated. -/
def loopNext (n : Ch) (e : Bool) (l : Loop) (u : List Int) (s : State) : Nat × State :=
  let xs := lawNext (bankInts n e l s) (states (s.eng n e).x[l]) u
  (xs.foldl (fun a v => a + v.2) 0, s.modEng n e fun c => { c with x := c.x.set l (xs.map fun v => v.1) })

/-- The sample boundary of a loop (R204): a due swap in both engines, then the state update of each engine that computed the sample,
with the bank in force; a state that RESET_STATE has set to zero stays. The engine in control counts its saturations. -/
def boundary (n : Ch) (l : Loop) (us : List (Bool × List Int)) (s : State) : State :=
  let due := swapDue n l s
  (s.when due (swapBank n l)).each us fun u t =>
    if due && resetState n u.1 l t then t
    else
      let r := loopNext n u.1 l u.2 t
      if u.1 == inCtrl n t then countSat n l r.1 r.2 else r.2

/-- An output as a signed command of `w` bits, full scale 1.0, and whether it saturated (R193). -/
def command (w : Nat) (y : Int) : Int × Nat :=
  let v := roundDiv y (2 ^ (30 - w))
  (satI w v, (satI w v != v).toNat)

/-! ### Targets and seeks (R206 to R209) -/

/-- floor(log2 L) of a distance in 2^-29 track, limited to 3 to 20 (R207). -/
def seekClass (dist : Int) : Nat := min 20 (max 3 (Nat.log2 (dist.natAbs / 536870912)))

/-- The reference of a seek to `tc` at sample i, and its feed-forward; none once the seek has ended (R207, R208). -/
def seekAt (n : Ch) (k : Seek) (tc : Int) (i : Nat) (s : State) : Option (Int × Int) :=
  let m := profM n k.cls s
  if m < 2 || decide (m ≤ i) then none
  else
    let q := i * 511 / (m - 1)
    let r := i * 511 % (m - 1)
    let itp := fun (f : Nat → Int) => f q * (m - 1 : Nat) + (f (min 511 (q + 1)) - f q) * r
    let sv := itp fun j => profS n k.cls j s
    let fv := itp fun j => profF n k.cls j s
    let res := if i < k.d then roundDiv (k.v * ((k.d - 1 - i) * (k.d - i) : Nat)) (2 * k.d) else 0
    let at_ := if i + 1 = m then tc else k.p0 + roundDiv (k.dist * sv) ((m - 1) * 65536) - res
    some (at_, roundDiv (fv * k.dist) ((m - 1) * 32768 * 2 ^ k.cls))

/-- The longest move without a profile, 2^-29 track (R207). -/
def shortMove (n : Ch) (s : State) : Nat := s.get (F.CTL_SEEKCFG_SHORT_LEN n) * 536870912

/-- An engine's way to a new coarse target: a profile, or the next sample's step (R207). -/
def EngCtx.aim (short : Nat) (target : Int) (c : EngCtx) : EngCtx :=
  let dist := target - c.ref
  { c with seek := if dist.natAbs ≤ short then none else some ⟨seekClass dist, c.ref, dist, 0, 0, 0⟩ }

/-- A new coarse target (R207). -/
def setTarget (n : Ch) (target : Int) (s : State) : State :=
  (s.modServo n fun v => { v with tc := target }).modEngs n (EngCtx.aim (shortMove n s) target)

/-- An engine's way to a redirected target (R208). -/
def redirectCtx (n : Ch) (target : Int) (s : State) (c : EngCtx) : EngCtx :=
  match c.seek with
  | none => c.aim (shortMove n s) target
  | some k =>
    if (target - c.ref).natAbs ≤ shortMove n s then { c with seek := none }
    else
      let tc := (s.servo n).tc
      let d := max 1 (s.get (F.CTL_SEEKCFG_REDIR_DECAY n))
      let step := (match seekAt n k tc k.i s with | some r => r.1 | none => tc) - c.ref
      let p0 := c.ref + roundDiv (step * (d + 1 : Nat)) 2
      let dist := target - p0
      { c with seek := some ⟨seekClass dist, p0, dist, 0, step, d⟩ }

/-- A redirect (R208). -/
def redirect (n : Ch) (target : Int) (s : State) : State :=
  (s.modEngs n (redirectCtx n target s)).modServo n fun v => { v with tc := target }

/-- An engine's reference moves to its value at this sample: the step, and the feed-forward of the seek (R207). -/
def refAdvance (n : Ch) (c : EngCtx) (s : State) : Int × Int × EngCtx :=
  let tc := (s.servo n).tc
  match c.seek with
  | none => (tc - c.ref, 0, { c with ref := tc })
  | some k =>
    match seekAt n k tc k.i s with
    | some (r, ff) => (r - c.ref, ff, { c with ref := r, seek := some { k with i := k.i + 1 } })
    | none => (tc - c.ref, 0, { c with ref := tc, seek := none })

/-- The coarse target of a signature (R206). -/
def descTarget (n : Ch) (d : Desc) (s : State) : Int :=
  match (descPaths d).map fun p => (descTrack d p : Int) * 256 - calOffset n (descSurf d p) s with
  | [] => (s.servo n).tc
  | t :: ts => (ts.foldl max t + ts.foldl min t) * 1048576
where
  descPaths (d : Desc) : List Pa := allPaths.filter fun p => descEn d p

/-- Number of samples event classes E (R183). -/
def events (n : Ch) (s : State) : Nat := s.get (F.CTL_STAT_EVENTS n)

/-- A seek starts: it is counted, and no path is on track (R209). -/
def seekBegins (n : Ch) (s : State) : State := (s.set (F.CTL_STAT_ONTRK n) 0).incWrap (F.CTL_SEEKSTAT_SEEKS n)

/-- The seek for a descriptor starts: the fine references, the coarse target, ON_TRACK awaited on its paths (R206, R209).
`offs` is the ladder offset in 1/64 track. -/
def startSeek (n : Ch) (d : Desc) (offs : Int) (redir : Bool) (s : State) : State :=
  let t := s.each (allPaths.filter fun p => descEn d p) fun p u => u.modServo n fun v =>
    { v with track := v.track.set p (descTrack d p), offs := v.offs.set p (offs * 8388608) }
  let m := BitVec.ofNat 4 (descEnMask d)
  let t := seekBegins n (t.modServo n fun v => { v with seekOn := m, waitOn := m, settle := Vector.replicate 4 0, tmoRow := 0 })
  if redir then redirect n (descTarget n d t) t else setTarget n (descTarget n d t) t

/-- The reference has reached T_c (R209). -/
def atTarget (n : Ch) (s : State) : Bool := (ctlEng n s).seek.isNone && (ctlEng n s).ref == (s.servo n).tc

/-- Fine loop p reports ON_TRACK (R209). -/
def onTrack (n : Ch) (p : Pa) (s : State) : State :=
  if (s.servo n).waitOn.getLsbD p && atTarget n s then
    ((s.modServo n fun x => { x with waitOn := clrB x.waitOn p, tmoRow := if clrB x.waitOn p = 0 then 0 else x.tmoRow }).setBit
      (F.CTL_STAT_ONTRK n) p true).event n p 1
  else s

/-- Some enabled path has not reported in time: the seek is repeated from the current position on its paths, or CHn_SEEK_FAIL (R209). -/
def seekTimeout (n : Ch) (s : State) : State :=
  if (s.servo n).waitOn = 0 then s
  else
    let t := (s.inc (F.CTL_SEEKSTAT_TMO_CNT n)).raise (chSrc n 9)
    if 1 ≤ (s.servo n).tmoRow then (t.raise (chSrc n 10)).modServo n fun v => { v with tmoRow := 0, waitOn := 0 }
    else
      let u := (t.modServo n fun v => { v with tmoRow := 1, waitOn := v.seekOn, settle := Vector.replicate 4 0 }).modEngs n fun c => { c with ref := c.ref + c.u0[0] }
      setTarget n (u.servo n).tc (seekBegins n u)

/-! ### The measurement (R44 to R48, R186 to R190) -/

/-- The offsets of the ±8 servo bits search, the nearest to the prediction first (DESIGN CHOICE, log entry 75: of two the earlier). -/
def markOffsets : List Nat := [8, 7, 9, 6, 10, 5, 11, 4, 12, 3, 13, 2, 14, 1, 15, 0, 16]

/-- Where the bit after the address mark stands, when the mark is found (R43, R186). -/
def markEnd (w : Wedge) : Option Nat := (markOffsets.find? fun k => (w.bits.drop k).take 24 == addressMark).map fun k => k + 24

/-- The `len` servo bits from `ofs` bits after the mark, as a number; zero when no mark is found. -/
def wedgeBitsAt (w : Wedge) (ofs len : Nat) : Nat :=
  match markEnd w with
  | some k => ((w.bits.drop (k + ofs)).take len).foldl (fun v b => 2 * v + b.toNat) 0
  | none => 0

/-- The three dibit fields after the mark (R43). -/
def trackBits (w : Wedge) : Nat := wedgeBitsAt w 0 48
def wedgeNumBits (w : Wedge) : Nat := wedgeBitsAt w 48 24
def rroBits (w : Wedge) : Nat := wedgeBitsAt w 72 48

/-- A burst integral: the sum of the magnitudes of its samples (R186). -/
def burst (l : List Int) : Nat := l.foldl (fun n v => n + v.natAbs) 0

/-- The wedge field of R46: number and index bit. -/
def wedgeField (w : Wedge) : Option (Nat × Bool) :=
  match undibit 12 (wedgeNumBits w) with
  | some v => if evenParity 11 (v / 2) then some (v / 8, v.testBit 2) else none
  | none => none

/-- The track number, when neither its dibits nor its parity is invalid (R44 to R46). -/
def wedgeTrack (w : Wedge) : Option Nat :=
  match undibit 24 (trackBits w), undibit 12 (wedgeNumBits w) with
  | some g, some v => if evenParity 24 g != v.testBit 0 then some (ungray g) else none
  | _, _ => none

/-- The written-in runout (R47), and whether its CRC passed. -/
def wedgeRro (w : Wedge) : Int × Bool :=
  match undibit 24 (rroBits w) with
  | some v => if crc8 (v / 256) = v % 256 then (if v / 256 = 0x8000 then 0 else sext 16 (v / 256), true) else (0, false)
  | none => (0, false)

/-- A burst ratio as a 16 bit signed value with least significant bit 2^-15; a zero sum leaves it open (R187). -/
def ratio (a b : Nat) (free : Int) : Int :=
  if a + b = 0 then free else satI 16 (roundDiv (((a : Int) - b) * 32768) (a + b))

/-- The offset from the centre of track `t`, in 2^-16 track (R187). -/
def burstOffset (w : Wedge) (t : Nat) (free : Int) : Int :=
  let sg : Int := if t % 2 = 0 then 1 else -1
  let r := sg * ratio (burst w.c) (burst w.d) free
  let q := sg * ratio (burst w.a) (burst w.b) free
  if r.natAbs ≤ q.natAbs then r else (if r < 0 then -1 else 1) * (32768 - (q.natAbs : Int))

/-- What one event measures: missing, the loop inputs with their saturations, the head's position, the wedge's fields. -/
structure Meas where
  miss : Bool
  ep   : Int
  epS  : Nat
  ec   : Int
  ecS  : Nat
  pos  : Int
  t    : Nat
  tBad : Bool
  w    : Nat
  wBad : Bool
  idx  : Bool
  open0 : Bool
  deriving DecidableEq, Repr

/-- An engine's prediction of fine loop p for its own next event (R190). -/
def finePred (n : Ch) (p : Pa) (c : EngCtx) (s : State) : Int :=
  let y := c.y[p.val + 1]
  y.2.1 + ((events n s : Int) - 1) * y.2.2

def pathHeadOf (n : Ch) (p : Pa) (s : State) : Nat := (s.pathSt n p).head.getD p.val

/-- Where an engine expects the head of path p (R189), 2^-29 track. -/
def predPos (n : Ch) (p : Pa) (c : EngCtx) (s : State) : Int :=
  let v := s.servo n
  if c.seek.isSome then c.ref + calOffset n (pathHeadOf n p s) s * 2097152
  else v.track[p] * 536870912 + v.offs[p] + finePred n p c s

/-- An engine's measurement of the wedge at an event (R186 to R190). -/
def measure (n : Ch) (o : SampleObs) (c : EngCtx) (s : State) : Meas :=
  let p := o.path
  let v := s.servo n
  let h := pathHeadOf n p s
  let w := o.wedge
  let pp := predPos n p c s
  let pt := (roundDiv pp 536870912).toNat
  let tr := wedgeTrack w
  let t := tr.getD pt
  let tol := if c.seek.isSome then s.get (F.CTL_SEEKCFG_SEEK_JUMP n) else s.get (F.CTL_ONTRK_JUMP_THR n)
  let sumMin := 16 * s.get (F.CTL_ONTRK_SUM_MIN n)
  let cd := burst w.c + burst w.d
  let ab := burst w.a + burst w.b
  let miss := (markEnd w).isNone || decide (cd < sumMin) || decide (ab < sumMin) || decide (tol < ((t : Int) - pt).natAbs)
  let fld := wedgeField w
  let num := match fld with | some x => x.1 | none => ((s.stit n p).wnum.toNat + 1) % 512
  let gx := calGain n h s * burstOffset w t (sext 16 s.fresh.toNat)
  let cr := ((wedgeRro w).1 + rroEntry n p num s) * 8589934592
  let dh := c.cmd[p] * calKfa n h s * 262144
  let at_ := (t : Int) * 35184372088832 + gx - cr
  let ep := roundDiv (at_ - v.track[p] * 35184372088832 - v.offs[p] * 65536) 65536
  let ec := roundDiv (at_ - calOffset n h s * 137438953472 - dh - c.ref * 65536) 65536
  ⟨miss, (satQ ep).1, (satQ ep).2, (satQ ec).1, (satQ ec).2, if miss then pp else roundDiv at_ 65536, t, miss || tr.isNone, num,
    miss || fld.isNone, match fld with | some x => x.2 | none => false, ab == 0 || cd == 0⟩

/-- The wedge ports of the path's Stitcher, and event WEDGE (R150, R152, R190). -/
def wedgePorts (n : Ch) (p : Pa) (m : Meas) (s : State) : State :=
  s.modStit n p fun t =>
    { t with wtrk := BitVec.ofNat 24 m.t, wtrkBad := m.tBad, wnum := BitVec.ofNat 9 m.w, wnumBad := m.wBad, widx := m.idx }.latch 0

/-- A SCAN puts the record of a wedge into its buffer, from the first wedge it names on; its result follows the last (R170). -/
def scanRecord (n : Ch) (p : Pa) (w : Wedge) (m : Meas) (s : State) : State :=
  match (s.pathSt n p).arm, (s.stit n p).cur with
  | some a, some d =>
    if a.act != 4 || a.left == 0 || (!a.isOpen && (m.wBad || m.w != bitsOf d[10] 8 0)) then s
    else
      let r := wedgeRro w
      let rec8 := bytesLe 3 m.t ++ [(!m.tBad).toNat + (!m.wBad).toNat * 2 + r.2.toNat * 4] ++ bytesLe 2 m.w ++ bytesLe 2 (toBits 16 r.1)
      let t := { s with dram := s.dram.setRun (handleUnit (descHandle d p).toNat s * 4096 + 8 * a.window) rec8 }
      let t := t.modPath n p fun q => { q with arm := some { a with left := a.left - 1, window := a.window + 1, isOpen := true, begun := true } }
      if a.left = 1 then sectorResult n p 0 t else t
  | _, _ => s

/-! ### Supervision (R210 to R214) -/

/-- An engine's loop becomes implausible, or plausible again. -/
def EngCtx.fails (l : Loop) (c : EngCtx) : EngCtx := { c with pl := clrB c.pl l, good := c.good.set l 0 }
def EngCtx.recovers (l : Loop) (c : EngCtx) : EngCtx := { c with pl := setB c.pl l, resid := c.resid.set l 0, miss := c.miss.set l 0 }

/-- A declaration in the engine in control takes effect (R211): the gates park, the arbiter is told, and it latches IMPLAUSIBLE when a
ready standby holds the loop plausible (R236). -/
def declared (n : Ch) (l : Loop) (s : State) : State :=
  let t := ((s.setBit (F.CTL_STAT_PLAUS n) l false).inc (F.CTL_SUPSTAT_IMPL_CNT n l)).raise (chSrc n 11) l
  let t := if l = 0 then parkAll n 0x1A t
    else if h : 1 ≤ l.val ∧ l.val ≤ 4 then parkGate n ⟨l.val - 1, by omega⟩ 0x1A t else t
  if otherReady n t && (t.eng n (otherEng n t)).pl.getLsbD l then latchCause n 3 t else t

/-- Loop L is declared implausible in an engine (R210, R211). -/
def declare (n : Ch) (b : Bool) (l : Loop) (s : State) : State :=
  let was := (s.eng n b).pl.getLsbD l
  let t := s.modEng n b (EngCtx.fails l)
  if was && b == inCtrl n s then declared n l t else t

/-- Loop L becomes plausible again in an engine (R212). -/
def plausible (n : Ch) (b : Bool) (l : Loop) (s : State) : State :=
  let t := s.modEng n b (EngCtx.recovers l)
  if b == inCtrl n s then t.setBit (F.CTL_STAT_PLAUS n) l true else t

/-- The threshold of a loop, 2^-29 (R210). -/
def residThr (n : Ch) (l : Loop) (seeking : Bool) (s : State) : Nat :=
  s.get (F.CTL_SUPCFG_RESID_THR n l) * 131072 * 2 ^ (if seeking then s.get (F.CTL_SUPCFG_SEEK_SHIFT n l) else 0)

/-- An engine's supervision of one loop at its own sample (R210, R212): `r` is the residual, none for a missing measurement. -/
def supervise (n : Ch) (l : Loop) (r : Option Int) (s : State) (c : EngCtx) : EngCtx :=
  match r with
  | none =>
    let d := { c with miss := c.miss.set l (c.miss[l] + 1) }
    if max 1 (s.get (F.CTL_ONTRK_MISS_LIMIT n)) ≤ d.miss[l] then d.fails l else d
  | some r =>
    let d := { c with miss := c.miss.set l 0 }
    if residThr n l c.seek.isSome s < r.natAbs then
      let d := { d with resid := d.resid.set l (d.resid[l] + 1), good := d.good.set l 0 }
      if max 1 (s.get (F.CTL_SUPCFG_RESID_CNT n l)) ≤ d.resid[l] then d.fails l else d
    else
      let d := { d with resid := d.resid.set l 0, good := d.good.set l (d.good[l] + 1) }
      if max 1 (s.get (F.CTL_SUPCFG_RECOVER_CNT n l)) ≤ d.good[l] then d.recovers l else d

/-- What a sample of a loop of the engine in control shows in SUPSTAT, and a declaration it made: `was` is the context before. -/
def supShow (n : Ch) (l : Loop) (was : EngCtx) (r : Option Int) (s : State) : State :=
  let t := match r with
    | none => s.inc (F.CTL_SUPSTAT_MISS_CNT n l)
    | some r => s.set (F.CTL_SUPSTAT_RESID_MAX n l) (min 65535 (max (s.get (F.CTL_SUPSTAT_RESID_MAX n l)) (r.natAbs / 131072)))
  if was.pl.getLsbD l && !(ctlEng n s).pl.getLsbD l then declared n l t else t

/-- The coarse loop has been implausible for 1,024 samples (R213). -/
def servoLost (n : Ch) (s : State) : State :=
  if s.bit (F.CTL_STAT_PLAUS n) 0 || !s.flag (F.CTL_STAT_LOADED n) then s else (startRetract n s).raise (chSrc n 12)

/-- Runaway in both engines is Sealed; in one alone that engine is failing (R214). -/
def runaway (n : Ch) (a b : Bool) (s : State) : State :=
  if a && b then s.raise (chSrc n 13)
  else if !a && !b then s
  else if b = inCtrl n s then latchCause n 4 s
  else if otherComputes n s then failEngine n (otherEng n s) s
  else s

/-- The count of R213, and runaway found by the engines at this event (R214). -/
def coarseCounts (n : Ch) (s : State) : State :=
  let bad := !(ctlEng n s).pl.getLsbD 0
  let t := s.modServo n fun v => { v with badRun := if bad then v.badRun + 1 else 0 }
  let t := if (t.servo n).badRun = 1024 then servoLost n t else t
  let found := fun (b : Bool) => (b == inCtrl n t || otherComputes n t) && (t.eng n b).satRun == 64
  runaway n (found false) (found true) t

/-! ### Feed-forward (R215, R216) -/

/-- The vibration input, and how many terms were too old. -/
def vibInput (n : Ch) (now : Nat) (s : State) : Int × Nat :=
  if !s.flag (F.CTL_FFCFG_VIB_EN n) then (0, 0)
  else
    let lim := s.get (F.CTL_FFCFG_STALE n) * 3200
    let r := (List.range 5).foldl (fun (a : Int × Nat) j =>
      match (s.servo n).vib.toList.getD j none with
      | none => a
      | some (v, at_) => if lim < now - at_ then (a.1, a.2 + 1) else (a.1 + sext 32 (s.get (F.CTL_FFW_W n j)) * v, a.2)) (0, 0)
    (satI 32 (roundDiv r.1 32768), r.2)

def shockInput (n : Ch) (adc : Int) (s : State) : Int := if s.flag (F.CTL_FFCFG_SHOCK_FF_EN n) then adc * 262144 else 0

/-! ### Runout learning (R217 to R221) -/

/-- The working copy of path p takes a state; RROSTAT shows it (R218). -/
def setTblState (n : Ch) (p : Pa) (h st : Nat) (s : State) : State :=
  (s.modServo n fun v => { v with work := v.work.set p (v.work[p].map fun w => { w with st := st }) }).setBit (F.CTL_RROSTAT_CONV n) h (st == 2)

def revsField (n : Ch) (p : Pa) : Fld :=
  match p.val with
  | 0 => F.CTL_LEARNPROG_REVS0 n
  | 1 => F.CTL_LEARNPROG_REVS1 n
  | 2 => F.CTL_LEARNPROG_REVS2 n
  | _ => F.CTL_LEARNPROG_REVS3 n

/-- Learning of the head on path p begins (R219). -/
def learnStart (n : Ch) (p : Pa) (h : Nat) (s : State) : State :=
  let t := (setTblState n p h 1 s).modServo n fun v => { v with learn := v.learn.set p (some ⟨h, 0, 0, 0, 0⟩) }
  (t.setBit (F.CTL_RROSTAT_LEARNING n) p true).set (revsField n p) 0

def learnEnd (n : Ch) (p : Pa) (s : State) : State :=
  (s.modServo n fun v => { v with learn := v.learn.set p none }).setBit (F.CTL_RROSTAT_LEARNING n) p false

/-- The table becomes CONVERGED and the head's write inhibit lifts (R220). -/
def converged (n : Ch) (p : Pa) (s : State) : State :=
  match (s.servo n).learn[p] with
  | some k => (setTblState n p k.head 2 (learnEnd n p s)).setBit (F.AFE_WRINH_INH n) k.head
      (decide (2 ≤ (s.chan n).sched.paFaults.count k.head))
  | none => s

/-- No convergence in 64 revolutions (R132). -/
def noConvergence (n : Ch) (p : Pa) (s : State) : State :=
  match (s.servo n).learn[p] with
  | some k =>
    let t := (setTblState n p k.head 0 (learnEnd n p s)).raise (chSrc n 3) k.head
    t.modSched n fun c => { c with noconv := c.noconv ++ [k.head] }
  | none => s

/-- The entry for a wedge moves by e_p × 4,096 × 2^-mu (R220). -/
def rroUpdate (n : Ch) (p : Pa) (w : Nat) (ep : Int) (mu : Nat) (s : State) : State :=
  let v := satI 16 (rroEntry n p w s + roundDiv ep (131072 * 2 ^ mu))
  putPad16 n 1 (p.val * 0x400 + w * 2) (toBits 16 v) s

/-- A revolution of 512 own samples ends (R220). -/
def revolution (n : Ch) (p : Pa) (k : Learn) (s : State) : State :=
  let t := (s.addSat (revsField n p) 1).modServo n fun v => { v with work := v.work.set p (v.work[p].map fun w => { w with revs := w.revs + 1 }) }
  let valid := 512 - k.miss
  let thr := s.get (F.CTL_RROCFG_LEARN_THR n)
  let conv := if 8 < k.miss then k.conv
    else if k.sumSq * 1048576 ≤ thr * thr * valid * 288230376151711744 then k.conv + 1 else 0
  let t := t.modServo n fun v => { v with learn := v.learn.set p (some ⟨k.head, 0, 0, 0, conv⟩) }
  if 8 ≤ conv then converged n p t
  else if 64 ≤ t.get (revsField n p) then noConvergence n p t
  else t

/-- Learning and the background update at an own sample of path p (R220, R221, R243). A head that learns and is not selected waits. -/
def learnSample (n : Ch) (p : Pa) (m : Meas) (held : Bool) (s : State) : State :=
  let ok := !m.miss && !held && s.bit (F.CTL_STAT_PLAUS n) (p.val + 1) && (ctlEng n s).seek.isNone
  match (s.servo n).learn[p] with
  | some k =>
    if !((s.servo n).work[p]).any (fun w => w.head == k.head) then s else
    let t := if ok then rroUpdate n p m.w m.ep (s.get (F.CTL_RROCFG_LEARN_MU n)) s else s
    let k := { k with cnt := k.cnt + 1, miss := k.miss + (m.miss || held).toNat, sumSq := k.sumSq + (if m.miss || held then 0 else m.ep.natAbs * m.ep.natAbs) }
    if 512 ≤ k.cnt then revolution n p k t else t.modServo n fun v => { v with learn := v.learn.set p (some k) }
  | none =>
    if ok && s.flag (F.CTL_RROCFG_BG_EN n) && tblState n (pathHeadOf n p s) s == 2 then
      rroUpdate n p m.w m.ep (s.get (F.CTL_RROCFG_BG_MU n)) s
    else s

/-! ### The fine-actuator frame (R222, R224) -/

def beBytes (w v : Nat) : List Nat := (bytesLe w v).reverse

/-- The 13 symbols of a frame. -/
def fineFrame (eng : Bool) (cls seq : Nat) (cmds : List Int) (valid : Nat) (retract : Bool) : List Nat :=
  let body := [eng.toNat * 128 + cls % 4 * 32 + seq % 32] ++ cmds.flatMap (fun c => beBytes 2 (toBits 16 c)) ++ [valid + retract.toNat * 16]
  [0xBC] ++ body ++ beBytes 2 (crcMsb 16 0x1021 0xFFFF (body.flatMap (bitsMsb 8)))

/-- From a retract cause, in the safe state and from step 4 of R25 the frames carry RETRACT and zero commands. -/
def retracting (n : Ch) (s : State) : Bool :=
  s.flag (F.MOT_STAT_RETRACTING n) || s.flag F.FAULT_STAT_SAFE || decide (4 ≤ s.get F.PWR_SUPPLY_STEP)

/-- The link is idle: nothing of the last event's frames is on it any more. Idle is K28.5 and D16.2 in whole pairs (log entry 72). -/
def linkIdle (n : Ch) (s : State) : State := s.modServo n fun v => { v with frames := [], line := [] }

/-- The code groups that an idle link repeats. -/
def idleGroups (n : Ch) (s : State) : List (BitVec 10) :=
  if s.flag (F.CTL_FALINK_TX_EN n) then (codeGroups idlePair (s.servo n).rd).1.map (BitVec.ofNat 10) else []

/-- VALID of a frame (R222). -/
def frameValid (n : Ch) (s : State) : Nat :=
  (List.range 4).foldl (fun a q => if s.bit (F.CTL_LOOPEN_EN n) (q + 1) && decide (q < events n s) then a + 2 ^ q else a) 0

/-- Send one frame of engine `eng`. Both engines number the channel's frames (log entry 72). -/
def sendFrame (n : Ch) (eng : Bool) (cls : Nat) (s : State) : State :=
  if !s.flag (F.CTL_FALINK_TX_EN n) then s
  else
    let c := s.eng n eng
    let r := retracting n s
    let fr := fineFrame eng cls c.seq (c.cmd.toList.map fun v => if r then 0 else v) (frameValid n s) r
    let g := codeGroups (k28_5 :: (fr.drop 1).map dataSym) (s.servo n).rd
    ((s.modServo n fun v => { v with
      frames := v.frames ++ [fr.map (BitVec.ofNat 8)], line := v.line ++ g.1.map (BitVec.ofNat 10), rd := g.2 }).modEngs n fun c =>
      { c with seq := (c.seq + 1) % 32 }).incWrap (F.CTL_FALINK_FRAME_CNT n)

/-! ### The channel sample event (R194) -/

/-- Errors of every head at an event on path `p`: the measured one, and the estimates of the others by the engine in control (R129,
R199). -/
def headErrors (n : Ch) (p : Pa) (u0 pos : Int) (s : State) : State :=
  let y := (ctlEng n s).y
  s.modServo n fun v => { v with
   pos := v.pos.set p pos
   err := Vector.ofFn fun q =>
    if q = p then u0
    else if events n s = 0 then v.err[q]
    else
      let j := (p.val + events n s - q.val % events n s) % events n s
      y[q.val + 1].2.1 + ((j : Int) - 1) * y[q.val + 1].2.2 }

/-- The off-track test of every writing head (R129). A gate that has parked is not affected (R196). -/
def offTrackTests (n : Ch) (s : State) : State :=
  s.each allPaths fun q t =>
    match (t.pathSt n q).arm with
    | some a =>
      if a.act = 2 && a.isOpen && a.cause.isNone && !onTrackErr n q t then parkGate n q 0x12 (t.inc (F.AFE_WRFLT_OFFTRK_CNT n)) else t
    | none => t

/-- Settling on path p (R209). -/
def settle (n : Ch) (p : Pa) (m : Meas) (s : State) : State :=
  let v := s.servo n
  if !v.waitOn.getLsbD p || !atTarget n s then s
  else if !m.miss && decide (m.ep.natAbs * 256 ≤ s.get (F.CTL_ONTRK_ONTRK_THR n) * 536870912) then
    let t := s.modServo n fun x => { x with settle := x.settle.set p (x.settle[p] + 1) }
    if max 1 (s.get (F.CTL_ONTRK_ONTRK_CNT n)) ≤ (t.servo n).settle[p] then onTrack n p t else t
  else s.modServo n fun x => { x with settle := x.settle.set p 0 }

/-- What one engine computes at an event: its context after the outputs, its measurement, the reference step, the inputs of the two
loops, the residuals, the outputs, and the saturations of both loops. -/
structure EngRun where
  ctx : EngCtx
  m   : Meas
  uC  : List Int
  uF  : List Int
  rC  : Option Int
  rF  : Option Int
  yC  : Int
  yF  : Int
  nC  : Nat
  nF  : Nat
  deriving DecidableEq, Repr

/-- Step 5 in one engine: the coarse loop. A reference step beyond Q2.29 saturates (R192). -/
def runCoarse (n : Ch) (e : Bool) (err vib shock step ff : Int) (r : EngRun) (s : State) : EngRun :=
  let c := r.ctx
  let u0 := if r.m.miss then c.y[0].2.1 else r.m.ec
  let u := [u0, vib, shock, (satQ step).1]
  if !s.bit (F.CTL_LOOPEN_EN n) 0 then { r with uC := u, yC := c.y[0].1 }
  else
    let o := loopOut (bankInts n e 0 s) c.x[0] u ff
    let y0 := satI 32 (o.1.1 + err)
    let res := if r.m.miss then none else some (u0 - c.y[0].2.1)
    let d := supervise n 0 res s c
    let at_ := decide (o.1.1.natAbs = (y0Lim n e 0 s).natAbs) && (r.m.miss || decide (c.u0[0].natAbs < u0.natAbs))
    { r with
      ctx := { d with y := d.y.set 0 (y0, o.1.2), u0 := d.u0.set 0 u0, satRun := if at_ then d.satRun + 1 else 0 }
      uC := u, rC := res, yC := y0, nC := o.2 + (if r.m.miss then 0 else r.m.ecS) }

/-- Step 6 in one engine: the fine loop of path p. -/
def runFine (n : Ch) (e : Bool) (p : Pa) (vib shock : Int) (r : EngRun) (s : State) : EngRun :=
  let l : Loop := ⟨p.val + 1, by omega⟩
  let c := r.ctx
  let pred := finePred n p c s
  let u0 := if r.m.miss then (satQ pred).1 else r.m.ep
  let u := [u0, r.yC, vib, shock]
  if !s.bit (F.CTL_LOOPEN_EN n) l then { r with uF := u, yF := 0 }
  else
    let o := loopOut (bankInts n e l s) c.x[l] u 0
    let res := if r.m.miss then none else some (u0 - pred)
    let d := supervise n l res s c
    { r with
      ctx := { d with y := d.y.set l o.1, u0 := d.u0.set l u0 }
      uF := u, rF := res, yF := o.1.1, nF := o.2 + (if r.m.miss then 0 else r.m.epS) }

/-- Steps 1 to 6 in one engine. -/
def engRun (n : Ch) (e : Bool) (o : SampleObs) (vib shock : Int) (s : State) : EngRun :=
  let a := refAdvance n (s.eng n e) s
  let m := measure n o a.2.2 s
  let r : EngRun := ⟨a.2.2, m, [], [], none, none, 0, 0, 0, 0⟩
  runFine n e o.path vib shock (runCoarse n e (if e then o.engB.y0err else o.engA.y0err) vib shock a.1 a.2.1 r s) s

/-- A sample event begins: the link is idle, WRGATE as written applies (R140), an engine that failed begins its recovery, and the
scratchpad counts (R497, R498). -/
def eventBegin (n : Ch) (o : SampleObs) (s : State) : State :=
  let t := linkIdle n (beginRecovery n ((wrgateFields n).foldl (fun u f => takeShadow f u) s))
  (t.addSat (F.CTL_SPSTAT_D_WAIT n) o.dWait).when o.lost fun u => (u.inc (F.CTL_SPSTAT_LOST n)).raise (chSrc n 34)
where
  wrgateFields (n : Ch) : List Fld :=
    [F.AFE_WRGATE_OFFTRK_THR n, F.AFE_WRGATE_SQUEEZE_THR n, F.AFE_WRGATE_WR_RETRY n, F.AFE_WRGATE_VFY_MODE n, F.AFE_WRGATE_SHOCK_EN n,
      F.AFE_WRGATE_VFY_ITER n]

/-- Both engines' contexts after steps 1 to 6, and what the engine in control shows: its seek, the wedge ports, the records of a SCAN,
saturations, supervision, declarations, and the counts of R213 and R214. -/
def eventShow (n : Ch) (o : SampleObs) (r : EngRun) (other : Option EngRun) (s : State) : State :=
  let l : Loop := ⟨o.path.val + 1, by omega⟩
  let was := ctlEng n s
  let b := inCtrl n s
  let t := if r.m.open0 then s.used else s
  let t := t.modEng n b fun _ => r.ctx
  let t := match other with | some x => t.modEng n (!b) fun _ => x.ctx | none => t
  let t := scanRecord n o.path o.wedge r.m (wedgePorts n o.path r.m (syncCtl n t))
  let t := countSat n l r.nF (countSat n 0 r.nC t)
  let t := t.when (t.bit (F.CTL_LOOPEN_EN n) 0) fun u => coarseCounts n (supShow n 0 was r.rC u)
  let t := t.when (t.bit (F.CTL_LOOPEN_EN n) l) (supShow n l was r.rF)
  offTrackTests n (headErrors n o.path (r.uF.headD 0) r.m.pos t)

/-- Steps 9 and 10: the arbiter. Whether this event's commands are suppressed; a take-back that begins raises OVERLAP (R248), and A's
copy reaches B whole or not. -/
def eventArbiter (n : Ch) (cls : Nat) (ready copyOk : Bool) (s : State) : Bool × State :=
  let t := if ready then s else latchCause n 1 s
  match (t.hinge n).cause with
  | some c => (otherReady n t, switchOver n c t)
  | none =>
    (false, if takeBackDue n t then
        (t.setFlag (F.HINGE_STAT_OVERLAP n) true).modHinge n fun h => { h with overlap := some (cls, copyOk) }
      else gapEvent n t)

/-- The commands leave (R193, R199, R222, R224); the saturations of commands are counted. Each engine keeps its own command of the path as
its last. -/
def eventCommands (n : Ch) (p : Pa) (eng : Bool) (r : EngRun) (other : Option EngRun) (s : State) : State :=
  let l : Loop := ⟨p.val + 1, by omega⟩
  if retracting n s then sendFrame n eng p.val (s.modEngs n fun c => { c with cmd := Vector.replicate 4 0 })
  else
    let c := command 18 r.yC
    let f := command 16 r.yF
    let t := countSat n l f.2 (countSat n 0 c.2 (s.modServo n fun v => { v with vcCmd := c.1 }))
    let t := t.modEng n eng fun x => { x with cmd := x.cmd.set p f.1 }
    let t := match other with
      | some x => t.modEng n (!eng) fun c => { c with cmd := c.cmd.set p (command 16 x.yF).1 }
      | none => t
    sendFrame n eng p.val t

/-- Steps 11 and 12: the next states of the loops, learning, settling, the copy and the self-checks. -/
def eventAfter (n : Ch) (o : SampleObs) (m : Meas) (held : Bool) (usC usF : List (Bool × List Int)) (s : State) : State :=
  let l : Loop := ⟨o.path.val + 1, by omega⟩
  let t := if s.bit (F.CTL_LOOPEN_EN n) 0 then boundary n 0 usC s else s
  let t := if t.bit (F.CTL_LOOPEN_EN n) l then boundary n l usF t else t
  hingePost n o.engA o.engB (settle n o.path m (learnSample n o.path m held t))

/-- The engines that computed a sample and are still in service, each with its inputs. -/
def computed (n : Ch) (us : List (Bool × List Int)) (s : State) : List (Bool × List Int) :=
  us.filter fun u => !([engFailed, engRetired].contains (engState n u.1 s))

/-- Steps 7 to 12, from what the engines computed. -/
def eventDecide (n : Ch) (o : SampleObs) (r : EngRun) (other : Option EngRun) (s : State) : State :=
  let eng := inCtrl n s
  let a := eventArbiter n o.path.val (if eng then o.engB.ready else o.engA.ready) o.engB.copyOk s
  let t := match other with
    | some x => compareEngines n (if eng then x.yC else r.yC) (if eng then r.yC else x.yC) a.2
    | none => a.2
  let t := if a.1 then t else eventCommands n o.path eng r other t
  let us := fun (f : EngRun → List Int) => computed n ((eng, f r) :: (other.map fun x => (!eng, f x)).toList) t
  eventAfter n o r.m a.1 (us fun x => x.uC) (us fun x => x.uF) t

/-- The take-back event ends (R248): A's voice-coil command leaves, its frame follows B's, A takes control and sends its copy to B. -/
def finishTakeBack (n : Ch) (s : State) : State :=
  match (s.hinge n).overlap with
  | none => s
  | some (cls, ok) =>
    let c := command 18 (s.eng n false).y[0].1
    let t := if retracting n s || !s.bit (F.CTL_LOOPEN_EN n) 0 then s else s.modServo n fun v => { v with vcCmd := c.1 }
    let t := takeBack n (sendFrame n false cls t)
    let t := stateCopy n ok (t.modHinge n fun h => { h with overlap := none })
    t.setFlag (F.HINGE_STAT_OVERLAP n) false

/-- A channel sample event: the burst-end strobe of a wedge on the surface of path p (R183, R194). -/
def sampleEvent (n : Ch) (o : SampleObs) (s : State) : State :=
  if !s.flag (F.CTL_STAT_LOADED n) || decide (events n s ≤ o.path.val) then s
  else
    let t := eventBegin n o (finishTakeBack n s)
    let v := vibInput n o.t t
    let t := t.addSat (F.CTL_FFCFG_STALE_CNT n) v.2
    let shock := shockInput n o.shock t
    let r := engRun n (inCtrl n t) o v.1 shock t
    let x := if otherComputes n t then some (engRun n (otherEng n t) o v.1 shock t) else none
    eventDecide n o r x (eventShow n o r x t)

/-! ### The spindle strobe (R198, R266, R304) -/

/-- Channels of the module enabled and in RUN, in channel-number order. -/
def runChans (s : State) : List Ch := allChans.filter fun c => s.flag (F.PAGE_ENABLE_EN c) && motState c s == stRun

/-- The reference phase at time t, in 2^-29 revolution (R303). -/
def refPhase (t : Nat) (s : State) : Int :=
  let x : Int := ((s.get F.KET_EPOCH_E : Int) * 1600000 + (t : Int) - s.ket.epochT) * s.ket.refRpm
  x % 96000000000 * 536870912 / 96000000000

/-- The stagger of channel n, in 2^-29 revolution (R304). -/
def stagger (n : Ch) (s : State) : Int :=
  let cs := runChans s
  let g := max 1 (s.get F.KET_STAT_G)
  let k := cs.findIdx (· == n)
  (s.get F.KET_STAT_INDEX % g * cs.length + k : Nat) * 536870912 / (max 1 (cs.length * g) : Nat)

/-- A phase wrapped into [-0.5, 0.5). -/
def wrapPhase (v : Int) : Int := (v + 268435456) % 536870912 - 268435456

/-- u1 of the spindle loop (R304, R305), with the counts and the mismatch report it makes. -/
def phaseInput (n : Ch) (index : Int) (t : Nat) (s : State) : Int × State :=
  if !headsOff n s || !s.flag F.KET_ENABLE_EN || !s.flag F.KET_PHCFG_PH_EN || s.flag F.KET_STAT_OVERLENGTH then (0, s)
  else if s.get (F.SCHED_FMT_FMT_RPM n) ≠ s.ket.refRpm then
    (0, if s.flag F.KET_STAT_RPM_MISMATCH then s else (s.setFlag F.KET_STAT_RPM_MISMATCH true).raise (hostSrc 10))
  else
    let d := wrapPhase (refPhase t s + stagger n s - index)
    let lim : Int := s.get F.KET_PHCFG_U1_LIM * 524288
    let u := clampI lim d
    (u, if u = d then s else s.inc F.KET_ERR_U1_SAT)

/-- The spindle loop of one engine at a strobe: its context after the outputs, y0, and the saturations. -/
def strobeRun (n : Ch) (e : Bool) (err : Int) (u : List Int) (s : State) : EngCtx × Int × Nat :=
  let c := s.eng n e
  let o := loopOut (bankInts n e 5 s) c.x[5] u 0
  let d := supervise n 5 (some (u.getD 0 0 - c.y[5].2.1)) s c
  let y0 := satI 32 (o.1.1 + err)
  ({ d with y := d.y.set 5 (y0, o.1.2), u0 := d.u0.set 5 (u.getD 0 0) }, y0, o.2)

/-- Whether the torque command of this strobe is suppressed (R239): the first strobe after a switch, or a switch at this strobe while no
channel events occur. -/
def strobeArbiter (n : Ch) (ready : Bool) (s : State) : Bool × State :=
  let t := if ready then s else latchCause n 1 s
  let gap := (t.hinge n).spinGap
  let t := t.modHinge n fun h => { h with spinGap := false }
  match (t.hinge n).cause with
  | some c =>
    if t.flag (F.CTL_STAT_LOADED n) then (gap, t)
    else if otherReady n t then (true, (switchOver n c t).modHinge n fun h => { h with spinGap := false })
    else (gap, switchOver n c t)
  | none => (gap, t)

/-- The torque commands of a strobe leave: one of the engine in control; at the first strobe after a take-back B's and then A's (R248). -/
def torqueOut (n : Ch) (ctl : Int) (other : Option Int) (s : State) : State :=
  let ys := if (s.hinge n).spinTb then other.toList ++ [ctl] else [ctl]
  let t := countSat n 5 (command 18 ctl).2 s
  (t.modServo n fun v => { v with tqCmd := (command 18 ctl).1, tqOut := ys.map fun y => (command 18 y).1 }).modHinge n fun h => { h with spinTb := false }

/-- The spindle lane of both engines at a strobe with the inputs u (R182, R198, R233, R239). -/
def strobeLoops (n : Ch) (o : StrobeObs) (u : List Int) (s : State) : State :=
  let b := inCtrl n s
  let was := ctlEng n s
  let errOf := fun (e : Bool) => if e then o.engB.y0err else o.engA.y0err
  let r := strobeRun n b (errOf b) u s
  let x := if otherComputes n s then some (strobeRun n (!b) (errOf !b) u s) else none
  let t := s.modEng n b fun _ => r.1
  let t := match x with | some q => t.modEng n (!b) fun _ => q.1 | none => t
  let t := supShow n 5 was (some (u.getD 0 0 - was.y[5].2.1)) (countSat n 5 r.2.2 (syncCtl n t))
  let a := strobeArbiter n (if b then o.engB.ready else o.engA.ready) t
  let t := if a.1 then a.2.modServo n fun v => { v with tqOut := [] } else torqueOut n r.2.1 (x.map fun q => q.2.1) a.2
  boundary n 5 (computed n ((b, u) :: (x.map fun _ => (!b, u)).toList) t) t

/-- What a strobe in ACCEL and RUN judges: RUN reached, the depth of modulation, the tolerance (R262, R265, R266). -/
def strobeJudge (n : Ch) (s : State) : State := tolStrobe n (s.mot n).speed (depthStrobe n (runReached n (s.mot n).speed s))

/-- The spindle lane starts from rest in the strobe after RUN is reached (R198). -/
def freshLane (n : Ch) (s : State) : State :=
  if (s.mot n).runNew then
    (s.modEngs n fun c => { c with x := c.x.set 5 [], y := c.y.set 5 (0, 0, 0) }).modMot n fun m => { m with runNew := false } else s

/-- The inputs of the spindle lane at a strobe in ACCEL and RUN (R198), and what the phase input changes. -/
def strobeInputs (n : Ch) (o : StrobeObs) (s : State) : List Int × State :=
  let w := phaseInput n o.index o.t s
  ([satI 32 (((s.mot n).speed - 16384) * 32768), w.1, satI 32 (currentAmp n w.2), 0], w.2)

/-- The lane works, or only the arbiter while the loop is off. -/
def strobeWork (n : Ch) (o : StrobeObs) (u : List Int) (s : State) : State :=
  if s.bit (F.CTL_LOOPEN_EN n) 5 then strobeLoops n o u s
  else (strobeArbiter n (if inCtrl n s then o.engB.ready else o.engA.ready) s).2

/-- A spindle speed strobe. -/
def strobe (n : Ch) (o : StrobeObs) (s : State) : State :=
  let t := beginRecovery n (finishTakeBack n s)
  let t := if motIn n [stAccel, stRun] s then freshLane n (strobeJudge n t) else freshLane n t
  let i := if motIn n [stAccel, stRun] s then strobeInputs n o t else ([0, 0, 0, 0], t)
  hingePost n o.engA o.engB (strobeWork n o i.1 i.2)

/-! ### Loading (R184, R225) -/

/-- Servo is acquired: the coarse loop engages with zero state at the measured arm position, in 1/512 track. Every path whose class is
present has a head: that last used, or the lowest surface of its class. -/
def acquired (n : Ch) (pos : Int) (s : State) : State :=
  if !(s.servo n).loading then s
  else
    let t := s.each (allPaths.filter fun p => decide (p.val < events n s)) fun p u => selectHead n p ((u.pathSt n p).head.getD p.val) u
    let ref := pos * 1048576
    let t := (t.modServo n fun v => { v with
      loading := false, loadTry := 0, tc := ref, offs := Vector.replicate 4 0, waitOn := 0 }).modEngs n fun c => { c with
      ref := ref, seek := none, x := Vector.replicate 6 [] |>.set 5 c.x[5], y := Vector.replicate 6 (0, 0, 0) |>.set 5 c.y[5],
      cmd := Vector.replicate 4 0, satRun := 0 }
    let t := t.each allPaths fun p u => u.modServo n fun v =>
      let at_ := ref + calOffset n (pathHeadOf n p u) u * 2097152
      { v with pos := v.pos.set p at_, track := v.track.set p (roundDiv at_ 536870912).toNat }
    (t.setFlag (F.CTL_STAT_LOADED n) true).modMot n fun m => { m with vc := .current }

/-- No servo within 200 ms off the ramp: back to the ramp, and once more (R225). -/
def loadTimeout (n : Ch) (s : State) : State :=
  let v := s.servo n
  if !v.loading then s
  else
    let t := startRetract n s
    if v.loadTry = 0 then t.modServo n fun x => { x with loadTry := 1 }
    else (t.modServo n fun x => { x with loadTry := 0 }).raise (chSrc n 14)

/-- A shock event (R216). -/
def shockEvent (n : Ch) (s : State) : State :=
  let t := s.inc (F.CTL_SHOCK_SHOCK_CNT n)
  if s.inForce (F.AFE_WRGATE_SHOCK_EN n) != 0 then parkAll n 0x13 (t.modServo n fun v => { v with shockPend := true }) else t

/-- Self-checks while no event occurs, every 4 µs, and the RETRACT frames of R224. -/
def idleTick (n : Ch) (aOk bOk : Bool) (s : State) : State :=
  let t := beginRecovery n (finishTakeBack n s)
  let ok := fun (b : Bool) => (if b then bOk else aOk) && memGood n b t
  let ctl := ok (inCtrl n t)
  let t := otherCheck n (ok (otherEng n t)) t
  let t := if ctl then t else latchCause n 2 t
  if retracting n t then sendFrame n (inCtrl n t) 0 ((linkIdle n t).modEngs n fun c => { c with cmd := Vector.replicate 4 0 }) else linkIdle n t

/-! ### Commands -/

/-- SERVO_SAMPLE_EVENT (R194). -/
def execServoSampleEvent (n : Ch) (o : SampleObs) (s : State) : Host.Outcome State Fault Refusal := .next (sampleEvent n o s)
/-- IDLE_SELF_CHECK_TICK (R235). -/
def execIdleSelfCheckTick (n : Ch) (aOk bOk : Bool) (s : State) : Host.Outcome State Fault Refusal := .next (idleTick n aOk bOk s)
/-- ENGINE_RECOVERY_COPY_DONE (R245). -/
def execEngineRecoveryCopyDone (n : Ch) (s : State) : Host.Outcome State Fault Refusal := .next (copyDone n s)
/-- TAKE_BACK (R248): the take-back event in progress ends. With none in progress and take-back due, the event of class `cls` runs its whole
order, B's frame and then A's; a cause that stands against B makes it a switch-over (R249). -/
def takeBackEvent (n : Ch) (cls : Pa) (s : State) : State :=
  if (s.hinge n).overlap.isSome then finishTakeBack n s
  else match (s.hinge n).cause with
    | some c => if inCtrl n s && engState n false s == engShadow then switchOver n c s else s
    | none =>
      if takeBackDue n s then
        finishTakeBack n ((sendFrame n true cls.val (linkIdle n s)).modHinge n fun h => { h with overlap := some (cls.val, true) })
      else s

/-- TAKE_BACK (R248). -/
def execTakeBack (n : Ch) (cls : Pa) (s : State) : Host.Outcome State Fault Refusal := .next (takeBackEvent n cls s)
/-- LOOP_IMPLAUSIBLE_DECLARE (R210): in engine A, or in B when `b`. -/
def execLoopImplausibleDeclare (n : Ch) (b : Bool) (l : Loop) (s : State) : Host.Outcome State Fault Refusal := .next (declare n b l s)
/-- LOOP_PLAUSIBLE_RECOVER (R212). -/
def execLoopPlausibleRecover (n : Ch) (b : Bool) (l : Loop) (s : State) : Host.Outcome State Fault Refusal := .next (plausible n b l s)
/-- SERVO_LOST (R213). -/
def execServoLost (n : Ch) (s : State) : Host.Outcome State Fault Refusal := .next (servoLost n s)
/-- ACT_RUNAWAY (R214). -/
def execActRunaway (n : Ch) (a b : Bool) (s : State) : Host.Outcome State Fault Refusal := .next (runaway n a b s)
/-- ON_TRACK (R209). -/
def execOnTrack (n : Ch) (p : Pa) (s : State) : Host.Outcome State Fault Refusal := .next (onTrack n p s)
/-- SEEK_TIMEOUT (R209). -/
def execSeekTimeout (n : Ch) (s : State) : Host.Outcome State Fault Refusal := .next (seekTimeout n s)
/-- SEEK_REDIRECT (R208); the target in 1/512 track. -/
def execSeekRedirect (n : Ch) (target : Int) (s : State) : Host.Outcome State Fault Refusal := .next (redirect n (target * 1048576) s)
/-- SPINDLE_STROBE (R266). -/
def execSpindleStrobe (n : Ch) (o : StrobeObs) (s : State) : Host.Outcome State Fault Refusal := .next (releaseStarts (strobe n o s))
/-- SWAP_REQUEST (R203). -/
def execSwapRequest (n : Ch) (mask : BitVec 6) (s : State) : Host.Outcome State Fault Refusal :=
  .next (arbWrite (F.CTL_SWAP_REQ n).addr (swapRequest n mask.toNat) s)
/-- SWAP_CHECK_DONE (R203). -/
def execSwapCheckDone (n : Ch) (l : Loop) (s : State) : Host.Outcome State Fault Refusal := .next (swapChecked n l s)
/-- COEF_WINDOW_WRITE (R202, R205). -/
def execCoefWindowWrite (path : RegPath) (n : Ch) (l : Loop) (i : Byte) (v : W32) (atSwap : Bool) (s : State) :
    Host.Outcome State Fault Refusal :=
  .next (lockedWrite path (chBase n + 0x190000 + l.val * 0x400 + 4 * i.toNat) false (coefWrite n l i.toNat v.toNat atSwap) s)
/-- SHOCK_EVENT (R216). -/
def execShockEvent (n : Ch) (s : State) : Host.Outcome State Fault Refusal := .next (shockEvent n s)
/-- SHOCK_HOLD_EXPIRE (R216). -/
def execShockHoldExpire (n : Ch) (s : State) : Host.Outcome State Fault Refusal :=
  .next (s.modServo n fun v => { v with shockPend := false })
/-- RRO_CONVERGED (R220). -/
def execRroConverged (n : Ch) (p : Pa) (s : State) : Host.Outcome State Fault Refusal := .next (converged n p s)
/-- RRO_NO_CONVERGENCE (R132). -/
def execRroNoConvergence (n : Ch) (p : Pa) (s : State) : Host.Outcome State Fault Refusal := .next (noConvergence n p s)
/-- SERVO_ACQUIRED (R225); the measured arm position in 1/512 track. -/
def execServoAcquired (n : Ch) (pos : Int) (s : State) : Host.Outcome State Fault Refusal := .next (acquired n pos s)
/-- LOAD_TIMEOUT (R225). -/
def execLoadTimeout (n : Ch) (s : State) : Host.Outcome State Fault Refusal := .next (loadTimeout n s)

end Sys2Proof.Machine
end

