-- ==== Sys2Proof/Machine/Ladder.lean ====
section
/-! DEFINITION. The end of a captured sector's first pass (R81, R82, R92, R93, R99, R114) and the retry ladder (R104 to R112,
R373): its steps, its ends, and the background rewrite. -/

namespace Sys2Proof.Machine

/-! ### Sectors and logical blocks -/

/-- The channel block that a slot, or the slot a relocation slot stands for, holds. -/
def slotChanBlock (c : Chan) (x : SlotId) : Option Nat :=
  slotBlock c (relocStart c.sched.grown c.sched.grown.length x)

/-- The namespace and logical block that a channel block holds. -/
def ownerOf (n : Ch) (b : Nat) (s : State) : Option (Nat × Nat) :=
  match (s.chan n).sched.runs.find? fun r => decide (r.base ≤ b) && decide (b < r.base + r.len) with
  | none => none
  | some r =>
    if !r.layout then some (r.owner, b - r.base)
    else
      let l : Fin 4 := Fin.ofNat 4 r.owner
      let km := layoutK l s + layoutM l s
      let x := (b - r.base) / 64
      let w := layoutW l s
      ((List.range w).map fun q => x / km * w + q).findSome? fun st =>
        (List.range (layoutK l s)).findSome? fun i =>
          if stripAt l st i s == (n.val, x) then stripeBlock l st i ((b - r.base) % 64) s else none

/-- A buffer of the background media use for one block, with the block in it. -/
def keepBlock (b : Block) (s : State) : Option (Nat × State) :=
  match tryAlloc 0xF 2 1 s with
  | some (h :: _, t) => some (h, putUnit (handleUnit h s) b t)
  | _ => none

/-- The item last placed in a ring, changed. -/
def modLast (n : Ch) (f : Item → Item) (s : State) : State :=
  s.modSched n fun c => { c with ring := c.ring.take (c.ring.length - 1) ++ (c.ring.drop (c.ring.length - 1)).map f }

/-- The write back of a recovered sector is placed, followed by a verify (R111, R134); dropped where a later write was accepted (R374).
While its request for a buffer is not admitted it waits (R484). A failed verify relocates it. -/
def placeRewrite (n : Ch) (r : Rewrite) (s : State) : State :=
  let later := match r.lb with | some x => s.host.wb.any fun w => w.acc && w.covers x.1 x.2 | none => false
  if later || !chanReady n s then s
  else match keepBlock r.blk s with
    | none => s.modSched n fun c => { c with rewrites := c.rewrites ++ [r] }
    | some (h, t) => modLast n (fun i => { i with vfail := Vector.replicate 4 1 })
        (placeSig n 0x02 .rewrite [] 3 false true 0 none [⟨r.pos, h, r.lb⟩] t)

def rewriteSector (n : Ch) (pos : SlotId) (lb : Option (Nat × Nat)) (b : Block) (s : State) : State := placeRewrite n ⟨pos, lb, b⟩ s

/-- The write backs that waited for a buffer ask again. -/
def pumpRewrites (s : State) : State :=
  s.each allChans fun n t => (t.modSched n fun c => { c with rewrites := [] }).each (t.chan n).sched.rewrites (placeRewrite n)

/-! ### The ladder -/

def findLadder (n : Ch) (pos : SlotId) (s : State) : Option Ladder := (s.chan n).sched.ladders.find? fun l => l.pos == pos

def modLadder (n : Ch) (pos : SlotId) (f : Ladder → Ladder) (s : State) : State :=
  s.modSched n fun y => { y with ladders := y.ladders.map fun l => if l.pos == pos then f l else l }

/-- The operation of a step; a ladder past step 15 has reached END, and a reserved operation is END (R104, R108). -/
def stepOp (n : Ch) (k : Nat) (s : State) : Nat :=
  if 16 ≤ k then 0 else if 8 ≤ s.get (F.DET_LADDER_OP n k) then 0 else s.get (F.DET_LADDER_OP n k)

/-- Every attached command completes unrecovered and is detached (R108). -/
def failAttached (n : Ch) (l : Ladder) (s : State) : State :=
  match l.lblk with
  | some x => ladderSync n (modLadder n l.pos (fun y => { y with cmds := [] }) (s.each l.cmds fun k t => failRead k x.1 x.2 t))
  | none => s

/-- The report that runs beside a ladder in GATH ends with it (R112). -/
def endReport (l : Ladder) (s : State) : State :=
  match l.lblk with
  | some x => { s with gath := { s.gath with recon := s.gath.recon.filter fun r => !(r.ladder && r.nsid == x.1 && r.lba == x.2) } }
  | none => s

/-- SECTOR_UNREC of a sector left unread in the background, and its Error Information entry (R111, R529). -/
def sectorUnrec (n : Ch) (l : Ladder) (s : State) : State :=
  let own := match l.lblk with
    | some x => (x.1, x.2)
    | none => (0, (slotChanBlock (s.chan n) l.pos).getD 0xFFFFFFFFFFFFFFFF)
  let t := (s.modSched n fun y => { y with unrec := y.unrec + 1 }).record (chanIdent n 0 l.path) 0x0100 (bytesLe 4 own.1 ++ bytesLe 8 own.2 ++ bytesLe 4 0x09)
  match l.lblk with
  | some x => t.errUnread x.1 x.2
  | none => t

/-- A ladder reaches END (R108, R111); the sector ends UNRECOVERED (R113). -/
def ladderEnd (n : Ch) (l : Ladder) (s : State) : State :=
  let s := noteResult n l.path l.tag 0x09 s
  if l.cmds.isEmpty then sectorUnrec n l (endReport l (dropLadder n l s))
  else
    let t := failAttached n l s
    match findLadder n l.pos t with
    | some y => endReport y (dropLadder n y t)
    | none => t

/-- A REREAD is issued: a one-path READ_SIG that names its step (R104, R63). -/
def issueReread (n : Ch) (l : Ladder) (s : State) : State :=
  if (s.chan n).sched.ring.any fun i => i.kind == .ladder && i.desc == l.desc then s
  else
    let t := placeSig n 0x01 .ladder [] (if l.cmds.isEmpty then 3 else 1) false false l.step none [⟨l.pos, (descHandle l.desc l.path).toNat, l.lblk⟩] s
    match (t.chan n).sched.ring.getLast? with
    | some i => modLadder n l.pos (fun y => { y with desc := i.desc }) t
    | none => t

/-- A ladder goes on to the step at which it can stand: END ends it, a BG_ONLY step ends its foreground, a step on kept samples
is passed over when none are kept (R95, R96, R106, R108). A BG_ONLY step that is then passed over for want of samples has ended the
foreground all the same (DESIGN CHOICE, log entry 71). -/
def ladderSettle (n : Ch) (pos : SlotId) : Nat → State → State
  | 0, s => s
  | fuel + 1, s =>
    match findLadder n pos s with
    | none => ladderSync n s
    | some l =>
      let op := stepOp n l.step s
      if op = 0 then ladderEnd n l s
      else if s.flag (F.DET_LADDER_BG_ONLY n l.step) && !l.cmds.isEmpty then
        let t := failAttached n l s
        match findLadder n pos t with
        | some y => if y.barrier.isSome then cancelLadder n y t else ladderSettle n pos fuel t
        | none => ladderSync n t
      else if op ≠ 6 && l.kept.isNone then ladderSettle n pos fuel (modLadder n pos (fun y => { y with step := y.step + 1 }) s)
      else if op = 6 then ladderSync n (issueReread n l s)
      else ladderSync n s

/-! ### Steps that begin (R105, R106, R117) -/

/-- No signature is issued to a path (R106). -/
def pathFree (n : Ch) (p : Pa) (s : State) : Bool :=
  !(s.chan n).sched.ring.any fun i => i.taken && descEn i.desc p && !i.ended[p]

/-- The values of step `k` at its beginning (R105, R116): the budget, the reader mask with 0 as 0b010, the offset in 1/64 track. -/
def stepRun (n : Ch) (k : Nat) (s : State) : StepRun :=
  let m := s.get (F.DET_LADDER_RMASK n k)
  ⟨stepOp n k s, iterBudget n (s.get (F.DET_LADDER_ITER n k) + 1) s, s.get (F.DET_LADDER_ALT n k), BitVec.ofNat 3 (if m = 0 then 2 else m),
    sext 8 (s.get (F.DET_LADDER_OFFSET n k)), s.flag (F.DET_LADDER_AGC_HOLD n k)⟩

/-- A step on kept samples is in progress on a path (R106). -/
def stepBusy (n : Ch) (p : Pa) (s : State) : Bool :=
  (s.chan n).sched.ladders.any fun l => l.path == p && match l.run with | some r => r.op != 6 | none => false

/-- The ladder of a path whose next step on kept samples runs first: one in the foreground before one in the background (R111). -/
def nextStep (n : Ch) (p : Pa) (s : State) : Option Ladder :=
  let ls := (s.chan n).sched.ladders.filter fun l => l.path == p && l.run.isNone && l.kept.isSome && stepOp n l.step s != 0 && stepOp n l.step s != 6
  match ls.find? fun l => !l.cmds.isEmpty with
  | some l => some l
  | none => ls.head?

def beginStep (n : Ch) (l : Ladder) (s : State) : State := modLadder n l.pos (fun y => { y with run := some (stepRun n l.step s) }) s

/-- Steps on kept samples begin on the paths that are free and run none (R106). -/
def beginSteps (n : Ch) (s : State) : State :=
  s.each allPaths fun p t =>
    if pathFree n p t && !stepBusy n p t then match nextStep n p t with | some l => beginStep n l t | none => t else t

/-- The signature of a REREAD is handed over: its step begins. -/
def beginReread (n : Ch) (d : Desc) (s : State) : State :=
  match (s.chan n).sched.ladders.find? fun l => l.desc == d with
  | some l => beginStep n l s
  | none => s

/-- A ladder register changes: ladders whose step has not begun stand at it anew, and a REREAD that it no longer asks for is taken back
(R117). -/
def resettle (n : Ch) (s : State) : State :=
  let idle := (s.chan n).sched.ladders.filter fun l => l.run.isNone
  let gone := fun (i : Item) => i.kind == .ladder && !i.taken && idle.any fun l => l.desc == i.desc && stepOp n l.step s != 6
  beginSteps n ((s.modSched n fun c => { c with ring := c.ring.filter fun i => !gone i }).each idle fun l t => ladderSettle n l.pos 40 t)

/-! ### Entering the ladder -/

/-- The first accepted write to a block that was fetched after some command of a list (R107). -/
def laterWrite (ks : List Nat) (lb : Option (Nat × Nat)) (s : State) : Option Nat :=
  match lb with
  | none => none
  | some x => (s.host.wb.filter fun w => w.acc && w.covers x.1 x.2 && ks.any fun k => decide (k < w.k)).foldl
      (fun (r : Option Nat) w => some (match r with | some b => min b w.k | none => w.k)) none

/-- A captured sector whose samples a ladder keeps, and the gains its last pass ended in. -/
def keptGains (kept : Option SampleBuf) : Vector Int 3 := match kept with | some b => b.gains | none => Vector.replicate 3 0

/-- The sector of commands that may not attach to the ladder that runs (R107) is read again (DESIGN CHOICE, log entry 71). -/
def readAgain (n : Ch) (p : Pa) (d : Desc) (cmds : List Nat) (lb : Option (Nat × Nat)) (s : State) : State :=
  if cmds.isEmpty then s
  else placeSig n 0x01 .hostRead cmds 1 false false 0 none [⟨descSlotId d p, (descHandle d p).toNat, lb⟩] s

/-- A sector enters the ladder with the commands of its work item (R106, R110, R114); where one runs already, the commands fetched
before every accepted write to the sector attach to it (R107), and the samples of their own read are not kept (DESIGN CHOICE, log
entry 71). -/
def startLadder (n : Ch) (p : Pa) (d : Desc) (cmds : List Nat) (lb : Option (Nat × Nat)) (kept : Option SampleBuf) (s : State) : State :=
  let pos := descSlotId d p
  let t := s.each cmds fun k u => u.modCmd k fun c => { c with items := c.items + 1 }
  match findLadder n pos s with
  | some l =>
    let joins := fun (k : Nat) => match l.barrier with | some b => decide (k < b) | none => true
    let ks := cmds.filter joins
    let ever := ks.map fun k => queueKey k s
    let u := (modLadder n pos (fun y => { y with cmds := y.cmds ++ ks, ever := y.ever ++ ever }) t).when kept.isSome fun u => unpinBuffer n p u
    readAgain n p d (cmds.filter fun k => !joins k) lb (ladderSync n u)
  | none =>
    let one := sealDesc ((d.toList.take 11).set 0 (BitVec.ofNat 32 (d[0].toNat - descEnMask d * 256 + 2 ^ (8 + p.val))))
    let l : Ladder := ⟨p, pos, one, descLadder d, none, kept, keptGains kept, descTag d, cmds, cmds.map fun k => queueKey k s, laterWrite cmds lb s, lb⟩
    beginSteps n (ladderSettle n pos 40 (t.modSched n fun y => { y with ladders := y.ladders ++ [l] }))

/-- A sector of a gathering namespace that fails its first pass is reported to GATH too (R112). -/
def reportGath (lb : Option (Nat × Nat)) (hdl : Nat) (cmds : List Nat) (s : State) : State :=
  match lb with
  | some x => match s.ns x.1 with
    | some v => if 8 ≤ v.place && !cmds.isEmpty then { s with gath := { s.gath with recon := s.gath.recon ++ [⟨x.1, x.2, hdl, cmds, true⟩] } } else s
    | none => s
  | none => s

/-! ### Steps that end -/

/-- A step succeeds: in the foreground the attached commands get the data, in the background the sector is rewritten (R108,
R111). The scheduler gets GOOD_LADDER with the step (R113). -/
def ladderGood (n : Ch) (l : Ladder) (flags : Nat) (b : Block) (s : State) : State :=
  let t := noteResult n l.path l.tag (0x01 + l.step * 65536 + flags) (endReport l (dropLadder n l s))
  beginSteps n (match l.cmds, l.lblk with
    | [], _ => rewriteSector n l.pos l.lblk b t
    | ks, some x => t.each ks fun k u => endItem k (deliverTo k x.2 b u)
    | _, none => t)

/-- A step fails: the ladder goes on at the next. -/
def ladderFail (n : Ch) (l : Ladder) (s : State) : State :=
  beginSteps n (ladderSettle n l.pos 40 (modLadder n l.pos (fun y => { y with step := y.step + 1, run := none }) s))

/-- Ladder `i` of a channel, with its step in progress when that is of operation `op`. A step on kept samples that could begin now
does. -/
def ladderAt (n : Ch) (i op : Nat) (s : State) : Option (Ladder × StepRun) :=
  match (s.chan n).sched.ladders[i]? with
  | none => none
  | some l => match l.run with
    | some r => if r.op == op then some (l, r) else none
    | none =>
      if op != 6 && stepOp n l.step s == op && l.kept.isSome && pathFree n l.path s && !stepBusy n l.path s then some (l, stepRun n l.step s) else none

/-- The coefficients for a sector of a head and zone: those in use when they are that head's and zone's, else their entry (DEDUCED). -/
def sectorCoefs (n : Ch) (p : Pa) (h z : Nat) (s : State) : List Int :=
  if (s.pathSt n p).loaded == some (h, z) then coefsInUse n p s else (eqEntry (s.chan n) h z).map fun v => sext 10 v

/-- Equalizer and detector settings of a pass over a stored sector: coefficients of alternate set `alt` (0 the current ones), readers
of a mask less the dropped ones (R84, R85, R105). -/
def passCfg (n : Ch) (p : Pa) (b : SampleBuf) (alt : Nat) (mask : BitVec 3) (s : State) : DetCfg :=
  let z := descZone b.desc
  let cs := if alt = 0 then sectorCoefs n p (descSurf b.desc p) z s
    else match zoneDflt (s.chan n) z with | some d => (d.alts.getD (alt - 1) []).map fun v => sext 10 v | none => []
  detCfg n p z cs (mask &&& ~~~b.drop) s

/-- Detection and decoding of a stored sector with a budget. -/
def passOver (n : Ch) (p : Pa) (b : SampleBuf) (alt : Nat) (mask : BitVec 3) (ta : Bool) (budget : Nat) (s : State) : DecodeObs :=
  observe (passCfg n p b alt mask s) (markThr (s.get (F.DET_SYNCCFG_SYNC_THR n))) budget ta p b

/-- What a step on kept samples that decodes them once gives (R104). -/
def stepObs (n : Ch) (l : Ladder) (r : StepRun) (b : SampleBuf) (s : State) : DecodeObs :=
  passOver n l.path b (if r.op = 2 then r.alt else 0) (if r.op = 3 then r.rmask else 7) (r.op == 7) r.budget s

/-- A step on samples of which a word has an uncorrectable error fails, and the next is not concerned (R94). -/
def clearBad (n : Ch) (l : Ladder) (s : State) : State :=
  modLadder n l.pos (fun y => { y with kept := y.kept.map fun b => { b with bad := false } }) s

/-- A step that decodes the kept samples once ends. -/
def ladderDecode (n : Ch) (i op : Nat) (s : State) : State :=
  match ladderAt n i op s with
  | none => s
  | some (l, r) => match l.kept with
    | none => ladderFail n l s
    | some b =>
      let o := stepObs n l r b s
      let flags := resultFlags o b.drop
      if b.bad then ladderFail n l (clearBad n l s)
      else if firstPassCode o b.drop = 0 then ladderGood n l flags o.blk s
      else ladderFail n l (noteResult n l.path l.tag (firstPassCode o b.drop + flags) s)

/-- The nine candidates of a step (R101). -/
def slipObs (n : Ch) (l : Ladder) (r : StepRun) (b : SampleBuf) (s : State) : List Decoded :=
  observeSlip (passCfg n l.path b 0 7 s) (markThr (s.get (F.DET_SYNCCFG_SYNC_THR n))) r.budget (r.op == 5) l.path b

/-- A sync-slip recovery ends: exactly one of the nine candidates must pass (R102). -/
def ladderSlip (n : Ch) (i op : Nat) (s : State) : State :=
  match ladderAt n i op s with
  | none => s
  | some (l, r) => match l.kept with
    | none => ladderFail n l s
    | some b =>
      if b.bad then ladderFail n l (clearBad n l s)
      else match (slipObs n l r b s).filter fun c => c.converged && c.check with
        | [c] => ladderGood n l 0 c.blk s
        | [] => ladderFail n l s
        | _ => ladderFail n l (noteResult n l.path l.tag 0x05 (s.inc (F.DET_ERRCNT_SLIP_AMBIG n l.path)))

/-! ### The end of a decode -/

/-- The equalizer adapts on a sector that converged and passed its check field (R81). -/
def adaptCoefs (n : Ch) (p : Pa) (c : DetCfg) (es : List (Int × Int)) (o : DecodeObs) (s : State) : State :=
  let mu := s.get (F.DET_EQCTL_MU n p)
  let xs := o.out.xs.toArray
  s.each (List.finRange 36) fun i u =>
    loadRws (F.DET_EQCOEF_COEF n p i.val) (toBits 10 (adaptCoef c mu es xs ⟨i.val / 12, by omega⟩ (i.val % 12))) u

/-- The entry of a head and zone in the coefficient table becomes the coefficients in use (R82). -/
def saveCoefs (n : Ch) (p : Pa) (h z : Nat) (s : State) : State :=
  let cs := (List.range 36).map fun i => s.inForce (F.DET_EQCOEF_COEF n p i)
  s.modChan n fun c => { c with eqTbl := c.eqTbl.filter (fun e => !(e.1 == h && e.2.1 == z)) ++ [(h, z, cs)] }

/-- What the first pass of a sector leaves on its path (R81, R82, R99): framing, and for a good sector the mean square error and the
adapted coefficients. MSE is that of the last sector that converged. -/
def sectorStatus (n : Ch) (p : Pa) (c : DetCfg) (b : SampleBuf) (o : DecodeObs) (s : State) : State :=
  let t := s.modStit n p fun x => { x with syncFlags := BitVec.ofNat 16 (resultFlags o b.drop) }
  let t := if o.pri.isSome || o.sec.isSome then t.event n p 6 else t
  if !o.converged then t
  else
    let es := adaptErrors c b o
    let t := t.set (F.DET_EQCTL_MSE n p) (meanSquare es)
    if !o.check then t
    else
      let t := t.when (t.flag (F.DET_EQCTL_ADAPT_EN n p)) (adaptCoefs n p c es o)
      t.when (t.flag (F.DET_EQCTL_SAVE_EN n p)) (saveCoefs n p (descSurf b.desc p) (descZone b.desc))

/-- The result of a captured sector goes to its Stitcher and to the scheduler (R113). -/
def captureResult (n : Ch) (p : Pa) (b : SampleBuf) (word : Nat) (s : State) : State :=
  noteResult n p (descTag b.desc) word (showResult n p word s)

/-- A captured sector of a READ_SIG ends its first pass (R91 to R95, R114). A speculative read never enters the ladder (R369),
nor does the sector of a read that was withdrawn. -/
def captureEnd (n : Ch) (p : Pa) (b : SampleBuf) (i : Item) (o : DecodeObs) (s : State) : State :=
  let d := b.desc
  let code := firstPassCode o b.drop
  let hdl := (descHandle d p).toNat
  let t := captureResult n p b (code + resultFlags o b.drop) s
  if code = 0 then
    let t := freeBuffer n p t
    let t := if (handleCtl hdl t).isSome then putUnit (handleUnit hdl t) o.blk t else t
    if i.kind == .recheck then rewriteSector n (descSlotId d p) i.lb[p] o.blk t else t
  else
    let t := t.inc (F.DET_ERRCNT_FP_FAIL n p)
    if i.kind == .spec || (i.cmds.isEmpty && (i.kind == .hostRead || i.kind == .verify)) then freeBuffer n p t
    else
      let keep := decide (t.get (F.DET_SSTAT_PINNED n p) < 2)
      let t := if keep then pinBuffer n p t else freeBuffer n p t
      reportGath i.lb[p] hdl i.cmds (startLadder n p d i.cmds i.lb[p] (if keep then some b else none) t)

/-- A captured sector of a VERIFY_SIG ends (R137): it passes when it decodes and its data is that of the buffer that was written.
A mismatch has the code of a failed check field (DEDUCED); a check of adjacent tracks has no buffer to compare with. -/
def verifyEnd (n : Ch) (p : Pa) (b : SampleBuf) (i : Item) (o : DecodeObs) (s : State) : State :=
  let code := firstPassCode o b.drop
  let hdl := (descHandle b.desc p).toNat
  let want := if hdl == emptyHandle then some (crc32c (List.replicate 4096 0)) else (assocGet (handleUnit hdl s) s.ream.sides).map fun x => x.crc
  let same := i.kind == .verify || want == some (crc32c (padTo 4096 (o.blk.data.map BitVec.toNat)))
  freeBuffer n p (captureResult n p b ((if code = 0 && !same then 0x04 else code) + resultFlags o b.drop) s)

/-- The first-pass budget of a stored sector: ITER_FIRST, or VFY_ITER for a VERIFY_SIG (R90, R116, R137). -/
def passBudget (n : Ch) (b : SampleBuf) (s : State) : Nat :=
  iterBudget n (if b.act = 3 then s.inForce (F.AFE_WRGATE_VFY_ITER n) else s.get (F.DET_ITER_ITER_FIRST n)) s

/-- The first pass over a stored sector. -/
def firstObs (n : Ch) (p : Pa) (b : SampleBuf) (s : State) : DecodeObs := passOver n p b 0 7 false (passBudget n b s) s

/-- FIRST_PASS_DECODE_END: the first-pass decode of the oldest sector in the sample store ends. While a ladder step runs on the path it
waits (R106); the capture of a REREAD ends with its ladder step instead. The sector of a cancelled REREAD ends CANCELLED, and that of
a work item that is gone is discarded. -/
def firstPass (n : Ch) (p : Pa) (s : State) : State :=
  match (s.pathSt n p).wait with
  | [] => s
  | b :: r =>
    if stepBusy n p s || (s.chan n).sched.ladders.any fun l => l.desc == b.desc && l.run.isSome then s
    else
      let s1 := s.modPath n p fun q => { q with wait := r }
      match findItem (descTag b.desc) (s.chan n).sched.ring with
      | none => freeBuffer n p (captureResult n p b 0x08 s1)
      | some i =>
        if i.kind == .ladder then freeBuffer n p (captureResult n p b 0x08 s1)
        else
          let o := firstObs n p b s
          let t := sectorStatus n p (passCfg n p b 0 7 s) b o s1
          if b.act = 3 then verifyEnd n p b i o t else captureEnd n p b i o t

/-- LADDER_REREAD: the reread sector is decoded; its samples take the place of the stored ones (R104, R106). -/
def reread (n : Ch) (i : Nat) (s : State) : State :=
  match ladderAt n i 6 s with
  | none => s
  | some (l, r) =>
    match (s.pathSt n l.path).wait with
    | [] => s
    | b :: rest =>
      if b.desc != l.desc || stepBusy n l.path s then s
      else
        let o := passOver n l.path b 0 7 false r.budget s
        let t := sectorStatus n l.path (passCfg n l.path b 0 7 s) b o (s.modPath n l.path fun q => { q with wait := rest })
        let keep := l.kept.isNone && decide (t.get (F.DET_SSTAT_PINNED n l.path) < 2)
        let t := if keep then pinBuffer n l.path t else freeBuffer n l.path t
        let l2 := { l with kept := if keep || l.kept.isSome then some b else none, gains := b.gains }
        let t := modLadder n l.pos (fun _ => l2) t
        let code := firstPassCode o b.drop
        let word := (if code = 0 then 0x01 + l.step * 65536 else code) + resultFlags o b.drop
        let t := captureResult n l.path b word t
        if code = 0 then ladderGood n l2 (resultFlags o b.drop) o.blk t else ladderFail n l2 t

/-- READ_DEADLINE_EXPIRE: a read attached to a ladder completes unrecovered and is detached (R108, R373). A limit of zero never
passes. A deadline that passes while the command is attached to no ladder has no effect, then or later (DESIGN CHOICE, log entry 71). -/
def deadline (k : Nat) (s : State) : State :=
  match s.cmd k with
  | none => s
  | some c =>
    let limited := match s.ns c.e.nsid.toNat with | some v => v.tler != 0 | none => false
    let ls := allChans.flatMap fun n => (s.chan n).sched.ladders.filter fun l => l.cmds.contains k
    match ls.head?.bind fun l => l.lblk with
    | some x => if limited then failRead k x.1 x.2 s else s
    | none => s

/-! ### Commands -/

/-- FIRST_PASS_DECODE_END (R92). -/
def execFirstPassDecodeEnd (n : Ch) (p : Pa) (s : State) : Host.Outcome State Fault Refusal := .next (firstPass n p s)
/-- LADDER_REDECODE (R104). -/
def execLadderRedecode (n : Ch) (i : Nat) (s : State) : Host.Outcome State Fault Refusal := .next (ladderDecode n i 1 s)
/-- LADDER_REEQ (R104). -/
def execLadderReeq (n : Ch) (i : Nat) (s : State) : Host.Outcome State Fault Refusal := .next (ladderDecode n i 2 s)
/-- LADDER_READER (R104). -/
def execLadderReader (n : Ch) (i : Nat) (s : State) : Host.Outcome State Fault Refusal := .next (ladderDecode n i 3 s)
/-- LADDER_SLIP (R101). -/
def execLadderSlip (n : Ch) (i : Nat) (s : State) : Host.Outcome State Fault Refusal := .next (ladderSlip n i 4 s)
/-- LADDER_BLIND (R104). -/
def execLadderBlind (n : Ch) (i : Nat) (s : State) : Host.Outcome State Fault Refusal := .next (ladderSlip n i 5 s)
/-- LADDER_REREAD (R104). -/
def execLadderReread (n : Ch) (i : Nat) (s : State) : Host.Outcome State Fault Refusal := .next (reread n i s)
/-- LADDER_TA (R104). -/
def execLadderTa (n : Ch) (i : Nat) (s : State) : Host.Outcome State Fault Refusal := .next (ladderDecode n i 7 s)
/-- REAM_WAIT_GRANT (R484): waiting requests are decided, and what they belong to goes on. -/
def execReamWaitGrant (pool : PoolId) (s : State) : Host.Outcome State Fault Refusal := .next (pumpRewrites (resume (waitGrant pool s)))
/-- READ_DEADLINE_EXPIRE (R108). -/
def execReadDeadlineExpire (k : Nat) (s : State) : Host.Outcome State Fault Refusal := .next (deadline k s)

end Sys2Proof.Machine
end

