-- ==== Sys2Proof/Machine/Sched.lean ====
section
/-! DEFINITION. The media scheduler (R63 to R66, R74, R75, R106, R132 to R139, R168 to R172, R371): descriptors taken and
rejected, work items finished, write retries, verify after write, and the events of the write path. -/

namespace Sys2Proof.Machine

/-! ### Work items -/

/-- The layout a work item's stripe belongs to. -/
def stripeLayout (x : Nat × Nat) : Fin 4 := Fin.ofNat 4 x.1

/-- A work item has ended for what it serves: a stripe update, or commands. -/
def itemEnded (i : Item) (s : State) : State :=
  match i.stripe with
  | some x => updateItem (stripeLayout x) x.2 (i.cmds.headD 0) s
  | none => if i.kind == .destage then s else s.each i.cmds fun k t => endItem k t

/-- Another `d` items serve what a work item serves. -/
def moreItems (i : Item) (d : Nat) (s : State) : State :=
  match i.stripe with
  | some x => s.modLayout (stripeLayout x) fun y => { y with
      locks := y.locks.map fun z => if z.1 == x.2 && z.2.1 == i.cmds.headD 0 then (z.1, z.2.1, z.2.2 + d) else z }
  | none => if i.kind == .destage then s else addItems i.cmds d s

/-- Replace a work item in its ring by others, at its place. -/
def spliceItem (n : Ch) (tag : W16) (is : List Item) (s : State) : State :=
  s.modSched n fun c => { c with ring := c.ring.flatMap fun i => if descTag i.desc == tag then is else [i] }

def removeItem (n : Ch) (i : Item) (s : State) : State := spliceItem n (descTag i.desc) [] s

/-- Replace a finished or rejected item by the items that go on for it; with none it has ended. -/
def followItem (n : Ch) (i : Item) (is : List Item) (s : State) : State :=
  let t := spliceItem n (descTag i.desc) is s
  match is with
  | [] => itemEnded i t
  | _ :: r => moreItems i r.length t

/-- A fresh tag of a channel. -/
def newTag (n : Ch) (s : State) : W16 × State :=
  (BitVec.ofNat 16 (s.chan n).sched.nextTag, s.modSched n fun c => { c with nextTag := (c.nextTag + 1) % 65536 })

/-- A descriptor with another command, path mask and tag, sealed again. -/
def reDesc (d : Desc) (cmd mask : Nat) (tag : W16) : Desc :=
  let w0 := BitVec.ofNat 32 (d[0].toNat / 4096 * 4096 + mask * 256 + cmd)
  let w9 := BitVec.ofNat 32 (descGen d + tag.toNat * 65536)
  sealDesc (((d.toList.take 11).set 0 w0).set 9 w9)

def pathMask (ps : List Pa) : Nat := ps.foldl (fun m p => m ||| 2 ^ p.val) 0

/-- An item over some of the paths of another, with the command given, not taken. -/
def subItem (i : Item) (cmd : Nat) (ps : List Pa) (tag : W16) : Item :=
  { i with
    desc := reDesc i.desc cmd (pathMask ps) tag
    taken := false
    sought := false
    ended := Vector.replicate 4 false
    abt := Vector.replicate 4 false
    again := false
    lb := Vector.ofFn fun p => if ps.contains p then i.lb[p] else none }

/-- The item placed again as it was, not taken (R13, R278). -/
def againItem (i : Item) : Item :=
  { i with taken := false, sought := false, ended := Vector.replicate 4 false, abt := Vector.replicate 4 false, again := false }

/-- The sectors of an item, as channel blocks. -/
def itemSectors (n : Ch) (i : Item) (ps : List Pa) (s : State) : List Sector :=
  ps.map fun p =>
    let x := descSlotId i.desc p
    match slotChanBlock (s.chan n) x with
    | some b => { blk := b, hdl := (descHandle i.desc p).toNat, lb := i.lb[p] }
    | none => { blk := 0, hdl := (descHandle i.desc p).toNat, lb := i.lb[p], fix := some x }

/-! ### Taking a descriptor (R65, R66, R132, R168) -/

/-- A speculative read that will not run: its buffers are freed, its line is dropped and reads that wait for it look again. -/
def specDrop (n : Ch) (i : Item) (s : State) : State :=
  let t := s.each (descPaths i.desc) fun p u => dropBuf (descHandle i.desc p).toNat u
  let t := removeItem n i t
  match (i.lb.toList.filterMap id).head? with
  | some x =>
    let t := match t.cache.fills.find? fun f => f.spec && f.nsid == x.1 && f.line == x.2 / 16 with
      | some f => dropFill f.id t
      | none => t
    specWake x.1 (x.2 / 16) t
  | none => t

/-- The dispatcher rebuilds a signature under the present map (R65, R75): paths whose slot is skipped are left out. -/
def rebuildItem (n : Ch) (i : Item) (s : State) : State :=
  let c := s.chan n
  let ps := (descPaths i.desc).filter fun p => match c.zt with | some z => !isSkipped c z (descSlotId i.desc p) | none => true
  let xs := itemSectors n i ps s
  let old := c.sched.ring
  let t := (placeRun n (descCmd i.desc) i.kind i.cmds i.cls (descSpec i.desc) (descWverify i.desc) i.stripe xs
    (s.modSched n fun y => { y with ring := [] })).2
  let made := (t.chan n).sched.ring.map fun j => { j with retry := i.retry, vfail := i.vfail }
  followItem n i made (t.modSched n fun y => { y with ring := old })

/-- A descriptor fails a check (R65, R66). -/
def rejectDesc (n : Ch) (i : Item) (r : Nat) (s : State) : State :=
  let t := if s.flag (F.SCHED_DESC_REJ_VALID n) then s
    else ((s.set (F.SCHED_DESC_REJ_REASON n) r).set (F.SCHED_DESC_REJ_VALID n) 1).set (F.SCHED_DESC_REJ_COUNT n) 0
  let t := t.inc (F.SCHED_DESC_REJ_COUNT n)
  let rereadOf := (s.chan n).sched.ladders.find? fun l => i.kind == .ladder && l.desc == i.desc
  if r = 7 ∨ r = 8 then
    match rereadOf with
    | some l => ladderSettle n l.pos 40 (removeItem n i t)
    | none => if i.kind == .ladder then removeItem n i t else rebuildItem n i t
  else
    let t := t.raise (chSrc n 0) 0xFFFF r
    if i.kind == .spec then specDrop n i t
    else
      let t := itemEnded i (removeItem n i t)
      let t := if i.kind == .destage then t else t.each i.cmds fun k u => failCmd k stDescriptor u
      match rereadOf with
      | some l => ladderFail n l (t.each l.cmds fun k u => failCmd k stDescriptor u)
      | none => t

/-- Whether two items name a common slot. -/
def itemsMeet (i j : Item) : Bool :=
  (descPaths i.desc).any fun p => (descPaths j.desc).any fun q => descSlotId i.desc p == descSlotId j.desc q

/-- A destage of a sector waits for the foreground of a ladder of that sector, of commands fetched before the write (R23,
R107). -/
def destageHeld (n : Ch) (i : Item) (s : State) : Bool :=
  i.kind == .destage && (s.chan n).sched.ladders.any fun l =>
    l.lblk.isSome && (i.lb.toList.any fun x => x == l.lblk) && l.cmds.any fun k => decide (k < i.cmds.headD 0)

/-- The paths of an item whose last result names a cause. -/
def resCode (i : Item) (p : Pa) : Nat := (i.res[p].getD 0) % 256

/-- A write that cannot be made (R135): the source is raised unless `quiet`. A destage waits for the next channel reset or enable;
a command completes with Write Fault; a write of no namespace write ends and leaves the sector. -/
def writeFail (n : Ch) (i : Item) (ps : List Pa) (quiet : Bool) (s : State) : State :=
  if ps.isEmpty then s
  else
    let t := s.each ps fun p u => if quiet then u else u.raise (chSrc n 4) p (resCode i p) (u.get (F.AFE_WRSTAT_LAST n p))
    if i.kind == .destage then
      moreItems i 1 (t.modHost fun h => { h with parked := h.parked ++ [⟨n, 0x02, .destage, i.cmds, i.cls, descWverify i.desc, itemSectors n i ps s, i.stripe⟩] })
    else if i.kind == .hostWrite then t.each i.cmds fun k u => failCmd k (sct 2 0x80) u
    else if i.kind == .rewrite then t.each ps fun p u => dropBuf (descHandle i.desc p).toNat u
    else t

/-- A SCAN_SERVO over the 512 wedges of the learning track of a head, one revolution, with a buffer for its records (R170, R219). One
is in the ring per head; heads learn one path to a signature (DESIGN CHOICE, log entry 70). -/
def placeScan (n : Ch) (h : Nat) (s : State) : State :=
  let waits := (s.chan n).sched.ring.any fun i => i.kind == .learn && (descPaths i.desc).any fun p => descSurf i.desc p == h
  match (s.chan n).zt, tryAlloc 0xF 2 1 s with
  | some z, some (b :: _, t) =>
    if waits then s
    else
      let tr := calLearn n h s
      let d := mkDesc 0x10 (z.zoneOf h tr) [⟨⟨h, tr, 0⟩, b, none⟩] (s.get (F.SCHED_MAP_GEN_GEN n)) (BitVec.ofNat 16 (s.chan n).sched.nextTag) false false 0
      let d := sealDesc ((d.toList.take 11).set 10 (BitVec.ofNat 32 (511 * 512)))
      t.modSched n fun c => { c with nextTag := (c.nextTag + 1) % 65536, ring := c.ring ++ [Item.new d .learn [] (Vector.replicate 4 none) 1] }
  | _, _ => s

/-- Learning of a descriptor's heads that have an EMPTY table and have not failed to converge is asked for (R132, R219). -/
def learnHeads (n : Ch) (d : Desc) (s : State) : State :=
  s.each (descPaths d) fun p t =>
    let h := descSurf d p
    if tblState n h t = 0 ∧ !((t.servo n).learn[p]).isSome ∧ !(t.chan n).sched.noconv.contains h then placeScan n h t else t

/-- A SCAN_SERVO of runout learning begins: the head learns (R219). -/
def beginLearn (n : Ch) (d : Desc) (s : State) : State :=
  s.each (descPaths d) fun p t =>
    let h := descSurf d p
    let u := selectHead n p h t
    if tblState n h u = 0 ∧ !((u.servo n).learn[p]).isSome then learnStart n p h u else u

/-- A SCAN_SERVO of runout learning has ended; another revolution follows until the table has converged or learning has given up. -/
def scanItemEnd (n : Ch) (i : Item) (s : State) : State :=
  (s.each (descPaths i.desc) fun p t => dropBuf (descHandle i.desc p).toNat t).each (descPaths i.desc) fun p t =>
    match (t.servo n).learn[p] with
    | some k => if k.head = descSurf i.desc p then placeScan n k.head t else t
    | none => t

/-- The heads of a write that will stay inhibited (R132, R136). -/
def barredPaths (n : Ch) (d : Desc) (s : State) : List Pa :=
  (descPaths d).filter fun p => (s.chan n).sched.noconv.contains (descSurf d p) ||
    decide (2 ≤ (s.chan n).sched.paFaults.count (descSurf d p))

/-- The fine offset of a REREAD that begins, in 1/64 track (R105). -/
def rereadOffset (n : Ch) (i : Item) (s : State) : Int :=
  if i.kind == .ladder then match (s.chan n).sched.ladders.find? fun l => l.desc == i.desc with
    | some l => match l.run with | some r => r.offset | none => 0
    | none => 0
  else 0

/-- A signature is in progress on the channel: one descriptor at a time is sought and carried out (R124, R168). -/
def sigBusy (n : Ch) (s : State) : Bool := (s.chan n).sched.ring.any fun i => i.taken && i.sought

/-- The seek of a chosen item starts, and it is handed to the Stitchers of its paths that do not hold it yet (R168, R171, R371). -/
def launch (n : Ch) (i : Item) (s : State) : State :=
  let tag := descTag i.desc
  let t := s.modSched n fun c => { c with ring := modItem tag (fun j => { j with taken := true, sought := true }) c.ring }
  let t := if i.kind == .ladder then beginReread n i.desc t else t
  let seeking := (ctlEng n s).seek.isSome
  let redir := seeking && (s.servo n).waitOn == 0
  let t := if redir then t.inc (F.SCHED_SPECSTAT_SSEEK_REDIR n) else t
  let t := startSeek n i.desc (rereadOffset n i t) seeking t
  let t := t.each (descPaths i.desc) fun p u => if (u.stit n p).holds tag then u else handDesc n i.desc p u
  if i.kind == .learn then beginLearn n i.desc t else t

/-- An item whose sectors meet those of an earlier one that has not ended starts after it (R368, R23). -/
def itemBlocked (n : Ch) (i : Nat) (it : Item) (s : State) : Bool :=
  ((s.chan n).sched.ring.take i).any fun j => (!j.taken || j.kind == .destage) && itemsMeet j it

/-- The class of an item as it is taken: destage runs at Normal class under the conditions of R23. -/
def itemClass (it : Item) (s : State) : Nat := if it.kind == .destage && destageUrgent s then 1 else it.cls

/-- Urgent work goes ahead of every other work in the ring (R324). -/
def urgentAhead (n : Ch) (it : Item) (s : State) : Bool :=
  it.cls != 0 && (s.chan n).sched.ring.zipIdx.any fun x => x.1.cls == 0 && !x.1.taken && !itemBlocked n x.2 x.1 s

/-- The item is chosen; while a signature is in progress its seek waits, and its descriptor may be prefetched (R124, R171). -/
def choose (n : Ch) (i : Item) (s : State) : State :=
  let fresh := fun (j : Item) => { j with
    taken := true, sought := false, cls := itemClass i s, res := Vector.replicate 4 none, ended := Vector.replicate 4 false, abt := Vector.replicate 4 false }
  let t := s.modSched n fun c => { c with ring := modItem (descTag i.desc) fresh c.ring }
  if sigBusy n s then t else launch n i t

/-- The next chosen item follows when no signature is in progress any more. -/
def launchNext (n : Ch) (s : State) : State :=
  if sigBusy n s then s
  else match (s.chan n).sched.ring.find? fun i => i.taken && !i.sought with
    | some i => launch n i s
    | none => s

/-- SCHED_TAKE_DESCRIPTOR: the scheduler takes item `i` of the ring. -/
def schedTake (n : Ch) (i : Nat) (s : State) : State :=
  match (s.chan n).sched.ring[i]? with
  | none => s
  | some it =>
    if !chanReady n s || itemBlocked n i it s then s
    else if it.taken then launchNext n s
    else if urgentAhead n it s then s
    else if destageHeld n it s then s
    else
      let r := descReason n it.desc s
      if r ≠ 0 then rejectDesc n it r s
      else if descCmd it.desc = 0x02 then
        let bar := barredPaths n it.desc s
        if !bar.isEmpty then
          let ps := (descPaths it.desc).filter fun p => !bar.contains p
          let t := writeFail n it bar false s
          followItem n it (if ps.isEmpty || it.kind == .hostWrite then [] else [subItem it 0x02 ps (descTag it.desc)]) t
        else if (descPaths it.desc).any fun p => !s.bit (F.CTL_RROSTAT_CONV n) (descSurf it.desc p) then learnHeads n it.desc s
        else if (descPaths it.desc).any (fun p => resCode it p == 0x1E) && !s.flag (F.MOT_STAT_IN_TOL n) then s
        else choose n it s
      else choose n it s

/-! ### Finished items (R133 to R139, R168) -/

/-- Whether an item's writes are followed by a VERIFY_SIG (R138). -/
def verifies (n : Ch) (i : Item) (s : State) : Bool :=
  (i.vfail.toList.any fun v => decide (0 < v)) || i.kind == .rewrite ||
  match s.inForce (F.AFE_WRGATE_VFY_MODE n) with
  | 1 => true
  | 2 => false
  | _ => descWverify i.desc

/-- The background checks of the slots on the two adjacent tracks (R134). -/
def adjacentChecks (n : Ch) (i : Item) (p : Pa) (s : State) : State :=
  match (s.chan n).zt with
  | none => s
  | some z =>
    let x := descSlotId i.desc p
    let ts := (if 0 < x.track then [x.track - 1] else []) ++ [x.track + 1]
    s.each ts fun tr t =>
      let y : SlotId := { x with track := tr }
      if z.tracksOf y.surf ≤ tr ∨ z.spt (z.zoneOf y.surf tr) ≤ y.slot ∨ isSkipped (s.chan n) z y then t
      else placeSig n 0x03 .verify [] 3 false false 0 none [⟨y, emptyHandle, (slotChanBlock (s.chan n) y).bind fun b => ownerOf n b s⟩] t

/-- What becomes of a written sector. -/
inductive WrEnd where
  | written | retry | fail | drop
  deriving DecidableEq, Repr

/-- The end of a path of a WRITE_SIG (R134 to R136). A signature parked by a preamplifier fault is retried once, whatever other
retries its sectors have had. -/
def writeEndOf (n : Ch) (i : Item) (p : Pa) (s : State) : WrEnd :=
  let c := resCode i p
  if c = 0x10 then .written
  else if c = 0x1C ∨ c = 0x1D then .drop
  else if c = 0x16 then (if i.kind == .destage then .retry else .drop)
  else if c = 0x17 ∨ c = 0x1E then .retry
  else if c = 0x14 then (if i.paRetry[p] then .fail else .retry)
  else if i.retry[p] < max 1 (s.inForce (F.AFE_WRGATE_WR_RETRY n)) then .retry else .fail

/-- The buffer of a destaged block now, after it was read back from the Flyleaf (R488). -/
def freshHandle (i : Item) (p : Pa) (s : State) : Nat :=
  match i.lb[p] with
  | some x => match s.host.wb.find? fun w => w.k == i.cmds.headD 0 && w.covers x.1 x.2 with
    | some w => w.hdl.getD emptyHandle
    | none => (descHandle i.desc p).toNat
  | none => (descHandle i.desc p).toNat

/-- A descriptor with the buffer of one path changed. -/
def withHandle (d : Desc) (p : Pa) (h : Nat) : Desc := sealDesc ((d.toList.take 11).set (5 + p.val) (BitVec.ofNat 32 h))

/-- A WRITE_SIG has ended on all its paths. -/
def writeItemEnd (n : Ch) (i : Item) (s : State) : State :=
  let ps := descPaths i.desc
  let of_ := fun (e : WrEnd) => ps.filter fun p => writeEndOf n i p s == e
  let counted := fun (p : Pa) => !(([0x14, 0x16, 0x17, 0x1E] : List Nat).contains (resCode i p))
  let g1 := newTag n s
  let g2 := newTag n g1.2
  let vf := if verifies n i s && !(of_ .written).isEmpty then [subItem i 0x03 (of_ .written) g1.1] else []
  let again := subItem i 0x02 (of_ .retry) g2.1
  let again := { again with
    retry := Vector.ofFn fun p => if (of_ .retry).contains p && counted p then i.retry[p] + 1 else i.retry[p]
    paRetry := Vector.ofFn fun p => i.paRetry[p] || resCode i p == 0x14
    desc := (of_ .retry).foldl (fun d p => if resCode i p = 0x16 then withHandle d p (freshHandle i p s) else d) again.desc }
  let rt := if (of_ .retry).isEmpty then [] else [again]
  let t := writeFail n i (of_ .fail) false g2.2
  let lost := of_ .drop
  let t := if i.kind == .destage then writeFail n i lost true t
    else if i.kind == .rewrite then t.each lost fun p u => dropBuf (descHandle i.desc p).toNat u
    else t
  let failed := i.kind == .hostWrite && !(of_ .fail).isEmpty
  followItem n i (if failed then [] else rt ++ vf) t

/-- A sector that failed its verify twice is relocated and written and verified there (R74, R137). -/
def relocateSector (n : Ch) (i : Item) (p : Pa) (s : State) : State :=
  let x := descSlotId i.desc p
  let r := relocate n x s
  match r.1, (r.2.chan n).sched.grown.find? fun g => g.src == x with
  | true, some g =>
    let t := placeSig n 0x02 i.kind i.cmds i.cls false true 0 i.stripe [⟨g.dst, (descHandle i.desc p).toNat, i.lb[p]⟩] r.2
    moreItems i 1 (modLast n (fun j => { j with vfail := Vector.replicate 4 2 }) t)
  | _, _ => writeFail n i [p] true r.2

/-- The checks beside the sectors of a WRITE_SIG whose gates parked beyond SQUEEZE_THR (R134). -/
def squeezeChecks (n : Ch) (i : Item) (s : State) : State :=
  if descCmd i.desc = 0x02 then
    s.each ((descPaths i.desc).filter fun p => (s.pathSt n p).squeeze) fun p u =>
      (adjacentChecks n i p u).modPath n p fun q => { q with squeeze := false }
  else s

/-- A VERIFY_SIG has ended on all its paths (R134, R137). -/
def verifyItemEnd (n : Ch) (i : Item) (s : State) : State :=
  let ps := descPaths i.desc
  let good := ps.filter fun p => resCode i p == 0
  let missed := ps.filter fun p => resCode i p == 6
  let bad := ps.filter fun p => resCode i p != 0 && resCode i p != 6
  let g1 := newTag n s
  let g2 := newTag n g1.2
  let rv := if missed.isEmpty then [] else [subItem i 0x03 missed g1.1]
  if i.kind == .verify then
    let t := bad.foldl (fun (u : State) p =>
      placeSig n 0x01 .recheck [] 3 false false 0 none [⟨descSlotId i.desc p, emptyHandle, i.lb[p]⟩] u) g2.2
    followItem n i rv t
  else
    let t := g2.2.each good fun p u =>
      let w := writeWord (if 2 ≤ i.vfail[p] then 0x19 else 0x11) false i.retry[p]
      let u := u.set (F.AFE_WRSTAT_LAST n p) w
      if i.kind == .rewrite then dropBuf (descHandle i.desc p).toNat (u.inc (F.DET_LADDERSTAT_BG_RECOVERED n)) else u
    let once := bad.filter fun p => i.vfail[p] == 0
    let twice := bad.filter fun p => i.vfail[p] != 0
    let rw := if once.isEmpty then [] else [{ subItem i 0x02 once g2.1 with vfail := Vector.replicate 4 1 }]
    let t := t.each twice fun p u => relocateSector n i p u
    followItem n i (rw ++ rv) t

/-- A READ_SIG has ended on all its paths; a sector that was not captured enters the ladder without samples (R96, R114). A REREAD
that was not captured fails as a step (R106); one that was ends with its decode. -/
def readItemEnd (n : Ch) (i : Item) (s : State) : State :=
  if i.kind == .spec then removeItem n i (s.each (descPaths i.desc) fun p u => dropBuf (descHandle i.desc p).toNat u)
  else if i.kind == .ladder then
    let t := removeItem n i s
    match (s.chan n).sched.ladders.find? fun l => l.desc == i.desc && l.run.isSome with
    | some l => if (s.pathSt n l.path).wait.any fun b => b.desc == i.desc then t else ladderFail n l t
    | none => t
  else
    let withdrawn := i.cmds.isEmpty && (i.kind == .hostRead || i.kind == .verify)
    let t := if withdrawn then s else s.each ((descPaths i.desc).filter fun p => resCode i p == 6) fun p u =>
      reportGath i.lb[p] (descHandle i.desc p).toNat i.cmds (startLadder n p i.desc i.cmds i.lb[p] none u)
    followItem n i [] t

/-- A path no item enables has its front end powered down (R80). -/
def frontDown (n : Ch) (i : Item) (s : State) : State :=
  s.each ((descPaths i.desc).filter fun p => pathFree n p s) fun p t => t.modPath n p fun q => { q with fePower := false, zoneOk := false }

/-- WORK_ITEM_FINISHED: every enabled path has ended its part (R168). An item aborted by a rotor loss, or whose path ended on an
abort while it still serves something, is placed again. -/
def itemFinish (n : Ch) (tag : W16) (s : State) : State :=
  match findItem tag (s.chan n).sched.ring with
  | none => s
  | some i =>
    let ps := descPaths i.desc
    if !i.taken || ps.any fun p => !i.ended[p] then s
    else
      let served := !i.cmds.isEmpty || !(i.kind == .hostRead || i.kind == .hostWrite || i.kind == .verify)
      let t :=
        if i.again || ps.any fun p => i.abt[p] then
          if served then spliceItem n tag [againItem i] s
          else if i.kind == .spec then specDrop n i s else removeItem n i s
        else match descCmd i.desc with
          | 0x01 => readItemEnd n i s
          | 0x02 => writeItemEnd n i s
          | 0x03 => verifyItemEnd n i s
          | _ => let t := removeItem n i s; if i.kind == .learn then scanItemEnd n i t else t
      beginSteps n (launchNext n (frontDown n i (squeezeChecks n i t)))

/-! ### Descriptors from outside the dispatcher (R169, R170) -/

/-- A formatter command is placed in the work ring: its descriptor as given, serving no command. A tag in use is not taken. -/
def issueDesc (n : Ch) (ok : Nat → Bool) (d : Desc) (kind : ItemKind) (s : State) : State :=
  if !chanReady n s || !ok (descCmd d) || (findItem (descTag d) (s.chan n).sched.ring).isSome then s
  else
    let lb : Vector (Option (Nat × Nat)) 4 := Vector.ofFn fun p =>
      if descEn d p then (slotChanBlock (s.chan n) (descSlotId d p)).bind fun b => ownerOf n b s else none
    s.modSched n fun c => { c with ring := c.ring ++ [Item.new d kind [] lb 3] }

def imageCmd (s : State) (c : Nat) : Bool :=
  decide (0x20 ≤ c) && decide (c ≤ 0x3F) && match s.boot.image with
    | some im => im.imgCmds.any fun b => b.toNat == c
    | none => false

/-- SPECULATIVE_SEEK: an idle channel with loaded heads moves towards a target (R371). -/
def specSeek (n : Ch) (target : Int) (s : State) : State :=
  if !chanReady n s || !s.flag (F.SCHED_SPECCFG_SSEEK_EN n) || !(s.chan n).sched.ring.isEmpty || !s.flag (F.CTL_STAT_LOADED n) then s
  else setTarget n target (seekBegins n s)

/-! ### Events of the write path -/

/-- The commands of an item whose gate has opened have begun to reach the media (R334). -/
def markMedia (n : Ch) (p : Pa) (s : State) : State :=
  match (s.stit n p).cur with
  | none => s
  | some d => match findItem (descTag d) (s.chan n).sched.ring with
    | some i => s.each i.cmds fun k t => t.modCmd k fun c => { c with begun := true }
    | none => s

def gateOpen (n : Ch) (p : Pa) (s : State) : Bool :=
  match (s.pathSt n p).arm with | some a => a.act == 2 && a.isOpen | none => false

/-- PART_FIRST_BIT: at the first preamble the shadows of the path take effect (R583). On a failed channel nothing begins (R13). -/
def partBegins (n : Ch) (p : Pa) (inTime : Bool) (s : State) : State :=
  if chanFailed n s then s else
  let first := match (s.pathSt n p).arm with | some a => !a.begun && a.left != 0 && !a.isOpen && a.act != 4 | none => false
  let t := if first then s.each (rwsFields n p) takeShadow else s
  let t := partFirst n p inTime t
  if gateOpen n p t && !gateOpen n p s then markMedia n p t else t

/-- Samples packed as a buffer of the sample store is laid out, 7 bits each, in order of time and reader, from the least significant
bit on (DESIGN CHOICE, log entry 70: R94 gives the size alone). -/
def packSamples (run : List (Vector Int 3)) : List Nat :=
  bytesLe 102144 ((run.flatMap fun x => x.toList).foldr (fun v acc => toBits 7 v + 128 * acc) 0)

/-- The raw samples of a CAPTURE reach their buffer (R94, R170). -/
def rawDelivered (n : Ch) (p : Pa) (o : Capture) (s : State) : State :=
  match (s.pathSt n p).arm, (s.stit n p).cur with
  | some a, some d =>
    if a.act = 5 ∧ a.isOpen ∧ a.left = 0 then
      let r := storeSamples (liveCfg n p d none s) (markThr (s.get (F.DET_SYNCCFG_RESUME_THR n))) a.act d (addPart (s.pathSt n p).cap false o)
      { s with dram := s.dram.setRun (handleUnit (descHandle d p).toNat s * 4096) (packSamples r.1.run) }
    else s
  | _, _ => s

/-- The channel bits of the sector that path p writes, built from its buffer (R52 to R55, R126). The empty handle is a zero sector. -/
def sectorStream (n : Ch) (p : Pa) (d : Desc) (slot : Nat) (s : State) : List Bool :=
  let h := (descHandle d p).toNat
  let u := handleUnit h s
  let b := if h == emptyHandle then ⟨[], zeroMeta ((findItem (descTag d) (s.chan n).sched.ring).bind fun i => i.lb[p]) s⟩ else getUnit u s
  let bytes := padTo 4096 (b.data.map BitVec.toNat)
  let crc := if h == emptyHandle then crc32c bytes else ((assocGet u s.ream.sides).map fun x => x.crc).getD 0
  sectorBits (descTrack d p) slot crc bytes (b.md.map BitVec.toNat)

/-- What the write-data pair drives in the part that ends, up to the last bit: a sector part, or of a FORMAT_TRACK the resync field and,
where its descriptor asks for it, the pad pattern over the window (R50, R57, R119, R125, R170). -/
def driven (n : Ch) (p : Pa) (last : Nat) (a : Arm) (d : Desc) (s : State) : List Bool :=
  let rpm := s.get (F.SCHED_FMT_FMT_RPM n)
  if descCmd d = 0x11 then
    resyncField ++ (if d[10].getLsbD 0 then pattern1100 (usableBits rpm (descZone d)) else [])
  else
    let stream := sectorStream n p d a.slot s
    let stop := if a.cause.isSome then last + 1 else if slotSplit rpm (descZone d) a.slot && a.pos = 0 then slotCut rpm (descZone d) a.slot else 38912
    (stream.take stop).drop a.pos

/-- The write-data pair of a part that ends: its bits, and how much earlier each transition was written (R119, R123). -/
def writeData (n : Ch) (p : Pa) (last : Nat) (s : State) : State :=
  match (s.pathSt n p).arm, (s.stit n p).cur with
  | some a, some d =>
    if a.act = 2 ∧ a.isOpen then
      let bs := driven n p last a d s
      let sh := precomp (s.inForce (F.AFE_WRCFG_PC1 n p)) (s.inForce (F.AFE_WRCFG_PC2 n p)) false false false bs
      s.modPath n p fun q => { q with wdata := bs, wshift := sh }
    else s
  | _, _ => s

/-- PART_LAST_BIT. -/
def partEnds (n : Ch) (p : Pa) (last : Nat) (o : Capture) (s : State) : State :=
  powerTrap n p (partLast n p last o (writeData n p last (rawDelivered n p o s)))

/-- A buffer whose data no longer matches is read back from the Flyleaf into a new one (R488). -/
def readBack (h : Nat) (s : State) : State :=
  match s.host.wb.find? fun w => w.hdl == some h && w.acc with
  | none => s
  | some w => match (liveEntries [w.seq] s).head? with
    | none => s
    | some e => match tryAlloc 0xF 0 1 s with
      | some (g :: _, t) =>
        let sw := fun (x : WbVer) => if x == w then { x with hdl := some g } else x
        dropBuf h ((putUnit (handleUnit g t) e.blk t).modHost fun y => { y with wb := y.wb.map sw })
      | _ => s.modHost fun y => { y with wb := y.wb.map fun x => if x == w then { x with lost := true } else x }

/-- The sector that a fetch brings into the write FIFO. -/
def fifoTake (n : Ch) (p : Pa) (v : FifoSec) (s : State) : State :=
  (s.modPath n p fun x => { x with wfFetch := false, fifo := x.fifo ++ [v] }).event n p 4

/-- WRITE_FIFO_READY (R126, R488). The empty handle of a zero sector always matches (R613). A sector that differs, or that has a memory
error, ends at its first bit by the order of R139. -/
def fifoReady (n : Ch) (p : Pa) (memErr : Bool) (s : State) : State :=
  let q := s.pathSt n p
  if memErr then
    if gateOpen n p s then parkGate n p 0x15 s
    else if q.wfFetch then fifoTake n p .broken s
    else s
  else match q.wfFetch, (s.stit n p).cur with
    | true, some d =>
      let h := (descHandle d p).toNat
      let u := handleUnit h s
      let good := h == emptyHandle || (unitMatch u s && !unitPoison u s)
      let t := fifoTake n p (if good then .good else .differs) s
      if good then t
      else match findItem (descTag d) (s.chan n).sched.ring with
        | none => t
        | some i =>
          if i.kind == .destage then readBack h t
          else if i.kind == .hostWrite then t.each i.cmds fun k v => failCmd k stInternal v
          else t
    | _, _ => s

/-- PREAMP_FAULT_ASSERT (R130, R136): the gates park, and the fault status is read over the control port (R121). -/
def preampFault (n : Ch) (head : Nat) (stat : W16) (s : State) : State :=
  let writing := allPaths.filter fun p => gateOpen n p s
  let t := parkAll n 0x14 (s.modChan n fun c => { c with pflt := true, frames := [⟨true, Config.paFaultAddr, stat⟩] })
  let t := if t.flag (F.AFE_WRFLT_PFLT n) then t
    else ((t.set (F.AFE_WRFLT_PFLT n) 1).set (F.AFE_WRFLT_HEAD n) head).set (F.AFE_WRFLT_PA_STAT n) stat.toNat
  let t := t.each writing fun p u => u.modStit n p fun x =>
    let y := { x with wrCode := 0x14 }
    if y.enabled 5 then { y with tpend := setB y.tpend 5 } else y
  let t := t.modSched n fun c => { c with paFaults := c.paFaults ++ [head] }
  let t := if 2 ≤ (t.chan n).sched.paFaults.count head then t.setBit (F.AFE_WRINH_INH n) head true else t
  t.raise (chSrc n 5) head 0 stat.toNat

/-- PREAMP_FRAME_DONE: the requested frames have completed (R121). -/
def preampDone (n : Ch) (p : Pa) (s : State) : State :=
  if (s.pathSt n p).pa.isEmpty then s else (s.modPath n p fun q => { q with pa := [] }).event n p 3

/-- ZONE_READY (R80, R150). -/
def zoneReady (n : Ch) (p : Pa) (s : State) : State :=
  if (s.pathSt n p).fePower && (s.pathSt n p).zone.isSome then (s.modPath n p fun q => { q with zoneOk := true }).event n p 2 else s

/-! ### The store window and CTL (R178, R181) -/

/-- Words 2k and 2k + 1 of the control store are written; the store is then no longer as the image author signed it. -/
def putStore (n : Ch) (k v : Nat) (s : State) : State :=
  let m := ((s.store[n]).set (2 * k) (v % 16777216)).set (2 * k + 1) (v / 16777216 % 16777216)
  { s with store := s.store.set n m }.setFlag (F.STITCH_VERSION_AUTH n) false

/-- STITCH_CTL_HALT_WRITE. -/
def haltWrite (path : RegPath) (n : Ch) (mask : BitVec 4) (s : State) : State :=
  lockedWrite path (chBase n + 0x100008) (s.flag (F.PAGE_ENABLE_EN n)) (fun t => t.set (F.STITCH_CTL_HALT n) mask.toNat) s

/-! ### Commands -/

/-- SCHED_TAKE_DESCRIPTOR (R65). -/
def execSchedTakeDescriptor (n : Ch) (i : Nat) (s : State) : Host.Outcome State Fault Refusal := .next (schedTake n i s)
/-- SPECULATIVE_SEEK (R371). -/
def execSpeculativeSeek (n : Ch) (target : Int) (s : State) : Host.Outcome State Fault Refusal := .next (specSeek n target s)
/-- READ_SIG (R169). -/
def execReadSig (n : Ch) (d : Desc) (s : State) : Host.Outcome State Fault Refusal := .next (issueDesc n (· == 0x01) d .image s)
/-- WRITE_SIG (R124). -/
def execWriteSig (n : Ch) (d : Desc) (s : State) : Host.Outcome State Fault Refusal := .next (issueDesc n (· == 0x02) d .image s)
/-- VERIFY_SIG (R137). -/
def execVerifySig (n : Ch) (d : Desc) (s : State) : Host.Outcome State Fault Refusal := .next (issueDesc n (· == 0x03) d .image s)
/-- SCAN_SERVO (R170). -/
def execScanServo (n : Ch) (d : Desc) (s : State) : Host.Outcome State Fault Refusal := .next (issueDesc n (· == 0x10) d .scan s)
/-- FORMAT_TRACK (R170). -/
def execFormatTrack (n : Ch) (d : Desc) (s : State) : Host.Outcome State Fault Refusal := .next (issueDesc n (· == 0x11) d .format s)
/-- CAPTURE (R170): none is issued while use 8 has no pool (R475). -/
def execCapture (n : Ch) (d : Desc) (s : State) : Host.Outcome State Fault Refusal :=
  .next (issueDesc n (fun c => c == 0x13 && !s.flag (F.REAM_USE_NONE 8)) d .rawCap s)
/-- IMAGE_DEFINED_COMMAND (R169). -/
def execImageDefinedCommand (n : Ch) (d : Desc) (s : State) : Host.Outcome State Fault Refusal := .next (issueDesc n (imageCmd s) d .image s)
/-- PART_FIRST_BIT (R154). -/
def execPartFirstBit (n : Ch) (p : Pa) (inTime : Bool) (s : State) : Host.Outcome State Fault Refusal := .next (partBegins n p inTime s)
/-- WRITE_FIFO_READY (R126). -/
def execWriteFifoReady (n : Ch) (p : Pa) (memErr : Bool) (s : State) : Host.Outcome State Fault Refusal := .next (fifoReady n p memErr s)
/-- PREAMP_FAULT_ASSERT (R136). -/
def execPreampFaultAssert (n : Ch) (head : Nat) (paStat : W16) (s : State) : Host.Outcome State Fault Refusal :=
  .next (preampFault n head paStat s)
/-- PREAMP_FAULT_RELEASE (R130). -/
def execPreampFaultRelease (n : Ch) (s : State) : Host.Outcome State Fault Refusal := .next (s.modChan n fun c => { c with pflt := false })
/-- PREAMP_FRAME_DONE (R121). -/
def execPreampFrameDone (n : Ch) (p : Pa) (s : State) : Host.Outcome State Fault Refusal := .next (preampDone n p s)
/-- ZONE_READY (R150). -/
def execZoneReady (n : Ch) (p : Pa) (s : State) : Host.Outcome State Fault Refusal := .next (zoneReady n p s)
/-- STITCH_CTL_HALT_WRITE (R181). -/
def execStitchCtlHaltWrite (path : RegPath) (n : Ch) (mask : BitVec 4) (s : State) : Host.Outcome State Fault Refusal :=
  .next (haltWrite path n mask s)

end Sys2Proof.Machine
end

