-- ==== Sys2Proof/Machine/Setup.lean ====
section
/-! DEFINITION. Stores into the registers of the set-up space (R8, R36, R513, R514, R516, R577, R583): the conditions that hold a
field locked for every writer, what a stored value becomes, and the profile writes of the Cyhal image. -/

namespace Sys2Proof.Machine

/-! ### Reset blocks and reaction bits (R513, R514) -/

/-- The block that BLK_RST of a source resets: 0 to 7 a channel, then KET, FLY, GATH, CACHE, REAM, DMA, MEMPROT from 8 on. -/
def blkRstOf (src : Nat) : Option Nat :=
  if src < 320 then (if src % 40 < 37 then some (src / 40) else none)
  else
    let k := src - 320
    if k < 5 then none
    else if k < 12 then some 8
    else if k < 18 then some 9
    else if k < 23 then some 10
    else if k < 27 then some 11
    else if k < 30 then some 12
    else if k = 30 then some 13
    else if k < 33 then some 14
    else none

/-- What a write of REACT leaves in the field of a source: BLK_RST only where a block is named, NMI and ERR_N set from class
Device-fatal on, and neither BLK_RST nor CHIP_RST for a Sealed one. -/
def reactValue (src v : Nat) : Nat :=
  let cls := classReset src
  let v := if (blkRstOf src).isNone || cls == 4 then withBit v 3 false else v
  let v := if cls == 4 then withBit v 4 false else v
  if 3 ≤ cls then withBit (withBit v 1 true) 5 true else v

/-- What a write of mask word `i` leaves: the bits of Sealed sources read 0 (R516). -/
def maskValue (i v : Nat) : Nat := (List.range 32).foldl (fun w b => if classReset (32 * i + b) == 4 then withBit w b false else w) v

/-! ### Fields held locked by a condition of their own (R577) -/

/-- Whether any block whose enable locks the use map is enabled (R474). -/
def useHeld (s : State) : Bool := s.flag F.FLY_ENABLE_EN || allChans.any fun n => s.flag (F.PAGE_ENABLE_EN n)

/-- A condition named in the field's own description holds it locked, for every writer. -/
def fieldHeld (f : Fld) (s : State) : Bool :=
  if 0x500000 ≤ f.addr ∧ f.addr < 0x500200 ∧ f.addr % 0x20 = 0 then s.flag (F.REAM_POOLCFG_EN ((f.addr - 0x500000) / 0x20))
  else if 0x500420 ≤ f.addr ∧ f.addr < 0x500444 then useHeld s
  else if 0x600000 ≤ f.addr ∧ f.addr < 0x600800 ∧ f.addr % 0x100 < 8 then s.flag (F.DMA_CTL_EN ((f.addr - 0x600000) / 0x100))
  else if 0x700000 ≤ f.addr ∧ f.addr < 0x700040 ∧ f.addr % 0x10 < 8 then s.get (F.GATH_LSTAT_STATE ((f.addr - 0x700000) / 0x10)) != 0
  else if f == F.FLY_CFG_SIZE_GIB then s.flag F.FLY_ENABLE_EN
  else if 0x2000000 ≤ f.addr ∧ f.addr % 0x400000 = 0x100008 then s.flag (F.PAGE_ENABLE_EN ((f.addr - 0x2000000) / 0x400000))
  else false

/-! ### Stores -/

/-- The bits of a write that fall on a field. -/
def fieldBits (f : Fld) (v : Nat) : Nat := v / 2 ^ f.lo % 2 ^ f.width

/-- Store the RW, RWL and RWS fields of a register that nothing holds locked; `open_` when the writer may write RWL and RWS
fields (R577). A write of which some field was discarded is counted once. -/
def storeFields (open_ : Bool) (fs : List Fld) (v : Nat) (s : State) : State :=
  let locking := fun (f : Fld) => f.acc == .rwl || f.acc == .rws
  let stored := fun (f : Fld) => (f.acc == .rw || (locking f && open_)) && !fieldHeld f s
  let t := (fs.filter stored).foldl (fun u f => u.set f (fieldBits f v)) s
  let lost := fs.any fun f => locking f && (!open_ || fieldHeld f s)
  t.when lost fun u => (u.inc F.GLB_ACCERR_LOCKED_CNT).when (u.get F.GLB_ACCERR_ADDR_ADDR == 0) fun w =>
    w.set F.GLB_ACCERR_ADDR_ADDR ((fs.head?.map fun f => f.addr).getD 0)

/-- What follows the store of a register's fields: reaction and mask bits that cannot be set, a pool enabled, the way locks, a
change of direction, and the thresholds by which status bits stand. -/
def storeReg (open_ : Bool) (a v : Nat) (s : State) : State :=
  match regAt a with
  | none => s
  | some fs =>
    if 0x100140 ≤ a ∧ a < 0x100170 then storeFields open_ fs (maskValue ((a - 0x100140) / 4) v) s
    else if 0x100400 ≤ a ∧ a < 0x100A00 then storeFields open_ fs (reactValue ((a - 0x100400) / 4) (v % 64)) s
    else if 0x500000 ≤ a ∧ a < 0x500200 ∧ a % 0x20 = 0 then
      let i : PoolId := Fin.ofNat 16 ((a - 0x500000) / 0x20)
      let t := storeFields open_ fs (v % 2 ^ 31) s
      if open_ && v.testBit 31 then poolOn i t else t
    else if 0x500000 ≤ a ∧ a < 0x500200 ∧ a % 0x20 = 8 then poolSync (Fin.ofNat 16 ((a - 0x500000) / 0x20)) (storeFields open_ fs v s)
    else if 0x600000 ≤ a ∧ a < 0x600800 ∧ a % 0x100 = 0 then storeFields open_ fs (v / 32 * 32) s
    else if a = 0x400008 then waylockWrite (BitVec.ofNat 16 v) s
    else if a = 0x400040 then tagSelect (BitVec.ofNat 14 v) (BitVec.ofNat 4 (v / 65536)) s
    else if 0x800000 ≤ a ∧ a < 0x800024 then flySync (storeFields open_ fs v s)
    else if 0x2000000 ≤ a ∧ a % 0x400000 = 0x280034 then
      let n : Ch := Fin.ofNat 8 ((a - 0x2000000) / 0x400000)
      let t := storeFields open_ fs (v / 2 * 2 + s.get (F.MOT_RUNCFG_DIR n)) s
      if open_ then dirWrite n (v % 2 == 1) t else t
    else storeFields open_ fs v s

/-- The channel of an address in a channel window. -/
def chanOf (a : Nat) : Ch := Fin.ofNat 8 ((a - 0x2000000) / 0x400000)

/-! ### Profiles (R36) -/

/-- Whether an address takes a profile's write as a command, and not as a setting. -/
def commandReg (a : Nat) : Bool :=
  a == 0x800000 || a == 0x900000 || (decide (0x2000000 ≤ a) && decide (0x3F0000 ≤ a % 0x400000))

/-- Clear the W1C bits that a write names. -/
def clearW1c (a v : Nat) (s : State) : State :=
  match regAt a with
  | none => s
  | some fs => s.each (fs.filter fun f => f.acc == .w1c) fun f t => t.set f (t.get f - (t.get f &&& fieldBits f v))

/-- The counts and records that a write to a register clears by a CLR bit, or by the VALID bit of a record. -/
def clearBits (a v : Nat) (s : State) : State :=
  let all := fun (lo hi : Nat) => s.when (v.testBit 31) fun t => t.resetRegs lo hi
  if a = 0x50 then all 0x50 0x58
  else if a = 0x100004 then all 0x100004 0x100008
  else if a = 0x300008 then all 0x300008 0x30000C
  else if a = 0x30001C then s.when (v.testBit 31) fun t => t.set F.NVME_RLOCK_PEAK (t.get F.NVME_RLOCK_USED)
  else if a = 0x500404 then all 0x500404 0x50040C
  else if a = 0xA00000 then all 0xA00100 0xA00140
  else if a < 0x2000000 then s
  else
    let n := chanOf a
    let o := a % 0x400000
    if 0x80000 ≤ o ∧ o < 0x84000 ∧ o % 0x1000 = 0x10 then
      let p := (o - 0x80000) / 0x1000
      s.when (v.testBit 15) fun t => (t.set (F.DET_SSTAT_NOT_CAPT n p) 0).resetRegs (F.DET_ERRCNT_FP_FAIL n p).addr ((F.DET_ERRCNT_FP_FAIL n p).addr + 4)
    else if o = 0x180010 then s.when (v.testBit 31) fun t => t.set (F.CTL_SWAP_COLLIDE_HELD_CNT n) 0
    else if 0x180100 ≤ o ∧ o < 0x1801C0 ∧ o % 0x20 = 0 then all (a + 4) (a + 12)
    else if o = 0x300008 then all a (a + 4)
    else s

/-- What a write stores and clears. -/
def plainWrite (open_ : Bool) (a v : Nat) (s : State) : State := clearBits a v (clearW1c a v (storeReg open_ a v s))

/-- The profile of the image is applied to the addresses from `lo` up to, but without, `hi`, by MGMT: each of its writes in order, with
what it does beyond the stored fields. -/
def applyProfile (act : Nat → Nat → State → State) (lo hi : Nat) (s : State) : State :=
  match s.boot.image with
  | none => s
  | some g => s.each (g.profile.filter fun w => decide (lo ≤ w.addr) && decide (w.addr < hi) && !commandReg w.addr) fun w t =>
    act w.addr w.val (plainWrite true w.addr w.val t)

/-- A block whose registers do nothing beyond what a write stores and clears. -/
def noAct (_ _ : Nat) (s : State) : State := s

/-- The words of coefficient banks, in both engines, and of scratchpads that the profile gives a channel, and its calibration records
(R200, R226, R228, R230). -/
def applyBanks (n : Ch) (s : State) : State :=
  match s.boot.image with
  | none => s
  | some g =>
    let t := { s with banks := s.banks.set n ((g.banks.filter fun (w : BankWord) => w.ch == n).foldl
      (fun (m : NatMap) (w : BankWord) => [0, 12].foldl (fun (y : NatMap) e => y.set (256 * (e + 2 * w.loop.val + w.bank.toNat) + w.idx % 256) w.val.toNat) m)
      s.banks[n]) }
    let t := { t with pads := t.pads.set n ((g.scratch.filter fun (w : ScratchWord) => w.ch == n).foldl
      (fun (m : NatMap) (w : ScratchWord) => m.set (8192 * w.bank.toNat + w.idx % 8192) w.val.toNat) t.pads[n]) }
    let cal := (g.calib.getD n.val []).take 20
    let put := fun (h : Nat) (c : Calib) (m : NatMap) =>
      (m.set (8192 + 512 + 2 * h) (c.gain.toNat + toBits 32 c.offset * 4294967296)).set (8192 + 513 + 2 * h)
        (c.kfa % 4294967296 + c.learnTrack % 16777216 * 4294967296)
    { t with pads := t.pads.set n ((List.range cal.length).zip cal |>.foldl (fun (m : NatMap) (x : Nat × Calib) => put x.1 x.2 m) t.pads[n]) }

end Sys2Proof.Machine
end

