-- ==== Sys2Proof/Machine/Sram.lean ====
section
/-! DEFINITION. The on-chip SRAM macros (R500, R502, R503, R505): their numbers, stored flips, correctable errors, the fetch from the
control store, and STEP (R180, R181). -/

namespace Sys2Proof.Machine

def State.modMem (s : State) (f : MemProt → MemProt) : State := { s with mem := f s.mem }

/-! ### Macros (R500, R546) -/

/-- Whether a macro number names a macro. -/
def isMacro (m : Nat) : Bool := if m < 0x100 then decide (m % 0x20 ≤ 0x0C) else decide (m ≤ 0x118)

/-- The power domain that holds a macro (R546). -/
def macroDomain (m : Nat) : Nat :=
  if m < 0x100 then (if m % 0x20 ≤ 8 then 4 * (m / 0x20) + 1 else 4 * (m / 0x20) + 2)
  else if m ≤ 0x101 then 38
  else if m ≤ 0x111 then 39
  else if m ≤ 0x113 then 34
  else if m = 0x114 then 47
  else if m = 0x115 then 43
  else if m = 0x116 then 40
  else if m = 0x117 then 41
  else 35

/-- Remap entries of a macro in use. -/
def remapUsed (m : Nat) (s : State) : Nat := (s.mem.remap.filter fun x => x.1 == m).length

/-- MEMPROT.REMAP shows the macro that SEL names. -/
def remapSync (s : State) : State :=
  let m := s.get F.MEMPROT_REMAP_SEL
  (s.set F.MEMPROT_REMAP_USED (remapUsed m s)).setFlag F.MEMPROT_REMAP_BIST_FAIL (s.mem.bist.contains m)

/-! ### The flip (R505) -/

/-- The data-bit and check-bit mask of the flip. Of the third mask register bits [7:0] flip the check bits; bits [31:8], of which the spec
says nothing, are kept and read back and flip nothing (DESIGN CHOICE, log entry 76). -/
def flipMask (s : State) : Nat × Nat :=
  (s.get (F.MEMPROT_FLIPMASK_MASK 0) + s.get (F.MEMPROT_FLIPMASK_MASK 1) * 4294967296, s.get (F.MEMPROT_FLIPMASK_MASK 2) % 256)

/-- A word of a macro is written: an armed flip of that macro fires; any other write stores a good word. -/
def memWrite (m word : Nat) (s : State) : State :=
  let t := s.modMem fun x => { x with flips := x.flips.filter fun f => !(f.1 == m && f.2.1 == word) }
  if s.flag F.MEMPROT_FLIPCTL_ARM && s.get F.MEMPROT_FLIPCTL_MACRO == m then
    let k := flipMask s
    ((t.modMem fun x => { x with flips := x.flips ++ [(m, word, k.1, k.2)] }).setFlag F.MEMPROT_FLIPCTL_ARM false).setFlag F.MEMPROT_FLIPCTL_FIRED true
  else t

/-! ### Errors (R502, R503) -/

/-- A correctable error: counted, logged, and moved when the word has erred before. -/
def sramCe (m word : Nat) (syn : Byte) (s : State) : State :=
  let t := s.inc F.MEMPROT_CE_COUNT
  let t := match (List.range 8).find? fun e => !t.flag (F.MEMPROT_LOG_VALID e) with
    | some e =>
      (((t.set (F.MEMPROT_LOG_MACRO e) m).set (F.MEMPROT_LOG_SYNDROME e) syn.toNat).setFlag (F.MEMPROT_LOG_VALID e) true).set (F.MEMPROT_LOGA_WORD e) word
    | none => t.setFlag F.MEMPROT_CE_LOG_OVF true
  if t.mem.remap.contains (m, word) || t.mem.moves.contains (m, word) then t
  else if t.mem.seen.contains (m, word) then
    if remapUsed m t < 4 then t.modMem fun x => { x with moves := x.moves ++ [(m, word)] }
    else t.raise (hostSrc 32) m
  else t.modMem fun x => { x with seen := x.seen ++ [(m, word)] }

/-- The fetch of an unreadable store word: halt 0x82 when it is a trap vector word, else STORE_ERR with its address (R159, R174, R180). -/
def badFetch (n : Ch) (p : Pa) (s : State) : State :=
  let a := (s.stit n p).pc
  if a.toNat < 16 then stitchHalt n p 0x82 s else errTrap n p 0 (a.zeroExtend 16) s

/-- The Stitchers that fetch from an unreadable store word. -/
def storeUe (n : Ch) (word : Nat) (s : State) : State :=
  s.each allPaths fun p t => if wordRuns n p t && (t.stit n p).pc.toNat / 2 == word then badFetch n p t else t

/-- How many bits of a stored word are flipped. -/
def flipCount (m word : Nat) (s : State) : Nat :=
  match s.mem.flips.find? fun f => f.1 == m && f.2.1 == word with
  | none => 0
  | some f => ((List.range 64).filter fun i => f.2.2.1.testBit i).length + ((List.range 8).filter fun i => f.2.2.2.testBit i).length

/-- An uncorrectable error is counted and reported (R503). -/
def ueNote (m : Nat) (s : State) : State := ((s.inc F.MEMPROT_UE_COUNT).set F.MEMPROT_UE_LAST_MACRO m).raise (hostSrc 31) m

/-! ### STEP (R161, R180, R181) -/

/-- A halted Stitcher fetches and executes the word at its address: one flipped bit is corrected, more are an uncorrectable error. -/
def stepFetch (n : Ch) (p : Pa) (s : State) : State :=
  let m := 0x20 * n.val
  let w := (s.stit n p).pc.toNat / 2
  let run := fun (t : State) => stitchCycle n p (wordMicro n p (decodeMicro (storeWord n (s.stit n p).pc t))) t
  match flipCount m w s with
  | 0 => run s
  | 1 => run (sramCe m w (s.fresh.truncate 8) s.used)
  | _ => badFetch n p (ueNote m s)

/-- The traps that can be taken at a word boundary: at most one of each level. -/
def takeTraps (n : Ch) (p : Pa) : Nat → State → State
  | 0, s => s
  | f + 1, s => match (s.stit n p).nextTrap with
    | some v => takeTraps n p f (takeTrap n p v s)
    | none => s

/-- STEP of the Stitchers of a mask: each that CTL.HALT holds takes the traps due at its word boundary, then executes one word. One that
waits has no word to execute until its event or trap comes. -/
def stepMask (n : Ch) (mask : Nat) (s : State) : State :=
  s.each (allPaths.filter fun p => mask.testBit p.val) fun p t =>
    if heldByHalt n p t && (t.stit n p).mode != .halted then
      let u := takeTraps n p 2 t
      if (u.stit n p).executing then stepFetch n p u else u
    else t

/-- STITCH_CTL_STEP (R181). -/
def execStitchCtlStep (n : Ch) (mask : BitVec 4) (s : State) : Host.Outcome State Fault Refusal :=
  .next (arbWrite (chBase n + 0x100008) (stepMask n mask.toNat) s)

end Sys2Proof.Machine
end

