-- ==== Sys2Proof/Machine/ChanCtl.lean ====
section
/-! DEFINITION. Channel enable, disable, fence and reset (R13, R36, R37, R67, R76, R135, R377, R558, R569), and what the dispatcher
takes back from a channel. -/

namespace Sys2Proof.Machine

/-! ### Work taken back (R13, R135, R377, R430, R431) -/

/-- The buffer in which a command has a block. -/
def blockHandle (c : Cmd) (a : Nat) (s : State) : Nat :=
  match c.data.find? fun d => d.1 == a with
  | some (_, some u) => (c.handles.find? fun h => handleUnit h s == u).getD emptyHandle
  | _ => emptyHandle

/-- A sector of a gathering namespace is solved for by GATH. -/
def solveSector (x : Sector) (ks : List Nat) (s : State) : State :=
  match x.lb with
  | some b => { s with gath := { s.gath with recon := s.gath.recon ++ [⟨b.1, b.2, x.hdl, ks, false⟩] } }
  | none => s

def isGathered (x : Sector) (s : State) : Bool :=
  match x.lb with
  | some b => match s.ns b.1 with | some v => decide (8 ≤ v.place) | none => false
  | none => false

/-- A read taken back (R377, R430): sectors of gathering namespaces are solved for, the others wait for the next enable, or
complete with Channel Unavailable when the channel is failed. It counted as one item. -/
def parkRead (n : Ch) (cmd : Nat) (kind : ItemKind) (ks : List Nat) (cls : Nat) (xs : List Sector) (s : State) : State :=
  let solve := xs.filter fun x => isGathered x s
  let rest := xs.filter fun x => !isGathered x s
  if !rest.isEmpty && chanFailed n s then s.each ks fun k t => failCmd k stChannel t
  else
    let t := s.each solve fun x u => solveSector x ks u
    let t := if rest.isEmpty then t else t.modHost fun h => { h with parked := h.parked ++ [⟨n, cmd, kind, ks, cls, false, rest, none⟩] }
    let c := solve.length + (if rest.isEmpty then 0 else 1)
    if c = 0 then t.each ks fun k u => endItem k u else addItems ks (c - 1) t

/-- A strip write of a stripe update that a channel will not make (R431). -/
def staleItem (n : Ch) (x : Nat × Nat) (ks : List Nat) (s : State) : State :=
  let l := stripeLayout x
  let t := match stripOn l x.2 n s with | some i => markStale l x.2 i s | none => s
  updateItem l x.2 (ks.headD 0) t

/-- A work item taken back from the ring of a channel. -/
def takeBackItem (n : Ch) (i : Item) (s : State) : State :=
  match i.stripe with
  | some x => staleItem n x i.cmds s
  | none =>
    match i.kind with
    | .hostRead | .verify => if i.cmds.isEmpty then s else parkRead n (descCmd i.desc) i.kind i.cmds i.cls (itemSectors n i (descPaths i.desc) s) s
    | .hostWrite => s.each i.cmds fun k t => failCmd k (sct 2 0x80) t
    | .destage => s.modHost fun h => { h with
        parked := h.parked ++ [⟨n, 0x02, .destage, i.cmds, i.cls, descWverify i.desc, itemSectors n i (descPaths i.desc) s, none⟩] }
    | .spec => specDrop n i s
    | .rewrite | .learn => s.each (descPaths i.desc) fun p t => dropBuf (descHandle i.desc p).toNat t
    | .recheck | .ladder | .scan | .format | .rawCap | .image => s

/-- The sector of a ladder that a reset or a disable cancels is taken back (R13, R110) with the result CANCELLED (R113). A report to
GATH that ran beside it goes on alone. -/
def takeBackLadder (n : Ch) (l : Ladder) (s : State) : State :=
  let t := noteResult n l.path l.tag 0x08 (dropLadder n l s)
  match l.lblk with
  | none => t
  | some x =>
    if t.gath.recon.any fun r => r.ladder && r.nsid == x.1 && r.lba == x.2 then
      { t with gath := { t.gath with recon := t.gath.recon.map fun r => if r.nsid == x.1 && r.lba == x.2 then { r with ladder := false } else r } }
    else t.each l.cmds fun k u =>
      match u.cmd k with
      | none => u
      | some c =>
        let blk := slotChanBlock (u.chan n) l.pos
        parkRead n (if c.e.opc == 0x0C#8 then 0x03 else 0x01) (if c.e.opc == 0x0C#8 then .verify else .hostRead) [k] (cmdClass c u)
          [{ blk := blk.getD 0, hdl := blockHandle c x.2 u, lb := some x, fix := if blk.isNone then some l.pos else none }] u

/-- Work that waits for a channel which the layout or the namespace will not use now. -/
def takeBackParked (n : Ch) (s : State) : State :=
  let mine := s.host.parked.filter fun p => p.ch == n
  let t := s.modHost fun h => { h with parked := h.parked.filter fun p => p.ch != n }
  t.each mine fun p u =>
    match p.stripe with
    | some x => staleItem n x p.cmds u
    | none => match p.kind with
      | .hostRead | .verify => parkRead n p.cmd p.kind p.cmds p.cls p.sects u
      | .hostWrite => u.each p.cmds fun k w => failCmd k (sct 2 0x80) w
      | .destage | .spec | .rewrite | .recheck | .ladder | .scan | .learn | .format | .rawCap | .image =>
        u.modHost fun h => { h with parked := h.parked ++ [p] }

/-- The fabric port of a channel is fenced (R13): every work item and ladder is taken back, nothing stays armed, fetched, captured or
waiting for its decode, no write back waits for a buffer, and Ream frees the buffers the channel owns. -/
def fenceChan (n : Ch) (s : State) : State :=
  let ring := (s.chan n).sched.ring
  let t := s.modSched n fun c => { c with ring := [] }
  let t := t.each (t.chan n).sched.ladders fun l u => takeBackLadder n l u
  let t := t.each ring fun i u => takeBackItem n i u
  let t := takeBackParked n t
  let t := t.each allPaths fun p u =>
    (clearStore n p u).modStit n p fun x => { x with handed := [], prefetch := none, wantPre := false }
  reclaim n (t.modSched n fun c => { c with rewrites := [] })

/-- After a disable, waiting items and ladders are taken back, and the fence follows when no started item is left (R13). -/
def drainChan (n : Ch) (s : State) : State :=
  let t := s.each (s.chan n).sched.ladders fun l u => takeBackLadder n l u
  let wait := (t.chan n).sched.ring.filter fun i => !i.taken
  let t := t.modSched n fun c => { c with ring := c.ring.filter fun i => i.taken }
  let t := t.each wait fun i u => takeBackItem n i u
  if (t.chan n).sched.ring.isEmpty then fenceChan n t else t

/-- WORK_ITEM_FINISHED (R168, R13). -/
def itemFinished (n : Ch) (tag : W16) (s : State) : State :=
  let t := itemFinish n tag s
  if s.flag (F.PAGE_ENABLE_EN n) then t else drainChan n t

/-! ### Enable (R36, R37, R569) -/

/-- What a write of a register of a channel's blocks does beyond what it stores and clears; `open_` when the writer has expert access. -/
def chanEffect (open_ : Bool) (a v : Nat) (s : State) : State :=
  let n := chanOf a
  let o := a % 0x400000
  if 0x88100 ≤ o ∧ o < 0x88140 then resettle n s
  else if o = 0x100008 then stepMask n (v / 16 % 16) s
  else if o = 0x180008 then swapRequest n (v % 64) s
  else if o = 0x200008 then (if v.testBit 0 then hingeForce n open_ (s.fresh.getLsbD 0) (s.fresh.getLsbD 1) s.used else s)
  else if o = 0x280004 then
    (match v % 8 with
    | 1 => motCmd (motStart n) s
    | 2 => motCmd (motStop n) s
    | 3 => motCmd (motCoast n) s
    | 4 => startRetract n s
    | 5 => motCmd (motLoad n) s
    | _ => s)
  else s

/-- The zone table that the image in use gives a channel. -/
def imageZones (n : Ch) (s : State) : Option ZoneTable := s.boot.image.bind fun g => g.zones.getD n.val none

def chanOn (n : Ch) (s : State) : Bool := domOn (4 * n.val) s && domOn (4 * n.val + 1) s && domOn (4 * n.val + 2) s && domOn (4 * n.val + 3) s

/-- The image gives the channel its zone table, registers, banks and scratchpads (R36, R75, R82, R226, R230). -/
def applyChannel (n : Ch) (s : State) : State :=
  let t := if chanOn n s then applyBanks n (applyProfile (chanEffect true) (chBase n) (chBase n + 0x3F0000) s) else s
  let t := t.modChan n fun c => { c with zt := imageZones n s, eqTbl := [] }
  match imageZones n s with
  | some z => ((t.set (F.SCHED_FMT_FMT_RPM n) z.rpm).set (F.SCHED_FMT_SURFACES n) z.surfaces).set (F.SCHED_FMT_ZTAB_VER n) z.ver
  | none => t

/-- A write of 1 to CHn.ENABLE.EN (R569): ignored while a check runs or the channel is enabled. -/
def enableStart (n : Ch) (s : State) : State :=
  if s.flag (F.PAGE_ENABLE_EN n) || s.get (F.PAGE_ENABLE_PHASE n) == 1 then s
  else (applyChannel n s).set (F.PAGE_ENABLE_PHASE n) 1

/-- Whether the zone table obeys R38, R58 and R67: zones in order on every surface, and within 20 tracks over each quad. -/
def zonesOk (n : Ch) (z : ZoneTable) (s : State) : Bool :=
  let ss := List.range z.surfaces
  decide (1 ≤ z.surfaces) && decide (z.surfaces ≤ 20) &&
  ss.all (fun sf => (List.range 31).all (fun zn => decide (z.firstOf sf zn ≤ z.firstOf sf (zn + 1))) && decide (z.firstOf sf 31 + 256 ≤ z.tracksOf sf)) &&
  (List.range z.quads).all fun q => (List.range 32).all fun zn =>
    decide (spreadOf ((z.quadSurfs q |> List.range).map fun j => 256 * (z.firstOf (4 * q + j) zn : Int) - calOffset n (4 * q + j) s) ≤ 5120)

/-- The first reason of R569 for which an enable is refused; zero when the check passes. -/
def chanReason (n : Ch) (o : CheckObs) (s : State) : Nat :=
  let z := (s.chan n).zt
  let rpm := match z with | some x => x.rpm | none => 0
  if rpm < 5400 ∨ 10000 < rpm ∨ !(match z with | some x => zonesOk n x s | none => false) then 0x01
  else if !s.flag (F.STITCH_VERSION_AUTH n) || decide (s.get (F.STITCH_VERSION_BASE_VER n) < (match z with | some x => x.needBase | none => 0)) then 0x02
  else if o.preamp.isSome && o.preamp != z.map (fun x => x.surfaces) then 0x03
  else if o.preamp.isNone then 0x04
  else if allLoops.any fun l => s.bit (F.CTL_LOOPEN_EN n) l && !bankValid n l (activeBank n l s) s then 0x05
  else if (List.range 18).any fun k => profM n (k + 3) s < 2 then 0x06
  else if s.get (F.MOT_MODEL1_K_E n) = 0 ∨ s.get (F.MOT_MODEL1_ISENSE_FS n) = 0 then 0x07
  else if !chanOn n s || (List.range 3).any fun k => !s.bit F.CLK_PLLSTAT_CH_LOCK (3 * n.val + k) then 0x08
  else if !o.tablesOk then 0x09
  else if !s.bit F.CACHE_DRAMSTAT_PC_OK n then 0x0A
  else if chanFailed n s || s.mem.bist.any fun m => m / 0x20 == n.val && decide (m < 0x100) then 0x0B
  else if poolsBad s then 0x0C
  else if motState n s ≠ stRun ∨ !s.flag (F.MOT_STAT_IN_TOL n) then 0x0D
  else if s.flag F.FAULT_STAT_SAFE then 0x1F
  else 0

/-- The learned tables are in the channel region again (R218), and heads whose table is not CONVERGED are write-inhibited until they
have learned (R132). -/
def tablesIn (n : Ch) (s : State) : State :=
  let z := match (s.chan n).zt with | some x => x.surfaces | none => 0
  let t := (tablesFromFly n s).modSched n fun c => { c with noconv := [] }
  t.each (List.range z) fun h u =>
    let c := tblState n h u == 2
    let u := u.setBit (F.CTL_RROSTAT_CONV n) h c
    if c then u else u.setBit (F.AFE_WRINH_INH n) h true

/-- The Stitchers of a channel are released at 0x0110 (R144, R181). -/
def releaseStitchers (n : Ch) (s : State) : State :=
  (s.set (F.STITCH_CTL_HALT n) 0).each allPaths fun p t => t.modStit n p fun x => { x with pc := 0x0110, mode := .running }

/-- Engine A takes control and B waits for its copies (R231); an engine that is RETIRED stays so until a channel reset (R246), and the
other is then in control. -/
def engagePair (n : Ch) (s : State) : State :=
  let ctl := engState n false s == engRetired
  let t := (s.setFlag (F.HINGE_STAT_IN_CTRL n) ctl).modHinge n fun _ => { Hinge.reset with memBad := (s.hinge n).memBad }
  let t := [F.HINGE_STAT_SHADOW_CNT n, F.HINGE_STAT_GAP n, F.HINGE_STAT_OVERLAP n].foldl (fun (u : State) f => u.set f 0) t
  let put := fun (b : Bool) (u : State) => if engState n b s = engRetired then u else setEng n b (if b == ctl then engActive else engNotReady) u
  put true (put false t)

/-- The enable of a channel passes: PHASE LOADING, the Stitchers run, one engine is in control, and MGMT loads the heads (R181, R183,
R225, R231, R268). -/
def enablePass (n : Ch) (s : State) : State :=
  let e := match (s.chan n).zt with | some x => min 4 x.surfaces | none => 0
  let t := (s.setFlag (F.PAGE_ENABLE_EN n) true).set (F.PAGE_ENABLE_PHASE n) 2
  motLoad n (tablesIn n (engagePair n (releaseStitchers n (t.set (F.CTL_STAT_EVENTS n) e))))

/-- An enable is refused with a reason. -/
def enableRefuse (n : Ch) (r : Nat) (s : State) : State :=
  loseChan n (((s.set (F.PAGE_ENABLE_PHASE n) 4).set (F.PAGE_ENABLE_STATUS_REASON n) r).inc (F.PAGE_ENABLE_STATUS_COUNT n))

/-- The consistency check of a channel ends. -/
def chanCheckEnd (n : Ch) (o : CheckObs) (s : State) : State :=
  if s.get (F.PAGE_ENABLE_PHASE n) ≠ 1 then s
  else
    let r := chanReason n o s
    checkDone n.val r (if r = 0 then enablePass n s else enableRefuse n r s)

/-- Another `d` items serve what parked work serves. -/
def parkedMore (p : Parked) (d : Nat) (s : State) : State :=
  match p.stripe with
  | some x => s.modLayout (stripeLayout x) fun y => { y with
      locks := y.locks.map fun z => if z.1 == x.2 && z.2.1 == p.cmds.headD 0 then (z.1, z.2.1, z.2.2 + d) else z }
  | none => if p.kind == .destage then s else addItems p.cmds d s

/-- Work that waited for its channel is placed (R377). -/
def placeParked (n : Ch) (s : State) : State :=
  let mine := s.host.parked.filter fun p => p.ch == n
  let t := s.modHost fun h => { h with parked := h.parked.filter fun p => p.ch != n }
  t.each mine fun p u =>
    let r := placeRun n p.cmd p.kind p.cmds p.cls false p.wver p.stripe p.sects u
    parkedMore p (r.1 - 1) r.2

/-- The defect lists of a channel: those its system area holds since they were first read, else those given (R71). -/
def areaOf (n : Ch) (m : MediaLists) (s : State) : SysArea :=
  match (s.chan n).sys with
  | some x => x
  | none => ⟨m.prim, m.wedges, m.grown⟩

/-- Both defect lists are read, and the grown list is mirrored (R71). -/
def takeLists (n : Ch) (m : MediaLists) (s : State) : State :=
  let a := areaOf n m s
  let t := s.modChan n fun c => { c with sys := some a, sched := { c.sched with prim := a.prim, wedges := a.wedges, unrec := 0 } }
  defectSync n (setGrown n a.grown t)

/-- CHANNEL_READY (R71, R74, R569): the heads are loaded and the defect lists have been read, or neither copy could be. -/
def chanReadyEnd (n : Ch) (lists : Option MediaLists) (s : State) : State :=
  if s.get (F.PAGE_ENABLE_PHASE n) ≠ 2 then s
  else match lists with
    | none =>
      let t := (s.setFlag (F.PAGE_ENABLE_EN n) false).set (F.PAGE_ENABLE_PHASE n) 0
      ((t.set (F.PAGE_ENABLE_STATUS_REASON n) 0x10).inc (F.PAGE_ENABLE_STATUS_COUNT n)).chanEvent
    | some m =>
      if !s.flag (F.CTL_STAT_LOADED n) then s
      else
        let t := takeLists n m s
        let t := { t with boot := { t.boot with chUp := t.boot.chUp ||| (1#8 <<< n.val) } }
        pump (placeParked n (t.set (F.PAGE_ENABLE_PHASE n) 3)).chanEvent

/-! ### Disable and fence (R13) -/

def disabled (n : Ch) (s : State) : State := (s.setFlag (F.PAGE_ENABLE_EN n) false).set (F.PAGE_ENABLE_PHASE n) 0

/-- A write of 0 to CHn.ENABLE.EN: it abandons a check, or disables the channel in order. The tables in use are written back
(R218). -/
def disableStart (n : Ch) (s : State) : State :=
  if s.get (F.PAGE_ENABLE_PHASE n) = 1 then checkDone n.val 0x00 (s.set (F.PAGE_ENABLE_PHASE n) 0)
  else if !s.flag (F.PAGE_ENABLE_EN n) then s.set (F.PAGE_ENABLE_PHASE n) 0
  else
    drainChan n (chanUnavailable n (saveTables n (disabled n s)).chanEvent)

/-- CHANNEL_FENCE: of a channel that is failed, or disabled with no started item left. -/
def fenceRow (n : Ch) (s : State) : State :=
  if chanFailed n s || (!s.flag (F.PAGE_ENABLE_EN n) && (s.chan n).sched.ring.all fun i => !i.taken) then fenceChan n s else s

/-! ### Channel reset (R76, R118, R141, R181, R230, R252, R291, R499, R558) -/

/-- The registers of a channel but its page, return to their reset values; the store's version and FMT are kept. -/
def resetChanRegs (n : Ch) (s : State) : State :=
  let b := chBase n
  let t := ((s.resetRegs b (b + 0x100000)).resetRegs (b + 0x100008) (b + 0x300000)).resetRegs (b + 0x300004) (b + 0x3F0000)
  { t with force := t.force.clear (b * 32) ((b + 0x3F0000) * 32) }

/-- The pieces of a channel that a reset keeps: the spindle's speed, the learned tables of the channel region, the runs, the zone table,
and what its media hold. -/
def Chan.afterReset (c : Chan) : Chan :=
  { Chan.reset with
    sched := { Sched.reset with runs := c.sched.runs }
    servo := { Servo.reset with hdrs := c.servo.hdrs, tbl := c.servo.tbl, tblIn := c.servo.tblIn }
    mot := { Motor.reset with speed := c.mot.speed }
    zt := c.zt
    pflt := c.pflt
    sys := c.sys }

/-- The logic of a channel is reset, the speculation registers too (R380). A spindle that turned coasts. -/
def resetChan (n : Ch) (s : State) : State :=
  let off := motState n s == stOff
  let t := (resetChanRegs n s).modChan n Chan.afterReset
  let t := { t with pads := t.pads.set n NatMap.empty, banks := t.banks.set n NatMap.empty }
  let t := { t with mem := { t.mem with flips := t.mem.flips.filter fun f => !(f.1 / 0x20 == n.val && f.1 % 0x20 != 0) } }
  let t := (t.setFlag (F.PAGE_ENABLE_EN n) false).set (F.PAGE_ENABLE_PHASE n) 0
  if off then t else t.set (F.MOT_STAT_STATE n) stCoast

/-- A check that runs is abandoned, and the channel is disabled (R558, R569). -/
def cutEnable (n : Ch) (s : State) : State :=
  if s.get (F.PAGE_ENABLE_PHASE n) = 1 then checkDone n.val 0x00 (s.set (F.PAGE_ENABLE_PHASE n) 0) else disabled n s

/-- A channel reset (R558): the heads retract, the channel is fenced and its logic reset. The working copies of the learned tables
are lost (R230). -/
def chanReset (n : Ch) (s : State) : State :=
  let t := cutEnable n (parkHeads n true (resetRecord 5 n s))
  let t := resetChan n (fenceChan n t)
  let t := { t with rst := { t.rst with cond := t.rst.cond.filter fun x => x / 40 != n.val } }
  (chanUnavailable n t).chanEvent

/-! ### Commands -/

/-- PART_LAST_BIT (R125, R615). -/
def execPartLastBit (n : Ch) (p : Pa) (last : Nat) (o : Capture) (s : State) : Host.Outcome State Fault Refusal :=
  .next (chipRetract n (sectorBegun n s) (partEnds n p last o s))
/-- WORK_ITEM_FINISHED (R168). -/
def execWorkItemFinished (n : Ch) (tag : W16) (s : State) : Host.Outcome State Fault Refusal := .next (itemFinished n tag s)
/-- CHANNEL_ENABLE (R569): a write of 1; MGMT then owes the channel no enable under R519. -/
def execChannelEnable (n : Ch) (s : State) : Host.Outcome State Fault Refusal :=
  .next (arbWrite (F.PAGE_ENABLE_EN n).addr (fun t => enableStart n { t with rst := { t.rst with reen := t.rst.reen.set n none } }) s)
/-- CHANNEL_DISABLE (R13): a write of 0. -/
def execChannelDisable (n : Ch) (s : State) : Host.Outcome State Fault Refusal :=
  .next (arbWrite (F.PAGE_ENABLE_EN n).addr (disableStart n) s)
/-- CHANNEL_READY (R569). -/
def execChannelReady (n : Ch) (lists : Option MediaLists) (s : State) : Host.Outcome State Fault Refusal := .next (chanReadyEnd n lists s)
/-- CHANNEL_FENCE (R13). -/
def execChannelFence (n : Ch) (s : State) : Host.Outcome State Fault Refusal := .next (fenceRow n s)
/-- CHANNEL_RESET (R558): a write of RST.CHRST, with expert access (R578). -/
def execChannelReset (path : RegPath) (n : Ch) (s : State) : Host.Outcome State Fault Refusal :=
  .next (lockedWrite path F.RST_CHRST_REQ.addr false (chanReset n) s)

end Sys2Proof.Machine
end

