-- ==== Sys2Proof/Machine/Ket.lean ====
section
/-! DEFINITION. The Kettle link (chapter 9): frames, hop delay, epochs, indices and groups, vibration samples, holdover and
segment heads. A frame is the list of its symbols after the start symbol; times are steps of 0.625 ns. -/

namespace Sys2Proof.Machine

def State.modKet (s : State) (f : Ket → Ket) : State := { s with ket := f s.ket }

/-! ### Frames (R295, R296) -/

/-- The CRC-16 of a frame's symbols. -/
def frameCrc (l : List Nat) : Nat := crcMsb 16 0x1021 0xFFFF (l.flatMap (bitsMsb 8))

/-- A frame closed by its CRC. -/
def sealFrame (l : List Nat) : List Nat := l ++ beBytes 2 (frameCrc l)

/-- Whether the frame of `len` symbols after its start symbol passes its CRC. -/
def frameGood (len : Nat) (l : List Nat) : Bool := l.length == len && l.drop (len - 2) == beBytes 2 (frameCrc (l.take (len - 2)))

/-- The number that `k` symbols from symbol `i` spell, most significant first; symbol 1 is TYPE. -/
def symNum (l : List Nat) (i k : Nat) : Nat := ((l.drop (i - 1)).take k).foldl (fun v b => v * 256 + b) 0

def epochFrame (hop g : Nat) (seg : Bool) (e acc rpm : Nat) : List Nat :=
  sealFrame ([0x01] ++ beBytes 3 (hop % 1024 * 16384 + (g - 1) % 1024 * 16 + seg.toNat * 8) ++ beBytes 2 e ++ beBytes 3 (acc % 16777216) ++
    beBytes 2 (rpm % 16384 * 4))

def vibFrame (idx ttl sample seq : Nat) : List Nat := sealFrame ([0x02] ++ beBytes 2 (idx * 64 + ttl * 16) ++ beBytes 2 sample ++ [seq % 256])
def dreqFrame (id : Nat) : List Nat := sealFrame [0x03, id % 256]
def drspFrame (id turn : Nat) : List Nat := sealFrame ([0x04, id % 256] ++ beBytes 3 (turn % 16777216))
def tailFrame (idx : Nat) : List Nat := sealFrame ([0x05] ++ beBytes 2 (idx * 64))

/-- A frame on a lane (R292, R295): its start symbol, K28.1 of an EPOCH frame and K27.7 of the others, its symbols, and the idle pair. -/
def laneSymbols (l : List Nat) : List Symbol := ⟨true, if l.headD 0 = 0x01 then 0x3C else 0xFB⟩ :: l.map dataSym ++ idlePair

/-- K30.7, which ends a frame that is abandoned (R297). -/
def k30_7 : Symbol := ⟨true, 0xFE⟩

/-- The frames this command sends, on KET_OUT and on KET_SYNC_OUT, and their code groups on the lane; none leaves the lane idle. -/
def sendDown (l : List (List Nat)) (s : State) : State := s.modKet fun k =>
  let g := codeGroups (l.flatMap laneSymbols) k.rdD
  { k with down := l, codeD := g.1, rdD := g.2 }
def sendUp (l : List (List Nat)) (s : State) : State := s.modKet fun k =>
  let g := codeGroups (l.flatMap laneSymbols) k.rdU
  { k with up := l, codeU := g.1, rdU := g.2 }
def sendNone (s : State) : State := s.modKet fun k =>
  let d := codeGroups idlePair k.rdD
  let u := codeGroups idlePair k.rdU
  { k with down := [], up := [], codeD := d.1, rdD := d.2, codeU := u.1, rdU := u.2 }

/-- The link runs: the KET domain is on and EN is 1. A node in reset or off forwards nothing (R294). -/
def ketOn (s : State) : Bool := domOn 44 s && s.flag F.KET_ENABLE_EN

/-- A received frame: a bad CRC discards it and is counted; otherwise `f` acts on its symbols (R295). -/
def received (len type : Nat) (syms : List Byte) (f : List Nat → State → State) (s : State) : State :=
  let l := syms.map BitVec.toNat
  if !ketOn s then s
  else if !frameGood len l then (sendNone s).inc F.KET_ERR_CRC_CNT
  else if l.headD 0 = type then f l (sendNone s)
  else s

/-! ### Hop delay (R298) -/

def insertInt (a : Int) : List Int → List Int
  | [] => [a]
  | b :: r => if a ≤ b then a :: b :: r else b :: insertInt a r

/-- Half the median of sixteen exchanges: the mean of the middle two, halved. -/
def medianHalf (l : List Int) : Int :=
  let o := l.foldl (fun r a => insertInt a r) []
  roundDiv (o.getD 7 0 + o.getD 8 0) 4

/-- The upstream cable delay c_i in use: 5 ns until sixteen exchanges have been made. -/
def cableDelay (s : State) : Nat := if s.ket.exch.length < 16 then 8 else (medianHalf s.ket.exch).toNat

/-- One exchange is added; a valid delay that comes to lie above 10 ns is reported. -/
def addExchange (c : Int) (s : State) : State :=
  let long := fun (u : State) => u.ket.exch.length == 16 && decide (16 < cableDelay u)
  let t := s.modKet fun k => { k with exch := (c :: k.exch).take 16, reqT := none }
  let t := t.when (t.ket.exch.length == 16) fun u => (u.set F.KET_DELAY_CABLE (min 0x1F (cableDelay u))).setFlag F.KET_DELAY_VALID true
  t.when (long t && !long s) fun u => u.raise (hostSrc 9)

/-- A DREQ is answered on KET_OUT with the turn-round time. -/
def dreqArrived (tArr tDep : Nat) (l : List Nat) (s : State) : State := sendDown [drspFrame (symNum l 2 1) (tDep - tArr)] s

/-- A DRSP to the last DREQ gives one exchange. -/
def drspArrived (t4 : Nat) (l : List Nat) (s : State) : State :=
  match s.ket.reqT with
  | some t1 => if symNum l 2 1 = s.ket.reqId then addExchange ((t4 : Int) - t1 - symNum l 3 3) s else s
  | none => s

/-- A non-head node sends a DREQ. -/
def dreqTick (t1 : Nat) (s : State) : State :=
  if !ketOn s then s
  else if s.flag F.KET_STAT_HEAD then sendNone s
  else
    let id := (s.ket.reqId + 1) % 256
    sendUp [dreqFrame id] ((sendNone s).modKet fun k => { k with reqId := id, reqT := some t1 })

/-! ### Epochs (R297, R299 to R302, R307, R308) -/

/-- The frame that an EPOCH frame interrupts on KET_OUT is ended by K30.7 and sent again after it, a DRSP with its new TURN (R297); `rd` is the
lane's disparity before. -/
def resendAfter (again : Option Nat) (rd : Bool) (before : List (List Nat)) (s : State) : State :=
  match again, before.getLast? with
  | some turn, some l =>
    let l2 := if l.headD 0 = 0x04 then drspFrame (symNum l 2 1) turn else l
    (s.modKet fun k =>
      let g := codeGroups (k30_7 :: (k.down ++ [l2]).flatMap laneSymbols) rd
      { k with down := k.down ++ [l2], codeD := g.1, rdD := g.2 }).inc F.KET_ERR_PREEMPT_CNT
  | _, _ => s

/-- A good EPOCH frame governs: holdover and a head's own epochs end, index, group and instant are taken, and the frame goes
on. -/
def followEpoch (t : Nat) (l : List Nat) (s : State) : State :=
  let w := symNum l 2 3
  let acc := symNum l 7 3
  let idx := w / 16384 + 1
  let u := ((s.setFlag F.KET_STAT_HOLDOVER false).setFlag F.KET_STAT_SEGMENT_HEAD false).setFlag F.KET_STAT_HEAD false
  if idx = 1024 then
    (u.when (!s.flag F.KET_STAT_OVERLENGTH) fun v => v.raise (hostSrc 11)).setFlag F.KET_STAT_OVERLENGTH true
  else
    let c := cableDelay s
    let rpm := symNum l 10 2 / 4
    let u := ((u.setFlag F.KET_STAT_OVERLENGTH false).set F.KET_STAT_INDEX idx).set F.KET_STAT_G (w / 16 % 1024 + 1)
    let u := ((u.set F.KET_EPOCH_E (symNum l 5 2)).set F.KET_DELAY_ACC_IN acc).setFlag F.KET_STAT_EPOCH_VALID true
    let u := u.modKet fun k => { k with epochT := (t : Int) - (acc + c : Nat), refRpm := rpm, began := true }
    sendDown [epochFrame idx (w / 16 % 1024 + 1) (w.testBit 3) (symNum l 5 2) (acc + c + 80) rpm] u

/-- An EPOCH frame at KET_IN; a node that is always head discards it (R302). -/
def epochArrived (t : Nat) (again : Option Nat) (rd : Bool) (before : List (List Nat)) (l : List Nat) (s : State) : State :=
  if s.get F.KET_CFG_ROLE = 1 then s.raise (hostSrc 8) else resendAfter again rd before (followEpoch t l s)

/-- GROUP as KET.CFG gives it: above 1,024 taken as 1,024; zero stands for none. -/
def cfgGroup (s : State) : Nat := min 1024 (s.get F.KET_CFG_GROUP)

/-- The reference speed a head sends (R303): the override, or the format speed of its lowest-numbered enabled channel; with
no channel enabled, zero (DEDUCED). -/
def headRpm (s : State) : Nat :=
  if s.get F.KET_PHCFG_REF_RPM ≠ 0 then s.get F.KET_PHCFG_REF_RPM
  else match allChans.find? fun n => s.flag (F.PAGE_ENABLE_EN n) with
    | some n => s.get (F.SCHED_FMT_FMT_RPM n)
    | none => 0

/-- The group a head uses (R301). -/
def headGroup (s : State) : Nat :=
  if cfgGroup s ≠ 0 then cfgGroup s else match s.ket.tail with | some i => i + 1 | none => 1

/-- The local epoch advances: the first after the start is number 0 (R309). -/
def advanceEpoch (t : Nat) (s : State) : State :=
  if s.ket.began then (s.set F.KET_EPOCH_E ((s.get F.KET_EPOCH_E + 1) % 60000)).modKet fun k => { k with epochT := t }
  else s.modKet fun k => { k with epochT := t, began := true }

/-- One millisecond of a node's own epochs: a head and a segment head originate, a node in holdover counts the miss. -/
def epochTick (t : Nat) (s : State) : State :=
  if !ketOn s then s
  else
    let u := sendNone s
    if s.flag F.KET_STAT_HEAD then
      let u := (advanceEpoch t u).modKet fun k => { k with refRpm := headRpm s }
      let u := (u.set F.KET_STAT_INDEX 0).set F.KET_STAT_G (headGroup s)
      sendDown [epochFrame 0 (headGroup s) false (u.get F.KET_EPOCH_E) 0 (headRpm s)] u
    else if s.flag F.KET_STAT_HOLDOVER then
      let u := (advanceEpoch t u).inc F.KET_EPOCH_MISS_CNT
      if s.flag F.KET_STAT_SEGMENT_HEAD then
        sendDown [epochFrame (s.get F.KET_STAT_INDEX) (s.get F.KET_STAT_G) true (u.get F.KET_EPOCH_E) 0 s.ket.refRpm] u
      else u
    else if s.flag F.KET_STAT_EPOCH_VALID then u
    else (advanceEpoch t u).modKet fun k => { k with refRpm := headRpm s }

/-- No good EPOCH frame for 4 ms. -/
def holdover (s : State) : State :=
  if !ketOn s || s.flag F.KET_STAT_HEAD || s.flag F.KET_STAT_HOLDOVER then s
  else (s.setFlag F.KET_STAT_HOLDOVER true).raise (hostSrc 6)

/-- HOLD_T of holdover with KET_IN lost. -/
def segmentHead (s : State) : State :=
  if ketOn s && s.flag F.KET_STAT_HOLDOVER && !s.flag F.KET_STAT_IN_LOCK && s.get F.KET_CFG_ROLE != 2 && !s.flag F.KET_STAT_SEGMENT_HEAD
  then (s.setFlag F.KET_STAT_SEGMENT_HEAD true).raise (hostSrc 7) else s

/-- KET_IN has not locked within 10 ms after the enable. -/
def autoHead (s : State) : State :=
  if ketOn s && (s.get F.KET_CFG_ROLE == 0 || s.get F.KET_CFG_ROLE == 3) && !s.flag F.KET_STAT_IN_LOCK && !s.flag F.KET_STAT_EPOCH_VALID
  then ((s.setFlag F.KET_STAT_HEAD true).setFlag F.KET_STAT_HOLDOVER false).setFlag F.KET_STAT_SEGMENT_HEAD false else s

/-! ### Tail (R301) -/

def tailTick (s : State) : State :=
  if !ketOn s then s
  else if s.flag F.KET_STAT_SYNC_LOCK then sendNone s
  else
    let u := sendNone s
    if s.flag F.KET_STAT_HEAD then u.modKet fun k => { k with tail := some 0 }
    else sendUp [tailFrame (s.get F.KET_STAT_INDEX)] u

def tailArrived (l : List Nat) (s : State) : State :=
  let i := symNum l 2 2 / 64
  if s.flag F.KET_STAT_HEAD then
    let t := s.modKet fun k => { k with tail := some i }
    t.set F.KET_STAT_G (headGroup t)
  else sendUp [l] s

/-! ### Vibration samples (R306) -/

/-- A sample reaches source `j` of every channel. -/
def putVib (j : Fin 5) (v : Int) (t : Nat) (s : State) : State :=
  s.each allChans fun n u => u.modServo n fun x => { x with vib := x.vib.set j (some (v, t)) }

def vibArrived (lane : KetLane) (t : Nat) (l : List Nat) (s : State) : State :=
  let w := symNum l 2 2
  let ttl := w / 16 % 4
  let off : Int := (w / 64 : Int) - s.get F.KET_STAT_INDEX
  let src : Option (Fin 5) := if off = -2 then some 1 else if off = -1 then some 2 else if off = 1 then some 3 else if off = 2 then some 4 else none
  match src with
  | none => s
  | some j =>
    if ttl = 0 || ttl = 3 then s
    else
      let u := (putVib j (sext 16 (symNum l 4 2)) t s).incWrap F.KET_VIBSTAT_RX_CNT
      if ttl = 2 then
        let f := vibFrame (w / 64) 1 (symNum l 4 2) (symNum l 6 1)
        match lane with | .down => sendDown [f] u | .up => sendUp [f] u
      else u

/-- The sensor is read, and broadcast on both lanes. -/
def vibRead (sample : W16) (t : Nat) (s : State) : State :=
  if !ketOn s || !s.flag F.KET_VIBCFG_EN then s
  else
    let u := (putVib 0 sample.toInt t (sendNone s)).set F.KET_VIBSTAT_SAMPLE sample.toNat
    let u := u.modKet fun k => { k with mosi := s.get F.KET_VIBCFG_READ_CMD }
    if s.flag F.KET_VIBCFG_BCAST_EN then
      let f := vibFrame (s.get F.KET_STAT_INDEX) 2 sample.toNat s.ket.vibSeq
      sendUp [f] (sendDown [f] (u.modKet fun k => { k with vibSeq := (k.vibSeq + 1) % 256 }))
    else u

/-! ### Lanes, enable, reset (R292, R309, R310) -/

def laneField : KetLane → Fld
  | .down => F.KET_STAT_IN_LOCK
  | .up => F.KET_STAT_SYNC_LOCK

def laneLock (lane : KetLane) (s : State) : State := if ketOn s then s.setFlag (laneField lane) true else s

/-- A lane is lost; the loss of KET_IN is reported (R307). -/
def laneLost (lane : KetLane) (s : State) : State :=
  if !ketOn s || !s.flag (laneField lane) then s
  else (s.setFlag (laneField lane) false).when (lane == .down) fun t => t.raise (hostSrc 5)

/-- A write of KET.ENABLE.EN: 1 starts the consistency check, 0 abandons it or stops the link. -/
def ketEnable (en : Bool) (s : State) : State :=
  if en then
    if s.flag F.KET_ENABLE_EN || s.ket.checking then s
    else (applyProfile noAct 0x900000 0xA00000 s).modKet fun k => { k with checking := true }
  else (checkDone 10 0 (s.setFlag F.KET_ENABLE_EN false)).modKet fun k => { k with checking := false, down := [], up := [], codeD := [], codeU := [] }

/-- The reason code of the check of KET.ENABLE (R569). -/
def ketReason (s : State) : Nat :=
  if s.flag F.FAULT_STAT_SAFE then 0x1F
  else if !domOn 44 s || !s.bit F.CLK_PLLSTAT_HOST_LOCK 5 then 0x60
  else if cfgGroup s ≠ 0 && decide (cfgGroup s ≤ s.get F.KET_CFG_NODE_IDX) then 0x61
  else 0

/-- The check of KET.ENABLE ends: the link starts with the values of R309, or the enable is refused. -/
def ketCheckEnd (s : State) : State :=
  if !s.ket.checking then s
  else
    let t := s.modKet fun k => { k with checking := false }
    let r := ketReason s
    if r ≠ 0 then t.set F.KET_ENABLE_REASON r
    else
      let t := t.resetRegs 0x90000C 0x900018
      let t := (t.setFlag F.KET_ENABLE_EN true).set F.KET_STAT_INDEX (s.get F.KET_CFG_NODE_IDX)
      let t := (t.set F.KET_STAT_G (max 1 (cfgGroup s))).setFlag F.KET_STAT_HEAD (s.get F.KET_CFG_ROLE == 1)
      t.modKet fun _ => Ket.reset

/-- A KET block reset or a switch-off of the domain (R310): registers at reset, lanes silent, neighbour terms zero. -/
def ketReset (s : State) : State :=
  let s := checkDone 10 0 (resetRecord 6 0 s)
  let t := { (s.resetRegs 0x900000 0xA00000) with ket := Ket.reset }
  t.each allChans fun n u => u.modServo n fun x => { x with vib := Vector.replicate 5 none }

/-! ### Commands -/

/-- KET_EPOCH_FRAME (R299, R297). -/
def execKetEpochFrame (syms : List Byte) (t : Nat) (again : Option Nat) (s : State) : Host.Outcome State Fault Refusal :=
  .next (received 13 0x01 syms (epochArrived t again s.ket.rdD s.ket.down) s)
/-- KET_VIB_FRAME (R306). -/
def execKetVibFrame (lane : KetLane) (syms : List Byte) (t : Nat) (s : State) : Host.Outcome State Fault Refusal :=
  .next (received 8 0x02 syms (vibArrived lane t) s)
/-- KET_DREQ_FRAME (R298). -/
def execKetDreqFrame (syms : List Byte) (tArr tDep : Nat) (s : State) : Host.Outcome State Fault Refusal :=
  .next (received 4 0x03 syms (dreqArrived tArr tDep) s)
/-- KET_DRSP_FRAME (R298). -/
def execKetDrspFrame (syms : List Byte) (t4 : Nat) (s : State) : Host.Outcome State Fault Refusal :=
  .next (received 7 0x04 syms (drspArrived t4) s)
/-- KET_TAIL_FRAME (R301). -/
def execKetTailFrame (syms : List Byte) (s : State) : Host.Outcome State Fault Refusal := .next (received 5 0x05 syms tailArrived s)
/-- KET_EPOCH_TICK (R299, R307). -/
def execKetEpochTick (t : Nat) (s : State) : Host.Outcome State Fault Refusal := .next (epochTick t s)
/-- KET_DREQ_TICK (R298). -/
def execKetDreqTick (t1 : Nat) (s : State) : Host.Outcome State Fault Refusal := .next (dreqTick t1 s)
/-- KET_TAIL_TICK (R301). -/
def execKetTailTick (s : State) : Host.Outcome State Fault Refusal := .next (tailTick s)
/-- KET_VIB_READ (R306). -/
def execKetVibRead (sample : W16) (t : Nat) (s : State) : Host.Outcome State Fault Refusal := .next (vibRead sample t s)
/-- KET_LANE_LOCK (R292). -/
def execKetLaneLock (lane : KetLane) (s : State) : Host.Outcome State Fault Refusal := .next (laneLock lane s)
/-- KET_LANE_LOST (R292, R307). -/
def execKetLaneLost (lane : KetLane) (s : State) : Host.Outcome State Fault Refusal := .next (laneLost lane s)
/-- KET_HOLDOVER (R307). -/
def execKetHoldover (s : State) : Host.Outcome State Fault Refusal := .next (holdover s)
/-- KET_SEGMENT_HEAD (R307). -/
def execKetSegmentHead (s : State) : Host.Outcome State Fault Refusal := .next (segmentHead s)
/-- KET_AUTO_HEAD (R302). -/
def execKetAutoHead (s : State) : Host.Outcome State Fault Refusal := .next (autoHead s)
/-- KET_ENABLE (R37, R309): a register write. -/
def execKetEnable (en : Bool) (s : State) : Host.Outcome State Fault Refusal := .next (arbWrite 0x900000 (ketEnable en) s)
/-- KET_BLOCK_RESET (R310): a write of RST.BLKRST, with expert access. -/
def execKetBlockReset (s : State) : Host.Outcome State Fault Refusal := .next (ketReset s)

end Sys2Proof.Machine
end

