-- ==== Sys2Proof/Machine/FlyRows.lean ====
section
/-! DEFINITION. The commands of the Flyleaf: enable and start, programs and their effect on commands, the fall-back to
write-through, the warm level, disable and block reset (R361, R383, R394 to R418), and the ends of the consistency checks (R569). -/

namespace Sys2Proof.Machine

/-! ### Fall-back to write-through (R361, R408) -/

/-- Whether entries of a command wait to be packed. -/
def packWaits (c : Cmd) (s : State) : Bool := s.fly.packH.any fun e => decide (c.seq0 ≤ e.seq) && decide (e.seq < c.seq0 + c.seqLen)

/-- A journalled write that is not accepted completes as a write-through write; the entries it has on the Flyleaf become void. -/
def fallBack (c : Cmd) (s : State) : State :=
  let own := fun (q : Nat) => decide (c.seq0 ≤ q) && decide (q < c.seq0 + c.seqLen)
  let air := (s.fly.flight.flatMap fun p => p.ents.map fun e => e.seq).filter own
  let t := unlive ((s.host.wb.filter fun w => w.k == c.k).map fun w => w.seq) (unpack c s)
  let t := t.modFly fun y => { y with
    pendDst := y.pendDst ++ air.map (fun q => (q, 1))
    flight := y.flight.map fun p => { p with ents := p.ents.filter fun e => !own e.seq } }
  t.modCmd c.k fun d => { d with phase := 4, ents := 0 }

/-- While the journal takes no host entry, every write whose entries still wait falls back. -/
def fallBackAll (s : State) : State :=
  if s.get F.FLY_STAT_STATE == 2 then s
  else
    let cs := s.host.cmds.filter fun c => c.wr && c.phase == 3 && !c.done && c.status.isNone && packWaits c s
    if cs.isEmpty then s
    else
      let t := s.each cs fallBack
      pump (if t.get F.FLY_STAT_STATE == 3 then destagePage t else t)

/-! ### Programs (R394, R395, R401) -/

/-- A write whose pages have all passed leaves its bookmark; its completion may follow (R363, R395). One that the safe state has
completed with Internal Error records it too (R379). -/
def writesProgrammed (s : State) : State :=
  s.each (s.host.cmds.filter fun c => c.started && c.wr && c.phase == 3 && c.ents == 0 && !c.done && (c.status.isNone || (c.begun && c.status == some stInternal))) fun c t =>
    match t.ns c.e.ns with
    | some v =>
      let t := t.modCmd c.k fun d => { d with done := true }
      if stamped c v then putBookmark (mkBookmark c v t) t else t
    | none => t

/-- FLY_PAGE_PROGRAM_DONE. -/
def pageProgrammed (pg : Nat) (pass : Bool) (s : State) : State :=
  let t := gcStep (programDone pg pass s)
  fallBackAll (writesProgrammed (packFull true t.fly.packH.length t))

/-! ### Enable (R37, R383, R407, R410, R569) -/

/-- No program of a write's entries or bookmark begins: in the power-loss sequence and in the safe state. A chip reset lets run-on
writes end (R615). -/
def noProgram (s : State) : Bool := s.flag F.PWR_SUPPLY_PLOSS || s.flag F.FAULT_STAT_SAFE

/-- The dies that answer: those with good blocks. -/
def diesThere (s : State) : List Nat := (s.fly.dies.filter fun d => !d.2.isEmpty).map fun d => d.1

/-- The journal blocks at first use: every good block beyond the first SYS_BLOCKS of its die. -/
def firstBlocks (s : State) : List FBlk :=
  s.fly.dies.flatMap fun d => (d.2.drop (s.get F.FLY_GEOM_SYS_BLOCKS)).map fun b => ⟨d.1, b, .free, 0, 0, 0⟩

def enableBlocks (s : State) : List FBlk := if s.fly.used then s.fly.blks else firstBlocks s

/-- The first reason of R569 for which FLY refuses; zero when the check passes. -/
def flyReason (o : CheckObs) (s : State) : Nat :=
  let n := (diesThere s).length
  if poolsBad s then 0x0C
  else if s.flag F.FAULT_STAT_SAFE then 0x1F
  else if n < 2 ∨ 16 < n ∨ !o.paramOk then 0x20
  else if s.get F.FLY_CFG_SIZE_GIB < 64 ∨ 512 < s.get F.FLY_CFG_SIZE_GIB then 0x21
  else if spareOf (diesThere s) (enableBlocks s) s < 0 then 0x22
  else if !domOn 41 s || !domOn 42 s || !s.bit F.CLK_PLLSTAT_HOST_LOCK 4 then 0x23
  else if s.fly.used && !o.sysOk then 0x24
  else 0

/-- The enable passes: the kind of start is chosen, and a read-only journal that had been disabled returns to service. -/
def flyPass (s : State) : State :=
  let pick := usableCkpt s
  let kind := if !s.fly.used then 3 else match pick with | some x => (if x.2.full then 0 else 1) | none => 2
  let back := s.fly.roRec && s.fly.wasOff
  let t := s.modFly fun y => { y with
    blks := enableBlocks s, used := true, ckUse := if s.fly.used then pick.map fun x => x.1 else none
    roRec := y.roRec && !back, drained := y.drained && !back, wasOff := false }
  let t := ((t.setFlag F.FLY_ENABLE_EN true).set F.FLY_STAT_STATE 1).set F.FLY_STAT_START_KIND kind
  let t := t.set F.FLY_DIE_IN_SERVICE ((diesThere s).foldl (fun m d => m ||| 2 ^ d) 0)
  let t := t.modFly fun y => { y with spare0 := some (y.spare0.getD (flySpare t)) }
  flySync t

/-- A write of 1 to FLY.ENABLE: the profile is applied and the check begins. -/
def flyEnable (s : State) : State :=
  if s.flag F.FLY_ENABLE_EN || s.fly.checking then s
  else (applyProfile noAct 0x800000 0x900000 s).modFly fun y => { y with checking := true }

/-- The consistency check of FLY ends; it has read every die (R383). -/
def flyCheckEnd (o : CheckObs) (s : State) : State :=
  if !s.fly.checking then s
  else
    let t := s.modFly fun y => { y with checking := false, dies := o.dies.zipIdx.map fun d => (d.2, d.1.blocks) }
    let r := flyReason o t
    checkDone 8 r (if r = 0 then flyPass t else t.set F.FLY_ENABLE_REASON r)

/-! ### Start (R410 to R412) -/

/-- The number of the first entry of the command an entry belongs to. -/
def FEntry.first (e : FEntry) : Nat := e.seq - e.pos

def insertEntry (e : FEntry) : List FEntry → List FEntry
  | [] => [e]
  | x :: r => if e.seq ≤ x.seq then e :: x :: r else x :: insertEntry e r

/-- A live entry that cannot be read: its blocks are unreadable until written (R412). -/
def entryLost (e : FEntry) (s : State) : State :=
  let bs := (List.range e.cnt).map (e.lba + ·)
  let t := s.modFly fun y => { y with live := y.live.filter (· != e.seq), pendDst := y.pendDst ++ [(e.seq, 1)] }
  let t := t.modNs e.nsid fun v => { v with bad := v.bad ++ bs }
  (t.each bs fun a u => u.errUnread e.nsid a).raise (hostSrc 17)

/-- A live entry enters the write buffer as version `k`, its data in a buffer of its own; it is read later while no buffer is admitted. -/
def entryBack (k : Nat) (e : FEntry) (s : State) : State :=
  let put := fun (h : Option Nat) (t : State) => t.modHost fun y => { y with wb := y.wb ++ [⟨k, e.nsid, e.lba, e.cnt, e.kind, h, e.seq, true, false, e.zpi, false⟩] }
  if e.kind != 1 then put none s
  else match tryAlloc 0xA 0 1 s with
    | some (h :: _, t) => put (some h) (give 0xA h 0xF (putUnit (handleUnit h s) e.blk t))
    | _ => (put (some emptyHandle) s).modHost fun y => { y with wb := y.wb.map fun w => if w.seq == e.seq then { w with lost := true } else w }

/-- The live entries enter the write buffer in the order of their numbers, the entries of one command as one write. -/
def rebuildBuffer (es : List FEntry) (unread : List Nat) (s : State) : State :=
  let es := (es.filter fun e => !s.host.wb.any fun w => w.seq == e.seq).foldl (fun l e => insertEntry e l) []
  (es.foldl (fun (x : Option Nat × State) e =>
    let same := x.1 == some e.first
    let t := if same then x.2 else x.2.modHost fun h => { h with nextK := h.nextK + 1 }
    (some e.first, if e.kind == 1 && unread.contains e.seq then entryLost e t else entryBack (t.host.nextK - 1) e t)) (none, s)).2

def listMax (l : List Nat) : Nat := l.foldl max 0

/-- The start from a checkpoint or a scan: what is live, the bookmarks, the next number and the powered-on time. -/
def journalRead (s : State) : State :=
  let fromCkpt := match s.fly.ckUse.bind fun i => s.fly.ckpts[i] with
    | some c => if c.full then some c else none
    | none => none
  match fromCkpt with
  | some c => s.modFly fun y => { y with live := c.live, bms := c.bms, nextSeq := c.seq, pot := max y.pot c.pot }
  | none =>
    if s.get F.FLY_STAT_START_KIND == 3 then s
    else
      let cand := scanCand s
      let pot := listMax (s.fly.pages.map fun p => p.pot)
      let t := (if s.get F.FLY_STAT_START_KIND == 2 then scanErases s else s).modFly fun y => { y with pot := max y.pot pot }
      let next := listMax (s.fly.pages.map fun p => p.maxSeq) + 1048576
      let live := (scanLive cand t).map fun e => e.seq
      let marks := scanMarks cand t
      closeBands (t.modFly fun y => { y with live := live, bms := marks, nextSeq := next })

/-- The start uses a FULL checkpoint. -/
def fullStart (s : State) : Bool := match s.fly.ckUse.bind fun i => s.fly.ckpts[i] with | some c => c.full | none => false

/-- A channel that is UNAVAILABLE at a start without a FULL checkpoint becomes LOST (R431). -/
def loseStale (s : State) : State :=
  if fullStart s then s
  else gathSync (s.each allLayouts fun l t => t.each ((layoutChans l.val t).filter fun c => t.bit (F.GATH_LSTAT_UNAVAIL l) c) fun c u => loseIn l (chOf c) u)

/-- FLY_START_DONE: `unread` are the numbers of live entries whose data neither passes its check nor can be rebuilt. -/
def flyStart (unread : List Nat) (s : State) : State :=
  if s.get F.FLY_STAT_STATE != 1 then s
  else
    let t := loseStale (journalRead s)
    let t := rebuildBuffer (liveEntries t.fly.live t) unread t
    let t := (t.modFly fun y => { y with startMs := t.fresh.toNat % 4294967296 }).used
    let ro := t.fly.roRec
    let t := t.set F.FLY_STAT_STATE (if ro then (if t.fly.drained then 4 else 3) else 2)
    let t := bkSync (t.setFlag F.NVME_BKSTAT_DRAM_ONLY ro)
    let t := flySync (coloMirrorOn t)
    let t := if ro then fallBackAll t else packFull true t.fly.packH.length t
    pump t

/-! ### Disable and block reset (R408, R409, R418) -/

/-- A write of 0 to FLY.ENABLE: it abandons a check, is refused while live entries exist, or writes a FULL checkpoint. -/
def flyDisable (s : State) : State :=
  if s.fly.checking then checkDone 8 0 (s.modFly fun y => { y with checking := false })
  else if !s.flag F.FLY_ENABLE_EN then s
  else if !s.fly.live.isEmpty || s.fly.flight.any fun p => p.ents.any fun e => e.kind != 7 then s.set F.FLY_ENABLE_REASON 0x25
  else
    let t := if s.get F.FLY_STAT_STATE == 1 then s else checkpoint true true s
    let t := ((t.setFlag F.FLY_ENABLE_EN false).set F.FLY_STAT_STATE 0).setFlag F.COLO_STAT_MIRROR false
    let t := (t.setFlag F.FLY_STAT_FG_GC false).setFlag F.FLY_STAT_HOLD false
    fallBackAll (t.modFly fun y => { y with flight := [], victim := none, gcQ := [], gcDst := [], gcBms := [], target := [], warm := [], warmPend := [], packC := [], wasOff := true })

/-- What the logic of FLY holds of its work in progress is lost: entries being programmed are programmed again. -/
def flyForget (s : State) : State :=
  s.modFly fun y => { y with
    packH := (y.flight.flatMap fun p => p.ents.filter fun e => !e.copy && e.kind != 7) ++ y.packH
    pendDst := y.pendDst ++ y.flight.flatMap fun p => p.dst
    flight := [], packC := [], warm := [], warmPend := [], warmW := [], victim := none, gcQ := [], gcDst := [], gcBms := [], target := [], checking := false, dies := []
    bands := y.bands.map fun b => if b.st == .victim then { b with st := .verified } else b }

/-- The registers of FLY, but CFG, WM, GEOM and the die-failure limit, return to their reset values. -/
def flyRegs (s : State) : State :=
  ((((s.resetRegs 0x800000 0x800004).resetRegs 0x800010 0x800020).set F.FLY_DIE_IN_SERVICE 0).resetRegs 0x800024 0x800028).setFlag F.COLO_STAT_MIRROR false

/-- FLY_BLOCK_RESET: a SHORT checkpoint while writable; commands whose work lay in FLY end with Internal Error, but run-on writes
(R377). -/
def flyReset (s : State) : State :=
  if s.rst.chip.isSome then s
  else
    let s := resetRecord 6 1 s
    let t := if s.get F.FLY_STAT_STATE == 2 then checkpoint false true s else s
    let held := t.host.cmds.filter fun c => c.status.isNone && !runsOn c &&
      ((c.wr && c.phase == 3 && !c.done) || (t.fly.warmW.any fun w => w.1 == c.k) || t.fly.pendBm.any fun b => b.2 == some c.k)
    let wasChecking := t.fly.checking
    let t := flyRegs (flyForget t)
    let t := t.each held fun c u => failCmd c.k stInternal u
    if wasChecking then checkDone 8 0 t else t

/-! ### The warm level (R415) -/

/-- The data of a block of a warm line: the entry programmed last. -/
def warmBlock (nsid a : Nat) (s : State) : Option Block :=
  ((s.fly.pages.reverse.flatMap fun p => p.ents).find? fun e => e.kind == 7 && e.nsid == nsid && e.lba == a).map fun e => e.blk

/-- The blocks of a command that wait for a warm line. -/
def warmNeeds (c : Cmd) (line : Nat) : List Nat :=
  (readBlocks c).filter fun a => a / 16 == line && !c.todo.contains a && !(c.data.any fun d => d.1 == a) && !c.verWait.any fun w => w.2 == a

/-- A warm line serves a reader, in buffers it has or is granted now; a reader without buffers waits on. -/
def warmServe (k nsid line : Nat) (s : State) : State :=
  match s.cmd k with
  | none => s
  | some c =>
    let bs := warmNeeds c line
    let have_ := unusedHandles c s
    let got := if bs.length ≤ have_.length then some (have_, s) else match tryAlloc c.bufUse.1 c.bufUse.2 (bs.length - have_.length) s with
      | some (hs, t) => some (have_ ++ hs, t.modCmd k fun d => { d with handles := d.handles ++ hs })
      | none => none
    match got with
    | none => s
    | some (hs, t) =>
      let t := t.modFly fun y => { y with warmW := y.warmW.filter fun w => w != (k, nsid, line) }
      let t := t.each (bs.zip hs) fun x u => match warmBlock nsid x.1 s with
        | some b => found k x.1 (some (handleUnit x.2 u)) (putUnit (handleUnit x.2 u) b u)
        | none => u
      advance k (placeTodo k t)

/-- The readers of a line that left the warm index look its blocks up again. -/
def warmMiss (nsid line : Nat) (s : State) : State :=
  let ws := s.fly.warmW.filter fun w => w.2 == (nsid, line)
  let t := s.modFly fun y => { y with warmW := y.warmW.filter fun w => w.2 != (nsid, line) }
  t.each ws fun w u => match u.cmd w.1 with
    | some c => advance c.k (lookupAgain c.k (warmNeeds c line) u)
    | none => u

/-- FLY_PAGE_READ_DONE: a line whose entries pass DCRC serves its readers; a failed one leaves the index. -/
def warmRead (nsid line : Nat) (ok : Bool) (s : State) : State :=
  if ok && s.fly.warm.contains (nsid, line) then
    s.each (s.fly.warmW.filter fun w => w.2 == (nsid, line)) fun w u => warmServe w.1 nsid line u
  else warmMiss nsid line (warmDrop nsid (16 * line) 16 s)

/-! ### Commands -/

/-- FLY_ENABLE (R37, R410): a register write. -/
def execFlyEnable (s : State) : Host.Outcome State Fault Refusal := .next (arbWrite F.FLY_ENABLE_EN.addr flyEnable s)
/-- FLY_DISABLE (R408): a register write. -/
def execFlyDisable (s : State) : Host.Outcome State Fault Refusal := .next (arbWrite F.FLY_ENABLE_EN.addr flyDisable s)
/-- FLY_START_DONE (R411). -/
def execFlyStartDone (unread : List Nat) (s : State) : Host.Outcome State Fault Refusal := .next (flyStart unread s)
/-- FLY_PACK_TIMEOUT (R394). -/
def execFlyPackTimeout (s : State) : Host.Outcome State Fault Refusal :=
  .next (if noProgram s then s else packRest false (packRest true s))
/-- FLY_PAGE_PROGRAM_DONE (R395, R396). -/
def execFlyPageProgramDone (pg : Nat) (pass : Bool) (s : State) : Host.Outcome State Fault Refusal := .next (pageProgrammed pg pass s)
/-- FLY_BAND_VERIFY_DONE (R397). -/
def execFlyBandVerifyDone (band : Nat) (checks : List PageCheck) (s : State) : Host.Outcome State Fault Refusal :=
  .next (bandVerified band checks s)
/-- FLY_DESTAGE_PAGE_TIMER (R398). -/
def execFlyDestagePageTimer (s : State) : Host.Outcome State Fault Refusal := .next (if stopped s then s else destagePage s)
/-- FLY_BOOKMARK_PAGE_TIMER (R401). -/
def execFlyBookmarkPageTimer (s : State) : Host.Outcome State Fault Refusal := .next (if noProgram s then s else bookmarkPage s)
/-- FLY_COLLECTION_START (R403, R407). -/
def execFlyCollectionStart (idle : Bool) (s : State) : Host.Outcome State Fault Refusal :=
  .next (if stopped s then s else fallBackAll (collect idle s))
/-- FLY_VICTIM_ERASE (R405). -/
def execFlyVictimErase (checks : List PageCheck) (s : State) : Host.Outcome State Fault Refusal :=
  .next (if stopped s then s else victimErase checks s)
/-- FLY_ERASE_DONE (R406). -/
def execFlyEraseDone (die blk : Nat) (ok : Bool) (s : State) : Host.Outcome State Fault Refusal := .next (eraseDone die blk ok s)
/-- FLY_DIE_FAIL (R406, R407). -/
def execFlyDieFail (die : Nat) (dead : Bool) (s : State) : Host.Outcome State Fault Refusal := .next (fallBackAll (dieFail die dead s))
/-- FLY_DRAINED (R408): DRAINED is programmed once no live entry is left. -/
def execFlyDrained (s : State) : Host.Outcome State Fault Refusal :=
  .next (if s.get F.FLY_STAT_STATE == 3 && s.fly.live.isEmpty then
    ((destagePage s).set F.FLY_STAT_STATE 4).modFly fun y => { y with drained := true } else s)
/-- FLY_WARM_OFFER (R414): the offer of a line, with the load of the last 1 ms. -/
def execFlyWarmOffer (sn way load : Nat) (s : State) : Host.Outcome State Fault Refusal := .next (if stopped s then s else warmOffer sn way load s)
/-- FLY_BLOCK_RESET (R418). -/
def execFlyBlockReset (s : State) : Host.Outcome State Fault Refusal := .next (flyReset s)
/-- FLY_PAGE_READ_DONE (R415). -/
def execFlyPageReadDone (nsid line : Nat) (ok : Bool) (s : State) : Host.Outcome State Fault Refusal := .next (warmRead nsid line ok s)

/-- A consistency check ends (R569). -/
def checkEnd (b : CheckBlock) (o : CheckObs) (s : State) : State :=
  match b with
  | .channel n => chanCheckEnd n o s
  | .fly => flyCheckEnd o s
  | .gath => let r := gathCheckEnd s; checkDone 9 r.1 r.2
  | .ket => if s.ket.checking then let t := ketCheckEnd s; checkDone 10 (ketReason s) t else s

/-- CONSISTENCY_CHECK_END (R569). -/
def execConsistencyCheckEnd (b : CheckBlock) (o : CheckObs) (s : State) : Host.Outcome State Fault Refusal := .next (checkEnd b o s)

end Sys2Proof.Machine
end

