-- ==== Sys2Proof/Machine/CacheMaint.lean ====
section
/-! DEFINITION. Range maintenance of the cache (R462 to R468), the loss of a pseudo-channel (R18, R445), uncorrectable DRAM words
(R444, R488) and the CACHE block reset (R472). -/

namespace Sys2Proof.Machine

/-! ### Range maintenance -/

/-- The sectors of a line that an operation invalidates leave; a line left with none leaves its way (R462, R466). -/
def invalidateSectors (m : Maint) (v : Way) (s : State) : State :=
  let left := v.valid &&& ~~~(m.mask v.line)
  if v.valid == 0#16 then s
  else
    let t := if wayLocked v.way s && left != v.valid then s.inc F.CACHE_MCNT_LOCK_INV else s
    if left == v.valid then s
    else if left == 0#16 then (if v.offered then offerEnd v.sn v.way false t else runWaiters (dropLine v t))
    else runWaiters (putWay v.sn v.way (some { v with valid := left, offered := false }) (if v.offered then t.incWrap F.CACHE_OFFERCNT_DECLINED else t))

def coveredWays (m : Maint) (s : State) : List Way := s.cache.ways.filter fun v => m.covers v.nsid v.line v.sn

/-- CLEAN_INVALIDATE: a whole line in range is offered; every other one is invalidated. -/
def cleanSectors (m : Maint) (v : Way) (s : State) : State :=
  if m.mask v.line == 0xFFFF#16 && v.offered then s
  else if m.mask v.line == 0xFFFF#16 && offers v s then
    putWay v.sn v.way (some { v with offered := true }) (if wayLocked v.way s then s.inc F.CACHE_MCNT_LOCK_INV else s)
  else invalidateSectors m v s

/-- PREFETCH of one line (R463): its fill opens, and its media reads are placed in buffers of the background use. None while the request for
them is not admitted. -/
def prefetchLine (m : Maint) (v : Ns) (ln : Nat) (s : State) : Option State :=
  if s.host.wb.any fun w => w.nsid == v.nsid && lineOverlaps ln w.lba w.cnt then some (s.inc F.CACHE_MCNT_PF_SKIP)
  else
    let bs := (List.range 16).map (ln * 16 + ·) |>.filter fun a => (m.mask ln).getLsbD (a % 16) && decide (a < v.nsze)
    let t := (openFill v.nsid ln (m.mask ln) true false none s).2
    if t.fly.warm.contains (v.nsid, ln) then some t
    else
      let spots := bs.filterMap fun a => match readSpot v a t with
        | some x => if chanReady (chOf x.1) t then some (a, x) else none
        | none => none
      if spots.isEmpty then some s
      else (tryAlloc 0xF 2 spots.length t).map fun g =>
        let xs := (spots.zip g.1).map fun x => (x.1.2.1, ({ blk := x.1.2.2.1, hdl := x.2, lb := some (v.nsid, x.1.1), fix := x.1.2.2.2 } : Sector))
        g.2.each allChans fun c u =>
          let mine := (xs.filter fun x => x.1 == c.val).map fun x => x.2
          if mine.isEmpty then u else (placeRun c 0x01 .spec [] 2 false false none mine u).2

/-- The lines of a PREFETCH that still wait, in order, as far as buffers are granted. -/
def prefetchLines (m : Maint) (v : Ns) : List Nat → State → State
  | [], s => s.modCache fun c => { c with pfLines := [] }
  | ln :: r, s => match prefetchLine m v ln s with
    | some t => prefetchLines m v r t
    | none => s.modCache fun c => { c with pfLines := ln :: r }

def maintLines (m : Maint) : List Nat := if m.cnt = 0 then [] else (List.range ((m.lba + m.cnt - 1) / 16 + 1 - m.lba / 16)).map (m.lba / 16 + ·)

/-- Lines of the running operation that have not been dealt with: offers not decided, prefetch fills not allocated or dropped, lines of a
PREFETCH still to be asked for. -/
def maintLeft (m : Maint) (s : State) : Nat :=
  (s.cache.ways.filter fun v => v.offered && m.op == 1 && m.covers v.nsid v.line v.sn).length + (s.cache.fills.filter fun f => f.pf).length +
    (s.cache.waitF.filter fun x => x.fill.pf).length + s.cache.pfLines.length

/-- PERCENT of the running operation. -/
def maintPercent (s : State) : State :=
  match s.cache.run with
  | some m => s.set F.CACHE_MAINT_STAT_PERCENT (if m.total = 0 then 0 else (m.total - maintLeft m s) * 100 / m.total)
  | none => s

/-- The engine deals with the lines of an operation. -/
def maintRun (m : Maint) (s : State) : State :=
  let m := { m with total := if m.op == 2 then (maintLines m).length else (coveredWays m s).length }
  let t := (s.modCache fun c => { c with run := some m }).setFlag F.CACHE_MAINT_STAT_BUSY true
  maintPercent <| if m.op == 2 then
    match t.ns m.nsid with
    | some v => prefetchLines m v (maintLines m) t
    | none => t
  else t.each (coveredWays m t) fun v u => match u.way v.sn v.way with
    | some w => if w.nsid == v.nsid && w.line == v.line then (if m.op == 1 then cleanSectors m w u else invalidateSectors m w u) else u
    | none => u

def maintInternal (s : State) : State :=
  s.setFlag F.CACHE_MAINT_STAT_INTERNAL ((s.cache.run.toList ++ s.cache.queue).any fun m => m.own)

/-- An INVALIDATE that the ON8C starts of its own; it queues behind a running operation (R465). A command waits for it. -/
def maintOwn (m : Maint) (s : State) : State :=
  let t := match m.cmd with | some k => s.modCmd k fun c => { c with items := c.items + 1 } | none => s
  maintInternal (if t.cache.run.isSome then t.modCache fun c => { c with queue := c.queue ++ [m] } else maintRun m t)

/-- The INVALIDATE of a namespace for a command. -/
def invalidateNs (nsid k : Nat) (s : State) : State := maintOwn ⟨0, 1, nsid, 0, 0, none, true, none, some k, 0⟩ s

/-- The reason for which GO is refused (R464). -/
def maintReject (op scp nsid lba cnt : Nat) (s : State) : Nat :=
  if s.cache.run.isSome || !s.cache.queue.isEmpty then 1
  else if op == 3 || scp == 3 then 2
  else if op == 2 && scp != 0 then 3
  else if scp ≤ 1 && (s.ns nsid).isNone then 4
  else if scp == 0 && (match s.ns nsid with | some v => decide (v.nsze < lba + cnt) | none => true) then 5
  else 0

/-- A write of GO with operation `op`. -/
def maintGo (op : Nat) (s : State) : State :=
  let t := s.set F.CACHE_MAINT_CMD_OP op
  let scp := t.get F.CACHE_MAINT_CMD_SCOPE
  let nsid := t.get F.CACHE_MAINT_CMD_NSID
  let lba := t.get (F.CACHE_MAINT_RANGE_VALUE 0) + t.get (F.CACHE_MAINT_RANGE_VALUE 1) * 4294967296
  let cnt := t.get (F.CACHE_MAINT_RANGE_VALUE 2)
  let r := maintReject op scp nsid lba cnt t
  if r ≠ 0 then t.set F.CACHE_MAINT_STAT_REJ r
  else
    let way := if t.flag F.CACHE_MAINT_CMD_WAY_EN then some (t.get F.CACHE_MAINT_CMD_TARGET_WAY) else none
    maintRun ⟨op, scp, nsid, lba, cnt, way, false, none, none, 0⟩ t

/-- Whether every line of the running operation has been dealt with: offers decided, prefetch fills allocated or dropped. -/
def maintEnded (m : Maint) (s : State) : Bool := maintLeft m s == 0

/-- A PREFETCH that waits for buffers asks again (R484). -/
def prefetchOn (m : Maint) (s : State) : State :=
  match s.cache.pfLines, s.ns m.nsid with
  | [], _ => s
  | _, none => s.modCache fun c => { c with pfLines := [] }
  | ls, some v => prefetchLines m v ls s

/-- CACHE_MAINT_DONE: an operation with lines left goes on with them; else BUSY falls, DONE is set, and the next operation of the ON8C's own starts. -/
def maintDone (s : State) : State :=
  match s.cache.run with
  | none => s
  | some m =>
    if !maintEnded m s then maintPercent (prefetchOn m s)
    else
      let t := ((s.modCache fun c => { c with run := none }).setFlag F.CACHE_MAINT_STAT_BUSY false).set F.CACHE_MAINT_STAT_PERCENT 100
      let t := if m.own then t else t.setFlag F.CACHE_MAINT_STAT_DONE true
      let t := match m.cmd with | some k => endItem k t | none => t
      match t.cache.queue with
      | q :: r => maintInternal (maintRun q (t.modCache fun c => { c with queue := r }))
      | [] => maintInternal t

/-! ### DRAM errors (R18, R444, R445, R488) -/

/-- A write whose entries still have to be programmed fails when a buffer of it is poisoned (R20, R488). -/
def failPoisoned (u : Nat) (s : State) : State :=
  s.each (s.host.cmds.filter fun c => c.wr && c.phase == 3 && c.status.isNone && s.fly.packH.any (fun e => decide (c.seq0 ≤ e.seq) && decide (e.seq < c.seq0 + c.seqLen)) &&
    c.handles.any fun h => decide (handleUnit h s ≤ u) && decide (u < handleUnit h s + poolUnits (handlePool h) s)) fun c t => failCmd c.k stInternal t

/-- The way whose side record holds byte `b` of unit `u` of the host-side region (R448). Where the side area begins in that region is a
free value. -/
def sideWay (u b : Nat) (s : State) : Option Way :=
  if s.cache.ways.isEmpty || decide (u < hostUnits s) then none
  else
    let x := (u - hostUnits s) * 4096 + b
    if x < Config.sideBase then none
    else
      let i := (x - Config.sideBase) / 1088
      s.way (i / 16) (i % 16)

/-- An uncorrectable word of a pseudo-channel (R444): counted and reported; a cache line is emptied (R456), a buffer's unit is
poisoned (R488). -/
def dramUe (pc : Fin 16) (ofs : Nat) (s : State) : State :=
  let t := (s.inc (F.CACHE_DRAMERR_UE_CNT pc)).raise (hostSrc 23) pc.val
  let u := unitAt pc.val ofs t
  if 8 ≤ pc.val then poisonUnit u (clearWays (wayAt pc.val ofs t).toList t)
  else clearWays (sideWay u (ofs % 4096) t).toList (failPoisoned u (poisonUnit u t))

/-- A channel is declared failed (R13): its heads park, its port is fenced, and its work is taken back. -/
def failChan (n : Ch) (s : State) : State := (chanUnavailable n (fenceChan n (parkHeads n false s))).chanEvent

/-- The host side stops using a pseudo-channel's slice of its region: free buffers there leave their pools, and versions of the write
buffer that lay there are read back from the Flyleaf before they are destaged (R18). -/
def loseSlice (pc : Nat) (s : State) : State :=
  let t := s.each allPools fun i u => poolSync i (u.modPool i fun p => { p with chip := p.chip.filter (indexOk i s), ring := p.ring.filter (indexOk i s) })
  t.modHost fun h => { h with wb := h.wb.map fun w => match w.hdl with
    | some x => if w.acc && unitPc (handleUnit x s) s == pc then { w with lost := true } else w
    | none => w }

/-- Lines whose side record lies partly in the slice of a faulty pseudo-channel are invalidated (R448). -/
def loseSides (pc : Nat) (s : State) : State :=
  clearWays (s.cache.ways.filter fun v => decide ((16 * v.sn + v.way) * 1088 / 4096 % 8 = pc ∨ ((16 * v.sn + v.way) * 1088 + 1087) / 4096 % 8 = pc)) s

/-- DRAM_PC_FAIL: a pseudo-channel is declared faulty (R445). -/
def pcFail (pc : Fin 16) (s : State) : State :=
  if s.flag F.CACHE_DRAMSTAT_TRAINED && !s.bit F.CACHE_DRAMSTAT_PC_OK pc then s
  else
    let t := (s.setBit F.CACHE_DRAMSTAT_PC_OK pc false).raise (hostSrc 24) pc.val
    if pc.val < 8 then
      let n : Ch := Fin.ofNat 8 pc.val
      loseSides pc.val (pump (loseSlice pc.val (loseChan n (failChan n t))))
    else
      let t := (t.setBit F.CACHE_STAT_PC_OFF (pc.val - 8) true).raise (hostSrc 26) (pc.val - 8)
      maintOwn ⟨0, 1, 0, 0, 0, none, true, some (pc.val - 8), none, 0⟩ t

/-! ### Block reset (R472) -/

/-- Every way is emptied, fills in flight are void, offers are withdrawn; the operations of the ON8C's own start again. The
pseudo-channels that are out of use stay so. -/
def cacheFlush (s : State) : State :=
  let again := (s.cache.run.toList ++ s.cache.queue).filter fun m => m.own
  let off := s.get F.CACHE_STAT_PC_OFF
  let t := s.modCache fun c =>
    { c with ways := [], plru := NatMap.empty, fills := c.fills.map fun f => { f with void := true, pf := false }, waitF := [], pfLines := [], run := none, queue := again.tail }
  let t := (t.resetRegs 0x400000 0x400050).set F.CACHE_STAT_PC_OFF off
  match again with
  | m :: _ => maintInternal (maintRun m t)
  | [] => t

/-- CACHE_BLOCK_RESET. -/
def cacheReset (s : State) : State := cacheFlush (resetRecord 6 3 s)

/-! ### Commands -/

/-- CACHE_MAINT_INVALIDATE (R462, R464): a register write. -/
def execCacheMaintInvalidate (s : State) : Host.Outcome State Fault Refusal := .next (arbWrite F.CACHE_MAINT_CMD_GO.addr (maintGo 0) s)
/-- CACHE_MAINT_CLEAN_INVALIDATE (R462, R464). -/
def execCacheMaintCleanInvalidate (s : State) : Host.Outcome State Fault Refusal := .next (arbWrite F.CACHE_MAINT_CMD_GO.addr (maintGo 1) s)
/-- CACHE_MAINT_PREFETCH (R463, R464). -/
def execCacheMaintPrefetch (s : State) : Host.Outcome State Fault Refusal := .next (arbWrite F.CACHE_MAINT_CMD_GO.addr (maintGo 2) s)
/-- CACHE_MAINT_DONE (R464). -/
def execCacheMaintDone (s : State) : Host.Outcome State Fault Refusal := .next (maintDone s)
/-- DRAM_UNCORRECTABLE (R444). -/
def execDramUncorrectable (pc : Fin 16) (ofs : Nat) (s : State) : Host.Outcome State Fault Refusal := .next (dramUe pc ofs s)
/-- DRAM_PC_FAIL (R445). -/
def execDramPcFail (pc : Fin 16) (s : State) : Host.Outcome State Fault Refusal := .next (pcFail pc s)
/-- CACHE_BLOCK_RESET (R472). -/
def execCacheBlockReset (s : State) : Host.Outcome State Fault Refusal := .next (cacheReset s)

end Sys2Proof.Machine
end

