-- ==== Sys2Proof/Machine/RegRead.lean ====
section
/-! DEFINITION. What a read of a set-up register returns (R573, R575, R583): the stored fields, and those that show state held
elsewhere. -/

namespace Sys2Proof.Machine

/-- ERR_N is low while a source with that reaction has its status bit set, and under R524 (R513). -/
def errLow (s : State) : Bool :=
  s.flag F.FAULT_STAT_SELF || (List.range 364).any fun i => s.bit (F.FAULT_STATUS_SRC (i / 32)) (i % 32) && (s.get (F.FAULT_REACT_REACT i)).testBit 5

/-- STATE of CHn.STITCH.STATp (R180). -/
def stitchState (n : Ch) (p : Pa) (s : State) : Nat :=
  let t := s.stit n p
  if t.mode = .halted then 6
  else if s.bit (F.STITCH_CTL_HALT n) p then 5
  else if t.frH.active then 4
  else if t.frN.active then 3
  else match t.mode with
    | .idle => 0
    | .waiting _ => 2
    | .running => 1
    | .halted => 6

/-- The words of a Stitcher's status registers, by their offset of four (R180). -/
def stitchField (n : Ch) (p : Pa) (f : Fld) (s : State) : Nat :=
  let t := s.stit n p
  let fr := fun (x : Frame) => match f.lo with
    | 0 => x.rpc.toNat
    | 13 => x.z.toNat
    | 14 => x.n.toNat
    | 15 => x.c.toNat
    | 16 => x.waiting.toNat
    | 17 => x.sp
    | 21 => x.vec.toNat
    | _ => x.active.toNat
  match (f.addr - chBase n - 0x100100) % 0x40 with
  | 0 => (match f.lo with
    | 0 => t.pc.toNat
    | 13 => stitchState n p s
    | 16 => t.stack.length
    | 20 => t.hcode.toNat
    | _ => t.lastAbt.toNat)
  | 4 => fr t.frN
  | 8 => fr t.frH
  | 12 => if f.lo = 0 then t.frN.data.toNat else t.frH.data.toNat
  | _ => t.abtRes.toNat

/-- A field as a read shows it. -/
def fieldRead (f : Fld) (s : State) : Nat :=
  if f.acc == .wo then 0
  else if f == F.GLB_REV_DRAM_GIB then (if s.small then 16 else 32)
  else if 0x10 ≤ f.addr ∧ f.addr < 0x24 then s.fuses.serial.val / 2 ^ (8 * (f.addr - 0x10)) % 4294967296
  else if f == F.FAULT_STAT_ERR then (errLow s).toNat
  else if f == F.COLO_SEQ_SEQ 0 then s.colo.headSeq / 4294967296
  else if f == F.COLO_SEQ_SEQ 1 then s.colo.headSeq % 4294967296
  else if f == F.COLO_SEQ_SEQ 2 then s.colo.oldest / 4294967296
  else if f == F.COLO_SEQ_SEQ 3 then s.colo.oldest % 4294967296
  else if f == F.COLO_STAT_UNMIRRORED then s.colo.unmirrored.length
  else if f == F.NVME_PORTSTAT_BIF then s.boot.bifur.toNat
  else if f == F.NVME_RLOCK_STRICT_NS then (s.host.nss.filter fun v => v.strict).length
  else if f == F.CACHE_STAT_SMALL then s.small.toNat
  else if f == F.FLY_SEQ_SEQ 0 then s.fly.nextSeq % 4294967296
  else if f == F.FLY_SEQ_SEQ 1 then s.fly.nextSeq / 4294967296 % 4294967296
  else if 0x2000000 ≤ f.addr then
    let n : Ch := Fin.ofNat 8 ((f.addr - 0x2000000) / 0x400000)
    let o := (f.addr - 0x2000000) % 0x400000
    if 0x100100 ≤ o ∧ o < 0x100200 then stitchField n (Fin.ofNat 4 ((o - 0x100100) / 0x40)) f s
    else if f == F.MOT_DEPTHSTAT_DEPTH n then pwmDepth n s
    else s.get f
  else s.get f

/-- The 32 bits of the register at an address; zero where none is described. -/
def regWord (a : Nat) (s : State) : Nat :=
  match regAt a with
  | some fs => fs.foldl (fun w f => w + fieldRead f s % 2 ^ f.width * 2 ^ f.lo) 0
  | none => 0

end Sys2Proof.Machine
end

