-- ==== Sys2Proof/Machine/Mem.lean ====
section
/-! DEFINITION. The protection of the on-chip SRAMs (R499 to R507): correctable and uncorrectable errors, remap tables, the
self-test, the armed flip, and the block resets of MEMPROT and REAM. -/

namespace Sys2Proof.Machine

/-! ### The flip (R505) -/

/-- Writing FLIPCTL.ARM, with expert access (R578). -/
def flipArm (path : RegPath) (mac : BitVec 12) (s : State) : State :=
  lockedWrite path F.MEMPROT_FLIPCTL_ARM.addr false (fun t => (t.set F.MEMPROT_FLIPCTL_MACRO mac.toNat).setFlag F.MEMPROT_FLIPCTL_ARM true) s

/-! ### Errors (R502, R503) -/

/-- MEMPROT_REMAP_MOVE: the corrected value is written into a free remap entry. -/
def remapMove (m word : Nat) (s : State) : State :=
  if !s.mem.moves.contains (m, word) then s
  else
    let t := s.modMem fun x => { x with moves := x.moves.filter (· != (m, word)) }
    if remapUsed m t < 4 then
      remapSync (t.modMem fun x => { x with remap := x.remap ++ [(m, word)], flips := x.flips.filter fun f => !(f.1 == m && f.2.1 == word) })
    else t.raise (hostSrc 32) m

/-- A write FIFO error: the older sector in it ends UNDERRUN, and an open gate parks (R126, R130). -/
def fifoUe (n : Ch) (p : Pa) (s : State) : State :=
  parkGate n p 0x15 (s.modPath n p fun q => { q with fifo := match q.fifo with | _ :: r => .broken :: r | [] => [] })

/-- The sector of a sample store that holds a word, of 12,768 words each: those that wait for their decode from the oldest on, then those
that ladders keep (DESIGN CHOICE, log entry 76: R94 places no sector). It is marked, so that its next step on kept samples fails (R94). -/
def sampleUe (n : Ch) (p : Pa) (word : Nat) (s : State) : State :=
  let k := word / 12768
  let w := (s.pathSt n p).wait
  if k < w.length then s.modPath n p fun q => { q with wait := q.wait.modify k fun b => { b with bad := true } }
  else
    match ((s.chan n).sched.ladders.filter fun l => l.path == p && l.kept.isSome)[k - w.length]? with
    | none => s
    | some l => s.modSched n fun y => { y with
        ladders := y.ladders.map fun x => if x.pos == l.pos then { x with kept := x.kept.map fun b => { b with bad := true } } else x }

/-- The state and bank memory of an engine: its self-check fails from now on (R235). -/
def engineUe (n : Ch) (b : Bool) (s : State) : State := s.modHinge n fun h => { h with memBad := setB h.memBad b.toNat }

/-- An uncorrectable error: counted and reported; the macro's user acts. -/
def sramUe (m word : Nat) (s : State) : State :=
  let t := ueNote m s
  if m < 0x100 then
    let n : Ch := Fin.ofNat 8 (m / 0x20)
    if m % 0x20 = 0 then storeUe n word t
    else if m % 0x20 ≤ 4 then sampleUe n (Fin.ofNat 4 (m % 0x20 - 1)) word t
    else if m % 0x20 = 0x0B ∨ m % 0x20 = 0x0C then engineUe n (m % 0x20 == 0x0C) t
    else if 5 ≤ m % 0x20 ∧ m % 0x20 ≤ 8 then fifoUe n (Fin.ofNat 4 (m % 0x20 - 5)) t
    else t
  else if m = 0x100 then tagError (word / 16) t
  else if 0x102 ≤ m ∧ m ≤ 0x111 then loseHandle (Fin.ofNat 16 (m - 0x102)) word t
  else t

/-! ### Self-test (R504) -/

/-- The self-test of a domain: `faulty` are the faulty words found. A macro with more than four fails repair. -/
def bist (d : Nat) (faulty : List (Nat × Nat)) (s : State) : State :=
  let mine := faulty.filter fun x => isMacro x.1 && macroDomain x.1 == d
  let ms := (mine.map fun x => x.1).dedup
  let bad := ms.filter fun m => decide (4 < (mine.filter fun x => x.1 == m).dedup.length)
  let t := s.modMem fun x => { x with
    seen := x.seen.filter fun y => macroDomain y.1 != d
    remap := (x.remap.filter fun y => macroDomain y.1 != d) ++ (mine.dedup.filter fun y => !bad.contains y.1)
    bist := (x.bist.filter fun y => macroDomain y != d) ++ bad
    moves := x.moves.filter fun y => macroDomain y.1 != d
    flips := x.flips.filter fun y => macroDomain y.1 != d }
  remapSync (t.each bad fun m u => u.raise (if m < 0x100 then chSrc (Fin.ofNat 8 (m / 0x20)) 36 else hostSrc 33) m)

/-! ### Block resets (R499, R507) -/

/-- MEMPROT_BLOCK_RESET: the registers, not the remap tables. -/
def memReset (s : State) : State :=
  remapSync ((resetRecord 6 6 s).resetRegs 0xA00000 0xB00000)

/-- Every buffer of every pool returns to the free ring; waits and operations end (R507). -/
def reamClear (s : State) : State :=
  let t := s.modReam fun r => { r with
    ctl := NatMap.empty, ans := [], err := false
    pools := r.pools.map fun (_ : Pool) => Pool.reset }
  t.each allPools poolSync

/-- REAM_BLOCK_RESET: commands whose buffers it held end with Internal Error, but run-on writes; the write buffer is read back from
the Flyleaf before destage goes on. -/
def reamReset (s : State) : State :=
    let s := resetRecord 6 4 s
    let held := s.host.cmds.filter fun c => c.status.isNone && !runsOn c && (!c.handles.isEmpty || !c.shares.isEmpty || decide (0 < c.wantBuf))
    let t := s.each held fun c u => failCmd c.k stInternal u
    let t := reamClear t
    let t := { t with host := { t.host with cmds := t.host.cmds.map fun (c : Cmd) => { c with shares := [], handles := [], wantBuf := 0 } } }
    pump (t.modHost fun h => { h with wb := h.wb.map fun w => { w with lost := w.hdl.isSome } })

/-! ### Commands -/

/-- SRAM_CORRECTABLE_ERROR (R502). -/
def execSramCorrectableError (mac word : Nat) (syn : Byte) (s : State) : Host.Outcome State Fault Refusal :=
  .next (if isMacro mac then sramCe mac word syn s else s)
/-- MEMPROT_REMAP_MOVE (R502). -/
def execMemprotRemapMove (mac word : Nat) (s : State) : Host.Outcome State Fault Refusal := .next (remapMove mac word s)
/-- SRAM_UNCORRECTABLE_ERROR (R503). -/
def execSramUncorrectableError (mac word : Nat) (s : State) : Host.Outcome State Fault Refusal :=
  .next (if isMacro mac then sramUe mac word s else s)
/-- MEMPROT_FLIP_ARM (R505). -/
def execMemprotFlipArm (path : RegPath) (mac : BitVec 12) (s : State) : Host.Outcome State Fault Refusal := .next (flipArm path mac s)
/-- MEMPROT_BLOCK_RESET (R507). -/
def execMemprotBlockReset (s : State) : Host.Outcome State Fault Refusal := .next (memReset s)
/-- REAM_BLOCK_RESET (R507). -/
def execReamBlockReset (s : State) : Host.Outcome State Fault Refusal := .next (reamReset s)
/-- REAM_POOL_ENABLE (R473): a write of 1 to POOLCFG.EN; a pool of SIZE 0b11 is refused. -/
def execReamPoolEnable (path : RegPath) (pool : PoolId) (s : State) : Host.Outcome State Fault Refusal :=
  .next (lockedWrite path (F.REAM_POOLCFG_EN pool).addr (s.flag (F.REAM_POOLCFG_EN pool)) (poolOn pool) s)

end Sys2Proof.Machine
end

