-- ==== Sys2Proof/Machine/Domain.lean ====
section
/-! DEFINITION. Power domains (R546 to R550): requests and their order, a domain that comes on, and what a domain loses when it is
switched off. -/

namespace Sys2Proof.Machine

/-! ### Order (R547, R548) -/

/-- The domains that a domain needs. DRAM_IF needs DRAM_STACK alone, since FABRIC needs it (DEDUCED, log entry 40). -/
def domNeeds (d : Nat) : List Nat :=
  if d < 32 then
    let c := d / 4 * 4
    match d % 4 with
    | 0 => [c + 2, c + 1]
    | 1 => [c + 2]
    | 2 => [35, 36]
    | _ => [c + 2]
  else match d with
    | 35 => [43, 36]
    | 36 => [37]
    | 37 | 43 | 45 | 46 | 47 | 48 => []
    | _ => [43, 35]

def allDomains : List Nat := List.range 50

/-- The domains requested on. -/
def domReq (s : State) : Nat := s.get (F.PWR_DOMCTL_REQ 0) + s.get (F.PWR_DOMCTL_REQ 1) * 4294967296
def setReq (v : Nat) (s : State) : State := (s.set (F.PWR_DOMCTL_REQ 0) v).set (F.PWR_DOMCTL_REQ 1) (v / 4294967296)

/-- Whether every domain of a request has the domains it needs in the request. -/
def reqClosed (v : Nat) : Bool := allDomains.all fun d => !v.testBit d || (domNeeds d).all fun x => v.testBit x

/-- A request with the bits no request changes taken from what stands: AON, FAULT, SIDEBAND, FUSE, and DRAM_IF and DRAM_STACK once
they are requested. -/
def reqFixed (old v : Nat) : Nat :=
  [36, 37].foldl (fun w d => if old.testBit d then withBit w d true else w)
    ([45, 46, 47, 48].foldl (fun w d => withBit w d (old.testBit d)) v)

def setDom (d : Nat) (b : Bool) (s : State) : State := s.setBit (F.PWR_DOMSTAT_ON (d / 32)) (d % 32) b

/-! ### PLLs (R28, R549) -/

/-- The lock bits of a domain's PLLs. -/
def setLocks (d : Nat) (b : Bool) (s : State) : State :=
  if d < 32 then
    match d % 4 with
    | 0 => s.setBit F.CLK_PLLSTAT_CH_LOCK (3 * (d / 4) + 1) b
    | 2 => s.setBit F.CLK_PLLSTAT_CH_LOCK (3 * (d / 4)) b
    | 3 => s.setBit F.CLK_PLLSTAT_CH_LOCK (3 * (d / 4) + 2) b
    | _ => s
  else match d with
    | 35 => s.setBit F.CLK_PLLSTAT_HOST_LOCK 0 b
    | 49 => s.setBit F.CLK_PLLSTAT_HOST_LOCK 1 b
    | 43 => s.setBit F.CLK_PLLSTAT_HOST_LOCK 2 b
    | 36 => s.setBit F.CLK_PLLSTAT_HOST_LOCK 3 b
    | 42 => s.setBit F.CLK_PLLSTAT_HOST_LOCK 4 b
    | 44 => s.setBit F.CLK_PLLSTAT_HOST_LOCK 5 b
    | _ => s

/-! ### Switching off (R549, R550) -/

/-- Registers, and shadows, of an address range return to their reset values. -/
def loseRegs (lo hi : Nat) (s : State) : State :=
  let t := s.resetRegs lo hi
  { t with force := t.force.clear (lo * 32) (hi * 32) }

/-- The channel of a domain is taken out of use before one of its domains goes off. -/
def quitChan (n : Ch) (s : State) : State :=
  if s.flag (F.PAGE_ENABLE_EN n) || s.get (F.PAGE_ENABLE_PHASE n) == 1 then
    (chanUnavailable n (fenceChan n (disableStart n s)))
  else s

/-- What a channel's domain loses. Media contents, the runs and the learned tables of the channel region stand. -/
def loseChanDom (n : Ch) (k : Nat) (s : State) : State :=
  let b := chBase n
  match k with
  | 0 => s.each allPaths (fun p u => u.modPath n p fun q => { q with
      pa := [], head := none, zone := none, fePower := false, zoneOk := false }) |> loseRegs b (b + 0x80000)
  | 1 =>
    let t := (loseRegs (b + 0x80000) (b + 0x180000) s) |> loseRegs (b + 0x300000) (b + 0x3F0000)
    let t := t.modChan n fun c => { c with
      st := Vector.replicate 4 Stitcher.reset
      path := c.path.map fun (q : PathSt) => { PathSt.reset with pa := q.pa, head := q.head, zone := q.zone, fePower := q.fePower, zoneOk := q.zoneOk }
      sched := { Sched.reset with runs := c.sched.runs }
      eqTbl := [] }
    { t with store := t.store.set n NatMap.empty }
  | 2 =>
    let t := loseRegs (b + 0x180000) (b + 0x280000) s
    let t := t.modChan n fun c => { c with servo := { Servo.reset with hdrs := c.servo.hdrs, tbl := c.servo.tbl, tblIn := c.servo.tblIn }, hinge := Hinge.reset }
    { t with pads := t.pads.set n NatMap.empty, banks := t.banks.set n NatMap.empty }
  | _ => (loseRegs (b + 0x280000) (b + 0x300000) s).modMot n fun m => { Motor.reset with speed := m.speed }

/-- Commands of both controllers are stopped, and the controllers, queues, lock table and parked work are lost. -/
def loseNvme (s : State) : State :=
  let t := s.each allCtls fun c u => (stopCmds c u).modCtlr c ctlClear
  let t := t.modHost fun h => { h with sqs := [], cqs := [], cmds := h.cmds.filter fun c => runsOn c, locks := [], parked := [], tracks := [] }
  loseRegs 0x300000 0x400000 (t.each allCtls fun c u => u.modCtlr c fun x => { x with rdy := false })

/-- What a host-side domain loses. -/
def loseHostDom (d : Nat) (s : State) : State :=
  match d with
  | 32 | 33 => s.each allCtls fun c u => if (if c == 0 then u.get F.NVME_PORTSTAT_RATE0 else u.get F.NVME_PORTSTAT_RATE1) == 0 then u else linkDown c u
  | 34 => loseNvme s
  | 35 => (loseRegs 0x408000 0x500000 s |> loseRegs 0x600000 0x700000 |> loseRegs 0xA00000 0xB00000).each allChans fun n u =>
      loseRegs (chBase n + 0x3F0000) (chBase n + 0x400000) u
  | 38 => loseRegs 0x400000 0x408000 (cacheFlush s)
  | 39 => loseRegs 0x500000 0x600000 (reamClear s)
  | 40 => { (loseRegs 0x700000 0x800000 s) with gath := { s.gath with check := none, recon := [] } }
  | 41 => loseRegs 0x800000 0x900000 (flyForget s)
  | 43 => { s with boot := { s.boot with staged := none } }
  | 44 => ({ (loseRegs 0x900000 0xA00000 s) with ket := Ket.reset } : State).each allChans fun n u => u.modServo n fun x => { x with vib := Vector.replicate 5 none }
  | _ => s

/-- The self-test entries of a domain's macros are lost with it (R549). -/
def loseMacros (d : Nat) (s : State) : State :=
  s.modMem fun x => { x with
    seen := x.seen.filter fun y => macroDomain y.1 != d
    remap := x.remap.filter fun y => macroDomain y.1 != d
    bist := x.bist.filter fun y => macroDomain y != d
    moves := x.moves.filter fun y => macroDomain y.1 != d
    flips := x.flips.filter fun y => macroDomain y.1 != d }

/-- A domain that is on is switched off. Loaded heads retract before CTL or MOT goes (R550). -/
def domOff (d : Nat) (s : State) : State :=
  if !domOn d s then s
  else
    let t := if d < 32 then
        let n : Ch := Fin.ofNat 8 (d / 4)
        loseChanDom n (d % 4) (quitChan n (s.when (decide (2 ≤ d % 4) && headsOff n s) (parkHeads n false)))
      else loseHostDom d s
    remapSync (setLocks d false (setDom d false (loseMacros d t)))

/-- The order in which domains go off: every domain after those that need it. -/
def offOrder : List Nat :=
  ((List.range 8).flatMap fun n => [4 * n, 4 * n + 1, 4 * n + 3, 4 * n + 2]) ++ [32, 33, 34, 38, 39, 40, 41, 42, 44, 49, 35, 36, 37, 43]

/-- Domains on and no longer requested go off. -/
def dropDomains (s : State) : State :=
  let v := domReq s
  s.each (offOrder.filter fun d => !v.testBit d) domOff

/-- A request, discarded when it breaks the order. -/
def request (v : Nat) (s : State) : State :=
  let w := reqFixed (domReq s) v
  if reqClosed w then dropDomains (setReq w s) else s

/-- MGMT requests more domains on. -/
def requestOn (ds : List Nat) (s : State) : State := setReq (ds.foldl (fun w d => withBit w d true) (domReq s)) s

/-- MGMT requests a channel's domains on, or off. -/
def chanDomains (n : Ch) (b : Bool) (s : State) : State :=
  let v := [4 * n.val, 4 * n.val + 1, 4 * n.val + 2, 4 * n.val + 3].foldl (fun w d => withBit w d b) (domReq s)
  dropDomains (setReq v s)

/-! ### Coming on (R504, R549, R567) -/

/-- What a write of a register of CACHE, the copy engine, GATH or MEMPROT does beyond what it stores and clears. -/
def blockEffect (a v : Nat) (s : State) : State :=
  if a = 0x400010 then s.when (v.testBit 31) (maintGo (v % 4))
  else if 0x600000 ≤ a ∧ a < 0x600800 ∧ a % 0x100 = 8 then
    let c : Ch := Fin.ofNat 8 ((a - 0x600000) / 0x100)
    if v.testBit 22 then dmaResume c s else dmaKick c s
  else if a = 0x700040 then s.when (v.testBit 2) (commitStart (Fin.ofNat 4 v) false false)
  else if a = 0xA00020 then remapSync s
  else s

/-- The windows whose profile is applied when a host-side domain comes on under an image (R36, R567). FLY and the channels take
theirs at their enable. -/
def domProfile (d : Nat) (s : State) : State :=
  if !s.boot.booted then s
  else match d with
    | 34 => applyProfile blockEffect 0x300000 0x400000 s
    | 38 => applyProfile blockEffect 0x400000 0x408000 s
    | 39 => applyProfile blockEffect 0x500000 0x600000 s
    | 40 => applyProfile blockEffect 0x700000 0x800000 s
    | _ => s

/-- The segments of the image that load into a channel. -/
def chanSegments (n : Ch) (s : State) : List Segment :=
  match s.boot.image with
  | some g => g.segments.filter fun x => x.chanMask.testBit n.val
  | none => []

/-- Once the four domains of a channel are on under an image that gives it a zone table, MGMT loads its store and issues or holds its START
(R567 step 8, R268). -/
def chanUp (d : Nat) (s : State) : State :=
  if 32 ≤ d then s
  else
    let n : Ch := Fin.ofNat 8 (d / 4)
    if s.boot.booted && chanOn n s && (imageZones n s).isSome then mgmtStart n (storeLoad n (chanSegments n s) s) else s

/-- DOMAIN_ON_COMPLETE: rail, self-test and PLLs have ended. During the power-loss sequence no domain comes on (R26). -/
def domainOn (d : Nat) (faulty : List (Nat × Nat)) (s : State) : State :=
  let ready := (domReq s).testBit d || (decide (45 ≤ d) && decide (d ≤ 47))
  if !ready || s.flag F.PWR_SUPPLY_PLOSS || domOn d s || !(domNeeds d).all fun x => domOn x s then s
  else
    let t := setLocks d true (setDom d true (bist d faulty s))
    let t := if d = 36 then (t.setFlag F.CACHE_DRAMSTAT_TRAINED true).set F.CACHE_DRAMSTAT_PC_OK 0xFFFF else t
    chanUp d (domProfile d t)

/-! ### Commands -/

/-- PWR_DOMCTL_WRITE (R548). -/
def execPwrDomctlWrite (path : RegPath) (hi : Bool) (v : W32) (s : State) : Host.Outcome State Fault Refusal :=
  .next (lockedWrite path (F.PWR_DOMCTL_REQ hi.toNat).addr false (fun t =>
    let old := domReq t
    request (if hi then old % 4294967296 + v.toNat % 262144 * 4294967296 else old / 4294967296 * 4294967296 + v.toNat) t) s)
/-- DOMAIN_ON_COMPLETE (R549). -/
def execDomainOnComplete (d : Fin 50) (faulty : List (Nat × Nat)) (s : State) : Host.Outcome State Fault Refusal := .next (domainOn d.val faulty s)

end Sys2Proof.Machine
end

