-- ==== Sys2Proof/Machine/Fault.lean ====
section
/-! DEFINITION. The fault collector (R508 to R525): latching with the fixed consequence and the reactions of a source, the safe state,
the conditions that hold a status bit, and the writes of FAULT.CTL. -/

namespace Sys2Proof.Machine

/-! ### Conditions (R517) -/

/-- Whether some die is out of service. -/
def dieIsOut (s : State) : Bool := s.fly.blks.any fun b => !(diesIn s).contains b.die

/-- The condition of a channel source: that of a Channel-fatal one lasts until its channel is reset; of the others those that name a
state have one. -/
def chanCondition (n : Ch) (k src : Nat) (s : State) : Bool :=
  s.rst.cond.contains src ||
  match k with
  | 3 => !(s.chan n).sched.noconv.isEmpty
  | 5 => (s.chan n).pflt
  | 7 => s.get (F.STITCH_LOADSTAT_CODE n) != 0
  | 18 => engState n false s == engNotReady || engState n true s == engNotReady
  | 19 => engState n false s == engRetired || engState n true s == engRetired
  | 25 => motState n s == stRun && !s.flag (F.MOT_STAT_IN_TOL n)
  | 32 => (s.mot n).vmotHi
  | _ => false

/-- Temperatures are signed. -/
def junction (s : State) : Int := sext 8 (s.get F.PWR_TEMP_TJ)

/-- The lock bits of the host PLLs whose domain is on. -/
def hostLocks (s : State) : List Nat := ([(35, 0), (49, 1), (43, 2), (36, 3), (42, 4), (44, 5)].filter fun x => domOn x.1 s).map fun x => x.2

/-- The condition of a host-side source. -/
def hostCondition (k : Nat) (s : State) : Bool :=
  match k with
  | 0 => s.get F.NVME_PORTSTAT_RATE0 == 0 || (s.boot.bifur && s.get F.NVME_PORTSTAT_RATE1 == 0)
  | 1 => !s.boot.bifur && s.get F.NVME_PORTSTAT_WIDTH0 == 4
  | 6 => s.flag F.KET_STAT_HOLDOVER
  | 11 => s.flag F.KET_STAT_OVERLENGTH
  | 15 => dieIsOut s
  | 16 => s.get F.FLY_STAT_STATE == 3 || s.get F.FLY_STAT_STATE == 4
  | 18 => allLayouts.any fun l => decide (2 ≤ s.get (F.GATH_LSTAT_STATE l))
  | 19 => allLayouts.any fun l => s.get (F.GATH_LSTAT_STATE l) == 4
  | 24 => s.flag F.CACHE_DRAMSTAT_TRAINED && s.get F.CACHE_DRAMSTAT_PC_OK != 0xFFFF
  | 26 => s.get F.CACHE_STAT_PC_OFF != 0
  | 33 => s.mem.bist.any fun m => decide (0x100 ≤ m)
  | 38 => (hostLocks s).any fun i => !s.bit F.CLK_PLLSTAT_HOST_LOCK i
  | 39 => s.rst.hot
  | 40 => decide (110 < junction s)
  | _ => false

/-- Whether the condition of a source persists. A Sealed source keeps its own until power-on. A Notice is cleared at any time (R509), but
KET_HOLDOVER, whose holdover R517 names as a condition (DEDUCED, log entry 41). -/
def condition (src : Nat) (s : State) : Bool :=
  if classReset src == 4 then true
  else if classReset src == 0 && src != hostSrc 6 then false
  else if src < 320 then chanCondition (chOf (src / 40)) (src % 40) src s
  else hostCondition (src - 320) s

/-! ### Status bits -/

def srcStatus (src : Nat) (s : State) : Bool := s.bit (F.FAULT_STATUS_SRC (src / 32)) (src % 32)

/-- A status bit is cleared, and recorded (R517). -/
def clearStatus (src : Nat) (s : State) : State :=
  (s.setBit (F.FAULT_STATUS_SRC (src / 32)) (src % 32) false).record src 0x0002 []

/-- Whether a report of a source is on its way to the collector. -/
def reported (src : Nat) (s : State) : Bool := s.raised.any fun r => r.src == src

/-- A W1C of status word `i`. A report on its way counts as one of the same cycle, and wins (R518; DESIGN CHOICE, log entry 41). -/
def statusClear (i v : Nat) (s : State) : State :=
  s.each ((List.range 32).filter fun b => v.testBit b && srcStatus (32 * i + b) s && !condition (32 * i + b) s && !reported (32 * i + b) s) fun b t =>
    clearStatus (32 * i + b) t

/-! ### The safe state (R520, R521, R379) -/

/-- Every OPEN command completes with Internal Error. A journalled write with a program begun keeps its entries. -/
def failAllOpen (s : State) : State :=
  s.each (s.host.cmds.filter fun c => c.isOpen && !c.dead) fun c t =>
    if c.wr && c.phase == 3 && c.begun then t.finish c.k stInternal else failCmd c.k stInternal t

/-- The unmirrored records go into the mirror at once. -/
def mirrorAll (s : State) : State :=
  { s with colo := { s.colo with mirror := (s.colo.unmirrored ++ s.colo.mirror).take 1048576, mirNext := s.colo.next } }

/-- Step 7 of R521 and step 3 of R556, step 6 of R25: the records, then a SHORT checkpoint, when FLY is enabled. -/
def flyLast (good : Bool) (s : State) : State :=
  if s.get F.FLY_STAT_STATE == 2 || s.get F.FLY_STAT_STATE == 3 then checkpoint false good (mirrorAll s) else s

/-- The safe state is entered for a source; a Sealed one seals it. -/
def enterSafe (src : Nat) (s : State) : State :=
  let t := s.when (classReset src == 4) fun u => u.setFlag F.FAULT_STAT_SEALED true
  if s.flag F.FAULT_STAT_SAFE then t
  else
    let t := t.setFlag F.FAULT_STAT_SAFE true
    let t := t.each allChans fun n u => parkAll n 0x1D u
    let t := (failAllOpen t).record (hostIdent 0x09) 0x0203 (bytesLe 2 src)
    let t := t.each allChans fun n u => parkHeads n true u
    if t.flag F.PWR_SUPPLY_PLOSS then t else flyLast true t

/-! ### Resets of the reactions (R514, R556) -/

/-- DMA_BLOCK_RESET: no STATUS is written (R507). -/
def dmaReset (s : State) : State := (resetRecord 6 5 s).resetRegs 0x600000 0x700000

/-- A chip reset starts: fetching stops, commands stop under R375, heads retract and spindles coast. A channel that writes a sector first
writes it to its end (R615). Ignored in the power-loss
sequence (R557). -/
def startChip (cause : Nat) (src : Option Nat) (s : State) : State :=
  if s.flag F.PWR_SUPPLY_PLOSS || s.rst.chip.isSome || s.rst.waitRel then s
  else
    let t := { (resetRecord 7 0 s) with rst := { s.rst with chip := some (cause, src) } }
    let t := t.setFlag F.NVME_INTAKE_FETCH_STOP true
    let t := t.each allCtls stopCmds
    t.each allChans fun n u => if sectorBegun n u then u else parkHeads n true u

/-- The block of a source is reset (R514, R519). -/
def blkReset (src : Nat) (s : State) : State :=
  match blkRstOf src with
  | none => s
  | some b =>
    if b < 8 then
      let n := chOf b
      let t := chanReset n s
      if classReset src != 2 then t
      else
        let t := t.when (srcStatus src t && !condition src t) (clearStatus src)
        { t with rst := { t.rst with reen := t.rst.reen.set n (some src) } }
    else match b with
      | 8 => ketReset s
      | 9 => flyReset s
      | 10 => gathReset s
      | 11 => cacheReset s
      | 12 => reamReset s
      | 13 => dmaReset s
      | _ => memReset s

/-! ### Latching (R509, R512, R515, R516) -/

/-- The fixed consequence of a source's class. -/
def consequence (src : Nat) (s : State) : State :=
  match classReset src with
  | 2 => failChan (chOf (src / 40)) { s with rst := { s.rst with cond := s.rst.cond ++ [src] } }
  | 3 | 4 => enterSafe src s
  | _ => s

/-- The selected reactions. MGMT reports reliability degraded from class Degraded on (PRESUMED, log entry 41). -/
def react (src : Nat) (s : State) : State :=
  let r := s.get (F.FAULT_REACT_REACT src)
  let t := s.when ((r.testBit 0 || r.testBit 1) && decide (1 ≤ classReset src)) fun u => u.aenAll 1 0 0x02
  let t := t.when (r.testBit 2) fun u => u.aenAll 7 0x03 0xC3
  let t := t.when (r.testBit 3) (blkReset src)
  t.when (r.testBit 4) (startChip 4 (some src))

/-- FAULT.FIRST takes a source, or OVF is set. `seq` is the number of its record. -/
def putFirst (src seq : Nat) (s : State) : State :=
  if s.flag F.FAULT_FIRST_VALID then s.setFlag F.FAULT_STAT_OVF true
  else
    let t := ((s.set F.FAULT_FIRST_SOURCE src).set F.FAULT_FIRST_CLASS (classReset src)).setFlag F.FAULT_FIRST_VALID true
    (t.set (F.FAULT_FIRSTSEQ_SEQ 0) seq).set (F.FAULT_FIRSTSEQ_SEQ 1) (seq / 4294967296)

/-- Whether the collector does not see a source: masked and not Sealed, or of an absent channel (R516). -/
def suppressed (src : Nat) (s : State) : Bool :=
  (decide (src < 320) && chanAbsent (chOf (src / 40)) s) ||
    (classReset src != 4 && s.bit (F.FAULT_MASK_MASK (src / 32)) (src % 32))

/-- One source is latched. -/
def latchOne (r : Raise) (s : State) : State :=
  if suppressed r.src s then s
  else
    let was := srcStatus r.src s
    let t := ((s.setBit (F.FAULT_STATUS_SRC (r.src / 32)) (r.src % 32) true).inc (F.FAULT_REACT_COUNT r.src)).inc F.FAULT_STAT_LATCH_CNT
    let pl := bytesLe 2 r.inst ++ bytesLe 2 r.cause ++ bytesLe 4 r.status
    let seq := if t.colo.repeats r.src 0x0001 (payload16 pl) then t.colo.headSeq else t.colo.next
    let t := putFirst r.src seq (t.record r.src 0x0001 pl)
    if was then t else react r.src (consequence r.src t)

/-- Reports in rising order of their sources, equal ones in the order made (R32). -/
def insertRaise (r : Raise) : List Raise → List Raise
  | [] => [r]
  | x :: l => if r.src < x.src then r :: x :: l else x :: insertRaise r l

/-- FAULT_SOURCE_LATCH: the oldest report reaches the collector, with the next `same` in the same CLK_AON cycle. -/
def latch (same : Nat) (s : State) : State :=
  let now := (s.raised.take (same + 1)).foldl (fun (l : List Raise) r => insertRaise r l) []
  ({ s with raised := s.raised.drop (same + 1) }).each now latchOne

/-- The reports on their way that a write of a mask or reaction register concerns are latched before it acts (R518; DESIGN CHOICE, log entry
41, as for a W1C). -/
def latchBefore (a : Nat) (s : State) : State :=
  let hit := fun (r : Raise) => (decide (0x100140 ≤ a ∧ a < 0x100170) && (a - 0x100140) / 4 == r.src / 32) ||
    (decide (0x100400 ≤ a ∧ a < 0x100A00) && (a - 0x100400) / 4 == r.src)
  ({ s with raised := s.raised.filter fun r => !hit r }).each (s.raised.filter hit) latchOne

/-- FAULT_SELF (R524). -/
def faultSelf (s : State) : State := enterSafe (hostSrc 34) (latchOne ⟨hostSrc 34, 0xFFFF, 0, 0⟩ (s.setFlag F.FAULT_STAT_SELF true))

/-- The enables of R519 that MGMT has made of a channel within the last hour of powered-on time. -/
def reenables (n : Ch) (s : State) : List Nat := s.rst.reenAt[n].filter fun t => decide (s.fly.pot < t + 3600)

/-- MGMT_CHANNEL_REENABLE (R519): the spindle is started first (R291); the row acts again once it runs. After the third enable within an
hour the channel stays failed. -/
def reenable (n : Ch) (s : State) : State :=
  if s.rst.reen[n].isNone || spinsUp n s then s
  else if 3 ≤ (reenables n s).length then { s with rst := { s.rst with reen := s.rst.reen.set n none } }
  else if needsStart n s then mgmtStart n s
  else
    enableStart n (breakSeq { s with rst := { s.rst with reen := s.rst.reen.set n none, reenAt := s.rst.reenAt.set n (reenables n s ++ [s.fly.pot]) } })

/-! ### Commands -/

/-- FAULT_SOURCE_LATCH (R515). -/
def execFaultSourceLatch (same : Nat) (s : State) : Host.Outcome State Fault Refusal := .next (latch same s)
/-- FAULT_STATUS_CLEAR (R517): a register write. -/
def execFaultStatusClear (i : Fin 12) (v : W32) (s : State) : Host.Outcome State Fault Refusal :=
  .next (arbWrite (F.FAULT_STATUS_SRC i.val).addr (statusClear i.val v.toNat) s)
/-- FAULT_FORCE_SAFE (R511, R578). -/
def execFaultForceSafe (path : RegPath) (s : State) : Host.Outcome State Fault Refusal :=
  .next (lockedWrite path F.FAULT_CTL_FORCE_SAFE.addr false (fun t => t.raise (hostSrc 36)) s)
/-- FAULT_CHIP_RST (R523). -/
def execFaultChipRst (s : State) : Host.Outcome State Fault Refusal := .next (arbWrite F.FAULT_CTL_CHIP_RST.addr (startChip 3 none) s)
/-- FAULT_SELF (R524). -/
def execFaultSelf (s : State) : Host.Outcome State Fault Refusal := .next (faultSelf s)
/-- MGMT_CHANNEL_REENABLE (R519). -/
def execMgmtChannelReenable (n : Ch) (s : State) : Host.Outcome State Fault Refusal := .next (reenable n s)
/-- MGMT_WDOG (R511). -/
def execMgmtWdog (s : State) : Host.Outcome State Fault Refusal := .next (s.raise (hostSrc 37))
/-- DMA_BLOCK_RESET (R507). -/
def execDmaBlockReset (s : State) : Host.Outcome State Fault Refusal := .next (dmaReset s)

end Sys2Proof.Machine
end

