-- ==== Sys2Proof/Machine/Boot.lean ====
section
/-! DEFINITION. Start-up (R555 to R567): what a power-on reset and a chip reset keep, the fuses, the checks of a Cyhal image, and the
boot. -/

namespace Sys2Proof

open Machine

/-! ### The bytes of a Cyhal image (R564) -/

/-- The little-endian field of `k` bytes at an offset of an image. -/
def Image.field (g : Image) (ofs k : Nat) : Nat := ofBytesLe (((g.bytes.drop ofs).take k).map BitVec.toNat)

def Image.magic (g : Image) : Nat := g.field 0x000 4
def Image.format (g : Image) : Nat := g.field 0x004 2
def Image.key (g : Image) : Nat := g.field 0x006 2
def Image.size (g : Image) : Nat := g.field 0x008 4
def Image.baseVer (g : Image) : Nat := g.field 0x00C 2
def Image.rollback (g : Image) : Nat := g.field 0x00E 1
def Image.flags (g : Image) : Nat := g.field 0x00F 1
def Image.sections (g : Image) : Nat := g.field 0x010 4

/-- The bytes from `lo` up to `hi`. -/
def Image.part (g : Image) (lo hi : Nat) : List Nat := ((g.bytes.drop lo).take (hi - lo)).map BitVec.toNat

/-- The SHA-384 of PUBKEY, as the fuses hold one. -/
def Image.pubHash (g : Image) : Nat := ofBytesLe (sha384 (g.part 0x0B0 0x111))

/-- HASH is the SHA-384 of bytes 0x0B0 to SIZE − 1. -/
def Image.hashOk (g : Image) : Bool := g.part 0x020 0x050 == sha384 (g.part 0x0B0 g.size)

/-- Entry `i` of the section directory: its type is known, its bounds hold, and its section has the CRC-32C it gives (R565). -/
def Image.entryOk (g : Image) (i : Nat) : Bool :=
  let at_ := 0x120 + 16 * i
  let ofs := g.field (at_ + 4) 4
  let len := g.field (at_ + 8) 4
  decide (1 ≤ g.field at_ 2) && decide (g.field at_ 2 ≤ 6) && decide (ofs + len ≤ g.size) && g.field (at_ + 12) 4 == crc32c (g.part ofs (ofs + len))

def Image.dirOk (g : Image) : Bool := decide (0x120 + 16 * g.sections ≤ g.size) && (List.range g.sections).all g.entryOk

end Sys2Proof

namespace Sys2Proof.Machine

/-! ### What lasts (R377, R555) -/

/-- What the dies of the Flyleaf hold, and the counts of R417. -/
def Fly.media (y : Fly) : Fly :=
  { Fly.reset with
    blks := y.blks, bands := y.bands.map fun b => if b.st == .victim then { b with st := .verified } else b, pages := y.pages
    nextId := y.nextId, nextBand := y.nextBand, sysDst := y.sysDst, retired := y.retired, hour := y.hour, ckpts := y.ckpts, ckGen := y.ckGen
    roRec := y.roRec, drained := y.drained, used := y.used, spare0 := y.spare0, nsgen := y.nsgen, grown := y.grown, tables := y.tables
    hostEnt := y.hostEnt, copied := y.copied }

/-- What a gathering layout has in the system area. Stripes whose intent had not lapsed are resynced (R429). -/
def Layout.media (y : Layout) : Layout :=
  { y with pendInt := [], locks := [], rebAt := 0, resync := (y.intents.map fun z => z.1).dedup }

/-- A zone after a reset of the device: an open one is closed, or empty (PRESUMED, log entry 7). -/
def Zone.afterReset (z : Zone) : Zone := if z.isOpen then { z with st := if z.wp = 0 then 0 else 3 } else z

/-- A namespace after a reset; registrations and a reservation without PTPL end with the power. -/
def Ns.afterReset (power : Bool) (v : Ns) : Ns :=
  { v with
    busy := false
    zones := v.zones.map Zone.afterReset
    resv := if power && !v.resv.ptpl then { v.resv with regs := [], holder := none, typ := none } else v.resv }

/-- A controller after a reset of the device: saved features stand. -/
def Ctlr.afterReset (t : Ctlr) : Ctlr := { ctlClear t with rdy := false, errs := [], errCnt := 0, changed := [], resLog := [], aerLog := 0 }

def HostSt.afterReset (power : Bool) (h : HostSt) : HostSt :=
  { HostSt.reset with
    nss := h.nss.map (Ns.afterReset power), ctls := h.ctls.map Ctlr.afterReset, tests := h.tests, sanSt := h.sanSt, sanDw := h.sanDw }

/-- What the media of a channel hold: the runs and the system area; the spindle's speed and the level of PFLT_N stand. The learned
tables of the channel region, in the buffer DRAM, are lost when the power has gone (R218). -/
def Chan.media (power : Bool) (c : Chan) : Chan :=
  { Chan.reset with
    sched := { Sched.reset with runs := c.sched.runs }
    servo := if power then Servo.reset else { Servo.reset with hdrs := c.servo.hdrs, tbl := c.servo.tbl, tblIn := c.servo.tblIn }
    mot := { Motor.reset with speed := c.mot.speed }
    pflt := c.pflt
    sys := c.sys }

/-- The boot-control sector that governs: the newest valid one (R563). -/
def Boot.governs (b : Boot) : Option (Fin 2) :=
  match b.ctl[0], b.ctl[1] with
  | none, none => none
  | some _, none => some 0
  | none, some _ => some 1
  | some x, some y => if x.1 < y.1 then some 1 else some 0

/-- The active slot; slot 0 with no valid sector. -/
def Boot.active (b : Boot) : Nat := match b.governs with | some i => (b.ctl[i].map fun x => x.2 % 2).getD 0 | none => 0

/-- MGMT writes the other boot-control sector with a slot and the next generation (R563). It runs at the next reset (R333). -/
def Boot.select (i : Nat) (b : Boot) : Boot :=
  let g := match b.governs with | some j => (b.ctl[j].map fun x => x.1).getD 0 | none => 0
  { b with ctl := b.ctl.set (if b.governs == some 0 then 1 else 0 : Fin 2) (some (g + 1, i)), nextAct := some i }

/-- What the boot flash keeps. -/
def Boot.afterReset (b : Boot) : Boot := { Boot.reset with slots := b.slots, ctl := b.ctl, bifur := b.bifur }

/-- The state every reset of the whole device leaves, with the registers `r`. -/
def afterReset (power : Bool) (r : NatMap) (s : State) : State :=
  { State.reset with
    pending := s.pending, regs := r, freeCtr := s.freeCtr, small := s.small
    chans := s.chans.map (Chan.media power)
    fuses := { s.fuses with window := NatMap.empty }
    boot := s.boot.afterReset
    rst := { Rst.reset with rstLow := s.rst.rstLow, perst := s.rst.perst }
    fly := s.fly.media
    gath := { Gath.reset with lay := s.gath.lay.map Layout.media }
    host := s.host.afterReset power }

/-- The SHORT checkpoint that the power-loss sequence was still to write. -/
def endPloss (s : State) : State := if s.rst.ckptOpen then flyLast true s else s

/-! ### Fuses (R559, R560, R562) -/

def FuseField.blank (f : FuseField) : Bool := f.val == 0 && f.crc == 0

/-- Whether a field of `n` bytes passes its integrity check. -/
def FuseField.good (n : Nat) (f : FuseField) : Bool := f.blank || f.crc == crc32c (bytesLe n f.val)

def onesCount (v : Nat) : Nat := bitCount 32 v

/-- A thermometer copy one step up. -/
def stepUp (v : Nat) : Nat := v + 2 ^ onesCount v

/-- The ROLLBACK copies at power-on: an interrupted step is completed; none when they differ otherwise. -/
def rollbackRead (f : Fuses) : Option Fuses :=
  if f.rbA = f.rbB then some f
  else if f.rbA = stepUp f.rbB then some { f with rbB := f.rbA }
  else if f.rbB = stepUp f.rbA then some { f with rbA := f.rbB }
  else none

/-- F: the blown bits of one copy. -/
def rollbackF (s : State) : Nat := onesCount s.fuses.rbA

/-- The fuse read of a power-on; `same`: the two reads of every field agree. -/
def fuseRead (same : Bool) (s : State) : State :=
  let f := s.fuses
  let r := rollbackRead f
  let ok := same && f.serial.good 20 && f.keyhash.good 48 && f.clearkey.good 32 && r.isSome
  let t := { s with fuses := r.getD f }
  let t := t.setFlag F.RST_FUSEPROG_BLANK (f.keyhash.blank && f.clearkey.blank)
  let t := t.set F.RST_BOOTSTAT_FUSE_RB (rollbackF t)
  if ok then t else t.raise (hostSrc 35)

/-! ### Bring-up (R567) -/

/-- Steps 2 and 3: MGMT runs and requests the first domains. -/
def bringUp (s : State) : State := requestOn [43, 36, 37, 35, 49, 32, 33] s

/-- Bring-up, or the hold that a low RST_N extends (R540, R556). -/
def startUp (s : State) : State := if s.rst.rstLow then { s with rst := { s.rst with waitRel := true } } else bringUp s

/-- The registers that a power-on reset leaves: the layouts alone come back, from the Flyleaf. -/
def powerRegs (r : NatMap) : NatMap := (r.clear 0 (0x700000 * 32)).clear (0x700040 * 32) (0x4000000 * 32)

/-- A power-on reset is released. -/
def powerOn (cause : Nat) (bifur fuseSame : Bool) (s : State) : State :=
  let s := endPloss s
  let t := { (afterReset true (powerRegs (dropDrafts s).regs) s) with
    boot := { s.boot.afterReset with bifur := bifur }
    colo := { Colo.reset with limit := s.colo.limit, mirror := s.colo.mirror, lastClr := s.colo.lastClr } }
  let t := coloStart t
  let t := (((t.set F.RST_CAUSE_CAUSE cause).setFlag F.PWR_SUPPLY_VIN_OK true).setFlag F.CLK_PLLSTAT_XTAL_OK true)
  startUp (setDom 46 true (setDom 47 true (fuseRead fuseSame t)))

/-! ### Chip reset (R523, R556) -/

/-- The registers that a chip reset leaves: FAULT, COLO, the domains, PLLs and supply, RST.CAUSE, the failed pseudo-channels, the
layouts, and those R418 names. -/
def chipRegs (s : State) : State :=
  let rs := [(0, 0x100000), (0x120000, 0x200000), (0x200004, 0x201000), (0x201014, 0x201018), (0x20101C, 0x202000), (0x202004, 0x202480),
    (0x300000, 0x700000), (0x700040, 0x800000), (0x900000, 0x4000000)]
  let t := dropDrafts (rs.foldl (fun (u : State) r => u.resetRegs r.1 r.2) s)
  let t := (t.set F.CACHE_STAT_PC_OFF (s.get F.CACHE_STAT_PC_OFF)).set F.CACHE_DRAMSTAT_PC_OK (s.get F.CACHE_DRAMSTAT_PC_OK)
  let t := t.setFlag F.CACHE_DRAMSTAT_TRAINED (s.flag F.CACHE_DRAMSTAT_TRAINED)
  let t := (t.set F.RST_BOOTSTAT_FUSE_RB (rollbackF s)).set F.RST_FUSEPROG_RESULT 0
  let t := t.each allChans fun n u => if motState n s == stOff then u else u.set (F.MOT_STAT_STATE n) stCoast
  flyRegs t

/-- A reset that finds no bar leaves the safe state; one taken as the reaction of a Device-fatal source first clears its bit when its
condition has ended (R523). -/
def leaveSafe (src : Option Nat) (s : State) : State :=
  let t := match src with
    | some x => if classReset x == 3 && srcStatus x s && !condition x s then clearStatus x s else s
    | none => s
  let fatal := (List.range 384).any fun x => classReset x == 3 && srcStatus x t
  if t.flag F.FAULT_STAT_SEALED || fatal then t else t.setFlag F.FAULT_STAT_SAFE false

/-- CHIP_RESET_TAKEN: the checkpoint is written, and every block but FAULT and COLO is reset. -/
def chipTaken (s : State) : State :=
  match s.rst.chip with
  | none => s
  | some (cause, src) =>
    if allChans.any fun n => s.flag (F.MOT_STAT_RETRACTING n) || sectorBegun n s then s
    else
      let u := chipRegs (leaveSafe src (flyLast true s))
      let t := { (afterReset false u.regs s) with
        colo := u.colo, raised := u.raised, dram := s.dram, mem := { s.mem with flips := [], moves := [] }
        rst := { Rst.reset with rstLow := s.rst.rstLow, perst := s.rst.perst, hot := s.rst.hot } }
      startUp (remapSync (t.set F.RST_CAUSE_CAUSE cause))

/-! ### The Cyhal image (R564 to R566) -/

/-- Whether the hash of an image's key is the one its KEY names. -/
def keyOk (g : Image) (s : State) : Bool :=
  if g.key == 0 then g.pubHash == Config.romHash
  else g.key == 1 && !s.fuses.keyhash.blank && g.pubHash == s.fuses.keyhash.val

/-- The reason code of a slot; zero when the image is accepted. -/
def imageReason (g : Option Image) (read : Bool) (s : State) : Nat :=
  match g with
  | none => if read then 1 else 2
  | some g =>
    if g.magic ≠ 0xC7A11A6E ∨ g.format ≠ 1 ∨ 16777216 < g.size ∨ g.size < 0x120 ∨ 32 < g.rollback then 1
    else if !read then 2
    else if !keyOk g s then 3
    else if !g.sigOk then 4
    else if !g.hashOk then 5
    else if g.rollback < rollbackF s then 6
    else if !g.dirOk then 7
    else 0

/-- The code of R565 for a slot, shown in BOOTSTAT; a rejection raises IMAGE_REJECT. -/
def noteSlot (slot r : Nat) (s : State) : State :=
  let t := s.set (if slot = 0 then F.RST_BOOTSTAT_REJ0 else F.RST_BOOTSTAT_REJ1) r
  if r = 0 then t else t.raise (hostSrc 43) slot r

/-- Two fields from the programming window: 48 bytes of key hash, 32 of clear key. -/
def windowField (lo n : Nat) (s : State) : FuseField :=
  let bs := s.fuses.window.getRun lo n
  ⟨ofBytesLe bs, crc32c bs⟩

/-- A commit of KEYHASH and CLEARKEY (R561); `back`: the read-back agrees. -/
def fuseProgram (back : Bool) (s : State) : State :=
  if !s.fuses.keyhash.blank || !s.fuses.clearkey.blank then s.set F.RST_FUSEPROG_RESULT 2
  else
    let t := { s with fuses := { s.fuses with keyhash := windowField 0 48 s, clearkey := windowField 48 32 s } }
    let t := t.setFlag F.RST_FUSEPROG_BLANK (t.fuses.keyhash.blank && t.fuses.clearkey.blank)
    t.set F.RST_FUSEPROG_RESULT (if back then 1 else 3)

/-- Resets that a write of RST.BLKRST asks for, in the order of its bits. -/
def blkResets (v : Nat) (s : State) : State :=
  let go := fun (b : Nat) (f : State → State) (t : State) => t.when (v.testBit b) f
  go 6 memReset (go 5 dmaReset (go 4 reamReset (go 3 cacheReset (go 2 gathReset (go 1 flyReset (go 0 ketReset s))))))

/-- What a write of a register of the host side does beyond what it stores and clears. -/
def hostEffect (a v : Nat) (s : State) : State :=
  if a = 0x100010 then
    (s.when (v.testBit 1) fun t => t.raise (hostSrc 36)).when (v.testBit 0) (startChip 3 none)
  else if a = 0x110018 then coloClear (BitVec.ofNat 32 v) (s.fresh.getLsbD 0) s.used
  else if a = 0x202004 then s.each (allChans.filter fun n => v.testBit n.val) chanReset
  else if a = 0x202008 then blkResets v s
  else if a = 0x202480 then (if v % 65536 = 0xF05E then fuseProgram (s.fresh.getLsbD 0) s.used else s)
  else blockEffect a v s

/-- A register of the host side, the enables apart, is written: the status words clear by their own rule (R517), and DOMCTL is a request
(R548). -/
def hostWrite (open_ : Bool) (a v : Nat) (s : State) : State :=
  if 0x100100 ≤ a ∧ a < 0x100130 then statusClear ((a - 0x100100) / 4) v s
  else if a = 0x201008 ∨ a = 0x20100C then
    (if open_ then
      let old := domReq s
      request (if a = 0x20100C then old % 4294967296 + v % 262144 * 4294967296 else old / 4294967296 * 4294967296 + v) s
    else discard a s)
  else hostEffect a v (plainWrite open_ a v (latchBefore a s))

/-- Channels for which the image has a zone table; the others stay absent (R14). -/
def imageChans (g : Image) : List Nat := (List.range 8).filter fun n => (g.zones.getD n none).isSome

/-- The image of a slot runs: its flags and identity, the profile of every block that is up, and the requests of steps 6 to 8. -/
def bootImage (slot : Nat) (g : Image) (s : State) : State :=
  let t := { s with boot := { s.boot with image := some g, booted := true, chUp := 0 } }
  let t := (t.setFlag F.RST_BOOTSTAT_RECOVERY false).set F.RST_BOOTSTAT_SLOT slot
  let t := (t.set F.RST_BOOTSTAT_IMG_RB g.rollback).set F.GLB_VERSION_IMG_RB g.rollback
  let t := (t.set F.GLB_VERSION_IMG_VER g.baseVer).setFlag F.GLB_VERSION_RECOVERY false
  let t := t.setFlag F.GLB_EXPERT_DENY_DENY (g.flags.testBit 0)
  let t := t.modHost fun h => { h with i3c := { h.i3c with static := if g.i3cAddr = 0 then 0x1D else g.i3cAddr } }
  let t := match g.nand with
    | some x => (((t.set F.FLY_GEOM_PAGES x.pages).set F.FLY_GEOM_PLANES x.planes).set F.FLY_GEOM_SYS_BLOCKS x.sysBlocks).set F.FLY_GEOM_DIES x.dies
    | none => t
  let prof := fun (lo hi : Nat) (u : State) => u.each (g.profile.filter fun w => decide (lo ≤ w.addr) && decide (w.addr < hi)) fun w => hostWrite true w.addr w.val
  let t := prof 0xA00000 0xB00000 (prof 0x600000 0x700000 (prof 0x408000 0x500000 (prof 0x100000 0x300000 t)))
  let t := t.each [34, 38, 39, 40] fun d u => if domOn d u then domProfile d u else u
  requestOn ([34, 38, 39, 40, 41, 42, 44] ++ (imageChans g).flatMap fun n => [4 * n, 4 * n + 1, 4 * n + 2, 4 * n + 3]) t

/-- Recovery mode: identity from mask ROM, and no channel, FLY or namespace. -/
def bootRecovery (s : State) : State :=
  let t := { s with boot := { s.boot with image := none, booted := true, chUp := 0 } }
  let t := (t.setFlag F.RST_BOOTSTAT_RECOVERY true).setFlag F.GLB_VERSION_RECOVERY true
  let t := ((t.set F.GLB_VERSION_IMG_VER 0).set F.GLB_VERSION_IMG_RB 0).set F.RST_BOOTSTAT_IMG_RB 0
  requestOn [34, 38, 39, 40, 44] (t.setFlag F.GLB_EXPERT_DENY_DENY false)

/-- BOOT_IMAGE_CHECK: the active slot, and when it is rejected the other; `read0` and `read1`: the flash reads of slots 0 and 1 succeed. -/
def bootCheck (read0 read1 : Bool) (s : State) : State :=
  if s.boot.booted || !domOn 43 s || s.rst.waitRel || s.rst.chip.isSome || s.flag F.PWR_SUPPLY_PLOSS then s
  else
    let a := s.boot.active
    let img := fun (i : Nat) => (s.boot.slots.toList.getD i none)
    let rd := fun (i : Nat) => if i = 0 then read0 else read1
    let r := imageReason (img a) (rd a) s
    let t := noteSlot a r s
    if r = 0 then (match img a with | some g => bootImage a g t | none => t)
    else
      let b := 1 - a
      let q := imageReason (img b) (rd b) s
      let t := noteSlot b q t
      if q = 0 then (match img b with | some g => bootImage b g t | none => t) else bootRecovery t

/-- PERST_RELEASE: the port trains again. After PERST0_N an image committed for activation boots (R333). -/
def perstRelease (c : Ctl) (s : State) : State :=
  if !s.rst.perst[c] then s
  else
    let t := { s with rst := { s.rst with perst := s.rst.perst.set c false } }
    if s.boot.nextAct.isSome && c == 0 then { t with boot := { t.boot with nextAct := none, booted := false } } else t

/-- ROLLBACK_FUSE_UPDATE (R562). -/
def rollbackUpdate (s : State) : State :=
  match s.boot.image with
  | none => s
  | some g =>
    if allCtls.any (fun c => (s.ctlr c).rdy) && decide (rollbackF s < g.rollback) then
      let v := 2 ^ g.rollback - 1
      let t := { s with fuses := { s.fuses with rbA := v, rbB := v } }
      t.set F.RST_BOOTSTAT_FUSE_RB (rollbackF t)
    else s

/-- RST_N_RELEASE: boot starts when the reset has been taken. -/
def rstRelease (s : State) : State :=
  let t := { s with rst := { s.rst with rstLow := false, waitRel := false } }
  if s.rst.waitRel then bringUp t else t

/-! ### Commands -/

/-- POWER_ON_RESET (R567). -/
def execPowerOnReset (bifur fuseSame : Bool) (s : State) : Host.Outcome State Fault Refusal := .next (powerOn 1 bifur fuseSame s)
/-- BROWN_OUT_RESET (R545): after a power-loss sequence. -/
def execBrownOutReset (s : State) : Host.Outcome State Fault Refusal :=
  .next (if s.flag F.PWR_SUPPLY_PLOSS then powerOn 5 s.boot.bifur true s else s)
/-- RST_N_ASSERT (R556). -/
def execRstNAssert (s : State) : Host.Outcome State Fault Refusal :=
  .next (if s.rst.rstLow then s else startChip 2 none { s with rst := { s.rst with rstLow := true } })
/-- RST_N_RELEASE (R556). -/
def execRstNRelease (s : State) : Host.Outcome State Fault Refusal := .next (rstRelease s)
/-- CHIP_RESET_TAKEN (R556). -/
def execChipResetTaken (s : State) : Host.Outcome State Fault Refusal := .next (chipTaken s)
/-- PERST_RELEASE (R567). -/
def execPerstRelease (c : Ctl) (s : State) : Host.Outcome State Fault Refusal := .next (perstRelease c s)
/-- BOOT_IMAGE_CHECK (R565, R566). -/
def execBootImageCheck (read0 read1 : Bool) (s : State) : Host.Outcome State Fault Refusal := .next (bootCheck read0 read1 s)
/-- ROLLBACK_FUSE_UPDATE (R562). -/
def execRollbackFuseUpdate (s : State) : Host.Outcome State Fault Refusal := .next (rollbackUpdate s)
/-- FUSE_PROGRAM_COMMIT (R561, R578): other keys are discarded. -/
def execFuseProgramCommit (path : RegPath) (key : W16) (readBack : Bool) (s : State) : Host.Outcome State Fault Refusal :=
  .next (lockedWrite path F.RST_FUSEPROG_KEY.addr false (fun t => if key = 0xF05E then fuseProgram readBack t else t) s)

end Sys2Proof.Machine
end

