-- ==== Sys2Proof/Machine/Access.lean ====
section
/-! DEFINITION. Accesses to the set-up space over its arbiter (R345, R501, R572 to R584): expert access, writes and reads of
registers and of the SRAM windows, and the sideband's accesses. -/

namespace Sys2Proof.Machine

/-! ### Expert access (R579 to R581) -/

/-- Whether a block identity is in the table of R579. -/
def identValid (b : Nat) : Bool := decide (b < 8) || (decide (0x10 ≤ b) && decide (b ≤ 0x1A)) || b == 0xFFFF

/-- An unlock sequence fails. -/
def unlockFail (s : State) : State := s.inc F.GLB_EXPERT_STAT_FAIL_CNT

/-- No sequence is armed. -/
def disarm (s : State) : State :=
  { (s.setFlag F.GLB_EXPERT_STAT_ARMED false) with rst := { s.rst with armed := [] } }

/-- Open (`b`) or close expert access to the block, or all blocks, of an identity. -/
def setOpen (ident : Nat) (b : Bool) (s : State) : State :=
  if ident = 0xFFFF then (s.set F.GLB_EXPERT_STAT_CH_OPEN (if b then 0xFF else 0)).set F.GLB_EXPERT_STAT_HOST_OPEN (if b then 0x7FF else 0)
  else if ident < 8 then s.setBit F.GLB_EXPERT_STAT_CH_OPEN ident b
  else if 0x10 ≤ ident ∧ ident ≤ 0x1A then s.setBit F.GLB_EXPERT_STAT_HOST_OPEN (ident - 0x10) b
  else s

/-- A first word arms a sequence, after it has broken one that was armed. -/
def unlockFirst (path : RegPath) (ident : Nat) (s : State) : State :=
  let t := breakSeq s
  let t := { t with rst := { t.rst with armed := [(path, ident)] } }
  (t.setFlag F.GLB_EXPERT_STAT_ARMED true).setFlag F.GLB_EXPERT_STAT_ARM_PATH (path == .sideband)

/-- A second word opens the block of the armed sequence when path and identity agree and nothing denies it; otherwise the sequence,
or the lone second word, fails once. -/
def unlockSecond (path : RegPath) (ident : Nat) (s : State) : State :=
  if s.rst.armed == [(path, ident)] && path != .mgmt && identValid ident && !s.flag F.GLB_EXPERT_DENY_DENY then setOpen ident true (disarm s)
  else unlockFail (disarm s)

/-- A close word. -/
def unlockClose (ident : Nat) (s : State) : State := setOpen ident false (breakSeq s)

/-- A word written to GLB.EXPERT_UNLOCK; other codes fail. -/
def unlockWrite (path : RegPath) (v : Nat) (s : State) : State :=
  let ident := v % 65536
  let code := v / 65536 % 65536
  if code = 0xE0E5 then unlockFirst path ident s
  else if code = 0x5E0E then unlockSecond path ident s
  else if code = 0xC105 then unlockClose ident s
  else if s.flag F.GLB_EXPERT_STAT_ARMED then breakSeq s
  else unlockFail s

/-! ### Windows (R501, R532, R561, R572) -/

/-- The macro and word of an address that lies in an SRAM window. -/
def sramAt (a : Nat) : Option (Nat × Nat) :=
  if 0x120000 ≤ a ∧ a < 0x160000 then some (0x114, (a - 0x120000) / 8)
  else if a < 0x2000000 then none
  else
    let n := (a - 0x2000000) / 0x400000
    let o := a % 0x400000
    if 0x140000 ≤ o ∧ o < 0x148000 then some (0x20 * n, (o - 0x140000) / 8)
    else if 0x1C0000 ≤ o ∧ o < 0x1E0000 then some (0x20 * n + 9 + (o - 0x1C0000) / 0x10000, o % 0x10000 / 8)
    else none

/-- The loop and word of an address in the coefficient windows of a channel; true in the write window. -/
def coefAt (a : Nat) : Option (Bool × Loop × Nat) :=
  let o := a % 0x400000
  if a < 0x2000000 then none
  else if 0x190000 ≤ o ∧ o < 0x191800 then some (true, Fin.ofNat 6 ((o - 0x190000) / 0x400), o % 0x400 / 4)
  else if 0x1A0000 ≤ o ∧ o < 0x1A1800 then some (false, Fin.ofNat 6 ((o - 0x1A0000) / 0x400), o % 0x400 / 4)
  else none

def fuseWindow (a : Nat) : Bool := decide (0x202400 ≤ a) && decide (a < 0x202450)

/-- A bus error of R501. -/
def busError (s : State) : State := s.inc F.MEMPROT_UE_BUSERR_CNT

/-- What a word of a macro holds; the ring's slots hold the records whose number falls in them. -/
def sramWord (m w : Nat) (s : State) : Nat :=
  if m = 0x114 then
    match s.colo.recs.find? fun r => r.seq % 8192 == w / 4 with
    | some r => ofBytesLe ((r.bytes.drop (w % 4 * 8)).take 8)
    | none => 0
  else
    let n : Ch := Fin.ofNat 8 (m / 0x20)
    if m % 0x20 = 0 then (s.store[n]).get (2 * w) + (s.store[n]).get (2 * w + 1) * 16777216
    else (s.pads[n]).get (8192 * (m % 0x20 - 9) + w)

/-- A read of a word of a macro: corrected, or a bus error, when a flip was stored in it (R502, R503, R505). -/
def sramRead (m w : Nat) (s : State) : Option Nat × State :=
  match s.mem.flips.find? fun f => f.1 == m && f.2.1 == w with
  | none => (some (sramWord m w s), s)
  | some f =>
    if bitCount 64 f.2.2.1 + bitCount 8 f.2.2.2 = 0 then (some (sramWord m w s), s)
    else if bitCount 64 f.2.2.1 + bitCount 8 f.2.2.2 = 1 then (some (sramWord m w s), sramCe m w (s.fresh.truncate 8) s.used)
    else (none, sramUe m w s)

/-- A word of a macro is stored by its window; the ring is not written. -/
def sramStore (m w v : Nat) (s : State) : State :=
  if m = 0x114 then s
  else
    let n : Ch := Fin.ofNat 8 (m / 0x20)
    memWrite m w (if m % 0x20 = 0 then putStore n w v s else { s with pads := s.pads.set n ((s.pads[n]).set (8192 * (m % 0x20 - 9) + w) v) })

/-- A window write that expert access or the channel's enable holds back (R178, R577). -/
def sramHeld (open_ : Bool) (m : Nat) (s : State) : Bool :=
  decide (m < 0x100) && m % 0x20 == 0 && (!open_ || s.flag (F.PAGE_ENABLE_EN (m / 0x20)))

/-! ### Writes of registers -/

/-- Whether a writer may write the RWL and RWS fields of an address (R577). -/
def mayWrite (path : RegPath) (a : Nat) (s : State) : Bool := path == .mgmt || addrOpen a s

/-- Registers, or bits of them, that need expert access by their own description (R578). -/
def guarded (a v : Nat) : Bool :=
  (a == 0x100010 && v.testBit 1) || (a == 0x202004 && v % 256 != 0) || (a == 0x202008 && v % 128 != 0) || a == 0x202480 ||
    a == 0xA00010 || fuseWindow a

/-- Whether a write of a register is discarded, in whole or in some field, under R577 or R578. -/
def writeLost (open_ : Bool) (a v : Nat) (s : State) : Bool :=
  if guarded a v && !open_ then true
  else match coefAt a with
    | some (wr, _, _) => wr && !open_
    | none => match regAt a with
      | some fs => fs.any fun f => (f.acc == .rwl || f.acc == .rws) && (!open_ || fieldHeld f s)
      | none => false

/-- A register that the arbiter serves is written, its window being on and any discard having been found. -/
def regEffect (open_ : Bool) (a v : Nat) (s : State) : State :=
  match coefAt a with
  | some (true, l, i) => coefWrite (chanOf a) l i v false s
  | some (false, _, _) => s
  | none =>
    if a = 0x800000 then (if v % 2 = 1 then flyEnable s else flyDisable s)
    else if a = 0x900000 then ketEnable (v % 2 == 1) s
    else if 0x2000000 ≤ a ∧ a % 0x400000 = 0x3F0000 then
      let n := chanOf a
      if v % 2 = 1 then enableStart n { s with rst := { s.rst with reen := s.rst.reen.set n none } }
      else disableStart n s
    else if 0x2000000 ≤ a then chanEffect open_ a v (plainWrite open_ a v s)
    else hostWrite open_ a v s

/-- A register is written over a path. -/
def regWrite (path : RegPath) (a v : Nat) (s : State) : State :=
  let open_ := mayWrite path a s
  if guarded a v && !open_ then
    let t := discard a s
    if a = 0x100010 then t.when (v.testBit 0) (startChip 3 none) else t
  else if (coefAt a).any (fun c => c.1) && !open_ then discard a s
  else if a = 0x40 then unlockWrite path v s
  else regEffect open_ a v s

/-! ### The arbiter (R573 to R576) -/

/-- A write of `bytes` bytes reaches the arbiter. The second part is the answer of R345: 0 done, 1 bus error, 2 discarded. -/
def arbiterWrite (path : RegPath) (a bytes v : Nat) (s : State) : State × Nat :=
  let s := if a = 0x40 && decide (4 ≤ bytes) then s else breakSeq s
  if windowOff a s then (busOff s, 1)
  else match sramAt a with
    | some (m, w) =>
      if bytes ≠ 8 || a % 8 != 0 then (busError s, 1)
      else if sramHeld (mayWrite path a s) m s then (discard a s, 2)
      else (sramStore m w v s, 0)
    | none =>
      if fuseWindow a then
        (if bytes ≠ 8 || a % 8 != 0 then (s.inc F.GLB_ACCERR_SIZE_CNT, 0)
        else if mayWrite path a s then ({ s with fuses := { s.fuses with window := s.fuses.window.setRun (a - 0x202400) (bytesLe 8 v) } }, 0)
        else (discard a s, 2))
      else if bytes = 4 && a % 4 == 0 then
        let w := v % 4294967296
        (regWrite path a w s, if writeLost (mayWrite path a s) a w s then 2 else 0)
      else if bytes = 8 && a % 8 == 0 then
        let lo := v % 4294967296
        let hi := v / 4294967296 % 4294967296
        let lost := writeLost (mayWrite path a s) a lo s || writeLost (mayWrite path (a + 4) s) (a + 4) hi s
        (regWrite path (a + 4) hi (regWrite path a lo s), if lost then 2 else 0)
      else (s.inc F.GLB_ACCERR_SIZE_CNT, 0)

/-- A write request: 8 bytes at an address aligned to four only are two accesses in ascending order. -/
def setupWrite (path : RegPath) (a bytes v : Nat) (s : State) : State × Nat :=
  if bytes = 8 && a % 8 == 4 then
    let r := arbiterWrite path a 4 (v % 4294967296) s
    let q := arbiterWrite path (a + 4) 4 (v / 4294967296) r.1
    (q.1, if r.2 = 1 || q.2 = 1 then 1 else max r.2 q.2)
  else arbiterWrite path a bytes v s

/-! ### Reads -/

/-- The LO register that a read of a HI register latches. -/
def latchOf (a : Nat) : Option Nat :=
  if a = 0x10000C then some 0x100008
  else if a = 0x110000 then some 0x110004
  else if a = 0x110008 then some 0x11000C
  else if a = 0x80001C then some 0x800018
  else none

/-- What the register at an address shows, the coefficient windows included. -/
def showWord (a : Nat) (s : State) : Nat :=
  match coefAt a with
  | some (wr, l, i) =>
    let n := chanOf a
    (s.banks[n]).get (bankKey (inCtrl n s) l (if wr then !activeBank n l s else activeBank n l s) i)
  | none => regWord a s

/-- A read of 32 bits, with what it does: a challenge is drawn, a HI register latches its LO register. -/
def readWord (a : Nat) (s : State) : Nat × State :=
  if a = 0x110014 then
    let t := coloChallenge s
    (regWord a t, t)
  else match latchOf a with
    | some lo => (showWord a s, { s with rst := { s.rst with latchLo := s.rst.latchLo.set lo (showWord lo s + 1) } })
    | none =>
      let l := s.rst.latchLo.get a
      (if l = 0 then showWord a s else l - 1, s)

/-- A read of `bytes` bytes, up to 8, reaches the arbiter; none for a bus error. -/
def setupRead (a bytes : Nat) (s : State) : Option Nat × State :=
  if 0x4000000 ≤ a then (some 0, s)
  else if windowOff a s then (none, busOff s)
  else match sramAt a with
    | some (m, w) => if bytes = 8 && a % 8 == 0 then sramRead m w s else (none, busError s)
    | none =>
      if bytes = 8 then
        (if (latchOf a).isSome || (latchOf (a + 4)).isSome then (some (showWord a s + showWord (a + 4) s * 4294967296), s)
        else
          let lo := readWord a s
          let hi := readWord (a + 4) lo.2
          (some (lo.1 + hi.1 * 4294967296), hi.2))
      else
        let r := readWord (a / 4 * 4) s
        (some (r.1 / 2 ^ (8 * (a % 4)) % 2 ^ (8 * bytes)), r.2)

/-! ### The sideband (R345) -/

/-- The packets that carry an answer of `n` bytes, each with a payload of at most the transmission unit (R343). -/
def mctpPackets (n unit : Nat) : Nat := max 1 ((n + unit - 1) / unit)

/-- The answer of a sideband access: its status and the bytes read. A target with an address signals each packet by an in-band
interrupt while those are enabled (R343). -/
def sideAnswer (st : Nat) (bs : List Nat) (s : State) : State :=
  s.modHost fun h => { h with i3c := { h.i3c with
    stat := st, ans := bs
    ibis := if h.i3c.evEn && h.i3c.dyn.isSome then h.i3c.ibis + mctpPackets (bs.length + 1) h.i3c.mtu else h.i3c.ibis } }

def sideRead (a bytes : Nat) (s : State) : State :=
  if !domOn 45 s then s
  else if a % bytes ≠ 0 then sideAnswer 3 [] s
  else match setupRead a bytes s with
    | (some v, t) => sideAnswer 0 (bytesLe bytes v) t
    | (none, t) => sideAnswer 1 [] t

/-! ### Commands -/

/-- EXPERT_UNLOCK_FIRST (R579). -/
def execExpertUnlockFirst (path : RegPath) (blk : W16) (s : State) : Host.Outcome State Fault Refusal := .next (unlockFirst path blk.toNat s)
/-- EXPERT_UNLOCK_SECOND (R579, R580). -/
def execExpertUnlockSecond (path : RegPath) (blk : W16) (s : State) : Host.Outcome State Fault Refusal := .next (unlockSecond path blk.toNat s)
/-- EXPERT_CLOSE (R581). The path makes no difference. -/
def execExpertClose (_path : RegPath) (blk : W16) (s : State) : Host.Outcome State Fault Refusal := .next (unlockClose blk.toNat s)
/-- ACCERR_CLEAR (R584). -/
def execAccerrClear (s : State) : Host.Outcome State Fault Refusal := .next (arbWrite 0x50 (fun t => t.resetRegs 0x50 0x58) s)
/-- STORE_WINDOW_WRITE (R178). -/
def execStoreWindowWrite (path : RegPath) (n : Ch) (w : BitVec 12) (v : W64) (s : State) : Host.Outcome State Fault Refusal :=
  .next (lockedWrite path (chBase n + 0x140000 + 8 * w.toNat) (s.flag (F.PAGE_ENABLE_EN n)) (sramStore (0x20 * n.val) w.toNat v.toNat) s)
/-- CACHE_WAYLOCK_WRITE (R460). -/
def execCacheWaylockWrite (lock : W16) (s : State) : Host.Outcome State Fault Refusal := .next (arbWrite 0x400008 (waylockWrite lock) s)
/-- CACHE_TAG_SELECT (R449). -/
def execCacheTagSelect (sn : BitVec 14) (way : BitVec 4) (s : State) : Host.Outcome State Fault Refusal := .next (arbWrite 0x400040 (tagSelect sn way) s)
/-- COLO_CLEAR (R536): a write of COLO.CLEAR; `inTime` within the 60 s of the challenge. -/
def execColoClear (resp : W32) (inTime : Bool) (s : State) : Host.Outcome State Fault Refusal := .next (arbWrite 0x110018 (coloClear resp inTime) s)
/-- SIDEBAND_READ_32 (R345). -/
def execSidebandRead32 (addr : W32) (s : State) : Host.Outcome State Fault Refusal := .next (sideRead addr.toNat 4 s)
/-- SIDEBAND_READ_64 (R345). -/
def execSidebandRead64 (addr : W32) (s : State) : Host.Outcome State Fault Refusal := .next (sideRead addr.toNat 8 s)

end Sys2Proof.Machine
end

