-- ==== Sys2Proof/Machine/Admin.lean ====
section
/-! DEFINITION. Identify, Get Log Page, the features and asynchronous events (R325, R327 to R331, R340, R341, R417, R442, R535,
R616). Field places and codes that the spec leaves to NVM Express are as that standard numbers them (log entry 7). -/

namespace Sys2Proof.Machine

/-! ### Pages of bytes -/

/-- `size` bytes that hold the fields given, in rising order of their offsets; zero elsewhere. -/
def layFields (size : Nat) : Nat → List (Nat × List Nat) → List Nat
  | pos, [] => List.replicate (size - pos) 0
  | pos, (ofs, bs) :: r => List.replicate (ofs - pos) 0 ++ bs ++ layFields size (max pos ofs + bs.length) r

def pageOf (size : Nat) (fs : List (Nat × List Nat)) : List Nat := (layFields size 0 fs).take size

/-- The characters of a text, padded with spaces. -/
def textBytes (n : Nat) (t : String) : List Nat := (t.toList.map Char.toNat).take n ++ List.replicate (n - t.length) 32

/-- `n` bytes of the present open value. -/
def openBytes (n : Nat) (s : State) : List Nat := (List.range n).map fun j => (Config.freeByte s.freeCtr j).toNat

/-! ### The functions (R312, R315) -/

/-- What a port's function implements and reports of itself (R312, R315, R316): link rates by PORTSTAT's code, widths, payload and read
request sizes in bytes, outstanding non-posted requests, the capabilities present and absent; identity; the sizes of its BARs in bytes, BAR2 only
on port 0. -/
structure PciFn where
  rates   : List Nat
  widths  : List Nat
  payload : Nat
  readMin : Nat
  readMax : Nat
  tags    : Nat
  ecrc    : Bool
  aer     : Bool
  l0s     : Bool
  l1      : Bool
  l11     : Bool
  l12     : Bool
  flr     : Bool
  sriov   : Bool
  ats     : Bool
  pasid   : Bool
  vendor : Nat
  device : Nat
  cls    : Nat
  rev    : Nat
  ssvid  : List Nat
  ssid   : List Nat
  bar0   : Nat
  bar2   : Nat
  deriving DecidableEq, Repr

/-- The function of a controller's port. The subsystem identities come from the image (R315). -/
def pciFn (c : Ctl) (s : State) : PciFn where
  rates := [1, 2, 3, 4, 5, 6]
  widths := if s.boot.bifur then [4] else [8, 4]
  payload := 512
  readMin := 128
  readMax := 4096
  tags := 512
  ecrc := true
  aer := true
  l0s := false
  l1 := true
  l11 := true
  l12 := true
  flr := true
  sriov := false
  ats := false
  pasid := false
  vendor := 0x1FD3
  device := 0x0808
  cls := 0x010802
  rev := 0xB1
  ssvid := match s.boot.image with | some g => bytesLe 2 g.ssvid.toNat | none => openBytes 2 s
  ssid := match s.boot.image with | some g => bytesLe 2 g.ssid.toNat | none => openBytes 2 s
  bar0 := 65536
  bar2 := if c = 0 then 67108864 else 0

/-! ### Controller registers of BAR0 (R318) -/

/-- CAP: MQES, CQR, AMS, TO, DSTRD, NSSRS, CSS, MPSMIN and MPSMAX, CMBS and PMRS, the fields placed as NVM Express has them. -/
def capReg : Nat :=
  0xFFFF + 1 * 2 ^ 16 + 0b01 * 2 ^ 17 + 0x14 * 2 ^ 24 + 0 * 2 ^ 32 + 0 * 2 ^ 36 + (1 + 64) * 2 ^ 37 + 0 * 2 ^ 48 + 4 * 2 ^ 52 + 0 * 2 ^ 56 + 0 * 2 ^ 57

/-- VS. -/
def vsReg : Nat := 0x00020100

/-- CSTS: RDY, and SHST of a shutdown in progress or complete (R409). -/
def cstsReg (c : Ctl) (s : State) : Nat := (s.ctlr c).rdy.toNat + 4 * (s.ctlr c).shst

/-- The queue whose doorbell stands at an offset of BAR0, and whether it is a completion queue's (R315, R318: DSTRD 0). -/
def doorbellAt (ofs : Nat) : Option (Nat × Bool) :=
  if 0x1000 ≤ ofs ∧ ofs < 0x8000 ∧ ofs % 4 = 0 then some ((ofs - 0x1000) / 8, (ofs - 0x1000) / 4 % 2 = 1) else none

/-! ### Identify (R327, R328) -/

/-- The Identify Controller data of a controller. -/
def idController (c : Ctl) (s : State) : List Nat :=
  let two := s.boot.bifur
  let fr := match s.boot.image with
    | some g => bytesLe 8 (Config.frText g.baseVer).toNat
    | none => textBytes 8 "RECOVERY"
  let f := pciFn c s
  pageOf 4096 [
    (0, bytesLe 2 f.vendor), (2, f.ssvid), (4, bytesLe 20 s.fuses.serial.val),
    (24, textBytes 40 (if s.small then "ON8C-16" else "ON8C-32")), (64, fr), (76, [if two then 3 else 0]), (77, [9]),
    (78, bytesLe 2 c.val), (96, bytesLe 4 2), (256, bytesLe 2 0x5E), (258, [7]), (259, [7]), (260, [4]), (261, [6]), (262, [0x3F]),
    (328, bytesLe 4 4), (512, [0x66, 0x44]), (516, bytesLe 4 64), (520, bytesLe 2 0x1BC), (536, bytesLe 4 0x80001), (540, bytesLe 4 64)]

/-- Whether the atomic unit of a namespace is 256 blocks: journalled, with the Flyleaf writable. -/
def atomicUnit (v : Ns) (s : State) : Nat := if !v.stream && s.get F.FLY_STAT_STATE == 2 then 255 else 0

def lbaFormat (md : Nat) : List Nat := bytesLe 2 md ++ [12, 0]

/-- The Identify Namespace data of a namespace. -/
def idNamespace (v : Ns) (s : State) : List Nat :=
  let au := bytesLe 2 (atomicUnit v s)
  pageOf 4096 [
    (0, bytesLe 8 v.nsze), (8, bytesLe 8 v.nsze), (16, bytesLe 8 v.nsze), (24, [2]), (25, [2]), (26, [v.lbaf + 16 * v.mset.toNat]), (27, [3]),
    (28, [7 + 8 * (s.fresh.toNat % 4)]), (29, [v.pi]), (30, [s.boot.bifur.toNat]), (31, [0x7F]), (33, [9]), (34, au), (36, au),
    (128, lbaFormat 0 ++ lbaFormat 8 ++ lbaFormat 64), (3840, [v.stream.toNat, v.place, v.strict.toNat + 2 * v.dup.toNat, 0])]

/-- The I/O Command Set Specific Identify Namespace data: a zoned namespace's zone size and limits. -/
def idZoned (v : Ns) : List Nat :=
  let ext := bytesLe 8 zoneSize ++ List.replicate 8 0
  if v.zoned then pageOf 4096 [(4, bytesLe 4 63), (8, bytesLe 4 63), (2816, ext ++ ext ++ ext)] else List.replicate 4096 0

/-- Identify of a namespace: an identifier out of range is refused, an inactive one has zeroes. -/
def idNs (c : Cmd) (page : Ns → State → List Nat) (s : State) : State :=
  if c.e.ns == 0 || decide (64 < c.e.ns) then s.finish c.k stInvalidNs
  else match s.ns c.e.ns with
    | some v => if v.attach.contains c.ctl then (s.used.answer (page v s)).finish c.k stOk else (s.answer (List.replicate 4096 0)).finish c.k stOk
    | none => (s.answer (List.replicate 4096 0)).finish c.k stOk

/-! ### Log pages (R329) -/

/-- The bytes that a Get Log Page asks for, and from where. -/
def logLen (e : Sqe) : Nat := (e.cdw10.toNat / 65536 + e.cdw11.toNat % 65536 * 65536 + 1) * 4
def logOfs (e : Sqe) : Nat := e.cdw12.toNat + e.cdw13.toNat * 4294967296
/-- Retain Asynchronous Event. -/
def logRae (e : Sqe) : Bool := e.cdw10.getLsbD 15

/-- A read of a page unmasks its events. -/
def unmask (c : Ctl) (key : Nat × Nat) (s : State) : State := s.modCtlr c fun t => { t with masked := t.masked.filter (· != key) }

/-- A page is returned from an offset on; `key` is the mask its read ends, unless the event is retained. -/
def logAnswer (c : Cmd) (page : List Nat) (key : Option (Nat × Nat)) (s : State) : State :=
  if logOfs c.e % 4 ≠ 0 ∨ page.length < logOfs c.e then s.finish c.k stField
  else
    let t := (s.answer ((page.drop (logOfs c.e)).take (logLen c.e))).finish c.k stOk
    match key with
    | some x => if logRae c.e then t else unmask c.ctl x t
    | none => t

/-- Page 0x01: the newest entry first. -/
def errPage (t : Ctlr) : List Nat :=
  padTo 4096 (t.errs.flatMap fun e => bytesLe 8 e.cnt ++ bytesLe 2 e.sqid ++ bytesLe 2 e.cid ++ bytesLe 2 (2 * e.status) ++ [0xFF, 0xFF] ++
    bytesLe 8 e.lba ++ bytesLe 4 e.nsid ++ List.replicate 36 0)

/-- Whether SPARE stands below its limit (R407). -/
def spareLow (s : State) : Bool :=
  match s.fly.spare0 with
  | some s0 => decide (flySpare s * 100 < s0 * (5 * s.get F.FLY_CFG_SPARE_WARN))
  | none => false

/-- Page 0x02: the available-spare warning (R407) and the composite temperature in kelvin (R554); the spec states no other value. -/
def smartPage (s : State) : List Nat :=
  pageOf 512 [(0, [(spareLow s).toNat + 2 * (s.fresh.toNat % 128)]), (1, bytesLe 2 (junction s + 273).toNat), (3, (openBytes 512 s).drop 3)]

/-- Page 0x03: firmware slots 1 and 2 are boot-flash slots 0 and 1. -/
def fwPage (s : State) : List Nat :=
  let rev := fun (i : Nat) => match s.boot.slots.toList.getD i none with | some g => bytesLe 8 (Config.frText g.baseVer).toNat | none => List.replicate 8 0
  let run := if s.flag F.RST_BOOTSTAT_RECOVERY then 0 else s.get F.RST_BOOTSTAT_SLOT + 1
  let next := match s.boot.nextAct with | some i => i + 1 | none => 0
  pageOf 512 [(0, [run + 16 * next]), (8, rev 0), (16, rev 1)]

/-- Page 0x04. -/
def changedPage (t : Ctlr) : List Nat := padTo 4096 (t.changed.flatMap (bytesLe 4))

/-- Page 0x05: CSUPP of each opcode; the other bits of a supported command are an open value. -/
def cmdPage (s : State) : List Nat :=
  let row := fun (ops : List Byte) (i : Nat) =>
    if ops.contains (BitVec.ofNat 8 i) then bytesLe 4 (1 + 2 * (s.fresh.toNat % 2147483648)) else List.replicate 4 0
  padTo 4096 ((List.range 256).flatMap (row adminOpcodes) ++ (List.range 256).flatMap (row ioOpcodes))

/-- Page 0x06: the operation in progress, and the last twenty results. -/
def testPage (s : State) : List Nat :=
  let h := s.host
  let one := fun (t : SelfTest) => [t.result + 16 * t.code, t.step, 0, 0] ++ openBytes 8 s ++ List.replicate 16 0
  pageOf 564 [(0, match h.test with | some x => [x, (s.fresh.toNat % 100)] | none => [0, 0]),
    (4, ((h.tests.take 20).flatMap one) ++ (List.replicate (20 - h.tests.length) (0x0F :: List.replicate 27 0)).flatten)]

/-- Page 0x80: the oldest notification. -/
def resPage (t : Ctlr) : List Nat :=
  match t.resLog with
  | x :: _ => pageOf 64 [(0, bytesLe 8 (t.resCnt + 1 - t.resLog.length)), (8, [x.1, min 255 t.resLog.length]), (12, bytesLe 4 x.2)]
  | [] => List.replicate 64 0

/-- Page 0x81: never sanitized, completed, or in progress. -/
def sanPage (s : State) : List Nat :=
  let st := if s.host.cmds.any fun d => d.started && d.qid == 0 && d.e.opc == 0x84#8 then 2 else s.host.sanSt
  pageOf 512 [(0, if st == 2 then bytesLe 2 (s.fresh.toNat % 65536) else [0xFF, 0xFF]),
    (2, bytesLe 2 (st + 256 * (s.fresh.toNat / 65536 % 2))), (4, bytesLe 4 s.host.sanDw), (8, List.replicate 12 0xFF)]

/-- Byte 0 of a Channel Status entry. -/
def chanByte (n : Ch) (s : State) : Nat :=
  if chanAbsent n s then 0
  else if s.flag F.FAULT_STAT_SAFE then 5
  else if chanFailed n s then 4
  else match s.get (F.PAGE_ENABLE_PHASE n) with
    | 1 => 2
    | 2 => 2
    | 3 => 3
    | _ => 1

/-- Page 0xC0. -/
def chanPage (s : State) : List Nat :=
  allChans.flatMap fun n =>
    [chanByte n s, s.get (F.MOT_STAT_STATE n), s.get (F.SCHED_FMT_SURFACES n), s.get (F.PAGE_ENABLE_STATUS_REASON n)] ++
      bytesLe 4 (regWord (F.STITCH_VERSION_BASE_VER n).addr s) ++ bytesLe 4 (regWord (F.HINGE_STAT_IN_CTRL n).addr s) ++
      bytesLe 4 (regWord (F.SCHED_DEFECT_STAT_GROWN_CNT n).addr s) ++ bytesLe 4 (s.get (F.DET_LADDERSTAT_BG_RECOVERED n)) ++
      bytesLe 4 (s.chan n).sched.unrec ++ List.replicate 40 0

/-- Page 0xC1 (R417). -/
def flyPage (s : State) : List Nat :=
  let y := s.fly
  let es := y.blks.map fun b => b.erases
  let le := fun (n : Nat) => bytesLe 4 n
  pageOf 512 [(0, [s.get F.FLY_STAT_STATE, (diesIn s).length, s.get F.FLY_STAT_START_KIND]), (4, le (s.get F.FLY_CFG_SIZE_GIB)),
    (8, bytesLe 8 y.nextSeq), (16, le (flyFree s)), (20, le (flySpare s).toNat), (24, le (y.spare0.getD 0).toNat), (28, le y.retired),
    (32, le (es.foldl min (es.headD 0))), (36, le (es.foldl max 0)), (40, le (es.sum / max 1 es.length)), (44, le y.live.length),
    (48, bytesLe 8 y.hostEnt), (56, bytesLe 8 y.copied), (64, le y.startMs), (68, le y.warmAcc), (72, le y.warmDec), (76, le y.restarts)]

/-- Page 0xC2 (R442). -/
def gathPage (s : State) : List Nat :=
  allLayouts.flatMap fun l =>
    let y := s.layout l
    let le := fun (n : Nat) => bytesLe 4 n
    pageOf 64 [(0, [s.get (F.GATH_LSTAT_STATE l), s.get (F.GATH_LAYOUT_CHAN_MASK l), s.get (F.GATH_LAYOUT_K l), s.get (F.GATH_LAYOUT_M l),
      s.get (F.GATH_LSTAT_UNAVAIL l), s.get (F.GATH_LSTAT_LOST l), s.get (F.GATH_LAYOUT_SPARE l), (nssOn l s).length]),
      (8, le (s.get (F.GATH_EXTENT_EXTENT l))), (12, le y.rebuilt.length), (16, le (toRebuild l s)), (20, le y.stale.length),
      (24, le y.recon), (28, le y.unrec)]

/-! ### The Colophon page (R535) -/

/-- The snapshot that a read from offset 0 fixes: header, OLDEST, record count. -/
def coloSnap (mirror : Bool) (s : State) : List Nat × Nat × Nat :=
  let c := s.colo
  let old := if mirror then (c.mirror.getLast?.map fun r => r.seq).getD c.oldest else c.oldest
  let old := min old c.oldest
  let n := if c.recs.isEmpty then 0 else c.headSeq + 1 - old
  (pageOf 64 [(0, bytesLe 6 c.headSeq), (6, bytesLe 6 old), (12, bytesLe 4 n), (16, bytesLe 6 c.lastClr),
    (22, [(s.flag F.COLO_STAT_MIRROR).toNat + 2 * (s.flag F.COLO_STAT_LOST).toNat])], old, n)

/-- The record of a number, from the ring or the mirror; zero bytes when both have lost it. -/
def coloBytes (q : Nat) (s : State) : List Nat :=
  match s.colo.recs.find? fun r => r.seq == q with
  | some r => r.bytes
  | none => match s.colo.mirror.find? fun r => r.seq == q with
    | some r => r.bytes
    | none => List.replicate 32 0

/-- The bytes of the page that a command asks for. -/
def coloSlice (x : List Nat × Nat × Nat) (ofs len : Nat) (s : State) : List Nat :=
  let j0 := (ofs - 64) / 32
  let j1 := min x.2.2 ((ofs + len - 64 + 31) / 32)
  let recs := (List.range (j1 - j0)).flatMap fun j => coloBytes (x.2.1 + j0 + j) s
  if ofs < 64 then ((x.1 ++ recs).drop ofs).take len else (recs.drop (ofs - 64 - 32 * j0)).take len

/-- GET_LOG_COLOPHON_RECORDS; bit 0 of LSP takes the mirror in. -/
def coloLog (c : Cmd) (s : State) : State :=
  let ofs := logOfs c.e
  let cur := s.colo.snaps[c.ctl]
  let fix := ofs == 0 || cur.1.isEmpty
  let x := if fix then coloSnap (c.e.cdw10.getLsbD 8) s else cur
  let s := if fix then { s with colo := { s.colo with snaps := s.colo.snaps.set c.ctl x } } else s
  if ofs % 4 ≠ 0 ∨ 64 + 32 * x.2.2 < ofs then s.finish c.k stField
  else
    let t := (s.answer (coloSlice x ofs (logLen c.e) s)).finish c.k stOk
    if logRae c.e then t else unmask c.ctl (7, 0xC3) t

/-! ### Features (R330) -/

/-- The Save bit of a Set Features, and the Select field of a Get Features. -/
def featSave (e : Sqe) : Bool := e.cdw10.getLsbD 31
def featSelect (e : Sqe) : Nat := e.cdw10.toNat / 256 % 8

/-- A value is saved for a controller, under its identifier and, for a namespace's feature, the namespace. -/
def saveFeat (c : Ctl) (fid v : Nat) (s : State) : State := s.modCtlr c fun t => { t with saved := assocSet fid v t.saved }

/-- A Set Features of a feature that keeps a saved value. -/
def setSaved (c : Cmd) (fid v : Nat) (f : State → State) (s : State) : State :=
  ((f s).when (featSave c.e) (saveFeat c.ctl fid v)).finish c.k stOk

/-- A Set Features of a feature that is not saveable. -/
def setPlain (c : Cmd) (f : State → State) (s : State) : State := if featSave c.e then s.finish c.k (sct 1 0x0D) else f s

/-- SET_FEATURE_ERROR_RECOVERY: of a namespace, or of all that are attached. -/
def setTler (c : Cmd) (s : State) : State :=
  let v := c.e.cdw11.toNat % 65536
  if c.e.cdw11.getLsbD 16 then s.finish c.k stField
  else if c.e.ns == 0xFFFFFFFF then
    (s.host.nss.filter fun n => n.attach.contains c.ctl).foldl (fun t n =>
      (t.modNs n.nsid fun x => { x with tler := v }).when (featSave c.e) (saveFeat c.ctl (0x05 + 256 * n.nsid) v)) s |>.finish c.k stOk
  else if c.e.ns == 0 || decide (64 < c.e.ns) then s.finish c.k stInvalidNs
  else match s.ns c.e.ns with
    | none => s.finish c.k stField
    | some _ => setSaved c (0x05 + 256 * c.e.ns) v (fun t => t.modNs c.e.ns fun x => { x with tler := v }) s

/-- SET_FEATURE_NUMBER_OF_QUEUES. -/
def setQueues (c : Cmd) (s : State) : State :=
  let a := c.e.cdw11.toNat % 65536
  let b := c.e.cdw11.toNat / 65536
  if (s.host.sqs.any fun q => q.ctl == c.ctl && decide (0 < q.qid)) || (s.host.cqs.any fun q => q.ctl == c.ctl && decide (0 < q.qid)) then s.finish c.k (sct 0 0x0C)
  else if a == 65535 || b == 65535 then s.finish c.k stField
  else
    let x := min (a + 1) (queueLimit s)
    let y := min (b + 1) (queueLimit s)
    (s.modCtlr c.ctl fun t => { t with nq := some (x, y) }).finishDw c.k stOk ((x - 1) + (y - 1) * 65536) 0

/-- The command waits for the check of block `b` if one runs, and reports its reason when `own`. -/
def waitCheck (c : Cmd) (b : Nat) (running own : Bool) (s : State) : State :=
  if running then s.modCmd c.k fun d => { d with waitChk := some (if own then b else b + 16) } else s.finish c.k stOk

/-- SET_FEATURE_GATHERING_LAYOUT. -/
def setLayout (c : Cmd) (s : State) : State :=
  let w := c.e.cdw11.toNat
  let l : Fin 4 := Fin.ofNat 4 (w / 16384)
  let un := w % 256 == 0 && committed l s
  let reg := w % 256 + w / 256 % 8 * 256 + w / 2048 % 4 * 2048 + w / 65536 % 256 * 65536
  let t := if un then s else arbWrite (F.GATH_LAYOUT_CHAN_MASK l).addr (storeReg true (F.GATH_LAYOUT_CHAN_MASK l).addr reg) s
  if w.testBit 13 then
    let own := t.gath.check.isNone
    let u := arbWrite 0x700040 (commitStart l un (!un)) t
    waitCheck c 9 u.gath.check.isSome own u
  else waitCheck c 9 t.gath.check.isSome false t

/-- SET_FEATURE_DUPLICATE_SUPPRESSION. -/
def setDup (c : Cmd) (s : State) : State :=
  let w := c.e.cdw11.toNat / 2 % 1024
  let en := c.e.cdw11.getLsbD 0
  if c.e.ns == 0 || decide (64 < c.e.ns) then s.finish c.k stInvalidNs
  else match s.ns c.e.ns with
    | none => s.finish c.k stField
    | some _ =>
      if w == 0 || decide (600 < w) || (en && s.get F.FLY_STAT_STATE == 0) then s.finish c.k stField
      else (s.modNs c.e.ns fun v => { v with dup := en, window := w }).finish c.k stOk

/-- SET_FEATURE_KETTLE_GROUP. -/
def setKettle (c : Cmd) (s : State) : State :=
  let w := c.e.cdw11.toNat
  let t := arbWrite F.KET_CFG_ROLE.addr (fun u => ((u.set F.KET_CFG_ROLE w).set F.KET_CFG_NODE_IDX (w / 4)).set F.KET_CFG_GROUP (w / 4096)) s
  let t := arbWrite F.KET_PHCFG_PH_EN.addr (fun u => u.setFlag F.KET_PHCFG_PH_EN (w.testBit 23)) t
  let t := arbWrite 0x900000 (ketEnable (w.testBit 24)) t
  waitCheck c 10 t.ket.checking true t

/-! ### Channel State (R13, R14, R330) -/

/-- A Set Features of Channel State with an action, its channel named; acts again until the command is under way. -/
def chanState (act k : Nat) (f : Cmd → Ch → State → State) (s : State) : State :=
  match startable (fun e => setFeat 0xC3 e && e.cdw11.toNat / 16 % 16 == act) k s with
  | some c =>
    if c.qid ≠ 0 ∧ c.qid ≠ 65536 then s
    else if featSave c.e then s.finish k (sct 1 0x0D)
    else f c (Fin.ofNat 8 (c.e.cdw11.toNat % 8)) s
  | none => s

/-- CHANNEL_STATE_ENABLE: the domains are requested; once they are on the store is loaded and the spindle started (R268), and once it
runs in tolerance EN is written. -/
def stateEnable (c : Cmd) (n : Ch) (s : State) : State :=
  if !chanOn n s then chanDomains n true s
  else if spinsUp n s then s
  else if needsStart n s && !chanFailed n s then mgmtStart n s
  else
    let t := markStarted c.k s
    let t := if t.flag (F.STITCH_VERSION_LOADED n) || t.flag (F.PAGE_ENABLE_EN n) then t else storeLoad n (chanSegments n t) t
    let t := arbWrite (F.PAGE_ENABLE_EN n).addr (enableStart n) t
    waitCheck c n.val (t.get (F.PAGE_ENABLE_PHASE n) == 1) true t

/-- The other actions need a channel that is not absent. -/
def stateAct (c : Cmd) (n : Ch) (f : State → State) (s : State) : State :=
  let t := markStarted c.k s
  if chanAbsent n s then t.finish c.k stChannel else (f t).finish c.k stOk

/-- Whether a channel that is being powered off has come to rest: nothing started is left and the spindle stands. -/
def chanAtRest (n : Ch) (s : State) : Bool :=
  ((s.chan n).sched.ring.all fun i => !i.taken) && motIn n [stOff, stFault] s && !s.flag (F.MOT_STAT_RETRACTING n)

/-- CHANNEL_STATE_POWER_OFF: a disable and a STOP; once the channel is at rest its domains go off. -/
def statePowerOff (c : Cmd) (n : Ch) (s : State) : State :=
  if chanAbsent n s then (markStarted c.k s).finish c.k stChannel
  else
    let t := motCmd (motStop n) (disableStart n s)
    if chanAtRest n t then (markStarted c.k (chanDomains n false t)).chanEvent.finish c.k stOk else t

/-! ### Get Features (R36, R330) -/

/-- The present value of a feature; none when the namespace it is of does not exist. -/
def featValue (c : Cmd) (s : State) : Option Nat :=
  let t := s.ctlr c.ctl
  match c.e.sel with
  | 0x01 => some t.arb
  | 0x05 => (s.ns c.e.ns).map fun v => v.tler
  | 0x07 => let q := t.nq.getD (queueLimit s, queueLimit s); some ((q.1 - 1) + (q.2 - 1) * 65536)
  | 0x08 => some t.coal
  | 0x0B => some t.aec
  | 0xC0 =>
    let l := c.e.cdw11.toNat / 16384 % 4
    some (s.get (F.GATH_LAYOUT_CHAN_MASK l) + s.get (F.GATH_LAYOUT_K l) * 256 + s.get (F.GATH_LAYOUT_M l) * 2048 +
      (if committed (Fin.ofNat 4 l) s then 8192 else 0) + l * 16384 + s.get (F.GATH_LAYOUT_SPARE l) * 65536)
  | 0xC1 => (s.ns c.e.ns).map fun v => v.dup.toNat + 2 * v.window
  | 0xC2 => some (s.get F.KET_CFG_ROLE + s.get F.KET_CFG_NODE_IDX * 4 + s.get F.KET_CFG_GROUP * 4096 + s.get F.KET_PHCFG_PH_EN * 8388608 +
      s.get F.KET_ENABLE_EN * 16777216)
  | 0xC3 => some (chanByte (Fin.ofNat 8 (c.e.cdw11.toNat % 8)) s)
  | _ => some 0

def featDefault (fid : Nat) (s : State) : Nat :=
  match fid with
  | 0x01 => 0x07030003
  | 0x07 => (queueLimit s - 1) * 65537
  | _ => 0

/-- The identifier under which a feature's value is saved. -/
def savedKey (e : Sqe) : Nat := if e.sel == 0x05 then 0x05 + 256 * e.ns else e.sel

/-- Capabilities: saveable, namespace-specific, changeable. -/
def featCaps (fid : Nat) : Nat :=
  (if [0x01, 0x05, 0x08, 0x0B].contains fid then 1 else 0) + (if fid == 0x05 || fid == 0xC1 then 2 else 0) + (if fid == 0x06 then 0 else 4)

/-- GET_FEATURES. The host identifier is returned as data. -/
def getFeature (c : Cmd) (s : State) : State :=
  match featValue c s with
  | none => s.finish c.k stInvalidNs
  | some v =>
    let t := if c.e.sel == 0x81 then s.answer (bytesLe 16 ((s.ctlr c.ctl).hostId.getD 0)) else s
    match featSelect c.e with
    | 0 => t.finishDw c.k stOk v 0
    | 1 => t.finishDw c.k stOk (featDefault c.e.sel s) 0
    | 2 => t.finishDw c.k stOk (savedOr (s.ctlr c.ctl) (savedKey c.e) (featDefault c.e.sel s)) 0
    | 3 => t.finishDw c.k stOk (featCaps c.e.sel) 0
    | _ => s.finish c.k stField

/-! ### Asynchronous events (R340, R341) -/

/-- ASYNC_EVENT_REQUEST: at most eight are outstanding. -/
def eventRequest (c : Cmd) (s : State) : State :=
  if 8 ≤ (s.ctlr c.ctl).aers.length then s.finish c.k (sct 1 0x05)
  else (s.modCmd c.k fun d => { d with items := 1 }).modCtlr c.ctl fun t => { t with aers := t.aers ++ [c.k] }

/-- ASYNC_EVENT_POSTED: the first event that is not masked completes the oldest request. -/
def eventPosted (c : Ctl) (s : State) : State :=
  let t := s.ctlr c
  match t.aers, t.events.find? fun e => !t.masked.contains e.maskKey with
  | k :: ks, some e =>
    let u := s.modCtlr c fun x => { x with aers := ks, events := x.events.erase e, masked := x.masked ++ [e.maskKey] }
    (u.modCmd k fun d => { d with items := 0 }).finishDw k stOk (e.typ + e.info * 256 + e.page * 65536) 0
  | _, _ => s

/-! ### Commands -/

/-- An Identify with a CNS begins. -/
def identify (cns k : Nat) (f : Cmd → State → State) (s : State) : State := adminStart (fun e => e.opc == 0x06#8 && e.sel == cns) k f s
/-- A Get Log Page of an identifier begins. -/
def getLog (lid k : Nat) (f : Cmd → State → State) (s : State) : State := adminStart (fun e => e.opc == 0x02#8 && e.sel == lid) k f s

/-- IDENTIFY_CONTROLLER (R327). -/
def execIdentifyController (k : Nat) (s : State) : Host.Outcome State Fault Refusal :=
  .next (identify 1 k (fun c t => (t.used.answer (idController c.ctl t)).finish k stOk) s)
/-- IDENTIFY_NAMESPACE (R328). -/
def execIdentifyNamespace (k : Nat) (s : State) : Host.Outcome State Fault Refusal := .next (identify 0 k (fun c t => idNs c idNamespace t) s)
/-- IDENTIFY_IO_CMD_SET_NAMESPACE (R328). -/
def execIdentifyIoCmdSetNamespace (k : Nat) (s : State) : Host.Outcome State Fault Refusal :=
  .next (identify 5 k (fun c t => idNs c (fun v _ => idZoned v) t) s)
/-- GET_LOG_ERROR_INFORMATION (R329). -/
def execGetLogErrorInformation (k : Nat) (s : State) : Host.Outcome State Fault Refusal :=
  .next (getLog 0x01 k (fun c t => logAnswer c (errPage (t.ctlr c.ctl)) (some (0, 0)) t) s)
/-- GET_LOG_SMART_HEALTH (R329, R554). -/
def execGetLogSmartHealth (k : Nat) (s : State) : Host.Outcome State Fault Refusal :=
  .next (getLog 0x02 k (fun c t => logAnswer c (smartPage t) (some (1, 0)) t.used) s)
/-- GET_LOG_FIRMWARE_SLOT (R329). -/
def execGetLogFirmwareSlot (k : Nat) (s : State) : Host.Outcome State Fault Refusal :=
  .next (getLog 0x03 k (fun c t => logAnswer c (fwPage t) (some (2, 0)) t) s)
/-- GET_LOG_CHANGED_NAMESPACE_LIST (R329). -/
def execGetLogChangedNamespaceList (k : Nat) (s : State) : Host.Outcome State Fault Refusal :=
  .next (getLog 0x04 k (fun c t =>
    let u := logAnswer c (changedPage (t.ctlr c.ctl)) (some (2, 0)) t
    if logRae c.e || logOfs c.e % 4 != 0 || decide (4096 < logOfs c.e) then u else u.modCtlr c.ctl fun x => { x with changed := [] }) s)
/-- GET_LOG_COMMANDS_SUPPORTED (R329). -/
def execGetLogCommandsSupported (k : Nat) (s : State) : Host.Outcome State Fault Refusal :=
  .next (getLog 0x05 k (fun c t => logAnswer c (cmdPage t) none t.used) s)
/-- GET_LOG_DEVICE_SELF_TEST (R329). -/
def execGetLogDeviceSelfTest (k : Nat) (s : State) : Host.Outcome State Fault Refusal :=
  .next (getLog 0x06 k (fun c t => logAnswer c (testPage t) none t.used) s)
/-- GET_LOG_RESERVATION_NOTIFICATION (R329): the oldest notification, which is then gone. -/
def execGetLogReservationNotification (k : Nat) (s : State) : Host.Outcome State Fault Refusal :=
  .next (getLog 0x80 k (fun c t =>
    let u := logAnswer c (resPage (t.ctlr c.ctl)) (some (6, 0)) t
    if logOfs c.e % 4 != 0 || decide (64 < logOfs c.e) then u else u.modCtlr c.ctl fun x => { x with resLog := x.resLog.drop 1 }) s)
/-- GET_LOG_SANITIZE_STATUS (R329). -/
def execGetLogSanitizeStatus (k : Nat) (s : State) : Host.Outcome State Fault Refusal :=
  .next (getLog 0x81 k (fun c t => logAnswer c (sanPage t) none t.used) s)
/-- GET_LOG_CHANNEL_STATUS (R329, R341). -/
def execGetLogChannelStatus (k : Nat) (s : State) : Host.Outcome State Fault Refusal :=
  .next (getLog 0xC0 k (fun c t => logAnswer c (chanPage t) (some (7, 0xC0)) t) s)
/-- GET_LOG_FLYLEAF_STATUS (R417). -/
def execGetLogFlyleafStatus (k : Nat) (s : State) : Host.Outcome State Fault Refusal :=
  .next (getLog 0xC1 k (fun c t => logAnswer c (flyPage t) (some (7, 0xC1)) t) s)
/-- GET_LOG_GATHERING_STATUS (R442). -/
def execGetLogGatheringStatus (k : Nat) (s : State) : Host.Outcome State Fault Refusal :=
  .next (getLog 0xC2 k (fun c t => logAnswer c (gathPage t) (some (7, 0xC2)) t) s)
/-- GET_LOG_COLOPHON_RECORDS (R535). -/
def execGetLogColophonRecords (k : Nat) (s : State) : Host.Outcome State Fault Refusal := .next (getLog 0xC3 k coloLog s)
/-- SET_FEATURE_ARBITRATION (R323). -/
def execSetFeatureArbitration (k : Nat) (s : State) : Host.Outcome State Fault Refusal :=
  .next (adminStart (setFeat 0x01) k (fun c t =>
    let v := (c.e.cdw11 &&& 0xFFFFFF07#32).toNat
    setSaved c 0x01 v (fun u => u.modCtlr c.ctl fun x => { x with arb := v }) t) s)
/-- SET_FEATURE_ERROR_RECOVERY (R330). -/
def execSetFeatureErrorRecovery (k : Nat) (s : State) : Host.Outcome State Fault Refusal := .next (adminStart (setFeat 0x05) k setTler s)
/-- SET_FEATURE_VOLATILE_WRITE_CACHE (R330): there is none. -/
def execSetFeatureVolatileWriteCache (k : Nat) (s : State) : Host.Outcome State Fault Refusal :=
  .next (adminStart (setFeat 0x06) k (fun c t => t.finish c.k stField) s)
/-- SET_FEATURE_NUMBER_OF_QUEUES (R319). -/
def execSetFeatureNumberOfQueues (k : Nat) (s : State) : Host.Outcome State Fault Refusal :=
  .next (adminStart (setFeat 0x07) k (fun c t => setPlain c (setQueues c) t) s)
/-- SET_FEATURE_INTERRUPT_COALESCING (R331). -/
def execSetFeatureInterruptCoalescing (k : Nat) (s : State) : Host.Outcome State Fault Refusal :=
  .next (adminStart (setFeat 0x08) k (fun c t =>
    let v := c.e.cdw11.toNat % 65536
    setSaved c 0x08 v (fun u => u.modCtlr c.ctl fun x => { x with coal := v }) t) s)
/-- SET_FEATURE_ASYNC_EVENT_CONFIG (R341). -/
def execSetFeatureAsyncEventConfig (k : Nat) (s : State) : Host.Outcome State Fault Refusal :=
  .next (adminStart (setFeat 0x0B) k (fun c t =>
    let v := c.e.cdw11.toNat
    setSaved c 0x0B v (fun u => u.modCtlr c.ctl fun x => { x with aec := v }) t) s)
/-- SET_FEATURE_HOST_IDENTIFIER (R342); `id` is the identifier in host memory. -/
def execSetFeatureHostIdentifier (k : Nat) (id : BitVec 128) (s : State) : Host.Outcome State Fault Refusal :=
  .next (adminStart (setFeat 0x81) k (fun c t => setPlain c (fun u =>
    if c.e.cdw11.getLsbD 0 then (u.modCtlr c.ctl fun x => { x with hostId := some id.toNat }).finish k stOk else u.finish k stField) t) s)
/-- SET_FEATURE_GATHERING_LAYOUT (R330, R420, R421). -/
def execSetFeatureGatheringLayout (k : Nat) (s : State) : Host.Outcome State Fault Refusal :=
  .next (adminStart (setFeat 0xC0) k (fun c t => setPlain c (setLayout c) t) s)
/-- SET_FEATURE_DUPLICATE_SUPPRESSION (R362). -/
def execSetFeatureDuplicateSuppression (k : Nat) (s : State) : Host.Outcome State Fault Refusal :=
  .next (adminStart (setFeat 0xC1) k (fun c t => setPlain c (setDup c) t) s)
/-- SET_FEATURE_KETTLE_GROUP (R330). -/
def execSetFeatureKettleGroup (k : Nat) (s : State) : Host.Outcome State Fault Refusal :=
  .next (adminStart (setFeat 0xC2) k (fun c t => setPlain c (setKettle c) t) s)
/-- CHANNEL_STATE_ENABLE (R330). -/
def execChannelStateEnable (k : Nat) (s : State) : Host.Outcome State Fault Refusal := .next (chanState 1 k stateEnable s)
/-- CHANNEL_STATE_DISABLE (R13). -/
def execChannelStateDisable (k : Nat) (s : State) : Host.Outcome State Fault Refusal :=
  .next (chanState 2 k (fun c n t => stateAct c n (disableStart n) t) s)
/-- CHANNEL_STATE_POWER_OFF (R330, R14). -/
def execChannelStatePowerOff (k : Nat) (s : State) : Host.Outcome State Fault Refusal := .next (chanState 3 k statePowerOff s)
/-- CHANNEL_STATE_SPINDLE_START (R330). -/
def execChannelStateSpindleStart (k : Nat) (s : State) : Host.Outcome State Fault Refusal :=
  .next (chanState 4 k (fun c n t => stateAct c n (mgmtStart n) t) s)
/-- CHANNEL_STATE_SPINDLE_STOP (R330). -/
def execChannelStateSpindleStop (k : Nat) (s : State) : Host.Outcome State Fault Refusal :=
  .next (chanState 5 k (fun c n t => stateAct c n (motCmd (motStop n)) t) s)
/-- CHANNEL_STATE_UNLOAD (R330). -/
def execChannelStateUnload (k : Nat) (s : State) : Host.Outcome State Fault Refusal :=
  .next (chanState 6 k (fun c n t => stateAct c n (startRetract n) t) s)
/-- GET_FEATURES (R36). -/
def execGetFeatures (k : Nat) (s : State) : Host.Outcome State Fault Refusal := .next (adminStart (adminOp 0x0A) k getFeature s)
/-- ASYNC_EVENT_REQUEST (R340). -/
def execAsyncEventRequest (k : Nat) (s : State) : Host.Outcome State Fault Refusal := .next (adminStart (adminOp 0x0C) k eventRequest s)
/-- ASYNC_EVENT_POSTED (R340, R341). -/
def execAsyncEventPosted (c : Ctl) (s : State) : Host.Outcome State Fault Refusal := .next (eventPosted c s)

end Sys2Proof.Machine
end

