-- ==== Sys2Proof/Machine/Dma.lean ====
section
/-! DEFINITION. The copy engine (R489 to R495): a descriptor's copy, its end, and the register writes that reach the engine. -/

namespace Sys2Proof.Machine

/-! ### Beats (R490 to R492) -/

/-- The bytes of the buffer DRAM (R16). -/
def dramBytes (s : State) : Nat := if s.small then 17179869184 else 34359738368

/-- The path as which a DMA channel reaches the set-up space: channels 6 and 7 are under expert access (R35). -/
def dmaPath (c : Ch) : RegPath := if c.val < 6 then .mgmt else .bar2

/-- The addresses and widths of the accesses that a beat makes in the set-up space: of 64 bits where it is wider. -/
def beatParts (a bytes : Nat) : List (Nat × Nat) :=
  if bytes ≤ 8 then [(a, bytes)] else (List.range (bytes / 8)).map fun i => (a + 8 * i, 8)

/-- A source beat; none when it is answered with an error. -/
def beatRead (at_ bytes : Nat) (s : State) : Option (List Nat) × State :=
  let a := at_ % 2 ^ 62
  if at_ / 2 ^ 62 = 0 then (if a + bytes ≤ dramBytes s then some (s.dram.getRun a bytes) else none, s)
  else (beatParts a bytes).foldl (fun (r : Option (List Nat) × State) x =>
    match setupRead x.1 x.2 r.2 with
    | (some v, t) => (r.1.map fun bs => bs ++ bytesLe x.2 v, t)
    | (none, t) => (none, t)) (some [], s)

/-- A destination beat; false when it is answered with an error. -/
def beatWrite (path : RegPath) (at_ : Nat) (bs : List Nat) (s : State) : Bool × State :=
  let a := at_ % 2 ^ 62
  if at_ / 2 ^ 62 = 0 then (if a + bs.length ≤ dramBytes s then (true, { s with dram := s.dram.setRun a bs }) else (false, s))
  else (beatParts a bs.length).foldl (fun (r : Bool × State) x =>
    if 0x4000000 ≤ x.1 then r
    else
      let q := setupWrite path x.1 x.2 (ofBytesLe ((bs.drop (x.1 - a)).take x.2)) r.2
      (r.1 && q.2 != 1, q.1)) (true, s)

/-- `n` open bytes. -/
def freeBytes (n : Nat) (s : State) : List Nat × State :=
  (List.range ((n + 7) / 8)).foldl (fun (r : List Nat × State) _ => ((r.1 ++ bytesLe 8 r.2.fresh.toNat).take n, r.2.used)) ([], s)

/-- A destination beat answered with an error that its target reports: the bytes of memory are open values (R495). -/
def beatSpoil (path : RegPath) (at_ n : Nat) (s : State) : State :=
  if at_ / 2 ^ 62 = 0 || (sramAt (at_ % 2 ^ 62)).isSome then
    let f := freeBytes n s
    (beatWrite path at_ f.1 f.2).2
  else s

/-! ### A copy (R491, R495) -/

/-- How far a copy has come: destination beats issued, those that failed, and whether a source beat failed; the channels whose ABORT its
beats have written, and how many beats are issued when its own was. -/
structure DmaRun where
  issued : Nat
  failed : List Nat
  noRead : Bool
  stop   : Bool
  aborts : List Ch
  cut    : Option Nat
  deriving DecidableEq, Repr

/-- The channel whose DMA.CTL.ABORT a write of the set-up space sets. -/
def abortHit (a bytes v : Nat) : Option Ch :=
  let hit := fun (b w : Nat) => decide (0x600000 ≤ b) && decide (b < 0x600800) && b % 0x100 == 8 && w.testBit 21
  if (bytes ≠ 4 ∧ bytes ≠ 8) ∨ a % 4 ≠ 0 then none
  else if hit a v then some (Fin.ofNat 8 ((a - 0x600000) / 0x100))
  else if bytes = 8 ∧ hit (a + 4) (v / 4294967296) then some (Fin.ofNat 8 ((a + 4 - 0x600000) / 0x100))
  else none

/-- The channels whose ABORT a destination beat sets. -/
def beatHits (at_ : Nat) (bs : List Nat) : List Ch :=
  let a := at_ % 2 ^ 62
  if at_ / 2 ^ 62 = 0 then []
  else (beatParts a bs.length).filterMap fun x => abortHit x.1 x.2 (ofBytesLe ((bs.drop (x.1 - a)).take x.2))

/-- A beat has set ABORT bits: of its own channel no further beat is issued but those under way, an open number. -/
def DmaRun.abort (c : Ch) (hits : List Ch) (open_ : Nat) (r : DmaRun) : DmaRun :=
  { r with aborts := r.aborts ++ (hits.filter fun h => h != c && !r.aborts.contains h)
           cut := if hits.contains c && r.cut.isNone then some (r.issued + open_) else r.cut }

/-- The source beats of a chunk, the lowest first, up to one that fails. -/
def readBeats (d : DmaDesc) (rdErr : List Nat) : List Nat → State → List Nat × Bool × State
  | [], s => ([], false, s)
  | i :: is, s =>
    if rdErr.contains i then ([], true, s)
    else match beatRead (d.src + i * 2 ^ d.srcW) (2 ^ d.srcW) s with
      | (none, t) => ([], true, t)
      | (some bs, t) =>
        let r := readBeats d rdErr is t
        (bs ++ r.1, r.2)

/-- Whether no further beat is issued: the limit, an error that no later one follows, or the channel's own ABORT. -/
def DmaRun.ended (limit : Nat) (r : DmaRun) : Bool := r.stop || decide (limit ≤ r.issued) || r.cut.any fun k => decide (k ≤ r.issued)

/-- A destination beat has been issued. No beat follows a failed one but those up to the last that failed. -/
def DmaRun.step (wrErr : List Nat) (ok : Bool) (r : DmaRun) : DmaRun :=
  { r with issued := r.issued + 1
           failed := if ok then r.failed else r.failed ++ [r.issued]
           stop := (!ok || !r.failed.isEmpty) && !wrErr.any fun x => decide (r.issued < x) }

/-- The destination beats of a chunk. -/
def writeBeats (c : Ch) (d : DmaDesc) (wrErr : List Nat) (limit : Nat) : Nat → List Nat → DmaRun → State → DmaRun × State
  | 0, _, r, s => (r, s)
  | f + 1, bs, r, s =>
    let w := 2 ^ d.dstW
    let at_ := d.dst + r.issued * w
    if bs.length < w || r.ended limit then (r, s)
    else if wrErr.contains r.issued then writeBeats c d wrErr limit f (bs.drop w) (r.step wrErr false) (beatSpoil (dmaPath c) at_ w s)
    else
      let q := beatWrite (dmaPath c) at_ (bs.take w) s
      let hits := if q.1 then beatHits at_ (bs.take w) else []
      writeBeats c d wrErr limit f (bs.drop w) ((r.step wrErr q.1).abort c hits s.fresh.toNat) (q.2.when (!hits.isEmpty) State.used)

/-- Chunks of the wider beat, in order. -/
def copyChunks (c : Ch) (d : DmaDesc) (rdErr wrErr : List Nat) (limit : Nat) : Nat → Nat → DmaRun → State → DmaRun × State
  | 0, _, r, s => (r, s)
  | f + 1, k, r, s =>
    if r.noRead || r.ended limit then (r, s)
    else
      let n := 2 ^ (max d.srcW d.dstW - d.srcW)
      let m := 2 ^ (max d.srcW d.dstW - d.dstW)
      let x := readBeats d rdErr ((List.range n).map fun i => k * n + i) s
      let q := writeBeats c d wrErr limit m x.1 r x.2.2
      copyChunks c d rdErr wrErr limit f (k + 1) { q.1 with noRead := x.2.1 } q.2

/-- The running descriptor's copy, of at most `limit` destination beats. -/
def dmaCopy (c : Ch) (rdErr wrErr : List Nat) (limit : Nat) (s : State) : DmaRun × State :=
  let d := dmaDesc c s
  copyChunks c d rdErr wrErr limit (d.len / 2 ^ max d.srcW d.dstW) 0 ⟨0, [], false, false, [], none⟩ s

/-- Code and FAIL_OFS of a copy that ran to its end (R494, R495). FAIL_OFS of one that failed nowhere is an open value. -/
def dmaResult (d : DmaDesc) (r : DmaRun) (s : State) : Nat × Nat × State :=
  let w := 2 ^ d.dstW
  match r.failed with
  | i :: is =>
    if is.isEmpty && i + 1 == d.len / w then (4, d.len - w, s)
    else (3, i * w, s)
  | [] =>
    if r.noRead then (2, r.issued * w, s)
    else (1, s.fresh.toNat % 4294967296, s.used)

/-- ABORT was written to channels: each that runs a descriptor ends it after an open number of destination beats, whose own ABORTs follow
(R495). The fuel covers every such chain, for an aborted channel is halted. -/
def dmaStop : Nat → List Ch → State → State
  | 0, _, s => s
  | _ + 1, [], s => s
  | f + 1, c :: cs, s =>
    if !s.flag (F.DMA_STAT_BUSY c) then dmaStop f cs s
    else
      let d := dmaDesc c s
      let r := dmaCopy c [] [] (min s.fresh.toNat (d.len / 2 ^ d.dstW)) s.used
      dmaStop f (cs ++ r.1.aborts) (dmaEnd c 6 (r.1.issued * 2 ^ d.dstW) r.2)

/-- DMA_DESCRIPTOR_DONE: the responses of the beats have all returned; `rdErr` and `wrErr` are the source and destination beats that
were answered with an error. A descriptor that has written its own channel's ABORT ends ABORTED. -/
def dmaDone (c : Ch) (rdErr wrErr : List Nat) (s : State) : State :=
  if !s.flag (F.DMA_STAT_BUSY c) then s
  else
    let d := dmaDesc c s
    let r := dmaCopy c rdErr wrErr (d.len / 2 ^ d.dstW) s
    let e := if r.1.cut.isSome then (6, r.1.issued * 2 ^ d.dstW, r.2) else dmaResult d r.1 r.2
    dmaKick c (dmaStop 80 r.1.aborts (dmaEnd c e.1 e.2.1 e.2.2))

/-- ABORT is written while `done` destination beats have been issued. -/
def dmaAbort (c : Ch) (done : Nat) (s : State) : State :=
  if !s.flag (F.DMA_STAT_BUSY c) then s
  else
    let d := dmaDesc c s
    let r := dmaCopy c [] [] (min done (d.len / 2 ^ d.dstW)) s
    dmaStop 80 r.1.aborts (dmaEnd c 6 (r.1.issued * 2 ^ d.dstW) r.2)

/-! ### Register writes over every path -/

/-- A write of a register; one of DMA.CTL.ABORT ends the running descriptor after an open number of beats. -/
def regWriteAll (path : RegPath) (a bytes v : Nat) (s : State) : State × Nat :=
  let r := setupWrite path a bytes v s
  match abortHit a bytes v with
  | some c => if r.2 = 1 then r else (dmaAbort c r.1.fresh.toNat r.1.used, r.2)
  | none => r

def sideWrite (a bytes v : Nat) (s : State) : State :=
  if !domOn 45 s then s
  else if a % bytes ≠ 0 then sideAnswer 3 [] s
  else if 0x4000000 ≤ a then sideAnswer 0 [] (breakSeq s)
  else
    let r := regWriteAll .sideband a bytes v s
    sideAnswer r.2 [] r.1

/-! ### Commands -/

/-- DMA_TAIL_WRITE (R490, R493). -/
def execDmaTailWrite (c : Ch) (tail : W16) (s : State) : Host.Outcome State Fault Refusal :=
  .next (arbWrite (F.DMA_CTL_TAIL c).addr (fun t => dmaKick c (t.set (F.DMA_CTL_TAIL c) tail.toNat)) s)
/-- DMA_DESCRIPTOR_DONE (R491 to R495). -/
def execDmaDescriptorDone (c : Ch) (rdErr wrErr : List Nat) (s : State) : Host.Outcome State Fault Refusal := .next (dmaDone c rdErr wrErr s)
/-- DMA_ABORT (R495). -/
def execDmaAbort (c : Ch) (done : Nat) (s : State) : Host.Outcome State Fault Refusal :=
  .next (arbWrite (F.DMA_CTL_TAIL c).addr (dmaAbort c done) s)
/-- DMA_CLR_HALT (R494). -/
def execDmaClrHalt (c : Ch) (s : State) : Host.Outcome State Fault Refusal := .next (arbWrite (F.DMA_CTL_TAIL c).addr (dmaResume c) s)
/-- REGISTER_WRITE (R573, R577, R578). -/
def execRegisterWrite (path : RegPath) (addr : BitVec 26) (bytes : Nat) (v : W64) (s : State) : Host.Outcome State Fault Refusal :=
  .next (regWriteAll path addr.toNat bytes v.toNat s).1
/-- SIDEBAND_WRITE_32 (R345). -/
def execSidebandWrite32 (addr : W32) (v : W32) (s : State) : Host.Outcome State Fault Refusal := .next (sideWrite addr.toNat 4 v.toNat s)
/-- SIDEBAND_WRITE_64 (R345). -/
def execSidebandWrite64 (addr : W32) (v : W64) (s : State) : Host.Outcome State Fault Refusal := .next (sideWrite addr.toNat 8 v.toNat s)

end Sys2Proof.Machine
end

