-- ==== Sys2Proof/Machine/Mi.lean ====
section
/-! DEFINITION. The I3C target and the NVMe-MI messages over the sideband and in band (R325, R343, R344). Opcodes,
identifiers and response codes that the spec leaves to NVMe-MI are as that standard numbers them (log entry 7). -/

namespace Sys2Proof.Machine

/-! ### NVMe-MI responses -/

/-- Response codes of NVMe-MI. -/
def miOk : Nat := 0
def miBadOpcode : Nat := 3
def miBadParam : Nat := 4

/-- A message over the sideband: the responder runs while its domain is on. -/
def overSideband (f : State → State) (s : State) : State := if domOn 45 s then f s else s

/-- Configuration Set: its response code, and the state after it. -/
def confSet (ident v : Nat) (s : State) : Nat × State :=
  if ident == 0x03 then
    if v < 64 then (miBadParam, s) else (miOk, s.modHost fun h => { h with i3c := { h.i3c with mtu := v } })
  else if ident == 0x02 then (miOk, s.modHost fun h => { h with i3c := { h.i3c with hsc := v } })
  else (miBadParam, s)

/-- Configuration Get: its response code and value. -/
def confGet (ident : Nat) (s : State) : Nat × Nat :=
  if ident == 0x03 then (miOk, s.host.i3c.mtu % 65536)
  else if ident == 0x02 then (miOk, s.host.i3c.hsc)
  else (miBadParam, 0)

/-- An answer of `n` bytes whose contents the spec does not give. -/
def miOpen (n : Nat) (s : State) : State := (sideAnswer miOk (openBytes n s) s).used

/-- Whether a tunnelled admin command is one of the table of R344. -/
def miAdminOk (e : Sqe) : Bool :=
  [0x02#8, 0x06#8, 0x0A#8, 0x10#8, 0x11#8, 0x14#8].contains e.opc || (e.opc == 0x09#8 && [0x0B, 0xC0, 0xC2, 0xC3].contains e.sel)

/-- MI_ADMIN_COMMAND: the command joins the table, outside every queue. -/
def miAdmin (c : Ctl) (e : Sqe) (s : State) : State :=
  if !miAdminOk e then sideAnswer miBadOpcode [] s
  else if !portThere c s then sideAnswer miBadParam [] s
  else sideAnswer miOk [] (addCmd c 65536 e (if s.flag F.FAULT_STAT_SAFE then some stInternal else adminCheck e s) s)

/-- NVMe-MI Send: of the messages that carry data to the device only Configuration Set is supported. The response code and
value stand in dword 0 of the completion. -/
def miSend (c : Cmd) (s : State) : State :=
  if c.e.cdw11.toNat % 256 == 0x03 then
    let r := confSet (c.e.cdw12.toNat % 256) (c.e.cdw13.toNat % 65536) s
    r.2.finishDw c.k stOk r.1 0
  else s.finishDw c.k stOk miBadOpcode 0

/-- NVMe-MI Receive. -/
def miReceive (c : Cmd) (s : State) : State :=
  match c.e.cdw11.toNat % 256 with
  | 0x00 => ((s.answer (openBytes 32 s)).finishDw c.k stOk miOk 0).used
  | 0x01 => ((s.answer (openBytes 8 s)).finishDw c.k stOk miOk 0).used
  | 0x02 => ((s.answer (openBytes 16 s)).finishDw c.k stOk miOk 0).used
  | 0x04 =>
    let r := confGet (c.e.cdw12.toNat % 256) s
    s.finishDw c.k stOk (r.1 + 256 * r.2) 0
  | _ => s.finishDw c.k stOk miBadOpcode 0

/-! ### The I3C target (R343) -/

def modI3c (f : I3c → I3c) (s : State) : State := s.modHost fun h => { h with i3c := f h.i3c }

/-- The bytes of a number, most significant first. -/
def i3cBytes (k v : Nat) : List Nat := (bytesLe k v).reverse

/-- A directed code is answered only by a target that has a dynamic address. -/
def i3cAnswer (bs : List Nat) (s : State) : State := modI3c (fun x => { x with ans := if x.dyn.isSome then bs else [] }) s

/-- A directed code that sets something acts only on a target that has a dynamic address. -/
def i3cSet (f : I3c → I3c) (s : State) : State := modI3c (fun x => if x.dyn.isSome then f x else x) s

/-! ### Commands -/

/-- NVME_MI_SEND (R325, R344). -/
def execNvmeMiSend (k : Nat) (s : State) : Host.Outcome State Fault Refusal := .next (adminStart (adminOp 0x1D) k miSend s)
/-- NVME_MI_RECEIVE (R325, R344). -/
def execNvmeMiReceive (k : Nat) (s : State) : Host.Outcome State Fault Refusal := .next (adminStart (adminOp 0x1E) k miReceive s)
/-- MI_READ_DATA_STRUCTURE (R344). -/
def execMiReadDataStructure (s : State) : Host.Outcome State Fault Refusal := .next (overSideband (miOpen 32) s)
/-- MI_SUBSYSTEM_HEALTH_POLL (R344). -/
def execMiSubsystemHealthPoll (s : State) : Host.Outcome State Fault Refusal := .next (overSideband (miOpen 8) s)
/-- MI_CONTROLLER_HEALTH_POLL (R344): of a controller whose port exists. -/
def execMiControllerHealthPoll (c : Ctl) (s : State) : Host.Outcome State Fault Refusal :=
  .next (overSideband (fun t => if portThere c t then miOpen 16 t else sideAnswer miBadParam [] t) s)
/-- MI_CONFIGURATION_SET (R344). -/
def execMiConfigurationSet (ident : Byte) (v : W16) (s : State) : Host.Outcome State Fault Refusal :=
  .next (overSideband (fun t => let r := confSet ident.toNat v.toNat t; sideAnswer r.1 [] r.2) s)
/-- MI_CONFIGURATION_GET (R344). -/
def execMiConfigurationGet (ident : Byte) (s : State) : Host.Outcome State Fault Refusal :=
  .next (overSideband (fun t => let r := confGet ident.toNat t; sideAnswer r.1 (if r.1 = miOk then bytesLe 2 r.2 else []) t) s)
/-- MI_ADMIN_COMMAND (R344). -/
def execMiAdminCommand (c : Ctl) (e : Sqe) (s : State) : Host.Outcome State Fault Refusal := .next (overSideband (miAdmin c e) s)

/-- I3C_ENTDAA (R343): a target without a dynamic address takes the one assigned. -/
def execI3cEntdaa (a : BitVec 7) (s : State) : Host.Outcome State Fault Refusal :=
  .next (modI3c (fun x => if x.dyn.isNone then { x with dyn := some a.toNat } else x) s)
/-- I3C_SETDASA (R343): addressed by the static address. -/
def execI3cSetdasa (st a : BitVec 7) (s : State) : Host.Outcome State Fault Refusal :=
  .next (modI3c (fun x => if x.static = st.toNat ∧ x.dyn.isNone then { x with dyn := some a.toNat } else x) s)
/-- I3C_RSTDAA (R343). -/
def execI3cRstdaa (s : State) : Host.Outcome State Fault Refusal := .next (modI3c (fun x => { x with dyn := none }) s)
/-- I3C_GETPID (R343): six bytes that the spec does not give. -/
def execI3cGetpid (s : State) : Host.Outcome State Fault Refusal := .next (i3cAnswer (i3cBytes 6 Config.i3cPid.toNat) s)
/-- I3C_GETBCR (R343). -/
def execI3cGetbcr (s : State) : Host.Outcome State Fault Refusal := .next (i3cAnswer [Config.i3cBcr.toNat] s)
/-- I3C_GETDCR (R343). -/
def execI3cGetdcr (s : State) : Host.Outcome State Fault Refusal := .next (i3cAnswer [Config.i3cDcr.toNat] s)
/-- I3C_GETMWL (R343): most significant byte first, as I3C sends it. -/
def execI3cGetmwl (s : State) : Host.Outcome State Fault Refusal := .next (i3cAnswer (i3cBytes 2 s.host.i3c.mwl) s)
/-- I3C_GETMRL (R343). -/
def execI3cGetmrl (s : State) : Host.Outcome State Fault Refusal := .next (i3cAnswer (i3cBytes 2 s.host.i3c.mrl) s)
/-- I3C_SETMWL (R343). -/
def execI3cSetmwl (v : W16) (s : State) : Host.Outcome State Fault Refusal := .next (i3cSet (fun x => { x with mwl := v.toNat }) s)
/-- I3C_SETMRL (R343). -/
def execI3cSetmrl (v : W16) (s : State) : Host.Outcome State Fault Refusal := .next (i3cSet (fun x => { x with mrl := v.toNat }) s)
/-- I3C_ENEC (R343): bit 0 enables in-band interrupts. -/
def execI3cEnec (ev : Byte) (s : State) : Host.Outcome State Fault Refusal :=
  .next (i3cSet (fun x => { x with evEn := x.evEn || ev.getLsbD 0 }) s)
/-- I3C_DISEC (R343). -/
def execI3cDisec (ev : Byte) (s : State) : Host.Outcome State Fault Refusal :=
  .next (i3cSet (fun x => { x with evEn := x.evEn && !ev.getLsbD 0 }) s)

end Sys2Proof.Machine
end

