-- ==== Sys2Proof/Machine/Nsm.lean ====
section
/-! DEFINITION. Namespaces, the Cyhal image, self-tests, Format and Sanitize, and reservations (R70, R325, R328, R332, R333, R342,
R356, R392, R422). Codes that the spec leaves to NVM Express are as that standard numbers them (log entry 7). -/

namespace Sys2Proof.Machine

/-! ### What a namespace's end or erasure takes along (R70, R356, R390, R392, R459, R465) -/

/-- Whether a work item is on a namespace. -/
def Item.onNs (nsid : Nat) (i : Item) : Bool := i.lb.toList.any fun x => match x with | some y => y.1 == nsid | none => false

/-- No item of a namespace has been taken or belongs to a stripe update. -/
def nsQuiet (nsid : Nat) (s : State) : Bool :=
  allChans.all fun n => (s.chan n).sched.ring.all fun i => !i.onNs nsid || (!i.taken && i.stripe.isNone)

/-- A write to a namespace that was fetched before `k` has not ended. -/
def writesAhead (k nsid : Nat) (s : State) : Bool := s.host.cmds.any fun d => decide (d.k < k) && d.wr && d.e.ns == nsid

/-- The write buffer, waiting destage and background work, the ladders (R110), the warm lines and the read tracker of a namespace are
dropped. -/
def dropNsWork (v : Ns) (s : State) : State :=
  let ws := s.host.wb.filter fun w => w.nsid == v.nsid
  let t := s.each (ws.filterMap fun w => w.hdl) fun h u => dropBuf h u
  let t := dropRewrites v.nsid 0 v.nsze t
  let on := fun (x : Option (Nat × Nat)) => match x with | some y => y.1 == v.nsid | none => false
  let t := t.each allChans fun n u =>
    (u.modSched n fun y => { y with rewrites := y.rewrites.filter fun r => !(on r.lb) }).each
      ((u.chan n).sched.ladders.filter fun l => on l.lblk) fun l w => cancelLadder n l w
  let t := t.each allChans fun n u =>
    let u := u.each ((u.chan n).sched.ring.filter fun i => i.kind == .spec && i.onNs v.nsid) fun i w => specDrop n i w
    u.modSched n fun y => { y with ring := y.ring.filter fun i => !((i.kind == .destage || i.kind == .spec) && i.onNs v.nsid) }
  let t := { t with gath := { t.gath with lay := t.gath.lay.map fun (y : Layout) => { y with
    locks := y.locks.filter fun x => !(x.2.2 == 0 && ws.any fun w => w.k == x.2.1) } } }
  let mine := fun (p : Parked) => p.kind == .destage && p.sects.any fun x => match x.lb with | some y => y.1 == v.nsid | none => false
  let t := t.modHost fun h => { h with
    wb := h.wb.filter fun w => w.nsid != v.nsid
    parked := h.parked.filter fun p => !mine p
    tracks := h.tracks.filter fun x => x.nsid != v.nsid }
  warmDrop v.nsid 0 v.nsze t

/-- The numbers of a namespace's live entries. -/
def nsLive (nsid : Nat) (s : State) : List Nat :=
  (((s.fly.pages ++ s.fly.flight).flatMap fun p => p.ents).filter fun e => e.nsid == nsid && s.fly.live.contains e.seq).map fun e => e.seq

/-- An entry without data of a namespace. -/
def bareEntry (seq nsid kind opc : Nat) (s : State) : FEntry :=
  { seq := seq, lba := 0, cnt := 0, nsid := nsid, gen := s.fly.nsgen.get nsid, kind := kind, bm := false, copy := false, pos := 0, len := 1,
    stamp := 0, opc := opc, act := 0, bmLba := 0, bmCnt := 0, blk := ⟨List.replicate 4096 0, List.replicate 64 0⟩, zpi := none }

/-- The generation of a namespace goes up, its older entries and bookmarks are void, and an NSGEN entry records it while the journal is
writable (R392). -/
def nextGen (nsid : Nat) (s : State) : State :=
  let t := s.modFly fun y => { y with
    nsgen := y.nsgen.set nsid ((y.nsgen.get nsid + 1) % 65536)
    live := y.live.filter fun q => !(nsLive nsid s).contains q
    packH := y.packH.filter fun e => e.nsid != nsid
    bms := y.bms.filter fun b => b.nsid != nsid
    pendBm := y.pendBm.filter fun b => b.1.nsid != nsid }
  let t := bkSync t
  if t.get F.FLY_STAT_STATE == 2 then
    let q := t.fly.nextSeq
    flyPush true [bareEntry q nsid 6 0x0D t] (t.modFly fun y => { y with nextSeq := q + 1 })
  else t

/-- A namespace changed: it joins the changed lists, and the event is reported (R340). -/
def nsChanged (nsid : Nat) (cs : List Ctl) (s : State) : State :=
  s.each cs fun c t => (t.modCtlr c fun x => { x with changed := if x.changed.contains nsid then x.changed else insertSorted nsid x.changed }).aen c 2 0 0x04

/-! ### Namespace Management (R70, R332, R422) -/

def emptyResv : Resv := ⟨[], none, none, 0, false⟩

/-- Zones of a new zoned namespace. -/
def newZones (zoned : Bool) (nsze : Nat) : List Zone := if zoned then List.replicate (nsze / zoneSize) ⟨0, 0⟩ else []

def newNs (nsid : Nat) (d : NsDesc) (zoned : Bool) (base : Nat) : Ns where
  nsid := nsid
  stream := d.mode == 1
  place := d.place.toNat
  strict := d.attr.getLsbD 0
  dup := d.attr.getLsbD 1
  window := 60
  zoned := zoned
  base := base
  nsze := d.nsze
  lbaf := d.lbaf
  pi := 0
  mset := false
  tler := 0
  attach := []
  zones := newZones zoned d.nsze
  resv := emptyResv
  busy := false
  bad := []

/-- The run of a namespace: channel blocks of its channel, or stripes of its layout. -/
def nsRun (d : NsDesc) (s : State) : Option Nat :=
  if d.place.toNat < 8 then
    let n := chOf d.place.toNat
    lowestRun (s.chan n).sched.runs (chanBlocks (s.chan n)) d.nsze
  else
    let l : Fin 4 := Fin.ofNat 4 (d.place.toNat - 0x80)
    let per := 64 * layoutK l s
    let cap := s.get (F.GATH_EXTENT_EXTENT l) / (layoutK l s + layoutM l s) * layoutW l s
    lowestRun ((nssOn l s).map fun v => ⟨v.base, v.nsze / per, true, v.nsid⟩) cap (d.nsze / per)

/-- The status that refuses a create; none when it may take its run. -/
def createRefused (csi : Nat) (d : NsDesc) (s : State) : Option Nat :=
  let gath := decide (0x80 ≤ d.place.toNat) && decide (d.place.toNat ≤ 0x83)
  let l : Fin 4 := Fin.ofNat 4 (d.place.toNat - 0x80)
  let n := chOf d.place.toNat
  if csi ≠ 0 ∧ csi ≠ 2 then some (sct 1 0x29)
  else if 1 < d.mode.toNat || (7 < d.place.toNat && !gath) || 3 < d.attr.toNat || d.b3843 ≠ 0 || d.nsze = 0 then some stField
  else if 2 < d.lbaf then some (sct 1 0x0A)
  else if csi = 2 ∧ d.nsze % zoneSize ≠ 0 then some stField
  else if (d.place.toNat < 8 && (chanAbsent n s || chanFailed n s)) || (gath && !committed l s) then some stChannel
  else if (d.mode = 0 || d.attr.getLsbD 1) && s.get F.FLY_STAT_STATE == 0 then some stField
  else if d.attr.getLsbD 0 && decide (4 ≤ (s.host.nss.filter fun v => v.strict).length) then some stStrict
  else if gath && d.nsze % (64 * layoutK l s) ≠ 0 then some stField
  else none

/-- NAMESPACE_CREATE. -/
def nsCreate (d : NsDesc) (c : Cmd) (s : State) : State :=
  let csi := c.e.cdw11.toNat / 16777216
  match createRefused csi d s with
  | some st => s.finish c.k st
  | none => match (List.range 64).find? fun i => (s.ns (i + 1)).isNone with
    | none => s.finish c.k (sct 1 0x16)
    | some i => match nsRun d s with
      | none => s.finish c.k (sct 1 0x15)
      | some base =>
        let nsid := i + 1
        let t := s.modHost fun h => { h with nss := h.nss ++ [newNs nsid d (csi == 2) base] }
        let t := if d.place.toNat < 8 then
            let n := chOf d.place.toNat
            defectSync n (t.modSched n fun y => { y with runs := y.runs ++ [⟨base, d.nsze, false, nsid⟩] })
          else t
        (nextGen nsid t).finishDw c.k stOk nsid 0

/-- One namespace is deleted for a command, which then waits for the INVALIDATE. -/
def nsDeleteOne (k : Nat) (v : Ns) (s : State) : State :=
  let open_ := s.host.cmds.filter fun d => decide (0 < d.qid) && decide (d.qid < 65536) && d.e.ns == v.nsid && d.isOpen
  let t := s.each open_ fun d u => failCmd d.k stInvalidNs u
  let t := dropNsWork v t
  let t := t.each allChans fun n u => u.modSched n fun y => { y with runs := y.runs.filter fun r => r.layout || r.owner != v.nsid }
  let t := t.modHost fun h => { h with nss := h.nss.filter fun x => x.nsid != v.nsid }
  pump (invalidateNs v.nsid k (nsChanged v.nsid v.attach (nextGen v.nsid t)))

/-- NAMESPACE_DELETE: of one namespace, or of all. It acts once nothing of it runs. -/
def nsDelete (k : Nat) (s : State) : State :=
  match startable (fun e => e.opc == 0x0D#8 && e.cdw10.toNat % 16 == 1) k s with
  | none => s
  | some c =>
    let vs := if c.e.ns = 0xFFFFFFFF then s.host.nss else s.host.nss.filter fun v => v.nsid == c.e.ns
    if c.qid ≠ 0 then s
    else if vs.isEmpty && c.e.ns != 0xFFFFFFFF then (markStarted k s).finish k stInvalidNs
    else if !vs.all fun v => nsQuiet v.nsid s then s
    else (markStarted k s).each vs fun v t => nsDeleteOne k v t

/-- Attachment: the namespace and the controllers listed. -/
def nsAttach (on : Bool) (cs : List Ctl) (c : Cmd) (s : State) : State :=
  match s.ns c.e.ns with
  | none => s.finish c.k stInvalidNs
  | some v =>
    if cs.isEmpty || cs.any fun d => !portThere d s then s.finish c.k (sct 1 0x1C)
    else if on && cs.any fun d => v.attach.contains d then s.finish c.k (sct 1 0x18)
    else if !on && cs.any fun d => !v.attach.contains d then s.finish c.k (sct 1 0x1A)
    else
      let t := s.modNs v.nsid fun x => { x with attach := if on then x.attach ++ cs.dedup else x.attach.filter fun d => !cs.contains d }
      (nsChanged v.nsid cs.dedup t).finish c.k stOk

/-! ### The Cyhal image (R333, R565) -/

/-- FIRMWARE_IMAGE_DOWNLOAD: `img` is the image as it stands staged after this part. -/
def imageDownload (img : Image) (c : Cmd) (s : State) : State :=
  if (c.e.cdw10.toNat + 1) * 4 % 4096 ≠ 0 ∨ c.e.cdw11.toNat * 4 % 4096 ≠ 0 then s.finish c.k stField
  else { s with boot := { s.boot with staged := some img } }.finish c.k stOk

/-- The boot-flash slot that a commit names: firmware slots 1 and 2, and for 0 the slot that is not booted. -/
def commitSlot (e : Sqe) (s : State) : Option (Fin 2) :=
  match e.cdw10.toNat % 8 with
  | 0 => some (Fin.ofNat 2 (1 - s.get F.RST_BOOTSTAT_SLOT))
  | 1 => some 0
  | 2 => some 1
  | _ => none

/-- A commit: the staged image is verified and written, or the slot's own image is selected; `act` when it takes effect at the next
reset. -/
def imageCommit (write act : Bool) (c : Cmd) (s : State) : State :=
  match commitSlot c.e s with
  | none => s.finish c.k (sct 1 0x06)
  | some i =>
    let g := if write then s.boot.staged else s.boot.slots[i]
    match g with
    | none => s.finish c.k (sct 1 0x07)
    | some img =>
      if imageReason (some img) true s ≠ 0 then s.finish c.k (sct 1 0x07)
      else
        let t := { s with boot := { s.boot with
          slots := if write then s.boot.slots.set i (some img) else s.boot.slots } }
        let t := if act then { t with boot := t.boot.select i.val } else t
        (if write then t.record (hostIdent 0x08) 0x0300 ([i.val, 0] ++ bytesLe 2 img.baseVer) else t).finish c.k stOk

/-! ### Device Self-test (R325) -/

/-- Whether a running self-test has ended by now, and its result, are open values. -/
def testSettle (s : State) : State :=
  match s.host.test with
  | none => s
  | some x =>
    let v := s.fresh.toNat
    if v % 2 = 0 then s.used
    else s.used.modHost fun h => { h with test := none, tests := (⟨x, v / 2 % 16, v / 32 % 256⟩ :: h.tests).take 20 }

/-- A self-test starts, unless one runs. -/
def testStart (code : Nat) (c : Cmd) (s : State) : State :=
  let t := testSettle s
  if t.host.test.isSome then t.finish c.k (sct 1 0x1D) else (t.modHost fun h => { h with test := some code }).finish c.k stOk

/-- A running self-test is aborted. -/
def testAbort (c : Cmd) (s : State) : State :=
  let t := testSettle s
  match t.host.test with
  | some x => (t.modHost fun h => { h with test := none, tests := (⟨x, 1, 0⟩ :: h.tests).take 20 }).finish c.k stOk
  | none => t.finish c.k stOk

/-! ### Format and Sanitize (R328, R356, R390) -/

/-- The user data of a namespace is erased for a command, in its place in fetch order. -/
def eraseNs (k : Nat) (v : Ns) (s : State) : State :=
  let t := dropNsWork v (unlive (nsLive v.nsid s) s)
  let t := t.modNs v.nsid fun x => { x with busy := false, bad := [], zones := newZones x.zoned x.nsze }
  let t := if t.get F.FLY_STAT_STATE == 2 then
      let q := t.fly.nextSeq
      let opc := match t.cmd k with | some c => c.e.opc.toNat | none => 0
      let t := t.modCmd k fun d => { d with seq0 := if d.seqLen = 0 then q else d.seq0, seqLen := d.seqLen + 1, ents := d.ents + 1 }
      flyPush true [bareEntry q v.nsid 5 opc t] (t.modFly fun y => { y with nextSeq := q + 1 })
    else t
  invalidateNs v.nsid k t

/-- Whether nothing stands before an erasure of namespaces. -/
def eraseReady (k : Nat) (vs : List Ns) (s : State) : Bool := vs.all fun v => !writesAhead k v.nsid s && nsQuiet v.nsid s

/-- FORMAT_NVM. -/
def formatNvm (k : Nat) (s : State) : State :=
  match startable (fun e => e.opc == 0x80#8) k s with
  | none => s
  | some c =>
    let w := c.e.cdw10.toNat
    let lbaf := w % 16
    let pi := w / 32 % 8
    let vs := if c.e.ns = 0xFFFFFFFF then s.host.nss.filter fun v => v.attach.contains c.ctl else s.host.nss.filter fun v => v.nsid == c.e.ns
    if c.qid ≠ 0 then s
    else if c.e.ns == 0 || (decide (64 < c.e.ns) && c.e.ns != 0xFFFFFFFF) then (markStarted k s).finish k stInvalidNs
    else if vs.isEmpty || decide (1 < w / 512 % 8) then (markStarted k s).finish k stField
    else if decide (2 < lbaf) || decide (3 < pi) || (pi != 0 && lbaf != 1) then (markStarted k s).finish k (sct 1 0x0A)
    else if !eraseReady k vs s then s
    else
      pump ((markStarted k s).each vs fun v t => nsChanged v.nsid v.attach (eraseNs k v
        (t.modNs v.nsid fun x => { x with lbaf := lbaf, pi := pi, mset := w.testBit 4 })))

/-- SANITIZE_OVERWRITE: of every namespace. -/
def sanitize (k : Nat) (s : State) : State :=
  match startable (fun e => e.opc == 0x84#8 && e.cdw10.toNat % 8 == 3) k s with
  | none => s
  | some c =>
    if c.qid ≠ 0 || !eraseReady k s.host.nss s then s
    else
      let t := (markStarted k s).each s.host.nss fun v t => eraseNs k v t
      pump (t.modHost fun h => { h with sanSt := 1, sanDw := c.e.cdw10.toNat })

/-! ### Reservations (R342) -/

def ResType.code (t : ResType) : Nat :=
  match t with
  | .writeExclusive => 1
  | .exclusiveAccess => 2
  | .writeExclusiveRegistrants => 3
  | .exclusiveAccessRegistrants => 4
  | .writeExclusiveAll => 5
  | .exclusiveAccessAll => 6

/-- A reservation command of a namespace begins, in order of fetch. -/
def resStart (opc : Byte) (k : Nat) (f : Cmd → Ns → State → State) (s : State) : State :=
  match startable (fun e => e.opc == opc) k s with
  | none => s
  | some c =>
    if c.qid = 0 || c.qid = 65536 then s
    else if s.host.cmds.any fun d => decide (d.k < k) && d.e.nsid == c.e.nsid && [0x0D#8, 0x11#8, 0x15#8].contains d.e.opc &&
        d.isOpen && decide (0 < d.qid) && decide (d.qid < 65536) then s
    else match s.ns c.e.ns with
      | none => (markStarted k s).finish k stInvalidNs
      | some v => f c v (markStarted k s)

/-- A notification (1 registration preempted, 2 reservation released, 3 reservation preempted) for the controllers of some hosts. -/
def resNotify (typ : Nat) (v : Ns) (hosts : List Nat) (s : State) : State :=
  s.each (v.attach.filter fun c => match (s.ctlr c).hostId with | some h => hosts.contains h | none => false) fun c t =>
    (t.modCtlr c fun x => { x with resLog := x.resLog ++ [(typ, v.nsid)], resCnt := x.resCnt + 1 }).aen c 6 0 0x80

def setResv (v : Ns) (r : Resv) (s : State) : State := s.modNs v.nsid fun x => { x with resv := r }

/-- The key of a host, when it is registered. -/
def Resv.key (r : Resv) (h : Nat) : Option Nat := (r.regs.find? fun x => x.1 == h).map fun x => x.2

/-- Whether a host holds the reservation. -/
def Resv.holds (r : Resv) (h : Nat) : Bool :=
  match r.typ with
  | some t => r.holder == some h || (resAll t && (r.key h).isSome)
  | none => false

/-- The reservation is released, and other registrants are told where the type admits them. -/
def resRelease (v : Ns) (h : Nat) (r : Resv) (s : State) : Resv × State :=
  let told := match r.typ with | some t => resRegistrants t | none => false
  let hosts := (r.regs.map fun x => x.1).filter (· != h)
  ({ r with typ := none, holder := none }, if told then resNotify 2 v hosts s else s)

/-- RESERVATION_REGISTER. -/
def resRegister (act : ResRegAct) (crkey nrkey : Nat) (c : Cmd) (v : Ns) (s : State) : State :=
  match (s.ctlr c.ctl).hostId with
  | none => s.finish c.k (sct 0 0x18)
  | some h =>
    let r := v.resv
    let ie := c.e.cdw10.getLsbD 3
    let r := match c.e.cdw10.toNat / 1073741824 with | 2 => { r with ptpl := false } | 3 => { r with ptpl := true } | _ => r
    let ok := fun (q : Resv) (t : State) => (setResv v { q with gen := (q.gen + 1) % 4294967296 } t).finish c.k stOk
    match act, r.key h with
    | .register, some x => if x == nrkey then (setResv v r s).finish c.k stOk else s.finish c.k stResConflict
    | .register, none => ok { r with regs := r.regs ++ [(h, nrkey)] } s
    | .replace, some x =>
      if x == crkey || ie then ok { r with regs := r.regs.map fun y => if y.1 == h then (h, nrkey) else y } s else s.finish c.k stResConflict
    | .replace, none => s.finish c.k stResConflict
    | .unregister, some x =>
      if x == crkey || ie then
        let q := { r with regs := r.regs.filter fun y => y.1 != h }
        let last := r.holder == some h && !(match r.typ with | some t => resAll t | none => false)
        if last || q.regs.isEmpty then (let z := resRelease v h q s; ok z.1 z.2)
        else ok { q with holder := if q.holder == some h then q.regs.head?.map fun y => y.1 else q.holder } s
      else s.finish c.k stResConflict
    | .unregister, none => s.finish c.k stResConflict

/-- Commands of hosts whose registration a Preempt and Abort ends are aborted. -/
def resAbort (v : Ns) (hosts : List Nat) (s : State) : State :=
  let hit := fun (d : Cmd) => decide (0 < d.qid) && decide (d.qid < 65536) && d.e.ns == v.nsid &&
    (match (s.ctlr d.ctl).hostId with | some h => hosts.contains h | none => false)
  s.each (s.host.cmds.filter hit) fun d t => match t.cmd d.k with
    | some x => if abortable true x t then abortCmd x.k stAborted t else t
    | none => t

/-- A preempt: the registrations under `prkey` end, and the reservation passes on when its holder is among them. -/
def resPreempt (abort : Bool) (rtype : ResType) (prkey h : Nat) (c : Cmd) (v : Ns) (s : State) : State :=
  let r := v.resv
  let all := match r.typ with | some t => resAll t | none => false
  let gone := (r.regs.filter fun x => x.1 != h && (x.2 == prkey || (all && prkey == 0))).map fun x => x.1
  let held := match r.holder with | some x => r.key x == some prkey | none => false
  let takes := (all && prkey == 0) || (!all && r.typ.isSome && held)
  if prkey == 0 && !all then s.finish c.k stField
  else if gone.isEmpty && !takes then s.finish c.k stResConflict
  else
    let q := { r with regs := r.regs.filter fun x => !gone.contains x.1, gen := (r.gen + 1) % 4294967296 }
    let q := if takes then { q with typ := some rtype, holder := some h } else if q.regs.isEmpty then { q with typ := none, holder := none } else q
    let t := resNotify 1 v gone (setResv v q s)
    let t := if takes && r.typ != some rtype then resNotify 3 v ((q.regs.map fun x => x.1).filter (· != h)) t else t
    (t.when abort (resAbort v gone)).finish c.k stOk

/-- RESERVATION_ACQUIRE. -/
def resAcquire (act : ResAcqAct) (rtype : ResType) (crkey prkey : Nat) (c : Cmd) (v : Ns) (s : State) : State :=
  match (s.ctlr c.ctl).hostId with
  | none => s.finish c.k stResConflict
  | some h =>
    if v.resv.key h != some crkey then s.finish c.k stResConflict
    else match act with
      | .acquire =>
        if v.resv.typ.isNone then (setResv v { v.resv with typ := some rtype, holder := some h } s).finish c.k stOk
        else if v.resv.holds h && v.resv.typ == some rtype then s.finish c.k stOk
        else s.finish c.k stResConflict
      | .preempt => resPreempt false rtype prkey h c v s
      | .preemptAbort => resPreempt true rtype prkey h c v s

/-- RESERVATION_RELEASE. -/
def resReleaseCmd (act : ResRelAct) (crkey : Nat) (c : Cmd) (v : Ns) (s : State) : State :=
  match (s.ctlr c.ctl).hostId with
  | none => s.finish c.k stResConflict
  | some h =>
    if v.resv.key h != some crkey then s.finish c.k stResConflict
    else match act with
      | .release =>
        if !v.resv.holds h then s.finish c.k stOk
        else if v.resv.typ.map ResType.code != some (c.e.cdw10.toNat / 256 % 256) then s.finish c.k stField
        else
          let z := resRelease v h v.resv s
          (setResv v z.1 z.2).finish c.k stOk
      | .clear =>
        let hosts := (v.resv.regs.map fun x => x.1).filter (· != h)
        (resNotify 3 v hosts (setResv v { v.resv with regs := [], typ := none, holder := none, gen := (v.resv.gen + 1) % 4294967296 } s)).finish c.k stOk

/-- The extended Reservation Status of a namespace: an entry for each registered host and controller. -/
def resStatus (v : Ns) (s : State) : List Nat :=
  let r := v.resv
  let rows := r.regs.flatMap fun x =>
    let cs := v.attach.filter fun c => (s.ctlr c).hostId == some x.1
    (if cs.isEmpty then [0xFFFF] else cs.map fun (c : Ctl) => c.val).map fun id => (id, x)
  pageOf 64 [(0, bytesLe 4 r.gen), (4, [(r.typ.map ResType.code).getD 0]), (5, bytesLe 2 rows.length), (9, [r.ptpl.toNat])] ++
    rows.flatMap fun y => pageOf 64 [(0, bytesLe 2 y.1), (2, [(r.holds y.2.1).toNat]), (8, bytesLe 8 y.2.2), (16, bytesLe 16 y.2.1)]

/-- RESERVATION_REPORT: of 128-bit host identifiers only the extended form exists. -/
def resReport (c : Cmd) (v : Ns) (s : State) : State :=
  if !c.e.cdw11.getLsbD 0 then s.finish c.k (sct 0 0x18)
  else (s.answer ((resStatus v s).take ((c.e.cdw10.toNat + 1) * 4))).finish c.k stOk

/-! ### Commands -/

/-- NAMESPACE_CREATE (R332). -/
def execNamespaceCreate (k : Nat) (desc : NsDesc) (s : State) : Host.Outcome State Fault Refusal :=
  .next (adminStart (fun e => e.opc == 0x0D#8 && e.cdw10.toNat % 16 == 0) k (nsCreate desc) s)
/-- NAMESPACE_DELETE (R392). -/
def execNamespaceDelete (k : Nat) (s : State) : Host.Outcome State Fault Refusal := .next (nsDelete k s)
/-- NAMESPACE_ATTACH (R332). -/
def execNamespaceAttach (k : Nat) (ctls : List Ctl) (s : State) : Host.Outcome State Fault Refusal :=
  .next (adminStart (fun e => e.opc == 0x15#8 && e.cdw10.toNat % 16 == 0) k (nsAttach true ctls) s)
/-- NAMESPACE_DETACH (R332). -/
def execNamespaceDetach (k : Nat) (ctls : List Ctl) (s : State) : Host.Outcome State Fault Refusal :=
  .next (adminStart (fun e => e.opc == 0x15#8 && e.cdw10.toNat % 16 == 1) k (nsAttach false ctls) s)
/-- FIRMWARE_IMAGE_DOWNLOAD (R333). -/
def execFirmwareImageDownload (k : Nat) (img : Image) (s : State) : Host.Outcome State Fault Refusal :=
  .next (adminStart (adminOp 0x11) k (imageDownload img) s)
/-- FIRMWARE_COMMIT_REPLACE (R333). -/
def execFirmwareCommitReplace (k : Nat) (s : State) : Host.Outcome State Fault Refusal :=
  .next (adminStart (fun e => e.opc == 0x10#8 && e.cdw10.toNat / 8 % 8 == 0) k (imageCommit true false) s)
/-- FIRMWARE_COMMIT_REPLACE_ACTIVATE (R333): actions 0b001, which writes the slot, and 0b010, which selects it. -/
def execFirmwareCommitReplaceActivate (k : Nat) (s : State) : Host.Outcome State Fault Refusal :=
  .next (adminStart (fun e => e.opc == 0x10#8 && (e.cdw10.toNat / 8 % 8 == 1 || e.cdw10.toNat / 8 % 8 == 2)) k
    (fun c t => imageCommit (c.e.cdw10.toNat / 8 % 8 == 1) true c t) s)
/-- FIRMWARE_COMMIT_IMMEDIATE (R333). -/
def execFirmwareCommitImmediate (k : Nat) (s : State) : Host.Outcome State Fault Refusal :=
  .next (adminStart (fun e => e.opc == 0x10#8 && e.cdw10.toNat / 8 % 8 == 3) k (fun c t => t.finish c.k (sct 1 0x0B)) s)
/-- DEVICE_SELF_TEST_SHORT (R325). -/
def execDeviceSelfTestShort (k : Nat) (s : State) : Host.Outcome State Fault Refusal :=
  .next (adminStart (fun e => e.opc == 0x14#8 && e.cdw10.toNat % 16 == 1) k (testStart 1) s)
/-- DEVICE_SELF_TEST_EXTENDED (R325). -/
def execDeviceSelfTestExtended (k : Nat) (s : State) : Host.Outcome State Fault Refusal :=
  .next (adminStart (fun e => e.opc == 0x14#8 && e.cdw10.toNat % 16 == 2) k (testStart 2) s)
/-- DEVICE_SELF_TEST_ABORT (R325). -/
def execDeviceSelfTestAbort (k : Nat) (s : State) : Host.Outcome State Fault Refusal :=
  .next (adminStart (fun e => e.opc == 0x14#8 && e.cdw10.toNat % 16 == 15) k testAbort s)
/-- FORMAT_NVM (R356). -/
def execFormatNvm (k : Nat) (s : State) : Host.Outcome State Fault Refusal := .next (formatNvm k s)
/-- SANITIZE_OVERWRITE (R356). -/
def execSanitizeOverwrite (k : Nat) (s : State) : Host.Outcome State Fault Refusal := .next (sanitize k s)
/-- RESERVATION_REGISTER (R342). -/
def execReservationRegister (k : Nat) (act : ResRegAct) (crkey nrkey : W64) (s : State) : Host.Outcome State Fault Refusal :=
  .next (resStart 0x0D k (resRegister act crkey.toNat nrkey.toNat) s)
/-- RESERVATION_REPORT (R342). -/
def execReservationReport (k : Nat) (s : State) : Host.Outcome State Fault Refusal := .next (resStart 0x0E k resReport s)
/-- RESERVATION_ACQUIRE (R342). -/
def execReservationAcquire (k : Nat) (act : ResAcqAct) (rtype : ResType) (crkey prkey : W64) (s : State) : Host.Outcome State Fault Refusal :=
  .next (resStart 0x11 k (resAcquire act rtype crkey.toNat prkey.toNat) s)
/-- RESERVATION_RELEASE (R342). -/
def execReservationRelease (k : Nat) (act : ResRelAct) (crkey : W64) (s : State) : Host.Outcome State Fault Refusal :=
  .next (resStart 0x15 k (resReleaseCmd act crkey.toNat) s)

end Sys2Proof.Machine
end

