-- ==== Sys2Proof/Machine/Power.lean ====
section
/-! DEFINITION. Supplies, clocks and temperature (R25, R541 to R545, R551 to R554). -/

namespace Sys2Proof.Machine

/-! ### Power loss (R25, R26, R413, R541) -/

/-- Step 3: the domains that go off. What they held is read no more; the power-on reset that follows takes it away. -/
def plossDomains : List Nat := ((List.range 8).flatMap fun n => [4 * n, 4 * n + 1]) ++ [32, 33, 34, 38, 39, 40, 44, 45, 49]

/-- The cutoff on a channel: its Stitchers take POWER_LOSS, those with a begun sector after it (R131). Step 4: spindles rectify and
loaded heads retract. -/
def plossChan (n : Ch) (s : State) : State :=
  let t := s.when (s.flag (F.PAGE_ENABLE_EN n)) fun u => u.each allPaths (powerTrap n)
  let t := parkHeads n false t
  if motState n t == stOff then t else rectify n t

/-- The power-loss sequence up to step 5: the copy engine stops, and any copy is abandoned. VHOLD at 2 ms, an open value, decides on the checkpoint. -/
def powerLoss (rail : Bool) (s : State) : State :=
  if s.flag F.PWR_SUPPLY_PLOSS then s
  else
    let t := { s with rst := { s.rst with chip := none } }
    let t := ((t.setFlag F.PWR_SUPPLY_PLOSS true).setFlag F.PWR_SUPPLY_RAIL_TRIP rail).setFlag F.PWR_SUPPLY_VIN_OK (rail && s.flag F.PWR_SUPPLY_VIN_OK)
    let t := (t.setFlag F.NVME_INTAKE_FETCH_STOP true).raise (hostSrc 41)
    let t := t.each plossDomains fun d u => setLocks d false (setDom d false u)
    let t := t.each allChans fun c u => u.setFlag (F.DMA_STAT_BUSY c) false
    let t := (t.each allChans plossChan).set F.PWR_SUPPLY_STEP 5
    let v := t.fresh.toNat % 1024
    let fly := t.get F.FLY_STAT_STATE == 2 || t.get F.FLY_STAT_STATE == 3
    let t := { t with rst := { t.rst with ckptOpen := fly && decide (t.get F.PWR_HOLDCFG_CKPT_THR < v) } }
    (t.used).set F.PWR_SUPPLY_VHOLD v

/-- VHOLD_BELOW_MINIMUM: the checkpoint being written fails its CRC. -/
def vholdLow (s : State) : State :=
  if s.flag F.PWR_SUPPLY_PLOSS && s.rst.ckptOpen then
    (flyLast false { s with rst := { s.rst with ckptOpen := false } }).set F.PWR_SUPPLY_STEP 6
  else s

/-! ### Clocks (R551, R552) -/

/-- Bit of CLK.PLLSTAT's fields of a PLL. -/
def pllBit (p : PllId) : Fld × Nat :=
  match p with
  | .channel n k => (F.CLK_PLLSTAT_CH_LOCK, 3 * n.val + k.val)
  | .host k => (F.CLK_PLLSTAT_HOST_LOCK, k.val)

/-- A locked PLL loses lock for longer than 1 µs. -/
def pllLost (p : PllId) (s : State) : State :=
  let b := pllBit p
  if !s.bit b.1 b.2 then s
  else
    let t := s.setBit b.1 b.2 false
    match p with
    | .channel n k => t.raise (chSrc n 35) 0xFFFF k.val
    | .host k => t.raise (hostSrc 38) 0xFFFF k.val

def allPlls : List PllId :=
  (allChans.flatMap fun n => [PllId.channel n 0, .channel n 1, .channel n 2]) ++ [.host 0, .host 1, .host 2, .host 3, .host 4, .host 5]

/-! ### Temperature (R554, R511) -/

/-- The sensor that reads hottest, the lowest numbered among equals. -/
def hottest (t : Vector Int 9) : Nat × Int :=
  (List.range 9).foldl (fun (m : Nat × Int) i => let v := t.toList.getD i 0; if m.2 < v then (i, v) else m) (0, t.toList.getD 0 0)

/-- TEMP_SAMPLE. -/
def tempSample (t : Vector Int 9) (s : State) : State :=
  let h := hottest t
  let v := satI 8 h.2
  let u := ((s.set F.PWR_TEMP_TJ (toBits 8 v)).set F.PWR_TEMP_SENSOR h.1)
  let u := if sext 8 (s.get F.PWR_TEMP_TJ_MAX) < v then u.set F.PWR_TEMP_TJ_MAX (toBits 8 v) else u
  if 100 < v && !s.rst.hot then { (u.raise (hostSrc 39)) with rst := { u.rst with hot := true } }
  else if v < 95 then { u with rst := { u.rst with hot := false } }
  else u

/-! ### Commands -/

/-- POWER_LOSS (R25). -/
def execPowerLoss (s : State) : Host.Outcome State Fault Refusal := .next (powerLoss false s)
/-- RAIL_TRIP (R541). -/
def execRailTrip (s : State) : Host.Outcome State Fault Refusal := .next (powerLoss true s)
/-- VHOLD_BELOW_MINIMUM (R25 step 6). -/
def execVholdBelowMinimum (s : State) : Host.Outcome State Fault Refusal := .next (vholdLow s)
/-- PLL_UNLOCK (R551). -/
def execPllUnlock (pll : PllId) (s : State) : Host.Outcome State Fault Refusal := .next (pllLost pll s)
/-- CRYSTAL_STOP (R551): every such PLL loses lock; CLK_AON runs on. -/
def execCrystalStop (s : State) : Host.Outcome State Fault Refusal := .next ((s.setFlag F.CLK_PLLSTAT_XTAL_OK false).each allPlls pllLost)
/-- CLK_SSC_WRITE (R552). -/
def execClkSscWrite (path : RegPath) (v : BitVec 3) (s : State) : Host.Outcome State Fault Refusal :=
  .next (lockedWrite path F.CLK_SSC_FAB_SS.addr false (fun t =>
    ((t.setFlag F.CLK_SSC_FAB_SS (v.getLsbD 0)).setFlag F.CLK_SSC_NAND_SS (v.getLsbD 1)).setFlag F.CLK_SSC_MGMT_SS (v.getLsbD 2)) s)
/-- TEMP_SAMPLE (R554). -/
def execTempSample (t : Vector Int 9) (s : State) : Host.Outcome State Fault Refusal := .next (tempSample t s)
/-- TEMP_CRIT (R511). -/
def execTempCrit (s : State) : Host.Outcome State Fault Refusal := .next (s.raise (hostSrc 40))

end Sys2Proof.Machine
end

