-- ==== Sys2Proof/Machine/Dispatch.lean ====
section
/-! DEFINITION. The dispatch of the commands: one arm per constructor of Instr, each a direct call of its meaning. -/

namespace Sys2Proof.Machine

def exec (i : Instr) (s : State) : Host.Outcome State Fault Refusal :=
  match i with
  | .sqTailDoorbell c qid tail => Sys2Proof.Machine.execSqTailDoorbell c qid tail s
  | .cqHeadDoorbell c qid head => Sys2Proof.Machine.execCqHeadDoorbell c qid head s
  | .commandFetch c es => Sys2Proof.Machine.execCommandFetch c es s
  | .completionEntryHandoff k => Sys2Proof.Machine.execCompletionEntryHandoff k s
  | .completionPosted k => Sys2Proof.Machine.execCompletionPosted k s
  | .interruptCoalescingTimer c vec => Sys2Proof.Machine.execInterruptCoalescingTimer c vec s
  | .hostDataTransferDone k ok data => Sys2Proof.Machine.execHostDataTransferDone k ok data s
  | .controllerEnable c ams iosqes iocqes aqaSq aqaCq => Sys2Proof.Machine.execControllerEnable c ams iosqes iocqes aqaSq aqaCq s
  | .controllerReset c => Sys2Proof.Machine.execControllerReset c s
  | .runOnCommandsDone c => Sys2Proof.Machine.execRunOnCommandsDone c s
  | .functionLevelReset c => Sys2Proof.Machine.execFunctionLevelReset c s
  | .perstAssert c => Sys2Proof.Machine.execPerstAssert c s
  | .orderlyShutdown c => Sys2Proof.Machine.execOrderlyShutdown c s
  | .abruptShutdown c => Sys2Proof.Machine.execAbruptShutdown c s
  | .hostLinkDown c => Sys2Proof.Machine.execHostLinkDown c s
  | .linkTrained c rate width => Sys2Proof.Machine.execLinkTrained c rate width s
  | .poisonedHostWriteTlp c => Sys2Proof.Machine.execPoisonedHostWriteTlp c s
  | .deleteIoSubmissionQueue k => Sys2Proof.Machine.execDeleteIoSubmissionQueue k s
  | .createIoSubmissionQueue k => Sys2Proof.Machine.execCreateIoSubmissionQueue k s
  | .deleteIoCompletionQueue k => Sys2Proof.Machine.execDeleteIoCompletionQueue k s
  | .createIoCompletionQueue k => Sys2Proof.Machine.execCreateIoCompletionQueue k s
  | .identifyController k => Sys2Proof.Machine.execIdentifyController k s
  | .identifyNamespace k => Sys2Proof.Machine.execIdentifyNamespace k s
  | .identifyIoCmdSetNamespace k => Sys2Proof.Machine.execIdentifyIoCmdSetNamespace k s
  | .getLogErrorInformation k => Sys2Proof.Machine.execGetLogErrorInformation k s
  | .getLogSmartHealth k => Sys2Proof.Machine.execGetLogSmartHealth k s
  | .getLogFirmwareSlot k => Sys2Proof.Machine.execGetLogFirmwareSlot k s
  | .getLogChangedNamespaceList k => Sys2Proof.Machine.execGetLogChangedNamespaceList k s
  | .getLogCommandsSupported k => Sys2Proof.Machine.execGetLogCommandsSupported k s
  | .getLogDeviceSelfTest k => Sys2Proof.Machine.execGetLogDeviceSelfTest k s
  | .getLogReservationNotification k => Sys2Proof.Machine.execGetLogReservationNotification k s
  | .getLogSanitizeStatus k => Sys2Proof.Machine.execGetLogSanitizeStatus k s
  | .getLogChannelStatus k => Sys2Proof.Machine.execGetLogChannelStatus k s
  | .getLogFlyleafStatus k => Sys2Proof.Machine.execGetLogFlyleafStatus k s
  | .getLogGatheringStatus k => Sys2Proof.Machine.execGetLogGatheringStatus k s
  | .getLogColophonRecords k => Sys2Proof.Machine.execGetLogColophonRecords k s
  | .abort k => Sys2Proof.Machine.execAbort k s
  | .setFeatureArbitration k => Sys2Proof.Machine.execSetFeatureArbitration k s
  | .setFeatureErrorRecovery k => Sys2Proof.Machine.execSetFeatureErrorRecovery k s
  | .setFeatureVolatileWriteCache k => Sys2Proof.Machine.execSetFeatureVolatileWriteCache k s
  | .setFeatureNumberOfQueues k => Sys2Proof.Machine.execSetFeatureNumberOfQueues k s
  | .setFeatureInterruptCoalescing k => Sys2Proof.Machine.execSetFeatureInterruptCoalescing k s
  | .setFeatureAsyncEventConfig k => Sys2Proof.Machine.execSetFeatureAsyncEventConfig k s
  | .setFeatureHostIdentifier k id => Sys2Proof.Machine.execSetFeatureHostIdentifier k id s
  | .setFeatureGatheringLayout k => Sys2Proof.Machine.execSetFeatureGatheringLayout k s
  | .setFeatureDuplicateSuppression k => Sys2Proof.Machine.execSetFeatureDuplicateSuppression k s
  | .setFeatureKettleGroup k => Sys2Proof.Machine.execSetFeatureKettleGroup k s
  | .channelStateEnable k => Sys2Proof.Machine.execChannelStateEnable k s
  | .channelStateDisable k => Sys2Proof.Machine.execChannelStateDisable k s
  | .channelStatePowerOff k => Sys2Proof.Machine.execChannelStatePowerOff k s
  | .channelStateSpindleStart k => Sys2Proof.Machine.execChannelStateSpindleStart k s
  | .channelStateSpindleStop k => Sys2Proof.Machine.execChannelStateSpindleStop k s
  | .channelStateUnload k => Sys2Proof.Machine.execChannelStateUnload k s
  | .getFeatures k => Sys2Proof.Machine.execGetFeatures k s
  | .asyncEventRequest k => Sys2Proof.Machine.execAsyncEventRequest k s
  | .asyncEventPosted c => Sys2Proof.Machine.execAsyncEventPosted c s
  | .namespaceCreate k desc => Sys2Proof.Machine.execNamespaceCreate k desc s
  | .namespaceDelete k => Sys2Proof.Machine.execNamespaceDelete k s
  | .namespaceAttach k ctls => Sys2Proof.Machine.execNamespaceAttach k ctls s
  | .namespaceDetach k ctls => Sys2Proof.Machine.execNamespaceDetach k ctls s
  | .firmwareImageDownload k img => Sys2Proof.Machine.execFirmwareImageDownload k img s
  | .firmwareCommitReplace k => Sys2Proof.Machine.execFirmwareCommitReplace k s
  | .firmwareCommitReplaceActivate k => Sys2Proof.Machine.execFirmwareCommitReplaceActivate k s
  | .firmwareCommitImmediate k => Sys2Proof.Machine.execFirmwareCommitImmediate k s
  | .deviceSelfTestShort k => Sys2Proof.Machine.execDeviceSelfTestShort k s
  | .deviceSelfTestExtended k => Sys2Proof.Machine.execDeviceSelfTestExtended k s
  | .deviceSelfTestAbort k => Sys2Proof.Machine.execDeviceSelfTestAbort k s
  | .nvmeMiSend k => Sys2Proof.Machine.execNvmeMiSend k s
  | .nvmeMiReceive k => Sys2Proof.Machine.execNvmeMiReceive k s
  | .formatNvm k => Sys2Proof.Machine.execFormatNvm k s
  | .sanitizeOverwrite k => Sys2Proof.Machine.execSanitizeOverwrite k s
  | .flush k => Sys2Proof.Machine.execFlush k s
  | .write k => Sys2Proof.Machine.execWrite k s
  | .read k => Sys2Proof.Machine.execRead k s
  | .writeZeroes k => Sys2Proof.Machine.execWriteZeroes k s
  | .datasetManagementDeallocate k rs => Sys2Proof.Machine.execDatasetManagementDeallocate k rs s
  | .verify k => Sys2Proof.Machine.execVerify k s
  | .reservationRegister k act crkey nrkey => Sys2Proof.Machine.execReservationRegister k act crkey nrkey s
  | .reservationReport k => Sys2Proof.Machine.execReservationReport k s
  | .reservationAcquire k act rtype crkey prkey => Sys2Proof.Machine.execReservationAcquire k act rtype crkey prkey s
  | .reservationRelease k act crkey => Sys2Proof.Machine.execReservationRelease k act crkey s
  | .copy k rs => Sys2Proof.Machine.execCopy k rs s
  | .zoneManagementSend k act => Sys2Proof.Machine.execZoneManagementSend k act s
  | .zoneManagementReceive k => Sys2Proof.Machine.execZoneManagementReceive k s
  | .zoneAppend k => Sys2Proof.Machine.execZoneAppend k s
  | .stampOriginalEnded k => Sys2Proof.Machine.execStampOriginalEnded k s
  | .bookmarkExpire now => Sys2Proof.Machine.execBookmarkExpire now s
  | .rangeLockGrant => Sys2Proof.Machine.execRangeLockGrant s
  | .writeBufferReadWaitEnd k => Sys2Proof.Machine.execWriteBufferReadWaitEnd k s
  | .schedTakeDescriptor n ix => Sys2Proof.Machine.execSchedTakeDescriptor n ix s
  | .workItemFinished n tag => Sys2Proof.Machine.execWorkItemFinished n tag s
  | .destageComplete k => Sys2Proof.Machine.execDestageComplete k s
  | .speculativeFillArrive nsid line good data => Sys2Proof.Machine.execSpeculativeFillArrive nsid line good data s
  | .speculativeSeek n target => Sys2Proof.Machine.execSpeculativeSeek n target s
  | .readDeadlineExpire k => Sys2Proof.Machine.execReadDeadlineExpire k s
  | .firstPassDecodeEnd n p => Sys2Proof.Machine.execFirstPassDecodeEnd n p s
  | .ladderRedecode n ix => Sys2Proof.Machine.execLadderRedecode n ix s
  | .ladderReeq n ix => Sys2Proof.Machine.execLadderReeq n ix s
  | .ladderReader n ix => Sys2Proof.Machine.execLadderReader n ix s
  | .ladderSlip n ix => Sys2Proof.Machine.execLadderSlip n ix s
  | .ladderBlind n ix => Sys2Proof.Machine.execLadderBlind n ix s
  | .ladderReread n ix => Sys2Proof.Machine.execLadderReread n ix s
  | .ladderTa n ix => Sys2Proof.Machine.execLadderTa n ix s
  | .readSig n d => Sys2Proof.Machine.execReadSig n d s
  | .writeSig n d => Sys2Proof.Machine.execWriteSig n d s
  | .verifySig n d => Sys2Proof.Machine.execVerifySig n d s
  | .scanServo n d => Sys2Proof.Machine.execScanServo n d s
  | .formatTrack n d => Sys2Proof.Machine.execFormatTrack n d s
  | .capture n d => Sys2Proof.Machine.execCapture n d s
  | .imageDefinedCommand n d => Sys2Proof.Machine.execImageDefinedCommand n d s
  | .partFirstBit n p inTime => Sys2Proof.Machine.execPartFirstBit n p inTime s
  | .partLastBit n p last o => Sys2Proof.Machine.execPartLastBit n p last o s
  | .writeFifoReady n p memErr => Sys2Proof.Machine.execWriteFifoReady n p memErr s
  | .preampFaultAssert n head paStat => Sys2Proof.Machine.execPreampFaultAssert n head paStat s
  | .preampFaultRelease n => Sys2Proof.Machine.execPreampFaultRelease n s
  | .preampFrameDone n p => Sys2Proof.Machine.execPreampFrameDone n p s
  | .aluAdd n p rd ra rb => Sys2Proof.Machine.execAluAdd n p rd ra rb s
  | .aluSub n p rd ra rb => Sys2Proof.Machine.execAluSub n p rd ra rb s
  | .aluAnd n p rd ra rb => Sys2Proof.Machine.execAluAnd n p rd ra rb s
  | .aluOr n p rd ra rb => Sys2Proof.Machine.execAluOr n p rd ra rb s
  | .aluXor n p rd ra rb => Sys2Proof.Machine.execAluXor n p rd ra rb s
  | .aluShl n p rd ra rb => Sys2Proof.Machine.execAluShl n p rd ra rb s
  | .aluShr n p rd ra rb => Sys2Proof.Machine.execAluShr n p rd ra rb s
  | .aluAsr n p rd ra rb => Sys2Proof.Machine.execAluAsr n p rd ra rb s
  | .aluShli n p rd ra cnt => Sys2Proof.Machine.execAluShli n p rd ra cnt s
  | .aluShri n p rd ra cnt => Sys2Proof.Machine.execAluShri n p rd ra cnt s
  | .aluMov n p rd ra => Sys2Proof.Machine.execAluMov n p rd ra s
  | .aluNot n p rd ra => Sys2Proof.Machine.execAluNot n p rd ra s
  | .aluCmp n p ra rb => Sys2Proof.Machine.execAluCmp n p ra rb s
  | .aluTst n p ra rb => Sys2Proof.Machine.execAluTst n p ra rb s
  | .addi n p rd imm => Sys2Proof.Machine.execAddi n p rd imm s
  | .ldi n p rd imm => Sys2Proof.Machine.execLdi n p rd imm s
  | .andi n p rd imm => Sys2Proof.Machine.execAndi n p rd imm s
  | .ori n p rd imm => Sys2Proof.Machine.execOri n p rd imm s
  | .cmpi n p rd imm => Sys2Proof.Machine.execCmpi n p rd imm s
  | .jmp n p cond target => Sys2Proof.Machine.execJmp n p cond target s
  | .call n p cond target => Sys2Proof.Machine.execCall n p cond target s
  | .ret n p cond => Sys2Proof.Machine.execRet n p cond s
  | .loop n p lc target => Sys2Proof.Machine.execLoop n p lc target s
  | .setlc n p lc src => Sys2Proof.Machine.execSetlc n p lc src s
  | .portIn n p r port => Sys2Proof.Machine.execPortIn n p r port s
  | .portOut n p r port => Sys2Proof.Machine.execPortOut n p r port s
  | .portOuti n p port imm => Sys2Proof.Machine.execPortOuti n p port imm s
  | .armCancel n p => Sys2Proof.Machine.execArmCancel n p s
  | .armCapture n p => Sys2Proof.Machine.execArmCapture n p s
  | .armWrite n p => Sys2Proof.Machine.execArmWrite n p s
  | .armVerify n p => Sys2Proof.Machine.execArmVerify n p s
  | .armScan n p => Sys2Proof.Machine.execArmScan n p s
  | .armRaw n p => Sys2Proof.Machine.execArmRaw n p s
  | .portCommit n p => Sys2Proof.Machine.execPortCommit n p s
  | .portWfifoStart n p => Sys2Proof.Machine.execPortWfifoStart n p s
  | .portPaCmd n p settings => Sys2Proof.Machine.execPortPaCmd n p settings s
  | .portFeCtl n p up => Sys2Proof.Machine.execPortFeCtl n p up s
  | .portTmaskWrite n p v => Sys2Proof.Machine.execPortTmaskWrite n p v s
  | .wait n p clr ev => Sys2Proof.Machine.execWait n p clr ev s
  | .fetch n p => Sys2Proof.Machine.execFetch n p s
  | .prefetch n p => Sys2Proof.Machine.execPrefetch n p s
  | .done n p abt fin => Sys2Proof.Machine.execDone n p abt fin s
  | .mret n p => Sys2Proof.Machine.execMret n p s
  | .trap n p code => Sys2Proof.Machine.execTrap n p code s
  | .signal n p mask => Sys2Proof.Machine.execSignal n p mask s
  | .halt n p code => Sys2Proof.Machine.execHalt n p code s
  | .reservedOperation n p w => Sys2Proof.Machine.execReservedOperation n p w s
  | .stitchTrapTaken n p => Sys2Proof.Machine.execStitchTrapTaken n p s
  | .stitchTimerExpire n p => Sys2Proof.Machine.execStitchTimerExpire n p s
  | .stitchWatchdogExpire n p => Sys2Proof.Machine.execStitchWatchdogExpire n p s
  | .stitchWatchdogHalt n p => Sys2Proof.Machine.execStitchWatchdogHalt n p s
  | .descPrefetchDeliver n p tag => Sys2Proof.Machine.execDescPrefetchDeliver n p tag s
  | .descPrefetchWithdraw n p => Sys2Proof.Machine.execDescPrefetchWithdraw n p s
  | .workItemAbort n tag => Sys2Proof.Machine.execWorkItemAbort n tag s
  | .storeSegmentLoad n segs => Sys2Proof.Machine.execStoreSegmentLoad n segs s
  | .storeWindowWrite path n w v => Sys2Proof.Machine.execStoreWindowWrite path n w v s
  | .stitchCtlHaltWrite path n mask => Sys2Proof.Machine.execStitchCtlHaltWrite path n mask s
  | .stitchCtlStep n mask => Sys2Proof.Machine.execStitchCtlStep n mask s
  | .servoSampleEvent n o => Sys2Proof.Machine.execServoSampleEvent n o s
  | .idleSelfCheckTick n aOk bOk => Sys2Proof.Machine.execIdleSelfCheckTick n aOk bOk s
  | .switchGapEnd n => Sys2Proof.Machine.execSwitchGapEnd n s
  | .engineDisagree n aOk bOk => Sys2Proof.Machine.execEngineDisagree n aOk bOk s
  | .standbyReady n => Sys2Proof.Machine.execStandbyReady n s
  | .hingeLinkLoss n => Sys2Proof.Machine.execHingeLinkLoss n s
  | .engineRecoveryCopyDone n => Sys2Proof.Machine.execEngineRecoveryCopyDone n s
  | .engineRecovered n ok => Sys2Proof.Machine.execEngineRecovered n ok s
  | .takeBack n cls => Sys2Proof.Machine.execTakeBack n cls s
  | .hingeForce path n aOk bOk => Sys2Proof.Machine.execHingeForce path n aOk bOk s
  | .loopImplausibleDeclare n b l => Sys2Proof.Machine.execLoopImplausibleDeclare n b l s
  | .loopPlausibleRecover n b l => Sys2Proof.Machine.execLoopPlausibleRecover n b l s
  | .servoLost n => Sys2Proof.Machine.execServoLost n s
  | .actRunaway n a b => Sys2Proof.Machine.execActRunaway n a b s
  | .onTrack n p => Sys2Proof.Machine.execOnTrack n p s
  | .seekTimeout n => Sys2Proof.Machine.execSeekTimeout n s
  | .seekRedirect n target => Sys2Proof.Machine.execSeekRedirect n target s
  | .spindleStrobe n o => Sys2Proof.Machine.execSpindleStrobe n o s
  | .swapRequest n mask => Sys2Proof.Machine.execSwapRequest n mask s
  | .swapCheckDone n l => Sys2Proof.Machine.execSwapCheckDone n l s
  | .coefWindowWrite path n l ix v atSwap => Sys2Proof.Machine.execCoefWindowWrite path n l ix v atSwap s
  | .shockEvent n => Sys2Proof.Machine.execShockEvent n s
  | .shockHoldExpire n => Sys2Proof.Machine.execShockHoldExpire n s
  | .rroConverged n p => Sys2Proof.Machine.execRroConverged n p s
  | .rroNoConvergence n p => Sys2Proof.Machine.execRroNoConvergence n p s
  | .servoAcquired n pos => Sys2Proof.Machine.execServoAcquired n pos s
  | .loadTimeout n => Sys2Proof.Machine.execLoadTimeout n s
  | .pwmPeriod n o => Sys2Proof.Machine.execPwmPeriod n o s
  | .motFault n => Sys2Proof.Machine.execMotFault n s
  | .depthLimit n => Sys2Proof.Machine.execDepthLimit n s
  | .motStart n => Sys2Proof.Machine.execMotStart n s
  | .motStop n => Sys2Proof.Machine.execMotStop n s
  | .motCoast n => Sys2Proof.Machine.execMotCoast n s
  | .motUnload n => Sys2Proof.Machine.execMotUnload n s
  | .motLoad n => Sys2Proof.Machine.execMotLoad n s
  | .senseEnd n => Sys2Proof.Machine.execSenseEnd n s
  | .alignStepEnd n => Sys2Proof.Machine.execAlignStepEnd n s
  | .rampHandover n => Sys2Proof.Machine.execRampHandover n s
  | .rampHandoverFail n => Sys2Proof.Machine.execRampHandoverFail n s
  | .spinupTimeout n => Sys2Proof.Machine.execSpinupTimeout n s
  | .brakePhaseTimer n => Sys2Proof.Machine.execBrakePhaseTimer n s
  | .brakeTimeout n => Sys2Proof.Machine.execBrakeTimeout n s
  | .rotorLost n => Sys2Proof.Machine.execRotorLost n s
  | .catchDetectorStart n => Sys2Proof.Machine.execCatchDetectorStart n s
  | .catchReacquire n => Sys2Proof.Machine.execCatchReacquire n s
  | .catchTimeout n => Sys2Proof.Machine.execCatchTimeout n s
  | .inTolerance n => Sys2Proof.Machine.execInTolerance n s
  | .spinOffTolerance n => Sys2Proof.Machine.execSpinOffTolerance n s
  | .runcfgDirWrite path n dir => Sys2Proof.Machine.execRuncfgDirWrite path n dir s
  | .retractParkDetect n => Sys2Proof.Machine.execRetractParkDetect n s
  | .retractHoldEnd n => Sys2Proof.Machine.execRetractHoldEnd n s
  | .retractTimeout n => Sys2Proof.Machine.execRetractTimeout n s
  | .voiceCoilPeriod n current vcb => Sys2Proof.Machine.execVoiceCoilPeriod n current vcb s
  | .ketEpochFrame syms t again => Sys2Proof.Machine.execKetEpochFrame syms t again s
  | .ketVibFrame lane syms t => Sys2Proof.Machine.execKetVibFrame lane syms t s
  | .ketDreqFrame syms tArr tDep => Sys2Proof.Machine.execKetDreqFrame syms tArr tDep s
  | .ketDrspFrame syms t4 => Sys2Proof.Machine.execKetDrspFrame syms t4 s
  | .ketTailFrame syms => Sys2Proof.Machine.execKetTailFrame syms s
  | .ketEpochTick t => Sys2Proof.Machine.execKetEpochTick t s
  | .ketDreqTick t1 => Sys2Proof.Machine.execKetDreqTick t1 s
  | .ketTailTick => Sys2Proof.Machine.execKetTailTick s
  | .ketVibRead sample t => Sys2Proof.Machine.execKetVibRead sample t s
  | .ketLaneLock lane => Sys2Proof.Machine.execKetLaneLock lane s
  | .ketLaneLost lane => Sys2Proof.Machine.execKetLaneLost lane s
  | .ketHoldover => Sys2Proof.Machine.execKetHoldover s
  | .ketSegmentHead => Sys2Proof.Machine.execKetSegmentHead s
  | .ketAutoHead => Sys2Proof.Machine.execKetAutoHead s
  | .ketEnable en => Sys2Proof.Machine.execKetEnable en s
  | .flyEnable => Sys2Proof.Machine.execFlyEnable s
  | .flyDisable => Sys2Proof.Machine.execFlyDisable s
  | .flyStartDone unread => Sys2Proof.Machine.execFlyStartDone unread s
  | .flyPackTimeout => Sys2Proof.Machine.execFlyPackTimeout s
  | .flyPageProgramDone pg pass => Sys2Proof.Machine.execFlyPageProgramDone pg pass s
  | .flyBandVerifyDone band checks => Sys2Proof.Machine.execFlyBandVerifyDone band checks s
  | .flyDestagePageTimer => Sys2Proof.Machine.execFlyDestagePageTimer s
  | .flyBookmarkPageTimer => Sys2Proof.Machine.execFlyBookmarkPageTimer s
  | .flyCollectionStart idle => Sys2Proof.Machine.execFlyCollectionStart idle s
  | .flyVictimErase checks => Sys2Proof.Machine.execFlyVictimErase checks s
  | .flyEraseDone die blk ok => Sys2Proof.Machine.execFlyEraseDone die blk ok s
  | .flyDieFail die dead => Sys2Proof.Machine.execFlyDieFail die dead s
  | .flyDrained => Sys2Proof.Machine.execFlyDrained s
  | .flyWarmOffer sn way load => Sys2Proof.Machine.execFlyWarmOffer sn way load s
  | .gathLayoutCommit l => Sys2Proof.Machine.execGathLayoutCommit l s
  | .gathIntentProgram => Sys2Proof.Machine.execGathIntentProgram s
  | .gathStripeUpdate l stripe k old => Sys2Proof.Machine.execGathStripeUpdate l stripe k old s
  | .gathStartResync l stripe failed => Sys2Proof.Machine.execGathStartResync l stripe failed s
  | .gathChannelUnavailable n => Sys2Proof.Machine.execGathChannelUnavailable n s
  | .gathChannelLost n => Sys2Proof.Machine.execGathChannelLost n s
  | .gathChannelResync l n strip => Sys2Proof.Machine.execGathChannelResync l n strip s
  | .gathReconstruct l nsid lba fetched => Sys2Proof.Machine.execGathReconstruct l nsid lba fetched s
  | .gathRebuildStrip l stripe n => Sys2Proof.Machine.execGathRebuildStrip l stripe n s
  | .cacheFill nsid line fillId blks => Sys2Proof.Machine.execCacheFill nsid line fillId blks s
  | .cacheOfferDecided sn way accepted => Sys2Proof.Machine.execCacheOfferDecided sn way accepted s
  | .cacheOfferTimeout sn way => Sys2Proof.Machine.execCacheOfferTimeout sn way s
  | .cacheWaylockWrite lock => Sys2Proof.Machine.execCacheWaylockWrite lock s
  | .cacheMaintInvalidate => Sys2Proof.Machine.execCacheMaintInvalidate s
  | .cacheMaintCleanInvalidate => Sys2Proof.Machine.execCacheMaintCleanInvalidate s
  | .cacheMaintPrefetch => Sys2Proof.Machine.execCacheMaintPrefetch s
  | .cacheMaintDone => Sys2Proof.Machine.execCacheMaintDone s
  | .cacheTagSelect sn way => Sys2Proof.Machine.execCacheTagSelect sn way s
  | .dramUncorrectable pc ofs => Sys2Proof.Machine.execDramUncorrectable pc ofs s
  | .dramPcFail pc => Sys2Proof.Machine.execDramPcFail pc s
  | .fabricStarvePromote => Sys2Proof.Machine.execFabricStarvePromote s
  | .reamAlloc id use n => Sys2Proof.Machine.execReamAlloc id use n s
  | .reamShare id h => Sys2Proof.Machine.execReamShare id h s
  | .reamRelease id h => Sys2Proof.Machine.execReamRelease id h s
  | .reamFree id h => Sys2Proof.Machine.execReamFree id h s
  | .reamGive id h dst => Sys2Proof.Machine.execReamGive id h dst s
  | .reamWaitGrant pool => Sys2Proof.Machine.execReamWaitGrant pool s
  | .reamRefill pool => Sys2Proof.Machine.execReamRefill pool s
  | .reamSpill pool => Sys2Proof.Machine.execReamSpill pool s
  | .reamAuditDone pool => Sys2Proof.Machine.execReamAuditDone pool s
  | .reamChannelReclaim n => Sys2Proof.Machine.execReamChannelReclaim n s
  | .reamPoolEnable path pool => Sys2Proof.Machine.execReamPoolEnable path pool s
  | .dmaTailWrite c tail => Sys2Proof.Machine.execDmaTailWrite c tail s
  | .dmaDescriptorDone c rdErr wrErr => Sys2Proof.Machine.execDmaDescriptorDone c rdErr wrErr s
  | .dmaAbort c done => Sys2Proof.Machine.execDmaAbort c done s
  | .dmaClrHalt c => Sys2Proof.Machine.execDmaClrHalt c s
  | .sramCorrectableError mac word syn => Sys2Proof.Machine.execSramCorrectableError mac word syn s
  | .memprotRemapMove mac word => Sys2Proof.Machine.execMemprotRemapMove mac word s
  | .sramUncorrectableError mac word => Sys2Proof.Machine.execSramUncorrectableError mac word s
  | .memprotFlipArm path mac => Sys2Proof.Machine.execMemprotFlipArm path mac s
  | .faultSourceLatch same => Sys2Proof.Machine.execFaultSourceLatch same s
  | .faultStatusClear ix v => Sys2Proof.Machine.execFaultStatusClear ix v s
  | .faultForceSafe path => Sys2Proof.Machine.execFaultForceSafe path s
  | .faultChipRst => Sys2Proof.Machine.execFaultChipRst s
  | .faultSelf => Sys2Proof.Machine.execFaultSelf s
  | .mgmtChannelReenable n => Sys2Proof.Machine.execMgmtChannelReenable n s
  | .mgmtWdog => Sys2Proof.Machine.execMgmtWdog s
  | .pllUnlock pll => Sys2Proof.Machine.execPllUnlock pll s
  | .crystalStop => Sys2Proof.Machine.execCrystalStop s
  | .tempSample t => Sys2Proof.Machine.execTempSample t s
  | .tempCrit => Sys2Proof.Machine.execTempCrit s
  | .coloMirrorPage ok => Sys2Proof.Machine.execColoMirrorPage ok s
  | .coloReservationExtend => Sys2Proof.Machine.execColoReservationExtend s
  | .coloChallengeRead => Sys2Proof.Machine.execColoChallengeRead s
  | .coloClear resp inTime => Sys2Proof.Machine.execColoClear resp inTime s
  | .coloLockoutEnd => Sys2Proof.Machine.execColoLockoutEnd s
  | .powerLoss => Sys2Proof.Machine.execPowerLoss s
  | .railTrip => Sys2Proof.Machine.execRailTrip s
  | .brownOutReset => Sys2Proof.Machine.execBrownOutReset s
  | .powerOnReset bifur fuseSame => Sys2Proof.Machine.execPowerOnReset bifur fuseSame s
  | .rstNAssert => Sys2Proof.Machine.execRstNAssert s
  | .chipResetTaken => Sys2Proof.Machine.execChipResetTaken s
  | .bootImageCheck read0 read1 => Sys2Proof.Machine.execBootImageCheck read0 read1 s
  | .rollbackFuseUpdate => Sys2Proof.Machine.execRollbackFuseUpdate s
  | .fuseProgramCommit path key readBack => Sys2Proof.Machine.execFuseProgramCommit path key readBack s
  | .pwrDomctlWrite path hi v => Sys2Proof.Machine.execPwrDomctlWrite path hi v s
  | .domainOnComplete d faulty => Sys2Proof.Machine.execDomainOnComplete d faulty s
  | .clkSscWrite path v => Sys2Proof.Machine.execClkSscWrite path v s
  | .channelReset path n => Sys2Proof.Machine.execChannelReset path n s
  | .ketBlockReset => Sys2Proof.Machine.execKetBlockReset s
  | .flyBlockReset => Sys2Proof.Machine.execFlyBlockReset s
  | .gathBlockReset => Sys2Proof.Machine.execGathBlockReset s
  | .cacheBlockReset => Sys2Proof.Machine.execCacheBlockReset s
  | .reamBlockReset => Sys2Proof.Machine.execReamBlockReset s
  | .dmaBlockReset => Sys2Proof.Machine.execDmaBlockReset s
  | .memprotBlockReset => Sys2Proof.Machine.execMemprotBlockReset s
  | .channelEnable n => Sys2Proof.Machine.execChannelEnable n s
  | .channelDisable n => Sys2Proof.Machine.execChannelDisable n s
  | .channelReady n lists => Sys2Proof.Machine.execChannelReady n lists s
  | .channelFence n => Sys2Proof.Machine.execChannelFence n s
  | .expertUnlockFirst path blk => Sys2Proof.Machine.execExpertUnlockFirst path blk s
  | .expertUnlockSecond path blk => Sys2Proof.Machine.execExpertUnlockSecond path blk s
  | .expertClose path blk => Sys2Proof.Machine.execExpertClose path blk s
  | .accerrClear => Sys2Proof.Machine.execAccerrClear s
  | .registerWrite path addr bytes v => Sys2Proof.Machine.execRegisterWrite path addr bytes v s
  | .sidebandRead32 addr => Sys2Proof.Machine.execSidebandRead32 addr s
  | .sidebandWrite32 addr v => Sys2Proof.Machine.execSidebandWrite32 addr v s
  | .sidebandRead64 addr => Sys2Proof.Machine.execSidebandRead64 addr s
  | .sidebandWrite64 addr v => Sys2Proof.Machine.execSidebandWrite64 addr v s
  | .miReadDataStructure => Sys2Proof.Machine.execMiReadDataStructure s
  | .miSubsystemHealthPoll => Sys2Proof.Machine.execMiSubsystemHealthPoll s
  | .miControllerHealthPoll c => Sys2Proof.Machine.execMiControllerHealthPoll c s
  | .miConfigurationSet ident v => Sys2Proof.Machine.execMiConfigurationSet ident v s
  | .miConfigurationGet ident => Sys2Proof.Machine.execMiConfigurationGet ident s
  | .miAdminCommand c e => Sys2Proof.Machine.execMiAdminCommand c e s
  | .i3cEntdaa a => Sys2Proof.Machine.execI3cEntdaa a s
  | .i3cSetdasa st a => Sys2Proof.Machine.execI3cSetdasa st a s
  | .i3cRstdaa => Sys2Proof.Machine.execI3cRstdaa s
  | .i3cGetpid => Sys2Proof.Machine.execI3cGetpid s
  | .i3cGetbcr => Sys2Proof.Machine.execI3cGetbcr s
  | .i3cGetdcr => Sys2Proof.Machine.execI3cGetdcr s
  | .i3cGetmwl => Sys2Proof.Machine.execI3cGetmwl s
  | .i3cGetmrl => Sys2Proof.Machine.execI3cGetmrl s
  | .i3cSetmwl v => Sys2Proof.Machine.execI3cSetmwl v s
  | .i3cSetmrl v => Sys2Proof.Machine.execI3cSetmrl v s
  | .i3cEnec ev => Sys2Proof.Machine.execI3cEnec ev s
  | .i3cDisec ev => Sys2Proof.Machine.execI3cDisec ev s
  | .zoneReady n p => Sys2Proof.Machine.execZoneReady n p s
  | .consistencyCheckEnd b o => Sys2Proof.Machine.execConsistencyCheckEnd b o s
  | .rstNRelease => Sys2Proof.Machine.execRstNRelease s
  | .perstRelease c => Sys2Proof.Machine.execPerstRelease c s
  | .vholdBelowMinimum => Sys2Proof.Machine.execVholdBelowMinimum s
  | .hostAerUncorrectable c => Sys2Proof.Machine.execHostAerUncorrectable c s
  | .flyPageReadDone nsid line ok => Sys2Proof.Machine.execFlyPageReadDone nsid line ok s
  | .hingeSelectionDisagree n => Sys2Proof.Machine.execHingeSelectionDisagree n s

end Sys2Proof.Machine
end

