-- ==== Sys2Proof/Safety.lean ====
section
/-! DEFINITION. What a safe state and a safe run are: every sparse store of the state keeps its canonical form, so that equal
contents are equal data and a read after a write gives what was written; and a run that completes neither faults nor refuses. -/

namespace Sys2Proof.Machine

/-- The register cells, the values in force, the buffer DRAM, and the control stores, scratchpads and coefficient banks of
every channel are in canonical form. -/
def mapsCanon (regs force dram : NatMap) (store pads banks : Vector NatMap 8) : Prop :=
  regs.wf = true ∧ force.wf = true ∧ dram.wf = true ∧ ∀ n : Ch, store[n].wf = true ∧ pads[n].wf = true ∧ banks[n].wf = true

/-- The stores of a state are in canonical form. -/
def State.canon (s : State) : Prop := mapsCanon s.regs s.force s.dram s.store s.pads s.banks

/-- A step that completes: it answers a next state. -/
def Completes (o : Host.Outcome State Fault Refusal) : Prop := ∃ t, o = .next t

/-- A run of the core of `k` steps from a state is safe when it ends in a next state. -/
def SafeRun (s : State) : Nat → Prop
  | 0 => True
  | k + 1 => ∃ t, step s = .next t ∧ SafeRun t k

/-! ### What a statement says a command leaves alone -/

/-- Every register field but those of a list reads as before. -/
def SameRegsBut (fs : List Fld) (s t : State) : Prop := ∀ g : Fld, (∀ f ∈ fs, g.key ≠ f.key) → t.get g = s.get g

/-- Nothing but the register fields of a list changes. -/
def OnlyRegs (fs : List Fld) (s t : State) : Prop := t = { s with regs := t.regs } ∧ SameRegsBut fs s t

/-- Nothing but the part of channel n changes: no register, no memory, no other channel. -/
def OnlyChan (n : Ch) (s t : State) : Prop := t = { s with chans := t.chans } ∧ ∀ m : Ch, m ≠ n → t.chan m = s.chan m

/-- Nothing but the Stitcher of one path changes. -/
def OnlyStit (n : Ch) (p : Pa) (s t : State) : Prop := ∃ x, t = s.modStit n p fun _ => x

/-- Nothing but the commands, queues, controllers and namespaces of the host interface changes. -/
def OnlyHost (s t : State) : Prop := t = { s with host := t.host }

/-- No byte of the buffer DRAM, no word of a control store, a scratchpad or a coefficient bank changes. -/
def SameMem (s t : State) : Prop := t.dram = s.dram ∧ t.store = s.store ∧ t.pads = s.pads ∧ t.banks = s.banks

/-! ### Accesses of registers -/

/-- An access to an address reaches its window: the domain that serves it is on, and its channel is not in reset (R574). -/
def Reached (a : Nat) (s : State) : Prop := windowOff a (breakSeq s) = false

/-- The writer may write the fields of an address that need expert access: MGMT, or expert access to the block is open (R577). -/
def MayWrite (path : RegPath) (a : Nat) (s : State) : Prop := path = .mgmt ∨ addrOpen a (breakSeq s) = true

/-! ### Words of a Stitcher -/

/-- Stitcher p of channel n executes a word: it is running, CTL.HALT does not hold it, and no trap may be taken (R161). -/
def Runs (n : Ch) (p : Pa) (s : State) : Prop :=
  (s.stit n p).mode = .running ∧ s.bit (F.STITCH_CTL_HALT n) p.val = false ∧ ∀ v < 16, (s.stit n p).mayTake v = false

/-- A word that changes its own Stitcher only: TIMER counts, the next address is the one after, then the word acts. -/
def wordBy (n : Ch) (p : Pa) (s : State) (f : Stitcher → Stitcher) : State :=
  s.modStit n p fun x => f { x.tick with pc := x.pc + 1 }

/-- Z and N from a result, and C. -/
def flagsOf (x : Stitcher) (v : W16) (c : Bool) : Stitcher := { x with z := decide (v = 0), n := v.msb, c := c }

/-! ### Commands of the host -/

/-- Command k of the table is c, it is OPEN and undecided, its own row has not begun, and it waits for no lock and no original. -/
def Begins (k : Nat) (c : Cmd) (s : State) : Prop :=
  s.cmd k = some c ∧ c.posting = false ∧ c.status = none ∧ c.started = false ∧ c.lockWait = false ∧ c.stampWait = none

/-- An admin command with an opcode begins. -/
def BeginsAdmin (k : Nat) (c : Cmd) (opc : Byte) (s : State) : Prop := Begins k c s ∧ (c.qid = 0 ∨ c.qid = 65536) ∧ c.e.opc = opc

/-- A command of an I/O queue begins. -/
def BeginsIo (k : Nat) (c : Cmd) (opc : Byte) (s : State) : Prop := Begins k c s ∧ c.qid ≠ 0 ∧ c.qid ≠ 65536 ∧ c.e.opc = opc

/-- An I/O command on namespace v begins, and nothing holds it back: no conflicting command, no erasure before it, no
reservation, and, for a write, no layout in FAILED. -/
def IoRuns (k : Nat) (c : Cmd) (v : Ns) (opc : Byte) (writes : Bool) (s : State) : Prop :=
  BeginsIo k c opc s ∧ s.ns c.e.nsid.toNat = some v ∧ lockClear c s = true ∧ (c.wr && formatAhead c s) = false ∧ resvAllows c.ctl v writes s = true ∧
  (c.wr && onFailed v s) = false

end Sys2Proof.Machine
end

