-- ==== Sys2Proof/Certificates/Slice0/Obligations.lean ====
section
/-! DEFINITION. The statements for the provers: one for each family of commands and for each kind of state that the spec names, with the
frame of every command in the equation that gives its next state. A statement whose docstring begins with rules states them; one that begins
with parts of rules rests on them together with the choices of the log entries it names. -/

open Sys2Proof Sys2Proof.Machine

/-- A step takes the command at the front of the queue and runs it on the state with the rest of the queue, so that what the statements about
single commands say reaches every run; on an empty queue the block idles. The queue is the model's own form (log entry 1). -/
def Obligations.StepRunsTheFrontCommand : Prop :=
  (∀ (c : Instr) (rest : List Instr) (s : State), step { s with pending := c :: rest } = exec c { s with pending := rest }) ∧
  (∀ s : State, s.pending = [] → step s = .next s)

/-- Every command completes in every state: no row of the table is refused or stops. -/
def Obligations.EveryCommandCompletes : Prop := ∀ (c : Instr) (s : State), Completes (exec c s)

/-- After reset no command waits, every store is canonical, and every register field outside the shadowed ones reads the reset value of its
table entry. -/
def Obligations.ResetState : Prop :=
  State.reset.pending = [] ∧ State.reset.canon ∧ (∀ f : Fld, State.reset.get f = f.reset) ∧ State.reset.get F.GLB_ID_VENDOR = 0x1FD3 ∧
  State.reset.get F.GLB_ID_DEVICE = 0x0808 ∧ State.reset.get F.GLB_REV_STEP = 0xB1 ∧ (∀ n p, (State.reset.stit n p).pc = 0x0110) ∧
  (∀ (n : Ch) (p : Pa) (i : Fin 32), (State.reset.stit n p).r[i.val] = 0) ∧ (∀ c, (State.reset.ctlr c).arb = 0x07030003) ∧ State.reset.host.i3c.static = 0x1D

/-- Every step from a state with canonical stores ends in one with canonical stores, and takes exactly the front command from the queue. -/
def Obligations.EveryStepKeepsTheStores : Prop := ∀ s t : State, s.canon → step s = .next t → t.canon ∧ t.pending = s.pending.tail

/-- Parts of R146 to R149. Decoding the word of an operation that has one gives the operation back, with every operand at every value, and
every word decodes to an operation that has a word, so that no two operations share one. -/
def Obligations.MicrowordsRoundTrip : Prop :=
  (∀ m : Micro, m.wellFormed = true → decodeMicro (encodeMicro m) = m) ∧ (∀ w : W24, (decodeMicro w).wellFormed = true)

/-- R44, R45. The track number is the Gray code of the binary track number, and the decoder forms the binary number from it by the running XOR
from the most significant bit down. In a dibit-encoded field each bit is two servo bits, most significant first, 1 as 0b10 and 0 as 0b01;
a dibit of 0b00 or 0b11 makes the whole field invalid. -/
def Obligations.ServoFields : Prop :=
  (∀ t : Nat, t < 2 ^ 24 →
  gray t = t ^^^ (t >>> 1) ∧ ungray (gray t) = t ∧ (∀ i < 24, (ungray t).testBit i = ((List.range (24 - i)).foldl (fun b j => b != t.testBit (i + j)) false))) ∧
  (∀ k v t : Nat,
  (undibit k v = none ↔ ∃ i < k, v / 4 ^ i % 4 = 0 ∨ v / 4 ^ i % 4 = 3) ∧
  (undibit k v = some t → t < 2 ^ k ∧ ∀ i < k, (t.testBit i = true ↔ v / 4 ^ i % 4 = 2) ∧ (t.testBit i = false ↔ v / 4 ^ i % 4 = 1)))

/-- R423. The place of a logical block of a gathering namespace: its stripe, data strip, channel and channel block of the layout's extent. No
two strips of a layout lie at one place, and over every W consecutive stripes each position holds exactly K + M strips. -/
def Obligations.GatherPlaces : Prop :=
  (∀ (v : Ns) (a l : Nat) (s : State), l < 4 → v.place = 0x80 + l →
  let k := layoutK l s
  let m := layoutM l s
  let c := layoutChans l s
  let w := c.length
  let st := v.base + a / (64 * k)
  let j := a % (64 * k) / 64
  let q := (st + j) % w
  let before := ((List.range st).filter fun t => decide (w * (st / w) ≤ t) && decide (((q : Int) - t) % (w : Int) < k + m)).length
  0 < w → nsPlace v a s = (c.getD q 0, extentBase l (c.getD q 0) s + 64 * (st / w * (k + m) + before) + a % 64, st, j)) ∧
  (∀ (w km st tt i j q : Nat), 0 < w → km ≤ w → i < km → j < km →
  ((st + i) % w = (tt + j) % w → stripIndex w km st ((st + i) % w) = stripIndex w km tt ((tt + j) % w) → st = tt ∧ i = j) ∧
  (q < w → ((List.range w).filter fun t => (List.range km).any fun x => (st + t + x) % w == q).length = km))

/-- R148. Each ALU function writes its result to RD, but CMP and TST, and sets Z and N from it; C is the carry of ADD, whether RA is at least
RB for SUB and CMP, the last bit shifted out of a shift by more than zero, and unchanged else; ADDI and CMPI set it as ADD and CMP. A
reserved function makes ILLEGAL pending outside a level-H handler. The word takes one cycle of TIMER, the next address is the one after,
and nothing else of the block changes. Each of these commands is shown to answer a next state with its own effect, under conditions on the
state and its operands alone: aluAdd, aluSub, aluAnd, aluOr, aluXor, aluShl, aluShr, aluAsr, aluShli, aluShri, aluMov, aluNot, aluCmp,
aluTst, addi, cmpi, reservedOperation. -/
def Obligations.AluFunctions : Prop := ∀ (n : Ch) (p : Pa) (rd ra rb : Fin 32) (k : Fin 16) (imm : BitVec 14) (w : W24) (s : State), Runs n p s →
  exec (.aluAdd n p rd ra rb) s = .next (wordBy n p s fun x =>
    (flagsOf x (x.reg ra + x.reg rb) (decide (65536 ≤ (x.reg ra).toNat + (x.reg rb).toNat))).setReg rd (x.reg ra + x.reg rb)) ∧
  exec (.aluSub n p rd ra rb) s = .next (wordBy n p s fun x =>
    (flagsOf x (x.reg ra - x.reg rb) (decide ((x.reg rb).toNat ≤ (x.reg ra).toNat))).setReg rd (x.reg ra - x.reg rb)) ∧
  exec (.aluAnd n p rd ra rb) s = .next (wordBy n p s fun x => (flagsOf x (x.reg ra &&& x.reg rb) x.c).setReg rd (x.reg ra &&& x.reg rb)) ∧
  exec (.aluOr n p rd ra rb) s = .next (wordBy n p s fun x => (flagsOf x (x.reg ra ||| x.reg rb) x.c).setReg rd (x.reg ra ||| x.reg rb)) ∧
  exec (.aluXor n p rd ra rb) s = .next (wordBy n p s fun x => (flagsOf x (x.reg ra ^^^ x.reg rb) x.c).setReg rd (x.reg ra ^^^ x.reg rb)) ∧
  exec (.aluShl n p rd ra rb) s = .next (wordBy n p s fun x =>
    let c := (x.reg rb).toNat % 16
    (flagsOf x (x.reg ra <<< c) (if c = 0 then x.c else (x.reg ra).getLsbD (16 - c))).setReg rd (x.reg ra <<< c)) ∧
  exec (.aluShr n p rd ra rb) s = .next (wordBy n p s fun x =>
    let c := (x.reg rb).toNat % 16
    (flagsOf x (x.reg ra >>> c) (if c = 0 then x.c else (x.reg ra).getLsbD (c - 1))).setReg rd (x.reg ra >>> c)) ∧
  exec (.aluAsr n p rd ra rb) s = .next (wordBy n p s fun x =>
    let c := (x.reg rb).toNat % 16
    (flagsOf x ((x.reg ra).sshiftRight c) (if c = 0 then x.c else (x.reg ra).getLsbD (c - 1))).setReg rd ((x.reg ra).sshiftRight c)) ∧
  exec (.aluShli n p rd ra k) s = .next (wordBy n p s fun x =>
    (flagsOf x (x.reg ra <<< k.val) (if k.val = 0 then x.c else (x.reg ra).getLsbD (16 - k.val))).setReg rd (x.reg ra <<< k.val)) ∧
  exec (.aluShri n p rd ra k) s = .next (wordBy n p s fun x =>
    (flagsOf x (x.reg ra >>> k.val) (if k.val = 0 then x.c else (x.reg ra).getLsbD (k.val - 1))).setReg rd (x.reg ra >>> k.val)) ∧
  exec (.aluMov n p rd ra) s = .next (wordBy n p s fun x => (flagsOf x (x.reg ra) x.c).setReg rd (x.reg ra)) ∧
  exec (.aluNot n p rd ra) s = .next (wordBy n p s fun x => (flagsOf x (~~~(x.reg ra)) x.c).setReg rd (~~~(x.reg ra))) ∧
  exec (.aluCmp n p ra rb) s = .next (wordBy n p s fun x =>
    flagsOf x (x.reg ra - x.reg rb) (decide ((x.reg rb).toNat ≤ (x.reg ra).toNat))) ∧
  exec (.aluTst n p ra rb) s = .next (wordBy n p s fun x => flagsOf x (x.reg ra &&& x.reg rb) x.c) ∧
  exec (.addi n p rd imm) s = .next (wordBy n p s fun x =>
    (flagsOf x (x.reg rd + imm.signExtend 16) (decide (65536 ≤ (x.reg rd).toNat + (imm.signExtend 16).toNat))).setReg rd
      (x.reg rd + imm.signExtend 16)) ∧
  exec (.cmpi n p rd imm) s = .next (wordBy n p s fun x =>
    flagsOf x (x.reg rd - imm.signExtend 16) (decide ((imm.signExtend 16).toNat ≤ (x.reg rd).toNat))) ∧
  (w.toNat / 2 ^ 19 = 0x01 → 0xE ≤ w.toNat % 16 → (s.stit n p).frH.active = false → exec (.reservedOperation n p w) s =
    .next (wordBy n p s fun x => { x with tpend := x.tpend ||| 4, errData := (s.stit n p).pc.zeroExtend 16 }))

/-- Parts of R147, R148. The words with an immediate, and the two loop-counter words. IMM14 is sign-extended in ADDI, LDI and CMPI and
zero-extended in ANDI and ORI. LOOP counts LC down unless it is zero, and goes to TARGET while it stays above zero. Each of these commands
is shown to answer a next state with its own effect, under conditions on the state and its operands alone: addi, ldi, andi, ori, cmpi,
loop, setlc. -/
def Obligations.ImmediateAndLoopWords : Prop := ∀ (n : Ch) (p : Pa) (rd ra : Fin 32) (imm : BitVec 14) (lc : Fin 4) (v : W16)
    (target : BitVec 13) (s : State), Runs n p s →
  exec (.addi n p rd imm) s = .next (wordBy n p s fun x =>
    (flagsOf x (x.reg rd + imm.signExtend 16) (decide (65536 ≤ (x.reg rd).toNat + (imm.signExtend 16).toNat))).setReg rd
      (x.reg rd + imm.signExtend 16)) ∧
  exec (.ldi n p rd imm) s = .next (wordBy n p s fun x => (flagsOf x (imm.signExtend 16) x.c).setReg rd (imm.signExtend 16)) ∧
  exec (.andi n p rd imm) s = .next (wordBy n p s fun x =>
    (flagsOf x (x.reg rd &&& imm.zeroExtend 16) x.c).setReg rd (x.reg rd &&& imm.zeroExtend 16)) ∧
  exec (.ori n p rd imm) s = .next (wordBy n p s fun x =>
    (flagsOf x (x.reg rd ||| imm.zeroExtend 16) x.c).setReg rd (x.reg rd ||| imm.zeroExtend 16)) ∧
  exec (.cmpi n p rd imm) s = .next (wordBy n p s fun x =>
    flagsOf x (x.reg rd - imm.signExtend 16) (decide ((imm.signExtend 16).toNat ≤ (x.reg rd).toNat))) ∧
  exec (.loop n p lc target) s = .next (wordBy n p s fun x =>
    if x.lc[lc] = 0 then x
    else if x.lc[lc] = 1 then { x with lc := x.lc.set lc 0 }
    else { x with lc := x.lc.set lc (x.lc[lc] - 1), pc := target }) ∧
  exec (.setlc n p lc (.imm v)) s = .next (wordBy n p s fun x => { x with lc := x.lc.set lc v }) ∧
  exec (.setlc n p lc (.reg ra)) s = .next (wordBy n p s fun x => { x with lc := x.lc.set lc (x.reg ra) })

/-- R149, and R147, R157 in part. COND holds as its table says, and testing an event leaves it latched. JMP, CALL and RET when COND holds, and
when it does not: the word after follows. A CALL with eight addresses on the micro-stack, and a RET with none or with no more than the
depth saved in the active trap frame, is not carried out: STACK_ERR (vector 1) becomes pending with the address of the word as its DATA,
outside a level-H handler. Each of these commands is shown to answer a next state with its own effect, under conditions on the state and
its operands alone: jmp, call, ret, prefetch. -/
def Obligations.BranchWords : Prop := ∀ (n : Ch) (p : Pa) (cond : BitVec 6) (target : BitVec 13) (s : State), Runs n p s →
  let w := wordBy n p s id
  let err := wordBy n p s fun x => { x with tpend := x.tpend ||| 2, errData := ((s.stit n p).pc).zeroExtend 16 }
  let d := (s.stit n p).stack
  let f := match (s.stit n p).activeFrame with | some f => f.sp | none => 0
  exec (.jmp n p cond target) s = .next (wordBy n p s fun x => if x.condHolds cond then { x with pc := target } else x) ∧
  ((w.stit n p).condHolds cond = false → exec (.call n p cond target) s = .next w ∧ exec (.ret n p cond) s = .next w) ∧
  ((w.stit n p).condHolds cond = true →
    (d.length < 8 → exec (.call n p cond target) s = .next (wordBy n p s fun x => { x with stack := x.pc :: x.stack, pc := target })) ∧
    (8 ≤ d.length → (s.stit n p).frH.active = false → exec (.call n p cond target) s = .next err) ∧
    (∀ a r, d = a :: r → f < d.length → exec (.ret n p cond) s = .next (wordBy n p s fun x => { x with stack := r, pc := a })) ∧
    (d.length ≤ f ∨ d = [] → (s.stit n p).frH.active = false → exec (.ret n p cond) s = .next err)) ∧
  (let x := w.stit n p
   x.condHolds 0x00 = true ∧ x.condHolds 0x01 = x.z ∧ x.condHolds 0x02 = !x.z ∧ x.condHolds 0x03 = x.n ∧ x.condHolds 0x04 = !x.n ∧
   x.condHolds 0x05 = x.c ∧ x.condHolds 0x06 = !x.c ∧ x.condHolds 0x07 = (x.c && !x.z) ∧ x.condHolds 0x08 = (!x.c || x.z) ∧
   x.condHolds 0x09 = x.prefetch.isSome ∧ (∀ k : BitVec 6, 0x0A ≤ k.toNat → k.toNat ≤ 0x1F → x.condHolds k = false) ∧
   (∀ e : Fin 32, x.condHolds (BitVec.ofNat 6 (0x20 + e.val)) = x.ev.getLsbD e.val) ∧ x.ev = (s.stit n p).tick.ev)

/-- Parts of R152. IN writes to R what its port shows after the cycle of the word; the ports show the current descriptor, the last wedge, the
path and channel numbers, the traps and the stack depth; a reserved port, and one that is only written, reads zero. With no current
descriptor a descriptor port reads an open value (log entry 2). Each of these commands is shown to answer a next state with its own
effect, under conditions on the state and its operands alone: portIn. -/
def Obligations.PortReads : Prop := ∀ (n : Ch) (p : Pa) (r : Fin 32) (port : Byte) (s : State), Runs n p s →
  let w := wordBy n p s id
  let x := w.stit n p
  let desc := port.toNat < 24 ∨ (28 ≤ port.toNat ∧ port.toNat ≤ 30)
  ((s.stit n p).cur = none → desc →
    exec (.portIn n p r port) s = .next ((w.modStit n p fun x => x.setReg r (s.fresh.setWidth 16)).used)) ∧
  ((s.stit n p).cur ≠ none ∨ ¬desc →
    exec (.portIn n p r port) s = .next (w.modStit n p fun x => x.setReg r (portRead n p port.toNat 0 w))) ∧
  (∀ d, x.cur = some d →
    (∀ i : Fin 12, portRead n p (2 * i.val) 0 w = d[i].setWidth 16 ∧ portRead n p (2 * i.val + 1) 0 w = (d[i] >>> 16).setWidth 16) ∧
    portRead n p 0x1C 0 w = (d[1 + p.val]).setWidth 16 ∧ portRead n p 0x1E 0 w = (d[1 + p.val] >>> 24).setWidth 16 &&& 0x1F) ∧
  portRead n p 0x18 0 w = x.wtrk.setWidth 16 ∧
  portRead n p 0x1A 0 w = BitVec.ofNat 16 (x.wnum.toNat + x.wnumBad.toNat * 32768) ∧
  portRead n p 0x1F 0 w = BitVec.ofNat 16 (p.val + 4 * n.val) ∧
  portRead n p 0x28 0 w = x.tmask ∧ portRead n p 0x29 0 w = x.tpend ∧
  portRead n p 0x2D 0 w = BitVec.ofNat 16 x.stack.length ∧
  ∀ k, 46 ≤ k ∨ k ∈ [0x20, 0x21, 0x23, 0x24, 0x26, 0x27] → portRead n p k 0 w = 0

/-- Parts of R152, R153. OUT and OUTI write a port after the cycle of the word: TMASK keeps bits 7 to 14, ARM_SLOT takes eleven bits, ARM_ACT,
COMMIT, WFIFO, PA_CMD and FE_CTL act on the values that the table gives and on no other; a write to a reserved port, or to a port that is
only read, changes nothing. The commands for the single actions are those writes. Each of these commands is shown to answer a next state
with its own effect, under conditions on the state and its operands alone: portOut, portOuti, armCancel, armCapture, armWrite, armVerify,
armScan, armRaw, portCommit, portWfifoStart, portPaCmd, portFeCtl, portTmaskWrite. -/
def Obligations.PortWrites : Prop := ∀ (n : Ch) (p : Pa) (r : Fin 32) (port : Byte) (imm : BitVec 11) (v : W16) (b : Bool) (s : State),
    Runs n p s →
  let w := wordBy n p s id
  exec (.portOut n p r port) s = .next (portWrite n p port.toNat ((w.stit n p).reg r) w) ∧
  exec (.portOuti n p port imm) s = .next (portWrite n p port.toNat (imm.zeroExtend 16) w) ∧
  exec (.armCancel n p) s = .next (portWrite n p 0x21 0 w) ∧ exec (.armCapture n p) s = .next (portWrite n p 0x21 1 w) ∧
  exec (.armWrite n p) s = .next (portWrite n p 0x21 2 w) ∧ exec (.armVerify n p) s = .next (portWrite n p 0x21 3 w) ∧
  exec (.armScan n p) s = .next (portWrite n p 0x21 4 w) ∧ exec (.armRaw n p) s = .next (portWrite n p 0x21 5 w) ∧
  exec (.portCommit n p) s = .next (portWrite n p 0x23 1 w) ∧ exec (.portWfifoStart n p) s = .next (portWrite n p 0x24 1 w) ∧
  exec (.portPaCmd n p b) s = .next (portWrite n p 0x26 (if b then 3 else 1) w) ∧
  exec (.portFeCtl n p b) s = .next (portWrite n p 0x27 (if b then 1 else 0) w) ∧
  exec (.portTmaskWrite n p v) s = .next (portWrite n p 0x28 v w) ∧
  (∀ u : State,
    portWrite n p 0x20 v u = u.modStit n p (fun x => { x with armSlot := v.setWidth 11 }) ∧
    portWrite n p 0x28 v u = u.modStit n p (fun x => { x with tmask := v &&& 0x7F80 }) ∧
    (∀ k, k < 32 ∨ k = 0x22 ∨ k = 0x25 ∨ 41 ≤ k → portWrite n p k v u = u) ∧
    (6 ≤ v.toNat → portWrite n p 0x21 v u = u) ∧ (v ≠ 1 → portWrite n p 0x23 v u = u ∧ portWrite n p 0x24 v u = u) ∧
    (v ≠ 1 → v ≠ 3 → portWrite n p 0x26 v u = u) ∧ (v ≠ 0 → v ≠ 1 → portWrite n p 0x27 v u = u))

/-- Parts of R80, R121, R122, R126, R133, R153, R154. Arming replaces a pending action, unless one of its parts has begun: then the arm is
ignored and ARM_LATE latches. CANCEL cancels the parts that have not begun and parks no open gate; a sector of a write that it ends
between its parts is torn (its code is the model's choice, log entry 69). COMMIT commits the pending write part. WFIFO starts a fetch
while the FIFO has room; PA_CMD asks for the frames of the descriptor's head, and with its settings; FE_CTL powers the front end down or
asks for the zone. Each of these commands is shown to answer a next state with its own effect, under conditions on the state and its
operands alone: armCancel, armCapture, armWrite, armVerify, armScan, armRaw, portCommit, portWfifoStart, portPaCmd, portFeCtl. -/
def Obligations.PathActions : Prop := ∀ (n : Ch) (p : Pa) (s : State), Runs n p s →
  let w := wordBy n p s id
  let slot := (w.stit n p).armSlot.toNat
  let arm := (s.pathSt n p).arm
  (∀ d, (s.stit n p).cur = some d → (∀ a, arm = some a → a.begun = false) →
    ∀ c : Fin 6 × Instr, c ∈ [(1, .armCapture n p), (2, .armWrite n p), (3, .armVerify n p), (4, .armScan n p), (5, .armRaw n p)] →
      exec c.2 s = .next (w.modPath n p fun q => { q with
        arm := some ⟨c.1, slot, (armParts n d c.1 slot w).1, (armParts n d c.1 slot w).2, 0, false, false, false, none⟩ })) ∧
  (∀ a, arm = some a → a.begun = true →
    ∀ c : Fin 6 × Instr, c ∈ [(1, .armCapture n p), (2, .armWrite n p), (3, .armVerify n p), (4, .armScan n p), (5, .armRaw n p)] →
      exec c.2 s = .next ((w.modStit n p fun x => { x with lateAct := BitVec.ofNat 16 c.1 }).event n p 10)) ∧
  (arm = none → exec (.armCancel n p) s = .next w) ∧
  (∀ a, arm = some a →
    (a.isOpen = true → a.act ≠ 4 → exec (.armCancel n p) s = .next (w.modPath n p fun q => { q with arm := some { a with left := 0 } })) ∧
    (a.begun = false ∧ a.isOpen = false ∨ a.act = 4 →
      exec (.armCancel n p) s = .next (w.modPath n p fun q => { q with arm := none, cap := Capturing.none })) ∧
    (a.begun = true → a.isOpen = false → a.act = 2 → exec (.armCancel n p) s = .next (writeResult n p 0x18 true (w.event n p 9))) ∧
    (a.begun = true → a.isOpen = false → a.act ≠ 2 → a.act ≠ 4 →
      exec (.armCancel n p) s = .next (freeBuffer n p (w.modPath n p fun q => { q with arm := none, cap := Capturing.none })))) ∧
  (∀ a, arm = some a → a.act = 2 → 0 < a.left →
    exec (.portCommit n p) s = .next (w.modPath n p fun q => { q with arm := some { a with commit := true } })) ∧
  ((s.pathSt n p).wfFetch = false → (s.pathSt n p).fifo.length < 2 →
    exec (.portWfifoStart n p) s = .next (w.modPath n p fun q => { q with wfFetch := true })) ∧
  (∀ d b, (s.stit n p).cur = some d → (s.pathSt n p).head = some (descSurf d p) → ((s.chan n).servo.work[p]).isSome = true →
    (∀ z, (s.pathSt n p).zone = some z → (s.pathSt n p).loaded = some (descSurf d p, z)) →
    let fs := headFrame (descSurf d p) :: if b then settingFrames (s.chan n) (descSurf d p) (descZone d) else []
    exec (.portPaCmd n p b) s = .next ((w.modPath n p fun q => { q with pa := q.pa ++ fs }).modChan n fun c => { c with frames := fs })) ∧
  (∀ d, (s.stit n p).cur = some d → (s.pathSt n p).zone = some (descZone d) → (s.pathSt n p).loaded = some (descSurf d p, descZone d) →
    exec (.portFeCtl n p true) s = .next (w.modPath n p fun q => { q with fePower := true })) ∧
  (∀ d, (s.stit n p).cur = some d → (s.pathSt n p).zone ≠ some (descZone d) → ∃ t, exec (.portFeCtl n p true) s = .next t ∧
    (t.pathSt n p).fePower = true ∧ (t.pathSt n p).zone = some (descZone d) ∧ (t.pathSt n p).zoneOk = false) ∧
  exec (.portFeCtl n p false) s = .next (w.modPath n p fun q => { q with fePower := false, zoneOk := false })

/-- Parts of R147, R151, R166, R168, R171. WAIT consumes a latched event or leaves the Stitcher waiting at the same word; with CLR it clears
the latch first. FETCH takes the prefetched descriptor, else the first one handed over, else waits; the dispatch word of its CMD is next
and the watchdog starts. Within a trap it first discards the frames, the micro-stack, the latches of events 0x00 to 0x0C and 0x0F, and
every pending trap but POWER_LOSS, PEER and DESC. PREFETCH asks. HALT keeps its code. Each of these commands is shown to answer a next
state with its own effect, under conditions on the state and its operands alone: wait, fetch, prefetch, halt. -/
def Obligations.WaitAndFetchWords : Prop := ∀ (n : Ch) (p : Pa) (clr : Bool) (ev : Fin 32) (code : BitVec 7) (s : State), Runs n p s →
  let take := fun (x : Stitcher) (d : Desc) =>
    { x with cur := some d, pc := BitVec.ofNat 13 (0x10 + descCmd d), mode := StMode.running, wd := 1 }
  exec (.wait n p clr ev) s = .next (wordBy n p s fun x =>
    if clr = false ∧ x.ev.getLsbD ev.val then { x with ev := x.ev &&& ~~~(1#32 <<< ev.val) }
    else { x with ev := x.ev &&& (if clr then ~~~(1#32 <<< ev.val) else BitVec.allOnes 32), mode := .waiting ev, pc := x.pc - 1 }) ∧
  exec (.fetch n p) s = .next (wordBy n p s fun x =>
    let y := if x.frH.active || x.frN.active then
        { x with frN := Frame.none, frH := Frame.none, stack := [], ev := x.ev &&& 0x6000, tpend := x.tpend &&& 0x6008 } else x
    match y.prefetch, y.handed with
    | some d, _ => take { y with prefetch := none } d
    | none, d :: r => take { y with handed := r } d
    | none, [] => { y with cur := none, wd := 0, mode := .idle, pc := y.pc - 1 }) ∧
  exec (.prefetch n p) s = .next (wordBy n p s fun x => { x with wantPre := true }) ∧
  exec (.halt n p code) s = .next ((wordBy n p s fun x => { x with mode := .halted, hcode := code.zeroExtend 8 }).raise
    (chSrc n 6) p.val code.toNat code.toNat)

/-- Parts of R147, R159, R162, R164, R168. DONE gives the work item of the current descriptor the word of r29 and r28, ends the path's part
with END, where the idle head is held where it is (R184), and keeps the word with ABT. MRET takes two cycles and returns from the active
level: flags, next address, micro-stack depth. TRAP makes SOFT pending with its CODE, but is ILLEGAL within a trap. SIGNAL latches PEER in
the others of its MASK. A reserved word makes ILLEGAL pending with its address. Each of these commands is shown to answer a next state
with its own effect, under conditions on the state and its operands alone: done, mret, trap, signal, reservedOperation. -/
def Obligations.DoneTrapSignalWords : Prop := ∀ (n : Ch) (p : Pa) (abt fin : Bool) (code : BitVec 4) (mask : BitVec 4) (wd : W24) (s : State),
    Runs n p s →
  let w := wordBy n p s id
  let y := w.stit n p
  let res := (y.reg 28).toNat + (y.reg 29).toNat % 16 * 65536
  let ill := wordBy n p s fun x => { x with tpend := x.tpend ||| 4, errData := (s.stit n p).pc.zeroExtend 16 }
  (∀ d, (s.stit n p).cur = some d → exec (.done n p abt fin) s = .next (((w.modSched n fun c => { c with ring := modItem (descTag d) (fun i =>
      { i with res := i.res.set p (some res), ended := i.ended.set p (i.ended[p] || fin), abt := i.abt.set p (i.abt[p] || abt) }) c.ring }).when
      fin (holdHead n p)).modStit n p fun x =>
      { x with lastAbt := abt, abtRes := if abt then BitVec.ofNat 20 res else x.abtRes,
                            cur := if fin then none else x.cur, wd := if fin then 0 else x.wd })) ∧
  (∀ f, f = (if y.frH.active then y.frH else y.frN) → f.active = true →
    exec (.mret n p) s = .next (wordBy n p s fun x =>
      { x.tick with z := f.z, n := f.n, c := f.c, pc := f.rpc, stack := x.tick.stack.drop (x.tick.stack.length - f.sp),
                    frH := if x.tick.frH.active then Frame.none else x.tick.frH, frN := if x.tick.frH.active then x.tick.frN else Frame.none })) ∧
  (y.frH.active = false → y.frN.active = false →
    exec (.trap n p code) s = .next (wordBy n p s fun x => { x with tpend := x.tpend ||| 0x8000, softData := code.zeroExtend 16 })) ∧
  (y.frH.active = false → y.frN.active = true → exec (.trap n p code) s = .next ill) ∧
  (∃ t, exec (.signal n p mask) s = .next t ∧ OnlyChan n s t ∧ t.stit n p = y ∧
    ∀ q, q ≠ p → t.stit n q = (if mask.getLsbD q then { s.stit n q with peers := (s.stit n q).peers ||| BitVec.ofNat 4 (2 ^ p.val) }.latch 13 else s.stit n q)) ∧
  (∀ v, decodeMicro wd = .reserved v → y.frH.active = false → exec (.reservedOperation n p wd) s = .next ill) ∧
  (∀ v, decodeMicro wd = .reserved v → y.frH.active = true → exec (.reservedOperation n p wd) s = .next
    ((w.modStit n p fun x => { x with mode := .halted, hcode := 0x80 }).raise (chSrc n 6) p.val 0x80 0x80))

/-- Parts of R155, R159 to R163, R171 to R173. At a word boundary the lowest trap that may be taken is taken: its frame saves where MRET
resumes, the flags, WAITING, the stack depth, the vector and DATA; the Stitcher runs on at the vector, the trap and the latch of its event
are cleared. TIMER expires, the watchdog first raises trap 6 and then halts with 0x81; a descriptor asked for arrives in the prefetch
buffer, and is withdrawn from it without a trap. Each of these commands is shown to answer a next state with its own effect, under
conditions on the state and its operands alone: prefetch, stitchTrapTaken, stitchTimerExpire, stitchWatchdogExpire, stitchWatchdogHalt,
descPrefetchDeliver, descPrefetchWithdraw. -/
def Obligations.TrapsAndWatchdog : Prop := ∀ (n : Ch) (p : Pa) (tag : W16) (s : State),
  let x := s.stit n p
  (∀ v : Nat, v < 16 → x.mayTake v = true → (∀ u, u < v → x.mayTake u = false) → x.mode ≠ .halted → s.bit (F.STITCH_CTL_HALT n) p.val = false →
    ∃ t, exec (.stitchTrapTaken n p) s = .next t ∧ OnlyStit n p s t ∧ (t.stit n p).pc = BitVec.ofNat 13 v ∧
      (t.stit n p).mode = .running ∧ (t.stit n p).stack = x.stack ∧ (t.stit n p).tmask = x.tmask ∧
      (let f := if v < 7 then (t.stit n p).frH else (t.stit n p).frN
       f = ⟨x.pc, x.z, x.n, x.c, decide (x.mode ≠ .running), x.stack.length, BitVec.ofNat 4 v, trapData n p v s, true⟩) ∧
      (if v < 7 then (t.stit n p).frN = x.frN else (t.stit n p).frH = x.frH)) ∧
  ((∀ v, v < 16 → x.mayTake v = false) → exec (.stitchTrapTaken n p) s = .next s) ∧
  (x.r[30] ≠ 0 → exec (.stitchTimerExpire n p) s = .next (s.modStit n p fun y => { y with r := y.r.set 30 0 }.latch 12)) ∧
  (x.wd = 1 → exec (.stitchWatchdogExpire n p) s = .next (s.modStit n p fun y => { y with wd := 2, tpend := y.tpend ||| 0x40 })) ∧
  (x.wd = 2 → exec (.stitchWatchdogHalt n p) s = .next
    ((s.modStit n p fun y => { y with wd := 0, mode := .halted, hcode := 0x81 }).raise (chSrc n 6) p.val 0x81 0x81)) ∧
  (∀ a d b, x.handed = a ++ d :: b → descTag d = tag → (∀ e ∈ a, descTag e ≠ tag) → x.wantPre = true → x.prefetch = none →
    exec (.descPrefetchDeliver n p tag) s = .next (s.modStit n p fun y =>
      { y with handed := a ++ b, prefetch := some d, wantPre := false }.latch 14)) ∧
  (∀ d, x.prefetch = some d → exec (.descPrefetchWithdraw n p) s = .next (s.modStit n p fun y =>
    { y with prefetch := none, handed := d :: y.handed }))

/-- Parts of R172, R176 to R178, R577. The control store is loaded only while the channel is disabled and its CHn_DET domain is powered: a
load while it is enabled records 0x07; a base segment that passes R177 clears the store, is written at address 0 and sets the version; the
first rejected segment ends the load with its code. A window write needs expert access, stores two words and clears AUTH. HALT is written,
and STEP makes a halted Stitcher execute the word at its address when no trap is due there and the stored word is sound. An abort reaches
the Stitchers whose current descriptor carries the tag as event ABORT. Each of these commands is shown to answer a next state with its own
effect, under conditions on the state and its operands alone: prefetch, workItemAbort, storeSegmentLoad, storeWindowWrite,
stitchCtlHaltWrite, stitchCtlStep. -/
def Obligations.StoreAndAbort : Prop := ∀ (n : Ch) (p : Pa) (tag : W16) (g : Segment) (segs : List Segment) (path : RegPath) (w : BitVec 12)
    (v : W64) (mask : BitVec 4) (s : State),
  (s.flag (F.PAGE_ENABLE_EN n) = true → exec (.storeSegmentLoad n segs) s = .next
    (((s.set (F.STITCH_LOADSTAT_CODE n) 7).set (F.STITCH_LOADSTAT_SEG n) 0).raise (chSrc n 7) 0xFFFF 7 7)) ∧
  (baseReject g = none ↔ g.magic = 0x5C1D0E08 ∧ g.type = 1 ∧ g.key = 0 ∧ g.sigOk = true ∧ g.hashOk = true ∧ g.start = 0 ∧
    0x111 ≤ g.count ∧ g.count ≤ 8192) ∧
  (s.flag (F.PAGE_ENABLE_EN n) = false → detPowered n s = false → exec (.storeSegmentLoad n segs) s = .next s) ∧
  (s.flag (F.PAGE_ENABLE_EN n) = false → detPowered n s = true → g.chanMask.testBit n.val = true →
    (∀ c, baseReject g = some c → exec (.storeSegmentLoad n (g :: segs)) s = .next
      (((s.set (F.STITCH_LOADSTAT_CODE n) c).set (F.STITCH_LOADSTAT_SEG n) 0).raise (chSrc n 7) 0xFFFF c c)) ∧
    (baseReject g = none → g.readBack = true → exec (.storeSegmentLoad n [g]) s = .next
      ((((({ s with store := s.store.set n (NatMap.empty.setMany 0 g.words) } : State).set
        (F.STITCH_VERSION_BASE_VER n) g.baseVer).set (F.STITCH_VERSION_PATCH_LEVEL n) 0).set (F.STITCH_VERSION_AUTH n) 1).set
        (F.STITCH_VERSION_LOADED n) 1 |>.set (F.STITCH_LOADSTAT_CODE n) 0))) ∧
  (let a := chBase n.val + 0x140000 + 8 * w.toNat
   let u := breakSeq s
   Reached a s → MayWrite path a s →
    (s.flag (F.PAGE_ENABLE_EN n) = true → exec (.storeWindowWrite path n w v) s = .next (discard a u)) ∧
    (s.flag (F.PAGE_ENABLE_EN n) = false → u.flag F.MEMPROT_FLIPCTL_ARM = false → exec (.storeWindowWrite path n w v) s = .next
      ((({ u with store := u.store.set n (((u.store[n]).set (2 * w.toNat) (v.toNat % 16777216)).set (2 * w.toNat + 1)
        (v.toNat / 16777216 % 16777216)) } : State).setFlag (F.STITCH_VERSION_AUTH n) false).modMem fun x =>
          { x with flips := x.flips.filter fun f => !(f.1 == 0x20 * n.val && f.2.1 == w.toNat) }))) ∧
  (Reached (chBase n.val + 0x100008) s →
    (MayWrite path (chBase n.val + 0x100008) s → s.flag (F.PAGE_ENABLE_EN n) = false →
      exec (.stitchCtlHaltWrite path n mask) s = .next ((breakSeq s).set (F.STITCH_CTL_HALT n) mask.toNat)) ∧
    (let u := breakSeq s
     (u.stit n p).mode = .running → u.bit (F.STITCH_CTL_HALT n) p.val = true → (∀ v < 16, (u.stit n p).mayTake v = false) →
      flipCount (0x20 * n.val) ((u.stit n p).pc.toNat / 2) u = 0 →
      exec (.stitchCtlStep n (BitVec.ofNat 4 (2 ^ p.val))) s = .next (wordMicro n p (decodeMicro (storeWord n (u.stit n p).pc u)) (wordBy n p u id)))) ∧
  (∃ t, exec (.workItemAbort n tag) s = .next t ∧ OnlyChan n s t ∧
    ∀ q, t.stit n q = (if ((s.stit n q).cur.any fun d => descTag d == tag) then
        if (s.stit n q).ev.getLsbD 15 then s.stit n q else { s.stit n q with abtTag := tag }.latch 15
      else { s.stit n q with prefetch := (s.stit n q).prefetch.filter fun d => descTag d != tag,
                             handed := (s.stit n q).handed.filter fun d => descTag d != tag }))

/-- Parts of R18, R479, R480, R486, R487. On a handle that stands for a live buffer, SHARE adds a reference below 255, RELEASE takes one that
is not the owner's, FREE the owner's own, and GIVE passes ownership on; the last reference returns the buffer to the free ones of its
pool, unless its pseudo-channel has failed (R18). An operation that breaks R479 changes no buffer: the first violation is kept, every one
is counted and reported. A reclaim frees, as its owner would, what a fenced channel owns. Each of these commands is shown to answer a next
state with its own effect, under conditions on the state and its operands alone: reamShare, reamRelease, reamFree, reamGive,
reamChannelReclaim. -/
def Obligations.ReamReferences : Prop := ∀ (id dst : ReamId) (h : W32) (w : Nat) (n : Ch) (s : State),
  let put := fun (v : Nat) => s.modReam fun r => { r with err := false, ctl := r.ctl.set h.toNat v }
  let i := handlePool h.toNat
  let freed := poolSync i ((put 0).modPool i fun p =>
    if indexOk i s (handleIdx h.toNat) then { p with chip := p.chip ++ [handleIdx h.toNat] } else p)
  let viol := fun (op : Nat) =>
    let t := if s.flag F.REAM_VIOL_VALID then s else
      (((s.set F.REAM_VIOL_OP op).set F.REAM_VIOL_REQ id.val).set F.REAM_VIOLH_HANDLE h.toNat).setFlag F.REAM_VIOL_VALID true
    ((t.inc F.REAM_VIOL_COUNT).raise (hostSrc 29)).modReam fun r => { r with err := true, ans := [emptyHandle] }
  (handleCtl h.toNat s = some w → ctlRefs w < 255 →
    exec (.reamShare id h) s = .next (put (mkCtl (ctlRefs w + 1) (ctlOwned w) (ctlOwner w)))) ∧
  (handleCtl h.toNat s = some w → (ctlOwned w).toNat < ctlRefs w →
    exec (.reamRelease id h) s = .next (if ctlRefs w = 1 then freed else put (mkCtl (ctlRefs w - 1) (ctlOwned w) (ctlOwner w)))) ∧
  (handleCtl h.toNat s = some w → ctlOwned w = true → ctlOwner w = id.val →
    exec (.reamFree id h) s = .next (if ctlRefs w ≤ 1 then freed else put (mkCtl (ctlRefs w - 1) false (ctlOwner w))) ∧
    (0 < ctlRefs w → exec (.reamGive id h dst) s = .next (put (mkCtl (ctlRefs w) true dst.val)))) ∧
  (handleCtl h.toNat s = none →
    exec (.reamShare id h) s = .next (viol 1) ∧ exec (.reamRelease id h) s = .next (viol 2) ∧
    exec (.reamFree id h) s = .next (viol 3) ∧ exec (.reamGive id h dst) s = .next (viol 4)) ∧
  (handleCtl h.toNat s = some w → ctlOwned w = false ∨ ctlOwner w ≠ id.val →
    exec (.reamFree id h) s = .next (viol 3) ∧ exec (.reamGive id h dst) s = .next (viol 4)) ∧
  ((s.ream.ctl.cells.filter fun c => ctlOwned c.2 && ctlOwner c.2 == n.val) = [] → exec (.reamChannelReclaim n) s = .next s) ∧
  ((s.ream.ctl.cells.filter fun c => ctlOwned c.2 && ctlOwner c.2 == n.val) = [(h.toNat, w)] → handleCtl h.toNat s = some w →
    id.val = n.val → exec (.reamChannelReclaim n) s = exec (.reamFree id h) s)

/-- Parts of R475, R481 to R485, R473. An ALLOC that is admitted, when no request of its class that waits is, takes the oldest handles on chip
first and delivers buffers that it owns with one reference, and the pointer of the class passes it; any other waits; one with no pool, of
no buffer or of more than 512 is a violation. A waiting request is granted when it is admitted. Refill and spill move handles between the
chip and the ring of the pool and change no free count's content; an audit returns what was lost to the ring. A pool is enabled with all
its buffers free. How many handles a refill or spill moves, and that the gap of THR_GAP ends at this row, is the model's choice (log entry
8). Each of these commands is shown to answer a next state with its own effect, under conditions on the state and its operands alone:
reamAlloc, reamWaitGrant, reamRefill, reamSpill, reamAuditDone, reamPoolEnable. -/
def Obligations.ReamPools : Prop := ∀ (id : ReamId) (use : Fin 9) (n : Nat) (i : PoolId) (path : RegPath) (cls : Fin 3) (r : ReamWait) (s : State),
  let p := s.pool i
  let cnt := s.get (F.REAM_POOLCFG_COUNT i)
  let ok := fun (c : Fin 3) (k : Nat) => admits c k (poolFree i s) (poolThrottle i s) (poolStop i s) p.paced
  let due := fun (c : Fin 3) => (nextWait i c s).isSome
  (usePool use.val s = some i → 0 < n → n ≤ 512 → (p.waits.any fun w => w.id == id.val) = false →
    (ok (allocClass id.val use.val) n = true → due (allocClass id.val use.val) = false → ∃ t, exec (.reamAlloc id use n) s = .next t ∧
      t.ream.ans = (takeFree (indexOk i s) n cnt p).1.map (mkHandle i) ∧ t.ream.err = false ∧ (t.pool i).chip = p.chip.drop n ∧
      (t.pool i).waits = p.waits ∧
      (t.pool i).rr = p.rr.set (allocClass id.val use.val) ((id.val + 1) % 16) ∧ t.host = s.host ∧ t.chans = s.chans ∧ t.dram = s.dram) ∧
    (ok (allocClass id.val use.val) n = false ∨ due (allocClass id.val use.val) = true → exec (.reamAlloc id use n) s = .next
      ((poolSync i (s.modPool i fun q => { q with waits := q.waits ++ [⟨id.val, use.val, n, none⟩] })).modReam fun q =>
        { q with ans := [emptyHandle], err := false }))) ∧
  (usePool use.val s = none ∨ n = 0 ∨ 512 < n → exec (.reamAlloc id use n) s = .next
    (violate 0 id.val (s.fresh.toNat % 4294967296) s.used)) ∧
  (s.host.cmds = [] → p.waits = [] → exec (.reamWaitGrant i) s = .next (poolSync i (s.modPool i fun q => { q with paced := false }))) ∧
  (s.host.cmds = [] → p.waits = [r] → r.cmd = none → cls = allocClass r.id r.use →
    admits cls r.n (poolFree i s) (poolThrottle i s) (poolStop i s) false = true →
    ∃ t, exec (.reamWaitGrant i) s = .next t ∧ (t.pool i).waits = [] ∧ (t.pool i).rr = p.rr.set cls ((r.id + 1) % 16) ∧
      t.ream.ans = (takeFree (indexOk i s) r.n cnt p).1.map (mkHandle i) ∧ t.host = s.host ∧ t.chans = s.chans ∧ t.dram = s.dram) ∧
  (s.flag (F.REAM_POOLCFG_EN i) = true → p.chip.length < 128 →
    let m := takeFree (indexOk i s) (256 - p.chip.length) cnt { p with chip := [] }
    exec (.reamRefill i) s = .next (s.modPool i fun _ => { m.2 with chip := p.chip ++ m.1 })) ∧
  (448 < p.chip.length → exec (.reamSpill i) s = .next (s.modPool i fun _ =>
    { p with chip := p.chip.take 256, ring := p.ring ++ p.chip.drop 256 })) ∧
  (s.flag (F.REAM_POOLSTAT_AUDIT i) = true → exec (.reamAuditDone i) s = .next
    (let lost := (List.range p.fresh).filter fun x => !ctlLive (s.ream.ctl.get (mkHandle i x)) && !p.chip.contains x && !p.ring.contains x && indexOk i s x
     poolSync i ((s.modPool i fun _ => { p with ring := p.ring ++ lost }).setFlag (F.REAM_POOLSTAT_AUDIT i) false))) ∧
  (let a := (F.REAM_POOLCFG_EN i).addr
   Reached a s → MayWrite path a s → s.flag (F.REAM_POOLCFG_EN i) = false → (breakSeq s).flag (F.REAM_POOLCFG_EN i) = false →
    ((breakSeq s).get (F.REAM_POOLCFG_SIZE i) = 3 → exec (.reamPoolEnable path i) s = .next (breakSeq s)) ∧
    ((breakSeq s).get (F.REAM_POOLCFG_SIZE i) ≠ 3 →
      exec (.reamPoolEnable path i) s = .next (buildPool i ((breakSeq s).setFlag (F.REAM_POOLCFG_EN i) true))))

/-- Parts of R446, R449, R452, R454, R457, R458, R460. A fill is dropped and counted when the cache or fills are off, or when it was voided;
else the sectors that the read asked of the media go into a free way of its set. An offer that ends is counted as accepted or declined and
its way is emptied, or keeps its line with RETAIN when the way is locked; one that the Flyleaf has accepted no longer times out. A lock of
more than eight ways is refused. TAGSEL latches the tag word of the way it names. Each of these commands is shown to answer a next state
with its own effect, under conditions on the state and its operands alone: cacheFill, cacheOfferDecided, cacheOfferTimeout,
cacheWaylockWrite, cacheTagSelect, fabricStarvePromote. -/
def Obligations.CacheLines : Prop := ∀ (nsid line id sn way w : Nat) (blks : List (Nat × Block)) (b : Bool) (lock : W16) (ts : BitVec 14)
    (tw : BitVec 4) (s : State),
  let f := (s.fill id).getD ⟨id, nsid, line, false, false, false, 0, none⟩
  let bs := if (s.fill id).isSome then blks.filter (fun b => f.sects.getLsbD (b.1 % 16)) else blks
  let u := if (s.fill id).isSome then dropFill id s else s
  let k := lineSet f.nsid f.line u
  let on := s.flag F.CACHE_CFG_EN && s.flag F.CACHE_CFG_FILL_EN && !s.bit F.CACHE_STAT_PC_OFF (k % 8)
  (on = false → exec (.cacheFill nsid line id blks) s = .next (u.inc F.CACHE_DROPCNT_NOT_EN)) ∧
  (on = true → f.void = true → exec (.cacheFill nsid line id blks) s = .next (u.inc F.CACHE_DROPCNT_VOID)) ∧
  (on = true → f.void = false → s.cache.run = none → bs ≠ [] → u.wayOf f.nsid f.line = none →
    ((List.range 16).find? fun x => (u.way k x).isNone && !wayLocked x u && !sideLost k x u && !pinned k x u) = some w →
    exec (.cacheFill nsid line id blks) s = .next (fillInto k w f bs u)) ∧
  (∀ v, s.way sn way = some v → v.offered = true → s.cache.waitF = [] →
    let left := fun (a : Bool) => putWay v.sn v.way
      (if wayLocked v.way s then some { v with valid := 0, spec := false, retain := true, offered := false } else none)
      (s.incWrap (if a then F.CACHE_OFFERCNT_ACCEPTED else F.CACHE_OFFERCNT_DECLINED))
    exec (.cacheOfferDecided sn way b) s = .next (left b) ∧
    ((∀ x ∈ s.fly.warmPend, x.1 = v.nsid → x.2.1 ≠ v.line) → exec (.cacheOfferTimeout sn way) s = .next (left false)) ∧
    ((∃ x ∈ s.fly.warmPend, x.1 = v.nsid ∧ x.2.1 = v.line) → exec (.cacheOfferTimeout sn way) s = .next s)) ∧
  ((∀ v, s.way sn way = some v → v.offered = false) →
    exec (.cacheOfferDecided sn way b) s = .next s ∧ exec (.cacheOfferTimeout sn way) s = .next s) ∧
  exec .fabricStarvePromote s = .next (s.inc F.CACHE_FABCFG_PROMOTE_CNT) ∧
  (Reached 0x400008 s → 8 < bitCount 16 lock.toNat →
    exec (.cacheWaylockWrite lock) s = .next ((breakSeq s).setFlag F.CACHE_WAYLOCK_REFUSED true)) ∧
  (Reached 0x400008 s → bitCount 16 lock.toNat ≤ 8 → (∀ v ∈ s.cache.ways, v.retain = false) →
    exec (.cacheWaylockWrite lock) s = .next ((breakSeq s).set F.CACHE_WAYLOCK_LOCK lock.toNat)) ∧
  (Reached 0x400040 s → let v := ((s.way ts.toNat tw.toNat).map tagWord).getD 0
    exec (.cacheTagSelect ts tw) s = .next (((((breakSeq s).set F.CACHE_TAGSEL_SET ts.toNat).set F.CACHE_TAGSEL_WAY tw.toNat).set
      (F.CACHE_TAG_TAG 0) v).set (F.CACHE_TAG_TAG 1) (v / 4294967296)))

/-- Parts of R444, R445, R462 to R465, R488. GO with an operation is refused with its reason, or starts it: BUSY, and the engine deals with
the lines of the range. When every line has been dealt with, BUSY falls, PERCENT is 100, and DONE is set unless the operation was the
ON8C's own. An uncorrectable word of a pseudo-channel is counted and reported; it empties the cache line that holds it, and poisons the
unit. A faulty cache pseudo-channel is taken out of use and its lines are invalidated. Each of these commands is shown to answer a next
state with its own effect, under conditions on the state and its operands alone: cacheMaintInvalidate, cacheMaintCleanInvalidate,
cacheMaintPrefetch, cacheMaintDone, dramUncorrectable, dramPcFail. -/
def Obligations.CacheMaintenance : Prop := ∀ (op : Fin 3) (m : Maint) (pc : Fin 16) (ofs : Nat) (s : State),
  let c := if op = 0 then Instr.cacheMaintInvalidate else if op = 1 then .cacheMaintCleanInvalidate else .cacheMaintPrefetch
  let u := (breakSeq s).set F.CACHE_MAINT_CMD_OP op.val
  let scp := u.get F.CACHE_MAINT_CMD_SCOPE
  let ns := u.get F.CACHE_MAINT_CMD_NSID
  let lba := u.get (F.CACHE_MAINT_RANGE_VALUE 0) + u.get (F.CACHE_MAINT_RANGE_VALUE 1) * 4294967296
  let cnt := u.get (F.CACHE_MAINT_RANGE_VALUE 2)
  let way := if u.flag F.CACHE_MAINT_CMD_WAY_EN then some (u.get F.CACHE_MAINT_CMD_TARGET_WAY) else none
  (Reached F.CACHE_MAINT_CMD_GO.addr s →
    (∀ r, maintReject op.val scp ns lba cnt u = r → r ≠ 0 → exec c s = .next (u.set F.CACHE_MAINT_STAT_REJ r)) ∧
    (maintReject op.val scp ns lba cnt u = 0 →
      exec c s = .next (maintRun ⟨op.val, scp, ns, lba, cnt, way, false, none, none, 0⟩ u))) ∧
  (s.cache.run = none → s.cache.queue = [] →
    (op.val = 2 → scp ≠ 0 → scp ≤ 2 → maintReject op.val scp ns lba cnt s = 3) ∧
    (scp = 3 → maintReject op.val scp ns lba cnt s = 2) ∧
    (scp = 1 → op.val < 2 → s.ns ns = none → maintReject op.val scp ns lba cnt s = 4) ∧
    (scp = 0 → ∀ v, s.ns ns = some v → maintReject op.val scp ns lba cnt s = if v.nsze < lba + cnt then 5 else 0) ∧
    (scp = 2 → op.val < 2 → maintReject op.val scp ns lba cnt s = 0)) ∧
  (s.cache.run ≠ none → maintReject op.val scp ns lba cnt s = 1) ∧
  (coveredWays m s = [] → m.op < 2 →
    maintRun m s = ((s.modCache fun x => { x with run := some { m with total := 0 } }).setFlag F.CACHE_MAINT_STAT_BUSY true).set
      F.CACHE_MAINT_STAT_PERCENT 0) ∧
  (s.cache.run = some m → s.cache.queue = [] → m.cmd = none → maintEnded m s = true →
    exec .cacheMaintDone s = .next (
      let t := ((s.modCache fun x => { x with run := none }).setFlag F.CACHE_MAINT_STAT_BUSY false).set F.CACHE_MAINT_STAT_PERCENT 100
      (if m.own then t else t.setFlag F.CACHE_MAINT_STAT_DONE true).setFlag F.CACHE_MAINT_STAT_INTERNAL false)) ∧
  (s.cache.run = none → exec .cacheMaintDone s = .next s) ∧
  (let t := (s.inc (F.CACHE_DRAMERR_UE_CNT pc)).raise (hostSrc 23) pc.val
   let x := unitAt pc.val ofs t
   (8 ≤ pc.val → wayAt pc.val ofs t = none → s.cache.waitF = [] → exec (.dramUncorrectable pc ofs) s = .next (poisonUnit x t)) ∧
   (∀ v, 8 ≤ pc.val → wayAt pc.val ofs t = some v → s.cache.waitF = [] →
     exec (.dramUncorrectable pc ofs) s = .next (poisonUnit x (clearWay v t))) ∧
   (pc.val < 8 → s.cache.waitF = [] → s.cache.ways = [] → s.host.cmds = [] → exec (.dramUncorrectable pc ofs) s = .next (poisonUnit x t))) ∧
  (s.flag F.CACHE_DRAMSTAT_TRAINED = true → s.bit F.CACHE_DRAMSTAT_PC_OK pc.val = false → exec (.dramPcFail pc) s = .next s) ∧
  (let t := (s.setBit F.CACHE_DRAMSTAT_PC_OK pc.val false).raise (hostSrc 24) pc.val
   s.bit F.CACHE_DRAMSTAT_PC_OK pc.val = true → 8 ≤ pc.val →
   exec (.dramPcFail pc) s = .next (maintOwn ⟨0, 1, 0, 0, 0, none, true, some (pc.val - 8), none, 0⟩
     ((t.setBit F.CACHE_STAT_PC_OFF (pc.val - 8) true).raise (hostSrc 26) (pc.val - 8))))

/-- Parts of R94, R126, R180, R235, R499, R502 to R505, R507. A correctable error is counted and kept in the first free log entry, or sets the
overflow flag; the first error of a word is remembered, the next asks for a move, and without a free remap entry it is reported. A move
puts the word into the remap table. An uncorrectable error is counted, its macro kept and reported, and the user of the macro acts: a
stored word is not fetched, a kept sector and the FIFO's sector are marked, an engine's memory fails its self-check from then on. A flip
is armed with expert access. A reset of the block returns its registers and keeps the remap tables. Each of these commands is shown to
answer a next state with its own effect, under conditions on the state and its operands alone: sramCorrectableError, memprotRemapMove,
sramUncorrectableError, memprotFlipArm, memprotBlockReset. -/
def Obligations.MemoryProtection : Prop := ∀ (m word e : Nat) (syn : Byte) (path : RegPath) (mac : BitVec 12) (s : State),
  let t := ((((s.inc F.MEMPROT_CE_COUNT).set (F.MEMPROT_LOG_MACRO e) m).set (F.MEMPROT_LOG_SYNDROME e) syn.toNat).setFlag
    (F.MEMPROT_LOG_VALID e) true).set (F.MEMPROT_LOGA_WORD e) word
  let full := (s.inc F.MEMPROT_CE_COUNT).setFlag F.MEMPROT_CE_LOG_OVF true
  let known := s.mem.remap.contains (m, word) || s.mem.moves.contains (m, word)
  (isMacro m = true → e < 8 → (∀ i, i < e → (s.inc F.MEMPROT_CE_COUNT).flag (F.MEMPROT_LOG_VALID i) = true) →
      (s.inc F.MEMPROT_CE_COUNT).flag (F.MEMPROT_LOG_VALID e) = false →
    (known = true → exec (.sramCorrectableError m word syn) s = .next t) ∧
    (known = false → s.mem.seen.contains (m, word) = false →
      exec (.sramCorrectableError m word syn) s = .next (t.modMem fun x => { x with seen := x.seen ++ [(m, word)] })) ∧
    (known = false → s.mem.seen.contains (m, word) = true → remapUsed m s < 4 →
      exec (.sramCorrectableError m word syn) s = .next (t.modMem fun x => { x with moves := x.moves ++ [(m, word)] })) ∧
    (known = false → s.mem.seen.contains (m, word) = true → 4 ≤ remapUsed m s →
      exec (.sramCorrectableError m word syn) s = .next (t.raise (hostSrc 32) m))) ∧
  (isMacro m = true → (∀ i, i < 8 → (s.inc F.MEMPROT_CE_COUNT).flag (F.MEMPROT_LOG_VALID i) = true) → known = true →
    exec (.sramCorrectableError m word syn) s = .next full) ∧
  (s.mem.moves.contains (m, word) = true → remapUsed m s < 4 → exec (.memprotRemapMove m word) s = .next (remapSync (s.modMem fun x =>
    { x with moves := x.moves.filter (· != (m, word)), remap := x.remap ++ [(m, word)],
             flips := x.flips.filter fun f => !(f.1 == m && f.2.1 == word) }))) ∧
  (s.mem.moves.contains (m, word) = true → 4 ≤ remapUsed m s → exec (.memprotRemapMove m word) s = .next
    ((s.modMem fun x => { x with moves := x.moves.filter (· != (m, word)) }).raise (hostSrc 32) m)) ∧
  (let v := ((s.inc F.MEMPROT_UE_COUNT).set F.MEMPROT_UE_LAST_MACRO m).raise (hostSrc 31) m
   isMacro m = true →
    (0x112 ≤ m → exec (.sramUncorrectableError m word) s = .next v) ∧
    (m = 0x100 → exec (.sramUncorrectableError m word) s = .next (tagError (word / 16) v)) ∧
    (0x102 ≤ m → m ≤ 0x111 → exec (.sramUncorrectableError m word) s = .next (loseHandle (Fin.ofNat 16 (m - 0x102)) word v)) ∧
    (m < 0x100 → m % 0x20 = 0 → exec (.sramUncorrectableError m word) s = .next (storeUe (Fin.ofNat 8 (m / 0x20)) word v)) ∧
    (m < 0x100 → 1 ≤ m % 0x20 → m % 0x20 ≤ 4 → exec (.sramUncorrectableError m word) s =
      .next (sampleUe (Fin.ofNat 8 (m / 0x20)) (Fin.ofNat 4 (m % 0x20 - 1)) word v)) ∧
    (m < 0x100 → 5 ≤ m % 0x20 → m % 0x20 ≤ 8 → exec (.sramUncorrectableError m word) s =
      .next (fifoUe (Fin.ofNat 8 (m / 0x20)) (Fin.ofNat 4 (m % 0x20 - 5)) v)) ∧
    (∀ n : Ch, ∀ b : Bool, m = 0x20 * n.val + 0x0B + b.toNat → ∃ x, exec (.sramUncorrectableError m word) s = .next x ∧
      (x.chan n).hinge.memBad = setB (v.chan n).hinge.memBad b.toNat ∧ OnlyChan n v x)) ∧
  (Reached F.MEMPROT_FLIPCTL_ARM.addr s → MayWrite path F.MEMPROT_FLIPCTL_ARM.addr s → exec (.memprotFlipArm path mac) s = .next
    (((breakSeq s).set F.MEMPROT_FLIPCTL_MACRO mac.toNat).setFlag F.MEMPROT_FLIPCTL_ARM true)) ∧
  exec .memprotBlockReset s = .next (remapSync ((resetRecord 6 6 s).resetRegs 0xA00000 0xB00000))

/-- Parts of R267, R268, R271, R272 to R274, R287. START begins with SENSE from OFF, COAST or BRAKE and does nothing elsewhere; in the safe
state it is discarded. SENSE ends by the start table on the speed that was measured, which is recorded and seeds the observer; ALIGN takes
its two steps and goes to RAMP; a handover enters ACCEL, a second failed one, and a start that takes too long, end it in COAST with their
case and are reported. Entering a state other than RUN clears IN_TOL. Each of these commands is shown to answer a next state with its own
effect, under conditions on the state and its operands alone: motStart, motStop, senseEnd, alignStepEnd, rampHandover, rampHandoverFail,
spinupTimeout. -/
def Obligations.MotorStarts : Prop := ∀ (n : Ch) (st : Nat) (s : State),
  let a := (F.MOT_CMD_OP n).addr
  let u := breakSeq s
  let x := s.mot n
  let speed := measuredSpeed n s
  let sp := seedVector n (measuredOmega n s)
    ((putSpeed n speed (calibrate n s)).set (F.MOT_START_STAT_SENSE_SPEED n) (min 65535 speed.natAbs))
  let fail := fun (case : Nat) => (enter n stCoast (if x.starting then
    (s.set (F.MOT_START_STAT_CASE n) case).modMot n fun m => { m with starting := false } else s)).raise (chSrc n 26) 0xFFFF case
  (s.canon → st ≤ 10 → motState n (enter n st s) = st ∧ (st ≠ stRun → (enter n st s).flag (F.MOT_STAT_IN_TOL n) = false) ∧
    ((enter n st s).mot n).gates = entryGates st ∧ (enter n st s).host = s.host ∧ (enter n st s).dram = s.dram) ∧
  (Reached a s → u.flag F.FAULT_STAT_SAFE = true → exec (.motStart n) s = .next u ∧ exec (.motStop n) s = .next u) ∧
  (Reached a s → u.flag F.FAULT_STAT_SAFE = false →
    (motState n u ∈ [stOff, stCoast, stBrake] → exec (.motStart n) s = .next
      (enter n stSense (u.modMot n fun m => { m with starting := true, toOff := false, hand := 0, losses := 0 }))) ∧
    (motState n u ∉ [stOff, stCoast, stBrake] → exec (.motStart n) s = .next u)) ∧
  (motState n s = stSense →
    (speed.natAbs * 100 ≤ 16384 → exec (.senseEnd n) s = .next (enter n stAlign (sp.set (F.MOT_START_STAT_CASE n) 1))) ∧
    (16384 < speed.natAbs * 100 → speed < 0 → exec (.senseEnd n) s = .next (enter n stBrake (sp.set (F.MOT_START_STAT_CASE n) 4))) ∧
    (16384 < speed.natAbs * 100 → 0 ≤ speed → speed.natAbs * 100 ≤ 49152 →
      exec (.senseEnd n) s = .next (enter n stBrake (sp.set (F.MOT_START_STAT_CASE n) 3))) ∧
    (49152 < speed.natAbs * 100 → 0 ≤ speed →
      exec (.senseEnd n) s = .next (enter n stAccel (sp.set (F.MOT_START_STAT_CASE n) 2)))) ∧
  (motState n s = stAlign →
    (x.gates = .align60 → exec (.alignStepEnd n) s = .next (s.modMot n fun m => { m with gates := .align0 })) ∧
    (x.gates ≠ .align60 → exec (.alignStepEnd n) s = .next (enter n stRamp s))) ∧
  (motState n s = stRamp →
    exec (.rampHandover n) s = .next (enter n stAccel s) ∧
    (x.hand = 0 → exec (.rampHandoverFail n) s = .next (enter n stSense (s.modMot n fun m => { m with hand := m.hand + 1 }))) ∧
    (1 ≤ x.hand → exec (.rampHandoverFail n) s = .next (fail 5))) ∧
  (x.starting = true → exec (.spinupTimeout n) s = .next (fail 6)) ∧
  (x.starting = false → exec (.spinupTimeout n) s = .next s)

/-- Parts of R268, R269, R274, R276 to R280, R262. STOP brakes towards OFF and COAST coasts, at once or when the heads have retracted. Braking
ends at or below 1 % of the speed that was measured: OFF after a STOP, ALIGN in a start; a brake that takes too long ends in COAST. The
rotor lost in ACCEL without heads goes back to SENSE once, else LOST is entered and the work of the channel is aborted; it is caught into
ACCEL, or BRAKE after a STOP, with the observer seeded from the detector, or the block enters FAULT. Braking from high impedance seeds the
observer from the measured vector. Each of these commands is shown to answer a next state with its own effect, under conditions on the
state and its operands alone: motFault, motStop, motCoast, brakePhaseTimer, brakeTimeout, rotorLost, catchDetectorStart, catchReacquire,
catchTimeout. -/
def Obligations.MotorStopsAndLosses : Prop := ∀ (n : Ch) (s : State),
  let a := (F.MOT_CMD_OP n).addr
  let u := breakSeq s
  let x := s.mot n
  let speed := measuredSpeed n s
  let w := detectorOmega x
  let caught := seed n ((x.zc.getD 0 : Int) * (turn / 6) + roundDiv (w * x.since) 65536) w (putSpeed n (speedOf n w s) s)
  (Reached a s → u.flag F.FAULT_STAT_SAFE = false →
    (motState n u ∈ [stOff, stRectify, stFault] → exec (.motStop n) s = .next u) ∧
    (motState n u ∈ [stRectify, stFault] → exec (.motCoast n) s = .next u) ∧
    (motState n u ∈ [stRun, stBrake, stCoast] → headsOff n u = false →
      exec (.motStop n) s = .next (enter n stBrake (brakeSeed n (u.modMot n fun m =>
        { m with starting := false, toOff := true, held := false }))) ∧
      exec (.motCoast n) s = .next (enter n stCoast (u.modMot n fun m => { m with starting := false, stopCaught := false, held := false }))) ∧
    (motState n u ∈ [stRun, stAccel, stBrake, stCoast] → headsOff n u = true →
      exec (.motStop n) s = .next ((startRetract n u).modMot n fun m => { m with after := some true }) ∧
      exec (.motCoast n) s = .next ((startRetract n u).modMot n fun m => { m with after := some false }))) ∧
  (motState n s = stBrake →
    (x.gates = .zeroVec → exec (.brakePhaseTimer n) s = .next
      ((s.modMot n fun m => { m with periods := 0, adv := 0, calSum := (0, 0, 0) }).modMot n fun m => { m with gates := .hiZ })) ∧
    (x.gates = .hiZ → 16384 < speed.natAbs * 100 →
      exec (.brakePhaseTimer n) s = .next ((putSpeed n speed s).modMot n fun m => { m with gates := .zeroVec })) ∧
    (x.gates = .hiZ → speed.natAbs * 100 ≤ 16384 → x.toOff = true →
      exec (.brakePhaseTimer n) s = .next (enter n stOff ((putSpeed n speed s).modMot n fun m => { m with toOff := false }))) ∧
    (x.gates = .hiZ → speed.natAbs * 100 ≤ 16384 → x.toOff = false →
      exec (.brakePhaseTimer n) s = .next (enter n stAlign (putSpeed n speed s))) ∧
    (x.starting = true → exec (.brakeTimeout n) s = .next ((enter n stCoast ((s.set (F.MOT_START_STAT_CASE n) 8).modMot n fun m =>
      { m with starting := false })).raise (chSrc n 26) 0xFFFF 8)) ∧
    (x.starting = false → exec (.brakeTimeout n) s = .next ((enter n stCoast (s.modMot n fun m => { m with toOff := false })).raise (chSrc n 27)))) ∧
  (let t := (s.inc (F.MOT_CNT_LOSS_CNT n)).raise (chSrc n 22)
   (motState n s = stAccel → headsOff n s = false → x.losses = 0 →
     exec (.rotorLost n) s = .next (enter n stSense (t.modMot n fun m => { m with losses := m.losses + 1 }))) ∧
   (motState n s = stAccel → headsOff n s = false → 1 ≤ x.losses → exec (.rotorLost n) s = .next (failStart n 6 t)) ∧
   (motState n s = stRun ∨ (motState n s = stAccel ∧ headsOff n s = true) → exec (.rotorLost n) s = .next (abortAll n (enter n stLost t)))) ∧
  (motState n s = stLost →
    exec (.catchDetectorStart n) s = .next (s.modMot n fun m => { m with catching := true, zc := none, ints := [] }) ∧
    (x.catching = true → x.stopCaught = false → exec (.catchReacquire n) s = .next (enter n stAccel caught)) ∧
    (x.catching = true → x.stopCaught = true → exec (.catchReacquire n) s = .next
      (enter n stBrake (caught.modMot n fun m => { m with stopCaught := false, toOff := true }))) ∧
    exec (.catchTimeout n) s = .next ((startRetract n (enter n stFault (s.modMot n fun m =>
      { m with starting := false, stopCaught := false }))).raise (chSrc n 23))) ∧
  (motState n s ≠ stLost → exec (.catchDetectorStart n) s = .next s ∧ exec (.catchReacquire n) s = .next s ∧
    exec (.catchTimeout n) s = .next s) ∧
  (motState n s ≠ stFault → exec (.motFault n) s = .next ((startRetract n (enter n stFault (s.modMot n fun m =>
    { m with starting := false, stopCaught := false }))).raise (chSrc n 31))) ∧
  (motState n s = stFault → exec (.motFault n) s = .next s)

/-- Parts of R258 to R263, R268, R275, R281, R283, R285, R287. UNLOAD starts a retract when the heads are off the ramp and none runs; LOAD
needs RUN in tolerance on an enabled channel with the heads on the ramp. The retract ends parked, or is reported after its time; the coil
follows the coarse command in current mode, and 800 periods at rest end the retract's drive. A change of direction is taken at rest only.
Tolerance, depth and off-tolerance events act in RUN. A PWM period takes VMOT and the currents, counts an overcurrent cut, runs the two
back-EMF estimates, records the speed and sets the gate commands of the next period; how its samples become a speed and duties rests on
the arithmetic of the log. Each of these commands is shown to answer a next state with its own effect, under conditions on the state and
its operands alone: pwmPeriod, depthLimit, motUnload, motLoad, inTolerance, spinOffTolerance, runcfgDirWrite, retractParkDetect,
retractHoldEnd, retractTimeout, voiceCoilPeriod. -/
def Obligations.RetractAndDrive : Prop := ∀ (n : Ch) (c b : Int) (dir : Bool) (path : RegPath) (o : PwmObs) (s : State),
  let a := (F.MOT_CMD_OP n).addr
  let u := breakSeq s
  let x := s.mot n
  let d := (F.MOT_RUNCFG_DIR n).addr
  (Reached a s →
    (headsOff n u = true → u.flag (F.MOT_STAT_RETRACTING n) = false → exec (.motUnload n) s = .next
      ((((u.setFlag (F.MOT_STAT_RETRACTING n) true).modMot n fun m => { m with vc := .retract }).setFlag (F.MOT_STAT_PARKED n) false).modServo n
        fun v => { v with loading := false })) ∧
    (headsOff n u = false ∨ u.flag (F.MOT_STAT_RETRACTING n) = true → exec (.motUnload n) s = .next u) ∧
    (let ok := motState n u = stRun ∧ u.flag (F.MOT_STAT_IN_TOL n) = true ∧ u.flag (F.PAGE_ENABLE_EN n) = true ∧ headsOff n u = false ∧
        u.flag (F.MOT_STAT_RETRACTING n) = false
     u.flag F.FAULT_STAT_SAFE = false → (¬ok → exec (.motLoad n) s = .next u) ∧ (ok → exec (.motLoad n) s = .next
      (((u.modMot n fun m => { m with vc := .load }).modServo n fun v => { v with loading := true, loadTry := 0 }).setFlag
        (F.MOT_STAT_PARKED n) false)))) ∧
  (x.vc = .retract → exec (.retractParkDetect n) s = .next (s.modMot n fun m => { m with vc := .hold }) ∧
    exec (.retractTimeout n) s = .next (afterRetract n ((s.modMot n fun m => { m with vc := .off }).raise (chSrc n 33)))) ∧
  (x.vc = .hold → exec (.retractHoldEnd n) s = .next
    (afterRetract n (((s.modMot n fun m => { m with vc := .off }).setFlag (F.MOT_STAT_PARKED n) true).inc (F.MOT_CNT_RET_CNT n)))) ∧
  (x.after = none → (s.servo n).loadTry ≠ 1 →
    afterRetract n s = (s.setFlag (F.MOT_STAT_RETRACTING n) false).setFlag (F.CTL_STAT_LOADED n) false) ∧
  (let aim := coilAim n c b s
   let coil := fun (run : Nat) (vc : VcMode) => s.modMot n fun m =>
     { m with vcI := if m.vc = .current then (s.servo n).vcCmd else m.vcI, vcT := aim, vcGate := coilGates n aim c s, vcEdge := edgeNs (s.get (F.MOT_PWMCFG_VC_SLEW n)),
              parkRun := run, vc := vc }
   (x.vc = .current → aim = (s.servo n).vcCmd * (s.get (F.MOT_VCM_VC_FS n) : Int)) ∧
   (x.vc ≠ .retract ∨ atRest n c b aim s = false → exec (.voiceCoilPeriod n c b) s = .next (coil 0 x.vc)) ∧
   (x.vc = .retract → atRest n c b aim s = true → x.parkRun < 799 → exec (.voiceCoilPeriod n c b) s = .next (coil (x.parkRun + 1) .retract)) ∧
   (x.vc = .retract → atRest n c b aim s = true → 799 ≤ x.parkRun → exec (.voiceCoilPeriod n c b) s = .next (coil (x.parkRun + 1) .hold))) ∧
  (Reached d s → MayWrite path d s → u.flag (F.MOT_RUNCFG_DIR n) ≠ dir →
    (motState n u = stOff → slowRotor (u.mot n).speed = true →
      exec (.runcfgDirWrite path n dir) s = .next (u.setFlag (F.MOT_RUNCFG_DIR n) dir)) ∧
    (motState n u ≠ stOff ∨ slowRotor (u.mot n).speed = false → exec (.runcfgDirWrite path n dir) s = .next (u.raise (chSrc n 28)))) ∧
  (motState n s = stRun →
    exec (.inTolerance n) s = .next (s.setFlag (F.MOT_STAT_IN_TOL n) true) ∧ exec (.depthLimit n) s = .next (s.raise (chSrc n 29)) ∧
    (s.flag (F.MOT_STAT_IN_TOL n) = false → exec (.spinOffTolerance n) s = .next (s.raise (chSrc n 25)))) ∧
  (motState n s ≠ stRun → exec (.inTolerance n) s = .next s ∧ exec (.depthLimit n) s = .next s ∧ exec (.spinOffTolerance n) s = .next s) ∧
  -- the spindle PWM period: its steps in order, and what each does
  (let y := currentPeriod n (sampleCurrents n o.iu o.iv (vmotPeriod n o.vmot.toNat s))
   let z := observerPeriod n x.cur y
   let w := estimatePeriod n o.term x.cur (z.when (motIn n [stAccel, stRun] z && passedZero x.angle (z.mot n).angle) (cyclePeriod n))
   exec (.pwmPeriod n o) s = .next (releaseStarts (gatePeriod n (statePeriod n
     (underspeed n (putSpeed n (periodSpeed n ((w.mot n).adv - x.adv) w) w)))))) ∧
  (let t := s.set (F.MOT_VMOT_VMOT n) o.vmot.toNat
   motState n s ≠ stBrake → x.vmotHi = false →
     (o.vmot.toNat ≤ s.get (F.MOT_BRAKE_VMOT_MAX n) → vmotPeriod n o.vmot.toNat s = t) ∧
     (x.gates ≠ .hiZ → s.get (F.MOT_BRAKE_VMOT_MAX n) < o.vmot.toNat → vmotPeriod n o.vmot.toNat s =
       ((t.modMot n fun m => { m with vmotHi := true }).inc (F.MOT_CNT_VMOT_CNT n)).raise (chSrc n 32))) ∧
  (let big := x.cur.any fun i => decide (s.get (F.MOT_CUR_OC_THR n) * 8 < i.natAbs)
   (x.gates = .hiZ ∨ big = false → currentPeriod n s = s.modMot n fun m => { m with cutRun := 0 }) ∧
   (x.gates ≠ .hiZ → big = true → x.cutRun = 0 →
     currentPeriod n s = ((s.inc (F.MOT_CNT_OC_CNT n)).raise (chSrc n 30)).modMot n fun m => { m with cutRun := m.cutRun + 1 })) ∧
  (x.gates = .hiZ → observerPeriod n x.cur s = s ∧ ((gatePeriod n s).mot n).duty = [0, 0, 0] ∧ ((gatePeriod n s).mot n).gateT = [(0, 0), (0, 0), (0, 0)]) ∧
  ((∀ m, (s.mot m).held = false) → releaseStarts s = s) ∧
  (headsOff n s = false → underspeed n s = s)

/-- Parts of R231, R232, R234, R235, R237 to R241, R245 to R248, R250, R251. A cause that acts with a ready engine passes control to it: the
gap begins, the cause and the switch are recorded and reported, every gate of the channel parks, and the engine that failed is reset and
is FAILED, or RETIRED at its (RETRY_LIMIT + 1)th failure; a forced switch makes A SHADOW. The gap ends; the extra self-check of a
disagreement decides between the engines; the other engine becomes STANDBY, or NOT_READY when its link is lost; the bank copy into a
recovering engine ends, and its sixteen self-checks make B STANDBY and A SHADOW, or retire it. A self-check fails in an engine whose
memories hold an uncorrectable error. FORCE, from an expert writer (log entry 74), switches from A to a ready B, hastens the take-back
from B to a shadowing A, and is otherwise ignored. A take-back sends B's frame and then A's and gives control to A without a gap; a cause
that stands against B makes it a switch-over. Nothing is done for an engine in another state. Each of these commands is shown to answer a
next state with its own effect, under conditions on the state and its operands alone: idleSelfCheckTick, switchGapEnd, engineDisagree,
standbyReady, hingeLinkLoss, engineRecoveryCopyDone, engineRecovered, takeBack, hingeForce, hingeSelectionDisagree. -/
def Obligations.HingeArbiter : Prop :=
  (∀ (n : Ch) (c : Nat) (s : State),
  let b := inCtrl n s
  let fin := fun (t : State) =>
    let u := (((setEng n (!b) engActive t).setFlag (F.HINGE_STAT_IN_CTRL n) (!b)).set (F.HINGE_STAT_LAST_CAUSE n) c).inc (F.HINGE_CNT_SWITCH_CNT n)
    let w := (u.setFlag (F.HINGE_STAT_GAP n) true).modHinge n fun h =>
      { h with cause := none, gapNew := true, gapCnt := 0, spinGap := true, force := false, good := 0, miss := 0, spinTb := false }
    ((parkAll n 0x1B (syncCtl n w)).raise (chSrc n 15) 0xFFFF c).set (F.HINGE_STAT_SHADOW_CNT n) 0
  let f := if b then F.HINGE_STAT_FAILS_B n else F.HINGE_STAT_FAILS_A n
  let t := (((s.inc f).set (F.HINGE_STAT_SHADOW_CNT n) 0).modHinge n fun h =>
    { h with good := 0, miss := 0, pass := 0, copying := false, dis := 0 }).modEng n b fun _ => EngCtx.reset
  (engState n (!b) s = engStandby ∨ engState n (!b) s = engShadow →
    (c = 6 → switchOver n c s = fin (setEng n b engShadow s)) ∧
    (c ≠ 6 → t.get f ≤ s.get (F.HINGE_CFG_RETRY_LIMIT n) → switchOver n c s = fin (setEng n b engFailed t)) ∧
    (c ≠ 6 → s.get (F.HINGE_CFG_RETRY_LIMIT n) < t.get f → switchOver n c s = fin ((setEng n b engRetired t).raise (chSrc n 19) b.toNat))) ∧
  (engState n (!b) s ≠ engStandby → engState n (!b) s ≠ engShadow →
    switchOver n c s = (startRetract n (s.modHinge n fun h => { h with cause := none })).raise (chSrc n 20))) ∧
  (∀ (n : Ch) (p : Pa) (aOk bOk ok : Bool) (s : State),
  let b := otherEng n s
  let u := breakSeq s
  let h := s.hinge n
  let t := s.modHinge n fun h => { h with disPend := false, dis := 0 }
  let okA := aOk && memGood n false s
  let okB := bOk && memGood n true s
  let ctl := if inCtrl n s then okB else okA
  let oth := if inCtrl n s then okA else okB
  let clear := s.modHinge n fun h => { h with pass := 0, good := 0, miss := 0, copying := false }
  (s.flag (F.HINGE_STAT_GAP n) = true → exec (.switchGapEnd n) s = .next
    ((s.setFlag (F.HINGE_STAT_GAP n) false).modHinge n fun h => { h with gapNew := false, gapCnt := 0 })) ∧
  (s.flag (F.HINGE_STAT_GAP n) = false → exec (.switchGapEnd n) s = .next s) ∧
  (h.disPend = false → exec (.engineDisagree n aOk bOk) s = .next s) ∧
  (h.disPend = true → ctl = true → oth = true → exec (.engineDisagree n aOk bOk) s = .next (t.raise (chSrc n 17))) ∧
  (h.disPend = true → ctl = false → oth = true → exec (.engineDisagree n aOk bOk) s = .next (latchCause n 5 t)) ∧
  (h.disPend = true → ctl = true → oth = false → otherComputes n t = true → exec (.engineDisagree n aOk bOk) s = .next
    (failEngine n (otherEng n t) t)) ∧
  (h.disPend = true → ctl = false → oth = false → exec (.engineDisagree n aOk bOk) s = .next
    ((startRetract n (t.modHinge n fun h => { h with cause := none })).raise (chSrc n 20))) ∧
  (engState n b s = engNotReady → exec (.standbyReady n) s = .next (setEng n b engStandby s)) ∧
  (engState n b s ≠ engNotReady → exec (.standbyReady n) s = .next s) ∧
  (engState n b s = engStandby → exec (.hingeLinkLoss n) s = .next
    (((setEng n b engNotReady s).modHinge n fun h => { h with good := 0 }).raise (chSrc n 18))) ∧
  (engState n b s ≠ engStandby → exec (.hingeLinkLoss n) s = .next s) ∧
  (h.copying = true → h.held = [] → h.heldSw = 0 → exec (.engineRecoveryCopyDone n) s = .next
    ((copyBanks n s).modHinge n fun h =>
      { h with copying := false, held := [], heldSw := 0, pass := 0, memBad := clrB h.memBad b.toNat })) ∧
  (h.copying = false → exec (.engineRecoveryCopyDone n) s = .next s) ∧
  (engState n b s = engRecovering →
    exec (.engineRecovered n false) s = .next ((setEng n b engRetired clear).raise (chSrc n 19) b.toNat) ∧
    (b = true → exec (.engineRecovered n true) s = .next (setEng n true engStandby clear)) ∧
    (b = false → exec (.engineRecovered n true) s = .next ((setEng n false engShadow clear).set (F.HINGE_STAT_SHADOW_CNT n) 0))) ∧
  (engState n b s ≠ engRecovering → exec (.engineRecovered n ok) s = .next s) ∧
  (∀ (path : RegPath), Reached (F.HINGE_CTL_FORCE n).addr s →
    let open_ := path == .mgmt || addrOpen (F.HINGE_CTL_FORCE n).addr u
    (u.flag (F.HINGE_STAT_GAP n) = true ∨ aOk = false ∨ bOk = false → exec (.hingeForce path n aOk bOk) s = .next u) ∧
    (u.flag (F.HINGE_STAT_GAP n) = false → u.flag (F.HINGE_STAT_OVERLAP n) = false → memGood n false u = true → memGood n true u = true →
      (inCtrl n u = false → engState n false u = engActive → engState n true u = engStandby →
        exec (.hingeForce path n true true) s = .next (if open_ then latchCause n 6 u else u)) ∧
      (inCtrl n u = true → engState n false u = engShadow →
        exec (.hingeForce path n true true) s = .next (u.modHinge n fun h => { h with force := true })))) ∧
  (inCtrl n s = true → engState n false s = engShadow → h.overlap = none →
    (h.force = true → h.cause = none → exec (.takeBack n p) s = .next (finishTakeBack n
      ((sendFrame n true p.val (linkIdle n s)).modHinge n fun h => { h with overlap := some (p.val, true) }))) ∧
    (∀ (c : Nat), h.cause = some c → exec (.takeBack n p) s = .next (switchOver n c s))) ∧
  (h.overlap.isSome = true → exec (.takeBack n p) s = .next (finishTakeBack n s)) ∧
  (h.overlap = none → (inCtrl n s = false ∨ engState n false s ≠ engShadow) → exec (.takeBack n p) s = .next s) ∧
  exec (.hingeSelectionDisagree n) s = .next ((startRetract n s).raise (chSrc n 21)) ∧
  (h.overlap = none → retracting n s = false → engState n b s ∉ [engRecovering, engFailed] →
    (ctl = true → oth = true → exec (.idleSelfCheckTick n aOk bOk) s = .next (linkIdle n s)) ∧
    (ctl = false → oth = true → exec (.idleSelfCheckTick n aOk bOk) s = .next (linkIdle n (latchCause n 2 s)))))

/-- Parts of R210 to R214, R216, R236. A loop declared implausible in the engine in control clears its PLAUS bit, is counted and reported
once, and parks every gate for the coarse loop, the gate of its own path for a fine one; where a ready other engine still finds it
plausible that is a cause of a switch-over (R236); a declaration that is not new changes no register. It becomes plausible again in either
engine. The coarse loop lost with the heads loaded retracts them. Runaway in both engines is reported, in the engine in control alone it
is a cause of a switch-over, in the other alone, while it computes, that engine fails. A shock is counted, and while SHOCK_EN in force is
1 parks every gate and pends; it does nothing more while SHOCK_EN is 0. Each of these commands is shown to answer a next state with its
own effect, under conditions on the state and its operands alone: loopImplausibleDeclare, loopPlausibleRecover, servoLost, actRunaway,
shockEvent, shockHoldExpire. -/
def Obligations.SupervisionRows : Prop := ∀ (n : Ch) (b : Bool) (l : Loop) (p : Pa) (s : State),
  let un := fun (k : Loop) => s.modEng n b fun c => { c with pl := clrB c.pl k, good := c.good.set k 0 }
  let told := fun (k : Loop) => ((((un k).setBit (F.CTL_STAT_PLAUS n) k false).inc (F.CTL_SUPSTAT_IMPL_CNT n k)).raise (chSrc n 11) k)
  let ok := s.modEng n b fun c => { c with pl := setB c.pl l, resid := c.resid.set l 0, miss := c.miss.set l 0 }
  let o := otherEng n s
  let arb := fun (t : State) => if otherReady n t ∧ (t.eng n (otherEng n t)).pl.getLsbD l = true then latchCause n 3 t else t
  (inCtrl n s = b → (s.eng n b).pl.getLsbD l = true →
    (l.val = 0 → exec (.loopImplausibleDeclare n b l) s = .next (arb (parkAll n 0x1A (told l)))) ∧
    (l.val = p.val + 1 → exec (.loopImplausibleDeclare n b l) s = .next (arb (parkGate n p 0x1A (told l)))) ∧
    (l.val = 5 → exec (.loopImplausibleDeclare n b l) s = .next (arb (told l)))) ∧
  (inCtrl n s ≠ b ∨ (s.eng n b).pl.getLsbD l = false → exec (.loopImplausibleDeclare n b l) s = .next (un l)) ∧
  (inCtrl n s = b → exec (.loopPlausibleRecover n b l) s = .next (ok.setBit (F.CTL_STAT_PLAUS n) l true)) ∧
  (inCtrl n s ≠ b → exec (.loopPlausibleRecover n b l) s = .next ok) ∧
  (s.bit (F.CTL_STAT_PLAUS n) 0 = false → s.flag (F.CTL_STAT_LOADED n) = true →
    exec (.servoLost n) s = .next ((startRetract n s).raise (chSrc n 12))) ∧
  (s.bit (F.CTL_STAT_PLAUS n) 0 = true ∨ s.flag (F.CTL_STAT_LOADED n) = false → exec (.servoLost n) s = .next s) ∧
  (exec (.actRunaway n true true) s = .next (s.raise (chSrc n 13)) ∧ exec (.actRunaway n false false) s = .next s ∧
    exec (.actRunaway n (!inCtrl n s) (inCtrl n s)) s = .next (latchCause n 4 s) ∧
    (engState n o s ∈ [engStandby, engNotReady, engShadow] → exec (.actRunaway n (inCtrl n s) (!inCtrl n s)) s = .next (failEngine n o s)) ∧
    (engState n o s ∉ [engStandby, engNotReady, engShadow] → exec (.actRunaway n (inCtrl n s) (!inCtrl n s)) s = .next s)) ∧
  (let c := s.inc (F.CTL_SHOCK_SHOCK_CNT n)
   (s.inForce (F.AFE_WRGATE_SHOCK_EN n) = 0 → exec (.shockEvent n) s = .next c) ∧
   (s.inForce (F.AFE_WRGATE_SHOCK_EN n) ≠ 0 →
     exec (.shockEvent n) s = .next (parkAll n 0x13 (c.modServo n fun v => { v with shockPend := true })))) ∧
  exec (.shockHoldExpire n) s = .next (s.modServo n fun v => { v with shockPend := false })

/-- Parts of R132, R207 to R209, R220, R225. Fine loop p reports ON_TRACK when it is awaited at a settled reference. A seek that times out is
repeated once, from the current position, and then fails; the timeout is counted and reported each time. A redirect within SHORT_LEN moves
the target without a profile; a longer one starts the profile of its class from the reference and the residue of the step that was
running. A converged table lifts the write inhibit of a head; one that does not converge is reported. Servo acquired ends the loading with
the loops at rest at the measured position; loading is tried twice. Each of these commands is shown to answer a next state with its own
effect, under conditions on the state and its operands alone: onTrack, seekTimeout, seekRedirect, rroConverged, rroNoConvergence,
servoAcquired, loadTimeout. -/
def Obligations.SeekAndLoadRows : Prop := ∀ (n : Ch) (p : Pa) (x : Int) (s : State),
  let v := s.servo n
  let tgt := x * 1048576
  let c := ctlEng n s
  let short := s.get (F.CTL_SEEKCFG_SHORT_LEN n) * 536870912
  let late := (s.inc (F.CTL_SEEKSTAT_TMO_CNT n)).raise (chSrc n 9)
  (v.waitOn.getLsbD p = true → c.seek = none → c.ref = v.tc → exec (.onTrack n p) s = .next
    (((s.modServo n fun x => { x with waitOn := clrB x.waitOn p, tmoRow := if clrB x.waitOn p = 0 then 0 else x.tmoRow }).setBit
      (F.CTL_STAT_ONTRK n) p true).event n p 1)) ∧
  (v.waitOn.getLsbD p = false ∨ c.seek ≠ none ∨ c.ref ≠ v.tc → exec (.onTrack n p) s = .next s) ∧
  (v.waitOn ≠ 0 → v.tmoRow = 1 → exec (.seekTimeout n) s = .next
    ((late.raise (chSrc n 10)).modServo n fun v => { v with tmoRow := 0, waitOn := 0 })) ∧
  (v.waitOn ≠ 0 → v.tmoRow = 0 →
    let u := (late.modServo n fun v =>
      { v with tmoRow := 1, waitOn := v.seekOn, settle := Vector.replicate 4 0 }).modEngs n fun c => { c with ref := c.ref + c.u0[0] }
    exec (.seekTimeout n) s = .next (setTarget n (u.servo n).tc ((u.set (F.CTL_STAT_ONTRK n) 0).incWrap (F.CTL_SEEKSTAT_SEEKS n)))) ∧
  (v.waitOn = 0 → exec (.seekTimeout n) s = .next s) ∧
  (exec (.seekRedirect n x) s = .next ((s.modEngs n (redirectCtx n tgt s)).modServo n fun v => { v with tc := tgt })) ∧
  (∀ (c : EngCtx), (tgt - c.ref).natAbs ≤ short → redirectCtx n tgt s c = { c with seek := none }) ∧
  (∀ (c : EngCtx), short < (tgt - c.ref).natAbs →
    (c.seek = none → redirectCtx n tgt s c = { c with seek := some ⟨seekClass (tgt - c.ref), c.ref, tgt - c.ref, 0, 0, 0⟩ }) ∧
    (∀ (k : Seek) (r ff : Int), c.seek = some k → seekAt n k v.tc k.i s = some (r, ff) →
      let d := max 1 (s.get (F.CTL_SEEKCFG_REDIR_DECAY n))
      let p0 := c.ref + roundDiv ((r - c.ref) * (d + 1 : Nat)) 2
      redirectCtx n tgt s c = { c with seek := some ⟨seekClass (tgt - p0), p0, tgt - p0, 0, r - c.ref, d⟩ })) ∧
  (∀ k : Learn, v.learn[p] = some k →
    exec (.rroConverged n p) s = .next ((setTblState n p k.head 2 (learnEnd n p s)).setBit (F.AFE_WRINH_INH n) k.head
      (decide (2 ≤ (s.chan n).sched.paFaults.count k.head))) ∧
    exec (.rroNoConvergence n p) s = .next (((setTblState n p k.head 0 (learnEnd n p s)).raise (chSrc n 3) k.head).modSched n fun c =>
      { c with noconv := c.noconv ++ [k.head] })) ∧
  (v.learn[p] = none → exec (.rroConverged n p) s = .next s ∧ exec (.rroNoConvergence n p) s = .next s) ∧
  (v.loading = true →
    (∃ t, exec (.servoAcquired n x) s = .next t ∧ (t.servo n).loading = false ∧ (t.servo n).loadTry = 0 ∧ (t.servo n).tc = tgt ∧
      (∀ b, (t.eng n b).ref = tgt ∧ (t.eng n b).seek = none ∧ (t.eng n b).x[0] = [] ∧ (t.eng n b).cmd = Vector.replicate 4 0) ∧
      (t.mot n).vc = .current) ∧
    (v.loadTry = 0 → exec (.loadTimeout n) s = .next ((startRetract n s).modServo n fun x => { x with loadTry := 1 })) ∧
    (v.loadTry ≠ 0 → exec (.loadTimeout n) s = .next (((startRetract n s).modServo n fun x => { x with loadTry := 0 }).raise (chSrc n 14)))) ∧
  (v.loading = false → exec (.servoAcquired n x) s = .next s ∧ exec (.loadTimeout n) s = .next s)

/-- Parts of R202, R203, R205, R245, R577. A write of the coefficient window goes to the inactive bank of its loop in both engines, restarts
the check of a swap that waits, and is held during a bank copy; where it meets the swap of its loop it lands in the bank just made
inactive and SWAP_COLLIDE records it. Without expert access it is discarded. A request sets PEND and begins the check of the bank; a
second one changes nothing. A bank that fails its check clears PEND, is refused and reported; one that passes waits for its loop, or is
swapped at once when the loop is off. A swap takes effect in both engines, and an engine whose new bank carries RESET_STATE starts from
zero states. Each of these commands is shown to answer a next state with its own effect, under conditions on the state and its operands
alone: swapRequest, swapCheckDone, coefWindowWrite. -/
def Obligations.CoefficientBanks : Prop := ∀ (path : RegPath) (n : Ch) (l : Loop) (i : Byte) (v : W32) (s : State),
  let a := chBase n + 0x190000 + l.val * 0x400 + 4 * i.toNat
  let u := breakSeq s
  let b := !activeBank n l u
  let key := fun (e : Bool) => 256 * (12 * e.toNat + 2 * l.val + b.toNat) + i.toNat
  let put := { u with banks := u.banks.set n ((u.banks[n].set (key false) v.toNat).set (key true) v.toNat) }
  let r := (F.CTL_SWAP_REQ n).addr
  let c := s.modServo n fun v => { v with chk := clrB v.chk l }
  (Reached a s → MayWrite path a s →
    ((u.hinge n).copying = false → u.bit (F.CTL_BANKSTAT_PEND n) l = false → exec (.coefWindowWrite path n l i v false) s = .next put) ∧
    ((u.hinge n).copying = false → u.bit (F.CTL_BANKSTAT_PEND n) l = true → exec (.coefWindowWrite path n l i v false) s = .next
      (put.modServo n fun x => { x with chk := setB x.chk l })) ∧
    ((u.hinge n).copying = false → exec (.coefWindowWrite path n l i v true) s = .next
      ((put.setBit (F.CTL_SWAP_COLLIDE_LOOP n) l true).inc (F.CTL_SWAP_COLLIDE_HELD_CNT n))) ∧
    ((u.hinge n).copying = true → ∀ w, exec (.coefWindowWrite path n l i v w) s = .next
      (u.modHinge n fun h => { h with held := h.held ++ [(l.val, i.toNat, v.toNat)] }))) ∧
  (Reached a s → path ≠ .mgmt → addrOpen a u = false → ∀ w, exec (.coefWindowWrite path n l i v w) s = .next (discard a u)) ∧
  (Reached r s →
    ((u.hinge n).copying = true → ∀ m : BitVec 6, exec (.swapRequest n m) s = .next
      (u.modHinge n fun h => { h with heldSw := h.heldSw ||| m.toNat })) ∧
    ((u.hinge n).copying = false →
      (∀ m : BitVec 6, exec (.swapRequest n m) s = .next (u.each (([0, 1, 2, 3, 4, 5] : List Loop).filter fun (x : Loop) => m.getLsbD x) fun (x : Loop) w =>
        if w.bit (F.CTL_BANKSTAT_PEND n) x then w
        else (w.setBit (F.CTL_BANKSTAT_PEND n) x true).modServo n fun v => { v with chk := setB v.chk x })) ∧
      (u.bit (F.CTL_BANKSTAT_PEND n) l = true → exec (.swapRequest n (BitVec.ofNat 6 (2 ^ l.val))) s = .next u) ∧
      (u.bit (F.CTL_BANKSTAT_PEND n) l = false → exec (.swapRequest n (BitVec.ofNat 6 (2 ^ l.val))) s = .next
        ((u.setBit (F.CTL_BANKSTAT_PEND n) l true).modServo n fun v => { v with chk := setB v.chk l })))) ∧
  ((s.servo n).chk.getLsbD l = false → exec (.swapCheckDone n l) s = .next s) ∧
  ((s.servo n).chk.getLsbD l = true →
    (bankValid n l (!activeBank n l s) s = false → exec (.swapCheckDone n l) s = .next
      ((((c.setBit (F.CTL_BANKSTAT_INACT_OK n) l false).setBit (F.CTL_BANKSTAT_PEND n) l false).setBit (F.CTL_BANKSTAT_REFUSED n) l true).raise
        (chSrc n 8) l)) ∧
    (bankValid n l (!activeBank n l s) s = true → s.bit (F.CTL_LOOPEN_EN n) l = true → exec (.swapCheckDone n l) s = .next
      (c.setBit (F.CTL_BANKSTAT_INACT_OK n) l true)) ∧
    (bankValid n l (!activeBank n l s) s = true → s.bit (F.CTL_LOOPEN_EN n) l = false → exec (.swapCheckDone n l) s = .next
      (swapBank n l (c.setBit (F.CTL_BANKSTAT_INACT_OK n) l true)))) ∧
  (let t := (s.setBit (F.CTL_BANKSTAT_ACTIVE n) l (!activeBank n l s)).setBit (F.CTL_BANKSTAT_PEND n) l false
   let zero := fun (e : Bool) (w : State) => w.modEng n e fun c => { c with x := c.x.set l [] }
   (resetState n false l t = false → resetState n true l t = false → swapBank n l s = t) ∧
   (resetState n false l t = true → resetState n true l (zero false t) = true → swapBank n l s = zero true (zero false t)))

/-- Parts of R183, R190, R193, R194, R199, R209, R213, R220, R224, R235, R238, R240, R248. A channel sample event does nothing before the
heads are loaded, or for a path that has no class of events. Otherwise each engine that computes works its reference, its measurement (a
missing one is replaced by its prediction), its coarse loop and the fine loop of the path; the arbiter decides, the commands leave, and
the loops move to their next state; settling, learning and the self-checks follow. Where a latched cause switches the engines, no command
leaves and no sample is learned; where nothing is due, the commands of the engine in control leave; while the heads retract the frame
carries zeroes. Each of these commands is shown to answer a next state with its own effect, under conditions on the state and its operands
alone: servoSampleEvent. -/
def Obligations.SampleEvent : Prop := ∀ (n : Ch) (o : SampleObs) (r : EngRun) (other : Option EngRun) (s : State),
  let p := o.path
  let b := inCtrl n s
  let far := fun (t : State) => match other with
    | some x => compareEngines n (if b then x.yC else r.yC) (if b then r.yC else x.yC) t
    | none => t
  (s.flag (F.CTL_STAT_LOADED n) = false ∨ events n s ≤ p.val → exec (.servoSampleEvent n o) s = .next s) ∧
  (s.flag (F.CTL_STAT_LOADED n) = true → p.val < events n s → (s.hinge n).overlap = none →
    let t := eventBegin n o s
    let v := vibInput n o.t t
    let t := t.addSat (F.CTL_FFCFG_STALE_CNT n) v.2
    let run := fun (e : Bool) => engRun n e o v.1 (shockInput n o.shock t) t
    exec (.servoSampleEvent n o) s = .next
      (if otherComputes n t then eventDecide n o (run (inCtrl n t)) (some (run (otherEng n t))) (eventShow n o (run (inCtrl n t)) (some (run (otherEng n t))) t)
       else eventDecide n o (run (inCtrl n t)) none (eventShow n o (run (inCtrl n t)) none t))) ∧
  (∀ (e : Bool) (vib shock : Int),
    let a := refAdvance n (s.eng n e) s
    let k := (engRun n e o vib shock s)
    k.m = measure n o a.2.2 s ∧
    k.uC = [if k.m.miss then a.2.2.y[0].2.1 else k.m.ec, vib, shock, (satQ a.1).1] ∧
    k.uF.length = 4 ∧ k.uF.drop 1 = [k.yC, vib, shock] ∧ (k.m.miss = false → k.uF.head? = some k.m.ep) ∧
    (s.bit (F.CTL_LOOPEN_EN n) 0 = false → k.yC = a.2.2.y[0].1) ∧
    (s.bit (F.CTL_LOOPEN_EN n) (p.val + 1) = false → k.yF = 0)) ∧
  ((if b then o.engB.ready else o.engA.ready) = true →
    let us := fun (f : EngRun → List Int) (t : State) => computed n ((b, f r) :: (other.map fun x => (!b, f x)).toList) t
    let after := fun (m : Bool) (t : State) => eventAfter n o r.m m (us (fun x => x.uC) t) (us (fun x => x.uF) t) t
    (∀ k, (s.hinge n).cause = some k → otherReady n s = true → eventDecide n o r other s = after true (far (switchOver n k s))) ∧
    ((s.hinge n).cause = none → takeBackDue n s = true → eventDecide n o r other s = after false (eventCommands n p b r other
      (far ((s.setFlag (F.HINGE_STAT_OVERLAP n) true).modHinge n fun h => { h with overlap := some (p.val, o.engB.copyOk) })))) ∧
    ((s.hinge n).cause = none → takeBackDue n s = false →
      eventDecide n o r other s = after false (eventCommands n p b r other (far (gapEvent n s))))) ∧
  (retracting n s = true → eventCommands n p b r other s = sendFrame n b p.val (s.modEngs n fun c => { c with cmd := Vector.replicate 4 0 }))

/-- Parts of R187, R188, R192, R193, R207, R222. The arithmetic of the loops: a division rounds to nearest, ties away from zero; a loop
quantity saturates to Q2.29; the first output of a loop is limited to its Y0_LIM; a seek class is floor(log2) of the length, held to 3 to
20; a burst ratio and the offset from it stay within a track; a frame has thirteen symbols, a comma first, and a voice coil command 18
bits. -/
def Obligations.LoopArithmetic : Prop := ∀ (x add : Int) (d a b : Nat) (w xs u : List Int),
  (0 < d → 2 * (roundDiv x d * d - x).natAbs ≤ d ∧
    (2 * (roundDiv x d * d - x).natAbs = d → x.natAbs < (roundDiv x d * d).natAbs) ∧ roundDiv (-x) d = -roundDiv x d) ∧
  (-2147483648 ≤ (satQ x).1 ∧ (satQ x).1 ≤ 2147483647 ∧
    (-2147483648 ≤ x → x ≤ 2147483647 → satQ x = (x, 0)) ∧ (2147483647 < x → satQ x = (2147483647, 1)) ∧
    (x < -2147483648 → satQ x = (-2147483648, 1))) ∧
  (let y := (loopOut w xs u add).1.1
   let lim := w.getD 241 0
   let raw := ((lawOut w (states xs) u).getD 0 (0, 0)).1 + add
   0 ≤ lim → -lim ≤ y ∧ y ≤ lim ∧ (-lim ≤ raw → raw ≤ lim → y = raw)) ∧
  (3 ≤ seekClass x ∧ seekClass x ≤ 20 ∧ (∀ k : Nat, 3 ≤ k → k < 20 → 2 ^ k ≤ x.natAbs / 536870912 → x.natAbs / 536870912 < 2 ^ (k + 1) →
    seekClass x = k)) ∧
  (0 < a + b → (ratio a b x).natAbs ≤ 32768 ∧ (b ≤ a → 0 ≤ ratio a b x) ∧ (a ≤ b → ratio a b x ≤ 0)) ∧
  (-131072 ≤ (command 18 x).1 ∧ (command 18 x).1 ≤ 131071 ∧ (command 16 536870912) = (32767, 1)) ∧
  (∀ (eng r : Bool) (cls seq valid : Nat) (cs : Vector Int 4),
    (fineFrame eng cls seq cs.toList valid r).length = 13 ∧ (fineFrame eng cls seq cs.toList valid r).head? = some 0xBC)

/-- Parts of R198, R235, R239, R248, R266, R304, R305. A spindle strobe whose loop is off changes no command; outside ACCEL and RUN its inputs
are zero, and the speed and its tolerance, the depth of modulation and the phase are judged only in ACCEL and RUN. At the strobe after a
switch no torque command leaves; after a take-back B's and then A's leave. The phase input is zero with the heads on the ramp, with Kettle
or the phase lock off; a module of another rated speed is reported once. A start that waited for the spindle is then released. Each of
these commands is shown to answer a next state with its own effect, under conditions on the state and its operands alone: spindleStrobe. -/
def Obligations.SpindleStrobe : Prop := ∀ (n : Ch) (o : StrobeObs) (ctl : Int) (other : Option Int) (s : State),
  let v := (s.mot n).speed
  let ready := fun (t : State) => if inCtrl n t then o.engB.ready else o.engA.ready
  let post := fun (t : State) => Host.Outcome.next (releaseStarts (hingePost n o.engA o.engB t))
  let idle := headsOff n s = false ∨ s.flag F.KET_ENABLE_EN = false ∨ s.flag F.KET_PHCFG_PH_EN = false ∨ s.flag F.KET_STAT_OVERLENGTH = true
  (engState n (otherEng n s) s ≠ engFailed → (s.hinge n).overlap = none →
    (motIn n [stAccel, stRun] s = false → (s.mot n).runNew = false →
      (s.bit (F.CTL_LOOPEN_EN n) 5 = true → exec (.spindleStrobe n o) s = post (strobeLoops n o [0, 0, 0, 0] s)) ∧
      (s.bit (F.CTL_LOOPEN_EN n) 5 = false → ready s = true → (s.hinge n).cause = none →
        exec (.spindleStrobe n o) s = post (s.modHinge n fun h => { h with spinGap := false }))) ∧
    (motIn n [stAccel, stRun] s = true →
      let t := freshLane n (strobeJudge n s)
      let w := phaseInput n o.index o.t t
      exec (.spindleStrobe n o) s =
        post (strobeWork n o [satI 32 (((t.mot n).speed - 16384) * 32768), w.1, satI 32 (currentAmp n w.2), 0] w.2))) ∧
  (strobeJudge n s = tolStrobe n v (depthStrobe n (runReached n v s))) ∧
  ((s.hinge n).cause = none → strobeArbiter n true s = ((s.hinge n).spinGap, s.modHinge n fun h => { h with spinGap := false })) ∧
  (let t := countSat n 5 (command 18 ctl).2 s
   let out := fun (ys : List Int) => (t.modServo n fun v =>
     { v with tqCmd := (command 18 ctl).1, tqOut := ys.map fun y => (command 18 y).1 }).modHinge n fun h => { h with spinTb := false }
   ((s.hinge n).spinTb = false → torqueOut n ctl other s = out [ctl]) ∧
   (∀ y, (s.hinge n).spinTb = true → torqueOut n ctl (some y) s = out [y, ctl])) ∧
  (idle → phaseInput n o.index o.t s = (0, s)) ∧
  (¬idle → s.get (F.SCHED_FMT_FMT_RPM n) ≠ s.ket.refRpm →
    (s.flag F.KET_STAT_RPM_MISMATCH = true → phaseInput n o.index o.t s = (0, s)) ∧
    (s.flag F.KET_STAT_RPM_MISMATCH = false → phaseInput n o.index o.t s = (0, (s.setFlag F.KET_STAT_RPM_MISMATCH true).raise (hostSrc 10)))) ∧
  (¬idle → s.get (F.SCHED_FMT_FMT_RPM n) = s.ket.refRpm →
    (phaseInput n o.index o.t s).1.natAbs ≤ s.get F.KET_PHCFG_U1_LIM * 524288)

/-- Parts of R294 to R296, R298 to R302, R306. A frame whose CRC fails is discarded and counted; a node that is off takes none. A good EPOCH
frame of hop h below 1,023 gives index h + 1, the group, the epoch and the instant, and goes on with the hop and the accumulated delay of
this node; one that would give index 1,024 sets OVERLENGTH and is not forwarded; an always-head node discards it. A VIB frame of a
neighbour is taken as that source, and goes on with TTL 1 when it came with 2. A DREQ is answered with the turn-round time; a DRSP to the
last request gives one exchange; a TAIL frame goes upstream, and sets the head's group. A frame leaves as code groups: its start symbol,
its symbols and the idle pair. Each of these commands is shown to answer a next state with its own effect, under conditions on the state
and its operands alone: ketEpochFrame, ketVibFrame, ketDreqFrame, ketDrspFrame, ketTailFrame. -/
def Obligations.KettleFrames : Prop := ∀ (syms : List Byte) (t t2 : Nat) (lane : KetLane) (s : State),
  let l := syms.map BitVec.toNat
  let quiet := sendNone s
  let bad := quiet.inc F.KET_ERR_CRC_CNT
  let w := symNum l 2 3
  let v := symNum l 2 2
  let acc := symNum l 7 3
  (ketOn s = false → exec (.ketEpochFrame syms t none) s = .next s ∧ exec (.ketVibFrame lane syms t) s = .next s ∧
    exec (.ketDreqFrame syms t t2) s = .next s ∧ exec (.ketDrspFrame syms t) s = .next s ∧ exec (.ketTailFrame syms) s = .next s) ∧
  (ketOn s = true →
    (frameGood 13 l = false → exec (.ketEpochFrame syms t none) s = .next bad) ∧
    (frameGood 8 l = false → exec (.ketVibFrame lane syms t) s = .next bad) ∧
    (frameGood 4 l = false → exec (.ketDreqFrame syms t t2) s = .next bad) ∧
    (frameGood 7 l = false → exec (.ketDrspFrame syms t) s = .next bad) ∧
    (frameGood 5 l = false → exec (.ketTailFrame syms) s = .next bad) ∧
    (frameGood 13 l = true → l.headD 0 = 1 →
      (s.get F.KET_CFG_ROLE = 1 → exec (.ketEpochFrame syms t none) s = .next (quiet.raise (hostSrc 8))) ∧
      (s.get F.KET_CFG_ROLE ≠ 1 → w / 16384 < 1023 → ∃ u, exec (.ketEpochFrame syms t none) s = .next u ∧
        u.ket.epochT = (t : Int) - (acc + cableDelay s : Nat) ∧ u.ket.refRpm = symNum l 10 2 / 4 ∧
        (let f := epochFrame (w / 16384 + 1) (w / 16 % 1024 + 1) (w.testBit 3) (symNum l 5 2) (acc + cableDelay s + 80) (symNum l 10 2 / 4)
         u.ket.down = [f] ∧ u.ket.codeD = (codeGroups (laneSymbols f) quiet.ket.rdD).1) ∧
        (s.canon → u.get F.KET_DELAY_ACC_IN = acc % 2 ^ F.KET_DELAY_ACC_IN.width ∧ u.flag F.KET_STAT_EPOCH_VALID = true) ∧
        SameMem s u ∧ u.host = s.host ∧ u.chans = s.chans) ∧
      (s.get F.KET_CFG_ROLE ≠ 1 → w / 16384 = 1023 → ∃ u, exec (.ketEpochFrame syms t none) s = .next u ∧ u.ket.down = [] ∧
        (s.flag F.KET_STAT_OVERLENGTH = false → u.raised = s.raised ++ [⟨hostSrc 11, 0xFFFF, 0, 0⟩]) ∧ SameMem s u ∧ u.chans = s.chans)) ∧
    (frameGood 8 l = true → l.headD 0 = 2 →
      (∀ j : Fin 5, ((v / 64 : Nat) : Int) - s.get F.KET_STAT_INDEX = [0, -2, -1, 1, 2].getD j 0 → j ≠ 0 →
        let got := (putVib j (sext 16 (symNum l 4 2)) t quiet).incWrap F.KET_VIBSTAT_RX_CNT
        let f := vibFrame (v / 64) 1 (symNum l 4 2) (symNum l 6 1)
        (v / 16 % 4 = 1 → exec (.ketVibFrame lane syms t) s = .next got) ∧
        (v / 16 % 4 = 2 → exec (.ketVibFrame .down syms t) s = .next (sendDown [f] got) ∧
          exec (.ketVibFrame .up syms t) s = .next (sendUp [f] got)) ∧
        (v / 16 % 4 = 0 ∨ v / 16 % 4 = 3 → exec (.ketVibFrame lane syms t) s = .next quiet)) ∧
      ((∀ d ∈ ([-2, -1, 1, 2] : List Int), ((v / 64 : Nat) : Int) - s.get F.KET_STAT_INDEX ≠ d) → exec (.ketVibFrame lane syms t) s = .next quiet)) ∧
    (frameGood 4 l = true → l.headD 0 = 3 →
      exec (.ketDreqFrame syms t t2) s = .next (sendDown [drspFrame (symNum l 2 1) (t2 - t)] quiet)) ∧
    (frameGood 7 l = true → l.headD 0 = 4 →
      (∀ t1, s.ket.reqT = some t1 → symNum l 2 1 = s.ket.reqId → s.ket.exch.length < 15 → exec (.ketDrspFrame syms t) s = .next
        (quiet.modKet fun k => { k with exch := ((t : Int) - t1 - symNum l 3 3) :: k.exch, reqT := none })) ∧
      (s.ket.reqT = none ∨ symNum l 2 1 ≠ s.ket.reqId → exec (.ketDrspFrame syms t) s = .next quiet)) ∧
    (frameGood 5 l = true → l.headD 0 = 5 →
      (s.flag F.KET_STAT_HEAD = false → exec (.ketTailFrame syms) s = .next (sendUp [l] quiet)) ∧
      (s.flag F.KET_STAT_HEAD = true → cfgGroup s = 0 → exec (.ketTailFrame syms) s = .next
        ((quiet.modKet fun k => { k with tail := some (v / 64) }).set F.KET_STAT_G (v / 64 + 1)))))

/-- Parts of R292, R297 to R299, R301, R302, R306, R307, R309, R310, R511. Every millisecond a head starts an epoch, of hop 0 and no delay; a
node in holdover counts the miss, and one that is segment head starts the epochs itself. A node that is no head asks for the delay of its
hop; the tail sends its index up. The sensor read is the node's own term and is sent on both lanes when asked. Lanes lock and are lost; no
epochs for 4 ms is holdover; with KET_IN lost it makes a segment head of any node but a never-head. EN = 1 begins the check, EN = 0 stops
the link; a block reset returns the registers of the page. A link that is off does nothing. Each of these commands is shown to answer a
next state with its own effect, under conditions on the state and its operands alone: ketEpochTick, ketDreqTick, ketTailTick, ketVibRead,
ketLaneLock, ketLaneLost, ketHoldover, ketSegmentHead, ketAutoHead, ketEnable, ketBlockReset. -/
def Obligations.KettleTicks : Prop := ∀ (sample : W16) (t : Nat) (lane : KetLane) (s : State),
  let quiet := sendNone s
  let role := s.get F.KET_CFG_ROLE
  let lock := match lane with | .down => F.KET_STAT_IN_LOCK | .up => F.KET_STAT_SYNC_LOCK
  let adv := (quiet.set F.KET_EPOCH_E ((s.get F.KET_EPOCH_E + 1) % 60000)).modKet fun k => { k with epochT := t }
  (ketOn s = false → exec (.ketEpochTick t) s = .next s ∧ exec (.ketDreqTick t) s = .next s ∧ exec .ketTailTick s = .next s ∧
    exec (.ketVibRead sample t) s = .next s ∧ exec (.ketLaneLock lane) s = .next s ∧ exec (.ketLaneLost lane) s = .next s ∧
    exec .ketHoldover s = .next s ∧ exec .ketSegmentHead s = .next s ∧ exec .ketAutoHead s = .next s) ∧
  (ketOn s = true → s.ket.began = true →
    (s.flag F.KET_STAT_HEAD = true → ∃ u, exec (.ketEpochTick t) s = .next u ∧ u.ket.epochT = t ∧ u.ket.refRpm = headRpm s ∧
      u.ket.down = [epochFrame 0 (headGroup s) false ((adv.set F.KET_STAT_INDEX 0).set F.KET_STAT_G (headGroup s) |>.get F.KET_EPOCH_E) 0 (headRpm s)] ∧
      u.ket.up = [] ∧ SameMem s u ∧ u.chans = s.chans ∧ u.host = s.host) ∧
    (s.flag F.KET_STAT_HEAD = false → s.flag F.KET_STAT_HOLDOVER = true →
      let m := adv.inc F.KET_EPOCH_MISS_CNT
      (s.flag F.KET_STAT_SEGMENT_HEAD = false → exec (.ketEpochTick t) s = .next m) ∧
      (s.flag F.KET_STAT_SEGMENT_HEAD = true → exec (.ketEpochTick t) s = .next
        (sendDown [epochFrame (s.get F.KET_STAT_INDEX) (s.get F.KET_STAT_G) true (m.get F.KET_EPOCH_E) 0 s.ket.refRpm] m))) ∧
    (s.flag F.KET_STAT_HEAD = false → s.flag F.KET_STAT_HOLDOVER = false → s.flag F.KET_STAT_EPOCH_VALID = true →
      exec (.ketEpochTick t) s = .next quiet)) ∧
  (ketOn s = true →
    (s.flag F.KET_STAT_HEAD = true → exec (.ketDreqTick t) s = .next quiet) ∧
    (s.flag F.KET_STAT_HEAD = false → exec (.ketDreqTick t) s = .next
      (sendUp [dreqFrame ((s.ket.reqId + 1) % 256)] (quiet.modKet fun k => { k with reqId := (s.ket.reqId + 1) % 256, reqT := some t }))) ∧
    (s.flag F.KET_STAT_SYNC_LOCK = true → exec .ketTailTick s = .next quiet) ∧
    (s.flag F.KET_STAT_SYNC_LOCK = false → s.flag F.KET_STAT_HEAD = false → exec .ketTailTick s = .next
      (sendUp [tailFrame (s.get F.KET_STAT_INDEX)] quiet)) ∧
    (s.flag F.KET_STAT_SYNC_LOCK = false → s.flag F.KET_STAT_HEAD = true → exec .ketTailTick s = .next
      (quiet.modKet fun k => { k with tail := some 0 })) ∧
    (s.flag F.KET_VIBCFG_EN = false → exec (.ketVibRead sample t) s = .next s) ∧
    (s.flag F.KET_VIBCFG_EN = true → ∃ u, exec (.ketVibRead sample t) s = .next u ∧
      (∀ n, (u.servo n).vib = (s.servo n).vib.set 0 (some (sample.toInt, t))) ∧
      u.ket.mosi = s.get F.KET_VIBCFG_READ_CMD ∧ (s.canon → u.get F.KET_VIBSTAT_SAMPLE = sample.toNat) ∧
      (s.flag F.KET_VIBCFG_BCAST_EN = true → u.ket.up = u.ket.down ∧
        u.ket.down = [vibFrame (s.get F.KET_STAT_INDEX) 2 sample.toNat s.ket.vibSeq] ∧ u.ket.vibSeq = (s.ket.vibSeq + 1) % 256) ∧
      (s.flag F.KET_VIBCFG_BCAST_EN = false → u.ket.up = [] ∧ u.ket.down = []) ∧ SameMem s u ∧ u.host = s.host) ∧
    exec (.ketLaneLock lane) s = .next (s.setFlag lock true) ∧
    (s.flag lock = false → exec (.ketLaneLost lane) s = .next s) ∧
    (s.flag lock = true → exec (.ketLaneLost lane) s = .next
      (if lane = .down then (s.setFlag lock false).raise (hostSrc 5) else s.setFlag lock false)) ∧
    (s.flag F.KET_STAT_HEAD = false → s.flag F.KET_STAT_HOLDOVER = false → exec .ketHoldover s = .next
      ((s.setFlag F.KET_STAT_HOLDOVER true).raise (hostSrc 6))) ∧
    (s.flag F.KET_STAT_HEAD = true ∨ s.flag F.KET_STAT_HOLDOVER = true → exec .ketHoldover s = .next s) ∧
    (s.flag F.KET_STAT_HOLDOVER = true → s.flag F.KET_STAT_IN_LOCK = false → role ≠ 2 → s.flag F.KET_STAT_SEGMENT_HEAD = false →
      exec .ketSegmentHead s = .next ((s.setFlag F.KET_STAT_SEGMENT_HEAD true).raise (hostSrc 7))) ∧
    (s.flag F.KET_STAT_HOLDOVER = false ∨ s.flag F.KET_STAT_IN_LOCK = true ∨ role = 2 → exec .ketSegmentHead s = .next s) ∧
    (role = 0 ∨ role = 3 → s.flag F.KET_STAT_IN_LOCK = false → s.flag F.KET_STAT_EPOCH_VALID = false → exec .ketAutoHead s = .next
      (((s.setFlag F.KET_STAT_HEAD true).setFlag F.KET_STAT_HOLDOVER false).setFlag F.KET_STAT_SEGMENT_HEAD false)) ∧
    (role = 1 ∨ role = 2 ∨ s.flag F.KET_STAT_IN_LOCK = true → exec .ketAutoHead s = .next s)) ∧
  (Reached 0x900000 s → let u := breakSeq s
    (u.flag F.KET_ENABLE_EN = true ∨ u.ket.checking = true → exec (.ketEnable true) s = .next u) ∧
    (u.flag F.KET_ENABLE_EN = false → u.ket.checking = false → exec (.ketEnable true) s = .next
      ((applyProfile noAct 0x900000 0xA00000 u).modKet fun k => { k with checking := true })) ∧
    exec (.ketEnable false) s = .next ((checkDone 10 0 (u.setFlag F.KET_ENABLE_EN false)).modKet fun k =>
      { k with checking := false, down := [], up := [], codeD := [], codeU := [] })) ∧
  (∃ u, exec .ketBlockReset s = .next u ∧ u.ket = Ket.reset ∧
    (∀ n, (u.servo n).vib = Vector.replicate 5 none) ∧ u.dram = s.dram ∧ u.store = s.store)

/-- Parts of R384, R394 to R398, R401, R403, R405, R406. A page goes to the next block of the open band that is not its parity die, and its
program is in flight. At the pack timeout the waiting host entries are programmed in a page; nothing is while a power loss or the safe
state holds programs back. A program that passes makes its entries live and is counted down from its command; one that fails is counted
and reported, its block takes no further program, and its entries go first in the queue. Destage and bookmark pages take what waits. A
band whose pages verify is VERIFIED, and its parity block is erased. A block erased is free with one erase more; an erase that fails
retires it. Collection begins only below HIGH; the victim waits for its copies. Each of these commands is shown to answer a next state
with its own effect, under conditions on the state and its operands alone: copy, flyPackTimeout, flyPageProgramDone, flyBandVerifyDone,
flyDestagePageTimer, flyBookmarkPageTimer, flyCollectionStart, flyVictimErase, flyEraseDone. -/
def Obligations.FlyPrograms : Prop := ∀ (host idle pass : Bool) (pt pg die blk band : Nat) (es : List FEntry) (dst : List (Nat × Nat))
    (bms : List Bookmark) (p : FPage) (s : State),
  let f := s.fly
  let held := s.flag F.PWR_SUPPLY_PLOSS = true ∨ s.flag F.FAULT_STAT_SAFE = true
  let gone := s.modFly fun y => { y with flight := y.flight.filter fun x => x.id != pg }
  (s.flag F.PWR_SUPPLY_PLOSS = true → startPage host pt es dst bms s = none) ∧
  (∀ b x, s.flag F.PWR_SUPPLY_PLOSS = false → openBandOf host s = some b → nextBlock b s = some x → x.die ≠ b.par ∧ x.fill < flyPages s ∧ ∃ t,
    startPage host pt es dst bms s = some t ∧ t.fly.pages = f.pages ∧ t.fly.nextId = f.nextId + 1 ∧
    t.fly.flight = f.flight ++ [⟨f.nextId, x.die, x.num, x.fill, b.num, pt, f.nextSeq - 1, f.pot, es, dst, bms⟩] ∧ t.host = s.host ∧
    SameMem s t) ∧
  (held → exec .flyPackTimeout s = .next s ∧ exec .flyBookmarkPageTimer s = .next s) ∧
  (¬held → f.packC = [] → (f.packH = [] ∨ hostAdmitted s = false → exec .flyPackTimeout s = .next s) ∧
    (∀ t, f.packH ≠ [] → hostAdmitted s = true → startPage true 1 (f.packH.take 4) [] [] s = some t → t.fly.packC = [] →
      exec .flyPackTimeout s = .next (markBegun (f.packH.take 4) (t.modFly fun y => { y with packH := y.packH.drop 4, gcHost := y.gcHost + 1 })))) ∧
  (f.flight.find? (fun p => p.id == pg) = none → s.host.cmds = [] → f.victim = none → f.packH = [] → exec (.flyPageProgramDone pg pass) s = .next s) ∧
  (f.flight.find? (fun p => p.id == pg) = some p → ∃ t, exec (.flyPageProgramDone pg pass) s = .next t ∧
    (let w := gcStep (if pass then pagePassed p gone else pageFailed p gone)
     t = fallBackAll (writesProgrammed (packFull true w.fly.packH.length w))) ∧
    (pass = true → p ∈ (pagePassed p gone).fly.pages)) ∧
  (let copies := p.ents.any fun e => e.copy
   let t := condemn p.die p.blk ((s.raise (hostSrc 12) p.die).inc F.FLY_ERRCNT_PROG_FAIL)
   let t := t.modFly fun y => if copies || p.ents.any fun e => e.kind == 7 then { y with packC := p.ents ++ y.packC } else { y with packH := p.ents ++ y.packH }
   let t := if copies then (t.inc F.FLY_ERRCNT_COPY_RESTART).modFly fun y => { y with restarts := y.restarts + 1 } else t
   let t := t.modFly fun y => { y with
     pendDst := p.dst ++ y.pendDst
     pendBm := y.pendBm ++ (p.bms.filter fun b => !y.pendBm.any fun x => x.1 == b).map fun b => (b, none) }
   pageFailed p s = match openBandOf true t with
    | some b => closeFull b t
    | none => t) ∧
  (stopped s = true → exec .flyDestagePageTimer s = .next s ∧ exec (.flyCollectionStart idle) s = .next s ∧ exec (.flyVictimErase []) s = .next s) ∧
  (stopped s = false →
    (f.pendDst = [] → exec .flyDestagePageTimer s = .next s) ∧
    (f.pendDst ≠ [] → s.get F.FLY_STAT_STATE ≠ 2 → exec .flyDestagePageTimer s = .next
      (s.modFly fun y => { y with pendDst := [], sysDst := y.sysDst ++ destageRanges f.pendDst })) ∧
    (∀ t, f.pendDst ≠ [] → s.get F.FLY_STAT_STATE = 2 → startPage true 2 [] ((destageRanges f.pendDst).take 1056) [] s = some t →
      exec .flyDestagePageTimer s = .next (t.modFly fun y => { y with pendDst := (destageRanges f.pendDst).drop 1056 })) ∧
    (wmHigh s ≤ flyFree s → s.get F.FLY_STAT_STATE = 2 → exec (.flyCollectionStart idle) s = .next s) ∧
    (copiesDone s = false → exec (.flyVictimErase []) s = .next (gcStep (packRest false s))) ∧
    (copiesDone s = true → f.victim = none → (∀ b ∈ f.blks, b.st ≠ .condemned) →
      exec (.flyVictimErase []) s = .next (s.modFly fun y => { y with target := [] }))) ∧
  (¬held → f.pendBm = [] ∨ s.get F.FLY_STAT_STATE ≠ 2 → exec .flyBookmarkPageTimer s = .next s) ∧
  (∀ t, ¬held → f.pendBm ≠ [] → s.get F.FLY_STAT_STATE = 2 → startPage true 3 [] [] ((f.pendBm.take 264).map fun b => b.1) s = some t →
    exec .flyBookmarkPageTimer s = .next t) ∧
  (f.bands.find? (fun b => b.num == band && b.st == .closed) = none → exec (.flyBandVerifyDone band []) s = .next s) ∧
  (∀ b, f.bands.find? (fun b => b.num == band && b.st == .closed) = some b → (∀ p ∈ f.flight, p.band ≠ band) →
    exec (.flyBandVerifyDone band []) s = .next (s.modFly fun y =>
      { y with
        bands := y.bands.map fun x => if x.num == band then { x with st := .verified } else x
        blks := y.blks.map fun x => if x.band == band && x.die == b.par then { x with st := .erasing } else x })) ∧
  (f.blks.find? (fun b => b.die == die && b.num == blk && b.st == .erasing) = none → exec (.flyEraseDone die blk pass) s = .next s) ∧
  (∀ x, f.blks.find? (fun b => b.die == die && b.num == blk && b.st == .erasing) = some x → f.packH = [] →
    let t := s.modFly fun y => { y with pages := y.pages.filter fun p => !(p.die == die && p.blk == blk) }
    exec (.flyEraseDone die blk true) s = .next
      (flySync (modBlk die blk (fun b => { b with st := .free, erases := b.erases + 1, band := 0, fill := 0 }) t)) ∧
    exec (.flyEraseDone die blk false) s = .next (retire die blk ((t.raise (hostSrc 13) die).inc F.FLY_ERRCNT_ERASE_FAIL)))

/-- Parts of R37, R361, R367, R402, R403, R406 to R409, R411, R414, R415, R418, R569. A write of FLY.ENABLE begins the check of the journal,
or is refused while live entries exist. The check ends with the first reason that holds, and the state STARTING, or with nothing when none
runs. A start that finds nothing ends WRITABLE, or READ_ONLY after a read-only record. A die that fails leaves service and is reported;
one that has left changes nothing more. A read-only journal with no live entry is DRAINED. A warm line is taken only while the warm level
has room, in sixteen entries. A good page read serves its readers. A block reset returns to OFF. Each of these commands is shown to answer
a next state with its own effect, under conditions on the state and its operands alone: flyEnable, flyDisable, flyStartDone, flyDieFail,
flyDrained, flyWarmOffer, flyBlockReset, consistencyCheckEnd, flyPageReadDone. -/
def Obligations.FlyStates : Prop := ∀ (die sn way load nsid line : Nat) (dead ok : Bool) (o : CheckObs) (n : Ch) (bad : List Nat) (s : State),
  let f := s.fly
  let u := breakSeq s
  let st := s.get F.FLY_STAT_STATE
  (Reached F.FLY_ENABLE_EN.addr s →
    (u.flag F.FLY_ENABLE_EN = true ∨ u.fly.checking = true → exec .flyEnable s = .next u) ∧
    (u.flag F.FLY_ENABLE_EN = false → u.fly.checking = false → exec .flyEnable s = .next
      ((applyProfile noAct 0x800000 0x900000 u).modFly fun y => { y with checking := true })) ∧
    (u.fly.checking = true → exec .flyDisable s = .next (checkDone 8 0 (u.modFly fun y => { y with checking := false }))) ∧
    (u.fly.checking = false → u.flag F.FLY_ENABLE_EN = false → exec .flyDisable s = .next u) ∧
    (u.fly.checking = false → u.flag F.FLY_ENABLE_EN = true → u.fly.live ≠ [] → exec .flyDisable s = .next (u.set F.FLY_ENABLE_REASON 0x25)) ∧
    (u.fly.checking = false → u.flag F.FLY_ENABLE_EN = true → u.fly.live = [] → u.fly.flight = [] → u.get F.FLY_STAT_STATE ≠ 1 →
      let t := ((((checkpoint true true u).setFlag F.FLY_ENABLE_EN false).set F.FLY_STAT_STATE 0).setFlag F.COLO_STAT_MIRROR false)
      let t := (t.setFlag F.FLY_STAT_FG_GC false).setFlag F.FLY_STAT_HOLD false
      exec .flyDisable s = .next (fallBackAll (t.modFly fun y => { y with
        flight := [], victim := none, gcQ := [], gcDst := [], gcBms := [], target := [], warm := [], warmPend := [], packC := [], wasOff := true })))) ∧
  (exec (.consistencyCheckEnd .fly o) s = .next (if f.checking = false then s else
    let t := s.modFly fun y => { y with checking := false, dies := o.dies.zipIdx.map fun d => (d.2, d.1.blocks) }
    checkDone 8 (flyReason o t) (if flyReason o t = 0 then flyPass t else t.set F.FLY_ENABLE_REASON (flyReason o t)))) ∧
  (s.ket.checking = false → exec (.consistencyCheckEnd .ket o) s = .next s) ∧
  (s.ket.checking = true → ketReason s ≠ 0 → exec (.consistencyCheckEnd .ket o) s = .next
    (checkDone 10 (ketReason s) ((s.modKet fun k => { k with checking := false }).set F.KET_ENABLE_REASON (ketReason s)))) ∧
  exec (.consistencyCheckEnd (.channel n) o) s = .next (chanCheckEnd n o s) ∧
  exec (.consistencyCheckEnd .gath o) s = .next (checkDone 9 (gathCheckEnd s).1 (gathCheckEnd s).2) ∧
  (s.flag F.FAULT_STAT_SAFE = true → flyReason o s = 0x1F ∨ flyReason o s = 0x0C) ∧
  (st ≠ 1 → exec (.flyStartDone bad) s = .next s) ∧
  (st = 1 →
    let a := loseStale (journalRead s)
    let b := rebuildBuffer (liveEntries a.fly.live a) bad a
    let c := (b.modFly fun y => { y with startMs := b.fresh.toNat % 4294967296 }).used
    let d := fun (v : Nat) (ro : Bool) => flySync (coloMirrorOn (bkSync ((c.set F.FLY_STAT_STATE v).setFlag F.NVME_BKSTAT_DRAM_ONLY ro)))
    (c.fly.roRec = false → exec (.flyStartDone bad) s = .next (pump (packFull true (d 2 false).fly.packH.length (d 2 false)))) ∧
    (c.fly.roRec = true → exec (.flyStartDone bad) s = .next (pump (fallBackAll (d (if c.fly.drained then 4 else 3) true))))) ∧
  (∀ i c, f.ckUse = some i → f.ckpts[i] = some c → c.full = true → journalRead s = s.modFly fun y =>
    { y with live := c.live, bms := c.bms, nextSeq := c.seq, pot := max y.pot c.pot }) ∧
  (s.bit F.FLY_DIE_IN_SERVICE die = false → exec (.flyDieFail die dead) s = .next (fallBackAll s)) ∧
  (s.bit F.FLY_DIE_IN_SERVICE die = true → exec (.flyDieFail die true) s = .next (fallBackAll (dieOut die s))) ∧
  (s.bit F.FLY_DIE_IN_SERVICE die = true →
    exec (.flyDieFail die false) s = .next (fallBackAll
      (if s.get F.FLY_DIE_DIE_FAIL_BLK < retiredHour die s then dieOut die s else s))) ∧
  (st = 3 → f.live = [] → exec .flyDrained s = .next (((destagePage s).set F.FLY_STAT_STATE 4).modFly fun y => { y with drained := true })) ∧
  (st ≠ 3 ∨ f.live ≠ [] → exec .flyDrained s = .next s) ∧
  (stopped s = true ∨ s.way sn way = none → exec (.flyWarmOffer sn way load) s = .next s) ∧
  (∀ v, stopped s = false → s.way sn way = some v → v.offered = true →
    (s.flag F.FLY_CFG_WARM_EN = false ∨ st ≠ 2 ∨ flyFree s < wmHigh s ∨ s.get F.FLY_CFG_WARM_LOAD ≤ load →
      exec (.flyWarmOffer sn way load) s = .next (offerEnd sn way false (s.modFly fun y => { y with warmDec := y.warmDec + 1 }))) ∧
    (s.flag F.FLY_CFG_WARM_EN = true → st = 2 → wmHigh s ≤ flyFree s → load < s.get F.FLY_CFG_WARM_LOAD →
      ∃ es : List FEntry, es.length = 16 ∧ (∀ e ∈ es, e.kind = 7 ∧ e.nsid = v.nsid ∧ e.lba / 16 = v.line ∧ e.cnt = 1) ∧
        exec (.flyWarmOffer sn way load) s = .next (flyPush false es (s.modFly fun y =>
          { y with warmAcc := y.warmAcc + 1, warmPend := y.warmPend ++ [(v.nsid, v.line, 16, 0)] })))) ∧
  (ok = true → f.warm.contains (nsid, line) = true → f.warmW = [] → exec (.flyPageReadDone nsid line ok) s = .next s) ∧
  (ok = false → f.warmW = [] → exec (.flyPageReadDone nsid line ok) s = .next (warmDrop nsid (16 * line) 16 s)) ∧
  (s.rst.chip ≠ none → exec .flyBlockReset s = .next s) ∧
  (s.rst.chip = none → s.host.cmds = [] → st ≠ 2 → f.checking = false → exec .flyBlockReset s = .next (flyRegs (flyForget (resetRecord 6 1 s))))

/-- Parts of R420, R426 to R433, R436, R443. COMMIT starts the check of a slot unless one runs. Up to 2,048 intents are programmed at a time.
An update that finds no lock of its stripe, or not its own, changes nothing; one whose intent waits does not begin; another takes buffers
for the parity and places the media writes of data and parity. A stripe written whole takes its parity from the new data. A stripe with no
intent needs no resync; one without failed sectors ends its intent. A channel that is ready is not made unavailable; one that is not is,
in the committed layouts that use it and have not lost it. A resync needs an unavailable channel that is ready; a strip rebuilt needs an
active rebuild of a lost channel. A reconstruction that lacks too many strips is counted and fails its readers; one that succeeds is
counted and delivers the block it solves for; it waits while an update works on its stripe. A change of a channel's state in a layout is
an event. Each of these commands is shown to answer a next state with its own effect, under conditions on the state and its operands
alone: gathLayoutCommit, gathIntentProgram, gathStripeUpdate, gathStartResync, gathChannelUnavailable, gathChannelLost, gathChannelResync,
gathReconstruct, gathRebuildStrip, gathBlockReset. -/
def Obligations.GatheringRows : Prop := ∀ (l : Fin 4) (n : Ch) (stripe k strip nsid lba : Nat) (old : List (Nat × Block)) (failed : List Nat)
    (r : Recon) (v : Ns) (s : State),
  let u := breakSeq s
  let y := s.layout l
  (Reached 0x700040 s →
    (u.gath.check = none → exec (.gathLayoutCommit l) s = .next { u with gath := { u.gath with check := some l, uncommit := false, auto := false } }) ∧
    (u.gath.check ≠ none → exec (.gathLayoutCommit l) s = .next u)) ∧
  (∃ t, exec .gathIntentProgram s = .next t ∧ (∀ m : Fin 4, (t.layout m).intents = (s.layout m).intents ++ (s.layout m).pendInt.take 2048 ∧
    (t.layout m).pendInt = (s.layout m).pendInt.drop 2048) ∧ t.host = s.host ∧ t.regs = s.regs ∧ SameMem s t) ∧
  (y.locks.find? (fun x => x.1 == stripe) = none → exec (.gathStripeUpdate l stripe k old) s = .next s) ∧
  (∀ x w, y.locks.find? (fun x => x.1 == stripe) = some x → s.host.wb.find? (fun w => w.k == k && w.run) = some w →
    (x.2.1 ≠ k ∨ x.2.2 ≠ 0 ∨ intentReady l stripe s = false → exec (.gathStripeUpdate l stripe k old) s = .next s)) ∧
  (∀ x w ps hs t, y.locks.find? (fun x => x.1 == stripe) = some x → s.host.wb.find? (fun w => w.k == k && w.run) = some w → x.2.1 = k →
    x.2.2 = 0 → intentReady l stripe s = true → s.ns w.nsid = some v → stripeParity l stripe k old v s = some ps →
    let blocks := ps.flatMap fun x => x.2.zipIdx.map fun y => (layoutK l s + y.2, x.1, y.1)
    tryAlloc 0xB 3 blocks.length s = some (hs, t) → exec (.gathStripeUpdate l stripe k old) s = .next (stripePlace l stripe k
      ((stripeNew v k stripe s).map (fun y => (y.1, y.2.1, y.2.2.1, some (v.nsid, y.2.2.2))) ++ (hs.zip blocks).map fun x => (x.2.1, x.2.2.1, x.1, none))
      s (t.each (hs.zip blocks) fun x u => putUnit (handleUnit x.1 s) (ofCode x.2.2.2) u))) ∧
  (∀ (new : List (Nat × List Nat)) (o m : Nat) (kk : Nat) (again : Bool), m = 1 ∨ m = 2 → (∀ i < kk, ∃ x ∈ new, x.1 = i) →
    let ds := (List.range kk).filterMap fun i => (new.find? fun x => x.1 == i).map fun x => (i, x.2)
    parityAt kk m o again new old = some (if m = 1 then [codeP ds] else [codeP ds, codeQ ds])) ∧
  (stopped s = true → exec (.gathStartResync l stripe failed) s = .next s ∧ exec (.gathChannelResync l n strip) s = .next s ∧
    exec (.gathRebuildStrip l stripe n) s = .next s) ∧
  (stopped s = false →
    (y.intents.find? (fun x => x.1 == stripe) = none → exec (.gathStartResync l stripe failed) s = .next s) ∧
    (∀ x, y.intents.find? (fun x => x.1 == stripe) = some x → (∀ z ∈ y.locks, z.1 ≠ stripe) → exec (.gathStartResync l stripe []) s = .next
      (s.modLayout l fun y => { y with intents := y.intents.filter (fun z => z.1 != stripe), resync := y.resync.filter (· != stripe) })) ∧
    (committed l s = false ∨ s.bit (F.GATH_LSTAT_UNAVAIL l) n = false ∨ chanReady n s = false → exec (.gathChannelResync l n strip) s = .next s) ∧
    (committed l s = true → s.bit (F.GATH_LSTAT_UNAVAIL l) n = true → chanReady n s = true →
      let t := gathSync (s.modLayout l fun y => { y with stale := y.stale.filter fun x => x != (n.val, strip) })
      (∀ x ∈ (t.layout l).stale, x.1 ≠ n.val) → exec (.gathChannelResync l n strip) s = .next
        (gathSync (gathEvent ((t.setBit (F.GATH_LSTAT_UNAVAIL l) n false).raise (hostSrc 22) l.val)))) ∧
    (committed l s = false ∨ s.bit (F.GATH_LSTAT_LOST l) n = false ∨ s.flag F.GATH_REBUILD_ACTIVE = false →
      exec (.gathRebuildStrip l stripe n) s = .next s) ∧
    (∀ i c, committed l s = true → s.bit (F.GATH_LSTAT_LOST l) n = true → layoutK l s + layoutM l s < layoutW l s → y.rebAt ≤ stripe →
      s.flag F.GATH_REBUILD_ACTIVE = true → s.get F.GATH_REBUILD_LAYOUT = l.val → s.flag F.GATH_REBUILD_RESYNC = false → y.locks = [] →
      stripOn l stripe n.val s = some i → (∀ r ∈ y.rebuilt, r.1 ≠ stripe) → missingStrips l stripe s ≤ layoutM l s →
      rebuildTarget l stripe s = some c → laterStrip l stripe n.val s = true →
      exec (.gathRebuildStrip l stripe n) s = .next (gathSync ((s.modLayout l fun y => { y with rebAt := stripe }).modLayout l fun y =>
        { y with rebuilt := y.rebuilt ++ [(stripe, i, c, y.spareAt[chOf c])], spareAt := y.spareAt.set (chOf c) (y.spareAt[chOf c] + 1) })))) ∧
  (chanReady n s = true → exec (.gathChannelUnavailable n) s = .next s) ∧
  (chanReady n s = false → exec (.gathChannelUnavailable n) s = .next (gathSync (s.each allLayouts fun m t =>
    if committed m t && t.bit (F.GATH_LAYOUT_CHAN_MASK m) n && !t.bit (F.GATH_LSTAT_LOST m) n && !t.bit (F.GATH_LSTAT_UNAVAIL m) n
      then gathEvent (t.setBit (F.GATH_LSTAT_UNAVAIL m) n true) else t))) ∧
  exec (.gathChannelLost n) s = .next (gathSync (s.each allLayouts fun m t =>
    if t.bit (F.GATH_LSTAT_UNAVAIL m) n || chanAbsent n t then loseIn m n t else t)) ∧
  (loseIn l n s = if committed l s && s.bit (F.GATH_LAYOUT_CHAN_MASK l) n && !s.bit (F.GATH_LSTAT_LOST l) n then
    gathEvent (((s.setBit (F.GATH_LSTAT_LOST l) n true).setBit (F.GATH_LSTAT_UNAVAIL l) n false).modLayout l fun y =>
      { y with stale := y.stale.filter (fun x => x.1 != n.val), rebAt := 0 }) else s) ∧
  (s.gath.recon.find? (fun r => r.nsid == nsid && r.lba == lba) = none → exec (.gathReconstruct l nsid lba old) s = .next s) ∧
  (s.gath.recon.find? (fun r => r.nsid == nsid && r.lba == lba) = some r → s.ns nsid = some v →
    let st := (nsPlace v lba s).2.2.1
    ((∃ x ∈ y.locks, x.1 = st ∧ 0 < x.2.2) → exec (.gathReconstruct l nsid lba old) s = .next s) ∧
    ((∀ x ∈ y.locks, x.1 = st → x.2.2 = 0) →
    let j := (nsPlace v lba s).2.2.2
    let q := { s with gath := { s.gath with recon := s.gath.recon.filter fun x => x != r } }
    let at_ := fun (i : Nat) => if i == j then none else (assocGet i old).map codeBytes
    let ds := (List.range (layoutK l s)).filterMap fun i => (at_ i).map fun b => (i, b)
    (layoutM l s < missingStrips l st s → exec (.gathReconstruct l nsid lba old) s = .next
      (let w := (q.inc F.GATH_CNT_UNREC).modLayout l fun y => { y with unrec := y.unrec + 1 }
       if r.ladder then w else w.each r.cmds fun c z => failRead c nsid lba z)) ∧
    (∀ bs, missingStrips l st s ≤ layoutM l s → layoutM l s = 1 → solve (layoutK l s) j ds (at_ (layoutK l s)) none = some bs →
      exec (.gathReconstruct l nsid lba old) s = .next (((q.inc F.GATH_CNT_RECON_CNT).modLayout l fun y => { y with recon := y.recon + 1 }).each
        r.cmds fun c w => endItem c (leaveOne nsid lba c (deliverTo c lba (ofCode bs) w)))))) ∧
  (∃ t, exec .gathBlockReset s = .next (pump (gathSync t)) ∧ t.gath.check = none ∧ t.gath.recon = [] ∧
    ∀ m : Fin 4, (t.layout m).locks = [] ∧ (t.layout m).pendInt = [] ∧ (t.layout m).intents = (s.layout m).intents)

/-- Parts of R490 to R495. A TAIL write starts the next descriptor, or refuses one of a width, an alignment or a space that is not allowed,
when the channel is on, ready and has one. The descriptor's end, good or not, is written back as STATUS and FAIL_OFS, advances HEAD round
the ring and ends BUSY; any code but DONE halts the channel and is reported. ABORT ends the descriptor with the beats issued, also where a
beat of a copy writes it (after an open number of beats, a model's choice of log entry 78); CLR_HALT goes on. The first failed write, or
the beats before a failed read, give FAIL_OFS. A channel that is not busy has nothing to end. Each of these commands is shown to answer a
next state with its own effect, under conditions on the state and its operands alone: dmaTailWrite, dmaDescriptorDone, dmaAbort,
dmaClrHalt. -/
def Obligations.CopyEngine : Prop := ∀ (c : Ch) (tail : W16) (rdErr wrErr : List Nat) (done code ofs : Nat) (d : DmaDesc) (r : DmaRun) (s : State),
  let a := (F.DMA_CTL_TAIL c).addr
  let u := breakSeq s
  let kick := fun (t : State) => if dmaReady c t = false then t
    else if dmaRefused (dmaDesc c t) = true then dmaEnd c 5 (t.fresh.toNat % 4294967296) t.used else t.setFlag (F.DMA_STAT_BUSY c) true
  let x := dmaDesc c s
  (Reached a s →
    exec (.dmaTailWrite c tail) s = .next (kick (u.set (F.DMA_CTL_TAIL c) tail.toNat)) ∧
    exec (.dmaClrHalt c) s = .next (kick (u.setFlag (F.DMA_STAT_HALTED c) false)) ∧
    (u.flag (F.DMA_STAT_BUSY c) = false → exec (.dmaAbort c done) s = .next u) ∧
    (u.flag (F.DMA_STAT_BUSY c) = true →
      let q := dmaCopy c [] [] (min done ((dmaDesc c u).len / 2 ^ (dmaDesc c u).dstW)) u
      exec (.dmaAbort c done) s = .next (dmaStop 80 q.1.aborts (dmaEnd c 6 (q.1.issued * 2 ^ (dmaDesc c u).dstW) q.2)))) ∧
  (s.flag (F.DMA_STAT_BUSY c) = false → exec (.dmaDescriptorDone c rdErr wrErr) s = .next s) ∧
  (s.flag (F.DMA_STAT_BUSY c) = true →
    let q := dmaCopy c rdErr wrErr (x.len / 2 ^ x.dstW) s
    let e := if q.1.cut.isSome then (6, q.1.issued * 2 ^ x.dstW, q.2) else dmaResult x q.1 q.2
    exec (.dmaDescriptorDone c rdErr wrErr) s = .next (kick (dmaStop 80 q.1.aborts (dmaEnd c e.1 e.2.1 e.2.2)))) ∧
  (∀ (fuel : Nat) (cs : List Ch), dmaStop fuel [] s = s ∧
    (s.flag (F.DMA_STAT_BUSY c) = false → dmaStop (fuel + 1) (c :: cs) s = dmaStop fuel cs s)) ∧
  (dmaRefused d = true ↔ d.srcW = 7 ∨ d.dstW = 7 ∨ 2 ^ 63 ≤ d.src ∨ 2 ^ 63 ≤ d.dst ∨ d.src % 2 ^ d.srcW ≠ 0 ∨ d.dst % 2 ^ d.dstW ≠ 0 ∨
    d.len % 2 ^ max d.srcW d.dstW ≠ 0 ∨ d.len = 0) ∧
  ((∀ i is, r.failed = i :: is → is ≠ [] ∨ i + 1 ≠ d.len / 2 ^ d.dstW → dmaResult d r s = (3, i * 2 ^ d.dstW, s)) ∧
    (r.failed = [d.len / 2 ^ d.dstW - 1] → 0 < d.len / 2 ^ d.dstW → dmaResult d r s = (4, d.len - 2 ^ d.dstW, s)) ∧
    (r.failed = [] → r.noRead = true → dmaResult d r s = (2, r.issued * 2 ^ d.dstW, s)) ∧
    (r.failed = [] → r.noRead = false → (dmaResult d r s).1 = 1)) ∧
  (let t := dmaEnd c code ofs s
   (s.canon → code < 8 → t.flag (F.DMA_STAT_BUSY c) = false ∧ t.get (F.DMA_STAT_LAST c) = code ∧
     t.get (F.DMA_STAT_HEAD c) = (s.get (F.DMA_STAT_HEAD c) + 1) % 2 ^ (min 12 (s.get (F.DMA_CTL_SIZE c)) + 4)) ∧
   t.dram = s.dram.setRun (dmaDescAt c s + 24) (bytesLe 4 code ++ bytesLe 4 ofs) ∧ t.host = s.host ∧ t.chans = s.chans ∧
   (code ≠ 1 → t.raised = s.raised ++ [⟨hostSrc 30, 0xFFFF, code, 0⟩]) ∧ (code = 1 → t.raised = s.raised))

/-- Parts of R13, R36, R37, R74, R377, R519, R558, R569. A write of CHn.ENABLE = 1 applies the image's values and begins the check, unless a
check runs or the channel is enabled; a write of 0 abandons a check, or takes the channel out of service and drains it. The check ends in
PHASE LOADING, or the enable is refused with its reason, counted. The channel becomes READY with its lists once the heads are loaded, and
is refused with reason 0x10 when neither copy can be read. A fence acts on a failed channel, or on a disabled one with no item in
progress. A channel reset needs expert access, retracts, fences and returns the channel's registers; a spindle that turned coasts. The
defect lists are those of the system area, first read at the first CHANNEL_READY. Each of these commands is shown to answer a next state
with its own effect, under conditions on the state and its operands alone: channelReset, channelEnable, channelDisable, channelReady,
channelFence, consistencyCheckEnd. -/
def Obligations.ChannelLife : Prop := ∀ (n : Ch) (path : RegPath) (o : CheckObs) (m : MediaLists) (s : State),
  let a := (F.PAGE_ENABLE_EN n).addr
  let b := F.RST_CHRST_REQ.addr
  let u := breakSeq s
  let w := { u with rst := { u.rst with reen := u.rst.reen.set n none } }
  let off := (s.setFlag (F.PAGE_ENABLE_EN n) false).set (F.PAGE_ENABLE_PHASE n) 0
  (Reached a s →
    (u.flag (F.PAGE_ENABLE_EN n) = true ∨ u.get (F.PAGE_ENABLE_PHASE n) = 1 → exec (.channelEnable n) s = .next w) ∧
    (u.flag (F.PAGE_ENABLE_EN n) = false → u.get (F.PAGE_ENABLE_PHASE n) ≠ 1 →
      exec (.channelEnable n) s = .next ((applyChannel n w).set (F.PAGE_ENABLE_PHASE n) 1)) ∧
    (u.get (F.PAGE_ENABLE_PHASE n) = 1 → exec (.channelDisable n) s = .next (checkDone n.val 0 (u.set (F.PAGE_ENABLE_PHASE n) 0))) ∧
    (u.get (F.PAGE_ENABLE_PHASE n) ≠ 1 → u.flag (F.PAGE_ENABLE_EN n) = false →
      exec (.channelDisable n) s = .next (u.set (F.PAGE_ENABLE_PHASE n) 0)) ∧
    (u.get (F.PAGE_ENABLE_PHASE n) ≠ 1 → u.flag (F.PAGE_ENABLE_EN n) = true → exec (.channelDisable n) s = .next (drainChan n (chanUnavailable n
      (saveTables n ((u.setFlag (F.PAGE_ENABLE_EN n) false).set (F.PAGE_ENABLE_PHASE n) 0)).chanEvent)))) ∧
  (s.get (F.PAGE_ENABLE_PHASE n) ≠ 1 → exec (.consistencyCheckEnd (.channel n) o) s = .next s) ∧
  (s.get (F.PAGE_ENABLE_PHASE n) = 1 →
    (chanReason n o s = 0 → exec (.consistencyCheckEnd (.channel n) o) s = .next (checkDone n.val 0 (enablePass n s))) ∧
    (∀ r, chanReason n o s = r → r ≠ 0 → exec (.consistencyCheckEnd (.channel n) o) s = .next (checkDone n.val r (loseChan n
      (((s.set (F.PAGE_ENABLE_PHASE n) 4).set (F.PAGE_ENABLE_STATUS_REASON n) r).inc (F.PAGE_ENABLE_STATUS_COUNT n)))))) ∧
  (s.get (F.PAGE_ENABLE_PHASE n) ≠ 2 → exec (.channelReady n none) s = .next s ∧ exec (.channelReady n (some m)) s = .next s) ∧
  (s.get (F.PAGE_ENABLE_PHASE n) = 2 →
    exec (.channelReady n none) s = .next ((off.set (F.PAGE_ENABLE_STATUS_REASON n) 0x10).inc (F.PAGE_ENABLE_STATUS_COUNT n)).chanEvent ∧
    (s.flag (F.CTL_STAT_LOADED n) = false → exec (.channelReady n (some m)) s = .next s) ∧
    (s.flag (F.CTL_STAT_LOADED n) = true →
      let t := takeLists n m s
      let t := { t with boot := { t.boot with chUp := t.boot.chUp ||| (1#8 <<< n.val) } }
      exec (.channelReady n (some m)) s = .next (pump (placeParked n (t.set (F.PAGE_ENABLE_PHASE n) 3)).chanEvent))) ∧
  (chanFailed n s = true → exec (.channelFence n) s = .next (fenceChan n s)) ∧
  (chanFailed n s = false → s.flag (F.PAGE_ENABLE_EN n) = true → exec (.channelFence n) s = .next s) ∧
  (chanFailed n s = false → s.flag (F.PAGE_ENABLE_EN n) = false → (∀ i ∈ (s.chan n).sched.ring, i.taken = false) →
    exec (.channelFence n) s = .next (fenceChan n s)) ∧
  (Reached b s →
    (MayWrite path b s → exec (.channelReset path n) s = .next (chanReset n u)) ∧
    (path ≠ .mgmt → addrOpen b u = false → exec (.channelReset path n) s = .next (discard b u))) ∧
  (takeLists n m s = let a := ((s.chan n).sys).getD ⟨m.prim, m.wedges, m.grown⟩
    defectSync n (setGrown n a.grown (s.modChan n fun c =>
      { c with sys := some a, sched := { c.sched with prim := a.prim, wedges := a.wedges, unrec := 0 } }))) ∧
  (let t := resetChan n s
   (s.canon → motState n s ≠ stOff → motState n t = stCoast) ∧
   (t.chan n).mot = { Motor.reset with speed := (s.mot n).speed } ∧ (t.servo n).tbl = (s.servo n).tbl ∧ (t.chan n).sched.ring = [] ∧
   (∀ k : Ch, k ≠ n → t.chan k = s.chan k) ∧ t.dram = s.dram ∧ t.store = s.store ∧ t.host = s.host)

/-- Parts of R377, R507, R509, R511, R512, R514 to R517, R519, R520, R523, R524. A report that is not suppressed sets its status bit, is
counted, recorded and held as the first while FIRST is free, and overflows it otherwise; the consequence of its class and its reactions
follow only when the bit was clear. A write of ones clears the bits whose conditions have ended, and no other. A Device-fatal source
enters the safe state once. FORCE_SAFE, a collector's own fault, and the watchdog of MGMT are sources. MGMT enables a channel again, its
spindle first, at most three times within an hour. A report on its way wins over a write of ones (the model's choice, log entry 41). Each
of these commands is shown to answer a next state with its own effect, under conditions on the state and its operands alone:
faultSourceLatch, faultStatusClear, faultForceSafe, faultChipRst, faultSelf, mgmtChannelReenable, mgmtWdog, cacheBlockReset,
reamBlockReset, dmaBlockReset. -/
def Obligations.FaultCollector : Prop := ∀ (r : Raise) (src : Nat) (i : Fin 12) (v : W32) (path : RegPath) (n : Ch) (s : State),
  let a := F.FAULT_CTL_FORCE_SAFE.addr
  let c := F.FAULT_CTL_CHIP_RST.addr
  let w := (F.FAULT_STATUS_SRC i.val).addr
  let u := breakSeq s
  let pl := bytesLe 2 r.inst ++ bytesLe 2 r.cause ++ bytesLe 4 r.status
  let t := ((s.setBit (F.FAULT_STATUS_SRC (r.src / 32)) (r.src % 32) true).inc (F.FAULT_REACT_COUNT r.src)).inc F.FAULT_STAT_LATCH_CNT
  let rec_ := putFirst r.src (if t.colo.repeats r.src 1 (payload16 pl) then t.colo.headSeq else t.colo.next) (t.record r.src 1 pl)
  (∀ same : Nat, let now := (s.raised.take (same + 1)).foldl (fun l x => insertRaise x l) []
    exec (.faultSourceLatch same) s = .next (({ s with raised := s.raised.drop (same + 1) }).each now latchOne) ∧
    now.Pairwise (fun x y => x.src ≤ y.src) ∧ now.Perm (s.raised.take (same + 1))) ∧
  (∀ rest, s.raised = r :: rest → exec (.faultSourceLatch 0) s = .next (latchOne r { s with raised := rest })) ∧
  (suppressed r.src s = true → latchOne r s = s) ∧
  (suppressed r.src s = false → srcStatus r.src s = true → latchOne r s = rec_) ∧
  (suppressed r.src s = false → srcStatus r.src s = false → latchOne r s = react r.src (consequence r.src rec_)) ∧
  (classReset src < 2 → consequence src s = s) ∧
  (classReset src = 3 ∨ classReset src = 4 → consequence src s = enterSafe src s) ∧
  (s.flag F.FAULT_STAT_SAFE = true → classReset src = 3 → enterSafe src s = s) ∧
  (s.flag F.FAULT_FIRST_VALID = true → ∀ q, putFirst src q s = s.setFlag F.FAULT_STAT_OVF true) ∧
  (Reached w s → exec (.faultStatusClear i v) s = .next
    (u.each ((List.range 32).filter fun b => v.getLsbD b && srcStatus (32 * i + b) u && !condition (32 * i + b) u && !reported (32 * i + b) u)
      fun b t => (t.setBit (F.FAULT_STATUS_SRC ((32 * i + b) / 32)) ((32 * i + b) % 32) false).record (32 * i + b) 2 [])) ∧
  (Reached a s → (MayWrite path a s → exec (.faultForceSafe path) s = .next (u.raise (hostSrc 36))) ∧
    (path ≠ .mgmt → addrOpen a u = false → exec (.faultForceSafe path) s = .next (discard a u))) ∧
  (Reached c s →
    (u.flag F.PWR_SUPPLY_PLOSS = true ∨ u.rst.chip ≠ none ∨ u.rst.waitRel = true → exec .faultChipRst s = .next u) ∧
    (u.flag F.PWR_SUPPLY_PLOSS = false → u.rst.chip = none → u.rst.waitRel = false → exec .faultChipRst s = .next
      ((((({ (resetRecord 7 0 u) with rst := { u.rst with chip := some (3, none) } }).setFlag F.NVME_INTAKE_FETCH_STOP true).each
        allCtls stopCmds).each allChans fun m x => if sectorBegun m x then x else parkHeads m true x)))) ∧
  exec .faultSelf s = .next (enterSafe (hostSrc 34) (latchOne ⟨hostSrc 34, 0xFFFF, 0, 0⟩ (s.setFlag F.FAULT_STAT_SELF true))) ∧
  exec .mgmtWdog s = .next (s.raise (hostSrc 37)) ∧
  (s.rst.reen[n] = none ∨ spinsUp n s = true → exec (.mgmtChannelReenable n) s = .next s) ∧
  (s.rst.reen[n] = some src → spinsUp n s = false →
    (3 ≤ (reenables n s).length → exec (.mgmtChannelReenable n) s = .next { s with rst := { s.rst with reen := s.rst.reen.set n none } }) ∧
    ((reenables n s).length < 3 → needsStart n s = true → exec (.mgmtChannelReenable n) s = .next (mgmtStart n s)) ∧
    ((reenables n s).length < 3 → needsStart n s = false → exec (.mgmtChannelReenable n) s = .next (enableStart n (breakSeq
      { s with rst := { s.rst with reen := s.rst.reen.set n none, reenAt := s.rst.reenAt.set n (reenables n s ++ [s.fly.pot]) } })))) ∧
  (exec .dmaBlockReset s = .next ((resetRecord 6 5 s).resetRegs 0x600000 0x700000) ∧
    exec .cacheBlockReset s = .next (cacheFlush (resetRecord 6 3 s)) ∧
    (s.host.cmds = [] → s.host.wb = [] → exec .reamBlockReset s = .next (pump (reamClear (resetRecord 6 4 s)))))

/-- Parts of R526, R530, R533, R534, R536. An event equal to the newest, unmirrored record repeats it; another takes the next number at the
head of the ring. A mirror page holds up to 512 records, the oldest first; a page that fails is reported and nothing is mirrored. The
limit is raised when the head passes it less 8,388,608. A read of CHAL gives a fresh challenge, or zero during a lockout. The right
response within its time empties ring and mirror, keeps the numbering and clears the failures; any other is denied, counted, and the third
locks out. Each of these commands is shown to answer a next state with its own effect, under conditions on the state and its operands
alone: coloMirrorPage, coloReservationExtend, coloChallengeRead, coloClear, coloLockoutEnd. -/
def Obligations.ColophonRules : Prop := ∀ (src code : Nat) (pl : List Nat) (resp : W32) (inTime : Bool) (s : State),
  let u := breakSeq s
  let c := s.colo
  let page := c.unmirrored.reverse.take 512
  let d := fun (t : State) => coloDeny t
  (s.colo.repeats src code pl = true → coloWrite src code pl s = { s with colo := c.again }) ∧
  (s.colo.repeats src code pl = false → c.recs.length < 8192 →
    coloWrite src code pl s = { s with colo := { c with recs := ⟨c.next, src, code, 1, pl⟩ :: c.recs, next := c.next + 1 } }) ∧
  (s.flag F.COLO_STAT_MIRROR = false ∨ page = [] → ∀ ok, exec (.coloMirrorPage ok) s = .next s) ∧
  (s.flag F.COLO_STAT_MIRROR = true → page ≠ [] →
    exec (.coloMirrorPage false) s = .next (s.raise (hostSrc 42)) ∧
    exec (.coloMirrorPage true) s = .next { s with colo := { c with
      mirNext := (page.getLast?.map fun r => r.seq + 1).getD c.mirNext
      mirror := (page.reverse ++ c.mirror).take 1048576 } }) ∧
  (∀ l, c.limit = some l →
    (l < c.headSeq + 8388608 → exec .coloReservationExtend s = .next { s with colo := { c with limit := some (l + 16777216) } }) ∧
    (c.headSeq + 8388608 ≤ l → exec .coloReservationExtend s = .next s)) ∧
  (c.limit = none → exec .coloReservationExtend s = .next s) ∧
  (s.flag F.COLO_STAT_LOCKOUT = true → exec .coloChallengeRead s = .next { (s.set F.COLO_CHAL_CHAL 0) with colo := { c with chal := none } }) ∧
  (s.flag F.COLO_STAT_LOCKOUT = false → ∃ v, v < 4294967296 ∧ exec .coloChallengeRead s = .next
    { (s.used.set F.COLO_CHAL_CHAL v) with colo := { c with chal := some v } }) ∧
  (Reached 0x110018 s →
    (coloAccepts resp inTime u = true → exec (.coloClear resp inTime) s = .next
      ((({ u with colo := { u.colo with recs := [], mirror := [], mirNext := u.colo.next, lastClr := u.colo.headSeq, chal := none } } : State).set
        F.COLO_STAT_CLEAR_FAILS 0).record (hostIdent 0x0A) 0x0400
          (bytesLe 6 ((u.colo.mirror.getLast?.map fun r => r.seq).getD u.colo.oldest) ++ bytesLe 6 u.colo.headSeq))) ∧
    (coloAccepts resp inTime u = false → exec (.coloClear resp inTime) s = .next (d u))) ∧
  (∀ q, c.chal = some q →
    let f := min 3 (s.get F.COLO_STAT_CLEAR_FAILS + 1)
    let t := ({ s with colo := { c with chal := none } } : State).set F.COLO_STAT_CLEAR_FAILS f
    d s = (if f = 3 then t.setFlag F.COLO_STAT_LOCKOUT true else t).record (hostIdent 0x0A) 0x0401 (bytesLe 4 q ++ [f])) ∧
  (coloAccepts resp inTime s = true ↔ ∃ q, c.chal = some q ∧ inTime = true ∧ s.fuses.clearkey.val ≠ 0 ∧ resp.toNat = coloAnswer s.fuses q) ∧
  (s.flag F.COLO_STAT_LOCKOUT = true → exec .coloLockoutEnd s = .next ((s.setFlag F.COLO_STAT_LOCKOUT false).set F.COLO_STAT_CLEAR_FAILS 0)) ∧
  (s.flag F.COLO_STAT_LOCKOUT = false → exec .coloLockoutEnd s = .next s)

/-- Parts of R25, R541, R545, R551, R552, R554, R556, R567. A power loss or a rail trip runs the sequence to its step 5 once: no chip reset
stays, no command is fetched, no copy goes on, the report is made, and VHOLD is an open value. A checkpoint cut short fails its check. A
power-on reset keeps fuses, flash and media and gives every register its reset value but CAUSE, the sensed supplies and the layouts; a
brown-out acts after a power loss only. RST_N holds the chip in reset until it is released. A chip reset waits for the heads and for a
sector being written, then gives CAUSE. A PLL that loses lock, and a crystal that stops, clear the lock bits and are reported once. A
sample of temperature gives the hottest sensor. Each of these commands is shown to answer a next state with its own effect, under
conditions on the state and its operands alone: pllUnlock, crystalStop, tempSample, tempCrit, powerLoss, railTrip, brownOutReset,
powerOnReset, rstNAssert, chipResetTaken, clkSscWrite, rstNRelease, perstRelease, vholdBelowMinimum. -/
def Obligations.ResetsAndSupplies : Prop := ∀ (bifur fuseSame : Bool) (path : RegPath) (v : BitVec 3) (p : PllId) (x : Vector Int 9) (q : Ctl)
    (cause : Nat) (src : Option Nat) (s : State),
  let u := breakSeq s
  let a := F.CLK_SSC_FAB_SS.addr
  (s.flag F.PWR_SUPPLY_PLOSS = true → exec .powerLoss s = .next s ∧ exec .railTrip s = .next s) ∧
  (s.flag F.PWR_SUPPLY_PLOSS = false →
    let seq := fun (rail : Bool) =>
      let t := (({ s with rst := { s.rst with chip := none } }).setFlag F.PWR_SUPPLY_PLOSS true).setFlag F.PWR_SUPPLY_RAIL_TRIP rail
      let t := t.setFlag F.PWR_SUPPLY_VIN_OK (rail && s.flag F.PWR_SUPPLY_VIN_OK)
      let t := ((t.setFlag F.NVME_INTAKE_FETCH_STOP true).raise (hostSrc 41)).each plossDomains fun d u => setLocks d false (setDom d false u)
      ((t.each allChans fun c u => u.setFlag (F.DMA_STAT_BUSY c) false).each allChans plossChan).set F.PWR_SUPPLY_STEP 5
    let fin := fun (t : State) =>
      let v := t.fresh.toNat % 1024
      ({ t with rst := { t.rst with ckptOpen := (t.get F.FLY_STAT_STATE == 2 || t.get F.FLY_STAT_STATE == 3) && decide (t.get F.PWR_HOLDCFG_CKPT_THR < v) } }).used.set
        F.PWR_SUPPLY_VHOLD v
    exec .powerLoss s = .next (fin (seq false)) ∧ exec .railTrip s = .next (fin (seq true))) ∧
  (s.flag F.PWR_SUPPLY_PLOSS = true → s.rst.ckptOpen = true → exec .vholdBelowMinimum s = .next
    ((flyLast false { s with rst := { s.rst with ckptOpen := false } }).set F.PWR_SUPPLY_STEP 6)) ∧
  (s.flag F.PWR_SUPPLY_PLOSS = false ∨ s.rst.ckptOpen = false → exec .vholdBelowMinimum s = .next s) ∧
  (s.flag F.PWR_SUPPLY_PLOSS = false → exec .brownOutReset s = .next s) ∧
  (s.flag F.PWR_SUPPLY_PLOSS = true → exec .brownOutReset s = .next (powerOn 5 s.boot.bifur true s)) ∧
  (s.canon → ∃ t, exec (.powerOnReset bifur fuseSame) s = .next t ∧ t.get F.RST_CAUSE_CAUSE = 1 ∧ t.boot.bifur = bifur ∧ t.boot.slots = s.boot.slots ∧
    t.boot.booted = false ∧ t.flag F.PWR_SUPPLY_VIN_OK = true ∧ t.flag F.PWR_SUPPLY_PLOSS = false ∧ t.flag F.FAULT_STAT_SAFE = false ∧
    t.host.cmds = [] ∧ t.host.sqs = [] ∧ t.dram = NatMap.empty ∧ t.colo.mirror = (if s.rst.ckptOpen then flyLast true s else s).colo.mirror ∧
    t.fuses.serial = s.fuses.serial ∧ t.pending = s.pending) ∧
  (s.rst.rstLow = true → exec .rstNAssert s = .next s) ∧
  (s.rst.rstLow = false → exec .rstNAssert s = .next (startChip 2 none { s with rst := { s.rst with rstLow := true } })) ∧
  (let t := { s with rst := { s.rst with rstLow := false, waitRel := false } }
   exec .rstNRelease s = .next (if s.rst.waitRel then requestOn [43, 36, 37, 35, 49, 32, 33] t else t)) ∧
  (s.rst.chip = none → exec .chipResetTaken s = .next s) ∧
  (s.rst.chip = some (cause, src) → (∃ n : Ch, s.flag (F.MOT_STAT_RETRACTING n) = true ∨ sectorBegun n s = true) → exec .chipResetTaken s = .next s) ∧
  (s.rst.chip = some (cause, src) → (∀ n : Ch, s.flag (F.MOT_STAT_RETRACTING n) = false ∧ sectorBegun n s = false) → cause < 16 → s.canon →
    ∃ t, exec .chipResetTaken s = .next t ∧ t.get F.RST_CAUSE_CAUSE = cause ∧ t.rst.chip = none ∧ t.dram = s.dram ∧ t.host.cmds = [] ∧
      t.fuses.keyhash = s.fuses.keyhash ∧ t.pending = s.pending ∧ t.boot.booted = false) ∧
  (s.rst.perst[q] = false → exec (.perstRelease q) s = .next s) ∧
  (s.rst.perst[q] = true → s.boot.nextAct = none → exec (.perstRelease q) s = .next { s with rst := { s.rst with perst := s.rst.perst.set q false } }) ∧
  (s.bit (pllBit p).1 (pllBit p).2 = false → exec (.pllUnlock p) s = .next s) ∧
  (∀ (n : Ch) (k : Fin 3), s.bit F.CLK_PLLSTAT_CH_LOCK (3 * n.val + k.val) = true → exec (.pllUnlock (.channel n k)) s = .next
    ((s.setBit F.CLK_PLLSTAT_CH_LOCK (3 * n.val + k.val) false).raise (chSrc n 35) 0xFFFF k.val)) ∧
  (∀ k : Fin 6, s.bit F.CLK_PLLSTAT_HOST_LOCK k.val = true → exec (.pllUnlock (.host k)) s = .next
    ((s.setBit F.CLK_PLLSTAT_HOST_LOCK k.val false).raise (hostSrc 38) 0xFFFF k.val)) ∧
  (s.canon → s.get F.CLK_PLLSTAT_CH_LOCK = 0 → s.get F.CLK_PLLSTAT_HOST_LOCK = 0 →
    exec .crystalStop s = .next (s.setFlag F.CLK_PLLSTAT_XTAL_OK false)) ∧
  (Reached a s → MayWrite path a s → exec (.clkSscWrite path v) s = .next
    (((u.setFlag F.CLK_SSC_FAB_SS (v.getLsbD 0)).setFlag F.CLK_SSC_NAND_SS (v.getLsbD 1)).setFlag F.CLK_SSC_MGMT_SS (v.getLsbD 2))) ∧
  (Reached a s → path ≠ .mgmt → addrOpen a u = false → exec (.clkSscWrite path v) s = .next (discard a u)) ∧
  (let h := hottest x
   let t := (s.set F.PWR_TEMP_TJ (toBits 8 (satI 8 h.2))).set F.PWR_TEMP_SENSOR h.1
   let m := if sext 8 (s.get F.PWR_TEMP_TJ_MAX) < satI 8 h.2 then t.set F.PWR_TEMP_TJ_MAX (toBits 8 (satI 8 h.2)) else t
   (100 < h.2 → s.rst.hot = false → exec (.tempSample x) s = .next { (m.raise (hostSrc 39)) with rst := { m.rst with hot := true } }) ∧
   (100 < h.2 → s.rst.hot = true → exec (.tempSample x) s = .next m) ∧
   (h.2 < 95 → exec (.tempSample x) s = .next { m with rst := { m.rst with hot := false } }) ∧
   (95 ≤ h.2 → h.2 ≤ 100 → exec (.tempSample x) s = .next m) ∧
   h.1 < 9 ∧ ∀ i : Fin 9, x[i] ≤ h.2) ∧
  exec .tempCrit s = .next (s.raise (hostSrc 40))

/-- Parts of R36, R546 to R550, R559 to R566. A request of domains is discarded when it breaks the order; the fixed bits stand. A domain comes
on once its rail is requested and the domains it needs are on, and none during the power-loss sequence; it then has its locks. The boot
checks the active slot, then the other, and otherwise runs from mask ROM; a rejection gives its code and is reported. The fuses of
rollback follow the running image, never back. Keys are programmed once, with the right key word. Each of these commands is shown to
answer a next state with its own effect, under conditions on the state and its operands alone: bootImageCheck, rollbackFuseUpdate,
fuseProgramCommit, pwrDomctlWrite, domainOnComplete. -/
def Obligations.DomainsAndBoot : Prop := ∀ (path : RegPath) (v : W32) (d : Fin 50) (bad : List (Nat × Nat)) (key : W16) (back r0 r1 : Bool)
    (g h : Image) (s : State),
  let u := breakSeq s
  let lo := (F.PWR_DOMCTL_REQ 0).addr
  let hi := (F.PWR_DOMCTL_REQ 1).addr
  let k := F.RST_FUSEPROG_KEY.addr
  let req := fun (w : Nat) => if reqClosed (reqFixed (domReq u) w) = true then dropDomains (setReq (reqFixed (domReq u) w) u) else u
  let stay := s.boot.booted = true ∨ domOn 43 s = false ∨ s.rst.waitRel = true ∨ s.rst.chip ≠ none ∨ s.flag F.PWR_SUPPLY_PLOSS = true
  (Reached lo s → MayWrite path lo s → exec (.pwrDomctlWrite path false v) s = .next (req (domReq u / 4294967296 * 4294967296 + v.toNat))) ∧
  (Reached hi s → MayWrite path hi s → exec (.pwrDomctlWrite path true v) s = .next
    (req (domReq u % 4294967296 + v.toNat % 262144 * 4294967296))) ∧
  (Reached lo s → path ≠ .mgmt → addrOpen lo u = false → exec (.pwrDomctlWrite path false v) s = .next (discard lo u)) ∧
  (Reached hi s → path ≠ .mgmt → addrOpen hi u = false → exec (.pwrDomctlWrite path true v) s = .next (discard hi u)) ∧
  (∀ (o w : Nat), [45, 46, 47, 48].all (fun i => (reqFixed o w).testBit i == o.testBit i)) ∧
  (domOn d s = true ∨ (∃ x ∈ domNeeds d, domOn x s = false) ∨ s.flag F.PWR_SUPPLY_PLOSS = true → exec (.domainOnComplete d bad) s = .next s) ∧
  (domOn d s = false → s.flag F.PWR_SUPPLY_PLOSS = false → (∀ x ∈ domNeeds d, domOn x s = true) → (domReq s).testBit d = true → d.val ≠ 36 → s.boot.booted = false →
    exec (.domainOnComplete d bad) s = .next (setLocks d true (setDom d true (bist d bad s)))) ∧
  (stay → exec (.bootImageCheck r0 r1) s = .next s) ∧
  (¬stay → s.boot.active = 0 →
    (s.boot.slots[0] = some g → imageReason (some g) r0 s = 0 → exec (.bootImageCheck r0 r1) s = .next
      (bootImage 0 g (s.set F.RST_BOOTSTAT_REJ0 0))) ∧
    (∀ a b, imageReason s.boot.slots[0] r0 s = a → a ≠ 0 → imageReason s.boot.slots[1] r1 s = b →
      let t := (s.set F.RST_BOOTSTAT_REJ0 a).raise (hostSrc 43) 0 a
      (b = 0 → s.boot.slots[1] = some h → exec (.bootImageCheck r0 r1) s = .next (bootImage 1 h (t.set F.RST_BOOTSTAT_REJ1 0))) ∧
      (b ≠ 0 → exec (.bootImageCheck r0 r1) s = .next (bootRecovery ((t.set F.RST_BOOTSTAT_REJ1 b).raise (hostSrc 43) 1 b))))) ∧
  (imageReason none true s = 1 ∧ imageReason none false s = 2) ∧
  (imageReason (some g) true s = 0 → g.magic = 0xC7A11A6E ∧ g.format = 1 ∧ g.sigOk = true ∧ g.hashOk = true ∧ rollbackF s ≤ g.rollback ∧
    keyOk g s = true) ∧
  (s.boot.image = none → exec .rollbackFuseUpdate s = .next s) ∧
  (s.boot.image = some g → g.rollback ≤ rollbackF s → exec .rollbackFuseUpdate s = .next s) ∧
  (s.boot.image = some g → rollbackF s < g.rollback → (s.ctlr 0).rdy = true → ∃ t, exec .rollbackFuseUpdate s = .next t ∧
    t.fuses = { s.fuses with rbA := 2 ^ g.rollback - 1, rbB := 2 ^ g.rollback - 1 } ∧ OnlyRegs [F.RST_BOOTSTAT_FUSE_RB] { s with fuses := t.fuses } t) ∧
  (Reached k s → MayWrite path k s →
    (key ≠ 0xF05E → exec (.fuseProgramCommit path key back) s = .next u) ∧
    (u.fuses.keyhash.blank = false ∨ u.fuses.clearkey.blank = false →
      exec (.fuseProgramCommit path 0xF05E back) s = .next (u.set F.RST_FUSEPROG_RESULT 2)) ∧
    (u.fuses.keyhash.blank = true → u.fuses.clearkey.blank = true →
      let t := { u with fuses := { u.fuses with keyhash := windowField 0 48 u, clearkey := windowField 48 32 u } }
      exec (.fuseProgramCommit path 0xF05E back) s = .next
        ((t.setFlag F.RST_FUSEPROG_BLANK (t.fuses.keyhash.blank && t.fuses.clearkey.blank)).set F.RST_FUSEPROG_RESULT (if back then 1 else 3)))) ∧
  (Reached k s → path ≠ .mgmt → addrOpen k u = false → exec (.fuseProgramCommit path key back) s = .next (discard k u))

/-- Parts of R345, R573, R574, R577 to R581, R583, R584. A first word arms a sequence, breaking an earlier one; the second word of the same
path and identity opens the block unless it is denied or comes from MGMT, and otherwise the sequence fails and is counted; the close word
closes. ACCERR is cleared. A write to a window that is off is counted; one of a size or an alignment that is not allowed is discarded and
counted; a 32 bit write goes to its register. RW fields take the bits written, RWL and RWS fields only from a writer that may. A sideband
access answers with its status, and with the bytes read; one that is not aligned is refused. Each of these commands is shown to answer a
next state with its own effect, under conditions on the state and its operands alone: expertUnlockFirst, expertUnlockSecond, expertClose,
accerrClear, registerWrite, sidebandRead32, sidebandWrite32, sidebandRead64, sidebandWrite64. -/
def Obligations.AccessesOfTheSetUpSpace : Prop := ∀ (path : RegPath) (blk : W16) (addr : BitVec 26) (bytes : Nat) (v : W64) (a32 d32 : W32) (f : Fld)
    (fs : List Fld) (o : Bool) (w : Nat) (s : State),
  let u := breakSeq s
  let off := { (s.setFlag F.GLB_EXPERT_STAT_ARMED false) with rst := { s.rst with armed := [] } }
  let a := addr.toNat
  exec (.expertUnlockFirst path blk) s = .next ((({ u with rst := { u.rst with armed := [(path, blk.toNat)] } } : State).setFlag
    F.GLB_EXPERT_STAT_ARMED true).setFlag F.GLB_EXPERT_STAT_ARM_PATH (path == .sideband)) ∧
  (s.rst.armed = [(path, blk.toNat)] → path ≠ .mgmt → s.flag F.GLB_EXPERT_DENY_DENY = false →
    (blk.toNat < 8 → exec (.expertUnlockSecond path blk) s = .next (off.setBit F.GLB_EXPERT_STAT_CH_OPEN blk.toNat true)) ∧
    (0x10 ≤ blk.toNat → blk.toNat ≤ 0x1A → exec (.expertUnlockSecond path blk) s = .next
      (off.setBit F.GLB_EXPERT_STAT_HOST_OPEN (blk.toNat - 0x10) true)) ∧
    (blk = 0xFFFF → exec (.expertUnlockSecond path blk) s = .next
      ((off.set F.GLB_EXPERT_STAT_CH_OPEN 0xFF).set F.GLB_EXPERT_STAT_HOST_OPEN 0x7FF)) ∧
    (8 ≤ blk.toNat → blk.toNat < 0x10 → exec (.expertUnlockSecond path blk) s = .next (off.inc F.GLB_EXPERT_STAT_FAIL_CNT))) ∧
  (s.rst.armed ≠ [(path, blk.toNat)] ∨ path = .mgmt ∨ s.flag F.GLB_EXPERT_DENY_DENY = true →
    exec (.expertUnlockSecond path blk) s = .next (off.inc F.GLB_EXPERT_STAT_FAIL_CNT)) ∧
  (blk.toNat < 8 → exec (.expertClose path blk) s = .next (u.setBit F.GLB_EXPERT_STAT_CH_OPEN blk.toNat false)) ∧
  (blk = 0xFFFF → exec (.expertClose path blk) s = .next ((u.set F.GLB_EXPERT_STAT_CH_OPEN 0).set F.GLB_EXPERT_STAT_HOST_OPEN 0)) ∧
  (exec .accerrClear s = .next (u.resetRegs 0x50 0x58)) ∧
  (a ≠ 0x40 → bytes ≠ 8 → a % 0x100 ≠ 8 →
    (windowOff a u = true → exec (.registerWrite path addr bytes v) s = .next (u.inc F.GLB_ACCERR_OFF_CNT)) ∧
    (windowOff a u = false → sramAt a = none → fuseWindow a = false → bytes ≠ 4 ∨ a % 4 ≠ 0 →
      exec (.registerWrite path addr bytes v) s = .next (u.inc F.GLB_ACCERR_SIZE_CNT)) ∧
    (windowOff a u = false → sramAt a = none → fuseWindow a = false → bytes = 4 → a % 4 = 0 →
      exec (.registerWrite path addr bytes v) s = .next (regWrite path a (v.toNat % 4294967296) u))) ∧
  (path ≠ .mgmt → addrOpen w s = false → guarded w bytes = true → w ≠ 0x100010 → regWrite path w bytes s = discard w s) ∧
  (f.acc = .rw → fieldHeld f s = false → storeFields o [f] w s = s.set f (fieldBits f w)) ∧
  (f.acc = .ro ∨ f.acc = .wo ∨ f.acc = .w1c → storeFields o [f] w s = s) ∧
  (f.acc = .rwl ∨ f.acc = .rws → fieldHeld f s = false → storeFields true [f] w s = s.set f (fieldBits f w)) ∧
  (f.acc = .rwl ∨ f.acc = .rws → storeFields false [f] w s = discard f.addr s) ∧
  SameRegsBut (F.GLB_ACCERR_LOCKED_CNT :: F.GLB_ACCERR_ADDR_ADDR :: fs) s (storeFields o fs w s) ∧
  (domOn 45 s = false → exec (.sidebandRead32 a32) s = .next s ∧ exec (.sidebandRead64 a32) s = .next s ∧
    exec (.sidebandWrite32 a32 d32) s = .next s ∧ exec (.sidebandWrite64 a32 v) s = .next s) ∧
  (domOn 45 s = true →
    (a32.toNat % 4 ≠ 0 → exec (.sidebandRead32 a32) s = .next (sideAnswer 3 [] s) ∧ exec (.sidebandWrite32 a32 d32) s = .next (sideAnswer 3 [] s)) ∧
    (a32.toNat % 8 ≠ 0 → exec (.sidebandRead64 a32) s = .next (sideAnswer 3 [] s) ∧ exec (.sidebandWrite64 a32 v) s = .next (sideAnswer 3 [] s)) ∧
    (∀ x t, a32.toNat % 4 = 0 → setupRead a32.toNat 4 s = (some x, t) → exec (.sidebandRead32 a32) s = .next (sideAnswer 0 (bytesLe 4 x) t)) ∧
    (∀ x t, a32.toNat % 8 = 0 → setupRead a32.toNat 8 s = (some x, t) → exec (.sidebandRead64 a32) s = .next (sideAnswer 0 (bytesLe 8 x) t)) ∧
    (∀ t, a32.toNat % 4 = 0 → setupRead a32.toNat 4 s = (none, t) → exec (.sidebandRead32 a32) s = .next (sideAnswer 1 [] t)) ∧
    (∀ t k, a32.toNat % 4 = 0 → a32.toNat < 0x4000000 → regWriteAll .sideband a32.toNat 4 d32.toNat s = (t, k) →
      exec (.sidebandWrite32 a32 d32) s = .next (sideAnswer k [] t)) ∧
    (∀ t k, a32.toNat % 8 = 0 → a32.toNat < 0x4000000 → regWriteAll .sideband a32.toNat 8 v.toNat s = (t, k) →
      exec (.sidebandWrite64 a32 v) s = .next (sideAnswer k [] t)) ∧
    (0x4000000 ≤ a32.toNat → a32.toNat % 4 = 0 → exec (.sidebandWrite32 a32 d32) s = .next (sideAnswer 0 [] u)))

/-- Parts of R343, R344. A target without a dynamic address takes the one assigned; RSTDAA takes it away. The directed codes are answered, and
act, only with a dynamic address: MWL and MRL are read and set, in-band interrupts enabled and disabled. NVMe-MI is answered while its
domain is on: the MTU is set from 64 up and read; a message or an admin command that is not supported answers with its code, one that is
joins the table of commands outside every queue. Response codes and identifiers are those of NVMe-MI (the model's choice, log entry 7).
Each of these commands is shown to answer a next state with its own effect, under conditions on the state and its operands alone:
miReadDataStructure, miSubsystemHealthPoll, miControllerHealthPoll, miConfigurationSet, miConfigurationGet, miAdminCommand, i3cEntdaa,
i3cSetdasa, i3cRstdaa, i3cGetpid, i3cGetbcr, i3cGetdcr, i3cGetmwl, i3cGetmrl, i3cSetmwl, i3cSetmrl, i3cEnec, i3cDisec. -/
def Obligations.SidebandMessages : Prop := ∀ (a st : BitVec 7) (v : W16) (ev ident : Byte) (c : Ctl) (e : Sqe) (s : State),
  let x := s.host.i3c
  let i := fun (y : I3c) => { s with host := { s.host with i3c := y } }
  let ans := fun (k : Nat) (bs : List Nat) (t : State) => t.modHost fun h => { h with i3c := { h.i3c with stat := k, ans := bs } }
  (x.dyn = none → exec (.i3cEntdaa a) s = .next (i { x with dyn := some a.toNat }) ∧
    (x.static = st.toNat → exec (.i3cSetdasa st a) s = .next (i { x with dyn := some a.toNat })) ∧
    exec .i3cGetpid s = .next (i { x with ans := [] }) ∧ exec .i3cGetbcr s = .next (i { x with ans := [] }) ∧
    exec .i3cGetdcr s = .next (i { x with ans := [] }) ∧ exec .i3cGetmwl s = .next (i { x with ans := [] }) ∧
    exec .i3cGetmrl s = .next (i { x with ans := [] }) ∧ exec (.i3cSetmwl v) s = .next s ∧ exec (.i3cSetmrl v) s = .next s ∧
    exec (.i3cEnec ev) s = .next s ∧ exec (.i3cDisec ev) s = .next s) ∧
  (x.dyn ≠ none → exec (.i3cEntdaa a) s = .next s ∧ exec (.i3cSetdasa st a) s = .next s ∧
    exec .i3cGetpid s = .next (i { x with ans := (bytesLe 6 Config.i3cPid.toNat).reverse }) ∧
    exec .i3cGetbcr s = .next (i { x with ans := [Config.i3cBcr.toNat] }) ∧ exec .i3cGetdcr s = .next (i { x with ans := [Config.i3cDcr.toNat] }) ∧
    exec .i3cGetmwl s = .next (i { x with ans := (bytesLe 2 x.mwl).reverse }) ∧
    exec .i3cGetmrl s = .next (i { x with ans := (bytesLe 2 x.mrl).reverse }) ∧
    exec (.i3cSetmwl v) s = .next (i { x with mwl := v.toNat }) ∧ exec (.i3cSetmrl v) s = .next (i { x with mrl := v.toNat }) ∧
    exec (.i3cEnec ev) s = .next (i { x with evEn := x.evEn || ev.getLsbD 0 }) ∧
    exec (.i3cDisec ev) s = .next (i { x with evEn := x.evEn && !ev.getLsbD 0 })) ∧
  (x.static ≠ st.toNat → exec (.i3cSetdasa st a) s = .next s) ∧
  exec .i3cRstdaa s = .next (i { x with dyn := none }) ∧
  (domOn 45 s = false → exec .miReadDataStructure s = .next s ∧ exec .miSubsystemHealthPoll s = .next s ∧
    exec (.miControllerHealthPoll c) s = .next s ∧ exec (.miConfigurationSet ident v) s = .next s ∧ exec (.miConfigurationGet ident) s = .next s ∧
    exec (.miAdminCommand c e) s = .next s) ∧
  (domOn 45 s = true →
    (∃ bs, bs.length = 32 ∧ exec .miReadDataStructure s = .next (ans 0 bs s).used) ∧
    (∃ bs, bs.length = 8 ∧ exec .miSubsystemHealthPoll s = .next (ans 0 bs s).used) ∧
    (portThere c s = true → ∃ bs, bs.length = 16 ∧ exec (.miControllerHealthPoll c) s = .next (ans 0 bs s).used) ∧
    (portThere c s = false → exec (.miControllerHealthPoll c) s = .next (ans 4 [] s)) ∧
    (ident = 3 → 64 ≤ v.toNat → exec (.miConfigurationSet ident v) s = .next (ans 0 [] (i { x with mtu := v.toNat }))) ∧
    (ident = 3 → v.toNat < 64 → exec (.miConfigurationSet ident v) s = .next (ans 4 [] s)) ∧
    (ident = 3 → exec (.miConfigurationGet ident) s = .next (ans 0 (bytesLe 2 (x.mtu % 65536)) s)) ∧
    (ident = 2 → exec (.miConfigurationSet ident v) s = .next (ans 0 [] (i { x with hsc := v.toNat })) ∧
      exec (.miConfigurationGet ident) s = .next (ans 0 (bytesLe 2 x.hsc) s)) ∧
    (ident ≠ 2 → ident ≠ 3 → exec (.miConfigurationSet ident v) s = .next (ans 4 [] s) ∧ exec (.miConfigurationGet ident) s = .next (ans 4 [] s)) ∧
    (e.opc ∉ [0x02#8, 0x06#8, 0x09#8, 0x0A#8, 0x10#8, 0x11#8, 0x14#8] → exec (.miAdminCommand c e) s = .next (ans 3 [] s)) ∧
    (e.opc = 0x06#8 → portThere c s = true → s.flag F.FAULT_STAT_SAFE = false →
      exec (.miAdminCommand c e) s = .next (ans 0 [] (addCmd c 65536 e (adminCheck e s) s))))

/-- Parts of R320, R331, R340, R366. A doorbell of a queue that does not exist, or of one being deleted, changes nothing. A tail within the
queue that adds no more than the free entries moves the tail and adds the entries; a head within the queue moves the head. Any other value
is an invalid doorbell write: the first is recorded, each raises its source and is reported, and the queues stay. The coalescing timer
sends the message of a vector that holds entries. Bookmarks past their window are dropped. Each of these commands is shown to answer a
next state with its own effect, under conditions on the state and its operands alone: sqTailDoorbell, cqHeadDoorbell,
interruptCoalescingTimer, bookmarkExpire. -/
def Obligations.Doorbells : Prop := ∀ (c : Ctl) (qid tail head vec now : Nat) (q : Sq) (x : Cq) (s : State),
  let add := (tail + q.size - q.tail) % q.size
  let keep := fun (b : Bookmark) => match s.ns b.nsid with | some v => decide (now < b.pot + v.window) | none => false
  (s.sq c qid = none → exec (.sqTailDoorbell c qid tail) s = .next s) ∧
  (s.sq c qid = some q →
    (q.gone = true → exec (.sqTailDoorbell c qid tail) s = .next s) ∧
    (q.gone = false → tail < q.size → add = 0 ∨ add + q.avail < q.size →
      exec (.sqTailDoorbell c qid tail) s = .next (s.modSq c qid fun y => { y with tail := tail, avail := y.avail + add })) ∧
    (q.gone = false → q.size ≤ tail ∨ (0 < add ∧ q.size ≤ add + q.avail) →
      exec (.sqTailDoorbell c qid tail) s = .next (badDoorbell c qid false s))) ∧
  (s.cq c qid = none → exec (.cqHeadDoorbell c qid head) s = .next s) ∧
  (s.cq c qid = some x →
    (head < x.size → exec (.cqHeadDoorbell c qid head) s = .next (s.modCq c qid fun y => { y with head := head })) ∧
    (x.size ≤ head → exec (.cqHeadDoorbell c qid head) s = .next (badDoorbell c qid true s))) ∧
  (∀ isCq, let t := badDoorbell c qid isCq s
    t.raised = s.raised ++ [⟨hostSrc 4, c.val, 0, 0⟩] ∧ t.host.sqs = s.host.sqs ∧ t.host.cqs = s.host.cqs ∧ t.host.cmds = s.host.cmds ∧
    SameMem s t ∧ SameRegsBut [F.NVME_DBERR_VALID, F.NVME_DBERR_QID, F.NVME_DBERR_CQ, F.NVME_DBERR_CTRL] s t ∧
    (aecEnables (s.ctlr c).aec 1 1 = true → (1, 0) ∉ (s.ctlr c).masked → (⟨1, 1, 1⟩ : AsyncEv) ∈ (t.ctlr c).events) ∧
    (s.flag F.NVME_DBERR_VALID = true → t.regs = s.regs) ∧
    (s.canon → s.flag F.NVME_DBERR_VALID = false → qid < 1024 → t.flag F.NVME_DBERR_VALID = true ∧ t.get F.NVME_DBERR_QID = qid ∧
      t.flag F.NVME_DBERR_CQ = isCq ∧ t.get F.NVME_DBERR_CTRL = c.val)) ∧
  (vecHeld c vec s = 0 → exec (.interruptCoalescingTimer c vec) s = .next s) ∧
  (0 < vecHeld c vec s → exec (.interruptCoalescingTimer c vec) s = .next (sendMsix c vec s)) ∧
  (let t := sendMsix c vec s
   vecHeld c vec t = 0 ∧ (t.ctlr c).msix = (s.ctlr c).msix ++ [vec] ∧ OnlyHost s t ∧ t.host.cmds = s.host.cmds) ∧
  exec (.bookmarkExpire now) s = .next (bkSync (s.modFly fun y => { y with pot := max now y.pot, bms := y.bms.filter keep }))

/-- Parts of R19, R317, R319 to R323, R334, R348, R354, R358, R364, R375. A fetch takes the entries of the granted queue, at most 2^AB, and
none from a controller that is not ready or while intake is stopped; the admin queue comes first. An entry joins the table in the order of
fetch. The data of a write fails with a transfer error and its source, with the first check that fails, or goes on; ranges, keys,
identifiers or an image that a command reads from host memory fail it likewise before it has begun. A completion is handed over once it is
decided, its queue has room and no earlier overlapping write is open, and is discarded when its controller was reset; posting it writes
the entry in the tail slot with its command's submission queue head, identifier, status and the phase tag, advances the tail, the phase
turning as it wraps, interrupts, and the command leaves the table. Each of these commands is shown to answer a next state with its own
effect, under conditions on the state and its operands alone: commandFetch, completionEntryHandoff, completionPosted,
hostDataTransferDone, stampOriginalEnded, rangeLockGrant. -/
def Obligations.FetchAndCompletion : Prop := ∀ (c : Ctl) (es : List Sqe) (e : Sqe) (k n : Nat) (d : Cmd) (v : Ns) (q : Sq) (u : Ctlr) (x : Cq)
    (ok : Bool) (data : List Block) (s : State),
  ((s.ctlr c).en = false ∨ (s.ctlr c).rdy = false ∨ s.flag F.NVME_INTAKE_FETCH_STOP = true → exec (.commandFetch c es) s = .next s) ∧
  ((s.ctlr c).en = true → (s.ctlr c).rdy = true → s.flag F.NVME_INTAKE_FETCH_STOP = false →
    (arbitrate c s = none → exec (.commandFetch c es) s = .next s) ∧
    (arbitrate c s = some (q, u) → (s.ctlr c).arb % 8 = n → exec (.commandFetch c es) s = .next
      (fetchMany c q.qid (es.take (if n = 7 then q.avail else min q.avail (2 ^ n))) (s.modCtlr c fun _ => u)))) ∧
  (∀ a, s.sq c 0 = some a → 0 < a.avail → ∃ b, arbitrate c s = some (b, s.ctlr c) ∧ b.ctl = c ∧ b.qid = 0) ∧
  (arbitrate c s = some (q, u) → q ∈ s.host.sqs ∧ q.ctl = c ∧ 0 < q.avail) ∧
  (let t := fetchOne c 0 e s
   (∃ y, t.host.cmds = s.host.cmds ++ [y] ∧ y.k = s.host.nextK ∧ y.ctl = c ∧ y.qid = 0 ∧ y.e = e ∧ y.posting = false ∧
      y.status = if s.flag F.FAULT_STAT_SAFE then some stInternal else adminCheck e s) ∧
   t.host.nextK = s.host.nextK + 1 ∧ t.host.nss = s.host.nss ∧ SameMem s t) ∧
  (s.cmd k = none → exec (.hostDataTransferDone k ok data) s = .next s ∧ exec (.completionEntryHandoff k) s = .next s ∧
    exec (.completionPosted k) s = .next s ∧ exec (.stampOriginalEnded k) s = .next s) ∧
  (s.cmd k = some d →
    (d.status ≠ none → exec (.hostDataTransferDone k ok data) s = .next s) ∧
    (d.wantXfer = false → d.status = none →
      (ok = true ∨ d.started = true ∨ readsHost d = false → exec (.hostDataTransferDone k ok data) s = .next s) ∧
      (ok = false → d.started = false → readsHost d = true →
        exec (.hostDataTransferDone k ok data) s = .next ((failCmd k stTransfer s).raise (hostSrc 2) d.ctl.val))) ∧
    (d.wantXfer = true → d.status = none →
      (ok = false ∨ data.length ≠ d.handles.length →
        exec (.hostDataTransferDone k ok data) s = .next ((failCmd k stTransfer s).raise (hostSrc 2) d.ctl.val)) ∧
      (ok = true → data.length = d.handles.length → s.ns d.e.ns = none →
        exec (.hostDataTransferDone k ok data) s = .next (failCmd k stInvalidNs s)) ∧
      (ok = true → data.length = d.handles.length → s.ns d.e.ns = some v →
        let base := (d.ranges.head?.map fun r => r.lba).getD 0
        let go := fun bs => beginEffect d v (d.handles.zipIdx.map fun y => ⟨base + y.2, 1, 1, some y.1, none⟩)
          ((putBlocks d.handles bs s).modCmd k fun z => { z with wantXfer := false })
        (piInserts v d.e = true → exec (.hostDataTransferDone k ok data) s =
          .next (go (data.zipIdx.map fun y => { y.1 with md := piMake v d.e y.2 y.1.data }))) ∧
        (piInserts v d.e = false → (∀ st, (data.zipIdx.findSome? fun y => piCheck v d.e y.2 y.1) = some st →
          exec (.hostDataTransferDone k ok data) s = .next (failCmd k st s))) ∧
        (piInserts v d.e = false → (data.zipIdx.findSome? fun y => piCheck v d.e y.2 y.1) = none →
          exec (.hostDataTransferDone k ok data) s = .next (go data)))) ∧
    (cmdDecide k s = s → d.posting = true ∨ d.status = none → exec (.completionEntryHandoff k) s = .next s) ∧
    (d.status ≠ none → d.posting = false →
      (d.dead = true → exec (.completionEntryHandoff k) s = .next (retireCmd d s)) ∧
      (d.dead = false → s.flag F.PWR_SUPPLY_PLOSS = true ∨ writeBefore d s = true ∨ (∃ a, d.after = some a ∧ s.cmd a ≠ none) →
        exec (.completionEntryHandoff k) s = .next s) ∧
      (d.dead = false → s.flag F.PWR_SUPPLY_PLOSS = false → writeBefore d s = false → (∀ a, d.after = some a → s.cmd a = none) →
        (d.qid = 65536 → exec (.completionEntryHandoff k) s = .next (s.modCmd k fun z => { z with posting := true })) ∧
        (d.qid ≠ 65536 → cmdCq d s = none → exec (.completionEntryHandoff k) s = .next s) ∧
        (d.qid ≠ 65536 → cmdCq d s = some x → cqRoom x s = false → exec (.completionEntryHandoff k) s = .next s) ∧
        (d.qid ≠ 65536 → cmdCq d s = some x → cqRoom x s = true →
          exec (.completionEntryHandoff k) s = .next (s.modCmd k fun z => { z with posting := true })))) ∧
    (d.posting = false ∨ s.flag F.PWR_SUPPLY_PLOSS = true → exec (.completionPosted k) s = .next s) ∧
    (d.posting = true → s.flag F.PWR_SUPPLY_PLOSS = false →
      (cmdCq d s = none → exec (.completionPosted k) s = .next (retireCmd d s)) ∧
      (cmdCq d s = some x → exec (.completionPosted k) s = .next (retireCmd d (interrupt x (d.status.getD 0) (writeCqe x d s))))) ∧
    (let nx := (x.tail + 1) % x.size
     let y : Cqe := ⟨x.tail, d.dw0, d.dw1, match s.sq d.ctl d.qid with | some z => (z.tail + z.size - z.avail) % z.size | none => 0,
        d.qid, d.e.cid.toNat, x.phase, d.status.getD 0⟩
     writeCqe x d s = s.modCq x.ctl x.qid fun z => { z with
       tail := nx, phase := if nx = 0 then !z.phase else z.phase, cqes := y :: z.cqes.filter fun w => w.slot != x.tail }) ∧
    (d.stampWait = none ∨ d.status ≠ none ∨ stampHeld d s ≠ none → exec (.stampOriginalEnded k) s = .next s) ∧
    (d.stampWait ≠ none → d.status = none → stampHeld d s = none → exec (.stampOriginalEnded k) s = .next
      (stampLookup { d with stampWait := none } (s.modCmd k fun z => { z with stampWait := none })).2)) ∧
  (exec .rangeLockGrant s = .next (lockGrant s)) ∧
  ((∀ y ∈ s.host.cmds, y.lockWait = false) → lockGrant s = s) ∧
  (s.cmd k = some d → locking d s = true → (∀ l ∈ s.host.locks, l.k ≠ k) →
    (s.host.locks.length + (lockEntries d).length ≤ 256 → (takeLocks k s).host.locks = s.host.locks ++ lockEntries d) ∧
    (256 < s.host.locks.length + (lockEntries d).length → (takeLocks k s).host.locks = s.host.locks ∧
      (takeLocks k s).cmd k = some { d with lockWait := true }))

/-- Parts of R314, R317, R318, R346, R347, R375, R376, R409. A controller whose port exists is enabled with settings that are accepted, gets
its admin queues and becomes ready; refused settings leave it disabled. A reset of an enabled controller ends its commands, takes its
queues away and returns its registers, saved features and the error log apart; RDY falls only when no run-on command is left. Orderly
shutdown of the last enabled controller saves the learned tables and writes a FULL checkpoint, an abrupt one a SHORT one. A link that goes
down is counted and raised; one that trains shows its rate and width, a narrow one is raised. A port that does not exist takes no event.
Each of these commands is shown to answer a next state with its own effect, under conditions on the state and its operands alone:
controllerEnable, controllerReset, runOnCommandsDone, functionLevelReset, perstAssert, orderlyShutdown, abruptShutdown, hostLinkDown,
linkTrained, poisonedHostWriteTlp, hostAerUncorrectable. -/
def Obligations.ControllersAndPorts : Prop := ∀ (c : Ctl) (ams iosqes iocqes a b rate width kind : Nat) (s : State),
  let x := s.ctlr c
  let rate' := if c = 0 then F.NVME_PORTSTAT_RATE0 else F.NVME_PORTSTAT_RATE1
  let width' := if c = 0 then F.NVME_PORTSTAT_WIDTH0 else F.NVME_PORTSTAT_WIDTH1
  let port := fun (r w : Nat) (t : State) => (t.set rate' r).set width' w
  let there := c = 0 ∨ s.boot.bifur = true
  (x.en = false → x.rdy = false → there → s.rst.perst[c] = false → s.boot.booted = true → s.rst.chip = none →
    (ams < 2 → iosqes = 6 → iocqes = 4 → exec (.controllerEnable c ams iosqes iocqes a b) s = .next ((s.modCtlr c fun y =>
      { y with en := true, rdy := true, ams := ams, shst := 0 }).modHost fun h => { h with
        sqs := h.sqs ++ [⟨c, 0, a % 4096 + 1, 0, 0, 0, 0, false⟩], cqs := h.cqs ++ [⟨c, 0, b % 4096 + 1, 0, true, 0, 0, 0, true, []⟩] })) ∧
    (2 ≤ ams ∨ iosqes ≠ 6 ∨ iocqes ≠ 4 → exec (.controllerEnable c ams iosqes iocqes a b) s = .next s)) ∧
  (x.en = true ∨ x.rdy = true ∨ ¬ there ∨ s.rst.perst[c] = true ∨ s.boot.booted = false ∨ s.rst.chip ≠ none →
    exec (.controllerEnable c ams iosqes iocqes a b) s = .next s) ∧
  (x.en = false → exec (.controllerReset c) s = .next s ∧ exec (.orderlyShutdown c) s = .next s ∧ exec (.abruptShutdown c) s = .next s) ∧
  (exec (.controllerReset c) s = .next (ctlReset 2 c s)) ∧
  (x.en = true →
    let t := stopCmds c (markBusy c (resetRecord kind c.val s))
    ctlReset kind c s = (lockGrant (t.modHost fun h => { h with sqs := h.sqs.filter fun q => q.ctl != c, cqs := h.cqs.filter fun q =>
      q.ctl != c })).modCtlr c ctlClear ∧ (∀ q ∈ (ctlReset kind c s).host.sqs, q.ctl ≠ c) ∧ (∀ q ∈ (ctlReset kind c s).host.cqs, q.ctl ≠ c)) ∧
  (let y := ctlClear x
   y.en = false ∧ y.rdy = x.rdy ∧ y.shst = 0 ∧ y.nq = none ∧ y.hostId = none ∧ y.aers = [] ∧ y.events = [] ∧ y.masked = [] ∧ y.msix = [] ∧
     y.saved = x.saved ∧ y.errs = x.errs ∧ y.arb = savedOr x 0x01 0x07030003 ∧ y.coal = savedOr x 0x08 0 ∧ y.aec = savedOr x 0x0B 0) ∧
  (there → exec (.functionLevelReset c) s = .next (ctlReset 3 c s) ∧
    exec (.poisonedHostWriteTlp c) s = .next (s.modCtlr c fun y => { y with aerLog := y.aerLog + 1 }) ∧
    exec (.hostAerUncorrectable c) s = .next ((s.modCtlr c fun y => { y with aerLog := y.aerLog + 1 }).raise (hostSrc 3) c.val) ∧
    exec (.hostLinkDown c) s = .next (((port 0 0 s).inc F.NVME_PORTSTAT_DOWN_CNT).raise (hostSrc 0) c.val) ∧
    (s.rst.perst[c] = true → exec (.perstAssert c) s = .next s ∧ exec (.linkTrained c rate width) s = .next s) ∧
    (s.rst.perst[c] = false →
      (let t := { s with rst := { s.rst with perst := s.rst.perst.set c true } }
       (s.rst.chip ≠ none → exec (.perstAssert c) s = .next t) ∧
       (s.rst.chip = none → exec (.perstAssert c) s = .next (ctlReset 4 c (port 0 0 t)))) ∧
      (1 ≤ rate → rate ≤ 6 →
        (s.boot.bifur = false → exec (.linkTrained c rate 8) s = .next (port rate 8 s)) ∧
        (s.boot.bifur = true → exec (.linkTrained c rate 4) s = .next (port rate 4 s)) ∧
        (s.boot.bifur = false → exec (.linkTrained c rate 4) s = .next ((port rate 4 s).raise (hostSrc 1) c.val)) ∧
        (width ≠ 4 → width ≠ 8 ∨ s.boot.bifur = true → exec (.linkTrained c rate width) s = .next s)))) ∧
  (¬ there → exec (.functionLevelReset c) s = .next s ∧ exec (.poisonedHostWriteTlp c) s = .next s ∧ exec (.hostAerUncorrectable c) s = .next s ∧
    exec (.hostLinkDown c) s = .next s ∧ exec (.perstAssert c) s = .next s ∧ exec (.linkTrained c rate width) s = .next s) ∧
  (x.en = true → x.shst ≠ 2 →
    exec (.abruptShutdown c) s = .next ((flyCheckpoint false s).modCtlr c fun y => { y with shst := 2 }) ∧
    ((∃ d, (s.ctlr d).en = true ∧ d ≠ c ∧ (s.ctlr d).shst = 0) →
      exec (.orderlyShutdown c) s = .next (s.modCtlr c fun y => { y with shst := 1 })) ∧
    ((∀ d, (s.ctlr d).en = true → d ≠ c → (s.ctlr d).shst ≠ 0) → ∃ t, exec (.orderlyShutdown c) s = .next t ∧
      (∀ d, (s.ctlr d).en = true → (t.ctlr d).shst = 2) ∧
      t.fly = (flyCheckpoint true (tablesToFly (s.modCtlr c fun y => { y with shst := 1 }))).fly)) ∧
  (x.shst = 2 → exec (.abruptShutdown c) s = .next s ∧ exec (.orderlyShutdown c) s = .next s) ∧
  (let t := s.each (s.host.cmds.filter fun d => d.ctl == c && d.dead) fun d u => handoff d.k u
   let runs := fun (d : Cmd) => d.ctl = c ∧ d.dead = true ∧ (d.qid ≠ 0 ∨ d.e.opc ∉ [0x80#8, 0x84#8, 0x10#8])
   ((t.ctlr c).en = true ∨ (∃ d ∈ t.host.cmds, runs d) → exec (.runOnCommandsDone c) s = .next t) ∧
   ((t.ctlr c).en = false → (∀ d ∈ t.host.cmds, ¬ runs d) →
     exec (.runOnCommandsDone c) s = .next (t.modCtlr c fun y => { y with rdy := false })))

/-- Parts of R319, R325, R334 to R338, R340. The queue commands create a queue or refuse it, and delete a queue or refuse it: an unknown or
taken identifier, a size under two entries, a completion queue that is missing or in use, a vector beyond the port's, a queue that is not
contiguous. A deleted submission queue is not fetched from, its commands are cancelled as by Abort, Low class included. An Abort acts on
its target as the target stands: aborted, or not, and then after the target's own completion. Eight event requests may be outstanding; a
pending event that is not masked completes the oldest one and masks its page. Status codes are those of NVM Express (the model's choice,
log entry 7). Each of these commands is shown to answer a next state with its own effect, under conditions on the state and its operands
alone: deleteIoSubmissionQueue, createIoSubmissionQueue, deleteIoCompletionQueue, createIoCompletionQueue, abort, asyncEventRequest,
asyncEventPosted. -/
def Obligations.QueueCommands : Prop := ∀ (k : Nat) (c : Cmd) (q : Sq) (d : Cmd) (n : Ctl) (ev : AsyncEv) (i : Nat) (is : List Nat) (s : State),
  let u := markStarted k s
  let qid := c.e.cdw10.toNat % 65536
  let size := c.e.cdw10.toNat / 65536 + 1
  let hi := c.e.cdw11.toNat / 65536
  let lim := (s.ctlr c.ctl).nq.getD (queueLimit s, queueLimit s)
  (BeginsAdmin k c 0x01 s →
    (qid = 0 ∨ lim.1 < qid ∨ s.sq c.ctl qid ≠ none → exec (.createIoSubmissionQueue k) s = .next (u.finish k (sct 1 0x01))) ∧
    (qid ≠ 0 → qid ≤ lim.1 → s.sq c.ctl qid = none →
      (size < 2 → exec (.createIoSubmissionQueue k) s = .next (u.finish k (sct 1 0x02))) ∧
      (2 ≤ size → hi = 0 ∨ s.cq c.ctl hi = none → exec (.createIoSubmissionQueue k) s = .next (u.finish k (sct 1 0x00))) ∧
      (2 ≤ size → hi ≠ 0 → s.cq c.ctl hi ≠ none →
        (c.e.cdw11.getLsbD 0 = false → exec (.createIoSubmissionQueue k) s = .next (u.finish k stField)) ∧
        (c.e.cdw11.getLsbD 0 = true → exec (.createIoSubmissionQueue k) s = .next ((u.modHost fun h => { h with
          sqs := h.sqs ++ [⟨c.ctl, qid, size, hi, c.e.cdw11.toNat / 2 % 4, 0, 0, false⟩] }).finish k stOk))))) ∧
  (BeginsAdmin k c 0x05 s →
    (qid = 0 ∨ lim.2 < qid ∨ s.cq c.ctl qid ≠ none → exec (.createIoCompletionQueue k) s = .next (u.finish k (sct 1 0x01))) ∧
    (qid ≠ 0 → qid ≤ lim.2 → s.cq c.ctl qid = none →
      (size < 2 → exec (.createIoCompletionQueue k) s = .next (u.finish k (sct 1 0x02))) ∧
      (2 ≤ size → queueLimit s < hi → exec (.createIoCompletionQueue k) s = .next (u.finish k (sct 1 0x08))) ∧
      (2 ≤ size → hi ≤ queueLimit s → c.e.cdw11.getLsbD 0 = false → exec (.createIoCompletionQueue k) s = .next (u.finish k stField)) ∧
      (2 ≤ size → hi ≤ queueLimit s → c.e.cdw11.getLsbD 0 = true → exec (.createIoCompletionQueue k) s = .next ((u.modHost fun h => { h with
        cqs := h.cqs ++ [⟨c.ctl, qid, size, hi, c.e.cdw11.getLsbD 1, 0, 0, 0, true, []⟩] }).finish k stOk)))) ∧
  (BeginsAdmin k c 0x04 s →
    (qid = 0 ∨ s.cq c.ctl qid = none → exec (.deleteIoCompletionQueue k) s = .next (u.finish k (sct 1 0x01))) ∧
    (qid ≠ 0 → s.cq c.ctl qid ≠ none →
      ((∃ x ∈ s.host.sqs, x.ctl = c.ctl ∧ x.cqid = qid) → exec (.deleteIoCompletionQueue k) s = .next (u.finish k (sct 1 0x0C))) ∧
      ((∀ x ∈ s.host.sqs, x.ctl = c.ctl → x.cqid ≠ qid) → exec (.deleteIoCompletionQueue k) s = .next
        ((u.modHost fun h => { h with cqs := h.cqs.filter fun x => !(x.ctl == c.ctl && x.qid == qid) }).finish k stOk)))) ∧
  (BeginsAdmin k c 0x00 s →
    (qid = 0 ∨ s.sq c.ctl qid = none → exec (.deleteIoSubmissionQueue k) s = .next (u.finish k (sct 1 0x01))) ∧
    (s.sq c.ctl qid = some q → q.gone = true → exec (.deleteIoSubmissionQueue k) s = .next (u.finish k (sct 1 0x01))) ∧
    (qid ≠ 0 → s.sq c.ctl qid = some q → q.gone = false →
      let t := u.modSq c.ctl qid fun x => { x with gone := true, avail := 0 }
      let ks := (s.host.cmds.filter fun x => x.ctl == c.ctl && x.qid == qid).map fun x => x.k
      let t := t.each ks fun j w => match w.cmd j with
        | some x => if abortable true x w then abortCmd j stSqDeleted w else w
        | none => w
      exec (.deleteIoSubmissionQueue k) s = .next (delSync (resetRecord 1 0 ((cancelEver (131072 * c.ctl.val + qid) t).modCmd k fun x =>
        { x with delQ := some qid }))))) ∧
  (BeginsAdmin k c 0x08 s →
    let find := s.host.cmds.find? fun x => x.ctl == c.ctl && x.qid == qid && x.e.cid.toNat == c.e.cdw10.toNat / 65536 && x.k != k
    (8 ≤ abortsBefore c s → exec (.abort k) s = .next (u.finish k (sct 1 0x03))) ∧
    (abortsBefore c s < 8 → find = none → exec (.abort k) s = .next (u.finishDw k stOk 1 0)) ∧
    (abortsBefore c s < 8 → find = some d →
      (abortable false d u = true →
        exec (.abort k) s = .next (((abortCmd d.k stAborted u).inc F.NVME_INTAKE_ABORT_CNT).finishDw k stOk 0 0)) ∧
      (abortable false d u = false → d.posting = false → d.status = none ∨ d.status = some stAborted →
        exec (.abort k) s = .next (u.finishDw k stOk 1 0)) ∧
      (d.posting = true ∨ (d.status ≠ none ∧ d.status ≠ some stAborted) →
        exec (.abort k) s = .next ((u.modCmd k fun x => { x with after := some d.k }).finishDw k stOk 1 0)))) ∧
  (d.posting = false → d.status = none → d.qid ≠ 65536 →
    (d.qid = 0 → (abortable false d s = true ↔ d.e.opc = 0x0C#8)) ∧
    (0 < d.qid → lowClass d s = true → abortable false d s = false) ∧
    (0 < d.qid → d.e.opc = 0x02#8 ∨ d.e.opc = 0x0C#8 → abortable true d s = true) ∧
    (0 < d.qid → d.e.opc = 0x01#8 → (abortable true d s = true ↔ d.phase < 3 ∨ d.begun = false)) ∧
    (0 < d.qid → d.e.opc = 0x19#8 → (abortable true d s = true ↔ d.phase < 3)) ∧
    (0 < d.qid → d.e.opc = 0x08#8 ∨ d.e.opc = 0x09#8 ∨ d.e.opc = 0x79#8 → abortable true d s = false)) ∧
  (BeginsAdmin k c 0x0C s →
    (8 ≤ (s.ctlr c.ctl).aers.length → exec (.asyncEventRequest k) s = .next (u.finish k (sct 1 0x05))) ∧
    ((s.ctlr c.ctl).aers.length < 8 → exec (.asyncEventRequest k) s = .next ((u.modCmd k fun x => { x with items := 1 }).modCtlr c.ctl fun t =>
      { t with aers := t.aers ++ [k] }))) ∧
  ((s.ctlr n).aers = [] ∨ (∀ e ∈ (s.ctlr n).events, e.maskKey ∈ (s.ctlr n).masked) → exec (.asyncEventPosted n) s = .next s) ∧
  ((s.ctlr n).aers = i :: is → ((s.ctlr n).events.find? fun e => !(s.ctlr n).masked.contains e.maskKey) = some ev →
    exec (.asyncEventPosted n) s = .next (((s.modCtlr n fun x => { x with aers := is, events := x.events.erase ev, masked := x.masked ++ [ev.maskKey] }).modCmd
      i fun x => { x with items := 0 }).finishDw i stOk (ev.typ + ev.info * 256 + ev.page * 65536) 0))

/-- Parts of R327 to R329, R407, R417, R442, R535, R554. Identify returns the controller's or the namespace's data, zeroes for a namespace
that is not active, and refuses an identifier out of range. A log page is returned from the offset asked for, one that the page does not
have is refused, and a read without Retain unmasks the page's events; the changed list and the oldest notification are taken by their
read. The SMART page has the spare warning and the temperature in kelvin; the Channel Status, Gathering and Colophon pages have their
entries at the bytes of their tables. Field places are those of NVM Express (the model's choice, log entries 7 and 21). Each of these
commands is shown to answer a next state with its own effect, under conditions on the state and its operands alone: identifyController,
identifyNamespace, identifyIoCmdSetNamespace, getLogErrorInformation, getLogSmartHealth, getLogFirmwareSlot, getLogChangedNamespaceList,
getLogCommandsSupported, getLogDeviceSelfTest, getLogReservationNotification, getLogSanitizeStatus, getLogChannelStatus,
getLogFlyleafStatus, getLogGatheringStatus, getLogColophonRecords, ret. -/
def Obligations.IdentifyAndLogPages : Prop := ∀ (k : Nat) (c : Cmd) (v : Ns) (key : Nat × Nat) (page : List Nat) (s : State),
  let u := markStarted k s
  let ns := c.e.nsid.toNat
  let zero := (u.answer (List.replicate 4096 0)).finish k stOk
  let log := fun (l : Nat) => BeginsAdmin k c 0x02 s ∧ c.e.sel = l
  let bad := fun (len : Nat) => logOfs c.e % 4 ≠ 0 ∨ len < logOfs c.e
  (BeginsAdmin k c 0x06 s →
    (c.e.sel = 1 → exec (.identifyController k) s = .next ((u.used.answer (idController c.ctl u)).finish k stOk)) ∧
    (c.e.sel = 0 ∨ c.e.sel = 5 → ns = 0 ∨ 64 < ns →
      (c.e.sel = 0 → exec (.identifyNamespace k) s = .next (u.finish k stInvalidNs)) ∧
      (c.e.sel = 5 → exec (.identifyIoCmdSetNamespace k) s = .next (u.finish k stInvalidNs))) ∧
    (1 ≤ ns → ns ≤ 64 →
      (s.ns ns = none ∨ (∃ x, s.ns ns = some x ∧ c.ctl ∉ x.attach) →
        (c.e.sel = 0 → exec (.identifyNamespace k) s = .next zero) ∧ (c.e.sel = 5 → exec (.identifyIoCmdSetNamespace k) s = .next zero)) ∧
      (s.ns ns = some v → c.ctl ∈ v.attach →
        (c.e.sel = 0 → exec (.identifyNamespace k) s = .next ((u.used.answer (idNamespace v u)).finish k stOk)) ∧
        (c.e.sel = 5 → exec (.identifyIoCmdSetNamespace k) s = .next ((u.used.answer (idZoned v)).finish k stOk))))) ∧
  (log 0x01 → exec (.getLogErrorInformation k) s = .next (logAnswer c (errPage (s.ctlr c.ctl)) (some (0, 0)) u)) ∧
  (log 0x02 → exec (.getLogSmartHealth k) s = .next (logAnswer c (smartPage u) (some (1, 0)) u.used)) ∧
  (log 0x03 → exec (.getLogFirmwareSlot k) s = .next (logAnswer c (fwPage u) (some (2, 0)) u)) ∧
  (log 0x04 → let t := logAnswer c (changedPage (s.ctlr c.ctl)) (some (2, 0)) u
    (logRae c.e = false → ¬ bad 4096 → exec (.getLogChangedNamespaceList k) s = .next (t.modCtlr c.ctl fun x => { x with changed := [] })) ∧
    (logRae c.e = true ∨ bad 4096 → exec (.getLogChangedNamespaceList k) s = .next t)) ∧
  (log 0x05 → exec (.getLogCommandsSupported k) s = .next (logAnswer c (cmdPage u) none u.used)) ∧
  (log 0x06 → exec (.getLogDeviceSelfTest k) s = .next (logAnswer c (testPage u) none u.used)) ∧
  (log 0x80 → let t := logAnswer c (resPage (s.ctlr c.ctl)) (some (6, 0)) u
    (¬ bad 64 → exec (.getLogReservationNotification k) s = .next (t.modCtlr c.ctl fun x => { x with resLog := x.resLog.drop 1 })) ∧
    (bad 64 → exec (.getLogReservationNotification k) s = .next t)) ∧
  (log 0x81 → exec (.getLogSanitizeStatus k) s = .next (logAnswer c (sanPage u) none u.used)) ∧
  (log 0xC0 → exec (.getLogChannelStatus k) s = .next (logAnswer c (chanPage u) (some (7, 0xC0)) u)) ∧
  (log 0xC1 → exec (.getLogFlyleafStatus k) s = .next (logAnswer c (flyPage u) (some (7, 0xC1)) u)) ∧
  (log 0xC2 → exec (.getLogGatheringStatus k) s = .next (logAnswer c (gathPage u) (some (7, 0xC2)) u)) ∧
  (log 0xC3 → exec (.getLogColophonRecords k) s = .next (coloLog c u)) ∧
  (bad page.length → logAnswer c page (some key) s = s.finish c.k stField) ∧
  (¬ bad page.length → (logAnswer c page (some key) s).host.ret = (page.drop (logOfs c.e)).take (logLen c.e) ∧
    (logAnswer c page (some key) s).host.cmds = (s.finish c.k stOk).host.cmds ∧
    (logRae c.e = true → ((logAnswer c page (some key) s).ctlr c.ctl).masked = (s.ctlr c.ctl).masked) ∧
    (logRae c.e = false → ((logAnswer c page (some key) s).ctlr c.ctl).masked = (s.ctlr c.ctl).masked.filter fun x => x != key)) ∧
  ((chanPage s).length = 512 ∧ ∀ n : Ch, (chanPage s)[64 * n.val]? = some (chanByte n s) ∧
    (chanPage s)[64 * n.val + 1]? = some (s.get (F.MOT_STAT_STATE n)) ∧ (chanPage s)[64 * n.val + 3]? = some (s.get (F.PAGE_ENABLE_STATUS_REASON n)) ∧
    ∀ i, 24 ≤ i → i < 64 → (chanPage s)[64 * n.val + i]? = some 0) ∧
  (∀ n : Ch, chanAbsent n s = true → chanByte n s = 0) ∧
  (∀ n : Ch, chanAbsent n s = false → s.flag F.FAULT_STAT_SAFE = true → chanByte n s = 5) ∧
  (∀ n : Ch, chanAbsent n s = false → s.flag F.FAULT_STAT_SAFE = false → chanFailed n s = true → chanByte n s = 4) ∧
  ((flyPage s).length = 512 ∧ (flyPage s)[0]? = some (s.get F.FLY_STAT_STATE) ∧ (gathPage s).length = 256 ∧ (idNamespace v s).length = 4096) ∧
  ((smartPage s).length = 512 ∧ (∃ b, (smartPage s)[0]? = some b ∧ (b % 2 = 1 ↔ spareLow s = true)) ∧
    (smartPage s)[1]? = some ((junction s + 273).toNat % 256) ∧ (smartPage s)[2]? = some ((junction s + 273).toNat / 256 % 256))

/-- Parts of R36, R319, R323, R330, R331, R341, R342, R362. Set Features writes the feature's value for its controller or namespace, and saves
it where the feature is saveable and Save asks for it; a value that is not allowed, a volatile write cache, a namespace that does not
exist, and Save of a feature that is not saveable are refused. Number of Queues answers the smaller of the request and the limit, before
the first I/O queue. The features of GATH and the Kettle write the set-up registers and wait for a check that runs. Get Features returns
the value in force, the default, the saved one, or the capabilities. Which features are saveable is the model's choice (log entry 20).
Each of these commands is shown to answer a next state with its own effect, under conditions on the state and its operands alone:
setFeatureArbitration, setFeatureErrorRecovery, setFeatureVolatileWriteCache, setFeatureNumberOfQueues, setFeatureInterruptCoalescing,
setFeatureAsyncEventConfig, setFeatureHostIdentifier, setFeatureGatheringLayout, setFeatureDuplicateSuppression, setFeatureKettleGroup,
getFeatures. -/
def Obligations.FeatureValues : Prop := ∀ (k : Nat) (c : Cmd) (id : BitVec 128) (v : Ns) (s : State),
  let u := markStarted k s
  let w := c.e.cdw11
  let ns := c.e.nsid.toNat
  let refuse := u.finish k stField
  let saved := fun (fid x : Nat) (t : State) => (if featSave c.e then saveFeat c.ctl fid x t else t).finish k stOk
  let set := fun (fid : Nat) => BeginsAdmin k c 0x09 s ∧ c.e.sel = fid
  let plain := fun (fid : Nat) => set fid ∧ featSave c.e = false
  (set 0x01 → let a := (w &&& 0xFFFFFF07#32).toNat
    exec (.setFeatureArbitration k) s = .next (saved 0x01 a (u.modCtlr c.ctl fun x => { x with arb := a }))) ∧
  (set 0x08 → let a := w.toNat % 65536
    exec (.setFeatureInterruptCoalescing k) s = .next (saved 0x08 a (u.modCtlr c.ctl fun x => { x with coal := a }))) ∧
  (set 0x0B → exec (.setFeatureAsyncEventConfig k) s = .next (saved 0x0B w.toNat (u.modCtlr c.ctl fun x => { x with aec := w.toNat }))) ∧
  (set 0x06 → exec (.setFeatureVolatileWriteCache k) s = .next refuse) ∧
  (set 0x05 →
    (w.getLsbD 16 = true → exec (.setFeatureErrorRecovery k) s = .next refuse) ∧
    (w.getLsbD 16 = false → ns ≠ 0xFFFFFFFF → ns = 0 ∨ 64 < ns → exec (.setFeatureErrorRecovery k) s = .next (u.finish k stInvalidNs)) ∧
    (w.getLsbD 16 = false → 1 ≤ ns → ns ≤ 64 →
      (s.ns ns = none → exec (.setFeatureErrorRecovery k) s = .next refuse) ∧
      (s.ns ns = some v → exec (.setFeatureErrorRecovery k) s = .next
        (saved (0x05 + 256 * ns) (w.toNat % 65536) (u.modNs ns fun x => { x with tler := w.toNat % 65536 }))))) ∧
  (∀ fid ∈ [0x07, 0x81, 0xC0, 0xC1, 0xC2], set fid → featSave c.e = true →
    (fid = 0x07 → exec (.setFeatureNumberOfQueues k) s = .next (u.finish k (sct 1 0x0D))) ∧
    (fid = 0x81 → exec (.setFeatureHostIdentifier k id) s = .next (u.finish k (sct 1 0x0D))) ∧
    (fid = 0xC0 → exec (.setFeatureGatheringLayout k) s = .next (u.finish k (sct 1 0x0D))) ∧
    (fid = 0xC1 → exec (.setFeatureDuplicateSuppression k) s = .next (u.finish k (sct 1 0x0D))) ∧
    (fid = 0xC2 → exec (.setFeatureKettleGroup k) s = .next (u.finish k (sct 1 0x0D)))) ∧
  (plain 0x07 → let a := w.toNat % 65536; let b := w.toNat / 65536
    let x := min (a + 1) (queueLimit s); let y := min (b + 1) (queueLimit s)
    ((∃ q ∈ s.host.sqs, q.ctl = c.ctl ∧ 0 < q.qid) ∨ (∃ q ∈ s.host.cqs, q.ctl = c.ctl ∧ 0 < q.qid) →
      exec (.setFeatureNumberOfQueues k) s = .next (u.finish k (sct 0 0x0C))) ∧
    ((∀ q ∈ s.host.sqs, q.ctl = c.ctl → q.qid = 0) → (∀ q ∈ s.host.cqs, q.ctl = c.ctl → q.qid = 0) →
      (a = 65535 ∨ b = 65535 → exec (.setFeatureNumberOfQueues k) s = .next refuse) ∧
      (a ≠ 65535 → b ≠ 65535 → exec (.setFeatureNumberOfQueues k) s = .next
        ((u.modCtlr c.ctl fun t => { t with nq := some (x, y) }).finishDw k stOk ((x - 1) + (y - 1) * 65536) 0)))) ∧
  (plain 0x81 → (w.getLsbD 0 = false → exec (.setFeatureHostIdentifier k id) s = .next refuse) ∧
    (w.getLsbD 0 = true → exec (.setFeatureHostIdentifier k id) s = .next ((u.modCtlr c.ctl fun x => { x with hostId := some id.toNat }).finish k stOk))) ∧
  (plain 0xC1 → let win := w.toNat / 2 % 1024; let en := w.getLsbD 0
    (ns = 0 ∨ 64 < ns → exec (.setFeatureDuplicateSuppression k) s = .next (u.finish k stInvalidNs)) ∧
    (1 ≤ ns → ns ≤ 64 →
      (s.ns ns = none ∨ win = 0 ∨ 600 < win ∨ (en = true ∧ s.get F.FLY_STAT_STATE = 0) →
        exec (.setFeatureDuplicateSuppression k) s = .next refuse) ∧
      (s.ns ns = some v → 1 ≤ win → win ≤ 600 → en = false ∨ s.get F.FLY_STAT_STATE ≠ 0 →
        exec (.setFeatureDuplicateSuppression k) s = .next ((u.modNs ns fun x => { x with dup := en, window := win }).finish k stOk)))) ∧
  (plain 0xC0 → exec (.setFeatureGatheringLayout k) s = .next (setLayout c u)) ∧
  (plain 0xC0 → w.getLsbD 13 = false → w.toNat % 256 ≠ 0 → let l : Fin 4 := Fin.ofNat 4 (w.toNat / 16384)
    let t := arbWrite (F.GATH_LAYOUT_CHAN_MASK l).addr (storeReg true (F.GATH_LAYOUT_CHAN_MASK l).addr
      (w.toNat % 256 + w.toNat / 256 % 8 * 256 + w.toNat / 2048 % 4 * 2048 + w.toNat / 65536 % 256 * 65536)) u
    (t.gath.check = none → exec (.setFeatureGatheringLayout k) s = .next (t.finish k stOk)) ∧
    (t.gath.check ≠ none → exec (.setFeatureGatheringLayout k) s = .next (t.modCmd k fun d => { d with waitChk := some 25 }))) ∧
  (plain 0xC2 → exec (.setFeatureKettleGroup k) s = .next (setKettle c u)) ∧
  (plain 0xC2 → (setKettle c u).ket.checking = true → ∃ t, exec (.setFeatureKettleGroup k) s = .next t ∧ ∃ d, t.cmd k = some d ∧ d.waitChk = some 10) ∧
  (BeginsAdmin k c 0x0A s → ∀ x, featValue c s = some x → c.e.sel ≠ 0x81 →
    (featSelect c.e = 0 → exec (.getFeatures k) s = .next (u.finishDw k stOk x 0)) ∧
    (featSelect c.e = 1 → exec (.getFeatures k) s = .next (u.finishDw k stOk (featDefault c.e.sel u) 0)) ∧
    (featSelect c.e = 2 → exec (.getFeatures k) s = .next (u.finishDw k stOk (savedOr (s.ctlr c.ctl) (savedKey c.e) (featDefault c.e.sel u)) 0)) ∧
    (featSelect c.e = 3 → exec (.getFeatures k) s = .next (u.finishDw k stOk (featCaps c.e.sel) 0)) ∧
    (3 < featSelect c.e → exec (.getFeatures k) s = .next refuse)) ∧
  (BeginsAdmin k c 0x0A s → featValue c s = none → exec (.getFeatures k) s = .next (u.finish k stInvalidNs)) ∧
  (BeginsAdmin k c 0x0A s → c.e.sel = 0x81 → featSelect c.e = 0 → exec (.getFeatures k) s = .next
    ((u.answer (bytesLe 16 ((s.ctlr c.ctl).hostId.getD 0))).finishDw k stOk 0 0)) ∧
  (c.e.sel = 0x01 → featValue c s = some (s.ctlr c.ctl).arb) ∧ (c.e.sel = 0x08 → featValue c s = some (s.ctlr c.ctl).coal) ∧
  (c.e.sel = 0xC3 → featValue c s = some (chanByte (Fin.ofNat 8 (w.toNat % 8)) s)) ∧
  (c.e.sel = 0xC2 → featValue c s = some (s.get F.KET_CFG_ROLE + s.get F.KET_CFG_NODE_IDX * 4 + s.get F.KET_CFG_GROUP * 4096 +
    s.get F.KET_PHCFG_PH_EN * 8388608 + s.get F.KET_ENABLE_EN * 16777216))

/-- Parts of R13, R14, R330. A Channel State action with Save is refused; every action but Enable needs a channel that is not absent, and ends
with Channel Unavailable otherwise. Enable requests the channel's domains until they are on, then loads the store if nothing is loaded,
writes EN and waits for the check it started. Disable, Start, Stop and Unload act on the channel and complete; Power-Off disables and
stops the channel, and completes, its domains off, once it is at rest. The phases are the model's choice (log entry 22). Each of these
commands is shown to answer a next state with its own effect, under conditions on the state and its operands alone: channelStateEnable,
channelStateDisable, channelStatePowerOff, channelStateSpindleStart, channelStateSpindleStop, channelStateUnload. -/
def Obligations.ChannelStateActions : Prop := ∀ (k : Nat) (c : Cmd) (act : Nat) (s : State),
  let n : Ch := Fin.ofNat 8 (c.e.cdw11.toNat % 8)
  let u := markStarted k s
  let go := fun (a : Nat) => BeginsAdmin k c 0x09 s ∧ c.e.sel = 0xC3 ∧ c.e.cdw11.toNat / 16 % 16 = a ∧ featSave c.e = false
  (BeginsAdmin k c 0x09 s → c.e.sel = 0xC3 → c.e.cdw11.toNat / 16 % 16 = act → featSave c.e = true →
    (act = 1 → exec (.channelStateEnable k) s = .next (s.finish k (sct 1 0x0D))) ∧
    (act = 2 → exec (.channelStateDisable k) s = .next (s.finish k (sct 1 0x0D))) ∧
    (act = 3 → exec (.channelStatePowerOff k) s = .next (s.finish k (sct 1 0x0D))) ∧
    (act = 4 → exec (.channelStateSpindleStart k) s = .next (s.finish k (sct 1 0x0D))) ∧
    (act = 5 → exec (.channelStateSpindleStop k) s = .next (s.finish k (sct 1 0x0D))) ∧
    (act = 6 → exec (.channelStateUnload k) s = .next (s.finish k (sct 1 0x0D)))) ∧
  (go 1 → chanOn n s = false → exec (.channelStateEnable k) s = .next (chanDomains n true s)) ∧
  (go 1 → chanOn n s = true →
    let load := if s.flag (F.STITCH_VERSION_LOADED n) || s.flag (F.PAGE_ENABLE_EN n) then u else storeLoad n (chanSegments n u) u
    let t := arbWrite (F.PAGE_ENABLE_EN n).addr (enableStart n) load
    (t.get (F.PAGE_ENABLE_PHASE n) = 1 → exec (.channelStateEnable k) s = .next (t.modCmd k fun d => { d with waitChk := some n.val })) ∧
    (t.get (F.PAGE_ENABLE_PHASE n) ≠ 1 → exec (.channelStateEnable k) s = .next (t.finish k stOk))) ∧
  (chanAbsent n s = true →
    (go 2 → exec (.channelStateDisable k) s = .next (u.finish k stChannel)) ∧ (go 3 → exec (.channelStatePowerOff k) s = .next (u.finish k stChannel)) ∧
    (go 4 → exec (.channelStateSpindleStart k) s = .next (u.finish k stChannel)) ∧ (go 5 → exec (.channelStateSpindleStop k) s = .next (u.finish k stChannel)) ∧
    (go 6 → exec (.channelStateUnload k) s = .next (u.finish k stChannel))) ∧
  (chanAbsent n s = false →
    (go 2 → exec (.channelStateDisable k) s = .next ((disableStart n u).finish k stOk)) ∧
    (go 4 → exec (.channelStateSpindleStart k) s = .next ((motCmd (motStart n) u).finish k stOk)) ∧
    (go 5 → exec (.channelStateSpindleStop k) s = .next ((motCmd (motStop n) u).finish k stOk)) ∧
    (go 6 → exec (.channelStateUnload k) s = .next ((startRetract n u).finish k stOk)) ∧
    (go 3 → let t := motCmd (motStop n) (disableStart n s)
      (chanAtRest n t = false → exec (.channelStatePowerOff k) s = .next t) ∧
      (chanAtRest n t = true → exec (.channelStatePowerOff k) s = .next ((markStarted k (chanDomains n false t)).chanEvent.finish k stOk))))

/-- Parts of R70, R325, R332, R340, R390, R392. A create that no check refuses takes the lowest free identifier and the lowest run that fits,
answers the identifier in dword 0, and raises the namespace's generation; a refused one changes nothing. A delete waits until nothing of
the namespace has been started, then takes it away. Attach and Detach change the list of controllers, and the change is reported. Format
waits for earlier writes, then sets the format and erases; Sanitize erases every namespace. Status codes are those of NVM Express (the
model's choice, log entries 7 and 25). Each of these commands is shown to answer a next state with its own effect, under conditions on the
state and its operands alone: namespaceCreate, namespaceDelete, namespaceAttach, namespaceDetach, formatNvm, sanitizeOverwrite. -/
def Obligations.NamespaceCommands : Prop := ∀ (k i base : Nat) (c : Cmd) (d : NsDesc) (cs : List Ctl) (v : Ns) (st : Nat) (s : State),
  let u := markStarted k s
  let csi := c.e.cdw11.toNat / 16777216
  let ns := c.e.nsid.toNat
  let vs := if ns = 0xFFFFFFFF then s.host.nss else s.host.nss.filter fun x => x.nsid == ns
  let fs := if ns = 0xFFFFFFFF then s.host.nss.filter fun x => x.attach.contains c.ctl else s.host.nss.filter fun x => x.nsid == ns
  let w := c.e.cdw10.toNat
  let begin := fun (opc : Byte) (x : Nat) => BeginsAdmin k c opc s ∧ w % 16 = x
  (begin 0x0D 0 →
    (createRefused csi d s = some st → exec (.namespaceCreate k d) s = .next (u.finish k st)) ∧
    (createRefused csi d s = none → ((List.range 64).find? fun j => (s.ns (j + 1)).isNone) = none →
      exec (.namespaceCreate k d) s = .next (u.finish k (sct 1 0x16))) ∧
    (createRefused csi d s = none → ((List.range 64).find? fun j => (s.ns (j + 1)).isNone) = some i →
      (nsRun d s = none → exec (.namespaceCreate k d) s = .next (u.finish k (sct 1 0x15))) ∧
      (nsRun d s = some base → d.place.toNat < 8 → exec (.namespaceCreate k d) s = .next ((nextGen (i + 1) (defectSync (chOf d.place.toNat)
        ((u.modHost fun h => { h with nss := h.nss ++ [newNs (i + 1) d (csi == 2) base] }).modSched (chOf d.place.toNat) fun y =>
          { y with runs := y.runs ++ [⟨base, d.nsze, false, i + 1⟩] }))).finishDw k stOk (i + 1) 0)) ∧
      (nsRun d s = some base → 8 ≤ d.place.toNat → exec (.namespaceCreate k d) s = .next ((nextGen (i + 1)
        (u.modHost fun h => { h with nss := h.nss ++ [newNs (i + 1) d (csi == 2) base] })).finishDw k stOk (i + 1) 0)))) ∧
  (csi ≠ 0 → csi ≠ 2 → createRefused csi d s = some (sct 1 0x29)) ∧
  (csi = 0 ∨ csi = 2 → 1 < d.mode.toNat ∨ 3 < d.attr.toNat ∨ d.b3843 ≠ 0 → createRefused csi d s = some stField) ∧
  (createRefused csi d s = none → d.mode = 0 ∨ d.attr.getLsbD 1 = true → s.get F.FLY_STAT_STATE ≠ 0) ∧
  (createRefused csi d s = none → d.place.toNat < 8 → chanAbsent (chOf d.place.toNat) s = false) ∧
  (begin 0x0D 1 → c.qid = 0 →
    (s.host.nss.filter (fun x => x.nsid == ns) = [] → ns ≠ 0xFFFFFFFF → exec (.namespaceDelete k) s = .next (u.finish k stInvalidNs)) ∧
    ((∃ x ∈ vs, nsQuiet x.nsid s = false) → exec (.namespaceDelete k) s = .next s) ∧
    (vs ≠ [] ∨ ns = 0xFFFFFFFF → (∀ x ∈ vs, nsQuiet x.nsid s = true) →
      exec (.namespaceDelete k) s = .next (u.each vs fun x t => nsDeleteOne k x t))) ∧
  (begin 0x15 0 ∨ begin 0x15 1 →
    let run := if w % 16 = 0 then exec (.namespaceAttach k cs) s else exec (.namespaceDetach k cs) s
    (s.ns ns = none → run = .next (u.finish k stInvalidNs)) ∧
    (s.ns ns = some v → cs = [] ∨ (∃ x ∈ cs, portThere x s = false) → run = .next (u.finish k (sct 1 0x1C))) ∧
    (s.ns ns = some v → cs ≠ [] → (∀ x ∈ cs, portThere x s = true) →
      (w % 16 = 0 → (∃ x ∈ cs, x ∈ v.attach) → run = .next (u.finish k (sct 1 0x18))) ∧
      (w % 16 = 1 → (∃ x ∈ cs, x ∉ v.attach) → run = .next (u.finish k (sct 1 0x1A))) ∧
      (w % 16 = 0 → (∀ x ∈ cs, x ∉ v.attach) → run = .next ((nsChanged v.nsid cs.dedup (u.modNs v.nsid fun y =>
        { y with attach := y.attach ++ cs.dedup })).finish k stOk)) ∧
      (w % 16 = 1 → (∀ x ∈ cs, x ∈ v.attach) → run = .next ((nsChanged v.nsid cs.dedup (u.modNs v.nsid fun y =>
        { y with attach := y.attach.filter fun x => !cs.contains x })).finish k stOk)))) ∧
  (BeginsAdmin k c 0x80 s → c.qid = 0 →
    (ns = 0 ∨ (64 < ns ∧ ns ≠ 0xFFFFFFFF) → exec (.formatNvm k) s = .next (u.finish k stInvalidNs)) ∧
    (1 ≤ ns → ns ≤ 64 ∨ ns = 0xFFFFFFFF →
      (fs = [] ∨ 1 < w / 512 % 8 → exec (.formatNvm k) s = .next (u.finish k stField)) ∧
      (fs ≠ [] → w / 512 % 8 ≤ 1 → 2 < w % 16 ∨ 3 < w / 32 % 8 ∨ (w / 32 % 8 ≠ 0 ∧ w % 16 ≠ 1) →
        exec (.formatNvm k) s = .next (u.finish k (sct 1 0x0A))) ∧
      (fs ≠ [] → w / 512 % 8 ≤ 1 → w % 16 ≤ 2 → w / 32 % 8 ≤ 3 → w / 32 % 8 = 0 ∨ w % 16 = 1 →
        (eraseReady k fs s = false → exec (.formatNvm k) s = .next s) ∧
        (eraseReady k fs s = true → exec (.formatNvm k) s = .next (pump (u.each fs fun x t => nsChanged x.nsid x.attach (eraseNs k x
          (t.modNs x.nsid fun y => { y with lbaf := w % 16, pi := w / 32 % 8, mset := w.testBit 4 })))))))) ∧
  (BeginsAdmin k c 0x84 s → c.qid = 0 → w % 8 = 3 →
    (eraseReady k s.host.nss s = false → exec (.sanitizeOverwrite k) s = .next s) ∧
    (eraseReady k s.host.nss s = true → exec (.sanitizeOverwrite k) s = .next (pump ((u.each s.host.nss fun x t => eraseNs k x t).modHost fun h =>
      { h with sanSt := 1, sanDw := w }))))

/-- Parts of R325, R333, R344, R565. An image is staged by a download in multiples of 4 KiB; a commit writes the staged image to the slot
named when it passes the checks, and otherwise completes with Invalid Firmware Image, no slot changed; immediate activation is refused. A
self-test starts unless one runs, and an abort ends the one that runs. In band the NVMe-MI messages answer as over the sideband. The
slots' numbers and NVMe-MI's codes are the model's choice (log entries 7 and 24), and whether a running test has ended by itself is open
(log entry 19). Each of these commands is shown to answer a next state with its own effect, under conditions on the state and its operands
alone: firmwareImageDownload, firmwareCommitReplace, firmwareCommitReplaceActivate, firmwareCommitImmediate, deviceSelfTestShort,
deviceSelfTestExtended, deviceSelfTestAbort, nvmeMiSend, nvmeMiReceive. -/
def Obligations.FirmwareSelfTestAndMi : Prop := ∀ (k : Nat) (c : Cmd) (img : Image) (i : Fin 2) (s : State),
  let u := markStarted k s
  let w := c.e.cdw10.toNat
  let ca := w / 8 % 8
  let keep := fun (g : Option Image) => match g with | none => False | some x => imageReason (some x) true u = 0
  let put := fun (x : Image) (next : Option Nat) => (({ u with boot := { u.boot with slots := u.boot.slots.set i (some x), nextAct := next } }).record
    (hostIdent 0x08) 0x0300 ([i.val, 0] ++ bytesLe 2 x.baseVer)).finish k stOk
  (BeginsAdmin k c 0x11 s →
    ((w + 1) * 4 % 4096 ≠ 0 ∨ c.e.cdw11.toNat * 4 % 4096 ≠ 0 → exec (.firmwareImageDownload k img) s = .next (u.finish k stField)) ∧
    ((w + 1) * 4 % 4096 = 0 → c.e.cdw11.toNat * 4 % 4096 = 0 →
      exec (.firmwareImageDownload k img) s = .next ({ u with boot := { u.boot with staged := some img } }.finish k stOk))) ∧
  (BeginsAdmin k c 0x10 s →
    (ca = 3 → exec (.firmwareCommitImmediate k) s = .next (u.finish k (sct 1 0x0B))) ∧
    (commitSlot c.e s = none → (ca = 0 → exec (.firmwareCommitReplace k) s = .next (u.finish k (sct 1 0x06))) ∧
      (ca = 1 ∨ ca = 2 → exec (.firmwareCommitReplaceActivate k) s = .next (u.finish k (sct 1 0x06)))) ∧
    (commitSlot c.e s = some i →
      (¬ keep s.boot.staged → (ca = 0 → exec (.firmwareCommitReplace k) s = .next (u.finish k (sct 1 0x07))) ∧
        (ca = 1 → exec (.firmwareCommitReplaceActivate k) s = .next (u.finish k (sct 1 0x07)))) ∧
      (¬ keep s.boot.slots[i] → ca = 2 → exec (.firmwareCommitReplaceActivate k) s = .next (u.finish k (sct 1 0x07))) ∧
      (s.boot.staged = some img → imageReason (some img) true u = 0 →
        (ca = 0 → exec (.firmwareCommitReplace k) s = .next (put img u.boot.nextAct)) ∧
        (ca = 1 → exec (.firmwareCommitReplaceActivate k) s = .next (put img (some i.val)))) ∧
      (s.boot.slots[i] = some img → imageReason (some img) true u = 0 → ca = 2 →
        exec (.firmwareCommitReplaceActivate k) s = .next ({ u with boot := { u.boot with nextAct := some i.val } }.finish k stOk)))) ∧
  ((w % 8 = 0 → commitSlot c.e s = some (Fin.ofNat 2 (1 - s.get F.RST_BOOTSTAT_SLOT))) ∧ (w % 8 = 1 → commitSlot c.e s = some 0) ∧
    (w % 8 = 2 → commitSlot c.e s = some 1) ∧ (2 < w % 8 → commitSlot c.e s = none)) ∧
  (BeginsAdmin k c 0x14 s →
    (let t := testSettle u
     (∀ x, t.host.test = some x →
      (w % 16 = 1 → exec (.deviceSelfTestShort k) s = .next (t.finish k (sct 1 0x1D))) ∧
      (w % 16 = 2 → exec (.deviceSelfTestExtended k) s = .next (t.finish k (sct 1 0x1D))) ∧
      (w % 16 = 15 → exec (.deviceSelfTestAbort k) s = .next ((t.modHost fun h => { h with test := none, tests := (⟨x, 1, 0⟩ :: h.tests).take 20 }).finish k stOk))) ∧
     (t.host.test = none → (w % 16 = 15 → exec (.deviceSelfTestAbort k) s = .next (t.finish k stOk)) ∧
      (w % 16 = 1 → exec (.deviceSelfTestShort k) s = .next ((t.modHost fun h => { h with test := some 1 }).finish k stOk)) ∧
      (w % 16 = 2 → exec (.deviceSelfTestExtended k) s = .next ((t.modHost fun h => { h with test := some 2 }).finish k stOk))))) ∧
  (s.host.test = none → testSettle s = s) ∧
  (BeginsAdmin k c 0x1D s → let x := s.host.i3c; let sub := c.e.cdw12.toNat % 256; let v := c.e.cdw13.toNat % 65536
    let i := fun (y : I3c) => (u.modHost fun h => { h with i3c := y }).finishDw k stOk 0 0
    (c.e.cdw11.toNat % 256 ≠ 3 → exec (.nvmeMiSend k) s = .next (u.finishDw k stOk 3 0)) ∧
    (c.e.cdw11.toNat % 256 = 3 → (sub = 2 → exec (.nvmeMiSend k) s = .next (i { x with hsc := v })) ∧
      (sub = 3 → 64 ≤ v → exec (.nvmeMiSend k) s = .next (i { x with mtu := v })) ∧
      ((sub = 3 ∧ v < 64) ∨ (sub ≠ 2 ∧ sub ≠ 3) → exec (.nvmeMiSend k) s = .next (u.finishDw k stOk 4 0)))) ∧
  (BeginsAdmin k c 0x1E s → let o := c.e.cdw11.toNat % 256; let sub := c.e.cdw12.toNat % 256
    (∀ len, (o = 0 ∧ len = 32) ∨ (o = 1 ∧ len = 8) ∨ (o = 2 ∧ len = 16) → ∃ bs, bs.length = len ∧
      exec (.nvmeMiReceive k) s = .next ((u.answer bs).finishDw k stOk 0 0).used) ∧
    (o = 4 → sub = 2 → exec (.nvmeMiReceive k) s = .next (u.finishDw k stOk (256 * s.host.i3c.hsc) 0)) ∧
    (o = 4 → sub = 3 → exec (.nvmeMiReceive k) s = .next (u.finishDw k stOk (256 * (s.host.i3c.mtu % 65536)) 0)) ∧
    (o = 4 → sub ≠ 2 → sub ≠ 3 → exec (.nvmeMiReceive k) s = .next (u.finishDw k stOk 4 0)) ∧
    (o = 3 ∨ 4 < o → exec (.nvmeMiReceive k) s = .next (u.finishDw k stOk 3 0)))

/-- Parts of R19, R20, R22, R317, R326, R342, R356 to R358, R369, R370, R373, R412, R613. A data command waits for conflicting commands and
erasures before it, and ends when its namespace is gone, a reservation refuses it or, a write, its layout is in FAILED. Flush completes;
Write asks for its buffers; Write Zeroes and Deallocate begin their effect as one piece per range; Read looks its blocks up and fails at
one that was left unreadable; Verify reads every block from the media; Copy reads its sources first. A range list that is short is a
transfer error, a range that leaves the namespace is refused. A read-ahead line that arrives becomes clean only when whole, good and not
void. Each of these commands is shown to answer a next state with its own effect, under conditions on the state and its operands alone:
flush, write, read, writeZeroes, datasetManagementDeallocate, verify, copy, writeBufferReadWaitEnd, speculativeFillArrive,
readDeadlineExpire. -/
def Obligations.DataCommands : Prop := ∀ (k : Nat) (c : Cmd) (v : Ns) (rs : List LRange) (nsid line : Nat) (good : Bool) (data : List Block)
    (f : Fill) (s : State),
  let u := markStarted k s
  let lba := c.e.slba
  let n := c.e.nlb
  let lost := ((s.finish k stTransfer).raise (hostSrc 2) c.ctl.val)
  let out := fun (r : LRange) => v.nsze < r.lba + r.cnt
  (BeginsIo k c 0x01 s → s.ns c.e.nsid.toNat = none → exec (.write k) s = .next (s.finish k stInvalidNs)) ∧
  (BeginsIo k c 0x01 s → s.ns c.e.nsid.toNat = some v →
    (lockClear c s = false ∨ (c.wr = true ∧ formatAhead c s = true) → exec (.write k) s = .next s) ∧
    (lockClear c s = true → c.wr = false ∨ formatAhead c s = false →
      (resvAllows c.ctl v true s = false → exec (.write k) s = .next (s.finish k stResConflict)) ∧
      (resvAllows c.ctl v true s = true → c.wr = true → onFailed v s = true → exec (.write k) s = .next (s.finish k stProtected)))) ∧
  (IoRuns k c v 0x00 true s → exec (.flush k) s = .next (u.finish k stOk)) ∧
  (IoRuns k c v 0x01 true s → v.zoned = false → exec (.write k) s = .next (writeBuffers c n s)) ∧
  (let r := alloc (8 + c.ctl.val) 0 n (some c.k) (markStarted c.k s)
   (r.1 = [] → writeBuffers c n s = r.2.modCmd c.k fun d => { d with wantBuf := n }) ∧
   (r.1 ≠ [] → writeBuffers c n s = r.2.modCmd c.k fun d => { d with handles := d.handles ++ r.1, wantXfer := true })) ∧
  (IoRuns k c v 0x08 true s → v.zoned = false →
    exec (.writeZeroes k) s = .next (beginEffect c v [⟨lba, n, if c.e.cdw12.getLsbD 25 then 3 else 2, none,
      if piInserts v c.e then some (c.e.cdw15.toNat % 65536, refTag v c.e 0, v.pi != 3) else none⟩] u)) ∧
  (IoRuns k c v 0x09 true s → c.e.cdw11.getLsbD 2 = false → exec (.datasetManagementDeallocate k rs) s = .next s) ∧
  (IoRuns k c v 0x09 true s → c.e.cdw11.getLsbD 2 = true → let rr := if c.ranges.isEmpty then rs else c.ranges
    let short := c.ranges = [] ∧ rs.length ≠ c.e.cdw10.toNat % 256 + 1
    (short → exec (.datasetManagementDeallocate k rs) s = .next lost) ∧
    (¬ short → (∃ r ∈ rr, out r) → exec (.datasetManagementDeallocate k rs) s = .next (s.finish k stLbaRange)) ∧
    (¬ short → (∀ r ∈ rr, ¬ out r) → let g := withRanges c rr [] s
      let ps := (rr.filter fun r => decide (0 < r.cnt)).map fun r => (⟨r.lba, r.cnt, 3, none, none⟩ : Piece)
      (g.1 = false → exec (.datasetManagementDeallocate k rs) s = .next g.2) ∧
      (g.1 = true → ps = [] → exec (.datasetManagementDeallocate k rs) s = .next ((markStarted k g.2).finish k stOk)) ∧
      (g.1 = true → ps ≠ [] → exec (.datasetManagementDeallocate k rs) s = .next (beginEffect { c with ranges := rr } v ps (markStarted k g.2))))) ∧
  (IoRuns k c v 0x02 false s → let t := track v.nsid lba n u
    (∀ a, unreadable c v (readBlocks c) t = some a → exec (.read k) s = .next (failRead1 k c v a t)) ∧
    (unreadable c v (readBlocks c) t = none → exec (.read k) s = .next (readAhead v.nsid (placeTodo k (t.each (readBlocks c) fun a w =>
      if beyondWp v a then found k a none w else lookupBlock k v a w))))) ∧
  (IoRuns k c v 0x0C false s →
    (∀ a, unreadable c v (readBlocks c) u = some a → exec (.verify k) s = .next (failRead1 k c v a u)) ∧
    (unreadable c v (readBlocks c) u = none → exec (.verify k) s = .next (placeTodo k (u.modCmd k fun d =>
      { d with todo := (readBlocks c).filter fun a => !beyondWp v a })))) ∧
  (unreadable c v [] s = none ∧ ∀ a, v.bad = [] → unreadable c v (a :: []) s = none) ∧
  (IoRuns k c v 0x19 true s → let nr := c.e.cdw12.toNat % 256 + 1; let src := if c.ranges.isEmpty then rs else c.srcs
    let m := src.foldl (fun m r => m + r.cnt) 0; let short := c.ranges = [] ∧ rs.length ≠ nr
    (128 < nr → exec (.copy k rs) s = .next (s.finish k (sct 1 0x83))) ∧
    (nr ≤ 128 → c.e.cdw12.toNat / 256 % 16 ≠ 0 → exec (.copy k rs) s = .next (s.finish k stField)) ∧
    (nr ≤ 128 → c.e.cdw12.toNat / 256 % 16 = 0 →
      (short → exec (.copy k rs) s = .next lost) ∧
      (¬ short → m = 0 → exec (.copy k rs) s = .next (s.finish k stField)) ∧
      (¬ short → 1 ≤ m → (∃ r ∈ src, out r) ∨ v.nsze < lba + m → exec (.copy k rs) s = .next (s.finish k stLbaRange)) ∧
      (¬ short → 1 ≤ m → (∀ r ∈ src, ¬ out r) → lba + m ≤ v.nsze → let g := withRanges c [⟨lba, m⟩] src s
        let t := markStarted k g.2
        let t := if v.stream then t else t.modCmd k fun d => { d with seqLen := min m d.seqLen }
        (g.1 = false → exec (.copy k rs) s = .next g.2) ∧
        (g.1 = true → ∀ d, t.cmd k = some d →
          (∀ a, unreadable d v (readBlocks d) t = some a → exec (.copy k rs) s = .next (failRead1 k d v a t)) ∧
          (unreadable d v (readBlocks d) t = none → exec (.copy k rs) s =
            .next (advance k (placeTodo k (t.each (readBlocks d) fun a w => lookupBlock k v a w)))))))) ∧
  (s.cmd k = none → exec (.writeBufferReadWaitEnd k) s = .next s ∧ exec (.readDeadlineExpire k) s = .next s) ∧
  (s.cmd k = some c → exec (.writeBufferReadWaitEnd k) s = .next (advance k (lookupAgain k ((c.verWait.filter fun x => x.1 == k).map fun x => x.2)
    (s.modCmd k fun d => { d with verWait := d.verWait.filter fun x => x.1 != k &&
      !((s.host.wb.any fun y => y.k == x.1 && y.acc) || (s.cmd x.1).isNone) })))) ∧
  (s.cache.fills.find? (fun x => x.spec && x.nsid == nsid && x.line == line) = none → exec (.speculativeFillArrive nsid line good data) s = .next s) ∧
  (s.cache.fills.find? (fun x => x.spec && x.nsid == nsid && x.line == line) = some f → let t := dropFill f.id s
    let wake := fun (t : State) => readAhead nsid (specWake nsid line t)
    (f.void = true → s.ns nsid = some v → exec (.speculativeFillArrive nsid line good data) s =
      .next (wake (t.inc (F.SCHED_SPECSTAT_RA_VOID (nsPlace v (line * 16) t).1)))) ∧
    (f.void = false → good = false ∨ data.length ≠ 16 → exec (.speculativeFillArrive nsid line good data) s = .next (wake t)) ∧
    (f.void = false → good = true → data.length = 16 → exec (.speculativeFillArrive nsid line good data) s =
      .next (wake (cacheAlloc f (data.zipIdx.map fun x => (x.2, x.1)) t))))

/-- Parts of R342. Reservation commands of a namespace are taken in order of fetch: one waits while an earlier one is open. Register adds,
replaces and removes a host's key, raising the generation; a key that is not the host's is a conflict. Acquire takes a free reservation,
keeps one that is held alike, and conflicts with another; a preempt without a holder or a registrant to remove conflicts. Release gives
the reservation up, Clear every registration. The report needs the extended form. A reservation lets its holder act, the registrants of
the wider types, and readers of the write-exclusive ones. Codes and corner cases are those of NVM Express (the model's choice, log entries
7 and 26). Each of these commands is shown to answer a next state with its own effect, under conditions on the state and its operands
alone: reservationRegister, reservationReport, reservationAcquire, reservationRelease. -/
def Obligations.Reservations : Prop := ∀ (k h : Nat) (c : Cmd) (v : Ns) (ra : ResRegAct) (aa : ResAcqAct) (la : ResRelAct) (ty : ResType)
    (ck nk : W64) (n : Ctl) (wr : Bool) (s : State),
  let u := markStarted k s
  let r := v.resv
  let turn := s.host.cmds.any fun d => decide (d.k < k) && d.e.nsid == c.e.nsid && [0x0D#8, 0x11#8, 0x15#8].contains d.e.opc && d.isOpen &&
    decide (0 < d.qid) && decide (d.qid < 65536)
  let my := fun (opc : Byte) => BeginsIo k c opc s ∧ turn = false ∧ s.ns c.e.nsid.toNat = some v
  let key := (r.regs.find? fun x => x.1 == h).map fun x => x.2
  let ptpl := fun (q : Resv) => if c.e.cdw10.toNat / 1073741824 = 2 then { q with ptpl := false } else if c.e.cdw10.toNat / 1073741824 = 3 then
    { q with ptpl := true } else q
  let put := fun (q : Resv) => (u.modNs v.nsid fun x => { x with resv := q }).finish k stOk
  let up := fun (q : Resv) => put { q with gen := (q.gen + 1) % 4294967296 }
  (BeginsIo k c 0x0D s → turn = true → exec (.reservationRegister k ra ck nk) s = .next s) ∧
  (BeginsIo k c 0x11 s → turn = true → exec (.reservationAcquire k aa ty ck nk) s = .next s) ∧
  (BeginsIo k c 0x15 s → turn = true → exec (.reservationRelease k la ck) s = .next s) ∧
  (BeginsIo k c 0x0E s → turn = true → exec (.reservationReport k) s = .next s) ∧
  (my 0x0D → (s.ctlr c.ctl).hostId = none → exec (.reservationRegister k ra ck nk) s = .next (u.finish k (sct 0 0x18))) ∧
  (my 0x0D → (s.ctlr c.ctl).hostId = some h →
    (key = none → exec (.reservationRegister k .register ck nk) s = .next (up { ptpl r with regs := r.regs ++ [(h, nk.toNat)] })) ∧
    (key = some nk.toNat → exec (.reservationRegister k .register ck nk) s = .next (put (ptpl r))) ∧
    (key ≠ none → key ≠ some nk.toNat → exec (.reservationRegister k .register ck nk) s = .next (u.finish k stResConflict)) ∧
    (key = some ck.toNat → exec (.reservationRegister k .replace ck nk) s = .next (up { ptpl r with regs := r.regs.map fun y =>
      if y.1 == h then (h, nk.toNat) else y })) ∧
    (key = none → exec (.reservationRegister k .replace ck nk) s = .next (u.finish k stResConflict) ∧
      exec (.reservationRegister k .unregister ck nk) s = .next (u.finish k stResConflict)) ∧
    (key ≠ some ck.toNat → c.e.cdw10.getLsbD 3 = false → exec (.reservationRegister k .replace ck nk) s = .next (u.finish k stResConflict) ∧
      exec (.reservationRegister k .unregister ck nk) s = .next (u.finish k stResConflict)) ∧
    (key = some ck.toNat → r.holder ≠ some h → (∃ x ∈ r.regs, x.1 ≠ h) →
      exec (.reservationRegister k .unregister ck nk) s = .next (up { ptpl r with regs := r.regs.filter fun y => y.1 != h }))) ∧
  (my 0x11 → (s.ctlr c.ctl).hostId = none ∨ ((s.ctlr c.ctl).hostId = some h ∧ key ≠ some ck.toNat) →
    exec (.reservationAcquire k aa ty ck nk) s = .next (u.finish k stResConflict)) ∧
  (my 0x11 → (s.ctlr c.ctl).hostId = some h → key = some ck.toNat →
    (r.typ = none → exec (.reservationAcquire k .acquire ty ck nk) s = .next (put { r with typ := some ty, holder := some h })) ∧
    (r.typ = some ty → r.holder = some h → exec (.reservationAcquire k .acquire ty ck nk) s = .next (u.finish k stOk)) ∧
    (r.typ ≠ none → r.typ ≠ some ty → exec (.reservationAcquire k .acquire ty ck nk) s = .next (u.finish k stResConflict)) ∧
    exec (.reservationAcquire k .preempt ty ck nk) s = .next (resPreempt false ty nk.toNat h c v u) ∧
    exec (.reservationAcquire k .preemptAbort ty ck nk) s = .next (resPreempt true ty nk.toNat h c v u)) ∧
  (∀ ab, nk.toNat ≠ 0 → (∀ x ∈ r.regs, x.1 ≠ h → x.2 ≠ nk.toNat) → r.typ = none → resPreempt ab ty nk.toNat h c v s = s.finish c.k stResConflict) ∧
  (my 0x15 → (s.ctlr c.ctl).hostId = none ∨ ((s.ctlr c.ctl).hostId = some h ∧ key ≠ some ck.toNat) →
    exec (.reservationRelease k la ck) s = .next (u.finish k stResConflict)) ∧
  (my 0x15 → (s.ctlr c.ctl).hostId = some h → key = some ck.toNat →
    (r.holds h = false → exec (.reservationRelease k .release ck) s = .next (u.finish k stOk)) ∧
    (r.holds h = true → (∀ x, r.typ = some x → ResType.code x ≠ c.e.cdw10.toNat / 256 % 256) →
      exec (.reservationRelease k .release ck) s = .next (u.finish k stField)) ∧
    (r.holds h = true → r.typ = some ty → ResType.code ty = c.e.cdw10.toNat / 256 % 256 → resRegistrants ty = false →
      exec (.reservationRelease k .release ck) s = .next (put { r with typ := none, holder := none })) ∧
    (exec (.reservationRelease k .clear ck) s = .next ((resNotify 3 v ((r.regs.map fun x => x.1).filter fun x => x != h)
      (u.modNs v.nsid fun x => { x with resv := { r with regs := [], typ := none, holder := none, gen := (r.gen + 1) % 4294967296 } })).finish k stOk))) ∧
  (my 0x0E → (c.e.cdw11.getLsbD 0 = false → exec (.reservationReport k) s = .next (u.finish k (sct 0 0x18))) ∧
    (c.e.cdw11.getLsbD 0 = true → exec (.reservationReport k) s =
      .next ((u.answer ((resStatus v u).take ((c.e.cdw10.toNat + 1) * 4))).finish k stOk))) ∧
  ((r.typ = none → resvAllows n v wr s = true) ∧ (∀ x, r.holder = some x → (s.ctlr n).hostId = some x → resvAllows n v wr s = true) ∧
    (r.typ = some .exclusiveAccess → r.holder ≠ (s.ctlr n).hostId → resvAllows n v wr s = false) ∧
    (r.typ = some .writeExclusive → r.holder ≠ (s.ctlr n).hostId → resvAllows n v wr s = !wr) ∧
    (∀ x, r.typ = some .exclusiveAccessRegistrants → (s.ctlr n).hostId = some x → (∃ y ∈ r.regs, y.1 = x) → resvAllows n v wr s = true))

/-- Parts of R326, R328, R350, R390. A write to a zoned namespace goes to the write pointer of its zone and moves it, an append returns the
place it took; a full, offline or bounded zone refuses. Zone Management Send acts on the zone named, or on every zone the action selects,
and is journalled or ends on the media when it is a write; Report Zones returns 64 bytes for each zone. A finished zone keeps what was
written of it and reports its whole size. At most 64 zones are open, and 64 active. Zone states and status codes are those of the Zoned
Namespace command set (the model's choice, log entry 7). Each of these commands is shown to answer a next state with its own effect, under
conditions on the state and its operands alone: write, writeZeroes, zoneManagementSend, zoneManagementReceive, zoneAppend. -/
def Obligations.ZoneCommands : Prop := ∀ (k i st o n : Nat) (c : Cmd) (v : Ns) (z y : Zone) (a : ZoneAct) (e : Nat) (s : State),
  let u := markStarted k s
  let zi := c.e.slba / zoneSize
  let zo := c.e.slba % zoneSize
  let ends := fun (t : State) =>
    if c.wr then
      if journalled v t then
        let es := mkEntries c v (zsaOf a) [⟨zi * zoneSize, zoneSize, 4, none, none⟩] t
        flyPush true es (t.modCmd k fun d => { d with phase := 3, ents := es.length })
      else mediaDone { c with phase := 4 } v (t.modCmd k fun d => { d with phase := 4 })
    else t.finish k stOk
  (IoRuns k c v 0x01 true s → v.zoned = true →
    (v.zones[zi]? = none → exec (.write k) s = .next (s.finish k stLbaRange)) ∧
    (v.zones[zi]? = some z → zoneRefuse v z zo c.e.nlb = some st → exec (.write k) s = .next (s.finish k st)) ∧
    (v.zones[zi]? = some z → zoneRefuse v z zo c.e.nlb = none → exec (.write k) s = .next (writeBuffers c c.e.nlb (zoneTake v zi c.e.nlb s)))) ∧
  (IoRuns k c v 0x08 true s → v.zoned = true → v.zones[zi]? = some z →
    (zoneRefuse v z zo c.e.nlb = some st → exec (.writeZeroes k) s = .next (s.finish k st)) ∧
    (zoneRefuse v z zo c.e.nlb = none → exec (.writeZeroes k) s = .next (beginEffect c v
      [⟨c.e.slba, c.e.nlb, if c.e.cdw12.getLsbD 25 then 3 else 2, none,
        if piInserts v c.e then some (c.e.cdw15.toNat % 65536, refTag v c.e 0, v.pi != 3) else none⟩] (markStarted k (zoneTake v zi c.e.nlb s))))) ∧
  (IoRuns k c v 0x7D true s →
    (zo ≠ 0 → exec (.zoneAppend k) s = .next (s.finish k stField)) ∧
    (zo = 0 → v.zones[zi]? = none → exec (.zoneAppend k) s = .next (s.finish k stLbaRange)) ∧
    (zo = 0 → v.zones[zi]? = some z →
      (zoneRefuse v z z.wp c.e.nlb = some st → exec (.zoneAppend k) s = .next (s.finish k st)) ∧
      (zoneRefuse v z z.wp c.e.nlb = none → let b := zi * zoneSize + z.wp
        exec (.zoneAppend k) s = .next (writeBuffers { c with ranges := [⟨b, c.e.nlb⟩] } c.e.nlb ((zoneTake v zi c.e.nlb s).modCmd k fun d =>
          { d with ranges := [⟨b, c.e.nlb⟩], dw0 := b % 4294967296, dw1 := b / 4294967296 }))))) ∧
  ((z.st = 6 → zoneRefuse v z o n = some (sct 1 0xBB)) ∧ (z.st = 4 → zoneRefuse v z o n = some (sct 1 0xB9)) ∧
    (z.st ≠ 6 → z.st ≠ 4 → zoneSize < o + n → zoneRefuse v z o n = some (sct 1 0xB8)) ∧
    (z.st ≠ 6 → z.st ≠ 4 → o + n ≤ zoneSize → o ≠ z.wp → zoneRefuse v z o n = some (sct 1 0xBC)) ∧
    (zoneRefuse v z o n = none → o = z.wp ∧ o + n ≤ zoneSize ∧ (z.st = 0 → zoneActive v < 64))) ∧
  (s.ns v.nsid = some v → v.zones[i]? = some z → z.isOpen = true → ∃ w, (zoneTake v i n s).ns v.nsid = some w ∧
    w.zones[i]? = some { z with wp := z.wp + n, st := if zoneSize ≤ z.wp + n then 4 else if z.st = 2 then 2 else 1 } ∧
    ∀ j, j ≠ i → w.zones[j]? = v.zones[j]?) ∧
  (IoRuns k c v 0x79 true s →
    (c.e.cdw13.toNat % 256 ≠ zsaOf a → exec (.zoneManagementSend k a) s = .next s) ∧
    (c.e.cdw13.toNat % 256 = zsaOf a → c.e.cdw13.getLsbD 8 = false →
      (v.zones[zi]? = none → exec (.zoneManagementSend k a) s = .next (s.finish k stLbaRange)) ∧
      (v.zones[zi]? = some z → zoneAct v a z = .error e → exec (.zoneManagementSend k a) s = .next (s.finish k e)) ∧
      (v.zones[zi]? = some z → zoneAct v a z = .ok y → exec (.zoneManagementSend k a) s = .next (ends (zoneDone v a zi y u)))) ∧
    (c.e.cdw13.toNat % 256 = zsaOf a → c.e.cdw13.getLsbD 8 = true →
      ((∀ j x, j < v.zones.length → v.zones[j]? = some x → zoneSelected a x = false) → exec (.zoneManagementSend k a) s = .next (ends u)) ∧
      (let is := (List.range v.zones.length).filter fun j => (v.zones[j]?).any (zoneSelected a)
       (∀ j ∈ is, ∀ x, v.zones[j]? = some x → ∃ w, zoneAct v a x = .ok w) → exec (.zoneManagementSend k a) s = .next (ends (is.foldl (fun w j =>
         match v.zones[j]? with
         | some x => (match zoneAct v a x with | .ok b => zoneDone v a j b w | .error _ => w)
         | none => w) u))))) ∧
  (IoRuns k c v 0x7A false s →
    let all := bytesLe 8 v.zones.length ++ List.replicate 56 0 ++ (v.zones.drop zi).zipIdx.flatMap fun x =>
      [2, zoneState x.1.st * 16] ++ List.replicate 6 0 ++ bytesLe 8 zoneSize ++ bytesLe 8 ((zi + x.2) * zoneSize) ++
        bytesLe 8 ((zi + x.2) * zoneSize + (if x.1.st = 4 then zoneSize else x.1.wp)) ++ List.replicate 32 0
    exec (.zoneManagementReceive k) s = .next ((u.answer (all.take ((c.e.cdw12.toNat + 1) * 4))).finish k stOk)) ∧
  ((zoneAct v .reset z = .ok y → y = ⟨0, 0⟩ ∧ z.st ≠ 6) ∧ (zoneAct v .finish z = .ok y → y = { z with st := 4 } ∧ z.st ≠ 6) ∧
    (zoneAct v .close z = .ok y → y = { z with st := 3 } ∧ z.active = true) ∧ (zoneAct v .opn z = .ok y → y.st = 2 ∧ y.wp = z.wp ∧ z.st ≠ 4 ∧ z.st ≠ 6) ∧
    zoneAct v .offline z = .ok { z with st := 6 })

/-- Parts of R23, R63, R65, R66, R132, R124, R134 to R138, R168 to R171, R371. The checks of a descriptor and their order; a descriptor that
fails is recorded and counted, one of an old map or with a skipped slot is rebuilt, any other is reported and fails its commands. A
descriptor that passes is taken; with no signature in progress its seek starts and it is handed to the Stitcher of every path, and
otherwise it waits as the next one. Destage runs at Normal class while it is urgent, Urgent work goes first. A write of a head whose table
is not converged asks for learning instead, and one of a head that stays inhibited fails. A work item ends when every path has ended; an
aborted one that still serves something is placed again. What becomes of a written sector goes by its code. A destage that has ended frees
the versions it wrote and those it replaced. A formatter command joins the ring as it was given. A speculative seek moves an idle, loaded
channel. What waits and what is retried beyond the words of the rules is the model's choice (log entries 49, 65). Each of these commands
is shown to answer a next state with its own effect, under conditions on the state and its operands alone: schedTakeDescriptor,
workItemFinished, destageComplete, speculativeSeek, readSig, writeSig, verifySig, scanServo, formatTrack, capture, imageDefinedCommand. -/
def Obligations.SchedulerRows : Prop := ∀ (n : Ch) (p : Pa) (i k : Nat) (it : Item) (d : Desc) (z : ZoneTable) (target : Int) (tag : W16) (s : State),
  let c := s.chan n
  let r := descReason n it.desc s
  let ps := descPaths it.desc
  -- the reasons of R65 in their order
  ((descSealed d = false → descReason n d s = 0x09) ∧
    (descSealed d = true → descEnMask d = 0 → descReason n d s = 0x0A) ∧
    (descSealed d = true → descEnMask d ≠ 0 → descGen d ≠ s.get (F.SCHED_MAP_GEN_GEN n) → descReason n d s = 0x08) ∧
    (c.zt = some z → (descReason n d s = 0 ∨ descReason n d s = 7 ↔ descSealed d = true ∧ descEnMask d ≠ 0 ∧ descGen d = s.get (F.SCHED_MAP_GEN_GEN n) ∧
      (∀ x ∈ descPaths d, descSurf d x % 4 = x.val ∧ descSurf d x < z.surfaces ∧ descTrack d x < z.tracksOf (descSurf d x) ∧
        z.zoneOf (descSurf d x) (descTrack d x) = descZone d) ∧ descSpread n d s ≤ 20 * 256 ∧ descSlot d < z.spt (descZone d))) ∧
    (c.zt = some z → descReason n d s = 0 → ∀ x ∈ descPaths d, isSkipped c z (descSlotId d x) = false) ∧
    (c.zt = some z → descReason n d s = 7 → ∃ x ∈ descPaths d, isSkipped c z (descSlotId d x) = true)) ∧
  -- SCHED_TAKE_DESCRIPTOR
  (c.sched.ring[i]? = none ∨ chanReady n s = false → exec (.schedTakeDescriptor n i) s = .next s) ∧
  (c.sched.ring[i]? = some it → itemBlocked n i it s = true → exec (.schedTakeDescriptor n i) s = .next s) ∧
  (c.sched.ring[i]? = some it → chanReady n s = true → itemBlocked n i it s = false → it.taken = true →
    exec (.schedTakeDescriptor n i) s = .next (launchNext n s)) ∧
  (c.sched.ring[i]? = some it → it.taken = false → urgentAhead n it s = true ∨ destageHeld n it s = true →
    exec (.schedTakeDescriptor n i) s = .next s) ∧
  (c.sched.ring[i]? = some it → chanReady n s = true → itemBlocked n i it s = false → it.taken = false → urgentAhead n it s = false →
    destageHeld n it s = false →
    let rej := (if s.flag (F.SCHED_DESC_REJ_VALID n) then s
      else ((s.set (F.SCHED_DESC_REJ_REASON n) r).set (F.SCHED_DESC_REJ_VALID n) 1).set (F.SCHED_DESC_REJ_COUNT n) 0).inc (F.SCHED_DESC_REJ_COUNT n)
    let taken := s.modSched n fun y => { y with ring := modItem (descTag it.desc) (fun j => { j with
      taken := true, sought := false, cls := if it.kind == .destage && destageUrgent s then 1 else it.cls,
      res := Vector.replicate 4 none, ended := Vector.replicate 4 false, abt := Vector.replicate 4 false }) y.ring }
    let go := if sigBusy n s then taken else launch n it taken
    (r = 7 ∨ r = 8 → it.kind ≠ .ladder → exec (.schedTakeDescriptor n i) s = .next (rebuildItem n it rej)) ∧
    (r ≠ 0 → r ≠ 7 → r ≠ 8 → it.kind = .hostRead ∨ it.kind = .hostWrite → it.stripe = none → exec (.schedTakeDescriptor n i) s =
      .next (((removeItem n it (rej.raise (chSrc n 0) 0xFFFF r)).each it.cmds fun x u => endItem x u).each it.cmds fun x u => failCmd x stDescriptor u)) ∧
    (r = 0 → descCmd it.desc ≠ 0x02 → exec (.schedTakeDescriptor n i) s = .next go) ∧
    (r = 0 → descCmd it.desc = 0x02 →
      (barredPaths n it.desc s = [] → (∃ x ∈ ps, s.bit (F.CTL_RROSTAT_CONV n) (descSurf it.desc x) = false) →
        exec (.schedTakeDescriptor n i) s = .next (learnHeads n it.desc s)) ∧
      (barredPaths n it.desc s = [] → (∀ x ∈ ps, s.bit (F.CTL_RROSTAT_CONV n) (descSurf it.desc x) = true) →
        (∃ x ∈ ps, resCode it x = 0x1E) → s.flag (F.MOT_STAT_IN_TOL n) = false → exec (.schedTakeDescriptor n i) s = .next s) ∧
      (barredPaths n it.desc s = [] → (∀ x ∈ ps, s.bit (F.CTL_RROSTAT_CONV n) (descSurf it.desc x) = true) →
        (∀ x ∈ ps, resCode it x ≠ 0x1E) ∨ s.flag (F.MOT_STAT_IN_TOL n) = true → exec (.schedTakeDescriptor n i) s = .next go) ∧
      (barredPaths n it.desc s ≠ [] → it.kind = .hostWrite → exec (.schedTakeDescriptor n i) s =
        .next (followItem n it [] (writeFail n it (barredPaths n it.desc s) false s))))) ∧
  (launchNext n s = (if sigBusy n s then s
    else match c.sched.ring.find? fun j => j.taken && !j.sought with | some j => launch n j s | none => s)) ∧
  (it.kind ≠ .ladder → it.kind ≠ .learn →
    let t := s.modSched n fun y => { y with ring := modItem (descTag it.desc) (fun j => { j with taken := true, sought := true }) y.ring }
    let seeking := (ctlEng n s).seek.isSome
    launch n it s = (startSeek n it.desc 0 seeking (if seeking ∧ (s.servo n).waitOn = 0 then t.inc (F.SCHED_SPECSTAT_SSEEK_REDIR n) else t)).each ps
      fun x u => if (u.stit n x).holds (descTag it.desc) then u else handDesc n it.desc x u) ∧
  -- WORK_ITEM_FINISHED; a channel that is being disabled goes on draining (R13)
  (let after := fun (t : State) => beginSteps n (launchNext n (frontDown n it (squeezeChecks n it t)))
   let fin := fun (t : State) => if s.flag (F.PAGE_ENABLE_EN n) then t else drainChan n t
   (findItem tag c.sched.ring = none → exec (.workItemFinished n tag) s = .next (fin s)) ∧
   (findItem tag c.sched.ring = some it → it.taken = false ∨ (∃ x ∈ ps, it.ended[x] = false) → exec (.workItemFinished n tag) s = .next (fin s)) ∧
   (findItem tag c.sched.ring = some it → it.taken = true → (∀ x ∈ ps, it.ended[x] = true) →
     (it.again = true ∨ (∃ x ∈ ps, it.abt[x] = true) → it.cmds ≠ [] → exec (.workItemFinished n tag) s =
      .next (fin (after (spliceItem n tag [againItem it] s)))) ∧
     (it.again = false → (∀ x ∈ ps, it.abt[x] = false) →
       (descCmd it.desc = 0x01 → it.kind = .hostRead → it.stripe = none → (∀ x ∈ ps, resCode it x ≠ 6) → exec (.workItemFinished n tag) s =
        .next (fin (after ((removeItem n it s).each it.cmds fun x u => endItem x u)))) ∧
       (descCmd it.desc = 0x02 → exec (.workItemFinished n tag) s = .next (fin (after (writeItemEnd n it s)))) ∧
       (descCmd it.desc = 0x03 → exec (.workItemFinished n tag) s = .next (fin (after (verifyItemEnd n it s)))) ∧
       (3 < descCmd it.desc → it.kind ≠ .learn → exec (.workItemFinished n tag) s = .next (fin (after (removeItem n it s)))) ∧
       (3 < descCmd it.desc → it.kind = .learn → exec (.workItemFinished n tag) s = .next (fin (after (scanItemEnd n it (removeItem n it s)))))))) ∧
  (let x := resCode it p
   (x = 0x10 → writeEndOf n it p s = .written) ∧ (x = 0x1C ∨ x = 0x1D → writeEndOf n it p s = .drop) ∧
   (x = 0x17 ∨ x = 0x1E → writeEndOf n it p s = .retry) ∧ (x = 0x16 → writeEndOf n it p s = if it.kind == .destage then .retry else .drop) ∧
   (x = 0x14 → writeEndOf n it p s = if it.paRetry[p] then .fail else .retry) ∧
   (x = 0x12 ∨ x = 0x13 ∨ x = 0x15 ∨ x = 0x18 ∨ x = 0x1A ∨ x = 0x1B →
     writeEndOf n it p s = if it.retry[p] < max 1 (s.inForce (F.AFE_WRGATE_WR_RETRY n)) then .retry else .fail)) ∧
  (it.vfail = Vector.replicate 4 0 → it.kind ≠ .rewrite → (verifies n it s = true ↔
    s.inForce (F.AFE_WRGATE_VFY_MODE n) = 1 ∨ (s.inForce (F.AFE_WRGATE_VFY_MODE n) ≠ 2 ∧ descWverify it.desc = true))) ∧
  -- DESTAGE_COMPLETE
  (let ws := s.host.wb.filter fun w => w.k == k && w.run && w.acc
   let gone := s.host.wb.filter fun w => ws.contains w || (w.acc && !w.run && ws.any fun u => u.replaces w)
   let t := unlive (gone.map fun w => w.seq) ((s.modHost fun h => { h with wb := h.wb.filter fun w => (!gone.contains w) }).each
     (gone.filterMap fun w => w.hdl) fun h u => dropBuf h u)
   (ws = [] ∨ destageLeft k s = true → exec (.destageComplete k) s = .next s) ∧
   (ws ≠ [] → destageLeft k s = false → (t.get F.FLY_STAT_STATE ≠ 3 → exec (.destageComplete k) s = .next (pump t)) ∧
     (t.get F.FLY_STAT_STATE = 3 → exec (.destageComplete k) s = .next (pump (destagePage t))))) ∧
  -- SPECULATIVE_SEEK
  (chanReady n s = true → s.flag (F.SCHED_SPECCFG_SSEEK_EN n) = true → c.sched.ring = [] → s.flag (F.CTL_STAT_LOADED n) = true →
    exec (.speculativeSeek n target) s = .next (setTarget n target ((s.set (F.CTL_STAT_ONTRK n) 0).incWrap (F.CTL_SEEKSTAT_SEEKS n)))) ∧
  (chanReady n s = false ∨ s.flag (F.SCHED_SPECCFG_SSEEK_EN n) = false ∨ c.sched.ring ≠ [] ∨ s.flag (F.CTL_STAT_LOADED n) = false →
    exec (.speculativeSeek n target) s = .next s) ∧
  -- formatter commands
  (let lb : Vector (Option (Nat × Nat)) 4 := Vector.ofFn fun x =>
     if descEn d x then (slotChanBlock c (descSlotId d x)).bind fun b => ownerOf n b s else none
   let put := fun (kind : ItemKind) => s.modSched n fun y => { y with ring := y.ring ++ [Item.new d kind [] lb 3] }
   chanReady n s = true → findItem (descTag d) c.sched.ring = none →
     (descCmd d = 0x01 → exec (.readSig n d) s = .next (put .image)) ∧ (descCmd d = 0x02 → exec (.writeSig n d) s = .next (put .image)) ∧
     (descCmd d = 0x03 → exec (.verifySig n d) s = .next (put .image)) ∧ (descCmd d = 0x10 → exec (.scanServo n d) s = .next (put .scan)) ∧
     (descCmd d = 0x11 → exec (.formatTrack n d) s = .next (put .format)) ∧
     (descCmd d = 0x13 → s.flag (F.REAM_USE_NONE 8) = false → exec (.capture n d) s = .next (put .rawCap)) ∧
     (descCmd d = 0x13 → s.flag (F.REAM_USE_NONE 8) = true → exec (.capture n d) s = .next s) ∧
     (imageCmd s (descCmd d) = true → exec (.imageDefinedCommand n d) s = .next (put .image)) ∧
     (imageCmd s (descCmd d) = false → exec (.imageDefinedCommand n d) s = .next s))

/-- Parts of R81, R82, R90, R91, R93, R95, R96, R99, R100, R102, R104, R106, R108, R111, R113, R114, R116, R373. The first pass decodes the
oldest stored sector with its budget and waits while a step runs; it yields a code and flags. A good sector is delivered to its buffer; a
bad one enters the ladder, with its samples pinned while fewer than two buffers of the path are; a Verify compares the check of the buffer
written and never enters it. A ladder step in progress ends by the decode of its samples with its own budget, equalizer set and readers:
where it succeeds the attached commands get the data, or the sector is rewritten in the background; where it fails, or a word of the
samples is in error, the ladder goes on, to END at the latest after step 15, and the next step on kept samples of a free path begins. A
read attached to a ladder completes unrecovered as its deadline expires, where its namespace sets one. A sync-slip recovery succeeds with
exactly one candidate. The word of a REREAD, the code of a Verify mismatch and what a cancelled capture leaves are the model's reading
(log entries 39, 68, 71). Each of these commands is shown to answer a next state with its own effect, under conditions on the state and
its operands alone: verify, readDeadlineExpire, firstPassDecodeEnd, ladderRedecode, ladderReeq, ladderReader, ladderSlip, ladderBlind,
ladderReread, ladderTa, wait. -/
def Obligations.Ladders : Prop := ∀ (n : Ch) (p : Pa) (i k : Nat) (o : DecodeObs) (drop : BitVec 3) (b : SampleBuf) (rest : List SampleBuf)
    (l y : Ladder) (r : StepRun) (it : Item) (x : Nat × Nat) (f : Nat) (blk : Block) (s : State),
  let c := s.chan n
  let code := firstPassCode o drop
  let flags := resultFlags o drop
  let hdl := (descHandle b.desc p).toNat
  let at_ := fun (op : Nat) => ladderAt n i op s = some (l, r)
  -- result codes and flags
  ((drop = 7 → code = 0x07) ∧ (drop ≠ 7 → o.pri = none → o.sec = none → code = 0x02) ∧
    (drop ≠ 7 → o.pri ≠ none ∨ o.sec ≠ none → (o.converged = false → code = 0x03) ∧ (o.converged = true → o.check = false → code = 0x04) ∧
      (o.converged = true → o.check = true → code = 0x00)) ∧
    (flags.testBit 8 = true ↔ ∃ a b, o.pri = some a ∧ o.sec = some b ∧ a ≠ b) ∧ (flags.testBit 9 = true ↔ o.pri = none ∧ o.sec ≠ none) ∧
    (flags.testBit 10 = true ↔ o.pri ≠ none ∧ o.sec = none) ∧ (flags.testBit 11 = true ↔ o.split = true ∧ o.resumeMiss = true) ∧
    (flags.testBit 12 = true ↔ drop ≠ 0) ∧ flags % 256 = 0 ∧ flags < 2 ^ 13) ∧
  (iterBudget n k s = min (max 1 (min 64 k)) (max 1 (min 64 (s.get (F.DET_ITER_ITER_MAX n)))) ∧
    passBudget n b s = iterBudget n (if b.act = 3 then s.inForce (F.AFE_WRGATE_VFY_ITER n) else s.get (F.DET_ITER_ITER_FIRST n)) s) ∧
  -- FIRST_PASS_DECODE_END
  ((s.pathSt n p).wait = [] → exec (.firstPassDecodeEnd n p) s = .next s) ∧
  ((s.pathSt n p).wait = b :: rest →
    (stepBusy n p s = true ∨ (∃ z ∈ c.sched.ladders, z.desc = b.desc ∧ z.run ≠ none) → exec (.firstPassDecodeEnd n p) s = .next s) ∧
    (stepBusy n p s = false → (∀ z ∈ c.sched.ladders, z.desc = b.desc → z.run = none) →
      let u := s.modPath n p fun q => { q with wait := rest }
      let o := firstObs n p b s
      let t := sectorStatus n p (passCfg n p b 0 7 s) b o u
      (findItem (descTag b.desc) c.sched.ring = none ∨ (findItem (descTag b.desc) c.sched.ring = some it ∧ it.kind = .ladder) →
        exec (.firstPassDecodeEnd n p) s = .next (freeBuffer n p (captureResult n p b 0x08 u))) ∧
      (findItem (descTag b.desc) c.sched.ring = some it → it.kind ≠ .ladder →
        (b.act ≠ 3 → exec (.firstPassDecodeEnd n p) s = .next (captureEnd n p b it o t)) ∧
        (b.act = 3 → exec (.firstPassDecodeEnd n p) s = .next (verifyEnd n p b it o t))))) ∧
  (b.drop = drop → let q := captureResult n p b (code + flags) s
    let e := q.inc (F.DET_ERRCNT_FP_FAIL n p)
    let off := it.kind = .spec ∨ (it.cmds = [] ∧ (it.kind = .hostRead ∨ it.kind = .verify))
    (code = 0 → it.kind ≠ .recheck → handleCtl hdl (freeBuffer n p q) ≠ none →
      captureEnd n p b it o s = putUnit (handleUnit hdl (freeBuffer n p q)) o.blk (freeBuffer n p q)) ∧
    (code = 0 → it.kind = .recheck → handleCtl hdl (freeBuffer n p q) = none →
      captureEnd n p b it o s = rewriteSector n (descSlotId b.desc p) it.lb[p] o.blk (freeBuffer n p q)) ∧
    (code ≠ 0 → off → captureEnd n p b it o s = freeBuffer n p e) ∧
    (code ≠ 0 → ¬ off → e.get (F.DET_SSTAT_PINNED n p) < 2 → captureEnd n p b it o s =
      reportGath it.lb[p] hdl it.cmds (startLadder n p b.desc it.cmds it.lb[p] (some b) (pinBuffer n p e))) ∧
    (code ≠ 0 → ¬ off → 2 ≤ e.get (F.DET_SSTAT_PINNED n p) → captureEnd n p b it o s =
      reportGath it.lb[p] hdl it.cmds (startLadder n p b.desc it.cmds it.lb[p] none (freeBuffer n p e))) ∧
    (it.kind = .verify → verifyEnd n p b it o s = freeBuffer n p q) ∧
    (it.kind ≠ .verify → ∃ bad : Bool,
      (bad = true ↔ code = 0 ∧ (if hdl = emptyHandle then some (crc32c (List.replicate 4096 0))
        else (assocGet (handleUnit hdl s) s.ream.sides).map fun z => z.crc) ≠ some (crc32c (padTo 4096 (o.blk.data.map BitVec.toNat)))) ∧
      verifyEnd n p b it o s = freeBuffer n p (captureResult n p b ((if bad then 0x04 else code) + flags) s))) ∧
  -- what the end of a first pass leaves on the path
  (o.converged = false → (sectorStatus n p (passCfg n p b 0 7 s) b o s).regs = s.regs) ∧
  -- the operation at a step, and the ladder whose step ends
  ((16 ≤ k → stepOp n k s = 0) ∧ (8 ≤ s.get (F.DET_LADDER_OP n k) → stepOp n k s = 0) ∧
    (k < 16 → s.get (F.DET_LADDER_OP n k) < 8 → stepOp n k s = s.get (F.DET_LADDER_OP n k))) ∧
  (c.sched.ladders[i]? = some l →
    (l.run = some r → (r.op = k → ladderAt n i k s = some (l, r)) ∧ (r.op ≠ k → ladderAt n i k s = none)) ∧
    (l.run = none → k ≠ 6 → stepOp n l.step s = k → l.kept ≠ none → pathFree n l.path s = true → stepBusy n l.path s = false →
      ladderAt n i k s = some (l, stepRun n l.step s)) ∧
    (l.run = none → k = 6 ∨ stepOp n l.step s ≠ k ∨ l.kept = none ∨ pathFree n l.path s = false ∨ stepBusy n l.path s = true →
      ladderAt n i k s = none)) ∧
  (c.sched.ladders[i]? = none → ladderAt n i k s = none) ∧
  (ladderAt n i 1 s = none → exec (.ladderRedecode n i) s = .next s) ∧ (ladderAt n i 2 s = none → exec (.ladderReeq n i) s = .next s) ∧
  (ladderAt n i 3 s = none → exec (.ladderReader n i) s = .next s) ∧ (ladderAt n i 4 s = none → exec (.ladderSlip n i) s = .next s) ∧
  (ladderAt n i 5 s = none → exec (.ladderBlind n i) s = .next s) ∧ (ladderAt n i 6 s = none → exec (.ladderReread n i) s = .next s) ∧
  (ladderAt n i 7 s = none → exec (.ladderTa n i) s = .next s) ∧
  -- a step on kept samples
  (l.kept = none → (at_ 1 → exec (.ladderRedecode n i) s = .next (ladderFail n l s)) ∧ (at_ 2 → exec (.ladderReeq n i) s = .next (ladderFail n l s)) ∧
    (at_ 3 → exec (.ladderReader n i) s = .next (ladderFail n l s)) ∧ (at_ 4 → exec (.ladderSlip n i) s = .next (ladderFail n l s)) ∧
    (at_ 5 → exec (.ladderBlind n i) s = .next (ladderFail n l s)) ∧ (at_ 7 → exec (.ladderTa n i) s = .next (ladderFail n l s))) ∧
  (l.kept = some b → b.bad = true → let w := ladderFail n l (clearBad n l s)
    (at_ 1 → exec (.ladderRedecode n i) s = .next w) ∧ (at_ 2 → exec (.ladderReeq n i) s = .next w) ∧ (at_ 3 → exec (.ladderReader n i) s = .next w) ∧
    (at_ 4 → exec (.ladderSlip n i) s = .next w) ∧ (at_ 5 → exec (.ladderBlind n i) s = .next w) ∧ (at_ 7 → exec (.ladderTa n i) s = .next w)) ∧
  (l.kept = some b → b.bad = false →
    let ends := fun (alt : Nat) (m : BitVec 3) (ta : Bool) =>
      let o := passOver n l.path b alt m ta r.budget s
      if firstPassCode o b.drop = 0 then ladderGood n l (resultFlags o b.drop) o.blk s
      else ladderFail n l (noteResult n l.path l.tag (firstPassCode o b.drop + resultFlags o b.drop) s)
    let slips := fun (blind : Bool) =>
      match (observeSlip (passCfg n l.path b 0 7 s) (markThr (s.get (F.DET_SYNCCFG_SYNC_THR n))) r.budget blind l.path b).filter fun z =>
        z.converged && z.check with
      | [z] => ladderGood n l 0 z.blk s
      | [] => ladderFail n l s
      | _ => ladderFail n l (noteResult n l.path l.tag 0x05 (s.inc (F.DET_ERRCNT_SLIP_AMBIG n l.path)))
    (at_ 1 → r.op = 1 → exec (.ladderRedecode n i) s = .next (ends 0 7 false)) ∧ (at_ 2 → r.op = 2 → exec (.ladderReeq n i) s = .next (ends r.alt 7 false)) ∧
    (at_ 3 → r.op = 3 → exec (.ladderReader n i) s = .next (ends 0 r.rmask false)) ∧ (at_ 7 → r.op = 7 → exec (.ladderTa n i) s = .next (ends 0 7 true)) ∧
    (at_ 4 → r.op = 4 → exec (.ladderSlip n i) s = .next (slips false)) ∧ (at_ 5 → r.op = 5 → exec (.ladderBlind n i) s = .next (slips true))) ∧
  -- a step that succeeds
  (let t := noteResult n l.path l.tag (0x01 + l.step * 65536 + f) (endReport l (dropLadder n l s))
   (l.cmds = [] → ladderGood n l f blk s = beginSteps n (rewriteSector n l.pos l.lblk blk t)) ∧
   (l.cmds ≠ [] → l.lblk = some x → ladderGood n l f blk s = beginSteps n (t.each l.cmds fun k u => endItem k (deliverTo k x.2 blk u)))) ∧
  -- where a failed step leads
  (findLadder n l.pos s = some l →
    let m := modLadder n l.pos (fun z => { z with step := z.step + 1, run := none }) s
    let op := stepOp n (l.step + 1) s
    (op ≠ 0 → op ≠ 6 → l.kept ≠ none → s.flag (F.DET_LADDER_BG_ONLY n (l.step + 1)) = false ∨ l.cmds = [] →
      ladderFail n l s = beginSteps n (ladderSync n m)) ∧
    (op = 0 → ladderFail n l s = beginSteps n (ladderEnd n { l with step := l.step + 1, run := none } m)) ∧
    (op = 6 → s.flag (F.DET_LADDER_BG_ONLY n (l.step + 1)) = false ∨ l.cmds = [] →
      ladderFail n l s = beginSteps n (ladderSync n (issueReread n { l with step := l.step + 1, run := none } m))) ∧
    (l.cmds = [] → ladderEnd n l s = sectorUnrec n l (endReport l (dropLadder n l (noteResult n l.path l.tag 0x09 s))))) ∧
  (y ∈ ((dropLadder n l s).chan n).sched.ladders ↔ y ∈ c.sched.ladders ∧ y ≠ l) ∧
  -- LADDER_REREAD
  (at_ 6 → (s.pathSt n l.path).wait = b :: rest →
    (b.desc ≠ l.desc ∨ stepBusy n l.path s = true → exec (.ladderReread n i) s = .next s) ∧
    (b.desc = l.desc → stepBusy n l.path s = false →
      let o := passOver n l.path b 0 7 false r.budget s
      let t := sectorStatus n l.path (passCfg n l.path b 0 7 s) b o (s.modPath n l.path fun q => { q with wait := rest })
      let keep := l.kept.isNone && decide (t.get (F.DET_SSTAT_PINNED n l.path) < 2)
      let m := { l with kept := if keep || l.kept.isSome then some b else none, gains := b.gains }
      let u := modLadder n l.pos (fun _ => m) (if keep then pinBuffer n l.path t else freeBuffer n l.path t)
      exec (.ladderReread n i) s = .next (if firstPassCode o b.drop = 0
        then ladderGood n m (resultFlags o b.drop) o.blk (captureResult n l.path b (0x01 + l.step * 65536 + resultFlags o b.drop) u)
        else ladderFail n m (captureResult n l.path b (firstPassCode o b.drop + resultFlags o b.drop) u)))) ∧
  (at_ 6 → (s.pathSt n l.path).wait = [] → exec (.ladderReread n i) s = .next s) ∧
  -- READ_DEADLINE_EXPIRE
  (∀ (e : Cmd) (v : Ns), s.cmd k = some e →
    let ls := allChans.flatMap fun m => (s.chan m).sched.ladders.filter fun z => z.cmds.contains k
    (ls = [] → exec (.readDeadlineExpire k) s = .next s) ∧
    (ls.head? = some l → l.lblk = some x → s.ns e.e.nsid.toNat = some v →
      (v.tler ≠ 0 → exec (.readDeadlineExpire k) s = .next (failRead k x.1 x.2 s)) ∧
      (v.tler = 0 → exec (.readDeadlineExpire k) s = .next s)))

/-- Parts of R96, R97, R119, R121, R123, R125, R126, R128, R130, R131, R133, R136, R139, R154, R488, R614, R615. The first bit of a write part
opens the gate exactly when no condition of R128 holds it closed; otherwise the sector is not started and its result is the first code in
the order of R139. A read part takes a free sample buffer, or ends NOT_CAPTURED. At the last bit a sector that was parked or cut short is
torn unless bit 38,783 was driven, and a whole captured sector lies in its buffer, behind those that wait. The write FIFO holds a sector
with the outcome of its check, which decides at its first bit; a memory error parks an open gate. A preamplifier fault parks every gate,
has the fault status read, takes the write-fault trap of every writing Stitcher, records the first head, and the second fault of a head
inhibits it. In a chip reset the last begun sector that ends retracts the heads. On a failed channel nothing begins. The code 0x18 of a
sector cut short, and how raw samples are packed, are the model's choice (log entries 69, 70). Each of these commands is shown to answer a
next state with its own effect, under conditions on the state and its operands alone: partFirstBit, partLastBit, writeFifoReady,
preampFaultAssert, preampFaultRelease, preampFrameDone, wait, zoneReady. -/
def Obligations.WritePath : Prop := ∀ (n : Ch) (p : Pa) (a : Arm) (d : Desc) (it : Item) (inTime second ready : Bool) (o : Capture) (last head c : Nat)
    (stat : W16) (s : State),
  let q := s.pathSt n p
  let t := if a.begun then s else s.each (rwsFields n p) takeShadow
  let begun := { a with left := a.left - 1, window := (a.window + 1) % 512, isOpen := true, begun := true }
  let late := fun (x : Nat) => (t.modStit n p fun y => { y with lateAct := BitVec.ofNat 16 x }).event n p 10
  let err := (s.chan n).servo.err[p].natAbs
  let hd := (pathHead n p s).getD 0
  let rpm := s.get (F.SCHED_FMT_FMT_RPM n)
  let cs := gateCauses n p ready second s
  let fin := fun (u : State) => chipRetract n (sectorBegun n s) (powerTrap n p u)
  -- the conditions of R128 and their codes (R614), and the order of R139
  ((0x1D ∈ cs ↔ s.flag F.FAULT_STAT_SAFE = true) ∧ (0x1C ∈ cs ↔ s.flag F.PWR_SUPPLY_PLOSS = true ∧ second = false) ∧
    (0x16 ∈ cs ↔ fifoIs n p .differs s = true ∧ second = false) ∧ (0x15 ∈ cs ↔ fifoIs n p .broken s = true ∧ second = false) ∧
    (0x14 ∈ cs ↔ (s.chan n).pflt = true) ∧ (0x1B ∈ cs ↔ s.flag (F.HINGE_STAT_GAP n) = true) ∧
    (0x1A ∈ cs ↔ s.bit (F.CTL_STAT_PLAUS n) 0 = false ∨ s.bit (F.CTL_STAT_PLAUS n) (p.val + 1) = false) ∧
    (0x13 ∈ cs ↔ (s.chan n).servo.shockPend = true ∧ s.inForce (F.AFE_WRGATE_SHOCK_EN n) ≠ 0) ∧
    (0x12 ∈ cs ↔ s.inForce (F.AFE_WRGATE_OFFTRK_THR n) * 2 ^ 29 < err * 256) ∧
    (0x17 ∈ cs ↔ s.bit (F.AFE_WRINH_INH n) hd = true ∨ s.bit (F.CTL_RROSTAT_CONV n) hd = false) ∧
    (0x1E ∈ cs ↔ s.flag (F.MOT_STAT_IN_TOL n) = false ∧ (s.flag F.PWR_SUPPLY_PLOSS = false ∨ second = false)) ∧
    ((s.stit n p).cur = some d → (0x18 ∈ cs ↔ (descCmd d = 0x02 ∧ descSpec d = true) ∨ ready = false ∨ (s.rst.chip ≠ none ∧ second = false))) ∧
    (firstCause cs = none ↔ cs = []) ∧ (firstCause cs = some c → c ∈ cs ∧ ∀ x ∈ cs, causeOrder.idxOf c ≤ causeOrder.idxOf x)) ∧
  -- PART_FIRST_BIT
  (chanFailed n s = true → exec (.partFirstBit n p inTime) s = .next s) ∧
  (q.arm = none ∨ (q.arm = some a ∧ (a.left = 0 ∨ a.isOpen = true ∨ a.act = 4)) → exec (.partFirstBit n p inTime) s = .next s) ∧
  (chanFailed n s = false → q.arm = some a → a.left ≠ 0 → a.isOpen = false →
    (a.act = 2 → (s.stit n p).cur = some d →
      let ok := a.commit && inTime && (a.begun || framesDone n s) && (descCmd d == 0x11 || a.begun || q.fifo.head? == some .good)
      (firstCause (gateCauses n p ok a.begun t) = none → exec (.partFirstBit n p inTime) s =
        .next (markMedia n p ((t.modPath n p fun q => { q with arm := some { begun with commit := false } }).event n p 5))) ∧
      (firstCause (gateCauses n p ok a.begun t) = some c → exec (.partFirstBit n p inTime) s =
        .next (writeResult n p c a.begun (if a.commit = true ∧ inTime = true then t else late 2)))) ∧
    (a.act = 1 ∨ a.act = 3 ∨ a.act = 5 →
      let go := fun (u : State) => (u.modPath n p fun q => { q with arm := some begun }).event n p 5
      (a.begun = true → exec (.partFirstBit n p inTime) s = .next (go t)) ∧
      (a.begun = false → inTime = false → exec (.partFirstBit n p inTime) s = .next (sectorResult n p 0x06 (late a.act.val))) ∧
      (a.begun = false → inTime = true → t.get (F.DET_SSTAT_FREE n p) = 0 →
        exec (.partFirstBit n p inTime) s = .next (sectorResult n p 0x06 (t.inc (F.DET_SSTAT_NOT_CAPT n p)))) ∧
      (a.begun = false → inTime = true → t.get (F.DET_SSTAT_FREE n p) ≠ 0 →
        exec (.partFirstBit n p inTime) s = .next (go (takeBuffer n p (t.modPath n p fun q => { q with cap := Capturing.none })))))) ∧
  (let f := s.get (F.DET_SSTAT_FREE n p)
   let th := s.get (F.DET_SSTAT_THRESH n p)
   (th < f ∧ f - 1 ≤ th → (takeBuffer n p s).stit n p = (s.stit n p).latch 11) ∧
   (f ≤ th ∨ th < f - 1 → (takeBuffer n p s).stit n p = s.stit n p) ∧
   (0 < f → f < 2 ^ (F.DET_SSTAT_FREE n p).width → (takeBuffer n p s).get (F.DET_SSTAT_FREE n p) = f - 1)) ∧
  -- PART_LAST_BIT
  (q.arm = some a → a.isOpen = true → (s.stit n p).cur = some d →
    let b := { a with isOpen := false, pos := slotCut rpm (descZone d) a.slot }
    let e := fun (u : State) => (u.modPath n p fun q => { q with arm := some b }).event n p 7
    let w := s.modPath n p fun q => { q with
      wdata := driven n p last a d s
      wshift := precomp (s.inForce (F.AFE_WRCFG_PC1 n p)) (s.inForce (F.AFE_WRCFG_PC2 n p)) false false false (driven n p last a d s) }
    let short := descCmd d ≠ 0x11 ∧ slotSplit rpm (descZone d) a.slot = true ∧ a.pos = 0
    (a.act = 2 →
      (a.cause = some c → 38783 ≤ last → exec (.partLastBit n p last o) s = .next (fin (writeResult n p 0x10 false (e w)))) ∧
      (a.cause = some c → last < 38783 → exec (.partLastBit n p last o) s = .next (fin (writeResult n p c true ((e w).event n p 9)))) ∧
      (a.cause = none → a.left = 0 → ¬ short → exec (.partLastBit n p last o) s = .next (fin (writeResult n p 0x10 false (e w)))) ∧
      (a.cause = none → a.left = 0 → short → a.begun = true → exec (.partLastBit n p last o) s =
        .next (fin (writeResult n p 0x18 true ((e w).event n p 9)))) ∧
      (a.cause = none → a.left ≠ 0 → exec (.partLastBit n p last o) s = .next (fin (e w)))) ∧
    (a.act = 1 ∨ a.act = 3 →
      let g := fun (more : Bool) => (e s).modPath n p fun q => { q with cap := addPart q.cap more o }
      (a.left ≠ 0 → exec (.partLastBit n p last o) s = .next (fin (g true))) ∧
      (a.left = 0 → exec (.partLastBit n p last o) s = .next (fin (sectorCaptured n p a.act d (g false))))) ∧
    (a.act = 5 → a.left = 0 →
      let raw := storeSamples (liveCfg n p d none s) (markThr (s.get (F.DET_SYNCCFG_RESUME_THR n))) 5 d (addPart q.cap false o)
      exec (.partLastBit n p last o) s = .next (fin (sectorResult n p 0 (freeBuffer n p ((e { s with
        dram := s.dram.setRun (handleUnit (descHandle d p).toNat s * 4096) (packSamples raw.1.run) }).modPath n p fun q =>
          { q with cap := Capturing.none })))))) ∧
  (let r := storeSamples (liveCfg n p d (heldGains n d s) s) (markThr (s.get (F.DET_SYNCCFG_RESUME_THR n))) a.act d q.cap
   sectorCaptured n p a.act d s = captureStatus n p r.1 (s.modPath n p fun q => { q with
     arm := none, cap := Capturing.none, wait := q.wait ++ [r.1], dc := r.2.1, asym := r.2.2 })) ∧
  (q.arm = none ∨ (q.arm = some a ∧ (a.isOpen = false ∨ a.act = 4)) → exec (.partLastBit n p last o) s = .next (fin s)) ∧
  (∀ was u, u.rst.chip = none → chipRetract n was u = u) ∧
  (s.flag F.PWR_SUPPLY_PLOSS = false → powerTrap n p s = s) ∧
  (s.flag F.PWR_SUPPLY_PLOSS = true → (q.arm = none → powerTrap n p s = s.modStit n p fun x => { x with tpend := setB x.tpend 3 }) ∧
    (q.arm = some a → a.act = 2 → a.begun = true → powerTrap n p s = s)) ∧
  -- WRITE_FIFO_READY
  (let take := fun (v : FifoSec) => (s.modPath n p fun x => { x with wfFetch := false, fifo := x.fifo ++ [v] }).event n p 4
   let h := (descHandle d p).toNat
   let u := handleUnit h s
   (q.wfFetch = true → (s.stit n p).cur = some d →
     (h = emptyHandle ∨ (unitMatch u s = true ∧ unitPoison u s = false) → exec (.writeFifoReady n p false) s = .next (take .good)) ∧
     (h ≠ emptyHandle → unitMatch u s = false ∨ unitPoison u s = true →
       (findItem (descTag d) (s.chan n).sched.ring = none → exec (.writeFifoReady n p false) s = .next (take .differs)) ∧
       (findItem (descTag d) (s.chan n).sched.ring = some it → it.kind = .destage →
         exec (.writeFifoReady n p false) s = .next (readBack h (take .differs))) ∧
       (findItem (descTag d) (s.chan n).sched.ring = some it → it.kind = .hostWrite → exec (.writeFifoReady n p false) s =
         .next ((take .differs).each it.cmds fun k v => failCmd k stInternal v)) ∧
       (findItem (descTag d) (s.chan n).sched.ring = some it → it.kind ≠ .destage → it.kind ≠ .hostWrite →
         exec (.writeFifoReady n p false) s = .next (take .differs)))) ∧
   (q.wfFetch = false ∨ (s.stit n p).cur = none → exec (.writeFifoReady n p false) s = .next s) ∧
   (gateOpen n p s = true → exec (.writeFifoReady n p true) s = .next (parkGate n p 0x15 s)) ∧
   (gateOpen n p s = false → q.wfFetch = false → exec (.writeFifoReady n p true) s = .next s) ∧
   (gateOpen n p s = false → q.wfFetch = true → exec (.writeFifoReady n p true) s = .next (take .broken))) ∧
  -- the preamplifier and the zone clock
  (let t := parkAll n 0x14 (s.modChan n fun x => { x with pflt := true, frames := [⟨true, Config.paFaultAddr, stat⟩] })
   let r := if t.flag (F.AFE_WRFLT_PFLT n) then t
     else ((t.set (F.AFE_WRFLT_PFLT n) 1).set (F.AFE_WRFLT_HEAD n) head).set (F.AFE_WRFLT_PA_STAT n) stat.toNat
   let w := r.each (allPaths.filter fun x => gateOpen n x s) fun x u => u.modStit n x fun y =>
     let z := { y with wrCode := 0x14 }
     if z.enabled 5 then { z with tpend := setB z.tpend 5 } else z
   let m := w.modSched n fun x => { x with paFaults := x.paFaults ++ [head] }
   (head ∉ (s.chan n).sched.paFaults → exec (.preampFaultAssert n head stat) s = .next (m.raise (chSrc n 5) head 0 stat.toNat)) ∧
   (head ∈ (s.chan n).sched.paFaults → exec (.preampFaultAssert n head stat) s =
     .next ((m.setBit (F.AFE_WRINH_INH n) head true).raise (chSrc n 5) head 0 stat.toNat))) ∧
  exec (.preampFaultRelease n) s = .next (s.modChan n fun x => { x with pflt := false }) ∧
  (q.pa ≠ [] → exec (.preampFrameDone n p) s = .next ((s.modPath n p fun q => { q with pa := [] }).event n p 3)) ∧
  (q.pa = [] → exec (.preampFrameDone n p) s = .next s) ∧
  (q.fePower = true → q.zone = some c → exec (.zoneReady n p) s = .next ((s.modPath n p fun q => { q with zoneOk := true }).event n p 2)) ∧
  (q.fePower = false ∨ q.zone = none → exec (.zoneReady n p) s = .next s)
end

