-- ==== Sys2Proof/Laws/NatMap.lean ====
section
/-! SUPPORT. The laws of the sparse stores: a read after a write gives what was written, a write leaves every other key
alone, and every operation keeps the canonical form. -/

namespace Sys2Proof.Machine

/-! ### Canonical cells -/

theorem risingFrom_weaken {a b : Nat} (h : a ≤ b) : ∀ l : List (Nat × Nat), risingFrom b l = true → risingFrom a l = true
  | [], _ => rfl
  | (k, v) :: r, w => by
    simp only [risingFrom, Bool.and_eq_true, decide_eq_true_eq] at w ⊢
    exact ⟨⟨by omega, w.1.2⟩, w.2⟩

theorem insertCell_rising (b k v : Nat) (hb : b < k) : ∀ l, risingFrom b l = true → risingFrom b (insertCell k v l) = true
  | [], _ => by by_cases hv : v = 0 <;> simp [insertCell, risingFrom, hv, hb]
  | (a, w) :: r, h => by
    simp only [risingFrom, Bool.and_eq_true, decide_eq_true_eq] at h
    obtain ⟨⟨ha, hw⟩, hr⟩ := h
    simp only [insertCell]
    split
    · split <;> simp_all [risingFrom]
    · split
      · split
        · exact risingFrom_weaken (by omega) r hr
        · simp_all [risingFrom]
      · simp only [risingFrom, Bool.and_eq_true, decide_eq_true_eq]
        exact ⟨⟨ha, hw⟩, insertCell_rising a k v (by omega) r hr⟩

theorem NatMap.set_wf {m : NatMap} (h : m.wf = true) (k v : Nat) : (m.set k v).wf = true := by
  cases m with | mk l =>
  cases l with
  | nil => by_cases hv : v = 0 <;> simp [NatMap.set, NatMap.wf, insertCell, risingFrom, hv]
  | cons c r =>
    obtain ⟨a, w⟩ := c
    simp only [NatMap.wf, Bool.and_eq_true, decide_eq_true_eq] at h
    obtain ⟨hw, hr⟩ := h
    simp only [NatMap.set, insertCell]
    split
    · split <;> simp_all [NatMap.wf, risingFrom]
    · split
      · split
        · cases r with
          | nil => rfl
          | cons d r' =>
            simp only [risingFrom, Bool.and_eq_true, decide_eq_true_eq] at hr
            simp [NatMap.wf, hr.1.2, hr.2]
        · simp_all [NatMap.wf]
      · simp only [NatMap.wf, Bool.and_eq_true, decide_eq_true_eq]
        exact ⟨hw, insertCell_rising a k v (by omega) r hr⟩

theorem filter_rising (p : Nat × Nat → Bool) (b : Nat) : ∀ l, risingFrom b l = true → risingFrom b (l.filter p) = true
  | [], _ => rfl
  | (a, w) :: r, h => by
    simp only [risingFrom, Bool.and_eq_true, decide_eq_true_eq] at h
    simp only [List.filter]
    split
    · simp only [risingFrom, Bool.and_eq_true, decide_eq_true_eq]
      exact ⟨h.1, filter_rising p a r h.2⟩
    · exact risingFrom_weaken (by omega) _ (filter_rising p a r h.2)

theorem wf_of_rising {b : Nat} {l : List (Nat × Nat)} (h : risingFrom b l = true) : (NatMap.mk l).wf = true := by
  cases l with
  | nil => rfl
  | cons c r =>
    simp only [risingFrom, Bool.and_eq_true, decide_eq_true_eq] at h
    simp [NatMap.wf, h.1.2, h.2]

theorem filter_wf {m : NatMap} (h : m.wf = true) (p : Nat × Nat → Bool) : (NatMap.mk (m.cells.filter p)).wf = true := by
  cases m with | mk l =>
  cases l with
  | nil => rfl
  | cons c r =>
    obtain ⟨a, w⟩ := c
    simp only [NatMap.wf, Bool.and_eq_true, decide_eq_true_eq] at h
    simp only [List.filter]
    split
    · simp [NatMap.wf, h.1, filter_rising p a r h.2]
    · exact wf_of_rising (filter_rising p a r h.2)

theorem NatMap.clear_wf {m : NatMap} (h : m.wf = true) (lo hi : Nat) : (m.clear lo hi).wf = true := filter_wf h _

theorem NatMap.clearIf_wf {m : NatMap} (h : m.wf = true) (p : Nat → Bool) : (m.clearIf p).wf = true := filter_wf h _

theorem NatMap.setMany_wf (vs : List Nat) : ∀ {m : NatMap} (k : Nat), m.wf = true → (m.setMany k vs).wf = true := by
  induction vs with
  | nil => intro m k h; exact h
  | cons v vs ih => intro m k h; exact ih (k + 1) (NatMap.set_wf h k v)

theorem NatMap.empty_wf : NatMap.empty.wf = true := rfl

/-! ### Runs -/

/-- Cells in canonical form: keys above `b`, all below `c`. -/
theorem risingFrom_append (c : Nat) : ∀ (b : Nat) (l m : List (Nat × Nat)), risingFrom b l = true → (∀ x ∈ l, x.1 < c) → b < c →
    risingFrom (c - 1) m = true → risingFrom b (l ++ m) = true
  | b, [], m, _, _, hc, hm => risingFrom_weaken (by omega) m hm
  | b, (a, w) :: r, m, hl, hx, hc, hm => by
    simp only [risingFrom, Bool.and_eq_true, decide_eq_true_eq] at hl
    simp only [List.cons_append, risingFrom, Bool.and_eq_true, decide_eq_true_eq]
    exact ⟨hl.1, risingFrom_append c a r m hl.2 (fun x h => hx x (List.mem_cons_of_mem _ h)) (hx (a, w) (List.mem_cons_self ..)) hm⟩

theorem wf_append {c : Nat} {l m : List (Nat × Nat)} (hl : (NatMap.mk l).wf = true) (hx : ∀ x ∈ l, x.1 < c)
    (hm : (NatMap.mk m).wf = true) (hy : ∀ x ∈ m, c ≤ x.1) : (NatMap.mk (l ++ m)).wf = true := by
  cases l with
  | nil => exact hm
  | cons d r =>
    obtain ⟨a, w⟩ := d
    simp only [NatMap.wf, Bool.and_eq_true, decide_eq_true_eq] at hl
    have ha : a < c := hx (a, w) (List.mem_cons_self ..)
    have hm' : risingFrom (c - 1) m = true := by
      cases m with
      | nil => rfl
      | cons e r' =>
        have := hy e (List.mem_cons_self ..)
        simp only [NatMap.wf, Bool.and_eq_true, decide_eq_true_eq] at hm
        simp only [risingFrom, Bool.and_eq_true, decide_eq_true_eq]
        exact ⟨⟨by omega, hm.1⟩, hm.2⟩
    simp only [List.cons_append, NatMap.wf, Bool.and_eq_true, decide_eq_true_eq]
    exact ⟨hl.1, risingFrom_append c a r m hl.2 (fun x h => hx x (List.mem_cons_of_mem _ h)) ha hm'⟩

theorem cellsOf_bounds (vs : List Nat) : ∀ k, ∀ x ∈ cellsOf k vs, k ≤ x.1 ∧ x.1 < k + vs.length := by
  induction vs with
  | nil => intro k x h; simp [cellsOf] at h
  | cons v vs ih =>
    intro k x h
    simp only [cellsOf] at h
    split at h
    · have := ih (k + 1) x h
      simp only [List.length_cons]; omega
    · rcases List.mem_cons.mp h with e | h'
      · subst e; simp
      · have := ih (k + 1) x h'
        simp only [List.length_cons]; omega

theorem cellsOf_wf (vs : List Nat) : ∀ k, (NatMap.mk (cellsOf k vs)).wf = true := by
  induction vs with
  | nil => intro k; rfl
  | cons v vs ih =>
    intro k
    simp only [cellsOf]
    split
    · exact ih (k + 1)
    · exact wf_append (c := k + 1) (l := [(k, v)]) (by simp_all [NatMap.wf, risingFrom]) (by simp) (ih (k + 1))
        (fun x h => (cellsOf_bounds vs (k + 1) x h).1)

theorem NatMap.setRun_wf {m : NatMap} (h : m.wf = true) (k : Nat) (vs : List Nat) : (m.setRun k vs).wf = true := by
  simp only [NatMap.setRun]
  have h1 : ∀ x ∈ m.cells.filter (fun c => decide (c.1 < k)), x.1 < k := by
    intro x hx; simpa using (List.mem_filter.mp hx).2
  have h3 : ∀ x ∈ m.cells.filter (fun c => decide (k + vs.length ≤ c.1)), k + vs.length ≤ x.1 := by
    intro x hx; simpa using (List.mem_filter.mp hx).2
  refine wf_append (c := k + vs.length) ?_ ?_ (filter_wf h _) h3
  · exact wf_append (c := k) (filter_wf h _) h1 (cellsOf_wf vs k) (fun x hx => (cellsOf_bounds vs k x hx).1)
  · intro x hx
    rcases List.mem_append.mp hx with a | a
    · have := h1 x a; omega
    · exact (cellsOf_bounds vs k x a).2

/-! ### Reads after writes -/

theorem lookupCell_rising (k b : Nat) (h : k ≤ b) : ∀ l, risingFrom b l = true → lookupCell k l = 0
  | [], _ => rfl
  | (a, w) :: r, hl => by
    simp only [risingFrom, Bool.and_eq_true, decide_eq_true_eq] at hl
    simp only [lookupCell]
    rw [if_neg (by omega)]
    exact lookupCell_rising k a (by omega) r hl.2

theorem lookupCell_insert_ne (k v j : Nat) (h : j ≠ k) : ∀ l, lookupCell j (insertCell k v l) = lookupCell j l
  | [] => by by_cases hv : v = 0 <;> simp [insertCell, lookupCell, hv, Ne.symm h]
  | (a, w) :: r => by
    simp only [insertCell]
    split
    · split <;> simp [lookupCell, Ne.symm h]
    · split
      · rename_i e
        subst e
        split <;> simp [lookupCell, Ne.symm h]
      · simp only [lookupCell]
        rw [lookupCell_insert_ne k v j h r]

theorem lookupCell_insert_rising (k v : Nat) : ∀ (b : Nat) l, risingFrom b l = true → lookupCell k (insertCell k v l) = v
  | _, [], _ => by by_cases hv : v = 0 <;> simp [insertCell, lookupCell, hv]
  | b, (a, w) :: r, h => by
    simp only [risingFrom, Bool.and_eq_true, decide_eq_true_eq] at h
    simp only [insertCell]
    split
    · split
      · rename_i hv
        subst hv
        simp only [lookupCell]
        rw [if_neg (by omega)]
        exact lookupCell_rising k a (by omega) r h.2
      · simp [lookupCell]
    · split
      · rename_i e
        subst e
        split
        · rename_i hv
          subst hv
          exact lookupCell_rising k k (Nat.le_refl k) r h.2
        · simp [lookupCell]
      · simp only [lookupCell]
        rw [if_neg (by omega)]
        exact lookupCell_insert_rising k v a r h.2

theorem lookupCell_insert_cons (k v a w : Nat) (r : List (Nat × Nat)) (hr : risingFrom a r = true) :
    lookupCell k (insertCell k v ((a, w) :: r)) = v := by
  simp only [insertCell]
  split
  · split
    · rename_i hv
      subst hv
      simp only [lookupCell]
      rw [if_neg (by omega)]
      exact lookupCell_rising k a (by omega) r hr
    · simp [lookupCell]
  · split
    · rename_i e
      subst e
      split
      · rename_i hv
        subst hv
        exact lookupCell_rising k k (Nat.le_refl k) r hr
      · simp [lookupCell]
    · simp only [lookupCell]
      rw [if_neg (by omega)]
      exact lookupCell_insert_rising k v a r hr

/-- A read after a write to the same key of a canonical store gives the value written. -/
theorem NatMap.get_set_same {m : NatMap} (h : m.wf = true) (k v : Nat) : (m.set k v).get k = v := by
  cases m with | mk l =>
  cases l with
  | nil => by_cases hv : v = 0 <;> simp [NatMap.set, NatMap.get, insertCell, lookupCell, hv]
  | cons c r =>
    simp only [NatMap.wf, Bool.and_eq_true, decide_eq_true_eq] at h
    exact lookupCell_insert_cons k v c.1 c.2 r h.2

/-- A write leaves every other key alone. -/
theorem NatMap.get_set_other (m : NatMap) (k v j : Nat) (h : j ≠ k) : (m.set k v).get j = m.get j :=
  lookupCell_insert_ne k v j h m.cells

/-- Two writes to one key of a canonical store of values that differ from zero leave the second. -/
theorem NatMap.get_set {m : NatMap} (h : m.wf = true) (k v j : Nat) : (m.set k v).get j = if j = k then v else m.get j := by
  split
  · rename_i e
    subst e
    exact NatMap.get_set_same h j v
  · exact NatMap.get_set_other m k v j ‹_›

theorem NatMap.foldl_wf {α : Type} (f : NatMap → α → NatMap) (hf : ∀ m a, m.wf = true → (f m a).wf = true) :
    ∀ (l : List α) (m : NatMap), m.wf = true → (l.foldl f m).wf = true
  | [], _, h => h
  | a :: l, m, h => NatMap.foldl_wf f hf l (f m a) (hf m a h)

end Sys2Proof.Machine
end

