-- ==== Sys2Proof/Laws/KeepBase.lean ====
section
/-! SUPPORT. What no command does: change the queue of waiting commands, or take a store out of its canonical form. `Kept`
says both of a state; here it is shown of the plain updates. One lemma for each operation follows in the files `Keep…`. -/

namespace Sys2Proof.Machine

/-- The queue of the state is `q`, and its stores are canonical. -/
structure KeptParts (q p : List Instr) (r f d : NatMap) (st pa ba : Vector NatMap 8) : Prop where
  queue : p = q
  canon : mapsCanon r f d st pa ba

/-- A state's queue is `q`, and its stores are canonical. -/
@[reducible] def Kept (q : List Instr) (s : State) : Prop := KeptParts q s.pending s.regs s.force s.dram s.store s.pads s.banks

section
variable {q p : List Instr} {r f d : NatMap} {st pa ba : Vector NatMap 8}

theorem vec_wf_set {v : Vector NatMap 8} {n : Ch} {m : NatMap} (h : ∀ k : Ch, v[k].wf = true) (hm : m.wf = true) :
    ∀ k : Ch, (v.set n m)[k].wf = true := by
  intro k
  have := h k
  simp only [Fin.getElem_fin, Vector.getElem_set] at this ⊢
  split
  · exact hm
  · exact this

@[simp] theorem kept_regs_set (k v : Nat) (h : KeptParts q p r f d st pa ba) : KeptParts q p (r.set k v) f d st pa ba :=
  ⟨h.queue, NatMap.set_wf h.canon.1 k v, h.canon.2⟩
@[simp] theorem kept_regs_clear (k v : Nat) (h : KeptParts q p r f d st pa ba) : KeptParts q p (r.clear k v) f d st pa ba :=
  ⟨h.queue, NatMap.clear_wf h.canon.1 k v, h.canon.2⟩
@[simp] theorem kept_force_set (k v : Nat) (h : KeptParts q p r f d st pa ba) : KeptParts q p r (f.set k v) d st pa ba :=
  ⟨h.queue, h.canon.1, NatMap.set_wf h.canon.2.1 k v, h.canon.2.2⟩
@[simp] theorem kept_force_clear (k v : Nat) (h : KeptParts q p r f d st pa ba) : KeptParts q p r (f.clear k v) d st pa ba :=
  ⟨h.queue, h.canon.1, NatMap.clear_wf h.canon.2.1 k v, h.canon.2.2⟩
@[simp] theorem kept_dram_run (k : Nat) (l : List Nat) (h : KeptParts q p r f d st pa ba) :
    KeptParts q p r f (d.setRun k l) st pa ba :=
  ⟨h.queue, h.canon.1, h.canon.2.1, NatMap.setRun_wf h.canon.2.2.1 k l, h.canon.2.2.2⟩

theorem kept_store (n : Ch) (m : NatMap) (hm : (st[n].wf = true) → m.wf = true) (h : KeptParts q p r f d st pa ba) :
    KeptParts q p r f d (st.set n m) pa ba :=
  ⟨h.queue, h.canon.1, h.canon.2.1, h.canon.2.2.1, fun k => ⟨vec_wf_set (fun j => (h.canon.2.2.2 j).1) (hm (h.canon.2.2.2 n).1) k, (h.canon.2.2.2 k).2⟩⟩
theorem kept_pads (n : Ch) (m : NatMap) (hm : (pa[n].wf = true) → m.wf = true) (h : KeptParts q p r f d st pa ba) :
    KeptParts q p r f d st (pa.set n m) ba :=
  ⟨h.queue, h.canon.1, h.canon.2.1, h.canon.2.2.1, fun k => ⟨(h.canon.2.2.2 k).1, vec_wf_set (fun j => (h.canon.2.2.2 j).2.1) (hm (h.canon.2.2.2 n).2.1) k, (h.canon.2.2.2 k).2.2⟩⟩
theorem kept_banks (n : Ch) (m : NatMap) (hm : (ba[n].wf = true) → m.wf = true) (h : KeptParts q p r f d st pa ba) :
    KeptParts q p r f d st pa (ba.set n m) :=
  ⟨h.queue, h.canon.1, h.canon.2.1, h.canon.2.2.1, fun k => ⟨(h.canon.2.2.2 k).1, (h.canon.2.2.2 k).2.1, vec_wf_set (fun j => (h.canon.2.2.2 j).2.2) (hm (h.canon.2.2.2 n).2.2) k⟩⟩

end

/-! ### Control of the flow -/

section
variable {q : List Instr}

theorem kept_ite {c : Prop} [Decidable c] {s t : State} (hs : c → Kept q s) (ht : ¬c → Kept q t) : Kept q (if c then s else t) := by
  split
  · exact hs ‹_›
  · exact ht ‹_›

theorem kept_getD {o : Option State} {s : State} (ho : ∀ t, o = some t → Kept q t) (h : Kept q s) : Kept q (o.getD s) := by
  cases o with
  | none => exact h
  | some t => exact ho t rfl

theorem kept_foldl {α : Type} (f : State → α → State) (hf : ∀ t a, Kept q t → Kept q (f t a)) :
    ∀ (l : List α) (s : State), Kept q s → Kept q (l.foldl f s)
  | [], _, h => h
  | a :: l, s, h => kept_foldl f hf l (f s a) (hf s a h)

theorem kept_foldl_snd {α β : Type} (f : β × State → α → β × State) (hf : ∀ t a, Kept q t.2 → Kept q (f t a).2) :
    ∀ (l : List α) (s : β × State), Kept q s.2 → Kept q (l.foldl f s).2
  | [], _, h => h
  | a :: l, s, h => kept_foldl_snd f hf l (f s a) (hf s a h)

theorem kept_each {α : Type} (s : State) (l : List α) (f : α → State → State) (hf : ∀ a t, Kept q t → Kept q (f a t)) (h : Kept q s) :
    Kept q (s.each l f) := kept_foldl (fun t a => f a t) (fun t a => hf a t) l s h

theorem kept_when (s : State) (b : Bool) (f : State → State) (hf : ∀ t, Kept q t → Kept q (f t)) (h : Kept q s) :
    Kept q (s.when b f) := by
  unfold State.when
  split
  · exact hf s h
  · exact h

end

end Sys2Proof.Machine
end

