-- ==== Sys2Proof/Laws/KeepOps.lean ====
section
/-! SUPPORT. The operations of Machine/Ops.lean leave the queue as it is and keep the stores canonical. -/

namespace Sys2Proof.Machine

set_option linter.unusedTactic false
set_option linter.unreachableTactic false

variable {qq : List Instr}

theorem keep_set (s : State) (f : Fld) (v : Nat) (kq : Kept qq s) : Kept qq (State.set s f v) := by
  unfold State.set
  repeat' (first 
    | (with_reducible assumption) | (intro _) | (with_reducible apply kept_regs_set) | (with_reducible apply kept_regs_clear) 
    | (split) | (dsimp only) | (contradiction))

theorem keep_takeShadow (f : Fld) (s : State) (kq : Kept qq s) : Kept qq (takeShadow f s) := by
  unfold takeShadow
  repeat' (first 
    | (with_reducible assumption) | (with_reducible apply keep_set) | (intro _) | (with_reducible apply kept_regs_set) 
    | (with_reducible apply kept_regs_clear) | (with_reducible apply kept_force_set) | (with_reducible apply kept_force_clear) 
    | (split) | (dsimp only) | (contradiction))

theorem keep_setFlag (s : State) (f : Fld) (b : Bool) (kq : Kept qq s) : Kept qq (State.setFlag s f b) := by
  unfold State.setFlag
  repeat' (first 
    | (with_reducible assumption) | (with_reducible apply keep_set) | (intro _) | (split) | (dsimp only) | (contradiction))

theorem keep_setBit (s : State) (f : Fld) (i : Nat) (b : Bool) (kq : Kept qq s) : Kept qq (State.setBit s f i b) := by
  unfold State.setBit
  repeat' (first 
    | (with_reducible assumption) | (with_reducible apply keep_set) | (intro _) | (split) | (dsimp only) | (contradiction))

theorem keep_addSat (s : State) (f : Fld) (k : Nat) (kq : Kept qq s) : Kept qq (State.addSat s f k) := by
  unfold State.addSat
  repeat' (first 
    | (with_reducible assumption) | (with_reducible apply keep_set) | (intro _) | (split) | (dsimp only) | (contradiction))

theorem keep_inc (s : State) (f : Fld) (kq : Kept qq s) : Kept qq (State.inc s f) := by
  unfold State.inc
  repeat' (first 
    | (with_reducible assumption) | (with_reducible apply keep_addSat) | (intro _) | (split) | (dsimp only) | (contradiction))

theorem keep_incWrap (s : State) (f : Fld) (kq : Kept qq s) : Kept qq (State.incWrap s f) := by
  unfold State.incWrap
  repeat' (first 
    | (with_reducible assumption) | (with_reducible apply keep_set) | (intro _) | (split) | (dsimp only) | (contradiction))

theorem keep_resetRegs (s : State) (lo hi : Nat) (kq : Kept qq s) : Kept qq (State.resetRegs s lo hi) := by
  unfold State.resetRegs
  repeat' (first 
    | (with_reducible assumption) | (intro _) | (with_reducible apply kept_regs_set) | (with_reducible apply kept_regs_clear) 
    | (split) | (dsimp only) | (contradiction))

theorem keep_when (s : State) (b : Bool) (f : State → State) (kq : Kept qq s) (hf : ∀ x0, Kept qq x0 → Kept qq (f x0)) : Kept qq (State.when s b f) := by
  unfold State.when
  repeat' (first 
    | (with_reducible assumption) | (with_reducible apply hf) | (intro _) | (split) | (dsimp only) | (contradiction))

theorem keep_each {α : Type} (s : State) (l : List α) (f : α → State → State) (kq : Kept qq s) (hf : ∀ x0 x1, Kept qq x1 → Kept qq (f x0 x1)) : Kept qq (State.each s l f) := by
  unfold State.each
  repeat' (first 
    | (with_reducible assumption) | (with_reducible apply kept_foldl) | (with_reducible apply kept_foldl_snd) 
    | (with_reducible apply hf) | (intro _) | (split) | (dsimp only) | (contradiction))

theorem keep_used (s : State) (kq : Kept qq s) : Kept qq (State.used s) := by
  unfold State.used
  repeat' (first 
    | (with_reducible assumption) | (intro _) | (split) | (dsimp only) | (contradiction))

theorem keep_modChan (s : State) (n : Ch) (f : Chan → Chan) (kq : Kept qq s) : Kept qq (State.modChan s n f) := by
  unfold State.modChan
  repeat' (first 
    | (with_reducible assumption) | (with_reducible apply keep_set) | (intro _) | (split) | (dsimp only) | (contradiction))

theorem keep_modStit (s : State) (n : Ch) (p : Pa) (f : Stitcher → Stitcher) (kq : Kept qq s) : Kept qq (State.modStit s n p f) := by
  unfold State.modStit
  repeat' (first 
    | (with_reducible assumption) | (with_reducible apply keep_modChan) | (with_reducible apply keep_set) | (intro _) | (split) 
    | (dsimp only) | (contradiction))

theorem keep_modPath (s : State) (n : Ch) (p : Pa) (f : PathSt → PathSt) (kq : Kept qq s) : Kept qq (State.modPath s n p f) := by
  unfold State.modPath
  repeat' (first 
    | (with_reducible assumption) | (with_reducible apply keep_modChan) | (with_reducible apply keep_set) | (intro _) | (split) 
    | (dsimp only) | (contradiction))

theorem keep_modSched (s : State) (n : Ch) (f : Sched → Sched) (kq : Kept qq s) : Kept qq (State.modSched s n f) := by
  unfold State.modSched
  repeat' (first 
    | (with_reducible assumption) | (with_reducible apply keep_modChan) | (intro _) | (split) | (dsimp only) | (contradiction))

theorem keep_raise (s : State) (src : Nat) (inst : Nat) (cause : Nat) (status : Nat) (kq : Kept qq s) : Kept qq (State.raise s src inst cause status) := by
  unfold State.raise
  repeat' (first 
    | (with_reducible assumption) | (intro _) | (split) | (dsimp only) | (contradiction))

end Sys2Proof.Machine
end

