-- ==== Sys2Proof/Laws/KeepLock.lean ====
section
/-! SUPPORT. The operations of Machine/Lock.lean leave the queue as it is and keep the stores canonical. -/

namespace Sys2Proof.Machine

set_option linter.unusedTactic false
set_option linter.unreachableTactic false

variable {qq : List Instr}

theorem keep_busOff (s : State) (kq : Kept qq s) : Kept qq (busOff s) := by
  unfold busOff
  repeat' (first 
    | (with_reducible assumption) | (with_reducible apply keep_inc) | (intro _) | (split) | (dsimp only) | (contradiction))

theorem keep_breakSeq (s : State) (kq : Kept qq s) : Kept qq (breakSeq s) := by
  unfold breakSeq
  repeat' (first 
    | (with_reducible assumption) | (with_reducible apply keep_inc) | (with_reducible apply keep_setFlag) | (intro _) | (split) 
    | (dsimp only) | (contradiction))

theorem keep_discard (a : Nat) (s : State) (kq : Kept qq s) : Kept qq (discard a s) := by
  unfold discard
  repeat' (first 
    | (with_reducible assumption) | (with_reducible apply keep_inc) | (with_reducible apply keep_set) 
    | (with_reducible apply keep_when) | (with_reducible apply kept_when) | (intro _) | (split) | (dsimp only) | (contradiction))

theorem keep_arbWrite (a : Nat) (f : State → State) (s : State) (hf : ∀ x0, Kept qq x0 → Kept qq (f x0)) (kq : Kept qq s) : Kept qq (arbWrite a f s) := by
  unfold arbWrite
  repeat' (first 
    | (with_reducible assumption) | (with_reducible apply keep_breakSeq) | (with_reducible apply keep_busOff) 
    | (with_reducible apply hf) | (intro _) | (split) | (dsimp only) | (contradiction))

theorem keep_lockedWrite (path : RegPath) (a : Nat) (locked : Bool) (f : State → State) (s : State) (hf : ∀ x0, Kept qq x0 → Kept qq (f x0)) (kq : Kept qq s) : Kept qq (lockedWrite path a locked f s) := by
  unfold lockedWrite
  repeat' (first 
    | (with_reducible assumption) | (with_reducible apply keep_arbWrite) | (with_reducible apply keep_discard) 
    | (with_reducible apply hf) | (intro _) | (split) | (dsimp only) | (contradiction))

end Sys2Proof.Machine
end

