-- ==== Sys2Proof/Laws/KeepDmaRing.lean ====
section
/-! SUPPORT. The operations of Machine/DmaRing.lean leave the queue as it is and keep the stores canonical. -/

namespace Sys2Proof.Machine

set_option linter.unusedTactic false
set_option linter.unreachableTactic false

variable {qq : List Instr}

theorem keep_dmaEnd (c : Ch) (code ofs : Nat) (s : State) (kq : Kept qq s) : Kept qq (dmaEnd c code ofs s) := by
  unfold dmaEnd
  repeat' (first 
    | (with_reducible assumption) | (with_reducible apply keep_raise) | (with_reducible apply keep_set) 
    | (with_reducible apply keep_setFlag) | (with_reducible apply keep_when) | (with_reducible apply kept_when) | (intro _) 
    | (with_reducible apply kept_dram_run) | (split) | (dsimp only) | (contradiction))

theorem keep_dmaKick (c : Ch) (s : State) (kq : Kept qq s) : Kept qq (dmaKick c s) := by
  unfold dmaKick
  repeat' (first 
    | (with_reducible assumption) | (with_reducible apply keep_setFlag) | (with_reducible apply keep_used) 
    | (with_reducible apply keep_dmaEnd) | (intro _) | (split) | (dsimp only) | (contradiction))

theorem keep_dmaResume (c : Ch) (s : State) (kq : Kept qq s) : Kept qq (dmaResume c s) := by
  unfold dmaResume
  repeat' (first 
    | (with_reducible assumption) | (with_reducible apply keep_setFlag) | (with_reducible apply keep_dmaKick) | (intro _) 
    | (split) | (dsimp only) | (contradiction))

end Sys2Proof.Machine
end

