-- ==== Sys2Proof/Laws/KeepSha.lean ====
section
/-! SUPPORT. The operations of Machine/Sha.lean leave the queue as it is and keep the stores canonical. -/

namespace Sys2Proof.Machine

set_option linter.unusedTactic false
set_option linter.unreachableTactic false

variable {qq : List Instr}


end Sys2Proof.Machine
end

