-- ==== Sys2Proof/Laws/KeepColo.lean ====
section
/-! SUPPORT. The operations of Machine/Colo.lean leave the queue as it is and keep the stores canonical. -/

namespace Sys2Proof.Machine

set_option linter.unusedTactic false
set_option linter.unreachableTactic false

variable {qq : List Instr}

theorem keep_coloWrite (src code : Nat) (pl : List Nat) (s : State) (kq : Kept qq s) : Kept qq (coloWrite src code pl s) := by
  unfold coloWrite
  repeat' (first 
    | (with_reducible assumption) | (with_reducible apply kept_getD) | (with_reducible apply keep_setFlag) | (intro _) | (split) 
    | (dsimp only) | (contradiction))

theorem keep_record (s : State) (src code : Nat) (bs : List Nat) (kq : Kept qq s) : Kept qq (State.record s src code bs) := by
  unfold State.record
  repeat' (first 
    | (with_reducible assumption) | (with_reducible apply keep_coloWrite) | (intro _) | (split) | (dsimp only) | (contradiction))

theorem keep_resetRecord (kind b : Nat) (s : State) (kq : Kept qq s) : Kept qq (resetRecord kind b s) := by
  unfold resetRecord
  repeat' (first 
    | (with_reducible assumption) | (with_reducible apply keep_record) | (intro _) | (split) | (dsimp only) | (contradiction))

theorem keep_coloStart (s : State) (kq : Kept qq s) : Kept qq (coloStart s) := by
  unfold coloStart
  repeat' (first 
    | (with_reducible assumption) | (with_reducible apply kept_getD) | (with_reducible apply keep_each) 
    | (with_reducible apply keep_record) | (with_reducible apply keep_when) | (with_reducible apply kept_each) 
    | (with_reducible apply kept_when) | (intro _) | (split) | (dsimp only) | (contradiction))

theorem keep_coloMirrorOn (s : State) (kq : Kept qq s) : Kept qq (coloMirrorOn s) := by
  unfold coloMirrorOn
  repeat' (first 
    | (with_reducible assumption) | (with_reducible apply keep_setFlag) | (intro _) | (split) | (dsimp only) | (contradiction))

theorem keep_coloMirror (ok : Bool) (s : State) (kq : Kept qq s) : Kept qq (coloMirror ok s) := by
  unfold coloMirror
  repeat' (first 
    | (with_reducible assumption) | (with_reducible apply kept_getD) | (with_reducible apply keep_raise) | (intro _) | (split) 
    | (dsimp only) | (contradiction))

theorem keep_coloExtend (s : State) (kq : Kept qq s) : Kept qq (coloExtend s) := by
  unfold coloExtend
  repeat' (first 
    | (with_reducible assumption) | (intro _) | (split) | (dsimp only) | (contradiction))

theorem keep_coloChallenge (s : State) (kq : Kept qq s) : Kept qq (coloChallenge s) := by
  unfold coloChallenge
  repeat' (first 
    | (with_reducible assumption) | (with_reducible apply keep_set) | (with_reducible apply keep_used) | (intro _) | (split) 
    | (dsimp only) | (contradiction))

theorem keep_coloErase (s : State) (kq : Kept qq s) : Kept qq (coloErase s) := by
  unfold coloErase
  repeat' (first 
    | (with_reducible assumption) | (with_reducible apply kept_getD) | (with_reducible apply keep_record) 
    | (with_reducible apply keep_set) | (intro _) | (split) | (dsimp only) | (contradiction))

theorem keep_coloDeny (s : State) (kq : Kept qq s) : Kept qq (coloDeny s) := by
  unfold coloDeny
  repeat' (first 
    | (with_reducible assumption) | (with_reducible apply kept_getD) | (with_reducible apply keep_record) 
    | (with_reducible apply keep_set) | (with_reducible apply keep_setFlag) | (with_reducible apply keep_used) 
    | (with_reducible apply keep_when) | (with_reducible apply kept_when) | (intro _) | (split) | (dsimp only) | (contradiction))

theorem keep_coloClear (resp : W32) (inTime : Bool) (s : State) (kq : Kept qq s) : Kept qq (coloClear resp inTime s) := by
  unfold coloClear
  repeat' (first 
    | (with_reducible assumption) | (with_reducible apply keep_coloDeny) | (with_reducible apply keep_coloErase) | (intro _) 
    | (split) | (dsimp only) | (contradiction))

theorem keep_coloUnlock (s : State) (kq : Kept qq s) : Kept qq (coloUnlock s) := by
  unfold coloUnlock
  repeat' (first 
    | (with_reducible assumption) | (with_reducible apply keep_set) | (with_reducible apply keep_setFlag) 
    | (with_reducible apply keep_when) | (with_reducible apply kept_when) | (intro _) | (split) | (dsimp only) | (contradiction))

end Sys2Proof.Machine
end

