-- ==== Sys2Proof/Laws/KeepHostOps.lean ====
section
/-! SUPPORT. The operations of Machine/HostOps.lean leave the queue as it is and keep the stores canonical. -/

namespace Sys2Proof.Machine

set_option linter.unusedTactic false
set_option linter.unreachableTactic false

variable {qq : List Instr}

theorem keep_modHost (s : State) (f : HostSt → HostSt) (kq : Kept qq s) : Kept qq (State.modHost s f) := by
  unfold State.modHost
  repeat' (first 
    | (with_reducible assumption) | (intro _) | (split) | (dsimp only) | (contradiction))

theorem keep_modCmd (s : State) (k : Nat) (f : Cmd → Cmd) (kq : Kept qq s) : Kept qq (State.modCmd s k f) := by
  unfold State.modCmd
  repeat' (first 
    | (with_reducible assumption) | (with_reducible apply keep_modHost) | (intro _) | (split) | (dsimp only) | (contradiction))

theorem keep_finish (s : State) (k st : Nat) (kq : Kept qq s) : Kept qq (State.finish s k st) := by
  unfold State.finish
  repeat' (first 
    | (with_reducible assumption) | (with_reducible apply keep_modCmd) | (intro _) | (split) | (dsimp only) | (contradiction))

theorem keep_finishDw (s : State) (k st dw0 dw1 : Nat) (kq : Kept qq s) : Kept qq (State.finishDw s k st dw0 dw1) := by
  unfold State.finishDw
  repeat' (first 
    | (with_reducible assumption) | (with_reducible apply keep_modCmd) | (intro _) | (split) | (dsimp only) | (contradiction))

theorem keep_checkDone (b r : Nat) (s : State) (kq : Kept qq s) : Kept qq (checkDone b r s) := by
  unfold checkDone
  repeat' (first 
    | (with_reducible assumption) | (with_reducible apply keep_each) | (with_reducible apply keep_finish) 
    | (with_reducible apply keep_finishDw) | (with_reducible apply keep_modCmd) | (with_reducible apply kept_each) | (intro _) 
    | (split) | (dsimp only) | (contradiction))

theorem keep_itemDone (s : State) (k : Nat) (kq : Kept qq s) : Kept qq (State.itemDone s k) := by
  unfold State.itemDone
  repeat' (first 
    | (with_reducible assumption) | (with_reducible apply keep_modCmd) | (intro _) | (split) | (dsimp only) | (contradiction))

theorem keep_markStarted (k : Nat) (s : State) (kq : Kept qq s) : Kept qq (markStarted k s) := by
  unfold markStarted
  repeat' (first 
    | (with_reducible assumption) | (with_reducible apply keep_modCmd) | (intro _) | (split) | (dsimp only) | (contradiction))

theorem keep_modNs (s : State) (nsid : Nat) (f : Ns → Ns) (kq : Kept qq s) : Kept qq (State.modNs s nsid f) := by
  unfold State.modNs
  repeat' (first 
    | (with_reducible assumption) | (with_reducible apply keep_modHost) | (intro _) | (split) | (dsimp only) | (contradiction))

theorem keep_modCtlr (s : State) (c : Ctl) (f : Ctlr → Ctlr) (kq : Kept qq s) : Kept qq (State.modCtlr s c f) := by
  unfold State.modCtlr
  repeat' (first 
    | (with_reducible assumption) | (with_reducible apply keep_modHost) | (with_reducible apply keep_set) | (intro _) | (split) 
    | (dsimp only) | (contradiction))

theorem keep_aen (s : State) (c : Ctl) (typ info page : Nat) (kq : Kept qq s) : Kept qq (State.aen s c typ info page) := by
  unfold State.aen
  repeat' (first 
    | (with_reducible assumption) | (with_reducible apply keep_modCtlr) | (intro _) | (split) | (dsimp only) | (contradiction))

theorem keep_aenAll (s : State) (typ info page : Nat) (kq : Kept qq s) : Kept qq (State.aenAll s typ info page) := by
  unfold State.aenAll
  repeat' (first 
    | (with_reducible assumption) | (with_reducible apply keep_aen) | (with_reducible apply keep_each) 
    | (with_reducible apply kept_each) | (intro _) | (split) | (dsimp only) | (contradiction))

theorem keep_chanEvent (s : State) (kq : Kept qq s) : Kept qq (State.chanEvent s) := by
  unfold State.chanEvent
  repeat' (first 
    | (with_reducible assumption) | (with_reducible apply keep_aenAll) | (intro _) | (split) | (dsimp only) | (contradiction))

theorem keep_errInfo (s : State) (c : Ctl) (sqid cid st lba nsid : Nat) (kq : Kept qq s) : Kept qq (State.errInfo s c sqid cid st lba nsid) := by
  unfold State.errInfo
  repeat' (first 
    | (with_reducible assumption) | (with_reducible apply keep_modCtlr) | (intro _) | (split) | (dsimp only) | (contradiction))

theorem keep_errUnread (s : State) (nsid lba : Nat) (kq : Kept qq s) : Kept qq (State.errUnread s nsid lba) := by
  unfold State.errUnread
  repeat' (first 
    | (with_reducible assumption) | (with_reducible apply keep_each) | (with_reducible apply keep_errInfo) 
    | (with_reducible apply kept_each) | (intro _) | (split) | (dsimp only) | (contradiction))

theorem keep_answer (s : State) (bs : List Nat) (kq : Kept qq s) : Kept qq (State.answer s bs) := by
  unfold State.answer
  repeat' (first 
    | (with_reducible assumption) | (with_reducible apply keep_modHost) | (intro _) | (split) | (dsimp only) | (contradiction))

end Sys2Proof.Machine
end

