-- ==== Sys2Proof/Laws/KeepReam.lean ====
section
/-! SUPPORT. The operations of Machine/Ream.lean leave the queue as it is and keep the stores canonical. -/

namespace Sys2Proof.Machine

set_option linter.unusedTactic false
set_option linter.unreachableTactic false

variable {qq : List Instr}

theorem keep_modPool (s : State) (i : PoolId) (f : Pool → Pool) (kq : Kept qq s) : Kept qq (State.modPool s i f) := by
  unfold State.modPool
  repeat' (first 
    | (with_reducible assumption) | (with_reducible apply keep_set) | (intro _) | (split) | (dsimp only) | (contradiction))

theorem keep_modReam (s : State) (f : Ream → Ream) (kq : Kept qq s) : Kept qq (State.modReam s f) := by
  unfold State.modReam
  repeat' (first 
    | (with_reducible assumption) | (intro _) | (split) | (dsimp only) | (contradiction))

theorem keep_poolSync (i : PoolId) (s : State) (kq : Kept qq s) : Kept qq (poolSync i s) := by
  unfold poolSync
  repeat' (first 
    | (with_reducible assumption) | (with_reducible apply keep_raise) | (with_reducible apply keep_set) 
    | (with_reducible apply keep_setFlag) | (with_reducible apply keep_when) | (with_reducible apply kept_when) | (intro _) 
    | (split) | (dsimp only) | (contradiction))

theorem keep_clearSide (h : Nat) (s : State) (kq : Kept qq s) : Kept qq (clearSide h s) := by
  unfold clearSide
  repeat' (first 
    | (with_reducible assumption) | (with_reducible apply keep_modReam) | (intro _) | (split) | (dsimp only) | (contradiction))

theorem keep_grantBuffers (i : PoolId) (id n : Nat) (s : State) (kq : Kept qq s) : Kept qq (grantBuffers i id n s).2 := by
  unfold grantBuffers
  repeat' (first 
    | (with_reducible assumption) | (with_reducible apply keep_each) | (with_reducible apply keep_modPool) 
    | (with_reducible apply keep_modReam) | (with_reducible apply keep_set) | (with_reducible apply keep_clearSide) 
    | (with_reducible apply keep_poolSync) | (with_reducible apply kept_each) | (intro _) | (split) | (dsimp only) 
    | (contradiction))

theorem keep_admitReq (i : PoolId) (cls : Fin 3) (id n : Nat) (s : State) (kq : Kept qq s) : Kept qq (admitReq i cls id n s).2 := by
  unfold admitReq
  repeat' (first 
    | (with_reducible assumption) | (with_reducible apply keep_modPool) | (with_reducible apply keep_set) 
    | (with_reducible apply keep_grantBuffers) | (intro _) | (split) | (dsimp only) | (contradiction))

theorem keep_violate (op id h : Nat) (s : State) (kq : Kept qq s) : Kept qq (violate op id h s) := by
  unfold violate
  repeat' (first 
    | (with_reducible assumption) | (with_reducible apply keep_inc) | (with_reducible apply keep_modReam) 
    | (with_reducible apply keep_raise) | (with_reducible apply keep_set) | (with_reducible apply keep_setFlag) | (intro _) 
    | (split) | (dsimp only) | (contradiction))

theorem keep_alloc (id use n : Nat) (cmd : Option Nat) (s : State) (kq : Kept qq s) : Kept qq (alloc id use n cmd s).2 := by
  unfold alloc
  repeat' (first 
    | (with_reducible assumption) | (with_reducible apply keep_modPool) | (with_reducible apply keep_modReam) 
    | (with_reducible apply keep_used) | (with_reducible apply keep_admitReq) | (with_reducible apply keep_poolSync) 
    | (with_reducible apply keep_violate) | (intro _) | (split) | (dsimp only) | (contradiction))

theorem keep_putCtl (h refs : Nat) (owned : Bool) (owner : Nat) (s : State) (kq : Kept qq s) : Kept qq (putCtl h refs owned owner s) := by
  unfold putCtl
  repeat' (first 
    | (with_reducible assumption) | (with_reducible apply keep_modPool) | (with_reducible apply keep_modReam) 
    | (with_reducible apply keep_set) | (with_reducible apply keep_poolSync) | (intro _) | (split) | (dsimp only) 
    | (contradiction))

theorem keep_share (id h : Nat) (s : State) (kq : Kept qq s) : Kept qq (share id h s) := by
  unfold share
  repeat' (first 
    | (with_reducible assumption) | (with_reducible apply keep_modReam) | (with_reducible apply keep_raise) 
    | (with_reducible apply keep_putCtl) | (with_reducible apply keep_violate) | (intro _) | (split) | (dsimp only) 
    | (contradiction))

theorem keep_release (id h : Nat) (s : State) (kq : Kept qq s) : Kept qq (release id h s) := by
  unfold release
  repeat' (first 
    | (with_reducible assumption) | (with_reducible apply keep_putCtl) | (with_reducible apply keep_violate) | (intro _) 
    | (split) | (dsimp only) | (contradiction))

theorem keep_freeBuf (id h : Nat) (s : State) (kq : Kept qq s) : Kept qq (freeBuf id h s) := by
  unfold freeBuf
  repeat' (first 
    | (with_reducible assumption) | (with_reducible apply keep_putCtl) | (with_reducible apply keep_violate) | (intro _) 
    | (split) | (dsimp only) | (contradiction))

theorem keep_give (id h dst : Nat) (s : State) (kq : Kept qq s) : Kept qq (give id h dst s) := by
  unfold give
  repeat' (first 
    | (with_reducible assumption) | (with_reducible apply keep_putCtl) | (with_reducible apply keep_violate) | (intro _) 
    | (split) | (dsimp only) | (contradiction))

theorem keep_dropBuf (h : Nat) (s : State) (kq : Kept qq s) : Kept qq (dropBuf h s) := by
  unfold dropBuf
  repeat' (first 
    | (with_reducible assumption) | (with_reducible apply keep_putCtl) | (intro _) | (split) | (dsimp only) | (contradiction))

theorem keep_reclaim (n : Ch) (s : State) (kq : Kept qq s) : Kept qq (reclaim n s) := by
  unfold reclaim
  repeat' (first 
    | (with_reducible assumption) | (with_reducible apply keep_each) | (with_reducible apply keep_dropBuf) 
    | (with_reducible apply kept_each) | (intro _) | (split) | (dsimp only) | (contradiction))

theorem keep_grantOf (i : PoolId) (cls : Fin 3) (s : State) (w : ReamWait) (kq : Kept qq s) : Kept qq (grantOf i cls s w) := by
  unfold grantOf
  repeat' (first 
    | (with_reducible assumption) | (with_reducible apply keep_modCmd) | (with_reducible apply keep_modPool) 
    | (with_reducible apply keep_modReam) | (with_reducible apply keep_admitReq) | (intro _) | (split) | (dsimp only) 
    | (contradiction))

theorem keep_grantOne (i : PoolId) (s : State) (t : State) (e : (grantOne i s) = some t) (kq : Kept qq s) : Kept qq t := by
  have one : ∀ cls : Fin 3, ∀ t, (nextWait i cls s).map (grantOf i cls s) = some t → Kept qq t := by
    intro cls t h
    obtain ⟨w, _, h⟩ := Option.map_eq_some_iff.mp h
    subst h
    exact keep_grantOf i cls s w kq
  unfold grantOne at e
  split at e
  · cases e; exact one 0 _ ‹_›
  · split at e
    · cases e; exact one 1 _ ‹_›
    · exact one 2 _ e

theorem keep_grantAll (y0 : Nat) (y1 : PoolId) (y2 : State) (kq : Kept qq y2) : Kept qq (grantAll y0 y1 y2) := by
  induction y0 generalizing y2 with
  | zero => exact kq
  | succ k ih =>
    unfold grantAll
    split
    · exact ih _ (keep_grantOne y1 y2 _ ‹_› kq)
    · exact kq

theorem keep_resendWaits (s : State) (kq : Kept qq s) : Kept qq (resendWaits s) := by
  unfold resendWaits
  repeat' (first 
    | (with_reducible assumption) | (with_reducible apply keep_each) | (with_reducible apply keep_modCmd) 
    | (with_reducible apply keep_alloc) | (with_reducible apply kept_each) | (intro _) | (split) | (dsimp only) | (contradiction))

theorem keep_tryAlloc (id use n : Nat) (s : State) (w : List Nat) (t : State) (e : (tryAlloc id use n s) = some (w, t)) (kq : Kept qq s) :
    Kept qq t := by
  unfold tryAlloc at e
  split at e
  · cases e
  · rename_i i _
    split at e
    · simp only [Option.some.injEq] at e
      have := keep_admitReq (qq := qq) i (allocClass id use) id n s kq
      rw [e] at this
      exact this
    · cases e

theorem keep_waitGrant (i : PoolId) (s : State) (kq : Kept qq s) : Kept qq (waitGrant i s) := by
  unfold waitGrant
  repeat' (first 
    | (with_reducible assumption) | (with_reducible apply keep_modPool) | (with_reducible apply keep_grantAll) 
    | (with_reducible apply keep_poolSync) | (with_reducible apply keep_resendWaits) | (intro _) | (split) | (dsimp only) 
    | (contradiction))

theorem keep_refill (i : PoolId) (s : State) (kq : Kept qq s) : Kept qq (refill i s) := by
  unfold refill
  repeat' (first 
    | (with_reducible assumption) | (with_reducible apply keep_modPool) | (intro _) | (split) | (dsimp only) | (contradiction))

theorem keep_spill (i : PoolId) (s : State) (kq : Kept qq s) : Kept qq (spill i s) := by
  unfold spill
  repeat' (first 
    | (with_reducible assumption) | (with_reducible apply keep_modPool) | (intro _) | (split) | (dsimp only) | (contradiction))

theorem keep_loseHandle (i : PoolId) (word : Nat) (s : State) (kq : Kept qq s) : Kept qq (loseHandle i word s) := by
  unfold loseHandle
  repeat' (first 
    | (with_reducible assumption) | (with_reducible apply keep_modPool) | (with_reducible apply keep_setFlag) 
    | (with_reducible apply keep_poolSync) | (intro _) | (split) | (dsimp only) | (contradiction))

theorem keep_auditDone (i : PoolId) (s : State) (kq : Kept qq s) : Kept qq (auditDone i s) := by
  unfold auditDone
  repeat' (first 
    | (with_reducible assumption) | (with_reducible apply keep_modPool) | (with_reducible apply keep_setFlag) 
    | (with_reducible apply keep_poolSync) | (intro _) | (split) | (dsimp only) | (contradiction))

theorem keep_buildPool (i : PoolId) (s : State) (kq : Kept qq s) : Kept qq (buildPool i s) := by
  unfold buildPool
  repeat' (first 
    | (with_reducible assumption) | (with_reducible apply keep_modPool) | (with_reducible apply keep_modReam) 
    | (with_reducible apply keep_set) | (with_reducible apply keep_setFlag) | (with_reducible apply keep_poolSync) | (intro _) 
    | (split) | (dsimp only) | (contradiction))

theorem keep_poolOn (i : PoolId) (s : State) (kq : Kept qq s) : Kept qq (poolOn i s) := by
  unfold poolOn
  repeat' (first 
    | (with_reducible assumption) | (with_reducible apply keep_setFlag) | (with_reducible apply keep_buildPool) | (intro _) 
    | (split) | (dsimp only) | (contradiction))

theorem keep_putUnit (u : Nat) (b : Block) (s : State) (kq : Kept qq s) : Kept qq (putUnit u b s) := by
  unfold putUnit
  repeat' (first 
    | (with_reducible assumption) | (intro _) | (with_reducible apply kept_dram_run) | (split) | (dsimp only) | (contradiction))

theorem keep_poisonUnit (u : Nat) (s : State) (kq : Kept qq s) : Kept qq (poisonUnit u s) := by
  unfold poisonUnit
  repeat' (first 
    | (with_reducible assumption) | (with_reducible apply kept_getD) | (with_reducible apply keep_modReam) | (intro _) | (split) 
    | (dsimp only) | (contradiction))

theorem keep_putBlocks (y0 : List Nat) (y1 : List Block) (y2 : State) (kq : Kept qq y2) : Kept qq (putBlocks y0 y1 y2) := by
  induction y0 generalizing y1 y2 with
  | nil => exact kq
  | cons h hs ih =>
    cases y1 with
    | nil => exact kq
    | cons b bs => exact ih bs _ (keep_putUnit _ b y2 kq)

theorem keep_reamFlush (s : State) (kq : Kept qq s) : Kept qq (reamFlush s) := by
  unfold reamFlush
  repeat' (first 
    | (with_reducible assumption) | (with_reducible apply keep_buildPool) | (with_reducible apply kept_foldl) 
    | (with_reducible apply kept_foldl_snd) | (intro _) | (split) | (dsimp only) | (contradiction))

end Sys2Proof.Machine
end

