-- ==== Sys2Proof/Laws/KeepCache.lean ====
section
/-! SUPPORT. The operations of Machine/Cache.lean leave the queue as it is and keep the stores canonical. -/

namespace Sys2Proof.Machine

set_option linter.unusedTactic false
set_option linter.unreachableTactic false

variable {qq : List Instr}

theorem keep_modCache (s : State) (f : Cache → Cache) (kq : Kept qq s) : Kept qq (State.modCache s f) := by
  unfold State.modCache
  repeat' (first 
    | (with_reducible assumption) | (intro _) | (split) | (dsimp only) | (contradiction))

theorem keep_offerSync (s : State) (kq : Kept qq s) : Kept qq (offerSync s) := by
  unfold offerSync
  repeat' (first 
    | (with_reducible assumption) | (with_reducible apply keep_set) | (intro _) | (split) | (dsimp only) | (contradiction))

theorem keep_putWay (sn w : Nat) (v : Option Way) (s : State) (kq : Kept qq s) : Kept qq (putWay sn w v s) := by
  unfold putWay
  repeat' (first 
    | (with_reducible assumption) | (with_reducible apply keep_modCache) | (with_reducible apply keep_offerSync) | (intro _) 
    | (split) | (dsimp only) | (contradiction))

theorem keep_touchWay (sn w : Nat) (s : State) (kq : Kept qq s) : Kept qq (touchWay sn w s) := by
  unfold touchWay
  repeat' (first 
    | (with_reducible assumption) | (with_reducible apply keep_modCache) | (with_reducible apply keep_set) | (intro _) | (split) 
    | (dsimp only) | (contradiction))

theorem keep_storeSectors (v : Way) (blks : List (Nat × Block)) (s : State) (kq : Kept qq s) : Kept qq (storeSectors v blks s).2 := by
  unfold storeSectors
  repeat' (first 
    | (with_reducible assumption) | (with_reducible apply keep_putUnit) | (with_reducible apply kept_foldl) 
    | (with_reducible apply kept_foldl_snd) | (intro _) | (split) | (dsimp only) | (contradiction))

theorem keep_fillInto (sn w : Nat) (f : Fill) (blks : List (Nat × Block)) (s : State) (kq : Kept qq s) : Kept qq (fillInto sn w f blks s) := by
  unfold fillInto
  repeat' (first 
    | (with_reducible assumption) | (with_reducible apply keep_putWay) | (with_reducible apply keep_storeSectors) 
    | (with_reducible apply keep_touchWay) | (intro _) | (split) | (dsimp only) | (contradiction))

theorem keep_mergeInto (v : Way) (blks : List (Nat × Block)) (s : State) (kq : Kept qq s) : Kept qq (mergeInto v blks s) := by
  unfold mergeInto
  repeat' (first 
    | (with_reducible assumption) | (with_reducible apply keep_putWay) | (with_reducible apply keep_storeSectors) 
    | (with_reducible apply keep_touchWay) | (intro _) | (split) | (dsimp only) | (contradiction))

theorem keep_waitFill (sn w : Nat) (f : Fill) (blks : List (Nat × Block)) (s : State) (kq : Kept qq s) : Kept qq (waitFill sn w f blks s) := by
  unfold waitFill
  repeat' (first 
    | (with_reducible assumption) | (with_reducible apply keep_modCache) | (intro _) | (split) | (dsimp only) | (contradiction))

theorem keep_clearWay (v : Way) (s : State) (kq : Kept qq s) : Kept qq (clearWay v s) := by
  unfold clearWay
  repeat' (first 
    | (with_reducible assumption) | (with_reducible apply keep_incWrap) | (with_reducible apply keep_putWay) | (intro _) 
    | (split) | (dsimp only) | (contradiction))

theorem keep_fillTarget (sn w : Nat) (f : Fill) (blks : List (Nat × Block)) (s : State) (kq : Kept qq s) : Kept qq (fillTarget sn w f blks s) := by
  unfold fillTarget
  repeat' (first 
    | (with_reducible assumption) | (with_reducible apply keep_inc) | (with_reducible apply keep_clearWay) 
    | (with_reducible apply keep_fillInto) | (with_reducible apply keep_waitFill) | (intro _) | (split) | (dsimp only) 
    | (contradiction))

theorem keep_mergeFill (v : Way) (f : Fill) (blks : List (Nat × Block)) (s : State) (kq : Kept qq s) : Kept qq (mergeFill v f blks s) := by
  unfold mergeFill
  repeat' (first 
    | (with_reducible assumption) | (with_reducible apply keep_mergeInto) | (with_reducible apply keep_waitFill) | (intro _) 
    | (split) | (dsimp only) | (contradiction))

theorem keep_cacheAlloc (f : Fill) (blks : List (Nat × Block)) (s : State) (kq : Kept qq s) : Kept qq (cacheAlloc f blks s) := by
  unfold cacheAlloc
  repeat' (first 
    | (with_reducible assumption) | (with_reducible apply keep_inc) | (with_reducible apply keep_clearWay) 
    | (with_reducible apply keep_fillInto) | (with_reducible apply keep_fillTarget) | (with_reducible apply keep_mergeFill) 
    | (with_reducible apply keep_putWay) | (with_reducible apply keep_waitFill) | (intro _) | (split) | (dsimp only) 
    | (contradiction))

theorem keep_waitersFrom (y0 : Nat) (y1 : State) (kq : Kept qq y1) : Kept qq (waitersFrom y0 y1) := by
  induction y0 generalizing y1 with
  | zero =>
    unfold waitersFrom
    repeat' (first 
    | (with_reducible assumption) | (with_reducible apply keep_each) | (with_reducible apply keep_modCache) 
    | (with_reducible apply keep_cacheAlloc) | (with_reducible apply kept_each) | (intro _) | (split) | (dsimp only) 
    | (contradiction))
  | succ k ih =>
    unfold waitersFrom
    repeat' (first 
    | (with_reducible assumption) | (with_reducible apply ih) | (with_reducible apply keep_each) 
    | (with_reducible apply keep_modCache) | (with_reducible apply keep_cacheAlloc) | (with_reducible apply kept_each) 
    | (intro _) | (split) | (dsimp only) | (contradiction))

theorem keep_runWaiters (s : State) (kq : Kept qq s) : Kept qq (runWaiters s) := by
  unfold runWaiters
  repeat' (first 
    | (with_reducible assumption) | (with_reducible apply keep_waitersFrom) | (intro _) | (split) | (dsimp only) 
    | (contradiction))

theorem keep_clearWays (vs : List Way) (s : State) (kq : Kept qq s) : Kept qq (clearWays vs s) := by
  unfold clearWays
  repeat' (first 
    | (with_reducible assumption) | (with_reducible apply keep_each) | (with_reducible apply keep_clearWay) 
    | (with_reducible apply keep_runWaiters) | (with_reducible apply kept_each) | (intro _) | (split) | (dsimp only) 
    | (contradiction))

theorem keep_dropLine (v : Way) (s : State) (kq : Kept qq s) : Kept qq (dropLine v s) := by
  unfold dropLine
  repeat' (first 
    | (with_reducible assumption) | (with_reducible apply keep_putWay) | (intro _) | (split) | (dsimp only) | (contradiction))

theorem keep_offerEnd (sn w : Nat) (accepted : Bool) (s : State) (kq : Kept qq s) : Kept qq (offerEnd sn w accepted s) := by
  unfold offerEnd
  repeat' (first 
    | (with_reducible assumption) | (with_reducible apply keep_incWrap) | (with_reducible apply keep_dropLine) 
    | (with_reducible apply keep_runWaiters) | (intro _) | (split) | (dsimp only) | (contradiction))

theorem keep_voidFills (nsid lba cnt : Nat) (s : State) (kq : Kept qq s) : Kept qq (voidFills nsid lba cnt s) := by
  unfold voidFills
  repeat' (first 
    | (with_reducible assumption) | (with_reducible apply keep_modCache) | (intro _) | (split) | (dsimp only) | (contradiction))

theorem keep_cacheInvalidate (nsid lba cnt : Nat) (s : State) (kq : Kept qq s) : Kept qq (cacheInvalidate nsid lba cnt s) := by
  unfold cacheInvalidate
  repeat' (first 
    | (with_reducible assumption) | (with_reducible apply keep_each) | (with_reducible apply keep_dropLine) 
    | (with_reducible apply keep_offerEnd) | (with_reducible apply keep_voidFills) | (with_reducible apply kept_each) | (intro _) 
    | (split) | (dsimp only) | (contradiction))

theorem keep_takeHit (k : Nat) (v : Way) (s : State) (kq : Kept qq s) : Kept qq (takeHit k v s) := by
  unfold takeHit
  repeat' (first 
    | (with_reducible assumption) | (with_reducible apply keep_incWrap) | (with_reducible apply keep_modCache) 
    | (with_reducible apply keep_touchWay) | (intro _) | (split) | (dsimp only) | (contradiction))

theorem keep_unpin (k : Nat) (s : State) (kq : Kept qq s) : Kept qq (unpin k s) := by
  unfold unpin
  repeat' (first 
    | (with_reducible assumption) | (with_reducible apply keep_modCache) | (with_reducible apply keep_runWaiters) | (intro _) 
    | (split) | (dsimp only) | (contradiction))

theorem keep_openFill (nsid line : Nat) (sects : BitVec 16) (pf spec : Bool) (cmd : Option Nat) (s : State) (kq : Kept qq s) : Kept qq (openFill nsid line sects pf spec cmd s).2 := by
  unfold openFill
  repeat' (first 
    | (with_reducible assumption) | (with_reducible apply keep_modCache) | (intro _) | (split) | (dsimp only) | (contradiction))

theorem keep_dropFill (id : Nat) (s : State) (kq : Kept qq s) : Kept qq (dropFill id s) := by
  unfold dropFill
  repeat' (first 
    | (with_reducible assumption) | (with_reducible apply keep_modCache) | (intro _) | (split) | (dsimp only) | (contradiction))

theorem keep_cacheFill (nsid line id : Nat) (blks : List (Nat × Block)) (s : State) (kq : Kept qq s) : Kept qq (cacheFill nsid line id blks s) := by
  unfold cacheFill
  repeat' (first 
    | (with_reducible assumption) | (with_reducible apply keep_cacheAlloc) | (with_reducible apply keep_dropFill) | (intro _) 
    | (split) | (dsimp only) | (contradiction))

theorem keep_waylockWrite (lock : W16) (s : State) (kq : Kept qq s) : Kept qq (waylockWrite lock s) := by
  unfold waylockWrite
  repeat' (first 
    | (with_reducible assumption) | (with_reducible apply keep_each) | (with_reducible apply keep_set) 
    | (with_reducible apply keep_setFlag) | (with_reducible apply keep_putWay) | (with_reducible apply kept_each) | (intro _) 
    | (split) | (dsimp only) | (contradiction))

theorem keep_tagError (sn : Nat) (s : State) (kq : Kept qq s) : Kept qq (tagError sn s) := by
  unfold tagError
  repeat' (first 
    | (with_reducible assumption) | (with_reducible apply keep_raise) | (with_reducible apply keep_clearWays) | (intro _) 
    | (split) | (dsimp only) | (contradiction))

theorem keep_tagSelect (sn : BitVec 14) (w : BitVec 4) (s : State) (kq : Kept qq s) : Kept qq (tagSelect sn w s) := by
  unfold tagSelect
  repeat' (first 
    | (with_reducible assumption) | (with_reducible apply kept_getD) | (with_reducible apply keep_set) | (intro _) | (split) 
    | (dsimp only) | (contradiction))

end Sys2Proof.Machine
end

