-- ==== Sys2Proof/Laws/KeepPath.lean ====
section
/-! SUPPORT. The operations of Machine/Path.lean leave the queue as it is and keep the stores canonical. -/

namespace Sys2Proof.Machine

set_option linter.unusedTactic false
set_option linter.unreachableTactic false

variable {qq : List Instr}

theorem keep_event (s : State) (n : Ch) (p : Pa) (e : Nat) (kq : Kept qq s) : Kept qq (State.event s n p e) := by
  unfold State.event
  repeat' (first 
    | (with_reducible assumption) | (with_reducible apply keep_modStit) | (with_reducible apply keep_latch) | (intro _) | (split) 
    | (dsimp only) | (contradiction))

theorem keep_takeBuffer (n : Ch) (p : Pa) (s : State) (kq : Kept qq s) : Kept qq (takeBuffer n p s) := by
  unfold takeBuffer
  repeat' (first 
    | (with_reducible assumption) | (with_reducible apply keep_event) | (with_reducible apply keep_set) | (intro _) | (split) 
    | (dsimp only) | (contradiction))

theorem keep_freeBuffer (n : Ch) (p : Pa) (s : State) (kq : Kept qq s) : Kept qq (freeBuffer n p s) := by
  unfold freeBuffer
  repeat' (first 
    | (with_reducible assumption) | (with_reducible apply keep_set) | (intro _) | (split) | (dsimp only) | (contradiction))

theorem keep_pinBuffer (n : Ch) (p : Pa) (s : State) (kq : Kept qq s) : Kept qq (pinBuffer n p s) := by
  unfold pinBuffer
  repeat' (first 
    | (with_reducible assumption) | (with_reducible apply keep_set) | (intro _) | (split) | (dsimp only) | (contradiction))

theorem keep_clearStore (n : Ch) (p : Pa) (s : State) (kq : Kept qq s) : Kept qq (clearStore n p s) := by
  unfold clearStore
  repeat' (first 
    | (with_reducible assumption) | (with_reducible apply keep_modPath) | (with_reducible apply keep_set) | (intro _) | (split) 
    | (dsimp only) | (contradiction))

theorem keep_unpinBuffer (n : Ch) (p : Pa) (s : State) (kq : Kept qq s) : Kept qq (unpinBuffer n p s) := by
  unfold unpinBuffer
  repeat' (first 
    | (with_reducible assumption) | (with_reducible apply keep_set) | (intro _) | (split) | (dsimp only) | (contradiction))

theorem keep_showResult (n : Ch) (p : Pa) (word : Nat) (s : State) (kq : Kept qq s) : Kept qq (showResult n p word s) := by
  unfold showResult
  repeat' (first 
    | (with_reducible assumption) | (with_reducible apply keep_modStit) | (with_reducible apply keep_set) 
    | (with_reducible apply keep_latch) | (intro _) | (split) | (dsimp only) | (contradiction))

theorem keep_putResult (n : Ch) (p : Pa) (word : Nat) (s : State) (kq : Kept qq s) : Kept qq (putResult n p word s) := by
  unfold putResult
  repeat' (first 
    | (with_reducible assumption) | (with_reducible apply keep_modPath) | (with_reducible apply keep_showResult) | (intro _) 
    | (split) | (dsimp only) | (contradiction))

theorem keep_noteResult (n : Ch) (p : Pa) (tag : W16) (word : Nat) (s : State) (kq : Kept qq s) : Kept qq (noteResult n p tag word s) := by
  unfold noteResult
  repeat' (first 
    | (with_reducible assumption) | (with_reducible apply keep_modSched) | (with_reducible apply keep_set) | (intro _) | (split) 
    | (dsimp only) | (contradiction))

theorem keep_sectorResult (n : Ch) (p : Pa) (word : Nat) (s : State) (kq : Kept qq s) : Kept qq (sectorResult n p word s) := by
  unfold sectorResult
  repeat' (first 
    | (with_reducible assumption) | (with_reducible apply keep_noteResult) | (with_reducible apply keep_putResult) | (intro _) 
    | (split) | (dsimp only) | (contradiction))

theorem keep_writeResult (n : Ch) (p : Pa) (code : Nat) (torn : Bool) (s : State) (kq : Kept qq s) : Kept qq (writeResult n p code torn s) := by
  unfold writeResult
  repeat' (first 
    | (with_reducible assumption) | (with_reducible apply keep_inc) | (with_reducible apply keep_modPath) 
    | (with_reducible apply keep_modStit) | (with_reducible apply keep_set) | (with_reducible apply keep_when) 
    | (with_reducible apply keep_sectorResult) | (with_reducible apply kept_when) | (intro _) | (split) | (dsimp only) 
    | (contradiction))

theorem keep_parkGate (n : Ch) (p : Pa) (code : Nat) (s : State) (kq : Kept qq s) : Kept qq (parkGate n p code s) := by
  unfold parkGate
  repeat' (first 
    | (with_reducible assumption) | (with_reducible apply keep_modPath) | (intro _) | (split) | (dsimp only) | (contradiction))

theorem keep_parkAll (n : Ch) (code : Nat) (s : State) (kq : Kept qq s) : Kept qq (parkAll n code s) := by
  unfold parkAll
  repeat' (first 
    | (with_reducible assumption) | (with_reducible apply keep_each) | (with_reducible apply keep_parkGate) 
    | (with_reducible apply kept_each) | (intro _) | (split) | (dsimp only) | (contradiction))

theorem keep_holdHead (n : Ch) (p : Pa) (s : State) (kq : Kept qq s) : Kept qq (holdHead n p s) := by
  unfold holdHead
  repeat' (first 
    | (with_reducible assumption) | (with_reducible apply keep_modChan) | (with_reducible apply keep_set) 
    | (with_reducible apply keep_track) | (intro _) | (split) | (dsimp only) | (contradiction))

theorem keep_cancelRest (n : Ch) (p : Pa) (a : Arm) (s : State) (kq : Kept qq s) : Kept qq (cancelRest n p a s) := by
  unfold cancelRest
  repeat' (first 
    | (with_reducible assumption) | (with_reducible apply keep_event) | (with_reducible apply keep_modPath) 
    | (with_reducible apply keep_when) | (with_reducible apply keep_freeBuffer) | (with_reducible apply keep_writeResult) 
    | (with_reducible apply kept_when) | (intro _) | (split) | (dsimp only) | (contradiction))

theorem keep_armAction (n : Ch) (p : Pa) (act : Fin 6) (s : State) (kq : Kept qq s) : Kept qq (armAction n p act s) := by
  unfold armAction
  repeat' (first 
    | (with_reducible assumption) | (with_reducible apply keep_event) | (with_reducible apply keep_modPath) 
    | (with_reducible apply keep_modStit) | (with_reducible apply keep_cancelRest) | (intro _) | (split) | (dsimp only) 
    | (contradiction))

theorem keep_armCommit (n : Ch) (p : Pa) (s : State) (kq : Kept qq s) : Kept qq (armCommit n p s) := by
  unfold armCommit
  repeat' (first 
    | (with_reducible assumption) | (with_reducible apply keep_modPath) | (intro _) | (split) | (dsimp only) | (contradiction))

theorem keep_writeFirstBit (n : Ch) (p : Pa) (a : Arm) (inTime : Bool) (s : State) (kq : Kept qq s) : Kept qq (writeFirstBit n p a inTime s) := by
  unfold writeFirstBit
  repeat' (first 
    | (with_reducible assumption) | (with_reducible apply keep_event) | (with_reducible apply keep_modPath) 
    | (with_reducible apply keep_modStit) | (with_reducible apply keep_writeResult) | (intro _) | (split) | (dsimp only) 
    | (contradiction))

theorem keep_captureFirstBit (n : Ch) (p : Pa) (a : Arm) (inTime : Bool) (s : State) (kq : Kept qq s) : Kept qq (captureFirstBit n p a inTime s) := by
  unfold captureFirstBit
  repeat' (first 
    | (with_reducible assumption) | (with_reducible apply keep_event) | (with_reducible apply keep_inc) 
    | (with_reducible apply keep_modPath) | (with_reducible apply keep_modStit) | (with_reducible apply keep_sectorResult) 
    | (with_reducible apply keep_takeBuffer) | (intro _) | (split) | (dsimp only) | (contradiction))

theorem keep_partFirst (n : Ch) (p : Pa) (inTime : Bool) (s : State) (kq : Kept qq s) : Kept qq (partFirst n p inTime s) := by
  unfold partFirst
  repeat' (first 
    | (with_reducible assumption) | (with_reducible apply keep_captureFirstBit) | (with_reducible apply keep_writeFirstBit) 
    | (intro _) | (split) | (dsimp only) | (contradiction))

theorem keep_captureStatus (n : Ch) (p : Pa) (b : SampleBuf) (s : State) (kq : Kept qq s) : Kept qq (captureStatus n p b s) := by
  unfold captureStatus
  repeat' (first 
    | (with_reducible assumption) | (with_reducible apply keep_each) | (with_reducible apply keep_inc) 
    | (with_reducible apply keep_raise) | (with_reducible apply keep_set) | (with_reducible apply kept_each) | (intro _) 
    | (split) | (dsimp only) | (contradiction))

theorem keep_sectorCaptured (n : Ch) (p : Pa) (act : Fin 6) (d : Desc) (s : State) (kq : Kept qq s) : Kept qq (sectorCaptured n p act d s) := by
  unfold sectorCaptured
  repeat' (first 
    | (with_reducible assumption) | (with_reducible apply keep_modPath) | (with_reducible apply keep_captureStatus) | (intro _) 
    | (split) | (dsimp only) | (contradiction))

theorem keep_partLast (n : Ch) (p : Pa) (last : Nat) (o : Capture) (s : State) (kq : Kept qq s) : Kept qq (partLast n p last o s) := by
  unfold partLast
  repeat' (first 
    | (with_reducible assumption) | (with_reducible apply keep_event) | (with_reducible apply keep_modPath) 
    | (with_reducible apply keep_cancelRest) | (with_reducible apply keep_freeBuffer) 
    | (with_reducible apply keep_sectorCaptured) | (with_reducible apply keep_sectorResult) 
    | (with_reducible apply keep_writeResult) | (intro _) | (split) | (dsimp only) | (contradiction))

theorem keep_powerTrap (n : Ch) (p : Pa) (s : State) (kq : Kept qq s) : Kept qq (powerTrap n p s) := by
  unfold powerTrap
  repeat' (first 
    | (with_reducible assumption) | (with_reducible apply keep_modStit) | (intro _) | (split) | (dsimp only) | (contradiction))

end Sys2Proof.Machine
end

