-- ==== Sys2Proof/Laws/KeepPad.lean ====
section
/-! SUPPORT. The operations of Machine/Pad.lean leave the queue as it is and keep the stores canonical. -/

namespace Sys2Proof.Machine

set_option linter.unusedTactic false
set_option linter.unreachableTactic false

variable {qq : List Instr}

theorem keep_modPads (s : State) (n : Ch) (f : NatMap → NatMap) (hf : ∀ m, m.wf = true → (f m).wf = true) (kq : Kept qq s) :
    Kept qq (State.modPads s n f) := kept_pads n _ (hf _) kq

theorem keep_putPad16 (n : Ch) (b ofs v : Nat) (s : State) (kq : Kept qq s) : Kept qq (putPad16 n b ofs v s) := by
  unfold putPad16
  repeat' (first 
    | (with_reducible assumption) | (with_reducible apply keep_modPads) | (with_reducible apply keep_set) | (intro _) 
    | (with_reducible apply NatMap.set_wf) | (with_reducible apply NatMap.setRun_wf) | (with_reducible apply NatMap.setMany_wf) 
    | (with_reducible apply kept_pads) | (with_reducible apply kept_banks) | (with_reducible apply kept_store) 
    | (with_reducible exact NatMap.empty_wf) | (with_reducible apply NatMap.foldl_wf) | (split) | (dsimp only) | (contradiction))

theorem keep_loadTable (n : Ch) (p : Pa) (h : Nat) (s : State) (kq : Kept qq s) : Kept qq (loadTable n p h s) := by
  unfold loadTable
  repeat' (first 
    | (with_reducible assumption) | (with_reducible apply keep_modChan) | (with_reducible apply keep_modPads) 
    | (with_reducible apply keep_set) | (intro _) | (with_reducible apply NatMap.set_wf) 
    | (with_reducible apply NatMap.setRun_wf) | (with_reducible apply NatMap.setMany_wf) | (with_reducible apply kept_pads) 
    | (with_reducible apply kept_banks) | (with_reducible apply kept_store) | (with_reducible exact NatMap.empty_wf) 
    | (with_reducible apply NatMap.foldl_wf) | (split) | (dsimp only) | (contradiction))

theorem keep_saveTable (n : Ch) (p : Pa) (s : State) (kq : Kept qq s) : Kept qq (saveTable n p s) := by
  unfold saveTable
  repeat' (first 
    | (with_reducible assumption) | (with_reducible apply keep_modChan) | (intro _) | (split) | (dsimp only) | (contradiction))

theorem keep_selectHead (n : Ch) (p : Pa) (h : Nat) (s : State) (kq : Kept qq s) : Kept qq (selectHead n p h s) := by
  unfold selectHead
  repeat' (first 
    | (with_reducible assumption) | (with_reducible apply keep_modPath) | (with_reducible apply keep_loadTable) 
    | (with_reducible apply keep_saveTable) | (intro _) | (split) | (dsimp only) | (contradiction))

theorem keep_saveTables (n : Ch) (s : State) (kq : Kept qq s) : Kept qq (saveTables n s) := by
  unfold saveTables
  repeat' (first 
    | (with_reducible assumption) | (with_reducible apply keep_each) | (with_reducible apply keep_modChan) 
    | (with_reducible apply keep_set) | (with_reducible apply keep_saveTable) | (with_reducible apply kept_each) | (intro _) 
    | (split) | (dsimp only) | (contradiction))

theorem keep_tablesToFly (s : State) (kq : Kept qq s) : Kept qq (tablesToFly s) := by
  unfold tablesToFly
  repeat' (first 
    | (with_reducible assumption) | (with_reducible apply keep_each) | (with_reducible apply keep_modChan) 
    | (with_reducible apply keep_saveTable) | (with_reducible apply kept_each) | (intro _) | (split) | (dsimp only) 
    | (contradiction))

theorem keep_tablesFromFly (n : Ch) (s : State) (kq : Kept qq s) : Kept qq (tablesFromFly n s) := by
  unfold tablesFromFly
  repeat' (first 
    | (with_reducible assumption) | (with_reducible apply keep_modChan) | (intro _) | (split) | (dsimp only) | (contradiction))

end Sys2Proof.Machine
end

