-- ==== Sys2Proof/Laws/KeepMap.lean ====
section
/-! SUPPORT. The operations of Machine/Map.lean leave the queue as it is and keep the stores canonical. -/

namespace Sys2Proof.Machine

set_option linter.unusedTactic false
set_option linter.unreachableTactic false

variable {qq : List Instr}

theorem keep_defectSync (n : Ch) (s : State) (kq : Kept qq s) : Kept qq (defectSync n s) := by
  unfold defectSync
  repeat' (first 
    | (with_reducible assumption) | (with_reducible apply keep_set) | (intro _) | (split) | (dsimp only) | (contradiction))

theorem keep_setGrown (n : Ch) (l : List Reloc) (s : State) (kq : Kept qq s) : Kept qq (setGrown n l s) := by
  unfold setGrown
  repeat' (first 
    | (with_reducible assumption) | (with_reducible apply keep_modChan) | (with_reducible apply keep_when) 
    | (with_reducible apply kept_when) | (intro _) | (split) | (dsimp only) | (contradiction))

theorem keep_relocate (n : Ch) (x : SlotId) (s : State) (kq : Kept qq s) : Kept qq (relocate n x s).2 := by
  unfold relocate
  repeat' (first 
    | (with_reducible assumption) | (with_reducible apply keep_incWrap) | (with_reducible apply keep_raise) 
    | (with_reducible apply keep_defectSync) | (with_reducible apply keep_setGrown) | (intro _) | (split) | (dsimp only) 
    | (contradiction))

theorem keep_placeSig (n : Ch) (cmd : Nat) (kind : ItemKind) (cmds : List Nat) (cls : Nat) (spec wver : Bool) (ladder : Nat) (stripe : Option (Nat × Nat)) (ps : List Part) (s : State) (kq : Kept qq s) : Kept qq (placeSig n cmd kind cmds cls spec wver ladder stripe ps s) := by
  unfold placeSig
  repeat' (first 
    | (with_reducible assumption) | (with_reducible apply keep_modSched) | (with_reducible apply keep_track) | (intro _) 
    | (split) | (dsimp only) | (contradiction))

theorem keep_placeRun (n : Ch) (cmd : Nat) (kind : ItemKind) (cmds : List Nat) (cls : Nat) (spec wver : Bool) (stripe : Option (Nat × Nat)) (xs : List Sector) (s : State) (kq : Kept qq s) : Kept qq (placeRun n cmd kind cmds cls spec wver stripe xs s).2 := by
  unfold placeRun
  repeat' (first 
    | (with_reducible assumption) | (with_reducible apply keep_each) | (with_reducible apply keep_placeSig) 
    | (with_reducible apply kept_each) | (intro _) | (split) | (dsimp only) | (contradiction))

theorem keep_dropDrafts (s : State) (kq : Kept qq s) : Kept qq (dropDrafts s) := by
  unfold dropDrafts
  repeat' (first 
    | (with_reducible assumption) | (with_reducible apply keep_each) | (with_reducible apply keep_resetRegs) 
    | (with_reducible apply kept_each) | (intro _) | (split) | (dsimp only) | (contradiction))

end Sys2Proof.Machine
end

