-- ==== Sys2Proof/Laws/KeepFly.lean ====
section
/-! SUPPORT. The operations of Machine/Fly.lean leave the queue as it is and keep the stores canonical. -/

namespace Sys2Proof.Machine

set_option linter.unusedTactic false
set_option linter.unreachableTactic false

variable {qq : List Instr}

theorem keep_modFly (s : State) (f : Fly → Fly) (kq : Kept qq s) : Kept qq (State.modFly s f) := by
  unfold State.modFly
  repeat' (first 
    | (with_reducible assumption) | (intro _) | (split) | (dsimp only) | (contradiction))

theorem keep_flySync (s : State) (kq : Kept qq s) : Kept qq (flySync s) := by
  unfold flySync
  repeat' (first 
    | (with_reducible assumption) | (with_reducible apply keep_aenAll) | (with_reducible apply keep_set) 
    | (with_reducible apply keep_setFlag) | (with_reducible apply keep_when) | (with_reducible apply kept_when) | (intro _) 
    | (split) | (dsimp only) | (contradiction))

theorem keep_modBlk (die num : Nat) (f : FBlk → FBlk) (s : State) (kq : Kept qq s) : Kept qq (modBlk die num f s) := by
  unfold modBlk
  repeat' (first 
    | (with_reducible assumption) | (with_reducible apply keep_modFly) | (intro _) | (split) | (dsimp only) | (contradiction))

theorem keep_modBand (num : Nat) (f : FBand → FBand) (s : State) (kq : Kept qq s) : Kept qq (modBand num f s) := by
  unfold modBand
  repeat' (first 
    | (with_reducible assumption) | (with_reducible apply keep_modFly) | (intro _) | (split) | (dsimp only) | (contradiction))

theorem keep_openBand (host : Bool) (s : State) (t : State) (e : (openBand host s) = some t) (kq : Kept qq s) : Kept qq t := by
  unfold openBand at e
  try dsimp only at e
  repeat' (first | (contradiction) | (split at e) | (cases e))
  all_goals repeat' (first 
    | (with_reducible assumption) | (with_reducible apply kept_getD) | (with_reducible apply keep_modFly) 
    | (with_reducible apply keep_flySync) | (intro _) | (split) | (dsimp only))

theorem keep_closeFull (b : FBand) (s : State) (kq : Kept qq s) : Kept qq (closeFull b s) := by
  unfold closeFull
  repeat' (first 
    | (with_reducible assumption) | (with_reducible apply keep_modFly) | (with_reducible apply keep_modBand) | (intro _) 
    | (split) | (dsimp only) | (contradiction))

theorem keep_consume (s : State) (kq : Kept qq s) : Kept qq (consume s) := by
  unfold consume
  repeat' (first 
    | (with_reducible assumption) | (with_reducible apply keep_modFly) | (with_reducible apply keep_set) | (intro _) | (split) 
    | (dsimp only) | (contradiction))

theorem keep_startPage (host : Bool) (ptype : Nat) (es : List FEntry) (dst : List (Nat × Nat)) (bms : List Bookmark) (s : State)
    (t : State) (e : startPage host ptype es dst bms s = some t) (kq : Kept qq s) : Kept qq t := by
  have h1 : ∀ u, (match openBandOf host s with | some _ => some s | none => openBand host s) = some u → Kept qq u := by
    intro u h
    split at h
    · cases h; exact kq
    · exact keep_openBand _ _ _ h kq
  unfold startPage at e
  dsimp only at e
  split at e
  · cases e
  split at e
  · cases e
  · rename_i u hu
    have ku := h1 u hu
    split at e
    · cases e
    · split at e
      · cases e
      · cases e
        apply keep_closeFull
        apply keep_modBlk
        apply keep_modFly
        exact keep_consume _ ku

theorem keep_markBegun (es : List FEntry) (s : State) (kq : Kept qq s) : Kept qq (markBegun es s) := by
  unfold markBegun
  repeat' (first 
    | (with_reducible assumption) | (with_reducible apply keep_each) | (with_reducible apply keep_modCmd) 
    | (with_reducible apply kept_each) | (intro _) | (split) | (dsimp only) | (contradiction))

theorem keep_packFull (host : Bool) (y0 : Nat) (y1 : State) (kq : Kept qq y1) : Kept qq (packFull host y0 y1) := by
  induction y0 generalizing y1 host with
  | zero =>
    unfold packFull
    repeat' (first 
    | (with_reducible assumption) | (with_reducible apply keep_modFly) | (with_reducible apply keep_markBegun) | (intro _) 
    | (with_reducible refine keep_startPage _ _ _ _ _ _ _ (by assumption) ?_) | (split) | (dsimp only) | (contradiction))
  | succ k ih =>
    unfold packFull
    repeat' (first 
    | (with_reducible assumption) | (with_reducible apply ih) | (with_reducible apply keep_modFly) 
    | (with_reducible apply keep_markBegun) | (intro _) | (with_reducible refine keep_startPage _ _ _ _ _ _ _ (by assumption) ?_) 
    | (split) | (dsimp only) | (contradiction))

theorem keep_flyPush (host : Bool) (es : List FEntry) (s : State) (kq : Kept qq s) : Kept qq (flyPush host es s) := by
  unfold flyPush
  repeat' (first 
    | (with_reducible assumption) | (with_reducible apply keep_modFly) | (with_reducible apply keep_packFull) | (intro _) 
    | (split) | (dsimp only) | (contradiction))

theorem keep_packRest (host : Bool) (s : State) (kq : Kept qq s) : Kept qq (packRest host s) := by
  unfold packRest
  repeat' (first 
    | (with_reducible assumption) | (with_reducible apply keep_modFly) | (with_reducible apply keep_markBegun) | (intro _) 
    | (with_reducible refine keep_startPage _ _ _ _ _ _ _ (by assumption) ?_) | (split) | (dsimp only) | (contradiction))

theorem keep_unpack (c : Cmd) (s : State) (kq : Kept qq s) : Kept qq (unpack c s) := by
  unfold unpack
  repeat' (first 
    | (with_reducible assumption) | (with_reducible apply keep_modFly) | (intro _) | (split) | (dsimp only) | (contradiction))

theorem keep_bkSync (s : State) (kq : Kept qq s) : Kept qq (bkSync s) := by
  unfold bkSync
  repeat' (first 
    | (with_reducible assumption) | (with_reducible apply keep_set) | (intro _) | (split) | (dsimp only) | (contradiction))

theorem keep_putBookmark (b : Bookmark) (s : State) (kq : Kept qq s) : Kept qq (putBookmark b s) := by
  unfold putBookmark
  repeat' (first 
    | (with_reducible assumption) | (with_reducible apply keep_inc) | (with_reducible apply keep_modFly) 
    | (with_reducible apply keep_when) | (with_reducible apply keep_bkSync) | (with_reducible apply kept_when) | (intro _) 
    | (split) | (dsimp only) | (contradiction))

theorem keep_unlive (qs : List Nat) (s : State) (kq : Kept qq s) : Kept qq (unlive qs s) := by
  unfold unlive
  repeat' (first 
    | (with_reducible assumption) | (with_reducible apply keep_modFly) | (intro _) | (split) | (dsimp only) | (contradiction))

theorem keep_destagePage (s : State) (kq : Kept qq s) : Kept qq (destagePage s) := by
  unfold destagePage
  repeat' (first 
    | (with_reducible assumption) | (with_reducible apply keep_modFly) | (intro _) 
    | (with_reducible refine keep_startPage _ _ _ _ _ _ _ (by assumption) ?_) | (split) | (dsimp only) | (contradiction))

theorem keep_bookmarkPage (s : State) (kq : Kept qq s) : Kept qq (bookmarkPage s) := by
  unfold bookmarkPage
  repeat' (first 
    | (with_reducible assumption) | (intro _) | (with_reducible refine keep_startPage _ _ _ _ _ _ _ (by assumption) ?_) | (split) 
    | (dsimp only) | (contradiction))

theorem keep_entryPassed (e : FEntry) (s : State) (kq : Kept qq s) : Kept qq (entryPassed e s) := by
  unfold entryPassed
  repeat' (first 
    | (with_reducible assumption) | (with_reducible apply keep_modCmd) | (with_reducible apply keep_modFly) | (intro _) | (split) 
    | (dsimp only) | (contradiction))

theorem keep_warmPassed (e : FEntry) (s : State) (kq : Kept qq s) : Kept qq (warmPassed e s) := by
  unfold warmPassed
  repeat' (first 
    | (with_reducible assumption) | (with_reducible apply keep_modFly) | (intro _) | (split) | (dsimp only) | (contradiction))

theorem keep_warmDrop (nsid lba cnt : Nat) (s : State) (kq : Kept qq s) : Kept qq (warmDrop nsid lba cnt s) := by
  unfold warmDrop
  repeat' (first 
    | (with_reducible assumption) | (with_reducible apply keep_modFly) | (intro _) | (split) | (dsimp only) | (contradiction))

theorem keep_pagePassed (p : FPage) (s : State) (kq : Kept qq s) : Kept qq (pagePassed p s) := by
  unfold pagePassed
  repeat' (first 
    | (with_reducible assumption) | (with_reducible apply keep_each) | (with_reducible apply keep_modCmd) 
    | (with_reducible apply keep_modFly) | (with_reducible apply keep_entryPassed) | (with_reducible apply keep_putBookmark) 
    | (with_reducible apply keep_warmPassed) | (with_reducible apply kept_each) | (intro _) | (split) | (dsimp only) 
    | (contradiction))

theorem keep_condemn (die blk : Nat) (s : State) (kq : Kept qq s) : Kept qq (condemn die blk s) := by
  unfold condemn
  repeat' (first 
    | (with_reducible assumption) | (with_reducible apply keep_flyPush) | (with_reducible apply keep_modBlk) | (intro _) 
    | (split) | (dsimp only) | (contradiction))

theorem keep_pageFailed (p : FPage) (s : State) (kq : Kept qq s) : Kept qq (pageFailed p s) := by
  unfold pageFailed
  repeat' (first 
    | (with_reducible assumption) | (with_reducible apply keep_inc) | (with_reducible apply keep_modFly) 
    | (with_reducible apply keep_raise) | (with_reducible apply keep_when) | (with_reducible apply keep_closeFull) 
    | (with_reducible apply keep_condemn) | (with_reducible apply kept_when) | (intro _) | (split) | (dsimp only) 
    | (contradiction))

theorem keep_programDone (pg : Nat) (pass : Bool) (s : State) (kq : Kept qq s) : Kept qq (programDone pg pass s) := by
  unfold programDone
  repeat' (first 
    | (with_reducible assumption) | (with_reducible apply keep_modFly) | (with_reducible apply keep_pageFailed) 
    | (with_reducible apply keep_pagePassed) | (intro _) | (split) | (dsimp only) | (contradiction))

theorem keep_keepRecords (ps : List FPage) (s : State) (kq : Kept qq s) : Kept qq (keepRecords ps s) := by
  unfold keepRecords
  repeat' (first 
    | (with_reducible assumption) | (with_reducible apply keep_each) | (with_reducible apply keep_modFly) 
    | (with_reducible apply keep_warmDrop) | (with_reducible apply kept_each) | (intro _) | (split) | (dsimp only) 
    | (contradiction))

theorem keep_retire (die blk : Nat) (s : State) (kq : Kept qq s) : Kept qq (retire die blk s) := by
  unfold retire
  repeat' (first 
    | (with_reducible assumption) | (with_reducible apply keep_modFly) | (with_reducible apply keep_flySync) 
    | (with_reducible apply keep_keepRecords) | (with_reducible apply keep_modBlk) | (intro _) | (split) | (dsimp only) 
    | (contradiction))

theorem keep_bandVerified (band : Nat) (checks : List PageCheck) (s : State) (kq : Kept qq s) : Kept qq (bandVerified band checks s) := by
  unfold bandVerified
  repeat' (first 
    | (with_reducible assumption) | (with_reducible apply keep_each) | (with_reducible apply keep_inc) 
    | (with_reducible apply keep_modFly) | (with_reducible apply keep_raise) | (with_reducible apply keep_flyPush) 
    | (with_reducible apply keep_modBand) | (with_reducible apply keep_modBlk) | (with_reducible apply kept_each) | (intro _) 
    | (split) | (dsimp only) | (contradiction))

theorem keep_eraseDone (die blk : Nat) (ok : Bool) (s : State) (kq : Kept qq s) : Kept qq (eraseDone die blk ok s) := by
  unfold eraseDone
  repeat' (first 
    | (with_reducible assumption) | (with_reducible apply keep_inc) | (with_reducible apply keep_modFly) 
    | (with_reducible apply keep_raise) | (with_reducible apply keep_flySync) | (with_reducible apply keep_modBlk) 
    | (with_reducible apply keep_packFull) | (with_reducible apply keep_retire) | (intro _) | (split) | (dsimp only) 
    | (contradiction))

theorem keep_gcStep (s : State) (kq : Kept qq s) : Kept qq (gcStep s) := by
  unfold gcStep
  repeat' (first 
    | (with_reducible assumption) | (with_reducible apply keep_modFly) | (intro _) 
    | (with_reducible refine keep_startPage _ _ _ _ _ _ _ (by assumption) ?_) | (split) | (dsimp only) | (contradiction))

theorem keep_copyVictim (band : Nat) (s : State) (kq : Kept qq s) : Kept qq (copyVictim band s) := by
  unfold copyVictim
  repeat' (first 
    | (with_reducible assumption) | (with_reducible apply keep_modFly) | (with_reducible apply keep_gcStep) 
    | (with_reducible apply keep_modBand) | (intro _) | (split) | (dsimp only) | (contradiction))

theorem keep_flyReadOnly (s : State) (kq : Kept qq s) : Kept qq (flyReadOnly s) := by
  unfold flyReadOnly
  repeat' (first 
    | (with_reducible assumption) | (with_reducible apply keep_aenAll) | (with_reducible apply keep_each) 
    | (with_reducible apply keep_modCmd) | (with_reducible apply keep_modFly) | (with_reducible apply keep_raise) 
    | (with_reducible apply keep_set) | (with_reducible apply keep_setFlag) | (with_reducible apply keep_destagePage) 
    | (with_reducible apply keep_putBookmark) | (with_reducible apply kept_each) | (intro _) 
    | (with_reducible apply kept_dram_run) | (split) | (dsimp only) | (contradiction))

theorem keep_collect (idle : Bool) (s : State) (kq : Kept qq s) : Kept qq (collect idle s) := by
  unfold collect
  repeat' (first 
    | (with_reducible assumption) | (with_reducible apply keep_modFly) | (with_reducible apply keep_setFlag) 
    | (with_reducible apply keep_when) | (with_reducible apply keep_copyVictim) | (with_reducible apply keep_flyReadOnly) 
    | (with_reducible apply keep_flySync) | (with_reducible apply keep_gcStep) | (with_reducible apply keep_packFull) 
    | (with_reducible apply kept_when) | (intro _) | (split) | (dsimp only) | (contradiction))

theorem keep_retireCondemned (s : State) (kq : Kept qq s) : Kept qq (retireCondemned s) := by
  unfold retireCondemned
  repeat' (first 
    | (with_reducible assumption) | (with_reducible apply keep_each) | (with_reducible apply keep_flyPush) 
    | (with_reducible apply keep_retire) | (with_reducible apply kept_each) | (intro _) | (split) | (dsimp only) 
    | (contradiction))

theorem keep_victimErase (checks : List PageCheck) (s : State) (kq : Kept qq s) : Kept qq (victimErase checks s) := by
  unfold victimErase
  repeat' (first 
    | (with_reducible assumption) | (with_reducible apply keep_each) | (with_reducible apply keep_inc) 
    | (with_reducible apply keep_modFly) | (with_reducible apply keep_flyPush) | (with_reducible apply keep_flySync) 
    | (with_reducible apply keep_gcStep) | (with_reducible apply keep_packRest) | (with_reducible apply keep_retire) 
    | (with_reducible apply keep_retireCondemned) | (with_reducible apply keep_warmDrop) | (with_reducible apply kept_each) 
    | (intro _) | (split) | (dsimp only) | (contradiction))

theorem keep_closeBands (s : State) (kq : Kept qq s) : Kept qq (closeBands s) := by
  unfold closeBands
  repeat' (first 
    | (with_reducible assumption) | (with_reducible apply keep_modFly) | (intro _) | (split) | (dsimp only) | (contradiction))

theorem keep_dieOut (die : Nat) (s : State) (kq : Kept qq s) : Kept qq (dieOut die s) := by
  unfold dieOut
  repeat' (first 
    | (with_reducible assumption) | (with_reducible apply keep_modFly) | (with_reducible apply keep_raise) 
    | (with_reducible apply keep_setBit) | (with_reducible apply keep_closeBands) | (with_reducible apply keep_flyPush) 
    | (with_reducible apply keep_flyReadOnly) | (with_reducible apply keep_flySync) | (intro _) | (split) | (dsimp only) 
    | (contradiction))

theorem keep_dieFail (die : Nat) (dead : Bool) (s : State) (kq : Kept qq s) : Kept qq (dieFail die dead s) := by
  unfold dieFail
  repeat' (first 
    | (with_reducible assumption) | (with_reducible apply keep_dieOut) | (intro _) | (split) | (dsimp only) | (contradiction))

theorem keep_checkpoint (full good : Bool) (s : State) (kq : Kept qq s) : Kept qq (checkpoint full good s) := by
  unfold checkpoint
  repeat' (first 
    | (with_reducible assumption) | (with_reducible apply keep_modFly) | (with_reducible apply keep_set) | (intro _) | (split) 
    | (dsimp only) | (contradiction))

theorem keep_scanErases (s : State) (kq : Kept qq s) : Kept qq (scanErases s) := by
  unfold scanErases
  repeat' (first 
    | (with_reducible assumption) | (with_reducible apply keep_modFly) | (with_reducible apply kept_foldl) 
    | (with_reducible apply kept_foldl_snd) | (intro _) | (split) | (dsimp only) | (contradiction))

theorem keep_warmOffer (sn w load : Nat) (s : State) (kq : Kept qq s) : Kept qq (warmOffer sn w load s) := by
  unfold warmOffer
  repeat' (first 
    | (with_reducible assumption) | (with_reducible apply keep_modFly) | (with_reducible apply keep_flyPush) 
    | (with_reducible apply keep_offerEnd) | (intro _) | (split) | (dsimp only) | (contradiction))

end Sys2Proof.Machine
end

