-- ==== Sys2Proof/Laws/KeepOperands.lean ====
section
/-! SUPPORT. The operations of Machine/Operands.lean leave the queue as it is and keep the stores canonical. -/

namespace Sys2Proof.Machine

set_option linter.unusedTactic false
set_option linter.unreachableTactic false

variable {qq : List Instr}

theorem keep_startWfifo (n : Ch) (p : Pa) (s : State) (kq : Kept qq s) : Kept qq (startWfifo n p s) := by
  unfold startWfifo
  repeat' (first 
    | (with_reducible assumption) | (with_reducible apply keep_modPath) | (intro _) | (split) | (dsimp only) | (contradiction))

theorem keep_loadRws (f : Fld) (v : Nat) (s : State) (kq : Kept qq s) : Kept qq (loadRws f v s) := by
  unfold loadRws
  repeat' (first 
    | (with_reducible assumption) | (with_reducible apply keep_set) | (intro _) | (with_reducible apply kept_regs_set) 
    | (with_reducible apply kept_regs_clear) | (with_reducible apply kept_force_set) | (with_reducible apply kept_force_clear) 
    | (split) | (dsimp only) | (contradiction))

theorem keep_loadZone (n : Ch) (p : Pa) (z : Nat) (s : State) (kq : Kept qq s) : Kept qq (loadZone n p z s) := by
  unfold loadZone
  repeat' (first 
    | (with_reducible assumption) | (with_reducible apply keep_loadRws) | (intro _) | (split) | (dsimp only) | (contradiction))

theorem keep_loadCoefs (n : Ch) (p : Pa) (h z : Nat) (s : State) (kq : Kept qq s) : Kept qq (loadCoefs n p h z s) := by
  unfold loadCoefs
  repeat' (first 
    | (with_reducible assumption) | (with_reducible apply keep_each) | (with_reducible apply keep_modPath) 
    | (with_reducible apply keep_loadRws) | (with_reducible apply kept_each) | (intro _) | (split) | (dsimp only) 
    | (contradiction))

theorem keep_setFrontEnd (n : Ch) (p : Pa) (up : Bool) (s : State) (kq : Kept qq s) : Kept qq (setFrontEnd n p up s) := by
  unfold setFrontEnd
  repeat' (first 
    | (with_reducible assumption) | (with_reducible apply keep_modPath) | (with_reducible apply keep_when) 
    | (with_reducible apply keep_loadCoefs) | (with_reducible apply keep_loadZone) | (with_reducible apply kept_when) | (intro _) 
    | (split) | (dsimp only) | (contradiction))

theorem keep_sendPaCmd (n : Ch) (p : Pa) (settings : Bool) (s : State) (kq : Kept qq s) : Kept qq (sendPaCmd n p settings s) := by
  unfold sendPaCmd
  repeat' (first 
    | (with_reducible assumption) | (with_reducible apply keep_modChan) | (with_reducible apply keep_modPath) 
    | (with_reducible apply keep_when) | (with_reducible apply keep_loadCoefs) | (with_reducible apply keep_selectHead) 
    | (with_reducible apply kept_when) | (intro _) | (split) | (dsimp only) | (contradiction))

theorem keep_writeTmask (n : Ch) (p : Pa) (v : W16) (s : State) (kq : Kept qq s) : Kept qq (writeTmask n p v s) := by
  unfold writeTmask
  repeat' (first 
    | (with_reducible assumption) | (with_reducible apply keep_modStit) | (intro _) | (split) | (dsimp only) | (contradiction))

theorem keep_portWrite (n : Ch) (p : Pa) (port : Nat) (v : W16) (s : State) (kq : Kept qq s) : Kept qq (portWrite n p port v s) := by
  unfold portWrite
  repeat' (first 
    | (with_reducible assumption) | (with_reducible apply keep_modStit) | (with_reducible apply keep_armAction) 
    | (with_reducible apply keep_armCommit) | (with_reducible apply keep_sendPaCmd) | (with_reducible apply keep_setFrontEnd) 
    | (with_reducible apply keep_startWfifo) | (with_reducible apply keep_writeTmask) | (intro _) | (split) | (dsimp only) 
    | (contradiction))

end Sys2Proof.Machine
end

