-- ==== Sys2Proof/Laws/KeepStitch.lean ====
section
/-! SUPPORT. The operations of Machine/Stitch.lean leave the queue as it is and keep the stores canonical. -/

namespace Sys2Proof.Machine

set_option linter.unusedTactic false
set_option linter.unreachableTactic false

variable {qq : List Instr}

theorem keep_stitchCycle (n : Ch) (p : Pa) (f : State → State) (s : State) (hf : ∀ x0, Kept qq x0 → Kept qq (f x0)) (kq : Kept qq s) : Kept qq (stitchCycle n p f s) := by
  unfold stitchCycle
  repeat' (first 
    | (with_reducible assumption) | (with_reducible apply keep_modStit) | (with_reducible apply hf) | (intro _) | (split) 
    | (dsimp only) | (contradiction))

theorem keep_stitchWord (n : Ch) (p : Pa) (f : State → State) (s : State) (hf : ∀ x0, Kept qq x0 → Kept qq (f x0)) (kq : Kept qq s) : Kept qq (stitchWord n p f s) := by
  unfold stitchWord
  repeat' (first 
    | (with_reducible assumption) | (with_reducible apply keep_stitchCycle) | (with_reducible apply hf) | (intro _) | (split) 
    | (dsimp only) | (contradiction))

theorem keep_stitchHalt (n : Ch) (p : Pa) (code : Nat) (s : State) (kq : Kept qq s) : Kept qq (stitchHalt n p code s) := by
  unfold stitchHalt
  repeat' (first 
    | (with_reducible assumption) | (with_reducible apply keep_modStit) | (with_reducible apply keep_raise) | (intro _) | (split) 
    | (dsimp only) | (contradiction))

theorem keep_errTrap (n : Ch) (p : Pa) (v : Nat) (data : W16) (s : State) (kq : Kept qq s) : Kept qq (errTrap n p v data s) := by
  unfold errTrap
  repeat' (first 
    | (with_reducible assumption) | (with_reducible apply keep_modStit) | (with_reducible apply keep_stitchHalt) | (intro _) 
    | (split) | (dsimp only) | (contradiction))

theorem keep_wordAlu (n : Ch) (p : Pa) (fn : BitVec 4) (rd ra rb : Fin 32) (s : State) (kq : Kept qq s) : Kept qq (wordAlu n p fn rd ra rb s) := by
  unfold wordAlu
  repeat' (first 
    | (with_reducible assumption) | (with_reducible apply keep_modStit) | (intro _) | (split) | (dsimp only) | (contradiction))

theorem keep_wordAddi (n : Ch) (p : Pa) (rd : Fin 32) (imm : BitVec 14) (s : State) (kq : Kept qq s) : Kept qq (wordAddi n p rd imm s) := by
  unfold wordAddi
  repeat' (first 
    | (with_reducible assumption) | (with_reducible apply keep_modStit) | (intro _) | (split) | (dsimp only) | (contradiction))

theorem keep_wordLdi (n : Ch) (p : Pa) (rd : Fin 32) (imm : BitVec 14) (s : State) (kq : Kept qq s) : Kept qq (wordLdi n p rd imm s) := by
  unfold wordLdi
  repeat' (first 
    | (with_reducible assumption) | (with_reducible apply keep_modStit) | (intro _) | (split) | (dsimp only) | (contradiction))

theorem keep_wordAndi (n : Ch) (p : Pa) (rd : Fin 32) (imm : BitVec 14) (s : State) (kq : Kept qq s) : Kept qq (wordAndi n p rd imm s) := by
  unfold wordAndi
  repeat' (first 
    | (with_reducible assumption) | (with_reducible apply keep_modStit) | (intro _) | (split) | (dsimp only) | (contradiction))

theorem keep_wordOri (n : Ch) (p : Pa) (rd : Fin 32) (imm : BitVec 14) (s : State) (kq : Kept qq s) : Kept qq (wordOri n p rd imm s) := by
  unfold wordOri
  repeat' (first 
    | (with_reducible assumption) | (with_reducible apply keep_modStit) | (intro _) | (split) | (dsimp only) | (contradiction))

theorem keep_wordCmpi (n : Ch) (p : Pa) (rd : Fin 32) (imm : BitVec 14) (s : State) (kq : Kept qq s) : Kept qq (wordCmpi n p rd imm s) := by
  unfold wordCmpi
  repeat' (first 
    | (with_reducible assumption) | (with_reducible apply keep_modStit) | (intro _) | (split) | (dsimp only) | (contradiction))

theorem keep_wordJmp (n : Ch) (p : Pa) (cond : BitVec 6) (target : BitVec 13) (s : State) (kq : Kept qq s) : Kept qq (wordJmp n p cond target s) := by
  unfold wordJmp
  repeat' (first 
    | (with_reducible assumption) | (with_reducible apply keep_modStit) | (intro _) | (split) | (dsimp only) | (contradiction))

theorem keep_wordCall (n : Ch) (p : Pa) (cond : BitVec 6) (target : BitVec 13) (s : State) (kq : Kept qq s) : Kept qq (wordCall n p cond target s) := by
  unfold wordCall
  repeat' (first 
    | (with_reducible assumption) | (with_reducible apply keep_modStit) | (with_reducible apply keep_errTrap) | (intro _) 
    | (split) | (dsimp only) | (contradiction))

theorem keep_wordRet (n : Ch) (p : Pa) (cond : BitVec 6) (s : State) (kq : Kept qq s) : Kept qq (wordRet n p cond s) := by
  unfold wordRet
  repeat' (first 
    | (with_reducible assumption) | (with_reducible apply keep_modStit) | (with_reducible apply keep_errTrap) | (intro _) 
    | (split) | (dsimp only) | (contradiction))

theorem keep_wordLoop (n : Ch) (p : Pa) (lc : Fin 4) (target : BitVec 13) (s : State) (kq : Kept qq s) : Kept qq (wordLoop n p lc target s) := by
  unfold wordLoop
  repeat' (first 
    | (with_reducible assumption) | (with_reducible apply keep_modStit) | (with_reducible apply keep_set) | (intro _) | (split) 
    | (dsimp only) | (contradiction))

theorem keep_wordSetlc (n : Ch) (p : Pa) (lc : Fin 4) (src : LcSrc) (s : State) (kq : Kept qq s) : Kept qq (wordSetlc n p lc src s) := by
  unfold wordSetlc
  repeat' (first 
    | (with_reducible assumption) | (with_reducible apply keep_modStit) | (with_reducible apply keep_set) | (intro _) | (split) 
    | (dsimp only) | (contradiction))

theorem keep_wordIn (n : Ch) (p : Pa) (r : Fin 32) (port : Byte) (s : State) (kq : Kept qq s) : Kept qq (wordIn n p r port s) := by
  unfold wordIn
  repeat' (first 
    | (with_reducible assumption) | (with_reducible apply keep_modStit) | (with_reducible apply keep_used) | (intro _) | (split) 
    | (dsimp only) | (contradiction))

theorem keep_wordOut (n : Ch) (p : Pa) (r : Fin 32) (port : Byte) (s : State) (kq : Kept qq s) : Kept qq (wordOut n p r port s) := by
  unfold wordOut
  repeat' (first 
    | (with_reducible assumption) | (with_reducible apply keep_portWrite) | (intro _) | (split) | (dsimp only) | (contradiction))

theorem keep_wordOuti (n : Ch) (p : Pa) (port : Byte) (imm : BitVec 11) (s : State) (kq : Kept qq s) : Kept qq (wordOuti n p port imm s) := by
  unfold wordOuti
  repeat' (first 
    | (with_reducible assumption) | (with_reducible apply keep_portWrite) | (intro _) | (split) | (dsimp only) | (contradiction))

theorem keep_wordWait (n : Ch) (p : Pa) (clr : Bool) (ev : Fin 32) (s : State) (kq : Kept qq s) : Kept qq (wordWait n p clr ev s) := by
  unfold wordWait
  repeat' (first 
    | (with_reducible assumption) | (with_reducible apply keep_modStit) | (intro _) | (split) | (dsimp only) | (contradiction))

theorem keep_wordFetch (n : Ch) (p : Pa) (s : State) (kq : Kept qq s) : Kept qq (wordFetch n p s) := by
  unfold wordFetch
  repeat' (first 
    | (with_reducible assumption) | (with_reducible apply keep_modStit) | (intro _) | (split) | (dsimp only) | (contradiction))

theorem keep_wordPrefetch (n : Ch) (p : Pa) (s : State) (kq : Kept qq s) : Kept qq (wordPrefetch n p s) := by
  unfold wordPrefetch
  repeat' (first 
    | (with_reducible assumption) | (with_reducible apply keep_modStit) | (intro _) | (split) | (dsimp only) | (contradiction))

theorem keep_wordDone (n : Ch) (p : Pa) (abt fin : Bool) (s : State) (kq : Kept qq s) : Kept qq (wordDone n p abt fin s) := by
  unfold wordDone
  repeat' (first 
    | (with_reducible assumption) | (with_reducible apply keep_modSched) | (with_reducible apply keep_modStit) 
    | (with_reducible apply keep_set) | (with_reducible apply keep_when) | (with_reducible apply keep_holdHead) 
    | (with_reducible apply kept_when) | (intro _) | (split) | (dsimp only) | (contradiction))

theorem keep_wordMret (n : Ch) (p : Pa) (s : State) (kq : Kept qq s) : Kept qq (wordMret n p s) := by
  unfold wordMret
  repeat' (first 
    | (with_reducible assumption) | (with_reducible apply keep_modStit) | (intro _) | (split) | (dsimp only) | (contradiction))

theorem keep_wordTrap (n : Ch) (p : Pa) (code : BitVec 4) (s : State) (kq : Kept qq s) : Kept qq (wordTrap n p code s) := by
  unfold wordTrap
  repeat' (first 
    | (with_reducible assumption) | (with_reducible apply keep_modStit) | (with_reducible apply keep_errTrap) | (intro _) 
    | (split) | (dsimp only) | (contradiction))

theorem keep_wordSignal (n : Ch) (p : Pa) (mask : BitVec 4) (s : State) (kq : Kept qq s) : Kept qq (wordSignal n p mask s) := by
  unfold wordSignal
  repeat' (first 
    | (with_reducible assumption) | (with_reducible apply keep_each) | (with_reducible apply keep_modStit) 
    | (with_reducible apply keep_latch) | (with_reducible apply kept_each) | (intro _) | (split) | (dsimp only) | (contradiction))

theorem keep_wordHalt (n : Ch) (p : Pa) (code : BitVec 7) (s : State) (kq : Kept qq s) : Kept qq (wordHalt n p code s) := by
  unfold wordHalt
  repeat' (first 
    | (with_reducible assumption) | (with_reducible apply keep_stitchHalt) | (intro _) | (split) | (dsimp only) | (contradiction))

theorem keep_wordReserved (n : Ch) (p : Pa) (s : State) (kq : Kept qq s) : Kept qq (wordReserved n p s) := by
  unfold wordReserved
  repeat' (first 
    | (with_reducible assumption) | (with_reducible apply keep_errTrap) | (intro _) | (split) | (dsimp only) | (contradiction))

theorem keep_wordMicro (n : Ch) (p : Pa) (m : Micro) (s : State) (kq : Kept qq s) : Kept qq (wordMicro n p m s) := by
  unfold wordMicro
  repeat' (first 
    | (with_reducible assumption) | (with_reducible apply keep_wordAddi) | (with_reducible apply keep_wordAlu) 
    | (with_reducible apply keep_wordAndi) | (with_reducible apply keep_wordCall) | (with_reducible apply keep_wordCmpi) 
    | (with_reducible apply keep_wordDone) | (with_reducible apply keep_wordFetch) | (with_reducible apply keep_wordHalt) 
    | (with_reducible apply keep_wordIn) | (with_reducible apply keep_wordJmp) | (with_reducible apply keep_wordLdi) 
    | (with_reducible apply keep_wordLoop) | (with_reducible apply keep_wordMret) | (with_reducible apply keep_wordOri) 
    | (with_reducible apply keep_wordOut) | (with_reducible apply keep_wordOuti) | (with_reducible apply keep_wordPrefetch) 
    | (with_reducible apply keep_wordReserved) | (with_reducible apply keep_wordRet) | (with_reducible apply keep_wordSetlc) 
    | (with_reducible apply keep_wordSignal) | (with_reducible apply keep_wordTrap) | (with_reducible apply keep_wordWait) 
    | (intro _) | (split) | (dsimp only) | (contradiction))

theorem keep_takeTrap (n : Ch) (p : Pa) (v : Nat) (s : State) (kq : Kept qq s) : Kept qq (takeTrap n p v s) := by
  unfold takeTrap
  repeat' (first 
    | (with_reducible assumption) | (with_reducible apply keep_modStit) | (intro _) | (split) | (dsimp only) | (contradiction))

theorem keep_trapTaken (n : Ch) (p : Pa) (s : State) (kq : Kept qq s) : Kept qq (trapTaken n p s) := by
  unfold trapTaken
  repeat' (first 
    | (with_reducible assumption) | (with_reducible apply keep_takeTrap) | (intro _) | (split) | (dsimp only) | (contradiction))

theorem keep_watchdogExpire (n : Ch) (p : Pa) (s : State) (kq : Kept qq s) : Kept qq (watchdogExpire n p s) := by
  unfold watchdogExpire
  repeat' (first 
    | (with_reducible assumption) | (with_reducible apply keep_modStit) | (intro _) | (split) | (dsimp only) | (contradiction))

theorem keep_watchdogHalt (n : Ch) (p : Pa) (s : State) (kq : Kept qq s) : Kept qq (watchdogHalt n p s) := by
  unfold watchdogHalt
  repeat' (first 
    | (with_reducible assumption) | (with_reducible apply keep_modStit) | (with_reducible apply keep_stitchHalt) | (intro _) 
    | (split) | (dsimp only) | (contradiction))

theorem keep_timerExpire (n : Ch) (p : Pa) (s : State) (kq : Kept qq s) : Kept qq (timerExpire n p s) := by
  unfold timerExpire
  repeat' (first 
    | (with_reducible assumption) | (with_reducible apply keep_modStit) | (with_reducible apply keep_set) 
    | (with_reducible apply keep_latch) | (intro _) | (split) | (dsimp only) | (contradiction))

theorem keep_handDesc (n : Ch) (d : Desc) (p : Pa) (s : State) (kq : Kept qq s) : Kept qq (handDesc n d p s) := by
  unfold handDesc
  repeat' (first 
    | (with_reducible assumption) | (with_reducible apply keep_modStit) | (intro _) | (split) | (dsimp only) | (contradiction))

theorem keep_prefetchDeliver (n : Ch) (p : Pa) (tag : W16) (s : State) (kq : Kept qq s) : Kept qq (prefetchDeliver n p tag s) := by
  unfold prefetchDeliver
  repeat' (first 
    | (with_reducible assumption) | (with_reducible apply keep_modStit) | (with_reducible apply keep_latch) | (intro _) | (split) 
    | (dsimp only) | (contradiction))

theorem keep_prefetchWithdraw (n : Ch) (p : Pa) (s : State) (kq : Kept qq s) : Kept qq (prefetchWithdraw n p s) := by
  unfold prefetchWithdraw
  repeat' (first 
    | (with_reducible assumption) | (with_reducible apply keep_modSched) | (with_reducible apply keep_modStit) | (intro _) 
    | (split) | (dsimp only) | (contradiction))

theorem keep_abortTag (n : Ch) (tag : W16) (s : State) (kq : Kept qq s) : Kept qq (abortTag n tag s) := by
  unfold abortTag
  repeat' (first 
    | (with_reducible assumption) | (with_reducible apply keep_each) | (with_reducible apply keep_modSched) 
    | (with_reducible apply keep_modStit) | (with_reducible apply keep_latch) | (with_reducible apply kept_each) | (intro _) 
    | (split) | (dsimp only) | (contradiction))

theorem keep_rejectLoad (n : Ch) (code seg : Nat) (s : State) (kq : Kept qq s) : Kept qq (rejectLoad n code seg s) := by
  unfold rejectLoad
  repeat' (first 
    | (with_reducible assumption) | (with_reducible apply keep_raise) | (with_reducible apply keep_set) | (intro _) | (split) 
    | (dsimp only) | (contradiction))

theorem keep_putWords (n : Ch) (g : Segment) (s : State) (kq : Kept qq s) : Kept qq (putWords n g s) := by
  unfold putWords
  repeat' (first 
    | (with_reducible assumption) | (with_reducible apply keep_set) | (intro _) | (with_reducible apply NatMap.set_wf) 
    | (with_reducible apply NatMap.setRun_wf) | (with_reducible apply NatMap.setMany_wf) | (with_reducible apply kept_pads) 
    | (with_reducible apply kept_banks) | (with_reducible apply kept_store) | (with_reducible exact NatMap.empty_wf) 
    | (with_reducible apply NatMap.foldl_wf) | (split) | (dsimp only) | (contradiction))

theorem keep_setVersion (n : Ch) (ver : Nat) (loaded : Bool) (s : State) (kq : Kept qq s) : Kept qq (setVersion n ver loaded s) := by
  unfold setVersion
  repeat' (first 
    | (with_reducible assumption) | (with_reducible apply keep_set) | (with_reducible apply keep_setFlag) | (intro _) | (split) 
    | (dsimp only) | (contradiction))

theorem keep_loadSegs (n : Ch) (i : Nat) (base : Bool) (y0 : List Segment) (y1 : State) (kq : Kept qq y1) : Kept qq (loadSegs n i base y0 y1) := by
  induction y0 generalizing y1 n i base with
  | nil =>
    unfold loadSegs
    repeat' (first 
    | (with_reducible assumption) | (with_reducible apply keep_set) | (with_reducible apply keep_putWords) 
    | (with_reducible apply keep_readBack) | (with_reducible apply keep_rejectLoad) | (with_reducible apply keep_setVersion) 
    | (intro _) | (with_reducible apply NatMap.set_wf) | (with_reducible apply NatMap.setRun_wf) 
    | (with_reducible apply NatMap.setMany_wf) | (with_reducible apply kept_pads) | (with_reducible apply kept_banks) 
    | (with_reducible apply kept_store) | (with_reducible exact NatMap.empty_wf) | (with_reducible apply NatMap.foldl_wf) 
    | (split) | (dsimp only) | (contradiction))
  | cons a l ih =>
    unfold loadSegs
    repeat' (first 
    | (with_reducible assumption) | (with_reducible apply ih) | (with_reducible apply keep_set) 
    | (with_reducible apply keep_putWords) | (with_reducible apply keep_readBack) | (with_reducible apply keep_rejectLoad) 
    | (with_reducible apply keep_setVersion) | (intro _) | (with_reducible apply NatMap.set_wf) 
    | (with_reducible apply NatMap.setRun_wf) | (with_reducible apply NatMap.setMany_wf) | (with_reducible apply kept_pads) 
    | (with_reducible apply kept_banks) | (with_reducible apply kept_store) | (with_reducible exact NatMap.empty_wf) 
    | (with_reducible apply NatMap.foldl_wf) | (split) | (dsimp only) | (contradiction))

theorem keep_storeLoad (n : Ch) (segs : List Segment) (s : State) (kq : Kept qq s) : Kept qq (storeLoad n segs s) := by
  unfold storeLoad
  repeat' (first 
    | (with_reducible assumption) | (with_reducible apply keep_loadSegs) | (with_reducible apply keep_rejectLoad) | (intro _) 
    | (split) | (dsimp only) | (contradiction))

end Sys2Proof.Machine
end

