-- ==== Sys2Proof/Laws/KeepDisp.lean ====
section
/-! SUPPORT. The operations of Machine/Disp.lean leave the queue as it is and keep the stores canonical. -/

namespace Sys2Proof.Machine

set_option linter.unusedTactic false
set_option linter.unreachableTactic false

variable {qq : List Instr}

theorem keep_modVers (s : State) (k : Nat) (f : WbVer → WbVer) (kq : Kept qq s) : Kept qq (State.modVers s k f) := by
  unfold State.modVers
  repeat' (first 
    | (with_reducible assumption) | (with_reducible apply keep_modHost) | (intro _) | (split) | (dsimp only) | (contradiction))

theorem keep_dropVers (k : Nat) (s : State) (kq : Kept qq s) : Kept qq (dropVers k s) := by
  unfold dropVers
  repeat' (first 
    | (with_reducible assumption) | (with_reducible apply keep_modHost) | (intro _) | (split) | (dsimp only) | (contradiction))

theorem keep_modLayout (s : State) (l : Fin 4) (f : Layout → Layout) (kq : Kept qq s) : Kept qq (State.modLayout s l f) := by
  unfold State.modLayout
  repeat' (first 
    | (with_reducible assumption) | (with_reducible apply keep_set) | (intro _) | (split) | (dsimp only) | (contradiction))

theorem keep_addItems (ks : List Nat) (n : Nat) (s : State) (kq : Kept qq s) : Kept qq (addItems ks n s) := by
  unfold addItems
  repeat' (first 
    | (with_reducible assumption) | (with_reducible apply keep_each) | (with_reducible apply keep_modCmd) 
    | (with_reducible apply kept_each) | (intro _) | (split) | (dsimp only) | (contradiction))

theorem keep_placeOn (n : Ch) (cmd : Nat) (kind : ItemKind) (ks : List Nat) (cls : Nat) (wver : Bool) (stripe : Option (Nat × Nat)) (xs : List Sector) (s : State) (kq : Kept qq s) : Kept qq (placeOn n cmd kind ks cls wver stripe xs s).2 := by
  unfold placeOn
  repeat' (first 
    | (with_reducible assumption) | (with_reducible apply keep_modHost) | (with_reducible apply keep_placeRun) | (intro _) 
    | (split) | (dsimp only) | (contradiction))

theorem keep_hostDispatch (n : Ch) (cmd : Nat) (kind : ItemKind) (ks : List Nat) (cls : Nat) (xs : List Sector) (s : State) (kq : Kept qq s) : Kept qq (hostDispatch n cmd kind ks cls xs s) := by
  unfold hostDispatch
  repeat' (first 
    | (with_reducible assumption) | (with_reducible apply keep_each) | (with_reducible apply keep_finish) 
    | (with_reducible apply keep_addItems) | (with_reducible apply keep_placeOn) | (with_reducible apply kept_each) | (intro _) 
    | (split) | (dsimp only) | (contradiction))

theorem keep_gathStart (v : Ns) (k : Nat) (host : Bool) (xs : List (Nat × Nat)) (s : State) (kq : Kept qq s) : Kept qq (gathStart v k host xs s) := by
  unfold gathStart
  repeat' (first 
    | (with_reducible assumption) | (with_reducible apply keep_modLayout) | (with_reducible apply keep_addItems) 
    | (with_reducible apply kept_foldl) | (with_reducible apply kept_foldl_snd) | (intro _) | (split) | (dsimp only) 
    | (contradiction))

theorem keep_mediaWrite (v : Ns) (k : Nat) (kind : ItemKind) (cls : Nat) (xs : List (Nat × Nat)) (s : State) (kq : Kept qq s) : Kept qq (mediaWrite v k kind cls xs s) := by
  unfold mediaWrite
  repeat' (first 
    | (with_reducible assumption) | (with_reducible apply keep_gathStart) | (with_reducible apply keep_hostDispatch) 
    | (with_reducible apply keep_hostWrite) | (intro _) | (split) | (dsimp only) | (contradiction))

theorem keep_restoreVer (w : WbVer) (s : State) (kq : Kept qq s) : Kept qq (restoreVer w s) := by
  unfold restoreVer
  repeat' (first 
    | (with_reducible assumption) | (with_reducible apply keep_modHost) | (with_reducible apply keep_dropBuf) 
    | (with_reducible apply keep_give) | (with_reducible apply keep_putUnit) | (intro _) 
    | (with_reducible refine keep_tryAlloc _ _ _ _ _ _ (by assumption) ?_) | (split) | (dsimp only) | (contradiction))

theorem keep_pump (s : State) (kq : Kept qq s) : Kept qq (pump s) := by
  unfold pump
  repeat' (first 
    | (with_reducible assumption) | (with_reducible apply keep_each) | (with_reducible apply keep_modVers) 
    | (with_reducible apply keep_hostWrite) | (with_reducible apply keep_mediaWrite) | (with_reducible apply keep_restoreVer) 
    | (with_reducible apply kept_each) | (with_reducible apply kept_foldl) | (with_reducible apply kept_foldl_snd) | (intro _) 
    | (split) | (dsimp only) | (contradiction))

theorem keep_destageDone (k : Nat) (s : State) (kq : Kept qq s) : Kept qq (destageDone k s) := by
  unfold destageDone
  repeat' (first 
    | (with_reducible assumption) | (with_reducible apply keep_each) | (with_reducible apply keep_modHost) 
    | (with_reducible apply keep_destagePage) | (with_reducible apply keep_dropBuf) | (with_reducible apply keep_pump) 
    | (with_reducible apply keep_unlive) | (with_reducible apply kept_each) | (intro _) | (split) | (dsimp only) 
    | (contradiction))

theorem keep_found (k a : Nat) (u : Option Nat) (s : State) (kq : Kept qq s) : Kept qq (found k a u s) := by
  unfold found
  repeat' (first 
    | (with_reducible assumption) | (with_reducible apply keep_modCmd) | (intro _) | (split) | (dsimp only) | (contradiction))

theorem keep_lookupBlock (k : Nat) (v : Ns) (a : Nat) (s : State) (kq : Kept qq s) : Kept qq (lookupBlock k v a s) := by
  unfold lookupBlock
  repeat' (first 
    | (with_reducible assumption) | (with_reducible apply keep_incWrap) | (with_reducible apply keep_modCache) 
    | (with_reducible apply keep_modCmd) | (with_reducible apply keep_modFly) | (with_reducible apply keep_found) 
    | (with_reducible apply keep_restoreVer) | (with_reducible apply keep_share) | (with_reducible apply keep_takeHit) 
    | (intro _) | (split) | (dsimp only) | (contradiction))

theorem keep_attachLadder (n : Ch) (k nsid a : Nat) (s : State) (kq : Kept qq s) : Kept qq (attachLadder n k nsid a s) := by
  unfold attachLadder
  repeat' (first 
    | (with_reducible assumption) | (with_reducible apply keep_modCmd) | (with_reducible apply keep_modSched) | (intro _) 
    | (split) | (dsimp only) | (contradiction))

theorem keep_placeMedia (c : Cmd) (v : Ns) (hs : List Nat) (s : State) (kq : Kept qq s) : Kept qq (placeMedia c v hs s) := by
  unfold placeMedia
  repeat' (first 
    | (with_reducible assumption) | (with_reducible apply keep_each) | (with_reducible apply keep_modCmd) 
    | (with_reducible apply keep_addItems) | (with_reducible apply keep_attachLadder) | (with_reducible apply keep_found) 
    | (with_reducible apply keep_hostDispatch) | (with_reducible apply keep_openFill) | (with_reducible apply kept_each) 
    | (with_reducible apply kept_foldl) | (with_reducible apply kept_foldl_snd) | (intro _) | (split) | (dsimp only) 
    | (contradiction))

theorem keep_askBuffers (c : Cmd) (n : Nat) (s : State) (kq : Kept qq s) : Kept qq (askBuffers c n s) := by
  unfold askBuffers
  repeat' (first 
    | (with_reducible assumption) | (with_reducible apply keep_modCmd) | (with_reducible apply keep_alloc) | (intro _) | (split) 
    | (dsimp only) | (contradiction))

theorem keep_placeSome (y0 : Nat) (y1 : Nat) (y2 : State) (kq : Kept qq y2) : Kept qq (placeSome y0 y1 y2) := by
  induction y0 generalizing y1 y2 with
  | zero =>
    unfold placeSome
    repeat' (first 
    | (with_reducible assumption) | (with_reducible apply keep_askBuffers) | (with_reducible apply keep_placeMedia) | (intro _) 
    | (split) | (dsimp only) | (contradiction))
  | succ k ih =>
    unfold placeSome
    repeat' (first 
    | (with_reducible assumption) | (with_reducible apply ih) | (with_reducible apply keep_askBuffers) 
    | (with_reducible apply keep_placeMedia) | (intro _) | (split) | (dsimp only) | (contradiction))

theorem keep_placeTodo (k : Nat) (s : State) (kq : Kept qq s) : Kept qq (placeTodo k s) := by
  unfold placeTodo
  repeat' (first 
    | (with_reducible assumption) | (with_reducible apply keep_placeSome) | (intro _) | (split) | (dsimp only) | (contradiction))

theorem keep_lookupAgain (k : Nat) (bs : List Nat) (s : State) (kq : Kept qq s) : Kept qq (lookupAgain k bs s) := by
  unfold lookupAgain
  repeat' (first 
    | (with_reducible assumption) | (with_reducible apply keep_each) | (with_reducible apply keep_lookupBlock) 
    | (with_reducible apply keep_placeTodo) | (with_reducible apply kept_each) | (intro _) | (split) | (dsimp only) 
    | (contradiction))

theorem keep_beginEffect (c : Cmd) (v : Ns) (ps : List Piece) (s : State) (kq : Kept qq s) : Kept qq (beginEffect c v ps s) := by
  unfold beginEffect
  repeat' (first 
    | (with_reducible assumption) | (with_reducible apply keep_each) | (with_reducible apply keep_modCmd) 
    | (with_reducible apply keep_modHost) | (with_reducible apply keep_cacheInvalidate) | (with_reducible apply keep_flyPush) 
    | (with_reducible apply keep_hostWrite) | (with_reducible apply keep_mediaWrite) | (with_reducible apply keep_pump) 
    | (with_reducible apply keep_warmDrop) | (with_reducible apply kept_each) | (intro _) | (split) | (dsimp only) 
    | (contradiction))

theorem keep_mediaDone (c : Cmd) (v : Ns) (s : State) (kq : Kept qq s) : Kept qq (mediaDone c v s) := by
  unfold mediaDone
  repeat' (first 
    | (with_reducible assumption) | (with_reducible apply keep_modCmd) | (with_reducible apply keep_modFly) 
    | (with_reducible apply keep_putBookmark) | (intro _) | (with_reducible apply kept_dram_run) | (split) | (dsimp only) 
    | (contradiction))

theorem keep_copyBuffers (n : Nat) (y0 : Nat) (y1 : Nat) (y2 : State) (kq : Kept qq y2) : Kept qq (copyBuffers n y0 y1 y2) := by
  induction y0 generalizing y1 y2 n with
  | zero =>
    unfold copyBuffers
    repeat' (first 
    | (with_reducible assumption) | (with_reducible apply keep_askBuffers) | (intro _) | (split) | (dsimp only) | (contradiction))
  | succ k ih =>
    unfold copyBuffers
    repeat' (first 
    | (with_reducible assumption) | (with_reducible apply ih) | (with_reducible apply keep_askBuffers) | (intro _) | (split) 
    | (dsimp only) | (contradiction))

theorem keep_copyAdvance (c : Cmd) (s : State) (kq : Kept qq s) : Kept qq (copyAdvance c s) := by
  unfold copyAdvance
  repeat' (first 
    | (with_reducible assumption) | (with_reducible apply keep_modCmd) | (with_reducible apply keep_copyBuffers) | (intro _) 
    | (split) | (dsimp only) | (contradiction))

theorem keep_copyMove (c : Cmd) (v : Ns) (s : State) (kq : Kept qq s) : Kept qq (copyMove c v s) := by
  unfold copyMove
  repeat' (first 
    | (with_reducible assumption) | (with_reducible apply kept_getD) | (with_reducible apply keep_each) 
    | (with_reducible apply keep_modCmd) | (with_reducible apply keep_beginEffect) | (with_reducible apply keep_dropBuf) 
    | (with_reducible apply keep_putUnit) | (with_reducible apply kept_each) | (intro _) | (split) | (dsimp only) 
    | (contradiction))

theorem keep_advance (k : Nat) (s : State) (kq : Kept qq s) : Kept qq (advance k s) := by
  unfold advance
  repeat' (first 
    | (with_reducible assumption) | (with_reducible apply keep_copyAdvance) | (with_reducible apply keep_copyMove) 
    | (with_reducible apply keep_mediaDone) | (intro _) | (split) | (dsimp only) | (contradiction))

theorem keep_resume (s : State) (kq : Kept qq s) : Kept qq (resume s) := by
  unfold resume
  repeat' (first 
    | (with_reducible assumption) | (with_reducible apply keep_each) | (with_reducible apply keep_advance) 
    | (with_reducible apply keep_placeTodo) | (with_reducible apply kept_each) | (intro _) | (split) | (dsimp only) 
    | (contradiction))

theorem keep_endItem (k : Nat) (s : State) (kq : Kept qq s) : Kept qq (endItem k s) := by
  unfold endItem
  repeat' (first 
    | (with_reducible assumption) | (with_reducible apply keep_itemDone) | (with_reducible apply keep_advance) | (intro _) 
    | (split) | (dsimp only) | (contradiction))

theorem keep_ladderSync (n : Ch) (s : State) (kq : Kept qq s) : Kept qq (ladderSync n s) := by
  unfold ladderSync
  repeat' (first 
    | (with_reducible assumption) | (with_reducible apply keep_set) | (intro _) | (split) | (dsimp only) | (contradiction))

theorem keep_dropLadder (n : Ch) (l : Ladder) (s : State) (kq : Kept qq s) : Kept qq (dropLadder n l s) := by
  unfold dropLadder
  repeat' (first 
    | (with_reducible assumption) | (with_reducible apply keep_modSched) | (with_reducible apply keep_when) 
    | (with_reducible apply keep_ladderSync) | (with_reducible apply keep_unpinBuffer) | (with_reducible apply kept_when) 
    | (intro _) | (split) | (dsimp only) | (contradiction))

theorem keep_cancelLadder (n : Ch) (l : Ladder) (s : State) (kq : Kept qq s) : Kept qq (cancelLadder n l s) := by
  unfold cancelLadder
  repeat' (first 
    | (with_reducible assumption) | (with_reducible apply keep_each) | (with_reducible apply keep_dropLadder) 
    | (with_reducible apply keep_endItem) | (with_reducible apply keep_noteResult) | (with_reducible apply kept_each) | (intro _) 
    | (split) | (dsimp only) | (contradiction))

theorem keep_ladderBarrier (k nsid lba cnt : Nat) (s : State) (kq : Kept qq s) : Kept qq (ladderBarrier k nsid lba cnt s) := by
  unfold ladderBarrier
  repeat' (first 
    | (with_reducible assumption) | (with_reducible apply keep_each) | (with_reducible apply keep_modSched) 
    | (with_reducible apply keep_cancelLadder) | (with_reducible apply kept_each) | (intro _) | (split) | (dsimp only) 
    | (contradiction))

theorem keep_dropRewrites (nsid lba cnt : Nat) (s : State) (kq : Kept qq s) : Kept qq (dropRewrites nsid lba cnt s) := by
  unfold dropRewrites
  repeat' (first 
    | (with_reducible assumption) | (with_reducible apply keep_each) | (with_reducible apply keep_modSched) 
    | (with_reducible apply keep_dropBuf) | (with_reducible apply kept_each) | (intro _) | (split) | (dsimp only) 
    | (contradiction))

theorem keep_leaveLadders (k : Nat) (cancel : Bool) (s : State) (kq : Kept qq s) : Kept qq (leaveLadders k cancel s) := by
  unfold leaveLadders
  repeat' (first 
    | (with_reducible assumption) | (with_reducible apply keep_each) | (with_reducible apply keep_modCmd) 
    | (with_reducible apply keep_modSched) | (with_reducible apply keep_cancelLadder) | (with_reducible apply keep_ladderSync) 
    | (with_reducible apply kept_each) | (intro _) | (split) | (dsimp only) | (contradiction))

theorem keep_cancelEver (key : Nat) (s : State) (kq : Kept qq s) : Kept qq (cancelEver key s) := by
  unfold cancelEver
  repeat' (first 
    | (with_reducible assumption) | (with_reducible apply keep_each) | (with_reducible apply keep_cancelLadder) 
    | (with_reducible apply kept_each) | (intro _) | (split) | (dsimp only) | (contradiction))

theorem keep_withdrawWork (k : Nat) (s : State) (kq : Kept qq s) : Kept qq (withdrawWork k s) := by
  unfold withdrawWork
  repeat' (first 
    | (with_reducible assumption) | (with_reducible apply keep_each) | (with_reducible apply keep_modCache) 
    | (with_reducible apply keep_modCmd) | (with_reducible apply keep_modFly) | (with_reducible apply keep_modHost) 
    | (with_reducible apply keep_modReam) | (with_reducible apply keep_modSched) | (with_reducible apply keep_abortTag) 
    | (with_reducible apply kept_each) | (intro _) | (split) | (dsimp only) | (contradiction))

theorem keep_freeCmd (c : Cmd) (s : State) (kq : Kept qq s) : Kept qq (freeCmd c s) := by
  unfold freeCmd
  repeat' (first 
    | (with_reducible assumption) | (with_reducible apply keep_each) | (with_reducible apply keep_modHost) 
    | (with_reducible apply keep_set) | (with_reducible apply keep_dropBuf) | (with_reducible apply keep_release) 
    | (with_reducible apply keep_unpin) | (with_reducible apply kept_each) | (intro _) | (split) | (dsimp only) | (contradiction))

theorem keep_undoWrite (c : Cmd) (s : State) (kq : Kept qq s) : Kept qq (undoWrite c s) := by
  unfold undoWrite
  repeat' (first 
    | (with_reducible assumption) | (with_reducible apply keep_modCmd) | (with_reducible apply keep_modFly) 
    | (with_reducible apply keep_modHost) | (with_reducible apply keep_pump) | (with_reducible apply keep_unlive) 
    | (with_reducible apply keep_unpack) | (intro _) | (split) | (dsimp only) | (contradiction))

theorem keep_failCmd (k st : Nat) (s : State) (kq : Kept qq s) : Kept qq (failCmd k st s) := by
  unfold failCmd
  repeat' (first 
    | (with_reducible assumption) | (with_reducible apply keep_finish) | (with_reducible apply keep_modCmd) 
    | (with_reducible apply keep_freeCmd) | (with_reducible apply keep_leaveLadders) | (with_reducible apply keep_undoWrite) 
    | (with_reducible apply keep_withdrawWork) | (intro _) | (split) | (dsimp only) | (contradiction))

theorem keep_acceptWrite (c : Cmd) (s : State) (kq : Kept qq s) : Kept qq (acceptWrite c s) := by
  unfold acceptWrite
  repeat' (first 
    | (with_reducible assumption) | (with_reducible apply keep_each) | (with_reducible apply keep_modCmd) 
    | (with_reducible apply keep_modVers) | (with_reducible apply keep_dropRewrites) | (with_reducible apply keep_dropVers) 
    | (with_reducible apply keep_give) | (with_reducible apply keep_ladderBarrier) | (with_reducible apply keep_pump) 
    | (with_reducible apply kept_each) | (intro _) | (split) | (dsimp only) | (contradiction))

end Sys2Proof.Machine
end

