-- ==== Sys2Proof/Laws/KeepGath.lean ====
section
/-! SUPPORT. The operations of Machine/Gath.lean leave the queue as it is and keep the stores canonical. -/

namespace Sys2Proof.Machine

set_option linter.unusedTactic false
set_option linter.unreachableTactic false

variable {qq : List Instr}

theorem keep_rebuildSync (s : State) (kq : Kept qq s) : Kept qq (rebuildSync s) := by
  unfold rebuildSync
  repeat' (first 
    | (with_reducible assumption) | (with_reducible apply keep_set) | (with_reducible apply keep_setFlag) | (intro _) | (split) 
    | (dsimp only) | (contradiction))

theorem keep_layoutSync (l : Fin 4) (s : State) (kq : Kept qq s) : Kept qq (layoutSync l s) := by
  unfold layoutSync
  repeat' (first 
    | (with_reducible assumption) | (with_reducible apply keep_aenAll) | (with_reducible apply keep_raise) 
    | (with_reducible apply keep_set) | (with_reducible apply keep_when) | (with_reducible apply kept_when) | (intro _) | (split) 
    | (dsimp only) | (contradiction))

theorem keep_gathSync (s : State) (kq : Kept qq s) : Kept qq (gathSync s) := by
  unfold gathSync
  repeat' (first 
    | (with_reducible assumption) | (with_reducible apply keep_each) | (with_reducible apply keep_when) 
    | (with_reducible apply keep_layoutSync) | (with_reducible apply keep_pump) | (with_reducible apply keep_rebuildSync) 
    | (with_reducible apply kept_each) | (with_reducible apply kept_when) | (intro _) | (split) | (dsimp only) | (contradiction))

theorem keep_gathEvent (s : State) (kq : Kept qq s) : Kept qq (gathEvent s) := by
  unfold gathEvent
  repeat' (first 
    | (with_reducible assumption) | (with_reducible apply keep_aenAll) | (intro _) | (split) | (dsimp only) | (contradiction))

theorem keep_doCommit (l : Fin 4) (s : State) (kq : Kept qq s) : Kept qq (doCommit l s) := by
  unfold doCommit
  repeat' (first 
    | (with_reducible assumption) | (with_reducible apply keep_each) | (with_reducible apply keep_modLayout) 
    | (with_reducible apply keep_modSched) | (with_reducible apply keep_set) | (with_reducible apply keep_defectSync) 
    | (with_reducible apply kept_each) | (intro _) | (split) | (dsimp only) | (contradiction))

theorem keep_doUncommit (l : Fin 4) (s : State) (kq : Kept qq s) : Kept qq (doUncommit l s) := by
  unfold doUncommit
  repeat' (first 
    | (with_reducible assumption) | (with_reducible apply keep_each) | (with_reducible apply keep_modLayout) 
    | (with_reducible apply keep_modSched) | (with_reducible apply keep_set) | (with_reducible apply keep_gathSync) 
    | (with_reducible apply kept_each) | (intro _) | (split) | (dsimp only) | (contradiction))

theorem keep_gathCheckEnd (s : State) (kq : Kept qq s) : Kept qq (gathCheckEnd s).2 := by
  unfold gathCheckEnd
  repeat' (first 
    | (with_reducible assumption) | (with_reducible apply keep_set) | (with_reducible apply keep_doCommit) 
    | (with_reducible apply keep_doUncommit) | (intro _) | (split) | (dsimp only) | (contradiction))

theorem keep_commitStart (l : Fin 4) (un auto : Bool) (s : State) (kq : Kept qq s) : Kept qq (commitStart l un auto s) := by
  unfold commitStart
  repeat' (first 
    | (with_reducible assumption) | (intro _) | (split) | (dsimp only) | (contradiction))

theorem keep_intentProgram (s : State) (kq : Kept qq s) : Kept qq (intentProgram s) := by
  unfold intentProgram
  repeat' (first 
    | (with_reducible assumption) | (with_reducible apply keep_each) | (with_reducible apply keep_modLayout) 
    | (with_reducible apply kept_each) | (intro _) | (split) | (dsimp only) | (contradiction))

theorem keep_updateEnd (l : Fin 4) (st k : Nat) (s : State) (kq : Kept qq s) : Kept qq (updateEnd l st k s) := by
  unfold updateEnd
  repeat' (first 
    | (with_reducible assumption) | (with_reducible apply keep_modLayout) | (with_reducible apply keep_when) 
    | (with_reducible apply keep_endItem) | (with_reducible apply kept_when) | (intro _) | (split) | (dsimp only) 
    | (contradiction))

theorem keep_updateItem (l : Fin 4) (st k : Nat) (s : State) (kq : Kept qq s) : Kept qq (updateItem l st k s) := by
  unfold updateItem
  repeat' (first 
    | (with_reducible assumption) | (with_reducible apply keep_modLayout) | (with_reducible apply keep_updateEnd) | (intro _) 
    | (split) | (dsimp only) | (contradiction))

theorem keep_markStale (l : Fin 4) (st i : Nat) (s : State) (kq : Kept qq s) : Kept qq (markStale l st i s) := by
  unfold markStale
  repeat' (first 
    | (with_reducible assumption) | (with_reducible apply keep_modLayout) | (intro _) | (split) | (dsimp only) | (contradiction))

theorem keep_stripePlace (l : Fin 4) (st k : Nat) (all : List (Nat × Nat × Nat × Option (Nat × Nat))) (s t : State) (kq : Kept qq s) (kqt : Kept qq t) : Kept qq (stripePlace l st k all s t) := by
  unfold stripePlace
  repeat' (first 
    | (with_reducible assumption) | (with_reducible apply keep_each) | (with_reducible apply keep_modLayout) 
    | (with_reducible apply keep_hostWrite) | (with_reducible apply keep_markStale) | (with_reducible apply keep_placeOn) 
    | (with_reducible apply keep_updateEnd) | (with_reducible apply kept_each) | (with_reducible apply kept_foldl) 
    | (with_reducible apply kept_foldl_snd) | (intro _) | (split) | (dsimp only) | (contradiction))

theorem keep_stripeUpdate (l : Fin 4) (st k : Nat) (old : List (Nat × Block)) (s : State) (kq : Kept qq s) : Kept qq (stripeUpdate l st k old s) := by
  unfold stripeUpdate
  repeat' (first 
    | (with_reducible assumption) | (with_reducible apply keep_each) | (with_reducible apply keep_putUnit) 
    | (with_reducible apply keep_stripePlace) | (with_reducible apply kept_each) | (intro _) 
    | (with_reducible refine keep_tryAlloc _ _ _ _ _ _ (by assumption) ?_) | (split) | (dsimp only) | (contradiction))

theorem keep_failRead (k nsid lba : Nat) (s : State) (kq : Kept qq s) : Kept qq (failRead k nsid lba s) := by
  unfold failRead
  repeat' (first 
    | (with_reducible assumption) | (with_reducible apply keep_errInfo) | (with_reducible apply keep_modCmd) 
    | (with_reducible apply keep_failCmd) | (intro _) | (split) | (dsimp only) | (contradiction))

theorem keep_deliverTo (k a : Nat) (b : Block) (s : State) (kq : Kept qq s) : Kept qq (deliverTo k a b s) := by
  unfold deliverTo
  repeat' (first 
    | (with_reducible assumption) | (with_reducible apply keep_putUnit) | (intro _) | (split) | (dsimp only) | (contradiction))

theorem keep_dropRecon (r : Recon) (s : State) (kq : Kept qq s) : Kept qq (dropRecon r s) := by
  unfold dropRecon
  repeat' (first 
    | (with_reducible assumption) | (intro _) | (split) | (dsimp only) | (contradiction))

theorem keep_leaveOne (nsid lba k : Nat) (s : State) (kq : Kept qq s) : Kept qq (leaveOne nsid lba k s) := by
  unfold leaveOne
  repeat' (first 
    | (with_reducible assumption) | (with_reducible apply keep_each) | (with_reducible apply keep_modSched) 
    | (with_reducible apply keep_ladderSync) | (with_reducible apply kept_each) | (intro _) | (split) | (dsimp only) 
    | (contradiction))

theorem keep_reconstruct (l : Fin 4) (nsid lba : Nat) (fetched : List (Nat × Block)) (s : State) (kq : Kept qq s) : Kept qq (reconstruct l nsid lba fetched s) := by
  unfold reconstruct
  repeat' (first 
    | (with_reducible assumption) | (with_reducible apply keep_each) | (with_reducible apply keep_inc) 
    | (with_reducible apply keep_modLayout) | (with_reducible apply keep_raise) | (with_reducible apply keep_deliverTo) 
    | (with_reducible apply keep_dropRecon) | (with_reducible apply keep_endItem) | (with_reducible apply keep_failRead) 
    | (with_reducible apply keep_leaveOne) | (with_reducible apply kept_each) | (intro _) | (split) | (dsimp only) 
    | (contradiction))

theorem keep_chanUnavailable (n : Ch) (s : State) (kq : Kept qq s) : Kept qq (chanUnavailable n s) := by
  unfold chanUnavailable
  repeat' (first 
    | (with_reducible assumption) | (with_reducible apply keep_each) | (with_reducible apply keep_setBit) 
    | (with_reducible apply keep_gathEvent) | (with_reducible apply keep_gathSync) | (with_reducible apply kept_each) | (intro _) 
    | (split) | (dsimp only) | (contradiction))

theorem keep_loseIn (l : Fin 4) (n : Ch) (s : State) (kq : Kept qq s) : Kept qq (loseIn l n s) := by
  unfold loseIn
  repeat' (first 
    | (with_reducible assumption) | (with_reducible apply keep_modLayout) | (with_reducible apply keep_setBit) 
    | (with_reducible apply keep_gathEvent) | (intro _) | (split) | (dsimp only) | (contradiction))

theorem keep_loseChan (n : Ch) (s : State) (kq : Kept qq s) : Kept qq (loseChan n s) := by
  unfold loseChan
  repeat' (first 
    | (with_reducible assumption) | (with_reducible apply keep_each) | (with_reducible apply keep_gathSync) 
    | (with_reducible apply keep_loseIn) | (with_reducible apply kept_each) | (intro _) | (split) | (dsimp only) 
    | (contradiction))

theorem keep_chanLost (n : Ch) (s : State) (kq : Kept qq s) : Kept qq (chanLost n s) := by
  unfold chanLost
  repeat' (first 
    | (with_reducible assumption) | (with_reducible apply keep_each) | (with_reducible apply keep_gathSync) 
    | (with_reducible apply keep_loseIn) | (with_reducible apply kept_each) | (intro _) | (split) | (dsimp only) 
    | (contradiction))

theorem keep_resyncEnd (l : Fin 4) (n : Ch) (s : State) (kq : Kept qq s) : Kept qq (resyncEnd l n s) := by
  unfold resyncEnd
  repeat' (first 
    | (with_reducible assumption) | (with_reducible apply keep_raise) | (with_reducible apply keep_setBit) 
    | (with_reducible apply keep_gathEvent) | (with_reducible apply keep_gathSync) | (intro _) | (split) | (dsimp only) 
    | (contradiction))

theorem keep_chanResync (l : Fin 4) (n : Ch) (strip : Nat) (s : State) (kq : Kept qq s) : Kept qq (chanResync l n strip s) := by
  unfold chanResync
  repeat' (first 
    | (with_reducible assumption) | (with_reducible apply keep_modLayout) | (with_reducible apply keep_gathSync) 
    | (with_reducible apply keep_resyncEnd) | (intro _) | (split) | (dsimp only) | (contradiction))

theorem keep_markBad (nsid a : Nat) (s : State) (kq : Kept qq s) : Kept qq (markBad nsid a s) := by
  unfold markBad
  repeat' (first 
    | (with_reducible assumption) | (with_reducible apply keep_errUnread) | (with_reducible apply keep_modNs) | (intro _) 
    | (split) | (dsimp only) | (contradiction))

theorem keep_startResync (l : Fin 4) (st : Nat) (failed : List Nat) (s : State) (kq : Kept qq s) : Kept qq (startResync l st failed s) := by
  unfold startResync
  repeat' (first 
    | (with_reducible assumption) | (with_reducible apply keep_each) | (with_reducible apply keep_modLayout) 
    | (with_reducible apply keep_raise) | (with_reducible apply keep_markBad) | (with_reducible apply kept_each) | (intro _) 
    | (split) | (dsimp only) | (contradiction))

theorem keep_rebuildStrip (l : Fin 4) (st : Nat) (n : Ch) (s : State) (kq : Kept qq s) : Kept qq (rebuildStrip l st n s) := by
  unfold rebuildStrip
  repeat' (first 
    | (with_reducible assumption) | (with_reducible apply keep_inc) | (with_reducible apply keep_modLayout) 
    | (with_reducible apply keep_raise) | (with_reducible apply keep_set) | (with_reducible apply keep_setFlag) 
    | (with_reducible apply keep_gathEvent) | (with_reducible apply keep_gathSync) | (with_reducible apply keep_layoutSync) 
    | (intro _) | (split) | (dsimp only) | (contradiction))

theorem keep_gathReset (s : State) (kq : Kept qq s) : Kept qq (gathReset s) := by
  unfold gathReset
  repeat' (first 
    | (with_reducible assumption) | (with_reducible apply keep_each) | (with_reducible apply keep_finish) 
    | (with_reducible apply keep_modVers) | (with_reducible apply keep_resetRegs) | (with_reducible apply keep_dropDrafts) 
    | (with_reducible apply keep_failCmd) | (with_reducible apply keep_gathSync) | (with_reducible apply keep_pump) 
    | (with_reducible apply keep_resetRecord) | (with_reducible apply kept_each) | (intro _) | (split) | (dsimp only) 
    | (contradiction))

end Sys2Proof.Machine
end

