-- ==== Sys2Proof/Laws/KeepHost.lean ====
section
/-! SUPPORT. The operations of Machine/Host.lean leave the queue as it is and keep the stores canonical. -/

namespace Sys2Proof.Machine

set_option linter.unusedTactic false
set_option linter.unreachableTactic false

variable {qq : List Instr}

theorem keep_modSq (s : State) (c : Ctl) (qid : Nat) (f : Sq → Sq) (kq : Kept qq s) : Kept qq (State.modSq s c qid f) := by
  unfold State.modSq
  repeat' (first 
    | (with_reducible assumption) | (with_reducible apply keep_modHost) | (intro _) | (split) | (dsimp only) | (contradiction))

theorem keep_modCq (s : State) (c : Ctl) (qid : Nat) (f : Cq → Cq) (kq : Kept qq s) : Kept qq (State.modCq s c qid f) := by
  unfold State.modCq
  repeat' (first 
    | (with_reducible assumption) | (with_reducible apply keep_modHost) | (intro _) | (split) | (dsimp only) | (contradiction))

theorem keep_openSync (s : State) (kq : Kept qq s) : Kept qq (openSync s) := by
  unfold openSync
  repeat' (first 
    | (with_reducible assumption) | (with_reducible apply keep_set) | (intro _) | (split) | (dsimp only) | (contradiction))

theorem keep_badDoorbell (c : Ctl) (qid : Nat) (isCq : Bool) (s : State) (kq : Kept qq s) : Kept qq (badDoorbell c qid isCq s) := by
  unfold badDoorbell
  repeat' (first 
    | (with_reducible assumption) | (with_reducible apply keep_aen) | (with_reducible apply keep_raise) 
    | (with_reducible apply keep_set) | (with_reducible apply keep_setFlag) | (intro _) | (split) | (dsimp only) 
    | (contradiction))

theorem keep_sqTail (c : Ctl) (qid tail : Nat) (s : State) (kq : Kept qq s) : Kept qq (sqTail c qid tail s) := by
  unfold sqTail
  repeat' (first 
    | (with_reducible assumption) | (with_reducible apply keep_modSq) | (with_reducible apply keep_badDoorbell) | (intro _) 
    | (split) | (dsimp only) | (contradiction))

theorem keep_cqHead (c : Ctl) (qid head : Nat) (s : State) (kq : Kept qq s) : Kept qq (cqHead c qid head s) := by
  unfold cqHead
  repeat' (first 
    | (with_reducible assumption) | (with_reducible apply keep_modCq) | (with_reducible apply keep_badDoorbell) | (intro _) 
    | (split) | (dsimp only) | (contradiction))

theorem keep_addCmd (c : Ctl) (qid : Nat) (e : Sqe) (st : Option Nat) (s : State) (kq : Kept qq s) : Kept qq (addCmd c qid e st s) := by
  unfold addCmd
  repeat' (first 
    | (with_reducible assumption) | (with_reducible apply keep_modHost) | (with_reducible apply keep_openSync) | (intro _) 
    | (split) | (dsimp only) | (contradiction))

theorem keep_stampLookup (c : Cmd) (s : State) (kq : Kept qq s) : Kept qq (stampLookup c s).2 := by
  unfold stampLookup
  repeat' (first 
    | (with_reducible assumption) | (with_reducible apply keep_finish) | (with_reducible apply keep_finishDw) 
    | (with_reducible apply keep_inc) | (with_reducible apply keep_incWrap) | (with_reducible apply keep_modCmd) | (intro _) 
    | (split) | (dsimp only) | (contradiction))

theorem keep_lockSync (s : State) (kq : Kept qq s) : Kept qq (lockSync s) := by
  unfold lockSync
  repeat' (first 
    | (with_reducible assumption) | (with_reducible apply keep_set) | (intro _) | (split) | (dsimp only) | (contradiction))

theorem keep_takeLocks (k : Nat) (s : State) (kq : Kept qq s) : Kept qq (takeLocks k s) := by
  unfold takeLocks
  repeat' (first 
    | (with_reducible assumption) | (with_reducible apply keep_modCmd) | (with_reducible apply keep_modHost) 
    | (with_reducible apply keep_setFlag) | (with_reducible apply keep_lockSync) | (intro _) | (split) | (dsimp only) 
    | (contradiction))

theorem keep_lockGrant (s : State) (kq : Kept qq s) : Kept qq (lockGrant s) := by
  unfold lockGrant
  repeat' (first 
    | (with_reducible assumption) | (with_reducible apply keep_takeLocks) | (with_reducible apply kept_foldl) 
    | (with_reducible apply kept_foldl_snd) | (intro _) | (split) | (dsimp only) | (contradiction))

theorem keep_fetchOne (c : Ctl) (qid : Nat) (e : Sqe) (s : State) (kq : Kept qq s) : Kept qq (fetchOne c qid e s) := by
  unfold fetchOne
  repeat' (first 
    | (with_reducible assumption) | (with_reducible apply keep_modCmd) | (with_reducible apply keep_modFly) 
    | (with_reducible apply keep_modSq) | (with_reducible apply keep_addCmd) | (with_reducible apply keep_stampLookup) 
    | (with_reducible apply keep_takeLocks) | (intro _) | (split) | (dsimp only) | (contradiction))

theorem keep_fetchMany (c : Ctl) (qid : Nat) (y0 : List Sqe) (y1 : State) (kq : Kept qq y1) : Kept qq (fetchMany c qid y0 y1) := by
  induction y0 generalizing y1 c qid with
  | nil =>
    unfold fetchMany
    repeat' (first 
    | (with_reducible assumption) | (with_reducible apply keep_fetchOne) | (intro _) | (split) | (dsimp only) | (contradiction))
  | cons a l ih =>
    unfold fetchMany
    repeat' (first 
    | (with_reducible assumption) | (with_reducible apply ih) | (with_reducible apply keep_fetchOne) | (intro _) | (split) 
    | (dsimp only) | (contradiction))

theorem keep_commandFetch (c : Ctl) (es : List Sqe) (s : State) (kq : Kept qq s) : Kept qq (commandFetch c es s) := by
  unfold commandFetch
  repeat' (first 
    | (with_reducible assumption) | (with_reducible apply keep_modCtlr) | (with_reducible apply keep_fetchMany) | (intro _) 
    | (split) | (dsimp only) | (contradiction))

theorem keep_transferDone (k : Nat) (ok : Bool) (data : List Block) (s : State) (kq : Kept qq s) : Kept qq (transferDone k ok data s) := by
  unfold transferDone
  repeat' (first 
    | (with_reducible assumption) | (with_reducible apply kept_getD) | (with_reducible apply keep_modCmd) 
    | (with_reducible apply keep_raise) | (with_reducible apply keep_beginEffect) | (with_reducible apply keep_failCmd) 
    | (with_reducible apply keep_putBlocks) | (intro _) | (split) | (dsimp only) | (contradiction))

theorem keep_rereadBlock (c : Cmd) (v : Ns) (a : Nat) (s : State) (kq : Kept qq s) : Kept qq (rereadBlock c v a s) := by
  unfold rereadBlock
  repeat' (first 
    | (with_reducible assumption) | (with_reducible apply keep_modCmd) | (with_reducible apply keep_modHost) 
    | (with_reducible apply keep_lookupBlock) | (intro _) | (split) | (dsimp only) | (contradiction))

theorem keep_readFinish (c : Cmd) (v : Ns) (s : State) (kq : Kept qq s) : Kept qq (readFinish c v s) := by
  unfold readFinish
  repeat' (first 
    | (with_reducible assumption) | (with_reducible apply keep_answer) | (with_reducible apply keep_each) 
    | (with_reducible apply keep_errInfo) | (with_reducible apply keep_finish) | (with_reducible apply keep_modCmd) 
    | (with_reducible apply keep_failCmd) | (with_reducible apply keep_placeTodo) | (with_reducible apply keep_rereadBlock) 
    | (with_reducible apply kept_each) | (intro _) | (split) | (dsimp only) | (contradiction))

theorem keep_cmdDecide (k : Nat) (s : State) (kq : Kept qq s) : Kept qq (cmdDecide k s) := by
  unfold cmdDecide
  repeat' (first 
    | (with_reducible assumption) | (with_reducible apply keep_finish) | (with_reducible apply keep_readFinish) | (intro _) 
    | (split) | (dsimp only) | (contradiction))

theorem keep_delSync (s : State) (kq : Kept qq s) : Kept qq (delSync s) := by
  unfold delSync
  repeat' (first 
    | (with_reducible assumption) | (with_reducible apply keep_each) | (with_reducible apply keep_finish) 
    | (with_reducible apply keep_modCmd) | (with_reducible apply keep_modHost) | (with_reducible apply kept_each) | (intro _) 
    | (split) | (dsimp only) | (contradiction))

theorem keep_retireCmd (c : Cmd) (s : State) (kq : Kept qq s) : Kept qq (retireCmd c s) := by
  unfold retireCmd
  repeat' (first 
    | (with_reducible assumption) | (with_reducible apply kept_getD) | (with_reducible apply keep_modCmd) 
    | (with_reducible apply keep_modHost) | (with_reducible apply keep_modNs) | (with_reducible apply keep_acceptWrite) 
    | (with_reducible apply keep_delSync) | (with_reducible apply keep_freeCmd) | (with_reducible apply keep_openSync) 
    | (intro _) | (split) | (dsimp only) | (contradiction))

theorem keep_handoff (k : Nat) (s : State) (kq : Kept qq s) : Kept qq (handoff k s) := by
  unfold handoff
  repeat' (first 
    | (with_reducible assumption) | (with_reducible apply keep_modCmd) | (with_reducible apply keep_cmdDecide) 
    | (with_reducible apply keep_retireCmd) | (intro _) | (split) | (dsimp only) | (contradiction))

theorem keep_sendMsix (c : Ctl) (vec : Nat) (s : State) (kq : Kept qq s) : Kept qq (sendMsix c vec s) := by
  unfold sendMsix
  repeat' (first 
    | (with_reducible assumption) | (with_reducible apply keep_modCtlr) | (with_reducible apply keep_modHost) | (intro _) 
    | (split) | (dsimp only) | (contradiction))

theorem keep_interrupt (q : Cq) (st : Nat) (s : State) (kq : Kept qq s) : Kept qq (interrupt q st s) := by
  unfold interrupt
  repeat' (first 
    | (with_reducible assumption) | (with_reducible apply keep_modCq) | (with_reducible apply keep_sendMsix) | (intro _) 
    | (split) | (dsimp only) | (contradiction))

theorem keep_writeCqe (q : Cq) (c : Cmd) (s : State) (kq : Kept qq s) : Kept qq (writeCqe q c s) := by
  unfold writeCqe
  repeat' (first 
    | (with_reducible assumption) | (with_reducible apply kept_getD) | (with_reducible apply keep_modCq) | (intro _) | (split) 
    | (dsimp only) | (contradiction))

theorem keep_posted (k : Nat) (s : State) (kq : Kept qq s) : Kept qq (posted k s) := by
  unfold posted
  repeat' (first 
    | (with_reducible assumption) | (with_reducible apply kept_getD) | (with_reducible apply keep_interrupt) 
    | (with_reducible apply keep_retireCmd) | (with_reducible apply keep_writeCqe) | (intro _) | (split) | (dsimp only) 
    | (contradiction))

end Sys2Proof.Machine
end

