-- ==== Sys2Proof/Laws/KeepIo.lean ====
section
/-! SUPPORT. The operations of Machine/Io.lean leave the queue as it is and keep the stores canonical. -/

namespace Sys2Proof.Machine

set_option linter.unusedTactic false
set_option linter.unreachableTactic false

variable {qq : List Instr}

theorem keep_ioStart (opc : Byte) (k : Nat) (writes : Bool) (f : Cmd → Ns → State → State) (s : State) (hf : ∀ x0 x1 x2, Kept qq x2 → Kept qq (f x0 x1 x2)) (kq : Kept qq s) : Kept qq (ioStart opc k writes f s) := by
  unfold ioStart
  repeat' (first 
    | (with_reducible assumption) | (with_reducible apply keep_finish) | (with_reducible apply hf) | (intro _) | (split) 
    | (dsimp only) | (contradiction))

theorem keep_modZone (s : State) (nsid i : Nat) (f : Zone → Zone) (kq : Kept qq s) : Kept qq (State.modZone s nsid i f) := by
  unfold State.modZone
  repeat' (first 
    | (with_reducible assumption) | (with_reducible apply keep_modNs) | (intro _) | (split) | (dsimp only) | (contradiction))

theorem keep_zoneRoom (v : Ns) (s : State) (kq : Kept qq s) : Kept qq (zoneRoom v s) := by
  unfold zoneRoom
  repeat' (first 
    | (with_reducible assumption) | (with_reducible apply keep_modZone) | (intro _) | (split) | (dsimp only) | (contradiction))

theorem keep_zoneTake (v : Ns) (i n : Nat) (s : State) (kq : Kept qq s) : Kept qq (zoneTake v i n s) := by
  unfold zoneTake
  repeat' (first 
    | (with_reducible assumption) | (with_reducible apply keep_modZone) | (with_reducible apply keep_zoneRoom) | (intro _) 
    | (split) | (dsimp only) | (contradiction))

theorem keep_writeBuffers (c : Cmd) (n : Nat) (s : State) (kq : Kept qq s) : Kept qq (writeBuffers c n s) := by
  unfold writeBuffers
  repeat' (first 
    | (with_reducible assumption) | (with_reducible apply keep_modCmd) | (with_reducible apply keep_alloc) 
    | (with_reducible apply keep_markStarted) | (intro _) | (split) | (dsimp only) | (contradiction))

theorem keep_startWrite (k : Nat) (s : State) (kq : Kept qq s) : Kept qq (startWrite k s) := by
  unfold startWrite
  repeat' (first 
    | (with_reducible assumption) | (with_reducible apply keep_finish) | (with_reducible apply keep_ioStart) 
    | (with_reducible apply keep_writeBuffers) | (with_reducible apply keep_zoneTake) | (intro _) | (split) | (dsimp only) 
    | (contradiction))

theorem keep_startAppend (k : Nat) (s : State) (kq : Kept qq s) : Kept qq (startAppend k s) := by
  unfold startAppend
  repeat' (first 
    | (with_reducible assumption) | (with_reducible apply keep_finish) | (with_reducible apply keep_modCmd) 
    | (with_reducible apply keep_ioStart) | (with_reducible apply keep_writeBuffers) | (with_reducible apply keep_zoneTake) 
    | (intro _) | (split) | (dsimp only) | (contradiction))

theorem keep_startZeroes (k : Nat) (s : State) (kq : Kept qq s) : Kept qq (startZeroes k s) := by
  unfold startZeroes
  repeat' (first 
    | (with_reducible assumption) | (with_reducible apply keep_finish) | (with_reducible apply keep_beginEffect) 
    | (with_reducible apply keep_ioStart) | (with_reducible apply keep_markStarted) | (with_reducible apply keep_zoneTake) 
    | (intro _) | (split) | (dsimp only) | (contradiction))

theorem keep_withRanges (c : Cmd) (dst src : List LRange) (s : State) (kq : Kept qq s) : Kept qq (withRanges c dst src s).2 := by
  unfold withRanges
  repeat' (first 
    | (with_reducible assumption) | (with_reducible apply keep_modCmd) | (with_reducible apply keep_stampLookup) 
    | (with_reducible apply keep_takeLocks) | (intro _) | (split) | (dsimp only) | (contradiction))

theorem keep_startDealloc (k : Nat) (rs : List LRange) (s : State) (kq : Kept qq s) : Kept qq (startDealloc k rs s) := by
  unfold startDealloc
  repeat' (first 
    | (with_reducible assumption) | (with_reducible apply keep_finish) | (with_reducible apply keep_raise) 
    | (with_reducible apply keep_beginEffect) | (with_reducible apply keep_ioStart) | (with_reducible apply keep_markStarted) 
    | (with_reducible apply keep_withRanges) | (intro _) | (split) | (dsimp only) | (contradiction))

theorem keep_aheadLine (v : Ns) (ln left : Nat) (s : State) (w : Nat) (t : State) (e : (aheadLine v ln left s) = some (w, t)) (kq : Kept qq s) : Kept qq t := by
  unfold aheadLine at e
  try dsimp only at e
  repeat' (first | (contradiction) | (split at e) | (cases e))
  all_goals repeat' (first 
    | (with_reducible assumption) | (with_reducible apply keep_openFill) | (with_reducible apply keep_placeRun) 
    | (with_reducible apply kept_foldl) | (with_reducible apply kept_foldl_snd) | (intro _) 
    | (with_reducible refine keep_tryAlloc _ _ _ _ _ _ (by assumption) ?_) | (split) | (dsimp only))

theorem keep_aheadFrom (v : Ns) (y0 : Nat) (y1 : Nat) (y2 : Nat) (y3 : State) (kq : Kept qq y3) : Kept qq (aheadFrom v y0 y1 y2 y3) := by
  induction y0 generalizing y1 y2 y3 v with
  | zero =>
    unfold aheadFrom
    repeat' (first 
    | (with_reducible assumption) | (intro _) | (with_reducible refine keep_aheadLine _ _ _ _ _ _ (by assumption) ?_) | (split) 
    | (dsimp only) | (contradiction))
  | succ k ih =>
    unfold aheadFrom
    repeat' (first 
    | (with_reducible assumption) | (with_reducible apply ih) | (intro _) 
    | (with_reducible refine keep_aheadLine _ _ _ _ _ _ (by assumption) ?_) | (split) | (dsimp only) | (contradiction))

theorem keep_readAhead (nsid : Nat) (s : State) (kq : Kept qq s) : Kept qq (readAhead nsid s) := by
  unfold readAhead
  repeat' (first 
    | (with_reducible assumption) | (with_reducible apply keep_aheadFrom) | (intro _) | (split) | (dsimp only) | (contradiction))

theorem keep_track (nsid lba cnt : Nat) (s : State) (kq : Kept qq s) : Kept qq (track nsid lba cnt s) := by
  unfold track
  repeat' (first 
    | (with_reducible assumption) | (with_reducible apply keep_modHost) | (intro _) | (split) | (dsimp only) | (contradiction))

theorem keep_failRead1 (k : Nat) (c : Cmd) (v : Ns) (a : Nat) (s : State) (kq : Kept qq s) : Kept qq (failRead1 k c v a s) := by
  unfold failRead1
  repeat' (first 
    | (with_reducible assumption) | (with_reducible apply keep_errInfo) | (with_reducible apply keep_modCmd) 
    | (with_reducible apply keep_failCmd) | (intro _) | (split) | (dsimp only) | (contradiction))

theorem keep_startRead (k : Nat) (s : State) (kq : Kept qq s) : Kept qq (startRead k s) := by
  unfold startRead
  repeat' (first 
    | (with_reducible assumption) | (with_reducible apply keep_each) | (with_reducible apply keep_failRead1) 
    | (with_reducible apply keep_found) | (with_reducible apply keep_ioStart) | (with_reducible apply keep_lookupBlock) 
    | (with_reducible apply keep_markStarted) | (with_reducible apply keep_placeTodo) | (with_reducible apply keep_readAhead) 
    | (with_reducible apply keep_track) | (with_reducible apply kept_each) | (intro _) | (split) | (dsimp only) | (contradiction))

theorem keep_startVerify (k : Nat) (s : State) (kq : Kept qq s) : Kept qq (startVerify k s) := by
  unfold startVerify
  repeat' (first 
    | (with_reducible assumption) | (with_reducible apply keep_modCmd) | (with_reducible apply keep_failRead1) 
    | (with_reducible apply keep_ioStart) | (with_reducible apply keep_markStarted) | (with_reducible apply keep_placeTodo) 
    | (intro _) | (split) | (dsimp only) | (contradiction))

theorem keep_startFlush (k : Nat) (s : State) (kq : Kept qq s) : Kept qq (startFlush k s) := by
  unfold startFlush
  repeat' (first 
    | (with_reducible assumption) | (with_reducible apply keep_finish) | (with_reducible apply keep_ioStart) 
    | (with_reducible apply keep_markStarted) | (intro _) | (split) | (dsimp only) | (contradiction))

theorem keep_startCopy (k : Nat) (rs : List LRange) (s : State) (kq : Kept qq s) : Kept qq (startCopy k rs s) := by
  unfold startCopy
  repeat' (first 
    | (with_reducible assumption) | (with_reducible apply keep_each) | (with_reducible apply keep_finish) 
    | (with_reducible apply keep_modCmd) | (with_reducible apply keep_raise) | (with_reducible apply keep_advance) 
    | (with_reducible apply keep_failRead1) | (with_reducible apply keep_ioStart) | (with_reducible apply keep_lookupBlock) 
    | (with_reducible apply keep_markStarted) | (with_reducible apply keep_placeTodo) | (with_reducible apply keep_withRanges) 
    | (with_reducible apply kept_each) | (with_reducible apply kept_foldl) | (with_reducible apply kept_foldl_snd) | (intro _) 
    | (split) | (dsimp only) | (contradiction))

theorem keep_zoneDone (v : Ns) (a : ZoneAct) (i : Nat) (z : Zone) (s : State) (kq : Kept qq s) : Kept qq (zoneDone v a i z s) := by
  unfold zoneDone
  repeat' (first 
    | (with_reducible assumption) | (with_reducible apply keep_modZone) | (with_reducible apply keep_cacheInvalidate) 
    | (with_reducible apply keep_warmDrop) | (with_reducible apply keep_zoneRoom) | (intro _) | (split) | (dsimp only) 
    | (contradiction))

theorem keep_startZoneSend (k : Nat) (a : ZoneAct) (s : State) (kq : Kept qq s) : Kept qq (startZoneSend k a s) := by
  unfold startZoneSend
  repeat' (first 
    | (with_reducible assumption) | (with_reducible apply keep_finish) | (with_reducible apply keep_modCmd) 
    | (with_reducible apply keep_flyPush) | (with_reducible apply keep_ioStart) | (with_reducible apply keep_markStarted) 
    | (with_reducible apply keep_mediaDone) | (with_reducible apply keep_zoneDone) | (with_reducible apply kept_foldl) 
    | (with_reducible apply kept_foldl_snd) | (intro _) | (split) | (dsimp only) | (contradiction))

theorem keep_startZoneReport (k : Nat) (s : State) (kq : Kept qq s) : Kept qq (startZoneReport k s) := by
  unfold startZoneReport
  repeat' (first 
    | (with_reducible assumption) | (with_reducible apply keep_answer) | (with_reducible apply keep_finish) 
    | (with_reducible apply keep_ioStart) | (with_reducible apply keep_markStarted) | (intro _) | (split) | (dsimp only) 
    | (contradiction))

theorem keep_readWaitEnd (k : Nat) (s : State) (kq : Kept qq s) : Kept qq (readWaitEnd k s) := by
  unfold readWaitEnd
  repeat' (first 
    | (with_reducible assumption) | (with_reducible apply keep_modCmd) | (with_reducible apply keep_advance) 
    | (with_reducible apply keep_lookupAgain) | (intro _) | (split) | (dsimp only) | (contradiction))

theorem keep_specWake (nsid line : Nat) (s : State) (kq : Kept qq s) : Kept qq (specWake nsid line s) := by
  unfold specWake
  repeat' (first 
    | (with_reducible assumption) | (with_reducible apply keep_each) | (with_reducible apply keep_modCache) 
    | (with_reducible apply keep_advance) | (with_reducible apply keep_lookupAgain) | (with_reducible apply kept_each) 
    | (intro _) | (split) | (dsimp only) | (contradiction))

theorem keep_specArrive (nsid line : Nat) (good : Bool) (data : List Block) (s : State) (kq : Kept qq s) : Kept qq (specArrive nsid line good data s) := by
  unfold specArrive
  repeat' (first 
    | (with_reducible assumption) | (with_reducible apply keep_inc) | (with_reducible apply keep_cacheAlloc) 
    | (with_reducible apply keep_dropFill) | (with_reducible apply keep_readAhead) | (with_reducible apply keep_specWake) 
    | (intro _) | (split) | (dsimp only) | (contradiction))

end Sys2Proof.Machine
end

