-- ==== Sys2Proof/Laws/KeepCtrl.lean ====
section
/-! SUPPORT. The operations of Machine/Ctrl.lean leave the queue as it is and keep the stores canonical. -/

namespace Sys2Proof.Machine

set_option linter.unusedTactic false
set_option linter.unreachableTactic false

variable {qq : List Instr}

theorem keep_cancelCmd (k : Nat) (s : State) (kq : Kept qq s) : Kept qq (cancelCmd k s) := by
  unfold cancelCmd
  repeat' (first 
    | (with_reducible assumption) | (with_reducible apply keep_modCmd) | (with_reducible apply keep_modCtlr) 
    | (with_reducible apply keep_freeCmd) | (with_reducible apply keep_leaveLadders) | (with_reducible apply keep_undoWrite) 
    | (with_reducible apply keep_withdrawWork) | (intro _) | (split) | (dsimp only) | (contradiction))

theorem keep_abortCmd (k st : Nat) (s : State) (kq : Kept qq s) : Kept qq (abortCmd k st s) := by
  unfold abortCmd
  repeat' (first 
    | (with_reducible assumption) | (with_reducible apply keep_modCmd) | (with_reducible apply keep_cancelCmd) | (intro _) 
    | (split) | (dsimp only) | (contradiction))

theorem keep_abortDecide (c : Cmd) (s : State) (kq : Kept qq s) : Kept qq (abortDecide c s) := by
  unfold abortDecide
  repeat' (first 
    | (with_reducible assumption) | (with_reducible apply keep_finish) | (with_reducible apply keep_finishDw) 
    | (with_reducible apply keep_inc) | (with_reducible apply keep_modCmd) | (with_reducible apply keep_abortCmd) | (intro _) 
    | (split) | (dsimp only) | (contradiction))

theorem keep_adminStart (ok : Sqe → Bool) (k : Nat) (f : Cmd → State → State) (s : State) (hf : ∀ x0 x1, Kept qq x1 → Kept qq (f x0 x1)) (kq : Kept qq s) : Kept qq (adminStart ok k f s) := by
  unfold adminStart
  repeat' (first 
    | (with_reducible assumption) | (with_reducible apply keep_markStarted) | (with_reducible apply hf) | (intro _) | (split) 
    | (dsimp only) | (contradiction))

theorem keep_deleteSq (c : Cmd) (s : State) (kq : Kept qq s) : Kept qq (deleteSq c s) := by
  unfold deleteSq
  repeat' (first 
    | (with_reducible assumption) | (with_reducible apply keep_each) | (with_reducible apply keep_finish) 
    | (with_reducible apply keep_modCmd) | (with_reducible apply keep_modSq) | (with_reducible apply keep_abortCmd) 
    | (with_reducible apply keep_cancelEver) | (with_reducible apply keep_delSync) | (with_reducible apply keep_resetRecord) 
    | (with_reducible apply kept_each) | (intro _) | (split) | (dsimp only) | (contradiction))

theorem keep_createSq (c : Cmd) (s : State) (kq : Kept qq s) : Kept qq (createSq c s) := by
  unfold createSq
  repeat' (first 
    | (with_reducible assumption) | (with_reducible apply keep_finish) | (with_reducible apply keep_modHost) | (intro _) 
    | (split) | (dsimp only) | (contradiction))

theorem keep_deleteCq (c : Cmd) (s : State) (kq : Kept qq s) : Kept qq (deleteCq c s) := by
  unfold deleteCq
  repeat' (first 
    | (with_reducible assumption) | (with_reducible apply keep_finish) | (with_reducible apply keep_modHost) | (intro _) 
    | (split) | (dsimp only) | (contradiction))

theorem keep_createCq (c : Cmd) (s : State) (kq : Kept qq s) : Kept qq (createCq c s) := by
  unfold createCq
  repeat' (first 
    | (with_reducible assumption) | (with_reducible apply keep_finish) | (with_reducible apply keep_modHost) | (intro _) 
    | (split) | (dsimp only) | (contradiction))

theorem keep_ctlEnable (c : Ctl) (ams iosqes iocqes aqaSq aqaCq : Nat) (s : State) (kq : Kept qq s) : Kept qq (ctlEnable c ams iosqes iocqes aqaSq aqaCq s) := by
  unfold ctlEnable
  repeat' (first 
    | (with_reducible assumption) | (with_reducible apply keep_modCtlr) | (with_reducible apply keep_modHost) | (intro _) 
    | (split) | (dsimp only) | (contradiction))

theorem keep_markBusy (c : Ctl) (s : State) (kq : Kept qq s) : Kept qq (markBusy c s) := by
  unfold markBusy
  repeat' (first 
    | (with_reducible assumption) | (with_reducible apply keep_modHost) | (intro _) | (split) | (dsimp only) | (contradiction))

theorem keep_stopCmds (c : Ctl) (s : State) (kq : Kept qq s) : Kept qq (stopCmds c s) := by
  unfold stopCmds
  repeat' (first 
    | (with_reducible assumption) | (with_reducible apply keep_each) | (with_reducible apply keep_modCmd) 
    | (with_reducible apply keep_modHost) | (with_reducible apply keep_cancelCmd) | (with_reducible apply keep_openSync) 
    | (with_reducible apply keep_retireCmd) | (with_reducible apply kept_each) | (intro _) | (split) | (dsimp only) 
    | (contradiction))

theorem keep_ctlReset (kind : Nat) (c : Ctl) (s : State) (kq : Kept qq s) : Kept qq (ctlReset kind c s) := by
  unfold ctlReset
  repeat' (first 
    | (with_reducible assumption) | (with_reducible apply keep_modCtlr) | (with_reducible apply keep_modHost) 
    | (with_reducible apply keep_lockGrant) | (with_reducible apply keep_markBusy) | (with_reducible apply keep_resetRecord) 
    | (with_reducible apply keep_stopCmds) | (intro _) | (split) | (dsimp only) | (contradiction))

theorem keep_runOnDone (c : Ctl) (s : State) (kq : Kept qq s) : Kept qq (runOnDone c s) := by
  unfold runOnDone
  repeat' (first 
    | (with_reducible assumption) | (with_reducible apply keep_each) | (with_reducible apply keep_modCtlr) 
    | (with_reducible apply keep_handoff) | (with_reducible apply kept_each) | (intro _) | (split) | (dsimp only) 
    | (contradiction))

theorem keep_flyCheckpoint (full : Bool) (s : State) (kq : Kept qq s) : Kept qq (flyCheckpoint full s) := by
  unfold flyCheckpoint
  repeat' (first 
    | (with_reducible assumption) | (with_reducible apply keep_checkpoint) | (intro _) | (split) | (dsimp only) | (contradiction))

theorem keep_orderly (c : Ctl) (s : State) (kq : Kept qq s) : Kept qq (orderly c s) := by
  unfold orderly
  repeat' (first 
    | (with_reducible assumption) | (with_reducible apply keep_each) | (with_reducible apply keep_modCtlr) 
    | (with_reducible apply keep_flyCheckpoint) | (with_reducible apply keep_tablesToFly) | (with_reducible apply kept_each) 
    | (intro _) | (split) | (dsimp only) | (contradiction))

theorem keep_abrupt (c : Ctl) (s : State) (kq : Kept qq s) : Kept qq (abrupt c s) := by
  unfold abrupt
  repeat' (first 
    | (with_reducible assumption) | (with_reducible apply keep_modCtlr) | (with_reducible apply keep_flyCheckpoint) | (intro _) 
    | (split) | (dsimp only) | (contradiction))

theorem keep_setPort (c : Ctl) (rate width : Nat) (s : State) (kq : Kept qq s) : Kept qq (setPort c rate width s) := by
  unfold setPort
  repeat' (first 
    | (with_reducible assumption) | (with_reducible apply keep_set) | (intro _) | (split) | (dsimp only) | (contradiction))

theorem keep_linkDown (c : Ctl) (s : State) (kq : Kept qq s) : Kept qq (linkDown c s) := by
  unfold linkDown
  repeat' (first 
    | (with_reducible assumption) | (with_reducible apply keep_inc) | (with_reducible apply keep_raise) 
    | (with_reducible apply keep_setPort) | (intro _) | (split) | (dsimp only) | (contradiction))

theorem keep_linkTrained (c : Ctl) (rate width : Nat) (s : State) (kq : Kept qq s) : Kept qq (linkTrained c rate width s) := by
  unfold linkTrained
  repeat' (first 
    | (with_reducible assumption) | (with_reducible apply keep_raise) | (with_reducible apply keep_setPort) | (intro _) | (split) 
    | (dsimp only) | (contradiction))

theorem keep_perstAssert (c : Ctl) (s : State) (kq : Kept qq s) : Kept qq (perstAssert c s) := by
  unfold perstAssert
  repeat' (first 
    | (with_reducible assumption) | (with_reducible apply keep_set) | (with_reducible apply keep_ctlReset) 
    | (with_reducible apply keep_setPort) | (intro _) | (split) | (dsimp only) | (contradiction))

end Sys2Proof.Machine
end

