-- ==== Sys2Proof/Laws/KeepDrive.lean ====
section
/-! SUPPORT. The operations of Machine/Drive.lean leave the queue as it is and keep the stores canonical. -/

namespace Sys2Proof.Machine

set_option linter.unusedTactic false
set_option linter.unreachableTactic false

variable {qq : List Instr}

theorem keep_modMot (s : State) (n : Ch) (f : Motor → Motor) (kq : Kept qq s) : Kept qq (State.modMot s n f) := by
  unfold State.modMot
  repeat' (first 
    | (with_reducible assumption) | (with_reducible apply keep_modChan) | (intro _) | (split) | (dsimp only) | (contradiction))

theorem keep_modServo (s : State) (n : Ch) (f : Servo → Servo) (kq : Kept qq s) : Kept qq (State.modServo s n f) := by
  unfold State.modServo
  repeat' (first 
    | (with_reducible assumption) | (with_reducible apply keep_modChan) | (intro _) | (split) | (dsimp only) | (contradiction))

theorem keep_takeCrossing (n : Ch) (x : Nat × Nat) (s : State) (kq : Kept qq s) : Kept qq (takeCrossing n x s) := by
  unfold takeCrossing
  repeat' (first 
    | (with_reducible assumption) | (with_reducible apply keep_modMot) | (intro _) | (split) | (dsimp only) | (contradiction))

theorem keep_seed (n : Ch) (angle omega : Int) (s : State) (kq : Kept qq s) : Kept qq (seed n angle omega s) := by
  unfold seed
  repeat' (first 
    | (with_reducible assumption) | (with_reducible apply keep_modMot) | (intro _) | (split) | (dsimp only) | (contradiction))

theorem keep_measureStart (n : Ch) (s : State) (kq : Kept qq s) : Kept qq (measureStart n s) := by
  unfold measureStart
  repeat' (first 
    | (with_reducible assumption) | (with_reducible apply keep_modMot) | (intro _) | (split) | (dsimp only) | (contradiction))

theorem keep_seedVector (n : Ch) (w : Int) (s : State) (kq : Kept qq s) : Kept qq (seedVector n w s) := by
  unfold seedVector
  repeat' (first 
    | (with_reducible assumption) | (with_reducible apply kept_getD) | (with_reducible apply keep_seed) | (intro _) | (split) 
    | (dsimp only) | (contradiction))

end Sys2Proof.Machine
end

