-- ==== Sys2Proof/Laws/KeepMotor.lean ====
section
/-! SUPPORT. The operations of Machine/Motor.lean leave the queue as it is and keep the stores canonical. -/

namespace Sys2Proof.Machine

set_option linter.unusedTactic false
set_option linter.unreachableTactic false

variable {qq : List Instr}

theorem keep_enter (n : Ch) (st : Nat) (s : State) (kq : Kept qq s) : Kept qq (enter n st s) := by
  unfold enter
  repeat' (first 
    | (with_reducible assumption) | (with_reducible apply keep_modMot) | (with_reducible apply keep_set) 
    | (with_reducible apply keep_setFlag) | (with_reducible apply keep_when) | (with_reducible apply kept_when) | (intro _) 
    | (split) | (dsimp only) | (contradiction))

theorem keep_startRetract (n : Ch) (s : State) (kq : Kept qq s) : Kept qq (startRetract n s) := by
  unfold startRetract
  repeat' (first 
    | (with_reducible assumption) | (with_reducible apply keep_modMot) | (with_reducible apply keep_modServo) 
    | (with_reducible apply keep_setFlag) | (intro _) | (split) | (dsimp only) | (contradiction))

theorem keep_endStart (n : Ch) (case : Nat) (s : State) (kq : Kept qq s) : Kept qq (endStart n case s) := by
  unfold endStart
  repeat' (first 
    | (with_reducible assumption) | (with_reducible apply keep_modMot) | (with_reducible apply keep_set) | (intro _) | (split) 
    | (dsimp only) | (contradiction))

theorem keep_failStart (n : Ch) (case : Nat) (s : State) (kq : Kept qq s) : Kept qq (failStart n case s) := by
  unfold failStart
  repeat' (first 
    | (with_reducible assumption) | (with_reducible apply keep_raise) | (with_reducible apply keep_endStart) 
    | (with_reducible apply keep_enter) | (intro _) | (split) | (dsimp only) | (contradiction))

theorem keep_enterFault (n : Ch) (k : Nat) (s : State) (kq : Kept qq s) : Kept qq (enterFault n k s) := by
  unfold enterFault
  repeat' (first 
    | (with_reducible assumption) | (with_reducible apply keep_modMot) | (with_reducible apply keep_raise) 
    | (with_reducible apply keep_enter) | (with_reducible apply keep_startRetract) | (intro _) | (split) | (dsimp only) 
    | (contradiction))

theorem keep_brakeSeed (n : Ch) (s : State) (kq : Kept qq s) : Kept qq (brakeSeed n s) := by
  unfold brakeSeed
  repeat' (first 
    | (with_reducible assumption) | (with_reducible apply keep_seedVector) | (intro _) | (split) | (dsimp only) | (contradiction))

theorem keep_stopNow (n : Ch) (s : State) (kq : Kept qq s) : Kept qq (stopNow n s) := by
  unfold stopNow
  repeat' (first 
    | (with_reducible assumption) | (with_reducible apply keep_modMot) | (with_reducible apply keep_brakeSeed) 
    | (with_reducible apply keep_endStart) | (with_reducible apply keep_enter) | (intro _) | (split) | (dsimp only) 
    | (contradiction))

theorem keep_coastNow (n : Ch) (s : State) (kq : Kept qq s) : Kept qq (coastNow n s) := by
  unfold coastNow
  repeat' (first 
    | (with_reducible assumption) | (with_reducible apply keep_modMot) | (with_reducible apply keep_endStart) 
    | (with_reducible apply keep_enter) | (intro _) | (split) | (dsimp only) | (contradiction))

theorem keep_secondTry (n : Ch) (s : State) (kq : Kept qq s) : Kept qq (secondTry n s) := by
  unfold secondTry
  repeat' (first 
    | (with_reducible assumption) | (with_reducible apply keep_modMot) | (with_reducible apply keep_modServo) 
    | (with_reducible apply keep_setFlag) | (intro _) | (split) | (dsimp only) | (contradiction))

theorem keep_afterRetract (n : Ch) (s : State) (kq : Kept qq s) : Kept qq (afterRetract n s) := by
  unfold afterRetract
  repeat' (first 
    | (with_reducible assumption) | (with_reducible apply keep_modMot) | (with_reducible apply keep_setFlag) 
    | (with_reducible apply keep_coastNow) | (with_reducible apply keep_secondTry) | (with_reducible apply keep_stopNow) 
    | (intro _) | (split) | (dsimp only) | (contradiction))

theorem keep_parkHeads (n : Ch) (coast : Bool) (s : State) (kq : Kept qq s) : Kept qq (parkHeads n coast s) := by
  unfold parkHeads
  repeat' (first 
    | (with_reducible assumption) | (with_reducible apply keep_coastNow) | (with_reducible apply keep_startRetract) | (intro _) 
    | (split) | (dsimp only) | (contradiction))

theorem keep_chipRetract (n : Ch) (was : Bool) (s : State) (kq : Kept qq s) : Kept qq (chipRetract n was s) := by
  unfold chipRetract
  repeat' (first 
    | (with_reducible assumption) | (with_reducible apply keep_parkHeads) | (intro _) | (split) | (dsimp only) | (contradiction))

theorem keep_rectify (n : Ch) (s : State) (kq : Kept qq s) : Kept qq (rectify n s) := by
  unfold rectify
  repeat' (first 
    | (with_reducible assumption) | (with_reducible apply keep_modMot) | (with_reducible apply keep_endStart) 
    | (with_reducible apply keep_enter) | (intro _) | (split) | (dsimp only) | (contradiction))

theorem keep_motCmd (f : State → State) (s : State) (hf : ∀ x0, Kept qq x0 → Kept qq (f x0)) (kq : Kept qq s) : Kept qq (motCmd f s) := by
  unfold motCmd
  repeat' (first 
    | (with_reducible assumption) | (with_reducible apply hf) | (intro _) | (split) | (dsimp only) | (contradiction))

theorem keep_motStart (n : Ch) (s : State) (kq : Kept qq s) : Kept qq (motStart n s) := by
  unfold motStart
  repeat' (first 
    | (with_reducible assumption) | (with_reducible apply keep_modMot) | (with_reducible apply keep_enter) | (intro _) | (split) 
    | (dsimp only) | (contradiction))

theorem keep_mgmtStart (n : Ch) (s : State) (kq : Kept qq s) : Kept qq (mgmtStart n s) := by
  unfold mgmtStart
  repeat' (first 
    | (with_reducible assumption) | (with_reducible apply keep_modMot) | (with_reducible apply keep_motStart) | (intro _) 
    | (split) | (dsimp only) | (contradiction))

theorem keep_releaseStarts (s : State) (kq : Kept qq s) : Kept qq (releaseStarts s) := by
  unfold releaseStarts
  repeat' (first 
    | (with_reducible assumption) | (with_reducible apply keep_each) | (with_reducible apply keep_modMot) 
    | (with_reducible apply keep_when) | (with_reducible apply keep_mgmtStart) | (with_reducible apply kept_each) 
    | (with_reducible apply kept_when) | (intro _) | (split) | (dsimp only) | (contradiction))

theorem keep_motStop (n : Ch) (s : State) (kq : Kept qq s) : Kept qq (motStop n s) := by
  unfold motStop
  repeat' (first 
    | (with_reducible assumption) | (with_reducible apply keep_modMot) | (with_reducible apply keep_startRetract) 
    | (with_reducible apply keep_stopNow) | (intro _) | (split) | (dsimp only) | (contradiction))

theorem keep_motCoast (n : Ch) (s : State) (kq : Kept qq s) : Kept qq (motCoast n s) := by
  unfold motCoast
  repeat' (first 
    | (with_reducible assumption) | (with_reducible apply keep_modMot) | (with_reducible apply keep_coastNow) 
    | (with_reducible apply keep_startRetract) | (intro _) | (split) | (dsimp only) | (contradiction))

theorem keep_motLoad (n : Ch) (s : State) (kq : Kept qq s) : Kept qq (motLoad n s) := by
  unfold motLoad
  repeat' (first 
    | (with_reducible assumption) | (with_reducible apply keep_modMot) | (with_reducible apply keep_modServo) 
    | (with_reducible apply keep_setFlag) | (intro _) | (split) | (dsimp only) | (contradiction))

theorem keep_putSpeed (n : Ch) (speed : Int) (s : State) (kq : Kept qq s) : Kept qq (putSpeed n speed s) := by
  unfold putSpeed
  repeat' (first 
    | (with_reducible assumption) | (with_reducible apply keep_modMot) | (with_reducible apply keep_set) 
    | (with_reducible apply keep_setFlag) | (intro _) | (split) | (dsimp only) | (contradiction))

theorem keep_underspeed (n : Ch) (s : State) (kq : Kept qq s) : Kept qq (underspeed n s) := by
  unfold underspeed
  repeat' (first 
    | (with_reducible assumption) | (with_reducible apply keep_enterFault) | (with_reducible apply keep_startRetract) | (intro _) 
    | (split) | (dsimp only) | (contradiction))

theorem keep_calibrate (n : Ch) (s : State) (kq : Kept qq s) : Kept qq (calibrate n s) := by
  unfold calibrate
  repeat' (first 
    | (with_reducible assumption) | (with_reducible apply keep_modMot) | (intro _) | (split) | (dsimp only) | (contradiction))

theorem keep_senseTaken (n : Ch) (s : State) (kq : Kept qq s) : Kept qq (senseTaken n s) := by
  unfold senseTaken
  repeat' (first 
    | (with_reducible assumption) | (with_reducible apply keep_set) | (with_reducible apply keep_calibrate) 
    | (with_reducible apply keep_putSpeed) | (with_reducible apply keep_seedVector) | (intro _) | (split) | (dsimp only) 
    | (contradiction))

theorem keep_senseEnd (n : Ch) (s : State) (kq : Kept qq s) : Kept qq (senseEnd n s) := by
  unfold senseEnd
  repeat' (first 
    | (with_reducible assumption) | (with_reducible apply keep_set) | (with_reducible apply keep_enter) 
    | (with_reducible apply keep_senseTaken) | (intro _) | (split) | (dsimp only) | (contradiction))

theorem keep_alignStep (n : Ch) (s : State) (kq : Kept qq s) : Kept qq (alignStep n s) := by
  unfold alignStep
  repeat' (first 
    | (with_reducible assumption) | (with_reducible apply keep_modMot) | (with_reducible apply keep_enter) | (intro _) | (split) 
    | (dsimp only) | (contradiction))

theorem keep_handoverFail (n : Ch) (s : State) (kq : Kept qq s) : Kept qq (handoverFail n s) := by
  unfold handoverFail
  repeat' (first 
    | (with_reducible assumption) | (with_reducible apply keep_modMot) | (with_reducible apply keep_enter) 
    | (with_reducible apply keep_failStart) | (intro _) | (split) | (dsimp only) | (contradiction))

theorem keep_brakeEnd (n : Ch) (s : State) (kq : Kept qq s) : Kept qq (brakeEnd n s) := by
  unfold brakeEnd
  repeat' (first 
    | (with_reducible assumption) | (with_reducible apply keep_modMot) | (with_reducible apply keep_enter) | (intro _) | (split) 
    | (dsimp only) | (contradiction))

theorem keep_brakePhase (n : Ch) (s : State) (kq : Kept qq s) : Kept qq (brakePhase n s) := by
  unfold brakePhase
  repeat' (first 
    | (with_reducible assumption) | (with_reducible apply keep_modMot) | (with_reducible apply keep_brakeEnd) 
    | (with_reducible apply keep_measureStart) | (with_reducible apply keep_putSpeed) | (intro _) | (split) | (dsimp only) 
    | (contradiction))

theorem keep_brakeTimeout (n : Ch) (s : State) (kq : Kept qq s) : Kept qq (brakeTimeout n s) := by
  unfold brakeTimeout
  repeat' (first 
    | (with_reducible assumption) | (with_reducible apply keep_modMot) | (with_reducible apply keep_raise) 
    | (with_reducible apply keep_enter) | (with_reducible apply keep_failStart) | (intro _) | (split) | (dsimp only) 
    | (contradiction))

theorem keep_spinupTimeout (n : Ch) (s : State) (kq : Kept qq s) : Kept qq (spinupTimeout n s) := by
  unfold spinupTimeout
  repeat' (first 
    | (with_reducible assumption) | (with_reducible apply keep_failStart) | (intro _) | (split) | (dsimp only) | (contradiction))

theorem keep_abortAll (n : Ch) (s : State) (kq : Kept qq s) : Kept qq (abortAll n s) := by
  unfold abortAll
  repeat' (first 
    | (with_reducible assumption) | (with_reducible apply keep_each) | (with_reducible apply keep_modSched) 
    | (with_reducible apply keep_modStit) | (with_reducible apply keep_latch) | (with_reducible apply kept_each) | (intro _) 
    | (split) | (dsimp only) | (contradiction))

theorem keep_rotorLost (n : Ch) (s : State) (kq : Kept qq s) : Kept qq (rotorLost n s) := by
  unfold rotorLost
  repeat' (first 
    | (with_reducible assumption) | (with_reducible apply keep_inc) | (with_reducible apply keep_modMot) 
    | (with_reducible apply keep_raise) | (with_reducible apply keep_abortAll) | (with_reducible apply keep_enter) 
    | (with_reducible apply keep_failStart) | (intro _) | (split) | (dsimp only) | (contradiction))

theorem keep_reacquire (n : Ch) (s : State) (kq : Kept qq s) : Kept qq (reacquire n s) := by
  unfold reacquire
  repeat' (first 
    | (with_reducible assumption) | (with_reducible apply kept_getD) | (with_reducible apply keep_modMot) 
    | (with_reducible apply keep_enter) | (with_reducible apply keep_putSpeed) | (with_reducible apply keep_seed) | (intro _) 
    | (split) | (dsimp only) | (contradiction))

theorem keep_catchTimeout (n : Ch) (s : State) (kq : Kept qq s) : Kept qq (catchTimeout n s) := by
  unfold catchTimeout
  repeat' (first 
    | (with_reducible assumption) | (with_reducible apply keep_enterFault) | (intro _) | (split) | (dsimp only) | (contradiction))

theorem keep_vmotPeriod (n : Ch) (v : Nat) (s : State) (kq : Kept qq s) : Kept qq (vmotPeriod n v s) := by
  unfold vmotPeriod
  repeat' (first 
    | (with_reducible assumption) | (with_reducible apply keep_inc) | (with_reducible apply keep_modMot) 
    | (with_reducible apply keep_raise) | (with_reducible apply keep_set) | (with_reducible apply keep_setFlag) 
    | (with_reducible apply keep_when) | (with_reducible apply kept_when) | (intro _) | (split) | (dsimp only) | (contradiction))

theorem keep_motFault (n : Ch) (s : State) (kq : Kept qq s) : Kept qq (motFault n s) := by
  unfold motFault
  repeat' (first 
    | (with_reducible assumption) | (with_reducible apply keep_enterFault) | (intro _) | (split) | (dsimp only) | (contradiction))

theorem keep_sampleCurrents (n : Ch) (iu iv : BitVec 12) (s : State) (kq : Kept qq s) : Kept qq (sampleCurrents n iu iv s) := by
  unfold sampleCurrents
  repeat' (first 
    | (with_reducible assumption) | (with_reducible apply keep_modMot) | (intro _) | (split) | (dsimp only) | (contradiction))

theorem keep_currentPeriod (n : Ch) (s : State) (kq : Kept qq s) : Kept qq (currentPeriod n s) := by
  unfold currentPeriod
  repeat' (first 
    | (with_reducible assumption) | (with_reducible apply keep_inc) | (with_reducible apply keep_modMot) 
    | (with_reducible apply keep_raise) | (with_reducible apply keep_when) | (with_reducible apply keep_motFault) 
    | (with_reducible apply kept_when) | (intro _) | (split) | (dsimp only) | (contradiction))

theorem keep_observerPeriod (n : Ch) (old : List Int) (s : State) (kq : Kept qq s) : Kept qq (observerPeriod n old s) := by
  unfold observerPeriod
  repeat' (first 
    | (with_reducible assumption) | (with_reducible apply keep_modMot) | (intro _) | (split) | (dsimp only) | (contradiction))

theorem keep_estimatePeriod (n : Ch) (term : List (Vector Int 4)) (old : List Int) (s : State) (kq : Kept qq s) : Kept qq (estimatePeriod n term old s) := by
  unfold estimatePeriod
  repeat' (first 
    | (with_reducible assumption) | (with_reducible apply kept_getD) | (with_reducible apply keep_each) 
    | (with_reducible apply keep_modMot) | (with_reducible apply keep_takeCrossing) | (with_reducible apply kept_each) 
    | (intro _) | (split) | (dsimp only) | (contradiction))

theorem keep_cyclePeriod (n : Ch) (s : State) (kq : Kept qq s) : Kept qq (cyclePeriod n s) := by
  unfold cyclePeriod
  repeat' (first 
    | (with_reducible assumption) | (with_reducible apply keep_modMot) | (with_reducible apply keep_rotorLost) | (intro _) 
    | (split) | (dsimp only) | (contradiction))

theorem keep_rampPeriod (n : Ch) (s : State) (kq : Kept qq s) : Kept qq (rampPeriod n s) := by
  unfold rampPeriod
  repeat' (first 
    | (with_reducible assumption) | (with_reducible apply keep_modMot) | (with_reducible apply keep_enter) 
    | (with_reducible apply keep_handoverFail) | (intro _) | (with_reducible apply kept_force_set) 
    | (with_reducible apply kept_force_clear) | (split) | (dsimp only) | (contradiction))

theorem keep_catchStart (n : Ch) (s : State) (kq : Kept qq s) : Kept qq (catchStart n s) := by
  unfold catchStart
  repeat' (first 
    | (with_reducible assumption) | (with_reducible apply keep_modMot) | (intro _) | (split) | (dsimp only) | (contradiction))

theorem keep_catchPeriod (n : Ch) (s : State) (kq : Kept qq s) : Kept qq (catchPeriod n s) := by
  unfold catchPeriod
  repeat' (first 
    | (with_reducible assumption) | (with_reducible apply keep_catchStart) | (with_reducible apply keep_enterFault) 
    | (with_reducible apply keep_reacquire) | (intro _) | (split) | (dsimp only) | (contradiction))

theorem keep_statePeriod (n : Ch) (s : State) (kq : Kept qq s) : Kept qq (statePeriod n s) := by
  unfold statePeriod
  repeat' (first 
    | (with_reducible assumption) | (with_reducible apply keep_modMot) | (with_reducible apply keep_catchPeriod) 
    | (with_reducible apply keep_rampPeriod) | (intro _) | (split) | (dsimp only) | (contradiction))

theorem keep_gatePeriod (n : Ch) (s : State) (kq : Kept qq s) : Kept qq (gatePeriod n s) := by
  unfold gatePeriod
  repeat' (first 
    | (with_reducible assumption) | (with_reducible apply keep_modMot) | (intro _) | (split) | (dsimp only) | (contradiction))

theorem keep_pwmPeriod (n : Ch) (o : PwmObs) (s : State) (kq : Kept qq s) : Kept qq (pwmPeriod n o s) := by
  unfold pwmPeriod
  repeat' (first 
    | (with_reducible assumption) | (with_reducible apply keep_when) | (with_reducible apply keep_currentPeriod) 
    | (with_reducible apply keep_cyclePeriod) | (with_reducible apply keep_estimatePeriod) 
    | (with_reducible apply keep_gatePeriod) | (with_reducible apply keep_observerPeriod) | (with_reducible apply keep_putSpeed) 
    | (with_reducible apply keep_sampleCurrents) | (with_reducible apply keep_statePeriod) 
    | (with_reducible apply keep_underspeed) | (with_reducible apply keep_vmotPeriod) | (with_reducible apply kept_when) 
    | (intro _) | (split) | (dsimp only) | (contradiction))

theorem keep_depthLimit (n : Ch) (s : State) (kq : Kept qq s) : Kept qq (depthLimit n s) := by
  unfold depthLimit
  repeat' (first 
    | (with_reducible assumption) | (with_reducible apply keep_raise) | (intro _) | (split) | (dsimp only) | (contradiction))

theorem keep_depthStrobe (n : Ch) (s : State) (kq : Kept qq s) : Kept qq (depthStrobe n s) := by
  unfold depthStrobe
  repeat' (first 
    | (with_reducible assumption) | (with_reducible apply keep_inc) | (with_reducible apply keep_modMot) 
    | (with_reducible apply keep_setFlag) | (with_reducible apply keep_when) | (with_reducible apply keep_depthLimit) 
    | (with_reducible apply kept_when) | (intro _) | (split) | (dsimp only) | (contradiction))

theorem keep_tolStrobe (n : Ch) (speed : Int) (s : State) (kq : Kept qq s) : Kept qq (tolStrobe n speed s) := by
  unfold tolStrobe
  repeat' (first 
    | (with_reducible assumption) | (with_reducible apply keep_modMot) | (with_reducible apply keep_setFlag) 
    | (with_reducible apply keep_when) | (with_reducible apply keep_secondTry) | (with_reducible apply kept_when) | (intro _) 
    | (split) | (dsimp only) | (contradiction))

theorem keep_runReached (n : Ch) (speed : Int) (s : State) (kq : Kept qq s) : Kept qq (runReached n speed s) := by
  unfold runReached
  repeat' (first 
    | (with_reducible assumption) | (with_reducible apply keep_modMot) | (with_reducible apply keep_enter) | (intro _) | (split) 
    | (dsimp only) | (contradiction))

theorem keep_coilPeriod (n : Ch) (current vcb : Int) (s : State) (kq : Kept qq s) : Kept qq (coilPeriod n current vcb s) := by
  unfold coilPeriod
  repeat' (first 
    | (with_reducible assumption) | (with_reducible apply keep_modMot) | (intro _) | (split) | (dsimp only) | (contradiction))

theorem keep_dirWrite (n : Ch) (dir : Bool) (s : State) (kq : Kept qq s) : Kept qq (dirWrite n dir s) := by
  unfold dirWrite
  repeat' (first 
    | (with_reducible assumption) | (with_reducible apply keep_raise) | (with_reducible apply keep_setFlag) | (intro _) | (split) 
    | (dsimp only) | (contradiction))

end Sys2Proof.Machine
end

