-- ==== Sys2Proof/Laws/KeepHinge.lean ====
section
/-! SUPPORT. The operations of Machine/Hinge.lean leave the queue as it is and keep the stores canonical. -/

namespace Sys2Proof.Machine

set_option linter.unusedTactic false
set_option linter.unreachableTactic false

variable {qq : List Instr}

theorem keep_modHinge (s : State) (n : Ch) (f : Hinge → Hinge) (kq : Kept qq s) : Kept qq (State.modHinge s n f) := by
  unfold State.modHinge
  repeat' (first 
    | (with_reducible assumption) | (with_reducible apply keep_modChan) | (intro _) | (split) | (dsimp only) | (contradiction))

theorem keep_setEng (n : Ch) (b : Bool) (v : Nat) (s : State) (kq : Kept qq s) : Kept qq (setEng n b v s) := by
  unfold setEng
  repeat' (first 
    | (with_reducible assumption) | (with_reducible apply keep_set) | (intro _) | (split) | (dsimp only) | (contradiction))

theorem keep_modEng (s : State) (n : Ch) (b : Bool) (f : EngCtx → EngCtx) (kq : Kept qq s) : Kept qq (State.modEng s n b f) := by
  unfold State.modEng
  repeat' (first 
    | (with_reducible assumption) | (with_reducible apply keep_modServo) | (intro _) | (split) | (dsimp only) | (contradiction))

theorem keep_modEngs (s : State) (n : Ch) (f : EngCtx → EngCtx) (kq : Kept qq s) : Kept qq (State.modEngs s n f) := by
  unfold State.modEngs
  repeat' (first 
    | (with_reducible assumption) | (with_reducible apply keep_modServo) | (intro _) | (split) | (dsimp only) | (contradiction))

theorem keep_syncCtl (n : Ch) (s : State) (kq : Kept qq s) : Kept qq (syncCtl n s) := by
  unfold syncCtl
  repeat' (first 
    | (with_reducible assumption) | (with_reducible apply keep_set) | (with_reducible apply keep_setFlag) | (intro _) | (split) 
    | (dsimp only) | (contradiction))

theorem keep_failEngine (n : Ch) (b : Bool) (s : State) (kq : Kept qq s) : Kept qq (failEngine n b s) := by
  unfold failEngine
  repeat' (first 
    | (with_reducible assumption) | (with_reducible apply keep_inc) | (with_reducible apply keep_modEng) 
    | (with_reducible apply keep_modHinge) | (with_reducible apply keep_raise) | (with_reducible apply keep_set) 
    | (with_reducible apply keep_setEng) | (intro _) | (split) | (dsimp only) | (contradiction))

theorem keep_latchCause (n : Ch) (c : Nat) (s : State) (kq : Kept qq s) : Kept qq (latchCause n c s) := by
  unfold latchCause
  repeat' (first 
    | (with_reducible assumption) | (with_reducible apply keep_modHinge) | (intro _) | (split) | (dsimp only) | (contradiction))

theorem keep_enginesFailed (n : Ch) (s : State) (kq : Kept qq s) : Kept qq (enginesFailed n s) := by
  unfold enginesFailed
  repeat' (first 
    | (with_reducible assumption) | (with_reducible apply keep_modHinge) | (with_reducible apply keep_raise) 
    | (with_reducible apply keep_startRetract) | (intro _) | (split) | (dsimp only) | (contradiction))

theorem keep_switchOver (n : Ch) (cause : Nat) (s : State) (kq : Kept qq s) : Kept qq (switchOver n cause s) := by
  unfold switchOver
  repeat' (first 
    | (with_reducible assumption) | (with_reducible apply keep_inc) | (with_reducible apply keep_modHinge) 
    | (with_reducible apply keep_raise) | (with_reducible apply keep_set) | (with_reducible apply keep_setFlag) 
    | (with_reducible apply keep_enginesFailed) | (with_reducible apply keep_failEngine) | (with_reducible apply keep_parkAll) 
    | (with_reducible apply keep_setEng) | (with_reducible apply keep_syncCtl) | (intro _) 
    | (with_reducible apply kept_force_set) | (with_reducible apply kept_force_clear) | (split) | (dsimp only) | (contradiction))

theorem keep_takeBack (n : Ch) (s : State) (kq : Kept qq s) : Kept qq (takeBack n s) := by
  unfold takeBack
  repeat' (first 
    | (with_reducible assumption) | (with_reducible apply keep_inc) | (with_reducible apply keep_modHinge) 
    | (with_reducible apply keep_raise) | (with_reducible apply keep_set) | (with_reducible apply keep_setFlag) 
    | (with_reducible apply keep_setEng) | (with_reducible apply keep_syncCtl) | (intro _) 
    | (with_reducible apply kept_force_set) | (with_reducible apply kept_force_clear) | (split) | (dsimp only) | (contradiction))

theorem keep_stateCopy (n : Ch) (good : Bool) (s : State) (kq : Kept qq s) : Kept qq (stateCopy n good s) := by
  unfold stateCopy
  repeat' (first 
    | (with_reducible assumption) | (with_reducible apply keep_inc) | (with_reducible apply keep_modEng) 
    | (with_reducible apply keep_modHinge) | (with_reducible apply keep_raise) | (with_reducible apply keep_setEng) | (intro _) 
    | (split) | (dsimp only) | (contradiction))

theorem keep_recovered (n : Ch) (ok : Bool) (s : State) (kq : Kept qq s) : Kept qq (recovered n ok s) := by
  unfold recovered
  repeat' (first 
    | (with_reducible assumption) | (with_reducible apply keep_modHinge) | (with_reducible apply keep_raise) 
    | (with_reducible apply keep_set) | (with_reducible apply keep_setEng) | (intro _) | (split) | (dsimp only) | (contradiction))

theorem keep_otherCheck (n : Ch) (ok : Bool) (s : State) (kq : Kept qq s) : Kept qq (otherCheck n ok s) := by
  unfold otherCheck
  repeat' (first 
    | (with_reducible assumption) | (with_reducible apply keep_modHinge) | (with_reducible apply keep_failEngine) 
    | (with_reducible apply keep_recovered) | (intro _) | (split) | (dsimp only) | (contradiction))

theorem keep_beginRecovery (n : Ch) (s : State) (kq : Kept qq s) : Kept qq (beginRecovery n s) := by
  unfold beginRecovery
  repeat' (first 
    | (with_reducible assumption) | (with_reducible apply keep_modHinge) | (with_reducible apply keep_setEng) | (intro _) 
    | (split) | (dsimp only) | (contradiction))

theorem keep_hingePost (n : Ch) (a b : EngineObs) (s : State) (kq : Kept qq s) : Kept qq (hingePost n a b s) := by
  unfold hingePost
  repeat' (first 
    | (with_reducible assumption) | (with_reducible apply keep_latchCause) | (with_reducible apply keep_otherCheck) 
    | (with_reducible apply keep_stateCopy) | (intro _) | (split) | (dsimp only) | (contradiction))

theorem keep_compareEngines (n : Ch) (ya yb : Int) (s : State) (kq : Kept qq s) : Kept qq (compareEngines n ya yb s) := by
  unfold compareEngines
  repeat' (first 
    | (with_reducible assumption) | (with_reducible apply keep_modHinge) | (with_reducible apply keep_set) 
    | (with_reducible apply keep_when) | (with_reducible apply kept_when) | (intro _) | (split) | (dsimp only) | (contradiction))

theorem keep_gapEnd (n : Ch) (s : State) (kq : Kept qq s) : Kept qq (gapEnd n s) := by
  unfold gapEnd
  repeat' (first 
    | (with_reducible assumption) | (with_reducible apply keep_modHinge) | (with_reducible apply keep_setFlag) | (intro _) 
    | (split) | (dsimp only) | (contradiction))

theorem keep_gapEvent (n : Ch) (s : State) (kq : Kept qq s) : Kept qq (gapEvent n s) := by
  unfold gapEvent
  repeat' (first 
    | (with_reducible assumption) | (with_reducible apply keep_modHinge) | (with_reducible apply keep_gapEnd) | (intro _) 
    | (split) | (dsimp only) | (contradiction))

theorem keep_engineDisagree (n : Ch) (aOk bOk : Bool) (s : State) (kq : Kept qq s) : Kept qq (engineDisagree n aOk bOk s) := by
  unfold engineDisagree
  repeat' (first 
    | (with_reducible assumption) | (with_reducible apply keep_modHinge) | (with_reducible apply keep_raise) 
    | (with_reducible apply keep_enginesFailed) | (with_reducible apply keep_failEngine) | (with_reducible apply keep_latchCause) 
    | (intro _) | (split) | (dsimp only) | (contradiction))

theorem keep_hingeForce (n : Ch) (open_ aOk bOk : Bool) (s : State) (kq : Kept qq s) : Kept qq (hingeForce n open_ aOk bOk s) := by
  unfold hingeForce
  repeat' (first 
    | (with_reducible assumption) | (with_reducible apply keep_modHinge) | (with_reducible apply keep_latchCause) | (intro _) 
    | (with_reducible apply kept_force_set) | (with_reducible apply kept_force_clear) | (split) | (dsimp only) | (contradiction))

theorem keep_selectionDisagree (n : Ch) (s : State) (kq : Kept qq s) : Kept qq (selectionDisagree n s) := by
  unfold selectionDisagree
  repeat' (first 
    | (with_reducible assumption) | (with_reducible apply keep_raise) | (with_reducible apply keep_startRetract) | (intro _) 
    | (split) | (dsimp only) | (contradiction))

end Sys2Proof.Machine
end

