-- ==== Sys2Proof/Laws/KeepServo.lean ====
section
/-! SUPPORT. The operations of Machine/Servo.lean leave the queue as it is and keep the stores canonical. -/

namespace Sys2Proof.Machine

set_option linter.unusedTactic false
set_option linter.unreachableTactic false

variable {qq : List Instr}

theorem keep_countSat (n : Ch) (l : Loop) (k : Nat) (s : State) (kq : Kept qq s) : Kept qq (countSat n l k s) := by
  unfold countSat
  repeat' (first 
    | (with_reducible assumption) | (with_reducible apply keep_addSat) | (intro _) | (split) | (dsimp only) | (contradiction))

theorem keep_putBank (n : Ch) (l : Loop) (b : Bool) (i v : Nat) (s : State) (kq : Kept qq s) : Kept qq (putBank n l b i v s) := by
  unfold putBank
  repeat' (first 
    | (with_reducible assumption) | (with_reducible apply keep_set) | (intro _) | (with_reducible apply NatMap.set_wf) 
    | (with_reducible apply NatMap.setRun_wf) | (with_reducible apply NatMap.setMany_wf) | (with_reducible apply kept_pads) 
    | (with_reducible apply kept_banks) | (with_reducible apply kept_store) | (with_reducible exact NatMap.empty_wf) 
    | (with_reducible apply NatMap.foldl_wf) | (split) | (dsimp only) | (contradiction))

theorem keep_swapBank (n : Ch) (l : Loop) (s : State) (kq : Kept qq s) : Kept qq (swapBank n l s) := by
  unfold swapBank
  repeat' (first 
    | (with_reducible assumption) | (with_reducible apply keep_each) | (with_reducible apply keep_modEng) 
    | (with_reducible apply keep_set) | (with_reducible apply keep_setBit) | (with_reducible apply kept_each) | (intro _) 
    | (split) | (dsimp only) | (contradiction))

theorem keep_requestSwap (n : Ch) (l : Loop) (s : State) (kq : Kept qq s) : Kept qq (requestSwap n l s) := by
  unfold requestSwap
  repeat' (first 
    | (with_reducible assumption) | (with_reducible apply keep_modServo) | (with_reducible apply keep_setBit) | (intro _) 
    | (split) | (dsimp only) | (contradiction))

theorem keep_swapRequest (n : Ch) (mask : Nat) (s : State) (kq : Kept qq s) : Kept qq (swapRequest n mask s) := by
  unfold swapRequest
  repeat' (first 
    | (with_reducible assumption) | (with_reducible apply keep_each) | (with_reducible apply keep_modHinge) 
    | (with_reducible apply keep_requestSwap) | (with_reducible apply kept_each) | (intro _) | (split) | (dsimp only) 
    | (contradiction))

theorem keep_swapChecked (n : Ch) (l : Loop) (s : State) (kq : Kept qq s) : Kept qq (swapChecked n l s) := by
  unfold swapChecked
  repeat' (first 
    | (with_reducible assumption) | (with_reducible apply keep_modServo) | (with_reducible apply keep_raise) 
    | (with_reducible apply keep_setBit) | (with_reducible apply keep_swapBank) | (intro _) | (split) | (dsimp only) 
    | (contradiction))

theorem keep_bankWrite (n : Ch) (l : Loop) (i v : Nat) (s : State) (kq : Kept qq s) : Kept qq (bankWrite n l i v s) := by
  unfold bankWrite
  repeat' (first 
    | (with_reducible assumption) | (with_reducible apply keep_modServo) | (with_reducible apply keep_putBank) | (intro _) 
    | (split) | (dsimp only) | (contradiction))

theorem keep_bankCollide (n : Ch) (l : Loop) (i v : Nat) (s : State) (kq : Kept qq s) : Kept qq (bankCollide n l i v s) := by
  unfold bankCollide
  repeat' (first 
    | (with_reducible assumption) | (with_reducible apply keep_inc) | (with_reducible apply keep_setBit) 
    | (with_reducible apply keep_putBank) | (intro _) | (split) | (dsimp only) | (contradiction))

theorem keep_coefWrite (n : Ch) (l : Loop) (i v : Nat) (atSwap : Bool) (s : State) (kq : Kept qq s) : Kept qq (coefWrite n l i v atSwap s) := by
  unfold coefWrite
  repeat' (first 
    | (with_reducible assumption) | (with_reducible apply keep_modHinge) | (with_reducible apply keep_bankCollide) 
    | (with_reducible apply keep_bankWrite) | (intro _) | (split) | (dsimp only) | (contradiction))

theorem keep_copyBanks (n : Ch) (s : State) (kq : Kept qq s) : Kept qq (copyBanks n s) := by
  unfold copyBanks
  repeat' (first 
    | (with_reducible assumption) | (with_reducible apply keep_set) | (intro _) | (with_reducible apply NatMap.set_wf) 
    | (with_reducible apply NatMap.setRun_wf) | (with_reducible apply NatMap.setMany_wf) | (with_reducible apply kept_pads) 
    | (with_reducible apply kept_banks) | (with_reducible apply kept_store) | (with_reducible exact NatMap.empty_wf) 
    | (with_reducible apply NatMap.foldl_wf) | (split) | (dsimp only) | (contradiction))

theorem keep_copyDone (n : Ch) (s : State) (kq : Kept qq s) : Kept qq (copyDone n s) := by
  unfold copyDone
  repeat' (first 
    | (with_reducible assumption) | (with_reducible apply keep_each) | (with_reducible apply keep_modHinge) 
    | (with_reducible apply keep_bankWrite) | (with_reducible apply keep_copyBanks) | (with_reducible apply keep_swapRequest) 
    | (with_reducible apply kept_each) | (intro _) | (split) | (dsimp only) | (contradiction))

theorem keep_loopNext (n : Ch) (e : Bool) (l : Loop) (u : List Int) (s : State) (kq : Kept qq s) : Kept qq (loopNext n e l u s).2 := by
  unfold loopNext
  repeat' (first 
    | (with_reducible assumption) | (with_reducible apply keep_modEng) | (with_reducible apply keep_set) 
    | (with_reducible apply kept_foldl) | (with_reducible apply kept_foldl_snd) | (intro _) | (split) | (dsimp only) 
    | (contradiction))

theorem keep_boundary (n : Ch) (l : Loop) (us : List (Bool × List Int)) (s : State) (kq : Kept qq s) : Kept qq (boundary n l us s) := by
  unfold boundary
  repeat' (first 
    | (with_reducible assumption) | (with_reducible apply keep_each) | (with_reducible apply keep_when) 
    | (with_reducible apply keep_countSat) | (with_reducible apply keep_loopNext) | (with_reducible apply keep_swapBank) 
    | (with_reducible apply kept_each) | (with_reducible apply kept_when) | (intro _) | (split) | (dsimp only) | (contradiction))

theorem keep_setTarget (n : Ch) (target : Int) (s : State) (kq : Kept qq s) : Kept qq (setTarget n target s) := by
  unfold setTarget
  repeat' (first 
    | (with_reducible assumption) | (with_reducible apply keep_modEngs) | (with_reducible apply keep_modServo) | (intro _) 
    | (split) | (dsimp only) | (contradiction))

theorem keep_redirect (n : Ch) (target : Int) (s : State) (kq : Kept qq s) : Kept qq (redirect n target s) := by
  unfold redirect
  repeat' (first 
    | (with_reducible assumption) | (with_reducible apply keep_modEngs) | (with_reducible apply keep_modServo) | (intro _) 
    | (split) | (dsimp only) | (contradiction))

theorem keep_seekBegins (n : Ch) (s : State) (kq : Kept qq s) : Kept qq (seekBegins n s) := by
  unfold seekBegins
  repeat' (first 
    | (with_reducible assumption) | (with_reducible apply keep_incWrap) | (with_reducible apply keep_set) | (intro _) | (split) 
    | (dsimp only) | (contradiction))

theorem keep_startSeek (n : Ch) (d : Desc) (offs : Int) (redir : Bool) (s : State) (kq : Kept qq s) : Kept qq (startSeek n d offs redir s) := by
  unfold startSeek
  repeat' (first 
    | (with_reducible assumption) | (with_reducible apply keep_each) | (with_reducible apply keep_modServo) 
    | (with_reducible apply keep_set) | (with_reducible apply keep_redirect) | (with_reducible apply keep_seekBegins) 
    | (with_reducible apply keep_setTarget) | (with_reducible apply keep_settle) | (with_reducible apply keep_track) 
    | (with_reducible apply kept_each) | (intro _) | (split) | (dsimp only) | (contradiction))

theorem keep_onTrack (n : Ch) (p : Pa) (s : State) (kq : Kept qq s) : Kept qq (onTrack n p s) := by
  unfold onTrack
  repeat' (first 
    | (with_reducible assumption) | (with_reducible apply keep_event) | (with_reducible apply keep_modServo) 
    | (with_reducible apply keep_setBit) | (intro _) | (split) | (dsimp only) | (contradiction))

theorem keep_seekTimeout (n : Ch) (s : State) (kq : Kept qq s) : Kept qq (seekTimeout n s) := by
  unfold seekTimeout
  repeat' (first 
    | (with_reducible assumption) | (with_reducible apply keep_inc) | (with_reducible apply keep_modEngs) 
    | (with_reducible apply keep_modServo) | (with_reducible apply keep_raise) | (with_reducible apply keep_seekBegins) 
    | (with_reducible apply keep_setTarget) | (with_reducible apply keep_settle) | (intro _) | (split) | (dsimp only) 
    | (contradiction))

theorem keep_wedgePorts (n : Ch) (p : Pa) (m : Meas) (s : State) (kq : Kept qq s) : Kept qq (wedgePorts n p m s) := by
  unfold wedgePorts
  repeat' (first 
    | (with_reducible assumption) | (with_reducible apply keep_modStit) | (with_reducible apply keep_latch) | (intro _) | (split) 
    | (dsimp only) | (contradiction))

theorem keep_scanRecord (n : Ch) (p : Pa) (w : Wedge) (m : Meas) (s : State) (kq : Kept qq s) : Kept qq (scanRecord n p w m s) := by
  unfold scanRecord
  repeat' (first 
    | (with_reducible assumption) | (with_reducible apply keep_modPath) | (with_reducible apply keep_sectorResult) | (intro _) 
    | (with_reducible apply kept_dram_run) | (split) | (dsimp only) | (contradiction))

theorem keep_declared (n : Ch) (l : Loop) (s : State) (kq : Kept qq s) : Kept qq (declared n l s) := by
  unfold declared
  repeat' (first 
    | (with_reducible assumption) | (with_reducible apply keep_inc) | (with_reducible apply keep_raise) 
    | (with_reducible apply keep_setBit) | (with_reducible apply keep_latchCause) | (with_reducible apply keep_parkAll) 
    | (with_reducible apply keep_parkGate) | (intro _) | (split) | (dsimp only) | (contradiction))

theorem keep_declare (n : Ch) (b : Bool) (l : Loop) (s : State) (kq : Kept qq s) : Kept qq (declare n b l s) := by
  unfold declare
  repeat' (first 
    | (with_reducible assumption) | (with_reducible apply keep_modEng) | (with_reducible apply keep_declared) | (intro _) 
    | (split) | (dsimp only) | (contradiction))

theorem keep_plausible (n : Ch) (b : Bool) (l : Loop) (s : State) (kq : Kept qq s) : Kept qq (plausible n b l s) := by
  unfold plausible
  repeat' (first 
    | (with_reducible assumption) | (with_reducible apply keep_modEng) | (with_reducible apply keep_setBit) | (intro _) | (split) 
    | (dsimp only) | (contradiction))

theorem keep_supShow (n : Ch) (l : Loop) (was : EngCtx) (r : Option Int) (s : State) (kq : Kept qq s) : Kept qq (supShow n l was r s) := by
  unfold supShow
  repeat' (first 
    | (with_reducible assumption) | (with_reducible apply keep_inc) | (with_reducible apply keep_set) 
    | (with_reducible apply keep_declared) | (intro _) | (split) | (dsimp only) | (contradiction))

theorem keep_servoLost (n : Ch) (s : State) (kq : Kept qq s) : Kept qq (servoLost n s) := by
  unfold servoLost
  repeat' (first 
    | (with_reducible assumption) | (with_reducible apply keep_raise) | (with_reducible apply keep_startRetract) | (intro _) 
    | (split) | (dsimp only) | (contradiction))

theorem keep_runaway (n : Ch) (a b : Bool) (s : State) (kq : Kept qq s) : Kept qq (runaway n a b s) := by
  unfold runaway
  repeat' (first 
    | (with_reducible assumption) | (with_reducible apply keep_raise) | (with_reducible apply keep_failEngine) 
    | (with_reducible apply keep_latchCause) | (intro _) | (split) | (dsimp only) | (contradiction))

theorem keep_coarseCounts (n : Ch) (s : State) (kq : Kept qq s) : Kept qq (coarseCounts n s) := by
  unfold coarseCounts
  repeat' (first 
    | (with_reducible assumption) | (with_reducible apply keep_modServo) | (with_reducible apply keep_found) 
    | (with_reducible apply keep_runaway) | (with_reducible apply keep_servoLost) | (intro _) | (split) | (dsimp only) 
    | (contradiction))

theorem keep_setTblState (n : Ch) (p : Pa) (h st : Nat) (s : State) (kq : Kept qq s) : Kept qq (setTblState n p h st s) := by
  unfold setTblState
  repeat' (first 
    | (with_reducible assumption) | (with_reducible apply keep_modServo) | (with_reducible apply keep_set) 
    | (with_reducible apply keep_setBit) | (intro _) | (split) | (dsimp only) | (contradiction))

theorem keep_learnStart (n : Ch) (p : Pa) (h : Nat) (s : State) (kq : Kept qq s) : Kept qq (learnStart n p h s) := by
  unfold learnStart
  repeat' (first 
    | (with_reducible assumption) | (with_reducible apply keep_modServo) | (with_reducible apply keep_set) 
    | (with_reducible apply keep_setBit) | (with_reducible apply keep_setTblState) | (intro _) | (split) | (dsimp only) 
    | (contradiction))

theorem keep_learnEnd (n : Ch) (p : Pa) (s : State) (kq : Kept qq s) : Kept qq (learnEnd n p s) := by
  unfold learnEnd
  repeat' (first 
    | (with_reducible assumption) | (with_reducible apply keep_modServo) | (with_reducible apply keep_set) 
    | (with_reducible apply keep_setBit) | (intro _) | (split) | (dsimp only) | (contradiction))

theorem keep_converged (n : Ch) (p : Pa) (s : State) (kq : Kept qq s) : Kept qq (converged n p s) := by
  unfold converged
  repeat' (first 
    | (with_reducible assumption) | (with_reducible apply keep_setBit) | (with_reducible apply keep_learnEnd) 
    | (with_reducible apply keep_setTblState) | (intro _) | (split) | (dsimp only) | (contradiction))

theorem keep_noConvergence (n : Ch) (p : Pa) (s : State) (kq : Kept qq s) : Kept qq (noConvergence n p s) := by
  unfold noConvergence
  repeat' (first 
    | (with_reducible assumption) | (with_reducible apply keep_modSched) | (with_reducible apply keep_raise) 
    | (with_reducible apply keep_learnEnd) | (with_reducible apply keep_setTblState) | (intro _) | (split) | (dsimp only) 
    | (contradiction))

theorem keep_rroUpdate (n : Ch) (p : Pa) (w : Nat) (ep : Int) (mu : Nat) (s : State) (kq : Kept qq s) : Kept qq (rroUpdate n p w ep mu s) := by
  unfold rroUpdate
  repeat' (first 
    | (with_reducible assumption) | (with_reducible apply keep_putPad16) | (intro _) | (split) | (dsimp only) | (contradiction))

theorem keep_revolution (n : Ch) (p : Pa) (k : Learn) (s : State) (kq : Kept qq s) : Kept qq (revolution n p k s) := by
  unfold revolution
  extract_lets t valid thr conv u
  clear_value conv
  have hu : Kept qq u := keep_modServo _ _ _ (keep_addSat _ _ _ kq)
  clear_value u
  split
  · exact keep_converged _ _ _ hu
  · split
    · exact keep_noConvergence _ _ _ hu
    · exact hu

theorem keep_learnSample (n : Ch) (p : Pa) (m : Meas) (held : Bool) (s : State) (kq : Kept qq s) : Kept qq (learnSample n p m held s) := by
  unfold learnSample
  repeat' (first 
    | (with_reducible assumption) | (with_reducible apply keep_modServo) | (with_reducible apply keep_set) 
    | (with_reducible apply keep_revolution) | (with_reducible apply keep_rroUpdate) | (intro _) | (split) | (dsimp only) 
    | (contradiction))

theorem keep_linkIdle (n : Ch) (s : State) (kq : Kept qq s) : Kept qq (linkIdle n s) := by
  unfold linkIdle
  repeat' (first 
    | (with_reducible assumption) | (with_reducible apply keep_modServo) | (intro _) | (split) | (dsimp only) | (contradiction))

theorem keep_sendFrame (n : Ch) (eng : Bool) (cls : Nat) (s : State) (kq : Kept qq s) : Kept qq (sendFrame n eng cls s) := by
  unfold sendFrame
  repeat' (first 
    | (with_reducible assumption) | (with_reducible apply keep_incWrap) | (with_reducible apply keep_modEngs) 
    | (with_reducible apply keep_modServo) | (intro _) | (split) | (dsimp only) | (contradiction))

theorem keep_headErrors (n : Ch) (p : Pa) (u0 pos : Int) (s : State) (kq : Kept qq s) : Kept qq (headErrors n p u0 pos s) := by
  unfold headErrors
  repeat' (first 
    | (with_reducible assumption) | (with_reducible apply keep_modServo) | (with_reducible apply keep_set) | (intro _) | (split) 
    | (dsimp only) | (contradiction))

theorem keep_offTrackTests (n : Ch) (s : State) (kq : Kept qq s) : Kept qq (offTrackTests n s) := by
  unfold offTrackTests
  repeat' (first 
    | (with_reducible assumption) | (with_reducible apply keep_each) | (with_reducible apply keep_inc) 
    | (with_reducible apply keep_parkGate) | (with_reducible apply kept_each) | (intro _) | (split) | (dsimp only) 
    | (contradiction))

theorem keep_settle (n : Ch) (p : Pa) (m : Meas) (s : State) (kq : Kept qq s) : Kept qq (settle n p m s) := by
  unfold settle
  repeat' (first 
    | (with_reducible assumption) | (with_reducible apply keep_modServo) | (with_reducible apply keep_set) 
    | (with_reducible apply keep_onTrack) | (intro _) | (split) | (dsimp only) | (contradiction))

theorem keep_eventBegin (n : Ch) (o : SampleObs) (s : State) (kq : Kept qq s) : Kept qq (eventBegin n o s) := by
  unfold eventBegin
  repeat' (first 
    | (with_reducible assumption) | (with_reducible apply keep_addSat) | (with_reducible apply keep_inc) 
    | (with_reducible apply keep_raise) | (with_reducible apply keep_when) | (with_reducible apply keep_beginRecovery) 
    | (with_reducible apply keep_linkIdle) | (with_reducible apply keep_takeShadow) | (with_reducible apply kept_when) 
    | (with_reducible apply kept_foldl) | (with_reducible apply kept_foldl_snd) | (intro _) | (split) | (dsimp only) 
    | (contradiction))

theorem keep_eventShow (n : Ch) (o : SampleObs) (r : EngRun) (other : Option EngRun) (s : State) (kq : Kept qq s) : Kept qq (eventShow n o r other s) := by
  unfold eventShow
  repeat' (first 
    | (with_reducible assumption) | (with_reducible apply keep_modEng) | (with_reducible apply keep_used) 
    | (with_reducible apply keep_when) | (with_reducible apply keep_coarseCounts) | (with_reducible apply keep_countSat) 
    | (with_reducible apply keep_headErrors) | (with_reducible apply keep_offTrackTests) | (with_reducible apply keep_scanRecord) 
    | (with_reducible apply keep_supShow) | (with_reducible apply keep_syncCtl) | (with_reducible apply keep_wedgePorts) 
    | (with_reducible apply kept_when) | (intro _) | (split) | (dsimp only) | (contradiction))

theorem keep_eventArbiter (n : Ch) (cls : Nat) (ready copyOk : Bool) (s : State) (kq : Kept qq s) : Kept qq (eventArbiter n cls ready copyOk s).2 := by
  unfold eventArbiter
  repeat' (first 
    | (with_reducible assumption) | (with_reducible apply keep_modHinge) | (with_reducible apply keep_setFlag) 
    | (with_reducible apply keep_gapEvent) | (with_reducible apply keep_latchCause) | (with_reducible apply keep_switchOver) 
    | (intro _) | (split) | (dsimp only) | (contradiction))

theorem keep_eventCommands (n : Ch) (p : Pa) (eng : Bool) (r : EngRun) (other : Option EngRun) (s : State) (kq : Kept qq s) : Kept qq (eventCommands n p eng r other s) := by
  unfold eventCommands
  repeat' (first 
    | (with_reducible assumption) | (with_reducible apply keep_modEng) | (with_reducible apply keep_modEngs) 
    | (with_reducible apply keep_modServo) | (with_reducible apply keep_set) | (with_reducible apply keep_countSat) 
    | (with_reducible apply keep_sendFrame) | (intro _) | (split) | (dsimp only) | (contradiction))

theorem keep_eventAfter (n : Ch) (o : SampleObs) (m : Meas) (held : Bool) (usC usF : List (Bool × List Int)) (s : State) (kq : Kept qq s) : Kept qq (eventAfter n o m held usC usF s) := by
  unfold eventAfter
  repeat' (first 
    | (with_reducible assumption) | (with_reducible apply keep_boundary) | (with_reducible apply keep_hingePost) 
    | (with_reducible apply keep_learnSample) | (with_reducible apply keep_settle) | (intro _) | (split) | (dsimp only) 
    | (contradiction))

theorem keep_eventDecide (n : Ch) (o : SampleObs) (r : EngRun) (other : Option EngRun) (s : State) (kq : Kept qq s) : Kept qq (eventDecide n o r other s) := by
  unfold eventDecide
  repeat' (first 
    | (with_reducible assumption) | (with_reducible apply keep_compareEngines) | (with_reducible apply keep_eventAfter) 
    | (with_reducible apply keep_eventArbiter) | (with_reducible apply keep_eventCommands) | (intro _) | (split) | (dsimp only) 
    | (contradiction))

theorem keep_finishTakeBack (n : Ch) (s : State) (kq : Kept qq s) : Kept qq (finishTakeBack n s) := by
  unfold finishTakeBack
  repeat' (first 
    | (with_reducible assumption) | (with_reducible apply keep_modHinge) | (with_reducible apply keep_modServo) 
    | (with_reducible apply keep_setFlag) | (with_reducible apply keep_sendFrame) | (with_reducible apply keep_stateCopy) 
    | (with_reducible apply keep_takeBack) | (intro _) | (split) | (dsimp only) | (contradiction))

theorem keep_sampleEvent (n : Ch) (o : SampleObs) (s : State) (kq : Kept qq s) : Kept qq (sampleEvent n o s) := by
  unfold sampleEvent
  repeat' (first 
    | (with_reducible assumption) | (with_reducible apply keep_addSat) | (with_reducible apply keep_eventBegin) 
    | (with_reducible apply keep_eventDecide) | (with_reducible apply keep_eventShow) 
    | (with_reducible apply keep_finishTakeBack) | (intro _) | (split) | (dsimp only) | (contradiction))

theorem keep_phaseInput (n : Ch) (index : Int) (t : Nat) (s : State) (kq : Kept qq s) : Kept qq (phaseInput n index t s).2 := by
  unfold phaseInput
  repeat' (first 
    | (with_reducible assumption) | (with_reducible apply keep_inc) | (with_reducible apply keep_raise) 
    | (with_reducible apply keep_setFlag) | (intro _) | (split) | (dsimp only) | (contradiction))

theorem keep_strobeArbiter (n : Ch) (ready : Bool) (s : State) (kq : Kept qq s) : Kept qq (strobeArbiter n ready s).2 := by
  unfold strobeArbiter
  repeat' (first 
    | (with_reducible assumption) | (with_reducible apply keep_modHinge) | (with_reducible apply keep_latchCause) 
    | (with_reducible apply keep_switchOver) | (intro _) | (split) | (dsimp only) | (contradiction))

theorem keep_torqueOut (n : Ch) (ctl : Int) (other : Option Int) (s : State) (kq : Kept qq s) : Kept qq (torqueOut n ctl other s) := by
  unfold torqueOut
  repeat' (first 
    | (with_reducible assumption) | (with_reducible apply keep_modHinge) | (with_reducible apply keep_modServo) 
    | (with_reducible apply keep_countSat) | (intro _) | (split) | (dsimp only) | (contradiction))

theorem keep_strobeLoops (n : Ch) (o : StrobeObs) (u : List Int) (s : State) (kq : Kept qq s) : Kept qq (strobeLoops n o u s) := by
  unfold strobeLoops
  repeat' (first 
    | (with_reducible assumption) | (with_reducible apply kept_getD) | (with_reducible apply keep_modEng) 
    | (with_reducible apply keep_modServo) | (with_reducible apply keep_boundary) | (with_reducible apply keep_countSat) 
    | (with_reducible apply keep_strobeArbiter) | (with_reducible apply keep_supShow) | (with_reducible apply keep_syncCtl) 
    | (with_reducible apply keep_torqueOut) | (intro _) | (split) | (dsimp only) | (contradiction))

theorem keep_strobeJudge (n : Ch) (s : State) (kq : Kept qq s) : Kept qq (strobeJudge n s) := by
  unfold strobeJudge
  repeat' (first 
    | (with_reducible assumption) | (with_reducible apply keep_depthStrobe) | (with_reducible apply keep_runReached) 
    | (with_reducible apply keep_tolStrobe) | (with_reducible apply kept_each) | (intro _) | (split) | (dsimp only) 
    | (contradiction))

theorem keep_freshLane (n : Ch) (s : State) (kq : Kept qq s) : Kept qq (freshLane n s) := by
  unfold freshLane
  repeat' (first 
    | (with_reducible assumption) | (with_reducible apply keep_modEngs) | (with_reducible apply keep_modMot) 
    | (with_reducible apply keep_set) | (intro _) | (split) | (dsimp only) | (contradiction))

theorem keep_strobeInputs (n : Ch) (o : StrobeObs) (s : State) (kq : Kept qq s) : Kept qq (strobeInputs n o s).2 := by
  unfold strobeInputs
  repeat' (first 
    | (with_reducible assumption) | (with_reducible apply keep_phaseInput) | (intro _) | (split) | (dsimp only) | (contradiction))

theorem keep_strobeWork (n : Ch) (o : StrobeObs) (u : List Int) (s : State) (kq : Kept qq s) : Kept qq (strobeWork n o u s) := by
  unfold strobeWork
  repeat' (first 
    | (with_reducible assumption) | (with_reducible apply keep_strobeArbiter) | (with_reducible apply keep_strobeLoops) 
    | (intro _) | (split) | (dsimp only) | (contradiction))

theorem keep_strobe (n : Ch) (o : StrobeObs) (s : State) (kq : Kept qq s) : Kept qq (strobe n o s) := by
  unfold strobe
  extract_lets t1 t2 i
  have h1 : Kept qq t1 := keep_beginRecovery _ _ (keep_finishTakeBack _ _ kq)
  clear_value t1
  have h2 : Kept qq t2 := kept_ite (fun _ => keep_freshLane _ _ (keep_strobeJudge _ _ h1)) (fun _ => keep_freshLane _ _ h1)
  clear_value t2
  have h3 : Kept qq i.2 := by
    show Kept qq (if motIn n [stAccel, stRun] s then strobeInputs n o t2 else ([0, 0, 0, 0], t2)).2
    split
    · exact keep_strobeInputs _ _ _ h2
    · exact h2
  exact keep_hingePost _ _ _ _ (keep_strobeWork _ _ _ _ h3)

theorem keep_acquired (n : Ch) (pos : Int) (s : State) (kq : Kept qq s) : Kept qq (acquired n pos s) := by
  unfold acquired
  repeat' (first 
    | (with_reducible assumption) | (with_reducible apply kept_getD) | (with_reducible apply keep_each) 
    | (with_reducible apply keep_modEngs) | (with_reducible apply keep_modMot) | (with_reducible apply keep_modServo) 
    | (with_reducible apply keep_set) | (with_reducible apply keep_setFlag) | (with_reducible apply keep_selectHead) 
    | (with_reducible apply keep_track) | (with_reducible apply kept_each) | (intro _) | (split) | (dsimp only) | (contradiction))

theorem keep_loadTimeout (n : Ch) (s : State) (kq : Kept qq s) : Kept qq (loadTimeout n s) := by
  unfold loadTimeout
  repeat' (first 
    | (with_reducible assumption) | (with_reducible apply keep_modServo) | (with_reducible apply keep_raise) 
    | (with_reducible apply keep_startRetract) | (intro _) | (split) | (dsimp only) | (contradiction))

theorem keep_shockEvent (n : Ch) (s : State) (kq : Kept qq s) : Kept qq (shockEvent n s) := by
  unfold shockEvent
  repeat' (first 
    | (with_reducible assumption) | (with_reducible apply keep_inc) | (with_reducible apply keep_modServo) 
    | (with_reducible apply keep_parkAll) | (intro _) | (split) | (dsimp only) | (contradiction))

theorem keep_idleTick (n : Ch) (aOk bOk : Bool) (s : State) (kq : Kept qq s) : Kept qq (idleTick n aOk bOk s) := by
  unfold idleTick
  repeat' (first 
    | (with_reducible assumption) | (with_reducible apply keep_modEngs) | (with_reducible apply keep_beginRecovery) 
    | (with_reducible apply keep_finishTakeBack) | (with_reducible apply keep_latchCause) | (with_reducible apply keep_linkIdle) 
    | (with_reducible apply keep_otherCheck) | (with_reducible apply keep_sendFrame) | (intro _) | (split) | (dsimp only) 
    | (contradiction))

theorem keep_takeBackEvent (n : Ch) (cls : Pa) (s : State) (kq : Kept qq s) : Kept qq (takeBackEvent n cls s) := by
  unfold takeBackEvent
  repeat' (first 
    | (with_reducible assumption) | (with_reducible apply keep_modHinge) | (with_reducible apply keep_finishTakeBack) 
    | (with_reducible apply keep_linkIdle) | (with_reducible apply keep_sendFrame) | (with_reducible apply keep_switchOver) 
    | (intro _) | (split) | (dsimp only) | (contradiction))

end Sys2Proof.Machine
end

