-- ==== Sys2Proof/Laws/KeepLadder.lean ====
section
/-! SUPPORT. The operations of Machine/Ladder.lean leave the queue as it is and keep the stores canonical. -/

namespace Sys2Proof.Machine

set_option linter.unusedTactic false
set_option linter.unreachableTactic false

variable {qq : List Instr}

theorem keep_keepBlock (b : Block) (s : State) (w : Nat) (t : State) (e : (keepBlock b s) = some (w, t)) (kq : Kept qq s) : Kept qq t := by
  unfold keepBlock at e
  try dsimp only at e
  repeat' (first | (contradiction) | (split at e) | (cases e))
  all_goals repeat' (first 
    | (with_reducible assumption) | (with_reducible apply keep_putUnit) | (intro _) 
    | (with_reducible refine keep_tryAlloc _ _ _ _ _ _ (by assumption) ?_) | (split) | (dsimp only))

theorem keep_modLast (n : Ch) (f : Item → Item) (s : State) (kq : Kept qq s) : Kept qq (modLast n f s) := by
  unfold modLast
  repeat' (first 
    | (with_reducible assumption) | (with_reducible apply keep_modSched) | (intro _) | (split) | (dsimp only) | (contradiction))

theorem keep_placeRewrite (n : Ch) (r : Rewrite) (s : State) (kq : Kept qq s) : Kept qq (placeRewrite n r s) := by
  unfold placeRewrite
  repeat' (first 
    | (with_reducible assumption) | (with_reducible apply keep_modSched) | (with_reducible apply keep_modLast) 
    | (with_reducible apply keep_placeSig) | (intro _) | (with_reducible refine keep_keepBlock _ _ _ _ (by assumption) ?_) 
    | (split) | (dsimp only) | (contradiction))

theorem keep_rewriteSector (n : Ch) (pos : SlotId) (lb : Option (Nat × Nat)) (b : Block) (s : State) (kq : Kept qq s) : Kept qq (rewriteSector n pos lb b s) := by
  unfold rewriteSector
  repeat' (first 
    | (with_reducible assumption) | (with_reducible apply keep_placeRewrite) | (intro _) | (split) | (dsimp only) 
    | (contradiction))

theorem keep_pumpRewrites (s : State) (kq : Kept qq s) : Kept qq (pumpRewrites s) := by
  unfold pumpRewrites
  repeat' (first 
    | (with_reducible assumption) | (with_reducible apply keep_each) | (with_reducible apply keep_modSched) 
    | (with_reducible apply keep_placeRewrite) | (with_reducible apply kept_each) | (intro _) | (split) | (dsimp only) 
    | (contradiction))

theorem keep_modLadder (n : Ch) (pos : SlotId) (f : Ladder → Ladder) (s : State) (kq : Kept qq s) : Kept qq (modLadder n pos f s) := by
  unfold modLadder
  repeat' (first 
    | (with_reducible assumption) | (with_reducible apply keep_modSched) | (intro _) | (split) | (dsimp only) | (contradiction))

theorem keep_failAttached (n : Ch) (l : Ladder) (s : State) (kq : Kept qq s) : Kept qq (failAttached n l s) := by
  unfold failAttached
  repeat' (first 
    | (with_reducible assumption) | (with_reducible apply keep_each) | (with_reducible apply keep_failRead) 
    | (with_reducible apply keep_ladderSync) | (with_reducible apply keep_modLadder) | (with_reducible apply kept_each) 
    | (intro _) | (split) | (dsimp only) | (contradiction))

theorem keep_endReport (l : Ladder) (s : State) (kq : Kept qq s) : Kept qq (endReport l s) := by
  unfold endReport
  repeat' (first 
    | (with_reducible assumption) | (intro _) | (split) | (dsimp only) | (contradiction))

theorem keep_sectorUnrec (n : Ch) (l : Ladder) (s : State) (kq : Kept qq s) : Kept qq (sectorUnrec n l s) := by
  unfold sectorUnrec
  repeat' (first 
    | (with_reducible assumption) | (with_reducible apply kept_getD) | (with_reducible apply keep_errUnread) 
    | (with_reducible apply keep_modSched) | (with_reducible apply keep_record) | (intro _) | (split) | (dsimp only) 
    | (contradiction))

theorem keep_ladderEnd (n : Ch) (l : Ladder) (s : State) (kq : Kept qq s) : Kept qq (ladderEnd n l s) := by
  unfold ladderEnd
  repeat' (first 
    | (with_reducible assumption) | (with_reducible apply keep_dropLadder) | (with_reducible apply keep_endReport) 
    | (with_reducible apply keep_failAttached) | (with_reducible apply keep_noteResult) | (with_reducible apply keep_sectorUnrec) 
    | (intro _) | (split) | (dsimp only) | (contradiction))

theorem keep_issueReread (n : Ch) (l : Ladder) (s : State) (kq : Kept qq s) : Kept qq (issueReread n l s) := by
  unfold issueReread
  repeat' (first 
    | (with_reducible assumption) | (with_reducible apply keep_modLadder) | (with_reducible apply keep_placeSig) | (intro _) 
    | (split) | (dsimp only) | (contradiction))

theorem keep_ladderSettle (n : Ch) (pos : SlotId) (y0 : Nat) (y1 : State) (kq : Kept qq y1) : Kept qq (ladderSettle n pos y0 y1) := by
  induction y0 generalizing y1 n pos with
  | zero =>
    unfold ladderSettle
    repeat' (first 
    | (with_reducible assumption) | (with_reducible apply keep_cancelLadder) | (with_reducible apply keep_failAttached) 
    | (with_reducible apply keep_issueReread) | (with_reducible apply keep_ladderEnd) | (with_reducible apply keep_ladderSync) 
    | (with_reducible apply keep_modLadder) | (intro _) | (split) | (dsimp only) | (contradiction))
  | succ k ih =>
    unfold ladderSettle
    repeat' (first 
    | (with_reducible assumption) | (with_reducible apply ih) | (with_reducible apply keep_cancelLadder) 
    | (with_reducible apply keep_failAttached) | (with_reducible apply keep_issueReread) | (with_reducible apply keep_ladderEnd) 
    | (with_reducible apply keep_ladderSync) | (with_reducible apply keep_modLadder) | (intro _) | (split) | (dsimp only) 
    | (contradiction))

theorem keep_beginStep (n : Ch) (l : Ladder) (s : State) (kq : Kept qq s) : Kept qq (beginStep n l s) := by
  unfold beginStep
  repeat' (first 
    | (with_reducible assumption) | (with_reducible apply keep_modLadder) | (intro _) | (split) | (dsimp only) | (contradiction))

theorem keep_beginSteps (n : Ch) (s : State) (kq : Kept qq s) : Kept qq (beginSteps n s) := by
  unfold beginSteps
  repeat' (first 
    | (with_reducible assumption) | (with_reducible apply keep_each) | (with_reducible apply keep_beginStep) 
    | (with_reducible apply kept_each) | (intro _) | (split) | (dsimp only) | (contradiction))

theorem keep_beginReread (n : Ch) (d : Desc) (s : State) (kq : Kept qq s) : Kept qq (beginReread n d s) := by
  unfold beginReread
  repeat' (first 
    | (with_reducible assumption) | (with_reducible apply keep_beginStep) | (intro _) | (split) | (dsimp only) | (contradiction))

theorem keep_resettle (n : Ch) (s : State) (kq : Kept qq s) : Kept qq (resettle n s) := by
  unfold resettle
  repeat' (first 
    | (with_reducible assumption) | (with_reducible apply keep_each) | (with_reducible apply keep_modSched) 
    | (with_reducible apply keep_beginSteps) | (with_reducible apply keep_ladderSettle) | (with_reducible apply kept_each) 
    | (intro _) | (split) | (dsimp only) | (contradiction))

theorem keep_readAgain (n : Ch) (p : Pa) (d : Desc) (cmds : List Nat) (lb : Option (Nat × Nat)) (s : State) (kq : Kept qq s) : Kept qq (readAgain n p d cmds lb s) := by
  unfold readAgain
  repeat' (first 
    | (with_reducible assumption) | (with_reducible apply keep_placeSig) | (intro _) | (split) | (dsimp only) | (contradiction))

theorem keep_startLadder (n : Ch) (p : Pa) (d : Desc) (cmds : List Nat) (lb : Option (Nat × Nat)) (kept : Option SampleBuf) (s : State) (kq : Kept qq s) : Kept qq (startLadder n p d cmds lb kept s) := by
  unfold startLadder
  repeat' (first 
    | (with_reducible assumption) | (with_reducible apply keep_each) | (with_reducible apply keep_modCmd) 
    | (with_reducible apply keep_modSched) | (with_reducible apply keep_set) | (with_reducible apply keep_when) 
    | (with_reducible apply keep_beginSteps) | (with_reducible apply keep_ladderSettle) | (with_reducible apply keep_ladderSync) 
    | (with_reducible apply keep_modLadder) | (with_reducible apply keep_readAgain) | (with_reducible apply keep_unpinBuffer) 
    | (with_reducible apply kept_each) | (with_reducible apply kept_when) | (intro _) | (split) | (dsimp only) | (contradiction))

theorem keep_reportGath (lb : Option (Nat × Nat)) (hdl : Nat) (cmds : List Nat) (s : State) (kq : Kept qq s) : Kept qq (reportGath lb hdl cmds s) := by
  unfold reportGath
  repeat' (first 
    | (with_reducible assumption) | (intro _) | (split) | (dsimp only) | (contradiction))

theorem keep_ladderGood (n : Ch) (l : Ladder) (flags : Nat) (b : Block) (s : State) (kq : Kept qq s) : Kept qq (ladderGood n l flags b s) := by
  unfold ladderGood
  repeat' (first 
    | (with_reducible assumption) | (with_reducible apply keep_each) | (with_reducible apply keep_beginSteps) 
    | (with_reducible apply keep_deliverTo) | (with_reducible apply keep_dropLadder) | (with_reducible apply keep_endItem) 
    | (with_reducible apply keep_endReport) | (with_reducible apply keep_noteResult) | (with_reducible apply keep_rewriteSector) 
    | (with_reducible apply kept_each) | (intro _) | (split) | (dsimp only) | (contradiction))

theorem keep_ladderFail (n : Ch) (l : Ladder) (s : State) (kq : Kept qq s) : Kept qq (ladderFail n l s) := by
  unfold ladderFail
  repeat' (first 
    | (with_reducible assumption) | (with_reducible apply keep_beginSteps) | (with_reducible apply keep_ladderSettle) 
    | (with_reducible apply keep_modLadder) | (intro _) | (split) | (dsimp only) | (contradiction))

theorem keep_clearBad (n : Ch) (l : Ladder) (s : State) (kq : Kept qq s) : Kept qq (clearBad n l s) := by
  unfold clearBad
  repeat' (first 
    | (with_reducible assumption) | (with_reducible apply keep_modLadder) | (intro _) | (split) | (dsimp only) | (contradiction))

theorem keep_ladderDecode (n : Ch) (i op : Nat) (s : State) (kq : Kept qq s) : Kept qq (ladderDecode n i op s) := by
  unfold ladderDecode
  repeat' (first 
    | (with_reducible assumption) | (with_reducible apply keep_clearBad) | (with_reducible apply keep_ladderFail) 
    | (with_reducible apply keep_ladderGood) | (with_reducible apply keep_noteResult) | (intro _) | (split) | (dsimp only) 
    | (contradiction))

theorem keep_ladderSlip (n : Ch) (i op : Nat) (s : State) (kq : Kept qq s) : Kept qq (ladderSlip n i op s) := by
  unfold ladderSlip
  repeat' (first 
    | (with_reducible assumption) | (with_reducible apply keep_inc) | (with_reducible apply keep_clearBad) 
    | (with_reducible apply keep_converged) | (with_reducible apply keep_ladderFail) | (with_reducible apply keep_ladderGood) 
    | (with_reducible apply keep_noteResult) | (intro _) | (split) | (dsimp only) | (contradiction))

theorem keep_adaptCoefs (n : Ch) (p : Pa) (c : DetCfg) (es : List (Int × Int)) (o : DecodeObs) (s : State) (kq : Kept qq s) : Kept qq (adaptCoefs n p c es o s) := by
  unfold adaptCoefs
  repeat' (first 
    | (with_reducible assumption) | (with_reducible apply keep_each) | (with_reducible apply keep_loadRws) 
    | (with_reducible apply kept_each) | (intro _) | (split) | (dsimp only) | (contradiction))

theorem keep_saveCoefs (n : Ch) (p : Pa) (h z : Nat) (s : State) (kq : Kept qq s) : Kept qq (saveCoefs n p h z s) := by
  unfold saveCoefs
  repeat' (first 
    | (with_reducible assumption) | (with_reducible apply keep_modChan) | (intro _) | (split) | (dsimp only) | (contradiction))

theorem keep_sectorStatus (n : Ch) (p : Pa) (c : DetCfg) (b : SampleBuf) (o : DecodeObs) (s : State) (kq : Kept qq s) : Kept qq (sectorStatus n p c b o s) := by
  unfold sectorStatus
  repeat' (first 
    | (with_reducible assumption) | (with_reducible apply keep_event) | (with_reducible apply keep_modStit) 
    | (with_reducible apply keep_set) | (with_reducible apply keep_when) | (with_reducible apply keep_adaptCoefs) 
    | (with_reducible apply keep_converged) | (with_reducible apply keep_saveCoefs) | (with_reducible apply kept_when) 
    | (intro _) | (split) | (dsimp only) | (contradiction))

theorem keep_captureResult (n : Ch) (p : Pa) (b : SampleBuf) (word : Nat) (s : State) (kq : Kept qq s) : Kept qq (captureResult n p b word s) := by
  unfold captureResult
  repeat' (first 
    | (with_reducible assumption) | (with_reducible apply keep_noteResult) | (with_reducible apply keep_showResult) | (intro _) 
    | (split) | (dsimp only) | (contradiction))

theorem keep_captureEnd (n : Ch) (p : Pa) (b : SampleBuf) (i : Item) (o : DecodeObs) (s : State) (kq : Kept qq s) : Kept qq (captureEnd n p b i o s) := by
  unfold captureEnd
  repeat' (first 
    | (with_reducible assumption) | (with_reducible apply keep_inc) | (with_reducible apply keep_captureResult) 
    | (with_reducible apply keep_freeBuffer) | (with_reducible apply keep_pinBuffer) | (with_reducible apply keep_putUnit) 
    | (with_reducible apply keep_reportGath) | (with_reducible apply keep_rewriteSector) 
    | (with_reducible apply keep_startLadder) | (intro _) | (split) | (dsimp only) | (contradiction))

theorem keep_verifyEnd (n : Ch) (p : Pa) (b : SampleBuf) (i : Item) (o : DecodeObs) (s : State) (kq : Kept qq s) : Kept qq (verifyEnd n p b i o s) := by
  unfold verifyEnd
  repeat' (first 
    | (with_reducible assumption) | (with_reducible apply keep_captureResult) | (with_reducible apply keep_freeBuffer) 
    | (intro _) | (split) | (dsimp only) | (contradiction))

theorem keep_firstPass (n : Ch) (p : Pa) (s : State) (kq : Kept qq s) : Kept qq (firstPass n p s) := by
  unfold firstPass
  repeat' (first 
    | (with_reducible assumption) | (with_reducible apply keep_modPath) | (with_reducible apply keep_captureEnd) 
    | (with_reducible apply keep_captureResult) | (with_reducible apply keep_freeBuffer) 
    | (with_reducible apply keep_sectorStatus) | (with_reducible apply keep_verifyEnd) | (intro _) | (split) | (dsimp only) 
    | (contradiction))

theorem keep_reread (n : Ch) (i : Nat) (s : State) (kq : Kept qq s) : Kept qq (reread n i s) := by
  unfold reread
  repeat' (first 
    | (with_reducible assumption) | (with_reducible apply keep_modPath) | (with_reducible apply keep_captureResult) 
    | (with_reducible apply keep_freeBuffer) | (with_reducible apply keep_ladderFail) | (with_reducible apply keep_ladderGood) 
    | (with_reducible apply keep_modLadder) | (with_reducible apply keep_pinBuffer) | (with_reducible apply keep_sectorStatus) 
    | (intro _) | (split) | (dsimp only) | (contradiction))

theorem keep_deadline (k : Nat) (s : State) (kq : Kept qq s) : Kept qq (deadline k s) := by
  unfold deadline
  repeat' (first 
    | (with_reducible assumption) | (with_reducible apply keep_failRead) | (intro _) | (split) | (dsimp only) | (contradiction))

end Sys2Proof.Machine
end

