-- ==== Sys2Proof/Laws/KeepSched.lean ====
section
/-! SUPPORT. The operations of Machine/Sched.lean leave the queue as it is and keep the stores canonical. -/

namespace Sys2Proof.Machine

set_option linter.unusedTactic false
set_option linter.unreachableTactic false

variable {qq : List Instr}

theorem keep_itemEnded (i : Item) (s : State) (kq : Kept qq s) : Kept qq (itemEnded i s) := by
  unfold itemEnded
  repeat' (first 
    | (with_reducible assumption) | (with_reducible apply keep_each) | (with_reducible apply keep_endItem) 
    | (with_reducible apply keep_updateItem) | (with_reducible apply kept_each) | (intro _) | (split) | (dsimp only) 
    | (contradiction))

theorem keep_moreItems (i : Item) (d : Nat) (s : State) (kq : Kept qq s) : Kept qq (moreItems i d s) := by
  unfold moreItems
  repeat' (first 
    | (with_reducible assumption) | (with_reducible apply keep_modLayout) | (with_reducible apply keep_addItems) | (intro _) 
    | (split) | (dsimp only) | (contradiction))

theorem keep_spliceItem (n : Ch) (tag : W16) (is : List Item) (s : State) (kq : Kept qq s) : Kept qq (spliceItem n tag is s) := by
  unfold spliceItem
  repeat' (first 
    | (with_reducible assumption) | (with_reducible apply keep_modSched) | (intro _) | (split) | (dsimp only) | (contradiction))

theorem keep_removeItem (n : Ch) (i : Item) (s : State) (kq : Kept qq s) : Kept qq (removeItem n i s) := by
  unfold removeItem
  repeat' (first 
    | (with_reducible assumption) | (with_reducible apply keep_spliceItem) | (intro _) | (split) | (dsimp only) | (contradiction))

theorem keep_followItem (n : Ch) (i : Item) (is : List Item) (s : State) (kq : Kept qq s) : Kept qq (followItem n i is s) := by
  unfold followItem
  repeat' (first 
    | (with_reducible assumption) | (with_reducible apply keep_itemEnded) | (with_reducible apply keep_moreItems) 
    | (with_reducible apply keep_spliceItem) | (intro _) | (split) | (dsimp only) | (contradiction))

theorem keep_newTag (n : Ch) (s : State) (kq : Kept qq s) : Kept qq (newTag n s).2 := by
  unfold newTag
  repeat' (first 
    | (with_reducible assumption) | (with_reducible apply keep_modSched) | (intro _) | (split) | (dsimp only) | (contradiction))

theorem keep_specDrop (n : Ch) (i : Item) (s : State) (kq : Kept qq s) : Kept qq (specDrop n i s) := by
  unfold specDrop
  repeat' (first 
    | (with_reducible assumption) | (with_reducible apply keep_each) | (with_reducible apply keep_dropBuf) 
    | (with_reducible apply keep_dropFill) | (with_reducible apply keep_removeItem) | (with_reducible apply keep_specWake) 
    | (with_reducible apply kept_each) | (intro _) | (split) | (dsimp only) | (contradiction))

theorem keep_rebuildItem (n : Ch) (i : Item) (s : State) (kq : Kept qq s) : Kept qq (rebuildItem n i s) := by
  unfold rebuildItem
  repeat' (first 
    | (with_reducible assumption) | (with_reducible apply keep_modSched) | (with_reducible apply keep_followItem) 
    | (with_reducible apply keep_placeRun) | (intro _) | (split) | (dsimp only) | (contradiction))

theorem keep_rejectDesc (n : Ch) (i : Item) (r : Nat) (s : State) (kq : Kept qq s) : Kept qq (rejectDesc n i r s) := by
  unfold rejectDesc
  repeat' (first 
    | (with_reducible assumption) | (with_reducible apply keep_each) | (with_reducible apply keep_inc) 
    | (with_reducible apply keep_raise) | (with_reducible apply keep_set) | (with_reducible apply keep_failCmd) 
    | (with_reducible apply keep_itemEnded) | (with_reducible apply keep_ladderFail) | (with_reducible apply keep_ladderSettle) 
    | (with_reducible apply keep_rebuildItem) | (with_reducible apply keep_removeItem) | (with_reducible apply keep_specDrop) 
    | (with_reducible apply kept_each) | (intro _) | (split) | (dsimp only) | (contradiction))

theorem keep_writeFail (n : Ch) (i : Item) (ps : List Pa) (quiet : Bool) (s : State) (kq : Kept qq s) : Kept qq (writeFail n i ps quiet s) := by
  unfold writeFail
  repeat' (first 
    | (with_reducible assumption) | (with_reducible apply keep_each) | (with_reducible apply keep_modHost) 
    | (with_reducible apply keep_raise) | (with_reducible apply keep_dropBuf) | (with_reducible apply keep_failCmd) 
    | (with_reducible apply keep_hostWrite) | (with_reducible apply keep_moreItems) | (with_reducible apply kept_each) 
    | (intro _) | (split) | (dsimp only) | (contradiction))

theorem keep_placeScan (n : Ch) (h : Nat) (s : State) (kq : Kept qq s) : Kept qq (placeScan n h s) := by
  unfold placeScan
  repeat' (first 
    | (with_reducible assumption) | (with_reducible apply keep_modSched) | (with_reducible apply keep_set) | (intro _) 
    | (with_reducible refine keep_tryAlloc _ _ _ _ _ _ (by assumption) ?_) | (split) | (dsimp only) | (contradiction))

theorem keep_learnHeads (n : Ch) (d : Desc) (s : State) (kq : Kept qq s) : Kept qq (learnHeads n d s) := by
  unfold learnHeads
  repeat' (first 
    | (with_reducible assumption) | (with_reducible apply keep_each) | (with_reducible apply keep_placeScan) 
    | (with_reducible apply kept_each) | (intro _) | (split) | (dsimp only) | (contradiction))

theorem keep_beginLearn (n : Ch) (d : Desc) (s : State) (kq : Kept qq s) : Kept qq (beginLearn n d s) := by
  unfold beginLearn
  repeat' (first 
    | (with_reducible assumption) | (with_reducible apply keep_each) | (with_reducible apply keep_learnStart) 
    | (with_reducible apply keep_selectHead) | (with_reducible apply kept_each) | (intro _) | (split) | (dsimp only) 
    | (contradiction))

theorem keep_scanItemEnd (n : Ch) (i : Item) (s : State) (kq : Kept qq s) : Kept qq (scanItemEnd n i s) := by
  unfold scanItemEnd
  repeat' (first 
    | (with_reducible assumption) | (with_reducible apply keep_each) | (with_reducible apply keep_dropBuf) 
    | (with_reducible apply keep_placeScan) | (with_reducible apply kept_each) | (intro _) | (split) | (dsimp only) 
    | (contradiction))

theorem keep_launch (n : Ch) (i : Item) (s : State) (kq : Kept qq s) : Kept qq (launch n i s) := by
  unfold launch
  repeat' (first 
    | (with_reducible assumption) | (with_reducible apply keep_each) | (with_reducible apply keep_inc) 
    | (with_reducible apply keep_modSched) | (with_reducible apply keep_beginLearn) | (with_reducible apply keep_beginReread) 
    | (with_reducible apply keep_handDesc) | (with_reducible apply keep_startSeek) | (with_reducible apply kept_each) | (intro _) 
    | (split) | (dsimp only) | (contradiction))

theorem keep_choose (n : Ch) (i : Item) (s : State) (kq : Kept qq s) : Kept qq (choose n i s) := by
  unfold choose
  repeat' (first 
    | (with_reducible assumption) | (with_reducible apply keep_modSched) | (with_reducible apply keep_launch) | (intro _) 
    | (split) | (dsimp only) | (contradiction))

theorem keep_launchNext (n : Ch) (s : State) (kq : Kept qq s) : Kept qq (launchNext n s) := by
  unfold launchNext
  repeat' (first 
    | (with_reducible assumption) | (with_reducible apply keep_launch) | (intro _) | (split) | (dsimp only) | (contradiction))

theorem keep_schedTake (n : Ch) (i : Nat) (s : State) (kq : Kept qq s) : Kept qq (schedTake n i s) := by
  unfold schedTake
  repeat' (first 
    | (with_reducible assumption) | (with_reducible apply keep_choose) | (with_reducible apply keep_followItem) 
    | (with_reducible apply keep_hostWrite) | (with_reducible apply keep_launchNext) | (with_reducible apply keep_learnHeads) 
    | (with_reducible apply keep_rejectDesc) | (with_reducible apply keep_writeFail) | (intro _) | (split) | (dsimp only) 
    | (contradiction))

theorem keep_adjacentChecks (n : Ch) (i : Item) (p : Pa) (s : State) (kq : Kept qq s) : Kept qq (adjacentChecks n i p s) := by
  unfold adjacentChecks
  repeat' (first 
    | (with_reducible assumption) | (with_reducible apply keep_each) | (with_reducible apply keep_placeSig) 
    | (with_reducible apply keep_track) | (with_reducible apply kept_each) | (intro _) | (split) | (dsimp only) | (contradiction))

theorem keep_writeItemEnd (n : Ch) (i : Item) (s : State) (kq : Kept qq s) : Kept qq (writeItemEnd n i s) := by
  unfold writeItemEnd
  repeat' (first 
    | (with_reducible assumption) | (with_reducible apply keep_each) | (with_reducible apply keep_dropBuf) 
    | (with_reducible apply keep_followItem) | (with_reducible apply keep_hostWrite) | (with_reducible apply keep_newTag) 
    | (with_reducible apply keep_writeFail) | (with_reducible apply kept_each) | (with_reducible apply kept_foldl) 
    | (with_reducible apply kept_foldl_snd) | (intro _) | (split) | (dsimp only) | (contradiction))

theorem keep_relocateSector (n : Ch) (i : Item) (p : Pa) (s : State) (kq : Kept qq s) : Kept qq (relocateSector n i p s) := by
  unfold relocateSector
  repeat' (first 
    | (with_reducible assumption) | (with_reducible apply keep_modLast) | (with_reducible apply keep_moreItems) 
    | (with_reducible apply keep_placeSig) | (with_reducible apply keep_relocate) | (with_reducible apply keep_writeFail) 
    | (intro _) | (split) | (dsimp only) | (contradiction))

theorem keep_squeezeChecks (n : Ch) (i : Item) (s : State) (kq : Kept qq s) : Kept qq (squeezeChecks n i s) := by
  unfold squeezeChecks
  repeat' (first 
    | (with_reducible assumption) | (with_reducible apply keep_each) | (with_reducible apply keep_modPath) 
    | (with_reducible apply keep_adjacentChecks) | (with_reducible apply kept_each) | (intro _) | (split) | (dsimp only) 
    | (contradiction))

theorem keep_verifyItemEnd (n : Ch) (i : Item) (s : State) (kq : Kept qq s) : Kept qq (verifyItemEnd n i s) := by
  unfold verifyItemEnd
  repeat' (first 
    | (with_reducible assumption) | (with_reducible apply keep_each) | (with_reducible apply keep_inc) 
    | (with_reducible apply keep_set) | (with_reducible apply keep_dropBuf) | (with_reducible apply keep_followItem) 
    | (with_reducible apply keep_newTag) | (with_reducible apply keep_placeSig) | (with_reducible apply keep_relocateSector) 
    | (with_reducible apply kept_each) | (with_reducible apply kept_foldl) | (with_reducible apply kept_foldl_snd) | (intro _) 
    | (split) | (dsimp only) | (contradiction))

theorem keep_readItemEnd (n : Ch) (i : Item) (s : State) (kq : Kept qq s) : Kept qq (readItemEnd n i s) := by
  unfold readItemEnd
  repeat' (first 
    | (with_reducible assumption) | (with_reducible apply keep_each) | (with_reducible apply keep_dropBuf) 
    | (with_reducible apply keep_followItem) | (with_reducible apply keep_ladderFail) | (with_reducible apply keep_removeItem) 
    | (with_reducible apply keep_reportGath) | (with_reducible apply keep_startLadder) | (with_reducible apply kept_each) 
    | (intro _) | (split) | (dsimp only) | (contradiction))

theorem keep_frontDown (n : Ch) (i : Item) (s : State) (kq : Kept qq s) : Kept qq (frontDown n i s) := by
  unfold frontDown
  repeat' (first 
    | (with_reducible assumption) | (with_reducible apply keep_each) | (with_reducible apply keep_modPath) 
    | (with_reducible apply kept_each) | (intro _) | (split) | (dsimp only) | (contradiction))

theorem keep_itemFinish (n : Ch) (tag : W16) (s : State) (kq : Kept qq s) : Kept qq (itemFinish n tag s) := by
  unfold itemFinish
  repeat' (first 
    | (with_reducible assumption) | (with_reducible apply keep_beginSteps) | (with_reducible apply keep_frontDown) 
    | (with_reducible apply keep_hostWrite) | (with_reducible apply keep_launchNext) | (with_reducible apply keep_readItemEnd) 
    | (with_reducible apply keep_removeItem) | (with_reducible apply keep_scanItemEnd) | (with_reducible apply keep_specDrop) 
    | (with_reducible apply keep_spliceItem) | (with_reducible apply keep_squeezeChecks) 
    | (with_reducible apply keep_verifyItemEnd) | (with_reducible apply keep_writeItemEnd) | (intro _) | (split) | (dsimp only) 
    | (contradiction))

theorem keep_issueDesc (n : Ch) (ok : Nat → Bool) (d : Desc) (kind : ItemKind) (s : State) (kq : Kept qq s) : Kept qq (issueDesc n ok d kind s) := by
  unfold issueDesc
  repeat' (first 
    | (with_reducible assumption) | (with_reducible apply keep_modSched) | (intro _) | (split) | (dsimp only) | (contradiction))

theorem keep_specSeek (n : Ch) (target : Int) (s : State) (kq : Kept qq s) : Kept qq (specSeek n target s) := by
  unfold specSeek
  repeat' (first 
    | (with_reducible assumption) | (with_reducible apply keep_seekBegins) | (with_reducible apply keep_setTarget) | (intro _) 
    | (split) | (dsimp only) | (contradiction))

theorem keep_markMedia (n : Ch) (p : Pa) (s : State) (kq : Kept qq s) : Kept qq (markMedia n p s) := by
  unfold markMedia
  repeat' (first 
    | (with_reducible assumption) | (with_reducible apply keep_each) | (with_reducible apply keep_modCmd) 
    | (with_reducible apply kept_each) | (intro _) | (split) | (dsimp only) | (contradiction))

theorem keep_partBegins (n : Ch) (p : Pa) (inTime : Bool) (s : State) (kq : Kept qq s) : Kept qq (partBegins n p inTime s) := by
  unfold partBegins
  repeat' (first 
    | (with_reducible assumption) | (with_reducible apply keep_each) | (with_reducible apply keep_markMedia) 
    | (with_reducible apply keep_partFirst) | (with_reducible apply keep_takeShadow) | (with_reducible apply kept_each) 
    | (intro _) | (split) | (dsimp only) | (contradiction))

theorem keep_rawDelivered (n : Ch) (p : Pa) (o : Capture) (s : State) (kq : Kept qq s) : Kept qq (rawDelivered n p o s) := by
  unfold rawDelivered
  repeat' (first 
    | (with_reducible assumption) | (intro _) | (with_reducible apply kept_dram_run) | (split) | (dsimp only) | (contradiction))

theorem keep_writeData (n : Ch) (p : Pa) (last : Nat) (s : State) (kq : Kept qq s) : Kept qq (writeData n p last s) := by
  unfold writeData
  repeat' (first 
    | (with_reducible assumption) | (with_reducible apply keep_modPath) | (intro _) | (split) | (dsimp only) | (contradiction))

theorem keep_partEnds (n : Ch) (p : Pa) (last : Nat) (o : Capture) (s : State) (kq : Kept qq s) : Kept qq (partEnds n p last o s) := by
  unfold partEnds
  repeat' (first 
    | (with_reducible assumption) | (with_reducible apply keep_partLast) | (with_reducible apply keep_powerTrap) 
    | (with_reducible apply keep_rawDelivered) | (with_reducible apply keep_writeData) | (intro _) | (split) | (dsimp only) 
    | (contradiction))

theorem keep_readBack (h : Nat) (s : State) (kq : Kept qq s) : Kept qq (readBack h s) := by
  unfold readBack
  repeat' (first 
    | (with_reducible assumption) | (with_reducible apply keep_modHost) | (with_reducible apply keep_dropBuf) 
    | (with_reducible apply keep_putUnit) | (intro _) | (with_reducible refine keep_tryAlloc _ _ _ _ _ _ (by assumption) ?_) 
    | (split) | (dsimp only) | (contradiction))

theorem keep_fifoTake (n : Ch) (p : Pa) (v : FifoSec) (s : State) (kq : Kept qq s) : Kept qq (fifoTake n p v s) := by
  unfold fifoTake
  repeat' (first 
    | (with_reducible assumption) | (with_reducible apply keep_event) | (with_reducible apply keep_modPath) | (intro _) | (split) 
    | (dsimp only) | (contradiction))

theorem keep_fifoReady (n : Ch) (p : Pa) (memErr : Bool) (s : State) (kq : Kept qq s) : Kept qq (fifoReady n p memErr s) := by
  unfold fifoReady
  repeat' (first 
    | (with_reducible assumption) | (with_reducible apply keep_each) | (with_reducible apply keep_failCmd) 
    | (with_reducible apply keep_fifoTake) | (with_reducible apply keep_hostWrite) | (with_reducible apply keep_parkGate) 
    | (with_reducible apply keep_readBack) | (with_reducible apply kept_each) | (intro _) | (split) | (dsimp only) 
    | (contradiction))

theorem keep_preampFault (n : Ch) (head : Nat) (stat : W16) (s : State) (kq : Kept qq s) : Kept qq (preampFault n head stat s) := by
  unfold preampFault
  repeat' (first 
    | (with_reducible assumption) | (with_reducible apply keep_each) | (with_reducible apply keep_modChan) 
    | (with_reducible apply keep_modSched) | (with_reducible apply keep_modStit) | (with_reducible apply keep_raise) 
    | (with_reducible apply keep_set) | (with_reducible apply keep_setBit) | (with_reducible apply keep_parkAll) 
    | (with_reducible apply kept_each) | (intro _) | (split) | (dsimp only) | (contradiction))

theorem keep_preampDone (n : Ch) (p : Pa) (s : State) (kq : Kept qq s) : Kept qq (preampDone n p s) := by
  unfold preampDone
  repeat' (first 
    | (with_reducible assumption) | (with_reducible apply keep_event) | (with_reducible apply keep_modPath) | (intro _) | (split) 
    | (dsimp only) | (contradiction))

theorem keep_zoneReady (n : Ch) (p : Pa) (s : State) (kq : Kept qq s) : Kept qq (zoneReady n p s) := by
  unfold zoneReady
  repeat' (first 
    | (with_reducible assumption) | (with_reducible apply keep_event) | (with_reducible apply keep_modPath) | (intro _) | (split) 
    | (dsimp only) | (contradiction))

theorem keep_putStore (n : Ch) (k v : Nat) (s : State) (kq : Kept qq s) : Kept qq (putStore n k v s) := by
  unfold putStore
  repeat' (first 
    | (with_reducible assumption) | (with_reducible apply keep_set) | (with_reducible apply keep_setFlag) | (intro _) 
    | (with_reducible apply NatMap.set_wf) | (with_reducible apply NatMap.setRun_wf) | (with_reducible apply NatMap.setMany_wf) 
    | (with_reducible apply kept_pads) | (with_reducible apply kept_banks) | (with_reducible apply kept_store) 
    | (with_reducible exact NatMap.empty_wf) | (with_reducible apply NatMap.foldl_wf) | (split) | (dsimp only) | (contradiction))

theorem keep_haltWrite (path : RegPath) (n : Ch) (mask : BitVec 4) (s : State) (kq : Kept qq s) : Kept qq (haltWrite path n mask s) := by
  unfold haltWrite
  repeat' (first 
    | (with_reducible assumption) | (with_reducible apply keep_set) | (with_reducible apply keep_lockedWrite) | (intro _) 
    | (split) | (dsimp only) | (contradiction))

end Sys2Proof.Machine
end

