-- ==== Sys2Proof/Laws/KeepSetup.lean ====
section
/-! SUPPORT. The operations of Machine/Setup.lean leave the queue as it is and keep the stores canonical. -/

namespace Sys2Proof.Machine

set_option linter.unusedTactic false
set_option linter.unreachableTactic false

variable {qq : List Instr}

theorem keep_storeFields (open_ : Bool) (fs : List Fld) (v : Nat) (s : State) (kq : Kept qq s) : Kept qq (storeFields open_ fs v s) := by
  unfold storeFields
  repeat' (first 
    | (with_reducible assumption) | (with_reducible apply kept_getD) | (with_reducible apply keep_inc) 
    | (with_reducible apply keep_set) | (with_reducible apply keep_when) | (with_reducible apply kept_when) 
    | (with_reducible apply kept_foldl) | (with_reducible apply kept_foldl_snd) | (intro _) | (split) | (dsimp only) 
    | (contradiction))

theorem keep_storeReg (open_ : Bool) (a v : Nat) (s : State) (kq : Kept qq s) : Kept qq (storeReg open_ a v s) := by
  unfold storeReg
  repeat' (first 
    | (with_reducible assumption) | (with_reducible apply keep_dirWrite) | (with_reducible apply keep_flySync) 
    | (with_reducible apply keep_poolOn) | (with_reducible apply keep_poolSync) | (with_reducible apply keep_storeFields) 
    | (with_reducible apply keep_tagSelect) | (with_reducible apply keep_waylockWrite) | (intro _) | (split) | (dsimp only) 
    | (contradiction))

theorem keep_clearW1c (a v : Nat) (s : State) (kq : Kept qq s) : Kept qq (clearW1c a v s) := by
  unfold clearW1c
  repeat' (first 
    | (with_reducible assumption) | (with_reducible apply keep_each) | (with_reducible apply keep_set) 
    | (with_reducible apply kept_each) | (intro _) | (split) | (dsimp only) | (contradiction))

theorem keep_clearBits (a v : Nat) (s : State) (kq : Kept qq s) : Kept qq (clearBits a v s) := by
  unfold clearBits
  have h : ∀ lo hi, Kept qq (s.when (v.testBit 31) fun t => t.resetRegs lo hi) :=
    fun lo hi => kept_when _ _ _ (fun _ h => keep_resetRegs _ _ _ h) kq
  extract_lets all
  repeat' (first
    | (with_reducible assumption) | (exact h _ _) | (with_reducible apply kept_when) | (with_reducible apply keep_resetRegs) | (with_reducible apply keep_set) | (intro _) | (split))

theorem keep_plainWrite (open_ : Bool) (a v : Nat) (s : State) (kq : Kept qq s) : Kept qq (plainWrite open_ a v s) := by
  unfold plainWrite
  repeat' (first 
    | (with_reducible assumption) | (with_reducible apply keep_clearBits) | (with_reducible apply keep_clearW1c) 
    | (with_reducible apply keep_storeReg) | (intro _) | (split) | (dsimp only) | (contradiction))

theorem keep_applyProfile (act : Nat → Nat → State → State) (lo hi : Nat) (s : State) (hact : ∀ x0 x1 x2, Kept qq x2 → Kept qq (act x0 x1 x2)) (kq : Kept qq s) : Kept qq (applyProfile act lo hi s) := by
  unfold applyProfile
  repeat' (first 
    | (with_reducible assumption) | (with_reducible apply keep_each) | (with_reducible apply keep_plainWrite) 
    | (with_reducible apply kept_each) | (with_reducible apply hact) | (intro _) | (split) | (dsimp only) | (contradiction))

theorem keep_noAct (z0 z1 : Nat) (s : State) (kq : Kept qq s) : Kept qq (noAct z0 z1 s) := by
  unfold noAct
  repeat' (first 
    | (with_reducible assumption) | (intro _) | (split) | (dsimp only) | (contradiction))

theorem keep_applyBanks (n : Ch) (s : State) (kq : Kept qq s) : Kept qq (applyBanks n s) := by
  unfold applyBanks
  repeat' (first 
    | (with_reducible assumption) | (with_reducible apply kept_getD) | (with_reducible apply keep_set) 
    | (with_reducible apply kept_foldl) | (with_reducible apply kept_foldl_snd) | (intro _) 
    | (with_reducible apply NatMap.set_wf) | (with_reducible apply NatMap.setRun_wf) | (with_reducible apply NatMap.setMany_wf) 
    | (with_reducible apply kept_pads) | (with_reducible apply kept_banks) | (with_reducible apply kept_store) 
    | (with_reducible exact NatMap.empty_wf) | (with_reducible apply NatMap.foldl_wf) | (split) | (dsimp only) | (contradiction))

end Sys2Proof.Machine
end

