-- ==== Sys2Proof/Laws/KeepSram.lean ====
section
/-! SUPPORT. The operations of Machine/Sram.lean leave the queue as it is and keep the stores canonical. -/

namespace Sys2Proof.Machine

set_option linter.unusedTactic false
set_option linter.unreachableTactic false

variable {qq : List Instr}

theorem keep_modMem (s : State) (f : MemProt → MemProt) (kq : Kept qq s) : Kept qq (State.modMem s f) := by
  unfold State.modMem
  repeat' (first 
    | (with_reducible assumption) | (intro _) | (split) | (dsimp only) | (contradiction))

theorem keep_remapSync (s : State) (kq : Kept qq s) : Kept qq (remapSync s) := by
  unfold remapSync
  repeat' (first 
    | (with_reducible assumption) | (with_reducible apply keep_set) | (with_reducible apply keep_setFlag) 
    | (with_reducible apply keep_bist) | (intro _) | (split) | (dsimp only) | (contradiction))

theorem keep_memWrite (m word : Nat) (s : State) (kq : Kept qq s) : Kept qq (memWrite m word s) := by
  unfold memWrite
  repeat' (first 
    | (with_reducible assumption) | (with_reducible apply keep_modMem) | (with_reducible apply keep_setFlag) | (intro _) 
    | (split) | (dsimp only) | (contradiction))

theorem keep_sramCe (m word : Nat) (syn : Byte) (s : State) (kq : Kept qq s) : Kept qq (sramCe m word syn s) := by
  unfold sramCe
  repeat' (first 
    | (with_reducible assumption) | (with_reducible apply keep_inc) | (with_reducible apply keep_modMem) 
    | (with_reducible apply keep_raise) | (with_reducible apply keep_set) | (with_reducible apply keep_setFlag) | (intro _) 
    | (split) | (dsimp only) | (contradiction))

theorem keep_badFetch (n : Ch) (p : Pa) (s : State) (kq : Kept qq s) : Kept qq (badFetch n p s) := by
  unfold badFetch
  repeat' (first 
    | (with_reducible assumption) | (with_reducible apply keep_errTrap) | (with_reducible apply keep_stitchHalt) | (intro _) 
    | (split) | (dsimp only) | (contradiction))

theorem keep_storeUe (n : Ch) (word : Nat) (s : State) (kq : Kept qq s) : Kept qq (storeUe n word s) := by
  unfold storeUe
  repeat' (first 
    | (with_reducible assumption) | (with_reducible apply keep_each) | (with_reducible apply keep_badFetch) 
    | (with_reducible apply kept_each) | (intro _) | (split) | (dsimp only) | (contradiction))

theorem keep_ueNote (m : Nat) (s : State) (kq : Kept qq s) : Kept qq (ueNote m s) := by
  unfold ueNote
  repeat' (first 
    | (with_reducible assumption) | (with_reducible apply keep_inc) | (with_reducible apply keep_raise) 
    | (with_reducible apply keep_set) | (intro _) | (split) | (dsimp only) | (contradiction))

theorem keep_stepFetch (n : Ch) (p : Pa) (s : State) (kq : Kept qq s) : Kept qq (stepFetch n p s) := by
  unfold stepFetch
  repeat' (first 
    | (with_reducible assumption) | (with_reducible apply keep_used) | (with_reducible apply keep_badFetch) 
    | (with_reducible apply keep_sramCe) | (with_reducible apply keep_stitchCycle) | (with_reducible apply keep_ueNote) 
    | (with_reducible apply keep_wordMicro) | (intro _) | (split) | (dsimp only) | (contradiction))

theorem keep_takeTraps (n : Ch) (p : Pa) (y0 : Nat) (y1 : State) (kq : Kept qq y1) : Kept qq (takeTraps n p y0 y1) := by
  induction y0 generalizing y1 n p with
  | zero =>
    unfold takeTraps
    repeat' (first 
    | (with_reducible assumption) | (with_reducible apply keep_takeTrap) | (intro _) | (split) | (dsimp only) | (contradiction))
  | succ k ih =>
    unfold takeTraps
    repeat' (first 
    | (with_reducible assumption) | (with_reducible apply ih) | (with_reducible apply keep_takeTrap) | (intro _) | (split) 
    | (dsimp only) | (contradiction))

theorem keep_stepMask (n : Ch) (mask : Nat) (s : State) (kq : Kept qq s) : Kept qq (stepMask n mask s) := by
  unfold stepMask
  repeat' (first 
    | (with_reducible assumption) | (with_reducible apply keep_each) | (with_reducible apply keep_stepFetch) 
    | (with_reducible apply keep_takeTraps) | (with_reducible apply kept_each) | (intro _) | (split) | (dsimp only) 
    | (contradiction))

end Sys2Proof.Machine
end

