-- ==== Sys2Proof/Laws/KeepChanCtl.lean ====
section
/-! SUPPORT. The operations of Machine/ChanCtl.lean leave the queue as it is and keep the stores canonical. -/

namespace Sys2Proof.Machine

set_option linter.unusedTactic false
set_option linter.unreachableTactic false

variable {qq : List Instr}

theorem keep_solveSector (x : Sector) (ks : List Nat) (s : State) (kq : Kept qq s) : Kept qq (solveSector x ks s) := by
  unfold solveSector
  repeat' (first 
    | (with_reducible assumption) | (intro _) | (split) | (dsimp only) | (contradiction))

theorem keep_parkRead (n : Ch) (cmd : Nat) (kind : ItemKind) (ks : List Nat) (cls : Nat) (xs : List Sector) (s : State) (kq : Kept qq s) : Kept qq (parkRead n cmd kind ks cls xs s) := by
  unfold parkRead
  repeat' (first 
    | (with_reducible assumption) | (with_reducible apply keep_each) | (with_reducible apply keep_modHost) 
    | (with_reducible apply keep_addItems) | (with_reducible apply keep_endItem) | (with_reducible apply keep_failCmd) 
    | (with_reducible apply keep_solveSector) | (with_reducible apply kept_each) | (intro _) | (split) | (dsimp only) 
    | (contradiction))

theorem keep_staleItem (n : Ch) (x : Nat × Nat) (ks : List Nat) (s : State) (kq : Kept qq s) : Kept qq (staleItem n x ks s) := by
  unfold staleItem
  repeat' (first 
    | (with_reducible assumption) | (with_reducible apply keep_markStale) | (with_reducible apply keep_updateItem) | (intro _) 
    | (split) | (dsimp only) | (contradiction))

theorem keep_takeBackItem (n : Ch) (i : Item) (s : State) (kq : Kept qq s) : Kept qq (takeBackItem n i s) := by
  unfold takeBackItem
  repeat' (first 
    | (with_reducible assumption) | (with_reducible apply keep_each) | (with_reducible apply keep_modHost) 
    | (with_reducible apply keep_dropBuf) | (with_reducible apply keep_failCmd) | (with_reducible apply keep_hostWrite) 
    | (with_reducible apply keep_parkRead) | (with_reducible apply keep_specDrop) | (with_reducible apply keep_staleItem) 
    | (with_reducible apply kept_each) | (intro _) | (split) | (dsimp only) | (contradiction))

theorem keep_takeBackLadder (n : Ch) (l : Ladder) (s : State) (kq : Kept qq s) : Kept qq (takeBackLadder n l s) := by
  unfold takeBackLadder
  repeat' (first 
    | (with_reducible assumption) | (with_reducible apply kept_getD) | (with_reducible apply keep_each) 
    | (with_reducible apply keep_dropLadder) | (with_reducible apply keep_noteResult) | (with_reducible apply keep_parkRead) 
    | (with_reducible apply kept_each) | (intro _) | (split) | (dsimp only) | (contradiction))

theorem keep_takeBackParked (n : Ch) (s : State) (kq : Kept qq s) : Kept qq (takeBackParked n s) := by
  unfold takeBackParked
  repeat' (first 
    | (with_reducible assumption) | (with_reducible apply keep_each) | (with_reducible apply keep_modHost) 
    | (with_reducible apply keep_failCmd) | (with_reducible apply keep_hostWrite) | (with_reducible apply keep_parkRead) 
    | (with_reducible apply keep_staleItem) | (with_reducible apply kept_each) | (intro _) | (split) | (dsimp only) 
    | (contradiction))

theorem keep_fenceChan (n : Ch) (s : State) (kq : Kept qq s) : Kept qq (fenceChan n s) := by
  unfold fenceChan
  repeat' (first 
    | (with_reducible assumption) | (with_reducible apply keep_each) | (with_reducible apply keep_modSched) 
    | (with_reducible apply keep_modStit) | (with_reducible apply keep_clearStore) | (with_reducible apply keep_reclaim) 
    | (with_reducible apply keep_takeBackItem) | (with_reducible apply keep_takeBackLadder) 
    | (with_reducible apply keep_takeBackParked) | (with_reducible apply kept_each) | (intro _) | (split) | (dsimp only) 
    | (contradiction))

theorem keep_drainChan (n : Ch) (s : State) (kq : Kept qq s) : Kept qq (drainChan n s) := by
  unfold drainChan
  repeat' (first 
    | (with_reducible assumption) | (with_reducible apply keep_each) | (with_reducible apply keep_modSched) 
    | (with_reducible apply keep_fenceChan) | (with_reducible apply keep_takeBackItem) 
    | (with_reducible apply keep_takeBackLadder) | (with_reducible apply kept_each) | (intro _) | (split) | (dsimp only) 
    | (contradiction))

theorem keep_itemFinished (n : Ch) (tag : W16) (s : State) (kq : Kept qq s) : Kept qq (itemFinished n tag s) := by
  unfold itemFinished
  repeat' (first 
    | (with_reducible assumption) | (with_reducible apply keep_drainChan) | (with_reducible apply keep_itemFinish) | (intro _) 
    | (split) | (dsimp only) | (contradiction))

theorem keep_chanEffect (open_ : Bool) (a v : Nat) (s : State) (kq : Kept qq s) : Kept qq (chanEffect open_ a v s) := by
  unfold chanEffect
  repeat' (first 
    | (with_reducible assumption) | (with_reducible apply keep_used) | (with_reducible apply keep_hingeForce) 
    | (with_reducible apply keep_motCmd) | (with_reducible apply keep_motCoast) | (with_reducible apply keep_motLoad) 
    | (with_reducible apply keep_motStart) | (with_reducible apply keep_motStop) | (with_reducible apply keep_resettle) 
    | (with_reducible apply keep_startRetract) | (with_reducible apply keep_stepMask) | (with_reducible apply keep_swapRequest) 
    | (intro _) | (split) | (dsimp only) | (contradiction))

theorem keep_applyChannel (n : Ch) (s : State) (kq : Kept qq s) : Kept qq (applyChannel n s) := by
  unfold applyChannel
  repeat' (first 
    | (with_reducible assumption) | (with_reducible apply keep_modChan) | (with_reducible apply keep_set) 
    | (with_reducible apply keep_applyBanks) | (with_reducible apply keep_applyProfile) | (with_reducible apply keep_chanEffect) 
    | (intro _) | (split) | (dsimp only) | (contradiction))

theorem keep_enableStart (n : Ch) (s : State) (kq : Kept qq s) : Kept qq (enableStart n s) := by
  unfold enableStart
  repeat' (first 
    | (with_reducible assumption) | (with_reducible apply keep_set) | (with_reducible apply keep_applyChannel) | (intro _) 
    | (split) | (dsimp only) | (contradiction))

theorem keep_tablesIn (n : Ch) (s : State) (kq : Kept qq s) : Kept qq (tablesIn n s) := by
  unfold tablesIn
  repeat' (first 
    | (with_reducible assumption) | (with_reducible apply keep_each) | (with_reducible apply keep_modSched) 
    | (with_reducible apply keep_setBit) | (with_reducible apply keep_tablesFromFly) | (with_reducible apply kept_each) 
    | (intro _) | (split) | (dsimp only) | (contradiction))

theorem keep_releaseStitchers (n : Ch) (s : State) (kq : Kept qq s) : Kept qq (releaseStitchers n s) := by
  unfold releaseStitchers
  repeat' (first 
    | (with_reducible assumption) | (with_reducible apply keep_each) | (with_reducible apply keep_modStit) 
    | (with_reducible apply keep_set) | (with_reducible apply kept_each) | (intro _) | (split) | (dsimp only) | (contradiction))

theorem keep_engagePair (n : Ch) (s : State) (kq : Kept qq s) : Kept qq (engagePair n s) := by
  unfold engagePair
  repeat' (first 
    | (with_reducible assumption) | (with_reducible apply keep_modHinge) | (with_reducible apply keep_set) 
    | (with_reducible apply keep_setFlag) | (with_reducible apply keep_setEng) | (with_reducible apply kept_foldl) 
    | (with_reducible apply kept_foldl_snd) | (intro _) | (split) | (dsimp only) | (contradiction))

theorem keep_enablePass (n : Ch) (s : State) (kq : Kept qq s) : Kept qq (enablePass n s) := by
  unfold enablePass
  repeat' (first 
    | (with_reducible assumption) | (with_reducible apply keep_set) | (with_reducible apply keep_setFlag) 
    | (with_reducible apply keep_engagePair) | (with_reducible apply keep_motLoad) | (with_reducible apply keep_releaseStitchers) 
    | (with_reducible apply keep_tablesIn) | (intro _) | (split) | (dsimp only) | (contradiction))

theorem keep_enableRefuse (n : Ch) (r : Nat) (s : State) (kq : Kept qq s) : Kept qq (enableRefuse n r s) := by
  unfold enableRefuse
  repeat' (first 
    | (with_reducible assumption) | (with_reducible apply keep_inc) | (with_reducible apply keep_set) 
    | (with_reducible apply keep_loseChan) | (intro _) | (split) | (dsimp only) | (contradiction))

theorem keep_chanCheckEnd (n : Ch) (o : CheckObs) (s : State) (kq : Kept qq s) : Kept qq (chanCheckEnd n o s) := by
  unfold chanCheckEnd
  repeat' (first 
    | (with_reducible assumption) | (with_reducible apply keep_checkDone) | (with_reducible apply keep_enablePass) 
    | (with_reducible apply keep_enableRefuse) | (intro _) | (split) | (dsimp only) | (contradiction))

theorem keep_parkedMore (p : Parked) (d : Nat) (s : State) (kq : Kept qq s) : Kept qq (parkedMore p d s) := by
  unfold parkedMore
  repeat' (first 
    | (with_reducible assumption) | (with_reducible apply keep_modLayout) | (with_reducible apply keep_addItems) | (intro _) 
    | (split) | (dsimp only) | (contradiction))

theorem keep_placeParked (n : Ch) (s : State) (kq : Kept qq s) : Kept qq (placeParked n s) := by
  unfold placeParked
  repeat' (first 
    | (with_reducible assumption) | (with_reducible apply keep_each) | (with_reducible apply keep_modHost) 
    | (with_reducible apply keep_parkedMore) | (with_reducible apply keep_placeRun) | (with_reducible apply kept_each) 
    | (intro _) | (split) | (dsimp only) | (contradiction))

theorem keep_takeLists (n : Ch) (m : MediaLists) (s : State) (kq : Kept qq s) : Kept qq (takeLists n m s) := by
  unfold takeLists
  repeat' (first 
    | (with_reducible assumption) | (with_reducible apply keep_modChan) | (with_reducible apply keep_defectSync) 
    | (with_reducible apply keep_setGrown) | (intro _) | (split) | (dsimp only) | (contradiction))

theorem keep_chanReadyEnd (n : Ch) (lists : Option MediaLists) (s : State) (kq : Kept qq s) : Kept qq (chanReadyEnd n lists s) := by
  unfold chanReadyEnd
  repeat' (first 
    | (with_reducible assumption) | (with_reducible apply keep_chanEvent) | (with_reducible apply keep_inc) 
    | (with_reducible apply keep_set) | (with_reducible apply keep_setFlag) | (with_reducible apply keep_placeParked) 
    | (with_reducible apply keep_pump) | (with_reducible apply keep_takeLists) | (intro _) | (split) | (dsimp only) 
    | (contradiction))

theorem keep_disabled (n : Ch) (s : State) (kq : Kept qq s) : Kept qq (disabled n s) := by
  unfold disabled
  repeat' (first 
    | (with_reducible assumption) | (with_reducible apply keep_set) | (with_reducible apply keep_setFlag) | (intro _) | (split) 
    | (dsimp only) | (contradiction))

theorem keep_disableStart (n : Ch) (s : State) (kq : Kept qq s) : Kept qq (disableStart n s) := by
  unfold disableStart
  repeat' (first 
    | (with_reducible assumption) | (with_reducible apply keep_chanEvent) | (with_reducible apply keep_set) 
    | (with_reducible apply keep_chanUnavailable) | (with_reducible apply keep_checkDone) | (with_reducible apply keep_disabled) 
    | (with_reducible apply keep_drainChan) | (with_reducible apply keep_saveTables) | (intro _) | (split) | (dsimp only) 
    | (contradiction))

theorem keep_fenceRow (n : Ch) (s : State) (kq : Kept qq s) : Kept qq (fenceRow n s) := by
  unfold fenceRow
  repeat' (first 
    | (with_reducible assumption) | (with_reducible apply keep_fenceChan) | (intro _) | (split) | (dsimp only) | (contradiction))

theorem keep_resetChanRegs (n : Ch) (s : State) (kq : Kept qq s) : Kept qq (resetChanRegs n s) := by
  unfold resetChanRegs
  repeat' (first 
    | (with_reducible assumption) | (with_reducible apply keep_resetRegs) | (intro _) | (with_reducible apply kept_force_set) 
    | (with_reducible apply kept_force_clear) | (split) | (dsimp only) | (contradiction))

theorem keep_resetChan (n : Ch) (s : State) (kq : Kept qq s) : Kept qq (resetChan n s) := by
  unfold resetChan
  repeat' (first 
    | (with_reducible assumption) | (with_reducible apply keep_modChan) | (with_reducible apply keep_set) 
    | (with_reducible apply keep_setFlag) | (with_reducible apply keep_afterReset) | (with_reducible apply keep_resetChanRegs) 
    | (intro _) | (with_reducible apply NatMap.set_wf) | (with_reducible apply NatMap.setRun_wf) 
    | (with_reducible apply NatMap.setMany_wf) | (with_reducible apply kept_pads) | (with_reducible apply kept_banks) 
    | (with_reducible apply kept_store) | (with_reducible exact NatMap.empty_wf) | (with_reducible apply NatMap.foldl_wf) 
    | (split) | (dsimp only) | (contradiction))

theorem keep_cutEnable (n : Ch) (s : State) (kq : Kept qq s) : Kept qq (cutEnable n s) := by
  unfold cutEnable
  repeat' (first 
    | (with_reducible assumption) | (with_reducible apply keep_set) | (with_reducible apply keep_checkDone) 
    | (with_reducible apply keep_disabled) | (intro _) | (split) | (dsimp only) | (contradiction))

theorem keep_chanReset (n : Ch) (s : State) (kq : Kept qq s) : Kept qq (chanReset n s) := by
  unfold chanReset
  repeat' (first 
    | (with_reducible assumption) | (with_reducible apply keep_chanEvent) | (with_reducible apply keep_chanUnavailable) 
    | (with_reducible apply keep_cutEnable) | (with_reducible apply keep_fenceChan) | (with_reducible apply keep_parkHeads) 
    | (with_reducible apply keep_resetChan) | (with_reducible apply keep_resetRecord) | (intro _) | (split) | (dsimp only) 
    | (contradiction))

end Sys2Proof.Machine
end

