-- ==== Sys2Proof/Laws/KeepKet.lean ====
section
/-! SUPPORT. The operations of Machine/Ket.lean leave the queue as it is and keep the stores canonical. -/

namespace Sys2Proof.Machine

set_option linter.unusedTactic false
set_option linter.unreachableTactic false

variable {qq : List Instr}

theorem keep_modKet (s : State) (f : Ket → Ket) (kq : Kept qq s) : Kept qq (State.modKet s f) := by
  unfold State.modKet
  repeat' (first 
    | (with_reducible assumption) | (intro _) | (split) | (dsimp only) | (contradiction))

theorem keep_sendDown (l : List (List Nat)) (s : State) (kq : Kept qq s) : Kept qq (sendDown l s) := by
  unfold sendDown
  repeat' (first 
    | (with_reducible assumption) | (with_reducible apply keep_modKet) | (intro _) | (split) | (dsimp only) | (contradiction))

theorem keep_sendUp (l : List (List Nat)) (s : State) (kq : Kept qq s) : Kept qq (sendUp l s) := by
  unfold sendUp
  repeat' (first 
    | (with_reducible assumption) | (with_reducible apply keep_modKet) | (intro _) | (split) | (dsimp only) | (contradiction))

theorem keep_sendNone (s : State) (kq : Kept qq s) : Kept qq (sendNone s) := by
  unfold sendNone
  repeat' (first 
    | (with_reducible assumption) | (with_reducible apply keep_modKet) | (intro _) | (split) | (dsimp only) | (contradiction))

theorem keep_received (len type : Nat) (syms : List Byte) (f : List Nat → State → State) (s : State) (hf : ∀ x0 x1, Kept qq x1 → Kept qq (f x0 x1)) (kq : Kept qq s) : Kept qq (received len type syms f s) := by
  unfold received
  repeat' (first 
    | (with_reducible assumption) | (with_reducible apply keep_inc) | (with_reducible apply keep_sendNone) 
    | (with_reducible apply hf) | (intro _) | (split) | (dsimp only) | (contradiction))

theorem keep_addExchange (c : Int) (s : State) (kq : Kept qq s) : Kept qq (addExchange c s) := by
  unfold addExchange
  repeat' (first 
    | (with_reducible assumption) | (with_reducible apply keep_modKet) | (with_reducible apply keep_raise) 
    | (with_reducible apply keep_set) | (with_reducible apply keep_setFlag) | (with_reducible apply keep_when) 
    | (with_reducible apply kept_when) | (intro _) | (split) | (dsimp only) | (contradiction))

theorem keep_dreqArrived (tArr tDep : Nat) (l : List Nat) (s : State) (kq : Kept qq s) : Kept qq (dreqArrived tArr tDep l s) := by
  unfold dreqArrived
  repeat' (first 
    | (with_reducible assumption) | (with_reducible apply keep_sendDown) | (intro _) | (split) | (dsimp only) | (contradiction))

theorem keep_drspArrived (t4 : Nat) (l : List Nat) (s : State) (kq : Kept qq s) : Kept qq (drspArrived t4 l s) := by
  unfold drspArrived
  repeat' (first 
    | (with_reducible assumption) | (with_reducible apply keep_addExchange) | (intro _) | (split) | (dsimp only) 
    | (contradiction))

theorem keep_dreqTick (t1 : Nat) (s : State) (kq : Kept qq s) : Kept qq (dreqTick t1 s) := by
  unfold dreqTick
  repeat' (first 
    | (with_reducible assumption) | (with_reducible apply keep_modKet) | (with_reducible apply keep_sendNone) 
    | (with_reducible apply keep_sendUp) | (intro _) | (split) | (dsimp only) | (contradiction))

theorem keep_resendAfter (again : Option Nat) (rd : Bool) (before : List (List Nat)) (s : State) (kq : Kept qq s) : Kept qq (resendAfter again rd before s) := by
  unfold resendAfter
  repeat' (first 
    | (with_reducible assumption) | (with_reducible apply keep_inc) | (with_reducible apply keep_modKet) | (intro _) | (split) 
    | (dsimp only) | (contradiction))

theorem keep_followEpoch (t : Nat) (l : List Nat) (s : State) (kq : Kept qq s) : Kept qq (followEpoch t l s) := by
  unfold followEpoch
  repeat' (first 
    | (with_reducible assumption) | (with_reducible apply keep_modKet) | (with_reducible apply keep_raise) 
    | (with_reducible apply keep_set) | (with_reducible apply keep_setFlag) | (with_reducible apply keep_when) 
    | (with_reducible apply keep_sendDown) | (with_reducible apply kept_when) | (intro _) | (split) | (dsimp only) 
    | (contradiction))

theorem keep_epochArrived (t : Nat) (again : Option Nat) (rd : Bool) (before : List (List Nat)) (l : List Nat) (s : State) (kq : Kept qq s) : Kept qq (epochArrived t again rd before l s) := by
  unfold epochArrived
  repeat' (first 
    | (with_reducible assumption) | (with_reducible apply keep_raise) | (with_reducible apply keep_followEpoch) 
    | (with_reducible apply keep_resendAfter) | (intro _) | (split) | (dsimp only) | (contradiction))

theorem keep_advanceEpoch (t : Nat) (s : State) (kq : Kept qq s) : Kept qq (advanceEpoch t s) := by
  unfold advanceEpoch
  repeat' (first 
    | (with_reducible assumption) | (with_reducible apply keep_modKet) | (with_reducible apply keep_set) | (intro _) | (split) 
    | (dsimp only) | (contradiction))

theorem keep_epochTick (t : Nat) (s : State) (kq : Kept qq s) : Kept qq (epochTick t s) := by
  unfold epochTick
  repeat' (first 
    | (with_reducible assumption) | (with_reducible apply keep_inc) | (with_reducible apply keep_modKet) 
    | (with_reducible apply keep_set) | (with_reducible apply keep_advanceEpoch) | (with_reducible apply keep_sendDown) 
    | (with_reducible apply keep_sendNone) | (intro _) | (split) | (dsimp only) | (contradiction))

theorem keep_holdover (s : State) (kq : Kept qq s) : Kept qq (holdover s) := by
  unfold holdover
  repeat' (first 
    | (with_reducible assumption) | (with_reducible apply keep_raise) | (with_reducible apply keep_setFlag) | (intro _) | (split) 
    | (dsimp only) | (contradiction))

theorem keep_segmentHead (s : State) (kq : Kept qq s) : Kept qq (segmentHead s) := by
  unfold segmentHead
  repeat' (first 
    | (with_reducible assumption) | (with_reducible apply keep_raise) | (with_reducible apply keep_setFlag) | (intro _) | (split) 
    | (dsimp only) | (contradiction))

theorem keep_autoHead (s : State) (kq : Kept qq s) : Kept qq (autoHead s) := by
  unfold autoHead
  repeat' (first 
    | (with_reducible assumption) | (with_reducible apply keep_setFlag) | (intro _) | (split) | (dsimp only) | (contradiction))

theorem keep_tailTick (s : State) (kq : Kept qq s) : Kept qq (tailTick s) := by
  unfold tailTick
  repeat' (first 
    | (with_reducible assumption) | (with_reducible apply keep_modKet) | (with_reducible apply keep_sendNone) 
    | (with_reducible apply keep_sendUp) | (intro _) | (split) | (dsimp only) | (contradiction))

theorem keep_tailArrived (l : List Nat) (s : State) (kq : Kept qq s) : Kept qq (tailArrived l s) := by
  unfold tailArrived
  repeat' (first 
    | (with_reducible assumption) | (with_reducible apply keep_modKet) | (with_reducible apply keep_set) 
    | (with_reducible apply keep_sendUp) | (intro _) | (split) | (dsimp only) | (contradiction))

theorem keep_putVib (j : Fin 5) (v : Int) (t : Nat) (s : State) (kq : Kept qq s) : Kept qq (putVib j v t s) := by
  unfold putVib
  repeat' (first 
    | (with_reducible assumption) | (with_reducible apply keep_each) | (with_reducible apply keep_modServo) 
    | (with_reducible apply keep_set) | (with_reducible apply kept_each) | (intro _) | (split) | (dsimp only) | (contradiction))

theorem keep_vibArrived (lane : KetLane) (t : Nat) (l : List Nat) (s : State) (kq : Kept qq s) : Kept qq (vibArrived lane t l s) := by
  unfold vibArrived
  repeat' (first 
    | (with_reducible assumption) | (with_reducible apply keep_incWrap) | (with_reducible apply keep_putVib) 
    | (with_reducible apply keep_sendDown) | (with_reducible apply keep_sendUp) | (intro _) | (split) | (dsimp only) 
    | (contradiction))

theorem keep_vibRead (sample : W16) (t : Nat) (s : State) (kq : Kept qq s) : Kept qq (vibRead sample t s) := by
  unfold vibRead
  repeat' (first 
    | (with_reducible assumption) | (with_reducible apply keep_modKet) | (with_reducible apply keep_set) 
    | (with_reducible apply keep_putVib) | (with_reducible apply keep_sendDown) | (with_reducible apply keep_sendNone) 
    | (with_reducible apply keep_sendUp) | (intro _) | (split) | (dsimp only) | (contradiction))

theorem keep_laneLock (lane : KetLane) (s : State) (kq : Kept qq s) : Kept qq (laneLock lane s) := by
  unfold laneLock
  repeat' (first 
    | (with_reducible assumption) | (with_reducible apply keep_setFlag) | (intro _) | (split) | (dsimp only) | (contradiction))

theorem keep_laneLost (lane : KetLane) (s : State) (kq : Kept qq s) : Kept qq (laneLost lane s) := by
  unfold laneLost
  repeat' (first 
    | (with_reducible assumption) | (with_reducible apply keep_raise) | (with_reducible apply keep_setFlag) 
    | (with_reducible apply keep_when) | (with_reducible apply kept_when) | (intro _) | (split) | (dsimp only) | (contradiction))

theorem keep_ketEnable (en : Bool) (s : State) (kq : Kept qq s) : Kept qq (ketEnable en s) := by
  unfold ketEnable
  repeat' (first 
    | (with_reducible assumption) | (with_reducible apply keep_modKet) | (with_reducible apply keep_setFlag) 
    | (with_reducible apply keep_applyProfile) | (with_reducible apply keep_checkDone) | (with_reducible apply keep_noAct) 
    | (intro _) | (split) | (dsimp only) | (contradiction))

theorem keep_ketCheckEnd (s : State) (kq : Kept qq s) : Kept qq (ketCheckEnd s) := by
  unfold ketCheckEnd
  repeat' (first 
    | (with_reducible assumption) | (with_reducible apply keep_modKet) | (with_reducible apply keep_resetRegs) 
    | (with_reducible apply keep_set) | (with_reducible apply keep_setFlag) | (intro _) | (split) | (dsimp only) 
    | (contradiction))

theorem keep_ketReset (s : State) (kq : Kept qq s) : Kept qq (ketReset s) := by
  unfold ketReset
  repeat' (first 
    | (with_reducible assumption) | (with_reducible apply keep_each) | (with_reducible apply keep_modServo) 
    | (with_reducible apply keep_resetRegs) | (with_reducible apply keep_checkDone) | (with_reducible apply keep_resetRecord) 
    | (with_reducible apply kept_each) | (intro _) | (split) | (dsimp only) | (contradiction))

end Sys2Proof.Machine
end

