-- ==== Sys2Proof/Laws/KeepFlyRows.lean ====
section
/-! SUPPORT. The operations of Machine/FlyRows.lean leave the queue as it is and keep the stores canonical. -/

namespace Sys2Proof.Machine

set_option linter.unusedTactic false
set_option linter.unreachableTactic false

variable {qq : List Instr}

theorem keep_fallBack (c : Cmd) (s : State) (kq : Kept qq s) : Kept qq (fallBack c s) := by
  unfold fallBack
  repeat' (first 
    | (with_reducible assumption) | (with_reducible apply keep_modCmd) | (with_reducible apply keep_modFly) 
    | (with_reducible apply keep_unlive) | (with_reducible apply keep_unpack) | (intro _) | (split) | (dsimp only) 
    | (contradiction))

theorem keep_fallBackAll (s : State) (kq : Kept qq s) : Kept qq (fallBackAll s) := by
  unfold fallBackAll
  repeat' (first 
    | (with_reducible assumption) | (with_reducible apply keep_each) | (with_reducible apply keep_destagePage) 
    | (with_reducible apply keep_fallBack) | (with_reducible apply keep_pump) | (with_reducible apply kept_each) | (intro _) 
    | (split) | (dsimp only) | (contradiction))

theorem keep_writesProgrammed (s : State) (kq : Kept qq s) : Kept qq (writesProgrammed s) := by
  unfold writesProgrammed
  repeat' (first 
    | (with_reducible assumption) | (with_reducible apply keep_each) | (with_reducible apply keep_modCmd) 
    | (with_reducible apply keep_putBookmark) | (with_reducible apply kept_each) | (intro _) | (split) | (dsimp only) 
    | (contradiction))

theorem keep_pageProgrammed (pg : Nat) (pass : Bool) (s : State) (kq : Kept qq s) : Kept qq (pageProgrammed pg pass s) := by
  unfold pageProgrammed
  repeat' (first 
    | (with_reducible assumption) | (with_reducible apply keep_fallBackAll) | (with_reducible apply keep_gcStep) 
    | (with_reducible apply keep_packFull) | (with_reducible apply keep_programDone) 
    | (with_reducible apply keep_writesProgrammed) | (intro _) | (split) | (dsimp only) | (contradiction))

theorem keep_flyPass (s : State) (kq : Kept qq s) : Kept qq (flyPass s) := by
  unfold flyPass
  repeat' (first 
    | (with_reducible assumption) | (with_reducible apply kept_getD) | (with_reducible apply keep_modFly) 
    | (with_reducible apply keep_set) | (with_reducible apply keep_setFlag) | (with_reducible apply keep_used) 
    | (with_reducible apply keep_flySync) | (with_reducible apply kept_foldl) | (with_reducible apply kept_foldl_snd) | (intro _) 
    | (split) | (dsimp only) | (contradiction))

theorem keep_flyEnable (s : State) (kq : Kept qq s) : Kept qq (flyEnable s) := by
  unfold flyEnable
  repeat' (first 
    | (with_reducible assumption) | (with_reducible apply keep_modFly) | (with_reducible apply keep_applyProfile) 
    | (with_reducible apply keep_noAct) | (intro _) | (split) | (dsimp only) | (contradiction))

theorem keep_flyCheckEnd (o : CheckObs) (s : State) (kq : Kept qq s) : Kept qq (flyCheckEnd o s) := by
  unfold flyCheckEnd
  repeat' (first 
    | (with_reducible assumption) | (with_reducible apply keep_modFly) | (with_reducible apply keep_set) 
    | (with_reducible apply keep_checkDone) | (with_reducible apply keep_flyPass) | (intro _) | (split) | (dsimp only) 
    | (contradiction))

theorem keep_entryLost (e : FEntry) (s : State) (kq : Kept qq s) : Kept qq (entryLost e s) := by
  unfold entryLost
  repeat' (first 
    | (with_reducible assumption) | (with_reducible apply keep_each) | (with_reducible apply keep_errUnread) 
    | (with_reducible apply keep_modFly) | (with_reducible apply keep_modNs) | (with_reducible apply keep_raise) 
    | (with_reducible apply kept_each) | (intro _) | (split) | (dsimp only) | (contradiction))

theorem keep_entryBack (k : Nat) (e : FEntry) (s : State) (kq : Kept qq s) : Kept qq (entryBack k e s) := by
  unfold entryBack
  repeat' (first 
    | (with_reducible assumption) | (with_reducible apply keep_modHost) | (with_reducible apply keep_give) 
    | (with_reducible apply keep_putUnit) | (intro _) | (with_reducible refine keep_tryAlloc _ _ _ _ _ _ (by assumption) ?_) 
    | (split) | (dsimp only) | (contradiction))

theorem keep_rebuildBuffer (es : List FEntry) (unread : List Nat) (s : State) (kq : Kept qq s) : Kept qq (rebuildBuffer es unread s) := by
  unfold rebuildBuffer
  repeat' (first 
    | (with_reducible assumption) | (with_reducible apply keep_modHost) | (with_reducible apply keep_entryBack) 
    | (with_reducible apply keep_entryLost) | (with_reducible apply kept_foldl) | (with_reducible apply kept_foldl_snd) 
    | (intro _) | (split) | (dsimp only) | (contradiction))

theorem keep_journalRead (s : State) (kq : Kept qq s) : Kept qq (journalRead s) := by
  unfold journalRead
  repeat' (first 
    | (with_reducible assumption) | (with_reducible apply keep_modFly) | (with_reducible apply keep_closeBands) 
    | (with_reducible apply keep_scanErases) | (intro _) | (split) | (dsimp only) | (contradiction))

theorem keep_loseStale (s : State) (kq : Kept qq s) : Kept qq (loseStale s) := by
  unfold loseStale
  repeat' (first 
    | (with_reducible assumption) | (with_reducible apply keep_each) | (with_reducible apply keep_gathSync) 
    | (with_reducible apply keep_loseIn) | (with_reducible apply kept_each) | (intro _) | (split) | (dsimp only) 
    | (contradiction))

theorem keep_flyStart (unread : List Nat) (s : State) (kq : Kept qq s) : Kept qq (flyStart unread s) := by
  unfold flyStart
  repeat' (first 
    | (with_reducible assumption) | (with_reducible apply keep_modFly) | (with_reducible apply keep_set) 
    | (with_reducible apply keep_setFlag) | (with_reducible apply keep_used) | (with_reducible apply keep_bkSync) 
    | (with_reducible apply keep_coloMirrorOn) | (with_reducible apply keep_fallBackAll) | (with_reducible apply keep_flySync) 
    | (with_reducible apply keep_journalRead) | (with_reducible apply keep_loseStale) | (with_reducible apply keep_packFull) 
    | (with_reducible apply keep_pump) | (with_reducible apply keep_rebuildBuffer) | (intro _) | (split) | (dsimp only) 
    | (contradiction))

theorem keep_flyDisable (s : State) (kq : Kept qq s) : Kept qq (flyDisable s) := by
  unfold flyDisable
  repeat' (first 
    | (with_reducible assumption) | (with_reducible apply keep_modFly) | (with_reducible apply keep_set) 
    | (with_reducible apply keep_setFlag) | (with_reducible apply keep_checkDone) | (with_reducible apply keep_checkpoint) 
    | (with_reducible apply keep_fallBackAll) | (intro _) | (split) | (dsimp only) | (contradiction))

theorem keep_flyForget (s : State) (kq : Kept qq s) : Kept qq (flyForget s) := by
  unfold flyForget
  repeat' (first 
    | (with_reducible assumption) | (with_reducible apply keep_modFly) | (intro _) | (split) | (dsimp only) | (contradiction))

theorem keep_flyRegs (s : State) (kq : Kept qq s) : Kept qq (flyRegs s) := by
  unfold flyRegs
  repeat' (first 
    | (with_reducible assumption) | (with_reducible apply keep_resetRegs) | (with_reducible apply keep_set) 
    | (with_reducible apply keep_setFlag) | (intro _) | (split) | (dsimp only) | (contradiction))

theorem keep_flyReset (s : State) (kq : Kept qq s) : Kept qq (flyReset s) := by
  unfold flyReset
  repeat' (first 
    | (with_reducible assumption) | (with_reducible apply keep_each) | (with_reducible apply keep_checkDone) 
    | (with_reducible apply keep_checkpoint) | (with_reducible apply keep_failCmd) | (with_reducible apply keep_flyForget) 
    | (with_reducible apply keep_flyRegs) | (with_reducible apply keep_resetRecord) | (with_reducible apply kept_each) 
    | (intro _) | (split) | (dsimp only) | (contradiction))

theorem keep_warmServe (k nsid line : Nat) (s : State) (kq : Kept qq s) : Kept qq (warmServe k nsid line s) := by
  unfold warmServe
  split
  · exact kq
  · rename_i c _
    extract_lets bs have_ got
    have h1 : ∀ hs t, got = some (hs, t) → Kept qq t := by
      intro hs t e
      simp only [got] at e
      split at e
      · cases e
        exact kq
      · split at e
        · cases e
          exact keep_modCmd _ _ _ (keep_tryAlloc _ _ _ _ _ _ ‹_› kq)
        · cases e
    clear_value got
    split
    · exact kq
    · rename_i hs t
      have ht := h1 hs t rfl
      repeat' (first
        | (with_reducible assumption) | (with_reducible apply keep_each) | (with_reducible apply keep_modFly)
        | (with_reducible apply keep_advance) | (with_reducible apply keep_found)
        | (with_reducible apply keep_placeTodo) | (with_reducible apply keep_putUnit) | (with_reducible apply kept_each) | (intro _)
        | (split) | (dsimp only))

theorem keep_warmMiss (nsid line : Nat) (s : State) (kq : Kept qq s) : Kept qq (warmMiss nsid line s) := by
  unfold warmMiss
  repeat' (first 
    | (with_reducible assumption) | (with_reducible apply keep_each) | (with_reducible apply keep_modFly) 
    | (with_reducible apply keep_advance) | (with_reducible apply keep_lookupAgain) | (with_reducible apply kept_each) 
    | (intro _) | (split) | (dsimp only) | (contradiction))

theorem keep_warmRead (nsid line : Nat) (ok : Bool) (s : State) (kq : Kept qq s) : Kept qq (warmRead nsid line ok s) := by
  unfold warmRead
  repeat' (first 
    | (with_reducible assumption) | (with_reducible apply keep_each) | (with_reducible apply keep_warmDrop) 
    | (with_reducible apply keep_warmMiss) | (with_reducible apply keep_warmServe) | (with_reducible apply kept_each) | (intro _) 
    | (split) | (dsimp only) | (contradiction))

theorem keep_checkEnd (b : CheckBlock) (o : CheckObs) (s : State) (kq : Kept qq s) : Kept qq (checkEnd b o s) := by
  unfold checkEnd
  repeat' (first 
    | (with_reducible assumption) | (with_reducible apply keep_chanCheckEnd) | (with_reducible apply keep_checkDone) 
    | (with_reducible apply keep_flyCheckEnd) | (with_reducible apply keep_gathCheckEnd) 
    | (with_reducible apply keep_ketCheckEnd) | (intro _) | (split) | (dsimp only) | (contradiction))

end Sys2Proof.Machine
end

