-- ==== Sys2Proof/Laws/KeepCacheMaint.lean ====
section
/-! SUPPORT. The operations of Machine/CacheMaint.lean leave the queue as it is and keep the stores canonical. -/

namespace Sys2Proof.Machine

set_option linter.unusedTactic false
set_option linter.unreachableTactic false

variable {qq : List Instr}

theorem keep_invalidateSectors (m : Maint) (v : Way) (s : State) (kq : Kept qq s) : Kept qq (invalidateSectors m v s) := by
  unfold invalidateSectors
  repeat' (first 
    | (with_reducible assumption) | (with_reducible apply keep_inc) | (with_reducible apply keep_incWrap) 
    | (with_reducible apply keep_dropLine) | (with_reducible apply keep_offerEnd) | (with_reducible apply keep_putWay) 
    | (with_reducible apply keep_runWaiters) | (intro _) | (split) | (dsimp only) | (contradiction))

theorem keep_cleanSectors (m : Maint) (v : Way) (s : State) (kq : Kept qq s) : Kept qq (cleanSectors m v s) := by
  unfold cleanSectors
  repeat' (first 
    | (with_reducible assumption) | (with_reducible apply keep_inc) | (with_reducible apply keep_invalidateSectors) 
    | (with_reducible apply keep_putWay) | (intro _) | (split) | (dsimp only) | (contradiction))

theorem keep_prefetchLine (m : Maint) (v : Ns) (ln : Nat) (s : State) (t : State) (e : prefetchLine m v ln s = some t)
    (kq : Kept qq s) : Kept qq t := by
  unfold prefetchLine at e
  split at e
  · cases e
    exact keep_inc _ _ kq
  · extract_lets bs t0 spots at e
    have h0 : Kept qq t0 := keep_openFill _ _ _ _ _ _ _ kq
    clear_value t0 spots
    split at e
    · cases e
      exact h0
    · split at e
      · cases e
        exact kq
      · obtain ⟨g, hg, rfl⟩ := Option.map_eq_some_iff.mp e
        have hk : Kept qq g.2 := keep_tryAlloc _ _ _ _ g.1 g.2 hg h0
        refine kept_each _ _ _ (fun c u hu => ?_) hk
        exact kept_ite (fun _ => hu) (fun _ => keep_placeRun _ _ _ _ _ _ _ _ _ _ hu)

theorem keep_prefetchLines (m : Maint) (v : Ns) (y0 : List Nat) (y1 : State) (kq : Kept qq y1) : Kept qq (prefetchLines m v y0 y1) := by
  induction y0 generalizing y1 m v with
  | nil =>
    unfold prefetchLines
    repeat' (first 
    | (with_reducible assumption) | (with_reducible apply keep_modCache) | (intro _) 
    | (with_reducible refine keep_prefetchLine _ _ _ _ _ (by assumption) ?_) | (split) | (dsimp only) | (contradiction))
  | cons a l ih =>
    unfold prefetchLines
    repeat' (first 
    | (with_reducible assumption) | (with_reducible apply ih) | (with_reducible apply keep_modCache) | (intro _) 
    | (with_reducible refine keep_prefetchLine _ _ _ _ _ (by assumption) ?_) | (split) | (dsimp only) | (contradiction))

theorem keep_maintPercent (s : State) (kq : Kept qq s) : Kept qq (maintPercent s) := by
  unfold maintPercent
  repeat' (first 
    | (with_reducible assumption) | (with_reducible apply keep_set) | (intro _) | (split) | (dsimp only) | (contradiction))

theorem keep_maintRun (m : Maint) (s : State) (kq : Kept qq s) : Kept qq (maintRun m s) := by
  unfold maintRun
  repeat' (first 
    | (with_reducible assumption) | (with_reducible apply keep_each) | (with_reducible apply keep_modCache) 
    | (with_reducible apply keep_setFlag) | (with_reducible apply keep_cleanSectors) 
    | (with_reducible apply keep_invalidateSectors) | (with_reducible apply keep_maintPercent) 
    | (with_reducible apply keep_prefetchLines) | (with_reducible apply kept_each) | (intro _) | (split) | (dsimp only) 
    | (contradiction))

theorem keep_maintInternal (s : State) (kq : Kept qq s) : Kept qq (maintInternal s) := by
  unfold maintInternal
  repeat' (first 
    | (with_reducible assumption) | (with_reducible apply keep_setFlag) | (intro _) | (split) | (dsimp only) | (contradiction))

theorem keep_maintOwn (m : Maint) (s : State) (kq : Kept qq s) : Kept qq (maintOwn m s) := by
  unfold maintOwn
  repeat' (first 
    | (with_reducible assumption) | (with_reducible apply keep_modCache) | (with_reducible apply keep_modCmd) 
    | (with_reducible apply keep_maintInternal) | (with_reducible apply keep_maintRun) | (intro _) | (split) | (dsimp only) 
    | (contradiction))

theorem keep_invalidateNs (nsid k : Nat) (s : State) (kq : Kept qq s) : Kept qq (invalidateNs nsid k s) := by
  unfold invalidateNs
  repeat' (first 
    | (with_reducible assumption) | (with_reducible apply keep_maintOwn) | (intro _) | (split) | (dsimp only) | (contradiction))

theorem keep_maintGo (op : Nat) (s : State) (kq : Kept qq s) : Kept qq (maintGo op s) := by
  unfold maintGo
  repeat' (first 
    | (with_reducible assumption) | (with_reducible apply keep_set) | (with_reducible apply keep_maintRun) | (intro _) | (split) 
    | (dsimp only) | (contradiction))

theorem keep_prefetchOn (m : Maint) (s : State) (kq : Kept qq s) : Kept qq (prefetchOn m s) := by
  unfold prefetchOn
  repeat' (first 
    | (with_reducible assumption) | (with_reducible apply keep_modCache) | (with_reducible apply keep_prefetchLines) | (intro _) 
    | (split) | (dsimp only) | (contradiction))

theorem keep_maintDone (s : State) (kq : Kept qq s) : Kept qq (maintDone s) := by
  unfold maintDone
  repeat' (first 
    | (with_reducible assumption) | (with_reducible apply keep_modCache) | (with_reducible apply keep_set) 
    | (with_reducible apply keep_setFlag) | (with_reducible apply keep_endItem) | (with_reducible apply keep_maintInternal) 
    | (with_reducible apply keep_maintPercent) | (with_reducible apply keep_maintRun) | (with_reducible apply keep_prefetchOn) 
    | (intro _) | (split) | (dsimp only) | (contradiction))

theorem keep_failPoisoned (u : Nat) (s : State) (kq : Kept qq s) : Kept qq (failPoisoned u s) := by
  unfold failPoisoned
  repeat' (first 
    | (with_reducible assumption) | (with_reducible apply keep_each) | (with_reducible apply keep_failCmd) 
    | (with_reducible apply kept_each) | (intro _) | (split) | (dsimp only) | (contradiction))

theorem keep_dramUe (pc : Fin 16) (ofs : Nat) (s : State) (kq : Kept qq s) : Kept qq (dramUe pc ofs s) := by
  unfold dramUe
  repeat' (first 
    | (with_reducible assumption) | (with_reducible apply keep_inc) | (with_reducible apply keep_raise) 
    | (with_reducible apply keep_clearWays) | (with_reducible apply keep_failPoisoned) | (with_reducible apply keep_poisonUnit) 
    | (intro _) | (split) | (dsimp only) | (contradiction))

theorem keep_failChan (n : Ch) (s : State) (kq : Kept qq s) : Kept qq (failChan n s) := by
  unfold failChan
  repeat' (first 
    | (with_reducible assumption) | (with_reducible apply keep_chanEvent) | (with_reducible apply keep_chanUnavailable) 
    | (with_reducible apply keep_fenceChan) | (with_reducible apply keep_parkHeads) | (intro _) | (split) | (dsimp only) 
    | (contradiction))

theorem keep_loseSlice (pc : Nat) (s : State) (kq : Kept qq s) : Kept qq (loseSlice pc s) := by
  unfold loseSlice
  repeat' (first 
    | (with_reducible assumption) | (with_reducible apply keep_each) | (with_reducible apply keep_modHost) 
    | (with_reducible apply keep_modPool) | (with_reducible apply keep_poolSync) | (with_reducible apply kept_each) | (intro _) 
    | (split) | (dsimp only) | (contradiction))

theorem keep_loseSides (pc : Nat) (s : State) (kq : Kept qq s) : Kept qq (loseSides pc s) := by
  unfold loseSides
  repeat' (first 
    | (with_reducible assumption) | (with_reducible apply keep_clearWays) | (intro _) | (split) | (dsimp only) | (contradiction))

theorem keep_pcFail (pc : Fin 16) (s : State) (kq : Kept qq s) : Kept qq (pcFail pc s) := by
  unfold pcFail
  repeat' (first 
    | (with_reducible assumption) | (with_reducible apply keep_raise) | (with_reducible apply keep_setBit) 
    | (with_reducible apply keep_failChan) | (with_reducible apply keep_loseChan) | (with_reducible apply keep_loseSides) 
    | (with_reducible apply keep_loseSlice) | (with_reducible apply keep_maintOwn) | (with_reducible apply keep_pump) | (intro _) 
    | (split) | (dsimp only) | (contradiction))

theorem keep_cacheFlush (s : State) (kq : Kept qq s) : Kept qq (cacheFlush s) := by
  unfold cacheFlush
  repeat' (first 
    | (with_reducible assumption) | (with_reducible apply keep_modCache) | (with_reducible apply keep_resetRegs) 
    | (with_reducible apply keep_set) | (with_reducible apply keep_maintInternal) | (with_reducible apply keep_maintRun) 
    | (intro _) | (split) | (dsimp only) | (contradiction))

theorem keep_cacheReset (s : State) (kq : Kept qq s) : Kept qq (cacheReset s) := by
  unfold cacheReset
  repeat' (first 
    | (with_reducible assumption) | (with_reducible apply keep_cacheFlush) | (with_reducible apply keep_resetRecord) | (intro _) 
    | (split) | (dsimp only) | (contradiction))

end Sys2Proof.Machine
end

