-- ==== Sys2Proof/Laws/KeepMem.lean ====
section
/-! SUPPORT. The operations of Machine/Mem.lean leave the queue as it is and keep the stores canonical. -/

namespace Sys2Proof.Machine

set_option linter.unusedTactic false
set_option linter.unreachableTactic false

variable {qq : List Instr}

theorem keep_flipArm (path : RegPath) (mac : BitVec 12) (s : State) (kq : Kept qq s) : Kept qq (flipArm path mac s) := by
  unfold flipArm
  repeat' (first 
    | (with_reducible assumption) | (with_reducible apply keep_set) | (with_reducible apply keep_setFlag) 
    | (with_reducible apply keep_lockedWrite) | (intro _) | (split) | (dsimp only) | (contradiction))

theorem keep_remapMove (m word : Nat) (s : State) (kq : Kept qq s) : Kept qq (remapMove m word s) := by
  unfold remapMove
  repeat' (first 
    | (with_reducible assumption) | (with_reducible apply keep_modMem) | (with_reducible apply keep_raise) 
    | (with_reducible apply keep_remapSync) | (intro _) | (split) | (dsimp only) | (contradiction))

theorem keep_fifoUe (n : Ch) (p : Pa) (s : State) (kq : Kept qq s) : Kept qq (fifoUe n p s) := by
  unfold fifoUe
  repeat' (first 
    | (with_reducible assumption) | (with_reducible apply keep_modPath) | (with_reducible apply keep_parkGate) | (intro _) 
    | (split) | (dsimp only) | (contradiction))

theorem keep_sampleUe (n : Ch) (p : Pa) (word : Nat) (s : State) (kq : Kept qq s) : Kept qq (sampleUe n p word s) := by
  unfold sampleUe
  repeat' (first 
    | (with_reducible assumption) | (with_reducible apply keep_modPath) | (with_reducible apply keep_modSched) | (intro _) 
    | (split) | (dsimp only) | (contradiction))

theorem keep_engineUe (n : Ch) (b : Bool) (s : State) (kq : Kept qq s) : Kept qq (engineUe n b s) := by
  unfold engineUe
  repeat' (first 
    | (with_reducible assumption) | (with_reducible apply keep_modHinge) | (intro _) | (split) | (dsimp only) | (contradiction))

theorem keep_sramUe (m word : Nat) (s : State) (kq : Kept qq s) : Kept qq (sramUe m word s) := by
  unfold sramUe
  repeat' (first 
    | (with_reducible assumption) | (with_reducible apply keep_engineUe) | (with_reducible apply keep_fifoUe) 
    | (with_reducible apply keep_loseHandle) | (with_reducible apply keep_sampleUe) | (with_reducible apply keep_storeUe) 
    | (with_reducible apply keep_tagError) | (with_reducible apply keep_ueNote) | (intro _) | (split) | (dsimp only) 
    | (contradiction))

theorem keep_bist (d : Nat) (faulty : List (Nat × Nat)) (s : State) (kq : Kept qq s) : Kept qq (bist d faulty s) := by
  unfold bist
  repeat' (first 
    | (with_reducible assumption) | (with_reducible apply keep_each) | (with_reducible apply keep_modMem) 
    | (with_reducible apply keep_raise) | (with_reducible apply keep_remapSync) | (with_reducible apply kept_each) | (intro _) 
    | (split) | (dsimp only) | (contradiction))

theorem keep_memReset (s : State) (kq : Kept qq s) : Kept qq (memReset s) := by
  unfold memReset
  repeat' (first 
    | (with_reducible assumption) | (with_reducible apply keep_resetRegs) | (with_reducible apply keep_remapSync) 
    | (with_reducible apply keep_resetRecord) | (intro _) | (split) | (dsimp only) | (contradiction))

theorem keep_reamClear (s : State) (kq : Kept qq s) : Kept qq (reamClear s) := by
  unfold reamClear
  repeat' (first 
    | (with_reducible assumption) | (with_reducible apply keep_each) | (with_reducible apply keep_modReam) 
    | (with_reducible apply keep_poolSync) | (with_reducible apply kept_each) | (intro _) | (split) | (dsimp only) 
    | (contradiction))

theorem keep_reamReset (s : State) (kq : Kept qq s) : Kept qq (reamReset s) := by
  unfold reamReset
  repeat' (first 
    | (with_reducible assumption) | (with_reducible apply keep_each) | (with_reducible apply keep_modHost) 
    | (with_reducible apply keep_failCmd) | (with_reducible apply keep_pump) | (with_reducible apply keep_reamClear) 
    | (with_reducible apply keep_resetRecord) | (with_reducible apply kept_each) | (intro _) | (split) | (dsimp only) 
    | (contradiction))

end Sys2Proof.Machine
end

