-- ==== Sys2Proof/Laws/KeepDomain.lean ====
section
/-! SUPPORT. The operations of Machine/Domain.lean leave the queue as it is and keep the stores canonical. -/

namespace Sys2Proof.Machine

set_option linter.unusedTactic false
set_option linter.unreachableTactic false

variable {qq : List Instr}

theorem keep_setReq (v : Nat) (s : State) (kq : Kept qq s) : Kept qq (setReq v s) := by
  unfold setReq
  repeat' (first 
    | (with_reducible assumption) | (with_reducible apply keep_set) | (intro _) | (split) | (dsimp only) | (contradiction))

theorem keep_setDom (d : Nat) (b : Bool) (s : State) (kq : Kept qq s) : Kept qq (setDom d b s) := by
  unfold setDom
  repeat' (first 
    | (with_reducible assumption) | (with_reducible apply keep_setBit) | (intro _) | (split) | (dsimp only) | (contradiction))

theorem keep_setLocks (d : Nat) (b : Bool) (s : State) (kq : Kept qq s) : Kept qq (setLocks d b s) := by
  unfold setLocks
  repeat' (first 
    | (with_reducible assumption) | (with_reducible apply keep_setBit) | (intro _) | (split) | (dsimp only) | (contradiction))

theorem keep_loseRegs (lo hi : Nat) (s : State) (kq : Kept qq s) : Kept qq (loseRegs lo hi s) := by
  unfold loseRegs
  repeat' (first 
    | (with_reducible assumption) | (with_reducible apply keep_resetRegs) | (intro _) | (with_reducible apply kept_force_set) 
    | (with_reducible apply kept_force_clear) | (split) | (dsimp only) | (contradiction))

theorem keep_quitChan (n : Ch) (s : State) (kq : Kept qq s) : Kept qq (quitChan n s) := by
  unfold quitChan
  repeat' (first 
    | (with_reducible assumption) | (with_reducible apply keep_chanUnavailable) | (with_reducible apply keep_disableStart) 
    | (with_reducible apply keep_fenceChan) | (intro _) | (split) | (dsimp only) | (contradiction))

theorem keep_loseChanDom (n : Ch) (k : Nat) (s : State) (kq : Kept qq s) : Kept qq (loseChanDom n k s) := by
  unfold loseChanDom
  repeat' (first 
    | (with_reducible assumption) | (with_reducible apply keep_each) | (with_reducible apply keep_modChan) 
    | (with_reducible apply keep_modMot) | (with_reducible apply keep_modPath) | (with_reducible apply keep_set) 
    | (with_reducible apply keep_loseRegs) | (with_reducible apply kept_each) | (intro _) | (with_reducible apply NatMap.set_wf) 
    | (with_reducible apply NatMap.setRun_wf) | (with_reducible apply NatMap.setMany_wf) | (with_reducible apply kept_pads) 
    | (with_reducible apply kept_banks) | (with_reducible apply kept_store) | (with_reducible exact NatMap.empty_wf) 
    | (with_reducible apply NatMap.foldl_wf) | (split) | (dsimp only) | (contradiction))

theorem keep_loseNvme (s : State) (kq : Kept qq s) : Kept qq (loseNvme s) := by
  unfold loseNvme
  repeat' (first 
    | (with_reducible assumption) | (with_reducible apply keep_each) | (with_reducible apply keep_modCtlr) 
    | (with_reducible apply keep_modHost) | (with_reducible apply keep_loseRegs) | (with_reducible apply keep_stopCmds) 
    | (with_reducible apply kept_each) | (intro _) | (split) | (dsimp only) | (contradiction))

theorem keep_loseHostDom (d : Nat) (s : State) (kq : Kept qq s) : Kept qq (loseHostDom d s) := by
  unfold loseHostDom
  repeat' (first 
    | (with_reducible assumption) | (with_reducible apply keep_each) | (with_reducible apply keep_modServo) 
    | (with_reducible apply keep_cacheFlush) | (with_reducible apply keep_flyForget) | (with_reducible apply keep_linkDown) 
    | (with_reducible apply keep_loseNvme) | (with_reducible apply keep_loseRegs) | (with_reducible apply keep_reamClear) 
    | (with_reducible apply kept_each) | (intro _) | (split) | (dsimp only) | (contradiction))

theorem keep_loseMacros (d : Nat) (s : State) (kq : Kept qq s) : Kept qq (loseMacros d s) := by
  unfold loseMacros
  repeat' (first 
    | (with_reducible assumption) | (with_reducible apply keep_modMem) | (with_reducible apply keep_bist) | (intro _) | (split) 
    | (dsimp only) | (contradiction))

theorem keep_domOff (d : Nat) (s : State) (kq : Kept qq s) : Kept qq (domOff d s) := by
  unfold domOff
  repeat' (first 
    | (with_reducible assumption) | (with_reducible apply keep_when) | (with_reducible apply keep_loseChanDom) 
    | (with_reducible apply keep_loseHostDom) | (with_reducible apply keep_loseMacros) | (with_reducible apply keep_parkHeads) 
    | (with_reducible apply keep_quitChan) | (with_reducible apply keep_remapSync) | (with_reducible apply keep_setDom) 
    | (with_reducible apply keep_setLocks) | (with_reducible apply kept_when) | (intro _) | (split) | (dsimp only) 
    | (contradiction))

theorem keep_dropDomains (s : State) (kq : Kept qq s) : Kept qq (dropDomains s) := by
  unfold dropDomains
  repeat' (first 
    | (with_reducible assumption) | (with_reducible apply keep_each) | (with_reducible apply keep_domOff) 
    | (with_reducible apply kept_each) | (intro _) | (split) | (dsimp only) | (contradiction))

theorem keep_request (v : Nat) (s : State) (kq : Kept qq s) : Kept qq (request v s) := by
  unfold request
  extract_lets w
  clear_value w
  exact kept_ite (fun _ => keep_dropDomains _ (keep_setReq _ _ kq)) (fun _ => kq)

theorem keep_requestOn (ds : List Nat) (s : State) (kq : Kept qq s) : Kept qq (requestOn ds s) := by
  unfold requestOn
  repeat' (first 
    | (with_reducible assumption) | (with_reducible apply keep_setReq) | (with_reducible apply kept_foldl) 
    | (with_reducible apply kept_foldl_snd) | (intro _) | (split) | (dsimp only) | (contradiction))

theorem keep_chanDomains (n : Ch) (b : Bool) (s : State) (kq : Kept qq s) : Kept qq (chanDomains n b s) := by
  unfold chanDomains
  exact keep_dropDomains _ (keep_setReq _ _ kq)

theorem keep_blockEffect (a v : Nat) (s : State) (kq : Kept qq s) : Kept qq (blockEffect a v s) := by
  unfold blockEffect
  repeat' (first 
    | (with_reducible assumption) | (with_reducible apply keep_when) | (with_reducible apply keep_commitStart) 
    | (with_reducible apply keep_dmaKick) | (with_reducible apply keep_dmaResume) | (with_reducible apply keep_maintGo) 
    | (with_reducible apply keep_remapSync) | (with_reducible apply kept_when) | (intro _) | (split) | (dsimp only) 
    | (contradiction))

theorem keep_domProfile (d : Nat) (s : State) (kq : Kept qq s) : Kept qq (domProfile d s) := by
  unfold domProfile
  refine kept_ite (fun _ => kq) (fun _ => ?_)
  split <;> first | exact kq | exact keep_applyProfile _ _ _ _ (fun _ _ _ h => keep_blockEffect _ _ _ h) kq

theorem keep_chanUp (d : Nat) (s : State) (kq : Kept qq s) : Kept qq (chanUp d s) := by
  unfold chanUp
  repeat' (first 
    | (with_reducible assumption) | (with_reducible apply keep_mgmtStart) | (with_reducible apply keep_storeLoad) | (intro _) 
    | (split) | (dsimp only) | (contradiction))

theorem keep_domainOn (d : Nat) (faulty : List (Nat × Nat)) (s : State) (kq : Kept qq s) : Kept qq (domainOn d faulty s) := by
  unfold domainOn
  extract_lets ready t u
  clear_value ready
  have h1 : Kept qq t := keep_setLocks _ _ _ (keep_setDom _ _ _ (keep_bist _ _ _ kq))
  clear_value t
  have h2 : Kept qq u := kept_ite (fun _ => keep_set _ _ _ (keep_setFlag _ _ _ h1)) (fun _ => h1)
  exact kept_ite (fun _ => kq) (fun _ => keep_chanUp _ _ (keep_domProfile _ _ h2))

end Sys2Proof.Machine
end

