-- ==== Sys2Proof/Laws/KeepFault.lean ====
section
/-! SUPPORT. The operations of Machine/Fault.lean leave the queue as it is and keep the stores canonical. -/

namespace Sys2Proof.Machine

set_option linter.unusedTactic false
set_option linter.unreachableTactic false

variable {qq : List Instr}

theorem keep_clearStatus (src : Nat) (s : State) (kq : Kept qq s) : Kept qq (clearStatus src s) := by
  unfold clearStatus
  repeat' (first 
    | (with_reducible assumption) | (with_reducible apply keep_record) | (with_reducible apply keep_setBit) | (intro _) | (split) 
    | (dsimp only) | (contradiction))

theorem keep_statusClear (i v : Nat) (s : State) (kq : Kept qq s) : Kept qq (statusClear i v s) := by
  unfold statusClear
  repeat' (first 
    | (with_reducible assumption) | (with_reducible apply keep_each) | (with_reducible apply keep_clearStatus) 
    | (with_reducible apply kept_each) | (intro _) | (split) | (dsimp only) | (contradiction))

theorem keep_failAllOpen (s : State) (kq : Kept qq s) : Kept qq (failAllOpen s) := by
  unfold failAllOpen
  repeat' (first 
    | (with_reducible assumption) | (with_reducible apply keep_each) | (with_reducible apply keep_finish) 
    | (with_reducible apply keep_failCmd) | (with_reducible apply kept_each) | (intro _) | (split) | (dsimp only) 
    | (contradiction))

theorem keep_mirrorAll (s : State) (kq : Kept qq s) : Kept qq (mirrorAll s) := by
  unfold mirrorAll
  repeat' (first 
    | (with_reducible assumption) | (intro _) | (split) | (dsimp only) | (contradiction))

theorem keep_flyLast (good : Bool) (s : State) (kq : Kept qq s) : Kept qq (flyLast good s) := by
  unfold flyLast
  repeat' (first 
    | (with_reducible assumption) | (with_reducible apply keep_checkpoint) | (with_reducible apply keep_mirrorAll) | (intro _) 
    | (split) | (dsimp only) | (contradiction))

theorem keep_enterSafe (src : Nat) (s : State) (kq : Kept qq s) : Kept qq (enterSafe src s) := by
  unfold enterSafe
  repeat' (first 
    | (with_reducible assumption) | (with_reducible apply keep_each) | (with_reducible apply keep_record) 
    | (with_reducible apply keep_setFlag) | (with_reducible apply keep_when) | (with_reducible apply keep_failAllOpen) 
    | (with_reducible apply keep_flyLast) | (with_reducible apply keep_parkAll) | (with_reducible apply keep_parkHeads) 
    | (with_reducible apply kept_each) | (with_reducible apply kept_when) | (intro _) | (split) | (dsimp only) | (contradiction))

theorem keep_dmaReset (s : State) (kq : Kept qq s) : Kept qq (dmaReset s) := by
  unfold dmaReset
  repeat' (first 
    | (with_reducible assumption) | (with_reducible apply keep_resetRegs) | (with_reducible apply keep_resetRecord) | (intro _) 
    | (split) | (dsimp only) | (contradiction))

theorem keep_startChip (cause : Nat) (src : Option Nat) (s : State) (kq : Kept qq s) : Kept qq (startChip cause src s) := by
  unfold startChip
  repeat' (first 
    | (with_reducible assumption) | (with_reducible apply keep_each) | (with_reducible apply keep_setFlag) 
    | (with_reducible apply keep_parkHeads) | (with_reducible apply keep_resetRecord) | (with_reducible apply keep_stopCmds) 
    | (with_reducible apply kept_each) | (intro _) | (split) | (dsimp only) | (contradiction))

theorem keep_blkReset (src : Nat) (s : State) (kq : Kept qq s) : Kept qq (blkReset src s) := by
  unfold blkReset
  repeat' (first 
    | (with_reducible assumption) | (with_reducible apply keep_set) | (with_reducible apply keep_when) 
    | (with_reducible apply keep_cacheReset) | (with_reducible apply keep_chanReset) | (with_reducible apply keep_clearStatus) 
    | (with_reducible apply keep_dmaReset) | (with_reducible apply keep_flyReset) | (with_reducible apply keep_gathReset) 
    | (with_reducible apply keep_ketReset) | (with_reducible apply keep_memReset) | (with_reducible apply keep_reamReset) 
    | (with_reducible apply kept_when) | (intro _) | (split) | (dsimp only) | (contradiction))

theorem keep_consequence (src : Nat) (s : State) (kq : Kept qq s) : Kept qq (consequence src s) := by
  unfold consequence
  repeat' (first 
    | (with_reducible assumption) | (with_reducible apply keep_enterSafe) | (with_reducible apply keep_failChan) | (intro _) 
    | (split) | (dsimp only) | (contradiction))

theorem keep_react (src : Nat) (s : State) (kq : Kept qq s) : Kept qq (react src s) := by
  unfold react
  repeat' (first 
    | (with_reducible assumption) | (with_reducible apply keep_aenAll) | (with_reducible apply keep_when) 
    | (with_reducible apply keep_blkReset) | (with_reducible apply keep_startChip) | (with_reducible apply kept_when) | (intro _) 
    | (split) | (dsimp only) | (contradiction))

theorem keep_putFirst (src seq : Nat) (s : State) (kq : Kept qq s) : Kept qq (putFirst src seq s) := by
  unfold putFirst
  repeat' (first 
    | (with_reducible assumption) | (with_reducible apply keep_set) | (with_reducible apply keep_setFlag) | (intro _) | (split) 
    | (dsimp only) | (contradiction))

theorem keep_latchOne (r : Raise) (s : State) (kq : Kept qq s) : Kept qq (latchOne r s) := by
  unfold latchOne
  repeat' (first 
    | (with_reducible assumption) | (with_reducible apply keep_inc) | (with_reducible apply keep_record) 
    | (with_reducible apply keep_setBit) | (with_reducible apply keep_consequence) | (with_reducible apply keep_putFirst) 
    | (with_reducible apply keep_react) | (intro _) | (split) | (dsimp only) | (contradiction))

theorem keep_latch (same : Nat) (s : State) (kq : Kept qq s) : Kept qq (latch same s) := by
  unfold latch
  repeat' (first 
    | (with_reducible assumption) | (with_reducible apply keep_each) | (with_reducible apply keep_latchOne) 
    | (with_reducible apply kept_each) | (with_reducible apply kept_foldl) | (with_reducible apply kept_foldl_snd) | (intro _) 
    | (split) | (dsimp only) | (contradiction))

theorem keep_latchBefore (a : Nat) (s : State) (kq : Kept qq s) : Kept qq (latchBefore a s) := by
  unfold latchBefore
  repeat' (first 
    | (with_reducible assumption) | (with_reducible apply keep_each) | (with_reducible apply keep_latchOne) 
    | (with_reducible apply kept_each) | (intro _) | (split) | (dsimp only) | (contradiction))

theorem keep_faultSelf (s : State) (kq : Kept qq s) : Kept qq (faultSelf s) := by
  unfold faultSelf
  repeat' (first 
    | (with_reducible assumption) | (with_reducible apply keep_setFlag) | (with_reducible apply keep_enterSafe) 
    | (with_reducible apply keep_latchOne) | (intro _) | (split) | (dsimp only) | (contradiction))

theorem keep_reenable (n : Ch) (s : State) (kq : Kept qq s) : Kept qq (reenable n s) := by
  unfold reenable
  repeat' (first 
    | (with_reducible assumption) | (with_reducible apply keep_set) | (with_reducible apply keep_breakSeq) 
    | (with_reducible apply keep_enableStart) | (with_reducible apply keep_mgmtStart) | (intro _) | (split) | (dsimp only) 
    | (contradiction))

end Sys2Proof.Machine
end

