-- ==== Sys2Proof/Laws/KeepBoot.lean ====
section
/-! SUPPORT. The operations of Machine/Boot.lean leave the queue as it is and keep the stores canonical. -/

namespace Sys2Proof.Machine

set_option linter.unusedTactic false
set_option linter.unreachableTactic false

variable {qq : List Instr}

theorem keep_afterReset (power : Bool) (r : NatMap) (s : State) (hr : r.wf = true) (kq : Kept qq s) : Kept qq (afterReset power r s) := by
  refine ⟨kq.queue, hr, NatMap.empty_wf, NatMap.empty_wf, fun n => ?_⟩
  have : ∀ k : Ch, (Vector.replicate 8 NatMap.empty)[k].wf = true := by decide
  exact ⟨this n, this n, this n⟩

theorem keep_endPloss (s : State) (kq : Kept qq s) : Kept qq (endPloss s) := by
  unfold endPloss
  repeat' (first 
    | (with_reducible assumption) | (with_reducible apply keep_flyLast) | (intro _) | (split) | (dsimp only) | (contradiction))

theorem keep_fuseRead (same : Bool) (s : State) (kq : Kept qq s) : Kept qq (fuseRead same s) := by
  unfold fuseRead
  repeat' (first 
    | (with_reducible assumption) | (with_reducible apply kept_getD) | (with_reducible apply keep_raise) 
    | (with_reducible apply keep_set) | (with_reducible apply keep_setFlag) | (intro _) | (split) | (dsimp only) 
    | (contradiction))

theorem keep_bringUp (s : State) (kq : Kept qq s) : Kept qq (bringUp s) := by
  unfold bringUp
  repeat' (first 
    | (with_reducible assumption) | (with_reducible apply keep_requestOn) | (intro _) | (split) | (dsimp only) | (contradiction))

theorem keep_startUp (s : State) (kq : Kept qq s) : Kept qq (startUp s) := by
  unfold startUp
  repeat' (first 
    | (with_reducible assumption) | (with_reducible apply keep_bringUp) | (intro _) | (split) | (dsimp only) | (contradiction))

theorem keep_powerOn (cause : Nat) (bifur fuseSame : Bool) (s : State) (kq : Kept qq s) : Kept qq (powerOn cause bifur fuseSame s) := by
  unfold powerOn
  extract_lets v t u w
  have hv : Kept qq v := keep_endPloss _ kq
  have ht : Kept qq t := by
    have := keep_afterReset true (powerRegs (dropDrafts v).regs) v (NatMap.clear_wf (NatMap.clear_wf (keep_dropDrafts v hv).canon.1 _ _) _ _) hv
    exact ⟨this.queue, this.canon⟩
  clear_value t
  exact keep_startUp _ (keep_setDom _ _ _ (keep_setDom _ _ _ (keep_fuseRead _ _
    (keep_setFlag _ _ _ (keep_setFlag _ _ _ (keep_set _ _ _ (keep_coloStart _ ht)))))))

theorem keep_chipRegs (s : State) (kq : Kept qq s) : Kept qq (chipRegs s) := by
  unfold chipRegs
  repeat' (first 
    | (with_reducible assumption) | (with_reducible apply keep_each) | (with_reducible apply keep_resetRegs) 
    | (with_reducible apply keep_set) | (with_reducible apply keep_setFlag) | (with_reducible apply keep_dropDrafts) 
    | (with_reducible apply keep_flyRegs) | (with_reducible apply kept_each) | (with_reducible apply kept_foldl) 
    | (with_reducible apply kept_foldl_snd) | (intro _) | (split) | (dsimp only) | (contradiction))

theorem keep_leaveSafe (src : Option Nat) (s : State) (kq : Kept qq s) : Kept qq (leaveSafe src s) := by
  unfold leaveSafe
  repeat' (first 
    | (with_reducible assumption) | (with_reducible apply keep_setFlag) | (with_reducible apply keep_clearStatus) | (intro _) 
    | (split) | (dsimp only) | (contradiction))

theorem keep_chipTaken (s : State) (kq : Kept qq s) : Kept qq (chipTaken s) := by
  unfold chipTaken
  split
  · exact kq
  · rename_i cause src _
    refine kept_ite (fun _ => kq) (fun _ => ?_)
    extract_lets u x1 x2 x3 t
    have hu : Kept qq u := keep_chipRegs _ (keep_leaveSafe _ _ (keep_flyLast _ _ kq))
    have ht : Kept qq t := by
      have := keep_afterReset false u.regs s hu.canon.1 kq
      exact ⟨this.queue, this.canon.1, this.canon.2.1, kq.canon.2.2.1, this.canon.2.2.2⟩
    clear_value t
    exact keep_startUp _ (keep_remapSync _ (keep_set _ _ _ ht))

theorem keep_noteSlot (slot r : Nat) (s : State) (kq : Kept qq s) : Kept qq (noteSlot slot r s) := by
  unfold noteSlot
  repeat' (first 
    | (with_reducible assumption) | (with_reducible apply keep_raise) | (with_reducible apply keep_set) | (intro _) | (split) 
    | (dsimp only) | (contradiction))

theorem keep_fuseProgram (back : Bool) (s : State) (kq : Kept qq s) : Kept qq (fuseProgram back s) := by
  unfold fuseProgram
  repeat' (first 
    | (with_reducible assumption) | (with_reducible apply keep_set) | (with_reducible apply keep_setFlag) | (intro _) | (split) 
    | (dsimp only) | (contradiction))

theorem keep_blkResets (v : Nat) (s : State) (kq : Kept qq s) : Kept qq (blkResets v s) := by
  unfold blkResets
  repeat' (first 
    | (with_reducible assumption) | (with_reducible apply keep_when) | (with_reducible apply keep_cacheReset) 
    | (with_reducible apply keep_dmaReset) | (with_reducible apply keep_flyReset) | (with_reducible apply keep_gathReset) 
    | (with_reducible apply keep_ketReset) | (with_reducible apply keep_memReset) | (with_reducible apply keep_reamReset) 
    | (with_reducible apply kept_when) | (intro _) | (split) | (dsimp only) | (contradiction))

theorem keep_hostEffect (a v : Nat) (s : State) (kq : Kept qq s) : Kept qq (hostEffect a v s) := by
  unfold hostEffect
  repeat' (first 
    | (with_reducible assumption) | (with_reducible apply keep_each) | (with_reducible apply keep_raise) 
    | (with_reducible apply keep_used) | (with_reducible apply keep_when) | (with_reducible apply keep_blkResets) 
    | (with_reducible apply keep_blockEffect) | (with_reducible apply keep_chanReset) | (with_reducible apply keep_coloClear) 
    | (with_reducible apply keep_fuseProgram) | (with_reducible apply keep_startChip) | (with_reducible apply kept_each) 
    | (with_reducible apply kept_when) | (intro _) | (split) | (dsimp only) | (contradiction))

theorem keep_hostWrite (open_ : Bool) (a v : Nat) (s : State) (kq : Kept qq s) : Kept qq (hostWrite open_ a v s) := by
  unfold hostWrite
  repeat' (first 
    | (with_reducible assumption) | (with_reducible apply keep_discard) | (with_reducible apply keep_hostEffect) 
    | (with_reducible apply keep_latchBefore) | (with_reducible apply keep_plainWrite) | (with_reducible apply keep_request) 
    | (with_reducible apply keep_statusClear) | (intro _) | (split) | (dsimp only) | (contradiction))

theorem keep_bootImage (slot : Nat) (g : Image) (s : State) (kq : Kept qq s) : Kept qq (bootImage slot g s) := by
  unfold bootImage
  repeat' (first 
    | (with_reducible assumption) | (with_reducible apply keep_each) | (with_reducible apply keep_modHost) 
    | (with_reducible apply keep_set) | (with_reducible apply keep_setFlag) | (with_reducible apply keep_domProfile) 
    | (with_reducible apply keep_hostWrite) | (with_reducible apply keep_requestOn) | (with_reducible apply kept_each) 
    | (intro _) | (split) | (dsimp only) | (contradiction))

theorem keep_bootRecovery (s : State) (kq : Kept qq s) : Kept qq (bootRecovery s) := by
  unfold bootRecovery
  repeat' (first 
    | (with_reducible assumption) | (with_reducible apply keep_set) | (with_reducible apply keep_setFlag) 
    | (with_reducible apply keep_requestOn) | (intro _) | (split) | (dsimp only) | (contradiction))

theorem keep_bootCheck (read0 read1 : Bool) (s : State) (kq : Kept qq s) : Kept qq (bootCheck read0 read1 s) := by
  unfold bootCheck
  repeat' (first 
    | (with_reducible assumption) | (with_reducible apply kept_getD) | (with_reducible apply keep_bootImage) 
    | (with_reducible apply keep_bootRecovery) | (with_reducible apply keep_noteSlot) | (intro _) | (split) | (dsimp only) 
    | (contradiction))

theorem keep_perstRelease (c : Ctl) (s : State) (kq : Kept qq s) : Kept qq (perstRelease c s) := by
  unfold perstRelease
  repeat' (first 
    | (with_reducible assumption) | (with_reducible apply keep_set) | (intro _) | (split) | (dsimp only) | (contradiction))

theorem keep_rollbackUpdate (s : State) (kq : Kept qq s) : Kept qq (rollbackUpdate s) := by
  unfold rollbackUpdate
  repeat' (first 
    | (with_reducible assumption) | (with_reducible apply keep_set) | (intro _) | (split) | (dsimp only) | (contradiction))

theorem keep_rstRelease (s : State) (kq : Kept qq s) : Kept qq (rstRelease s) := by
  unfold rstRelease
  repeat' (first 
    | (with_reducible assumption) | (with_reducible apply keep_bringUp) | (intro _) | (split) | (dsimp only) | (contradiction))

end Sys2Proof.Machine
end

