-- ==== Sys2Proof/Laws/KeepAccess.lean ====
section
/-! SUPPORT. The operations of Machine/Access.lean leave the queue as it is and keep the stores canonical. -/

namespace Sys2Proof.Machine

set_option linter.unusedTactic false
set_option linter.unreachableTactic false

variable {qq : List Instr}

theorem keep_unlockFail (s : State) (kq : Kept qq s) : Kept qq (unlockFail s) := by
  unfold unlockFail
  repeat' (first 
    | (with_reducible assumption) | (with_reducible apply keep_inc) | (intro _) | (with_reducible apply kept_ite) | (split) 
    | (dsimp only) | (contradiction))

theorem keep_disarm (s : State) (kq : Kept qq s) : Kept qq (disarm s) := by
  unfold disarm
  repeat' (first 
    | (with_reducible assumption) | (with_reducible apply keep_setFlag) | (intro _) | (with_reducible apply kept_ite) | (split) 
    | (dsimp only) | (contradiction))

theorem keep_setOpen (ident : Nat) (b : Bool) (s : State) (kq : Kept qq s) : Kept qq (setOpen ident b s) := by
  unfold setOpen
  repeat' (first 
    | (with_reducible assumption) | (with_reducible apply keep_set) | (with_reducible apply keep_setBit) | (intro _) 
    | (with_reducible apply kept_ite) | (split) | (dsimp only) | (contradiction))

theorem keep_unlockFirst (path : RegPath) (ident : Nat) (s : State) (kq : Kept qq s) : Kept qq (unlockFirst path ident s) := by
  unfold unlockFirst
  repeat' (first 
    | (with_reducible assumption) | (with_reducible apply keep_setFlag) | (with_reducible apply keep_breakSeq) | (intro _) 
    | (with_reducible apply kept_ite) | (split) | (dsimp only) | (contradiction))

theorem keep_unlockSecond (path : RegPath) (ident : Nat) (s : State) (kq : Kept qq s) : Kept qq (unlockSecond path ident s) := by
  unfold unlockSecond
  repeat' (first 
    | (with_reducible assumption) | (with_reducible apply keep_disarm) | (with_reducible apply keep_setOpen) 
    | (with_reducible apply keep_unlockFail) | (intro _) | (with_reducible apply kept_ite) | (split) | (dsimp only) 
    | (contradiction))

theorem keep_unlockClose (ident : Nat) (s : State) (kq : Kept qq s) : Kept qq (unlockClose ident s) := by
  unfold unlockClose
  repeat' (first 
    | (with_reducible assumption) | (with_reducible apply keep_breakSeq) | (with_reducible apply keep_setOpen) | (intro _) 
    | (with_reducible apply kept_ite) | (split) | (dsimp only) | (contradiction))

theorem keep_unlockWrite (path : RegPath) (v : Nat) (s : State) (kq : Kept qq s) : Kept qq (unlockWrite path v s) := by
  unfold unlockWrite
  repeat' (first 
    | (with_reducible assumption) | (with_reducible apply keep_breakSeq) | (with_reducible apply keep_unlockClose) 
    | (with_reducible apply keep_unlockFail) | (with_reducible apply keep_unlockFirst) | (with_reducible apply keep_unlockSecond) 
    | (intro _) | (with_reducible apply kept_ite) | (split) | (dsimp only) | (contradiction))

theorem keep_busError (s : State) (kq : Kept qq s) : Kept qq (busError s) := by
  unfold busError
  repeat' (first 
    | (with_reducible assumption) | (with_reducible apply keep_inc) | (intro _) | (with_reducible apply kept_ite) | (split) 
    | (dsimp only) | (contradiction))

theorem keep_sramRead (m w : Nat) (s : State) (kq : Kept qq s) : Kept qq (sramRead m w s).2 := by
  unfold sramRead
  repeat' (first 
    | (with_reducible assumption) | (with_reducible apply keep_used) | (with_reducible apply keep_sramCe) 
    | (with_reducible apply keep_sramUe) | (intro _) | (with_reducible apply kept_ite) | (split) | (dsimp only) | (contradiction))

theorem keep_sramStore (m w v : Nat) (s : State) (kq : Kept qq s) : Kept qq (sramStore m w v s) := by
  unfold sramStore
  repeat' (first 
    | (with_reducible assumption) | (with_reducible apply keep_set) | (with_reducible apply keep_memWrite) 
    | (with_reducible apply keep_putStore) | (intro _) | (with_reducible apply NatMap.set_wf) 
    | (with_reducible apply NatMap.setRun_wf) | (with_reducible apply NatMap.setMany_wf) | (with_reducible apply kept_pads) 
    | (with_reducible apply kept_banks) | (with_reducible apply kept_store) | (with_reducible exact NatMap.empty_wf) 
    | (with_reducible apply NatMap.foldl_wf) | (with_reducible apply kept_ite) | (split) | (dsimp only) | (contradiction))

theorem keep_regEffect (open_ : Bool) (a v : Nat) (s : State) (kq : Kept qq s) : Kept qq (regEffect open_ a v s) := by
  unfold regEffect
  split
  · exact keep_coefWrite _ _ _ _ _ _ kq
  · exact kq
  · refine kept_ite (fun _ => kept_ite (fun _ => keep_flyEnable _ kq) (fun _ => keep_flyDisable _ kq)) (fun _ =>
      kept_ite (fun _ => keep_ketEnable _ _ kq) (fun _ => kept_ite (fun _ => ?_) (fun _ => ?_)))
    · exact kept_ite (fun _ => keep_enableStart _ _ kq) (fun _ => keep_disableStart _ _ kq)
    · exact kept_ite (fun _ => keep_chanEffect _ _ _ _ (keep_plainWrite _ _ _ _ kq)) (fun _ => keep_hostWrite _ _ _ _ kq)

theorem keep_regWrite (path : RegPath) (a v : Nat) (s : State) (kq : Kept qq s) : Kept qq (regWrite path a v s) := by
  unfold regWrite
  repeat' (first 
    | (with_reducible assumption) | (with_reducible apply keep_when) | (with_reducible apply keep_discard) 
    | (with_reducible apply keep_regEffect) | (with_reducible apply keep_startChip) | (with_reducible apply keep_unlockWrite) 
    | (with_reducible apply kept_when) | (intro _) | (with_reducible apply kept_ite) | (split) | (dsimp only) | (contradiction))

theorem keep_arbiterWrite (path : RegPath) (a bytes v : Nat) (s : State) (kq : Kept qq s) : Kept qq (arbiterWrite path a bytes v s).1 := by
  unfold arbiterWrite
  repeat' (first 
    | (with_reducible assumption) | (with_reducible apply keep_inc) | (with_reducible apply keep_breakSeq) 
    | (with_reducible apply keep_busError) | (with_reducible apply keep_busOff) | (with_reducible apply keep_discard) 
    | (with_reducible apply keep_regWrite) | (with_reducible apply keep_sramStore) | (intro _) | (with_reducible apply kept_ite) 
    | (split) | (dsimp only) | (contradiction))

theorem keep_setupWrite (path : RegPath) (a bytes v : Nat) (s : State) (kq : Kept qq s) : Kept qq (setupWrite path a bytes v s).1 := by
  unfold setupWrite
  repeat' (first 
    | (with_reducible assumption) | (with_reducible apply keep_arbiterWrite) | (intro _) | (with_reducible apply kept_ite) 
    | (split) | (dsimp only) | (contradiction))

theorem keep_readWord (a : Nat) (s : State) (kq : Kept qq s) : Kept qq (readWord a s).2 := by
  unfold readWord
  repeat' (first 
    | (with_reducible assumption) | (with_reducible apply keep_set) | (with_reducible apply keep_coloChallenge) | (intro _) 
    | (with_reducible apply kept_ite) | (split) | (dsimp only) | (contradiction))

theorem keep_setupRead (a bytes : Nat) (s : State) (kq : Kept qq s) : Kept qq (setupRead a bytes s).2 := by
  unfold setupRead
  repeat' (first 
    | (with_reducible assumption) | (with_reducible apply keep_busError) | (with_reducible apply keep_busOff) 
    | (with_reducible apply keep_readWord) | (with_reducible apply keep_sramRead) | (intro _) | (with_reducible apply kept_ite) 
    | (split) | (dsimp only) | (contradiction))

theorem keep_sideAnswer (st : Nat) (bs : List Nat) (s : State) (kq : Kept qq s) : Kept qq (sideAnswer st bs s) := by
  unfold sideAnswer
  repeat' (first 
    | (with_reducible assumption) | (with_reducible apply keep_modHost) | (intro _) | (with_reducible apply kept_ite) | (split) 
    | (dsimp only) | (contradiction))

theorem keep_sideRead (a bytes : Nat) (s : State) (kq : Kept qq s) : Kept qq (sideRead a bytes s) := by
  unfold sideRead
  refine kept_ite (fun _ => kq) (fun _ => kept_ite (fun _ => keep_sideAnswer _ _ _ kq) (fun _ => ?_))
  have h := keep_setupRead (qq := qq) a bytes s kq
  split <;> (rename_i e; rw [e] at h; exact keep_sideAnswer _ _ _ h)

end Sys2Proof.Machine
end

