-- ==== Sys2Proof/Laws/KeepAdmin.lean ====
section
/-! SUPPORT. The operations of Machine/Admin.lean leave the queue as it is and keep the stores canonical. -/

namespace Sys2Proof.Machine

set_option linter.unusedTactic false
set_option linter.unreachableTactic false

variable {qq : List Instr}

theorem keep_idNs (c : Cmd) (page : Ns → State → List Nat) (s : State) (kq : Kept qq s) : Kept qq (idNs c page s) := by
  unfold idNs
  repeat' (first 
    | (with_reducible assumption) | (with_reducible apply keep_answer) | (with_reducible apply keep_finish) 
    | (with_reducible apply keep_used) | (intro _) | (with_reducible apply kept_ite) | (split) | (dsimp only) | (contradiction))

theorem keep_unmask (c : Ctl) (key : Nat × Nat) (s : State) (kq : Kept qq s) : Kept qq (unmask c key s) := by
  unfold unmask
  repeat' (first 
    | (with_reducible assumption) | (with_reducible apply keep_modCtlr) | (intro _) | (with_reducible apply kept_ite) | (split) 
    | (dsimp only) | (contradiction))

theorem keep_logAnswer (c : Cmd) (page : List Nat) (key : Option (Nat × Nat)) (s : State) (kq : Kept qq s) : Kept qq (logAnswer c page key s) := by
  unfold logAnswer
  repeat' (first 
    | (with_reducible assumption) | (with_reducible apply keep_answer) | (with_reducible apply keep_finish) 
    | (with_reducible apply keep_unmask) | (intro _) | (with_reducible apply kept_ite) | (split) | (dsimp only) | (contradiction))

theorem keep_coloLog (c : Cmd) (s : State) (kq : Kept qq s) : Kept qq (coloLog c s) := by
  unfold coloLog
  repeat' (first 
    | (with_reducible assumption) | (with_reducible apply keep_answer) | (with_reducible apply keep_finish) 
    | (with_reducible apply keep_set) | (with_reducible apply keep_unmask) | (intro _) | (with_reducible apply kept_ite) 
    | (split) | (dsimp only) | (contradiction))

theorem keep_saveFeat (c : Ctl) (fid v : Nat) (s : State) (kq : Kept qq s) : Kept qq (saveFeat c fid v s) := by
  unfold saveFeat
  repeat' (first 
    | (with_reducible assumption) | (with_reducible apply keep_modCtlr) | (intro _) | (with_reducible apply kept_ite) | (split) 
    | (dsimp only) | (contradiction))

theorem keep_setSaved (c : Cmd) (fid v : Nat) (f : State → State) (s : State) (hf : ∀ x0, Kept qq x0 → Kept qq (f x0)) (kq : Kept qq s) : Kept qq (setSaved c fid v f s) := by
  unfold setSaved
  repeat' (first 
    | (with_reducible assumption) | (with_reducible apply keep_finish) | (with_reducible apply keep_when) 
    | (with_reducible apply keep_saveFeat) | (with_reducible apply kept_when) | (with_reducible apply hf) | (intro _) 
    | (with_reducible apply kept_ite) | (split) | (dsimp only) | (contradiction))

theorem keep_setPlain (c : Cmd) (f : State → State) (s : State) (hf : ∀ x0, Kept qq x0 → Kept qq (f x0)) (kq : Kept qq s) : Kept qq (setPlain c f s) := by
  unfold setPlain
  repeat' (first 
    | (with_reducible assumption) | (with_reducible apply keep_finish) | (with_reducible apply hf) | (intro _) 
    | (with_reducible apply kept_ite) | (split) | (dsimp only) | (contradiction))

theorem keep_setTler (c : Cmd) (s : State) (kq : Kept qq s) : Kept qq (setTler c s) := by
  unfold setTler
  repeat' (first 
    | (with_reducible assumption) | (with_reducible apply keep_finish) | (with_reducible apply keep_modNs) 
    | (with_reducible apply keep_when) | (with_reducible apply keep_saveFeat) | (with_reducible apply keep_setSaved) 
    | (with_reducible apply kept_when) | (with_reducible apply kept_foldl) | (with_reducible apply kept_foldl_snd) | (intro _) 
    | (with_reducible apply kept_ite) | (split) | (dsimp only) | (contradiction))

theorem keep_setQueues (c : Cmd) (s : State) (kq : Kept qq s) : Kept qq (setQueues c s) := by
  unfold setQueues
  repeat' (first 
    | (with_reducible assumption) | (with_reducible apply keep_finish) | (with_reducible apply keep_finishDw) 
    | (with_reducible apply keep_modCtlr) | (intro _) | (with_reducible apply kept_ite) | (split) | (dsimp only) 
    | (contradiction))

theorem keep_waitCheck (c : Cmd) (b : Nat) (running own : Bool) (s : State) (kq : Kept qq s) : Kept qq (waitCheck c b running own s) := by
  unfold waitCheck
  repeat' (first 
    | (with_reducible assumption) | (with_reducible apply keep_finish) | (with_reducible apply keep_modCmd) | (intro _) 
    | (with_reducible apply kept_ite) | (split) | (dsimp only) | (contradiction))

theorem keep_setLayout (c : Cmd) (s : State) (kq : Kept qq s) : Kept qq (setLayout c s) := by
  unfold setLayout
  repeat' (first 
    | (with_reducible assumption) | (with_reducible apply keep_arbWrite) | (with_reducible apply keep_commitStart) 
    | (with_reducible apply keep_storeReg) | (with_reducible apply keep_waitCheck) | (intro _) | (with_reducible apply kept_ite) 
    | (split) | (dsimp only) | (contradiction))

theorem keep_setDup (c : Cmd) (s : State) (kq : Kept qq s) : Kept qq (setDup c s) := by
  unfold setDup
  repeat' (first 
    | (with_reducible assumption) | (with_reducible apply keep_finish) | (with_reducible apply keep_modNs) | (intro _) 
    | (with_reducible apply kept_ite) | (split) | (dsimp only) | (contradiction))

theorem keep_setKettle (c : Cmd) (s : State) (kq : Kept qq s) : Kept qq (setKettle c s) := by
  unfold setKettle
  repeat' (first 
    | (with_reducible assumption) | (with_reducible apply keep_set) | (with_reducible apply keep_setFlag) 
    | (with_reducible apply keep_arbWrite) | (with_reducible apply keep_ketEnable) | (with_reducible apply keep_waitCheck) 
    | (intro _) | (with_reducible apply kept_ite) | (split) | (dsimp only) | (contradiction))

theorem keep_chanState (act k : Nat) (f : Cmd → Ch → State → State) (s : State) (hf : ∀ x0 x1 x2, Kept qq x2 → Kept qq (f x0 x1 x2)) (kq : Kept qq s) : Kept qq (chanState act k f s) := by
  unfold chanState
  repeat' (first 
    | (with_reducible assumption) | (with_reducible apply keep_finish) | (with_reducible apply hf) | (intro _) 
    | (with_reducible apply kept_ite) | (split) | (dsimp only) | (contradiction))

theorem keep_stateEnable (c : Cmd) (n : Ch) (s : State) (kq : Kept qq s) : Kept qq (stateEnable c n s) := by
  unfold stateEnable
  refine kept_ite (fun _ => keep_chanDomains _ _ _ kq) (fun _ => kept_ite (fun _ => kq)
    (fun _ => kept_ite (fun _ => keep_mgmtStart _ _ kq) (fun _ => ?_)))
  extract_lets t u v
  have h1 : Kept qq t := keep_markStarted _ _ kq
  clear_value t
  have h2 : Kept qq u := kept_ite (fun _ => h1) (fun _ => keep_storeLoad _ _ _ h1)
  clear_value u
  have h3 : Kept qq v := keep_arbWrite _ _ _ (fun _ h => keep_enableStart _ _ h) h2
  clear_value v
  exact keep_waitCheck _ _ _ _ _ h3

theorem keep_stateAct (c : Cmd) (n : Ch) (f : State → State) (s : State) (hf : ∀ x0, Kept qq x0 → Kept qq (f x0)) (kq : Kept qq s) : Kept qq (stateAct c n f s) := by
  unfold stateAct
  repeat' (first 
    | (with_reducible assumption) | (with_reducible apply keep_finish) | (with_reducible apply keep_markStarted) 
    | (with_reducible apply hf) | (intro _) | (with_reducible apply kept_ite) | (split) | (dsimp only) | (contradiction))

theorem keep_statePowerOff (c : Cmd) (n : Ch) (s : State) (kq : Kept qq s) : Kept qq (statePowerOff c n s) := by
  unfold statePowerOff
  repeat' (first 
    | (with_reducible assumption) | (with_reducible apply keep_chanEvent) | (with_reducible apply keep_finish) 
    | (with_reducible apply keep_chanDomains) | (with_reducible apply keep_disableStart) 
    | (with_reducible apply keep_markStarted) | (with_reducible apply keep_motCmd) | (with_reducible apply keep_motStop) 
    | (intro _) | (with_reducible apply kept_ite) | (split) | (dsimp only) | (contradiction))

theorem keep_getFeature (c : Cmd) (s : State) (kq : Kept qq s) : Kept qq (getFeature c s) := by
  unfold getFeature
  repeat' (first 
    | (with_reducible assumption) | (with_reducible apply kept_getD) | (with_reducible apply keep_answer) 
    | (with_reducible apply keep_finish) | (with_reducible apply keep_finishDw) | (intro _) | (with_reducible apply kept_ite) 
    | (split) | (dsimp only) | (contradiction))

theorem keep_eventRequest (c : Cmd) (s : State) (kq : Kept qq s) : Kept qq (eventRequest c s) := by
  unfold eventRequest
  repeat' (first 
    | (with_reducible assumption) | (with_reducible apply keep_finish) | (with_reducible apply keep_modCmd) 
    | (with_reducible apply keep_modCtlr) | (intro _) | (with_reducible apply kept_ite) | (split) | (dsimp only) 
    | (contradiction))

theorem keep_eventPosted (c : Ctl) (s : State) (kq : Kept qq s) : Kept qq (eventPosted c s) := by
  unfold eventPosted
  repeat' (first 
    | (with_reducible assumption) | (with_reducible apply keep_finishDw) | (with_reducible apply keep_modCmd) 
    | (with_reducible apply keep_modCtlr) | (intro _) | (with_reducible apply kept_ite) | (split) | (dsimp only) 
    | (contradiction))

theorem keep_identify (cns k : Nat) (f : Cmd → State → State) (s : State) (hf : ∀ x0 x1, Kept qq x1 → Kept qq (f x0 x1)) (kq : Kept qq s) : Kept qq (identify cns k f s) := by
  unfold identify
  repeat' (first 
    | (with_reducible assumption) | (with_reducible apply keep_adminStart) | (with_reducible apply hf) | (intro _) 
    | (with_reducible apply kept_ite) | (split) | (dsimp only) | (contradiction))

theorem keep_getLog (lid k : Nat) (f : Cmd → State → State) (s : State) (hf : ∀ x0 x1, Kept qq x1 → Kept qq (f x0 x1)) (kq : Kept qq s) : Kept qq (getLog lid k f s) := by
  unfold getLog
  repeat' (first 
    | (with_reducible assumption) | (with_reducible apply keep_adminStart) | (with_reducible apply hf) | (intro _) 
    | (with_reducible apply kept_ite) | (split) | (dsimp only) | (contradiction))

end Sys2Proof.Machine
end

