-- ==== Sys2Proof/Laws/KeepDma.lean ====
section
/-! SUPPORT. The operations of Machine/Dma.lean leave the queue as it is and keep the stores canonical. -/

namespace Sys2Proof.Machine

set_option linter.unusedTactic false
set_option linter.unreachableTactic false

variable {qq : List Instr}

theorem kept_snd {α : Type} {a : α} {t : State} {r : α × State} (e : r = (a, t)) (h : Kept qq r.2) : Kept qq t := by
  rw [e] at h
  exact h

theorem kept_third {α β : Type} {a : α} {b : β} {t : State} {r : α × β × State} (e : r = (a, b, t)) (h : Kept qq r.2.2) : Kept qq t := by
  rw [e] at h
  exact h

theorem keep_beatRead (at_ bytes : Nat) (s : State) (kq : Kept qq s) : Kept qq (beatRead at_ bytes s).2 := by
  unfold beatRead
  repeat' (first 
    | (with_reducible assumption) | (with_reducible apply keep_setupRead) | (with_reducible apply kept_foldl) 
    | (with_reducible apply kept_foldl_snd) | (intro _) 
    | (with_reducible refine kept_snd (r := setupRead _ _ _ ) (by assumption) ?_) 
    | (with_reducible refine kept_snd (r := beatRead _ _ _ ) (by assumption) ?_) | (with_reducible apply kept_dram_run) 
    | (with_reducible apply kept_ite) | (split) | (dsimp only) | (contradiction))

theorem keep_beatWrite (path : RegPath) (at_ : Nat) (bs : List Nat) (s : State) (kq : Kept qq s) : Kept qq (beatWrite path at_ bs s).2 := by
  unfold beatWrite
  repeat' (first 
    | (with_reducible assumption) | (with_reducible apply keep_setupWrite) | (with_reducible apply kept_foldl) 
    | (with_reducible apply kept_foldl_snd) | (intro _) 
    | (with_reducible refine kept_snd (r := beatWrite _ _ _ _ ) (by assumption) ?_) | (with_reducible apply kept_dram_run) 
    | (with_reducible apply kept_ite) | (split) | (dsimp only) | (contradiction))

theorem keep_freeBytes (n : Nat) (s : State) (kq : Kept qq s) : Kept qq (freeBytes n s).2 := by
  unfold freeBytes
  repeat' (first 
    | (with_reducible assumption) | (with_reducible apply keep_used) | (with_reducible apply kept_foldl) 
    | (with_reducible apply kept_foldl_snd) | (intro _) 
    | (with_reducible refine kept_snd (r := freeBytes _ _ ) (by assumption) ?_) | (with_reducible apply kept_ite) | (split) 
    | (dsimp only) | (contradiction))

theorem keep_beatSpoil (path : RegPath) (at_ n : Nat) (s : State) (kq : Kept qq s) : Kept qq (beatSpoil path at_ n s) := by
  unfold beatSpoil
  repeat' (first 
    | (with_reducible assumption) | (with_reducible apply keep_beatWrite) | (with_reducible apply keep_freeBytes) | (intro _) 
    | (with_reducible refine kept_snd (r := freeBytes _ _ ) (by assumption) ?_) 
    | (with_reducible refine kept_snd (r := beatWrite _ _ _ _ ) (by assumption) ?_) | (with_reducible apply kept_ite) | (split) 
    | (dsimp only) | (contradiction))

theorem keep_readBeats (d : DmaDesc) (rdErr : List Nat) (y0 : List Nat) (y1 : State) (kq : Kept qq y1) : Kept qq (readBeats d rdErr y0 y1).2.2 := by
  induction y0 generalizing y1 d rdErr with
  | nil =>
    unfold readBeats
    repeat' (first 
    | (with_reducible assumption) | (with_reducible apply keep_beatRead) | (intro _) 
    | (with_reducible refine kept_snd (r := beatRead _ _ _ ) (by assumption) ?_) 
    | (with_reducible refine kept_third (r := readBeats _ _ _ _ ) (by assumption) ?_) | (with_reducible apply kept_ite) | (split) 
    | (dsimp only) | (contradiction))
  | cons a l ih =>
    unfold readBeats
    repeat' (first 
    | (with_reducible assumption) | (with_reducible apply ih) | (with_reducible apply keep_beatRead) | (intro _) 
    | (with_reducible refine kept_snd (r := beatRead _ _ _ ) (by assumption) ?_) 
    | (with_reducible refine kept_third (r := readBeats _ _ _ _ ) (by assumption) ?_) | (with_reducible apply kept_ite) | (split) 
    | (dsimp only) | (contradiction))

theorem keep_writeBeats (c : Ch) (d : DmaDesc) (wrErr : List Nat) (limit : Nat) (y0 : Nat) (y1 : List Nat) (y2 : DmaRun) (y3 : State) (kq : Kept qq y3) : Kept qq (writeBeats c d wrErr limit y0 y1 y2 y3).2 := by
  induction y0 generalizing y1 y2 y3 c d wrErr limit with
  | zero =>
    unfold writeBeats
    repeat' (first 
    | (with_reducible assumption) | (with_reducible apply keep_used) | (with_reducible apply keep_when) 
    | (with_reducible apply keep_beatSpoil) | (with_reducible apply keep_beatWrite) | (with_reducible apply kept_when) 
    | (intro _) | (with_reducible refine kept_snd (r := beatWrite _ _ _ _ ) (by assumption) ?_) 
    | (with_reducible refine kept_snd (r := writeBeats _ _ _ _ _ _ _ _ ) (by assumption) ?_) | (with_reducible apply kept_ite) 
    | (split) | (dsimp only) | (contradiction))
  | succ k ih =>
    unfold writeBeats
    repeat' (first 
    | (with_reducible assumption) | (with_reducible apply ih) | (with_reducible apply keep_used) 
    | (with_reducible apply keep_when) | (with_reducible apply keep_beatSpoil) | (with_reducible apply keep_beatWrite) 
    | (with_reducible apply kept_when) | (intro _) 
    | (with_reducible refine kept_snd (r := beatWrite _ _ _ _ ) (by assumption) ?_) 
    | (with_reducible refine kept_snd (r := writeBeats _ _ _ _ _ _ _ _ ) (by assumption) ?_) | (with_reducible apply kept_ite) 
    | (split) | (dsimp only) | (contradiction))

theorem keep_copyChunks (c : Ch) (d : DmaDesc) (rdErr wrErr : List Nat) (limit : Nat) (y0 : Nat) (y1 : Nat) (y2 : DmaRun) (y3 : State) (kq : Kept qq y3) : Kept qq (copyChunks c d rdErr wrErr limit y0 y1 y2 y3).2 := by
  induction y0 generalizing y1 y2 y3 c d rdErr wrErr limit with
  | zero =>
    unfold copyChunks
    repeat' (first 
    | (with_reducible assumption) | (with_reducible apply keep_readBeats) | (with_reducible apply keep_writeBeats) | (intro _) 
    | (with_reducible refine kept_snd (r := writeBeats _ _ _ _ _ _ _ _ ) (by assumption) ?_) 
    | (with_reducible refine kept_third (r := readBeats _ _ _ _ ) (by assumption) ?_) 
    | (with_reducible refine kept_snd (r := copyChunks _ _ _ _ _ _ _ _ _ ) (by assumption) ?_) | (with_reducible apply kept_ite) 
    | (split) | (dsimp only) | (contradiction))
  | succ k ih =>
    unfold copyChunks
    repeat' (first 
    | (with_reducible assumption) | (with_reducible apply ih) | (with_reducible apply keep_readBeats) 
    | (with_reducible apply keep_writeBeats) | (intro _) 
    | (with_reducible refine kept_snd (r := writeBeats _ _ _ _ _ _ _ _ ) (by assumption) ?_) 
    | (with_reducible refine kept_third (r := readBeats _ _ _ _ ) (by assumption) ?_) 
    | (with_reducible refine kept_snd (r := copyChunks _ _ _ _ _ _ _ _ _ ) (by assumption) ?_) | (with_reducible apply kept_ite) 
    | (split) | (dsimp only) | (contradiction))

theorem keep_dmaCopy (c : Ch) (rdErr wrErr : List Nat) (limit : Nat) (s : State) (kq : Kept qq s) : Kept qq (dmaCopy c rdErr wrErr limit s).2 := by
  unfold dmaCopy
  repeat' (first 
    | (with_reducible assumption) | (with_reducible apply keep_copyChunks) | (intro _) 
    | (with_reducible refine kept_snd (r := copyChunks _ _ _ _ _ _ _ _ _ ) (by assumption) ?_) 
    | (with_reducible refine kept_snd (r := dmaCopy _ _ _ _ _ ) (by assumption) ?_) | (with_reducible apply kept_ite) | (split) 
    | (dsimp only) | (contradiction))

theorem keep_dmaResult (d : DmaDesc) (r : DmaRun) (s : State) (kq : Kept qq s) : Kept qq (dmaResult d r s).2.2 := by
  unfold dmaResult
  repeat' (first 
    | (with_reducible assumption) | (with_reducible apply keep_used) | (intro _) 
    | (with_reducible refine kept_third (r := dmaResult _ _ _ ) (by assumption) ?_) | (with_reducible apply kept_ite) | (split) 
    | (dsimp only) | (contradiction))

theorem keep_dmaStop (y0 : Nat) (y1 : List Ch) (y2 : State) (kq : Kept qq y2) : Kept qq (dmaStop y0 y1 y2) := by
  induction y0 generalizing y1 y2 with
  | zero => exact kq
  | succ k ih =>
    cases y1 with
    | nil => exact kq
    | cons c cs =>
      exact kept_ite (fun _ => ih _ _ kq) (fun _ => ih _ _ (keep_dmaEnd _ _ _ _ (keep_dmaCopy _ _ _ _ _ (keep_used _ kq))))

theorem keep_dmaDone (c : Ch) (rdErr wrErr : List Nat) (s : State) (kq : Kept qq s) : Kept qq (dmaDone c rdErr wrErr s) := by
  unfold dmaDone
  repeat' (first 
    | (with_reducible assumption) | (with_reducible apply keep_dmaCopy) | (with_reducible apply keep_dmaEnd) 
    | (with_reducible apply keep_dmaKick) | (with_reducible apply keep_dmaResult) | (with_reducible apply keep_dmaStop) 
    | (intro _) | (with_reducible refine kept_snd (r := dmaCopy _ _ _ _ _ ) (by assumption) ?_) 
    | (with_reducible refine kept_third (r := dmaResult _ _ _ ) (by assumption) ?_) | (with_reducible apply kept_ite) | (split) 
    | (dsimp only) | (contradiction))

theorem keep_dmaAbort (c : Ch) (done : Nat) (s : State) (kq : Kept qq s) : Kept qq (dmaAbort c done s) := by
  unfold dmaAbort
  repeat' (first 
    | (with_reducible assumption) | (with_reducible apply keep_dmaCopy) | (with_reducible apply keep_dmaEnd) 
    | (with_reducible apply keep_dmaStop) | (intro _) 
    | (with_reducible refine kept_snd (r := dmaCopy _ _ _ _ _ ) (by assumption) ?_) | (with_reducible apply kept_ite) | (split) 
    | (dsimp only) | (contradiction))

theorem keep_regWriteAll (path : RegPath) (a bytes v : Nat) (s : State) (kq : Kept qq s) : Kept qq (regWriteAll path a bytes v s).1 := by
  unfold regWriteAll
  repeat' (first 
    | (with_reducible assumption) | (with_reducible apply keep_used) | (with_reducible apply keep_dmaAbort) 
    | (with_reducible apply keep_setupWrite) | (intro _) | (with_reducible apply kept_ite) | (split) | (dsimp only) 
    | (contradiction))

theorem keep_sideWrite (a bytes v : Nat) (s : State) (kq : Kept qq s) : Kept qq (sideWrite a bytes v s) := by
  unfold sideWrite
  repeat' (first 
    | (with_reducible assumption) | (with_reducible apply keep_breakSeq) | (with_reducible apply keep_regWriteAll) 
    | (with_reducible apply keep_sideAnswer) | (intro _) | (with_reducible apply kept_ite) | (split) | (dsimp only) 
    | (contradiction))

end Sys2Proof.Machine
end

