-- ==== Sys2Proof/Laws/KeepMi.lean ====
section
/-! SUPPORT. The operations of Machine/Mi.lean leave the queue as it is and keep the stores canonical. -/

namespace Sys2Proof.Machine

set_option linter.unusedTactic false
set_option linter.unreachableTactic false

variable {qq : List Instr}

theorem keep_overSideband (f : State → State) (s : State) (hf : ∀ x0, Kept qq x0 → Kept qq (f x0)) (kq : Kept qq s) : Kept qq (overSideband f s) := by
  unfold overSideband
  repeat' (first 
    | (with_reducible assumption) | (with_reducible apply hf) | (intro _) | (with_reducible apply kept_ite) | (split) 
    | (dsimp only) | (contradiction))

theorem keep_confSet (ident v : Nat) (s : State) (kq : Kept qq s) : Kept qq (confSet ident v s).2 := by
  unfold confSet
  repeat' (first 
    | (with_reducible assumption) | (with_reducible apply keep_modHost) | (intro _) 
    | (with_reducible refine kept_snd (r := confSet _ _ _ ) (by assumption) ?_) | (with_reducible apply kept_ite) | (split) 
    | (dsimp only) | (contradiction))

theorem keep_miOpen (n : Nat) (s : State) (kq : Kept qq s) : Kept qq (miOpen n s) := by
  unfold miOpen
  repeat' (first 
    | (with_reducible assumption) | (with_reducible apply keep_used) | (with_reducible apply keep_sideAnswer) | (intro _) 
    | (with_reducible apply kept_ite) | (split) | (dsimp only) | (contradiction))

theorem keep_miAdmin (c : Ctl) (e : Sqe) (s : State) (kq : Kept qq s) : Kept qq (miAdmin c e s) := by
  unfold miAdmin
  repeat' (first 
    | (with_reducible assumption) | (with_reducible apply keep_addCmd) | (with_reducible apply keep_sideAnswer) | (intro _) 
    | (with_reducible apply kept_ite) | (split) | (dsimp only) | (contradiction))

theorem keep_miSend (c : Cmd) (s : State) (kq : Kept qq s) : Kept qq (miSend c s) := by
  unfold miSend
  repeat' (first 
    | (with_reducible assumption) | (with_reducible apply keep_finishDw) | (with_reducible apply keep_confSet) | (intro _) 
    | (with_reducible refine kept_snd (r := confSet _ _ _ ) (by assumption) ?_) | (with_reducible apply kept_ite) | (split) 
    | (dsimp only) | (contradiction))

theorem keep_miReceive (c : Cmd) (s : State) (kq : Kept qq s) : Kept qq (miReceive c s) := by
  unfold miReceive
  repeat' (first 
    | (with_reducible assumption) | (with_reducible apply keep_answer) | (with_reducible apply keep_finishDw) 
    | (with_reducible apply keep_used) | (intro _) | (with_reducible apply kept_ite) | (split) | (dsimp only) | (contradiction))

theorem keep_modI3c (f : I3c → I3c) (s : State) (kq : Kept qq s) : Kept qq (modI3c f s) := by
  unfold modI3c
  repeat' (first 
    | (with_reducible assumption) | (with_reducible apply keep_modHost) | (intro _) | (with_reducible apply kept_ite) | (split) 
    | (dsimp only) | (contradiction))

theorem keep_i3cAnswer (bs : List Nat) (s : State) (kq : Kept qq s) : Kept qq (i3cAnswer bs s) := by
  unfold i3cAnswer
  repeat' (first 
    | (with_reducible assumption) | (with_reducible apply keep_modI3c) | (intro _) | (with_reducible apply kept_ite) | (split) 
    | (dsimp only) | (contradiction))

theorem keep_i3cSet (f : I3c → I3c) (s : State) (kq : Kept qq s) : Kept qq (i3cSet f s) := by
  unfold i3cSet
  repeat' (first 
    | (with_reducible assumption) | (with_reducible apply keep_modI3c) | (intro _) | (with_reducible apply kept_ite) | (split) 
    | (dsimp only) | (contradiction))

end Sys2Proof.Machine
end

