-- ==== Sys2Proof/Laws/KeepNsm.lean ====
section
/-! SUPPORT. The operations of Machine/Nsm.lean leave the queue as it is and keep the stores canonical. -/

namespace Sys2Proof.Machine

set_option linter.unusedTactic false
set_option linter.unreachableTactic false

variable {qq : List Instr}

theorem keep_dropNsWork (v : Ns) (s : State) (kq : Kept qq s) : Kept qq (dropNsWork v s) := by
  unfold dropNsWork
  repeat' (first 
    | (with_reducible assumption) | (with_reducible apply keep_each) | (with_reducible apply keep_modHost) 
    | (with_reducible apply keep_modSched) | (with_reducible apply keep_cancelLadder) | (with_reducible apply keep_dropBuf) 
    | (with_reducible apply keep_dropRewrites) | (with_reducible apply keep_specDrop) | (with_reducible apply keep_warmDrop) 
    | (with_reducible apply kept_each) | (intro _) | (with_reducible apply kept_ite) | (split) | (dsimp only) | (contradiction))

theorem keep_nextGen (nsid : Nat) (s : State) (kq : Kept qq s) : Kept qq (nextGen nsid s) := by
  unfold nextGen
  repeat' (first 
    | (with_reducible assumption) | (with_reducible apply keep_modFly) | (with_reducible apply keep_set) 
    | (with_reducible apply keep_bkSync) | (with_reducible apply keep_flyPush) | (intro _) | (with_reducible apply kept_ite) 
    | (split) | (dsimp only) | (contradiction))

theorem keep_nsChanged (nsid : Nat) (cs : List Ctl) (s : State) (kq : Kept qq s) : Kept qq (nsChanged nsid cs s) := by
  unfold nsChanged
  repeat' (first 
    | (with_reducible assumption) | (with_reducible apply keep_aen) | (with_reducible apply keep_each) 
    | (with_reducible apply keep_modCtlr) | (with_reducible apply kept_each) | (intro _) | (with_reducible apply kept_ite) 
    | (split) | (dsimp only) | (contradiction))

theorem keep_nsCreate (d : NsDesc) (c : Cmd) (s : State) (kq : Kept qq s) : Kept qq (nsCreate d c s) := by
  unfold nsCreate
  repeat' (first 
    | (with_reducible assumption) | (with_reducible apply keep_finish) | (with_reducible apply keep_finishDw) 
    | (with_reducible apply keep_modHost) | (with_reducible apply keep_modSched) | (with_reducible apply keep_defectSync) 
    | (with_reducible apply keep_nextGen) | (intro _) | (with_reducible apply kept_ite) | (split) | (dsimp only) 
    | (contradiction))

theorem keep_nsDeleteOne (k : Nat) (v : Ns) (s : State) (kq : Kept qq s) : Kept qq (nsDeleteOne k v s) := by
  unfold nsDeleteOne
  repeat' (first 
    | (with_reducible assumption) | (with_reducible apply keep_each) | (with_reducible apply keep_modHost) 
    | (with_reducible apply keep_modSched) | (with_reducible apply keep_dropNsWork) | (with_reducible apply keep_failCmd) 
    | (with_reducible apply keep_invalidateNs) | (with_reducible apply keep_nextGen) | (with_reducible apply keep_nsChanged) 
    | (with_reducible apply keep_pump) | (with_reducible apply kept_each) | (intro _) | (with_reducible apply kept_ite) | (split) 
    | (dsimp only) | (contradiction))

theorem keep_nsDelete (k : Nat) (s : State) (kq : Kept qq s) : Kept qq (nsDelete k s) := by
  unfold nsDelete
  repeat' (first 
    | (with_reducible assumption) | (with_reducible apply keep_each) | (with_reducible apply keep_finish) 
    | (with_reducible apply keep_markStarted) | (with_reducible apply keep_nsDeleteOne) | (with_reducible apply kept_each) 
    | (intro _) | (with_reducible apply kept_ite) | (split) | (dsimp only) | (contradiction))

theorem keep_nsAttach (on : Bool) (cs : List Ctl) (c : Cmd) (s : State) (kq : Kept qq s) : Kept qq (nsAttach on cs c s) := by
  unfold nsAttach
  repeat' (first 
    | (with_reducible assumption) | (with_reducible apply keep_finish) | (with_reducible apply keep_modNs) 
    | (with_reducible apply keep_nsChanged) | (intro _) | (with_reducible apply kept_ite) | (split) | (dsimp only) 
    | (contradiction))

theorem keep_imageDownload (img : Image) (c : Cmd) (s : State) (kq : Kept qq s) : Kept qq (imageDownload img c s) := by
  unfold imageDownload
  repeat' (first 
    | (with_reducible assumption) | (with_reducible apply keep_finish) | (intro _) | (with_reducible apply kept_ite) | (split) 
    | (dsimp only) | (contradiction))

theorem keep_imageCommit (write act : Bool) (c : Cmd) (s : State) (kq : Kept qq s) : Kept qq (imageCommit write act c s) := by
  unfold imageCommit
  repeat' (first 
    | (with_reducible assumption) | (with_reducible apply keep_finish) | (with_reducible apply keep_record) 
    | (with_reducible apply keep_set) | (intro _) | (with_reducible apply kept_ite) | (split) | (dsimp only) | (contradiction))

theorem keep_testSettle (s : State) (kq : Kept qq s) : Kept qq (testSettle s) := by
  unfold testSettle
  repeat' (first 
    | (with_reducible assumption) | (with_reducible apply keep_modHost) | (with_reducible apply keep_used) | (intro _) 
    | (with_reducible apply kept_ite) | (split) | (dsimp only) | (contradiction))

theorem keep_testStart (code : Nat) (c : Cmd) (s : State) (kq : Kept qq s) : Kept qq (testStart code c s) := by
  unfold testStart
  repeat' (first 
    | (with_reducible assumption) | (with_reducible apply keep_finish) | (with_reducible apply keep_modHost) 
    | (with_reducible apply keep_testSettle) | (intro _) | (with_reducible apply kept_ite) | (split) | (dsimp only) 
    | (contradiction))

theorem keep_testAbort (c : Cmd) (s : State) (kq : Kept qq s) : Kept qq (testAbort c s) := by
  unfold testAbort
  repeat' (first 
    | (with_reducible assumption) | (with_reducible apply keep_finish) | (with_reducible apply keep_modHost) 
    | (with_reducible apply keep_testSettle) | (intro _) | (with_reducible apply kept_ite) | (split) | (dsimp only) 
    | (contradiction))

theorem keep_eraseNs (k : Nat) (v : Ns) (s : State) (kq : Kept qq s) : Kept qq (eraseNs k v s) := by
  unfold eraseNs
  repeat' (first 
    | (with_reducible assumption) | (with_reducible apply keep_modCmd) | (with_reducible apply keep_modFly) 
    | (with_reducible apply keep_modNs) | (with_reducible apply keep_dropNsWork) | (with_reducible apply keep_flyPush) 
    | (with_reducible apply keep_invalidateNs) | (with_reducible apply keep_unlive) | (intro _) | (with_reducible apply kept_ite) 
    | (split) | (dsimp only) | (contradiction))

theorem keep_formatNvm (k : Nat) (s : State) (kq : Kept qq s) : Kept qq (formatNvm k s) := by
  unfold formatNvm
  repeat' (first 
    | (with_reducible assumption) | (with_reducible apply keep_each) | (with_reducible apply keep_finish) 
    | (with_reducible apply keep_modNs) | (with_reducible apply keep_eraseNs) | (with_reducible apply keep_markStarted) 
    | (with_reducible apply keep_nsChanged) | (with_reducible apply keep_pump) | (with_reducible apply kept_each) | (intro _) 
    | (with_reducible apply kept_ite) | (split) | (dsimp only) | (contradiction))

theorem keep_sanitize (k : Nat) (s : State) (kq : Kept qq s) : Kept qq (sanitize k s) := by
  unfold sanitize
  repeat' (first 
    | (with_reducible assumption) | (with_reducible apply keep_each) | (with_reducible apply keep_modHost) 
    | (with_reducible apply keep_eraseNs) | (with_reducible apply keep_markStarted) | (with_reducible apply keep_pump) 
    | (with_reducible apply kept_each) | (intro _) | (with_reducible apply kept_ite) | (split) | (dsimp only) | (contradiction))

theorem keep_resStart (opc : Byte) (k : Nat) (f : Cmd → Ns → State → State) (s : State) (hf : ∀ x0 x1 x2, Kept qq x2 → Kept qq (f x0 x1 x2)) (kq : Kept qq s) : Kept qq (resStart opc k f s) := by
  unfold resStart
  repeat' (first 
    | (with_reducible assumption) | (with_reducible apply keep_finish) | (with_reducible apply keep_markStarted) 
    | (with_reducible apply hf) | (intro _) | (with_reducible apply kept_ite) | (split) | (dsimp only) | (contradiction))

theorem keep_resNotify (typ : Nat) (v : Ns) (hosts : List Nat) (s : State) (kq : Kept qq s) : Kept qq (resNotify typ v hosts s) := by
  unfold resNotify
  repeat' (first 
    | (with_reducible assumption) | (with_reducible apply keep_aen) | (with_reducible apply keep_each) 
    | (with_reducible apply keep_modCtlr) | (with_reducible apply kept_each) | (intro _) | (with_reducible apply kept_ite) 
    | (split) | (dsimp only) | (contradiction))

theorem keep_setResv (v : Ns) (r : Resv) (s : State) (kq : Kept qq s) : Kept qq (setResv v r s) := by
  unfold setResv
  repeat' (first 
    | (with_reducible assumption) | (with_reducible apply keep_modNs) | (intro _) | (with_reducible apply kept_ite) | (split) 
    | (dsimp only) | (contradiction))

theorem keep_resRelease (v : Ns) (h : Nat) (r : Resv) (s : State) (kq : Kept qq s) : Kept qq (resRelease v h r s).2 := by
  unfold resRelease
  repeat' (first 
    | (with_reducible assumption) | (with_reducible apply keep_resNotify) | (intro _) 
    | (with_reducible refine kept_snd (r := resRelease _ _ _ _ ) (by assumption) ?_) | (with_reducible apply kept_regs_set) 
    | (with_reducible apply kept_regs_clear) | (with_reducible apply kept_ite) | (split) | (dsimp only) | (contradiction))

theorem keep_resRegister (act : ResRegAct) (crkey nrkey : Nat) (c : Cmd) (v : Ns) (s : State) (kq : Kept qq s) : Kept qq (resRegister act crkey nrkey c v s) := by
  unfold resRegister
  repeat' (first 
    | (with_reducible assumption) | (with_reducible apply keep_finish) | (with_reducible apply keep_resRelease) 
    | (with_reducible apply keep_setResv) | (intro _) 
    | (with_reducible refine kept_snd (r := resRelease _ _ _ _ ) (by assumption) ?_) | (with_reducible apply kept_regs_set) 
    | (with_reducible apply kept_regs_clear) | (with_reducible apply kept_ite) | (split) | (dsimp only) | (contradiction))

theorem keep_resAbort (v : Ns) (hosts : List Nat) (s : State) (kq : Kept qq s) : Kept qq (resAbort v hosts s) := by
  unfold resAbort
  repeat' (first 
    | (with_reducible assumption) | (with_reducible apply keep_each) | (with_reducible apply keep_abortCmd) 
    | (with_reducible apply kept_each) | (intro _) | (with_reducible apply kept_ite) | (split) | (dsimp only) | (contradiction))

theorem keep_resPreempt (abort : Bool) (rtype : ResType) (prkey h : Nat) (c : Cmd) (v : Ns) (s : State) (kq : Kept qq s) : Kept qq (resPreempt abort rtype prkey h c v s) := by
  unfold resPreempt
  repeat' (first 
    | (with_reducible assumption) | (with_reducible apply keep_finish) | (with_reducible apply keep_when) 
    | (with_reducible apply keep_resAbort) | (with_reducible apply keep_resNotify) | (with_reducible apply keep_setResv) 
    | (with_reducible apply kept_when) | (intro _) | (with_reducible apply kept_regs_set) 
    | (with_reducible apply kept_regs_clear) | (with_reducible apply kept_ite) | (split) | (dsimp only) | (contradiction))

theorem keep_resAcquire (act : ResAcqAct) (rtype : ResType) (crkey prkey : Nat) (c : Cmd) (v : Ns) (s : State) (kq : Kept qq s) : Kept qq (resAcquire act rtype crkey prkey c v s) := by
  unfold resAcquire
  repeat' (first 
    | (with_reducible assumption) | (with_reducible apply keep_finish) | (with_reducible apply keep_resPreempt) 
    | (with_reducible apply keep_setResv) | (intro _) | (with_reducible apply kept_ite) | (split) | (dsimp only) 
    | (contradiction))

theorem keep_resReleaseCmd (act : ResRelAct) (crkey : Nat) (c : Cmd) (v : Ns) (s : State) (kq : Kept qq s) : Kept qq (resReleaseCmd act crkey c v s) := by
  unfold resReleaseCmd
  repeat' (first 
    | (with_reducible assumption) | (with_reducible apply keep_finish) | (with_reducible apply keep_release) 
    | (with_reducible apply keep_resNotify) | (with_reducible apply keep_resRelease) | (with_reducible apply keep_setResv) 
    | (intro _) | (with_reducible refine kept_snd (r := resRelease _ _ _ _ ) (by assumption) ?_) 
    | (with_reducible apply kept_regs_set) | (with_reducible apply kept_regs_clear) | (with_reducible apply kept_ite) | (split) 
    | (dsimp only) | (contradiction))

theorem keep_resReport (c : Cmd) (v : Ns) (s : State) (kq : Kept qq s) : Kept qq (resReport c v s) := by
  unfold resReport
  repeat' (first 
    | (with_reducible assumption) | (with_reducible apply keep_answer) | (with_reducible apply keep_finish) | (intro _) 
    | (with_reducible apply kept_ite) | (split) | (dsimp only) | (contradiction))

end Sys2Proof.Machine
end

