-- ==== Sys2Proof/Laws/KeepPower.lean ====
section
/-! SUPPORT. The operations of Machine/Power.lean leave the queue as it is and keep the stores canonical. -/

namespace Sys2Proof.Machine

set_option linter.unusedTactic false
set_option linter.unreachableTactic false

variable {qq : List Instr}

theorem keep_plossChan (n : Ch) (s : State) (kq : Kept qq s) : Kept qq (plossChan n s) := by
  unfold plossChan
  repeat' (first 
    | (with_reducible assumption) | (with_reducible apply keep_each) | (with_reducible apply keep_when) 
    | (with_reducible apply keep_parkHeads) | (with_reducible apply keep_powerTrap) | (with_reducible apply keep_rectify) 
    | (with_reducible apply kept_each) | (with_reducible apply kept_when) | (intro _) | (with_reducible apply kept_ite) | (split) 
    | (dsimp only) | (contradiction))

theorem keep_powerLoss (rail : Bool) (s : State) (kq : Kept qq s) : Kept qq (powerLoss rail s) := by
  unfold powerLoss
  repeat' (first 
    | (with_reducible assumption) | (with_reducible apply keep_each) | (with_reducible apply keep_raise) 
    | (with_reducible apply keep_set) | (with_reducible apply keep_setFlag) | (with_reducible apply keep_used) 
    | (with_reducible apply keep_plossChan) | (with_reducible apply keep_setDom) | (with_reducible apply keep_setLocks) 
    | (with_reducible apply kept_each) | (intro _) | (with_reducible apply kept_ite) | (split) | (dsimp only) | (contradiction))

theorem keep_vholdLow (s : State) (kq : Kept qq s) : Kept qq (vholdLow s) := by
  unfold vholdLow
  repeat' (first 
    | (with_reducible assumption) | (with_reducible apply keep_set) | (with_reducible apply keep_flyLast) | (intro _) 
    | (with_reducible apply kept_ite) | (split) | (dsimp only) | (contradiction))

theorem keep_pllLost (p : PllId) (s : State) (kq : Kept qq s) : Kept qq (pllLost p s) := by
  unfold pllLost
  repeat' (first 
    | (with_reducible assumption) | (with_reducible apply keep_raise) | (with_reducible apply keep_setBit) | (intro _) 
    | (with_reducible apply kept_ite) | (split) | (dsimp only) | (contradiction))

theorem keep_tempSample (t : Vector Int 9) (s : State) (kq : Kept qq s) : Kept qq (tempSample t s) := by
  unfold tempSample
  repeat' (first 
    | (with_reducible assumption) | (with_reducible apply keep_raise) | (with_reducible apply keep_set) | (intro _) 
    | (with_reducible apply kept_ite) | (split) | (dsimp only) | (contradiction))

end Sys2Proof.Machine
end

