-- ==== Sys2Proof/Laws/KeepExec.lean ====
section
/-! SUPPORT. What one command keeps: its next state has the queue that it was given, and canonical stores. One lemma for each
meaning. -/

namespace Sys2Proof.Machine

set_option linter.unusedTactic false
set_option linter.unreachableTactic false

variable {qq : List Instr}

theorem kept_of_next {s t : State} (e : (Host.Outcome.next s : Host.Outcome State Fault Refusal) = .next t) (h : Kept qq s) : Kept qq t := by
  injection e with e
  exact e ▸ h

theorem kept_execColoMirrorPage (ok : Bool) (s : State) (u : State) (e : execColoMirrorPage ok s = .next u) (kq : Kept qq s) : Kept qq u := by
  unfold execColoMirrorPage at e
  refine kept_of_next e ?_
  repeat' (first 
    | (with_reducible assumption) | (with_reducible apply keep_coloMirror) | (intro _) | (with_reducible apply kept_ite) 
    | (split) | (dsimp only))

theorem kept_execColoReservationExtend (s : State) (u : State) (e : execColoReservationExtend s = .next u) (kq : Kept qq s) : Kept qq u := by
  unfold execColoReservationExtend at e
  refine kept_of_next e ?_
  repeat' (first 
    | (with_reducible assumption) | (with_reducible apply keep_coloExtend) | (intro _) | (with_reducible apply kept_ite) 
    | (split) | (dsimp only))

theorem kept_execColoChallengeRead (s : State) (u : State) (e : execColoChallengeRead s = .next u) (kq : Kept qq s) : Kept qq u := by
  unfold execColoChallengeRead at e
  refine kept_of_next e ?_
  repeat' (first 
    | (with_reducible assumption) | (with_reducible apply keep_coloChallenge) | (intro _) | (with_reducible apply kept_ite) 
    | (split) | (dsimp only))

theorem kept_execColoLockoutEnd (s : State) (u : State) (e : execColoLockoutEnd s = .next u) (kq : Kept qq s) : Kept qq u := by
  unfold execColoLockoutEnd at e
  refine kept_of_next e ?_
  repeat' (first 
    | (with_reducible assumption) | (with_reducible apply keep_coloUnlock) | (intro _) | (with_reducible apply kept_ite) 
    | (split) | (dsimp only))

theorem kept_execReamAlloc (id : ReamId) (use : Fin 9) (n : Nat) (s : State) (u : State) (e : execReamAlloc id use n s = .next u) (kq : Kept qq s) : Kept qq u := by
  unfold execReamAlloc at e
  refine kept_of_next e ?_
  repeat' (first 
    | (with_reducible assumption) | (with_reducible apply keep_alloc) | (intro _) 
    | (with_reducible refine kept_snd (r := alloc _ _ _ _ _ ) (by assumption) ?_) | (with_reducible apply kept_ite) | (split) 
    | (dsimp only))

theorem kept_execReamShare (id : ReamId) (h : W32) (s : State) (u : State) (e : execReamShare id h s = .next u) (kq : Kept qq s) : Kept qq u := by
  unfold execReamShare at e
  refine kept_of_next e ?_
  repeat' (first 
    | (with_reducible assumption) | (with_reducible apply keep_share) | (intro _) | (with_reducible apply kept_ite) | (split) 
    | (dsimp only))

theorem kept_execReamRelease (id : ReamId) (h : W32) (s : State) (u : State) (e : execReamRelease id h s = .next u) (kq : Kept qq s) : Kept qq u := by
  unfold execReamRelease at e
  refine kept_of_next e ?_
  repeat' (first 
    | (with_reducible assumption) | (with_reducible apply keep_release) | (intro _) | (with_reducible apply kept_ite) | (split) 
    | (dsimp only))

theorem kept_execReamFree (id : ReamId) (h : W32) (s : State) (u : State) (e : execReamFree id h s = .next u) (kq : Kept qq s) : Kept qq u := by
  unfold execReamFree at e
  refine kept_of_next e ?_
  repeat' (first 
    | (with_reducible assumption) | (with_reducible apply keep_freeBuf) | (intro _) | (with_reducible apply kept_ite) | (split) 
    | (dsimp only))

theorem kept_execReamGive (id : ReamId) (h : W32) (dst : ReamId) (s : State) (u : State) (e : execReamGive id h dst s = .next u) (kq : Kept qq s) : Kept qq u := by
  unfold execReamGive at e
  refine kept_of_next e ?_
  repeat' (first 
    | (with_reducible assumption) | (with_reducible apply keep_give) | (intro _) | (with_reducible apply kept_ite) | (split) 
    | (dsimp only))

theorem kept_execReamRefill (pool : PoolId) (s : State) (u : State) (e : execReamRefill pool s = .next u) (kq : Kept qq s) : Kept qq u := by
  unfold execReamRefill at e
  refine kept_of_next e ?_
  repeat' (first 
    | (with_reducible assumption) | (with_reducible apply keep_refill) | (intro _) | (with_reducible apply kept_ite) | (split) 
    | (dsimp only))

theorem kept_execReamSpill (pool : PoolId) (s : State) (u : State) (e : execReamSpill pool s = .next u) (kq : Kept qq s) : Kept qq u := by
  unfold execReamSpill at e
  refine kept_of_next e ?_
  repeat' (first 
    | (with_reducible assumption) | (with_reducible apply keep_spill) | (intro _) | (with_reducible apply kept_ite) | (split) 
    | (dsimp only))

theorem kept_execReamAuditDone (pool : PoolId) (s : State) (u : State) (e : execReamAuditDone pool s = .next u) (kq : Kept qq s) : Kept qq u := by
  unfold execReamAuditDone at e
  refine kept_of_next e ?_
  repeat' (first 
    | (with_reducible assumption) | (with_reducible apply keep_auditDone) | (intro _) | (with_reducible apply kept_ite) | (split) 
    | (dsimp only))

theorem kept_execReamChannelReclaim (n : Ch) (s : State) (u : State) (e : execReamChannelReclaim n s = .next u) (kq : Kept qq s) : Kept qq u := by
  unfold execReamChannelReclaim at e
  refine kept_of_next e ?_
  repeat' (first 
    | (with_reducible assumption) | (with_reducible apply keep_reclaim) | (intro _) | (with_reducible apply kept_ite) | (split) 
    | (dsimp only))

theorem kept_execCacheFill (nsid line fillId : Nat) (blks : List (Nat × Block)) (s : State) (u : State) (e : execCacheFill nsid line fillId blks s = .next u) (kq : Kept qq s) : Kept qq u := by
  unfold execCacheFill at e
  refine kept_of_next e ?_
  repeat' (first 
    | (with_reducible assumption) | (with_reducible apply keep_cacheFill) | (intro _) | (with_reducible apply kept_ite) | (split) 
    | (dsimp only))

theorem kept_execCacheOfferDecided (sn way : Nat) (accepted : Bool) (s : State) (u : State) (e : execCacheOfferDecided sn way accepted s = .next u) (kq : Kept qq s) : Kept qq u := by
  unfold execCacheOfferDecided at e
  refine kept_of_next e ?_
  repeat' (first 
    | (with_reducible assumption) | (with_reducible apply keep_offerEnd) | (intro _) | (with_reducible apply kept_ite) | (split) 
    | (dsimp only))

theorem kept_execCacheOfferTimeout (sn way : Nat) (s : State) (u : State) (e : execCacheOfferTimeout sn way s = .next u) (kq : Kept qq s) : Kept qq u := by
  unfold execCacheOfferTimeout at e
  refine kept_of_next e ?_
  repeat' (first 
    | (with_reducible assumption) | (with_reducible apply keep_offerEnd) | (intro _) | (with_reducible apply kept_ite) | (split) 
    | (dsimp only))

theorem kept_execFabricStarvePromote (s : State) (u : State) (e : execFabricStarvePromote s = .next u) (kq : Kept qq s) : Kept qq u := by
  unfold execFabricStarvePromote at e
  refine kept_of_next e ?_
  repeat' (first 
    | (with_reducible assumption) | (with_reducible apply keep_inc) | (intro _) | (with_reducible apply kept_ite) | (split) 
    | (dsimp only))

theorem kept_execAluAdd (n : Ch) (p : Pa) (rd ra rb : Fin 32) (s : State) (u : State) (e : execAluAdd n p rd ra rb s = .next u) (kq : Kept qq s) : Kept qq u := by
  unfold execAluAdd at e
  refine kept_of_next e ?_
  repeat' (first 
    | (with_reducible assumption) | (with_reducible apply keep_stitchWord) | (with_reducible apply keep_wordAlu) | (intro _) 
    | (with_reducible apply kept_ite) | (split) | (dsimp only))

theorem kept_execAluSub (n : Ch) (p : Pa) (rd ra rb : Fin 32) (s : State) (u : State) (e : execAluSub n p rd ra rb s = .next u) (kq : Kept qq s) : Kept qq u := by
  unfold execAluSub at e
  refine kept_of_next e ?_
  repeat' (first 
    | (with_reducible assumption) | (with_reducible apply keep_stitchWord) | (with_reducible apply keep_wordAlu) | (intro _) 
    | (with_reducible apply kept_ite) | (split) | (dsimp only))

theorem kept_execAluAnd (n : Ch) (p : Pa) (rd ra rb : Fin 32) (s : State) (u : State) (e : execAluAnd n p rd ra rb s = .next u) (kq : Kept qq s) : Kept qq u := by
  unfold execAluAnd at e
  refine kept_of_next e ?_
  repeat' (first 
    | (with_reducible assumption) | (with_reducible apply keep_stitchWord) | (with_reducible apply keep_wordAlu) | (intro _) 
    | (with_reducible apply kept_ite) | (split) | (dsimp only))

theorem kept_execAluOr (n : Ch) (p : Pa) (rd ra rb : Fin 32) (s : State) (u : State) (e : execAluOr n p rd ra rb s = .next u) (kq : Kept qq s) : Kept qq u := by
  unfold execAluOr at e
  refine kept_of_next e ?_
  repeat' (first 
    | (with_reducible assumption) | (with_reducible apply keep_stitchWord) | (with_reducible apply keep_wordAlu) | (intro _) 
    | (with_reducible apply kept_ite) | (split) | (dsimp only))

theorem kept_execAluXor (n : Ch) (p : Pa) (rd ra rb : Fin 32) (s : State) (u : State) (e : execAluXor n p rd ra rb s = .next u) (kq : Kept qq s) : Kept qq u := by
  unfold execAluXor at e
  refine kept_of_next e ?_
  repeat' (first 
    | (with_reducible assumption) | (with_reducible apply keep_stitchWord) | (with_reducible apply keep_wordAlu) | (intro _) 
    | (with_reducible apply kept_ite) | (split) | (dsimp only))

theorem kept_execAluShl (n : Ch) (p : Pa) (rd ra rb : Fin 32) (s : State) (u : State) (e : execAluShl n p rd ra rb s = .next u) (kq : Kept qq s) : Kept qq u := by
  unfold execAluShl at e
  refine kept_of_next e ?_
  repeat' (first 
    | (with_reducible assumption) | (with_reducible apply keep_stitchWord) | (with_reducible apply keep_wordAlu) | (intro _) 
    | (with_reducible apply kept_ite) | (split) | (dsimp only))

theorem kept_execAluShr (n : Ch) (p : Pa) (rd ra rb : Fin 32) (s : State) (u : State) (e : execAluShr n p rd ra rb s = .next u) (kq : Kept qq s) : Kept qq u := by
  unfold execAluShr at e
  refine kept_of_next e ?_
  repeat' (first 
    | (with_reducible assumption) | (with_reducible apply keep_stitchWord) | (with_reducible apply keep_wordAlu) | (intro _) 
    | (with_reducible apply kept_ite) | (split) | (dsimp only))

theorem kept_execAluAsr (n : Ch) (p : Pa) (rd ra rb : Fin 32) (s : State) (u : State) (e : execAluAsr n p rd ra rb s = .next u) (kq : Kept qq s) : Kept qq u := by
  unfold execAluAsr at e
  refine kept_of_next e ?_
  repeat' (first 
    | (with_reducible assumption) | (with_reducible apply keep_stitchWord) | (with_reducible apply keep_wordAlu) | (intro _) 
    | (with_reducible apply kept_ite) | (split) | (dsimp only))

theorem kept_execAluShli (n : Ch) (p : Pa) (rd ra : Fin 32) (cnt : Fin 16) (s : State) (u : State) (e : execAluShli n p rd ra cnt s = .next u) (kq : Kept qq s) : Kept qq u := by
  unfold execAluShli at e
  refine kept_of_next e ?_
  repeat' (first 
    | (with_reducible assumption) | (with_reducible apply keep_stitchWord) | (with_reducible apply keep_wordAlu) | (intro _) 
    | (with_reducible apply kept_ite) | (split) | (dsimp only))

theorem kept_execAluShri (n : Ch) (p : Pa) (rd ra : Fin 32) (cnt : Fin 16) (s : State) (u : State) (e : execAluShri n p rd ra cnt s = .next u) (kq : Kept qq s) : Kept qq u := by
  unfold execAluShri at e
  refine kept_of_next e ?_
  repeat' (first 
    | (with_reducible assumption) | (with_reducible apply keep_stitchWord) | (with_reducible apply keep_wordAlu) | (intro _) 
    | (with_reducible apply kept_ite) | (split) | (dsimp only))

theorem kept_execAluMov (n : Ch) (p : Pa) (rd ra : Fin 32) (s : State) (u : State) (e : execAluMov n p rd ra s = .next u) (kq : Kept qq s) : Kept qq u := by
  unfold execAluMov at e
  refine kept_of_next e ?_
  repeat' (first 
    | (with_reducible assumption) | (with_reducible apply keep_stitchWord) | (with_reducible apply keep_wordAlu) | (intro _) 
    | (with_reducible apply kept_ite) | (split) | (dsimp only))

theorem kept_execAluNot (n : Ch) (p : Pa) (rd ra : Fin 32) (s : State) (u : State) (e : execAluNot n p rd ra s = .next u) (kq : Kept qq s) : Kept qq u := by
  unfold execAluNot at e
  refine kept_of_next e ?_
  repeat' (first 
    | (with_reducible assumption) | (with_reducible apply keep_stitchWord) | (with_reducible apply keep_wordAlu) | (intro _) 
    | (with_reducible apply kept_ite) | (split) | (dsimp only))

theorem kept_execAluCmp (n : Ch) (p : Pa) (ra rb : Fin 32) (s : State) (u : State) (e : execAluCmp n p ra rb s = .next u) (kq : Kept qq s) : Kept qq u := by
  unfold execAluCmp at e
  refine kept_of_next e ?_
  repeat' (first 
    | (with_reducible assumption) | (with_reducible apply keep_stitchWord) | (with_reducible apply keep_wordAlu) | (intro _) 
    | (with_reducible apply kept_ite) | (split) | (dsimp only))

theorem kept_execAluTst (n : Ch) (p : Pa) (ra rb : Fin 32) (s : State) (u : State) (e : execAluTst n p ra rb s = .next u) (kq : Kept qq s) : Kept qq u := by
  unfold execAluTst at e
  refine kept_of_next e ?_
  repeat' (first 
    | (with_reducible assumption) | (with_reducible apply keep_stitchWord) | (with_reducible apply keep_wordAlu) | (intro _) 
    | (with_reducible apply kept_ite) | (split) | (dsimp only))

theorem kept_execAddi (n : Ch) (p : Pa) (rd : Fin 32) (imm : BitVec 14) (s : State) (u : State) (e : execAddi n p rd imm s = .next u) (kq : Kept qq s) : Kept qq u := by
  unfold execAddi at e
  refine kept_of_next e ?_
  repeat' (first 
    | (with_reducible assumption) | (with_reducible apply keep_stitchWord) | (with_reducible apply keep_wordAddi) | (intro _) 
    | (with_reducible apply kept_ite) | (split) | (dsimp only))

theorem kept_execLdi (n : Ch) (p : Pa) (rd : Fin 32) (imm : BitVec 14) (s : State) (u : State) (e : execLdi n p rd imm s = .next u) (kq : Kept qq s) : Kept qq u := by
  unfold execLdi at e
  refine kept_of_next e ?_
  repeat' (first 
    | (with_reducible assumption) | (with_reducible apply keep_stitchWord) | (with_reducible apply keep_wordLdi) | (intro _) 
    | (with_reducible apply kept_ite) | (split) | (dsimp only))

theorem kept_execAndi (n : Ch) (p : Pa) (rd : Fin 32) (imm : BitVec 14) (s : State) (u : State) (e : execAndi n p rd imm s = .next u) (kq : Kept qq s) : Kept qq u := by
  unfold execAndi at e
  refine kept_of_next e ?_
  repeat' (first 
    | (with_reducible assumption) | (with_reducible apply keep_stitchWord) | (with_reducible apply keep_wordAndi) | (intro _) 
    | (with_reducible apply kept_ite) | (split) | (dsimp only))

theorem kept_execOri (n : Ch) (p : Pa) (rd : Fin 32) (imm : BitVec 14) (s : State) (u : State) (e : execOri n p rd imm s = .next u) (kq : Kept qq s) : Kept qq u := by
  unfold execOri at e
  refine kept_of_next e ?_
  repeat' (first 
    | (with_reducible assumption) | (with_reducible apply keep_stitchWord) | (with_reducible apply keep_wordOri) | (intro _) 
    | (with_reducible apply kept_ite) | (split) | (dsimp only))

theorem kept_execCmpi (n : Ch) (p : Pa) (rd : Fin 32) (imm : BitVec 14) (s : State) (u : State) (e : execCmpi n p rd imm s = .next u) (kq : Kept qq s) : Kept qq u := by
  unfold execCmpi at e
  refine kept_of_next e ?_
  repeat' (first 
    | (with_reducible assumption) | (with_reducible apply keep_stitchWord) | (with_reducible apply keep_wordCmpi) | (intro _) 
    | (with_reducible apply kept_ite) | (split) | (dsimp only))

theorem kept_execJmp (n : Ch) (p : Pa) (cond : BitVec 6) (target : BitVec 13) (s : State) (u : State) (e : execJmp n p cond target s = .next u) (kq : Kept qq s) : Kept qq u := by
  unfold execJmp at e
  refine kept_of_next e ?_
  repeat' (first 
    | (with_reducible assumption) | (with_reducible apply keep_stitchWord) | (with_reducible apply keep_wordJmp) | (intro _) 
    | (with_reducible apply kept_ite) | (split) | (dsimp only))

theorem kept_execCall (n : Ch) (p : Pa) (cond : BitVec 6) (target : BitVec 13) (s : State) (u : State) (e : execCall n p cond target s = .next u) (kq : Kept qq s) : Kept qq u := by
  unfold execCall at e
  refine kept_of_next e ?_
  repeat' (first 
    | (with_reducible assumption) | (with_reducible apply keep_stitchWord) | (with_reducible apply keep_wordCall) | (intro _) 
    | (with_reducible apply kept_ite) | (split) | (dsimp only))

theorem kept_execRet (n : Ch) (p : Pa) (cond : BitVec 6) (s : State) (u : State) (e : execRet n p cond s = .next u) (kq : Kept qq s) : Kept qq u := by
  unfold execRet at e
  refine kept_of_next e ?_
  repeat' (first 
    | (with_reducible assumption) | (with_reducible apply keep_stitchWord) | (with_reducible apply keep_wordRet) | (intro _) 
    | (with_reducible apply kept_ite) | (split) | (dsimp only))

theorem kept_execLoop (n : Ch) (p : Pa) (lc : Fin 4) (target : BitVec 13) (s : State) (u : State) (e : execLoop n p lc target s = .next u) (kq : Kept qq s) : Kept qq u := by
  unfold execLoop at e
  refine kept_of_next e ?_
  repeat' (first 
    | (with_reducible assumption) | (with_reducible apply keep_stitchWord) | (with_reducible apply keep_wordLoop) | (intro _) 
    | (with_reducible apply kept_ite) | (split) | (dsimp only))

theorem kept_execSetlc (n : Ch) (p : Pa) (lc : Fin 4) (src : LcSrc) (s : State) (u : State) (e : execSetlc n p lc src s = .next u) (kq : Kept qq s) : Kept qq u := by
  unfold execSetlc at e
  refine kept_of_next e ?_
  repeat' (first 
    | (with_reducible assumption) | (with_reducible apply keep_stitchWord) | (with_reducible apply keep_wordSetlc) | (intro _) 
    | (with_reducible apply kept_ite) | (split) | (dsimp only))

theorem kept_execPortIn (n : Ch) (p : Pa) (r : Fin 32) (port : Byte) (s : State) (u : State) (e : execPortIn n p r port s = .next u) (kq : Kept qq s) : Kept qq u := by
  unfold execPortIn at e
  refine kept_of_next e ?_
  repeat' (first 
    | (with_reducible assumption) | (with_reducible apply keep_stitchWord) | (with_reducible apply keep_wordIn) | (intro _) 
    | (with_reducible apply kept_ite) | (split) | (dsimp only))

theorem kept_execPortOut (n : Ch) (p : Pa) (r : Fin 32) (port : Byte) (s : State) (u : State) (e : execPortOut n p r port s = .next u) (kq : Kept qq s) : Kept qq u := by
  unfold execPortOut at e
  refine kept_of_next e ?_
  repeat' (first 
    | (with_reducible assumption) | (with_reducible apply keep_stitchWord) | (with_reducible apply keep_wordOut) | (intro _) 
    | (with_reducible apply kept_ite) | (split) | (dsimp only))

theorem kept_execPortOuti (n : Ch) (p : Pa) (port : Byte) (imm : BitVec 11) (s : State) (u : State) (e : execPortOuti n p port imm s = .next u) (kq : Kept qq s) : Kept qq u := by
  unfold execPortOuti at e
  refine kept_of_next e ?_
  repeat' (first 
    | (with_reducible assumption) | (with_reducible apply keep_stitchWord) | (with_reducible apply keep_wordOuti) | (intro _) 
    | (with_reducible apply kept_ite) | (split) | (dsimp only))

theorem kept_execArmCancel (n : Ch) (p : Pa) (s : State) (u : State) (e : execArmCancel n p s = .next u) (kq : Kept qq s) : Kept qq u := by
  unfold execArmCancel at e
  refine kept_of_next e ?_
  repeat' (first 
    | (with_reducible assumption) | (with_reducible apply keep_armAction) | (with_reducible apply keep_stitchWord) | (intro _) 
    | (with_reducible apply kept_ite) | (split) | (dsimp only))

theorem kept_execArmCapture (n : Ch) (p : Pa) (s : State) (u : State) (e : execArmCapture n p s = .next u) (kq : Kept qq s) : Kept qq u := by
  unfold execArmCapture at e
  refine kept_of_next e ?_
  repeat' (first 
    | (with_reducible assumption) | (with_reducible apply keep_armAction) | (with_reducible apply keep_stitchWord) | (intro _) 
    | (with_reducible apply kept_ite) | (split) | (dsimp only))

theorem kept_execArmWrite (n : Ch) (p : Pa) (s : State) (u : State) (e : execArmWrite n p s = .next u) (kq : Kept qq s) : Kept qq u := by
  unfold execArmWrite at e
  refine kept_of_next e ?_
  repeat' (first 
    | (with_reducible assumption) | (with_reducible apply keep_armAction) | (with_reducible apply keep_stitchWord) | (intro _) 
    | (with_reducible apply kept_ite) | (split) | (dsimp only))

theorem kept_execArmVerify (n : Ch) (p : Pa) (s : State) (u : State) (e : execArmVerify n p s = .next u) (kq : Kept qq s) : Kept qq u := by
  unfold execArmVerify at e
  refine kept_of_next e ?_
  repeat' (first 
    | (with_reducible assumption) | (with_reducible apply keep_armAction) | (with_reducible apply keep_stitchWord) | (intro _) 
    | (with_reducible apply kept_ite) | (split) | (dsimp only))

theorem kept_execArmScan (n : Ch) (p : Pa) (s : State) (u : State) (e : execArmScan n p s = .next u) (kq : Kept qq s) : Kept qq u := by
  unfold execArmScan at e
  refine kept_of_next e ?_
  repeat' (first 
    | (with_reducible assumption) | (with_reducible apply keep_armAction) | (with_reducible apply keep_stitchWord) | (intro _) 
    | (with_reducible apply kept_ite) | (split) | (dsimp only))

theorem kept_execArmRaw (n : Ch) (p : Pa) (s : State) (u : State) (e : execArmRaw n p s = .next u) (kq : Kept qq s) : Kept qq u := by
  unfold execArmRaw at e
  refine kept_of_next e ?_
  repeat' (first 
    | (with_reducible assumption) | (with_reducible apply keep_armAction) | (with_reducible apply keep_stitchWord) | (intro _) 
    | (with_reducible apply kept_ite) | (split) | (dsimp only))

theorem kept_execPortCommit (n : Ch) (p : Pa) (s : State) (u : State) (e : execPortCommit n p s = .next u) (kq : Kept qq s) : Kept qq u := by
  unfold execPortCommit at e
  refine kept_of_next e ?_
  repeat' (first 
    | (with_reducible assumption) | (with_reducible apply keep_armCommit) | (with_reducible apply keep_stitchWord) | (intro _) 
    | (with_reducible apply kept_ite) | (split) | (dsimp only))

theorem kept_execPortWfifoStart (n : Ch) (p : Pa) (s : State) (u : State) (e : execPortWfifoStart n p s = .next u) (kq : Kept qq s) : Kept qq u := by
  unfold execPortWfifoStart at e
  refine kept_of_next e ?_
  repeat' (first 
    | (with_reducible assumption) | (with_reducible apply keep_startWfifo) | (with_reducible apply keep_stitchWord) | (intro _) 
    | (with_reducible apply kept_ite) | (split) | (dsimp only))

theorem kept_execPortPaCmd (n : Ch) (p : Pa) (settings : Bool) (s : State) (u : State) (e : execPortPaCmd n p settings s = .next u) (kq : Kept qq s) : Kept qq u := by
  unfold execPortPaCmd at e
  refine kept_of_next e ?_
  repeat' (first 
    | (with_reducible assumption) | (with_reducible apply keep_sendPaCmd) | (with_reducible apply keep_stitchWord) | (intro _) 
    | (with_reducible apply kept_ite) | (split) | (dsimp only))

theorem kept_execPortFeCtl (n : Ch) (p : Pa) (up : Bool) (s : State) (u : State) (e : execPortFeCtl n p up s = .next u) (kq : Kept qq s) : Kept qq u := by
  unfold execPortFeCtl at e
  refine kept_of_next e ?_
  repeat' (first 
    | (with_reducible assumption) | (with_reducible apply keep_setFrontEnd) | (with_reducible apply keep_stitchWord) | (intro _) 
    | (with_reducible apply kept_ite) | (split) | (dsimp only))

theorem kept_execPortTmaskWrite (n : Ch) (p : Pa) (v : W16) (s : State) (u : State) (e : execPortTmaskWrite n p v s = .next u) (kq : Kept qq s) : Kept qq u := by
  unfold execPortTmaskWrite at e
  refine kept_of_next e ?_
  repeat' (first 
    | (with_reducible assumption) | (with_reducible apply keep_stitchWord) | (with_reducible apply keep_writeTmask) | (intro _) 
    | (with_reducible apply kept_ite) | (split) | (dsimp only))

theorem kept_execWait (n : Ch) (p : Pa) (clr : Bool) (ev : Fin 32) (s : State) (u : State) (e : execWait n p clr ev s = .next u) (kq : Kept qq s) : Kept qq u := by
  unfold execWait at e
  refine kept_of_next e ?_
  repeat' (first 
    | (with_reducible assumption) | (with_reducible apply keep_stitchWord) | (with_reducible apply keep_wordWait) | (intro _) 
    | (with_reducible apply kept_ite) | (split) | (dsimp only))

theorem kept_execFetch (n : Ch) (p : Pa) (s : State) (u : State) (e : execFetch n p s = .next u) (kq : Kept qq s) : Kept qq u := by
  unfold execFetch at e
  refine kept_of_next e ?_
  repeat' (first 
    | (with_reducible assumption) | (with_reducible apply keep_stitchWord) | (with_reducible apply keep_wordFetch) | (intro _) 
    | (with_reducible apply kept_ite) | (split) | (dsimp only))

theorem kept_execPrefetch (n : Ch) (p : Pa) (s : State) (u : State) (e : execPrefetch n p s = .next u) (kq : Kept qq s) : Kept qq u := by
  unfold execPrefetch at e
  refine kept_of_next e ?_
  repeat' (first 
    | (with_reducible assumption) | (with_reducible apply keep_stitchWord) | (with_reducible apply keep_wordPrefetch) | (intro _) 
    | (with_reducible apply kept_ite) | (split) | (dsimp only))

theorem kept_execDone (n : Ch) (p : Pa) (abt fin : Bool) (s : State) (u : State) (e : execDone n p abt fin s = .next u) (kq : Kept qq s) : Kept qq u := by
  unfold execDone at e
  refine kept_of_next e ?_
  repeat' (first 
    | (with_reducible assumption) | (with_reducible apply keep_stitchWord) | (with_reducible apply keep_wordDone) | (intro _) 
    | (with_reducible apply kept_ite) | (split) | (dsimp only))

theorem kept_execMret (n : Ch) (p : Pa) (s : State) (u : State) (e : execMret n p s = .next u) (kq : Kept qq s) : Kept qq u := by
  unfold execMret at e
  refine kept_of_next e ?_
  repeat' (first 
    | (with_reducible assumption) | (with_reducible apply keep_stitchWord) | (with_reducible apply keep_wordMret) | (intro _) 
    | (with_reducible apply kept_ite) | (split) | (dsimp only))

theorem kept_execTrap (n : Ch) (p : Pa) (code : BitVec 4) (s : State) (u : State) (e : execTrap n p code s = .next u) (kq : Kept qq s) : Kept qq u := by
  unfold execTrap at e
  refine kept_of_next e ?_
  repeat' (first 
    | (with_reducible assumption) | (with_reducible apply keep_stitchWord) | (with_reducible apply keep_wordTrap) | (intro _) 
    | (with_reducible apply kept_ite) | (split) | (dsimp only))

theorem kept_execSignal (n : Ch) (p : Pa) (mask : BitVec 4) (s : State) (u : State) (e : execSignal n p mask s = .next u) (kq : Kept qq s) : Kept qq u := by
  unfold execSignal at e
  refine kept_of_next e ?_
  repeat' (first 
    | (with_reducible assumption) | (with_reducible apply keep_stitchWord) | (with_reducible apply keep_wordSignal) | (intro _) 
    | (with_reducible apply kept_ite) | (split) | (dsimp only))

theorem kept_execHalt (n : Ch) (p : Pa) (code : BitVec 7) (s : State) (u : State) (e : execHalt n p code s = .next u) (kq : Kept qq s) : Kept qq u := by
  unfold execHalt at e
  refine kept_of_next e ?_
  repeat' (first 
    | (with_reducible assumption) | (with_reducible apply keep_stitchWord) | (with_reducible apply keep_wordHalt) | (intro _) 
    | (with_reducible apply kept_ite) | (split) | (dsimp only))

theorem kept_execReservedOperation (n : Ch) (p : Pa) (w : W24) (s : State) (u : State) (e : execReservedOperation n p w s = .next u) (kq : Kept qq s) : Kept qq u := by
  unfold execReservedOperation at e
  refine kept_of_next e ?_
  repeat' (first 
    | (with_reducible assumption) | (with_reducible apply keep_stitchWord) | (with_reducible apply keep_wordMicro) | (intro _) 
    | (with_reducible apply kept_ite) | (split) | (dsimp only))

theorem kept_execStitchTrapTaken (n : Ch) (p : Pa) (s : State) (u : State) (e : execStitchTrapTaken n p s = .next u) (kq : Kept qq s) : Kept qq u := by
  unfold execStitchTrapTaken at e
  refine kept_of_next e ?_
  repeat' (first 
    | (with_reducible assumption) | (with_reducible apply keep_trapTaken) | (intro _) | (with_reducible apply kept_ite) | (split) 
    | (dsimp only))

theorem kept_execStitchTimerExpire (n : Ch) (p : Pa) (s : State) (u : State) (e : execStitchTimerExpire n p s = .next u) (kq : Kept qq s) : Kept qq u := by
  unfold execStitchTimerExpire at e
  refine kept_of_next e ?_
  repeat' (first 
    | (with_reducible assumption) | (with_reducible apply keep_timerExpire) | (intro _) | (with_reducible apply kept_ite) 
    | (split) | (dsimp only))

theorem kept_execStitchWatchdogExpire (n : Ch) (p : Pa) (s : State) (u : State) (e : execStitchWatchdogExpire n p s = .next u) (kq : Kept qq s) : Kept qq u := by
  unfold execStitchWatchdogExpire at e
  refine kept_of_next e ?_
  repeat' (first 
    | (with_reducible assumption) | (with_reducible apply keep_watchdogExpire) | (intro _) | (with_reducible apply kept_ite) 
    | (split) | (dsimp only))

theorem kept_execStitchWatchdogHalt (n : Ch) (p : Pa) (s : State) (u : State) (e : execStitchWatchdogHalt n p s = .next u) (kq : Kept qq s) : Kept qq u := by
  unfold execStitchWatchdogHalt at e
  refine kept_of_next e ?_
  repeat' (first 
    | (with_reducible assumption) | (with_reducible apply keep_watchdogHalt) | (intro _) | (with_reducible apply kept_ite) 
    | (split) | (dsimp only))

theorem kept_execDescPrefetchDeliver (n : Ch) (p : Pa) (tag : W16) (s : State) (u : State) (e : execDescPrefetchDeliver n p tag s = .next u) (kq : Kept qq s) : Kept qq u := by
  unfold execDescPrefetchDeliver at e
  refine kept_of_next e ?_
  repeat' (first 
    | (with_reducible assumption) | (with_reducible apply keep_prefetchDeliver) | (intro _) | (with_reducible apply kept_ite) 
    | (split) | (dsimp only))

theorem kept_execDescPrefetchWithdraw (n : Ch) (p : Pa) (s : State) (u : State) (e : execDescPrefetchWithdraw n p s = .next u) (kq : Kept qq s) : Kept qq u := by
  unfold execDescPrefetchWithdraw at e
  refine kept_of_next e ?_
  repeat' (first 
    | (with_reducible assumption) | (with_reducible apply keep_prefetchWithdraw) | (intro _) | (with_reducible apply kept_ite) 
    | (split) | (dsimp only))

theorem kept_execWorkItemAbort (n : Ch) (tag : W16) (s : State) (u : State) (e : execWorkItemAbort n tag s = .next u) (kq : Kept qq s) : Kept qq u := by
  unfold execWorkItemAbort at e
  refine kept_of_next e ?_
  repeat' (first 
    | (with_reducible assumption) | (with_reducible apply keep_abortTag) | (intro _) | (with_reducible apply kept_ite) | (split) 
    | (dsimp only))

theorem kept_execStoreSegmentLoad (n : Ch) (segs : List Segment) (s : State) (u : State) (e : execStoreSegmentLoad n segs s = .next u) (kq : Kept qq s) : Kept qq u := by
  unfold execStoreSegmentLoad at e
  refine kept_of_next e ?_
  repeat' (first 
    | (with_reducible assumption) | (with_reducible apply keep_storeLoad) | (intro _) | (with_reducible apply kept_ite) | (split) 
    | (dsimp only))

theorem kept_execDestageComplete (k : Nat) (s : State) (u : State) (e : execDestageComplete k s = .next u) (kq : Kept qq s) : Kept qq u := by
  unfold execDestageComplete at e
  refine kept_of_next e ?_
  repeat' (first 
    | (with_reducible assumption) | (with_reducible apply keep_destageDone) | (intro _) | (with_reducible apply kept_ite) 
    | (split) | (dsimp only))

theorem kept_execGathLayoutCommit (l : Fin 4) (s : State) (u : State) (e : execGathLayoutCommit l s = .next u) (kq : Kept qq s) : Kept qq u := by
  unfold execGathLayoutCommit at e
  refine kept_of_next e ?_
  repeat' (first 
    | (with_reducible assumption) | (with_reducible apply keep_arbWrite) | (with_reducible apply keep_commitStart) | (intro _) 
    | (with_reducible apply kept_ite) | (split) | (dsimp only))

theorem kept_execGathIntentProgram (s : State) (u : State) (e : execGathIntentProgram s = .next u) (kq : Kept qq s) : Kept qq u := by
  unfold execGathIntentProgram at e
  refine kept_of_next e ?_
  repeat' (first 
    | (with_reducible assumption) | (with_reducible apply keep_intentProgram) | (intro _) | (with_reducible apply kept_ite) 
    | (split) | (dsimp only))

theorem kept_execGathStripeUpdate (l : Fin 4) (stripe k : Nat) (old : List (Nat × Block)) (s : State) (u : State) (e : execGathStripeUpdate l stripe k old s = .next u) (kq : Kept qq s) : Kept qq u := by
  unfold execGathStripeUpdate at e
  refine kept_of_next e ?_
  repeat' (first 
    | (with_reducible assumption) | (with_reducible apply keep_stripeUpdate) | (intro _) | (with_reducible apply kept_ite) 
    | (split) | (dsimp only))

theorem kept_execGathStartResync (l : Fin 4) (stripe : Nat) (failed : List Nat) (s : State) (u : State) (e : execGathStartResync l stripe failed s = .next u) (kq : Kept qq s) : Kept qq u := by
  unfold execGathStartResync at e
  refine kept_of_next e ?_
  repeat' (first 
    | (with_reducible assumption) | (with_reducible apply keep_startResync) | (intro _) | (with_reducible apply kept_ite) 
    | (split) | (dsimp only))

theorem kept_execGathChannelUnavailable (n : Ch) (s : State) (u : State) (e : execGathChannelUnavailable n s = .next u) (kq : Kept qq s) : Kept qq u := by
  unfold execGathChannelUnavailable at e
  refine kept_of_next e ?_
  repeat' (first 
    | (with_reducible assumption) | (with_reducible apply keep_chanUnavailable) | (intro _) | (with_reducible apply kept_ite) 
    | (split) | (dsimp only))

theorem kept_execGathChannelLost (n : Ch) (s : State) (u : State) (e : execGathChannelLost n s = .next u) (kq : Kept qq s) : Kept qq u := by
  unfold execGathChannelLost at e
  refine kept_of_next e ?_
  repeat' (first 
    | (with_reducible assumption) | (with_reducible apply keep_chanLost) | (intro _) | (with_reducible apply kept_ite) | (split) 
    | (dsimp only))

theorem kept_execGathChannelResync (l : Fin 4) (n : Ch) (strip : Nat) (s : State) (u : State) (e : execGathChannelResync l n strip s = .next u) (kq : Kept qq s) : Kept qq u := by
  unfold execGathChannelResync at e
  refine kept_of_next e ?_
  repeat' (first 
    | (with_reducible assumption) | (with_reducible apply keep_chanResync) | (intro _) | (with_reducible apply kept_ite) 
    | (split) | (dsimp only))

theorem kept_execGathReconstruct (l : Fin 4) (nsid lba : Nat) (fetched : List (Nat × Block)) (s : State) (u : State) (e : execGathReconstruct l nsid lba fetched s = .next u) (kq : Kept qq s) : Kept qq u := by
  unfold execGathReconstruct at e
  refine kept_of_next e ?_
  repeat' (first 
    | (with_reducible assumption) | (with_reducible apply keep_reconstruct) | (intro _) | (with_reducible apply kept_ite) 
    | (split) | (dsimp only))

theorem kept_execGathRebuildStrip (l : Fin 4) (stripe : Nat) (n : Ch) (s : State) (u : State) (e : execGathRebuildStrip l stripe n s = .next u) (kq : Kept qq s) : Kept qq u := by
  unfold execGathRebuildStrip at e
  refine kept_of_next e ?_
  repeat' (first 
    | (with_reducible assumption) | (with_reducible apply keep_rebuildStrip) | (intro _) | (with_reducible apply kept_ite) 
    | (split) | (dsimp only))

theorem kept_execGathBlockReset (s : State) (u : State) (e : execGathBlockReset s = .next u) (kq : Kept qq s) : Kept qq u := by
  unfold execGathBlockReset at e
  refine kept_of_next e ?_
  repeat' (first 
    | (with_reducible assumption) | (with_reducible apply keep_gathReset) | (intro _) | (with_reducible apply kept_ite) | (split) 
    | (dsimp only))

theorem kept_execSqTailDoorbell (c : Ctl) (qid tail : Nat) (s : State) (u : State) (e : execSqTailDoorbell c qid tail s = .next u) (kq : Kept qq s) : Kept qq u := by
  unfold execSqTailDoorbell at e
  refine kept_of_next e ?_
  repeat' (first 
    | (with_reducible assumption) | (with_reducible apply keep_sqTail) | (intro _) | (with_reducible apply kept_ite) | (split) 
    | (dsimp only))

theorem kept_execCqHeadDoorbell (c : Ctl) (qid head : Nat) (s : State) (u : State) (e : execCqHeadDoorbell c qid head s = .next u) (kq : Kept qq s) : Kept qq u := by
  unfold execCqHeadDoorbell at e
  refine kept_of_next e ?_
  repeat' (first 
    | (with_reducible assumption) | (with_reducible apply keep_cqHead) | (intro _) | (with_reducible apply kept_ite) | (split) 
    | (dsimp only))

theorem kept_execCommandFetch (c : Ctl) (es : List Sqe) (s : State) (u : State) (e : execCommandFetch c es s = .next u) (kq : Kept qq s) : Kept qq u := by
  unfold execCommandFetch at e
  refine kept_of_next e ?_
  repeat' (first 
    | (with_reducible assumption) | (with_reducible apply keep_commandFetch) | (intro _) | (with_reducible apply kept_ite) 
    | (split) | (dsimp only))

theorem kept_execCompletionEntryHandoff (k : Nat) (s : State) (u : State) (e : execCompletionEntryHandoff k s = .next u) (kq : Kept qq s) : Kept qq u := by
  unfold execCompletionEntryHandoff at e
  refine kept_of_next e ?_
  repeat' (first 
    | (with_reducible assumption) | (with_reducible apply keep_handoff) | (intro _) | (with_reducible apply kept_ite) | (split) 
    | (dsimp only))

theorem kept_execCompletionPosted (k : Nat) (s : State) (u : State) (e : execCompletionPosted k s = .next u) (kq : Kept qq s) : Kept qq u := by
  unfold execCompletionPosted at e
  refine kept_of_next e ?_
  repeat' (first 
    | (with_reducible assumption) | (with_reducible apply keep_posted) | (intro _) | (with_reducible apply kept_ite) | (split) 
    | (dsimp only))

theorem kept_execInterruptCoalescingTimer (c : Ctl) (vec : Nat) (s : State) (u : State) (e : execInterruptCoalescingTimer c vec s = .next u) (kq : Kept qq s) : Kept qq u := by
  unfold execInterruptCoalescingTimer at e
  refine kept_of_next e ?_
  repeat' (first 
    | (with_reducible assumption) | (with_reducible apply keep_sendMsix) | (intro _) | (with_reducible apply kept_ite) | (split) 
    | (dsimp only))

theorem kept_execHostDataTransferDone (k : Nat) (ok : Bool) (data : List Block) (s : State) (u : State) (e : execHostDataTransferDone k ok data s = .next u) (kq : Kept qq s) : Kept qq u := by
  unfold execHostDataTransferDone at e
  refine kept_of_next e ?_
  repeat' (first 
    | (with_reducible assumption) | (with_reducible apply keep_transferDone) | (intro _) | (with_reducible apply kept_ite) 
    | (split) | (dsimp only))

theorem kept_execRangeLockGrant (s : State) (u : State) (e : execRangeLockGrant s = .next u) (kq : Kept qq s) : Kept qq u := by
  unfold execRangeLockGrant at e
  refine kept_of_next e ?_
  repeat' (first 
    | (with_reducible assumption) | (with_reducible apply keep_lockGrant) | (intro _) | (with_reducible apply kept_ite) | (split) 
    | (dsimp only))

theorem kept_execStampOriginalEnded (k : Nat) (s : State) (u : State) (e : execStampOriginalEnded k s = .next u) (kq : Kept qq s) : Kept qq u := by
  unfold execStampOriginalEnded at e
  refine kept_of_next e ?_
  repeat' (first 
    | (with_reducible assumption) | (with_reducible apply keep_modCmd) | (with_reducible apply keep_stampLookup) | (intro _) 
    | (with_reducible refine kept_snd (r := stampLookup _ _ ) (by assumption) ?_) | (with_reducible apply kept_ite) | (split) 
    | (dsimp only))

theorem kept_execBookmarkExpire (now : Nat) (s : State) (u : State) (e : execBookmarkExpire now s = .next u) (kq : Kept qq s) : Kept qq u := by
  unfold execBookmarkExpire at e
  refine kept_of_next e ?_
  repeat' (first 
    | (with_reducible assumption) | (with_reducible apply keep_modFly) | (with_reducible apply keep_bkSync) | (intro _) 
    | (with_reducible apply kept_ite) | (split) | (dsimp only))

theorem kept_execFlush (k : Nat) (s : State) (u : State) (e : execFlush k s = .next u) (kq : Kept qq s) : Kept qq u := by
  unfold execFlush at e
  refine kept_of_next e ?_
  repeat' (first 
    | (with_reducible assumption) | (with_reducible apply keep_startFlush) | (intro _) | (with_reducible apply kept_ite) 
    | (split) | (dsimp only))

theorem kept_execWrite (k : Nat) (s : State) (u : State) (e : execWrite k s = .next u) (kq : Kept qq s) : Kept qq u := by
  unfold execWrite at e
  refine kept_of_next e ?_
  repeat' (first 
    | (with_reducible assumption) | (with_reducible apply keep_startWrite) | (intro _) | (with_reducible apply kept_ite) 
    | (split) | (dsimp only))

theorem kept_execRead (k : Nat) (s : State) (u : State) (e : execRead k s = .next u) (kq : Kept qq s) : Kept qq u := by
  unfold execRead at e
  refine kept_of_next e ?_
  repeat' (first 
    | (with_reducible assumption) | (with_reducible apply keep_startRead) | (intro _) | (with_reducible apply kept_ite) | (split) 
    | (dsimp only))

theorem kept_execWriteZeroes (k : Nat) (s : State) (u : State) (e : execWriteZeroes k s = .next u) (kq : Kept qq s) : Kept qq u := by
  unfold execWriteZeroes at e
  refine kept_of_next e ?_
  repeat' (first 
    | (with_reducible assumption) | (with_reducible apply keep_startZeroes) | (intro _) | (with_reducible apply kept_ite) 
    | (split) | (dsimp only))

theorem kept_execDatasetManagementDeallocate (k : Nat) (rs : List LRange) (s : State) (u : State) (e : execDatasetManagementDeallocate k rs s = .next u) (kq : Kept qq s) : Kept qq u := by
  unfold execDatasetManagementDeallocate at e
  refine kept_of_next e ?_
  repeat' (first 
    | (with_reducible assumption) | (with_reducible apply keep_startDealloc) | (intro _) | (with_reducible apply kept_ite) 
    | (split) | (dsimp only))

theorem kept_execVerify (k : Nat) (s : State) (u : State) (e : execVerify k s = .next u) (kq : Kept qq s) : Kept qq u := by
  unfold execVerify at e
  refine kept_of_next e ?_
  repeat' (first 
    | (with_reducible assumption) | (with_reducible apply keep_startVerify) | (intro _) | (with_reducible apply kept_ite) 
    | (split) | (dsimp only))

theorem kept_execCopy (k : Nat) (rs : List LRange) (s : State) (u : State) (e : execCopy k rs s = .next u) (kq : Kept qq s) : Kept qq u := by
  unfold execCopy at e
  refine kept_of_next e ?_
  repeat' (first 
    | (with_reducible assumption) | (with_reducible apply keep_startCopy) | (intro _) | (with_reducible apply kept_ite) | (split) 
    | (dsimp only))

theorem kept_execZoneManagementSend (k : Nat) (act : ZoneAct) (s : State) (u : State) (e : execZoneManagementSend k act s = .next u) (kq : Kept qq s) : Kept qq u := by
  unfold execZoneManagementSend at e
  refine kept_of_next e ?_
  repeat' (first 
    | (with_reducible assumption) | (with_reducible apply keep_startZoneSend) | (intro _) | (with_reducible apply kept_ite) 
    | (split) | (dsimp only))

theorem kept_execZoneManagementReceive (k : Nat) (s : State) (u : State) (e : execZoneManagementReceive k s = .next u) (kq : Kept qq s) : Kept qq u := by
  unfold execZoneManagementReceive at e
  refine kept_of_next e ?_
  repeat' (first 
    | (with_reducible assumption) | (with_reducible apply keep_startZoneReport) | (intro _) | (with_reducible apply kept_ite) 
    | (split) | (dsimp only))

theorem kept_execZoneAppend (k : Nat) (s : State) (u : State) (e : execZoneAppend k s = .next u) (kq : Kept qq s) : Kept qq u := by
  unfold execZoneAppend at e
  refine kept_of_next e ?_
  repeat' (first 
    | (with_reducible assumption) | (with_reducible apply keep_startAppend) | (intro _) | (with_reducible apply kept_ite) 
    | (split) | (dsimp only))

theorem kept_execWriteBufferReadWaitEnd (k : Nat) (s : State) (u : State) (e : execWriteBufferReadWaitEnd k s = .next u) (kq : Kept qq s) : Kept qq u := by
  unfold execWriteBufferReadWaitEnd at e
  refine kept_of_next e ?_
  repeat' (first 
    | (with_reducible assumption) | (with_reducible apply keep_readWaitEnd) | (intro _) | (with_reducible apply kept_ite) 
    | (split) | (dsimp only))

theorem kept_execSpeculativeFillArrive (nsid line : Nat) (good : Bool) (data : List Block) (s : State) (u : State) (e : execSpeculativeFillArrive nsid line good data s = .next u) (kq : Kept qq s) : Kept qq u := by
  unfold execSpeculativeFillArrive at e
  refine kept_of_next e ?_
  repeat' (first 
    | (with_reducible assumption) | (with_reducible apply keep_specArrive) | (intro _) | (with_reducible apply kept_ite) 
    | (split) | (dsimp only))

theorem kept_execMotStart (n : Ch) (s : State) (u : State) (e : execMotStart n s = .next u) (kq : Kept qq s) : Kept qq u := by
  unfold execMotStart at e
  refine kept_of_next e ?_
  repeat' (first 
    | (with_reducible assumption) | (with_reducible apply keep_arbWrite) | (with_reducible apply keep_motCmd) 
    | (with_reducible apply keep_motStart) | (intro _) | (with_reducible apply kept_ite) | (split) | (dsimp only))

theorem kept_execMotStop (n : Ch) (s : State) (u : State) (e : execMotStop n s = .next u) (kq : Kept qq s) : Kept qq u := by
  unfold execMotStop at e
  refine kept_of_next e ?_
  repeat' (first 
    | (with_reducible assumption) | (with_reducible apply keep_arbWrite) | (with_reducible apply keep_motCmd) 
    | (with_reducible apply keep_motStop) | (intro _) | (with_reducible apply kept_ite) | (split) | (dsimp only))

theorem kept_execMotCoast (n : Ch) (s : State) (u : State) (e : execMotCoast n s = .next u) (kq : Kept qq s) : Kept qq u := by
  unfold execMotCoast at e
  refine kept_of_next e ?_
  repeat' (first 
    | (with_reducible assumption) | (with_reducible apply keep_arbWrite) | (with_reducible apply keep_motCmd) 
    | (with_reducible apply keep_motCoast) | (intro _) | (with_reducible apply kept_ite) | (split) | (dsimp only))

theorem kept_execMotUnload (n : Ch) (s : State) (u : State) (e : execMotUnload n s = .next u) (kq : Kept qq s) : Kept qq u := by
  unfold execMotUnload at e
  refine kept_of_next e ?_
  repeat' (first 
    | (with_reducible assumption) | (with_reducible apply keep_arbWrite) | (with_reducible apply keep_startRetract) | (intro _) 
    | (with_reducible apply kept_ite) | (split) | (dsimp only))

theorem kept_execMotLoad (n : Ch) (s : State) (u : State) (e : execMotLoad n s = .next u) (kq : Kept qq s) : Kept qq u := by
  unfold execMotLoad at e
  refine kept_of_next e ?_
  repeat' (first 
    | (with_reducible assumption) | (with_reducible apply keep_arbWrite) | (with_reducible apply keep_motCmd) 
    | (with_reducible apply keep_motLoad) | (intro _) | (with_reducible apply kept_ite) | (split) | (dsimp only))

theorem kept_execSenseEnd (n : Ch) (s : State) (u : State) (e : execSenseEnd n s = .next u) (kq : Kept qq s) : Kept qq u := by
  unfold execSenseEnd at e
  refine kept_of_next e ?_
  repeat' (first 
    | (with_reducible assumption) | (with_reducible apply keep_senseEnd) | (intro _) | (with_reducible apply kept_ite) | (split) 
    | (dsimp only))

theorem kept_execAlignStepEnd (n : Ch) (s : State) (u : State) (e : execAlignStepEnd n s = .next u) (kq : Kept qq s) : Kept qq u := by
  unfold execAlignStepEnd at e
  refine kept_of_next e ?_
  repeat' (first 
    | (with_reducible assumption) | (with_reducible apply keep_alignStep) | (intro _) | (with_reducible apply kept_ite) | (split) 
    | (dsimp only))

theorem kept_execRampHandover (n : Ch) (s : State) (u : State) (e : execRampHandover n s = .next u) (kq : Kept qq s) : Kept qq u := by
  unfold execRampHandover at e
  refine kept_of_next e ?_
  repeat' (first 
    | (with_reducible assumption) | (with_reducible apply keep_enter) | (intro _) | (with_reducible apply kept_ite) | (split) 
    | (dsimp only))

theorem kept_execRampHandoverFail (n : Ch) (s : State) (u : State) (e : execRampHandoverFail n s = .next u) (kq : Kept qq s) : Kept qq u := by
  unfold execRampHandoverFail at e
  refine kept_of_next e ?_
  repeat' (first 
    | (with_reducible assumption) | (with_reducible apply keep_handoverFail) | (intro _) | (with_reducible apply kept_ite) 
    | (split) | (dsimp only))

theorem kept_execSpinupTimeout (n : Ch) (s : State) (u : State) (e : execSpinupTimeout n s = .next u) (kq : Kept qq s) : Kept qq u := by
  unfold execSpinupTimeout at e
  refine kept_of_next e ?_
  repeat' (first 
    | (with_reducible assumption) | (with_reducible apply keep_spinupTimeout) | (intro _) | (with_reducible apply kept_ite) 
    | (split) | (dsimp only))

theorem kept_execBrakePhaseTimer (n : Ch) (s : State) (u : State) (e : execBrakePhaseTimer n s = .next u) (kq : Kept qq s) : Kept qq u := by
  unfold execBrakePhaseTimer at e
  refine kept_of_next e ?_
  repeat' (first 
    | (with_reducible assumption) | (with_reducible apply keep_brakePhase) | (intro _) | (with_reducible apply kept_ite) 
    | (split) | (dsimp only))

theorem kept_execBrakeTimeout (n : Ch) (s : State) (u : State) (e : execBrakeTimeout n s = .next u) (kq : Kept qq s) : Kept qq u := by
  unfold execBrakeTimeout at e
  refine kept_of_next e ?_
  repeat' (first 
    | (with_reducible assumption) | (with_reducible apply keep_brakeTimeout) | (intro _) | (with_reducible apply kept_ite) 
    | (split) | (dsimp only))

theorem kept_execRotorLost (n : Ch) (s : State) (u : State) (e : execRotorLost n s = .next u) (kq : Kept qq s) : Kept qq u := by
  unfold execRotorLost at e
  refine kept_of_next e ?_
  repeat' (first 
    | (with_reducible assumption) | (with_reducible apply keep_rotorLost) | (intro _) | (with_reducible apply kept_ite) | (split) 
    | (dsimp only))

theorem kept_execCatchDetectorStart (n : Ch) (s : State) (u : State) (e : execCatchDetectorStart n s = .next u) (kq : Kept qq s) : Kept qq u := by
  unfold execCatchDetectorStart at e
  refine kept_of_next e ?_
  repeat' (first 
    | (with_reducible assumption) | (with_reducible apply keep_catchStart) | (intro _) | (with_reducible apply kept_ite) 
    | (split) | (dsimp only))

theorem kept_execCatchReacquire (n : Ch) (s : State) (u : State) (e : execCatchReacquire n s = .next u) (kq : Kept qq s) : Kept qq u := by
  unfold execCatchReacquire at e
  refine kept_of_next e ?_
  repeat' (first 
    | (with_reducible assumption) | (with_reducible apply keep_reacquire) | (intro _) | (with_reducible apply kept_ite) | (split) 
    | (dsimp only))

theorem kept_execCatchTimeout (n : Ch) (s : State) (u : State) (e : execCatchTimeout n s = .next u) (kq : Kept qq s) : Kept qq u := by
  unfold execCatchTimeout at e
  refine kept_of_next e ?_
  repeat' (first 
    | (with_reducible assumption) | (with_reducible apply keep_catchTimeout) | (intro _) | (with_reducible apply kept_ite) 
    | (split) | (dsimp only))

theorem kept_execPwmPeriod (n : Ch) (o : PwmObs) (s : State) (u : State) (e : execPwmPeriod n o s = .next u) (kq : Kept qq s) : Kept qq u := by
  unfold execPwmPeriod at e
  refine kept_of_next e ?_
  repeat' (first 
    | (with_reducible assumption) | (with_reducible apply keep_pwmPeriod) | (with_reducible apply keep_releaseStarts) | (intro _) 
    | (with_reducible apply kept_ite) | (split) | (dsimp only))

theorem kept_execMotFault (n : Ch) (s : State) (u : State) (e : execMotFault n s = .next u) (kq : Kept qq s) : Kept qq u := by
  unfold execMotFault at e
  refine kept_of_next e ?_
  repeat' (first 
    | (with_reducible assumption) | (with_reducible apply keep_motFault) | (intro _) | (with_reducible apply kept_ite) | (split) 
    | (dsimp only))

theorem kept_execDepthLimit (n : Ch) (s : State) (u : State) (e : execDepthLimit n s = .next u) (kq : Kept qq s) : Kept qq u := by
  unfold execDepthLimit at e
  refine kept_of_next e ?_
  repeat' (first 
    | (with_reducible assumption) | (with_reducible apply keep_depthLimit) | (intro _) | (with_reducible apply kept_ite) 
    | (split) | (dsimp only))

theorem kept_execInTolerance (n : Ch) (s : State) (u : State) (e : execInTolerance n s = .next u) (kq : Kept qq s) : Kept qq u := by
  unfold execInTolerance at e
  refine kept_of_next e ?_
  repeat' (first 
    | (with_reducible assumption) | (with_reducible apply keep_setFlag) | (intro _) | (with_reducible apply kept_ite) | (split) 
    | (dsimp only))

theorem kept_execSpinOffTolerance (n : Ch) (s : State) (u : State) (e : execSpinOffTolerance n s = .next u) (kq : Kept qq s) : Kept qq u := by
  unfold execSpinOffTolerance at e
  refine kept_of_next e ?_
  repeat' (first 
    | (with_reducible assumption) | (with_reducible apply keep_raise) | (intro _) | (with_reducible apply kept_ite) | (split) 
    | (dsimp only))

theorem kept_execRuncfgDirWrite (path : RegPath) (n : Ch) (dir : Bool) (s : State) (u : State) (e : execRuncfgDirWrite path n dir s = .next u) (kq : Kept qq s) : Kept qq u := by
  unfold execRuncfgDirWrite at e
  refine kept_of_next e ?_
  repeat' (first 
    | (with_reducible assumption) | (with_reducible apply keep_dirWrite) | (with_reducible apply keep_lockedWrite) | (intro _) 
    | (with_reducible apply kept_ite) | (split) | (dsimp only))

theorem kept_execRetractParkDetect (n : Ch) (s : State) (u : State) (e : execRetractParkDetect n s = .next u) (kq : Kept qq s) : Kept qq u := by
  unfold execRetractParkDetect at e
  refine kept_of_next e ?_
  repeat' (first 
    | (with_reducible assumption) | (with_reducible apply keep_modMot) | (intro _) | (with_reducible apply kept_ite) | (split) 
    | (dsimp only))

theorem kept_execRetractHoldEnd (n : Ch) (s : State) (u : State) (e : execRetractHoldEnd n s = .next u) (kq : Kept qq s) : Kept qq u := by
  unfold execRetractHoldEnd at e
  refine kept_of_next e ?_
  repeat' (first 
    | (with_reducible assumption) | (with_reducible apply keep_inc) | (with_reducible apply keep_modMot) 
    | (with_reducible apply keep_setFlag) | (with_reducible apply keep_afterRetract) | (intro _) 
    | (with_reducible apply kept_ite) | (split) | (dsimp only))

theorem kept_execRetractTimeout (n : Ch) (s : State) (u : State) (e : execRetractTimeout n s = .next u) (kq : Kept qq s) : Kept qq u := by
  unfold execRetractTimeout at e
  refine kept_of_next e ?_
  repeat' (first 
    | (with_reducible assumption) | (with_reducible apply keep_modMot) | (with_reducible apply keep_raise) 
    | (with_reducible apply keep_afterRetract) | (intro _) | (with_reducible apply kept_ite) | (split) | (dsimp only))

theorem kept_execVoiceCoilPeriod (n : Ch) (current vcb : Int) (s : State) (u : State) (e : execVoiceCoilPeriod n current vcb s = .next u) (kq : Kept qq s) : Kept qq u := by
  unfold execVoiceCoilPeriod at e
  refine kept_of_next e ?_
  repeat' (first 
    | (with_reducible assumption) | (with_reducible apply keep_coilPeriod) | (intro _) | (with_reducible apply kept_ite) 
    | (split) | (dsimp only))

theorem kept_execSwitchGapEnd (n : Ch) (s : State) (u : State) (e : execSwitchGapEnd n s = .next u) (kq : Kept qq s) : Kept qq u := by
  unfold execSwitchGapEnd at e
  refine kept_of_next e ?_
  repeat' (first 
    | (with_reducible assumption) | (with_reducible apply keep_gapEnd) | (intro _) | (with_reducible apply kept_ite) | (split) 
    | (dsimp only))

theorem kept_execEngineDisagree (n : Ch) (aOk bOk : Bool) (s : State) (u : State) (e : execEngineDisagree n aOk bOk s = .next u) (kq : Kept qq s) : Kept qq u := by
  unfold execEngineDisagree at e
  refine kept_of_next e ?_
  repeat' (first 
    | (with_reducible assumption) | (with_reducible apply keep_engineDisagree) | (intro _) | (with_reducible apply kept_ite) 
    | (split) | (dsimp only))

theorem kept_execStandbyReady (n : Ch) (s : State) (u : State) (e : execStandbyReady n s = .next u) (kq : Kept qq s) : Kept qq u := by
  unfold execStandbyReady at e
  refine kept_of_next e ?_
  repeat' (first 
    | (with_reducible assumption) | (with_reducible apply keep_setEng) | (intro _) | (with_reducible apply kept_ite) | (split) 
    | (dsimp only))

theorem kept_execHingeLinkLoss (n : Ch) (s : State) (u : State) (e : execHingeLinkLoss n s = .next u) (kq : Kept qq s) : Kept qq u := by
  unfold execHingeLinkLoss at e
  refine kept_of_next e ?_
  repeat' (first 
    | (with_reducible assumption) | (with_reducible apply keep_modHinge) | (with_reducible apply keep_raise) 
    | (with_reducible apply keep_setEng) | (intro _) | (with_reducible apply kept_ite) | (split) | (dsimp only))

theorem kept_execEngineRecovered (n : Ch) (ok : Bool) (s : State) (u : State) (e : execEngineRecovered n ok s = .next u) (kq : Kept qq s) : Kept qq u := by
  unfold execEngineRecovered at e
  refine kept_of_next e ?_
  repeat' (first 
    | (with_reducible assumption) | (with_reducible apply keep_recovered) | (intro _) | (with_reducible apply kept_ite) | (split) 
    | (dsimp only))

theorem kept_execHingeForce (path : RegPath) (n : Ch) (aOk bOk : Bool) (s : State) (u : State) (e : execHingeForce path n aOk bOk s = .next u) (kq : Kept qq s) : Kept qq u := by
  unfold execHingeForce at e
  refine kept_of_next e ?_
  repeat' (first 
    | (with_reducible assumption) | (with_reducible apply keep_arbWrite) | (with_reducible apply keep_hingeForce) | (intro _) 
    | (with_reducible apply kept_ite) | (split) | (dsimp only))

theorem kept_execHingeSelectionDisagree (n : Ch) (s : State) (u : State) (e : execHingeSelectionDisagree n s = .next u) (kq : Kept qq s) : Kept qq u := by
  unfold execHingeSelectionDisagree at e
  refine kept_of_next e ?_
  repeat' (first 
    | (with_reducible assumption) | (with_reducible apply keep_selectionDisagree) | (intro _) | (with_reducible apply kept_ite) 
    | (split) | (dsimp only))

theorem kept_execServoSampleEvent (n : Ch) (o : SampleObs) (s : State) (u : State) (e : execServoSampleEvent n o s = .next u) (kq : Kept qq s) : Kept qq u := by
  unfold execServoSampleEvent at e
  refine kept_of_next e ?_
  repeat' (first 
    | (with_reducible assumption) | (with_reducible apply keep_sampleEvent) | (intro _) | (with_reducible apply kept_ite) 
    | (split) | (dsimp only))

theorem kept_execIdleSelfCheckTick (n : Ch) (aOk bOk : Bool) (s : State) (u : State) (e : execIdleSelfCheckTick n aOk bOk s = .next u) (kq : Kept qq s) : Kept qq u := by
  unfold execIdleSelfCheckTick at e
  refine kept_of_next e ?_
  repeat' (first 
    | (with_reducible assumption) | (with_reducible apply keep_idleTick) | (intro _) | (with_reducible apply kept_ite) | (split) 
    | (dsimp only))

theorem kept_execEngineRecoveryCopyDone (n : Ch) (s : State) (u : State) (e : execEngineRecoveryCopyDone n s = .next u) (kq : Kept qq s) : Kept qq u := by
  unfold execEngineRecoveryCopyDone at e
  refine kept_of_next e ?_
  repeat' (first 
    | (with_reducible assumption) | (with_reducible apply keep_copyDone) | (intro _) | (with_reducible apply kept_ite) | (split) 
    | (dsimp only))

theorem kept_execTakeBack (n : Ch) (cls : Pa) (s : State) (u : State) (e : execTakeBack n cls s = .next u) (kq : Kept qq s) : Kept qq u := by
  unfold execTakeBack at e
  refine kept_of_next e ?_
  repeat' (first 
    | (with_reducible assumption) | (with_reducible apply keep_takeBackEvent) | (intro _) | (with_reducible apply kept_ite) 
    | (split) | (dsimp only))

theorem kept_execLoopImplausibleDeclare (n : Ch) (b : Bool) (l : Loop) (s : State) (u : State) (e : execLoopImplausibleDeclare n b l s = .next u) (kq : Kept qq s) : Kept qq u := by
  unfold execLoopImplausibleDeclare at e
  refine kept_of_next e ?_
  repeat' (first 
    | (with_reducible assumption) | (with_reducible apply keep_declare) | (intro _) | (with_reducible apply kept_ite) | (split) 
    | (dsimp only))

theorem kept_execLoopPlausibleRecover (n : Ch) (b : Bool) (l : Loop) (s : State) (u : State) (e : execLoopPlausibleRecover n b l s = .next u) (kq : Kept qq s) : Kept qq u := by
  unfold execLoopPlausibleRecover at e
  refine kept_of_next e ?_
  repeat' (first 
    | (with_reducible assumption) | (with_reducible apply keep_plausible) | (intro _) | (with_reducible apply kept_ite) | (split) 
    | (dsimp only))

theorem kept_execServoLost (n : Ch) (s : State) (u : State) (e : execServoLost n s = .next u) (kq : Kept qq s) : Kept qq u := by
  unfold execServoLost at e
  refine kept_of_next e ?_
  repeat' (first 
    | (with_reducible assumption) | (with_reducible apply keep_servoLost) | (intro _) | (with_reducible apply kept_ite) | (split) 
    | (dsimp only))

theorem kept_execActRunaway (n : Ch) (a b : Bool) (s : State) (u : State) (e : execActRunaway n a b s = .next u) (kq : Kept qq s) : Kept qq u := by
  unfold execActRunaway at e
  refine kept_of_next e ?_
  repeat' (first 
    | (with_reducible assumption) | (with_reducible apply keep_runaway) | (intro _) | (with_reducible apply kept_ite) | (split) 
    | (dsimp only))

theorem kept_execOnTrack (n : Ch) (p : Pa) (s : State) (u : State) (e : execOnTrack n p s = .next u) (kq : Kept qq s) : Kept qq u := by
  unfold execOnTrack at e
  refine kept_of_next e ?_
  repeat' (first 
    | (with_reducible assumption) | (with_reducible apply keep_onTrack) | (intro _) | (with_reducible apply kept_ite) | (split) 
    | (dsimp only))

theorem kept_execSeekTimeout (n : Ch) (s : State) (u : State) (e : execSeekTimeout n s = .next u) (kq : Kept qq s) : Kept qq u := by
  unfold execSeekTimeout at e
  refine kept_of_next e ?_
  repeat' (first 
    | (with_reducible assumption) | (with_reducible apply keep_seekTimeout) | (intro _) | (with_reducible apply kept_ite) 
    | (split) | (dsimp only))

theorem kept_execSeekRedirect (n : Ch) (target : Int) (s : State) (u : State) (e : execSeekRedirect n target s = .next u) (kq : Kept qq s) : Kept qq u := by
  unfold execSeekRedirect at e
  refine kept_of_next e ?_
  repeat' (first 
    | (with_reducible assumption) | (with_reducible apply keep_redirect) | (intro _) | (with_reducible apply kept_ite) | (split) 
    | (dsimp only))

theorem kept_execSpindleStrobe (n : Ch) (o : StrobeObs) (s : State) (u : State) (e : execSpindleStrobe n o s = .next u) (kq : Kept qq s) : Kept qq u := by
  unfold execSpindleStrobe at e
  refine kept_of_next e ?_
  repeat' (first 
    | (with_reducible assumption) | (with_reducible apply keep_releaseStarts) | (with_reducible apply keep_strobe) | (intro _) 
    | (with_reducible apply kept_ite) | (split) | (dsimp only))

theorem kept_execSwapRequest (n : Ch) (mask : BitVec 6) (s : State) (u : State) (e : execSwapRequest n mask s = .next u) (kq : Kept qq s) : Kept qq u := by
  unfold execSwapRequest at e
  refine kept_of_next e ?_
  repeat' (first 
    | (with_reducible assumption) | (with_reducible apply keep_arbWrite) | (with_reducible apply keep_swapRequest) | (intro _) 
    | (with_reducible apply kept_ite) | (split) | (dsimp only))

theorem kept_execSwapCheckDone (n : Ch) (l : Loop) (s : State) (u : State) (e : execSwapCheckDone n l s = .next u) (kq : Kept qq s) : Kept qq u := by
  unfold execSwapCheckDone at e
  refine kept_of_next e ?_
  repeat' (first 
    | (with_reducible assumption) | (with_reducible apply keep_swapChecked) | (intro _) | (with_reducible apply kept_ite) 
    | (split) | (dsimp only))

theorem kept_execCoefWindowWrite (path : RegPath) (n : Ch) (l : Loop) (i : Byte) (v : W32) (atSwap : Bool) (s : State) (u : State) (e : execCoefWindowWrite path n l i v atSwap s = .next u) (kq : Kept qq s) : Kept qq u := by
  unfold execCoefWindowWrite at e
  refine kept_of_next e ?_
  repeat' (first 
    | (with_reducible assumption) | (with_reducible apply keep_coefWrite) | (with_reducible apply keep_lockedWrite) | (intro _) 
    | (with_reducible apply kept_ite) | (split) | (dsimp only))

theorem kept_execShockEvent (n : Ch) (s : State) (u : State) (e : execShockEvent n s = .next u) (kq : Kept qq s) : Kept qq u := by
  unfold execShockEvent at e
  refine kept_of_next e ?_
  repeat' (first 
    | (with_reducible assumption) | (with_reducible apply keep_shockEvent) | (intro _) | (with_reducible apply kept_ite) 
    | (split) | (dsimp only))

theorem kept_execShockHoldExpire (n : Ch) (s : State) (u : State) (e : execShockHoldExpire n s = .next u) (kq : Kept qq s) : Kept qq u := by
  unfold execShockHoldExpire at e
  refine kept_of_next e ?_
  repeat' (first 
    | (with_reducible assumption) | (with_reducible apply keep_modServo) | (intro _) | (with_reducible apply kept_ite) | (split) 
    | (dsimp only))

theorem kept_execRroConverged (n : Ch) (p : Pa) (s : State) (u : State) (e : execRroConverged n p s = .next u) (kq : Kept qq s) : Kept qq u := by
  unfold execRroConverged at e
  refine kept_of_next e ?_
  repeat' (first 
    | (with_reducible assumption) | (with_reducible apply keep_converged) | (intro _) | (with_reducible apply kept_ite) | (split) 
    | (dsimp only))

theorem kept_execRroNoConvergence (n : Ch) (p : Pa) (s : State) (u : State) (e : execRroNoConvergence n p s = .next u) (kq : Kept qq s) : Kept qq u := by
  unfold execRroNoConvergence at e
  refine kept_of_next e ?_
  repeat' (first 
    | (with_reducible assumption) | (with_reducible apply keep_noConvergence) | (intro _) | (with_reducible apply kept_ite) 
    | (split) | (dsimp only))

theorem kept_execServoAcquired (n : Ch) (pos : Int) (s : State) (u : State) (e : execServoAcquired n pos s = .next u) (kq : Kept qq s) : Kept qq u := by
  unfold execServoAcquired at e
  refine kept_of_next e ?_
  repeat' (first 
    | (with_reducible assumption) | (with_reducible apply keep_acquired) | (intro _) | (with_reducible apply kept_ite) | (split) 
    | (dsimp only))

theorem kept_execLoadTimeout (n : Ch) (s : State) (u : State) (e : execLoadTimeout n s = .next u) (kq : Kept qq s) : Kept qq u := by
  unfold execLoadTimeout at e
  refine kept_of_next e ?_
  repeat' (first 
    | (with_reducible assumption) | (with_reducible apply keep_loadTimeout) | (intro _) | (with_reducible apply kept_ite) 
    | (split) | (dsimp only))

theorem kept_execFirstPassDecodeEnd (n : Ch) (p : Pa) (s : State) (u : State) (e : execFirstPassDecodeEnd n p s = .next u) (kq : Kept qq s) : Kept qq u := by
  unfold execFirstPassDecodeEnd at e
  refine kept_of_next e ?_
  repeat' (first 
    | (with_reducible assumption) | (with_reducible apply keep_firstPass) | (intro _) | (with_reducible apply kept_ite) | (split) 
    | (dsimp only))

theorem kept_execLadderRedecode (n : Ch) (i : Nat) (s : State) (u : State) (e : execLadderRedecode n i s = .next u) (kq : Kept qq s) : Kept qq u := by
  unfold execLadderRedecode at e
  refine kept_of_next e ?_
  repeat' (first 
    | (with_reducible assumption) | (with_reducible apply keep_ladderDecode) | (intro _) | (with_reducible apply kept_ite) 
    | (split) | (dsimp only))

theorem kept_execLadderReeq (n : Ch) (i : Nat) (s : State) (u : State) (e : execLadderReeq n i s = .next u) (kq : Kept qq s) : Kept qq u := by
  unfold execLadderReeq at e
  refine kept_of_next e ?_
  repeat' (first 
    | (with_reducible assumption) | (with_reducible apply keep_ladderDecode) | (intro _) | (with_reducible apply kept_ite) 
    | (split) | (dsimp only))

theorem kept_execLadderReader (n : Ch) (i : Nat) (s : State) (u : State) (e : execLadderReader n i s = .next u) (kq : Kept qq s) : Kept qq u := by
  unfold execLadderReader at e
  refine kept_of_next e ?_
  repeat' (first 
    | (with_reducible assumption) | (with_reducible apply keep_ladderDecode) | (intro _) | (with_reducible apply kept_ite) 
    | (split) | (dsimp only))

theorem kept_execLadderSlip (n : Ch) (i : Nat) (s : State) (u : State) (e : execLadderSlip n i s = .next u) (kq : Kept qq s) : Kept qq u := by
  unfold execLadderSlip at e
  refine kept_of_next e ?_
  repeat' (first 
    | (with_reducible assumption) | (with_reducible apply keep_ladderSlip) | (intro _) | (with_reducible apply kept_ite) 
    | (split) | (dsimp only))

theorem kept_execLadderBlind (n : Ch) (i : Nat) (s : State) (u : State) (e : execLadderBlind n i s = .next u) (kq : Kept qq s) : Kept qq u := by
  unfold execLadderBlind at e
  refine kept_of_next e ?_
  repeat' (first 
    | (with_reducible assumption) | (with_reducible apply keep_ladderSlip) | (intro _) | (with_reducible apply kept_ite) 
    | (split) | (dsimp only))

theorem kept_execLadderReread (n : Ch) (i : Nat) (s : State) (u : State) (e : execLadderReread n i s = .next u) (kq : Kept qq s) : Kept qq u := by
  unfold execLadderReread at e
  refine kept_of_next e ?_
  repeat' (first 
    | (with_reducible assumption) | (with_reducible apply keep_reread) | (intro _) | (with_reducible apply kept_ite) | (split) 
    | (dsimp only))

theorem kept_execLadderTa (n : Ch) (i : Nat) (s : State) (u : State) (e : execLadderTa n i s = .next u) (kq : Kept qq s) : Kept qq u := by
  unfold execLadderTa at e
  refine kept_of_next e ?_
  repeat' (first 
    | (with_reducible assumption) | (with_reducible apply keep_ladderDecode) | (intro _) | (with_reducible apply kept_ite) 
    | (split) | (dsimp only))

theorem kept_execReamWaitGrant (pool : PoolId) (s : State) (u : State) (e : execReamWaitGrant pool s = .next u) (kq : Kept qq s) : Kept qq u := by
  unfold execReamWaitGrant at e
  refine kept_of_next e ?_
  repeat' (first 
    | (with_reducible assumption) | (with_reducible apply keep_pumpRewrites) | (with_reducible apply keep_resume) 
    | (with_reducible apply keep_waitGrant) | (intro _) | (with_reducible apply kept_ite) | (split) | (dsimp only))

theorem kept_execReadDeadlineExpire (k : Nat) (s : State) (u : State) (e : execReadDeadlineExpire k s = .next u) (kq : Kept qq s) : Kept qq u := by
  unfold execReadDeadlineExpire at e
  refine kept_of_next e ?_
  repeat' (first 
    | (with_reducible assumption) | (with_reducible apply keep_deadline) | (intro _) | (with_reducible apply kept_ite) | (split) 
    | (dsimp only))

theorem kept_execSchedTakeDescriptor (n : Ch) (i : Nat) (s : State) (u : State) (e : execSchedTakeDescriptor n i s = .next u) (kq : Kept qq s) : Kept qq u := by
  unfold execSchedTakeDescriptor at e
  refine kept_of_next e ?_
  repeat' (first 
    | (with_reducible assumption) | (with_reducible apply keep_schedTake) | (intro _) | (with_reducible apply kept_ite) | (split) 
    | (dsimp only))

theorem kept_execSpeculativeSeek (n : Ch) (target : Int) (s : State) (u : State) (e : execSpeculativeSeek n target s = .next u) (kq : Kept qq s) : Kept qq u := by
  unfold execSpeculativeSeek at e
  refine kept_of_next e ?_
  repeat' (first 
    | (with_reducible assumption) | (with_reducible apply keep_specSeek) | (intro _) | (with_reducible apply kept_ite) | (split) 
    | (dsimp only))

theorem kept_execReadSig (n : Ch) (d : Desc) (s : State) (u : State) (e : execReadSig n d s = .next u) (kq : Kept qq s) : Kept qq u := by
  unfold execReadSig at e
  refine kept_of_next e ?_
  repeat' (first 
    | (with_reducible assumption) | (with_reducible apply keep_issueDesc) | (intro _) | (with_reducible apply kept_ite) | (split) 
    | (dsimp only))

theorem kept_execWriteSig (n : Ch) (d : Desc) (s : State) (u : State) (e : execWriteSig n d s = .next u) (kq : Kept qq s) : Kept qq u := by
  unfold execWriteSig at e
  refine kept_of_next e ?_
  repeat' (first 
    | (with_reducible assumption) | (with_reducible apply keep_issueDesc) | (intro _) | (with_reducible apply kept_ite) | (split) 
    | (dsimp only))

theorem kept_execVerifySig (n : Ch) (d : Desc) (s : State) (u : State) (e : execVerifySig n d s = .next u) (kq : Kept qq s) : Kept qq u := by
  unfold execVerifySig at e
  refine kept_of_next e ?_
  repeat' (first 
    | (with_reducible assumption) | (with_reducible apply keep_issueDesc) | (intro _) | (with_reducible apply kept_ite) | (split) 
    | (dsimp only))

theorem kept_execScanServo (n : Ch) (d : Desc) (s : State) (u : State) (e : execScanServo n d s = .next u) (kq : Kept qq s) : Kept qq u := by
  unfold execScanServo at e
  refine kept_of_next e ?_
  repeat' (first 
    | (with_reducible assumption) | (with_reducible apply keep_issueDesc) | (intro _) | (with_reducible apply kept_ite) | (split) 
    | (dsimp only))

theorem kept_execFormatTrack (n : Ch) (d : Desc) (s : State) (u : State) (e : execFormatTrack n d s = .next u) (kq : Kept qq s) : Kept qq u := by
  unfold execFormatTrack at e
  refine kept_of_next e ?_
  repeat' (first 
    | (with_reducible assumption) | (with_reducible apply keep_issueDesc) | (intro _) | (with_reducible apply kept_ite) | (split) 
    | (dsimp only))

theorem kept_execCapture (n : Ch) (d : Desc) (s : State) (u : State) (e : execCapture n d s = .next u) (kq : Kept qq s) : Kept qq u := by
  unfold execCapture at e
  refine kept_of_next e ?_
  repeat' (first 
    | (with_reducible assumption) | (with_reducible apply keep_issueDesc) | (intro _) | (with_reducible apply kept_ite) | (split) 
    | (dsimp only))

theorem kept_execImageDefinedCommand (n : Ch) (d : Desc) (s : State) (u : State) (e : execImageDefinedCommand n d s = .next u) (kq : Kept qq s) : Kept qq u := by
  unfold execImageDefinedCommand at e
  refine kept_of_next e ?_
  repeat' (first 
    | (with_reducible assumption) | (with_reducible apply keep_issueDesc) | (intro _) | (with_reducible apply kept_ite) | (split) 
    | (dsimp only))

theorem kept_execPartFirstBit (n : Ch) (p : Pa) (inTime : Bool) (s : State) (u : State) (e : execPartFirstBit n p inTime s = .next u) (kq : Kept qq s) : Kept qq u := by
  unfold execPartFirstBit at e
  refine kept_of_next e ?_
  repeat' (first 
    | (with_reducible assumption) | (with_reducible apply keep_partBegins) | (intro _) | (with_reducible apply kept_ite) 
    | (split) | (dsimp only))

theorem kept_execWriteFifoReady (n : Ch) (p : Pa) (memErr : Bool) (s : State) (u : State) (e : execWriteFifoReady n p memErr s = .next u) (kq : Kept qq s) : Kept qq u := by
  unfold execWriteFifoReady at e
  refine kept_of_next e ?_
  repeat' (first 
    | (with_reducible assumption) | (with_reducible apply keep_fifoReady) | (intro _) | (with_reducible apply kept_ite) | (split) 
    | (dsimp only))

theorem kept_execPreampFaultAssert (n : Ch) (head : Nat) (paStat : W16) (s : State) (u : State) (e : execPreampFaultAssert n head paStat s = .next u) (kq : Kept qq s) : Kept qq u := by
  unfold execPreampFaultAssert at e
  refine kept_of_next e ?_
  repeat' (first 
    | (with_reducible assumption) | (with_reducible apply keep_preampFault) | (intro _) | (with_reducible apply kept_ite) 
    | (split) | (dsimp only))

theorem kept_execPreampFaultRelease (n : Ch) (s : State) (u : State) (e : execPreampFaultRelease n s = .next u) (kq : Kept qq s) : Kept qq u := by
  unfold execPreampFaultRelease at e
  refine kept_of_next e ?_
  repeat' (first 
    | (with_reducible assumption) | (with_reducible apply keep_modChan) | (intro _) | (with_reducible apply kept_ite) | (split) 
    | (dsimp only))

theorem kept_execPreampFrameDone (n : Ch) (p : Pa) (s : State) (u : State) (e : execPreampFrameDone n p s = .next u) (kq : Kept qq s) : Kept qq u := by
  unfold execPreampFrameDone at e
  refine kept_of_next e ?_
  repeat' (first 
    | (with_reducible assumption) | (with_reducible apply keep_preampDone) | (intro _) | (with_reducible apply kept_ite) 
    | (split) | (dsimp only))

theorem kept_execZoneReady (n : Ch) (p : Pa) (s : State) (u : State) (e : execZoneReady n p s = .next u) (kq : Kept qq s) : Kept qq u := by
  unfold execZoneReady at e
  refine kept_of_next e ?_
  repeat' (first 
    | (with_reducible assumption) | (with_reducible apply keep_zoneReady) | (intro _) | (with_reducible apply kept_ite) | (split) 
    | (dsimp only))

theorem kept_execStitchCtlHaltWrite (path : RegPath) (n : Ch) (mask : BitVec 4) (s : State) (u : State) (e : execStitchCtlHaltWrite path n mask s = .next u) (kq : Kept qq s) : Kept qq u := by
  unfold execStitchCtlHaltWrite at e
  refine kept_of_next e ?_
  repeat' (first 
    | (with_reducible assumption) | (with_reducible apply keep_haltWrite) | (intro _) | (with_reducible apply kept_ite) | (split) 
    | (dsimp only))

theorem kept_execControllerEnable (c : Ctl) (ams iosqes iocqes aqaSq aqaCq : Nat) (s : State) (u : State) (e : execControllerEnable c ams iosqes iocqes aqaSq aqaCq s = .next u) (kq : Kept qq s) : Kept qq u := by
  unfold execControllerEnable at e
  refine kept_of_next e ?_
  repeat' (first 
    | (with_reducible assumption) | (with_reducible apply keep_ctlEnable) | (intro _) | (with_reducible apply kept_ite) | (split) 
    | (dsimp only))

theorem kept_execControllerReset (c : Ctl) (s : State) (u : State) (e : execControllerReset c s = .next u) (kq : Kept qq s) : Kept qq u := by
  unfold execControllerReset at e
  refine kept_of_next e ?_
  repeat' (first 
    | (with_reducible assumption) | (with_reducible apply keep_ctlReset) | (intro _) | (with_reducible apply kept_ite) | (split) 
    | (dsimp only))

theorem kept_execRunOnCommandsDone (c : Ctl) (s : State) (u : State) (e : execRunOnCommandsDone c s = .next u) (kq : Kept qq s) : Kept qq u := by
  unfold execRunOnCommandsDone at e
  refine kept_of_next e ?_
  repeat' (first 
    | (with_reducible assumption) | (with_reducible apply keep_runOnDone) | (intro _) | (with_reducible apply kept_ite) | (split) 
    | (dsimp only))

theorem kept_execFunctionLevelReset (c : Ctl) (s : State) (u : State) (e : execFunctionLevelReset c s = .next u) (kq : Kept qq s) : Kept qq u := by
  unfold execFunctionLevelReset at e
  refine kept_of_next e ?_
  repeat' (first 
    | (with_reducible assumption) | (with_reducible apply keep_ctlReset) | (intro _) | (with_reducible apply kept_ite) | (split) 
    | (dsimp only))

theorem kept_execPerstAssert (c : Ctl) (s : State) (u : State) (e : execPerstAssert c s = .next u) (kq : Kept qq s) : Kept qq u := by
  unfold execPerstAssert at e
  refine kept_of_next e ?_
  repeat' (first 
    | (with_reducible assumption) | (with_reducible apply keep_perstAssert) | (intro _) | (with_reducible apply kept_ite) 
    | (split) | (dsimp only))

theorem kept_execOrderlyShutdown (c : Ctl) (s : State) (u : State) (e : execOrderlyShutdown c s = .next u) (kq : Kept qq s) : Kept qq u := by
  unfold execOrderlyShutdown at e
  refine kept_of_next e ?_
  repeat' (first 
    | (with_reducible assumption) | (with_reducible apply keep_orderly) | (intro _) | (with_reducible apply kept_ite) | (split) 
    | (dsimp only))

theorem kept_execAbruptShutdown (c : Ctl) (s : State) (u : State) (e : execAbruptShutdown c s = .next u) (kq : Kept qq s) : Kept qq u := by
  unfold execAbruptShutdown at e
  refine kept_of_next e ?_
  repeat' (first 
    | (with_reducible assumption) | (with_reducible apply keep_abrupt) | (intro _) | (with_reducible apply kept_ite) | (split) 
    | (dsimp only))

theorem kept_execHostLinkDown (c : Ctl) (s : State) (u : State) (e : execHostLinkDown c s = .next u) (kq : Kept qq s) : Kept qq u := by
  unfold execHostLinkDown at e
  refine kept_of_next e ?_
  repeat' (first 
    | (with_reducible assumption) | (with_reducible apply keep_linkDown) | (intro _) | (with_reducible apply kept_ite) | (split) 
    | (dsimp only))

theorem kept_execLinkTrained (c : Ctl) (rate width : Nat) (s : State) (u : State) (e : execLinkTrained c rate width s = .next u) (kq : Kept qq s) : Kept qq u := by
  unfold execLinkTrained at e
  refine kept_of_next e ?_
  repeat' (first 
    | (with_reducible assumption) | (with_reducible apply keep_linkTrained) | (intro _) | (with_reducible apply kept_ite) 
    | (split) | (dsimp only))

theorem kept_execPoisonedHostWriteTlp (c : Ctl) (s : State) (u : State) (e : execPoisonedHostWriteTlp c s = .next u) (kq : Kept qq s) : Kept qq u := by
  unfold execPoisonedHostWriteTlp at e
  refine kept_of_next e ?_
  repeat' (first 
    | (with_reducible assumption) | (with_reducible apply keep_modCtlr) | (intro _) | (with_reducible apply kept_ite) | (split) 
    | (dsimp only))

theorem kept_execHostAerUncorrectable (c : Ctl) (s : State) (u : State) (e : execHostAerUncorrectable c s = .next u) (kq : Kept qq s) : Kept qq u := by
  unfold execHostAerUncorrectable at e
  refine kept_of_next e ?_
  repeat' (first 
    | (with_reducible assumption) | (with_reducible apply keep_modCtlr) | (with_reducible apply keep_raise) | (intro _) 
    | (with_reducible apply kept_ite) | (split) | (dsimp only))

theorem kept_execDeleteIoSubmissionQueue (k : Nat) (s : State) (u : State) (e : execDeleteIoSubmissionQueue k s = .next u) (kq : Kept qq s) : Kept qq u := by
  unfold execDeleteIoSubmissionQueue at e
  refine kept_of_next e ?_
  repeat' (first 
    | (with_reducible assumption) | (with_reducible apply keep_adminStart) | (with_reducible apply keep_deleteSq) | (intro _) 
    | (with_reducible apply kept_ite) | (split) | (dsimp only))

theorem kept_execCreateIoSubmissionQueue (k : Nat) (s : State) (u : State) (e : execCreateIoSubmissionQueue k s = .next u) (kq : Kept qq s) : Kept qq u := by
  unfold execCreateIoSubmissionQueue at e
  refine kept_of_next e ?_
  repeat' (first 
    | (with_reducible assumption) | (with_reducible apply keep_adminStart) | (with_reducible apply keep_createSq) | (intro _) 
    | (with_reducible apply kept_ite) | (split) | (dsimp only))

theorem kept_execDeleteIoCompletionQueue (k : Nat) (s : State) (u : State) (e : execDeleteIoCompletionQueue k s = .next u) (kq : Kept qq s) : Kept qq u := by
  unfold execDeleteIoCompletionQueue at e
  refine kept_of_next e ?_
  repeat' (first 
    | (with_reducible assumption) | (with_reducible apply keep_adminStart) | (with_reducible apply keep_deleteCq) | (intro _) 
    | (with_reducible apply kept_ite) | (split) | (dsimp only))

theorem kept_execCreateIoCompletionQueue (k : Nat) (s : State) (u : State) (e : execCreateIoCompletionQueue k s = .next u) (kq : Kept qq s) : Kept qq u := by
  unfold execCreateIoCompletionQueue at e
  refine kept_of_next e ?_
  repeat' (first 
    | (with_reducible assumption) | (with_reducible apply keep_adminStart) | (with_reducible apply keep_createCq) | (intro _) 
    | (with_reducible apply kept_ite) | (split) | (dsimp only))

theorem kept_execAbort (k : Nat) (s : State) (u : State) (e : execAbort k s = .next u) (kq : Kept qq s) : Kept qq u := by
  unfold execAbort at e
  refine kept_of_next e ?_
  repeat' (first 
    | (with_reducible assumption) | (with_reducible apply keep_abortDecide) | (with_reducible apply keep_adminStart) | (intro _) 
    | (with_reducible apply kept_ite) | (split) | (dsimp only))

theorem kept_execStitchCtlStep (n : Ch) (mask : BitVec 4) (s : State) (u : State) (e : execStitchCtlStep n mask s = .next u) (kq : Kept qq s) : Kept qq u := by
  unfold execStitchCtlStep at e
  refine kept_of_next e ?_
  repeat' (first 
    | (with_reducible assumption) | (with_reducible apply keep_arbWrite) | (with_reducible apply keep_stepMask) | (intro _) 
    | (with_reducible apply kept_ite) | (split) | (dsimp only))

theorem kept_execPartLastBit (n : Ch) (p : Pa) (last : Nat) (o : Capture) (s : State) (u : State) (e : execPartLastBit n p last o s = .next u) (kq : Kept qq s) : Kept qq u := by
  unfold execPartLastBit at e
  refine kept_of_next e ?_
  repeat' (first 
    | (with_reducible assumption) | (with_reducible apply keep_chipRetract) | (with_reducible apply keep_partEnds) | (intro _) 
    | (with_reducible apply kept_ite) | (split) | (dsimp only))

theorem kept_execWorkItemFinished (n : Ch) (tag : W16) (s : State) (u : State) (e : execWorkItemFinished n tag s = .next u) (kq : Kept qq s) : Kept qq u := by
  unfold execWorkItemFinished at e
  refine kept_of_next e ?_
  repeat' (first 
    | (with_reducible assumption) | (with_reducible apply keep_itemFinished) | (intro _) | (with_reducible apply kept_ite) 
    | (split) | (dsimp only))

theorem kept_execChannelEnable (n : Ch) (s : State) (u : State) (e : execChannelEnable n s = .next u) (kq : Kept qq s) : Kept qq u := by
  unfold execChannelEnable at e
  refine kept_of_next e ?_
  repeat' (first 
    | (with_reducible assumption) | (with_reducible apply keep_set) | (with_reducible apply keep_arbWrite) 
    | (with_reducible apply keep_enableStart) | (intro _) | (with_reducible apply kept_ite) | (split) | (dsimp only))

theorem kept_execChannelDisable (n : Ch) (s : State) (u : State) (e : execChannelDisable n s = .next u) (kq : Kept qq s) : Kept qq u := by
  unfold execChannelDisable at e
  refine kept_of_next e ?_
  repeat' (first 
    | (with_reducible assumption) | (with_reducible apply keep_arbWrite) | (with_reducible apply keep_disableStart) | (intro _) 
    | (with_reducible apply kept_ite) | (split) | (dsimp only))

theorem kept_execChannelReady (n : Ch) (lists : Option MediaLists) (s : State) (u : State) (e : execChannelReady n lists s = .next u) (kq : Kept qq s) : Kept qq u := by
  unfold execChannelReady at e
  refine kept_of_next e ?_
  repeat' (first 
    | (with_reducible assumption) | (with_reducible apply keep_chanReadyEnd) | (intro _) | (with_reducible apply kept_ite) 
    | (split) | (dsimp only))

theorem kept_execChannelFence (n : Ch) (s : State) (u : State) (e : execChannelFence n s = .next u) (kq : Kept qq s) : Kept qq u := by
  unfold execChannelFence at e
  refine kept_of_next e ?_
  repeat' (first 
    | (with_reducible assumption) | (with_reducible apply keep_fenceRow) | (intro _) | (with_reducible apply kept_ite) | (split) 
    | (dsimp only))

theorem kept_execChannelReset (path : RegPath) (n : Ch) (s : State) (u : State) (e : execChannelReset path n s = .next u) (kq : Kept qq s) : Kept qq u := by
  unfold execChannelReset at e
  refine kept_of_next e ?_
  repeat' (first 
    | (with_reducible assumption) | (with_reducible apply keep_chanReset) | (with_reducible apply keep_lockedWrite) | (intro _) 
    | (with_reducible apply kept_ite) | (split) | (dsimp only))

theorem kept_execCacheMaintInvalidate (s : State) (u : State) (e : execCacheMaintInvalidate s = .next u) (kq : Kept qq s) : Kept qq u := by
  unfold execCacheMaintInvalidate at e
  refine kept_of_next e ?_
  repeat' (first 
    | (with_reducible assumption) | (with_reducible apply keep_arbWrite) | (with_reducible apply keep_maintGo) | (intro _) 
    | (with_reducible apply kept_ite) | (split) | (dsimp only))

theorem kept_execCacheMaintCleanInvalidate (s : State) (u : State) (e : execCacheMaintCleanInvalidate s = .next u) (kq : Kept qq s) : Kept qq u := by
  unfold execCacheMaintCleanInvalidate at e
  refine kept_of_next e ?_
  repeat' (first 
    | (with_reducible assumption) | (with_reducible apply keep_arbWrite) | (with_reducible apply keep_maintGo) | (intro _) 
    | (with_reducible apply kept_ite) | (split) | (dsimp only))

theorem kept_execCacheMaintPrefetch (s : State) (u : State) (e : execCacheMaintPrefetch s = .next u) (kq : Kept qq s) : Kept qq u := by
  unfold execCacheMaintPrefetch at e
  refine kept_of_next e ?_
  repeat' (first 
    | (with_reducible assumption) | (with_reducible apply keep_arbWrite) | (with_reducible apply keep_maintGo) | (intro _) 
    | (with_reducible apply kept_ite) | (split) | (dsimp only))

theorem kept_execCacheMaintDone (s : State) (u : State) (e : execCacheMaintDone s = .next u) (kq : Kept qq s) : Kept qq u := by
  unfold execCacheMaintDone at e
  refine kept_of_next e ?_
  repeat' (first 
    | (with_reducible assumption) | (with_reducible apply keep_maintDone) | (intro _) | (with_reducible apply kept_ite) | (split) 
    | (dsimp only))

theorem kept_execDramUncorrectable (pc : Fin 16) (ofs : Nat) (s : State) (u : State) (e : execDramUncorrectable pc ofs s = .next u) (kq : Kept qq s) : Kept qq u := by
  unfold execDramUncorrectable at e
  refine kept_of_next e ?_
  repeat' (first 
    | (with_reducible assumption) | (with_reducible apply keep_dramUe) | (intro _) | (with_reducible apply kept_ite) | (split) 
    | (dsimp only))

theorem kept_execDramPcFail (pc : Fin 16) (s : State) (u : State) (e : execDramPcFail pc s = .next u) (kq : Kept qq s) : Kept qq u := by
  unfold execDramPcFail at e
  refine kept_of_next e ?_
  repeat' (first 
    | (with_reducible assumption) | (with_reducible apply keep_pcFail) | (intro _) | (with_reducible apply kept_ite) | (split) 
    | (dsimp only))

theorem kept_execCacheBlockReset (s : State) (u : State) (e : execCacheBlockReset s = .next u) (kq : Kept qq s) : Kept qq u := by
  unfold execCacheBlockReset at e
  refine kept_of_next e ?_
  repeat' (first 
    | (with_reducible assumption) | (with_reducible apply keep_cacheReset) | (intro _) | (with_reducible apply kept_ite) 
    | (split) | (dsimp only))

theorem kept_execSramCorrectableError (mac word : Nat) (syn : Byte) (s : State) (u : State) (e : execSramCorrectableError mac word syn s = .next u) (kq : Kept qq s) : Kept qq u := by
  unfold execSramCorrectableError at e
  refine kept_of_next e ?_
  repeat' (first 
    | (with_reducible assumption) | (with_reducible apply keep_sramCe) | (intro _) | (with_reducible apply kept_ite) | (split) 
    | (dsimp only))

theorem kept_execMemprotRemapMove (mac word : Nat) (s : State) (u : State) (e : execMemprotRemapMove mac word s = .next u) (kq : Kept qq s) : Kept qq u := by
  unfold execMemprotRemapMove at e
  refine kept_of_next e ?_
  repeat' (first 
    | (with_reducible assumption) | (with_reducible apply keep_remapMove) | (intro _) | (with_reducible apply kept_ite) | (split) 
    | (dsimp only))

theorem kept_execSramUncorrectableError (mac word : Nat) (s : State) (u : State) (e : execSramUncorrectableError mac word s = .next u) (kq : Kept qq s) : Kept qq u := by
  unfold execSramUncorrectableError at e
  refine kept_of_next e ?_
  repeat' (first 
    | (with_reducible assumption) | (with_reducible apply keep_sramUe) | (intro _) | (with_reducible apply kept_ite) | (split) 
    | (dsimp only))

theorem kept_execMemprotFlipArm (path : RegPath) (mac : BitVec 12) (s : State) (u : State) (e : execMemprotFlipArm path mac s = .next u) (kq : Kept qq s) : Kept qq u := by
  unfold execMemprotFlipArm at e
  refine kept_of_next e ?_
  repeat' (first 
    | (with_reducible assumption) | (with_reducible apply keep_flipArm) | (intro _) | (with_reducible apply kept_ite) | (split) 
    | (dsimp only))

theorem kept_execMemprotBlockReset (s : State) (u : State) (e : execMemprotBlockReset s = .next u) (kq : Kept qq s) : Kept qq u := by
  unfold execMemprotBlockReset at e
  refine kept_of_next e ?_
  repeat' (first 
    | (with_reducible assumption) | (with_reducible apply keep_memReset) | (intro _) | (with_reducible apply kept_ite) | (split) 
    | (dsimp only))

theorem kept_execReamBlockReset (s : State) (u : State) (e : execReamBlockReset s = .next u) (kq : Kept qq s) : Kept qq u := by
  unfold execReamBlockReset at e
  refine kept_of_next e ?_
  repeat' (first 
    | (with_reducible assumption) | (with_reducible apply keep_reamReset) | (intro _) | (with_reducible apply kept_ite) | (split) 
    | (dsimp only))

theorem kept_execReamPoolEnable (path : RegPath) (pool : PoolId) (s : State) (u : State) (e : execReamPoolEnable path pool s = .next u) (kq : Kept qq s) : Kept qq u := by
  unfold execReamPoolEnable at e
  refine kept_of_next e ?_
  repeat' (first 
    | (with_reducible assumption) | (with_reducible apply keep_lockedWrite) | (with_reducible apply keep_poolOn) | (intro _) 
    | (with_reducible apply kept_ite) | (split) | (dsimp only))

theorem kept_execKetEpochFrame (syms : List Byte) (t : Nat) (again : Option Nat) (s : State) (u : State) (e : execKetEpochFrame syms t again s = .next u) (kq : Kept qq s) : Kept qq u := by
  unfold execKetEpochFrame at e
  refine kept_of_next e ?_
  repeat' (first 
    | (with_reducible assumption) | (with_reducible apply keep_epochArrived) | (with_reducible apply keep_received) | (intro _) 
    | (with_reducible apply kept_ite) | (split) | (dsimp only))

theorem kept_execKetVibFrame (lane : KetLane) (syms : List Byte) (t : Nat) (s : State) (u : State) (e : execKetVibFrame lane syms t s = .next u) (kq : Kept qq s) : Kept qq u := by
  unfold execKetVibFrame at e
  refine kept_of_next e ?_
  repeat' (first 
    | (with_reducible assumption) | (with_reducible apply keep_received) | (with_reducible apply keep_vibArrived) | (intro _) 
    | (with_reducible apply kept_ite) | (split) | (dsimp only))

theorem kept_execKetDreqFrame (syms : List Byte) (tArr tDep : Nat) (s : State) (u : State) (e : execKetDreqFrame syms tArr tDep s = .next u) (kq : Kept qq s) : Kept qq u := by
  unfold execKetDreqFrame at e
  refine kept_of_next e ?_
  repeat' (first 
    | (with_reducible assumption) | (with_reducible apply keep_dreqArrived) | (with_reducible apply keep_received) | (intro _) 
    | (with_reducible apply kept_ite) | (split) | (dsimp only))

theorem kept_execKetDrspFrame (syms : List Byte) (t4 : Nat) (s : State) (u : State) (e : execKetDrspFrame syms t4 s = .next u) (kq : Kept qq s) : Kept qq u := by
  unfold execKetDrspFrame at e
  refine kept_of_next e ?_
  repeat' (first 
    | (with_reducible assumption) | (with_reducible apply keep_drspArrived) | (with_reducible apply keep_received) | (intro _) 
    | (with_reducible apply kept_ite) | (split) | (dsimp only))

theorem kept_execKetTailFrame (syms : List Byte) (s : State) (u : State) (e : execKetTailFrame syms s = .next u) (kq : Kept qq s) : Kept qq u := by
  unfold execKetTailFrame at e
  refine kept_of_next e ?_
  repeat' (first 
    | (with_reducible assumption) | (with_reducible apply keep_received) | (with_reducible apply keep_tailArrived) | (intro _) 
    | (with_reducible apply kept_ite) | (split) | (dsimp only))

theorem kept_execKetEpochTick (t : Nat) (s : State) (u : State) (e : execKetEpochTick t s = .next u) (kq : Kept qq s) : Kept qq u := by
  unfold execKetEpochTick at e
  refine kept_of_next e ?_
  repeat' (first 
    | (with_reducible assumption) | (with_reducible apply keep_epochTick) | (intro _) | (with_reducible apply kept_ite) | (split) 
    | (dsimp only))

theorem kept_execKetDreqTick (t1 : Nat) (s : State) (u : State) (e : execKetDreqTick t1 s = .next u) (kq : Kept qq s) : Kept qq u := by
  unfold execKetDreqTick at e
  refine kept_of_next e ?_
  repeat' (first 
    | (with_reducible assumption) | (with_reducible apply keep_dreqTick) | (intro _) | (with_reducible apply kept_ite) | (split) 
    | (dsimp only))

theorem kept_execKetTailTick (s : State) (u : State) (e : execKetTailTick s = .next u) (kq : Kept qq s) : Kept qq u := by
  unfold execKetTailTick at e
  refine kept_of_next e ?_
  repeat' (first 
    | (with_reducible assumption) | (with_reducible apply keep_tailTick) | (intro _) | (with_reducible apply kept_ite) | (split) 
    | (dsimp only))

theorem kept_execKetVibRead (sample : W16) (t : Nat) (s : State) (u : State) (e : execKetVibRead sample t s = .next u) (kq : Kept qq s) : Kept qq u := by
  unfold execKetVibRead at e
  refine kept_of_next e ?_
  repeat' (first 
    | (with_reducible assumption) | (with_reducible apply keep_vibRead) | (intro _) | (with_reducible apply kept_ite) | (split) 
    | (dsimp only))

theorem kept_execKetLaneLock (lane : KetLane) (s : State) (u : State) (e : execKetLaneLock lane s = .next u) (kq : Kept qq s) : Kept qq u := by
  unfold execKetLaneLock at e
  refine kept_of_next e ?_
  repeat' (first 
    | (with_reducible assumption) | (with_reducible apply keep_laneLock) | (intro _) | (with_reducible apply kept_ite) | (split) 
    | (dsimp only))

theorem kept_execKetLaneLost (lane : KetLane) (s : State) (u : State) (e : execKetLaneLost lane s = .next u) (kq : Kept qq s) : Kept qq u := by
  unfold execKetLaneLost at e
  refine kept_of_next e ?_
  repeat' (first 
    | (with_reducible assumption) | (with_reducible apply keep_laneLost) | (intro _) | (with_reducible apply kept_ite) | (split) 
    | (dsimp only))

theorem kept_execKetHoldover (s : State) (u : State) (e : execKetHoldover s = .next u) (kq : Kept qq s) : Kept qq u := by
  unfold execKetHoldover at e
  refine kept_of_next e ?_
  repeat' (first 
    | (with_reducible assumption) | (with_reducible apply keep_holdover) | (intro _) | (with_reducible apply kept_ite) | (split) 
    | (dsimp only))

theorem kept_execKetSegmentHead (s : State) (u : State) (e : execKetSegmentHead s = .next u) (kq : Kept qq s) : Kept qq u := by
  unfold execKetSegmentHead at e
  refine kept_of_next e ?_
  repeat' (first 
    | (with_reducible assumption) | (with_reducible apply keep_segmentHead) | (intro _) | (with_reducible apply kept_ite) 
    | (split) | (dsimp only))

theorem kept_execKetAutoHead (s : State) (u : State) (e : execKetAutoHead s = .next u) (kq : Kept qq s) : Kept qq u := by
  unfold execKetAutoHead at e
  refine kept_of_next e ?_
  repeat' (first 
    | (with_reducible assumption) | (with_reducible apply keep_autoHead) | (intro _) | (with_reducible apply kept_ite) | (split) 
    | (dsimp only))

theorem kept_execKetEnable (en : Bool) (s : State) (u : State) (e : execKetEnable en s = .next u) (kq : Kept qq s) : Kept qq u := by
  unfold execKetEnable at e
  refine kept_of_next e ?_
  repeat' (first 
    | (with_reducible assumption) | (with_reducible apply keep_arbWrite) | (with_reducible apply keep_ketEnable) | (intro _) 
    | (with_reducible apply kept_ite) | (split) | (dsimp only))

theorem kept_execKetBlockReset (s : State) (u : State) (e : execKetBlockReset s = .next u) (kq : Kept qq s) : Kept qq u := by
  unfold execKetBlockReset at e
  refine kept_of_next e ?_
  repeat' (first 
    | (with_reducible assumption) | (with_reducible apply keep_ketReset) | (intro _) | (with_reducible apply kept_ite) | (split) 
    | (dsimp only))

theorem kept_execFlyEnable (s : State) (u : State) (e : execFlyEnable s = .next u) (kq : Kept qq s) : Kept qq u := by
  unfold execFlyEnable at e
  refine kept_of_next e ?_
  repeat' (first 
    | (with_reducible assumption) | (with_reducible apply keep_arbWrite) | (with_reducible apply keep_flyEnable) | (intro _) 
    | (with_reducible apply kept_ite) | (split) | (dsimp only))

theorem kept_execFlyDisable (s : State) (u : State) (e : execFlyDisable s = .next u) (kq : Kept qq s) : Kept qq u := by
  unfold execFlyDisable at e
  refine kept_of_next e ?_
  repeat' (first 
    | (with_reducible assumption) | (with_reducible apply keep_arbWrite) | (with_reducible apply keep_flyDisable) | (intro _) 
    | (with_reducible apply kept_ite) | (split) | (dsimp only))

theorem kept_execFlyStartDone (unread : List Nat) (s : State) (u : State) (e : execFlyStartDone unread s = .next u) (kq : Kept qq s) : Kept qq u := by
  unfold execFlyStartDone at e
  refine kept_of_next e ?_
  repeat' (first 
    | (with_reducible assumption) | (with_reducible apply keep_flyStart) | (intro _) | (with_reducible apply kept_ite) | (split) 
    | (dsimp only))

theorem kept_execFlyPackTimeout (s : State) (u : State) (e : execFlyPackTimeout s = .next u) (kq : Kept qq s) : Kept qq u := by
  unfold execFlyPackTimeout at e
  refine kept_of_next e ?_
  repeat' (first 
    | (with_reducible assumption) | (with_reducible apply keep_packRest) | (intro _) | (with_reducible apply kept_ite) | (split) 
    | (dsimp only))

theorem kept_execFlyPageProgramDone (pg : Nat) (pass : Bool) (s : State) (u : State) (e : execFlyPageProgramDone pg pass s = .next u) (kq : Kept qq s) : Kept qq u := by
  unfold execFlyPageProgramDone at e
  refine kept_of_next e ?_
  repeat' (first 
    | (with_reducible assumption) | (with_reducible apply keep_pageProgrammed) | (intro _) | (with_reducible apply kept_ite) 
    | (split) | (dsimp only))

theorem kept_execFlyBandVerifyDone (band : Nat) (checks : List PageCheck) (s : State) (u : State) (e : execFlyBandVerifyDone band checks s = .next u) (kq : Kept qq s) : Kept qq u := by
  unfold execFlyBandVerifyDone at e
  refine kept_of_next e ?_
  repeat' (first 
    | (with_reducible assumption) | (with_reducible apply keep_bandVerified) | (intro _) | (with_reducible apply kept_ite) 
    | (split) | (dsimp only))

theorem kept_execFlyDestagePageTimer (s : State) (u : State) (e : execFlyDestagePageTimer s = .next u) (kq : Kept qq s) : Kept qq u := by
  unfold execFlyDestagePageTimer at e
  refine kept_of_next e ?_
  repeat' (first 
    | (with_reducible assumption) | (with_reducible apply keep_destagePage) | (intro _) | (with_reducible apply kept_ite) 
    | (split) | (dsimp only))

theorem kept_execFlyBookmarkPageTimer (s : State) (u : State) (e : execFlyBookmarkPageTimer s = .next u) (kq : Kept qq s) : Kept qq u := by
  unfold execFlyBookmarkPageTimer at e
  refine kept_of_next e ?_
  repeat' (first 
    | (with_reducible assumption) | (with_reducible apply keep_bookmarkPage) | (intro _) | (with_reducible apply kept_ite) 
    | (split) | (dsimp only))

theorem kept_execFlyCollectionStart (idle : Bool) (s : State) (u : State) (e : execFlyCollectionStart idle s = .next u) (kq : Kept qq s) : Kept qq u := by
  unfold execFlyCollectionStart at e
  refine kept_of_next e ?_
  repeat' (first 
    | (with_reducible assumption) | (with_reducible apply keep_collect) | (with_reducible apply keep_fallBackAll) | (intro _) 
    | (with_reducible apply kept_ite) | (split) | (dsimp only))

theorem kept_execFlyVictimErase (checks : List PageCheck) (s : State) (u : State) (e : execFlyVictimErase checks s = .next u) (kq : Kept qq s) : Kept qq u := by
  unfold execFlyVictimErase at e
  refine kept_of_next e ?_
  repeat' (first 
    | (with_reducible assumption) | (with_reducible apply keep_victimErase) | (intro _) | (with_reducible apply kept_ite) 
    | (split) | (dsimp only))

theorem kept_execFlyEraseDone (die blk : Nat) (ok : Bool) (s : State) (u : State) (e : execFlyEraseDone die blk ok s = .next u) (kq : Kept qq s) : Kept qq u := by
  unfold execFlyEraseDone at e
  refine kept_of_next e ?_
  repeat' (first 
    | (with_reducible assumption) | (with_reducible apply keep_eraseDone) | (intro _) | (with_reducible apply kept_ite) | (split) 
    | (dsimp only))

theorem kept_execFlyDieFail (die : Nat) (dead : Bool) (s : State) (u : State) (e : execFlyDieFail die dead s = .next u) (kq : Kept qq s) : Kept qq u := by
  unfold execFlyDieFail at e
  refine kept_of_next e ?_
  repeat' (first 
    | (with_reducible assumption) | (with_reducible apply keep_dieFail) | (with_reducible apply keep_fallBackAll) | (intro _) 
    | (with_reducible apply kept_ite) | (split) | (dsimp only))

theorem kept_execFlyDrained (s : State) (u : State) (e : execFlyDrained s = .next u) (kq : Kept qq s) : Kept qq u := by
  unfold execFlyDrained at e
  refine kept_of_next e ?_
  repeat' (first 
    | (with_reducible assumption) | (with_reducible apply keep_modFly) | (with_reducible apply keep_set) 
    | (with_reducible apply keep_destagePage) | (intro _) | (with_reducible apply kept_ite) | (split) | (dsimp only))

theorem kept_execFlyWarmOffer (sn way load : Nat) (s : State) (u : State) (e : execFlyWarmOffer sn way load s = .next u) (kq : Kept qq s) : Kept qq u := by
  unfold execFlyWarmOffer at e
  refine kept_of_next e ?_
  repeat' (first 
    | (with_reducible assumption) | (with_reducible apply keep_warmOffer) | (intro _) | (with_reducible apply kept_ite) | (split) 
    | (dsimp only))

theorem kept_execFlyBlockReset (s : State) (u : State) (e : execFlyBlockReset s = .next u) (kq : Kept qq s) : Kept qq u := by
  unfold execFlyBlockReset at e
  refine kept_of_next e ?_
  repeat' (first 
    | (with_reducible assumption) | (with_reducible apply keep_flyReset) | (intro _) | (with_reducible apply kept_ite) | (split) 
    | (dsimp only))

theorem kept_execFlyPageReadDone (nsid line : Nat) (ok : Bool) (s : State) (u : State) (e : execFlyPageReadDone nsid line ok s = .next u) (kq : Kept qq s) : Kept qq u := by
  unfold execFlyPageReadDone at e
  refine kept_of_next e ?_
  repeat' (first 
    | (with_reducible assumption) | (with_reducible apply keep_warmRead) | (intro _) | (with_reducible apply kept_ite) | (split) 
    | (dsimp only))

theorem kept_execConsistencyCheckEnd (b : CheckBlock) (o : CheckObs) (s : State) (u : State) (e : execConsistencyCheckEnd b o s = .next u) (kq : Kept qq s) : Kept qq u := by
  unfold execConsistencyCheckEnd at e
  refine kept_of_next e ?_
  repeat' (first 
    | (with_reducible assumption) | (with_reducible apply keep_checkEnd) | (intro _) | (with_reducible apply kept_ite) | (split) 
    | (dsimp only))

theorem kept_execPwrDomctlWrite (path : RegPath) (hi : Bool) (v : W32) (s : State) (u : State) (e : execPwrDomctlWrite path hi v s = .next u) (kq : Kept qq s) : Kept qq u := by
  unfold execPwrDomctlWrite at e
  refine kept_of_next e ?_
  repeat' (first 
    | (with_reducible assumption) | (with_reducible apply keep_lockedWrite) | (with_reducible apply keep_request) | (intro _) 
    | (with_reducible apply kept_ite) | (split) | (dsimp only))

theorem kept_execDomainOnComplete (d : Fin 50) (faulty : List (Nat × Nat)) (s : State) (u : State) (e : execDomainOnComplete d faulty s = .next u) (kq : Kept qq s) : Kept qq u := by
  unfold execDomainOnComplete at e
  refine kept_of_next e ?_
  repeat' (first 
    | (with_reducible assumption) | (with_reducible apply keep_domainOn) | (intro _) | (with_reducible apply kept_ite) | (split) 
    | (dsimp only))

theorem kept_execFaultSourceLatch (same : Nat) (s : State) (u : State) (e : execFaultSourceLatch same s = .next u) (kq : Kept qq s) : Kept qq u := by
  unfold execFaultSourceLatch at e
  refine kept_of_next e ?_
  repeat' (first 
    | (with_reducible assumption) | (with_reducible apply keep_latch) | (intro _) | (with_reducible apply kept_ite) | (split) 
    | (dsimp only))

theorem kept_execFaultStatusClear (i : Fin 12) (v : W32) (s : State) (u : State) (e : execFaultStatusClear i v s = .next u) (kq : Kept qq s) : Kept qq u := by
  unfold execFaultStatusClear at e
  refine kept_of_next e ?_
  repeat' (first 
    | (with_reducible assumption) | (with_reducible apply keep_arbWrite) | (with_reducible apply keep_statusClear) | (intro _) 
    | (with_reducible apply kept_ite) | (split) | (dsimp only))

theorem kept_execFaultForceSafe (path : RegPath) (s : State) (u : State) (e : execFaultForceSafe path s = .next u) (kq : Kept qq s) : Kept qq u := by
  unfold execFaultForceSafe at e
  refine kept_of_next e ?_
  repeat' (first 
    | (with_reducible assumption) | (with_reducible apply keep_raise) | (with_reducible apply keep_lockedWrite) | (intro _) 
    | (with_reducible apply kept_ite) | (split) | (dsimp only))

theorem kept_execFaultChipRst (s : State) (u : State) (e : execFaultChipRst s = .next u) (kq : Kept qq s) : Kept qq u := by
  unfold execFaultChipRst at e
  refine kept_of_next e ?_
  repeat' (first 
    | (with_reducible assumption) | (with_reducible apply keep_arbWrite) | (with_reducible apply keep_startChip) | (intro _) 
    | (with_reducible apply kept_ite) | (split) | (dsimp only))

theorem kept_execFaultSelf (s : State) (u : State) (e : execFaultSelf s = .next u) (kq : Kept qq s) : Kept qq u := by
  unfold execFaultSelf at e
  refine kept_of_next e ?_
  repeat' (first 
    | (with_reducible assumption) | (with_reducible apply keep_faultSelf) | (intro _) | (with_reducible apply kept_ite) | (split) 
    | (dsimp only))

theorem kept_execMgmtChannelReenable (n : Ch) (s : State) (u : State) (e : execMgmtChannelReenable n s = .next u) (kq : Kept qq s) : Kept qq u := by
  unfold execMgmtChannelReenable at e
  refine kept_of_next e ?_
  repeat' (first 
    | (with_reducible assumption) | (with_reducible apply keep_reenable) | (intro _) | (with_reducible apply kept_ite) | (split) 
    | (dsimp only))

theorem kept_execMgmtWdog (s : State) (u : State) (e : execMgmtWdog s = .next u) (kq : Kept qq s) : Kept qq u := by
  unfold execMgmtWdog at e
  refine kept_of_next e ?_
  repeat' (first 
    | (with_reducible assumption) | (with_reducible apply keep_raise) | (intro _) | (with_reducible apply kept_ite) | (split) 
    | (dsimp only))

theorem kept_execDmaBlockReset (s : State) (u : State) (e : execDmaBlockReset s = .next u) (kq : Kept qq s) : Kept qq u := by
  unfold execDmaBlockReset at e
  refine kept_of_next e ?_
  repeat' (first 
    | (with_reducible assumption) | (with_reducible apply keep_dmaReset) | (intro _) | (with_reducible apply kept_ite) | (split) 
    | (dsimp only))

theorem kept_execPowerOnReset (bifur fuseSame : Bool) (s : State) (u : State) (e : execPowerOnReset bifur fuseSame s = .next u) (kq : Kept qq s) : Kept qq u := by
  unfold execPowerOnReset at e
  refine kept_of_next e ?_
  repeat' (first 
    | (with_reducible assumption) | (with_reducible apply keep_powerOn) | (intro _) | (with_reducible apply kept_ite) | (split) 
    | (dsimp only))

theorem kept_execBrownOutReset (s : State) (u : State) (e : execBrownOutReset s = .next u) (kq : Kept qq s) : Kept qq u := by
  unfold execBrownOutReset at e
  refine kept_of_next e ?_
  repeat' (first 
    | (with_reducible assumption) | (with_reducible apply keep_powerOn) | (intro _) | (with_reducible apply kept_ite) | (split) 
    | (dsimp only))

theorem kept_execRstNAssert (s : State) (u : State) (e : execRstNAssert s = .next u) (kq : Kept qq s) : Kept qq u := by
  unfold execRstNAssert at e
  refine kept_of_next e ?_
  repeat' (first 
    | (with_reducible assumption) | (with_reducible apply keep_startChip) | (intro _) | (with_reducible apply kept_ite) | (split) 
    | (dsimp only))

theorem kept_execRstNRelease (s : State) (u : State) (e : execRstNRelease s = .next u) (kq : Kept qq s) : Kept qq u := by
  unfold execRstNRelease at e
  refine kept_of_next e ?_
  repeat' (first 
    | (with_reducible assumption) | (with_reducible apply keep_rstRelease) | (intro _) | (with_reducible apply kept_ite) 
    | (split) | (dsimp only))

theorem kept_execChipResetTaken (s : State) (u : State) (e : execChipResetTaken s = .next u) (kq : Kept qq s) : Kept qq u := by
  unfold execChipResetTaken at e
  refine kept_of_next e ?_
  repeat' (first 
    | (with_reducible assumption) | (with_reducible apply keep_chipTaken) | (intro _) | (with_reducible apply kept_ite) | (split) 
    | (dsimp only))

theorem kept_execPerstRelease (c : Ctl) (s : State) (u : State) (e : execPerstRelease c s = .next u) (kq : Kept qq s) : Kept qq u := by
  unfold execPerstRelease at e
  refine kept_of_next e ?_
  repeat' (first 
    | (with_reducible assumption) | (with_reducible apply keep_perstRelease) | (intro _) | (with_reducible apply kept_ite) 
    | (split) | (dsimp only))

theorem kept_execBootImageCheck (read0 read1 : Bool) (s : State) (u : State) (e : execBootImageCheck read0 read1 s = .next u) (kq : Kept qq s) : Kept qq u := by
  unfold execBootImageCheck at e
  refine kept_of_next e ?_
  repeat' (first 
    | (with_reducible assumption) | (with_reducible apply keep_bootCheck) | (intro _) | (with_reducible apply kept_ite) | (split) 
    | (dsimp only))

theorem kept_execRollbackFuseUpdate (s : State) (u : State) (e : execRollbackFuseUpdate s = .next u) (kq : Kept qq s) : Kept qq u := by
  unfold execRollbackFuseUpdate at e
  refine kept_of_next e ?_
  repeat' (first 
    | (with_reducible assumption) | (with_reducible apply keep_rollbackUpdate) | (intro _) | (with_reducible apply kept_ite) 
    | (split) | (dsimp only))

theorem kept_execFuseProgramCommit (path : RegPath) (key : W16) (readBack : Bool) (s : State) (u : State) (e : execFuseProgramCommit path key readBack s = .next u) (kq : Kept qq s) : Kept qq u := by
  unfold execFuseProgramCommit at e
  refine kept_of_next e ?_
  repeat' (first 
    | (with_reducible assumption) | (with_reducible apply keep_fuseProgram) | (with_reducible apply keep_lockedWrite) 
    | (with_reducible apply keep_readBack) | (intro _) | (with_reducible apply kept_ite) | (split) | (dsimp only))

theorem kept_execExpertUnlockFirst (path : RegPath) (blk : W16) (s : State) (u : State) (e : execExpertUnlockFirst path blk s = .next u) (kq : Kept qq s) : Kept qq u := by
  unfold execExpertUnlockFirst at e
  refine kept_of_next e ?_
  repeat' (first 
    | (with_reducible assumption) | (with_reducible apply keep_unlockFirst) | (intro _) | (with_reducible apply kept_ite) 
    | (split) | (dsimp only))

theorem kept_execExpertUnlockSecond (path : RegPath) (blk : W16) (s : State) (u : State) (e : execExpertUnlockSecond path blk s = .next u) (kq : Kept qq s) : Kept qq u := by
  unfold execExpertUnlockSecond at e
  refine kept_of_next e ?_
  repeat' (first 
    | (with_reducible assumption) | (with_reducible apply keep_unlockSecond) | (intro _) | (with_reducible apply kept_ite) 
    | (split) | (dsimp only))

theorem kept_execExpertClose (_path : RegPath) (blk : W16) (s : State) (u : State) (e : execExpertClose _path blk s = .next u) (kq : Kept qq s) : Kept qq u := by
  unfold execExpertClose at e
  refine kept_of_next e ?_
  repeat' (first 
    | (with_reducible assumption) | (with_reducible apply keep_unlockClose) | (intro _) | (with_reducible apply kept_ite) 
    | (split) | (dsimp only))

theorem kept_execAccerrClear (s : State) (u : State) (e : execAccerrClear s = .next u) (kq : Kept qq s) : Kept qq u := by
  unfold execAccerrClear at e
  refine kept_of_next e ?_
  repeat' (first 
    | (with_reducible assumption) | (with_reducible apply keep_resetRegs) | (with_reducible apply keep_arbWrite) | (intro _) 
    | (with_reducible apply kept_ite) | (split) | (dsimp only))

theorem kept_execStoreWindowWrite (path : RegPath) (n : Ch) (w : BitVec 12) (v : W64) (s : State) (u : State) (e : execStoreWindowWrite path n w v s = .next u) (kq : Kept qq s) : Kept qq u := by
  unfold execStoreWindowWrite at e
  refine kept_of_next e ?_
  repeat' (first 
    | (with_reducible assumption) | (with_reducible apply keep_lockedWrite) | (with_reducible apply keep_sramStore) | (intro _) 
    | (with_reducible apply kept_ite) | (split) | (dsimp only))

theorem kept_execCacheWaylockWrite (lock : W16) (s : State) (u : State) (e : execCacheWaylockWrite lock s = .next u) (kq : Kept qq s) : Kept qq u := by
  unfold execCacheWaylockWrite at e
  refine kept_of_next e ?_
  repeat' (first 
    | (with_reducible assumption) | (with_reducible apply keep_arbWrite) | (with_reducible apply keep_waylockWrite) | (intro _) 
    | (with_reducible apply kept_ite) | (split) | (dsimp only))

theorem kept_execCacheTagSelect (sn : BitVec 14) (way : BitVec 4) (s : State) (u : State) (e : execCacheTagSelect sn way s = .next u) (kq : Kept qq s) : Kept qq u := by
  unfold execCacheTagSelect at e
  refine kept_of_next e ?_
  repeat' (first 
    | (with_reducible assumption) | (with_reducible apply keep_arbWrite) | (with_reducible apply keep_tagSelect) | (intro _) 
    | (with_reducible apply kept_ite) | (split) | (dsimp only))

theorem kept_execColoClear (resp : W32) (inTime : Bool) (s : State) (u : State) (e : execColoClear resp inTime s = .next u) (kq : Kept qq s) : Kept qq u := by
  unfold execColoClear at e
  refine kept_of_next e ?_
  repeat' (first 
    | (with_reducible assumption) | (with_reducible apply keep_arbWrite) | (with_reducible apply keep_coloClear) | (intro _) 
    | (with_reducible apply kept_ite) | (split) | (dsimp only))

theorem kept_execSidebandRead32 (addr : W32) (s : State) (u : State) (e : execSidebandRead32 addr s = .next u) (kq : Kept qq s) : Kept qq u := by
  unfold execSidebandRead32 at e
  refine kept_of_next e ?_
  repeat' (first 
    | (with_reducible assumption) | (with_reducible apply keep_sideRead) | (intro _) | (with_reducible apply kept_ite) | (split) 
    | (dsimp only))

theorem kept_execSidebandRead64 (addr : W32) (s : State) (u : State) (e : execSidebandRead64 addr s = .next u) (kq : Kept qq s) : Kept qq u := by
  unfold execSidebandRead64 at e
  refine kept_of_next e ?_
  repeat' (first 
    | (with_reducible assumption) | (with_reducible apply keep_sideRead) | (intro _) | (with_reducible apply kept_ite) | (split) 
    | (dsimp only))

theorem kept_execIdentifyController (k : Nat) (s : State) (u : State) (e : execIdentifyController k s = .next u) (kq : Kept qq s) : Kept qq u := by
  unfold execIdentifyController at e
  refine kept_of_next e ?_
  repeat' (first 
    | (with_reducible assumption) | (with_reducible apply keep_answer) | (with_reducible apply keep_finish) 
    | (with_reducible apply keep_used) | (with_reducible apply keep_identify) | (intro _) | (with_reducible apply kept_ite) 
    | (split) | (dsimp only))

theorem kept_execIdentifyNamespace (k : Nat) (s : State) (u : State) (e : execIdentifyNamespace k s = .next u) (kq : Kept qq s) : Kept qq u := by
  unfold execIdentifyNamespace at e
  refine kept_of_next e ?_
  repeat' (first 
    | (with_reducible assumption) | (with_reducible apply keep_idNs) | (with_reducible apply keep_identify) | (intro _) 
    | (with_reducible apply kept_ite) | (split) | (dsimp only))

theorem kept_execIdentifyIoCmdSetNamespace (k : Nat) (s : State) (u : State) (e : execIdentifyIoCmdSetNamespace k s = .next u) (kq : Kept qq s) : Kept qq u := by
  unfold execIdentifyIoCmdSetNamespace at e
  refine kept_of_next e ?_
  repeat' (first 
    | (with_reducible assumption) | (with_reducible apply keep_idNs) | (with_reducible apply keep_identify) | (intro _) 
    | (with_reducible apply kept_ite) | (split) | (dsimp only))

theorem kept_execGetLogErrorInformation (k : Nat) (s : State) (u : State) (e : execGetLogErrorInformation k s = .next u) (kq : Kept qq s) : Kept qq u := by
  unfold execGetLogErrorInformation at e
  refine kept_of_next e ?_
  repeat' (first 
    | (with_reducible assumption) | (with_reducible apply keep_getLog) | (with_reducible apply keep_logAnswer) | (intro _) 
    | (with_reducible apply kept_ite) | (split) | (dsimp only))

theorem kept_execGetLogSmartHealth (k : Nat) (s : State) (u : State) (e : execGetLogSmartHealth k s = .next u) (kq : Kept qq s) : Kept qq u := by
  unfold execGetLogSmartHealth at e
  refine kept_of_next e ?_
  repeat' (first 
    | (with_reducible assumption) | (with_reducible apply keep_used) | (with_reducible apply keep_getLog) 
    | (with_reducible apply keep_logAnswer) | (intro _) | (with_reducible apply kept_ite) | (split) | (dsimp only))

theorem kept_execGetLogFirmwareSlot (k : Nat) (s : State) (u : State) (e : execGetLogFirmwareSlot k s = .next u) (kq : Kept qq s) : Kept qq u := by
  unfold execGetLogFirmwareSlot at e
  refine kept_of_next e ?_
  repeat' (first 
    | (with_reducible assumption) | (with_reducible apply keep_getLog) | (with_reducible apply keep_logAnswer) | (intro _) 
    | (with_reducible apply kept_ite) | (split) | (dsimp only))

theorem kept_execGetLogChangedNamespaceList (k : Nat) (s : State) (u : State) (e : execGetLogChangedNamespaceList k s = .next u) (kq : Kept qq s) : Kept qq u := by
  unfold execGetLogChangedNamespaceList at e
  refine kept_of_next e ?_
  repeat' (first 
    | (with_reducible assumption) | (with_reducible apply keep_modCtlr) | (with_reducible apply keep_getLog) 
    | (with_reducible apply keep_logAnswer) | (intro _) | (with_reducible apply kept_ite) | (split) | (dsimp only))

theorem kept_execGetLogCommandsSupported (k : Nat) (s : State) (u : State) (e : execGetLogCommandsSupported k s = .next u) (kq : Kept qq s) : Kept qq u := by
  unfold execGetLogCommandsSupported at e
  refine kept_of_next e ?_
  repeat' (first 
    | (with_reducible assumption) | (with_reducible apply keep_used) | (with_reducible apply keep_getLog) 
    | (with_reducible apply keep_logAnswer) | (intro _) | (with_reducible apply kept_ite) | (split) | (dsimp only))

theorem kept_execGetLogDeviceSelfTest (k : Nat) (s : State) (u : State) (e : execGetLogDeviceSelfTest k s = .next u) (kq : Kept qq s) : Kept qq u := by
  unfold execGetLogDeviceSelfTest at e
  refine kept_of_next e ?_
  repeat' (first 
    | (with_reducible assumption) | (with_reducible apply keep_used) | (with_reducible apply keep_getLog) 
    | (with_reducible apply keep_logAnswer) | (intro _) | (with_reducible apply kept_ite) | (split) | (dsimp only))

theorem kept_execGetLogReservationNotification (k : Nat) (s : State) (u : State) (e : execGetLogReservationNotification k s = .next u) (kq : Kept qq s) : Kept qq u := by
  unfold execGetLogReservationNotification at e
  refine kept_of_next e ?_
  repeat' (first 
    | (with_reducible assumption) | (with_reducible apply keep_modCtlr) | (with_reducible apply keep_getLog) 
    | (with_reducible apply keep_logAnswer) | (intro _) | (with_reducible apply kept_ite) | (split) | (dsimp only))

theorem kept_execGetLogSanitizeStatus (k : Nat) (s : State) (u : State) (e : execGetLogSanitizeStatus k s = .next u) (kq : Kept qq s) : Kept qq u := by
  unfold execGetLogSanitizeStatus at e
  refine kept_of_next e ?_
  repeat' (first 
    | (with_reducible assumption) | (with_reducible apply keep_used) | (with_reducible apply keep_getLog) 
    | (with_reducible apply keep_logAnswer) | (intro _) | (with_reducible apply kept_ite) | (split) | (dsimp only))

theorem kept_execGetLogChannelStatus (k : Nat) (s : State) (u : State) (e : execGetLogChannelStatus k s = .next u) (kq : Kept qq s) : Kept qq u := by
  unfold execGetLogChannelStatus at e
  refine kept_of_next e ?_
  repeat' (first 
    | (with_reducible assumption) | (with_reducible apply keep_getLog) | (with_reducible apply keep_logAnswer) | (intro _) 
    | (with_reducible apply kept_ite) | (split) | (dsimp only))

theorem kept_execGetLogFlyleafStatus (k : Nat) (s : State) (u : State) (e : execGetLogFlyleafStatus k s = .next u) (kq : Kept qq s) : Kept qq u := by
  unfold execGetLogFlyleafStatus at e
  refine kept_of_next e ?_
  repeat' (first 
    | (with_reducible assumption) | (with_reducible apply keep_getLog) | (with_reducible apply keep_logAnswer) | (intro _) 
    | (with_reducible apply kept_ite) | (split) | (dsimp only))

theorem kept_execGetLogGatheringStatus (k : Nat) (s : State) (u : State) (e : execGetLogGatheringStatus k s = .next u) (kq : Kept qq s) : Kept qq u := by
  unfold execGetLogGatheringStatus at e
  refine kept_of_next e ?_
  repeat' (first 
    | (with_reducible assumption) | (with_reducible apply keep_getLog) | (with_reducible apply keep_logAnswer) | (intro _) 
    | (with_reducible apply kept_ite) | (split) | (dsimp only))

theorem kept_execGetLogColophonRecords (k : Nat) (s : State) (u : State) (e : execGetLogColophonRecords k s = .next u) (kq : Kept qq s) : Kept qq u := by
  unfold execGetLogColophonRecords at e
  refine kept_of_next e ?_
  repeat' (first 
    | (with_reducible assumption) | (with_reducible apply keep_coloLog) | (with_reducible apply keep_getLog) | (intro _) 
    | (with_reducible apply kept_ite) | (split) | (dsimp only))

theorem kept_execSetFeatureArbitration (k : Nat) (s : State) (u : State) (e : execSetFeatureArbitration k s = .next u) (kq : Kept qq s) : Kept qq u := by
  unfold execSetFeatureArbitration at e
  refine kept_of_next e ?_
  repeat' (first 
    | (with_reducible assumption) | (with_reducible apply keep_modCtlr) | (with_reducible apply keep_adminStart) 
    | (with_reducible apply keep_setSaved) | (intro _) | (with_reducible apply kept_ite) | (split) | (dsimp only))

theorem kept_execSetFeatureErrorRecovery (k : Nat) (s : State) (u : State) (e : execSetFeatureErrorRecovery k s = .next u) (kq : Kept qq s) : Kept qq u := by
  unfold execSetFeatureErrorRecovery at e
  refine kept_of_next e ?_
  repeat' (first 
    | (with_reducible assumption) | (with_reducible apply keep_adminStart) | (with_reducible apply keep_setTler) | (intro _) 
    | (with_reducible apply kept_ite) | (split) | (dsimp only))

theorem kept_execSetFeatureVolatileWriteCache (k : Nat) (s : State) (u : State) (e : execSetFeatureVolatileWriteCache k s = .next u) (kq : Kept qq s) : Kept qq u := by
  unfold execSetFeatureVolatileWriteCache at e
  refine kept_of_next e ?_
  repeat' (first 
    | (with_reducible assumption) | (with_reducible apply keep_finish) | (with_reducible apply keep_adminStart) | (intro _) 
    | (with_reducible apply kept_ite) | (split) | (dsimp only))

theorem kept_execSetFeatureNumberOfQueues (k : Nat) (s : State) (u : State) (e : execSetFeatureNumberOfQueues k s = .next u) (kq : Kept qq s) : Kept qq u := by
  unfold execSetFeatureNumberOfQueues at e
  refine kept_of_next e ?_
  repeat' (first 
    | (with_reducible assumption) | (with_reducible apply keep_adminStart) | (with_reducible apply keep_setPlain) 
    | (with_reducible apply keep_setQueues) | (intro _) | (with_reducible apply kept_ite) | (split) | (dsimp only))

theorem kept_execSetFeatureInterruptCoalescing (k : Nat) (s : State) (u : State) (e : execSetFeatureInterruptCoalescing k s = .next u) (kq : Kept qq s) : Kept qq u := by
  unfold execSetFeatureInterruptCoalescing at e
  refine kept_of_next e ?_
  repeat' (first 
    | (with_reducible assumption) | (with_reducible apply keep_modCtlr) | (with_reducible apply keep_adminStart) 
    | (with_reducible apply keep_setSaved) | (intro _) | (with_reducible apply kept_ite) | (split) | (dsimp only))

theorem kept_execSetFeatureAsyncEventConfig (k : Nat) (s : State) (u : State) (e : execSetFeatureAsyncEventConfig k s = .next u) (kq : Kept qq s) : Kept qq u := by
  unfold execSetFeatureAsyncEventConfig at e
  refine kept_of_next e ?_
  repeat' (first 
    | (with_reducible assumption) | (with_reducible apply keep_modCtlr) | (with_reducible apply keep_adminStart) 
    | (with_reducible apply keep_setSaved) | (intro _) | (with_reducible apply kept_ite) | (split) | (dsimp only))

theorem kept_execSetFeatureHostIdentifier (k : Nat) (id : BitVec 128) (s : State) (u : State) (e : execSetFeatureHostIdentifier k id s = .next u) (kq : Kept qq s) : Kept qq u := by
  unfold execSetFeatureHostIdentifier at e
  refine kept_of_next e ?_
  repeat' (first 
    | (with_reducible assumption) | (with_reducible apply keep_finish) | (with_reducible apply keep_modCtlr) 
    | (with_reducible apply keep_adminStart) | (with_reducible apply keep_setPlain) | (intro _) | (with_reducible apply kept_ite) 
    | (split) | (dsimp only))

theorem kept_execSetFeatureGatheringLayout (k : Nat) (s : State) (u : State) (e : execSetFeatureGatheringLayout k s = .next u) (kq : Kept qq s) : Kept qq u := by
  unfold execSetFeatureGatheringLayout at e
  refine kept_of_next e ?_
  repeat' (first 
    | (with_reducible assumption) | (with_reducible apply keep_adminStart) | (with_reducible apply keep_setLayout) 
    | (with_reducible apply keep_setPlain) | (intro _) | (with_reducible apply kept_ite) | (split) | (dsimp only))

theorem kept_execSetFeatureDuplicateSuppression (k : Nat) (s : State) (u : State) (e : execSetFeatureDuplicateSuppression k s = .next u) (kq : Kept qq s) : Kept qq u := by
  unfold execSetFeatureDuplicateSuppression at e
  refine kept_of_next e ?_
  repeat' (first 
    | (with_reducible assumption) | (with_reducible apply keep_adminStart) | (with_reducible apply keep_setDup) 
    | (with_reducible apply keep_setPlain) | (intro _) | (with_reducible apply kept_ite) | (split) | (dsimp only))

theorem kept_execSetFeatureKettleGroup (k : Nat) (s : State) (u : State) (e : execSetFeatureKettleGroup k s = .next u) (kq : Kept qq s) : Kept qq u := by
  unfold execSetFeatureKettleGroup at e
  refine kept_of_next e ?_
  repeat' (first 
    | (with_reducible assumption) | (with_reducible apply keep_adminStart) | (with_reducible apply keep_setKettle) 
    | (with_reducible apply keep_setPlain) | (intro _) | (with_reducible apply kept_ite) | (split) | (dsimp only))

theorem kept_execChannelStateEnable (k : Nat) (s : State) (u : State) (e : execChannelStateEnable k s = .next u) (kq : Kept qq s) : Kept qq u := by
  unfold execChannelStateEnable at e
  refine kept_of_next e ?_
  repeat' (first 
    | (with_reducible assumption) | (with_reducible apply keep_chanState) | (with_reducible apply keep_stateEnable) | (intro _) 
    | (with_reducible apply kept_ite) | (split) | (dsimp only))

theorem kept_execChannelStateDisable (k : Nat) (s : State) (u : State) (e : execChannelStateDisable k s = .next u) (kq : Kept qq s) : Kept qq u := by
  unfold execChannelStateDisable at e
  refine kept_of_next e ?_
  repeat' (first 
    | (with_reducible assumption) | (with_reducible apply keep_chanState) | (with_reducible apply keep_disableStart) 
    | (with_reducible apply keep_stateAct) | (intro _) | (with_reducible apply kept_ite) | (split) | (dsimp only))

theorem kept_execChannelStatePowerOff (k : Nat) (s : State) (u : State) (e : execChannelStatePowerOff k s = .next u) (kq : Kept qq s) : Kept qq u := by
  unfold execChannelStatePowerOff at e
  refine kept_of_next e ?_
  repeat' (first 
    | (with_reducible assumption) | (with_reducible apply keep_chanState) | (with_reducible apply keep_statePowerOff) | (intro _) 
    | (with_reducible apply kept_ite) | (split) | (dsimp only))

theorem kept_execChannelStateSpindleStart (k : Nat) (s : State) (u : State) (e : execChannelStateSpindleStart k s = .next u) (kq : Kept qq s) : Kept qq u := by
  unfold execChannelStateSpindleStart at e
  refine kept_of_next e ?_
  repeat' (first 
    | (with_reducible assumption) | (with_reducible apply keep_chanState) | (with_reducible apply keep_mgmtStart) 
    | (with_reducible apply keep_stateAct) | (intro _) | (with_reducible apply kept_ite) | (split) | (dsimp only))

theorem kept_execChannelStateSpindleStop (k : Nat) (s : State) (u : State) (e : execChannelStateSpindleStop k s = .next u) (kq : Kept qq s) : Kept qq u := by
  unfold execChannelStateSpindleStop at e
  refine kept_of_next e ?_
  repeat' (first 
    | (with_reducible assumption) | (with_reducible apply keep_chanState) | (with_reducible apply keep_motCmd) 
    | (with_reducible apply keep_motStop) | (with_reducible apply keep_stateAct) | (intro _) | (with_reducible apply kept_ite) 
    | (split) | (dsimp only))

theorem kept_execChannelStateUnload (k : Nat) (s : State) (u : State) (e : execChannelStateUnload k s = .next u) (kq : Kept qq s) : Kept qq u := by
  unfold execChannelStateUnload at e
  refine kept_of_next e ?_
  repeat' (first 
    | (with_reducible assumption) | (with_reducible apply keep_chanState) | (with_reducible apply keep_startRetract) 
    | (with_reducible apply keep_stateAct) | (intro _) | (with_reducible apply kept_ite) | (split) | (dsimp only))

theorem kept_execGetFeatures (k : Nat) (s : State) (u : State) (e : execGetFeatures k s = .next u) (kq : Kept qq s) : Kept qq u := by
  unfold execGetFeatures at e
  refine kept_of_next e ?_
  repeat' (first 
    | (with_reducible assumption) | (with_reducible apply keep_adminStart) | (with_reducible apply keep_getFeature) | (intro _) 
    | (with_reducible apply kept_ite) | (split) | (dsimp only))

theorem kept_execAsyncEventRequest (k : Nat) (s : State) (u : State) (e : execAsyncEventRequest k s = .next u) (kq : Kept qq s) : Kept qq u := by
  unfold execAsyncEventRequest at e
  refine kept_of_next e ?_
  repeat' (first 
    | (with_reducible assumption) | (with_reducible apply keep_adminStart) | (with_reducible apply keep_eventRequest) | (intro _) 
    | (with_reducible apply kept_ite) | (split) | (dsimp only))

theorem kept_execAsyncEventPosted (c : Ctl) (s : State) (u : State) (e : execAsyncEventPosted c s = .next u) (kq : Kept qq s) : Kept qq u := by
  unfold execAsyncEventPosted at e
  refine kept_of_next e ?_
  repeat' (first 
    | (with_reducible assumption) | (with_reducible apply keep_eventPosted) | (intro _) | (with_reducible apply kept_ite) 
    | (split) | (dsimp only))

theorem kept_execDmaTailWrite (c : Ch) (tail : W16) (s : State) (u : State) (e : execDmaTailWrite c tail s = .next u) (kq : Kept qq s) : Kept qq u := by
  unfold execDmaTailWrite at e
  refine kept_of_next e ?_
  repeat' (first 
    | (with_reducible assumption) | (with_reducible apply keep_set) | (with_reducible apply keep_arbWrite) 
    | (with_reducible apply keep_dmaKick) | (intro _) | (with_reducible apply kept_ite) | (split) | (dsimp only))

theorem kept_execDmaDescriptorDone (c : Ch) (rdErr wrErr : List Nat) (s : State) (u : State) (e : execDmaDescriptorDone c rdErr wrErr s = .next u) (kq : Kept qq s) : Kept qq u := by
  unfold execDmaDescriptorDone at e
  refine kept_of_next e ?_
  repeat' (first 
    | (with_reducible assumption) | (with_reducible apply keep_dmaDone) | (intro _) | (with_reducible apply kept_ite) | (split) 
    | (dsimp only))

theorem kept_execDmaAbort (c : Ch) (done : Nat) (s : State) (u : State) (e : execDmaAbort c done s = .next u) (kq : Kept qq s) : Kept qq u := by
  unfold execDmaAbort at e
  refine kept_of_next e ?_
  repeat' (first 
    | (with_reducible assumption) | (with_reducible apply keep_arbWrite) | (with_reducible apply keep_dmaAbort) | (intro _) 
    | (with_reducible apply kept_ite) | (split) | (dsimp only))

theorem kept_execDmaClrHalt (c : Ch) (s : State) (u : State) (e : execDmaClrHalt c s = .next u) (kq : Kept qq s) : Kept qq u := by
  unfold execDmaClrHalt at e
  refine kept_of_next e ?_
  repeat' (first 
    | (with_reducible assumption) | (with_reducible apply keep_arbWrite) | (with_reducible apply keep_dmaResume) | (intro _) 
    | (with_reducible apply kept_ite) | (split) | (dsimp only))

theorem kept_execRegisterWrite (path : RegPath) (addr : BitVec 26) (bytes : Nat) (v : W64) (s : State) (u : State) (e : execRegisterWrite path addr bytes v s = .next u) (kq : Kept qq s) : Kept qq u := by
  unfold execRegisterWrite at e
  refine kept_of_next e ?_
  repeat' (first 
    | (with_reducible assumption) | (with_reducible apply keep_regWriteAll) | (intro _) | (with_reducible apply kept_ite) 
    | (split) | (dsimp only))

theorem kept_execSidebandWrite32 (addr : W32) (v : W32) (s : State) (u : State) (e : execSidebandWrite32 addr v s = .next u) (kq : Kept qq s) : Kept qq u := by
  unfold execSidebandWrite32 at e
  refine kept_of_next e ?_
  repeat' (first 
    | (with_reducible assumption) | (with_reducible apply keep_sideWrite) | (intro _) | (with_reducible apply kept_ite) | (split) 
    | (dsimp only))

theorem kept_execSidebandWrite64 (addr : W32) (v : W64) (s : State) (u : State) (e : execSidebandWrite64 addr v s = .next u) (kq : Kept qq s) : Kept qq u := by
  unfold execSidebandWrite64 at e
  refine kept_of_next e ?_
  repeat' (first 
    | (with_reducible assumption) | (with_reducible apply keep_sideWrite) | (intro _) | (with_reducible apply kept_ite) | (split) 
    | (dsimp only))

theorem kept_execNvmeMiSend (k : Nat) (s : State) (u : State) (e : execNvmeMiSend k s = .next u) (kq : Kept qq s) : Kept qq u := by
  unfold execNvmeMiSend at e
  refine kept_of_next e ?_
  repeat' (first 
    | (with_reducible assumption) | (with_reducible apply keep_adminStart) | (with_reducible apply keep_miSend) | (intro _) 
    | (with_reducible apply kept_ite) | (split) | (dsimp only))

theorem kept_execNvmeMiReceive (k : Nat) (s : State) (u : State) (e : execNvmeMiReceive k s = .next u) (kq : Kept qq s) : Kept qq u := by
  unfold execNvmeMiReceive at e
  refine kept_of_next e ?_
  repeat' (first 
    | (with_reducible assumption) | (with_reducible apply keep_adminStart) | (with_reducible apply keep_miReceive) | (intro _) 
    | (with_reducible apply kept_ite) | (split) | (dsimp only))

theorem kept_execMiReadDataStructure (s : State) (u : State) (e : execMiReadDataStructure s = .next u) (kq : Kept qq s) : Kept qq u := by
  unfold execMiReadDataStructure at e
  refine kept_of_next e ?_
  repeat' (first 
    | (with_reducible assumption) | (with_reducible apply keep_miOpen) | (with_reducible apply keep_overSideband) | (intro _) 
    | (with_reducible apply kept_ite) | (split) | (dsimp only))

theorem kept_execMiSubsystemHealthPoll (s : State) (u : State) (e : execMiSubsystemHealthPoll s = .next u) (kq : Kept qq s) : Kept qq u := by
  unfold execMiSubsystemHealthPoll at e
  refine kept_of_next e ?_
  repeat' (first 
    | (with_reducible assumption) | (with_reducible apply keep_miOpen) | (with_reducible apply keep_overSideband) | (intro _) 
    | (with_reducible apply kept_ite) | (split) | (dsimp only))

theorem kept_execMiControllerHealthPoll (c : Ctl) (s : State) (u : State) (e : execMiControllerHealthPoll c s = .next u) (kq : Kept qq s) : Kept qq u := by
  unfold execMiControllerHealthPoll at e
  refine kept_of_next e ?_
  repeat' (first 
    | (with_reducible assumption) | (with_reducible apply keep_miOpen) | (with_reducible apply keep_overSideband) 
    | (with_reducible apply keep_sideAnswer) | (intro _) | (with_reducible apply kept_ite) | (split) | (dsimp only))

theorem kept_execMiConfigurationSet (ident : Byte) (v : W16) (s : State) (u : State) (e : execMiConfigurationSet ident v s = .next u) (kq : Kept qq s) : Kept qq u := by
  unfold execMiConfigurationSet at e
  refine kept_of_next e ?_
  repeat' (first 
    | (with_reducible assumption) | (with_reducible apply keep_confSet) | (with_reducible apply keep_overSideband) 
    | (with_reducible apply keep_sideAnswer) | (intro _) 
    | (with_reducible refine kept_snd (r := confSet _ _ _ ) (by assumption) ?_) | (with_reducible apply kept_ite) | (split) 
    | (dsimp only))

theorem kept_execMiConfigurationGet (ident : Byte) (s : State) (u : State) (e : execMiConfigurationGet ident s = .next u) (kq : Kept qq s) : Kept qq u := by
  unfold execMiConfigurationGet at e
  refine kept_of_next e ?_
  repeat' (first 
    | (with_reducible assumption) | (with_reducible apply keep_overSideband) | (with_reducible apply keep_sideAnswer) | (intro _) 
    | (with_reducible apply kept_ite) | (split) | (dsimp only))

theorem kept_execMiAdminCommand (c : Ctl) (e : Sqe) (s : State) (u : State) (e : execMiAdminCommand c e s = .next u) (kq : Kept qq s) : Kept qq u := by
  unfold execMiAdminCommand at e
  refine kept_of_next e ?_
  repeat' (first 
    | (with_reducible assumption) | (with_reducible apply keep_miAdmin) | (with_reducible apply keep_overSideband) | (intro _) 
    | (with_reducible apply kept_ite) | (split) | (dsimp only))

theorem kept_execI3cEntdaa (a : BitVec 7) (s : State) (u : State) (e : execI3cEntdaa a s = .next u) (kq : Kept qq s) : Kept qq u := by
  unfold execI3cEntdaa at e
  refine kept_of_next e ?_
  repeat' (first 
    | (with_reducible assumption) | (with_reducible apply keep_modI3c) | (intro _) | (with_reducible apply kept_ite) | (split) 
    | (dsimp only))

theorem kept_execI3cSetdasa (st a : BitVec 7) (s : State) (u : State) (e : execI3cSetdasa st a s = .next u) (kq : Kept qq s) : Kept qq u := by
  unfold execI3cSetdasa at e
  refine kept_of_next e ?_
  repeat' (first 
    | (with_reducible assumption) | (with_reducible apply keep_modI3c) | (intro _) | (with_reducible apply kept_ite) | (split) 
    | (dsimp only))

theorem kept_execI3cRstdaa (s : State) (u : State) (e : execI3cRstdaa s = .next u) (kq : Kept qq s) : Kept qq u := by
  unfold execI3cRstdaa at e
  refine kept_of_next e ?_
  repeat' (first 
    | (with_reducible assumption) | (with_reducible apply keep_modI3c) | (intro _) | (with_reducible apply kept_ite) | (split) 
    | (dsimp only))

theorem kept_execI3cGetpid (s : State) (u : State) (e : execI3cGetpid s = .next u) (kq : Kept qq s) : Kept qq u := by
  unfold execI3cGetpid at e
  refine kept_of_next e ?_
  repeat' (first 
    | (with_reducible assumption) | (with_reducible apply keep_i3cAnswer) | (intro _) | (with_reducible apply kept_ite) | (split) 
    | (dsimp only))

theorem kept_execI3cGetbcr (s : State) (u : State) (e : execI3cGetbcr s = .next u) (kq : Kept qq s) : Kept qq u := by
  unfold execI3cGetbcr at e
  refine kept_of_next e ?_
  repeat' (first 
    | (with_reducible assumption) | (with_reducible apply keep_i3cAnswer) | (intro _) | (with_reducible apply kept_ite) | (split) 
    | (dsimp only))

theorem kept_execI3cGetdcr (s : State) (u : State) (e : execI3cGetdcr s = .next u) (kq : Kept qq s) : Kept qq u := by
  unfold execI3cGetdcr at e
  refine kept_of_next e ?_
  repeat' (first 
    | (with_reducible assumption) | (with_reducible apply keep_i3cAnswer) | (intro _) | (with_reducible apply kept_ite) | (split) 
    | (dsimp only))

theorem kept_execI3cGetmwl (s : State) (u : State) (e : execI3cGetmwl s = .next u) (kq : Kept qq s) : Kept qq u := by
  unfold execI3cGetmwl at e
  refine kept_of_next e ?_
  repeat' (first 
    | (with_reducible assumption) | (with_reducible apply keep_i3cAnswer) | (intro _) | (with_reducible apply kept_ite) | (split) 
    | (dsimp only))

theorem kept_execI3cGetmrl (s : State) (u : State) (e : execI3cGetmrl s = .next u) (kq : Kept qq s) : Kept qq u := by
  unfold execI3cGetmrl at e
  refine kept_of_next e ?_
  repeat' (first 
    | (with_reducible assumption) | (with_reducible apply keep_i3cAnswer) | (intro _) | (with_reducible apply kept_ite) | (split) 
    | (dsimp only))

theorem kept_execI3cSetmwl (v : W16) (s : State) (u : State) (e : execI3cSetmwl v s = .next u) (kq : Kept qq s) : Kept qq u := by
  unfold execI3cSetmwl at e
  refine kept_of_next e ?_
  repeat' (first 
    | (with_reducible assumption) | (with_reducible apply keep_i3cSet) | (intro _) | (with_reducible apply kept_ite) | (split) 
    | (dsimp only))

theorem kept_execI3cSetmrl (v : W16) (s : State) (u : State) (e : execI3cSetmrl v s = .next u) (kq : Kept qq s) : Kept qq u := by
  unfold execI3cSetmrl at e
  refine kept_of_next e ?_
  repeat' (first 
    | (with_reducible assumption) | (with_reducible apply keep_i3cSet) | (intro _) | (with_reducible apply kept_ite) | (split) 
    | (dsimp only))

theorem kept_execI3cEnec (ev : Byte) (s : State) (u : State) (e : execI3cEnec ev s = .next u) (kq : Kept qq s) : Kept qq u := by
  unfold execI3cEnec at e
  refine kept_of_next e ?_
  repeat' (first 
    | (with_reducible assumption) | (with_reducible apply keep_i3cSet) | (intro _) | (with_reducible apply kept_ite) | (split) 
    | (dsimp only))

theorem kept_execI3cDisec (ev : Byte) (s : State) (u : State) (e : execI3cDisec ev s = .next u) (kq : Kept qq s) : Kept qq u := by
  unfold execI3cDisec at e
  refine kept_of_next e ?_
  repeat' (first 
    | (with_reducible assumption) | (with_reducible apply keep_i3cSet) | (intro _) | (with_reducible apply kept_ite) | (split) 
    | (dsimp only))

theorem kept_execNamespaceCreate (k : Nat) (desc : NsDesc) (s : State) (u : State) (e : execNamespaceCreate k desc s = .next u) (kq : Kept qq s) : Kept qq u := by
  unfold execNamespaceCreate at e
  refine kept_of_next e ?_
  repeat' (first 
    | (with_reducible assumption) | (with_reducible apply keep_adminStart) | (with_reducible apply keep_nsCreate) | (intro _) 
    | (with_reducible apply kept_ite) | (split) | (dsimp only))

theorem kept_execNamespaceDelete (k : Nat) (s : State) (u : State) (e : execNamespaceDelete k s = .next u) (kq : Kept qq s) : Kept qq u := by
  unfold execNamespaceDelete at e
  refine kept_of_next e ?_
  repeat' (first 
    | (with_reducible assumption) | (with_reducible apply keep_nsDelete) | (intro _) | (with_reducible apply kept_ite) | (split) 
    | (dsimp only))

theorem kept_execNamespaceAttach (k : Nat) (ctls : List Ctl) (s : State) (u : State) (e : execNamespaceAttach k ctls s = .next u) (kq : Kept qq s) : Kept qq u := by
  unfold execNamespaceAttach at e
  refine kept_of_next e ?_
  repeat' (first 
    | (with_reducible assumption) | (with_reducible apply keep_adminStart) | (with_reducible apply keep_nsAttach) | (intro _) 
    | (with_reducible apply kept_ite) | (split) | (dsimp only))

theorem kept_execNamespaceDetach (k : Nat) (ctls : List Ctl) (s : State) (u : State) (e : execNamespaceDetach k ctls s = .next u) (kq : Kept qq s) : Kept qq u := by
  unfold execNamespaceDetach at e
  refine kept_of_next e ?_
  repeat' (first 
    | (with_reducible assumption) | (with_reducible apply keep_adminStart) | (with_reducible apply keep_nsAttach) | (intro _) 
    | (with_reducible apply kept_ite) | (split) | (dsimp only))

theorem kept_execFirmwareImageDownload (k : Nat) (img : Image) (s : State) (u : State) (e : execFirmwareImageDownload k img s = .next u) (kq : Kept qq s) : Kept qq u := by
  unfold execFirmwareImageDownload at e
  refine kept_of_next e ?_
  repeat' (first 
    | (with_reducible assumption) | (with_reducible apply keep_adminStart) | (with_reducible apply keep_imageDownload) 
    | (intro _) | (with_reducible apply kept_ite) | (split) | (dsimp only))

theorem kept_execFirmwareCommitReplace (k : Nat) (s : State) (u : State) (e : execFirmwareCommitReplace k s = .next u) (kq : Kept qq s) : Kept qq u := by
  unfold execFirmwareCommitReplace at e
  refine kept_of_next e ?_
  repeat' (first 
    | (with_reducible assumption) | (with_reducible apply keep_adminStart) | (with_reducible apply keep_imageCommit) | (intro _) 
    | (with_reducible apply kept_ite) | (split) | (dsimp only))

theorem kept_execFirmwareCommitReplaceActivate (k : Nat) (s : State) (u : State) (e : execFirmwareCommitReplaceActivate k s = .next u) (kq : Kept qq s) : Kept qq u := by
  unfold execFirmwareCommitReplaceActivate at e
  refine kept_of_next e ?_
  repeat' (first 
    | (with_reducible assumption) | (with_reducible apply keep_adminStart) | (with_reducible apply keep_imageCommit) | (intro _) 
    | (with_reducible apply kept_ite) | (split) | (dsimp only))

theorem kept_execFirmwareCommitImmediate (k : Nat) (s : State) (u : State) (e : execFirmwareCommitImmediate k s = .next u) (kq : Kept qq s) : Kept qq u := by
  unfold execFirmwareCommitImmediate at e
  refine kept_of_next e ?_
  repeat' (first 
    | (with_reducible assumption) | (with_reducible apply keep_finish) | (with_reducible apply keep_adminStart) | (intro _) 
    | (with_reducible apply kept_ite) | (split) | (dsimp only))

theorem kept_execDeviceSelfTestShort (k : Nat) (s : State) (u : State) (e : execDeviceSelfTestShort k s = .next u) (kq : Kept qq s) : Kept qq u := by
  unfold execDeviceSelfTestShort at e
  refine kept_of_next e ?_
  repeat' (first 
    | (with_reducible assumption) | (with_reducible apply keep_adminStart) | (with_reducible apply keep_testStart) | (intro _) 
    | (with_reducible apply kept_ite) | (split) | (dsimp only))

theorem kept_execDeviceSelfTestExtended (k : Nat) (s : State) (u : State) (e : execDeviceSelfTestExtended k s = .next u) (kq : Kept qq s) : Kept qq u := by
  unfold execDeviceSelfTestExtended at e
  refine kept_of_next e ?_
  repeat' (first 
    | (with_reducible assumption) | (with_reducible apply keep_adminStart) | (with_reducible apply keep_testStart) | (intro _) 
    | (with_reducible apply kept_ite) | (split) | (dsimp only))

theorem kept_execDeviceSelfTestAbort (k : Nat) (s : State) (u : State) (e : execDeviceSelfTestAbort k s = .next u) (kq : Kept qq s) : Kept qq u := by
  unfold execDeviceSelfTestAbort at e
  refine kept_of_next e ?_
  repeat' (first 
    | (with_reducible assumption) | (with_reducible apply keep_adminStart) | (with_reducible apply keep_testAbort) | (intro _) 
    | (with_reducible apply kept_ite) | (split) | (dsimp only))

theorem kept_execFormatNvm (k : Nat) (s : State) (u : State) (e : execFormatNvm k s = .next u) (kq : Kept qq s) : Kept qq u := by
  unfold execFormatNvm at e
  refine kept_of_next e ?_
  repeat' (first 
    | (with_reducible assumption) | (with_reducible apply keep_formatNvm) | (intro _) | (with_reducible apply kept_ite) | (split) 
    | (dsimp only))

theorem kept_execSanitizeOverwrite (k : Nat) (s : State) (u : State) (e : execSanitizeOverwrite k s = .next u) (kq : Kept qq s) : Kept qq u := by
  unfold execSanitizeOverwrite at e
  refine kept_of_next e ?_
  repeat' (first 
    | (with_reducible assumption) | (with_reducible apply keep_sanitize) | (intro _) | (with_reducible apply kept_ite) | (split) 
    | (dsimp only))

theorem kept_execReservationRegister (k : Nat) (act : ResRegAct) (crkey nrkey : W64) (s : State) (u : State) (e : execReservationRegister k act crkey nrkey s = .next u) (kq : Kept qq s) : Kept qq u := by
  unfold execReservationRegister at e
  refine kept_of_next e ?_
  repeat' (first 
    | (with_reducible assumption) | (with_reducible apply keep_resRegister) | (with_reducible apply keep_resStart) | (intro _) 
    | (with_reducible apply kept_ite) | (split) | (dsimp only))

theorem kept_execReservationReport (k : Nat) (s : State) (u : State) (e : execReservationReport k s = .next u) (kq : Kept qq s) : Kept qq u := by
  unfold execReservationReport at e
  refine kept_of_next e ?_
  repeat' (first 
    | (with_reducible assumption) | (with_reducible apply keep_resReport) | (with_reducible apply keep_resStart) | (intro _) 
    | (with_reducible apply kept_ite) | (split) | (dsimp only))

theorem kept_execReservationAcquire (k : Nat) (act : ResAcqAct) (rtype : ResType) (crkey prkey : W64) (s : State) (u : State) (e : execReservationAcquire k act rtype crkey prkey s = .next u) (kq : Kept qq s) : Kept qq u := by
  unfold execReservationAcquire at e
  refine kept_of_next e ?_
  repeat' (first 
    | (with_reducible assumption) | (with_reducible apply keep_resAcquire) | (with_reducible apply keep_resStart) | (intro _) 
    | (with_reducible apply kept_ite) | (split) | (dsimp only))

theorem kept_execReservationRelease (k : Nat) (act : ResRelAct) (crkey : W64) (s : State) (u : State) (e : execReservationRelease k act crkey s = .next u) (kq : Kept qq s) : Kept qq u := by
  unfold execReservationRelease at e
  refine kept_of_next e ?_
  repeat' (first 
    | (with_reducible assumption) | (with_reducible apply keep_resReleaseCmd) | (with_reducible apply keep_resStart) | (intro _) 
    | (with_reducible apply kept_ite) | (split) | (dsimp only))

theorem kept_execPowerLoss (s : State) (u : State) (e : execPowerLoss s = .next u) (kq : Kept qq s) : Kept qq u := by
  unfold execPowerLoss at e
  refine kept_of_next e ?_
  repeat' (first 
    | (with_reducible assumption) | (with_reducible apply keep_powerLoss) | (intro _) | (with_reducible apply kept_ite) | (split) 
    | (dsimp only))

theorem kept_execRailTrip (s : State) (u : State) (e : execRailTrip s = .next u) (kq : Kept qq s) : Kept qq u := by
  unfold execRailTrip at e
  refine kept_of_next e ?_
  repeat' (first 
    | (with_reducible assumption) | (with_reducible apply keep_powerLoss) | (intro _) | (with_reducible apply kept_ite) | (split) 
    | (dsimp only))

theorem kept_execVholdBelowMinimum (s : State) (u : State) (e : execVholdBelowMinimum s = .next u) (kq : Kept qq s) : Kept qq u := by
  unfold execVholdBelowMinimum at e
  refine kept_of_next e ?_
  repeat' (first 
    | (with_reducible assumption) | (with_reducible apply keep_vholdLow) | (intro _) | (with_reducible apply kept_ite) | (split) 
    | (dsimp only))

theorem kept_execPllUnlock (pll : PllId) (s : State) (u : State) (e : execPllUnlock pll s = .next u) (kq : Kept qq s) : Kept qq u := by
  unfold execPllUnlock at e
  refine kept_of_next e ?_
  repeat' (first 
    | (with_reducible assumption) | (with_reducible apply keep_pllLost) | (intro _) | (with_reducible apply kept_ite) | (split) 
    | (dsimp only))

theorem kept_execCrystalStop (s : State) (u : State) (e : execCrystalStop s = .next u) (kq : Kept qq s) : Kept qq u := by
  unfold execCrystalStop at e
  refine kept_of_next e ?_
  repeat' (first 
    | (with_reducible assumption) | (with_reducible apply keep_each) | (with_reducible apply keep_setFlag) 
    | (with_reducible apply keep_pllLost) | (with_reducible apply kept_each) | (intro _) | (with_reducible apply kept_ite) 
    | (split) | (dsimp only))

theorem kept_execClkSscWrite (path : RegPath) (v : BitVec 3) (s : State) (u : State) (e : execClkSscWrite path v s = .next u) (kq : Kept qq s) : Kept qq u := by
  unfold execClkSscWrite at e
  refine kept_of_next e ?_
  repeat' (first 
    | (with_reducible assumption) | (with_reducible apply keep_setFlag) | (with_reducible apply keep_lockedWrite) | (intro _) 
    | (with_reducible apply kept_ite) | (split) | (dsimp only))

theorem kept_execTempSample (t : Vector Int 9) (s : State) (u : State) (e : execTempSample t s = .next u) (kq : Kept qq s) : Kept qq u := by
  unfold execTempSample at e
  refine kept_of_next e ?_
  repeat' (first 
    | (with_reducible assumption) | (with_reducible apply keep_tempSample) | (intro _) | (with_reducible apply kept_ite) 
    | (split) | (dsimp only))

theorem kept_execTempCrit (s : State) (u : State) (e : execTempCrit s = .next u) (kq : Kept qq s) : Kept qq u := by
  unfold execTempCrit at e
  refine kept_of_next e ?_
  repeat' (first 
    | (with_reducible assumption) | (with_reducible apply keep_raise) | (intro _) | (with_reducible apply kept_ite) | (split) 
    | (dsimp only))

end Sys2Proof.Machine
end

