-- ==== Sys2Proof/Laws/State.lean ====
section
/-! SUPPORT. What each plain update of the state leaves alone, field by field and accessor by accessor, and what a register
field reads after a write. Every lemma of the first kind holds by definition. -/

namespace Sys2Proof.Machine

/-! ### set -/

@[simp] theorem State.set_pending (s : State) (f : Fld) (v : Nat) : (s.set f v).pending = s.pending := rfl
@[simp] theorem State.set_force (s : State) (f : Fld) (v : Nat) : (s.set f v).force = s.force := rfl
@[simp] theorem State.set_freeCtr (s : State) (f : Fld) (v : Nat) : (s.set f v).freeCtr = s.freeCtr := rfl
@[simp] theorem State.set_small (s : State) (f : Fld) (v : Nat) : (s.set f v).small = s.small := rfl
@[simp] theorem State.set_chans (s : State) (f : Fld) (v : Nat) : (s.set f v).chans = s.chans := rfl
@[simp] theorem State.set_store (s : State) (f : Fld) (v : Nat) : (s.set f v).store = s.store := rfl
@[simp] theorem State.set_pads (s : State) (f : Fld) (v : Nat) : (s.set f v).pads = s.pads := rfl
@[simp] theorem State.set_banks (s : State) (f : Fld) (v : Nat) : (s.set f v).banks = s.banks := rfl
@[simp] theorem State.set_dram (s : State) (f : Fld) (v : Nat) : (s.set f v).dram = s.dram := rfl
@[simp] theorem State.set_raised (s : State) (f : Fld) (v : Nat) : (s.set f v).raised = s.raised := rfl
@[simp] theorem State.set_colo (s : State) (f : Fld) (v : Nat) : (s.set f v).colo = s.colo := rfl
@[simp] theorem State.set_fuses (s : State) (f : Fld) (v : Nat) : (s.set f v).fuses = s.fuses := rfl
@[simp] theorem State.set_boot (s : State) (f : Fld) (v : Nat) : (s.set f v).boot = s.boot := rfl
@[simp] theorem State.set_rst (s : State) (f : Fld) (v : Nat) : (s.set f v).rst = s.rst := rfl
@[simp] theorem State.set_ream (s : State) (f : Fld) (v : Nat) : (s.set f v).ream = s.ream := rfl
@[simp] theorem State.set_cache (s : State) (f : Fld) (v : Nat) : (s.set f v).cache = s.cache := rfl
@[simp] theorem State.set_mem (s : State) (f : Fld) (v : Nat) : (s.set f v).mem = s.mem := rfl
@[simp] theorem State.set_fly (s : State) (f : Fld) (v : Nat) : (s.set f v).fly = s.fly := rfl
@[simp] theorem State.set_gath (s : State) (f : Fld) (v : Nat) : (s.set f v).gath = s.gath := rfl
@[simp] theorem State.set_host (s : State) (f : Fld) (v : Nat) : (s.set f v).host = s.host := rfl
@[simp] theorem State.set_ket (s : State) (f : Fld) (v : Nat) : (s.set f v).ket = s.ket := rfl
@[simp] theorem State.set_fresh (s : State) (f : Fld) (v : Nat) : (s.set f v).fresh = s.fresh := rfl
@[simp] theorem State.set_chan (s : State) (f : Fld) (v : Nat) (m : Ch) : (s.set f v).chan m = s.chan m := rfl
@[simp] theorem State.set_stit (s : State) (f : Fld) (v : Nat) (m : Ch) (q : Pa) : (s.set f v).stit m q = s.stit m q := rfl
@[simp] theorem State.set_pathSt (s : State) (f : Fld) (v : Nat) (m : Ch) (q : Pa) : (s.set f v).pathSt m q = s.pathSt m q := rfl
@[simp] theorem State.set_mot (s : State) (f : Fld) (v : Nat) (m : Ch) : (s.set f v).mot m = s.mot m := rfl
@[simp] theorem State.set_servo (s : State) (f : Fld) (v : Nat) (m : Ch) : (s.set f v).servo m = s.servo m := rfl
@[simp] theorem State.set_hinge (s : State) (f : Fld) (v : Nat) (m : Ch) : (s.set f v).hinge m = s.hinge m := rfl
@[simp] theorem State.set_cmd (s : State) (f : Fld) (v : Nat) (j : Nat) : (s.set f v).cmd j = s.cmd j := rfl
@[simp] theorem State.set_sq (s : State) (f : Fld) (v : Nat) (d : Ctl) (j : Nat) : (s.set f v).sq d j = s.sq d j := rfl
@[simp] theorem State.set_cq (s : State) (f : Fld) (v : Nat) (d : Ctl) (j : Nat) : (s.set f v).cq d j = s.cq d j := rfl
@[simp] theorem State.set_ns (s : State) (f : Fld) (v : Nat) (j : Nat) : (s.set f v).ns j = s.ns j := rfl
@[simp] theorem State.set_ctlr (s : State) (f : Fld) (v : Nat) (d : Ctl) : (s.set f v).ctlr d = s.ctlr d := rfl
@[simp] theorem State.set_layout (s : State) (f : Fld) (v : Nat) (m : Fin 4) : (s.set f v).layout m = s.layout m := rfl
@[simp] theorem State.set_pool (s : State) (f : Fld) (v : Nat) (j : PoolId) : (s.set f v).pool j = s.pool j := rfl

/-! ### setFlag -/

@[simp] theorem State.setFlag_pending (s : State) (f : Fld) (b : Bool) : (s.setFlag f b).pending = s.pending := rfl
@[simp] theorem State.setFlag_force (s : State) (f : Fld) (b : Bool) : (s.setFlag f b).force = s.force := rfl
@[simp] theorem State.setFlag_freeCtr (s : State) (f : Fld) (b : Bool) : (s.setFlag f b).freeCtr = s.freeCtr := rfl
@[simp] theorem State.setFlag_small (s : State) (f : Fld) (b : Bool) : (s.setFlag f b).small = s.small := rfl
@[simp] theorem State.setFlag_chans (s : State) (f : Fld) (b : Bool) : (s.setFlag f b).chans = s.chans := rfl
@[simp] theorem State.setFlag_store (s : State) (f : Fld) (b : Bool) : (s.setFlag f b).store = s.store := rfl
@[simp] theorem State.setFlag_pads (s : State) (f : Fld) (b : Bool) : (s.setFlag f b).pads = s.pads := rfl
@[simp] theorem State.setFlag_banks (s : State) (f : Fld) (b : Bool) : (s.setFlag f b).banks = s.banks := rfl
@[simp] theorem State.setFlag_dram (s : State) (f : Fld) (b : Bool) : (s.setFlag f b).dram = s.dram := rfl
@[simp] theorem State.setFlag_raised (s : State) (f : Fld) (b : Bool) : (s.setFlag f b).raised = s.raised := rfl
@[simp] theorem State.setFlag_colo (s : State) (f : Fld) (b : Bool) : (s.setFlag f b).colo = s.colo := rfl
@[simp] theorem State.setFlag_fuses (s : State) (f : Fld) (b : Bool) : (s.setFlag f b).fuses = s.fuses := rfl
@[simp] theorem State.setFlag_boot (s : State) (f : Fld) (b : Bool) : (s.setFlag f b).boot = s.boot := rfl
@[simp] theorem State.setFlag_rst (s : State) (f : Fld) (b : Bool) : (s.setFlag f b).rst = s.rst := rfl
@[simp] theorem State.setFlag_ream (s : State) (f : Fld) (b : Bool) : (s.setFlag f b).ream = s.ream := rfl
@[simp] theorem State.setFlag_cache (s : State) (f : Fld) (b : Bool) : (s.setFlag f b).cache = s.cache := rfl
@[simp] theorem State.setFlag_mem (s : State) (f : Fld) (b : Bool) : (s.setFlag f b).mem = s.mem := rfl
@[simp] theorem State.setFlag_fly (s : State) (f : Fld) (b : Bool) : (s.setFlag f b).fly = s.fly := rfl
@[simp] theorem State.setFlag_gath (s : State) (f : Fld) (b : Bool) : (s.setFlag f b).gath = s.gath := rfl
@[simp] theorem State.setFlag_host (s : State) (f : Fld) (b : Bool) : (s.setFlag f b).host = s.host := rfl
@[simp] theorem State.setFlag_ket (s : State) (f : Fld) (b : Bool) : (s.setFlag f b).ket = s.ket := rfl
@[simp] theorem State.setFlag_fresh (s : State) (f : Fld) (b : Bool) : (s.setFlag f b).fresh = s.fresh := rfl
@[simp] theorem State.setFlag_chan (s : State) (f : Fld) (b : Bool) (m : Ch) : (s.setFlag f b).chan m = s.chan m := rfl
@[simp] theorem State.setFlag_stit (s : State) (f : Fld) (b : Bool) (m : Ch) (q : Pa) : (s.setFlag f b).stit m q = s.stit m q := rfl
@[simp] theorem State.setFlag_pathSt (s : State) (f : Fld) (b : Bool) (m : Ch) (q : Pa) : (s.setFlag f b).pathSt m q = s.pathSt m q := rfl
@[simp] theorem State.setFlag_mot (s : State) (f : Fld) (b : Bool) (m : Ch) : (s.setFlag f b).mot m = s.mot m := rfl
@[simp] theorem State.setFlag_servo (s : State) (f : Fld) (b : Bool) (m : Ch) : (s.setFlag f b).servo m = s.servo m := rfl
@[simp] theorem State.setFlag_hinge (s : State) (f : Fld) (b : Bool) (m : Ch) : (s.setFlag f b).hinge m = s.hinge m := rfl
@[simp] theorem State.setFlag_cmd (s : State) (f : Fld) (b : Bool) (j : Nat) : (s.setFlag f b).cmd j = s.cmd j := rfl
@[simp] theorem State.setFlag_sq (s : State) (f : Fld) (b : Bool) (d : Ctl) (j : Nat) : (s.setFlag f b).sq d j = s.sq d j := rfl
@[simp] theorem State.setFlag_cq (s : State) (f : Fld) (b : Bool) (d : Ctl) (j : Nat) : (s.setFlag f b).cq d j = s.cq d j := rfl
@[simp] theorem State.setFlag_ns (s : State) (f : Fld) (b : Bool) (j : Nat) : (s.setFlag f b).ns j = s.ns j := rfl
@[simp] theorem State.setFlag_ctlr (s : State) (f : Fld) (b : Bool) (d : Ctl) : (s.setFlag f b).ctlr d = s.ctlr d := rfl
@[simp] theorem State.setFlag_layout (s : State) (f : Fld) (b : Bool) (m : Fin 4) : (s.setFlag f b).layout m = s.layout m := rfl
@[simp] theorem State.setFlag_pool (s : State) (f : Fld) (b : Bool) (j : PoolId) : (s.setFlag f b).pool j = s.pool j := rfl

/-! ### setBit -/

@[simp] theorem State.setBit_pending (s : State) (f : Fld) (i : Nat) (b : Bool) : (s.setBit f i b).pending = s.pending := rfl
@[simp] theorem State.setBit_force (s : State) (f : Fld) (i : Nat) (b : Bool) : (s.setBit f i b).force = s.force := rfl
@[simp] theorem State.setBit_freeCtr (s : State) (f : Fld) (i : Nat) (b : Bool) : (s.setBit f i b).freeCtr = s.freeCtr := rfl
@[simp] theorem State.setBit_small (s : State) (f : Fld) (i : Nat) (b : Bool) : (s.setBit f i b).small = s.small := rfl
@[simp] theorem State.setBit_chans (s : State) (f : Fld) (i : Nat) (b : Bool) : (s.setBit f i b).chans = s.chans := rfl
@[simp] theorem State.setBit_store (s : State) (f : Fld) (i : Nat) (b : Bool) : (s.setBit f i b).store = s.store := rfl
@[simp] theorem State.setBit_pads (s : State) (f : Fld) (i : Nat) (b : Bool) : (s.setBit f i b).pads = s.pads := rfl
@[simp] theorem State.setBit_banks (s : State) (f : Fld) (i : Nat) (b : Bool) : (s.setBit f i b).banks = s.banks := rfl
@[simp] theorem State.setBit_dram (s : State) (f : Fld) (i : Nat) (b : Bool) : (s.setBit f i b).dram = s.dram := rfl
@[simp] theorem State.setBit_raised (s : State) (f : Fld) (i : Nat) (b : Bool) : (s.setBit f i b).raised = s.raised := rfl
@[simp] theorem State.setBit_colo (s : State) (f : Fld) (i : Nat) (b : Bool) : (s.setBit f i b).colo = s.colo := rfl
@[simp] theorem State.setBit_fuses (s : State) (f : Fld) (i : Nat) (b : Bool) : (s.setBit f i b).fuses = s.fuses := rfl
@[simp] theorem State.setBit_boot (s : State) (f : Fld) (i : Nat) (b : Bool) : (s.setBit f i b).boot = s.boot := rfl
@[simp] theorem State.setBit_rst (s : State) (f : Fld) (i : Nat) (b : Bool) : (s.setBit f i b).rst = s.rst := rfl
@[simp] theorem State.setBit_ream (s : State) (f : Fld) (i : Nat) (b : Bool) : (s.setBit f i b).ream = s.ream := rfl
@[simp] theorem State.setBit_cache (s : State) (f : Fld) (i : Nat) (b : Bool) : (s.setBit f i b).cache = s.cache := rfl
@[simp] theorem State.setBit_mem (s : State) (f : Fld) (i : Nat) (b : Bool) : (s.setBit f i b).mem = s.mem := rfl
@[simp] theorem State.setBit_fly (s : State) (f : Fld) (i : Nat) (b : Bool) : (s.setBit f i b).fly = s.fly := rfl
@[simp] theorem State.setBit_gath (s : State) (f : Fld) (i : Nat) (b : Bool) : (s.setBit f i b).gath = s.gath := rfl
@[simp] theorem State.setBit_host (s : State) (f : Fld) (i : Nat) (b : Bool) : (s.setBit f i b).host = s.host := rfl
@[simp] theorem State.setBit_ket (s : State) (f : Fld) (i : Nat) (b : Bool) : (s.setBit f i b).ket = s.ket := rfl
@[simp] theorem State.setBit_fresh (s : State) (f : Fld) (i : Nat) (b : Bool) : (s.setBit f i b).fresh = s.fresh := rfl
@[simp] theorem State.setBit_chan (s : State) (f : Fld) (i : Nat) (b : Bool) (m : Ch) : (s.setBit f i b).chan m = s.chan m := rfl
@[simp] theorem State.setBit_stit (s : State) (f : Fld) (i : Nat) (b : Bool) (m : Ch) (q : Pa) : (s.setBit f i b).stit m q = s.stit m q := rfl
@[simp] theorem State.setBit_pathSt (s : State) (f : Fld) (i : Nat) (b : Bool) (m : Ch) (q : Pa) : (s.setBit f i b).pathSt m q = s.pathSt m q := rfl
@[simp] theorem State.setBit_mot (s : State) (f : Fld) (i : Nat) (b : Bool) (m : Ch) : (s.setBit f i b).mot m = s.mot m := rfl
@[simp] theorem State.setBit_servo (s : State) (f : Fld) (i : Nat) (b : Bool) (m : Ch) : (s.setBit f i b).servo m = s.servo m := rfl
@[simp] theorem State.setBit_hinge (s : State) (f : Fld) (i : Nat) (b : Bool) (m : Ch) : (s.setBit f i b).hinge m = s.hinge m := rfl
@[simp] theorem State.setBit_cmd (s : State) (f : Fld) (i : Nat) (b : Bool) (j : Nat) : (s.setBit f i b).cmd j = s.cmd j := rfl
@[simp] theorem State.setBit_sq (s : State) (f : Fld) (i : Nat) (b : Bool) (d : Ctl) (j : Nat) : (s.setBit f i b).sq d j = s.sq d j := rfl
@[simp] theorem State.setBit_cq (s : State) (f : Fld) (i : Nat) (b : Bool) (d : Ctl) (j : Nat) : (s.setBit f i b).cq d j = s.cq d j := rfl
@[simp] theorem State.setBit_ns (s : State) (f : Fld) (i : Nat) (b : Bool) (j : Nat) : (s.setBit f i b).ns j = s.ns j := rfl
@[simp] theorem State.setBit_ctlr (s : State) (f : Fld) (i : Nat) (b : Bool) (d : Ctl) : (s.setBit f i b).ctlr d = s.ctlr d := rfl
@[simp] theorem State.setBit_layout (s : State) (f : Fld) (i : Nat) (b : Bool) (m : Fin 4) : (s.setBit f i b).layout m = s.layout m := rfl
@[simp] theorem State.setBit_pool (s : State) (f : Fld) (i : Nat) (b : Bool) (j : PoolId) : (s.setBit f i b).pool j = s.pool j := rfl

/-! ### addSat -/

@[simp] theorem State.addSat_pending (s : State) (f : Fld) (k : Nat) : (s.addSat f k).pending = s.pending := rfl
@[simp] theorem State.addSat_force (s : State) (f : Fld) (k : Nat) : (s.addSat f k).force = s.force := rfl
@[simp] theorem State.addSat_freeCtr (s : State) (f : Fld) (k : Nat) : (s.addSat f k).freeCtr = s.freeCtr := rfl
@[simp] theorem State.addSat_small (s : State) (f : Fld) (k : Nat) : (s.addSat f k).small = s.small := rfl
@[simp] theorem State.addSat_chans (s : State) (f : Fld) (k : Nat) : (s.addSat f k).chans = s.chans := rfl
@[simp] theorem State.addSat_store (s : State) (f : Fld) (k : Nat) : (s.addSat f k).store = s.store := rfl
@[simp] theorem State.addSat_pads (s : State) (f : Fld) (k : Nat) : (s.addSat f k).pads = s.pads := rfl
@[simp] theorem State.addSat_banks (s : State) (f : Fld) (k : Nat) : (s.addSat f k).banks = s.banks := rfl
@[simp] theorem State.addSat_dram (s : State) (f : Fld) (k : Nat) : (s.addSat f k).dram = s.dram := rfl
@[simp] theorem State.addSat_raised (s : State) (f : Fld) (k : Nat) : (s.addSat f k).raised = s.raised := rfl
@[simp] theorem State.addSat_colo (s : State) (f : Fld) (k : Nat) : (s.addSat f k).colo = s.colo := rfl
@[simp] theorem State.addSat_fuses (s : State) (f : Fld) (k : Nat) : (s.addSat f k).fuses = s.fuses := rfl
@[simp] theorem State.addSat_boot (s : State) (f : Fld) (k : Nat) : (s.addSat f k).boot = s.boot := rfl
@[simp] theorem State.addSat_rst (s : State) (f : Fld) (k : Nat) : (s.addSat f k).rst = s.rst := rfl
@[simp] theorem State.addSat_ream (s : State) (f : Fld) (k : Nat) : (s.addSat f k).ream = s.ream := rfl
@[simp] theorem State.addSat_cache (s : State) (f : Fld) (k : Nat) : (s.addSat f k).cache = s.cache := rfl
@[simp] theorem State.addSat_mem (s : State) (f : Fld) (k : Nat) : (s.addSat f k).mem = s.mem := rfl
@[simp] theorem State.addSat_fly (s : State) (f : Fld) (k : Nat) : (s.addSat f k).fly = s.fly := rfl
@[simp] theorem State.addSat_gath (s : State) (f : Fld) (k : Nat) : (s.addSat f k).gath = s.gath := rfl
@[simp] theorem State.addSat_host (s : State) (f : Fld) (k : Nat) : (s.addSat f k).host = s.host := rfl
@[simp] theorem State.addSat_ket (s : State) (f : Fld) (k : Nat) : (s.addSat f k).ket = s.ket := rfl
@[simp] theorem State.addSat_fresh (s : State) (f : Fld) (k : Nat) : (s.addSat f k).fresh = s.fresh := rfl
@[simp] theorem State.addSat_chan (s : State) (f : Fld) (k : Nat) (m : Ch) : (s.addSat f k).chan m = s.chan m := rfl
@[simp] theorem State.addSat_stit (s : State) (f : Fld) (k : Nat) (m : Ch) (q : Pa) : (s.addSat f k).stit m q = s.stit m q := rfl
@[simp] theorem State.addSat_pathSt (s : State) (f : Fld) (k : Nat) (m : Ch) (q : Pa) : (s.addSat f k).pathSt m q = s.pathSt m q := rfl
@[simp] theorem State.addSat_mot (s : State) (f : Fld) (k : Nat) (m : Ch) : (s.addSat f k).mot m = s.mot m := rfl
@[simp] theorem State.addSat_servo (s : State) (f : Fld) (k : Nat) (m : Ch) : (s.addSat f k).servo m = s.servo m := rfl
@[simp] theorem State.addSat_hinge (s : State) (f : Fld) (k : Nat) (m : Ch) : (s.addSat f k).hinge m = s.hinge m := rfl
@[simp] theorem State.addSat_cmd (s : State) (f : Fld) (k : Nat) (j : Nat) : (s.addSat f k).cmd j = s.cmd j := rfl
@[simp] theorem State.addSat_sq (s : State) (f : Fld) (k : Nat) (d : Ctl) (j : Nat) : (s.addSat f k).sq d j = s.sq d j := rfl
@[simp] theorem State.addSat_cq (s : State) (f : Fld) (k : Nat) (d : Ctl) (j : Nat) : (s.addSat f k).cq d j = s.cq d j := rfl
@[simp] theorem State.addSat_ns (s : State) (f : Fld) (k : Nat) (j : Nat) : (s.addSat f k).ns j = s.ns j := rfl
@[simp] theorem State.addSat_ctlr (s : State) (f : Fld) (k : Nat) (d : Ctl) : (s.addSat f k).ctlr d = s.ctlr d := rfl
@[simp] theorem State.addSat_layout (s : State) (f : Fld) (k : Nat) (m : Fin 4) : (s.addSat f k).layout m = s.layout m := rfl
@[simp] theorem State.addSat_pool (s : State) (f : Fld) (k : Nat) (j : PoolId) : (s.addSat f k).pool j = s.pool j := rfl

/-! ### inc -/

@[simp] theorem State.inc_pending (s : State) (f : Fld) : (s.inc f).pending = s.pending := rfl
@[simp] theorem State.inc_force (s : State) (f : Fld) : (s.inc f).force = s.force := rfl
@[simp] theorem State.inc_freeCtr (s : State) (f : Fld) : (s.inc f).freeCtr = s.freeCtr := rfl
@[simp] theorem State.inc_small (s : State) (f : Fld) : (s.inc f).small = s.small := rfl
@[simp] theorem State.inc_chans (s : State) (f : Fld) : (s.inc f).chans = s.chans := rfl
@[simp] theorem State.inc_store (s : State) (f : Fld) : (s.inc f).store = s.store := rfl
@[simp] theorem State.inc_pads (s : State) (f : Fld) : (s.inc f).pads = s.pads := rfl
@[simp] theorem State.inc_banks (s : State) (f : Fld) : (s.inc f).banks = s.banks := rfl
@[simp] theorem State.inc_dram (s : State) (f : Fld) : (s.inc f).dram = s.dram := rfl
@[simp] theorem State.inc_raised (s : State) (f : Fld) : (s.inc f).raised = s.raised := rfl
@[simp] theorem State.inc_colo (s : State) (f : Fld) : (s.inc f).colo = s.colo := rfl
@[simp] theorem State.inc_fuses (s : State) (f : Fld) : (s.inc f).fuses = s.fuses := rfl
@[simp] theorem State.inc_boot (s : State) (f : Fld) : (s.inc f).boot = s.boot := rfl
@[simp] theorem State.inc_rst (s : State) (f : Fld) : (s.inc f).rst = s.rst := rfl
@[simp] theorem State.inc_ream (s : State) (f : Fld) : (s.inc f).ream = s.ream := rfl
@[simp] theorem State.inc_cache (s : State) (f : Fld) : (s.inc f).cache = s.cache := rfl
@[simp] theorem State.inc_mem (s : State) (f : Fld) : (s.inc f).mem = s.mem := rfl
@[simp] theorem State.inc_fly (s : State) (f : Fld) : (s.inc f).fly = s.fly := rfl
@[simp] theorem State.inc_gath (s : State) (f : Fld) : (s.inc f).gath = s.gath := rfl
@[simp] theorem State.inc_host (s : State) (f : Fld) : (s.inc f).host = s.host := rfl
@[simp] theorem State.inc_ket (s : State) (f : Fld) : (s.inc f).ket = s.ket := rfl
@[simp] theorem State.inc_fresh (s : State) (f : Fld) : (s.inc f).fresh = s.fresh := rfl
@[simp] theorem State.inc_chan (s : State) (f : Fld) (m : Ch) : (s.inc f).chan m = s.chan m := rfl
@[simp] theorem State.inc_stit (s : State) (f : Fld) (m : Ch) (q : Pa) : (s.inc f).stit m q = s.stit m q := rfl
@[simp] theorem State.inc_pathSt (s : State) (f : Fld) (m : Ch) (q : Pa) : (s.inc f).pathSt m q = s.pathSt m q := rfl
@[simp] theorem State.inc_mot (s : State) (f : Fld) (m : Ch) : (s.inc f).mot m = s.mot m := rfl
@[simp] theorem State.inc_servo (s : State) (f : Fld) (m : Ch) : (s.inc f).servo m = s.servo m := rfl
@[simp] theorem State.inc_hinge (s : State) (f : Fld) (m : Ch) : (s.inc f).hinge m = s.hinge m := rfl
@[simp] theorem State.inc_cmd (s : State) (f : Fld) (j : Nat) : (s.inc f).cmd j = s.cmd j := rfl
@[simp] theorem State.inc_sq (s : State) (f : Fld) (d : Ctl) (j : Nat) : (s.inc f).sq d j = s.sq d j := rfl
@[simp] theorem State.inc_cq (s : State) (f : Fld) (d : Ctl) (j : Nat) : (s.inc f).cq d j = s.cq d j := rfl
@[simp] theorem State.inc_ns (s : State) (f : Fld) (j : Nat) : (s.inc f).ns j = s.ns j := rfl
@[simp] theorem State.inc_ctlr (s : State) (f : Fld) (d : Ctl) : (s.inc f).ctlr d = s.ctlr d := rfl
@[simp] theorem State.inc_layout (s : State) (f : Fld) (m : Fin 4) : (s.inc f).layout m = s.layout m := rfl
@[simp] theorem State.inc_pool (s : State) (f : Fld) (j : PoolId) : (s.inc f).pool j = s.pool j := rfl

/-! ### incWrap -/

@[simp] theorem State.incWrap_pending (s : State) (f : Fld) : (s.incWrap f).pending = s.pending := rfl
@[simp] theorem State.incWrap_force (s : State) (f : Fld) : (s.incWrap f).force = s.force := rfl
@[simp] theorem State.incWrap_freeCtr (s : State) (f : Fld) : (s.incWrap f).freeCtr = s.freeCtr := rfl
@[simp] theorem State.incWrap_small (s : State) (f : Fld) : (s.incWrap f).small = s.small := rfl
@[simp] theorem State.incWrap_chans (s : State) (f : Fld) : (s.incWrap f).chans = s.chans := rfl
@[simp] theorem State.incWrap_store (s : State) (f : Fld) : (s.incWrap f).store = s.store := rfl
@[simp] theorem State.incWrap_pads (s : State) (f : Fld) : (s.incWrap f).pads = s.pads := rfl
@[simp] theorem State.incWrap_banks (s : State) (f : Fld) : (s.incWrap f).banks = s.banks := rfl
@[simp] theorem State.incWrap_dram (s : State) (f : Fld) : (s.incWrap f).dram = s.dram := rfl
@[simp] theorem State.incWrap_raised (s : State) (f : Fld) : (s.incWrap f).raised = s.raised := rfl
@[simp] theorem State.incWrap_colo (s : State) (f : Fld) : (s.incWrap f).colo = s.colo := rfl
@[simp] theorem State.incWrap_fuses (s : State) (f : Fld) : (s.incWrap f).fuses = s.fuses := rfl
@[simp] theorem State.incWrap_boot (s : State) (f : Fld) : (s.incWrap f).boot = s.boot := rfl
@[simp] theorem State.incWrap_rst (s : State) (f : Fld) : (s.incWrap f).rst = s.rst := rfl
@[simp] theorem State.incWrap_ream (s : State) (f : Fld) : (s.incWrap f).ream = s.ream := rfl
@[simp] theorem State.incWrap_cache (s : State) (f : Fld) : (s.incWrap f).cache = s.cache := rfl
@[simp] theorem State.incWrap_mem (s : State) (f : Fld) : (s.incWrap f).mem = s.mem := rfl
@[simp] theorem State.incWrap_fly (s : State) (f : Fld) : (s.incWrap f).fly = s.fly := rfl
@[simp] theorem State.incWrap_gath (s : State) (f : Fld) : (s.incWrap f).gath = s.gath := rfl
@[simp] theorem State.incWrap_host (s : State) (f : Fld) : (s.incWrap f).host = s.host := rfl
@[simp] theorem State.incWrap_ket (s : State) (f : Fld) : (s.incWrap f).ket = s.ket := rfl
@[simp] theorem State.incWrap_fresh (s : State) (f : Fld) : (s.incWrap f).fresh = s.fresh := rfl
@[simp] theorem State.incWrap_chan (s : State) (f : Fld) (m : Ch) : (s.incWrap f).chan m = s.chan m := rfl
@[simp] theorem State.incWrap_stit (s : State) (f : Fld) (m : Ch) (q : Pa) : (s.incWrap f).stit m q = s.stit m q := rfl
@[simp] theorem State.incWrap_pathSt (s : State) (f : Fld) (m : Ch) (q : Pa) : (s.incWrap f).pathSt m q = s.pathSt m q := rfl
@[simp] theorem State.incWrap_mot (s : State) (f : Fld) (m : Ch) : (s.incWrap f).mot m = s.mot m := rfl
@[simp] theorem State.incWrap_servo (s : State) (f : Fld) (m : Ch) : (s.incWrap f).servo m = s.servo m := rfl
@[simp] theorem State.incWrap_hinge (s : State) (f : Fld) (m : Ch) : (s.incWrap f).hinge m = s.hinge m := rfl
@[simp] theorem State.incWrap_cmd (s : State) (f : Fld) (j : Nat) : (s.incWrap f).cmd j = s.cmd j := rfl
@[simp] theorem State.incWrap_sq (s : State) (f : Fld) (d : Ctl) (j : Nat) : (s.incWrap f).sq d j = s.sq d j := rfl
@[simp] theorem State.incWrap_cq (s : State) (f : Fld) (d : Ctl) (j : Nat) : (s.incWrap f).cq d j = s.cq d j := rfl
@[simp] theorem State.incWrap_ns (s : State) (f : Fld) (j : Nat) : (s.incWrap f).ns j = s.ns j := rfl
@[simp] theorem State.incWrap_ctlr (s : State) (f : Fld) (d : Ctl) : (s.incWrap f).ctlr d = s.ctlr d := rfl
@[simp] theorem State.incWrap_layout (s : State) (f : Fld) (m : Fin 4) : (s.incWrap f).layout m = s.layout m := rfl
@[simp] theorem State.incWrap_pool (s : State) (f : Fld) (j : PoolId) : (s.incWrap f).pool j = s.pool j := rfl

/-! ### resetRegs -/

@[simp] theorem State.resetRegs_pending (s : State) (lo hi : Nat) : (s.resetRegs lo hi).pending = s.pending := rfl
@[simp] theorem State.resetRegs_force (s : State) (lo hi : Nat) : (s.resetRegs lo hi).force = s.force := rfl
@[simp] theorem State.resetRegs_freeCtr (s : State) (lo hi : Nat) : (s.resetRegs lo hi).freeCtr = s.freeCtr := rfl
@[simp] theorem State.resetRegs_small (s : State) (lo hi : Nat) : (s.resetRegs lo hi).small = s.small := rfl
@[simp] theorem State.resetRegs_chans (s : State) (lo hi : Nat) : (s.resetRegs lo hi).chans = s.chans := rfl
@[simp] theorem State.resetRegs_store (s : State) (lo hi : Nat) : (s.resetRegs lo hi).store = s.store := rfl
@[simp] theorem State.resetRegs_pads (s : State) (lo hi : Nat) : (s.resetRegs lo hi).pads = s.pads := rfl
@[simp] theorem State.resetRegs_banks (s : State) (lo hi : Nat) : (s.resetRegs lo hi).banks = s.banks := rfl
@[simp] theorem State.resetRegs_dram (s : State) (lo hi : Nat) : (s.resetRegs lo hi).dram = s.dram := rfl
@[simp] theorem State.resetRegs_raised (s : State) (lo hi : Nat) : (s.resetRegs lo hi).raised = s.raised := rfl
@[simp] theorem State.resetRegs_colo (s : State) (lo hi : Nat) : (s.resetRegs lo hi).colo = s.colo := rfl
@[simp] theorem State.resetRegs_fuses (s : State) (lo hi : Nat) : (s.resetRegs lo hi).fuses = s.fuses := rfl
@[simp] theorem State.resetRegs_boot (s : State) (lo hi : Nat) : (s.resetRegs lo hi).boot = s.boot := rfl
@[simp] theorem State.resetRegs_rst (s : State) (lo hi : Nat) : (s.resetRegs lo hi).rst = s.rst := rfl
@[simp] theorem State.resetRegs_ream (s : State) (lo hi : Nat) : (s.resetRegs lo hi).ream = s.ream := rfl
@[simp] theorem State.resetRegs_cache (s : State) (lo hi : Nat) : (s.resetRegs lo hi).cache = s.cache := rfl
@[simp] theorem State.resetRegs_mem (s : State) (lo hi : Nat) : (s.resetRegs lo hi).mem = s.mem := rfl
@[simp] theorem State.resetRegs_fly (s : State) (lo hi : Nat) : (s.resetRegs lo hi).fly = s.fly := rfl
@[simp] theorem State.resetRegs_gath (s : State) (lo hi : Nat) : (s.resetRegs lo hi).gath = s.gath := rfl
@[simp] theorem State.resetRegs_host (s : State) (lo hi : Nat) : (s.resetRegs lo hi).host = s.host := rfl
@[simp] theorem State.resetRegs_ket (s : State) (lo hi : Nat) : (s.resetRegs lo hi).ket = s.ket := rfl
@[simp] theorem State.resetRegs_fresh (s : State) (lo hi : Nat) : (s.resetRegs lo hi).fresh = s.fresh := rfl
@[simp] theorem State.resetRegs_chan (s : State) (lo hi : Nat) (m : Ch) : (s.resetRegs lo hi).chan m = s.chan m := rfl
@[simp] theorem State.resetRegs_stit (s : State) (lo hi : Nat) (m : Ch) (q : Pa) : (s.resetRegs lo hi).stit m q = s.stit m q := rfl
@[simp] theorem State.resetRegs_pathSt (s : State) (lo hi : Nat) (m : Ch) (q : Pa) : (s.resetRegs lo hi).pathSt m q = s.pathSt m q := rfl
@[simp] theorem State.resetRegs_mot (s : State) (lo hi : Nat) (m : Ch) : (s.resetRegs lo hi).mot m = s.mot m := rfl
@[simp] theorem State.resetRegs_servo (s : State) (lo hi : Nat) (m : Ch) : (s.resetRegs lo hi).servo m = s.servo m := rfl
@[simp] theorem State.resetRegs_hinge (s : State) (lo hi : Nat) (m : Ch) : (s.resetRegs lo hi).hinge m = s.hinge m := rfl
@[simp] theorem State.resetRegs_cmd (s : State) (lo hi : Nat) (j : Nat) : (s.resetRegs lo hi).cmd j = s.cmd j := rfl
@[simp] theorem State.resetRegs_sq (s : State) (lo hi : Nat) (d : Ctl) (j : Nat) : (s.resetRegs lo hi).sq d j = s.sq d j := rfl
@[simp] theorem State.resetRegs_cq (s : State) (lo hi : Nat) (d : Ctl) (j : Nat) : (s.resetRegs lo hi).cq d j = s.cq d j := rfl
@[simp] theorem State.resetRegs_ns (s : State) (lo hi : Nat) (j : Nat) : (s.resetRegs lo hi).ns j = s.ns j := rfl
@[simp] theorem State.resetRegs_ctlr (s : State) (lo hi : Nat) (d : Ctl) : (s.resetRegs lo hi).ctlr d = s.ctlr d := rfl
@[simp] theorem State.resetRegs_layout (s : State) (lo hi : Nat) (m : Fin 4) : (s.resetRegs lo hi).layout m = s.layout m := rfl
@[simp] theorem State.resetRegs_pool (s : State) (lo hi : Nat) (j : PoolId) : (s.resetRegs lo hi).pool j = s.pool j := rfl

/-! ### used -/

@[simp] theorem State.used_pending (s : State) : (s.used).pending = s.pending := rfl
@[simp] theorem State.used_regs (s : State) : (s.used).regs = s.regs := rfl
@[simp] theorem State.used_force (s : State) : (s.used).force = s.force := rfl
@[simp] theorem State.used_small (s : State) : (s.used).small = s.small := rfl
@[simp] theorem State.used_chans (s : State) : (s.used).chans = s.chans := rfl
@[simp] theorem State.used_store (s : State) : (s.used).store = s.store := rfl
@[simp] theorem State.used_pads (s : State) : (s.used).pads = s.pads := rfl
@[simp] theorem State.used_banks (s : State) : (s.used).banks = s.banks := rfl
@[simp] theorem State.used_dram (s : State) : (s.used).dram = s.dram := rfl
@[simp] theorem State.used_raised (s : State) : (s.used).raised = s.raised := rfl
@[simp] theorem State.used_colo (s : State) : (s.used).colo = s.colo := rfl
@[simp] theorem State.used_fuses (s : State) : (s.used).fuses = s.fuses := rfl
@[simp] theorem State.used_boot (s : State) : (s.used).boot = s.boot := rfl
@[simp] theorem State.used_rst (s : State) : (s.used).rst = s.rst := rfl
@[simp] theorem State.used_ream (s : State) : (s.used).ream = s.ream := rfl
@[simp] theorem State.used_cache (s : State) : (s.used).cache = s.cache := rfl
@[simp] theorem State.used_mem (s : State) : (s.used).mem = s.mem := rfl
@[simp] theorem State.used_fly (s : State) : (s.used).fly = s.fly := rfl
@[simp] theorem State.used_gath (s : State) : (s.used).gath = s.gath := rfl
@[simp] theorem State.used_host (s : State) : (s.used).host = s.host := rfl
@[simp] theorem State.used_ket (s : State) : (s.used).ket = s.ket := rfl
@[simp] theorem State.used_get (s : State) (g : Fld) : (s.used).get g = s.get g := rfl
@[simp] theorem State.used_flag (s : State) (g : Fld) : (s.used).flag g = s.flag g := rfl
@[simp] theorem State.used_bit (s : State) (g : Fld) (j : Nat) : (s.used).bit g j = s.bit g j := rfl
@[simp] theorem State.used_chan (s : State) (m : Ch) : (s.used).chan m = s.chan m := rfl
@[simp] theorem State.used_stit (s : State) (m : Ch) (q : Pa) : (s.used).stit m q = s.stit m q := rfl
@[simp] theorem State.used_pathSt (s : State) (m : Ch) (q : Pa) : (s.used).pathSt m q = s.pathSt m q := rfl
@[simp] theorem State.used_mot (s : State) (m : Ch) : (s.used).mot m = s.mot m := rfl
@[simp] theorem State.used_servo (s : State) (m : Ch) : (s.used).servo m = s.servo m := rfl
@[simp] theorem State.used_hinge (s : State) (m : Ch) : (s.used).hinge m = s.hinge m := rfl
@[simp] theorem State.used_cmd (s : State) (j : Nat) : (s.used).cmd j = s.cmd j := rfl
@[simp] theorem State.used_sq (s : State) (d : Ctl) (j : Nat) : (s.used).sq d j = s.sq d j := rfl
@[simp] theorem State.used_cq (s : State) (d : Ctl) (j : Nat) : (s.used).cq d j = s.cq d j := rfl
@[simp] theorem State.used_ns (s : State) (j : Nat) : (s.used).ns j = s.ns j := rfl
@[simp] theorem State.used_ctlr (s : State) (d : Ctl) : (s.used).ctlr d = s.ctlr d := rfl
@[simp] theorem State.used_layout (s : State) (m : Fin 4) : (s.used).layout m = s.layout m := rfl
@[simp] theorem State.used_pool (s : State) (j : PoolId) : (s.used).pool j = s.pool j := rfl

/-! ### raise -/

@[simp] theorem State.raise_pending (s : State) (x i c u : Nat) : (s.raise x i c u).pending = s.pending := rfl
@[simp] theorem State.raise_regs (s : State) (x i c u : Nat) : (s.raise x i c u).regs = s.regs := rfl
@[simp] theorem State.raise_force (s : State) (x i c u : Nat) : (s.raise x i c u).force = s.force := rfl
@[simp] theorem State.raise_freeCtr (s : State) (x i c u : Nat) : (s.raise x i c u).freeCtr = s.freeCtr := rfl
@[simp] theorem State.raise_small (s : State) (x i c u : Nat) : (s.raise x i c u).small = s.small := rfl
@[simp] theorem State.raise_chans (s : State) (x i c u : Nat) : (s.raise x i c u).chans = s.chans := rfl
@[simp] theorem State.raise_store (s : State) (x i c u : Nat) : (s.raise x i c u).store = s.store := rfl
@[simp] theorem State.raise_pads (s : State) (x i c u : Nat) : (s.raise x i c u).pads = s.pads := rfl
@[simp] theorem State.raise_banks (s : State) (x i c u : Nat) : (s.raise x i c u).banks = s.banks := rfl
@[simp] theorem State.raise_dram (s : State) (x i c u : Nat) : (s.raise x i c u).dram = s.dram := rfl
@[simp] theorem State.raise_colo (s : State) (x i c u : Nat) : (s.raise x i c u).colo = s.colo := rfl
@[simp] theorem State.raise_fuses (s : State) (x i c u : Nat) : (s.raise x i c u).fuses = s.fuses := rfl
@[simp] theorem State.raise_boot (s : State) (x i c u : Nat) : (s.raise x i c u).boot = s.boot := rfl
@[simp] theorem State.raise_rst (s : State) (x i c u : Nat) : (s.raise x i c u).rst = s.rst := rfl
@[simp] theorem State.raise_ream (s : State) (x i c u : Nat) : (s.raise x i c u).ream = s.ream := rfl
@[simp] theorem State.raise_cache (s : State) (x i c u : Nat) : (s.raise x i c u).cache = s.cache := rfl
@[simp] theorem State.raise_mem (s : State) (x i c u : Nat) : (s.raise x i c u).mem = s.mem := rfl
@[simp] theorem State.raise_fly (s : State) (x i c u : Nat) : (s.raise x i c u).fly = s.fly := rfl
@[simp] theorem State.raise_gath (s : State) (x i c u : Nat) : (s.raise x i c u).gath = s.gath := rfl
@[simp] theorem State.raise_host (s : State) (x i c u : Nat) : (s.raise x i c u).host = s.host := rfl
@[simp] theorem State.raise_ket (s : State) (x i c u : Nat) : (s.raise x i c u).ket = s.ket := rfl
@[simp] theorem State.raise_get (s : State) (x i c u : Nat) (g : Fld) : (s.raise x i c u).get g = s.get g := rfl
@[simp] theorem State.raise_flag (s : State) (x i c u : Nat) (g : Fld) : (s.raise x i c u).flag g = s.flag g := rfl
@[simp] theorem State.raise_bit (s : State) (x i c u : Nat) (g : Fld) (j : Nat) : (s.raise x i c u).bit g j = s.bit g j := rfl
@[simp] theorem State.raise_fresh (s : State) (x i c u : Nat) : (s.raise x i c u).fresh = s.fresh := rfl
@[simp] theorem State.raise_chan (s : State) (x i c u : Nat) (m : Ch) : (s.raise x i c u).chan m = s.chan m := rfl
@[simp] theorem State.raise_stit (s : State) (x i c u : Nat) (m : Ch) (q : Pa) : (s.raise x i c u).stit m q = s.stit m q := rfl
@[simp] theorem State.raise_pathSt (s : State) (x i c u : Nat) (m : Ch) (q : Pa) : (s.raise x i c u).pathSt m q = s.pathSt m q := rfl
@[simp] theorem State.raise_mot (s : State) (x i c u : Nat) (m : Ch) : (s.raise x i c u).mot m = s.mot m := rfl
@[simp] theorem State.raise_servo (s : State) (x i c u : Nat) (m : Ch) : (s.raise x i c u).servo m = s.servo m := rfl
@[simp] theorem State.raise_hinge (s : State) (x i c u : Nat) (m : Ch) : (s.raise x i c u).hinge m = s.hinge m := rfl
@[simp] theorem State.raise_cmd (s : State) (x i c u : Nat) (j : Nat) : (s.raise x i c u).cmd j = s.cmd j := rfl
@[simp] theorem State.raise_sq (s : State) (x i c u : Nat) (d : Ctl) (j : Nat) : (s.raise x i c u).sq d j = s.sq d j := rfl
@[simp] theorem State.raise_cq (s : State) (x i c u : Nat) (d : Ctl) (j : Nat) : (s.raise x i c u).cq d j = s.cq d j := rfl
@[simp] theorem State.raise_ns (s : State) (x i c u : Nat) (j : Nat) : (s.raise x i c u).ns j = s.ns j := rfl
@[simp] theorem State.raise_ctlr (s : State) (x i c u : Nat) (d : Ctl) : (s.raise x i c u).ctlr d = s.ctlr d := rfl
@[simp] theorem State.raise_layout (s : State) (x i c u : Nat) (m : Fin 4) : (s.raise x i c u).layout m = s.layout m := rfl
@[simp] theorem State.raise_pool (s : State) (x i c u : Nat) (j : PoolId) : (s.raise x i c u).pool j = s.pool j := rfl

/-! ### modChan -/

@[simp] theorem State.modChan_pending (s : State) (n : Ch) (f : Chan → Chan) : (s.modChan n f).pending = s.pending := rfl
@[simp] theorem State.modChan_regs (s : State) (n : Ch) (f : Chan → Chan) : (s.modChan n f).regs = s.regs := rfl
@[simp] theorem State.modChan_force (s : State) (n : Ch) (f : Chan → Chan) : (s.modChan n f).force = s.force := rfl
@[simp] theorem State.modChan_freeCtr (s : State) (n : Ch) (f : Chan → Chan) : (s.modChan n f).freeCtr = s.freeCtr := rfl
@[simp] theorem State.modChan_small (s : State) (n : Ch) (f : Chan → Chan) : (s.modChan n f).small = s.small := rfl
@[simp] theorem State.modChan_store (s : State) (n : Ch) (f : Chan → Chan) : (s.modChan n f).store = s.store := rfl
@[simp] theorem State.modChan_pads (s : State) (n : Ch) (f : Chan → Chan) : (s.modChan n f).pads = s.pads := rfl
@[simp] theorem State.modChan_banks (s : State) (n : Ch) (f : Chan → Chan) : (s.modChan n f).banks = s.banks := rfl
@[simp] theorem State.modChan_dram (s : State) (n : Ch) (f : Chan → Chan) : (s.modChan n f).dram = s.dram := rfl
@[simp] theorem State.modChan_raised (s : State) (n : Ch) (f : Chan → Chan) : (s.modChan n f).raised = s.raised := rfl
@[simp] theorem State.modChan_colo (s : State) (n : Ch) (f : Chan → Chan) : (s.modChan n f).colo = s.colo := rfl
@[simp] theorem State.modChan_fuses (s : State) (n : Ch) (f : Chan → Chan) : (s.modChan n f).fuses = s.fuses := rfl
@[simp] theorem State.modChan_boot (s : State) (n : Ch) (f : Chan → Chan) : (s.modChan n f).boot = s.boot := rfl
@[simp] theorem State.modChan_rst (s : State) (n : Ch) (f : Chan → Chan) : (s.modChan n f).rst = s.rst := rfl
@[simp] theorem State.modChan_ream (s : State) (n : Ch) (f : Chan → Chan) : (s.modChan n f).ream = s.ream := rfl
@[simp] theorem State.modChan_cache (s : State) (n : Ch) (f : Chan → Chan) : (s.modChan n f).cache = s.cache := rfl
@[simp] theorem State.modChan_mem (s : State) (n : Ch) (f : Chan → Chan) : (s.modChan n f).mem = s.mem := rfl
@[simp] theorem State.modChan_fly (s : State) (n : Ch) (f : Chan → Chan) : (s.modChan n f).fly = s.fly := rfl
@[simp] theorem State.modChan_gath (s : State) (n : Ch) (f : Chan → Chan) : (s.modChan n f).gath = s.gath := rfl
@[simp] theorem State.modChan_host (s : State) (n : Ch) (f : Chan → Chan) : (s.modChan n f).host = s.host := rfl
@[simp] theorem State.modChan_ket (s : State) (n : Ch) (f : Chan → Chan) : (s.modChan n f).ket = s.ket := rfl
@[simp] theorem State.modChan_get (s : State) (n : Ch) (f : Chan → Chan) (g : Fld) : (s.modChan n f).get g = s.get g := rfl
@[simp] theorem State.modChan_flag (s : State) (n : Ch) (f : Chan → Chan) (g : Fld) : (s.modChan n f).flag g = s.flag g := rfl
@[simp] theorem State.modChan_bit (s : State) (n : Ch) (f : Chan → Chan) (g : Fld) (j : Nat) : (s.modChan n f).bit g j = s.bit g j := rfl
@[simp] theorem State.modChan_fresh (s : State) (n : Ch) (f : Chan → Chan) : (s.modChan n f).fresh = s.fresh := rfl
@[simp] theorem State.modChan_cmd (s : State) (n : Ch) (f : Chan → Chan) (j : Nat) : (s.modChan n f).cmd j = s.cmd j := rfl
@[simp] theorem State.modChan_sq (s : State) (n : Ch) (f : Chan → Chan) (d : Ctl) (j : Nat) : (s.modChan n f).sq d j = s.sq d j := rfl
@[simp] theorem State.modChan_cq (s : State) (n : Ch) (f : Chan → Chan) (d : Ctl) (j : Nat) : (s.modChan n f).cq d j = s.cq d j := rfl
@[simp] theorem State.modChan_ns (s : State) (n : Ch) (f : Chan → Chan) (j : Nat) : (s.modChan n f).ns j = s.ns j := rfl
@[simp] theorem State.modChan_ctlr (s : State) (n : Ch) (f : Chan → Chan) (d : Ctl) : (s.modChan n f).ctlr d = s.ctlr d := rfl
@[simp] theorem State.modChan_layout (s : State) (n : Ch) (f : Chan → Chan) (m : Fin 4) : (s.modChan n f).layout m = s.layout m := rfl
@[simp] theorem State.modChan_pool (s : State) (n : Ch) (f : Chan → Chan) (j : PoolId) : (s.modChan n f).pool j = s.pool j := rfl

/-! ### modStit -/

@[simp] theorem State.modStit_pending (s : State) (n : Ch) (p : Pa) (f : Stitcher → Stitcher) : (s.modStit n p f).pending = s.pending := rfl
@[simp] theorem State.modStit_regs (s : State) (n : Ch) (p : Pa) (f : Stitcher → Stitcher) : (s.modStit n p f).regs = s.regs := rfl
@[simp] theorem State.modStit_force (s : State) (n : Ch) (p : Pa) (f : Stitcher → Stitcher) : (s.modStit n p f).force = s.force := rfl
@[simp] theorem State.modStit_freeCtr (s : State) (n : Ch) (p : Pa) (f : Stitcher → Stitcher) : (s.modStit n p f).freeCtr = s.freeCtr := rfl
@[simp] theorem State.modStit_small (s : State) (n : Ch) (p : Pa) (f : Stitcher → Stitcher) : (s.modStit n p f).small = s.small := rfl
@[simp] theorem State.modStit_store (s : State) (n : Ch) (p : Pa) (f : Stitcher → Stitcher) : (s.modStit n p f).store = s.store := rfl
@[simp] theorem State.modStit_pads (s : State) (n : Ch) (p : Pa) (f : Stitcher → Stitcher) : (s.modStit n p f).pads = s.pads := rfl
@[simp] theorem State.modStit_banks (s : State) (n : Ch) (p : Pa) (f : Stitcher → Stitcher) : (s.modStit n p f).banks = s.banks := rfl
@[simp] theorem State.modStit_dram (s : State) (n : Ch) (p : Pa) (f : Stitcher → Stitcher) : (s.modStit n p f).dram = s.dram := rfl
@[simp] theorem State.modStit_raised (s : State) (n : Ch) (p : Pa) (f : Stitcher → Stitcher) : (s.modStit n p f).raised = s.raised := rfl
@[simp] theorem State.modStit_colo (s : State) (n : Ch) (p : Pa) (f : Stitcher → Stitcher) : (s.modStit n p f).colo = s.colo := rfl
@[simp] theorem State.modStit_fuses (s : State) (n : Ch) (p : Pa) (f : Stitcher → Stitcher) : (s.modStit n p f).fuses = s.fuses := rfl
@[simp] theorem State.modStit_boot (s : State) (n : Ch) (p : Pa) (f : Stitcher → Stitcher) : (s.modStit n p f).boot = s.boot := rfl
@[simp] theorem State.modStit_rst (s : State) (n : Ch) (p : Pa) (f : Stitcher → Stitcher) : (s.modStit n p f).rst = s.rst := rfl
@[simp] theorem State.modStit_ream (s : State) (n : Ch) (p : Pa) (f : Stitcher → Stitcher) : (s.modStit n p f).ream = s.ream := rfl
@[simp] theorem State.modStit_cache (s : State) (n : Ch) (p : Pa) (f : Stitcher → Stitcher) : (s.modStit n p f).cache = s.cache := rfl
@[simp] theorem State.modStit_mem (s : State) (n : Ch) (p : Pa) (f : Stitcher → Stitcher) : (s.modStit n p f).mem = s.mem := rfl
@[simp] theorem State.modStit_fly (s : State) (n : Ch) (p : Pa) (f : Stitcher → Stitcher) : (s.modStit n p f).fly = s.fly := rfl
@[simp] theorem State.modStit_gath (s : State) (n : Ch) (p : Pa) (f : Stitcher → Stitcher) : (s.modStit n p f).gath = s.gath := rfl
@[simp] theorem State.modStit_host (s : State) (n : Ch) (p : Pa) (f : Stitcher → Stitcher) : (s.modStit n p f).host = s.host := rfl
@[simp] theorem State.modStit_ket (s : State) (n : Ch) (p : Pa) (f : Stitcher → Stitcher) : (s.modStit n p f).ket = s.ket := rfl
@[simp] theorem State.modStit_get (s : State) (n : Ch) (p : Pa) (f : Stitcher → Stitcher) (g : Fld) : (s.modStit n p f).get g = s.get g := rfl
@[simp] theorem State.modStit_flag (s : State) (n : Ch) (p : Pa) (f : Stitcher → Stitcher) (g : Fld) : (s.modStit n p f).flag g = s.flag g := rfl
@[simp] theorem State.modStit_bit (s : State) (n : Ch) (p : Pa) (f : Stitcher → Stitcher) (g : Fld) (j : Nat) : (s.modStit n p f).bit g j = s.bit g j := rfl
@[simp] theorem State.modStit_fresh (s : State) (n : Ch) (p : Pa) (f : Stitcher → Stitcher) : (s.modStit n p f).fresh = s.fresh := rfl
@[simp] theorem State.modStit_cmd (s : State) (n : Ch) (p : Pa) (f : Stitcher → Stitcher) (j : Nat) : (s.modStit n p f).cmd j = s.cmd j := rfl
@[simp] theorem State.modStit_sq (s : State) (n : Ch) (p : Pa) (f : Stitcher → Stitcher) (d : Ctl) (j : Nat) : (s.modStit n p f).sq d j = s.sq d j := rfl
@[simp] theorem State.modStit_cq (s : State) (n : Ch) (p : Pa) (f : Stitcher → Stitcher) (d : Ctl) (j : Nat) : (s.modStit n p f).cq d j = s.cq d j := rfl
@[simp] theorem State.modStit_ns (s : State) (n : Ch) (p : Pa) (f : Stitcher → Stitcher) (j : Nat) : (s.modStit n p f).ns j = s.ns j := rfl
@[simp] theorem State.modStit_ctlr (s : State) (n : Ch) (p : Pa) (f : Stitcher → Stitcher) (d : Ctl) : (s.modStit n p f).ctlr d = s.ctlr d := rfl
@[simp] theorem State.modStit_layout (s : State) (n : Ch) (p : Pa) (f : Stitcher → Stitcher) (m : Fin 4) : (s.modStit n p f).layout m = s.layout m := rfl
@[simp] theorem State.modStit_pool (s : State) (n : Ch) (p : Pa) (f : Stitcher → Stitcher) (j : PoolId) : (s.modStit n p f).pool j = s.pool j := rfl

/-! ### modPath -/

@[simp] theorem State.modPath_pending (s : State) (n : Ch) (p : Pa) (f : PathSt → PathSt) : (s.modPath n p f).pending = s.pending := rfl
@[simp] theorem State.modPath_regs (s : State) (n : Ch) (p : Pa) (f : PathSt → PathSt) : (s.modPath n p f).regs = s.regs := rfl
@[simp] theorem State.modPath_force (s : State) (n : Ch) (p : Pa) (f : PathSt → PathSt) : (s.modPath n p f).force = s.force := rfl
@[simp] theorem State.modPath_freeCtr (s : State) (n : Ch) (p : Pa) (f : PathSt → PathSt) : (s.modPath n p f).freeCtr = s.freeCtr := rfl
@[simp] theorem State.modPath_small (s : State) (n : Ch) (p : Pa) (f : PathSt → PathSt) : (s.modPath n p f).small = s.small := rfl
@[simp] theorem State.modPath_store (s : State) (n : Ch) (p : Pa) (f : PathSt → PathSt) : (s.modPath n p f).store = s.store := rfl
@[simp] theorem State.modPath_pads (s : State) (n : Ch) (p : Pa) (f : PathSt → PathSt) : (s.modPath n p f).pads = s.pads := rfl
@[simp] theorem State.modPath_banks (s : State) (n : Ch) (p : Pa) (f : PathSt → PathSt) : (s.modPath n p f).banks = s.banks := rfl
@[simp] theorem State.modPath_dram (s : State) (n : Ch) (p : Pa) (f : PathSt → PathSt) : (s.modPath n p f).dram = s.dram := rfl
@[simp] theorem State.modPath_raised (s : State) (n : Ch) (p : Pa) (f : PathSt → PathSt) : (s.modPath n p f).raised = s.raised := rfl
@[simp] theorem State.modPath_colo (s : State) (n : Ch) (p : Pa) (f : PathSt → PathSt) : (s.modPath n p f).colo = s.colo := rfl
@[simp] theorem State.modPath_fuses (s : State) (n : Ch) (p : Pa) (f : PathSt → PathSt) : (s.modPath n p f).fuses = s.fuses := rfl
@[simp] theorem State.modPath_boot (s : State) (n : Ch) (p : Pa) (f : PathSt → PathSt) : (s.modPath n p f).boot = s.boot := rfl
@[simp] theorem State.modPath_rst (s : State) (n : Ch) (p : Pa) (f : PathSt → PathSt) : (s.modPath n p f).rst = s.rst := rfl
@[simp] theorem State.modPath_ream (s : State) (n : Ch) (p : Pa) (f : PathSt → PathSt) : (s.modPath n p f).ream = s.ream := rfl
@[simp] theorem State.modPath_cache (s : State) (n : Ch) (p : Pa) (f : PathSt → PathSt) : (s.modPath n p f).cache = s.cache := rfl
@[simp] theorem State.modPath_mem (s : State) (n : Ch) (p : Pa) (f : PathSt → PathSt) : (s.modPath n p f).mem = s.mem := rfl
@[simp] theorem State.modPath_fly (s : State) (n : Ch) (p : Pa) (f : PathSt → PathSt) : (s.modPath n p f).fly = s.fly := rfl
@[simp] theorem State.modPath_gath (s : State) (n : Ch) (p : Pa) (f : PathSt → PathSt) : (s.modPath n p f).gath = s.gath := rfl
@[simp] theorem State.modPath_host (s : State) (n : Ch) (p : Pa) (f : PathSt → PathSt) : (s.modPath n p f).host = s.host := rfl
@[simp] theorem State.modPath_ket (s : State) (n : Ch) (p : Pa) (f : PathSt → PathSt) : (s.modPath n p f).ket = s.ket := rfl
@[simp] theorem State.modPath_get (s : State) (n : Ch) (p : Pa) (f : PathSt → PathSt) (g : Fld) : (s.modPath n p f).get g = s.get g := rfl
@[simp] theorem State.modPath_flag (s : State) (n : Ch) (p : Pa) (f : PathSt → PathSt) (g : Fld) : (s.modPath n p f).flag g = s.flag g := rfl
@[simp] theorem State.modPath_bit (s : State) (n : Ch) (p : Pa) (f : PathSt → PathSt) (g : Fld) (j : Nat) : (s.modPath n p f).bit g j = s.bit g j := rfl
@[simp] theorem State.modPath_fresh (s : State) (n : Ch) (p : Pa) (f : PathSt → PathSt) : (s.modPath n p f).fresh = s.fresh := rfl
@[simp] theorem State.modPath_cmd (s : State) (n : Ch) (p : Pa) (f : PathSt → PathSt) (j : Nat) : (s.modPath n p f).cmd j = s.cmd j := rfl
@[simp] theorem State.modPath_sq (s : State) (n : Ch) (p : Pa) (f : PathSt → PathSt) (d : Ctl) (j : Nat) : (s.modPath n p f).sq d j = s.sq d j := rfl
@[simp] theorem State.modPath_cq (s : State) (n : Ch) (p : Pa) (f : PathSt → PathSt) (d : Ctl) (j : Nat) : (s.modPath n p f).cq d j = s.cq d j := rfl
@[simp] theorem State.modPath_ns (s : State) (n : Ch) (p : Pa) (f : PathSt → PathSt) (j : Nat) : (s.modPath n p f).ns j = s.ns j := rfl
@[simp] theorem State.modPath_ctlr (s : State) (n : Ch) (p : Pa) (f : PathSt → PathSt) (d : Ctl) : (s.modPath n p f).ctlr d = s.ctlr d := rfl
@[simp] theorem State.modPath_layout (s : State) (n : Ch) (p : Pa) (f : PathSt → PathSt) (m : Fin 4) : (s.modPath n p f).layout m = s.layout m := rfl
@[simp] theorem State.modPath_pool (s : State) (n : Ch) (p : Pa) (f : PathSt → PathSt) (j : PoolId) : (s.modPath n p f).pool j = s.pool j := rfl

/-! ### modSched -/

@[simp] theorem State.modSched_pending (s : State) (n : Ch) (f : Sched → Sched) : (s.modSched n f).pending = s.pending := rfl
@[simp] theorem State.modSched_regs (s : State) (n : Ch) (f : Sched → Sched) : (s.modSched n f).regs = s.regs := rfl
@[simp] theorem State.modSched_force (s : State) (n : Ch) (f : Sched → Sched) : (s.modSched n f).force = s.force := rfl
@[simp] theorem State.modSched_freeCtr (s : State) (n : Ch) (f : Sched → Sched) : (s.modSched n f).freeCtr = s.freeCtr := rfl
@[simp] theorem State.modSched_small (s : State) (n : Ch) (f : Sched → Sched) : (s.modSched n f).small = s.small := rfl
@[simp] theorem State.modSched_store (s : State) (n : Ch) (f : Sched → Sched) : (s.modSched n f).store = s.store := rfl
@[simp] theorem State.modSched_pads (s : State) (n : Ch) (f : Sched → Sched) : (s.modSched n f).pads = s.pads := rfl
@[simp] theorem State.modSched_banks (s : State) (n : Ch) (f : Sched → Sched) : (s.modSched n f).banks = s.banks := rfl
@[simp] theorem State.modSched_dram (s : State) (n : Ch) (f : Sched → Sched) : (s.modSched n f).dram = s.dram := rfl
@[simp] theorem State.modSched_raised (s : State) (n : Ch) (f : Sched → Sched) : (s.modSched n f).raised = s.raised := rfl
@[simp] theorem State.modSched_colo (s : State) (n : Ch) (f : Sched → Sched) : (s.modSched n f).colo = s.colo := rfl
@[simp] theorem State.modSched_fuses (s : State) (n : Ch) (f : Sched → Sched) : (s.modSched n f).fuses = s.fuses := rfl
@[simp] theorem State.modSched_boot (s : State) (n : Ch) (f : Sched → Sched) : (s.modSched n f).boot = s.boot := rfl
@[simp] theorem State.modSched_rst (s : State) (n : Ch) (f : Sched → Sched) : (s.modSched n f).rst = s.rst := rfl
@[simp] theorem State.modSched_ream (s : State) (n : Ch) (f : Sched → Sched) : (s.modSched n f).ream = s.ream := rfl
@[simp] theorem State.modSched_cache (s : State) (n : Ch) (f : Sched → Sched) : (s.modSched n f).cache = s.cache := rfl
@[simp] theorem State.modSched_mem (s : State) (n : Ch) (f : Sched → Sched) : (s.modSched n f).mem = s.mem := rfl
@[simp] theorem State.modSched_fly (s : State) (n : Ch) (f : Sched → Sched) : (s.modSched n f).fly = s.fly := rfl
@[simp] theorem State.modSched_gath (s : State) (n : Ch) (f : Sched → Sched) : (s.modSched n f).gath = s.gath := rfl
@[simp] theorem State.modSched_host (s : State) (n : Ch) (f : Sched → Sched) : (s.modSched n f).host = s.host := rfl
@[simp] theorem State.modSched_ket (s : State) (n : Ch) (f : Sched → Sched) : (s.modSched n f).ket = s.ket := rfl
@[simp] theorem State.modSched_get (s : State) (n : Ch) (f : Sched → Sched) (g : Fld) : (s.modSched n f).get g = s.get g := rfl
@[simp] theorem State.modSched_flag (s : State) (n : Ch) (f : Sched → Sched) (g : Fld) : (s.modSched n f).flag g = s.flag g := rfl
@[simp] theorem State.modSched_bit (s : State) (n : Ch) (f : Sched → Sched) (g : Fld) (j : Nat) : (s.modSched n f).bit g j = s.bit g j := rfl
@[simp] theorem State.modSched_fresh (s : State) (n : Ch) (f : Sched → Sched) : (s.modSched n f).fresh = s.fresh := rfl
@[simp] theorem State.modSched_cmd (s : State) (n : Ch) (f : Sched → Sched) (j : Nat) : (s.modSched n f).cmd j = s.cmd j := rfl
@[simp] theorem State.modSched_sq (s : State) (n : Ch) (f : Sched → Sched) (d : Ctl) (j : Nat) : (s.modSched n f).sq d j = s.sq d j := rfl
@[simp] theorem State.modSched_cq (s : State) (n : Ch) (f : Sched → Sched) (d : Ctl) (j : Nat) : (s.modSched n f).cq d j = s.cq d j := rfl
@[simp] theorem State.modSched_ns (s : State) (n : Ch) (f : Sched → Sched) (j : Nat) : (s.modSched n f).ns j = s.ns j := rfl
@[simp] theorem State.modSched_ctlr (s : State) (n : Ch) (f : Sched → Sched) (d : Ctl) : (s.modSched n f).ctlr d = s.ctlr d := rfl
@[simp] theorem State.modSched_layout (s : State) (n : Ch) (f : Sched → Sched) (m : Fin 4) : (s.modSched n f).layout m = s.layout m := rfl
@[simp] theorem State.modSched_pool (s : State) (n : Ch) (f : Sched → Sched) (j : PoolId) : (s.modSched n f).pool j = s.pool j := rfl

/-! ### modHinge -/

@[simp] theorem State.modHinge_pending (s : State) (n : Ch) (f : Hinge → Hinge) : (s.modHinge n f).pending = s.pending := rfl
@[simp] theorem State.modHinge_regs (s : State) (n : Ch) (f : Hinge → Hinge) : (s.modHinge n f).regs = s.regs := rfl
@[simp] theorem State.modHinge_force (s : State) (n : Ch) (f : Hinge → Hinge) : (s.modHinge n f).force = s.force := rfl
@[simp] theorem State.modHinge_freeCtr (s : State) (n : Ch) (f : Hinge → Hinge) : (s.modHinge n f).freeCtr = s.freeCtr := rfl
@[simp] theorem State.modHinge_small (s : State) (n : Ch) (f : Hinge → Hinge) : (s.modHinge n f).small = s.small := rfl
@[simp] theorem State.modHinge_store (s : State) (n : Ch) (f : Hinge → Hinge) : (s.modHinge n f).store = s.store := rfl
@[simp] theorem State.modHinge_pads (s : State) (n : Ch) (f : Hinge → Hinge) : (s.modHinge n f).pads = s.pads := rfl
@[simp] theorem State.modHinge_banks (s : State) (n : Ch) (f : Hinge → Hinge) : (s.modHinge n f).banks = s.banks := rfl
@[simp] theorem State.modHinge_dram (s : State) (n : Ch) (f : Hinge → Hinge) : (s.modHinge n f).dram = s.dram := rfl
@[simp] theorem State.modHinge_raised (s : State) (n : Ch) (f : Hinge → Hinge) : (s.modHinge n f).raised = s.raised := rfl
@[simp] theorem State.modHinge_colo (s : State) (n : Ch) (f : Hinge → Hinge) : (s.modHinge n f).colo = s.colo := rfl
@[simp] theorem State.modHinge_fuses (s : State) (n : Ch) (f : Hinge → Hinge) : (s.modHinge n f).fuses = s.fuses := rfl
@[simp] theorem State.modHinge_boot (s : State) (n : Ch) (f : Hinge → Hinge) : (s.modHinge n f).boot = s.boot := rfl
@[simp] theorem State.modHinge_rst (s : State) (n : Ch) (f : Hinge → Hinge) : (s.modHinge n f).rst = s.rst := rfl
@[simp] theorem State.modHinge_ream (s : State) (n : Ch) (f : Hinge → Hinge) : (s.modHinge n f).ream = s.ream := rfl
@[simp] theorem State.modHinge_cache (s : State) (n : Ch) (f : Hinge → Hinge) : (s.modHinge n f).cache = s.cache := rfl
@[simp] theorem State.modHinge_mem (s : State) (n : Ch) (f : Hinge → Hinge) : (s.modHinge n f).mem = s.mem := rfl
@[simp] theorem State.modHinge_fly (s : State) (n : Ch) (f : Hinge → Hinge) : (s.modHinge n f).fly = s.fly := rfl
@[simp] theorem State.modHinge_gath (s : State) (n : Ch) (f : Hinge → Hinge) : (s.modHinge n f).gath = s.gath := rfl
@[simp] theorem State.modHinge_host (s : State) (n : Ch) (f : Hinge → Hinge) : (s.modHinge n f).host = s.host := rfl
@[simp] theorem State.modHinge_ket (s : State) (n : Ch) (f : Hinge → Hinge) : (s.modHinge n f).ket = s.ket := rfl
@[simp] theorem State.modHinge_get (s : State) (n : Ch) (f : Hinge → Hinge) (g : Fld) : (s.modHinge n f).get g = s.get g := rfl
@[simp] theorem State.modHinge_flag (s : State) (n : Ch) (f : Hinge → Hinge) (g : Fld) : (s.modHinge n f).flag g = s.flag g := rfl
@[simp] theorem State.modHinge_bit (s : State) (n : Ch) (f : Hinge → Hinge) (g : Fld) (j : Nat) : (s.modHinge n f).bit g j = s.bit g j := rfl
@[simp] theorem State.modHinge_fresh (s : State) (n : Ch) (f : Hinge → Hinge) : (s.modHinge n f).fresh = s.fresh := rfl
@[simp] theorem State.modHinge_cmd (s : State) (n : Ch) (f : Hinge → Hinge) (j : Nat) : (s.modHinge n f).cmd j = s.cmd j := rfl
@[simp] theorem State.modHinge_sq (s : State) (n : Ch) (f : Hinge → Hinge) (d : Ctl) (j : Nat) : (s.modHinge n f).sq d j = s.sq d j := rfl
@[simp] theorem State.modHinge_cq (s : State) (n : Ch) (f : Hinge → Hinge) (d : Ctl) (j : Nat) : (s.modHinge n f).cq d j = s.cq d j := rfl
@[simp] theorem State.modHinge_ns (s : State) (n : Ch) (f : Hinge → Hinge) (j : Nat) : (s.modHinge n f).ns j = s.ns j := rfl
@[simp] theorem State.modHinge_ctlr (s : State) (n : Ch) (f : Hinge → Hinge) (d : Ctl) : (s.modHinge n f).ctlr d = s.ctlr d := rfl
@[simp] theorem State.modHinge_layout (s : State) (n : Ch) (f : Hinge → Hinge) (m : Fin 4) : (s.modHinge n f).layout m = s.layout m := rfl
@[simp] theorem State.modHinge_pool (s : State) (n : Ch) (f : Hinge → Hinge) (j : PoolId) : (s.modHinge n f).pool j = s.pool j := rfl

/-! ### modMot -/

@[simp] theorem State.modMot_pending (s : State) (n : Ch) (f : Motor → Motor) : (s.modMot n f).pending = s.pending := rfl
@[simp] theorem State.modMot_regs (s : State) (n : Ch) (f : Motor → Motor) : (s.modMot n f).regs = s.regs := rfl
@[simp] theorem State.modMot_force (s : State) (n : Ch) (f : Motor → Motor) : (s.modMot n f).force = s.force := rfl
@[simp] theorem State.modMot_freeCtr (s : State) (n : Ch) (f : Motor → Motor) : (s.modMot n f).freeCtr = s.freeCtr := rfl
@[simp] theorem State.modMot_small (s : State) (n : Ch) (f : Motor → Motor) : (s.modMot n f).small = s.small := rfl
@[simp] theorem State.modMot_store (s : State) (n : Ch) (f : Motor → Motor) : (s.modMot n f).store = s.store := rfl
@[simp] theorem State.modMot_pads (s : State) (n : Ch) (f : Motor → Motor) : (s.modMot n f).pads = s.pads := rfl
@[simp] theorem State.modMot_banks (s : State) (n : Ch) (f : Motor → Motor) : (s.modMot n f).banks = s.banks := rfl
@[simp] theorem State.modMot_dram (s : State) (n : Ch) (f : Motor → Motor) : (s.modMot n f).dram = s.dram := rfl
@[simp] theorem State.modMot_raised (s : State) (n : Ch) (f : Motor → Motor) : (s.modMot n f).raised = s.raised := rfl
@[simp] theorem State.modMot_colo (s : State) (n : Ch) (f : Motor → Motor) : (s.modMot n f).colo = s.colo := rfl
@[simp] theorem State.modMot_fuses (s : State) (n : Ch) (f : Motor → Motor) : (s.modMot n f).fuses = s.fuses := rfl
@[simp] theorem State.modMot_boot (s : State) (n : Ch) (f : Motor → Motor) : (s.modMot n f).boot = s.boot := rfl
@[simp] theorem State.modMot_rst (s : State) (n : Ch) (f : Motor → Motor) : (s.modMot n f).rst = s.rst := rfl
@[simp] theorem State.modMot_ream (s : State) (n : Ch) (f : Motor → Motor) : (s.modMot n f).ream = s.ream := rfl
@[simp] theorem State.modMot_cache (s : State) (n : Ch) (f : Motor → Motor) : (s.modMot n f).cache = s.cache := rfl
@[simp] theorem State.modMot_mem (s : State) (n : Ch) (f : Motor → Motor) : (s.modMot n f).mem = s.mem := rfl
@[simp] theorem State.modMot_fly (s : State) (n : Ch) (f : Motor → Motor) : (s.modMot n f).fly = s.fly := rfl
@[simp] theorem State.modMot_gath (s : State) (n : Ch) (f : Motor → Motor) : (s.modMot n f).gath = s.gath := rfl
@[simp] theorem State.modMot_host (s : State) (n : Ch) (f : Motor → Motor) : (s.modMot n f).host = s.host := rfl
@[simp] theorem State.modMot_ket (s : State) (n : Ch) (f : Motor → Motor) : (s.modMot n f).ket = s.ket := rfl
@[simp] theorem State.modMot_get (s : State) (n : Ch) (f : Motor → Motor) (g : Fld) : (s.modMot n f).get g = s.get g := rfl
@[simp] theorem State.modMot_flag (s : State) (n : Ch) (f : Motor → Motor) (g : Fld) : (s.modMot n f).flag g = s.flag g := rfl
@[simp] theorem State.modMot_bit (s : State) (n : Ch) (f : Motor → Motor) (g : Fld) (j : Nat) : (s.modMot n f).bit g j = s.bit g j := rfl
@[simp] theorem State.modMot_fresh (s : State) (n : Ch) (f : Motor → Motor) : (s.modMot n f).fresh = s.fresh := rfl
@[simp] theorem State.modMot_cmd (s : State) (n : Ch) (f : Motor → Motor) (j : Nat) : (s.modMot n f).cmd j = s.cmd j := rfl
@[simp] theorem State.modMot_sq (s : State) (n : Ch) (f : Motor → Motor) (d : Ctl) (j : Nat) : (s.modMot n f).sq d j = s.sq d j := rfl
@[simp] theorem State.modMot_cq (s : State) (n : Ch) (f : Motor → Motor) (d : Ctl) (j : Nat) : (s.modMot n f).cq d j = s.cq d j := rfl
@[simp] theorem State.modMot_ns (s : State) (n : Ch) (f : Motor → Motor) (j : Nat) : (s.modMot n f).ns j = s.ns j := rfl
@[simp] theorem State.modMot_ctlr (s : State) (n : Ch) (f : Motor → Motor) (d : Ctl) : (s.modMot n f).ctlr d = s.ctlr d := rfl
@[simp] theorem State.modMot_layout (s : State) (n : Ch) (f : Motor → Motor) (m : Fin 4) : (s.modMot n f).layout m = s.layout m := rfl
@[simp] theorem State.modMot_pool (s : State) (n : Ch) (f : Motor → Motor) (j : PoolId) : (s.modMot n f).pool j = s.pool j := rfl

/-! ### modServo -/

@[simp] theorem State.modServo_pending (s : State) (n : Ch) (f : Servo → Servo) : (s.modServo n f).pending = s.pending := rfl
@[simp] theorem State.modServo_regs (s : State) (n : Ch) (f : Servo → Servo) : (s.modServo n f).regs = s.regs := rfl
@[simp] theorem State.modServo_force (s : State) (n : Ch) (f : Servo → Servo) : (s.modServo n f).force = s.force := rfl
@[simp] theorem State.modServo_freeCtr (s : State) (n : Ch) (f : Servo → Servo) : (s.modServo n f).freeCtr = s.freeCtr := rfl
@[simp] theorem State.modServo_small (s : State) (n : Ch) (f : Servo → Servo) : (s.modServo n f).small = s.small := rfl
@[simp] theorem State.modServo_store (s : State) (n : Ch) (f : Servo → Servo) : (s.modServo n f).store = s.store := rfl
@[simp] theorem State.modServo_pads (s : State) (n : Ch) (f : Servo → Servo) : (s.modServo n f).pads = s.pads := rfl
@[simp] theorem State.modServo_banks (s : State) (n : Ch) (f : Servo → Servo) : (s.modServo n f).banks = s.banks := rfl
@[simp] theorem State.modServo_dram (s : State) (n : Ch) (f : Servo → Servo) : (s.modServo n f).dram = s.dram := rfl
@[simp] theorem State.modServo_raised (s : State) (n : Ch) (f : Servo → Servo) : (s.modServo n f).raised = s.raised := rfl
@[simp] theorem State.modServo_colo (s : State) (n : Ch) (f : Servo → Servo) : (s.modServo n f).colo = s.colo := rfl
@[simp] theorem State.modServo_fuses (s : State) (n : Ch) (f : Servo → Servo) : (s.modServo n f).fuses = s.fuses := rfl
@[simp] theorem State.modServo_boot (s : State) (n : Ch) (f : Servo → Servo) : (s.modServo n f).boot = s.boot := rfl
@[simp] theorem State.modServo_rst (s : State) (n : Ch) (f : Servo → Servo) : (s.modServo n f).rst = s.rst := rfl
@[simp] theorem State.modServo_ream (s : State) (n : Ch) (f : Servo → Servo) : (s.modServo n f).ream = s.ream := rfl
@[simp] theorem State.modServo_cache (s : State) (n : Ch) (f : Servo → Servo) : (s.modServo n f).cache = s.cache := rfl
@[simp] theorem State.modServo_mem (s : State) (n : Ch) (f : Servo → Servo) : (s.modServo n f).mem = s.mem := rfl
@[simp] theorem State.modServo_fly (s : State) (n : Ch) (f : Servo → Servo) : (s.modServo n f).fly = s.fly := rfl
@[simp] theorem State.modServo_gath (s : State) (n : Ch) (f : Servo → Servo) : (s.modServo n f).gath = s.gath := rfl
@[simp] theorem State.modServo_host (s : State) (n : Ch) (f : Servo → Servo) : (s.modServo n f).host = s.host := rfl
@[simp] theorem State.modServo_ket (s : State) (n : Ch) (f : Servo → Servo) : (s.modServo n f).ket = s.ket := rfl
@[simp] theorem State.modServo_get (s : State) (n : Ch) (f : Servo → Servo) (g : Fld) : (s.modServo n f).get g = s.get g := rfl
@[simp] theorem State.modServo_flag (s : State) (n : Ch) (f : Servo → Servo) (g : Fld) : (s.modServo n f).flag g = s.flag g := rfl
@[simp] theorem State.modServo_bit (s : State) (n : Ch) (f : Servo → Servo) (g : Fld) (j : Nat) : (s.modServo n f).bit g j = s.bit g j := rfl
@[simp] theorem State.modServo_fresh (s : State) (n : Ch) (f : Servo → Servo) : (s.modServo n f).fresh = s.fresh := rfl
@[simp] theorem State.modServo_cmd (s : State) (n : Ch) (f : Servo → Servo) (j : Nat) : (s.modServo n f).cmd j = s.cmd j := rfl
@[simp] theorem State.modServo_sq (s : State) (n : Ch) (f : Servo → Servo) (d : Ctl) (j : Nat) : (s.modServo n f).sq d j = s.sq d j := rfl
@[simp] theorem State.modServo_cq (s : State) (n : Ch) (f : Servo → Servo) (d : Ctl) (j : Nat) : (s.modServo n f).cq d j = s.cq d j := rfl
@[simp] theorem State.modServo_ns (s : State) (n : Ch) (f : Servo → Servo) (j : Nat) : (s.modServo n f).ns j = s.ns j := rfl
@[simp] theorem State.modServo_ctlr (s : State) (n : Ch) (f : Servo → Servo) (d : Ctl) : (s.modServo n f).ctlr d = s.ctlr d := rfl
@[simp] theorem State.modServo_layout (s : State) (n : Ch) (f : Servo → Servo) (m : Fin 4) : (s.modServo n f).layout m = s.layout m := rfl
@[simp] theorem State.modServo_pool (s : State) (n : Ch) (f : Servo → Servo) (j : PoolId) : (s.modServo n f).pool j = s.pool j := rfl

/-! ### modHost -/

@[simp] theorem State.modHost_pending (s : State) (f : HostSt → HostSt) : (s.modHost f).pending = s.pending := rfl
@[simp] theorem State.modHost_regs (s : State) (f : HostSt → HostSt) : (s.modHost f).regs = s.regs := rfl
@[simp] theorem State.modHost_force (s : State) (f : HostSt → HostSt) : (s.modHost f).force = s.force := rfl
@[simp] theorem State.modHost_freeCtr (s : State) (f : HostSt → HostSt) : (s.modHost f).freeCtr = s.freeCtr := rfl
@[simp] theorem State.modHost_small (s : State) (f : HostSt → HostSt) : (s.modHost f).small = s.small := rfl
@[simp] theorem State.modHost_chans (s : State) (f : HostSt → HostSt) : (s.modHost f).chans = s.chans := rfl
@[simp] theorem State.modHost_store (s : State) (f : HostSt → HostSt) : (s.modHost f).store = s.store := rfl
@[simp] theorem State.modHost_pads (s : State) (f : HostSt → HostSt) : (s.modHost f).pads = s.pads := rfl
@[simp] theorem State.modHost_banks (s : State) (f : HostSt → HostSt) : (s.modHost f).banks = s.banks := rfl
@[simp] theorem State.modHost_dram (s : State) (f : HostSt → HostSt) : (s.modHost f).dram = s.dram := rfl
@[simp] theorem State.modHost_raised (s : State) (f : HostSt → HostSt) : (s.modHost f).raised = s.raised := rfl
@[simp] theorem State.modHost_colo (s : State) (f : HostSt → HostSt) : (s.modHost f).colo = s.colo := rfl
@[simp] theorem State.modHost_fuses (s : State) (f : HostSt → HostSt) : (s.modHost f).fuses = s.fuses := rfl
@[simp] theorem State.modHost_boot (s : State) (f : HostSt → HostSt) : (s.modHost f).boot = s.boot := rfl
@[simp] theorem State.modHost_rst (s : State) (f : HostSt → HostSt) : (s.modHost f).rst = s.rst := rfl
@[simp] theorem State.modHost_ream (s : State) (f : HostSt → HostSt) : (s.modHost f).ream = s.ream := rfl
@[simp] theorem State.modHost_cache (s : State) (f : HostSt → HostSt) : (s.modHost f).cache = s.cache := rfl
@[simp] theorem State.modHost_mem (s : State) (f : HostSt → HostSt) : (s.modHost f).mem = s.mem := rfl
@[simp] theorem State.modHost_fly (s : State) (f : HostSt → HostSt) : (s.modHost f).fly = s.fly := rfl
@[simp] theorem State.modHost_gath (s : State) (f : HostSt → HostSt) : (s.modHost f).gath = s.gath := rfl
@[simp] theorem State.modHost_ket (s : State) (f : HostSt → HostSt) : (s.modHost f).ket = s.ket := rfl
@[simp] theorem State.modHost_get (s : State) (f : HostSt → HostSt) (g : Fld) : (s.modHost f).get g = s.get g := rfl
@[simp] theorem State.modHost_flag (s : State) (f : HostSt → HostSt) (g : Fld) : (s.modHost f).flag g = s.flag g := rfl
@[simp] theorem State.modHost_bit (s : State) (f : HostSt → HostSt) (g : Fld) (j : Nat) : (s.modHost f).bit g j = s.bit g j := rfl
@[simp] theorem State.modHost_fresh (s : State) (f : HostSt → HostSt) : (s.modHost f).fresh = s.fresh := rfl
@[simp] theorem State.modHost_chan (s : State) (f : HostSt → HostSt) (m : Ch) : (s.modHost f).chan m = s.chan m := rfl
@[simp] theorem State.modHost_stit (s : State) (f : HostSt → HostSt) (m : Ch) (q : Pa) : (s.modHost f).stit m q = s.stit m q := rfl
@[simp] theorem State.modHost_pathSt (s : State) (f : HostSt → HostSt) (m : Ch) (q : Pa) : (s.modHost f).pathSt m q = s.pathSt m q := rfl
@[simp] theorem State.modHost_mot (s : State) (f : HostSt → HostSt) (m : Ch) : (s.modHost f).mot m = s.mot m := rfl
@[simp] theorem State.modHost_servo (s : State) (f : HostSt → HostSt) (m : Ch) : (s.modHost f).servo m = s.servo m := rfl
@[simp] theorem State.modHost_hinge (s : State) (f : HostSt → HostSt) (m : Ch) : (s.modHost f).hinge m = s.hinge m := rfl
@[simp] theorem State.modHost_layout (s : State) (f : HostSt → HostSt) (m : Fin 4) : (s.modHost f).layout m = s.layout m := rfl
@[simp] theorem State.modHost_pool (s : State) (f : HostSt → HostSt) (j : PoolId) : (s.modHost f).pool j = s.pool j := rfl

/-! ### modCmd -/

@[simp] theorem State.modCmd_pending (s : State) (k : Nat) (f : Cmd → Cmd) : (s.modCmd k f).pending = s.pending := rfl
@[simp] theorem State.modCmd_regs (s : State) (k : Nat) (f : Cmd → Cmd) : (s.modCmd k f).regs = s.regs := rfl
@[simp] theorem State.modCmd_force (s : State) (k : Nat) (f : Cmd → Cmd) : (s.modCmd k f).force = s.force := rfl
@[simp] theorem State.modCmd_freeCtr (s : State) (k : Nat) (f : Cmd → Cmd) : (s.modCmd k f).freeCtr = s.freeCtr := rfl
@[simp] theorem State.modCmd_small (s : State) (k : Nat) (f : Cmd → Cmd) : (s.modCmd k f).small = s.small := rfl
@[simp] theorem State.modCmd_chans (s : State) (k : Nat) (f : Cmd → Cmd) : (s.modCmd k f).chans = s.chans := rfl
@[simp] theorem State.modCmd_store (s : State) (k : Nat) (f : Cmd → Cmd) : (s.modCmd k f).store = s.store := rfl
@[simp] theorem State.modCmd_pads (s : State) (k : Nat) (f : Cmd → Cmd) : (s.modCmd k f).pads = s.pads := rfl
@[simp] theorem State.modCmd_banks (s : State) (k : Nat) (f : Cmd → Cmd) : (s.modCmd k f).banks = s.banks := rfl
@[simp] theorem State.modCmd_dram (s : State) (k : Nat) (f : Cmd → Cmd) : (s.modCmd k f).dram = s.dram := rfl
@[simp] theorem State.modCmd_raised (s : State) (k : Nat) (f : Cmd → Cmd) : (s.modCmd k f).raised = s.raised := rfl
@[simp] theorem State.modCmd_colo (s : State) (k : Nat) (f : Cmd → Cmd) : (s.modCmd k f).colo = s.colo := rfl
@[simp] theorem State.modCmd_fuses (s : State) (k : Nat) (f : Cmd → Cmd) : (s.modCmd k f).fuses = s.fuses := rfl
@[simp] theorem State.modCmd_boot (s : State) (k : Nat) (f : Cmd → Cmd) : (s.modCmd k f).boot = s.boot := rfl
@[simp] theorem State.modCmd_rst (s : State) (k : Nat) (f : Cmd → Cmd) : (s.modCmd k f).rst = s.rst := rfl
@[simp] theorem State.modCmd_ream (s : State) (k : Nat) (f : Cmd → Cmd) : (s.modCmd k f).ream = s.ream := rfl
@[simp] theorem State.modCmd_cache (s : State) (k : Nat) (f : Cmd → Cmd) : (s.modCmd k f).cache = s.cache := rfl
@[simp] theorem State.modCmd_mem (s : State) (k : Nat) (f : Cmd → Cmd) : (s.modCmd k f).mem = s.mem := rfl
@[simp] theorem State.modCmd_fly (s : State) (k : Nat) (f : Cmd → Cmd) : (s.modCmd k f).fly = s.fly := rfl
@[simp] theorem State.modCmd_gath (s : State) (k : Nat) (f : Cmd → Cmd) : (s.modCmd k f).gath = s.gath := rfl
@[simp] theorem State.modCmd_ket (s : State) (k : Nat) (f : Cmd → Cmd) : (s.modCmd k f).ket = s.ket := rfl
@[simp] theorem State.modCmd_get (s : State) (k : Nat) (f : Cmd → Cmd) (g : Fld) : (s.modCmd k f).get g = s.get g := rfl
@[simp] theorem State.modCmd_flag (s : State) (k : Nat) (f : Cmd → Cmd) (g : Fld) : (s.modCmd k f).flag g = s.flag g := rfl
@[simp] theorem State.modCmd_bit (s : State) (k : Nat) (f : Cmd → Cmd) (g : Fld) (j : Nat) : (s.modCmd k f).bit g j = s.bit g j := rfl
@[simp] theorem State.modCmd_fresh (s : State) (k : Nat) (f : Cmd → Cmd) : (s.modCmd k f).fresh = s.fresh := rfl
@[simp] theorem State.modCmd_chan (s : State) (k : Nat) (f : Cmd → Cmd) (m : Ch) : (s.modCmd k f).chan m = s.chan m := rfl
@[simp] theorem State.modCmd_stit (s : State) (k : Nat) (f : Cmd → Cmd) (m : Ch) (q : Pa) : (s.modCmd k f).stit m q = s.stit m q := rfl
@[simp] theorem State.modCmd_pathSt (s : State) (k : Nat) (f : Cmd → Cmd) (m : Ch) (q : Pa) : (s.modCmd k f).pathSt m q = s.pathSt m q := rfl
@[simp] theorem State.modCmd_mot (s : State) (k : Nat) (f : Cmd → Cmd) (m : Ch) : (s.modCmd k f).mot m = s.mot m := rfl
@[simp] theorem State.modCmd_servo (s : State) (k : Nat) (f : Cmd → Cmd) (m : Ch) : (s.modCmd k f).servo m = s.servo m := rfl
@[simp] theorem State.modCmd_hinge (s : State) (k : Nat) (f : Cmd → Cmd) (m : Ch) : (s.modCmd k f).hinge m = s.hinge m := rfl
@[simp] theorem State.modCmd_layout (s : State) (k : Nat) (f : Cmd → Cmd) (m : Fin 4) : (s.modCmd k f).layout m = s.layout m := rfl
@[simp] theorem State.modCmd_pool (s : State) (k : Nat) (f : Cmd → Cmd) (j : PoolId) : (s.modCmd k f).pool j = s.pool j := rfl

/-! ### modNs -/

@[simp] theorem State.modNs_pending (s : State) (k : Nat) (f : Ns → Ns) : (s.modNs k f).pending = s.pending := rfl
@[simp] theorem State.modNs_regs (s : State) (k : Nat) (f : Ns → Ns) : (s.modNs k f).regs = s.regs := rfl
@[simp] theorem State.modNs_force (s : State) (k : Nat) (f : Ns → Ns) : (s.modNs k f).force = s.force := rfl
@[simp] theorem State.modNs_freeCtr (s : State) (k : Nat) (f : Ns → Ns) : (s.modNs k f).freeCtr = s.freeCtr := rfl
@[simp] theorem State.modNs_small (s : State) (k : Nat) (f : Ns → Ns) : (s.modNs k f).small = s.small := rfl
@[simp] theorem State.modNs_chans (s : State) (k : Nat) (f : Ns → Ns) : (s.modNs k f).chans = s.chans := rfl
@[simp] theorem State.modNs_store (s : State) (k : Nat) (f : Ns → Ns) : (s.modNs k f).store = s.store := rfl
@[simp] theorem State.modNs_pads (s : State) (k : Nat) (f : Ns → Ns) : (s.modNs k f).pads = s.pads := rfl
@[simp] theorem State.modNs_banks (s : State) (k : Nat) (f : Ns → Ns) : (s.modNs k f).banks = s.banks := rfl
@[simp] theorem State.modNs_dram (s : State) (k : Nat) (f : Ns → Ns) : (s.modNs k f).dram = s.dram := rfl
@[simp] theorem State.modNs_raised (s : State) (k : Nat) (f : Ns → Ns) : (s.modNs k f).raised = s.raised := rfl
@[simp] theorem State.modNs_colo (s : State) (k : Nat) (f : Ns → Ns) : (s.modNs k f).colo = s.colo := rfl
@[simp] theorem State.modNs_fuses (s : State) (k : Nat) (f : Ns → Ns) : (s.modNs k f).fuses = s.fuses := rfl
@[simp] theorem State.modNs_boot (s : State) (k : Nat) (f : Ns → Ns) : (s.modNs k f).boot = s.boot := rfl
@[simp] theorem State.modNs_rst (s : State) (k : Nat) (f : Ns → Ns) : (s.modNs k f).rst = s.rst := rfl
@[simp] theorem State.modNs_ream (s : State) (k : Nat) (f : Ns → Ns) : (s.modNs k f).ream = s.ream := rfl
@[simp] theorem State.modNs_cache (s : State) (k : Nat) (f : Ns → Ns) : (s.modNs k f).cache = s.cache := rfl
@[simp] theorem State.modNs_mem (s : State) (k : Nat) (f : Ns → Ns) : (s.modNs k f).mem = s.mem := rfl
@[simp] theorem State.modNs_fly (s : State) (k : Nat) (f : Ns → Ns) : (s.modNs k f).fly = s.fly := rfl
@[simp] theorem State.modNs_gath (s : State) (k : Nat) (f : Ns → Ns) : (s.modNs k f).gath = s.gath := rfl
@[simp] theorem State.modNs_ket (s : State) (k : Nat) (f : Ns → Ns) : (s.modNs k f).ket = s.ket := rfl
@[simp] theorem State.modNs_get (s : State) (k : Nat) (f : Ns → Ns) (g : Fld) : (s.modNs k f).get g = s.get g := rfl
@[simp] theorem State.modNs_flag (s : State) (k : Nat) (f : Ns → Ns) (g : Fld) : (s.modNs k f).flag g = s.flag g := rfl
@[simp] theorem State.modNs_bit (s : State) (k : Nat) (f : Ns → Ns) (g : Fld) (j : Nat) : (s.modNs k f).bit g j = s.bit g j := rfl
@[simp] theorem State.modNs_fresh (s : State) (k : Nat) (f : Ns → Ns) : (s.modNs k f).fresh = s.fresh := rfl
@[simp] theorem State.modNs_chan (s : State) (k : Nat) (f : Ns → Ns) (m : Ch) : (s.modNs k f).chan m = s.chan m := rfl
@[simp] theorem State.modNs_stit (s : State) (k : Nat) (f : Ns → Ns) (m : Ch) (q : Pa) : (s.modNs k f).stit m q = s.stit m q := rfl
@[simp] theorem State.modNs_pathSt (s : State) (k : Nat) (f : Ns → Ns) (m : Ch) (q : Pa) : (s.modNs k f).pathSt m q = s.pathSt m q := rfl
@[simp] theorem State.modNs_mot (s : State) (k : Nat) (f : Ns → Ns) (m : Ch) : (s.modNs k f).mot m = s.mot m := rfl
@[simp] theorem State.modNs_servo (s : State) (k : Nat) (f : Ns → Ns) (m : Ch) : (s.modNs k f).servo m = s.servo m := rfl
@[simp] theorem State.modNs_hinge (s : State) (k : Nat) (f : Ns → Ns) (m : Ch) : (s.modNs k f).hinge m = s.hinge m := rfl
@[simp] theorem State.modNs_layout (s : State) (k : Nat) (f : Ns → Ns) (m : Fin 4) : (s.modNs k f).layout m = s.layout m := rfl
@[simp] theorem State.modNs_pool (s : State) (k : Nat) (f : Ns → Ns) (j : PoolId) : (s.modNs k f).pool j = s.pool j := rfl

/-! ### modCtlr -/

@[simp] theorem State.modCtlr_pending (s : State) (c : Ctl) (f : Ctlr → Ctlr) : (s.modCtlr c f).pending = s.pending := rfl
@[simp] theorem State.modCtlr_regs (s : State) (c : Ctl) (f : Ctlr → Ctlr) : (s.modCtlr c f).regs = s.regs := rfl
@[simp] theorem State.modCtlr_force (s : State) (c : Ctl) (f : Ctlr → Ctlr) : (s.modCtlr c f).force = s.force := rfl
@[simp] theorem State.modCtlr_freeCtr (s : State) (c : Ctl) (f : Ctlr → Ctlr) : (s.modCtlr c f).freeCtr = s.freeCtr := rfl
@[simp] theorem State.modCtlr_small (s : State) (c : Ctl) (f : Ctlr → Ctlr) : (s.modCtlr c f).small = s.small := rfl
@[simp] theorem State.modCtlr_chans (s : State) (c : Ctl) (f : Ctlr → Ctlr) : (s.modCtlr c f).chans = s.chans := rfl
@[simp] theorem State.modCtlr_store (s : State) (c : Ctl) (f : Ctlr → Ctlr) : (s.modCtlr c f).store = s.store := rfl
@[simp] theorem State.modCtlr_pads (s : State) (c : Ctl) (f : Ctlr → Ctlr) : (s.modCtlr c f).pads = s.pads := rfl
@[simp] theorem State.modCtlr_banks (s : State) (c : Ctl) (f : Ctlr → Ctlr) : (s.modCtlr c f).banks = s.banks := rfl
@[simp] theorem State.modCtlr_dram (s : State) (c : Ctl) (f : Ctlr → Ctlr) : (s.modCtlr c f).dram = s.dram := rfl
@[simp] theorem State.modCtlr_raised (s : State) (c : Ctl) (f : Ctlr → Ctlr) : (s.modCtlr c f).raised = s.raised := rfl
@[simp] theorem State.modCtlr_colo (s : State) (c : Ctl) (f : Ctlr → Ctlr) : (s.modCtlr c f).colo = s.colo := rfl
@[simp] theorem State.modCtlr_fuses (s : State) (c : Ctl) (f : Ctlr → Ctlr) : (s.modCtlr c f).fuses = s.fuses := rfl
@[simp] theorem State.modCtlr_boot (s : State) (c : Ctl) (f : Ctlr → Ctlr) : (s.modCtlr c f).boot = s.boot := rfl
@[simp] theorem State.modCtlr_rst (s : State) (c : Ctl) (f : Ctlr → Ctlr) : (s.modCtlr c f).rst = s.rst := rfl
@[simp] theorem State.modCtlr_ream (s : State) (c : Ctl) (f : Ctlr → Ctlr) : (s.modCtlr c f).ream = s.ream := rfl
@[simp] theorem State.modCtlr_cache (s : State) (c : Ctl) (f : Ctlr → Ctlr) : (s.modCtlr c f).cache = s.cache := rfl
@[simp] theorem State.modCtlr_mem (s : State) (c : Ctl) (f : Ctlr → Ctlr) : (s.modCtlr c f).mem = s.mem := rfl
@[simp] theorem State.modCtlr_fly (s : State) (c : Ctl) (f : Ctlr → Ctlr) : (s.modCtlr c f).fly = s.fly := rfl
@[simp] theorem State.modCtlr_gath (s : State) (c : Ctl) (f : Ctlr → Ctlr) : (s.modCtlr c f).gath = s.gath := rfl
@[simp] theorem State.modCtlr_ket (s : State) (c : Ctl) (f : Ctlr → Ctlr) : (s.modCtlr c f).ket = s.ket := rfl
@[simp] theorem State.modCtlr_get (s : State) (c : Ctl) (f : Ctlr → Ctlr) (g : Fld) : (s.modCtlr c f).get g = s.get g := rfl
@[simp] theorem State.modCtlr_flag (s : State) (c : Ctl) (f : Ctlr → Ctlr) (g : Fld) : (s.modCtlr c f).flag g = s.flag g := rfl
@[simp] theorem State.modCtlr_bit (s : State) (c : Ctl) (f : Ctlr → Ctlr) (g : Fld) (j : Nat) : (s.modCtlr c f).bit g j = s.bit g j := rfl
@[simp] theorem State.modCtlr_fresh (s : State) (c : Ctl) (f : Ctlr → Ctlr) : (s.modCtlr c f).fresh = s.fresh := rfl
@[simp] theorem State.modCtlr_chan (s : State) (c : Ctl) (f : Ctlr → Ctlr) (m : Ch) : (s.modCtlr c f).chan m = s.chan m := rfl
@[simp] theorem State.modCtlr_stit (s : State) (c : Ctl) (f : Ctlr → Ctlr) (m : Ch) (q : Pa) : (s.modCtlr c f).stit m q = s.stit m q := rfl
@[simp] theorem State.modCtlr_pathSt (s : State) (c : Ctl) (f : Ctlr → Ctlr) (m : Ch) (q : Pa) : (s.modCtlr c f).pathSt m q = s.pathSt m q := rfl
@[simp] theorem State.modCtlr_mot (s : State) (c : Ctl) (f : Ctlr → Ctlr) (m : Ch) : (s.modCtlr c f).mot m = s.mot m := rfl
@[simp] theorem State.modCtlr_servo (s : State) (c : Ctl) (f : Ctlr → Ctlr) (m : Ch) : (s.modCtlr c f).servo m = s.servo m := rfl
@[simp] theorem State.modCtlr_hinge (s : State) (c : Ctl) (f : Ctlr → Ctlr) (m : Ch) : (s.modCtlr c f).hinge m = s.hinge m := rfl
@[simp] theorem State.modCtlr_layout (s : State) (c : Ctl) (f : Ctlr → Ctlr) (m : Fin 4) : (s.modCtlr c f).layout m = s.layout m := rfl
@[simp] theorem State.modCtlr_pool (s : State) (c : Ctl) (f : Ctlr → Ctlr) (j : PoolId) : (s.modCtlr c f).pool j = s.pool j := rfl

/-! ### answer -/

@[simp] theorem State.answer_pending (s : State) (l : List Nat) : (s.answer l).pending = s.pending := rfl
@[simp] theorem State.answer_regs (s : State) (l : List Nat) : (s.answer l).regs = s.regs := rfl
@[simp] theorem State.answer_force (s : State) (l : List Nat) : (s.answer l).force = s.force := rfl
@[simp] theorem State.answer_freeCtr (s : State) (l : List Nat) : (s.answer l).freeCtr = s.freeCtr := rfl
@[simp] theorem State.answer_small (s : State) (l : List Nat) : (s.answer l).small = s.small := rfl
@[simp] theorem State.answer_chans (s : State) (l : List Nat) : (s.answer l).chans = s.chans := rfl
@[simp] theorem State.answer_store (s : State) (l : List Nat) : (s.answer l).store = s.store := rfl
@[simp] theorem State.answer_pads (s : State) (l : List Nat) : (s.answer l).pads = s.pads := rfl
@[simp] theorem State.answer_banks (s : State) (l : List Nat) : (s.answer l).banks = s.banks := rfl
@[simp] theorem State.answer_dram (s : State) (l : List Nat) : (s.answer l).dram = s.dram := rfl
@[simp] theorem State.answer_raised (s : State) (l : List Nat) : (s.answer l).raised = s.raised := rfl
@[simp] theorem State.answer_colo (s : State) (l : List Nat) : (s.answer l).colo = s.colo := rfl
@[simp] theorem State.answer_fuses (s : State) (l : List Nat) : (s.answer l).fuses = s.fuses := rfl
@[simp] theorem State.answer_boot (s : State) (l : List Nat) : (s.answer l).boot = s.boot := rfl
@[simp] theorem State.answer_rst (s : State) (l : List Nat) : (s.answer l).rst = s.rst := rfl
@[simp] theorem State.answer_ream (s : State) (l : List Nat) : (s.answer l).ream = s.ream := rfl
@[simp] theorem State.answer_cache (s : State) (l : List Nat) : (s.answer l).cache = s.cache := rfl
@[simp] theorem State.answer_mem (s : State) (l : List Nat) : (s.answer l).mem = s.mem := rfl
@[simp] theorem State.answer_fly (s : State) (l : List Nat) : (s.answer l).fly = s.fly := rfl
@[simp] theorem State.answer_gath (s : State) (l : List Nat) : (s.answer l).gath = s.gath := rfl
@[simp] theorem State.answer_ket (s : State) (l : List Nat) : (s.answer l).ket = s.ket := rfl
@[simp] theorem State.answer_get (s : State) (l : List Nat) (g : Fld) : (s.answer l).get g = s.get g := rfl
@[simp] theorem State.answer_flag (s : State) (l : List Nat) (g : Fld) : (s.answer l).flag g = s.flag g := rfl
@[simp] theorem State.answer_bit (s : State) (l : List Nat) (g : Fld) (j : Nat) : (s.answer l).bit g j = s.bit g j := rfl
@[simp] theorem State.answer_fresh (s : State) (l : List Nat) : (s.answer l).fresh = s.fresh := rfl
@[simp] theorem State.answer_chan (s : State) (l : List Nat) (m : Ch) : (s.answer l).chan m = s.chan m := rfl
@[simp] theorem State.answer_stit (s : State) (l : List Nat) (m : Ch) (q : Pa) : (s.answer l).stit m q = s.stit m q := rfl
@[simp] theorem State.answer_pathSt (s : State) (l : List Nat) (m : Ch) (q : Pa) : (s.answer l).pathSt m q = s.pathSt m q := rfl
@[simp] theorem State.answer_mot (s : State) (l : List Nat) (m : Ch) : (s.answer l).mot m = s.mot m := rfl
@[simp] theorem State.answer_servo (s : State) (l : List Nat) (m : Ch) : (s.answer l).servo m = s.servo m := rfl
@[simp] theorem State.answer_hinge (s : State) (l : List Nat) (m : Ch) : (s.answer l).hinge m = s.hinge m := rfl
@[simp] theorem State.answer_layout (s : State) (l : List Nat) (m : Fin 4) : (s.answer l).layout m = s.layout m := rfl
@[simp] theorem State.answer_pool (s : State) (l : List Nat) (j : PoolId) : (s.answer l).pool j = s.pool j := rfl

/-! ### modFly -/

@[simp] theorem State.modFly_pending (s : State) (f : Fly → Fly) : (s.modFly f).pending = s.pending := rfl
@[simp] theorem State.modFly_regs (s : State) (f : Fly → Fly) : (s.modFly f).regs = s.regs := rfl
@[simp] theorem State.modFly_force (s : State) (f : Fly → Fly) : (s.modFly f).force = s.force := rfl
@[simp] theorem State.modFly_freeCtr (s : State) (f : Fly → Fly) : (s.modFly f).freeCtr = s.freeCtr := rfl
@[simp] theorem State.modFly_small (s : State) (f : Fly → Fly) : (s.modFly f).small = s.small := rfl
@[simp] theorem State.modFly_chans (s : State) (f : Fly → Fly) : (s.modFly f).chans = s.chans := rfl
@[simp] theorem State.modFly_store (s : State) (f : Fly → Fly) : (s.modFly f).store = s.store := rfl
@[simp] theorem State.modFly_pads (s : State) (f : Fly → Fly) : (s.modFly f).pads = s.pads := rfl
@[simp] theorem State.modFly_banks (s : State) (f : Fly → Fly) : (s.modFly f).banks = s.banks := rfl
@[simp] theorem State.modFly_dram (s : State) (f : Fly → Fly) : (s.modFly f).dram = s.dram := rfl
@[simp] theorem State.modFly_raised (s : State) (f : Fly → Fly) : (s.modFly f).raised = s.raised := rfl
@[simp] theorem State.modFly_colo (s : State) (f : Fly → Fly) : (s.modFly f).colo = s.colo := rfl
@[simp] theorem State.modFly_fuses (s : State) (f : Fly → Fly) : (s.modFly f).fuses = s.fuses := rfl
@[simp] theorem State.modFly_boot (s : State) (f : Fly → Fly) : (s.modFly f).boot = s.boot := rfl
@[simp] theorem State.modFly_rst (s : State) (f : Fly → Fly) : (s.modFly f).rst = s.rst := rfl
@[simp] theorem State.modFly_ream (s : State) (f : Fly → Fly) : (s.modFly f).ream = s.ream := rfl
@[simp] theorem State.modFly_cache (s : State) (f : Fly → Fly) : (s.modFly f).cache = s.cache := rfl
@[simp] theorem State.modFly_mem (s : State) (f : Fly → Fly) : (s.modFly f).mem = s.mem := rfl
@[simp] theorem State.modFly_gath (s : State) (f : Fly → Fly) : (s.modFly f).gath = s.gath := rfl
@[simp] theorem State.modFly_host (s : State) (f : Fly → Fly) : (s.modFly f).host = s.host := rfl
@[simp] theorem State.modFly_ket (s : State) (f : Fly → Fly) : (s.modFly f).ket = s.ket := rfl
@[simp] theorem State.modFly_get (s : State) (f : Fly → Fly) (g : Fld) : (s.modFly f).get g = s.get g := rfl
@[simp] theorem State.modFly_flag (s : State) (f : Fly → Fly) (g : Fld) : (s.modFly f).flag g = s.flag g := rfl
@[simp] theorem State.modFly_bit (s : State) (f : Fly → Fly) (g : Fld) (j : Nat) : (s.modFly f).bit g j = s.bit g j := rfl
@[simp] theorem State.modFly_fresh (s : State) (f : Fly → Fly) : (s.modFly f).fresh = s.fresh := rfl
@[simp] theorem State.modFly_chan (s : State) (f : Fly → Fly) (m : Ch) : (s.modFly f).chan m = s.chan m := rfl
@[simp] theorem State.modFly_stit (s : State) (f : Fly → Fly) (m : Ch) (q : Pa) : (s.modFly f).stit m q = s.stit m q := rfl
@[simp] theorem State.modFly_pathSt (s : State) (f : Fly → Fly) (m : Ch) (q : Pa) : (s.modFly f).pathSt m q = s.pathSt m q := rfl
@[simp] theorem State.modFly_mot (s : State) (f : Fly → Fly) (m : Ch) : (s.modFly f).mot m = s.mot m := rfl
@[simp] theorem State.modFly_servo (s : State) (f : Fly → Fly) (m : Ch) : (s.modFly f).servo m = s.servo m := rfl
@[simp] theorem State.modFly_hinge (s : State) (f : Fly → Fly) (m : Ch) : (s.modFly f).hinge m = s.hinge m := rfl
@[simp] theorem State.modFly_cmd (s : State) (f : Fly → Fly) (j : Nat) : (s.modFly f).cmd j = s.cmd j := rfl
@[simp] theorem State.modFly_sq (s : State) (f : Fly → Fly) (d : Ctl) (j : Nat) : (s.modFly f).sq d j = s.sq d j := rfl
@[simp] theorem State.modFly_cq (s : State) (f : Fly → Fly) (d : Ctl) (j : Nat) : (s.modFly f).cq d j = s.cq d j := rfl
@[simp] theorem State.modFly_ns (s : State) (f : Fly → Fly) (j : Nat) : (s.modFly f).ns j = s.ns j := rfl
@[simp] theorem State.modFly_ctlr (s : State) (f : Fly → Fly) (d : Ctl) : (s.modFly f).ctlr d = s.ctlr d := rfl
@[simp] theorem State.modFly_layout (s : State) (f : Fly → Fly) (m : Fin 4) : (s.modFly f).layout m = s.layout m := rfl
@[simp] theorem State.modFly_pool (s : State) (f : Fly → Fly) (j : PoolId) : (s.modFly f).pool j = s.pool j := rfl

/-! ### modLayout -/

@[simp] theorem State.modLayout_pending (s : State) (l : Fin 4) (f : Layout → Layout) : (s.modLayout l f).pending = s.pending := rfl
@[simp] theorem State.modLayout_regs (s : State) (l : Fin 4) (f : Layout → Layout) : (s.modLayout l f).regs = s.regs := rfl
@[simp] theorem State.modLayout_force (s : State) (l : Fin 4) (f : Layout → Layout) : (s.modLayout l f).force = s.force := rfl
@[simp] theorem State.modLayout_freeCtr (s : State) (l : Fin 4) (f : Layout → Layout) : (s.modLayout l f).freeCtr = s.freeCtr := rfl
@[simp] theorem State.modLayout_small (s : State) (l : Fin 4) (f : Layout → Layout) : (s.modLayout l f).small = s.small := rfl
@[simp] theorem State.modLayout_chans (s : State) (l : Fin 4) (f : Layout → Layout) : (s.modLayout l f).chans = s.chans := rfl
@[simp] theorem State.modLayout_store (s : State) (l : Fin 4) (f : Layout → Layout) : (s.modLayout l f).store = s.store := rfl
@[simp] theorem State.modLayout_pads (s : State) (l : Fin 4) (f : Layout → Layout) : (s.modLayout l f).pads = s.pads := rfl
@[simp] theorem State.modLayout_banks (s : State) (l : Fin 4) (f : Layout → Layout) : (s.modLayout l f).banks = s.banks := rfl
@[simp] theorem State.modLayout_dram (s : State) (l : Fin 4) (f : Layout → Layout) : (s.modLayout l f).dram = s.dram := rfl
@[simp] theorem State.modLayout_raised (s : State) (l : Fin 4) (f : Layout → Layout) : (s.modLayout l f).raised = s.raised := rfl
@[simp] theorem State.modLayout_colo (s : State) (l : Fin 4) (f : Layout → Layout) : (s.modLayout l f).colo = s.colo := rfl
@[simp] theorem State.modLayout_fuses (s : State) (l : Fin 4) (f : Layout → Layout) : (s.modLayout l f).fuses = s.fuses := rfl
@[simp] theorem State.modLayout_boot (s : State) (l : Fin 4) (f : Layout → Layout) : (s.modLayout l f).boot = s.boot := rfl
@[simp] theorem State.modLayout_rst (s : State) (l : Fin 4) (f : Layout → Layout) : (s.modLayout l f).rst = s.rst := rfl
@[simp] theorem State.modLayout_ream (s : State) (l : Fin 4) (f : Layout → Layout) : (s.modLayout l f).ream = s.ream := rfl
@[simp] theorem State.modLayout_cache (s : State) (l : Fin 4) (f : Layout → Layout) : (s.modLayout l f).cache = s.cache := rfl
@[simp] theorem State.modLayout_mem (s : State) (l : Fin 4) (f : Layout → Layout) : (s.modLayout l f).mem = s.mem := rfl
@[simp] theorem State.modLayout_fly (s : State) (l : Fin 4) (f : Layout → Layout) : (s.modLayout l f).fly = s.fly := rfl
@[simp] theorem State.modLayout_host (s : State) (l : Fin 4) (f : Layout → Layout) : (s.modLayout l f).host = s.host := rfl
@[simp] theorem State.modLayout_ket (s : State) (l : Fin 4) (f : Layout → Layout) : (s.modLayout l f).ket = s.ket := rfl
@[simp] theorem State.modLayout_get (s : State) (l : Fin 4) (f : Layout → Layout) (g : Fld) : (s.modLayout l f).get g = s.get g := rfl
@[simp] theorem State.modLayout_flag (s : State) (l : Fin 4) (f : Layout → Layout) (g : Fld) : (s.modLayout l f).flag g = s.flag g := rfl
@[simp] theorem State.modLayout_bit (s : State) (l : Fin 4) (f : Layout → Layout) (g : Fld) (j : Nat) : (s.modLayout l f).bit g j = s.bit g j := rfl
@[simp] theorem State.modLayout_fresh (s : State) (l : Fin 4) (f : Layout → Layout) : (s.modLayout l f).fresh = s.fresh := rfl
@[simp] theorem State.modLayout_chan (s : State) (l : Fin 4) (f : Layout → Layout) (m : Ch) : (s.modLayout l f).chan m = s.chan m := rfl
@[simp] theorem State.modLayout_stit (s : State) (l : Fin 4) (f : Layout → Layout) (m : Ch) (q : Pa) : (s.modLayout l f).stit m q = s.stit m q := rfl
@[simp] theorem State.modLayout_pathSt (s : State) (l : Fin 4) (f : Layout → Layout) (m : Ch) (q : Pa) : (s.modLayout l f).pathSt m q = s.pathSt m q := rfl
@[simp] theorem State.modLayout_mot (s : State) (l : Fin 4) (f : Layout → Layout) (m : Ch) : (s.modLayout l f).mot m = s.mot m := rfl
@[simp] theorem State.modLayout_servo (s : State) (l : Fin 4) (f : Layout → Layout) (m : Ch) : (s.modLayout l f).servo m = s.servo m := rfl
@[simp] theorem State.modLayout_hinge (s : State) (l : Fin 4) (f : Layout → Layout) (m : Ch) : (s.modLayout l f).hinge m = s.hinge m := rfl
@[simp] theorem State.modLayout_cmd (s : State) (l : Fin 4) (f : Layout → Layout) (j : Nat) : (s.modLayout l f).cmd j = s.cmd j := rfl
@[simp] theorem State.modLayout_sq (s : State) (l : Fin 4) (f : Layout → Layout) (d : Ctl) (j : Nat) : (s.modLayout l f).sq d j = s.sq d j := rfl
@[simp] theorem State.modLayout_cq (s : State) (l : Fin 4) (f : Layout → Layout) (d : Ctl) (j : Nat) : (s.modLayout l f).cq d j = s.cq d j := rfl
@[simp] theorem State.modLayout_ns (s : State) (l : Fin 4) (f : Layout → Layout) (j : Nat) : (s.modLayout l f).ns j = s.ns j := rfl
@[simp] theorem State.modLayout_ctlr (s : State) (l : Fin 4) (f : Layout → Layout) (d : Ctl) : (s.modLayout l f).ctlr d = s.ctlr d := rfl
@[simp] theorem State.modLayout_pool (s : State) (l : Fin 4) (f : Layout → Layout) (j : PoolId) : (s.modLayout l f).pool j = s.pool j := rfl

/-! ### modKet -/

@[simp] theorem State.modKet_pending (s : State) (f : Ket → Ket) : (s.modKet f).pending = s.pending := rfl
@[simp] theorem State.modKet_regs (s : State) (f : Ket → Ket) : (s.modKet f).regs = s.regs := rfl
@[simp] theorem State.modKet_force (s : State) (f : Ket → Ket) : (s.modKet f).force = s.force := rfl
@[simp] theorem State.modKet_freeCtr (s : State) (f : Ket → Ket) : (s.modKet f).freeCtr = s.freeCtr := rfl
@[simp] theorem State.modKet_small (s : State) (f : Ket → Ket) : (s.modKet f).small = s.small := rfl
@[simp] theorem State.modKet_chans (s : State) (f : Ket → Ket) : (s.modKet f).chans = s.chans := rfl
@[simp] theorem State.modKet_store (s : State) (f : Ket → Ket) : (s.modKet f).store = s.store := rfl
@[simp] theorem State.modKet_pads (s : State) (f : Ket → Ket) : (s.modKet f).pads = s.pads := rfl
@[simp] theorem State.modKet_banks (s : State) (f : Ket → Ket) : (s.modKet f).banks = s.banks := rfl
@[simp] theorem State.modKet_dram (s : State) (f : Ket → Ket) : (s.modKet f).dram = s.dram := rfl
@[simp] theorem State.modKet_raised (s : State) (f : Ket → Ket) : (s.modKet f).raised = s.raised := rfl
@[simp] theorem State.modKet_colo (s : State) (f : Ket → Ket) : (s.modKet f).colo = s.colo := rfl
@[simp] theorem State.modKet_fuses (s : State) (f : Ket → Ket) : (s.modKet f).fuses = s.fuses := rfl
@[simp] theorem State.modKet_boot (s : State) (f : Ket → Ket) : (s.modKet f).boot = s.boot := rfl
@[simp] theorem State.modKet_rst (s : State) (f : Ket → Ket) : (s.modKet f).rst = s.rst := rfl
@[simp] theorem State.modKet_ream (s : State) (f : Ket → Ket) : (s.modKet f).ream = s.ream := rfl
@[simp] theorem State.modKet_cache (s : State) (f : Ket → Ket) : (s.modKet f).cache = s.cache := rfl
@[simp] theorem State.modKet_mem (s : State) (f : Ket → Ket) : (s.modKet f).mem = s.mem := rfl
@[simp] theorem State.modKet_fly (s : State) (f : Ket → Ket) : (s.modKet f).fly = s.fly := rfl
@[simp] theorem State.modKet_gath (s : State) (f : Ket → Ket) : (s.modKet f).gath = s.gath := rfl
@[simp] theorem State.modKet_host (s : State) (f : Ket → Ket) : (s.modKet f).host = s.host := rfl
@[simp] theorem State.modKet_get (s : State) (f : Ket → Ket) (g : Fld) : (s.modKet f).get g = s.get g := rfl
@[simp] theorem State.modKet_flag (s : State) (f : Ket → Ket) (g : Fld) : (s.modKet f).flag g = s.flag g := rfl
@[simp] theorem State.modKet_bit (s : State) (f : Ket → Ket) (g : Fld) (j : Nat) : (s.modKet f).bit g j = s.bit g j := rfl
@[simp] theorem State.modKet_fresh (s : State) (f : Ket → Ket) : (s.modKet f).fresh = s.fresh := rfl
@[simp] theorem State.modKet_chan (s : State) (f : Ket → Ket) (m : Ch) : (s.modKet f).chan m = s.chan m := rfl
@[simp] theorem State.modKet_stit (s : State) (f : Ket → Ket) (m : Ch) (q : Pa) : (s.modKet f).stit m q = s.stit m q := rfl
@[simp] theorem State.modKet_pathSt (s : State) (f : Ket → Ket) (m : Ch) (q : Pa) : (s.modKet f).pathSt m q = s.pathSt m q := rfl
@[simp] theorem State.modKet_mot (s : State) (f : Ket → Ket) (m : Ch) : (s.modKet f).mot m = s.mot m := rfl
@[simp] theorem State.modKet_servo (s : State) (f : Ket → Ket) (m : Ch) : (s.modKet f).servo m = s.servo m := rfl
@[simp] theorem State.modKet_hinge (s : State) (f : Ket → Ket) (m : Ch) : (s.modKet f).hinge m = s.hinge m := rfl
@[simp] theorem State.modKet_cmd (s : State) (f : Ket → Ket) (j : Nat) : (s.modKet f).cmd j = s.cmd j := rfl
@[simp] theorem State.modKet_sq (s : State) (f : Ket → Ket) (d : Ctl) (j : Nat) : (s.modKet f).sq d j = s.sq d j := rfl
@[simp] theorem State.modKet_cq (s : State) (f : Ket → Ket) (d : Ctl) (j : Nat) : (s.modKet f).cq d j = s.cq d j := rfl
@[simp] theorem State.modKet_ns (s : State) (f : Ket → Ket) (j : Nat) : (s.modKet f).ns j = s.ns j := rfl
@[simp] theorem State.modKet_ctlr (s : State) (f : Ket → Ket) (d : Ctl) : (s.modKet f).ctlr d = s.ctlr d := rfl
@[simp] theorem State.modKet_layout (s : State) (f : Ket → Ket) (m : Fin 4) : (s.modKet f).layout m = s.layout m := rfl
@[simp] theorem State.modKet_pool (s : State) (f : Ket → Ket) (j : PoolId) : (s.modKet f).pool j = s.pool j := rfl

/-! ### modMem -/

@[simp] theorem State.modMem_pending (s : State) (f : MemProt → MemProt) : (s.modMem f).pending = s.pending := rfl
@[simp] theorem State.modMem_regs (s : State) (f : MemProt → MemProt) : (s.modMem f).regs = s.regs := rfl
@[simp] theorem State.modMem_force (s : State) (f : MemProt → MemProt) : (s.modMem f).force = s.force := rfl
@[simp] theorem State.modMem_freeCtr (s : State) (f : MemProt → MemProt) : (s.modMem f).freeCtr = s.freeCtr := rfl
@[simp] theorem State.modMem_small (s : State) (f : MemProt → MemProt) : (s.modMem f).small = s.small := rfl
@[simp] theorem State.modMem_chans (s : State) (f : MemProt → MemProt) : (s.modMem f).chans = s.chans := rfl
@[simp] theorem State.modMem_store (s : State) (f : MemProt → MemProt) : (s.modMem f).store = s.store := rfl
@[simp] theorem State.modMem_pads (s : State) (f : MemProt → MemProt) : (s.modMem f).pads = s.pads := rfl
@[simp] theorem State.modMem_banks (s : State) (f : MemProt → MemProt) : (s.modMem f).banks = s.banks := rfl
@[simp] theorem State.modMem_dram (s : State) (f : MemProt → MemProt) : (s.modMem f).dram = s.dram := rfl
@[simp] theorem State.modMem_raised (s : State) (f : MemProt → MemProt) : (s.modMem f).raised = s.raised := rfl
@[simp] theorem State.modMem_colo (s : State) (f : MemProt → MemProt) : (s.modMem f).colo = s.colo := rfl
@[simp] theorem State.modMem_fuses (s : State) (f : MemProt → MemProt) : (s.modMem f).fuses = s.fuses := rfl
@[simp] theorem State.modMem_boot (s : State) (f : MemProt → MemProt) : (s.modMem f).boot = s.boot := rfl
@[simp] theorem State.modMem_rst (s : State) (f : MemProt → MemProt) : (s.modMem f).rst = s.rst := rfl
@[simp] theorem State.modMem_ream (s : State) (f : MemProt → MemProt) : (s.modMem f).ream = s.ream := rfl
@[simp] theorem State.modMem_cache (s : State) (f : MemProt → MemProt) : (s.modMem f).cache = s.cache := rfl
@[simp] theorem State.modMem_fly (s : State) (f : MemProt → MemProt) : (s.modMem f).fly = s.fly := rfl
@[simp] theorem State.modMem_gath (s : State) (f : MemProt → MemProt) : (s.modMem f).gath = s.gath := rfl
@[simp] theorem State.modMem_host (s : State) (f : MemProt → MemProt) : (s.modMem f).host = s.host := rfl
@[simp] theorem State.modMem_ket (s : State) (f : MemProt → MemProt) : (s.modMem f).ket = s.ket := rfl
@[simp] theorem State.modMem_get (s : State) (f : MemProt → MemProt) (g : Fld) : (s.modMem f).get g = s.get g := rfl
@[simp] theorem State.modMem_flag (s : State) (f : MemProt → MemProt) (g : Fld) : (s.modMem f).flag g = s.flag g := rfl
@[simp] theorem State.modMem_bit (s : State) (f : MemProt → MemProt) (g : Fld) (j : Nat) : (s.modMem f).bit g j = s.bit g j := rfl
@[simp] theorem State.modMem_fresh (s : State) (f : MemProt → MemProt) : (s.modMem f).fresh = s.fresh := rfl
@[simp] theorem State.modMem_chan (s : State) (f : MemProt → MemProt) (m : Ch) : (s.modMem f).chan m = s.chan m := rfl
@[simp] theorem State.modMem_stit (s : State) (f : MemProt → MemProt) (m : Ch) (q : Pa) : (s.modMem f).stit m q = s.stit m q := rfl
@[simp] theorem State.modMem_pathSt (s : State) (f : MemProt → MemProt) (m : Ch) (q : Pa) : (s.modMem f).pathSt m q = s.pathSt m q := rfl
@[simp] theorem State.modMem_mot (s : State) (f : MemProt → MemProt) (m : Ch) : (s.modMem f).mot m = s.mot m := rfl
@[simp] theorem State.modMem_servo (s : State) (f : MemProt → MemProt) (m : Ch) : (s.modMem f).servo m = s.servo m := rfl
@[simp] theorem State.modMem_hinge (s : State) (f : MemProt → MemProt) (m : Ch) : (s.modMem f).hinge m = s.hinge m := rfl
@[simp] theorem State.modMem_cmd (s : State) (f : MemProt → MemProt) (j : Nat) : (s.modMem f).cmd j = s.cmd j := rfl
@[simp] theorem State.modMem_sq (s : State) (f : MemProt → MemProt) (d : Ctl) (j : Nat) : (s.modMem f).sq d j = s.sq d j := rfl
@[simp] theorem State.modMem_cq (s : State) (f : MemProt → MemProt) (d : Ctl) (j : Nat) : (s.modMem f).cq d j = s.cq d j := rfl
@[simp] theorem State.modMem_ns (s : State) (f : MemProt → MemProt) (j : Nat) : (s.modMem f).ns j = s.ns j := rfl
@[simp] theorem State.modMem_ctlr (s : State) (f : MemProt → MemProt) (d : Ctl) : (s.modMem f).ctlr d = s.ctlr d := rfl
@[simp] theorem State.modMem_layout (s : State) (f : MemProt → MemProt) (m : Fin 4) : (s.modMem f).layout m = s.layout m := rfl
@[simp] theorem State.modMem_pool (s : State) (f : MemProt → MemProt) (j : PoolId) : (s.modMem f).pool j = s.pool j := rfl

/-! ### modCache -/

@[simp] theorem State.modCache_pending (s : State) (f : Cache → Cache) : (s.modCache f).pending = s.pending := rfl
@[simp] theorem State.modCache_regs (s : State) (f : Cache → Cache) : (s.modCache f).regs = s.regs := rfl
@[simp] theorem State.modCache_force (s : State) (f : Cache → Cache) : (s.modCache f).force = s.force := rfl
@[simp] theorem State.modCache_freeCtr (s : State) (f : Cache → Cache) : (s.modCache f).freeCtr = s.freeCtr := rfl
@[simp] theorem State.modCache_small (s : State) (f : Cache → Cache) : (s.modCache f).small = s.small := rfl
@[simp] theorem State.modCache_chans (s : State) (f : Cache → Cache) : (s.modCache f).chans = s.chans := rfl
@[simp] theorem State.modCache_store (s : State) (f : Cache → Cache) : (s.modCache f).store = s.store := rfl
@[simp] theorem State.modCache_pads (s : State) (f : Cache → Cache) : (s.modCache f).pads = s.pads := rfl
@[simp] theorem State.modCache_banks (s : State) (f : Cache → Cache) : (s.modCache f).banks = s.banks := rfl
@[simp] theorem State.modCache_dram (s : State) (f : Cache → Cache) : (s.modCache f).dram = s.dram := rfl
@[simp] theorem State.modCache_raised (s : State) (f : Cache → Cache) : (s.modCache f).raised = s.raised := rfl
@[simp] theorem State.modCache_colo (s : State) (f : Cache → Cache) : (s.modCache f).colo = s.colo := rfl
@[simp] theorem State.modCache_fuses (s : State) (f : Cache → Cache) : (s.modCache f).fuses = s.fuses := rfl
@[simp] theorem State.modCache_boot (s : State) (f : Cache → Cache) : (s.modCache f).boot = s.boot := rfl
@[simp] theorem State.modCache_rst (s : State) (f : Cache → Cache) : (s.modCache f).rst = s.rst := rfl
@[simp] theorem State.modCache_ream (s : State) (f : Cache → Cache) : (s.modCache f).ream = s.ream := rfl
@[simp] theorem State.modCache_mem (s : State) (f : Cache → Cache) : (s.modCache f).mem = s.mem := rfl
@[simp] theorem State.modCache_fly (s : State) (f : Cache → Cache) : (s.modCache f).fly = s.fly := rfl
@[simp] theorem State.modCache_gath (s : State) (f : Cache → Cache) : (s.modCache f).gath = s.gath := rfl
@[simp] theorem State.modCache_host (s : State) (f : Cache → Cache) : (s.modCache f).host = s.host := rfl
@[simp] theorem State.modCache_ket (s : State) (f : Cache → Cache) : (s.modCache f).ket = s.ket := rfl
@[simp] theorem State.modCache_get (s : State) (f : Cache → Cache) (g : Fld) : (s.modCache f).get g = s.get g := rfl
@[simp] theorem State.modCache_flag (s : State) (f : Cache → Cache) (g : Fld) : (s.modCache f).flag g = s.flag g := rfl
@[simp] theorem State.modCache_bit (s : State) (f : Cache → Cache) (g : Fld) (j : Nat) : (s.modCache f).bit g j = s.bit g j := rfl
@[simp] theorem State.modCache_fresh (s : State) (f : Cache → Cache) : (s.modCache f).fresh = s.fresh := rfl
@[simp] theorem State.modCache_chan (s : State) (f : Cache → Cache) (m : Ch) : (s.modCache f).chan m = s.chan m := rfl
@[simp] theorem State.modCache_stit (s : State) (f : Cache → Cache) (m : Ch) (q : Pa) : (s.modCache f).stit m q = s.stit m q := rfl
@[simp] theorem State.modCache_pathSt (s : State) (f : Cache → Cache) (m : Ch) (q : Pa) : (s.modCache f).pathSt m q = s.pathSt m q := rfl
@[simp] theorem State.modCache_mot (s : State) (f : Cache → Cache) (m : Ch) : (s.modCache f).mot m = s.mot m := rfl
@[simp] theorem State.modCache_servo (s : State) (f : Cache → Cache) (m : Ch) : (s.modCache f).servo m = s.servo m := rfl
@[simp] theorem State.modCache_hinge (s : State) (f : Cache → Cache) (m : Ch) : (s.modCache f).hinge m = s.hinge m := rfl
@[simp] theorem State.modCache_cmd (s : State) (f : Cache → Cache) (j : Nat) : (s.modCache f).cmd j = s.cmd j := rfl
@[simp] theorem State.modCache_sq (s : State) (f : Cache → Cache) (d : Ctl) (j : Nat) : (s.modCache f).sq d j = s.sq d j := rfl
@[simp] theorem State.modCache_cq (s : State) (f : Cache → Cache) (d : Ctl) (j : Nat) : (s.modCache f).cq d j = s.cq d j := rfl
@[simp] theorem State.modCache_ns (s : State) (f : Cache → Cache) (j : Nat) : (s.modCache f).ns j = s.ns j := rfl
@[simp] theorem State.modCache_ctlr (s : State) (f : Cache → Cache) (d : Ctl) : (s.modCache f).ctlr d = s.ctlr d := rfl
@[simp] theorem State.modCache_layout (s : State) (f : Cache → Cache) (m : Fin 4) : (s.modCache f).layout m = s.layout m := rfl
@[simp] theorem State.modCache_pool (s : State) (f : Cache → Cache) (j : PoolId) : (s.modCache f).pool j = s.pool j := rfl

/-! ### modReam -/

@[simp] theorem State.modReam_pending (s : State) (f : Ream → Ream) : (s.modReam f).pending = s.pending := rfl
@[simp] theorem State.modReam_regs (s : State) (f : Ream → Ream) : (s.modReam f).regs = s.regs := rfl
@[simp] theorem State.modReam_force (s : State) (f : Ream → Ream) : (s.modReam f).force = s.force := rfl
@[simp] theorem State.modReam_freeCtr (s : State) (f : Ream → Ream) : (s.modReam f).freeCtr = s.freeCtr := rfl
@[simp] theorem State.modReam_small (s : State) (f : Ream → Ream) : (s.modReam f).small = s.small := rfl
@[simp] theorem State.modReam_chans (s : State) (f : Ream → Ream) : (s.modReam f).chans = s.chans := rfl
@[simp] theorem State.modReam_store (s : State) (f : Ream → Ream) : (s.modReam f).store = s.store := rfl
@[simp] theorem State.modReam_pads (s : State) (f : Ream → Ream) : (s.modReam f).pads = s.pads := rfl
@[simp] theorem State.modReam_banks (s : State) (f : Ream → Ream) : (s.modReam f).banks = s.banks := rfl
@[simp] theorem State.modReam_dram (s : State) (f : Ream → Ream) : (s.modReam f).dram = s.dram := rfl
@[simp] theorem State.modReam_raised (s : State) (f : Ream → Ream) : (s.modReam f).raised = s.raised := rfl
@[simp] theorem State.modReam_colo (s : State) (f : Ream → Ream) : (s.modReam f).colo = s.colo := rfl
@[simp] theorem State.modReam_fuses (s : State) (f : Ream → Ream) : (s.modReam f).fuses = s.fuses := rfl
@[simp] theorem State.modReam_boot (s : State) (f : Ream → Ream) : (s.modReam f).boot = s.boot := rfl
@[simp] theorem State.modReam_rst (s : State) (f : Ream → Ream) : (s.modReam f).rst = s.rst := rfl
@[simp] theorem State.modReam_cache (s : State) (f : Ream → Ream) : (s.modReam f).cache = s.cache := rfl
@[simp] theorem State.modReam_mem (s : State) (f : Ream → Ream) : (s.modReam f).mem = s.mem := rfl
@[simp] theorem State.modReam_fly (s : State) (f : Ream → Ream) : (s.modReam f).fly = s.fly := rfl
@[simp] theorem State.modReam_gath (s : State) (f : Ream → Ream) : (s.modReam f).gath = s.gath := rfl
@[simp] theorem State.modReam_host (s : State) (f : Ream → Ream) : (s.modReam f).host = s.host := rfl
@[simp] theorem State.modReam_ket (s : State) (f : Ream → Ream) : (s.modReam f).ket = s.ket := rfl
@[simp] theorem State.modReam_get (s : State) (f : Ream → Ream) (g : Fld) : (s.modReam f).get g = s.get g := rfl
@[simp] theorem State.modReam_flag (s : State) (f : Ream → Ream) (g : Fld) : (s.modReam f).flag g = s.flag g := rfl
@[simp] theorem State.modReam_bit (s : State) (f : Ream → Ream) (g : Fld) (j : Nat) : (s.modReam f).bit g j = s.bit g j := rfl
@[simp] theorem State.modReam_fresh (s : State) (f : Ream → Ream) : (s.modReam f).fresh = s.fresh := rfl
@[simp] theorem State.modReam_chan (s : State) (f : Ream → Ream) (m : Ch) : (s.modReam f).chan m = s.chan m := rfl
@[simp] theorem State.modReam_stit (s : State) (f : Ream → Ream) (m : Ch) (q : Pa) : (s.modReam f).stit m q = s.stit m q := rfl
@[simp] theorem State.modReam_pathSt (s : State) (f : Ream → Ream) (m : Ch) (q : Pa) : (s.modReam f).pathSt m q = s.pathSt m q := rfl
@[simp] theorem State.modReam_mot (s : State) (f : Ream → Ream) (m : Ch) : (s.modReam f).mot m = s.mot m := rfl
@[simp] theorem State.modReam_servo (s : State) (f : Ream → Ream) (m : Ch) : (s.modReam f).servo m = s.servo m := rfl
@[simp] theorem State.modReam_hinge (s : State) (f : Ream → Ream) (m : Ch) : (s.modReam f).hinge m = s.hinge m := rfl
@[simp] theorem State.modReam_cmd (s : State) (f : Ream → Ream) (j : Nat) : (s.modReam f).cmd j = s.cmd j := rfl
@[simp] theorem State.modReam_sq (s : State) (f : Ream → Ream) (d : Ctl) (j : Nat) : (s.modReam f).sq d j = s.sq d j := rfl
@[simp] theorem State.modReam_cq (s : State) (f : Ream → Ream) (d : Ctl) (j : Nat) : (s.modReam f).cq d j = s.cq d j := rfl
@[simp] theorem State.modReam_ns (s : State) (f : Ream → Ream) (j : Nat) : (s.modReam f).ns j = s.ns j := rfl
@[simp] theorem State.modReam_ctlr (s : State) (f : Ream → Ream) (d : Ctl) : (s.modReam f).ctlr d = s.ctlr d := rfl
@[simp] theorem State.modReam_layout (s : State) (f : Ream → Ream) (m : Fin 4) : (s.modReam f).layout m = s.layout m := rfl

/-! ### modPool -/

@[simp] theorem State.modPool_pending (s : State) (i : PoolId) (f : Pool → Pool) : (s.modPool i f).pending = s.pending := rfl
@[simp] theorem State.modPool_regs (s : State) (i : PoolId) (f : Pool → Pool) : (s.modPool i f).regs = s.regs := rfl
@[simp] theorem State.modPool_force (s : State) (i : PoolId) (f : Pool → Pool) : (s.modPool i f).force = s.force := rfl
@[simp] theorem State.modPool_freeCtr (s : State) (i : PoolId) (f : Pool → Pool) : (s.modPool i f).freeCtr = s.freeCtr := rfl
@[simp] theorem State.modPool_small (s : State) (i : PoolId) (f : Pool → Pool) : (s.modPool i f).small = s.small := rfl
@[simp] theorem State.modPool_chans (s : State) (i : PoolId) (f : Pool → Pool) : (s.modPool i f).chans = s.chans := rfl
@[simp] theorem State.modPool_store (s : State) (i : PoolId) (f : Pool → Pool) : (s.modPool i f).store = s.store := rfl
@[simp] theorem State.modPool_pads (s : State) (i : PoolId) (f : Pool → Pool) : (s.modPool i f).pads = s.pads := rfl
@[simp] theorem State.modPool_banks (s : State) (i : PoolId) (f : Pool → Pool) : (s.modPool i f).banks = s.banks := rfl
@[simp] theorem State.modPool_dram (s : State) (i : PoolId) (f : Pool → Pool) : (s.modPool i f).dram = s.dram := rfl
@[simp] theorem State.modPool_raised (s : State) (i : PoolId) (f : Pool → Pool) : (s.modPool i f).raised = s.raised := rfl
@[simp] theorem State.modPool_colo (s : State) (i : PoolId) (f : Pool → Pool) : (s.modPool i f).colo = s.colo := rfl
@[simp] theorem State.modPool_fuses (s : State) (i : PoolId) (f : Pool → Pool) : (s.modPool i f).fuses = s.fuses := rfl
@[simp] theorem State.modPool_boot (s : State) (i : PoolId) (f : Pool → Pool) : (s.modPool i f).boot = s.boot := rfl
@[simp] theorem State.modPool_rst (s : State) (i : PoolId) (f : Pool → Pool) : (s.modPool i f).rst = s.rst := rfl
@[simp] theorem State.modPool_cache (s : State) (i : PoolId) (f : Pool → Pool) : (s.modPool i f).cache = s.cache := rfl
@[simp] theorem State.modPool_mem (s : State) (i : PoolId) (f : Pool → Pool) : (s.modPool i f).mem = s.mem := rfl
@[simp] theorem State.modPool_fly (s : State) (i : PoolId) (f : Pool → Pool) : (s.modPool i f).fly = s.fly := rfl
@[simp] theorem State.modPool_gath (s : State) (i : PoolId) (f : Pool → Pool) : (s.modPool i f).gath = s.gath := rfl
@[simp] theorem State.modPool_host (s : State) (i : PoolId) (f : Pool → Pool) : (s.modPool i f).host = s.host := rfl
@[simp] theorem State.modPool_ket (s : State) (i : PoolId) (f : Pool → Pool) : (s.modPool i f).ket = s.ket := rfl
@[simp] theorem State.modPool_get (s : State) (i : PoolId) (f : Pool → Pool) (g : Fld) : (s.modPool i f).get g = s.get g := rfl
@[simp] theorem State.modPool_flag (s : State) (i : PoolId) (f : Pool → Pool) (g : Fld) : (s.modPool i f).flag g = s.flag g := rfl
@[simp] theorem State.modPool_bit (s : State) (i : PoolId) (f : Pool → Pool) (g : Fld) (j : Nat) : (s.modPool i f).bit g j = s.bit g j := rfl
@[simp] theorem State.modPool_fresh (s : State) (i : PoolId) (f : Pool → Pool) : (s.modPool i f).fresh = s.fresh := rfl
@[simp] theorem State.modPool_chan (s : State) (i : PoolId) (f : Pool → Pool) (m : Ch) : (s.modPool i f).chan m = s.chan m := rfl
@[simp] theorem State.modPool_stit (s : State) (i : PoolId) (f : Pool → Pool) (m : Ch) (q : Pa) : (s.modPool i f).stit m q = s.stit m q := rfl
@[simp] theorem State.modPool_pathSt (s : State) (i : PoolId) (f : Pool → Pool) (m : Ch) (q : Pa) : (s.modPool i f).pathSt m q = s.pathSt m q := rfl
@[simp] theorem State.modPool_mot (s : State) (i : PoolId) (f : Pool → Pool) (m : Ch) : (s.modPool i f).mot m = s.mot m := rfl
@[simp] theorem State.modPool_servo (s : State) (i : PoolId) (f : Pool → Pool) (m : Ch) : (s.modPool i f).servo m = s.servo m := rfl
@[simp] theorem State.modPool_hinge (s : State) (i : PoolId) (f : Pool → Pool) (m : Ch) : (s.modPool i f).hinge m = s.hinge m := rfl
@[simp] theorem State.modPool_cmd (s : State) (i : PoolId) (f : Pool → Pool) (j : Nat) : (s.modPool i f).cmd j = s.cmd j := rfl
@[simp] theorem State.modPool_sq (s : State) (i : PoolId) (f : Pool → Pool) (d : Ctl) (j : Nat) : (s.modPool i f).sq d j = s.sq d j := rfl
@[simp] theorem State.modPool_cq (s : State) (i : PoolId) (f : Pool → Pool) (d : Ctl) (j : Nat) : (s.modPool i f).cq d j = s.cq d j := rfl
@[simp] theorem State.modPool_ns (s : State) (i : PoolId) (f : Pool → Pool) (j : Nat) : (s.modPool i f).ns j = s.ns j := rfl
@[simp] theorem State.modPool_ctlr (s : State) (i : PoolId) (f : Pool → Pool) (d : Ctl) : (s.modPool i f).ctlr d = s.ctlr d := rfl
@[simp] theorem State.modPool_layout (s : State) (i : PoolId) (f : Pool → Pool) (m : Fin 4) : (s.modPool i f).layout m = s.layout m := rfl

/-! ### modPads -/

@[simp] theorem State.modPads_pending (s : State) (n : Ch) (f : NatMap → NatMap) : (s.modPads n f).pending = s.pending := rfl
@[simp] theorem State.modPads_regs (s : State) (n : Ch) (f : NatMap → NatMap) : (s.modPads n f).regs = s.regs := rfl
@[simp] theorem State.modPads_force (s : State) (n : Ch) (f : NatMap → NatMap) : (s.modPads n f).force = s.force := rfl
@[simp] theorem State.modPads_freeCtr (s : State) (n : Ch) (f : NatMap → NatMap) : (s.modPads n f).freeCtr = s.freeCtr := rfl
@[simp] theorem State.modPads_small (s : State) (n : Ch) (f : NatMap → NatMap) : (s.modPads n f).small = s.small := rfl
@[simp] theorem State.modPads_chans (s : State) (n : Ch) (f : NatMap → NatMap) : (s.modPads n f).chans = s.chans := rfl
@[simp] theorem State.modPads_store (s : State) (n : Ch) (f : NatMap → NatMap) : (s.modPads n f).store = s.store := rfl
@[simp] theorem State.modPads_banks (s : State) (n : Ch) (f : NatMap → NatMap) : (s.modPads n f).banks = s.banks := rfl
@[simp] theorem State.modPads_dram (s : State) (n : Ch) (f : NatMap → NatMap) : (s.modPads n f).dram = s.dram := rfl
@[simp] theorem State.modPads_raised (s : State) (n : Ch) (f : NatMap → NatMap) : (s.modPads n f).raised = s.raised := rfl
@[simp] theorem State.modPads_colo (s : State) (n : Ch) (f : NatMap → NatMap) : (s.modPads n f).colo = s.colo := rfl
@[simp] theorem State.modPads_fuses (s : State) (n : Ch) (f : NatMap → NatMap) : (s.modPads n f).fuses = s.fuses := rfl
@[simp] theorem State.modPads_boot (s : State) (n : Ch) (f : NatMap → NatMap) : (s.modPads n f).boot = s.boot := rfl
@[simp] theorem State.modPads_rst (s : State) (n : Ch) (f : NatMap → NatMap) : (s.modPads n f).rst = s.rst := rfl
@[simp] theorem State.modPads_ream (s : State) (n : Ch) (f : NatMap → NatMap) : (s.modPads n f).ream = s.ream := rfl
@[simp] theorem State.modPads_cache (s : State) (n : Ch) (f : NatMap → NatMap) : (s.modPads n f).cache = s.cache := rfl
@[simp] theorem State.modPads_mem (s : State) (n : Ch) (f : NatMap → NatMap) : (s.modPads n f).mem = s.mem := rfl
@[simp] theorem State.modPads_fly (s : State) (n : Ch) (f : NatMap → NatMap) : (s.modPads n f).fly = s.fly := rfl
@[simp] theorem State.modPads_gath (s : State) (n : Ch) (f : NatMap → NatMap) : (s.modPads n f).gath = s.gath := rfl
@[simp] theorem State.modPads_host (s : State) (n : Ch) (f : NatMap → NatMap) : (s.modPads n f).host = s.host := rfl
@[simp] theorem State.modPads_ket (s : State) (n : Ch) (f : NatMap → NatMap) : (s.modPads n f).ket = s.ket := rfl
@[simp] theorem State.modPads_get (s : State) (n : Ch) (f : NatMap → NatMap) (g : Fld) : (s.modPads n f).get g = s.get g := rfl
@[simp] theorem State.modPads_flag (s : State) (n : Ch) (f : NatMap → NatMap) (g : Fld) : (s.modPads n f).flag g = s.flag g := rfl
@[simp] theorem State.modPads_bit (s : State) (n : Ch) (f : NatMap → NatMap) (g : Fld) (j : Nat) : (s.modPads n f).bit g j = s.bit g j := rfl
@[simp] theorem State.modPads_fresh (s : State) (n : Ch) (f : NatMap → NatMap) : (s.modPads n f).fresh = s.fresh := rfl
@[simp] theorem State.modPads_chan (s : State) (n : Ch) (f : NatMap → NatMap) (m : Ch) : (s.modPads n f).chan m = s.chan m := rfl
@[simp] theorem State.modPads_stit (s : State) (n : Ch) (f : NatMap → NatMap) (m : Ch) (q : Pa) : (s.modPads n f).stit m q = s.stit m q := rfl
@[simp] theorem State.modPads_pathSt (s : State) (n : Ch) (f : NatMap → NatMap) (m : Ch) (q : Pa) : (s.modPads n f).pathSt m q = s.pathSt m q := rfl
@[simp] theorem State.modPads_mot (s : State) (n : Ch) (f : NatMap → NatMap) (m : Ch) : (s.modPads n f).mot m = s.mot m := rfl
@[simp] theorem State.modPads_servo (s : State) (n : Ch) (f : NatMap → NatMap) (m : Ch) : (s.modPads n f).servo m = s.servo m := rfl
@[simp] theorem State.modPads_hinge (s : State) (n : Ch) (f : NatMap → NatMap) (m : Ch) : (s.modPads n f).hinge m = s.hinge m := rfl
@[simp] theorem State.modPads_cmd (s : State) (n : Ch) (f : NatMap → NatMap) (j : Nat) : (s.modPads n f).cmd j = s.cmd j := rfl
@[simp] theorem State.modPads_sq (s : State) (n : Ch) (f : NatMap → NatMap) (d : Ctl) (j : Nat) : (s.modPads n f).sq d j = s.sq d j := rfl
@[simp] theorem State.modPads_cq (s : State) (n : Ch) (f : NatMap → NatMap) (d : Ctl) (j : Nat) : (s.modPads n f).cq d j = s.cq d j := rfl
@[simp] theorem State.modPads_ns (s : State) (n : Ch) (f : NatMap → NatMap) (j : Nat) : (s.modPads n f).ns j = s.ns j := rfl
@[simp] theorem State.modPads_ctlr (s : State) (n : Ch) (f : NatMap → NatMap) (d : Ctl) : (s.modPads n f).ctlr d = s.ctlr d := rfl
@[simp] theorem State.modPads_layout (s : State) (n : Ch) (f : NatMap → NatMap) (m : Fin 4) : (s.modPads n f).layout m = s.layout m := rfl
@[simp] theorem State.modPads_pool (s : State) (n : Ch) (f : NatMap → NatMap) (j : PoolId) : (s.modPads n f).pool j = s.pool j := rfl

/-! ### Register fields after a write -/

/-- A field reads what was written, cut to its width. -/
theorem State.get_set_same (s : State) (f : Fld) (v : Nat) (h : s.regs.wf = true) : (s.set f v).get f = v % 2 ^ f.width := by
  unfold State.get State.set
  rw [NatMap.get_set_same h, Nat.xor_assoc, Nat.xor_self, Nat.xor_zero]

/-- Another field reads as before. -/
theorem State.get_set_other (s : State) (f g : Fld) (v : Nat) (h : g.key ≠ f.key) : (s.set f v).get g = s.get g := by
  unfold State.get State.set
  rw [NatMap.get_set_other _ _ _ _ h]

/-- A write keeps the registers canonical. -/
@[simp] theorem State.set_wf (s : State) (f : Fld) (v : Nat) (h : s.regs.wf = true) : (s.set f v).regs.wf = true := NatMap.set_wf h _ _
@[simp] theorem State.setFlag_wf (s : State) (f : Fld) (b : Bool) (h : s.regs.wf = true) : (s.setFlag f b).regs.wf = true := NatMap.set_wf h _ _
@[simp] theorem State.setBit_wf (s : State) (f : Fld) (i : Nat) (b : Bool) (h : s.regs.wf = true) : (s.setBit f i b).regs.wf = true := NatMap.set_wf h _ _
@[simp] theorem State.addSat_wf (s : State) (f : Fld) (k : Nat) (h : s.regs.wf = true) : (s.addSat f k).regs.wf = true := NatMap.set_wf h _ _
@[simp] theorem State.inc_wf (s : State) (f : Fld) (h : s.regs.wf = true) : (s.inc f).regs.wf = true := NatMap.set_wf h _ _
@[simp] theorem State.incWrap_wf (s : State) (f : Fld) (h : s.regs.wf = true) : (s.incWrap f).regs.wf = true := NatMap.set_wf h _ _
@[simp] theorem State.resetRegs_wf (s : State) (lo hi : Nat) (h : s.regs.wf = true) : (s.resetRegs lo hi).regs.wf = true := NatMap.clear_wf h _ _

theorem State.get_setFlag_same (s : State) (f : Fld) (b : Bool) (h : s.regs.wf = true) (hw : 0 < f.width) :
    (s.setFlag f b).get f = b.toNat := by
  unfold State.setFlag
  rw [State.get_set_same s f _ h]
  apply Nat.mod_eq_of_lt
  have : 2 ^ 1 ≤ 2 ^ f.width := Nat.pow_le_pow_right (by decide) hw
  cases b <;> simp only [Bool.toNat_true, Bool.toNat_false] <;> omega

theorem State.flag_setFlag_same (s : State) (f : Fld) (b : Bool) (h : s.regs.wf = true) (hw : 0 < f.width) :
    (s.setFlag f b).flag f = b := by
  unfold State.flag
  rw [State.get_setFlag_same s f b h hw]
  cases b <;> rfl

theorem State.get_setFlag_other (s : State) (f g : Fld) (b : Bool) (h : g.key ≠ f.key) : (s.setFlag f b).get g = s.get g :=
  State.get_set_other s f g _ h

theorem State.flag_set_other (s : State) (f g : Fld) (v : Nat) (h : g.key ≠ f.key) : (s.set f v).flag g = s.flag g := by
  unfold State.flag
  rw [State.get_set_other s f g v h]

theorem State.flag_setFlag_other (s : State) (f g : Fld) (b : Bool) (h : g.key ≠ f.key) : (s.setFlag f b).flag g = s.flag g :=
  State.flag_set_other s f g _ h

theorem State.get_addSat_same (s : State) (f : Fld) (k : Nat) (h : s.regs.wf = true) :
    (s.addSat f k).get f = min (2 ^ f.width - 1) (s.get f + k) := by
  unfold State.addSat
  rw [State.get_set_same s f _ h]
  apply Nat.mod_eq_of_lt
  have := Nat.pow_pos (n := f.width) (show 0 < 2 by decide)
  omega

theorem State.get_addSat_other (s : State) (f g : Fld) (k : Nat) (h : g.key ≠ f.key) : (s.addSat f k).get g = s.get g :=
  State.get_set_other s f g _ h

/-! ### Indexed parts after an update -/

@[simp] theorem State.chan_modChan_same (s : State) (n : Ch) (f : Chan → Chan) : (s.modChan n f).chan n = f (s.chan n) := by
  simp [State.chan, State.modChan]

theorem State.chan_modChan_other (s : State) (n m : Ch) (f : Chan → Chan) (h : m ≠ n) : (s.modChan n f).chan m = s.chan m := by
  have : (n : Nat) ≠ m := fun e => h (Fin.ext e.symm)
  simp [State.chan, State.modChan, this]

@[simp] theorem State.stit_modStit_same (s : State) (n : Ch) (p : Pa) (f : Stitcher → Stitcher) : (s.modStit n p f).stit n p = f (s.stit n p) := by
  simp [State.stit, State.modStit, State.chan, State.modChan]

@[simp] theorem State.modStit_modStit (s : State) (n : Ch) (p : Pa) (f g : Stitcher → Stitcher) :
    (s.modStit n p f).modStit n p g = s.modStit n p fun x => g (f x) := by
  simp [State.modStit, State.modChan]

@[simp] theorem State.pathSt_modPath_same (s : State) (n : Ch) (p : Pa) (f : PathSt → PathSt) :
    (s.modPath n p f).pathSt n p = f (s.pathSt n p) := by
  simp [State.pathSt, State.modPath, State.chan, State.modChan]

@[simp] theorem State.mot_modMot_same (s : State) (n : Ch) (f : Motor → Motor) : (s.modMot n f).mot n = f (s.mot n) := by
  simp [State.mot, State.modMot]

@[simp] theorem State.servo_modServo_same (s : State) (n : Ch) (f : Servo → Servo) : (s.modServo n f).servo n = f (s.servo n) := by
  simp [State.servo, State.modServo]

@[simp] theorem State.hinge_modHinge_same (s : State) (n : Ch) (f : Hinge → Hinge) : (s.modHinge n f).hinge n = f (s.hinge n) := by
  simp [State.hinge, State.modHinge]

@[simp] theorem State.ctlr_modCtlr_same (s : State) (c : Ctl) (f : Ctlr → Ctlr) : (s.modCtlr c f).ctlr c = f (s.ctlr c) := by
  simp [State.ctlr, State.modCtlr, State.modHost]

@[simp] theorem State.layout_modLayout_same (s : State) (l : Fin 4) (f : Layout → Layout) : (s.modLayout l f).layout l = f (s.layout l) := by
  simp [State.layout, State.modLayout]

@[simp] theorem State.pool_modPool_same (s : State) (i : PoolId) (f : Pool → Pool) : (s.modPool i f).pool i = f (s.pool i) := by
  simp [State.pool, State.modPool]

/-! ### Plain flow -/

@[simp] theorem State.when_true (s : State) (f : State → State) : s.when true f = f s := rfl
@[simp] theorem State.when_false (s : State) (f : State → State) : s.when false f = s := rfl
@[simp] theorem State.each_nil {α : Type} (s : State) (f : α → State → State) : s.each [] f = s := rfl
@[simp] theorem State.each_cons {α : Type} (s : State) (a : α) (l : List α) (f : α → State → State) :
    s.each (a :: l) f = (f a s).each l f := rfl

end Sys2Proof.Machine
end

