-- ==== Sys2Proof/Laws/Ops.lean ====
section
/-! SUPPORT. One lemma for each shared operation through which families of commands begin: a word of a running Stitcher, a write of a
register that reaches its window, and a command of the host that begins. -/

namespace Sys2Proof.Machine

/-- What a word does on a Stitcher that runs. -/
theorem stitchWord_runs {n : Ch} {p : Pa} {s : State} (f : State → State) (h : Runs n p s) :
    stitchWord n p f s = f (s.modStit n p fun t => { t.tick with pc := t.pc + 1 }) := by
  have : (s.stit n p).nextTrap = none := List.find?_eq_none.mpr fun v hv => by simp [h.2.2 v (List.mem_range.mp hv)]
  simp [stitchWord, wordRuns, stitchCycle, Stitcher.executing, heldByHalt, h.1, h.2.1, this]

/-- A write that reaches its window acts after it has broken an armed unlock sequence. -/
theorem arbWrite_reached {a : Nat} {f : State → State} {s : State} (h : Reached a s) : arbWrite a f s = f (breakSeq s) := by
  unfold arbWrite
  exact if_neg (by simp [show windowOff a (breakSeq s) = false from h])

/-- A guarded write from a writer that may write acts. -/
theorem lockedWrite_open {path : RegPath} {a : Nat} {f : State → State} {s : State} (h : Reached a s) (hm : MayWrite path a s) :
    lockedWrite path a false f s = f (breakSeq s) := by
  unfold lockedWrite
  rw [arbWrite_reached h]
  exact if_neg (by rcases hm with hm | hm <;> simp [hm])

/-- A guarded write of a field that is held is discarded. -/
theorem lockedWrite_held {path : RegPath} {a : Nat} {f : State → State} {s : State} (h : Reached a s) :
    lockedWrite path a true f s = discard a (breakSeq s) := by
  unfold lockedWrite
  rw [arbWrite_reached h]
  exact if_pos (by simp)

/-- The command found under a number has that number. -/
theorem cmd_k {s : State} {k : Nat} {c : Cmd} (h : s.cmd k = some c) : c.k = k := by
  have := List.find?_some h; simpa using this

/-- A command that begins with an entry its row takes is startable. -/
theorem startable_begins {s : State} {k : Nat} {c : Cmd} {ok : Sqe → Bool} (h : Begins k c s) (ho : ok c.e = true) : startable ok k s = some c := by
  obtain ⟨h1, h2, h3, h4, h5, h6⟩ := h
  unfold startable; rw [h1]; simp [Cmd.isOpen, h2, h3, h4, h5, h6, ho]

/-- What an admin row does to a command that begins. -/
theorem adminStart_begins {s : State} {k : Nat} {c : Cmd} {ok : Sqe → Bool} {f : Cmd → State → State} (h : Begins k c s)
    (hq : c.qid = 0 ∨ c.qid = 65536) (ho : ok c.e = true) : adminStart ok k f s = f c (markStarted k s) := by
  unfold adminStart; rw [startable_begins h ho]; rcases hq with hq | hq <;> simp [hq]

/-- What an I/O row does to a command that runs. -/
theorem ioStart_runs {k : Nat} {c : Cmd} {v : Ns} {opc : Byte} {writes : Bool} {f : Cmd → Ns → State → State} {s : State}
    (h : IoRuns k c v opc writes s) : ioStart opc k writes f s = f c v s := by
  obtain ⟨⟨hb, h1, h2, h3⟩, h4, h5, h6, h7, h8⟩ := h
  unfold ioStart; rw [startable_begins hb (by simp [h3])]; dsimp only
  rw [if_neg (by simp [h1, h2])]
  have : s.ns c.e.ns = some v := h4
  rw [this]; dsimp only; rw [if_neg (by simp [h5, h6]), if_neg (by simp [h7]), if_neg (by rw [h8]; simp)]

/-- What a Channel State row does to a command that begins with its action. -/
theorem chanState_begins {k : Nat} {c : Cmd} {act : Nat} {f : Cmd → Ch → State → State} {s : State} (h : BeginsAdmin k c 0x09 s)
    (h2 : c.e.sel = 0xC3) (h3 : c.e.cdw11.toNat / 16 % 16 = act) :
    chanState act k f s = if featSave c.e then s.finish k (sct 1 0x0D) else f c (Fin.ofNat 8 (c.e.cdw11.toNat % 8)) s := by
  obtain ⟨hb, hq, ho⟩ := h
  unfold chanState; rw [startable_begins hb (by simp [setFeat, ho, h2, h3])]; dsimp only; rw [if_neg (by omega)]

/-- What a reservation row does to a command that begins when no earlier one of its namespace is open. -/
theorem resStart_begins {k : Nat} {c : Cmd} {v : Ns} {opc : Byte} {f : Cmd → Ns → State → State} {s : State} (h : BeginsIo k c opc s)
    (ht : (s.host.cmds.any fun d => decide (d.k < k) && d.e.nsid == c.e.nsid && [0x0D#8, 0x11#8, 0x15#8].contains d.e.opc && d.isOpen &&
      decide (0 < d.qid) && decide (d.qid < 65536)) = false) (hv : s.ns c.e.nsid.toNat = some v) :
    resStart opc k f s = f c v (markStarted k s) := by
  obtain ⟨hb, h1, h2, h3⟩ := h
  unfold resStart; rw [startable_begins hb (by simp [h3])]; dsimp only
  rw [if_neg (by simp [h1, h2]), if_neg (by rw [ht]; simp)]
  have : s.ns c.e.ns = some v := hv
  rw [this]

end Sys2Proof.Machine
end

