-- ==== Sys2Proof/Machine/Fabric.lean ====
section
/-! DEFINITION. The ports of the buffer fabric (R15) and the order in which a pseudo-channel controller serves them (R17, R446). No row of the
table makes a request of the fabric: the step counts promotions and takes every access as served. -/

namespace Sys2Proof.Machine

/-- The requester ports of the fabric (R15). CH0 to CH7 are the one thing of a channel, beside rails and fault lines, that the rest of the
device shares (R12). -/
inductive Port where
  | chan (n : Ch)
  | host (i : Fin 2)
  | fly
  | gath
  | cache
  | dma
  | mgmt
  | ream
  deriving DecidableEq, Repr

/-- The class that the Ream requests of a port carry: 0 media channels, 1 host intake, 2 background; none for Ream itself (R15). -/
def Port.reamClass (p : Port) : Option (Fin 3) :=
  match p with
  | .chan _ => some 0
  | .host _ => some 1
  | .fly | .gath | .cache | .dma | .mgmt => some 2
  | .ream => none

/-- The tier of a port at pseudo-channel `pc`: the owning channel, then HOST0, HOST1 and FLY, then all others (R17). -/
def Port.tier (pc : Fin 16) (p : Port) : Fin 3 :=
  match p with
  | .chan n => if n.val = pc.val then 0 else 2
  | .host _ | .fly => 1
  | _ => 2

/-- The place of a port in the round robin of its tier. -/
def Port.idx (p : Port) : Nat :=
  match p with
  | .chan n => n.val
  | .host i => 8 + i.val
  | .fly => 10
  | .gath => 11
  | .cache => 12
  | .dma => 13
  | .mgmt => 14
  | .ream => 15

/-- The first port of a tier after the one served last in it. -/
def nextInTier (pc : Fin 16) (t : Fin 3) (last : Nat) (reqs : List Port) : Option Port :=
  (reqs.filter fun p => p.tier pc == t).foldl (fun b p => match b with
    | none => some p
    | some q => if rrDist ((last + 1) % 16) p.idx < rrDist ((last + 1) % 16) q.idx then some p else some q) none

/-- The request that a controller serves next: the owner's, then one of the middle tier, then one of the last; the last tier goes before
the middle one once a request of it has waited for STARVE_LIM (`starved`; R17, R446). -/
def nextServed (pc : Fin 16) (last : Fin 3 → Nat) (starved : Bool) (reqs : List Port) : Option Port :=
  let own := nextInTier pc 0 (last 0) reqs
  let mid := nextInTier pc 1 (last 1) reqs
  let low := nextInTier pc 2 (last 2) reqs
  own.orElse fun _ => if starved then low.orElse fun _ => mid else mid.orElse fun _ => low

/-- The wait after which a request of the last tier is promoted, in units of 10 ns: 0 is taken as 1, above 0xC8 as 0xC8 (R446). -/
def starveLimit (s : State) : Nat := min 0xC8 (max 1 (s.get F.CACHE_FABCFG_STARVE_LIM))

end Sys2Proof.Machine
end

