-- ==== Sys2Proof/Machine/FlyPage.lean ====
section
/-! DEFINITION. What a page of the Flyleaf is programmed with (R385 to R390, R398, R401): the stream of a page's content, cut into sixteen
frames with their parity. -/

namespace Sys2Proof.Machine

/-- The 64-byte header of an entry (R389). -/
def entryHeader (e : FEntry) : List Nat :=
  let bm := fun (v : Nat) => if e.bm then v else 0
  let head := bytesLe 8 e.seq ++ bytesLe 8 e.lba ++ bytesLe 4 e.cnt ++ bytesLe 4 e.nsid ++ bytesLe 2 e.gen ++
    [e.kind % 256, e.bm.toNat + 2 * e.copy.toNat] ++ bytesLe 2 e.pos ++ bytesLe 2 e.len ++ bytesLe 6 e.stamp ++
    [e.opc % 256, if e.kind = 4 then e.act % 256 else 0] ++ bytesLe 4 (crc32c (padTo 4096 (e.blk.data.map BitVec.toNat))) ++
    bytesLe 8 (bm e.bmLba) ++ bytesLe 4 (bm e.bmCnt) ++ [0, 0, 0, 0]
  head ++ bytesLe 4 (crc32c (head ++ padTo 64 (e.blk.md.map BitVec.toNat)))

/-- A slot of a data page that no entry uses is a PAD entry (R390). -/
def padEntry : FEntry :=
  { seq := 0, lba := 0, cnt := 0, nsid := 0, gen := 0, kind := 8, bm := false, copy := false, pos := 0, len := 0, stamp := 0, opc := 0, act := 0,
    bmLba := 0, bmCnt := 0, blk := ⟨[], []⟩, zpi := none }

/-- The number of records or entries of a page. -/
def FPage.count (p : FPage) : Nat := if p.ptype = 1 then p.ents.length else if p.ptype = 2 then p.dst.length else p.bms.length

/-- The page header (R387). -/
def pageHeader (p : FPage) (s : State) : List Nat :=
  let par := match s.fly.bands.find? fun b => b.num == p.band with | some b => b.par | none => 0
  let er := match s.fly.blks.find? fun b => b.die == p.die && b.num == p.blk with | some b => b.erases | none => 0
  let head := [0xA5, 0xF0, 0xEA, 0xF1, p.ptype % 256, 1, p.die % 256, par % 256] ++ bytesLe 8 p.band ++ bytesLe 4 p.page ++ bytesLe 4 p.count ++
    bytesLe 8 p.maxSeq ++ bytesLe 4 p.pot ++ bytesLe 4 (if p.page = 0 then er else 0) ++ List.replicate 20 0
  head ++ bytesLe 4 (crc32c head)

/-- A BOOKMARK record (R401). -/
def bookmarkRecord (b : Bookmark) : List Nat :=
  let head := bytesLe 4 b.nsid ++ bytesLe 2 b.gen ++ [b.opc % 256, b.status % 256] ++ bytesLe 6 b.stamp ++ [0, 0] ++ bytesLe 8 b.lba ++
    bytesLe 4 b.cnt ++ bytesLe 4 b.pot ++ List.replicate 28 0
  head ++ bytesLe 4 (crc32c head)

/-- The stream of a page, 16,960 bytes (R385, R386, R388). -/
def pageStream (p : FPage) (s : State) : List Nat :=
  let es := (List.range 4).map fun i => p.ents.getD i padEntry
  let body := match p.ptype with
    | 1 => es.flatMap entryHeader ++ (es.flatMap fun e => padTo 64 (e.blk.md.map BitVec.toNat)) ++ es.flatMap fun e => padTo 4096 (e.blk.data.map BitVec.toNat)
    | 2 => p.dst.flatMap fun d => bytesLe 8 d.1 ++ bytesLe 4 d.2 ++ [0, 0, 0, 0]
    | 3 => p.bms.flatMap bookmarkRecord
    | _ => []
  padTo 16960 (pageHeader p s ++ body)

/-- A frame: 1,060 payload bytes and the parity of their BCH code (R385). -/
def frameOf (pay : List Nat) : List Nat := pay ++ bytesLe 92 (Config.bchParity pay).toNat

/-- The 18,432 bytes a page is programmed with; those beyond in a larger page are left erased (R385). -/
def pageBytes (p : FPage) (s : State) : List Nat :=
  let st := pageStream p s
  (List.range 16).flatMap fun i => frameOf ((st.drop (1060 * i)).take 1060)

/-! ### Die parity (R384, R396) -/

def xorBytes (a b : List Nat) : List Nat := (a.zip b).map fun x => x.1 ^^^ x.2

/-- Stripe `page` of a band: the pages actually programmed. -/
def stripeOf (band page : Nat) (s : State) : List FPage := s.fly.pages.filter fun p => p.band == band && p.page == page

/-- What the parity die of a band holds as page `page`: the XOR of the raw bytes of the stripe's other pages. -/
def parityBytes (band page : Nat) (s : State) : List Nat :=
  ((stripeOf band page s).map fun p => pageBytes p s).foldl xorBytes (List.replicate 18432 0)

/-- A page that does not decode is rebuilt from the parity and the other pages of its stripe (R397, R404, R412). -/
def rebuiltBytes (p : FPage) (parity : List Nat) (s : State) : List Nat :=
  (((stripeOf p.band p.page s).filter fun q => q.die != p.die).map fun q => pageBytes q s).foldl xorBytes parity

end Sys2Proof.Machine
end

