-- ==== Sys2Proof/Machine/Pins.lean ====
section
/-! DEFINITION. The balls of the package: where each signal lies (R587 to R592), the supply balls (R539, R593), and the state that the
outputs take in reset and while their domain is off (R606). -/

namespace Sys2Proof.Machine

/-! ### The ball map -/

/-- The rows of the grid, from the edge marked A1 (R587). -/
def ballRows : List String :=
  ["A", "B", "C", "D", "E", "F", "G", "H", "J", "K", "L", "M", "N", "P", "T", "U", "V", "W", "Y", "AA", "AB", "AC", "AD", "AE", "AF", "AG", "AH",
    "AJ", "AK", "AL"]

/-- The rows of a channel's block, for template rows 1 to 5 (R588). -/
def blockRows (n : Ch) : List String :=
  match n.val / 2 with
  | 0 => ["A", "B", "C", "D", "E"]
  | 1 => ["F", "G", "H", "J", "K"]
  | 2 => ["AL", "AK", "AJ", "AH", "AG"]
  | _ => ["AF", "AE", "AD", "AC", "AB"]

/-- The first column of a channel's block (R588). -/
def blockCol (n : Ch) : Nat := if n.val % 2 = 0 then 1 else 16

/-- The ball of template position i.j of a channel: its row and column (R588). -/
def channelBall (n : Ch) (i j : Nat) : String × Nat := ((blockRows n).getD (i - 1) "", blockCol n + j - 1)

/-- The signals of template row `i` of a channel block, by column; those of the channel without their prefix CHn_ (R589). -/
def templateRow (i : Nat) : List String :=
  match i with
  | 1 =>
    ["RDP_0_0", "RDN_0_0", "RDP_0_1", "RDN_0_1", "RDP_0_2", "RDN_0_2", "VSS", "RDP_1_0", "RDN_1_0", "RDP_1_1", "RDN_1_1", "RDP_1_2",
   "RDN_1_2", "VSS", "VSS"]
  | 2 =>
    ["RDP_2_0", "RDN_2_0", "RDP_2_1", "RDN_2_1", "RDP_2_2", "RDN_2_2", "VSS", "RDP_3_0", "RDN_3_0", "RDP_3_1", "RDN_3_1", "RDP_3_2",
   "RDN_3_2", "VSS", "VSS"]
  | 3 =>
    ["WDP_0", "WDN_0", "WDP_1", "WDN_1", "VDDA_12", "WDP_2", "WDN_2", "WDP_3", "WDN_3", "VDDA_12", "FAP", "FAN", "VSS", "SHKP", "SHKN"]
  | 4 =>
    ["PSCK", "PSDA", "PSEN_N", "PFLT_N", "VDDA_09", "ISUP", "ISUN", "ISVP", "ISVN", "VDDA_09", "BEMFU", "BEMFV", "BEMFW", "BEMFC",
   "VMOT_SNS"]
  | 5 =>
    ["GUH", "GUL", "GVH", "GVL", "GWH", "GWL", "VSS", "VCHA", "VCLA", "VCHB", "VCLB", "VCISP", "VCISN", "VCBP", "VCBN"]
  | _ => []

/-- The signals of a row of the host-side band, by column (R590, R591, R592). -/
def bandRow (row : String) : List String :=
  match row with
  | "L" =>
    ["PCIE_TXP0", "PCIE_TXN0", "VSS", "PCIE_TXP1", "PCIE_TXN1", "VSS", "PCIE_TXP2", "PCIE_TXN2", "KET_INP", "KET_INN", "VSS", "KET_OUTP",
   "KET_OUTN", "VSS", "KET_SYNC_INP", "KET_SYNC_INN", "VSS", "KET_SYNC_OUTP", "KET_SYNC_OUTN", "VSS", "NAND0_DQ0", "NAND0_DQ1",
   "NAND0_DQ2", "NAND0_DQ3", "VSS", "NAND1_DQ0", "NAND1_DQ1", "NAND1_DQ2", "NAND1_DQ3", "VSS"]
  | "M" =>
    ["VSS", "VSS", "VSS", "VSS", "VSS", "VSS", "VSS", "VSS", "PCIE_RCAL", "VSS", "XTAL_IN", "XTAL_OUT", "VSS", "VIN_SNS", "VHOLD_SNS",
   "THERMDP", "THERMDN", "ATEST", "VSS", "NAND_ZQ", "NAND0_DQ4", "NAND0_DQ5", "NAND0_DQ6", "NAND0_DQ7", "VDDQ_NAND", "NAND1_DQ4",
   "NAND1_DQ5", "NAND1_DQ6", "NAND1_DQ7", "VDDQ_NAND"]
  | "N" =>
    ["PCIE_TXP3", "PCIE_TXN3", "VSS", "PCIE_TXP4", "PCIE_TXN4", "VSS", "PCIE_TXP5", "PCIE_TXN5", "VDDIO_18", "VDD_CORE", "VDD_CORE",
   "VDD_CORE", "VDD_CORE", "VDD_CORE", "VDD_CORE", "VDD_CORE", "VDD_CORE", "VDD_CORE", "VDD_CORE", "VDDIO_18", "NAND0_DQS_T",
   "NAND0_DQS_C", "NAND0_RE_T", "NAND0_RE_C", "VSS", "NAND1_DQS_T", "NAND1_DQS_C", "NAND1_RE_T", "NAND1_RE_C", "VSS"]
  | "P" =>
    ["VSS", "VSS", "VSS", "VSS", "VSS", "VSS", "VSS", "VSS", "VDDIO_18", "VSS", "VDD_CORE", "VSS", "VDD_CORE", "VSS", "VDD_CORE", "VSS",
   "VDD_CORE", "VSS", "VDD_CORE", "VDDIO_18", "NAND0_WE_N", "NAND0_ALE", "NAND0_CLE", "NAND0_WP_N", "VDDQ_NAND", "NAND1_WE_N",
   "NAND1_ALE", "NAND1_CLE", "NAND1_WP_N", "VDDQ_NAND"]
  | "T" =>
    ["PCIE_TXP6", "PCIE_TXN6", "VSS", "PCIE_TXP7", "PCIE_TXN7", "VSS", "PCIE_REFCLKP", "PCIE_REFCLKN", "VDDIO_18", "VDD_CORE", "VDD_CORE",
   "VDD_CORE", "VDD_CORE", "VSS", "VSS", "VDD_CORE", "VDD_CORE", "VDD_CORE", "VDD_CORE", "VDDIO_18", "NAND0_CE0_N", "NAND0_CE1_N",
   "NAND0_CE2_N", "NAND0_CE3_N", "NAND0_RB_N", "NAND1_CE0_N", "NAND1_CE1_N", "NAND1_CE2_N", "NAND1_CE3_N", "NAND1_RB_N"]
  | "U" =>
    ["PCIE_RXP0", "PCIE_RXN0", "VSS", "PCIE_RXP1", "PCIE_RXN1", "VSS", "PCIE_RXP2", "PCIE_RXN2", "VDDIO_18", "VDD_CORE", "VDD_CORE",
   "VDD_CORE", "VDD_CORE", "VDD_CORE", "VDD_CORE", "VDD_CORE", "VDD_CORE", "VDD_CORE", "VDD_CORE", "VDDIO_18", "NAND2_DQ0", "NAND2_DQ1",
   "NAND2_DQ2", "NAND2_DQ3", "VSS", "NAND3_DQ0", "NAND3_DQ1", "NAND3_DQ2", "NAND3_DQ3", "VSS"]
  | "V" =>
    ["VPCIE_12", "VPCIE_12", "VPCIE_12", "VPCIE_12", "VPCIE_12", "VPCIE_12", "VPCIE_075", "VPCIE_075", "VDDIO_18", "VSS", "VDD_CORE",
   "VSS", "VDD_CORE", "VSS", "VDD_CORE", "VSS", "VDD_CORE", "VSS", "VDD_CORE", "VDDIO_18", "NAND2_DQ4", "NAND2_DQ5", "NAND2_DQ6",
   "NAND2_DQ7", "VDDQ_NAND", "NAND3_DQ4", "NAND3_DQ5", "NAND3_DQ6", "NAND3_DQ7", "VDDQ_NAND"]
  | "W" =>
    ["PCIE_RXP3", "PCIE_RXN3", "VSS", "PCIE_RXP4", "PCIE_RXN4", "VSS", "PCIE_RXP5", "PCIE_RXN5", "VDDA_12", "VDD_CORE", "VDD_CORE",
   "VDD_CORE", "VDD_CORE", "VDD_CORE", "VDD_CORE", "VDD_CORE", "VDD_CORE", "VDD_CORE", "VDD_CORE", "VDDA_12", "NAND2_DQS_T",
   "NAND2_DQS_C", "NAND2_RE_T", "NAND2_RE_C", "VSS", "NAND3_DQS_T", "NAND3_DQS_C", "NAND3_RE_T", "NAND3_RE_C", "VSS"]
  | "Y" =>
    ["PCIE_RXP6", "PCIE_RXN6", "VSS", "PCIE_RXP7", "PCIE_RXN7", "VSS", "PERST0_N", "PERST1_N", "QSPI_SCK", "QSPI_CS_N", "QSPI_IO0",
   "QSPI_IO1", "QSPI_IO2", "QSPI_IO3", "VSS", "I3C_SCL", "I3C_SDA", "VIB_SCK", "VIB_MOSI", "VIB_MISO", "NAND2_WE_N", "NAND2_ALE",
   "NAND2_CLE", "NAND2_WP_N", "VDDQ_NAND", "NAND3_WE_N", "NAND3_ALE", "NAND3_CLE", "NAND3_WP_N", "VDDQ_NAND"]
  | "AA" =>
    ["VPCIE_075", "VPCIE_075", "VPCIE_075", "VPCIE_075", "VPCIE_075", "PCIE_BIF", "CLKREQ0_N", "CLKREQ1_N", "VIB_CS_N", "RST_N", "SAFE_N",
   "ERR_N", "TEST_MODE", "TCK", "TMS", "TDI", "TDO", "TRST_N", "VSS", "VSS", "NAND2_CE0_N", "NAND2_CE1_N", "NAND2_CE2_N", "NAND2_CE3_N",
   "NAND2_RB_N", "NAND3_CE0_N", "NAND3_CE1_N", "NAND3_CE2_N", "NAND3_CE3_N", "NAND3_RB_N"]
  | _ => []

def supplyRails : List String := ["VSS", "VDD_CORE", "VDDA_09", "VDDA_12", "VDDIO_18", "VDDQ_NAND", "VPCIE_075", "VPCIE_12"]

/-- Every ball's signal: eight channel blocks and the host-side band. -/
def allBalls : List String :=
  (List.range 8).flatMap (fun _ => [1, 2, 3, 4, 5].flatMap templateRow) ++ ["L", "M", "N", "P", "T", "U", "V", "W", "Y", "AA"].flatMap bandRow

/-- The balls of a rail (R593). -/
def railBalls (r : String) : Nat := (allBalls.filter fun x => x == r).length

/-! ### Output states (R606) -/

/-- What an output ball does: a level, or one of the states that the table of R606 names. -/
inductive BallState where
  | low
  | high
  | parked
  | oneLevel
  | off
  | idle
  | released
  | driven
  deriving DecidableEq, Repr

/-- Whether the outputs of a domain are in the state of R606: during RST_N and while the domain is off. -/
def ballsQuiet (d : Nat) (s : State) : Bool := s.rst.rstLow || !domOn d s

def quietAs (d : Nat) (q : BallState) (s : State) : BallState := if ballsQuiet d s then q else .driven

/-- The spindle and voice-coil gates of a channel (R256). -/
def gateBalls (n : Ch) (s : State) : BallState := quietAs (4 * n.val + 3) .low s
/-- The write-data pair of a path: parked too while no gate of it is open (R119). -/
def writeBalls (n : Ch) (p : Pa) (s : State) : BallState :=
  if (s.pathSt n p).arm.any fun a => a.act == 2 && a.isOpen then quietAs (4 * n.val) .parked s else .parked
def fineBalls (n : Ch) (s : State) : BallState := quietAs (4 * n.val + 2) .oneLevel s
/-- The Kettle outputs: the chain breaks there (R294). -/
def kettleBalls (s : State) : BallState := quietAs 44 .off s
def psenBall (n : Ch) (s : State) : BallState := quietAs (4 * n.val + 1) .high s
def qspiCsBall (s : State) : BallState := quietAs 43 .high s
def nandCeBalls (s : State) : BallState := quietAs 42 .high s
/-- NANDk_WP_N. NAND_IO stays on until the end of R25. -/
def nandWpBalls (s : State) : BallState := quietAs 42 .low s
def pcieTxBalls (s : State) : BallState := quietAs 32 .idle s
/-- SAFE_N is low in the safe state and driven high after it (R521, R538). -/
def safeBall (s : State) : BallState := if s.flag F.FAULT_STAT_SAFE || s.flag F.FAULT_STAT_SELF then .low else .released
/-- ERR_N, open drain (R513, R599). -/
def errBall (s : State) : BallState := if errLow s then .low else .released

end Sys2Proof.Machine
end

