-- ==== Sys2Proof/WellFormed.lean ====
section
/-! DEFINITION. Well-formed commands: what the sender of a command keeps to by the widths and counts of the spec. A command
that is not well formed cannot be sent; `exec` is total on it all the same. -/

namespace Sys2Proof

/-- A number that fits in 16 bits: queue identifiers and doorbell values (R319, R320). -/
def word16 (v : Nat) : Bool := decide (v < 65536)

/-- A block: 4,096 data bytes and at most the 64 bytes of the metadata field (R53). -/
def Block.wf (b : Block) : Bool := b.data.length == 4096 && decide (b.md.length ≤ 64)

/-- The shock sample is a signed 12 bit number (R194). -/
def SampleObs.wf (o : SampleObs) : Bool := decide (-2048 ≤ o.shock) && decide (o.shock < 2048)

/-- A PWM period has 32 samples of each back-EMF ball (R265). -/
def PwmObs.wf (o : PwmObs) : Bool := o.term.length == 32

/-- The index phase is less than a revolution of 2^29 (R266). -/
def StrobeObs.wf (o : StrobeObs) : Bool := decide (0 ≤ o.index) && decide (o.index < 536870912)

/-- Four ONFI channels of four targets hold at most 16 dies (R381). -/
def CheckObs.wf (o : CheckObs) : Bool := decide (o.dies.length ≤ 16)

/-- A list of at most `n` ranges of 64 bit blocks and 32 bit counts (R326). -/
def rangesWf (n : Nat) (rs : List LRange) : Bool :=
  decide (rs.length ≤ n) && rs.all fun r => decide (r.lba < 2 ^ 64) && decide (r.cnt < 2 ^ 32)

/-- A store segment is a header of 160 bytes and at most 65,535 words of four bytes (R175). -/
def Segment.wf (g : Segment) : Bool := decide (g.bytes.length ≤ 0xA0 + 4 * 65535)

/-- An image fills at most a slot of 16 MiB, and gives at most one zone table and one calibration list for each channel (R563, R564). -/
def Image.wf (g : Image) : Bool :=
  decide (g.bytes.length ≤ 16777216) && decide (g.zones.length ≤ 8) && decide (g.calib.length ≤ 8) && g.segments.all Segment.wf

/-- The operands of a command keep to the spec's widths and counts. -/
def Instr.wf (i : Instr) : Bool :=
  match i with
  | .sqTailDoorbell _ qid tail => (word16 qid) && (word16 tail)
  | .cqHeadDoorbell _ qid head => (word16 qid) && (word16 head)
  | .commandFetch _ _ => true
  | .completionEntryHandoff _ => true
  | .completionPosted _ => true
  | .interruptCoalescingTimer _ vec => word16 vec
  | .hostDataTransferDone _ _ data => data.all Block.wf
  | .controllerEnable _ ams iosqes iocqes aqaSq aqaCq => decide (ams < 8) && decide (iosqes < 16) && decide (iocqes < 16) && decide (aqaSq < 4096) && decide (aqaCq < 4096)
  | .controllerReset _ => true
  | .runOnCommandsDone _ => true
  | .functionLevelReset _ => true
  | .perstAssert _ => true
  | .orderlyShutdown _ => true
  | .abruptShutdown _ => true
  | .hostLinkDown _ => true
  | .linkTrained _ rate width => decide (rate ≤ 6) && ([4, 8].contains width)
  | .poisonedHostWriteTlp _ => true
  | .deleteIoSubmissionQueue _ => true
  | .createIoSubmissionQueue _ => true
  | .deleteIoCompletionQueue _ => true
  | .createIoCompletionQueue _ => true
  | .identifyController _ => true
  | .identifyNamespace _ => true
  | .identifyIoCmdSetNamespace _ => true
  | .getLogErrorInformation _ => true
  | .getLogSmartHealth _ => true
  | .getLogFirmwareSlot _ => true
  | .getLogChangedNamespaceList _ => true
  | .getLogCommandsSupported _ => true
  | .getLogDeviceSelfTest _ => true
  | .getLogReservationNotification _ => true
  | .getLogSanitizeStatus _ => true
  | .getLogChannelStatus _ => true
  | .getLogFlyleafStatus _ => true
  | .getLogGatheringStatus _ => true
  | .getLogColophonRecords _ => true
  | .abort _ => true
  | .setFeatureArbitration _ => true
  | .setFeatureErrorRecovery _ => true
  | .setFeatureVolatileWriteCache _ => true
  | .setFeatureNumberOfQueues _ => true
  | .setFeatureInterruptCoalescing _ => true
  | .setFeatureAsyncEventConfig _ => true
  | .setFeatureHostIdentifier _ _ => true
  | .setFeatureGatheringLayout _ => true
  | .setFeatureDuplicateSuppression _ => true
  | .setFeatureKettleGroup _ => true
  | .channelStateEnable _ => true
  | .channelStateDisable _ => true
  | .channelStatePowerOff _ => true
  | .channelStateSpindleStart _ => true
  | .channelStateSpindleStop _ => true
  | .channelStateUnload _ => true
  | .getFeatures _ => true
  | .asyncEventRequest _ => true
  | .asyncEventPosted _ => true
  | .namespaceCreate _ desc => decide (desc.lbaf < 16)
  | .namespaceDelete _ => true
  | .namespaceAttach _ _ => true
  | .namespaceDetach _ _ => true
  | .firmwareImageDownload _ img => img.wf
  | .firmwareCommitReplace _ => true
  | .firmwareCommitReplaceActivate _ => true
  | .firmwareCommitImmediate _ => true
  | .deviceSelfTestShort _ => true
  | .deviceSelfTestExtended _ => true
  | .deviceSelfTestAbort _ => true
  | .nvmeMiSend _ => true
  | .nvmeMiReceive _ => true
  | .formatNvm _ => true
  | .sanitizeOverwrite _ => true
  | .flush _ => true
  | .write _ => true
  | .read _ => true
  | .writeZeroes _ => true
  | .datasetManagementDeallocate _ rs => rangesWf 256 rs
  | .verify _ => true
  | .reservationRegister _ _ _ _ => true
  | .reservationReport _ => true
  | .reservationAcquire _ _ _ _ _ => true
  | .reservationRelease _ _ _ => true
  | .copy _ rs => rangesWf 256 rs
  | .zoneManagementSend _ _ => true
  | .zoneManagementReceive _ => true
  | .zoneAppend _ => true
  | .stampOriginalEnded _ => true
  | .bookmarkExpire _ => true
  | .rangeLockGrant => true
  | .writeBufferReadWaitEnd _ => true
  | .schedTakeDescriptor _ _ => true
  | .workItemFinished _ _ => true
  | .destageComplete _ => true
  | .speculativeFillArrive _ _ _ data => data.all Block.wf
  | .speculativeSeek _ _ => true
  | .readDeadlineExpire _ => true
  | .firstPassDecodeEnd _ _ => true
  | .ladderRedecode _ _ => true
  | .ladderReeq _ _ => true
  | .ladderReader _ _ => true
  | .ladderSlip _ _ => true
  | .ladderBlind _ _ => true
  | .ladderReread _ _ => true
  | .ladderTa _ _ => true
  | .readSig _ _ => true
  | .writeSig _ _ => true
  | .verifySig _ _ => true
  | .scanServo _ _ => true
  | .formatTrack _ _ => true
  | .capture _ _ => true
  | .imageDefinedCommand _ _ => true
  | .partFirstBit _ _ _ => true
  | .partLastBit _ _ _ _ => true
  | .writeFifoReady _ _ _ => true
  | .preampFaultAssert _ head _ => decide (head < 32)
  | .preampFaultRelease _ => true
  | .preampFrameDone _ _ => true
  | .aluAdd _ _ _ _ _ => true
  | .aluSub _ _ _ _ _ => true
  | .aluAnd _ _ _ _ _ => true
  | .aluOr _ _ _ _ _ => true
  | .aluXor _ _ _ _ _ => true
  | .aluShl _ _ _ _ _ => true
  | .aluShr _ _ _ _ _ => true
  | .aluAsr _ _ _ _ _ => true
  | .aluShli _ _ _ _ _ => true
  | .aluShri _ _ _ _ _ => true
  | .aluMov _ _ _ _ => true
  | .aluNot _ _ _ _ => true
  | .aluCmp _ _ _ _ => true
  | .aluTst _ _ _ _ => true
  | .addi _ _ _ _ => true
  | .ldi _ _ _ _ => true
  | .andi _ _ _ _ => true
  | .ori _ _ _ _ => true
  | .cmpi _ _ _ _ => true
  | .jmp _ _ _ _ => true
  | .call _ _ _ _ => true
  | .ret _ _ _ => true
  | .loop _ _ _ _ => true
  | .setlc _ _ _ _ => true
  | .portIn _ _ _ _ => true
  | .portOut _ _ _ _ => true
  | .portOuti _ _ _ _ => true
  | .armCancel _ _ => true
  | .armCapture _ _ => true
  | .armWrite _ _ => true
  | .armVerify _ _ => true
  | .armScan _ _ => true
  | .armRaw _ _ => true
  | .portCommit _ _ => true
  | .portWfifoStart _ _ => true
  | .portPaCmd _ _ _ => true
  | .portFeCtl _ _ _ => true
  | .portTmaskWrite _ _ _ => true
  | .wait _ _ _ _ => true
  | .fetch _ _ => true
  | .prefetch _ _ => true
  | .done _ _ _ _ => true
  | .mret _ _ => true
  | .trap _ _ _ => true
  | .signal _ _ _ => true
  | .halt _ _ _ => true
  | .reservedOperation _ _ _ => true
  | .stitchTrapTaken _ _ => true
  | .stitchTimerExpire _ _ => true
  | .stitchWatchdogExpire _ _ => true
  | .stitchWatchdogHalt _ _ => true
  | .descPrefetchDeliver _ _ _ => true
  | .descPrefetchWithdraw _ _ => true
  | .workItemAbort _ _ => true
  | .storeSegmentLoad _ segs => segs.all Segment.wf
  | .storeWindowWrite _ _ _ _ => true
  | .stitchCtlHaltWrite _ _ _ => true
  | .stitchCtlStep _ _ => true
  | .servoSampleEvent _ o => o.wf
  | .idleSelfCheckTick _ _ _ => true
  | .switchGapEnd _ => true
  | .engineDisagree _ _ _ => true
  | .standbyReady _ => true
  | .hingeLinkLoss _ => true
  | .engineRecoveryCopyDone _ => true
  | .engineRecovered _ _ => true
  | .takeBack _ _ => true
  | .hingeForce _ _ _ _ => true
  | .loopImplausibleDeclare _ _ _ => true
  | .loopPlausibleRecover _ _ _ => true
  | .servoLost _ => true
  | .actRunaway _ _ _ => true
  | .onTrack _ _ => true
  | .seekTimeout _ => true
  | .seekRedirect _ _ => true
  | .spindleStrobe _ o => o.wf
  | .swapRequest _ _ => true
  | .swapCheckDone _ _ => true
  | .coefWindowWrite _ _ _ _ _ _ => true
  | .shockEvent _ => true
  | .shockHoldExpire _ => true
  | .rroConverged _ _ => true
  | .rroNoConvergence _ _ => true
  | .servoAcquired _ _ => true
  | .loadTimeout _ => true
  | .pwmPeriod _ o => o.wf
  | .motFault _ => true
  | .depthLimit _ => true
  | .motStart _ => true
  | .motStop _ => true
  | .motCoast _ => true
  | .motUnload _ => true
  | .motLoad _ => true
  | .senseEnd _ => true
  | .alignStepEnd _ => true
  | .rampHandover _ => true
  | .rampHandoverFail _ => true
  | .spinupTimeout _ => true
  | .brakePhaseTimer _ => true
  | .brakeTimeout _ => true
  | .rotorLost _ => true
  | .catchDetectorStart _ => true
  | .catchReacquire _ => true
  | .catchTimeout _ => true
  | .inTolerance _ => true
  | .spinOffTolerance _ => true
  | .runcfgDirWrite _ _ _ => true
  | .retractParkDetect _ => true
  | .retractHoldEnd _ => true
  | .retractTimeout _ => true
  | .voiceCoilPeriod _ _ _ => true
  | .ketEpochFrame _ _ _ => true
  | .ketVibFrame _ _ _ => true
  | .ketDreqFrame _ _ _ => true
  | .ketDrspFrame _ _ => true
  | .ketTailFrame _ => true
  | .ketEpochTick _ => true
  | .ketDreqTick _ => true
  | .ketTailTick => true
  | .ketVibRead _ _ => true
  | .ketLaneLock _ => true
  | .ketLaneLost _ => true
  | .ketHoldover => true
  | .ketSegmentHead => true
  | .ketAutoHead => true
  | .ketEnable _ => true
  | .flyEnable => true
  | .flyDisable => true
  | .flyStartDone _ => true
  | .flyPackTimeout => true
  | .flyPageProgramDone _ _ => true
  | .flyBandVerifyDone _ _ => true
  | .flyDestagePageTimer => true
  | .flyBookmarkPageTimer => true
  | .flyCollectionStart _ => true
  | .flyVictimErase _ => true
  | .flyEraseDone _ _ _ => true
  | .flyDieFail _ _ => true
  | .flyDrained => true
  | .flyWarmOffer sn way load => decide (sn < 16384) && decide (way < 16) && decide (load ≤ 100)
  | .gathLayoutCommit _ => true
  | .gathIntentProgram => true
  | .gathStripeUpdate _ _ _ old => old.all fun x => x.2.wf
  | .gathStartResync _ _ _ => true
  | .gathChannelUnavailable _ => true
  | .gathChannelLost _ => true
  | .gathChannelResync _ _ _ => true
  | .gathReconstruct _ _ _ fetched => fetched.all fun x => x.2.wf
  | .gathRebuildStrip _ _ _ => true
  | .cacheFill _ _ _ blks => blks.all fun x => x.2.wf
  | .cacheOfferDecided sn way _ => decide (sn < 16384) && decide (way < 16)
  | .cacheOfferTimeout sn way => decide (sn < 16384) && decide (way < 16)
  | .cacheWaylockWrite _ => true
  | .cacheMaintInvalidate => true
  | .cacheMaintCleanInvalidate => true
  | .cacheMaintPrefetch => true
  | .cacheMaintDone => true
  | .cacheTagSelect _ _ => true
  | .dramUncorrectable _ _ => true
  | .dramPcFail _ => true
  | .fabricStarvePromote => true
  | .reamAlloc _ _ n => decide (1 ≤ n) && decide (n ≤ 512)
  | .reamShare _ _ => true
  | .reamRelease _ _ => true
  | .reamFree _ _ => true
  | .reamGive _ _ _ => true
  | .reamWaitGrant _ => true
  | .reamRefill _ => true
  | .reamSpill _ => true
  | .reamAuditDone _ => true
  | .reamChannelReclaim _ => true
  | .reamPoolEnable _ _ => true
  | .dmaTailWrite _ _ => true
  | .dmaDescriptorDone _ _ _ => true
  | .dmaAbort _ _ => true
  | .dmaClrHalt _ => true
  | .sramCorrectableError _ _ _ => true
  | .memprotRemapMove _ _ => true
  | .sramUncorrectableError _ _ => true
  | .memprotFlipArm _ _ => true
  | .faultSourceLatch _ => true
  | .faultStatusClear _ _ => true
  | .faultForceSafe _ => true
  | .faultChipRst => true
  | .faultSelf => true
  | .mgmtChannelReenable _ => true
  | .mgmtWdog => true
  | .pllUnlock _ => true
  | .crystalStop => true
  | .tempSample _ => true
  | .tempCrit => true
  | .coloMirrorPage _ => true
  | .coloReservationExtend => true
  | .coloChallengeRead => true
  | .coloClear _ _ => true
  | .coloLockoutEnd => true
  | .powerLoss => true
  | .railTrip => true
  | .brownOutReset => true
  | .powerOnReset _ _ => true
  | .rstNAssert => true
  | .chipResetTaken => true
  | .bootImageCheck _ _ => true
  | .rollbackFuseUpdate => true
  | .fuseProgramCommit _ _ _ => true
  | .pwrDomctlWrite _ _ _ => true
  | .domainOnComplete _ _ => true
  | .clkSscWrite _ _ => true
  | .channelReset _ _ => true
  | .ketBlockReset => true
  | .flyBlockReset => true
  | .gathBlockReset => true
  | .cacheBlockReset => true
  | .reamBlockReset => true
  | .dmaBlockReset => true
  | .memprotBlockReset => true
  | .channelEnable _ => true
  | .channelDisable _ => true
  | .channelReady _ _ => true
  | .channelFence _ => true
  | .expertUnlockFirst _ _ => true
  | .expertUnlockSecond _ _ => true
  | .expertClose _ _ => true
  | .accerrClear => true
  | .registerWrite _ _ bytes _ => [1, 2, 4, 8].contains bytes
  | .sidebandRead32 _ => true
  | .sidebandWrite32 _ _ => true
  | .sidebandRead64 _ => true
  | .sidebandWrite64 _ _ => true
  | .miReadDataStructure => true
  | .miSubsystemHealthPoll => true
  | .miControllerHealthPoll _ => true
  | .miConfigurationSet _ _ => true
  | .miConfigurationGet _ => true
  | .miAdminCommand _ _ => true
  | .i3cEntdaa _ => true
  | .i3cSetdasa _ _ => true
  | .i3cRstdaa => true
  | .i3cGetpid => true
  | .i3cGetbcr => true
  | .i3cGetdcr => true
  | .i3cGetmwl => true
  | .i3cGetmrl => true
  | .i3cSetmwl _ => true
  | .i3cSetmrl _ => true
  | .i3cEnec _ => true
  | .i3cDisec _ => true
  | .zoneReady _ _ => true
  | .consistencyCheckEnd _ o => o.wf
  | .rstNRelease => true
  | .perstRelease _ => true
  | .vholdBelowMinimum => true
  | .hostAerUncorrectable _ => true
  | .flyPageReadDone _ _ _ => true
  | .hingeSelectionDisagree _ => true

end Sys2Proof
end

