-- ==== Sys2Proof/Tests/Slice0.lean ====
section
/-! SUPPORT. Tests of the model: values that the spec prints, the well-formed check with a term for each of its tests, and for each
statement of Certificates/Slice0/Obligations.lean a concrete state and operands that meet its hypotheses, each clause its own. -/

namespace Sys2Proof.Tests
open Sys2Proof Sys2Proof.Machine
set_option Elab.async false

/-! ### The states and commands of the tests -/

/-- Every domain of the part is on. -/
def on : State := (State.reset.set (F.PWR_DOMSTAT_ON 0) 0xFFFFFFFF).set (F.PWR_DOMSTAT_ON 1) 0x3FFFF
/-- No Stitcher of channel n is held by CTL.HALT. -/
def free (n : Ch) : State := on.set (F.STITCH_CTL_HALT n) 0
def safe : State := on.setFlag F.FAULT_STAT_SAFE true
def ploss : State := on.setFlag F.PWR_SUPPLY_PLOSS true
/-- A chip reset runs. -/
def inReset : State := { on with rst := { on.rst with chip := some (1, none) } }
/-- A descriptor of path 3: surface 3, track 9, slot 0, zone 0, tag 5; its check is that of R63. -/
def aDesc : Desc := #v[0x801, 0, 0, 0, 0x03000009, 0, 0, 0, 0x07000000, 0x50000, 0, 0xC50E2F5D]
def withCur (n : Ch) (p : Pa) (d : Desc) (s : State) : State := s.modStit n p fun x => { x with cur := some d }
def anArm (a : Fin 6) : Arm := ⟨a, 0, 2, 0, 0, false, false, false, none⟩
def withArm (n : Ch) (p : Pa) (a : Arm) (s : State) : State := s.modPath n p fun q => { q with arm := some a }
/-- The little-endian bytes of a number. -/
def le (k v : Nat) : List Byte := (bytesLe k v).map (BitVec.ofNat 8)
/-- A base segment of 273 words of zeros with `c` as its count, for every channel; its hash is that of 273 words. -/
def segmentOf (c : Nat) : Segment :=
  ⟨le 14 0x0000FF000003000000015C1D0E08 ++ le 2 c ++ le 48 0x047f989d6e4b930e0210c531339c376e9775e3c417356ef6ecde181dffee409cd4d7054209eb9c9490b33d462b60772a ++
    List.replicate 1188 0, true, true⟩
def aSegment : Segment := segmentOf 0x111
def aNs : Ns := {
  nsid := 1, stream := false, place := 0, strict := false, dup := false, window := 0, zoned := false, base := 0, nsze := 1024, lbaf := 0,
  pi := 0, mset := false, tler := 0, attach := [0], zones := [], resv := ⟨[], none, none, 0, false⟩, busy := false, bad := [] }
/-- A command just fetched: number 0 of controller 0, for namespace 1. -/
def aCmd (qid : Nat) (e : Sqe) : Cmd := {
  k := 0, ctl := 0, qid := qid, e := e, posting := false, started := false, status := none, dw0 := 0, dw1 := 0, dead := false, ranges := [],
  wr := false, handles := [], wantBuf := 0, wantXfer := false, items := 0, ents := 0, begun := false, seq0 := 0, seqLen := 0, verWait := [], zmd := [],
  stampWait := none, lockWait := false, after := none, delQ := none, err := none, todo := [], shares := [], srcs := [], phase := 0,
  waitChk := none, data := [], done := false }
def adm (opc : Byte) (d10 d11 : W32) : Cmd := aCmd 0 { opc := opc, cid := 1, nsid := 1, cdw10 := d10, cdw11 := d11 }
def io (opc : Byte) (d10 d12 : W32) : Cmd := aCmd 1 { opc := opc, cid := 1, nsid := 1, cdw10 := d10, cdw12 := d12 }
def put (c : Cmd) (s : State) : State := s.modHost fun h => { h with cmds := [c] }
def withNs (v : Ns) (s : State) : State := s.modHost fun h => { h with nss := [v] }
/-- Pool 15 is enabled with 65,536 buffers, of which the last has a control word. -/
def withBuf (w : Nat) : State :=
  ((on.setFlag (F.REAM_POOLCFG_EN 15) true).set (F.REAM_POOLCFG_COUNT 15) 65536).modReam fun r => { r with ctl := r.ctl.set 0x0F00FFFF w }
/-- Pool 15 is enabled with 65,536 buffers, and serves use 0. -/
def withPool (p : Pool) : State :=
  (((on.setFlag (F.REAM_POOLCFG_EN 15) true).set (F.REAM_POOLCFG_COUNT 15) 65536).set (F.REAM_USE_POOL 0) 15).modPool 15 fun _ => p
def caching : State := ((on.setFlag F.CACHE_CFG_EN true).setFlag F.CACHE_CFG_FILL_EN true)
def aWay : Way := ⟨16383, 15, 0xFFFF, false, false, true, 1, 0⟩
def withWay (v : Way) : State := caching.modCache fun x => { x with ways := [v] }
/-- The first n entries of the error log are taken. -/
def logged (n : Nat) : State := (List.range n).foldl (fun s i => s.setFlag (F.MEMPROT_LOG_VALID i) true) on
/-- The spindle of channel n is in a state. -/
def mot (n : Ch) (st : Nat) : State := on.set (F.MOT_STAT_STATE n) st
/-- The heads of channel n are loaded, its spindle in RUN. -/
def loaded (n : Ch) : State := (mot n stRun).setFlag (F.CTL_STAT_LOADED n) true
/-- Engine B of channel n is in control when `c` is 1; the states of both engines. -/
def eng (n : Ch) (c a b : Nat) : State := ((on.set (F.HINGE_STAT_IN_CTRL n) c).set (engField n false) a).set (engField n true) b
/-- The inactive bank of loop 5 of channel 7 has a bad word. -/
def badBank (s : State) : State :=
  { s with banks := s.banks.set 7 (s.banks[7].set (256 * (2 * 5 + (!activeBank 7 5 s).toNat) + 255) 1) }
/-- The Kettle link is on. -/
def linked : State := on.setFlag F.KET_ENABLE_EN true
/-- Word `i` of bank 1 of loop 0 of channel 7 in both engines. -/
def bankSet (i v : Nat) (s : State) : State := putBank 7 0 true i v s
/-- Bank 1 of loop 0 of channel 7 holds a valid bank of zero coefficients, and its check runs. -/
def goodBank : State := (bankSet 255 1724987176 (bankSet 0 0xC0E50000 on)).modServo 7 fun v => { v with chk := 1 }
/-- The same bank with the bit that clears the states of the loop. -/
def oddBank : State := bankSet 0 0xC0E50001 on
/-- The register of CRC-32C after a list of bytes, each step computed before the next. -/
def crcGo : List Nat → Nat → Nat
  | [], c => c
  | b :: bs, c => if c = 0 then crcGo bs (crc32cByte 0 b) else crcGo bs (crc32cByte c b)
theorem crcGo_eq (bs : List Nat) : ∀ c, bs.foldl crc32cByte c = crcGo bs c := by
  induction bs with
  | nil => intro c; rfl
  | cons b bs ih =>
    intro c
    simp only [List.foldl, crcGo, ih]
    split
    · next h => rw [h]
    · rfl
theorem goodBank_valid : bankValid 7 0 true goodBank = true := by
  have h : ∀ e, bankWords 7 e 0 true goodBank = 0xC0E50000 :: (List.replicate 254 0 ++ [1724987176]) := by decide +kernel
  have f : ((0xC0E50000 :: (List.replicate 254 0 ++ [1724987176])).take 255).flatMap (bytesLe 4) = [0, 0, 0xE5, 0xC0] ++ List.replicate 1016 0 := by
    decide +kernel
  have c : crc32c ([0, 0, 0xE5, 0xC0] ++ List.replicate 1016 0) = 1724987176 := by rw [crc32c, crcGo_eq]; decide +kernel
  have v : ∀ e, bankValidIn 7 e 0 true goodBank = true := by
    intro e; simp only [bankValidIn, h, f, c]; decide +kernel
  simp [bankValid, v]
/-- A continuation on a value that is computed first. -/
def force {α : Type} (v : W64) (f : W64 → α) : α := match v.toNat with | 0 => f 0 | k + 1 => f (BitVec.ofNat 64 (k + 1))
theorem force_eq {α : Type} (v : W64) (f : W64 → α) : force v f = f v := by
  unfold force
  split
  · next h => congr 1; exact (BitVec.eq_of_toNat_eq (by simpa using h)).symm
  · next k h => congr 1; apply BitVec.eq_of_toNat_eq; simp only [BitVec.toNat_ofNat]; rw [show k + 1 = v.toNat from h.symm, Nat.mod_eq_of_lt v.isLt]
/-- The same for each word of a list. -/
def forceAll {α : Type} : List W64 → (List W64 → α) → α
  | [], f => f []
  | v :: l, f => force v fun x => forceAll l fun y => f (x :: y)
theorem forceAll_eq {α : Type} : ∀ (l : List W64) (f : List W64 → α), forceAll l f = f l
  | [], f => rfl
  | v :: l, f => by simp only [forceAll, force_eq]; exact forceAll_eq l _
/-- The rounds, each state computed before the next. -/
def rounds : List (W64 × W64) → List W64 → List W64
  | [], st => st
  | x :: r, st => forceAll (shaRound st x) (rounds r)
theorem rounds_eq : ∀ (l : List (W64 × W64)) (st : List W64), l.foldl shaRound st = rounds l st
  | [], _ => rfl
  | x :: r, st => by simp only [List.foldl, rounds, forceAll_eq]; exact rounds_eq r _
/-- The schedule, each word computed before the next. -/
def expand : Nat → List W64 → List W64
  | 0, w => w
  | k + 1, w => forceAll (shaExpand 1 w) (expand k)
theorem expand_eq : ∀ (k : Nat) (w : List W64), shaExpand k w = expand k w
  | 0, _ => rfl
  | k + 1, w => by simp only [expand, forceAll_eq]; exact expand_eq k _
/-- The round constants and the initial state as FIPS 180-4 lists them. -/
def kTable : List W64 := [0x428A2F98D728AE22, 0x7137449123EF65CD, 0xB5C0FBCFEC4D3B2F, 0xE9B5DBA58189DBBC, 0x3956C25BF348B538, 0x59F111F1B605D019, 0x923F82A4AF194F9B,
  0xAB1C5ED5DA6D8118, 0xD807AA98A3030242, 0x12835B0145706FBE, 0x243185BE4EE4B28C, 0x550C7DC3D5FFB4E2, 0x72BE5D74F27B896F, 0x80DEB1FE3B1696B1,
  0x9BDC06A725C71235, 0xC19BF174CF692694, 0xE49B69C19EF14AD2, 0xEFBE4786384F25E3, 0xFC19DC68B8CD5B5, 0x240CA1CC77AC9C65, 0x2DE92C6F592B0275,
  0x4A7484AA6EA6E483, 0x5CB0A9DCBD41FBD4, 0x76F988DA831153B5, 0x983E5152EE66DFAB, 0xA831C66D2DB43210, 0xB00327C898FB213F, 0xBF597FC7BEEF0EE4,
  0xC6E00BF33DA88FC2, 0xD5A79147930AA725, 0x6CA6351E003826F, 0x142929670A0E6E70, 0x27B70A8546D22FFC, 0x2E1B21385C26C926, 0x4D2C6DFC5AC42AED,
  0x53380D139D95B3DF, 0x650A73548BAF63DE, 0x766A0ABB3C77B2A8, 0x81C2C92E47EDAEE6, 0x92722C851482353B, 0xA2BFE8A14CF10364, 0xA81A664BBC423001,
  0xC24B8B70D0F89791, 0xC76C51A30654BE30, 0xD192E819D6EF5218, 0xD69906245565A910, 0xF40E35855771202A, 0x106AA07032BBD1B8, 0x19A4C116B8D2D0C8,
  0x1E376C085141AB53, 0x2748774CDF8EEB99, 0x34B0BCB5E19B48A8, 0x391C0CB3C5C95A63, 0x4ED8AA4AE3418ACB, 0x5B9CCA4F7763E373, 0x682E6FF3D6B2B8A3,
  0x748F82EE5DEFB2FC, 0x78A5636F43172F60, 0x84C87814A1F0AB72, 0x8CC702081A6439EC, 0x90BEFFFA23631E28, 0xA4506CEBDE82BDE9, 0xBEF9A3F7B2C67915,
  0xC67178F2E372532B, 0xCA273ECEEA26619C, 0xD186B8C721C0C207, 0xEADA7DD6CDE0EB1E, 0xF57D4F7FEE6ED178, 0x6F067AA72176FBA, 0xA637DC5A2C898A6,
  0x113F9804BEF90DAE, 0x1B710B35131C471B, 0x28DB77F523047D84, 0x32CAAB7B40C72493, 0x3C9EBE0A15C9BEBC, 0x431D67C49C100D4C, 0x4CC5D4BECB3E42B6,
  0x597F299CFC657E2A, 0x5FCB6FAB3AD6FAEC, 0x6C44198C4A475817]
theorem primes_eq : shaPrimes = [2, 3, 5, 7, 11, 13, 17, 19, 23, 29, 31, 37, 41, 43, 47, 53, 59, 61, 67, 71, 73, 79, 83, 89, 97, 101, 103, 107, 109, 113, 127, 131, 137,
  139, 149, 151, 157, 163, 167, 173, 179, 181, 191, 193, 197, 199, 211, 223, 227, 229, 233, 239, 241, 251, 257, 263, 269, 271, 277, 281, 283,
  293, 307, 311, 313, 317, 331, 337, 347, 349, 353, 359, 367, 373, 379, 383, 389, 397, 401, 409] := by decide +kernel
theorem kTable_eq : shaK = kTable := by rw [shaK, primes_eq]; decide +kernel
def iTable : List W64 := [0xCBBB9D5DC1059ED8, 0x629A292A367CD507, 0x9159015A3070DD17, 0x152FECD8F70E5939, 0x67332667FFC00B31, 0x8EB44A8768581511, 0xDB0C2E0D64F98FA7,
  0x47B5481DBEFA4FA4]
theorem iTable_eq : shaInit = iTable := by rw [shaInit, primes_eq]; decide +kernel
/-- The blocks absorbed, each state computed before the next. -/
def absorb : Nat → List W64 → List W64 → List W64
  | 0, st, _ => st
  | k + 1, st, ws =>
    if ws.isEmpty then st else forceAll ((rounds (kTable.zip (expand 64 (ws.take 16))) st).zipWith (· + ·) st) fun y => absorb k y (ws.drop 16)
theorem absorb_eq : ∀ (k : Nat) (st ws : List W64), shaAbsorb k st ws = absorb k st ws
  | 0, _, _ => rfl
  | k + 1, st, ws => by
    simp only [shaAbsorb, absorb, forceAll_eq, shaBlock, rounds_eq, expand_eq, kTable_eq]
    split
    · rfl
    · exact absorb_eq k _ _
/-- SHA-384 for the kernel to compute. -/
def sha (bs : List Nat) : List Nat :=
  let n := bs.length
  let pad := (240 - (n + 1) % 128) % 128
  let msg := bs ++ [0x80] ++ List.replicate (pad + 8) 0 ++ (List.range 8).map fun i => n * 8 / 256 ^ (7 - i) % 256
  ((absorb (msg.length / 128) iTable (shaWords (msg.length / 8) msg)).take 6).flatMap fun w => (List.range 8).map fun i => w.toNat / 256 ^ (7 - i) % 256
theorem sha_eq (bs : List Nat) : sha384 bs = sha bs := by simp only [sha384, sha, absorb_eq, iTable_eq]
/-- The example of one block of FIPS 180-4: the digest of "abc". -/
theorem test_sha384_abc : (sha384 [0x61, 0x62, 0x63]).foldl (fun a b => a * 256 + b) 0 =
    0xcb00753f45a35e8bb5a03d699ac65007272c32ab0eded1631a8b605a43ff5bed8086072ba1e7cc2358baeca134c825a7 := by
  rw [sha_eq]; decide +kernel
/-- The journal in a state, with the host band open on the dies 0 and 1, die 1 its parity die, one page of die 0 left. -/
def journal (st : Nat) : State :=
  ((((on.setFlag F.FLY_ENABLE_EN true).set F.FLY_STAT_STATE st).set F.FLY_DIE_IN_SERVICE 3).set F.FLY_GEOM_PAGES 4).modFly fun y =>
    { y with blks := [⟨0, 0, .opened, 0, 1, 3⟩, ⟨1, 0, .opened, 0, 1, 0⟩], bands := [⟨1, true, .opened, 1⟩] }
def anEntry : FEntry := {
  seq := 0, lba := 0, cnt := 1, nsid := 1, gen := 0, kind := 1, bm := false, copy := false, pos := 0, len := 1, stamp := 0, opc := 1, act := 0,
  bmLba := 0, bmCnt := 0, blk := ⟨[], []⟩, zpi := none }
def aPage : FPage := ⟨9, 0, 0, 0, 1, 1, 0, 0, [anEntry], [], []⟩
/-- Layout 0 is committed on the channels 0 to 3 with K = 2 and M = 1. -/
def gathered : State :=
  (((((on.set (F.GATH_LAYOUT_CHAN_MASK 0) 0xF).set (F.GATH_LAYOUT_K 0) 2).set (F.GATH_LAYOUT_M 0) 1).set (F.GATH_EXTENT_EXTENT 0) 300).set
    (F.GATH_LSTAT_STATE 0) 1).modHost fun h => { h with nss := [{ aNs with place := 0x80 }] }
def gathNs : Ns := { aNs with place := 0x80 }
/-- The version of a write of the blocks 0 to 127 of namespace 1, running. -/
def aVer : WbVer := ⟨0, 1, 0, 128, 1, none, 0, true, true, none, false⟩
/-- A write of a whole stripe of layout 0 holds the stripe, its intent recorded, and pool 15 serves use 3. -/
def updating : State :=
  ((((gathered.setFlag (F.REAM_POOLCFG_EN 15) true).set (F.REAM_POOLCFG_COUNT 15) 65536).set (F.REAM_USE_POOL 3) 15).modLayout 0 fun y =>
    { y with locks := [(0, 0, 0)], intents := [(0, 1)] }).modHost fun h => { h with wb := [aVer] }
/-- Channel n has EN set, or a check running, in a phase. -/
def phase (n : Ch) (ph : Nat) : State := (on.setFlag (F.PAGE_ENABLE_EN n) (ph != 1)).set (F.PAGE_ENABLE_PHASE n) ph
/-- A Cyhal image of 288 bytes without sections, with a rollback version; its hash is that of its body. -/
def imageOf (roll : Nat) : Image := {
  bytes := le 14 0x00010000012000010001C7A11A6E ++ le 1 roll ++ le 17 0 ++
    le 48 0x20ec0e70b9278eee751e4911a12635e535f676ceffed3221f1406444fa1e82dbd72dd11baebe1504a73a0eee3abf0c3e ++ List.replicate 208 0
  sigOk := true, ssvid := 0, ssid := 0, i3cAddr := 0x1D, spinCount := 8, zones := [], calib := [], segments := [], profile := [], banks := [],
  scratch := [], nand := none, imgCmds := [] }
def anImage : Image := imageOf 0
/-- The SHA-384 of its public key. -/
def aKeyHash : Nat := 0xa919f9d2beaa656505e99f8100c2c2a74cfbcc0b2ebc530e18505fe7a8807daf4bc66af59ecc1b44717d41b2c85e02a
def aSq : Sq := ⟨0, 1, 4, 1, 0, 2, 1, false⟩
def aCq : Cq := ⟨0, 1, 4, 1, true, 0, 0, 0, true, []⟩
/-- An I/O queue pair of controller 0 with identifier 1, one entry waiting. -/
def queues : State := on.modHost fun h => { h with sqs := [aSq], cqs := [aCq] }
def zonedNs : Ns := { aNs with zoned := true, nsze := 786432, zones := [⟨0, 0⟩, ⟨2, 5⟩, ⟨4, 262144⟩] }
/-- A zone table: four surfaces; zone 0 of 16 tracks, zone 31 of 28 tracks and the system area. -/
def aZt : ZoneTable := {
  rpm := 7200, surfaces := 4, ver := 1, needBase := 0, first := List.replicate 4 (0 :: List.replicate 31 16), tracks := List.replicate 4 300,
  spare := List.replicate 4 (List.replicate 32 1), dflt := [], wset := [] }
/-- Channel 3 of layout 0 is lost and being rebuilt into spare tracks of channel 0. -/
def rebuilding : State :=
  (((gathered.set (F.GATH_LSTAT_LOST 0) 8).setFlag F.GATH_REBUILD_ACTIVE true).set (F.GATH_LAYOUT_SPARE 0) 1).modChan 0 fun c =>
    { c with zt := some aZt, sched := { c.sched with runs := [⟨0, 64, true, 0⟩] } }
/-- Channel 0 has its zone table. -/
def formatted : State := on.modChan 0 fun c => { c with zt := some aZt }
/-- The descriptor of a write in the place of `aDesc`. -/
def aWrite : Desc := #v[0x802, 0, 0, 0, 0x03000009, 0, 0, 0, 0x07000000, 0x50000, 0, 0x65FD431C]
def anItem (d : Desc) (k : ItemKind) : Item := Item.new d k [0] (Vector.replicate 4 none) 3
/-- Channel 0 is ready and its work ring holds the items given. -/
def ringed (is : List Item) : State :=
  ((formatted.set (F.PAGE_ENABLE_PHASE 0) 3).setFlag (F.PAGE_ENABLE_EN 0) true).modSched 0 fun y => { y with ring := is }
/-- An item that its path has ended with a result word. -/
def ended (d : Desc) (k : ItemKind) (res : Nat) : Item :=
  { anItem d k with taken := true, ended := Vector.replicate 4 true, res := Vector.replicate 4 (some res) }
def noOut : DetOut := ⟨[], [], [], Vector.replicate 3 0, Vector.replicate 3 0⟩
def obs (conv chk : Bool) : DecodeObs := ⟨some 0, some 0, false, false, 0, 0, ⟨conv, chk, [], []⟩, noOut⟩
/-- A stored sector of a descriptor whose readers have all dropped. -/
def aBuf (act : Fin 6) (d : Desc) : SampleBuf := ⟨act, d, [], none, none, [], 7, false, Vector.replicate 3 0, 0⟩
def aRun (op : Nat) : StepRun := ⟨op, 1, 0, 7, 0, false⟩
/-- A ladder of path 3 at step 15 with kept samples, its step of operation `op` in progress. -/
def aLadder (op : Nat) : Ladder :=
  ⟨3, ⟨3, 9, 0⟩, aDesc, 15, some (aRun op), some (aBuf 1 aDesc), Vector.replicate 3 0, 5, [0], [], none, some (1, 0)⟩
/-- Channel 0 has one ladder at step 15, whose operation is `op`. -/
def laddered (op : Nat) : State :=
  ((ringed []).set (F.DET_LADDER_OP 0 15) op).modSched 0 fun y => { y with ladders := [aLadder op] }
/-- The sample store of path 3 of channel 0 holds the sector of its descriptor. -/
def stored (act : Fin 6) (i : Item) : State :=
  (withCur 0 3 i.desc (ringed [{ i with taken := true }])).modPath 0 3 fun q => { q with wait := [aBuf act i.desc] }
/-- Nothing holds the gate of path 3 of channel 0 closed but the FIFO. -/
def gateFree : State :=
  (((withCur 0 3 aWrite (ringed [])).set (F.CTL_STAT_PLAUS 0) 0x3F).set (F.CTL_RROSTAT_CONV 0) 0xFFFFFFFF).setFlag (F.MOT_STAT_IN_TOL 0) true
theorem aSegment_hash : aSegment.hashOk = true := by rw [Segment.hashOk, sha_eq]; decide +kernel
theorem anImage_hash : anImage.hashOk = true := by rw [Image.hashOk, sha_eq]; decide +kernel
theorem anImage_key : anImage.pubHash = aKeyHash := by rw [Image.pubHash, sha_eq]; decide +kernel
/-- Channel 7 has measured the electrical speed `w` in SENSE, at 7,200 rpm. -/
def sensed (w : Int) : State :=
  let s := (((mot 7 stSense).set (F.MOT_MODEL1_K_E 7) 0).modMot 7 fun m => { m with adv := w, periods := 1 })
  { s with boot := { s.boot with image := some { anImage with zones := List.replicate 8 (some aZt) } } }
/-- The coil of channel 7 retracts without current, 799 periods at rest. -/
def resting : State :=
  ((on.set (F.MOT_RETCFG_RET_ILIM 7) 0).set (F.MOT_RETCFG_RET_VEL 7) 1).modMot 7 fun m => { m with vc := .retract, parkRun := 799 }
theorem resting_aim (b : Int) : coilAim 7 0 b resting = 0 := by
  have v : (resting.mot 7).vc = .retract := by decide +kernel
  have f : coilFrac 7 (resting.get (F.MOT_RETCFG_RET_ILIM (7 : Ch))) resting = 0 := by decide +kernel
  simp only [coilAim, v, f, clampI]
  split <;> (try split) <;> omega

/-! ### Tests whose expected values the spec prints -/

/-- The write routine of the example of 05_stitcher.md, words 0x0400 to 0x0424. -/
theorem test_write_routine : [0x793001, 0x793801, 0x792001, 0x684040, 0x084219, 0x2047FF, 0x704800, 0x790802, 0x804000, 0x806000, 0x802000, 0x808000,
    0x688940, 0x208002, 0x402422, 0x450422, 0x800000, 0x68C680].map decodeMicro =
    [.outi 0x26 1, .outi 0x27 1, .outi 0x24 1, .inp 1 1, .alu 9 1 1 1, .andi 1 0x7FF, .outp 1 0x20, .outi 0x21 2, .wait false 2, .wait false 3,
      .wait false 1, .wait false 4, .inp 2 0x25, .andi 2 2, .jmp 1 0x422, .jmp 0x28 0x422, .wait false 0, .inp 3 0x1A] := by decide +kernel
theorem test_write_routine_end : [0x690880, 0x08064C, 0x40440F, 0x694600, 0x698700, 0x080A6C, 0x694640, 0x698740, 0x791801, 0x80E000, 0x313FFF, 0x810000,
    0x9A0000, 0x880000].map decodeMicro =
    [.inp 4 0x22, .alu 12 0 3 4, .jmp 2 0x40F, .inp 5 0x18, .inp 6 0x1C, .alu 12 0 5 6, .inp 5 0x19, .inp 6 0x1D, .outi 0x23 1, .wait false 7,
      .cmpi 4 0x3FFF, .wait false 8, .done false true, .fetch] := by decide +kernel
/-- R88. -/
theorem test_shifts : [blockShift 0 0, blockShift 6 0, blockShift 12 0, blockShift 1 0] = [some 0, some 182, some 108, none] := by decide
/-- Example of 02_media_format.md: slots 3 and 5 of zone 0 at 7,200 rpm. -/
theorem test_slots : (usableBits 7200 0, slotSplit 7200 0 3, slotCut 7200 0 3, slotSplit 7200 0 5, slotWindow 7200 0 5, slotsPerTrack 7200 0) =
    (126560, true, 9824, false, 1, 1665) := by decide +kernel
/-- A wedge of track 1,000, number 5, runout field 0x0100 with its CRC 0x15, burst sums of the example of 06_servo_control.md. -/
def aWedge : Wedge :=
  ⟨List.replicate 8 false ++ bitsMsb 24 0xC35A96 ++ bitsMsb 48 0x5555555956A5 ++ bitsMsb 24 0x555995 ++ bitsMsb 48 0x555655555666, [3600], [-400], [2400],
    [1000, -600]⟩
/-- The offset is 0.1 track, to the rounding of n = 0.2 in steps of 2^-15. -/
theorem test_wedge : (wedgeTrack aWedge, wedgeField aWedge, wedgeRro aWedge, burstOffset aWedge 1000 0) =
    (some 1000, some (5, false), (0x100, true), 6554) := by decide +kernel
/-- The depth of two sampling windows (08_spindle.md). -/
theorem test_depth : (pwmDepth 5 (on.set (F.MOT_PWMCFG_WIN 5) 500), pwmDepth 5 on) = (0xE14, 0xF0A) := by decide +kernel
/-- Block 1,000,000 of namespace 3 in both variants (14_buffer_cache.md). -/
theorem test_cache_place : (lineSet 3 62500 on, lineSet 3 62500 { on with small := true }, wayUnit 15410 5 on * 4096) =
    (15410, 7218, 10 * 0x80000000 + 0x78650000) := by decide +kernel
/-- Block 1,000,100 of a 4 + 2 layout (13_gathering.md): channel 2, strip 3,348; P on channel 5 and Q on channel 6. -/
theorem test_gathered_place :
    let s := ((on.set (F.GATH_LAYOUT_CHAN_MASK 0) 0xEF).set (F.GATH_LAYOUT_K 0) 4).set (F.GATH_LAYOUT_M 0) 2
    (stripAt 0 3906 2 s, (stripAt 0 3906 4 s).1, (stripAt 0 3906 5 s).1) = ((2, 3348), 5, 6) := by decide +kernel
/-- Three channel balls (19_package_electrical.md). -/
theorem test_balls : [channelBall 3 2 3, channelBall 4 5 1, channelBall 7 3 11] = [("G", 18), ("AG", 1), ("AD", 26)] := by decide +kernel
/-- R593. -/
theorem test_rails : supplyRails.map railBalls = [122, 48, 16, 18, 10, 8, 7, 6] := by decide +kernel
/-- Addresses of the example of 18_register_space.md. -/
theorem test_addresses : ((F.HINGE_STAT_IN_CTRL 5).addr, (F.PAGE_ENABLE_EN 7).addr) = (0x03600000, 0x03FF0000) := by decide
/-- The generator of R424: multiplication by g and by g^8. -/
theorem test_gf : (gfMul 2 0x80, gfPow 2 8) = (0x1D, 0x1D) := by decide +kernel

/-! ### Well-formed commands: a term of each check that it refuses, and one at its bound that it admits -/

def badBlock : Block := ⟨[], []⟩
def badSegment : Segment := ⟨List.replicate 262301 0, true, true⟩
def okSample : SampleObs := ⟨0, aWedge, 2047, 0, 0, false, ⟨true, true, true, true, 0⟩, ⟨true, true, true, true, 0⟩⟩
theorem test_words_refused : ([.sqTailDoorbell 0 1 65536, .sqTailDoorbell 0 65536 1, .cqHeadDoorbell 0 1 65536, .cqHeadDoorbell 0 65536 1,
    .interruptCoalescingTimer 0 65536] : List Instr).all (fun i => !i.wf) = true := by decide
theorem test_host_refused : ([.controllerEnable 0 8 6 4 31 31, .controllerEnable 0 0 16 4 31 31, .controllerEnable 0 0 6 16 31 31,
    .controllerEnable 0 0 6 4 4096 31, .controllerEnable 0 0 6 4 31 4096, .linkTrained 0 7 4, .linkTrained 0 5 2,
    .namespaceCreate 0 ⟨0, 16, 0, 0, 0, 0⟩] : List Instr).all (fun i => !i.wf) = true := by decide
theorem test_data_refused : ([.hostDataTransferDone 0 true [badBlock], .speculativeFillArrive 1 0 true [badBlock], .gathStripeUpdate 0 0 0 [(0, badBlock)],
    .gathReconstruct 0 1 0 [(0, badBlock)], .cacheFill 1 0 0 [(0, badBlock)]] : List Instr).all (fun i => !i.wf) = true := by decide +kernel
theorem test_ranges_refused : ([.datasetManagementDeallocate 0 (List.replicate 257 ⟨0, 1⟩), .copy 0 (List.replicate 257 ⟨0, 1⟩), .copy 0 [⟨2 ^ 64, 1⟩],
    .datasetManagementDeallocate 0 [⟨0, 2 ^ 32⟩]] : List Instr).all (fun i => !i.wf) = true := by decide +kernel
theorem test_channel_refused : ([.preampFaultAssert 0 32 0, .servoSampleEvent 0 { okSample with shock := 2048 },
    .servoSampleEvent 0 { okSample with shock := -2049 }, .spindleStrobe 0 ⟨536870912, 0, okSample.engA, okSample.engB⟩, .pwmPeriod 0 ⟨0, 0, 0, []⟩,
    .consistencyCheckEnd .fly ⟨none, true, true, true, List.replicate 17 ⟨[]⟩⟩] : List Instr).all (fun i => !i.wf) = true := by decide +kernel
theorem test_memory_refused : ([.flyWarmOffer 16384 0 0, .flyWarmOffer 0 16 0, .flyWarmOffer 0 0 101, .cacheOfferDecided 0 16 true,
    .cacheOfferTimeout 16384 0, .reamAlloc 0 0 0, .reamAlloc 0 0 513, .registerWrite .bar2 0 3 0] : List Instr).all (fun i => !i.wf) = true := by decide
theorem test_admitted : ([.sqTailDoorbell 0 65535 65535, .controllerEnable 0 7 15 15 4095 4095, .linkTrained 0 6 8, .servoSampleEvent 0 okSample,
    .reamAlloc 0 0 512, .registerWrite .bar2 0 8 0, .flyWarmOffer 16383 15 100] : List Instr).all Instr.wf = true := by decide +kernel
theorem test_segment_refused : (Instr.storeSegmentLoad 0 [badSegment]).wf = false := by
  simp only [Instr.wf, Segment.wf, badSegment, List.all, List.length_replicate]; decide
theorem test_image_refused : (Instr.firmwareImageDownload 0 { anImage with zones := List.replicate 9 none }).wf = false := by decide +kernel

/-! ### A state and operands for the hypotheses of each clause of the statements -/

theorem witness_StepRunsTheFrontCommand_idle : State.reset.pending = [] := by
  decide +kernel

theorem witness_MicrowordsRoundTrip : (Micro.alu 13 31 31 31).wellFormed = true ∧ (Micro.jmp 63 8191).wellFormed = true ∧
    (Micro.reserved 0xC00000).wellFormed = true ∧ (Micro.setlcReg 3 31).wellFormed = true := by
  decide +kernel

theorem witness_ServoFields : 16777215 < 2 ^ 24 ∧ undibit 2 0b1001 = some 0b10 ∧ undibit 2 0b1101 = none := by
  decide +kernel

theorem witness_GatherPlaces : (3 : Nat) < 4 ∧ { aNs with place := 0x83 }.place = 0x80 + 3 ∧
    0 < (layoutChans 3 (on.set (F.GATH_LAYOUT_CHAN_MASK 3) 0xEF)).length := by
  decide +kernel

theorem witness_GatherPlaces_strips : (0 : Nat) < 7 ∧ (6 : Nat) ≤ 7 ∧ (5 : Nat) < 6 ∧ (8 + 5) % 7 = (8 + 5) % 7 ∧
    stripIndex 7 6 8 ((8 + 5) % 7) = stripIndex 7 6 8 ((8 + 5) % 7) ∧ 6 < 7 := by
  decide +kernel

theorem witness_AluFunctions : Runs 0 0 (free 0) ∧ Runs 7 3 (free 7) := by
  unfold Runs; decide +kernel

theorem witness_AluFunctions_reserved : Runs 7 3 (free 7) ∧ (0x08000E#24).toNat / 2 ^ 19 = 0x01 ∧ 0xE ≤ (0x08000E#24).toNat % 16 ∧
    ((free 7).stit 7 3).frH.active = false := by
  unfold Runs; decide +kernel

theorem witness_ImmediateAndLoopWords : Runs 0 0 (free 0) ∧ Runs 7 3 (free 7) := by
  unfold Runs; decide +kernel

theorem witness_BranchWords_untaken : Runs 7 3 (free 7) ∧ ((wordBy 7 3 (free 7) id).stit 7 3).condHolds 0x1F = false := by
  unfold Runs; decide +kernel

theorem witness_BranchWords_call : ∃ (s : State), Runs 7 3 s ∧ ((wordBy 7 3 s id).stit 7 3).condHolds 0x00 = true ∧ (s.stit 7 3).stack.length < 8 :=
  ⟨((free 7).modStit 7 3 fun x => { x with stack := List.replicate 7 0 }), by unfold Runs; decide +kernel⟩

theorem witness_BranchWords_full : ∃ (s : State), Runs 7 3 s ∧ ((wordBy 7 3 s id).stit 7 3).condHolds 0x00 = true ∧ 8 ≤ (s.stit 7 3).stack.length ∧
    (s.stit 7 3).frH.active = false :=
  ⟨((free 7).modStit 7 3 fun x => { x with stack := List.replicate 8 0 }), by unfold Runs; decide +kernel⟩

theorem witness_BranchWords_ret : ∃ (s : State), Runs 7 3 s ∧ ((wordBy 7 3 s id).stit 7 3).condHolds 0x00 = true ∧ (s.stit 7 3).stack = 5 :: [6] ∧
    (match (s.stit 7 3).activeFrame with | some f => f.sp | none => 0) < (s.stit 7 3).stack.length :=
  ⟨((free 7).modStit 7 3 fun x => { x with stack := [5, 6], frN := { Frame.none with active := true, sp := 1 } }), by unfold Runs; decide +kernel⟩

theorem witness_BranchWords_empty : Runs 7 3 (free 7) ∧ ((wordBy 7 3 (free 7) id).stit 7 3).condHolds 0x00 = true ∧ ((free 7).stit 7 3).stack = [] ∧
    ((free 7).stit 7 3).frH.active = false := by
  unfold Runs; decide +kernel

theorem witness_PortReads_none : Runs 7 3 (free 7) ∧ ((free 7).stit 7 3).cur = none ∧ (23#8).toNat < 24 ∧ 28 ≤ (30#8).toNat ∧ (30#8).toNat ≤ 30 := by
  unfold Runs; decide +kernel

theorem witness_PortReads_other : ¬((24#8).toNat < 24 ∨ (28 ≤ (24#8).toNat ∧ (24#8).toNat ≤ 30)) ∧
    ¬((31#8).toNat < 24 ∨ (28 ≤ (31#8).toNat ∧ (31#8).toNat ≤ 30)) ∧ ¬((27#8).toNat < 24 ∨ (28 ≤ (27#8).toNat ∧ (27#8).toNat ≤ 30)) := by
  decide +kernel

theorem witness_PortReads_desc : ∃ (s : State), Runs 7 3 s ∧ (s.stit 7 3).cur ≠ none ∧ ((wordBy 7 3 s id).stit 7 3).cur = some aDesc :=
  ⟨(withCur 7 3 aDesc (free 7)), by unfold Runs; decide +kernel⟩

theorem witness_PortWrites : Runs 7 3 (free 7) ∧ (31 : Nat) < 32 ∧ (41 : Nat) ≤ 41 ∧ 6 ≤ (6#16).toNat ∧ (2#16 ≠ 1 ∧ 2#16 ≠ 3 ∧ 2#16 ≠ 0) := by
  unfold Runs; decide +kernel

theorem witness_PathActions_arm : ∃ (s : State), Runs 7 3 s ∧ (s.stit 7 3).cur = some aDesc ∧ (s.pathSt 7 3).arm = none :=
  ⟨(withCur 7 3 aDesc (free 7)), by unfold Runs; decide +kernel⟩

theorem witness_PathActions_replace : ∃ (s : State), Runs 7 3 s ∧ (s.stit 7 3).cur = some aDesc ∧ (s.pathSt 7 3).arm = some (anArm 4) ∧
    (anArm 4).begun = false :=
  ⟨(withArm 7 3 (anArm 4) (withCur 7 3 aDesc (free 7))), by unfold Runs; decide +kernel⟩

theorem witness_PathActions_late : ∃ (s : State), Runs 7 3 s ∧ (s.pathSt 7 3).arm = some { anArm 2 with begun := true } ∧
    { anArm 2 with begun := true }.begun = true :=
  ⟨(withArm 7 3 { anArm 2 with begun := true } (free 7)), by unfold Runs; decide +kernel⟩

theorem witness_PathActions_commit : ∃ (s : State), Runs 7 3 s ∧ (s.pathSt 7 3).arm = some (anArm 2) ∧ (anArm 2).act = 2 ∧
    (anArm 2).isOpen = false :=
  ⟨(withArm 7 3 (anArm 2) (free 7)), by unfold Runs; decide +kernel⟩

theorem witness_PathActions_head : ∃ (s : State), Runs 7 3 s ∧ (s.stit 7 3).cur = some aDesc ∧ (s.pathSt 7 3).head = some (descSurf aDesc 3) ∧
    (s.pathSt 7 3).zone = some (descZone aDesc) :=
  ⟨((withCur 7 3 aDesc (free 7)).modPath 7 3 fun q => { q with head := some (descSurf aDesc 3), zone := some (descZone aDesc) }), by unfold Runs; decide +kernel⟩

theorem witness_WaitAndFetchWords : Runs 0 0 (free 0) ∧ Runs 7 3 (free 7) := by
  unfold Runs; decide +kernel

theorem witness_DoneTrapSignalWords_done : ∃ (s : State), Runs 7 3 s ∧ (s.stit 7 3).cur = some aDesc :=
  ⟨(withCur 7 3 aDesc (free 7)), by unfold Runs; decide +kernel⟩

theorem witness_DoneTrapSignalWords_mret : ∃ (s : State), Runs 7 3 s ∧ ((wordBy 7 3 s id).stit 7 3).frH.active = false ∧
    ((wordBy 7 3 s id).stit 7 3).frN.active = true :=
  ⟨((free 7).modStit 7 3 fun x => { x with frN := { Frame.none with active := true } }), by unfold Runs; decide +kernel⟩

theorem witness_DoneTrapSignalWords_trap : Runs 7 3 (free 7) ∧ ((wordBy 7 3 (free 7) id).stit 7 3).frH.active = false ∧
    ((wordBy 7 3 (free 7) id).stit 7 3).frN.active = false ∧ (3 : Pa) ≠ 0 := by
  unfold Runs; decide +kernel

theorem witness_DoneTrapSignalWords_reserved : ∃ (s : State), Runs 7 3 s ∧ decodeMicro 0xC00000 = .reserved 0xC00000 ∧
    ((wordBy 7 3 s id).stit 7 3).frH.active = true ∧ ((wordBy 7 3 (free 7) id).stit 7 3).frH.active = false :=
  ⟨((free 7).modStit 7 3 fun x => { x with frH := { Frame.none with active := true } }), by unfold Runs; decide +kernel⟩

theorem witness_TrapsAndWatchdog_taken : ∃ (s : State), (15 : Nat) < 16 ∧ (s.stit 7 3).mayTake 1 = true ∧
    (∀ u, u < 1 → (s.stit 7 3).mayTake u = false) ∧ (s.stit 7 3).mode ≠ .halted ∧ s.bit (F.STITCH_CTL_HALT 7) (3 : Pa).val = false :=
  ⟨((free 7).modStit 7 3 fun x => { x with tpend := 0x8002, tmask := 0x7F80 }), by decide +kernel⟩

theorem witness_TrapsAndWatchdog_none : ∀ v, v < 16 → ((free 7).stit 7 3).mayTake v = false := by
  decide +kernel

theorem witness_TrapsAndWatchdog_timers : (((free 7).modStit 7 3 fun x => { x with r := x.r.set 30 1 }).stit 7 3).r[30] ≠ 0 ∧
    (((free 7).modStit 7 3 fun x => { x with wd := 1 }).stit 7 3).wd = 1 ∧ (((free 7).modStit 7 3 fun x => { x with wd := 2 }).stit 7 3).wd = 2 := by
  decide +kernel

theorem witness_TrapsAndWatchdog_prefetch : ∃ (x : Stitcher), x.handed = [] ++ aDesc :: [] ∧ descTag aDesc = 5 ∧
    (∀ e ∈ ([] : List Desc), descTag e ≠ 5) ∧ x.wantPre = true ∧ x.prefetch = none ∧ { x with prefetch := some aDesc }.prefetch = some aDesc :=
  ⟨({ Stitcher.reset with handed := [aDesc], wantPre := true }), by exact ⟨rfl, by decide +kernel, by simp, rfl, rfl, rfl⟩⟩

theorem witness_StoreAndAbort_enabled : (on.setFlag (F.PAGE_ENABLE_EN 7) true).flag (F.PAGE_ENABLE_EN 7) = true := by
  decide +kernel

theorem witness_StoreAndAbort_load : on.flag (F.PAGE_ENABLE_EN 7) = false ∧ detPowered 7 on = true ∧ aSegment.chanMask.testBit (7 : Ch).val = true ∧
    baseReject aSegment = none ∧ aSegment.readBack = true := by
  (rw [baseReject, aSegment_hash]; decide +kernel)

theorem witness_StoreAndAbort_reject : ∃ (s : State) (g : Segment), s.flag (F.PAGE_ENABLE_EN 7) = false ∧ detPowered 7 s = true ∧
    g.chanMask.testBit (7 : Ch).val = true ∧ baseReject g = some 2 ∧ detPowered 7 State.reset = false :=
  ⟨on, ({ aSegment with sigOk := false }), by decide +kernel⟩

theorem witness_StoreAndAbort_window : Reached (chBase (7 : Ch).val + 0x140000 + 8 * (4095#12).toNat) on ∧
    MayWrite .mgmt (chBase (7 : Ch).val + 0x140000 + 8 * (4095#12).toNat) on ∧ on.flag (F.PAGE_ENABLE_EN 7) = false ∧
    (breakSeq on).flag F.MEMPROT_FLIPCTL_ARM = false := by
  unfold Reached MayWrite; decide +kernel

theorem witness_StoreAndAbort_step : ∃ (s : State), Reached (chBase (7 : Ch).val + 0x100008) s ∧ MayWrite .mgmt (chBase (7 : Ch).val + 0x100008) s ∧
    s.flag (F.PAGE_ENABLE_EN 7) = false ∧ ((breakSeq s).stit 7 3).mode = .running ∧ (breakSeq s).bit (F.STITCH_CTL_HALT 7) (3 : Pa).val = true ∧
    (∀ v < 16, ((breakSeq s).stit 7 3).mayTake v = false) ∧
    flipCount (0x20 * (7 : Ch).val) (((breakSeq s).stit 7 3).pc.toNat / 2) (breakSeq s) = 0 :=
  ⟨on, by unfold Reached MayWrite; decide +kernel⟩

theorem witness_EveryStepKeepsTheStores : State.reset.canon ∧ step State.reset = .next State.reset := by
  unfold State.canon mapsCanon; constructor; decide +kernel; rfl

theorem witness_ReamReferences_live : ∃ (s : State) (w : Nat), handleCtl (0x0F00FFFF#32).toNat s = some w ∧ ctlRefs w < 255 ∧
    (ctlOwned w).toNat < ctlRefs w ∧ ctlOwned w = true ∧ ctlOwner w = (15 : ReamId).val ∧ 0 < ctlRefs w :=
  ⟨(withBuf (mkCtl 254 true 15)), (mkCtl 254 true 15), by decide +kernel⟩

theorem witness_ReamReferences_foreign : ∃ (s : State) (w : Nat), handleCtl (0x0F00FFFF#32).toNat s = some w ∧ ctlOwned w = false :=
  ⟨(withBuf (mkCtl 1 false 0)), (mkCtl 1 false 0), by decide +kernel⟩

theorem witness_ReamReferences_none : handleCtl (0x0F010000#32).toNat (withBuf (mkCtl 1 false 0)) = none := by
  decide +kernel

theorem witness_ReamReferences_reclaim : ∃ (s : State) (w : Nat), (s.ream.ctl.cells.filter fun c => ctlOwned c.2 && ctlOwner c.2 == (7 : Ch).val) = [((0x0F00FFFF#32).toNat, w)] ∧
    handleCtl (0x0F00FFFF#32).toNat s = some w ∧ (7 : ReamId).val = (7 : Ch).val ∧
    (on.ream.ctl.cells.filter fun c => ctlOwned c.2 && ctlOwner c.2 == (7 : Ch).val) = [] :=
  ⟨(withBuf (mkCtl 1 true 7)), (mkCtl 1 true 7), by decide +kernel⟩

theorem witness_ReamPools_admitted : ∃ (s : State), usePool 0 s = some 15 ∧ 0 < 512 ∧ 512 ≤ 512 ∧
    ((s.pool 15).waits.any fun w => w.id == (0 : ReamId).val) = false ∧
    admits (allocClass 0 0) 512 (poolFree 15 s) (poolThrottle 15 s) (poolStop 15 s) (s.pool 15).paced = true ∧
    (nextWait 15 (allocClass 0 0) s).isSome = false :=
  ⟨(withPool ⟨[], [], 0, [], Vector.replicate 3 0, false⟩), by decide +kernel⟩

theorem witness_ReamPools_waits : ∃ (s : State), usePool 0 s = some 15 ∧ 0 < 1 ∧ 1 ≤ 512 ∧
    ((s.pool 15).waits.any fun w => w.id == (0 : ReamId).val) = false ∧
    admits (allocClass 0 0) 1 (poolFree 15 s) (poolThrottle 15 s) (poolStop 15 s) (s.pool 15).paced = false :=
  ⟨(withPool ⟨[], [], 0x10000, [], Vector.replicate 3 0, false⟩), by decide +kernel⟩

theorem witness_ReamPools_refused : usePool 8 (on.setFlag (F.REAM_USE_NONE 8) true) = none ∧ (0 = 0 ∨ 512 < 0) ∧ 512 < 513 := by
  decide +kernel

theorem witness_ReamPools_grant : ∃ (s : State) (r : ReamWait) (cls : Fin 3), s.host.cmds = [] ∧ (s.pool 15).waits = [r] ∧ r.cmd = none ∧
    cls = allocClass r.id r.use ∧ admits cls r.n (poolFree 15 s) (poolThrottle 15 s) (poolStop 15 s) false = true :=
  ⟨(withPool ⟨[], [], 0, [⟨0, 0, 512, none⟩], Vector.replicate 3 0, true⟩), (⟨0, 0, 512, none⟩), (allocClass 0 0), by decide +kernel⟩

theorem witness_ReamPools_nogrant : ∃ (s : State), s.host.cmds = [] ∧ (s.pool 15).waits = [] :=
  ⟨(withPool ⟨[], [], 0, [], Vector.replicate 3 0, true⟩), by decide +kernel⟩

theorem witness_ReamPools_refill : ∃ (s : State), s.flag (F.REAM_POOLCFG_EN 15) = true ∧ (s.pool 15).chip.length < 128 :=
  ⟨(withPool ⟨List.range 127, [], 127, [], Vector.replicate 3 0, false⟩), by decide +kernel⟩

theorem witness_ReamPools_spill : ∃ (s : State), 448 < (s.pool 15).chip.length :=
  ⟨(withPool ⟨List.range 449, [], 449, [], Vector.replicate 3 0, false⟩), by decide +kernel⟩

theorem witness_ReamPools_audit : ∃ (s : State), s.flag (F.REAM_POOLSTAT_AUDIT 15) = true :=
  ⟨((withPool ⟨[], [], 1, [], Vector.replicate 3 0, false⟩).setFlag (F.REAM_POOLSTAT_AUDIT 15) true), by decide +kernel⟩

theorem witness_ReamPools_enable : Reached (F.REAM_POOLCFG_EN 15).addr on ∧ MayWrite .mgmt (F.REAM_POOLCFG_EN 15).addr on ∧
    on.flag (F.REAM_POOLCFG_EN 15) = false ∧ (breakSeq on).flag (F.REAM_POOLCFG_EN 15) = false ∧ (breakSeq on).get (F.REAM_POOLCFG_SIZE 15) ≠ 3 ∧
    (breakSeq (on.set (F.REAM_POOLCFG_SIZE 15) 3)).get (F.REAM_POOLCFG_SIZE 15) = 3 := by
  unfold Reached MayWrite; decide +kernel

theorem witness_ReamPools_behind : ∃ (s : State), usePool 0 s = some 15 ∧ ((s.pool 15).waits.any fun w => w.id == (0 : ReamId).val) = false ∧
    (nextWait 15 (allocClass 0 0) s).isSome = true :=
  ⟨(withPool ⟨[], [], 0, [⟨1, 0, 512, none⟩], Vector.replicate 3 0, false⟩), by decide +kernel⟩

theorem witness_CacheLines_off : ∃ (s : State), (s.flag F.CACHE_CFG_EN && s.flag F.CACHE_CFG_FILL_EN && !s.bit F.CACHE_STAT_PC_OFF (lineSet 1 0 s % 8)) = false ∧
    s.fill 0 = none :=
  ⟨(on.setFlag F.CACHE_CFG_EN false), by decide +kernel⟩

theorem witness_CacheLines_fill : ∃ (s : State) (u : State), (s.fill 0).isSome = true ∧
    ((s.fill 0).getD ⟨0, 1, 0, false, false, false, 0, none⟩).void = false ∧
    (s.flag F.CACHE_CFG_EN && s.flag F.CACHE_CFG_FILL_EN && !s.bit F.CACHE_STAT_PC_OFF (lineSet 1 0 u % 8)) = true ∧ s.cache.run = none ∧
    ((1#16).getLsbD (16 % 16)) = true ∧ u.wayOf 1 0 = none ∧
    ((List.range 16).find? fun x => (u.way (lineSet 1 0 u) x).isNone && !wayLocked x u && !sideLost (lineSet 1 0 u) x u && !pinned (lineSet 1 0 u) x u) = some 0 :=
  ⟨(caching.modCache fun x => { x with fills := [⟨0, 1, 0, false, false, false, 1, none⟩] }), (dropFill 0 (caching.modCache fun x => { x with fills := [⟨0, 1, 0, false, false, false, 1, none⟩] })), by decide +kernel⟩

theorem witness_CacheLines_void : ∃ (s : State), (s.fill 3).isSome = true ∧ ((s.fill 3).getD ⟨3, 1, 0, false, false, false, 0, none⟩).void = true ∧
    (s.flag F.CACHE_CFG_EN && s.flag F.CACHE_CFG_FILL_EN && !s.bit F.CACHE_STAT_PC_OFF (lineSet 1 0 (dropFill 3 s) % 8)) = true :=
  ⟨(caching.modCache fun x => { x with fills := [⟨3, 1, 0, true, false, false, 0, none⟩] }), by decide +kernel⟩

theorem witness_CacheLines_offer : ∃ (s : State) (v : Way), s.way 16383 15 = some v ∧ v.offered = true ∧ s.cache.waitF = [] :=
  ⟨(withWay aWay), aWay, by decide +kernel⟩

theorem witness_CacheLines_noOffer : ∃ (s : State), ∀ v ∈ (s.way 16383 15).toList, v.offered = false :=
  ⟨(withWay { aWay with offered := false }), by decide +kernel⟩

theorem witness_CacheLines_lock : Reached 0x400008 on ∧ 8 < bitCount 16 (0x1FF#16).toNat ∧ bitCount 16 (0xFF#16).toNat ≤ 8 ∧
    (∀ v ∈ on.cache.ways, v.retain = false) ∧ Reached 0x400040 on := by
  unfold Reached; decide +kernel

theorem witness_CacheLines_accepted : ∃ (s : State), s.way 16383 15 = some aWay ∧ aWay.offered = true ∧
    (∃ x ∈ s.fly.warmPend, x.1 = aWay.nsid ∧ x.2.1 = aWay.line) ∧ ∀ x ∈ (withWay aWay).fly.warmPend, x.1 = aWay.nsid → x.2.1 ≠ aWay.line :=
  ⟨((withWay aWay).modFly fun y => { y with warmPend := [(1, 0, 0, 0)] }), by decide +kernel⟩

theorem witness_CacheMaintenance_refused : Reached F.CACHE_MAINT_CMD_GO.addr on ∧ maintReject 0 3 0 0 0 on = 2 ∧ on.cache.run = none ∧
    on.cache.queue = [] := by
  unfold Reached; decide +kernel

theorem witness_CacheMaintenance_starts : ∃ (u : State), Reached F.CACHE_MAINT_CMD_GO.addr (on.set F.CACHE_MAINT_CMD_SCOPE 2) ∧
    maintReject 0 (u.get F.CACHE_MAINT_CMD_SCOPE) (u.get F.CACHE_MAINT_CMD_NSID) 0 (u.get (F.CACHE_MAINT_RANGE_VALUE 2)) u = 0 :=
  ⟨((breakSeq (on.set F.CACHE_MAINT_CMD_SCOPE 2)).set F.CACHE_MAINT_CMD_OP 0), by unfold Reached; decide +kernel⟩

theorem witness_CacheMaintenance_range : ∃ (s : State) (v : Ns), s.cache.run = none ∧ s.cache.queue = [] ∧ s.ns 1 = some v ∧ v.nsze < 1023 + 2 ∧
    ¬v.nsze < 1023 + 1 ∧ s.ns 2 = none :=
  ⟨(withNs aNs on), aNs, by decide +kernel⟩

theorem witness_CacheMaintenance_busy : ∃ (s : State) (m : Maint), s.cache.run ≠ none ∧ coveredWays m s = [] ∧ m.op < 2 ∧ s.cache.run = some m ∧
    s.cache.queue = [] ∧ m.cmd = none ∧ maintEnded m s = true :=
  ⟨(on.modCache fun x => { x with run := some ⟨0, 2, 0, 0, 0, none, false, none, none, 0⟩ }), (⟨0, 2, 0, 0, 0, none, false, none, none, 0⟩), by decide +kernel⟩

theorem witness_CacheMaintenance_dram : ∃ (s : State), 8 ≤ (15 : Fin 16).val ∧ wayAt 15 0 on = none ∧
    (∃ v ∈ (List.range 4096).filterMap (fun x => wayAt 15 (x * 4096) s), s.cache.waitF = [] ∧ v.sn = 15) ∧ (7 : Fin 16).val < 8 ∧
    on.cache.waitF = [] ∧ on.cache.ways = [] ∧ on.host.cmds = [] :=
  ⟨(withWay { aWay with sn := 15 }), by decide +kernel⟩

theorem witness_CacheMaintenance_pcFail : ∃ (s : State), s.bit F.CACHE_DRAMSTAT_PC_OK (15 : Fin 16).val = true ∧ 8 ≤ (15 : Fin 16).val ∧
    (s.setFlag F.CACHE_DRAMSTAT_TRAINED true).flag F.CACHE_DRAMSTAT_TRAINED = true ∧
    (s.setFlag F.CACHE_DRAMSTAT_TRAINED true).bit F.CACHE_DRAMSTAT_PC_OK (14 : Fin 16).val = false :=
  ⟨(on.set F.CACHE_DRAMSTAT_PC_OK 0x8000), by decide +kernel⟩

theorem witness_MemoryProtection_first : ∃ (s : State), isMacro 0 = true ∧ 0 < 8 ∧ (s.inc F.MEMPROT_CE_COUNT).flag (F.MEMPROT_LOG_VALID 0) = false ∧
    (s.mem.remap.contains (0, 9) || s.mem.moves.contains (0, 9)) = false ∧ s.mem.seen.contains (0, 9) = false :=
  ⟨on, by decide +kernel⟩

theorem witness_MemoryProtection_last : ∃ (s : State), isMacro 0 = true ∧ 7 < 8 ∧
    (∀ i, i < 7 → (s.inc F.MEMPROT_CE_COUNT).flag (F.MEMPROT_LOG_VALID i) = true) ∧
    (s.inc F.MEMPROT_CE_COUNT).flag (F.MEMPROT_LOG_VALID 7) = false ∧ (s.mem.remap.contains (0, 9) || s.mem.moves.contains (0, 9)) = false ∧
    s.mem.seen.contains (0, 9) = true ∧ remapUsed 0 s < 4 :=
  ⟨((logged 7).modMem fun x => { x with seen := [(0, 9)] }), by decide +kernel⟩

theorem witness_MemoryProtection_noEntry : ∃ (s : State), isMacro 0 = true ∧ (s.inc F.MEMPROT_CE_COUNT).flag (F.MEMPROT_LOG_VALID 0) = false ∧
    (s.mem.remap.contains (0, 9) || s.mem.moves.contains (0, 9)) = false ∧ s.mem.seen.contains (0, 9) = true ∧ 4 ≤ remapUsed 0 s ∧
    s.mem.moves.contains (0, 8) = true :=
  ⟨(on.modMem fun x => { x with seen := [(0, 9)], remap := [(0, 1), (0, 2), (0, 3), (0, 4)], moves := [(0, 8)] }), by decide +kernel⟩

theorem witness_MemoryProtection_full : ∃ (s : State), isMacro 0 = true ∧
    (∀ i, i < 8 → (s.inc F.MEMPROT_CE_COUNT).flag (F.MEMPROT_LOG_VALID i) = true) ∧
    (s.mem.remap.contains (0, 9) || s.mem.moves.contains (0, 9)) = true ∧ s.mem.moves.contains (0, 9) = true ∧ remapUsed 0 s < 4 :=
  ⟨((logged 8).modMem fun x => { x with moves := [(0, 9)] }), by decide +kernel⟩

theorem witness_MemoryProtection_uncorrectable : isMacro 0x100 = true ∧ isMacro 0x102 = true ∧ 0x102 ≤ 0x111 ∧ isMacro 0x111 = true ∧
    isMacro 0x112 = true ∧ isMacro 0xE0 = true ∧ 0xE0 < 0x100 ∧ 0xE0 % 0x20 = 0 ∧ isMacro 0xE1 = true ∧ 0xE1 % 0x20 = 1 ∧ isMacro 0xE4 = true ∧
    0xE4 % 0x20 = 4 ∧ isMacro 0xE5 = true ∧ 0xE5 % 0x20 = 5 ∧ isMacro 0xE8 = true ∧ 0xE8 % 0x20 = 8 ∧
    isMacro (0x20 * (7 : Ch).val + 0x0B + true.toNat) = true := by
  decide +kernel

theorem witness_MemoryProtection_flip : Reached F.MEMPROT_FLIPCTL_ARM.addr on ∧ MayWrite .mgmt F.MEMPROT_FLIPCTL_ARM.addr on ∧ on.rst.chip = none := by
  unfold Reached MayWrite; decide +kernel

theorem witness_MotorStarts_enter : State.reset.canon ∧ stFault ≤ 10 ∧ stFault ≠ stRun := by
  unfold State.canon mapsCanon; decide +kernel

theorem witness_MotorStarts_safe : Reached (F.MOT_CMD_OP 7).addr safe ∧ (breakSeq safe).flag F.FAULT_STAT_SAFE = true := by
  unfold Reached; decide +kernel

theorem witness_MotorStarts_start : Reached (F.MOT_CMD_OP 7).addr on ∧ (breakSeq on).flag F.FAULT_STAT_SAFE = false ∧
    motState 7 (breakSeq on) ∈ [stOff, stCoast, stBrake] ∧ motState 7 (breakSeq (mot 7 stRun)) ∉ [stOff, stCoast, stBrake] := by
  unfold Reached; decide +kernel

theorem witness_MotorStarts_sense : ∀ c ∈ ([(163, 163), (164, 164), (-163, -163), (-164, -164), (491, 491), (492, 492)] : List (Int × Int)), motState 7 (sensed (c.1 * 257656806)) = stSense ∧
    measuredSpeed 7 (sensed (c.1 * 257656806)) = c.2 := by
  decide +kernel

theorem witness_MotorStarts_align : motState 7 (mot 7 stAlign) = stAlign ∧
    (((mot 7 stAlign).modMot 7 fun m => { m with gates := .align60 }).mot 7).gates = .align60 ∧ ((mot 7 stAlign).mot 7).gates ≠ .align60 := by
  decide +kernel

theorem witness_MotorStarts_ramp : motState 7 (mot 7 stRamp) = stRamp ∧ ((mot 7 stRamp).mot 7).hand = 0 ∧
    1 ≤ (((mot 7 stRamp).modMot 7 fun m => { m with hand := 1 }).mot 7).hand ∧
    (((mot 7 stRamp).modMot 7 fun m => { m with starting := true }).mot 7).starting = true ∧ ((mot 7 stRamp).mot 7).starting = false := by
  decide +kernel

theorem witness_MotorStopsAndLosses_nothing : Reached (F.MOT_CMD_OP 7).addr (mot 7 stFault) ∧
    (breakSeq (mot 7 stFault)).flag F.FAULT_STAT_SAFE = false ∧ motState 7 (breakSeq (mot 7 stFault)) ∈ [stOff, stRectify, stFault] ∧
    motState 7 (breakSeq (mot 7 stFault)) ∈ [stRectify, stFault] := by
  unfold Reached; decide +kernel

theorem witness_MotorStopsAndLosses_stop : Reached (F.MOT_CMD_OP 7).addr (mot 7 stRun) ∧
    motState 7 (breakSeq (mot 7 stRun)) ∈ [stRun, stBrake, stCoast] ∧ headsOff 7 (breakSeq (mot 7 stRun)) = false ∧
    motState 7 (breakSeq (loaded 7)) ∈ [stRun, stAccel, stBrake, stCoast] ∧ headsOff 7 (breakSeq (loaded 7)) = true := by
  unfold Reached; decide +kernel

theorem witness_MotorStopsAndLosses_brake : ∃ (s : State), motState 7 s = stBrake ∧ (s.mot 7).gates = .hiZ ∧ 16384 < (164 : Int).natAbs * 100 ∧
    (-163 : Int).natAbs * 100 ≤ 16384 ∧ (s.mot 7).toOff = true ∧ (s.mot 7).starting = false ∧ ((mot 7 stBrake).mot 7).toOff = false ∧
    ((s.modMot 7 fun m => { m with gates := .zeroVec, starting := true }).mot 7).gates = .zeroVec ∧
    ((s.modMot 7 fun m => { m with starting := true }).mot 7).starting = true :=
  ⟨((mot 7 stBrake).modMot 7 fun m => { m with toOff := true }), by decide +kernel⟩

theorem witness_MotorStopsAndLosses_lost : motState 7 (mot 7 stAccel) = stAccel ∧ headsOff 7 (mot 7 stAccel) = false ∧
    ((mot 7 stAccel).mot 7).losses = 0 ∧ motState 7 (loaded 7) = stRun ∧ motState 7 on ≠ stLost ∧ motState 7 on ≠ stFault := by
  decide +kernel

theorem witness_MotorStopsAndLosses_caught : ∃ (s : State), motState 7 s = stLost ∧ (s.mot 7).catching = true ∧ (s.mot 7).stopCaught = false ∧
    ((s.modMot 7 fun m => { m with stopCaught := true }).mot 7).stopCaught = true ∧ motState 7 (mot 7 stFault) = stFault :=
  ⟨((mot 7 stLost).modMot 7 fun m => { m with catching := true }), by decide +kernel⟩

theorem witness_RetractAndDrive_unload : Reached (F.MOT_CMD_OP 7).addr (loaded 7) ∧ headsOff 7 (breakSeq (loaded 7)) = true ∧
    (breakSeq (loaded 7)).flag (F.MOT_STAT_RETRACTING 7) = false ∧ headsOff 7 (breakSeq on) = false := by
  unfold Reached; decide +kernel

theorem witness_RetractAndDrive_load : ∃ (s : State) (u : State), Reached (F.MOT_CMD_OP 7).addr s ∧ u.flag F.FAULT_STAT_SAFE = false ∧
    motState 7 u = stRun ∧ u.flag (F.MOT_STAT_IN_TOL 7) = true ∧ u.flag (F.PAGE_ENABLE_EN 7) = true ∧ headsOff 7 u = false ∧
    u.flag (F.MOT_STAT_RETRACTING 7) = false ∧ motState 7 (breakSeq on) ≠ stRun :=
  ⟨(((mot 7 stRun).setFlag (F.MOT_STAT_IN_TOL 7) true).setFlag (F.PAGE_ENABLE_EN 7) true), (breakSeq (((mot 7 stRun).setFlag (F.MOT_STAT_IN_TOL 7) true).setFlag (F.PAGE_ENABLE_EN 7) true)), by unfold Reached; decide +kernel⟩

theorem witness_RetractAndDrive_coil : ((on.modMot 7 fun m => { m with vc := .retract }).mot 7).vc = .retract ∧
    ((on.modMot 7 fun m => { m with vc := .hold }).mot 7).vc = .hold ∧ ((on.modMot 7 fun m => { m with vc := .current }).mot 7).vc = .current ∧
    (on.mot 7).after = none ∧ (on.servo 7).loadTry ≠ 1 := by
  decide +kernel

theorem witness_RetractAndDrive_direction : Reached (F.MOT_RUNCFG_DIR 7).addr on ∧ MayWrite .mgmt (F.MOT_RUNCFG_DIR 7).addr on ∧
    (breakSeq on).flag (F.MOT_RUNCFG_DIR 7) ≠ true ∧ motState 7 (breakSeq on) = stOff ∧ slowRotor ((breakSeq on).mot 7).speed = true ∧
    motState 7 (breakSeq (loaded 7)) ≠ stOff ∧ (breakSeq (loaded 7)).flag (F.MOT_RUNCFG_DIR 7) ≠ true := by
  unfold Reached MayWrite; decide +kernel

theorem witness_RetractAndDrive_run : motState 7 (loaded 7) = stRun ∧ (loaded 7).flag (F.MOT_STAT_IN_TOL 7) = false ∧ motState 7 on ≠ stRun := by
  decide +kernel

theorem witness_RetractAndDrive_pwm : ∃ (s : State), motState 7 s ≠ stBrake ∧ (s.mot 7).vmotHi = false ∧
    (10#10).toNat ≤ s.get (F.MOT_BRAKE_VMOT_MAX 7) ∧ s.get (F.MOT_BRAKE_VMOT_MAX 7) < (11#10).toNat ∧ (s.mot 7).gates ≠ .hiZ ∧
    (s.mot 7).cutRun = 0 ∧ (#v[(801 : Int), 0, 0].any fun i => decide (s.get (F.MOT_CUR_OC_THR 7) * 8 < i.natAbs)) = true ∧
    (on.mot 7).gates = .hiZ ∧ (∀ m, (s.mot m).held = false) ∧ headsOff 7 s = false :=
  ⟨(((on.set (F.MOT_CUR_OC_THR 7) 100).set (F.MOT_BRAKE_VMOT_MAX 7) 10).modMot 7 fun m => { m with gates := .observer }), by decide +kernel⟩

theorem witness_RetractAndDrive_voice : ∃ (s : State), (s.mot 7).vc = .retract ∧ 799 ≤ (s.mot 7).parkRun ∧
    atRest 7 0 249 (coilAim 7 0 249 s) s = true ∧ atRest 7 0 250 (coilAim 7 0 250 s) s = false :=
  ⟨resting, by (rw [resting_aim, resting_aim]; decide +kernel)⟩

theorem witness_HingeArbiter_switch : ∃ (s : State), (engState 7 (!inCtrl 7 s) s = engStandby ∨ engState 7 (!inCtrl 7 s) s = engShadow) ∧
    ((((s.inc (F.HINGE_STAT_FAILS_A 7)).set (F.HINGE_STAT_SHADOW_CNT 7) 0).modHinge 7 fun h => { h with good := 0, miss := 0, pass := 0, copying := false, dis := 0 }).modEng 7 false fun _ => EngCtx.reset).get (F.HINGE_STAT_FAILS_A 7) ≤ s.get (F.HINGE_CFG_RETRY_LIMIT 7) ∧
    (2 : Nat) ≠ 6 :=
  ⟨(eng 7 0 engActive engStandby), by decide +kernel⟩

theorem witness_HingeArbiter_retires : ∃ (s : State), engState 7 (!inCtrl 7 s) s = engStandby ∧
    s.get (F.HINGE_CFG_RETRY_LIMIT 7) < ((((s.inc (F.HINGE_STAT_FAILS_A 7)).set (F.HINGE_STAT_SHADOW_CNT 7) 0).modHinge 7 fun h => { h with good := 0, miss := 0, pass := 0, copying := false, dis := 0 }).modEng 7 false fun _ => EngCtx.reset).get (F.HINGE_STAT_FAILS_A 7) :=
  ⟨((eng 7 0 engActive engStandby).set (F.HINGE_CFG_RETRY_LIMIT 7) 0), by decide +kernel⟩

theorem witness_HingeArbiter_alone : ∃ (s : State), engState 7 (!inCtrl 7 s) s ≠ engStandby ∧ engState 7 (!inCtrl 7 s) s ≠ engShadow :=
  ⟨(eng 7 0 engActive engRetired), by decide +kernel⟩

theorem witness_HingeArbiter_gap : (on.setFlag (F.HINGE_STAT_GAP 7) true).flag (F.HINGE_STAT_GAP 7) = true ∧ on.flag (F.HINGE_STAT_GAP 7) = false ∧
    (on.hinge 7).cause = none := by
  decide +kernel

theorem witness_HingeArbiter_other : engState 7 (otherEng 7 (eng 7 0 engActive engNotReady)) (eng 7 0 engActive engNotReady) = engNotReady ∧
    engState 7 (otherEng 7 (eng 7 0 engActive engStandby)) (eng 7 0 engActive engStandby) = engStandby ∧
    engState 7 (otherEng 7 (eng 7 0 engActive engRecovering)) (eng 7 0 engActive engRecovering) = engRecovering ∧
    otherEng 7 (eng 7 0 engActive engRecovering) = true ∧ otherEng 7 (eng 7 1 engRecovering engActive) = false ∧
    engState 7 false (eng 7 1 engRecovering engActive) = engRecovering := by
  decide +kernel

theorem witness_HingeArbiter_copy : ∃ (s : State), (s.hinge 7).copying = true ∧ (s.hinge 7).held = [] ∧ (s.hinge 7).heldSw = 0 ∧
    (on.hinge 7).copying = false :=
  ⟨((eng 7 0 engActive engRecovering).modHinge 7 fun h => { h with copying := true }), by decide +kernel⟩

theorem witness_HingeArbiter_force : ∃ (s : State), Reached (F.HINGE_CTL_FORCE 7).addr s ∧ (breakSeq s).flag (F.HINGE_STAT_GAP 7) = false ∧
    (breakSeq s).flag (F.HINGE_STAT_OVERLAP 7) = false ∧ inCtrl 7 (breakSeq s) = false ∧ engState 7 false (breakSeq s) = engActive ∧
    engState 7 true (breakSeq s) = engStandby ∧ memGood 7 false (breakSeq s) = true ∧ memGood 7 true (breakSeq s) = true ∧
    addrOpen (F.HINGE_CTL_FORCE 7).addr (breakSeq s) = false ∧ (breakSeq (s.setFlag (F.HINGE_STAT_GAP 7) true)).flag (F.HINGE_STAT_GAP 7) = true :=
  ⟨(eng 7 0 engActive engStandby), by unfold Reached; decide +kernel⟩

theorem witness_HingeArbiter_takeBack : ∃ (s : State), Reached (F.HINGE_CTL_FORCE 7).addr s ∧ inCtrl 7 (breakSeq s) = true ∧
    engState 7 false (breakSeq s) = engShadow ∧ inCtrl 7 s = true ∧ engState 7 false s = engShadow ∧ (s.hinge 7).force = true ∧
    (s.hinge 7).cause = none ∧ (s.hinge 7).overlap = none ∧ (inCtrl 7 on = false ∨ engState 7 false on ≠ engShadow) :=
  ⟨((eng 7 1 engShadow engActive).modHinge 7 fun h => { h with force := true }), by unfold Reached; decide +kernel⟩

theorem witness_HingeArbiter_idle : ∃ (s : State), (s.hinge 7).overlap = none ∧ retracting 7 s = false ∧
    engState 7 (otherEng 7 s) s ∉ [engRecovering, engFailed] ∧ inCtrl 7 s = false ∧ memGood 7 false s = true ∧ memGood 7 true s = true :=
  ⟨(eng 7 0 engActive engStandby), by decide +kernel⟩

theorem witness_HingeArbiter_disagree : ∃ (s : State), (s.hinge 7).disPend = true ∧ (on.hinge 7).disPend = false ∧ inCtrl 7 s = false ∧
    memGood 7 false s = true ∧ memGood 7 true s = true ∧ otherComputes 7 (s.modHinge 7 fun h => { h with disPend := false, dis := 0 }) = true ∧
    memGood 7 true (s.modHinge 7 fun h => { h with memBad := 2 }) = false :=
  ⟨((eng 7 0 engActive engStandby).modHinge 7 fun h => { h with disPend := true }), by decide +kernel⟩

theorem witness_HingeArbiter_overlap : (((eng 7 1 engShadow engActive).modHinge 7 fun h => { h with cause := some 2 }).hinge 7).cause = some 2 ∧
    (((eng 7 1 engShadow engActive).modHinge 7 fun h => { h with overlap := some (3, true) }).hinge 7).overlap.isSome = true := by
  decide +kernel

theorem witness_SupervisionRows_declare : ∃ (s : State), inCtrl 7 s = false ∧ (s.eng 7 false).pl.getLsbD (0 : Loop) = true ∧
    (s.eng 7 false).pl.getLsbD (4 : Loop) = true ∧ (4 : Loop).val = (3 : Pa).val + 1 ∧ (s.eng 7 false).pl.getLsbD (5 : Loop) = true ∧
    inCtrl 7 s ≠ true ∧ otherReady 7 s = true ∧ ((s.modEng 7 false fun c => { c with pl := 0 }).eng 7 false).pl.getLsbD (5 : Loop) = false :=
  ⟨((eng 7 0 engActive engStandby).modEngs 7 fun c => { c with pl := 0x3F }), by decide +kernel⟩

theorem witness_SupervisionRows_lost : ∃ (s : State), s.bit (F.CTL_STAT_PLAUS 7) 0 = false ∧ s.flag (F.CTL_STAT_LOADED 7) = true ∧
    on.flag (F.CTL_STAT_LOADED 7) = false ∧
    engState 7 (otherEng 7 (eng 7 0 engActive engRetired)) (eng 7 0 engActive engRetired) ∉ [engStandby, engNotReady, engShadow] ∧
    engState 7 (otherEng 7 (eng 7 0 engActive engShadow)) (eng 7 0 engActive engShadow) ∈ [engStandby, engNotReady, engShadow] :=
  ⟨((loaded 7).set (F.CTL_STAT_PLAUS 7) 0), by decide +kernel⟩

theorem witness_SupervisionRows_shock : ({ on with force := on.force.set (F.AFE_WRGATE_SHOCK_EN 7).key ((F.AFE_WRGATE_SHOCK_EN 7).reset ^^^ 1) } : State).inForce (F.AFE_WRGATE_SHOCK_EN 7) ≠ 0 ∧
    ({ on with force := on.force.set (F.AFE_WRGATE_SHOCK_EN 7).key (F.AFE_WRGATE_SHOCK_EN 7).reset } : State).inForce (F.AFE_WRGATE_SHOCK_EN 7) = 0 := by
  decide +kernel

theorem witness_SeekAndLoadRows_onTrack : ∃ (s : State), (s.servo 7).waitOn.getLsbD (3 : Pa) = true ∧ (ctlEng 7 s).seek = none ∧
    (ctlEng 7 s).ref = (s.servo 7).tc ∧ (s.servo 7).waitOn ≠ 0 ∧ (s.servo 7).tmoRow = 0 ∧
    ((s.modServo 7 fun v => { v with tmoRow := 1 }).servo 7).tmoRow = 1 ∧ (on.servo 7).waitOn = 0 :=
  ⟨((on.modServo 7 fun v => { v with waitOn := 8, tc := 5 }).modEngs 7 fun c => { c with ref := 5 }), by decide +kernel⟩

theorem witness_SeekAndLoadRows_redirect : ∃ (s : State) (c : EngCtx), (512 * 1048576 - c.ref).natAbs ≤ s.get (F.CTL_SEEKCFG_SHORT_LEN 7) * 536870912 ∧
    s.get (F.CTL_SEEKCFG_SHORT_LEN 7) * 536870912 < (513 * 1048576 - c.ref).natAbs ∧ c.seek = none :=
  ⟨(on.set (F.CTL_SEEKCFG_SHORT_LEN 7) 1), EngCtx.reset, by decide +kernel⟩

theorem witness_SeekAndLoadRows_running : ∃ (s : State) (c : EngCtx), s.get (F.CTL_SEEKCFG_SHORT_LEN 7) * 536870912 < (513 * 1048576 - c.ref).natAbs ∧
    c.seek = some ⟨3, 0, 5368709120, 0, 0, 0⟩ ∧ (seekAt 7 ⟨3, 0, 5368709120, 0, 0, 0⟩ (s.servo 7).tc 0 s).isSome = true :=
  ⟨((on.set (F.CTL_SEEKCFG_SHORT_LEN 7) 1).modPads 7 fun m => m.set 0x1200 2), ({ EngCtx.reset with seek := some ⟨3, 0, 5368709120, 0, 0, 0⟩ }), by decide +kernel⟩

theorem witness_SeekAndLoadRows_learn : ∃ (s : State), (s.servo 7).learn[3] = some ⟨3, 0, 0, 0, 3⟩ ∧ (on.servo 7).learn[3] = none ∧
    (s.servo 7).loading = true ∧ (s.servo 7).loadTry = 0 ∧ ((s.modServo 7 fun v => { v with loadTry := 2 }).servo 7).loadTry ≠ 0 ∧
    (on.servo 7).loading = false :=
  ⟨(on.modServo 7 fun v => { v with learn := v.learn.set 3 (some ⟨3, 0, 0, 0, 3⟩), loading := true }), by decide +kernel⟩

theorem witness_CoefficientBanks_write : ∃ (s : State), Reached (chBase 7 + 0x190000 + (5 : Loop).val * 0x400 + 4 * (255#8).toNat) s ∧
    MayWrite .mgmt (chBase 7 + 0x190000 + (5 : Loop).val * 0x400 + 4 * (255#8).toNat) s ∧ ((breakSeq s).hinge 7).copying = false ∧
    (breakSeq s).bit (F.CTL_BANKSTAT_PEND 7) (5 : Loop) = false ∧
    (breakSeq (on.set (F.CTL_BANKSTAT_PEND 7) 0x20)).bit (F.CTL_BANKSTAT_PEND 7) (5 : Loop) = true :=
  ⟨on, by unfold Reached MayWrite; decide +kernel⟩

theorem witness_CoefficientBanks_copying : ∃ (s : State), Reached (chBase 7 + 0x190000) s ∧ MayWrite .mgmt (chBase 7 + 0x190000) s ∧
    ((breakSeq s).hinge 7).copying = true ∧ Reached (F.CTL_SWAP_REQ 7).addr s :=
  ⟨(on.modHinge 7 fun h => { h with copying := true }), by unfold Reached MayWrite; decide +kernel⟩

theorem witness_CoefficientBanks_locked : Reached (chBase 7 + 0x190000) on ∧ RegPath.bar2 ≠ .mgmt ∧
    addrOpen (chBase 7 + 0x190000) (breakSeq on) = false := by
  unfold Reached; decide +kernel

theorem witness_CoefficientBanks_check : ∃ (s : State), (s.servo 7).chk.getLsbD (5 : Loop) = true ∧ (on.servo 7).chk.getLsbD (5 : Loop) = false ∧
    bankValid 7 5 (!activeBank 7 5 (badBank s)) (badBank s) = false ∧ ((badBank s).servo 7).chk.getLsbD (5 : Loop) = true :=
  ⟨((on.set (F.CTL_LOOPEN_EN 7) 0x20).modServo 7 fun v => { v with chk := 0x20 }), by decide +kernel⟩

theorem witness_CoefficientBanks_valid : ∃ (s : State), bankValid 7 0 (!activeBank 7 0 s) s = true ∧ (s.servo 7).chk.getLsbD (0 : Loop) = true ∧
    (s.set (F.CTL_LOOPEN_EN 7) 1).bit (F.CTL_LOOPEN_EN 7) (0 : Loop) = true ∧
    (s.set (F.CTL_LOOPEN_EN 7) 0).bit (F.CTL_LOOPEN_EN 7) (0 : Loop) = false :=
  ⟨goodBank, by (rw [show (!activeBank 7 0 goodBank) = true by decide +kernel]; exact ⟨goodBank_valid, by decide +kernel⟩)⟩

theorem witness_CoefficientBanks_swap : ∃ (t : State) (r : State), resetState 7 false 0 t = false ∧ resetState 7 true 0 t = false ∧
    resetState 7 false 0 r = true ∧ resetState 7 true 0 (r.modEng 7 false fun c => { c with x := c.x.set 0 [] }) = true :=
  ⟨((goodBank.setBit (F.CTL_BANKSTAT_ACTIVE 7) 0 true).setBit (F.CTL_BANKSTAT_PEND 7) 0 false), ((oddBank.setBit (F.CTL_BANKSTAT_ACTIVE 7) 0 true).setBit (F.CTL_BANKSTAT_PEND 7) 0 false), by decide +kernel⟩

theorem witness_CoefficientBanks_requested : ∃ (s : State), Reached (F.CTL_SWAP_REQ 7).addr s ∧
    (breakSeq s).bit (F.CTL_BANKSTAT_PEND 7) (5 : Loop) = true ∧ (breakSeq s).bit (F.CTL_BANKSTAT_PEND 7) (0 : Loop) = false ∧
    ((breakSeq s).hinge 7).copying = false :=
  ⟨(on.set (F.CTL_BANKSTAT_PEND 7) 0x20), by unfold Reached; decide +kernel⟩

theorem witness_SampleEvent_nothing : on.flag (F.CTL_STAT_LOADED 7) = false ∧ events 7 (on.set (F.CTL_STAT_EVENTS 7) 3) ≤ (3 : Pa).val := by
  decide +kernel

theorem witness_SampleEvent_runs : ∃ (s : State), s.flag (F.CTL_STAT_LOADED 7) = true ∧ (3 : Pa).val < events 7 s ∧ (s.hinge 7).overlap = none :=
  ⟨(((loaded 7).set (F.CTL_STAT_EVENTS 7) 4).set (engField 7 true) engStandby), by decide +kernel⟩

theorem witness_SampleEvent_decides : ∃ (s : State), inCtrl 7 s = false ∧ (s.hinge 7).cause = some 2 ∧ otherReady 7 s = true ∧
    takeBackDue 7 s = false ∧ (on.hinge 7).cause = none ∧ retracting 7 (on.setFlag (F.MOT_STAT_RETRACTING 7) true) = true :=
  ⟨((eng 7 0 engActive engStandby).modHinge 7 fun h => { h with cause := some 2 }), by decide +kernel⟩

theorem witness_SampleEvent_takeBack : ∃ (s : State), (s.hinge 7).cause = none ∧ takeBackDue 7 s = true :=
  ⟨((eng 7 1 engShadow engActive).modHinge 7 fun h => { h with force := true }), by decide +kernel⟩

theorem witness_LoopArithmetic : 0 < 3 ∧ 2147483647 ≤ (2147483647 : Int) ∧ (2147483647 : Int) < 2147483648 ∧ (-2147483649 : Int) < -2147483648 ∧
    2 ^ 19 ≤ (281474976710656 : Int).natAbs / 536870912 ∧ (281474976710656 : Int).natAbs / 536870912 < 2 ^ 20 ∧ 3 ≤ 19 ∧ 19 < 20 ∧ 0 < 0 + 1 ∧
    1 ≤ 1 := by
  decide +kernel

theorem witness_LoopArithmetic_limit : ∃ (w : List Int), 0 ≤ w.getD 241 0 ∧ -(w.getD 241 0) ≤ ((lawOut w (states []) []).getD 0 (0, 0)).1 + 5 ∧
    ((lawOut w (states []) []).getD 0 (0, 0)).1 + 5 ≤ w.getD 241 0 :=
  ⟨(List.replicate 241 0 ++ [5]), by decide +kernel⟩

theorem witness_SpindleStrobe_off : ∃ (s : State), engState 7 (otherEng 7 s) s ≠ engFailed ∧ (s.hinge 7).overlap = none ∧ (s.hinge 7).cause = none ∧
    motIn 7 [stAccel, stRun] s = false ∧ (s.mot 7).runNew = false ∧ s.bit (F.CTL_LOOPEN_EN 7) 5 = false ∧
    (s.set (F.CTL_LOOPEN_EN 7) 0x20).bit (F.CTL_LOOPEN_EN 7) 5 = true ∧ inCtrl 7 s = false :=
  ⟨(eng 7 0 engActive engStandby), by decide +kernel⟩

theorem witness_SpindleStrobe_phase : ∃ (s : State), headsOff 7 on = false ∧
    ¬(headsOff 7 s = false ∨ s.flag F.KET_ENABLE_EN = false ∨ s.flag F.KET_PHCFG_PH_EN = false ∨ s.flag F.KET_STAT_OVERLENGTH = true) ∧
    s.get (F.SCHED_FMT_FMT_RPM 7) ≠ s.ket.refRpm ∧ s.get (F.SCHED_FMT_FMT_RPM 7) = (s.modKet fun k => { k with refRpm := 7200 }).ket.refRpm ∧
    s.flag F.KET_STAT_RPM_MISMATCH = false ∧ (s.setFlag F.KET_STAT_RPM_MISMATCH true).flag F.KET_STAT_RPM_MISMATCH = true :=
  ⟨((((loaded 7).setFlag F.KET_ENABLE_EN true).setFlag F.KET_PHCFG_PH_EN true).set (F.SCHED_FMT_FMT_RPM 7) 7200), by decide +kernel⟩

theorem witness_SpindleStrobe_run : ∃ (s : State), engState 7 (otherEng 7 s) s ≠ engFailed ∧ (s.hinge 7).overlap = none ∧
    motIn 7 [stAccel, stRun] s = true ∧ (s.hinge 7).spinTb = false ∧ ((s.modHinge 7 fun h => { h with spinTb := true }).hinge 7).spinTb = true :=
  ⟨((mot 7 stRun).set (engField 7 true) engStandby), by decide +kernel⟩

theorem witness_KettleFrames_off : ketOn State.reset = false ∧ ketOn linked = true := by
  decide +kernel

theorem witness_KettleFrames_bad : frameGood 13 [] = false ∧ frameGood 8 (epochFrame 1022 1 false 0 0 7200) = false ∧ frameGood 4 [] = false ∧
    frameGood 7 [] = false ∧ frameGood 5 [] = false := by
  decide +kernel

theorem witness_KettleFrames_epoch : ∃ (l : List Nat) (m : List Nat), frameGood 13 l = true ∧ l.headD 0 = 1 ∧ symNum l 2 3 / 16384 < 1023 ∧
    frameGood 13 m = true ∧ symNum m 2 3 / 16384 = 1023 ∧ linked.get F.KET_CFG_ROLE ≠ 1 ∧ (linked.set F.KET_CFG_ROLE 1).get F.KET_CFG_ROLE = 1 ∧
    linked.flag F.KET_STAT_OVERLENGTH = false :=
  ⟨(epochFrame 1022 1 false 0 0 7200), (epochFrame 1023 1 false 0 0 7200), by decide +kernel⟩

theorem witness_KettleFrames_vib : ∃ (l : List Nat) (s : State), frameGood 8 l = true ∧ l.headD 0 = 2 ∧
    ((symNum l 2 2 / 64 : Nat) : Int) - s.get F.KET_STAT_INDEX = [0, -2, -1, 1, 2].getD 4 0 ∧ symNum l 2 2 / 16 % 4 = 2 ∧
    symNum (vibFrame 2 1 0 0) 2 2 / 16 % 4 = 1 ∧ symNum (vibFrame 2 3 0 0) 2 2 / 16 % 4 = 3 ∧
    ∀ d ∈ ([-2, -1, 1, 2] : List Int), ((symNum (vibFrame 3 2 0 0) 2 2 / 64 : Nat) : Int) - s.get F.KET_STAT_INDEX ≠ d :=
  ⟨(vibFrame 2 2 0xFFFF 255), linked, by decide +kernel⟩

theorem witness_KettleFrames_delay : ∃ (s : State) (l : List Nat), frameGood 4 (dreqFrame 255) = true ∧ (dreqFrame 255).headD 0 = 3 ∧
    frameGood 7 l = true ∧ l.headD 0 = 4 ∧ s.ket.reqT = some 100 ∧ symNum l 2 1 = s.ket.reqId ∧ s.ket.exch.length < 15 ∧ linked.ket.reqT = none :=
  ⟨(linked.modKet fun k => { k with reqId := 255, reqT := some 100 }), (drspFrame 255 50), by decide +kernel⟩

theorem witness_KettleFrames_tail : frameGood 5 (tailFrame 1023) = true ∧ (tailFrame 1023).headD 0 = 5 ∧ linked.flag F.KET_STAT_HEAD = false ∧
    (linked.setFlag F.KET_STAT_HEAD true).flag F.KET_STAT_HEAD = true ∧ cfgGroup linked = 0 := by
  decide +kernel

theorem witness_KettleTicks_epoch : ∃ (s : State), ketOn s = true ∧ s.ket.began = true ∧ s.flag F.KET_STAT_HEAD = false ∧
    (s.setFlag F.KET_STAT_HEAD true).flag F.KET_STAT_HEAD = true ∧ (s.setFlag F.KET_STAT_HOLDOVER true).flag F.KET_STAT_HOLDOVER = true ∧
    ((s.setFlag F.KET_STAT_HOLDOVER true).setFlag F.KET_STAT_SEGMENT_HEAD true).flag F.KET_STAT_SEGMENT_HEAD = true ∧
    s.flag F.KET_STAT_SEGMENT_HEAD = false ∧ s.flag F.KET_STAT_HOLDOVER = false ∧
    (s.setFlag F.KET_STAT_EPOCH_VALID true).flag F.KET_STAT_EPOCH_VALID = true :=
  ⟨(linked.modKet fun k => { k with began := true }), by decide +kernel⟩

theorem witness_KettleTicks_lanes : ∃ (s : State), s.flag F.KET_STAT_IN_LOCK = false ∧
    (s.setFlag F.KET_STAT_IN_LOCK true).flag F.KET_STAT_IN_LOCK = true ∧ s.flag F.KET_STAT_SYNC_LOCK = false ∧
    (s.setFlag F.KET_STAT_SYNC_LOCK true).flag F.KET_STAT_SYNC_LOCK = true ∧ (s.setFlag F.KET_VIBCFG_EN true).flag F.KET_VIBCFG_EN = true ∧
    (s.setFlag F.KET_VIBCFG_EN false).flag F.KET_VIBCFG_EN = false ∧ (s.setFlag F.KET_VIBCFG_BCAST_EN true).flag F.KET_VIBCFG_BCAST_EN = true :=
  ⟨linked, by decide +kernel⟩

theorem witness_KettleTicks_heads : ∃ (s : State), s.flag F.KET_STAT_HOLDOVER = true ∧ s.flag F.KET_STAT_IN_LOCK = false ∧
    s.get F.KET_CFG_ROLE ≠ 2 ∧ s.flag F.KET_STAT_SEGMENT_HEAD = false ∧ (s.get F.KET_CFG_ROLE = 0 ∨ s.get F.KET_CFG_ROLE = 3) ∧
    s.flag F.KET_STAT_EPOCH_VALID = false ∧ (s.set F.KET_CFG_ROLE 2).get F.KET_CFG_ROLE = 2 :=
  ⟨(linked.setFlag F.KET_STAT_HOLDOVER true), by decide +kernel⟩

theorem witness_KettleTicks_enable : Reached 0x900000 linked ∧ (breakSeq linked).flag F.KET_ENABLE_EN = true ∧ Reached 0x900000 on ∧
    (breakSeq on).flag F.KET_ENABLE_EN = false ∧ (breakSeq on).ket.checking = false ∧ on.rst.chip = none ∧ inReset.rst.chip ≠ none := by
  unfold Reached; decide +kernel

theorem witness_FlyPrograms_band : ∃ (s : State) (b : FBand) (x : FBlk), openBandOf true s = some b ∧ nextBlock b s = some x :=
  ⟨(journal 2), (⟨1, true, .opened, 1⟩), (⟨0, 0, .opened, 0, 1, 3⟩), by decide +kernel⟩

theorem witness_FlyPrograms_held : ploss.flag F.PWR_SUPPLY_PLOSS = true ∧ safe.flag F.FAULT_STAT_SAFE = true ∧ stopped safe = true ∧
    stopped inReset = true := by
  decide +kernel

theorem witness_FlyPrograms_pack : ∃ (s : State), ¬(s.flag F.PWR_SUPPLY_PLOSS = true ∨ s.flag F.FAULT_STAT_SAFE = true) ∧ s.fly.packC = [] ∧
    s.fly.packH ≠ [] ∧ hostAdmitted s = true ∧ ((startPage true 1 (s.fly.packH.take 4) [] [] s).map fun t => t.fly.packC) = some [] ∧
    hostAdmitted on = false :=
  ⟨(((journal 2).set F.FLY_WM_STOP 0).modFly fun y => { y with packH := [anEntry] }), by decide +kernel⟩

theorem witness_FlyPrograms_done : ∃ (s : State), (s.fly.flight.find? fun p => p.id == 9) = some aPage ∧
    ((journal 2).fly.flight.find? fun p => p.id == 9) = none ∧ s.host.cmds = [] :=
  ⟨((journal 2).modFly fun y => { y with flight := [aPage] }), by decide +kernel⟩

theorem witness_FlyPrograms_destage : ∃ (s : State), stopped s = false ∧ s.fly.pendDst ≠ [] ∧ s.get F.FLY_STAT_STATE = 2 ∧
    (startPage true 2 [] ((destageRanges s.fly.pendDst).take 1056) [] s).isSome = true ∧ (s.set F.FLY_STAT_STATE 3).get F.FLY_STAT_STATE ≠ 2 ∧
    wmHigh (s.set F.FLY_WM_HIGH 0) ≤ flyFree (s.set F.FLY_WM_HIGH 0) :=
  ⟨((journal 2).modFly fun y => { y with pendDst := [(0, 1)] }), by decide +kernel⟩

theorem witness_FlyPrograms_victim : ∃ (s : State), stopped s = false ∧ copiesDone s = true ∧ s.fly.victim = none ∧
    (∀ b ∈ s.fly.blks, b.st ≠ .condemned) ∧ copiesDone (s.modFly fun y => { y with packC := [anEntry] }) = false :=
  ⟨(journal 2), by decide +kernel⟩

theorem witness_FlyPrograms_bookmark : ∃ (s : State), ¬(s.flag F.PWR_SUPPLY_PLOSS = true ∨ s.flag F.FAULT_STAT_SAFE = true) ∧ s.fly.pendBm ≠ [] ∧
    s.get F.FLY_STAT_STATE = 2 ∧ (startPage true 3 [] [] ((s.fly.pendBm.take 264).map fun b => b.1) s).isSome = true ∧ (journal 2).fly.pendBm = [] :=
  ⟨((journal 2).modFly fun y => { y with pendBm := [(⟨1, 0, 0, 1, 0, 1, 0, 0, false⟩, none)] }), by decide +kernel⟩

theorem witness_FlyPrograms_verify : ∃ (s : State), (s.fly.bands.find? fun b => b.num == 1 && b.st == .closed) = some ⟨1, true, .closed, 1⟩ ∧
    (∀ p ∈ s.fly.flight, p.band ≠ 1) ∧ ((journal 2).fly.bands.find? fun b => b.num == 1 && b.st == .closed) = none :=
  ⟨((journal 2).modFly fun y => { y with bands := [⟨1, true, .closed, 1⟩] }), by decide +kernel⟩

theorem witness_FlyPrograms_erase : ∃ (s : State), (s.fly.blks.find? fun b => b.die == 15 && b.num == 4095 && b.st == .erasing) = some ⟨15, 4095, .erasing, 9, 0, 0⟩ ∧
    s.fly.packH = [] ∧ ((journal 2).fly.blks.find? fun b => b.die == 0 && b.num == 0 && b.st == .erasing) = none :=
  ⟨((journal 2).modFly fun y => { y with blks := [⟨15, 4095, .erasing, 9, 0, 0⟩] }), by decide +kernel⟩

theorem witness_FlyStates_enable : Reached F.FLY_ENABLE_EN.addr on ∧ (breakSeq on).flag F.FLY_ENABLE_EN = false ∧
    (breakSeq on).fly.checking = false ∧ Reached F.FLY_ENABLE_EN.addr (journal 2) ∧ (breakSeq (journal 2)).flag F.FLY_ENABLE_EN = true ∧
    (breakSeq (journal 2)).fly.live = [] ∧ (breakSeq (journal 2)).fly.flight = [] ∧ (breakSeq (journal 2)).get F.FLY_STAT_STATE ≠ 1 ∧
    (breakSeq ((journal 2).modFly fun y => { y with live := [0] })).fly.live ≠ [] ∧
    (breakSeq (on.modFly fun y => { y with checking := true })).fly.checking = true := by
  unfold Reached; decide +kernel

theorem witness_FlyStates_check : on.ket.checking = false ∧ (on.modKet fun k => { k with checking := true }).ket.checking = true ∧
    ketReason (on.set F.CLK_PLLSTAT_HOST_LOCK 0) ≠ 0 ∧ safe.flag F.FAULT_STAT_SAFE = true := by
  decide +kernel

theorem witness_FlyStates_start : ∃ (s : State), s.get F.FLY_STAT_STATE = 1 ∧ (on.get F.FLY_STAT_STATE ≠ 1) :=
  ⟨(journal 1), by decide +kernel⟩

theorem witness_FlyStates_checkpoint : ∃ (c : Ckpt) (s : State), s.fly.ckUse = some 1 ∧ s.fly.ckpts[1] = some c ∧ c.full = true :=
  ⟨(⟨true, 1, 5, 7, [], [4], [], [], [], false, true⟩), ((journal 1).modFly fun y => { y with ckpts := y.ckpts.set 1 (some (⟨true, 1, 5, 7, [], [4], [], [], [], false, true⟩)), ckUse := some 1 }), by decide +kernel⟩

theorem witness_FlyStates_die : (journal 2).bit F.FLY_DIE_IN_SERVICE 1 = true ∧ (journal 2).bit F.FLY_DIE_IN_SERVICE 15 = false := by
  decide +kernel

theorem witness_FlyStates_drained : (journal 3).get F.FLY_STAT_STATE = 3 ∧ (journal 3).fly.live = [] ∧ (journal 2).get F.FLY_STAT_STATE ≠ 3 := by
  decide +kernel

theorem witness_FlyStates_warm : ∃ (s : State), stopped s = false ∧ s.way 16383 15 = some aWay ∧ aWay.offered = true ∧
    (s.setFlag F.FLY_CFG_WARM_EN false).flag F.FLY_CFG_WARM_EN = false ∧ (s.setFlag F.FLY_CFG_WARM_EN true).flag F.FLY_CFG_WARM_EN = true ∧
    s.get F.FLY_STAT_STATE = 2 ∧ wmHigh s ≤ flyFree s ∧ 49 < s.get F.FLY_CFG_WARM_LOAD ∧ s.get F.FLY_CFG_WARM_LOAD ≤ 50 :=
  ⟨((((journal 2).modCache fun x => { x with ways := [aWay] }).set F.FLY_CFG_WARM_LOAD 50).set F.FLY_WM_HIGH 0), by decide +kernel⟩

theorem witness_FlyStates_read : ∃ (s : State), s.fly.warm.contains (1, 0) = true ∧ s.fly.warmW = [] ∧ inReset.rst.chip ≠ none ∧
    on.rst.chip = none ∧ on.host.cmds = [] ∧ on.get F.FLY_STAT_STATE ≠ 2 ∧ on.fly.checking = false :=
  ⟨(on.modFly fun y => { y with warm := [(1, 0)] }), by decide +kernel⟩

theorem witness_GatheringRows_commit : Reached 0x700040 on ∧ (breakSeq on).gath.check = none ∧
    (breakSeq { on with gath := { on.gath with check := some 3 } }).gath.check ≠ none := by
  unfold Reached; decide +kernel

theorem witness_GatheringRows_lock : ∃ (s : State), (((s.layout 0).locks).find? fun x => x.1 == 0) = some (0, 0, 0) ∧
    (s.host.wb.find? fun w => w.k == 0 && w.run) = some aVer ∧ intentReady 0 0 s = true ∧ s.ns 1 = some gathNs ∧
    ((s.layout 3).locks.find? fun x => x.1 == 0) = none ∧ intentReady 0 0 (s.modLayout 0 fun y => { y with intents := [] }) = false :=
  ⟨updating, by decide +kernel⟩

theorem witness_GatheringRows_update : ∃ (s : State), (stripeParity 0 0 0 [] gathNs s).isSome = true ∧ (tryAlloc 0xB 3 64 s).isSome = true :=
  ⟨updating, by decide +kernel⟩

theorem witness_GatheringRows_resync : ∃ (s : State), stopped s = false ∧ ((s.layout 0).intents.find? fun x => x.1 == 7) = some (7, 1) ∧
    (∀ z ∈ (s.layout 0).locks, z.1 ≠ 7) ∧ ((s.layout 0).intents.find? fun x => x.1 == 8) = none :=
  ⟨(gathered.modLayout 0 fun y => { y with intents := [(7, 1)] }), by decide +kernel⟩

theorem witness_GatheringRows_channel : ∃ (s : State), committed 0 s = true ∧ s.bit (F.GATH_LSTAT_UNAVAIL 0) (3 : Ch) = true ∧
    chanReady 3 s = true ∧
    (∀ x ∈ ((gathSync (s.modLayout 0 fun y => { y with stale := y.stale.filter fun x => x != ((3 : Ch).val, 0) })).layout 0).stale, x.1 ≠ (3 : Ch).val) ∧
    chanReady 3 on = false ∧ committed 0 on = false :=
  ⟨((gathered.setBit (F.GATH_LSTAT_UNAVAIL 0) 3 true).set (F.PAGE_ENABLE_PHASE 3) 3), by decide +kernel⟩

theorem witness_GatheringRows_rebuild : ∃ (s : State) (i : Nat), committed 0 s = true ∧ s.bit (F.GATH_LSTAT_LOST 0) (3 : Ch) = true ∧
    layoutK 0 s + layoutM 0 s < layoutW 0 s ∧ (s.layout 0).rebAt ≤ 1 ∧ s.flag F.GATH_REBUILD_ACTIVE = true ∧
    s.get F.GATH_REBUILD_LAYOUT = (0 : Fin 4).val ∧ s.flag F.GATH_REBUILD_RESYNC = false ∧ (s.layout 0).locks = [] ∧
    stripOn 0 1 (3 : Ch).val s = some i ∧ (∀ r ∈ (s.layout 0).rebuilt, r.1 ≠ 1) ∧ missingStrips 0 1 s ≤ layoutM 0 s ∧ rebuildTarget 0 1 s = some 0 ∧
    laterStrip 0 1 (3 : Ch).val s = true :=
  ⟨rebuilding, 2, by decide +kernel⟩

theorem witness_GatheringRows_parity : (2 : Nat) = 2 ∧ ∀ i < 2, ∃ x ∈ ([(0, [1]), (1, [2])] : List (Nat × List Nat)), x.1 = i := by
  decide +kernel

theorem witness_GatheringRows_reconstruct : ∃ (s : State), (s.gath.recon.find? fun r => r.nsid == 1 && r.lba == 0) = some ⟨1, 0, 0, [0], false⟩ ∧
    s.ns 1 = some gathNs ∧ missingStrips 0 (nsPlace gathNs 0 s).2.2.1 s ≤ layoutM 0 s ∧ layoutM 0 s = 1 ∧
    (solve (layoutK 0 s) 0 [(1, [3])] (some [5]) none) = some [6] ∧
    layoutM 0 ((s.set (F.GATH_LSTAT_LOST 0) 3)) < missingStrips 0 (nsPlace gathNs 0 s).2.2.1 (s.set (F.GATH_LSTAT_LOST 0) 3) :=
  ⟨({ gathered with gath := { gathered.gath with recon := [⟨1, 0, 0, [0], false⟩] } }), by decide +kernel⟩

theorem witness_GatheringRows_none : (on.gath.recon.find? fun r => r.nsid == 1 && r.lba == 0) = none ∧ inReset.rst.chip ≠ none ∧
    on.rst.chip = none ∧ stopped safe = true := by
  decide +kernel

theorem witness_GatheringRows_waits : ∃ (s : State), (s.gath.recon.find? fun r => r.nsid == 1 && r.lba == 0) = some ⟨1, 0, 0, [0], false⟩ ∧
    s.ns 1 = some gathNs ∧ (∀ x ∈ (s.layout 0).locks, x.1 = (nsPlace gathNs 0 s).2.2.1 → x.2.2 = 0) ∧
    ∃ x ∈ ((s.modLayout 0 fun y => { y with locks := [(0, 0, 1)] }).layout 0).locks, x.1 = (nsPlace gathNs 0 s).2.2.1 ∧ 0 < x.2.2 :=
  ⟨({ updating with gath := { updating.gath with recon := [⟨1, 0, 0, [0], false⟩] } }), by decide +kernel⟩

theorem witness_CopyEngine_commands : Reached (F.DMA_CTL_TAIL 7).addr on ∧ (breakSeq on).flag (F.DMA_STAT_BUSY 7) = false ∧
    Reached (F.DMA_CTL_TAIL 7).addr (on.setFlag (F.DMA_STAT_BUSY 7) true) ∧
    (breakSeq (on.setFlag (F.DMA_STAT_BUSY 7) true)).flag (F.DMA_STAT_BUSY 7) = true := by
  unfold Reached; decide +kernel

theorem witness_CopyEngine_result : ∃ (d : DmaDesc) (r : DmaRun), r.failed = [d.len / 2 ^ d.dstW - 1] ∧ 0 < d.len / 2 ^ d.dstW ∧
    ({ r with failed := [6] }.failed = 6 :: [] ∧ 6 + 1 ≠ d.len / 2 ^ d.dstW) ∧ { r with failed := [], noRead := true }.failed = [] ∧
    { r with failed := [], noRead := true }.noRead = true :=
  ⟨(⟨0, 0, 64, 3, 3⟩), (⟨7, [7], false, true, [], none⟩), by decide +kernel⟩

theorem witness_CopyEngine_end : State.reset.canon ∧ (7 : Nat) < 8 ∧ (7 : Nat) ≠ 1 := by
  unfold State.canon mapsCanon; decide +kernel

theorem witness_CopyEngine_done : ∃ (s : State), s.flag (F.DMA_STAT_BUSY 7) = true ∧ on.flag (F.DMA_STAT_BUSY 7) = false ∧
    dmaRefused ⟨0, 0, 64, 3, 3⟩ = false :=
  ⟨(on.setFlag (F.DMA_STAT_BUSY 7) true), by decide +kernel⟩

theorem witness_ChannelLife_enable : Reached (F.PAGE_ENABLE_EN 7).addr on ∧ (breakSeq on).flag (F.PAGE_ENABLE_EN 7) = false ∧
    (breakSeq on).get (F.PAGE_ENABLE_PHASE 7) ≠ 1 ∧ Reached (F.PAGE_ENABLE_EN 7).addr (phase 7 1) ∧
    (breakSeq (phase 7 1)).get (F.PAGE_ENABLE_PHASE 7) = 1 ∧ (breakSeq (phase 7 3)).flag (F.PAGE_ENABLE_EN 7) = true ∧
    (breakSeq (phase 7 3)).get (F.PAGE_ENABLE_PHASE 7) ≠ 1 := by
  unfold Reached; decide +kernel

theorem witness_ChannelLife_check : (phase 7 1).get (F.PAGE_ENABLE_PHASE 7) = 1 ∧ chanReason 7 ⟨none, true, true, true, []⟩ (phase 7 1) = 1 ∧
    (1 : Nat) ≠ 0 ∧ on.get (F.PAGE_ENABLE_PHASE 7) ≠ 1 := by
  decide +kernel

theorem witness_ChannelLife_ready : (phase 7 2).get (F.PAGE_ENABLE_PHASE 7) = 2 ∧ (phase 7 2).flag (F.CTL_STAT_LOADED 7) = false ∧
    ((phase 7 2).setFlag (F.CTL_STAT_LOADED 7) true).flag (F.CTL_STAT_LOADED 7) = true ∧ on.get (F.PAGE_ENABLE_PHASE 7) ≠ 2 := by
  decide +kernel

theorem witness_ChannelLife_fence : chanFailed 7 (on.setBit (F.FAULT_STATUS_SRC (chSrc 7 6 / 32)) (chSrc 7 6 % 32) true) = true ∧
    chanFailed 7 on = false ∧ on.flag (F.PAGE_ENABLE_EN 7) = false ∧ (∀ i ∈ (on.chan 7).sched.ring, i.taken = false) ∧
    (phase 7 3).flag (F.PAGE_ENABLE_EN 7) = true := by
  decide +kernel

theorem witness_ChannelLife_reset : Reached F.RST_CHRST_REQ.addr on ∧ MayWrite .mgmt F.RST_CHRST_REQ.addr on ∧ RegPath.sideband ≠ .mgmt ∧
    addrOpen F.RST_CHRST_REQ.addr (breakSeq on) = false := by
  unfold Reached MayWrite; decide +kernel

theorem witness_FaultCollector_latch : ∃ (r : Raise) (s : State), s.raised = r :: [] ∧ suppressed r.src s = false ∧ srcStatus r.src s = false ∧
    on.raised = [] :=
  ⟨(⟨hostSrc 0, 0xFFFF, 0, 0⟩), (on.raise (hostSrc 0)), by decide +kernel⟩

theorem witness_FaultCollector_again : ∃ (r : Raise) (s : State), suppressed r.src s = false ∧ srcStatus r.src s = true ∧
    suppressed 0 State.reset = true :=
  ⟨(⟨hostSrc 43, 0xFFFF, 0, 0⟩), (on.setBit (F.FAULT_STATUS_SRC (hostSrc 43 / 32)) (hostSrc 43 % 32) true), by decide +kernel⟩

theorem witness_FaultCollector_classes : classReset 0 < 2 ∧ classReset (chSrc 0 13) = 4 ∧ safe.flag F.FAULT_STAT_SAFE = true ∧
    (List.range 384).any (fun x => classReset x == 3) = true ∧ (on.setFlag F.FAULT_FIRST_VALID true).flag F.FAULT_FIRST_VALID = true := by
  decide +kernel

theorem witness_FaultCollector_writes : Reached (F.FAULT_STATUS_SRC (11 : Fin 12).val).addr on ∧ Reached F.FAULT_CTL_FORCE_SAFE.addr on ∧
    MayWrite .mgmt F.FAULT_CTL_FORCE_SAFE.addr on ∧ RegPath.bar2 ≠ .mgmt ∧ addrOpen F.FAULT_CTL_FORCE_SAFE.addr (breakSeq on) = false ∧
    Reached F.FAULT_CTL_CHIP_RST.addr on ∧ (breakSeq on).flag F.PWR_SUPPLY_PLOSS = false ∧ (breakSeq on).rst.chip = none ∧
    (breakSeq on).rst.waitRel = false := by
  unfold Reached MayWrite; decide +kernel

theorem witness_FaultCollector_reenable : ∃ (s : State) (u : State), s.rst.reen[7] = some (chSrc 7 6) ∧ (reenables 7 s).length < 3 ∧
    spinsUp 7 s = false ∧ needsStart 7 s = true ∧ needsStart 7 (s.set (F.MOT_STAT_STATE 7) stRun) = false ∧ 3 ≤ (reenables 7 u).length ∧
    spinsUp 7 u = false ∧ on.rst.reen[7] = none :=
  ⟨({ on with rst := { on.rst with reen := on.rst.reen.set 7 (some (chSrc 7 6)), reenAt := on.rst.reenAt.set 7 [0, 0] } }), ({ on with rst := { on.rst with reen := on.rst.reen.set 7 (some (chSrc 7 6)), reenAt := on.rst.reenAt.set 7 [0, 0, 0] } }), by decide +kernel⟩

theorem witness_FaultCollector_resets : inReset.rst.chip ≠ none ∧ on.rst.chip = none ∧ on.host.cmds = [] ∧ on.host.wb = [] := by
  decide +kernel

theorem witness_ColophonRules_write : ∃ (s : State), s.colo.repeats 1 2 [] = true ∧ s.colo.repeats 1 3 [] = false ∧ s.colo.recs.length < 8192 :=
  ⟨({ on with colo := { Colo.reset with recs := [⟨4, 1, 2, 1, []⟩], next := 5 } }), by decide +kernel⟩

theorem witness_ColophonRules_mirror : ∃ (s : State), s.flag F.COLO_STAT_MIRROR = true ∧ s.colo.unmirrored.reverse.take 512 ≠ [] ∧
    on.colo.unmirrored.reverse.take 512 = [] :=
  ⟨(({ on with colo := { Colo.reset with recs := [⟨4, 1, 2, 1, []⟩], next := 5 } } : State).setFlag F.COLO_STAT_MIRROR true), by decide +kernel⟩

theorem witness_ColophonRules_limit : ∃ (s : State), s.colo.limit = some 16777216 ∧ s.colo.headSeq + 8388608 ≤ 16777216 ∧
    16777216 < ({ s.colo with next := 8388610 } : Colo).headSeq + 8388608 ∧ on.colo.limit = none :=
  ⟨({ on with colo := { Colo.reset with next := 8388609, limit := some 16777216 } }), by decide +kernel⟩

theorem witness_ColophonRules_locked : (on.setFlag F.COLO_STAT_LOCKOUT true).flag F.COLO_STAT_LOCKOUT = true ∧ on.flag F.COLO_STAT_LOCKOUT = false ∧
    Reached 0x110018 on ∧ coloAccepts 0 true (breakSeq on) = false := by
  unfold Reached; decide +kernel

theorem witness_ColophonRules_answered : ∃ (s : State), s.colo.chal = some 5 ∧ Reached 0x110018 s ∧ breakSeq s = s :=
  ⟨({ on with colo := { Colo.reset with chal := some 5 }, fuses := { on.fuses with clearkey := ⟨1, 0⟩ } }), by unfold Reached; decide +kernel⟩

theorem witness_ResetsAndSupplies_loss : ploss.flag F.PWR_SUPPLY_PLOSS = true ∧ on.flag F.PWR_SUPPLY_PLOSS = false ∧
    { ploss with rst := { ploss.rst with ckptOpen := true } }.rst.ckptOpen = true ∧ ploss.rst.ckptOpen = false ∧ State.reset.canon := by
  unfold State.canon mapsCanon; decide +kernel

theorem witness_ResetsAndSupplies_reset : ∃ (s : State), s.rst.rstLow = false ∧ { s with rst := { s.rst with rstLow := true } }.rst.rstLow = true ∧
    on.rst.chip = none ∧ s.rst.chip = some (1, none) ∧ (∀ n : Ch, s.flag (F.MOT_STAT_RETRACTING n) = false ∧ sectorBegun n s = false) ∧
    (1 : Nat) < 16 ∧ s.canon ∧ (∃ n : Ch, (s.setFlag (F.MOT_STAT_RETRACTING 7) true).flag (F.MOT_STAT_RETRACTING n) = true) ∧
    sectorBegun 7 (withArm 7 3 { anArm 2 with begun := true } s) = true :=
  ⟨inReset, by unfold State.canon mapsCanon; decide +kernel⟩

theorem witness_ResetsAndSupplies_perst : ∃ (s : State), s.rst.perst[1] = true ∧ s.boot.nextAct = none ∧ on.rst.perst[1] = false :=
  ⟨({ on with rst := { on.rst with perst := on.rst.perst.set 1 true } }), by decide +kernel⟩

theorem witness_ResetsAndSupplies_clocks : ∃ (s : State), s.bit F.CLK_PLLSTAT_CH_LOCK (3 * (7 : Ch).val + (2 : Fin 3).val) = true ∧
    s.bit F.CLK_PLLSTAT_HOST_LOCK (5 : Fin 6).val = true ∧
    ((s.set F.CLK_PLLSTAT_CH_LOCK 0).set F.CLK_PLLSTAT_HOST_LOCK 0).get F.CLK_PLLSTAT_CH_LOCK = 0 ∧
    ((s.set F.CLK_PLLSTAT_CH_LOCK 0).set F.CLK_PLLSTAT_HOST_LOCK 0).get F.CLK_PLLSTAT_HOST_LOCK = 0 ∧
    ((s.set F.CLK_PLLSTAT_CH_LOCK 0).set F.CLK_PLLSTAT_HOST_LOCK 0).canon ∧ Reached F.CLK_SSC_FAB_SS.addr s ∧
    MayWrite .mgmt F.CLK_SSC_FAB_SS.addr s ∧ RegPath.bar2 ≠ .mgmt ∧ addrOpen F.CLK_SSC_FAB_SS.addr (breakSeq s) = false :=
  ⟨((on.set F.CLK_PLLSTAT_CH_LOCK 0xFFFFFF).set F.CLK_PLLSTAT_HOST_LOCK 0x3F), by unfold Reached MayWrite State.canon mapsCanon; decide +kernel⟩

theorem witness_ResetsAndSupplies_temperature : 100 < (hottest #v[0, 0, 0, 0, 0, 0, 0, 0, 101]).2 ∧
    (hottest #v[100, 0, 0, 0, 0, 0, 0, 0, 0]).2 ≤ 100 ∧ 95 ≤ (hottest #v[95, 0, 0, 0, 0, 0, 0, 0, 0]).2 ∧
    (hottest #v[94, 0, 0, 0, 0, 0, 0, 0, 0]).2 < 95 ∧ on.rst.hot = false := by
  decide +kernel

theorem witness_DomainsAndBoot_request : Reached (F.PWR_DOMCTL_REQ 0).addr on ∧ MayWrite .mgmt (F.PWR_DOMCTL_REQ 0).addr on ∧
    Reached (F.PWR_DOMCTL_REQ 1).addr on ∧ MayWrite .mgmt (F.PWR_DOMCTL_REQ 1).addr on ∧ RegPath.bar2 ≠ .mgmt ∧
    addrOpen (F.PWR_DOMCTL_REQ 0).addr (breakSeq on) = false ∧ addrOpen (F.PWR_DOMCTL_REQ 1).addr (breakSeq on) = false := by
  unfold Reached MayWrite; decide +kernel

theorem witness_DomainsAndBoot_domain : ∃ (s : State), domOn (49 : Fin 50) s = false ∧ s.flag F.PWR_SUPPLY_PLOSS = false ∧
    (∀ x ∈ domNeeds (49 : Fin 50), domOn x s = true) ∧ (domReq s).testBit (49 : Fin 50) = true ∧ (49 : Fin 50).val ≠ 36 ∧ s.boot.booted = false ∧
    domOn (49 : Fin 50) on = true ∧ ploss.flag F.PWR_SUPPLY_PLOSS = true :=
  ⟨((on.set (F.PWR_DOMSTAT_ON 1) 0x1FFFF).set (F.PWR_DOMCTL_REQ 1) 0x3FFFF), by decide +kernel⟩

theorem witness_DomainsAndBoot_boot : ∃ (s : State), ¬(s.boot.booted = true ∨ domOn 43 s = false ∨ s.rst.waitRel = true ∨ s.rst.chip ≠ none ∨ s.flag F.PWR_SUPPLY_PLOSS = true) ∧
    s.boot.slots[0] = some anImage ∧ imageReason (some anImage) true s = 0 ∧ imageReason on.boot.slots[0] true on = 1 ∧
    imageReason on.boot.slots[1] false on = 2 :=
  ⟨({ on with fuses := { on.fuses with keyhash := ⟨aKeyHash, 1⟩ }, boot := { on.boot with slots := on.boot.slots.set 0 (some anImage) } }), by (rw [imageReason, keyOk, anImage_hash, anImage_key]; decide +kernel)⟩

theorem witness_DomainsAndBoot_second : ∃ (s : State), imageReason s.boot.slots[0] true s = 1 ∧ imageReason (some anImage) true s = 0 ∧
    s.boot.slots[1] = some anImage :=
  ⟨({ on with fuses := { on.fuses with keyhash := ⟨aKeyHash, 1⟩ }, boot := { on.boot with slots := on.boot.slots.set 1 (some anImage) } }), by (refine ⟨by decide +kernel, ?_, by decide +kernel⟩; rw [imageReason, keyOk, anImage_hash, anImage_key]; decide +kernel)⟩

theorem witness_DomainsAndBoot_rollback : ∃ (s : State), s.boot.image = some (imageOf 32) ∧ (imageOf 32).rollback = 32 ∧ rollbackF s < 32 ∧
    ((s.modCtlr 0 fun y => { y with rdy := true }).ctlr 0).rdy = true ∧ on.boot.image = none ∧ anImage.rollback ≤ rollbackF on :=
  ⟨({ on with boot := { on.boot with image := some (imageOf 32) } }), by decide +kernel⟩

theorem witness_DomainsAndBoot_fuses : Reached F.RST_FUSEPROG_KEY.addr on ∧ MayWrite .mgmt F.RST_FUSEPROG_KEY.addr on ∧
    (breakSeq on).fuses.keyhash.blank = true ∧ (breakSeq on).fuses.clearkey.blank = true ∧ (0xF05F#16) ≠ 0xF05E ∧
    (⟨5, 1⟩ : FuseField).blank = false ∧ RegPath.bar2 ≠ .mgmt ∧ addrOpen F.RST_FUSEPROG_KEY.addr (breakSeq on) = false := by
  unfold Reached MayWrite; decide +kernel

theorem witness_AccessesOfTheSetUpSpace_unlock : ∃ (s : State), s.rst.armed = [(.bar2, (0x1A#16).toNat)] ∧ RegPath.bar2 ≠ .mgmt ∧
    s.flag F.GLB_EXPERT_DENY_DENY = false ∧ 0x10 ≤ (0x1A#16).toNat ∧ (0x1A#16).toNat ≤ 0x1A ∧ (7#16).toNat < 8 ∧ 8 ≤ (8#16).toNat ∧
    (0xF#16).toNat < 0x10 ∧ on.rst.armed ≠ [(.bar2, (0x1A#16).toNat)] :=
  ⟨({ on with rst := { on.rst with armed := [(.bar2, (0x1A#16).toNat)] } }), by decide +kernel⟩

theorem witness_AccessesOfTheSetUpSpace_denied : (on.setFlag F.GLB_EXPERT_DENY_DENY true).flag F.GLB_EXPERT_DENY_DENY = true ∧
    (0xFFFF#16) = 0xFFFF := by
  decide +kernel

theorem witness_AccessesOfTheSetUpSpace_write : ∃ (a : Nat), a ≠ 0x40 ∧ 4 ≠ 8 ∧ a % 0x100 ≠ 8 ∧ windowOff a (breakSeq on) = false ∧
    sramAt a = none ∧ fuseWindow a = false ∧ a % 4 = 0 ∧ windowOff a (breakSeq State.reset) = true ∧ (2 ≠ 4) :=
  ⟨0x2100000, by decide +kernel⟩

theorem witness_AccessesOfTheSetUpSpace_guarded : RegPath.bar2 ≠ .mgmt ∧ addrOpen F.RST_CHRST_REQ.addr on = false ∧
    guarded F.RST_CHRST_REQ.addr 1 = true := by
  decide +kernel

theorem witness_AccessesOfTheSetUpSpace_fields : F.CACHE_MAINT_CMD_OP.acc = .rw ∧ fieldHeld F.CACHE_MAINT_CMD_OP on = false ∧
    (F.MOT_STAT_STATE 7).acc = .ro ∧ (F.MOT_RUNCFG_DIR 7).acc = .rwl ∧ fieldHeld (F.MOT_RUNCFG_DIR 7) on = false ∧
    (F.AFE_INCFG_CTLE_BOOST 7 3).acc = .rws ∧ fieldHeld (F.AFE_INCFG_CTLE_BOOST 7 3) on = false := by
  decide +kernel

theorem witness_AccessesOfTheSetUpSpace_sideband : domOn 45 on = true ∧ domOn 45 State.reset = false ∧ (2#32).toNat % 4 ≠ 0 ∧ (4#32).toNat % 8 ≠ 0 ∧
    (0x2100000#32).toNat % 8 = 0 ∧ (0x3FFFFF8#32).toNat < 0x4000000 ∧ 0x4000000 ≤ (0x4000000#32).toNat ∧ (0x4000000#32).toNat % 4 = 0 := by
  decide +kernel

theorem witness_AccessesOfTheSetUpSpace_reads : ((setupRead (0x200000#32).toNat 4 on).1.isSome = true ∧ (0x200000#32).toNat % 4 = 0) ∧
    ((setupRead (0x200000#32).toNat 8 on).1.isSome = true ∧ (0x200000#32).toNat % 8 = 0) ∧ (setupRead (0x900000#32).toNat 4 State.reset).1 = none ∧
    (0x900000#32).toNat % 4 = 0 := by
  decide +kernel

theorem witness_SidebandMessages_address : on.host.i3c.dyn = none ∧ on.host.i3c.static = (0x1D#7).toNat ∧ on.host.i3c.static ≠ (0x1E#7).toNat ∧
    (on.modHost fun h => { h with i3c := { h.i3c with dyn := some 8 } }).host.i3c.dyn ≠ none := by
  decide +kernel

theorem witness_SidebandMessages_mi : domOn 45 State.reset = false ∧ domOn 45 on = true ∧ portThere 0 on = true ∧ portThere 1 on = false ∧
    64 ≤ (64#16).toNat ∧ (63#16).toNat < 64 ∧ (4#8 ≠ 2 ∧ 4#8 ≠ 3) ∧ (0x07#8) ∉ [0x02#8, 0x06#8, 0x09#8, 0x0A#8, 0x10#8, 0x11#8, 0x14#8] ∧
    on.flag F.FAULT_STAT_SAFE = false := by
  decide +kernel

theorem witness_Doorbells_tail : ∃ (s : State) (q : Sq), s.sq 0 1 = some q ∧ q.gone = false ∧ 3 < q.size ∧
    (3 + q.size - q.tail) % q.size + q.avail < q.size ∧ (2 + q.size - q.tail) % q.size = 0 ∧ s.sq 0 2 = none :=
  ⟨queues, (⟨0, 1, 4, 1, 0, 2, 1, false⟩), by decide +kernel⟩

theorem witness_Doorbells_bad : ∃ (s : State) (q : Sq), s.sq 0 1 = some q ∧ q.size ≤ 4 ∧ 0 < (1 + q.size - q.tail) % q.size ∧
    q.size ≤ (1 + q.size - q.tail) % q.size + q.avail ∧ { q with gone := true }.gone = true :=
  ⟨queues, (⟨0, 1, 4, 1, 0, 2, 1, false⟩), by decide +kernel⟩

theorem witness_Doorbells_head : ∃ (s : State) (x : Cq), s.cq 0 1 = some x ∧ 3 < x.size ∧ x.size ≤ 4 ∧ s.cq 0 2 = none :=
  ⟨queues, aCq, by decide +kernel⟩

theorem witness_Doorbells_error : ∃ (s : State), aecEnables (s.ctlr 0).aec 1 1 = true ∧ (1, 0) ∉ (s.ctlr 0).masked ∧ s.canon ∧
    s.flag F.NVME_DBERR_VALID = false ∧ 1023 < 1024 ∧ (s.setFlag F.NVME_DBERR_VALID true).flag F.NVME_DBERR_VALID = true :=
  ⟨(on.modCtlr 0 fun y => { y with aec := 0xFFFFFFFF }), by unfold State.canon mapsCanon; decide +kernel⟩

theorem witness_Doorbells_vector : ∃ (s : State), 0 < vecHeld 0 1 s ∧ vecHeld 0 2 s = 0 :=
  ⟨(on.modHost fun h => { h with cqs := [{ aCq with held := 2 }] }), by decide +kernel⟩

theorem witness_FetchAndCompletion_arbitrate : ∃ (s : State), (s.ctlr 0).en = true ∧ (s.ctlr 0).rdy = true ∧
    s.flag F.NVME_INTAKE_FETCH_STOP = false ∧ ((arbitrate 0 s).map fun x => x.1) = some ⟨0, 1, 4, 1, 0, 2, 1, false⟩ ∧ arbitrate 1 s = none ∧
    (s.ctlr 0).arb % 8 = 3 ∧ (on.ctlr 0).en = false :=
  ⟨(queues.modCtlr 0 fun y => { y with en := true, rdy := true }), by decide +kernel⟩

theorem witness_FetchAndCompletion_admin : ∃ (s : State), s.sq 0 0 = some ⟨0, 0, 4, 0, 0, 1, 1, false⟩ ∧
    0 < (⟨0, 0, 4, 0, 0, 1, 1, false⟩ : Sq).avail :=
  ⟨(on.modHost fun h => { h with sqs := [⟨0, 0, 4, 0, 0, 1, 1, false⟩] }), by decide +kernel⟩

theorem witness_FetchAndCompletion_transfer : ∃ (d : Cmd) (s : State), s.cmd 0 = some d ∧ d.wantXfer = true ∧ d.status = none ∧
    s.ns d.e.ns = some aNs ∧ [(⟨[], []⟩ : Block)].length = d.handles.length ∧ piInserts aNs d.e = false ∧
    ([(⟨[], []⟩ : Block)].zipIdx.findSome? fun y => piCheck aNs d.e y.2 y.1) = none ∧ ([] : List Block).length ≠ d.handles.length ∧ s.cmd 1 = none :=
  ⟨({ io 0x01 0 0 with wantXfer := true, handles := [0] }), (withNs aNs (put ({ io 0x01 0 0 with wantXfer := true, handles := [0] }) on)), by decide +kernel⟩

theorem witness_FetchAndCompletion_handoff : ∃ (d : Cmd) (s : State) (x : Cq), s.cmd 0 = some d ∧ d.status ≠ none ∧ d.posting = false ∧
    d.dead = false ∧ s.flag F.PWR_SUPPLY_PLOSS = false ∧ writeBefore d s = false ∧ d.after = none ∧ d.qid ≠ 65536 ∧ cmdCq d s = some x ∧
    cqRoom x s = true ∧ cqRoom { x with tail := 3 } s = false ∧ cmdCq d (put d on) = none ∧ { d with qid := 65536 }.qid = 65536 ∧
    { d with dead := true }.dead = true :=
  ⟨({ io 0x02 0 0 with status := some 0 }), (put ({ io 0x02 0 0 with status := some 0 }) queues), aCq, by decide +kernel⟩

theorem witness_FetchAndCompletion_posted : ∃ (d : Cmd) (s : State), s.cmd 0 = some d ∧ d.posting = true ∧ s.flag F.PWR_SUPPLY_PLOSS = false ∧
    cmdCq d s = some aCq ∧ cmdCq d (put d on) = none :=
  ⟨({ io 0x02 0 0 with status := some 0, posting := true }), (put ({ io 0x02 0 0 with status := some 0, posting := true }) queues), by decide +kernel⟩

theorem witness_FetchAndCompletion_undecided : ∃ (d : Cmd) (s : State), s.cmd 0 = some d ∧ cmdDecide 0 s = s ∧ d.status = none :=
  ⟨(io 0x02 0 0), (withNs aNs (put (io 0x02 0 0) on)), by decide +kernel⟩

theorem witness_FetchAndCompletion_stamp : ∃ (d : Cmd) (s : State), s.cmd 0 = some d ∧ d.stampWait ≠ none ∧ d.status = none ∧ stampHeld d s = none :=
  ⟨({ io 0x01 0 0 with stampWait := some 9 }), (put ({ io 0x01 0 0 with stampWait := some 9 }) on), by decide +kernel⟩

theorem witness_FetchAndCompletion_locks : ∃ (d : Cmd) (s : State), s.cmd 0 = some d ∧ locking d s = true ∧ (∀ l ∈ s.host.locks, l.k ≠ 0) ∧
    s.host.locks.length + (lockEntries d).length ≤ 256 ∧ 256 < (List.replicate 256 (⟨7, 1, 0, 1, true⟩ : Lock)).length + (lockEntries d).length ∧
    (∀ y ∈ s.host.cmds, y.lockWait = false) :=
  ⟨({ io 0x01 0 0 with ranges := [⟨0, 1⟩], wr := true }), (withNs { aNs with strict := true } (put ({ io 0x01 0 0 with ranges := [⟨0, 1⟩], wr := true }) on)), by decide +kernel⟩

theorem witness_FetchAndCompletion_early : ∃ (d : Cmd) (s : State), s.cmd 0 = some d ∧ d.wantXfer = false ∧ d.status = none ∧ d.started = false ∧
    readsHost d = true ∧ readsHost (io 0x02 0 0) = false :=
  ⟨(io 0x09 0 0), (put (io 0x09 0 0) on), by decide +kernel⟩

theorem witness_FetchAndCompletion_insert : ∃ (d : Cmd) (v : Ns) (s : State), s.cmd 0 = some d ∧ d.wantXfer = true ∧ d.status = none ∧
    s.ns d.e.ns = some v ∧ [(⟨[], []⟩ : Block)].length = d.handles.length ∧ piInserts v d.e = true :=
  ⟨({ io 0x01 0 0x20000000 with wantXfer := true, handles := [0] }), ({ aNs with lbaf := 1, pi := 1 }), (withNs ({ aNs with lbaf := 1, pi := 1 }) (put ({ io 0x01 0 0x20000000 with wantXfer := true, handles := [0] }) on)), by decide +kernel⟩

theorem witness_ControllersAndPorts_enable : ∃ (s : State), (s.ctlr 0).en = false ∧ (s.ctlr 0).rdy = false ∧ s.rst.perst[0] = false ∧
    s.boot.booted = true ∧ s.rst.chip = none ∧ 1 < 2 ∧ on.boot.booted = false :=
  ⟨({ on with boot := { on.boot with booted := true } }), by decide +kernel⟩

theorem witness_ControllersAndPorts_port1 : ∃ (s : State), s.boot.bifur = true ∧ ¬((1 : Ctl) = 0 ∨ on.boot.bifur = true) ∧ 1 ≤ 1 ∧ 6 ≤ 6 ∧
    on.boot.bifur = false ∧ on.rst.perst[0] = false ∧ { on with rst := { on.rst with perst := on.rst.perst.set 0 true } }.rst.perst[0] = true :=
  ⟨({ on with boot := { on.boot with bifur := true } }), by decide +kernel⟩

theorem witness_ControllersAndPorts_shutdown : ∃ (s : State), (s.ctlr 0).en = true ∧ (s.ctlr 0).shst ≠ 2 ∧
    (∃ d : Ctl, (s.ctlr d).en = true ∧ d ≠ 0 ∧ (s.ctlr d).shst = 0) ∧
    (∀ d : Ctl, ((s.modCtlr 1 fun y => { y with shst := 1 }).ctlr d).en = true → d ≠ 0 → ((s.modCtlr 1 fun y => { y with shst := 1 }).ctlr d).shst ≠ 0) ∧
    ((s.modCtlr 0 fun y => { y with shst := 2 }).ctlr 0).shst = 2 :=
  ⟨((on.modCtlr 0 fun y => { y with en := true }).modCtlr 1 fun y => { y with en := true }), by decide +kernel⟩

theorem witness_ControllersAndPorts_runOn : ∃ (s : State), ((s.each (s.host.cmds.filter fun d => d.ctl == 0 && d.dead) fun d u => handoff d.k u).ctlr 0).en = false ∧
    (∀ d ∈ (s.each (s.host.cmds.filter fun d => d.ctl == 0 && d.dead) fun d u => handoff d.k u).host.cmds, ¬(d.ctl = 0 ∧ d.dead = true ∧ (d.qid ≠ 0 ∨ d.e.opc ∉ [0x80#8, 0x84#8, 0x10#8]))) :=
  ⟨(on.modCtlr 0 fun y => { y with rdy := true }), by decide +kernel⟩

theorem witness_QueueCommands_createSq : ∃ (c : Cmd) (s : State), BeginsAdmin 0 c 0x01 s ∧ c.e.cdw10.toNat % 65536 ≠ 0 ∧
    c.e.cdw10.toNat % 65536 ≤ ((s.ctlr c.ctl).nq.getD (queueLimit s, queueLimit s)).1 ∧ s.sq c.ctl (c.e.cdw10.toNat % 65536) = none ∧
    2 ≤ c.e.cdw10.toNat / 65536 + 1 ∧ c.e.cdw11.toNat / 65536 ≠ 0 ∧ s.cq c.ctl (c.e.cdw11.toNat / 65536) ≠ none ∧ c.e.cdw11.getLsbD 0 = true :=
  ⟨(adm 0x01 0x00010002 0x00010001), (put (adm 0x01 0x00010002 0x00010001) queues), by unfold BeginsAdmin Begins; decide +kernel⟩

theorem witness_QueueCommands_createSqRefused : BeginsAdmin 0 (adm 0x01 0x00010001 0x00010001) 0x01 (put (adm 0x01 0x00010001 0x00010001) queues) ∧
    queues.sq 0 1 ≠ none ∧ BeginsAdmin 0 (adm 0x01 0x00000002 0x00010001) 0x01 (put (adm 0x01 0x00000002 0x00010001) queues) ∧
    (0x00000002#32).toNat / 65536 + 1 < 2 ∧ queues.cq 0 2 = none ∧ (0#32).getLsbD 0 = false := by
  unfold BeginsAdmin Begins; decide +kernel

theorem witness_QueueCommands_createCq : ∃ (c : Cmd) (s : State), BeginsAdmin 0 c 0x05 s ∧ c.e.cdw10.toNat % 65536 ≠ 0 ∧
    c.e.cdw10.toNat % 65536 ≤ ((s.ctlr c.ctl).nq.getD (queueLimit s, queueLimit s)).2 ∧ s.cq c.ctl (c.e.cdw10.toNat % 65536) = none ∧
    2 ≤ c.e.cdw10.toNat / 65536 + 1 ∧ c.e.cdw11.toNat / 65536 ≤ queueLimit s ∧ c.e.cdw11.getLsbD 0 = true ∧ queueLimit s < 0xFFFF :=
  ⟨(adm 0x05 0x00010002 0x00010001), (put (adm 0x05 0x00010002 0x00010001) queues), by unfold BeginsAdmin Begins; decide +kernel⟩

theorem witness_QueueCommands_deleteCq : ∃ (c : Cmd) (s : State) (t : State), BeginsAdmin 0 c 0x04 s ∧ s.cq c.ctl 1 ≠ none ∧
    (∃ x ∈ s.host.sqs, x.ctl = c.ctl ∧ x.cqid = 1) ∧ BeginsAdmin 0 c 0x04 t ∧ t.cq c.ctl 1 ≠ none ∧ (∀ x ∈ t.host.sqs, x.ctl = c.ctl → x.cqid ≠ 1) :=
  ⟨(adm 0x04 1 0), (put (adm 0x04 1 0) queues), ((put (adm 0x04 1 0) queues).modHost fun h => { h with sqs := [] }), by unfold BeginsAdmin Begins; decide +kernel⟩

theorem witness_QueueCommands_deleteSq : ∃ (c : Cmd) (s : State), BeginsAdmin 0 c 0x00 s ∧ s.sq c.ctl 1 = some ⟨0, 1, 4, 1, 0, 2, 1, false⟩ ∧
    (⟨0, 1, 4, 1, 0, 2, 1, false⟩ : Sq).gone = false ∧ s.sq c.ctl 2 = none :=
  ⟨(adm 0x00 1 0), (put (adm 0x00 1 0) queues), by unfold BeginsAdmin Begins; decide +kernel⟩

theorem witness_QueueCommands_abort : ∃ (c : Cmd) (d : Cmd) (s : State), BeginsAdmin 0 c 0x08 s ∧ abortsBefore c s < 8 ∧
    (s.host.cmds.find? fun x => x.ctl == c.ctl && x.qid == 1 && x.e.cid.toNat == c.e.cdw10.toNat / 65536 && x.k != 0) = some d ∧
    abortable false d (markStarted 0 s) = true ∧ d.posting = false ∧ d.status = none ∧
    abortable false { io 0x00 0 0 with k := 1 } (markStarted 0 s) = false :=
  ⟨(adm 0x08 0x00010001 0), ({ io 0x02 0 0 with k := 1 }), (queues.modHost fun h => { h with cmds := [(adm 0x08 0x00010001 0), ({ io 0x02 0 0 with k := 1 })] }), by unfold BeginsAdmin Begins; decide +kernel⟩

theorem witness_QueueCommands_abortNone : ∃ (c : Cmd) (s : State), BeginsAdmin 0 c 0x08 s ∧ abortsBefore c s < 8 ∧
    (s.host.cmds.find? fun x => x.ctl == c.ctl && x.qid == 1 && x.e.cid.toNat == c.e.cdw10.toNat / 65536 && x.k != 0) = none :=
  ⟨(adm 0x08 0x00010001 0), (put (adm 0x08 0x00010001 0) queues), by unfold BeginsAdmin Begins; decide +kernel⟩

theorem witness_QueueCommands_abortLimit : ∃ (c : Cmd) (s : State), BeginsAdmin 8 c 0x08 s ∧ 8 ≤ abortsBefore c s :=
  ⟨({ adm 0x08 0 0 with k := 8 }), (on.modHost fun h => { h with cmds := ((List.range 8).map fun i => { adm 0x08 0 0 with k := i }) ++ [({ adm 0x08 0 0 with k := 8 })] }), by unfold BeginsAdmin Begins; decide +kernel⟩

theorem witness_QueueCommands_events : ∃ (s : State), (s.ctlr 0).aers = 3 :: [] ∧
    ((s.ctlr 0).events.find? fun e => !(s.ctlr 0).masked.contains e.maskKey) = some ⟨1, 1, 1⟩ ∧ (on.ctlr 0).aers = [] ∧
    BeginsAdmin 0 (adm 0x0C 0 0) 0x0C (put (adm 0x0C 0 0) on) ∧ (on.ctlr 0).aers.length < 8 ∧
    8 ≤ ((on.modCtlr 0 fun y => { y with aers := List.range 8 }).ctlr 0).aers.length :=
  ⟨(on.modCtlr 0 fun y => { y with aers := [3], events := [⟨1, 1, 1⟩] }), by unfold BeginsAdmin Begins; decide +kernel⟩

theorem witness_QueueCommands_abortPosting : ∃ (c : Cmd) (d : Cmd) (s : State), BeginsAdmin 0 c 0x08 s ∧ abortsBefore c s < 8 ∧
    (s.host.cmds.find? fun x => x.ctl == c.ctl && x.qid == 1 && x.e.cid.toNat == c.e.cdw10.toNat / 65536 && x.k != 0) = some d ∧ d.posting = true :=
  ⟨(adm 0x08 0x00010001 0), ({ io 0x02 0 0 with k := 1, posting := true, status := some 0 }), (queues.modHost fun h => { h with cmds := [(adm 0x08 0x00010001 0), ({ io 0x02 0 0 with k := 1, posting := true, status := some 0 })] }), by unfold BeginsAdmin Begins; decide +kernel⟩

theorem witness_QueueCommands_abortable : ∃ (d : Cmd) (s : State), d.posting = false ∧ d.status = none ∧ d.qid ≠ 65536 ∧ 0 < d.qid ∧
    d.e.opc = 0x01#8 ∧ d.phase < 3 ∧ lowClass d s = false ∧ (adm 0x0C 0 0).qid = 0 :=
  ⟨(io 0x01 0 0), (put (io 0x01 0 0) on), by decide +kernel⟩

theorem witness_IdentifyAndLogPages_identify : ∃ (c : Cmd) (s : State), BeginsAdmin 0 c 0x06 s ∧ c.e.sel = 0 ∧ 1 ≤ c.e.nsid.toNat ∧
    c.e.nsid.toNat ≤ 64 ∧ s.ns c.e.nsid.toNat = some aNs ∧ c.ctl ∈ aNs.attach ∧
    (withNs { aNs with attach := [1] } s).ns 1 = some { aNs with attach := [1] } ∧ c.ctl ∉ { aNs with attach := [1] }.attach ∧
    BeginsAdmin 0 (adm 0x06 1 0) 0x06 (put (adm 0x06 1 0) on) ∧ (adm 0x06 1 0).e.sel = 1 ∧ (adm 0x06 5 0).e.sel = 5 :=
  ⟨(adm 0x06 0 0), (withNs aNs (put (adm 0x06 0 0) on)), by unfold BeginsAdmin Begins; decide +kernel⟩

theorem witness_IdentifyAndLogPages_log : BeginsAdmin 0 (adm 0x02 0xC3 0) 0x02 (put (adm 0x02 0xC3 0) on) ∧ (adm 0x02 0xC3 0).e.sel = 0xC3 ∧
    (adm 0x02 0x01 0).e.sel = 1 ∧ ¬(logOfs (adm 0x02 0x04 0).e % 4 ≠ 0 ∨ 4096 < logOfs (adm 0x02 0x04 0).e) ∧ logRae (adm 0x02 0x04 0).e = false ∧
    logRae (adm 0x02 0x8004 0).e = true ∧ 4096 < logOfs { (adm 0x02 0x04 0).e with cdw12 := 4100 } := by
  unfold BeginsAdmin Begins; decide +kernel

theorem witness_IdentifyAndLogPages_channel : chanAbsent 7 (on.set (F.PWR_DOMSTAT_ON 0) 0) = true ∧ chanAbsent 7 on = false ∧
    safe.flag F.FAULT_STAT_SAFE = true ∧ chanAbsent 7 safe = false ∧ on.flag F.FAULT_STAT_SAFE = false ∧
    chanFailed 7 (on.setBit (F.FAULT_STATUS_SRC (chSrc 7 6 / 32)) (chSrc 7 6 % 32) true) = true ∧ 24 ≤ 24 ∧ 63 < 64 := by
  decide +kernel

theorem witness_FeatureValues_plain : ∃ (c : Cmd) (s : State), BeginsAdmin 0 c 0x09 s ∧ c.e.sel = 0x05 ∧ c.e.cdw11.getLsbD 16 = false ∧
    1 ≤ c.e.nsid.toNat ∧ c.e.nsid.toNat ≤ 64 ∧ s.ns c.e.nsid.toNat = some aNs ∧ on.ns 1 = none ∧ (0x10000#32).getLsbD 16 = true ∧
    BeginsAdmin 0 (adm 0x09 0x01 0) 0x09 (put (adm 0x09 0x01 0) on) ∧ (adm 0x09 0x01 0).e.sel = 0x01 :=
  ⟨(adm 0x09 0x05 100), (withNs aNs (put (adm 0x09 0x05 100) on)), by unfold BeginsAdmin Begins; decide +kernel⟩

theorem witness_FeatureValues_save : ∃ (c : Cmd), BeginsAdmin 0 c 0x09 (put c on) ∧ c.e.sel = 0xC2 ∧ featSave c.e = true ∧
    featSave (adm 0x09 0x80000007 0).e = true ∧ (adm 0x09 0x80000007 0).e.sel = 0x07 :=
  ⟨(adm 0x09 0x800000C2 0), by unfold BeginsAdmin Begins; decide +kernel⟩

theorem witness_FeatureValues_queues : ∃ (c : Cmd) (s : State), BeginsAdmin 0 c 0x09 s ∧ c.e.sel = 0x07 ∧ featSave c.e = false ∧
    (∀ q ∈ s.host.sqs, q.ctl = c.ctl → q.qid = 0) ∧ (∀ q ∈ s.host.cqs, q.ctl = c.ctl → q.qid = 0) ∧ c.e.cdw11.toNat % 65536 ≠ 65535 ∧
    c.e.cdw11.toNat / 65536 ≠ 65535 ∧ (∃ q ∈ (put c queues).host.sqs, q.ctl = c.ctl ∧ 0 < q.qid) :=
  ⟨(adm 0x09 0x07 0xFFFEFFFE), (put (adm 0x09 0x07 0xFFFEFFFE) on), by unfold BeginsAdmin Begins; decide +kernel⟩

theorem witness_FeatureValues_window : ∃ (c : Cmd) (s : State), BeginsAdmin 0 c 0x09 s ∧ c.e.sel = 0xC1 ∧ featSave c.e = false ∧ s.ns 1 = some aNs ∧
    1 ≤ c.e.cdw11.toNat / 2 % 1024 ∧ c.e.cdw11.toNat / 2 % 1024 ≤ 600 ∧ c.e.cdw11.getLsbD 0 = false ∧ 600 < (1202#32).toNat / 2 % 1024 :=
  ⟨(adm 0x09 0xC1 1200), (withNs aNs (put (adm 0x09 0xC1 1200) on)), by unfold BeginsAdmin Begins; decide +kernel⟩

theorem witness_FeatureValues_layout : ∃ (c : Cmd) (s : State) (t : State), BeginsAdmin 0 c 0x09 s ∧ c.e.sel = 0xC0 ∧ featSave c.e = false ∧
    c.e.cdw11.getLsbD 13 = false ∧ c.e.cdw11.toNat % 256 ≠ 0 ∧ (Fin.ofNat 4 (c.e.cdw11.toNat / 16384) : Fin 4) = 3 ∧ t.gath.check = none ∧
    ({ t with gath := { t.gath with check := some 0 } } : State).gath.check ≠ none :=
  ⟨(adm 0x09 0xC0 0xC0FF), (put (adm 0x09 0xC0 0xC0FF) on), (arbWrite (F.GATH_LAYOUT_CHAN_MASK 3).addr (storeReg true (F.GATH_LAYOUT_CHAN_MASK 3).addr 0xFF) (markStarted 0 (put (adm 0x09 0xC0 0xC0FF) on))), by unfold BeginsAdmin Begins; decide +kernel⟩

theorem witness_FeatureValues_kettle : ∃ (c : Cmd) (s : State), BeginsAdmin 0 c 0x09 s ∧ c.e.sel = 0xC2 ∧ featSave c.e = false ∧
    (setKettle c (markStarted 0 s)).ket.checking = true :=
  ⟨(adm 0x09 0xC2 0x01000000), (put (adm 0x09 0xC2 0x01000000) on), by unfold BeginsAdmin Begins; decide +kernel⟩

theorem witness_FeatureValues_get : ∃ (c : Cmd) (s : State), BeginsAdmin 0 c 0x0A s ∧ featValue c s = some 0x07030003 ∧ c.e.sel ≠ 0x81 ∧
    featSelect c.e = 0 ∧ featSelect (adm 0x0A 0x101 0).e = 1 ∧ featSelect (adm 0x0A 0x201 0).e = 2 ∧ featSelect (adm 0x0A 0x301 0).e = 3 ∧
    3 < featSelect (adm 0x0A 0x701 0).e ∧ featValue (adm 0x0A 0x05 0) s = none ∧ (adm 0x0A 0x81 0).e.sel = 0x81 :=
  ⟨(adm 0x0A 0x01 0), (put (adm 0x0A 0x01 0) on), by unfold BeginsAdmin Begins; decide +kernel⟩

theorem witness_ChannelStateActions_save : ∃ (c : Cmd), BeginsAdmin 0 c 0x09 (put c on) ∧ c.e.sel = 0xC3 ∧ c.e.cdw11.toNat / 16 % 16 = 6 ∧
    featSave c.e = true :=
  ⟨(adm 0x09 0x800000C3 0x67), by unfold BeginsAdmin Begins; decide +kernel⟩

theorem witness_ChannelStateActions_enable : ∃ (c : Cmd) (s : State), BeginsAdmin 0 c 0x09 s ∧ c.e.sel = 0xC3 ∧ c.e.cdw11.toNat / 16 % 16 = 1 ∧
    featSave c.e = false ∧ chanOn 7 s = true ∧ chanOn 7 State.reset = false ∧
    (arbWrite (F.PAGE_ENABLE_EN 7).addr (enableStart 7) (markStarted 0 s)).get (F.PAGE_ENABLE_PHASE 7) = 1 :=
  ⟨(adm 0x09 0xC3 0x17), (put (adm 0x09 0xC3 0x17) on), by unfold BeginsAdmin Begins; decide +kernel⟩

theorem witness_ChannelStateActions_others : BeginsAdmin 0 (adm 0x09 0xC3 0x27) 0x09 (put (adm 0x09 0xC3 0x27) on) ∧
    (adm 0x09 0xC3 0x27).e.sel = 0xC3 ∧ (adm 0x09 0xC3 0x27).e.cdw11.toNat / 16 % 16 = 2 ∧ featSave (adm 0x09 0xC3 0x27).e = false ∧
    chanAbsent 7 on = false ∧ chanAbsent 7 State.reset = true ∧ (adm 0x09 0xC3 0x37).e.cdw11.toNat / 16 % 16 = 3 ∧
    chanAtRest 7 (motCmd (motStop 7) (disableStart 7 (put (adm 0x09 0xC3 0x37) on))) = true ∧
    chanAtRest 7 (motCmd (motStop 7) (disableStart 7 (put (adm 0x09 0xC3 0x37) (mot 7 stRun)))) = false := by
  unfold BeginsAdmin Begins; decide +kernel

theorem witness_NamespaceCommands_create : ∃ (c : Cmd) (d : NsDesc) (s : State), BeginsAdmin 0 c 0x0D s ∧ c.e.cdw10.toNat % 16 = 0 ∧
    createRefused 0 d s = none ∧ ((List.range 64).find? fun j => (s.ns (j + 1)).isNone) = some 0 ∧ (nsRun d s).isSome = true ∧ d.place.toNat < 8 ∧
    nsRun { d with nsze := 1073741824 } s = none :=
  ⟨(adm 0x0D 0 0), (⟨1024, 0, 1, 0, 0, 0⟩), (put (adm 0x0D 0 0) formatted), by unfold BeginsAdmin Begins; decide +kernel⟩

theorem witness_NamespaceCommands_refused : createRefused 0 ⟨1024, 0, 2, 0, 0, 0⟩ on ≠ none ∧ (1 : Nat) ≠ 0 ∧ 1 < (2#8).toNat ∧ 3 < (4#8).toNat ∧
    (1#8) ≠ 0 := by
  decide +kernel

theorem witness_NamespaceCommands_delete : ∃ (c : Cmd) (s : State), BeginsAdmin 0 c 0x0D s ∧ c.e.cdw10.toNat % 16 = 1 ∧ c.qid = 0 ∧
    (s.host.nss.filter fun x => x.nsid == 1) ≠ [] ∧ (∀ x ∈ s.host.nss.filter fun x => x.nsid == 1, nsQuiet x.nsid s = true) ∧
    (on.host.nss.filter fun x => x.nsid == 1) = [] :=
  ⟨(adm 0x0D 1 0), (withNs aNs (put (adm 0x0D 1 0) on)), by unfold BeginsAdmin Begins; decide +kernel⟩

theorem witness_NamespaceCommands_attach : ∃ (c : Cmd) (v : Ns) (s : State), BeginsAdmin 0 c 0x15 s ∧ c.e.cdw10.toNat % 16 = 0 ∧ s.ns 1 = some v ∧
    ([0] : List Ctl) ≠ [] ∧ (∀ x ∈ ([0] : List Ctl), portThere x s = true) ∧ (∀ x ∈ ([0] : List Ctl), x ∉ v.attach) ∧
    (∃ x ∈ ([0] : List Ctl), x ∈ aNs.attach) ∧ (∃ x ∈ ([1] : List Ctl), portThere x s = false) ∧ (adm 0x15 1 0).e.cdw10.toNat % 16 = 1 :=
  ⟨(adm 0x15 0 0), ({ aNs with attach := [] }), (withNs ({ aNs with attach := [] }) (put (adm 0x15 0 0) on)), by unfold BeginsAdmin Begins; decide +kernel⟩

theorem witness_NamespaceCommands_format : ∃ (c : Cmd) (s : State), BeginsAdmin 0 c 0x80 s ∧ c.qid = 0 ∧
    (s.host.nss.filter fun x => x.nsid == 1) ≠ [] ∧ c.e.cdw10.toNat / 512 % 8 ≤ 1 ∧ c.e.cdw10.toNat % 16 ≤ 2 ∧ c.e.cdw10.toNat / 32 % 8 ≤ 3 ∧
    c.e.cdw10.toNat % 16 = 1 ∧ eraseReady 0 (s.host.nss.filter fun x => x.nsid == 1) s = true ∧ 2 < (adm 0x80 0x3 0).e.cdw10.toNat % 16 ∧
    1 < (adm 0x80 0x400 0).e.cdw10.toNat / 512 % 8 :=
  ⟨(adm 0x80 0x21 0), (withNs aNs (put (adm 0x80 0x21 0) on)), by unfold BeginsAdmin Begins; decide +kernel⟩

theorem witness_NamespaceCommands_sanitize : ∃ (c : Cmd) (s : State), BeginsAdmin 0 c 0x84 s ∧ c.qid = 0 ∧ c.e.cdw10.toNat % 8 = 3 ∧
    eraseReady 0 s.host.nss s = true ∧
    eraseReady 1 (withNs aNs (put { io 0x01 0 0 with wr := true } on)).host.nss (withNs aNs (put { io 0x01 0 0 with wr := true } on)) = false :=
  ⟨(adm 0x84 3 0), (withNs aNs (put (adm 0x84 3 0) on)), by unfold BeginsAdmin Begins; decide +kernel⟩

theorem witness_FirmwareSelfTestAndMi_download : BeginsAdmin 0 (adm 0x11 1023 0) 0x11 (put (adm 0x11 1023 0) on) ∧
    ((adm 0x11 1023 0).e.cdw10.toNat + 1) * 4 % 4096 = 0 ∧ ((adm 0x11 1022 0).e.cdw10.toNat + 1) * 4 % 4096 ≠ 0 ∧
    (adm 0x11 1023 1).e.cdw11.toNat * 4 % 4096 ≠ 0 := by
  unfold BeginsAdmin Begins; decide +kernel

theorem witness_FirmwareSelfTestAndMi_commit : ∃ (c : Cmd) (s : State), BeginsAdmin 0 c 0x10 s ∧ commitSlot c.e s = some 1 ∧
    imageReason (some anImage) true (markStarted 0 s) = 0 ∧ s.boot.staged = some anImage ∧ c.e.cdw10.toNat / 8 % 8 = 0 ∧
    s.boot.slots[1] = some anImage ∧ commitSlot (adm 0x10 0x03 0).e s = none ∧ (adm 0x10 0x1A 0).e.cdw10.toNat / 8 % 8 = 3 ∧ on.boot.staged = none :=
  ⟨(adm 0x10 0x02 0), (put (adm 0x10 0x02 0) { on with fuses := { on.fuses with keyhash := ⟨aKeyHash, 1⟩ }, boot := { on.boot with staged := some anImage, slots := on.boot.slots.set 1 (some anImage) } }), by unfold BeginsAdmin Begins; exact ⟨by decide +kernel, by decide +kernel, by (rw [imageReason, keyOk, anImage_hash, anImage_key]; decide +kernel), by decide +kernel⟩⟩

theorem witness_FirmwareSelfTestAndMi_test : ∃ (c : Cmd) (s : State), BeginsAdmin 0 c 0x14 s ∧ c.e.cdw10.toNat % 16 = 15 ∧ s.host.test = none ∧
    (testSettle (markStarted 0 s)).host.test = none ∧ BeginsAdmin 0 (adm 0x14 0x01 0) 0x14 (put (adm 0x14 0x01 0) on) :=
  ⟨(adm 0x14 0x0F 0), (put (adm 0x14 0x0F 0) on), by unfold BeginsAdmin Begins; decide +kernel⟩

theorem witness_FirmwareSelfTestAndMi_mi : BeginsAdmin 0 (adm 0x1D 0 3) 0x1D (put (adm 0x1D 0 3) on) ∧ (adm 0x1D 0 3).e.cdw11.toNat % 256 = 3 ∧
    (adm 0x1D 0 4).e.cdw11.toNat % 256 ≠ 3 ∧ BeginsAdmin 0 (adm 0x1E 0 4) 0x1E (put (adm 0x1E 0 4) on) ∧ (adm 0x1E 0 4).e.cdw11.toNat % 256 = 4 ∧
    4 < (adm 0x1E 0 5).e.cdw11.toNat % 256 := by
  unfold BeginsAdmin Begins; decide +kernel

theorem witness_DataCommands_write : ∃ (c : Cmd) (s : State), IoRuns 0 c aNs 0x01 true s ∧ aNs.zoned = false ∧ (put c on).ns 1 = none :=
  ⟨({ io 0x01 0 0 with ranges := [⟨0, 1⟩], wr := true }), (withNs aNs (put ({ io 0x01 0 0 with ranges := [⟨0, 1⟩], wr := true }) on)), by unfold IoRuns BeginsIo Begins; decide +kernel⟩

theorem witness_DataCommands_held : ∃ (c : Cmd) (s : State), BeginsIo 1 c 0x01 s ∧ s.ns 1 = some aNs ∧ c.wr = true ∧ formatAhead c s = true :=
  ⟨({ io 0x01 0 0 with k := 1, ranges := [⟨0, 1⟩], wr := true }), (withNs aNs (on.modHost fun h => { h with cmds := [adm 0x80 0 0, ({ io 0x01 0 0 with k := 1, ranges := [⟨0, 1⟩], wr := true })] })), by unfold BeginsIo Begins; decide +kernel⟩

theorem witness_DataCommands_reserved : ∃ (c : Cmd) (v : Ns) (s : State), BeginsIo 0 c 0x01 s ∧ s.ns 1 = some v ∧ lockClear c s = true ∧
    c.wr = false ∧ resvAllows c.ctl v true s = false :=
  ⟨(io 0x01 0 0), ({ aNs with resv := ⟨[(5, 1)], some 5, some .writeExclusive, 0, false⟩ }), (withNs ({ aNs with resv := ⟨[(5, 1)], some 5, some .writeExclusive, 0, false⟩ }) (put (io 0x01 0 0) on)), by unfold BeginsIo Begins; decide +kernel⟩

theorem witness_DataCommands_flush : IoRuns 0 (io 0x00 0 0) aNs 0x00 true (withNs aNs (put (io 0x00 0 0) on)) ∧
    IoRuns 0 (io 0x08 0 0) aNs 0x08 true (withNs aNs (put (io 0x08 0 0) on)) := by
  unfold IoRuns BeginsIo Begins; decide +kernel

theorem witness_DataCommands_deallocate : ∃ (c : Cmd) (s : State), IoRuns 0 c aNs 0x09 true s ∧ c.e.cdw11.getLsbD 2 = true ∧ c.ranges = [] ∧
    [(⟨0, 1024⟩ : LRange)].length = c.e.cdw10.toNat % 256 + 1 ∧ ([] : List LRange).length ≠ c.e.cdw10.toNat % 256 + 1 ∧ ¬aNs.nsze < 0 + 1024 ∧
    aNs.nsze < 1 + 1024 ∧ (withRanges c [⟨0, 1024⟩] [] s).1 = true :=
  ⟨({ aCmd 1 { opc := 0x09, cid := 1, nsid := 1, cdw11 := 4 } with k := 0 }), (withNs aNs (put ({ aCmd 1 { opc := 0x09, cid := 1, nsid := 1, cdw11 := 4 } with k := 0 }) on)), by unfold IoRuns BeginsIo Begins; decide +kernel⟩

theorem witness_DataCommands_read : ∃ (c : Cmd) (s : State), IoRuns 0 c aNs 0x02 false s ∧
    unreadable c aNs (readBlocks c) (track 1 0 1 (markStarted 0 s)) = none ∧
    IoRuns 0 { c with e := { c.e with opc := 0x0C } } aNs 0x0C false (withNs aNs (put { c with e := { c.e with opc := 0x0C } } on)) :=
  ⟨({ io 0x02 0 0 with ranges := [⟨0, 1⟩] }), (withNs aNs (put ({ io 0x02 0 0 with ranges := [⟨0, 1⟩] }) on)), by unfold IoRuns BeginsIo Begins; decide +kernel⟩

theorem witness_DataCommands_unreadable : ∃ (c : Cmd) (v : Ns) (s : State), IoRuns 0 c v 0x02 false s ∧
    unreadable c v (readBlocks c) (track 1 0 1 (markStarted 0 s)) = some 0 :=
  ⟨({ io 0x02 0 0 with ranges := [⟨0, 1⟩] }), ({ aNs with bad := [0] }), (withNs ({ aNs with bad := [0] }) (put ({ io 0x02 0 0 with ranges := [⟨0, 1⟩] }) on)), by unfold IoRuns BeginsIo Begins; decide +kernel⟩

theorem witness_DataCommands_copy : ∃ (c : Cmd) (s : State), IoRuns 0 c aNs 0x19 true s ∧ c.e.cdw12.toNat % 256 + 1 ≤ 128 ∧
    c.e.cdw12.toNat / 256 % 16 = 0 ∧ [(⟨512, 512⟩ : LRange)].length = c.e.cdw12.toNat % 256 + 1 ∧ 1 ≤ 512 ∧ 512 ≤ 512 ∧ ¬aNs.nsze < 512 + 512 ∧
    c.e.slba + 512 ≤ aNs.nsze ∧ (withRanges c [⟨0, 512⟩] [⟨512, 512⟩] s).1 = true ∧
    ((markStarted 0 (withRanges c [⟨0, 512⟩] [⟨512, 512⟩] s).2).cmd 0).isSome = true ∧ 128 < (io 0x19 0 128).e.cdw12.toNat % 256 + 1 :=
  ⟨(io 0x19 0 0), (withNs aNs (put (io 0x19 0 0) on)), by unfold IoRuns BeginsIo Begins; decide +kernel⟩

theorem witness_DataCommands_fill : ∃ (f : Fill) (s : State), (s.cache.fills.find? fun x => x.spec && x.nsid == 1 && x.line == 0) = some f ∧
    f.void = false ∧ (List.replicate 16 (⟨[], []⟩ : Block)).length = 16 ∧ ([] : List Block).length ≠ 16 ∧ { f with void := true }.void = true ∧
    s.ns 1 = some aNs ∧ (on.cache.fills.find? fun x => x.spec && x.nsid == 1 && x.line == 0) = none ∧ on.cmd 0 = none :=
  ⟨(⟨3, 1, 0, false, false, true, 0, none⟩), ((withNs aNs on).modCache fun x => { x with fills := [(⟨3, 1, 0, false, false, true, 0, none⟩)] }), by decide +kernel⟩

theorem witness_DataCommands_failed : ∃ (c : Cmd) (s : State), BeginsIo 0 c 0x01 s ∧ s.ns 1 = some gathNs ∧ lockClear c s = true ∧
    formatAhead c s = false ∧ resvAllows c.ctl gathNs true s = true ∧ c.wr = true ∧ onFailed gathNs s = true :=
  ⟨({ io 0x01 0 0 with ranges := [⟨0, 1⟩], wr := true }), ((withNs gathNs (put ({ io 0x01 0 0 with ranges := [⟨0, 1⟩], wr := true }) gathered)).set (F.GATH_LSTAT_STATE 0) 4), by unfold BeginsIo Begins; decide +kernel⟩

theorem witness_Reservations_turn : ∃ (c : Cmd) (s : State), BeginsIo 1 c 0x0D s ∧
    (s.host.cmds.any fun d => decide (d.k < 1) && d.e.nsid == c.e.nsid && [0x0D#8, 0x11#8, 0x15#8].contains d.e.opc && d.isOpen && decide (0 < d.qid) && decide (d.qid < 65536)) = true :=
  ⟨({ io 0x0D 0 0 with k := 1 }), (withNs aNs (on.modHost fun h => { h with cmds := [io 0x11 0 0, ({ io 0x0D 0 0 with k := 1 })] })), by unfold BeginsIo Begins; decide +kernel⟩

theorem witness_Reservations_register : ∃ (c : Cmd) (s : State), BeginsIo 0 c 0x0D s ∧
    (s.host.cmds.any fun d => decide (d.k < 0) && d.e.nsid == c.e.nsid && [0x0D#8, 0x11#8, 0x15#8].contains d.e.opc && d.isOpen && decide (0 < d.qid) && decide (d.qid < 65536)) = false ∧
    s.ns 1 = some aNs ∧ (s.ctlr 0).hostId = some 5 ∧ ((aNs.resv.regs.find? fun x => x.1 == 5).map fun x => x.2) = none ∧ (on.ctlr 0).hostId = none :=
  ⟨(io 0x0D 0 0), (withNs aNs (put (io 0x0D 0 0) (on.modCtlr 0 fun y => { y with hostId := some 5 }))), by unfold BeginsIo Begins; decide +kernel⟩

theorem witness_Reservations_key : ∃ (r : Resv), ((r.regs.find? fun x => x.1 == 5).map fun x => x.2) = some (9#64).toNat ∧
    ((r.regs.find? fun x => x.1 == 5).map fun x => x.2) ≠ some (8#64).toNat ∧ (io 0x0D 0 0).e.cdw10.getLsbD 3 = false ∧ r.holder ≠ some 5 ∧
    (∃ x ∈ r.regs, x.1 ≠ 5) ∧ r.typ = none ∧ (8#64).toNat ≠ 0 ∧ (∀ x ∈ r.regs, x.1 ≠ 5 → x.2 ≠ (8#64).toNat) :=
  ⟨(⟨[(5, 9), (6, 7)], none, none, 0, false⟩), by decide +kernel⟩

theorem witness_Reservations_acquire : ∃ (c : Cmd) (v : Ns) (s : State), BeginsIo 0 c 0x11 s ∧ s.ns 1 = some v ∧ (s.ctlr 0).hostId = some 5 ∧
    ((v.resv.regs.find? fun x => x.1 == 5).map fun x => x.2) = some (9#64).toNat ∧ v.resv.typ = some .writeExclusive ∧ v.resv.holder = some 5 ∧
    v.resv.typ ≠ some .exclusiveAccess ∧ v.resv.typ ≠ none ∧ aNs.resv.typ = none :=
  ⟨(io 0x11 0 0), ({ aNs with resv := ⟨[(5, 9)], some 5, some .writeExclusive, 0, false⟩ }), (withNs ({ aNs with resv := ⟨[(5, 9)], some 5, some .writeExclusive, 0, false⟩ }) (put (io 0x11 0 0) (on.modCtlr 0 fun y => { y with hostId := some 5 }))), by unfold BeginsIo Begins; decide +kernel⟩

theorem witness_Reservations_release : ∃ (c : Cmd) (v : Ns) (s : State), BeginsIo 0 c 0x15 s ∧ s.ns 1 = some v ∧ v.resv.holds 5 = true ∧
    v.resv.typ = some .writeExclusive ∧ ResType.code .writeExclusive = c.e.cdw10.toNat / 256 % 256 ∧ resRegistrants .writeExclusive = false ∧
    ResType.code .writeExclusive ≠ (io 0x15 0x200 0).e.cdw10.toNat / 256 % 256 ∧ aNs.resv.holds 5 = false :=
  ⟨(io 0x15 0x100 0), ({ aNs with resv := ⟨[(5, 9)], some 5, some .writeExclusive, 0, false⟩ }), (withNs ({ aNs with resv := ⟨[(5, 9)], some 5, some .writeExclusive, 0, false⟩ }) (put (io 0x15 0x100 0) (on.modCtlr 0 fun y => { y with hostId := some 5 }))), by unfold BeginsIo Begins; decide +kernel⟩

theorem witness_Reservations_report : BeginsIo 0 (io 0x0E 0 0) 0x0E (withNs aNs (put (io 0x0E 0 0) on)) ∧ (io 0x0E 0 0).e.cdw11.getLsbD 0 = false ∧
    (1#32).getLsbD 0 = true ∧ (some 5 : Option Nat) ≠ (on.ctlr 0).hostId := by
  unfold BeginsIo Begins; decide +kernel

theorem witness_ZoneCommands_write : ∃ (c : Cmd) (v : Ns) (s : State), IoRuns 0 c v 0x01 true s ∧ v.zoned = true ∧
    v.zones[c.e.slba / zoneSize]? = some ⟨0, 0⟩ ∧ zoneRefuse v ⟨0, 0⟩ (c.e.slba % zoneSize) c.e.nlb = none ∧
    zoneRefuse v ⟨4, 0⟩ 0 1 = some (sct 1 0xB9) ∧ v.zones[3]? = none :=
  ⟨({ io 0x01 0 0 with ranges := [⟨0, 1⟩], wr := true }), zonedNs, (withNs (zonedNs) (put ({ io 0x01 0 0 with ranges := [⟨0, 1⟩], wr := true }) on)), by unfold IoRuns BeginsIo Begins; decide +kernel⟩

theorem witness_ZoneCommands_append : ∃ (c : Cmd) (s : State), IoRuns 0 c zonedNs 0x7D true s ∧ c.e.slba % zoneSize = 0 ∧
    zonedNs.zones[c.e.slba / zoneSize]? = some ⟨0, 0⟩ ∧ zoneRefuse zonedNs ⟨0, 0⟩ 0 c.e.nlb = none ∧ (io 0x7D 1 0).e.slba % zoneSize ≠ 0 ∧
    IoRuns 0 { c with e := { c.e with opc := 0x08 } } zonedNs 0x08 true (withNs zonedNs (put { c with e := { c.e with opc := 0x08 } } on)) :=
  ⟨({ io 0x7D 0 0 with wr := true }), (withNs zonedNs (put ({ io 0x7D 0 0 with wr := true }) on)), by unfold IoRuns BeginsIo Begins; decide +kernel⟩

theorem witness_ZoneCommands_refuse : (6 : Nat) = 6 ∧ (1 : Nat) ≠ 6 ∧ (1 : Nat) ≠ 4 ∧ zoneSize < 1 + zoneSize ∧ 0 + zoneSize ≤ zoneSize ∧
    (0 : Nat) ≠ (⟨1, 1⟩ : Zone).wp ∧ (⟨2, 0⟩ : Zone).isOpen = true ∧ (withNs zonedNs on).ns zonedNs.nsid = some zonedNs ∧
    zonedNs.zones[1]? = some ⟨2, 5⟩ := by
  decide +kernel

theorem witness_ZoneCommands_send : ∃ (c : Cmd) (s : State), IoRuns 0 c zonedNs 0x79 true s ∧ c.e.cdw13.toNat % 256 = zsaOf .reset ∧
    c.e.cdw13.getLsbD 8 = false ∧ zonedNs.zones[c.e.slba / zoneSize]? = some ⟨0, 0⟩ ∧ (zoneAct zonedNs .reset ⟨0, 0⟩ matches .ok _) = true ∧
    (zoneAct zonedNs .close ⟨0, 0⟩ matches .error _) = true ∧ c.wr = true ∧ c.e.cdw13.toNat % 256 ≠ zsaOf .close ∧
    IoRuns 0 (io 0x7A 0 0) zonedNs 0x7A false (withNs zonedNs (put (io 0x7A 0 0) on)) :=
  ⟨({ aCmd 1 { opc := 0x79, cid := 1, nsid := 1, cdw13 := 4 } with ranges := [⟨0, 1⟩], wr := true }), (withNs zonedNs (put ({ aCmd 1 { opc := 0x79, cid := 1, nsid := 1, cdw13 := 4 } with ranges := [⟨0, 1⟩], wr := true }) on)), by unfold IoRuns BeginsIo Begins; decide +kernel⟩

theorem witness_ZoneCommands_all : ∃ (c : Cmd) (s : State), IoRuns 0 c zonedNs 0x79 true s ∧ c.e.cdw13.toNat % 256 = zsaOf .finish ∧
    c.e.cdw13.getLsbD 8 = true ∧ (∀ x ∈ zonedNs.zones, zoneSelected .finish x = true → (zoneAct zonedNs .finish x matches .ok _) = true) ∧
    (∃ x ∈ zonedNs.zones, zoneSelected .finish x = true) ∧ ∀ x ∈ ([⟨0, 0⟩] : List Zone), zoneSelected .close x = false :=
  ⟨({ aCmd 1 { opc := 0x79, cid := 1, nsid := 1, cdw13 := 0x102 } with wr := true }), (withNs zonedNs (put ({ aCmd 1 { opc := 0x79, cid := 1, nsid := 1, cdw13 := 0x102 } with wr := true }) on)), by unfold IoRuns BeginsIo Begins; decide +kernel⟩

theorem witness_SchedulerRows_reasons : ∃ (s : State) (z : ZoneTable), (s.chan 0).zt = some z ∧ descSealed aDesc = true ∧ descEnMask aDesc ≠ 0 ∧
    descReason 0 aDesc s = 0 ∧ descSealed (aDesc.set 0 0) = false ∧ descGen aDesc ≠ (s.set (F.SCHED_MAP_GEN_GEN 0) 1).get (F.SCHED_MAP_GEN_GEN 0) :=
  ⟨(ringed []), aZt, by decide +kernel⟩

theorem witness_SchedulerRows_skipped : ∃ (s : State), (s.chan 0).zt = some aZt ∧ descReason 0 aDesc s = 7 :=
  ⟨((ringed []).modSched 0 fun y => { y with prim := [⟨3, 9, 0⟩] }), by decide +kernel⟩

theorem witness_SchedulerRows_takeNothing : ((ringed []).chan 0).sched.ring[0]? = none ∧ chanReady 1 (ringed []) = false ∧
    ((ringed [ended aDesc .hostRead 0]).chan 0).sched.ring[0]? = some (ended aDesc .hostRead 0) ∧ (ended aDesc .hostRead 0).taken = true := by
  decide +kernel

theorem witness_SchedulerRows_take : ∃ (it : Item) (s : State), (s.chan 0).sched.ring[0]? = some it ∧ chanReady 0 s = true ∧
    itemBlocked 0 0 it s = false ∧ it.taken = false ∧ urgentAhead 0 it s = false ∧ destageHeld 0 it s = false ∧ descReason 0 it.desc s = 0 ∧
    descCmd it.desc ≠ 0x02 ∧ sigBusy 0 s = false ∧ it.kind ≠ .ladder ∧ it.kind ≠ .learn :=
  ⟨(anItem aDesc .hostRead), (ringed [(anItem aDesc .hostRead)]), by decide +kernel⟩

theorem witness_SchedulerRows_reject : ∃ (it : Item) (s : State), (s.chan 0).sched.ring[0]? = some it ∧ chanReady 0 s = true ∧
    itemBlocked 0 0 it s = false ∧ it.taken = false ∧ urgentAhead 0 it s = false ∧ destageHeld 0 it s = false ∧ descReason 0 it.desc s = 9 ∧
    it.kind = .hostRead ∧ it.stripe = none :=
  ⟨(anItem (aDesc.set 0 0) .hostRead), (ringed [(anItem (aDesc.set 0 0) .hostRead)]), by decide +kernel⟩

theorem witness_SchedulerRows_rebuild : ∃ (it : Item) (s : State), (s.chan 0).sched.ring[0]? = some it ∧ chanReady 0 s = true ∧
    itemBlocked 0 0 it s = false ∧ it.taken = false ∧ urgentAhead 0 it s = false ∧ destageHeld 0 it s = false ∧ descReason 0 it.desc s = 8 ∧
    it.kind ≠ .ladder :=
  ⟨(anItem aDesc .hostRead), ((ringed [(anItem aDesc .hostRead)]).set (F.SCHED_MAP_GEN_GEN 0) 1), by decide +kernel⟩

theorem witness_SchedulerRows_write : ∃ (it : Item) (s : State), (s.chan 0).sched.ring[0]? = some it ∧ chanReady 0 s = true ∧
    itemBlocked 0 0 it s = false ∧ urgentAhead 0 it s = false ∧ destageHeld 0 it s = false ∧ descReason 0 it.desc s = 0 ∧ descCmd it.desc = 0x02 ∧
    barredPaths 0 it.desc s = [] ∧ (∀ x ∈ descPaths it.desc, s.bit (F.CTL_RROSTAT_CONV 0) (descSurf it.desc x) = true) ∧
    (∀ x ∈ descPaths it.desc, resCode it x ≠ 0x1E) ∧ (∃ x ∈ descPaths it.desc, on.bit (F.CTL_RROSTAT_CONV 0) (descSurf it.desc x) = false) :=
  ⟨(anItem aWrite .hostWrite), ((ringed [(anItem aWrite .hostWrite)]).set (F.CTL_RROSTAT_CONV 0) 8), by decide +kernel⟩

theorem witness_SchedulerRows_writeWaits : ∃ (it : Item) (s : State), (s.chan 0).sched.ring[0]? = some it ∧ chanReady 0 s = true ∧
    it.taken = false ∧ (∃ x ∈ descPaths it.desc, resCode it x = 0x1E) ∧ s.flag (F.MOT_STAT_IN_TOL 0) = false ∧ barredPaths 0 it.desc s = [] :=
  ⟨({ ended aWrite .hostWrite 0x1E with taken := false }), ((ringed [({ ended aWrite .hostWrite 0x1E with taken := false })]).set (F.CTL_RROSTAT_CONV 0) 8), by decide +kernel⟩

theorem witness_SchedulerRows_barred : ∃ (it : Item) (s : State), (s.chan 0).sched.ring[0]? = some it ∧ chanReady 0 s = true ∧
    descReason 0 it.desc s = 0 ∧ descCmd it.desc = 0x02 ∧ barredPaths 0 it.desc s ≠ [] ∧ it.kind = .hostWrite :=
  ⟨(anItem aWrite .hostWrite), ((ringed [(anItem aWrite .hostWrite)]).modSched 0 fun y => { y with noconv := [3] }), by decide +kernel⟩

theorem witness_SchedulerRows_finishedNothing : findItem 6 ((ringed [anItem aDesc .hostRead]).chan 0).sched.ring = none ∧
    findItem 5 ((ringed [anItem aDesc .hostRead]).chan 0).sched.ring = some (anItem aDesc .hostRead) ∧ (anItem aDesc .hostRead).taken = false := by
  decide +kernel

theorem witness_SchedulerRows_finished : ∃ (it : Item) (s : State), findItem 5 (s.chan 0).sched.ring = some it ∧ it.taken = true ∧
    (∀ x ∈ descPaths it.desc, it.ended[x] = true) ∧ it.again = false ∧ (∀ x ∈ descPaths it.desc, it.abt[x] = false) ∧ descCmd it.desc = 0x01 ∧
    it.kind = .hostRead ∧ it.stripe = none ∧ (∀ x ∈ descPaths it.desc, resCode it x ≠ 6) ∧ { it with again := true }.again = true ∧ it.cmds ≠ [] ∧
    descCmd aWrite = 0x02 ∧ 3 < descCmd (aWrite.set 0 0x810) :=
  ⟨(ended aDesc .hostRead 0), (ringed [(ended aDesc .hostRead 0)]), by decide +kernel⟩

theorem witness_SchedulerRows_codes : resCode (ended aWrite .hostWrite 0x10) 3 = 0x10 ∧ resCode (ended aWrite .hostWrite 0x1D) 3 = 0x1D ∧
    resCode (ended aWrite .hostWrite 0x16) 3 = 0x16 ∧ (ended aWrite .hostWrite 0x14).retry[3] < 1 ∧
    (ended aWrite .hostWrite 0x14).paRetry[3] = false ∧ (anItem aWrite .hostWrite).vfail = Vector.replicate 4 0 ∧
    (anItem aWrite .hostWrite).kind ≠ .rewrite := by
  decide +kernel

theorem witness_SchedulerRows_destage : ∃ (s : State), (s.host.wb.filter fun w => w.k == 0 && w.run && w.acc) ≠ [] ∧ destageLeft 0 s = false ∧
    (on.host.wb.filter fun w => w.k == 0 && w.run && w.acc) = [] ∧ s.get F.FLY_STAT_STATE ≠ 3 ∧
    (s.set F.FLY_STAT_STATE 3).get F.FLY_STAT_STATE = 3 :=
  ⟨(on.modHost fun h => { h with wb := [{ aVer with cnt := 1 }] }), by decide +kernel⟩

theorem witness_SchedulerRows_seek : ∃ (s : State), chanReady 0 s = true ∧ s.flag (F.SCHED_SPECCFG_SSEEK_EN 0) = true ∧ (s.chan 0).sched.ring = [] ∧
    s.flag (F.CTL_STAT_LOADED 0) = true ∧ chanReady 0 on = false :=
  ⟨((ringed []).setFlag (F.CTL_STAT_LOADED 0) true), by decide +kernel⟩

theorem witness_SchedulerRows_formatter : ∃ (s : State) (d : Desc), chanReady 0 s = true ∧ findItem (descTag d) (s.chan 0).sched.ring = none ∧
    descCmd d = 0x01 ∧ descCmd (d.set 0 0x813) = 0x13 ∧ s.flag (F.REAM_USE_NONE 8) = false ∧
    (s.setFlag (F.REAM_USE_NONE 8) true).flag (F.REAM_USE_NONE 8) = true ∧ imageCmd s 0x20 = false ∧
    imageCmd { s with boot := { s.boot with image := some { anImage with imgCmds := [0x3F] } } } (descCmd (d.set 0 0x83F)) = true :=
  ⟨(ringed []), aDesc, by decide +kernel⟩

theorem witness_SchedulerRows_held : ∃ (it : Item) (s : State), (s.chan 0).sched.ring[0]? = some it ∧ it.taken = false ∧
    urgentAhead 0 { it with desc := aDesc.set 9 0x60000 } (ringed [{ it with desc := aDesc.set 9 0x60000 }, { anItem (aDesc.set 5 0) .hostRead with cls := 0, desc := (aDesc.set 4 0x04000009) }]) = true ∧
    itemBlocked 0 1 it (ringed [anItem aWrite .hostWrite, it]) = true :=
  ⟨(anItem aDesc .hostRead), (ringed [(anItem aDesc .hostRead), { (anItem aDesc .hostRead) with cls := 0 }]), by decide +kernel⟩

theorem witness_SchedulerRows_next : ∃ (it : Item) (s : State), (s.chan 0).sched.ring[0]? = some it ∧ chanReady 0 s = true ∧
    itemBlocked 0 0 it s = false ∧ it.taken = true ∧ sigBusy 0 s = false ∧ sigBusy 0 (ringed [{ it with sought := true }]) = true :=
  ⟨({ anItem aDesc .hostRead with taken := true }), (ringed [({ anItem aDesc .hostRead with taken := true })]), by decide +kernel⟩

theorem witness_SchedulerRows_finishedScan : ∃ (it : Item) (s : State), findItem 5 (s.chan 0).sched.ring = some it ∧ it.taken = true ∧
    (∀ x ∈ descPaths it.desc, it.ended[x] = true) ∧ it.again = false ∧ (∀ x ∈ descPaths it.desc, it.abt[x] = false) ∧ 3 < descCmd it.desc ∧
    it.kind = .learn ∧ (ended (aDesc.set 0 0x813) .rawCap 0).kind ≠ .learn :=
  ⟨(ended (aDesc.set 0 0x810) .learn 0), (ringed [(ended (aDesc.set 0 0x810) .learn 0)]), by decide +kernel⟩

theorem witness_Ladders_codes : (7 : BitVec 3) = 7 ∧ (6 : BitVec 3) ≠ 7 ∧ { obs true true with pri := none, sec := none }.pri = none ∧
    (obs true true).pri ≠ none ∧ (obs false true).converged = false ∧ (obs true false).converged = true ∧ (obs true false).check = false ∧
    (obs true true).check = true := by
  decide +kernel

theorem witness_Ladders_delivered : ∃ (s : State) (t : State), (descHandle aDesc 3).toNat = 0x07000000 ∧ { aBuf 1 aDesc with drop := 0 }.drop = 0 ∧
    firstPassCode (obs true true) 0 = 0 ∧ (anItem aDesc .hostRead).kind ≠ .recheck ∧
    handleCtl 0x07000000 (freeBuffer 0 3 (captureResult 0 3 (aBuf 1 aDesc) (0 + resultFlags (obs true true) 0) t)) ≠ none ∧
    handleCtl 0x07000000 (freeBuffer 0 3 (captureResult 0 3 (aBuf 1 aDesc) (0 + resultFlags (obs true true) 0) on)) = none :=
  ⟨((stored 1 (anItem aDesc .hostRead)).modReam fun r => { r with ctl := r.ctl.set 0x07000000 (mkCtl 1 true 0) }), (((((stored 1 (anItem aDesc .hostRead)).modReam fun r => { r with ctl := r.ctl.set 0x07000000 (mkCtl 1 true 0) })).setFlag (F.REAM_POOLCFG_EN 7) true).set (F.REAM_POOLCFG_COUNT 7) 1), by decide +kernel⟩

theorem witness_Ladders_buffer : ∃ (s : State), firstPassCode (obs false false) 0 ≠ 0 ∧ (anItem aDesc .hostRead).cmds ≠ [] ∧
    (anItem aDesc .hostRead).kind ≠ .spec ∧ s.get (F.DET_SSTAT_PINNED 0 3) < 2 ∧
    2 ≤ (s.set (F.DET_SSTAT_PINNED 0 3) 2).get (F.DET_SSTAT_PINNED 0 3) ∧ { anItem aDesc .hostRead with cmds := [] }.cmds = [] :=
  ⟨((captureResult 0 3 (aBuf 1 aDesc) (3 + resultFlags (obs false false) 0) on).inc (F.DET_ERRCNT_FP_FAIL 0 3)), by decide +kernel⟩

theorem witness_Ladders_verify : ∃ (s : State), (anItem aDesc .verify).kind = .verify ∧ (anItem aDesc .destage).kind ≠ .verify ∧
    (s.pathSt 0 3).wait = aBuf 3 aDesc :: [] ∧ (aBuf 3 aDesc).act = 3 ∧ stepBusy 0 3 s = false ∧
    findItem (descTag aDesc) (s.chan 0).sched.ring = some { anItem aDesc .destage with taken := true } ∧
    (descHandle (aDesc.set 8 0xFFFFFFFF) 3).toNat = emptyHandle :=
  ⟨(stored 3 (anItem aDesc .destage)), by decide +kernel⟩

theorem witness_Ladders_ops : 16 ≤ 16 ∧ 15 < 16 ∧ 8 ≤ (on.set (F.DET_LADDER_OP 0 15) 8).get (F.DET_LADDER_OP 0 15) ∧
    (on.set (F.DET_LADDER_OP 0 15) 7).get (F.DET_LADDER_OP 0 15) < 8 := by
  decide +kernel

theorem witness_Ladders_step : ∃ (l : Ladder) (s : State), (s.chan 0).sched.ladders[0]? = some l ∧ l.run = some (aRun 1) ∧ (aRun 1).op = 1 ∧
    (aRun 1).op ≠ 2 ∧ ladderAt 0 0 1 s = some (l, aRun 1) ∧ l.kept = some (aBuf 1 aDesc) ∧ (aBuf 1 aDesc).bad = false ∧ l.cmds ≠ [] ∧
    l.lblk = some (1, 0) ∧ ladderAt 0 0 2 (laddered 2) = some (aLadder 2, aRun 2) ∧ ladderAt 0 0 3 (laddered 3) = some (aLadder 3, aRun 3) ∧
    ladderAt 0 0 7 (laddered 7) = some (aLadder 7, aRun 7) :=
  ⟨(aLadder 1), (laddered 1), by decide +kernel⟩

theorem witness_Ladders_slip : ladderAt 0 0 4 (laddered 4) = some (aLadder 4, aRun 4) ∧ ladderAt 0 0 5 (laddered 5) = some (aLadder 5, aRun 5) ∧
    { aBuf 1 aDesc with bad := true }.bad = true ∧ { aLadder 4 with kept := none }.kept = none := by
  decide +kernel

theorem witness_Ladders_nothing : (on.chan 0).sched.ladders[0]? = none ∧ ladderAt 0 0 1 on = none ∧ ladderAt 0 0 7 (laddered 1) = none ∧
    pathFree 0 3 (ringed [{ anItem aDesc .hostRead with taken := true }]) = false := by
  decide +kernel

theorem witness_Ladders_fail : ∃ (s : State) (l : Ladder), findLadder 0 l.pos s = some l ∧ stepOp 0 (l.step + 1) s = 1 ∧ l.kept ≠ none ∧
    (s.setFlag (F.DET_LADDER_BG_ONLY 0 15) false).flag (F.DET_LADDER_BG_ONLY 0 (l.step + 1)) = false ∧ stepOp 0 (15 + 1) s = 0 ∧
    stepOp 0 15 (laddered 6) = 6 ∧ { l with cmds := [] }.cmds = [] :=
  ⟨((laddered 1).modSched 0 fun y => { y with ladders := [{ aLadder 1 with step := 14 }] }), ({ aLadder 1 with step := 14 }), by decide +kernel⟩

theorem witness_Ladders_reread : ∃ (s : State), ladderAt 0 0 6 s = some (aLadder 6, aRun 6) ∧
    (s.pathSt 0 (aLadder 6).path).wait = aBuf 1 aDesc :: [] ∧ (aBuf 1 aDesc).desc = (aLadder 6).desc ∧ stepBusy 0 (aLadder 6).path s = false ∧
    (aBuf 1 aWrite).desc ≠ (aLadder 6).desc ∧ ((laddered 6).pathSt 0 3).wait = [] :=
  ⟨((laddered 6).modPath 0 3 fun q => { q with wait := [aBuf 1 aDesc] }), by decide +kernel⟩

theorem witness_Ladders_first : ∃ (s : State), (s.pathSt 0 3).wait = aBuf 1 aDesc :: [] ∧ stepBusy 0 3 s = false ∧
    (∀ z ∈ (s.chan 0).sched.ladders, z.desc ≠ aDesc) ∧
    findItem (descTag aDesc) (s.chan 0).sched.ring = some { anItem aDesc .hostRead with taken := true } ∧ (aBuf 1 aDesc).act ≠ 3 ∧
    (on.pathSt 0 3).wait = [] ∧ findItem (descTag (aBuf 3 aWrite).desc) (on.chan 0).sched.ring = none :=
  ⟨(stored 1 (anItem aDesc .hostRead)), by decide +kernel⟩

theorem witness_Ladders_firstWaits : ∃ (s : State), (s.pathSt 0 3).wait = aBuf 1 aDesc :: [] ∧ stepBusy 0 3 s = true ∧
    (∃ z ∈ (s.chan 0).sched.ladders, z.desc = aDesc ∧ z.run ≠ none) ∧ stepBusy 0 3 (laddered 0) = true :=
  ⟨((laddered 1).modPath 0 3 fun q => { q with wait := [aBuf 1 aDesc] }), by decide +kernel⟩

theorem witness_Ladders_begins : ∃ (s : State) (l : Ladder), (s.chan 0).sched.ladders[0]? = some l ∧ l.run = none ∧ stepOp 0 l.step s = 1 ∧
    l.kept ≠ none ∧ pathFree 0 l.path s = true ∧ stepBusy 0 l.path s = false ∧ stepOp 0 l.step s ≠ 2 :=
  ⟨(((ringed []).set (F.DET_LADDER_OP 0 15) 1).modSched 0 fun y => { y with ladders := [{ aLadder 1 with run := none }] }), ({ aLadder 1 with run := none }), by decide +kernel⟩

theorem witness_Ladders_deadline : ∃ (s : State), s.cmd 0 = some (io 0x02 0 0) ∧
    (allChans.flatMap fun m => (s.chan m).sched.ladders.filter fun z => z.cmds.contains 0).head? = some (aLadder 1) ∧
    (aLadder 1).lblk = some (1, 0) ∧ s.ns (io 0x02 0 0).e.nsid.toNat = some { aNs with tler := 5 } ∧ aNs.tler = 0 ∧
    (allChans.flatMap fun m => (on.chan m).sched.ladders.filter fun z => z.cmds.contains 0) = [] :=
  ⟨(withNs { aNs with tler := 5 } (put (io 0x02 0 0) (laddered 1))), by decide +kernel⟩

theorem witness_WritePath_causes : ∃ (s : State), (s.stit 0 3).cur = some aWrite ∧ gateCauses 0 3 true false s = [] ∧
    firstCause (gateCauses 0 3 true false s) = none ∧ firstCause (gateCauses 0 3 false false s) = some 0x18 :=
  ⟨gateFree, by decide +kernel⟩

theorem witness_WritePath_nothing : chanFailed 7 (on.setBit (F.FAULT_STATUS_SRC (chSrc 7 6 / 32)) (chSrc 7 6 % 32) true) = true ∧
    (on.pathSt 0 3).arm = none := by
  decide +kernel

theorem witness_WritePath_first : ∃ (a : Arm) (s : State), chanFailed 0 s = false ∧ (s.pathSt 0 3).arm = some a ∧ a.left ≠ 0 ∧ a.isOpen = false ∧
    a.act = 2 ∧ (s.stit 0 3).cur = some aWrite ∧ framesDone 0 s = true ∧
    firstCause (gateCauses 0 3 (a.commit && true && (a.begun || framesDone 0 s) && (descCmd aWrite == 0x11 || a.begun || (s.pathSt 0 3).fifo.head? == some .good)) a.begun (s.each (rwsFields 0 3) takeShadow)) = none :=
  ⟨({ anArm 2 with commit := true }), ((withArm 0 3 ({ anArm 2 with commit := true }) gateFree).modPath 0 3 fun q => { q with fifo := [.good] }), by decide +kernel⟩

theorem witness_WritePath_held : ∃ (a : Arm) (s : State), chanFailed 0 s = false ∧ (s.pathSt 0 3).arm = some a ∧ a.left ≠ 0 ∧ a.isOpen = false ∧
    a.act = 2 ∧
    firstCause (gateCauses 0 3 (a.commit && true && (a.begun || framesDone 0 s) && (descCmd aWrite == 0x11 || a.begun || (s.pathSt 0 3).fifo.head? == some .good)) a.begun (s.each (rwsFields 0 3) takeShadow)) = some 0x18 :=
  ⟨(anArm 2), (withArm 0 3 (anArm 2) gateFree), by decide +kernel⟩

theorem witness_WritePath_capture : ∃ (a : Arm) (s : State), (s.pathSt 0 3).arm = some a ∧ a.begun = false ∧
    (s.each (rwsFields 0 3) takeShadow).get (F.DET_SSTAT_FREE 0 3) ≠ 0 ∧
    ((s.set (F.DET_SSTAT_FREE 0 3) 0).each (rwsFields 0 3) takeShadow).get (F.DET_SSTAT_FREE 0 3) = 0 ∧ (anArm 5).act = 5 ∧
    { a with begun := true }.begun = true :=
  ⟨(anArm 1), ((withArm 0 3 (anArm 1) gateFree).set (F.DET_SSTAT_FREE 0 3) 1), by decide +kernel⟩

theorem witness_WritePath_buffers : ∃ (s : State), s.get (F.DET_SSTAT_THRESH 0 3) < s.get (F.DET_SSTAT_FREE 0 3) ∧
    s.get (F.DET_SSTAT_FREE 0 3) - 1 ≤ s.get (F.DET_SSTAT_THRESH 0 3) ∧
    (s.set (F.DET_SSTAT_FREE 0 3) 2).get (F.DET_SSTAT_FREE 0 3) ≤ s.get (F.DET_SSTAT_THRESH 0 3) ∧ 0 < s.get (F.DET_SSTAT_FREE 0 3) ∧
    s.get (F.DET_SSTAT_FREE 0 3) < 2 ^ (F.DET_SSTAT_FREE 0 3).width :=
  ⟨((on.set (F.DET_SSTAT_FREE 0 3) 3).set (F.DET_SSTAT_THRESH 0 3) 2), by decide +kernel⟩

theorem witness_WritePath_last : ∃ (a : Arm) (s : State), (s.pathSt 0 3).arm = some a ∧ a.isOpen = true ∧ (s.stit 0 3).cur = some aWrite ∧
    a.act = 2 ∧ a.cause = none ∧ a.left = 0 ∧ descCmd aWrite ≠ 0x11 ∧ slotSplit (s.get (F.SCHED_FMT_FMT_RPM 0)) (descZone aWrite) a.slot = false ∧
    { a with cause := some 0x12 }.cause = some 0x12 ∧ 38783 ≤ 38783 ∧ 38782 < 38783 ∧ { a with act := 1 }.act = 1 ∧ { a with act := 5 }.act = 5 ∧
    gateOpen 0 3 s = true :=
  ⟨({ anArm 2 with isOpen := true, begun := true, left := 0 }), ((withArm 0 3 ({ anArm 2 with isOpen := true, begun := true, left := 0 }) gateFree).set (F.SCHED_FMT_FMT_RPM 0) 7200), by decide +kernel⟩

theorem witness_WritePath_power : ∃ (a : Arm) (s : State), s.flag F.PWR_SUPPLY_PLOSS = true ∧ (s.pathSt 0 3).arm = some a ∧ a.act = 2 ∧
    a.begun = true ∧ (ploss.pathSt 0 3).arm = none ∧ on.flag F.PWR_SUPPLY_PLOSS = false :=
  ⟨({ anArm 2 with begun := true }), (withArm 0 3 ({ anArm 2 with begun := true }) ploss), by decide +kernel⟩

theorem witness_WritePath_fifo : ∃ (s : State), (s.pathSt 0 3).wfFetch = true ∧ (s.stit 0 3).cur = some aWrite ∧
    (descHandle aWrite 3).toNat ≠ emptyHandle ∧ unitMatch (handleUnit (descHandle aWrite 3).toNat s) s = false ∧
    findItem (descTag aWrite) (s.chan 0).sched.ring = some { anItem aWrite .hostWrite with taken := true } ∧ gateOpen 0 3 s = false ∧
    (descHandle (aWrite.set 8 0xFFFFFFFF) 3).toNat = emptyHandle ∧ (on.pathSt 0 3).wfFetch = false ∧ (anItem aWrite .destage).kind = .destage :=
  ⟨((withArm 0 3 (anArm 2) (withCur 0 3 aWrite (ringed [{ anItem aWrite .hostWrite with taken := true }]))).modPath 0 3 fun q => { q with wfFetch := true }), by decide +kernel⟩

theorem witness_WritePath_preamp : (31 : Nat) ∉ (on.chan 7).sched.paFaults ∧
    (31 : Nat) ∈ ((on.modSched 7 fun y => { y with paFaults := [31] }).chan 7).sched.paFaults := by
  decide +kernel

theorem witness_WritePath_frames : ∃ (s : State), (s.pathSt 7 3).pa ≠ [] ∧ (s.pathSt 7 3).fePower = true ∧ (s.pathSt 7 3).zone = some 0 ∧
    (on.pathSt 7 3).pa = [] ∧ (on.pathSt 7 3).fePower = false :=
  ⟨(on.modPath 7 3 fun q => { q with pa := [⟨true, 5, 0⟩], fePower := true, zone := some 0 }), by decide +kernel⟩

theorem witness_WritePath_short : ∃ (a : Arm) (s : State), (s.pathSt 0 3).arm = some a ∧ a.act = 2 ∧ a.cause = none ∧ a.left = 0 ∧ a.begun = true ∧
    descCmd aWrite ≠ 0x11 ∧ slotSplit (s.get (F.SCHED_FMT_FMT_RPM 0)) (descZone aWrite) a.slot = true ∧ a.pos = 0 :=
  ⟨({ anArm 2 with slot := 3, isOpen := true, begun := true, left := 0 }), ((withArm 0 3 ({ anArm 2 with slot := 3, isOpen := true, begun := true, left := 0 }) gateFree).set (F.SCHED_FMT_FMT_RPM 0) 7200), by decide +kernel⟩

end Sys2Proof.Tests
end

section
/-! PROOFS. The servo fields of R44 and R45: the Gray code of the track number, and the dibits. -/

namespace Sys2Proof.Machine

/-! ### The running XOR of R45 -/

/-- The XOR of the `n` bits of `t` from bit `i` up: the running XOR of R45 once it has come down to bit `i`, where `n` bits lie at or
above it. -/
def runXor (t i n : Nat) : Bool :=
  (List.range n).foldl (fun b j => b != t.testBit (i + j)) false

@[simp] theorem runXor_zero (t i : Nat) : runXor t i 0 = false := rfl

theorem runXor_succ (t i n : Nat) : runXor t i (n + 1) = (runXor t i n != t.testBit (i + n)) := by
  simp only [runXor, List.range_succ, List.foldl_append, List.foldl_cons, List.foldl_nil]

/-- One place further down, the bit met there is added to the XOR of those above it. -/
theorem runXor_succ_down (t i n : Nat) : runXor t i (n + 1) = (t.testBit i != runXor t (i + 1) n) := by
  induction n with
  | zero => simp [runXor_succ]
  | succ n ih => rw [runXor_succ, ih, runXor_succ t (i + 1), Bool.bne_assoc, Nat.add_right_comm i 1 n, Nat.add_assoc]

theorem testBit_gray (t i : Nat) : (gray t).testBit i = (t.testBit i != t.testBit (i + 1)) := by
  simp [gray, Nat.testBit_xor, Nat.testBit_div_two]

/-- The XOR of neighbours telescopes to the two ends of the stretch. -/
theorem runXor_gray (t i n : Nat) : runXor (gray t) i n = (t.testBit i != t.testBit (i + n)) := by
  induction n with
  | zero => simp
  | succ n ih => simp [runXor_succ, ih, testBit_gray, Nat.add_assoc]

/-! ### The decoder of the track number -/

/-- What the decoder has after the `m` most significant bits of the 24. -/
def ungrayTop (g m : Nat) : Nat :=
  (List.range m).foldl (fun t i => if g.testBit (23 - i) != t.testBit 0 then t * 2 + 1 else t * 2) 0

theorem ungray_eq_ungrayTop (g : Nat) : ungray g = ungrayTop g 24 := rfl

theorem ungrayTop_succ (g m : Nat) :
    ungrayTop g (m + 1) = Nat.bit (g.testBit (23 - m) != (ungrayTop g m).testBit 0) (ungrayTop g m) := by
  simp only [ungrayTop, List.range_succ, List.foldl_append, List.foldl_cons, List.foldl_nil, Nat.bit, cond_eq_ite,
    Nat.mul_comm _ 2]

/-- Each bit the decoder has formed is the XOR of the code bits at or above its place. -/
theorem testBit_ungrayTop (g : Nat) {m : Nat} (hm : m ≤ 24) (i : Nat) :
    (ungrayTop g m).testBit i = runXor g (24 - m + i) (m - i) := by
  induction m generalizing i with
  | zero => simp [ungrayTop]
  | succ m ih =>
    have ih := ih (by omega)
    rw [ungrayTop_succ]
    cases i with
    | zero =>
      have hplace : 24 - (m + 1) = 23 - m := by omega
      have habove : 23 - m + 1 = 24 - m := by omega
      simp only [Nat.testBit_bit_zero, ih, hplace, Nat.add_zero, Nat.sub_zero, runXor_succ_down, habove]
    | succ i =>
      have hplace : 24 - (m + 1) + (i + 1) = 24 - m + i := by omega
      rw [Nat.testBit_bit_succ, ih, hplace, Nat.add_sub_add_right]

theorem testBit_ungray (g i : Nat) : (ungray g).testBit i = runXor g i (24 - i) := by
  rw [ungray_eq_ungrayTop, testBit_ungrayTop g le_rfl, Nat.sub_self, Nat.zero_add]

theorem ungray_gray {t : Nat} (ht : t < 2 ^ 24) : ungray (gray t) = t := by
  refine Nat.eq_of_testBit_eq fun i => ?_
  have hend : t.testBit (i + (24 - i)) = false :=
    Nat.testBit_eq_false_of_lt (ht.trans_le (Nat.pow_le_pow_right (by decide) (by omega)))
  rw [testBit_ungray, runXor_gray, hend, Bool.bne_false]

/-! ### Dibits -/

/-- Dibit `i` of the servo bits `v`, counted from the least significant one. -/
def dibitAt (v i : Nat) : Nat := v / 4 ^ i % 4

@[simp] theorem dibitAt_zero (v : Nat) : dibitAt v 0 = v % 4 := by simp [dibitAt]

@[simp] theorem dibitAt_succ (v i : Nat) : dibitAt v (i + 1) = dibitAt (v / 4) i := by
  rw [dibitAt, dibitAt, Nat.div_div_eq_div_mul, pow_succ']

/-- R44: the dibit of a bit. -/
def dibitOf (b : Bool) : Nat := if b then 2 else 1

theorem undibit_succ_eq_none (k v : Nat) :
    undibit (k + 1) v = none ↔ (v % 4 = 0 ∨ v % 4 = 3) ∨ undibit k (v / 4) = none := by
  rw [undibit]
  cases undibit k (v / 4) with
  | none => simp
  | some u =>
    have : v % 4 < 4 := Nat.mod_lt _ (by decide)
    split_ifs <;> simp <;> omega

theorem undibit_succ_eq_some {k v t : Nat} (h : undibit (k + 1) v = some t) :
    ∃ u b, undibit k (v / 4) = some u ∧ v % 4 = dibitOf b ∧ t = Nat.bit b u := by
  rw [undibit] at h
  cases hu : undibit k (v / 4) with
  | none => simp [hu] at h
  | some u =>
    simp only [hu] at h
    split_ifs at h with h2 h1
    · exact ⟨u, true, rfl, h2, by simpa [Nat.bit, Nat.mul_comm] using h.symm⟩
    · exact ⟨u, false, rfl, h1, by simpa [Nat.bit, Nat.mul_comm] using h.symm⟩

theorem undibit_eq_none_iff (k v : Nat) : undibit k v = none ↔ ∃ i < k, dibitAt v i = 0 ∨ dibitAt v i = 3 := by
  induction k generalizing v with
  | zero => simp [undibit]
  | succ k ih => simp only [undibit_succ_eq_none, ih, Nat.exists_lt_succ_left, dibitAt_zero, dibitAt_succ]

/-- A number read from dibits has one bit for each, and each dibit is the one of its bit. -/
theorem undibit_eq_some {k v t : Nat} (h : undibit k v = some t) :
    t < 2 ^ k ∧ ∀ i < k, dibitAt v i = dibitOf (t.testBit i) := by
  induction k generalizing v t with
  | zero =>
    obtain rfl : 0 = t := by simpa [undibit] using h
    simp
  | succ k ih =>
    obtain ⟨u, b, hu, hb, rfl⟩ := undibit_succ_eq_some h
    obtain ⟨hlt, hbits⟩ := ih hu
    refine ⟨Nat.bit_lt_two_pow_succ_iff.mpr hlt, Nat.forall_lt_succ_left.mpr ⟨?_, fun i hi => ?_⟩⟩
    · rw [dibitAt_zero, hb, Nat.testBit_bit_zero]
    · rw [dibitAt_succ, hbits i hi, Nat.testBit_bit_succ]

theorem dibitOf_eq_two_iff (b : Bool) : dibitOf b = 2 ↔ b = true := by cases b <;> decide

theorem dibitOf_eq_one_iff (b : Bool) : dibitOf b = 1 ↔ b = false := by cases b <;> decide

/-- Settles O6: the decoder's bits are running XORs, which telescope over a Gray code; the dibits by induction on their number. -/
theorem servoFields : Obligations.ServoFields := by
  unfold Obligations.ServoFields
  refine ⟨fun t ht => ⟨rfl, ungray_gray ht, fun i _ => testBit_ungray t i⟩, fun k v t => ⟨undibit_eq_none_iff k v, fun h => ?_⟩⟩
  obtain ⟨hlt, hdibits⟩ := undibit_eq_some h
  refine ⟨hlt, fun i hi => ?_⟩
  have hdibit : v / 4 ^ i % 4 = dibitOf (t.testBit i) := hdibits i hi
  rw [hdibit]
  exact ⟨(dibitOf_eq_two_iff _).symm, (dibitOf_eq_one_iff _).symm⟩

end Sys2Proof.Machine
end

section
/-! PROOFS. The ALU words of R147 and R148, and the branch words of R147, R149 and R157. -/

namespace Sys2Proof.Machine

section Words

variable {n : Ch} {p : Pa} {s : State}

/-! ### What the cycle of a word leaves alone -/

/-- An event moves the mode, the address, the latches and the pending traps of a Stitcher, and nothing else. -/
theorem Stitcher.latch_frame (t : Stitcher) (e : Nat) :
    t.latch e = { t with mode := (t.latch e).mode, pc := (t.latch e).pc, ev := (t.latch e).ev, tpend := (t.latch e).tpend } := by
  unfold Stitcher.latch
  split_ifs
  · rfl
  · rfl
  · rfl
  · cases eventTrap e with
    | none => rfl
    | some v => dsimp only; split_ifs <;> rfl

/-- R155: a cycle of TIMER moves its register and what its event moves. -/
theorem Stitcher.tick_frame (t : Stitcher) :
    t.tick = { t with r := t.tick.r, mode := t.tick.mode, pc := t.tick.pc, ev := t.tick.ev, tpend := t.tick.tpend } := by
  unfold Stitcher.tick
  dsimp only
  split_ifs
  · rfl
  · rw [Stitcher.latch_frame]
  · rfl

@[simp] theorem Stitcher.tick_stack (t : Stitcher) : t.tick.stack = t.stack := by rw [Stitcher.tick_frame]

@[simp] theorem Stitcher.tick_frH (t : Stitcher) : t.tick.frH = t.frH := by rw [Stitcher.tick_frame]

@[simp] theorem Stitcher.tick_frN (t : Stitcher) : t.tick.frN = t.frN := by rw [Stitcher.tick_frame]

/-! ### A word that changes its own Stitcher -/

@[simp] theorem stit_wordBy (f : Stitcher → Stitcher) :
    (wordBy n p s f).stit n p = f { (s.stit n p).tick with pc := (s.stit n p).pc + 1 } :=
  State.stit_modStit_same ..

@[simp] theorem modStit_wordBy (f g : Stitcher → Stitcher) :
    (wordBy n p s f).modStit n p g = wordBy n p s fun x => g (f x) :=
  State.modStit_modStit ..

theorem stitchWord_eq_wordBy (f : State → State) (h : Runs n p s) : stitchWord n p f s = f (wordBy n p s id) :=
  stitchWord_runs f h

theorem stitchWord_modStit (f : Stitcher → Stitcher) (h : Runs n p s) :
    stitchWord n p (fun u => u.modStit n p f) s = wordBy n p s f := by
  rw [stitchWord_eq_wordBy _ h, modStit_wordBy]
  rfl

/-- R159, R160: outside a level-H handler an error of a word makes its vector pending, with the address of the word as DATA. -/
theorem errTrap_wordBy (hH : (s.stit n p).frH.active = false) (v : Nat) :
    errTrap n p v (wordAddr ((wordBy n p s id).stit n p)) (wordBy n p s id) =
      wordBy n p s fun x => { x with tpend := setB x.tpend v, errData := (s.stit n p).pc.zeroExtend 16 } := by
  have haddr : wordAddr ((wordBy n p s id).stit n p) = (s.stit n p).pc.zeroExtend 16 := by
    simp [wordAddr]
  have hframe : ((wordBy n p s id).stit n p).frH.active = false := by simpa using hH
  rw [errTrap, hframe, haddr, modStit_wordBy]
  rfl

/-! ### ALU words -/

/-- R148: an ALU function that writes RD. -/
theorem stitchWord_wordAlu (h : Runs n p s) {fn : BitVec 4} (hw : aluWrites fn = true) (rd ra : Fin 32) {rb : Fin 32} {k : Nat}
    (hk : rb.val % 16 = k) :
    stitchWord n p (wordAlu n p fn rd ra rb) s = wordBy n p s fun x =>
      let r := aluResult fn (x.reg ra) (x.reg rb) k x.c
      (flagsOf x r.1 r.2).setReg rd r.1 := by
  subst hk
  refine (stitchWord_modStit _ h).trans ?_
  simp only [hw, if_true]
  rfl

/-- R148: an ALU function that sets the flags alone. -/
theorem stitchWord_wordAlu_flags (h : Runs n p s) {fn : BitVec 4} (hw : aluWrites fn = false) (rd ra rb : Fin 32) :
    stitchWord n p (wordAlu n p fn rd ra rb) s = wordBy n p s fun x =>
      let r := aluResult fn (x.reg ra) (x.reg rb) (rb.val % 16) x.c
      flagsOf x r.1 r.2 := by
  refine (stitchWord_modStit _ h).trans ?_
  simp only [hw]
  rfl

/-- The field of RB carries the count of SHLI and SHRI whole. -/
theorem shiftCount_val (k : Fin 16) : (Fin.ofNat 32 k.val).val % 16 = k.val := by
  simp

/-- R148: the functions from 14 up are reserved. -/
theorem decodeMicro_reservedFunction {w : W24} (hop : w.toNat / 2 ^ 19 = 0x01) (hfn : 0xE ≤ w.toNat % 16) :
    decodeMicro w = .reserved w := by
  have hop' : (mbits w 19 5).toNat = 1 := by
    simp [mbits, BitVec.extractLsb'_toNat, Nat.shiftRight_eq_div_pow]; omega
  have hfn' : ¬(mbits w 0 4).toNat < 14 := by
    simp [mbits, BitVec.extractLsb'_toNat]; omega
  simp only [decodeMicro, hop', hfn', if_false]

theorem stitchWord_reservedFunction (h : Runs n p s) (hH : (s.stit n p).frH.active = false) {w : W24}
    (hop : w.toNat / 2 ^ 19 = 0x01) (hfn : 0xE ≤ w.toNat % 16) :
    stitchWord n p (wordMicro n p (decodeMicro w)) s =
      wordBy n p s fun x => { x with tpend := setB x.tpend 2, errData := (s.stit n p).pc.zeroExtend 16 } := by
  rw [decodeMicro_reservedFunction hop hfn, stitchWord_eq_wordBy _ h]
  exact errTrap_wordBy hH 2

/-! ### Branch words -/

/-- R149: the conditions past those of the flags and of PREFETCH test an event from 0x20 up, and never hold below. -/
theorem Stitcher.condHolds_of_ge (t : Stitcher) {cond : BitVec 6} (h : 0x0A ≤ cond.toNat) :
    t.condHolds cond = (decide (0x20 ≤ cond.toNat) && t.ev.getLsbD (cond.toNat - 0x20)) := by
  obtain ⟨m, hm⟩ : ∃ m, cond.toNat = m + 0x0A := ⟨_, (Nat.sub_add_cancel h).symm⟩
  rw [Stitcher.condHolds, hm]
  rfl

theorem Stitcher.condHolds_reserved (t : Stitcher) {cond : BitVec 6} (hlo : 0x0A ≤ cond.toNat) (hhi : cond.toNat ≤ 0x1F) :
    t.condHolds cond = false := by
  rw [t.condHolds_of_ge hlo, decide_eq_false (by omega), Bool.false_and]

theorem Stitcher.condHolds_event (t : Stitcher) (e : Fin 32) :
    t.condHolds (BitVec.ofNat 6 (0x20 + e.val)) = t.ev.getLsbD e.val := by
  have hcond : (BitVec.ofNat 6 (0x20 + e.val)).toNat = 0x20 + e.val := by
    rw [BitVec.toNat_ofNat]; omega
  rw [t.condHolds_of_ge (by omega), hcond, decide_eq_true (by omega), Bool.true_and, Nat.add_sub_cancel_left]

variable {cond : BitVec 6} {target : BitVec 13}

theorem wordCall_untaken (hc : (s.stit n p).condHolds cond = false) : wordCall n p cond target s = s := by
  simp [wordCall, hc]

theorem wordCall_push (hc : (s.stit n p).condHolds cond = true) (hd : (s.stit n p).stack.length < 8) :
    wordCall n p cond target s = s.modStit n p fun x => { x with stack := x.pc :: x.stack, pc := target } := by
  simp [wordCall, hc, Nat.not_le.mpr hd]

theorem wordCall_full (hc : (s.stit n p).condHolds cond = true) (hd : 8 ≤ (s.stit n p).stack.length) :
    wordCall n p cond target s = errTrap n p 1 (wordAddr (s.stit n p)) s := by
  simp [wordCall, hc, hd]

theorem wordRet_untaken (hc : (s.stit n p).condHolds cond = false) : wordRet n p cond s = s := by
  simp [wordRet, hc]

theorem wordRet_pop (hc : (s.stit n p).condHolds cond = true) {a : BitVec 13} {r : List (BitVec 13)}
    (hd : (s.stit n p).stack = a :: r) (hf : stackFloor (s.stit n p) < (s.stit n p).stack.length) :
    wordRet n p cond s = s.modStit n p fun x => { x with stack := r, pc := a } := by
  rw [hd] at hf
  simp only [wordRet, hc, hd, Bool.not_true, Bool.false_eq_true, if_false, if_neg (Nat.not_le.mpr hf)]

theorem wordRet_floor (hc : (s.stit n p).condHolds cond = true)
    (hf : (s.stit n p).stack.length ≤ stackFloor (s.stit n p) ∨ (s.stit n p).stack = []) :
    wordRet n p cond s = errTrap n p 1 (wordAddr (s.stit n p)) s := by
  cases hd : (s.stit n p).stack with
  | nil => simp [wordRet, hc, hd]
  | cons a r =>
    have hle : (a :: r).length ≤ stackFloor (s.stit n p) := by simpa [hd] using hf
    simp only [wordRet, hc, hd, Bool.not_true, Bool.false_eq_true, if_false, if_pos hle]

/-- The cycle of a word leaves the depth that the active frame saved. -/
theorem stackFloor_wordBy_id : stackFloor ((wordBy n p s id).stit n p) = stackFloor (s.stit n p) := by
  simp [stackFloor, Stitcher.activeFrame]

end Words

/-- Settles O8: each word is a change of its own Stitcher with the result and carry of its function; a reserved function is an error. -/
theorem aluFunctions : Obligations.AluFunctions := by
  unfold Obligations.AluFunctions
  intro n p rd ra rb k imm w s h
  have result (fn : BitVec 4) (hw : aluWrites fn = true) {rb : Fin 32} {k : Nat} (hk : rb.val % 16 = k) :=
    congrArg (β := Host.Outcome State Fault Refusal) .next (stitchWord_wordAlu h hw rd ra hk)
  have flags (fn : BitVec 4) (hw : aluWrites fn = false) :=
    congrArg (β := Host.Outcome State Fault Refusal) .next (stitchWord_wordAlu_flags h hw 0 ra rb)
  have hcnt := shiftCount_val k
  exact ⟨result 0x0 rfl rfl, result 0x1 rfl rfl, result 0x2 rfl rfl, result 0x3 rfl rfl, result 0x4 rfl rfl, result 0x5 rfl rfl,
    result 0x6 rfl rfl, result 0x7 rfl rfl, result 0x8 rfl hcnt, result 0x9 rfl hcnt, result 0xA rfl rfl, result 0xB rfl rfl,
    flags 0xC rfl, flags 0xD rfl, congrArg _ (stitchWord_modStit _ h), congrArg _ (stitchWord_modStit _ h),
    fun hop hfn hH => congrArg _ (stitchWord_reservedFunction h hH hop hfn)⟩

/-- Settles O10: the branch words act on the Stitcher after the cycle, whose micro-stack and trap frames are those before it. -/
theorem branchWords : Obligations.BranchWords := by
  unfold Obligations.BranchWords
  intro n p cond target s h w err d f
  have hcall : exec (.call n p cond target) s = .next (wordCall n p cond target w) := congrArg _ (stitchWord_eq_wordBy _ h)
  have hret : exec (.ret n p cond) s = .next (wordRet n p cond w) := congrArg _ (stitchWord_eq_wordBy _ h)
  have hd : (w.stit n p).stack = d := by simp [w, d]
  have hf : stackFloor (w.stit n p) = f := stackFloor_wordBy_id
  rw [hcall, hret]
  refine ⟨congrArg _ (stitchWord_modStit _ h), fun hc => ⟨congrArg _ (wordCall_untaken hc), congrArg _ (wordRet_untaken hc)⟩,
    fun hc => ⟨fun hlt => ?_, fun hfull hH => ?_, fun a r hcons hlt => ?_, fun hfloor hH => ?_⟩, ?_⟩
  · rw [wordCall_push hc (hd ▸ hlt), modStit_wordBy]
    rfl
  · rw [wordCall_full hc (hd ▸ hfull)]
    exact congrArg _ (errTrap_wordBy hH 1)
  · rw [wordRet_pop hc (hd.trans hcons) (by rwa [hd, hf]), modStit_wordBy]
    rfl
  · rw [wordRet_floor hc (by rwa [hd, hf])]
    exact congrArg _ (errTrap_wordBy hH 1)
  · refine ⟨rfl, rfl, rfl, rfl, rfl, rfl, rfl, rfl, rfl, rfl, fun k hlo hhi => Stitcher.condHolds_reserved _ hlo hhi,
      Stitcher.condHolds_event _, ?_⟩
    simp [w]

end Sys2Proof.Machine
end

section
/-! PROOFS. The map of R423: the strips at a position are counted by `Nat.count` over the stripes, which repeat with period W. -/

namespace Sys2Proof.Machine

/-! ### Counting along a list and over a period -/

theorem foldl_countIf {α : Type} (p : α → Prop) [DecidablePred p] (l : List α) (a : Nat) :
    l.foldl (fun b x => if p x then b + 1 else b) a = a + l.countP (p ·) := by
  induction l generalizing a with
  | nil => rfl
  | cons x l ih =>
    rw [List.foldl_cons, ih, List.countP_cons]
    by_cases h : p x
    · simp [h]; omega
    · simp [h]

theorem count_congr_lt {p q : Nat → Prop} [DecidablePred p] [DecidablePred q] {n : Nat} (h : ∀ t < n, p t ↔ q t) :
    Nat.count p n = Nat.count q n :=
  List.countP_congr fun t ht => by simpa using h t (List.mem_range.mp ht)

section Periodic

variable {p : Nat → Prop} [DecidablePred p] {a : Nat}

/-- Every window as long as the period holds as many members as the first one. -/
theorem count_window_of_periodic (hp : Function.Periodic p a) (b : Nat) : Nat.count (fun t => p (b + t)) a = Nat.count p a := by
  have hshift : Nat.count (fun t => p (a + t)) b = Nat.count p b :=
    count_congr_lt fun t _ => by rw [Nat.add_comm, hp t]
  have hcomm : Nat.count p (b + a) = Nat.count p (a + b) := by rw [Nat.add_comm]
  rw [Nat.count_add, Nat.count_add, hshift] at hcomm
  omega

theorem count_periods (hp : Function.Periodic p a) (n : Nat) : Nat.count p (a * n) = n * Nat.count p a := by
  induction n with
  | zero => simp
  | succ n ih => rw [Nat.mul_succ, Nat.count_add, ih, count_window_of_periodic hp, Nat.succ_mul]

end Periodic

/-! ### The strips at a position -/

/-- R423: stripe `t` has one of its `km` strips at position `q`, in the form of the loop of `gather_map`. -/
abbrev HoldsStrip (w km q t : Nat) : Prop := ((q : Int) - t) % (w : Int) < km

section Strips

variable {w km q : Nat}

theorem holdsStrip_add_mul (t n : Nat) : HoldsStrip w km q (w * n + t) ↔ HoldsStrip w km q t := by
  have : (q : Int) - ((w * n + t : Nat) : Int) = q - t + w * (-n : Int) := by push_cast; ring
  rw [HoldsStrip, this, Int.add_mul_emod_self_left]

theorem holdsStrip_periodic : Function.Periodic (HoldsStrip w km q) w := fun t => by
  simpa [Nat.add_comm] using holdsStrip_add_mul (w := w) (km := km) (q := q) t 1

/-- The model's form of the distance, for a stripe of the first period. -/
theorem holdsStrip_iff_natMod {t : Nat} (ht : t < w) : (q + w - t) % w < km ↔ HoldsStrip w km q t := by
  have : ((q + w - t : Nat) : Int) % w = ((q : Int) - t) % w := by
    rw [Nat.cast_sub (by omega), Nat.cast_add, add_sub_right_comm, Int.add_emod_right]
  rw [HoldsStrip, ← this, ← Int.natCast_mod, Nat.cast_lt]

/-- Strip `x` of stripe `t` lies at position `(t + x) mod W`. -/
theorem holdsStrip_iff_exists (hq : q < w) (t : Nat) : HoldsStrip w km q t ↔ ∃ x < km, (t + x) % w = q := by
  constructor
  · intro h
    have hpos : 0 ≤ ((q : Int) - t) % w := Int.emod_nonneg _ (by omega)
    obtain ⟨x, hx⟩ := Int.eq_ofNat_of_zero_le hpos
    refine ⟨x, by rw [HoldsStrip, hx] at h; exact_mod_cast h, ?_⟩
    have : ((t : Int) + x) % w = q := by
      rw [← hx, Int.add_emod_emod, add_sub_cancel, Int.emod_eq_of_lt (by omega) (by omega)]
    exact_mod_cast this
  · rintro ⟨x, hx, rfl⟩
    have : (((t + x) % w : Nat) - (t : Int)) % w = (x % w : Nat) := by
      push_cast
      rw [Int.emod_sub_emod, add_sub_cancel_left]
    rw [HoldsStrip, this]
    exact_mod_cast (Nat.mod_le x w).trans_lt hx

/-- Counted from the stripe after position `q`, the strips at `q` fill the end of the period. -/
theorem count_holdsStrip_period (hkm : km ≤ w) : Nat.count (HoldsStrip w km q) w = km := by
  have hwindow : Nat.count (fun t => HoldsStrip w km q (q + 1 + t)) w = Nat.count (fun t => w - km ≤ t) w :=
    count_congr_lt fun t ht => by
      have : ((q : Int) - ((q + 1 + t : Nat) : Int)) % w = w - 1 - t := by
        rw [← Int.add_emod_right, Int.emod_eq_of_lt] <;> push_cast <;> omega
      rw [HoldsStrip, this]
      omega
  obtain ⟨d, rfl⟩ := Nat.exists_eq_add_of_le' hkm
  rw [← count_window_of_periodic holdsStrip_periodic (q + 1), hwindow, Nat.add_sub_cancel, Nat.count_add,
    Nat.count_of_forall_not fun t ht => Nat.not_le.mpr ht, Nat.count_of_forall fun t _ => Nat.le_add_right d t, Nat.zero_add]

/-- The strip index counts the strips at the position in the stripes of the unfinished period. -/
theorem stripIndex_eq_add_count (hw : 0 < w) (st : Nat) :
    stripIndex w km st q = st / w * km + Nat.count (HoldsStrip w km q) (st % w) := by
  have hoffset : st - w * (st / w) = st % w := by have := Nat.div_add_mod st w; omega
  simp only [stripIndex, foldl_countIf, hoffset]
  exact congrArg _ (count_congr_lt fun t ht => holdsStrip_iff_natMod (ht.trans (Nat.mod_lt st hw)))

/-- The strip index counts the strips at the position in all the stripes before. -/
theorem stripIndex_eq_count (hw : 0 < w) (hkm : km ≤ w) (st : Nat) :
    stripIndex w km st q = Nat.count (HoldsStrip w km q) st := by
  have hrest : Nat.count (fun t => HoldsStrip w km q (w * (st / w) + t)) (st % w) = Nat.count (HoldsStrip w km q) (st % w) :=
    count_congr_lt fun t _ => holdsStrip_add_mul t _
  conv_rhs => rw [← Nat.div_add_mod st w]
  rw [Nat.count_add, count_periods holdsStrip_periodic, count_holdsStrip_period hkm, hrest, stripIndex_eq_add_count hw]

/-- The loop of `gather_map` runs from the first stripe of the period. -/
theorem length_filter_holdsStrip (st : Nat) :
    ((List.range st).filter fun t => decide (w * (st / w) ≤ t) && decide (HoldsStrip w km q t)).length =
      Nat.count (HoldsStrip w km q) (st % w) := by
  have hcount : ((List.range st).filter fun t => decide (w * (st / w) ≤ t) && decide (HoldsStrip w km q t)).length =
      Nat.count (fun t => w * (st / w) ≤ t ∧ HoldsStrip w km q t) (w * (st / w) + st % w) := by
    simp only [Nat.div_add_mod, Nat.count, List.countP_eq_length_filter, Bool.decide_and]
  have hbefore : Nat.count (fun t => w * (st / w) ≤ t ∧ HoldsStrip w km q t) (w * (st / w)) = 0 :=
    Nat.count_of_forall_not fun t ht ⟨hle, _⟩ => Nat.not_le.mpr ht hle
  rw [hcount, Nat.count_add, hbefore, Nat.zero_add]
  exact count_congr_lt fun t _ => (and_iff_right (Nat.le_add_right _ _)).trans (holdsStrip_add_mul t _)

end Strips

theorem nsPlace_gathering {v : Ns} {l : Nat} (hv : v.place = 0x80 + l) (a : Nat) (s : State) :
    nsPlace v a s =
      let k := layoutK l s
      let st := v.base + a / (64 * k)
      let j := a % (64 * k) / 64
      let x := stripAt l st j s
      (x.1, extentBase l x.1 s + 64 * x.2 + a % 64, st, j) := by
  have hge : ¬v.place < 8 := by omega
  have hl : v.place - 0x80 = l := by omega
  simp only [nsPlace, if_neg hge, hl]

/-- R423: two strips at one place are one strip. Each is counted at its position, so equal indices mean the same stripe. -/
theorem strip_unique {w km st tt i j : Nat} (hw : 0 < w) (hkm : km ≤ w) (hi : i < km) (hj : j < km)
    (hpos : (st + i) % w = (tt + j) % w)
    (hidx : stripIndex w km st ((st + i) % w) = stripIndex w km tt ((tt + j) % w)) : st = tt ∧ i = j := by
  have hq : (tt + j) % w < w := Nat.mod_lt _ hw
  rw [hpos, stripIndex_eq_count hw hkm, stripIndex_eq_count hw hkm] at hidx
  obtain rfl : st = tt := Nat.count_injective ((holdsStrip_iff_exists hq st).mpr ⟨i, hi, hpos⟩)
    ((holdsStrip_iff_exists hq tt).mpr ⟨j, hj, rfl⟩) hidx
  exact ⟨rfl, (Nat.ModEq.add_left_cancel' st hpos).eq_of_lt_of_lt (hi.trans_le hkm) (hj.trans_le hkm)⟩

/-- R423: over any W consecutive stripes a position holds K + M strips. -/
theorem length_filter_strips {w km q : Nat} (hkm : km ≤ w) (hq : q < w) (st : Nat) :
    ((List.range w).filter fun t => (List.range km).any fun x => (st + t + x) % w == q).length = km := by
  have hholds (t : Nat) : ((List.range km).any fun x => (st + t + x) % w == q) = decide (HoldsStrip w km q (st + t)) := by
    rw [Bool.eq_iff_iff, decide_eq_true_iff, holdsStrip_iff_exists hq]
    simp
  calc _ = Nat.count (fun t => HoldsStrip w km q (st + t)) w := by
        simp only [hholds, Nat.count, List.countP_eq_length_filter]
    _ = Nat.count (HoldsStrip w km q) w := count_window_of_periodic holdsStrip_periodic st
    _ = km := count_holdsStrip_period hkm

/-- Settles O7: the strip index is the count of the strips at its position in the stripes before, which is injective on the stripes
that have one there. -/
theorem gatherPlaces : Obligations.GatherPlaces := by
  unfold Obligations.GatherPlaces
  refine ⟨fun v a l s _ hv => ?_, fun w km st tt i j q hw hkm hi hj =>
    ⟨strip_unique hw hkm hi hj, fun hq => length_filter_strips hkm hq st⟩⟩
  intro k m c w st j q before hw
  have hidx : stripIndex w (k + m) st q = st / w * (k + m) + before := by
    rw [stripIndex_eq_add_count hw, ← length_filter_holdsStrip]
    simp only [HoldsStrip, Nat.cast_add, before]
  rw [nsPlace_gathering hv, ← hidx]
  rfl

end Sys2Proof.Machine
end

section
/-! PROOFS. The queue, the reset state and the stores: what every step does, whatever its command. -/

namespace Sys2Proof.Machine

/-- Every command keeps the queue that it is given and the canonical form of the stores: its meaning does, by the lemma of `Laws/KeepExec.lean`. -/
theorem kept_exec {q : List Instr} : ∀ (i : Instr) (s u : State), exec i s = .next u → Kept q s → Kept q u
  | .sqTailDoorbell .., _, _, e, h => kept_execSqTailDoorbell _ _ _ _ _ e h
  | .cqHeadDoorbell .., _, _, e, h => kept_execCqHeadDoorbell _ _ _ _ _ e h
  | .commandFetch .., _, _, e, h => kept_execCommandFetch _ _ _ _ e h
  | .completionEntryHandoff .., _, _, e, h => kept_execCompletionEntryHandoff _ _ _ e h
  | .completionPosted .., _, _, e, h => kept_execCompletionPosted _ _ _ e h
  | .interruptCoalescingTimer .., _, _, e, h => kept_execInterruptCoalescingTimer _ _ _ _ e h
  | .hostDataTransferDone .., _, _, e, h => kept_execHostDataTransferDone _ _ _ _ _ e h
  | .controllerEnable .., _, _, e, h => kept_execControllerEnable _ _ _ _ _ _ _ _ e h
  | .controllerReset .., _, _, e, h => kept_execControllerReset _ _ _ e h
  | .runOnCommandsDone .., _, _, e, h => kept_execRunOnCommandsDone _ _ _ e h
  | .functionLevelReset .., _, _, e, h => kept_execFunctionLevelReset _ _ _ e h
  | .perstAssert .., _, _, e, h => kept_execPerstAssert _ _ _ e h
  | .orderlyShutdown .., _, _, e, h => kept_execOrderlyShutdown _ _ _ e h
  | .abruptShutdown .., _, _, e, h => kept_execAbruptShutdown _ _ _ e h
  | .hostLinkDown .., _, _, e, h => kept_execHostLinkDown _ _ _ e h
  | .linkTrained .., _, _, e, h => kept_execLinkTrained _ _ _ _ _ e h
  | .poisonedHostWriteTlp .., _, _, e, h => kept_execPoisonedHostWriteTlp _ _ _ e h
  | .deleteIoSubmissionQueue .., _, _, e, h => kept_execDeleteIoSubmissionQueue _ _ _ e h
  | .createIoSubmissionQueue .., _, _, e, h => kept_execCreateIoSubmissionQueue _ _ _ e h
  | .deleteIoCompletionQueue .., _, _, e, h => kept_execDeleteIoCompletionQueue _ _ _ e h
  | .createIoCompletionQueue .., _, _, e, h => kept_execCreateIoCompletionQueue _ _ _ e h
  | .identifyController .., _, _, e, h => kept_execIdentifyController _ _ _ e h
  | .identifyNamespace .., _, _, e, h => kept_execIdentifyNamespace _ _ _ e h
  | .identifyIoCmdSetNamespace .., _, _, e, h => kept_execIdentifyIoCmdSetNamespace _ _ _ e h
  | .getLogErrorInformation .., _, _, e, h => kept_execGetLogErrorInformation _ _ _ e h
  | .getLogSmartHealth .., _, _, e, h => kept_execGetLogSmartHealth _ _ _ e h
  | .getLogFirmwareSlot .., _, _, e, h => kept_execGetLogFirmwareSlot _ _ _ e h
  | .getLogChangedNamespaceList .., _, _, e, h => kept_execGetLogChangedNamespaceList _ _ _ e h
  | .getLogCommandsSupported .., _, _, e, h => kept_execGetLogCommandsSupported _ _ _ e h
  | .getLogDeviceSelfTest .., _, _, e, h => kept_execGetLogDeviceSelfTest _ _ _ e h
  | .getLogReservationNotification .., _, _, e, h => kept_execGetLogReservationNotification _ _ _ e h
  | .getLogSanitizeStatus .., _, _, e, h => kept_execGetLogSanitizeStatus _ _ _ e h
  | .getLogChannelStatus .., _, _, e, h => kept_execGetLogChannelStatus _ _ _ e h
  | .getLogFlyleafStatus .., _, _, e, h => kept_execGetLogFlyleafStatus _ _ _ e h
  | .getLogGatheringStatus .., _, _, e, h => kept_execGetLogGatheringStatus _ _ _ e h
  | .getLogColophonRecords .., _, _, e, h => kept_execGetLogColophonRecords _ _ _ e h
  | .abort .., _, _, e, h => kept_execAbort _ _ _ e h
  | .setFeatureArbitration .., _, _, e, h => kept_execSetFeatureArbitration _ _ _ e h
  | .setFeatureErrorRecovery .., _, _, e, h => kept_execSetFeatureErrorRecovery _ _ _ e h
  | .setFeatureVolatileWriteCache .., _, _, e, h => kept_execSetFeatureVolatileWriteCache _ _ _ e h
  | .setFeatureNumberOfQueues .., _, _, e, h => kept_execSetFeatureNumberOfQueues _ _ _ e h
  | .setFeatureInterruptCoalescing .., _, _, e, h => kept_execSetFeatureInterruptCoalescing _ _ _ e h
  | .setFeatureAsyncEventConfig .., _, _, e, h => kept_execSetFeatureAsyncEventConfig _ _ _ e h
  | .setFeatureHostIdentifier .., _, _, e, h => kept_execSetFeatureHostIdentifier _ _ _ _ e h
  | .setFeatureGatheringLayout .., _, _, e, h => kept_execSetFeatureGatheringLayout _ _ _ e h
  | .setFeatureDuplicateSuppression .., _, _, e, h => kept_execSetFeatureDuplicateSuppression _ _ _ e h
  | .setFeatureKettleGroup .., _, _, e, h => kept_execSetFeatureKettleGroup _ _ _ e h
  | .channelStateEnable .., _, _, e, h => kept_execChannelStateEnable _ _ _ e h
  | .channelStateDisable .., _, _, e, h => kept_execChannelStateDisable _ _ _ e h
  | .channelStatePowerOff .., _, _, e, h => kept_execChannelStatePowerOff _ _ _ e h
  | .channelStateSpindleStart .., _, _, e, h => kept_execChannelStateSpindleStart _ _ _ e h
  | .channelStateSpindleStop .., _, _, e, h => kept_execChannelStateSpindleStop _ _ _ e h
  | .channelStateUnload .., _, _, e, h => kept_execChannelStateUnload _ _ _ e h
  | .getFeatures .., _, _, e, h => kept_execGetFeatures _ _ _ e h
  | .asyncEventRequest .., _, _, e, h => kept_execAsyncEventRequest _ _ _ e h
  | .asyncEventPosted .., _, _, e, h => kept_execAsyncEventPosted _ _ _ e h
  | .namespaceCreate .., _, _, e, h => kept_execNamespaceCreate _ _ _ _ e h
  | .namespaceDelete .., _, _, e, h => kept_execNamespaceDelete _ _ _ e h
  | .namespaceAttach .., _, _, e, h => kept_execNamespaceAttach _ _ _ _ e h
  | .namespaceDetach .., _, _, e, h => kept_execNamespaceDetach _ _ _ _ e h
  | .firmwareImageDownload .., _, _, e, h => kept_execFirmwareImageDownload _ _ _ _ e h
  | .firmwareCommitReplace .., _, _, e, h => kept_execFirmwareCommitReplace _ _ _ e h
  | .firmwareCommitReplaceActivate .., _, _, e, h => kept_execFirmwareCommitReplaceActivate _ _ _ e h
  | .firmwareCommitImmediate .., _, _, e, h => kept_execFirmwareCommitImmediate _ _ _ e h
  | .deviceSelfTestShort .., _, _, e, h => kept_execDeviceSelfTestShort _ _ _ e h
  | .deviceSelfTestExtended .., _, _, e, h => kept_execDeviceSelfTestExtended _ _ _ e h
  | .deviceSelfTestAbort .., _, _, e, h => kept_execDeviceSelfTestAbort _ _ _ e h
  | .nvmeMiSend .., _, _, e, h => kept_execNvmeMiSend _ _ _ e h
  | .nvmeMiReceive .., _, _, e, h => kept_execNvmeMiReceive _ _ _ e h
  | .formatNvm .., _, _, e, h => kept_execFormatNvm _ _ _ e h
  | .sanitizeOverwrite .., _, _, e, h => kept_execSanitizeOverwrite _ _ _ e h
  | .flush .., _, _, e, h => kept_execFlush _ _ _ e h
  | .write .., _, _, e, h => kept_execWrite _ _ _ e h
  | .read .., _, _, e, h => kept_execRead _ _ _ e h
  | .writeZeroes .., _, _, e, h => kept_execWriteZeroes _ _ _ e h
  | .datasetManagementDeallocate .., _, _, e, h => kept_execDatasetManagementDeallocate _ _ _ _ e h
  | .verify .., _, _, e, h => kept_execVerify _ _ _ e h
  | .reservationRegister .., _, _, e, h => kept_execReservationRegister _ _ _ _ _ _ e h
  | .reservationReport .., _, _, e, h => kept_execReservationReport _ _ _ e h
  | .reservationAcquire .., _, _, e, h => kept_execReservationAcquire _ _ _ _ _ _ _ e h
  | .reservationRelease .., _, _, e, h => kept_execReservationRelease _ _ _ _ _ e h
  | .copy .., _, _, e, h => kept_execCopy _ _ _ _ e h
  | .zoneManagementSend .., _, _, e, h => kept_execZoneManagementSend _ _ _ _ e h
  | .zoneManagementReceive .., _, _, e, h => kept_execZoneManagementReceive _ _ _ e h
  | .zoneAppend .., _, _, e, h => kept_execZoneAppend _ _ _ e h
  | .stampOriginalEnded .., _, _, e, h => kept_execStampOriginalEnded _ _ _ e h
  | .bookmarkExpire .., _, _, e, h => kept_execBookmarkExpire _ _ _ e h
  | .rangeLockGrant, _, _, e, h => kept_execRangeLockGrant _ _ e h
  | .writeBufferReadWaitEnd .., _, _, e, h => kept_execWriteBufferReadWaitEnd _ _ _ e h
  | .schedTakeDescriptor .., _, _, e, h => kept_execSchedTakeDescriptor _ _ _ _ e h
  | .workItemFinished .., _, _, e, h => kept_execWorkItemFinished _ _ _ _ e h
  | .destageComplete .., _, _, e, h => kept_execDestageComplete _ _ _ e h
  | .speculativeFillArrive .., _, _, e, h => kept_execSpeculativeFillArrive _ _ _ _ _ _ e h
  | .speculativeSeek .., _, _, e, h => kept_execSpeculativeSeek _ _ _ _ e h
  | .readDeadlineExpire .., _, _, e, h => kept_execReadDeadlineExpire _ _ _ e h
  | .firstPassDecodeEnd .., _, _, e, h => kept_execFirstPassDecodeEnd _ _ _ _ e h
  | .ladderRedecode .., _, _, e, h => kept_execLadderRedecode _ _ _ _ e h
  | .ladderReeq .., _, _, e, h => kept_execLadderReeq _ _ _ _ e h
  | .ladderReader .., _, _, e, h => kept_execLadderReader _ _ _ _ e h
  | .ladderSlip .., _, _, e, h => kept_execLadderSlip _ _ _ _ e h
  | .ladderBlind .., _, _, e, h => kept_execLadderBlind _ _ _ _ e h
  | .ladderReread .., _, _, e, h => kept_execLadderReread _ _ _ _ e h
  | .ladderTa .., _, _, e, h => kept_execLadderTa _ _ _ _ e h
  | .readSig .., _, _, e, h => kept_execReadSig _ _ _ _ e h
  | .writeSig .., _, _, e, h => kept_execWriteSig _ _ _ _ e h
  | .verifySig .., _, _, e, h => kept_execVerifySig _ _ _ _ e h
  | .scanServo .., _, _, e, h => kept_execScanServo _ _ _ _ e h
  | .formatTrack .., _, _, e, h => kept_execFormatTrack _ _ _ _ e h
  | .capture .., _, _, e, h => kept_execCapture _ _ _ _ e h
  | .imageDefinedCommand .., _, _, e, h => kept_execImageDefinedCommand _ _ _ _ e h
  | .partFirstBit .., _, _, e, h => kept_execPartFirstBit _ _ _ _ _ e h
  | .partLastBit .., _, _, e, h => kept_execPartLastBit _ _ _ _ _ _ e h
  | .writeFifoReady .., _, _, e, h => kept_execWriteFifoReady _ _ _ _ _ e h
  | .preampFaultAssert .., _, _, e, h => kept_execPreampFaultAssert _ _ _ _ _ e h
  | .preampFaultRelease .., _, _, e, h => kept_execPreampFaultRelease _ _ _ e h
  | .preampFrameDone .., _, _, e, h => kept_execPreampFrameDone _ _ _ _ e h
  | .aluAdd .., _, _, e, h => kept_execAluAdd _ _ _ _ _ _ _ e h
  | .aluSub .., _, _, e, h => kept_execAluSub _ _ _ _ _ _ _ e h
  | .aluAnd .., _, _, e, h => kept_execAluAnd _ _ _ _ _ _ _ e h
  | .aluOr .., _, _, e, h => kept_execAluOr _ _ _ _ _ _ _ e h
  | .aluXor .., _, _, e, h => kept_execAluXor _ _ _ _ _ _ _ e h
  | .aluShl .., _, _, e, h => kept_execAluShl _ _ _ _ _ _ _ e h
  | .aluShr .., _, _, e, h => kept_execAluShr _ _ _ _ _ _ _ e h
  | .aluAsr .., _, _, e, h => kept_execAluAsr _ _ _ _ _ _ _ e h
  | .aluShli .., _, _, e, h => kept_execAluShli _ _ _ _ _ _ _ e h
  | .aluShri .., _, _, e, h => kept_execAluShri _ _ _ _ _ _ _ e h
  | .aluMov .., _, _, e, h => kept_execAluMov _ _ _ _ _ _ e h
  | .aluNot .., _, _, e, h => kept_execAluNot _ _ _ _ _ _ e h
  | .aluCmp .., _, _, e, h => kept_execAluCmp _ _ _ _ _ _ e h
  | .aluTst .., _, _, e, h => kept_execAluTst _ _ _ _ _ _ e h
  | .addi .., _, _, e, h => kept_execAddi _ _ _ _ _ _ e h
  | .ldi .., _, _, e, h => kept_execLdi _ _ _ _ _ _ e h
  | .andi .., _, _, e, h => kept_execAndi _ _ _ _ _ _ e h
  | .ori .., _, _, e, h => kept_execOri _ _ _ _ _ _ e h
  | .cmpi .., _, _, e, h => kept_execCmpi _ _ _ _ _ _ e h
  | .jmp .., _, _, e, h => kept_execJmp _ _ _ _ _ _ e h
  | .call .., _, _, e, h => kept_execCall _ _ _ _ _ _ e h
  | .ret .., _, _, e, h => kept_execRet _ _ _ _ _ e h
  | .loop .., _, _, e, h => kept_execLoop _ _ _ _ _ _ e h
  | .setlc .., _, _, e, h => kept_execSetlc _ _ _ _ _ _ e h
  | .portIn .., _, _, e, h => kept_execPortIn _ _ _ _ _ _ e h
  | .portOut .., _, _, e, h => kept_execPortOut _ _ _ _ _ _ e h
  | .portOuti .., _, _, e, h => kept_execPortOuti _ _ _ _ _ _ e h
  | .armCancel .., _, _, e, h => kept_execArmCancel _ _ _ _ e h
  | .armCapture .., _, _, e, h => kept_execArmCapture _ _ _ _ e h
  | .armWrite .., _, _, e, h => kept_execArmWrite _ _ _ _ e h
  | .armVerify .., _, _, e, h => kept_execArmVerify _ _ _ _ e h
  | .armScan .., _, _, e, h => kept_execArmScan _ _ _ _ e h
  | .armRaw .., _, _, e, h => kept_execArmRaw _ _ _ _ e h
  | .portCommit .., _, _, e, h => kept_execPortCommit _ _ _ _ e h
  | .portWfifoStart .., _, _, e, h => kept_execPortWfifoStart _ _ _ _ e h
  | .portPaCmd .., _, _, e, h => kept_execPortPaCmd _ _ _ _ _ e h
  | .portFeCtl .., _, _, e, h => kept_execPortFeCtl _ _ _ _ _ e h
  | .portTmaskWrite .., _, _, e, h => kept_execPortTmaskWrite _ _ _ _ _ e h
  | .wait .., _, _, e, h => kept_execWait _ _ _ _ _ _ e h
  | .fetch .., _, _, e, h => kept_execFetch _ _ _ _ e h
  | .prefetch .., _, _, e, h => kept_execPrefetch _ _ _ _ e h
  | .done .., _, _, e, h => kept_execDone _ _ _ _ _ _ e h
  | .mret .., _, _, e, h => kept_execMret _ _ _ _ e h
  | .trap .., _, _, e, h => kept_execTrap _ _ _ _ _ e h
  | .signal .., _, _, e, h => kept_execSignal _ _ _ _ _ e h
  | .halt .., _, _, e, h => kept_execHalt _ _ _ _ _ e h
  | .reservedOperation .., _, _, e, h => kept_execReservedOperation _ _ _ _ _ e h
  | .stitchTrapTaken .., _, _, e, h => kept_execStitchTrapTaken _ _ _ _ e h
  | .stitchTimerExpire .., _, _, e, h => kept_execStitchTimerExpire _ _ _ _ e h
  | .stitchWatchdogExpire .., _, _, e, h => kept_execStitchWatchdogExpire _ _ _ _ e h
  | .stitchWatchdogHalt .., _, _, e, h => kept_execStitchWatchdogHalt _ _ _ _ e h
  | .descPrefetchDeliver .., _, _, e, h => kept_execDescPrefetchDeliver _ _ _ _ _ e h
  | .descPrefetchWithdraw .., _, _, e, h => kept_execDescPrefetchWithdraw _ _ _ _ e h
  | .workItemAbort .., _, _, e, h => kept_execWorkItemAbort _ _ _ _ e h
  | .storeSegmentLoad .., _, _, e, h => kept_execStoreSegmentLoad _ _ _ _ e h
  | .storeWindowWrite .., _, _, e, h => kept_execStoreWindowWrite _ _ _ _ _ _ e h
  | .stitchCtlHaltWrite .., _, _, e, h => kept_execStitchCtlHaltWrite _ _ _ _ _ e h
  | .stitchCtlStep .., _, _, e, h => kept_execStitchCtlStep _ _ _ _ e h
  | .servoSampleEvent .., _, _, e, h => kept_execServoSampleEvent _ _ _ _ e h
  | .idleSelfCheckTick .., _, _, e, h => kept_execIdleSelfCheckTick _ _ _ _ _ e h
  | .switchGapEnd .., _, _, e, h => kept_execSwitchGapEnd _ _ _ e h
  | .engineDisagree .., _, _, e, h => kept_execEngineDisagree _ _ _ _ _ e h
  | .standbyReady .., _, _, e, h => kept_execStandbyReady _ _ _ e h
  | .hingeLinkLoss .., _, _, e, h => kept_execHingeLinkLoss _ _ _ e h
  | .engineRecoveryCopyDone .., _, _, e, h => kept_execEngineRecoveryCopyDone _ _ _ e h
  | .engineRecovered .., _, _, e, h => kept_execEngineRecovered _ _ _ _ e h
  | .takeBack .., _, _, e, h => kept_execTakeBack _ _ _ _ e h
  | .hingeForce .., _, _, e, h => kept_execHingeForce _ _ _ _ _ _ e h
  | .loopImplausibleDeclare .., _, _, e, h => kept_execLoopImplausibleDeclare _ _ _ _ _ e h
  | .loopPlausibleRecover .., _, _, e, h => kept_execLoopPlausibleRecover _ _ _ _ _ e h
  | .servoLost .., _, _, e, h => kept_execServoLost _ _ _ e h
  | .actRunaway .., _, _, e, h => kept_execActRunaway _ _ _ _ _ e h
  | .onTrack .., _, _, e, h => kept_execOnTrack _ _ _ _ e h
  | .seekTimeout .., _, _, e, h => kept_execSeekTimeout _ _ _ e h
  | .seekRedirect .., _, _, e, h => kept_execSeekRedirect _ _ _ _ e h
  | .spindleStrobe .., _, _, e, h => kept_execSpindleStrobe _ _ _ _ e h
  | .swapRequest .., _, _, e, h => kept_execSwapRequest _ _ _ _ e h
  | .swapCheckDone .., _, _, e, h => kept_execSwapCheckDone _ _ _ _ e h
  | .coefWindowWrite .., _, _, e, h => kept_execCoefWindowWrite _ _ _ _ _ _ _ _ e h
  | .shockEvent .., _, _, e, h => kept_execShockEvent _ _ _ e h
  | .shockHoldExpire .., _, _, e, h => kept_execShockHoldExpire _ _ _ e h
  | .rroConverged .., _, _, e, h => kept_execRroConverged _ _ _ _ e h
  | .rroNoConvergence .., _, _, e, h => kept_execRroNoConvergence _ _ _ _ e h
  | .servoAcquired .., _, _, e, h => kept_execServoAcquired _ _ _ _ e h
  | .loadTimeout .., _, _, e, h => kept_execLoadTimeout _ _ _ e h
  | .pwmPeriod .., _, _, e, h => kept_execPwmPeriod _ _ _ _ e h
  | .motFault .., _, _, e, h => kept_execMotFault _ _ _ e h
  | .depthLimit .., _, _, e, h => kept_execDepthLimit _ _ _ e h
  | .motStart .., _, _, e, h => kept_execMotStart _ _ _ e h
  | .motStop .., _, _, e, h => kept_execMotStop _ _ _ e h
  | .motCoast .., _, _, e, h => kept_execMotCoast _ _ _ e h
  | .motUnload .., _, _, e, h => kept_execMotUnload _ _ _ e h
  | .motLoad .., _, _, e, h => kept_execMotLoad _ _ _ e h
  | .senseEnd .., _, _, e, h => kept_execSenseEnd _ _ _ e h
  | .alignStepEnd .., _, _, e, h => kept_execAlignStepEnd _ _ _ e h
  | .rampHandover .., _, _, e, h => kept_execRampHandover _ _ _ e h
  | .rampHandoverFail .., _, _, e, h => kept_execRampHandoverFail _ _ _ e h
  | .spinupTimeout .., _, _, e, h => kept_execSpinupTimeout _ _ _ e h
  | .brakePhaseTimer .., _, _, e, h => kept_execBrakePhaseTimer _ _ _ e h
  | .brakeTimeout .., _, _, e, h => kept_execBrakeTimeout _ _ _ e h
  | .rotorLost .., _, _, e, h => kept_execRotorLost _ _ _ e h
  | .catchDetectorStart .., _, _, e, h => kept_execCatchDetectorStart _ _ _ e h
  | .catchReacquire .., _, _, e, h => kept_execCatchReacquire _ _ _ e h
  | .catchTimeout .., _, _, e, h => kept_execCatchTimeout _ _ _ e h
  | .inTolerance .., _, _, e, h => kept_execInTolerance _ _ _ e h
  | .spinOffTolerance .., _, _, e, h => kept_execSpinOffTolerance _ _ _ e h
  | .runcfgDirWrite .., _, _, e, h => kept_execRuncfgDirWrite _ _ _ _ _ e h
  | .retractParkDetect .., _, _, e, h => kept_execRetractParkDetect _ _ _ e h
  | .retractHoldEnd .., _, _, e, h => kept_execRetractHoldEnd _ _ _ e h
  | .retractTimeout .., _, _, e, h => kept_execRetractTimeout _ _ _ e h
  | .voiceCoilPeriod .., _, _, e, h => kept_execVoiceCoilPeriod _ _ _ _ _ e h
  | .ketEpochFrame .., _, _, e, h => kept_execKetEpochFrame _ _ _ _ _ e h
  | .ketVibFrame .., _, _, e, h => kept_execKetVibFrame _ _ _ _ _ e h
  | .ketDreqFrame .., _, _, e, h => kept_execKetDreqFrame _ _ _ _ _ e h
  | .ketDrspFrame .., _, _, e, h => kept_execKetDrspFrame _ _ _ _ e h
  | .ketTailFrame .., _, _, e, h => kept_execKetTailFrame _ _ _ e h
  | .ketEpochTick .., _, _, e, h => kept_execKetEpochTick _ _ _ e h
  | .ketDreqTick .., _, _, e, h => kept_execKetDreqTick _ _ _ e h
  | .ketTailTick, _, _, e, h => kept_execKetTailTick _ _ e h
  | .ketVibRead .., _, _, e, h => kept_execKetVibRead _ _ _ _ e h
  | .ketLaneLock .., _, _, e, h => kept_execKetLaneLock _ _ _ e h
  | .ketLaneLost .., _, _, e, h => kept_execKetLaneLost _ _ _ e h
  | .ketHoldover, _, _, e, h => kept_execKetHoldover _ _ e h
  | .ketSegmentHead, _, _, e, h => kept_execKetSegmentHead _ _ e h
  | .ketAutoHead, _, _, e, h => kept_execKetAutoHead _ _ e h
  | .ketEnable .., _, _, e, h => kept_execKetEnable _ _ _ e h
  | .flyEnable, _, _, e, h => kept_execFlyEnable _ _ e h
  | .flyDisable, _, _, e, h => kept_execFlyDisable _ _ e h
  | .flyStartDone .., _, _, e, h => kept_execFlyStartDone _ _ _ e h
  | .flyPackTimeout, _, _, e, h => kept_execFlyPackTimeout _ _ e h
  | .flyPageProgramDone .., _, _, e, h => kept_execFlyPageProgramDone _ _ _ _ e h
  | .flyBandVerifyDone .., _, _, e, h => kept_execFlyBandVerifyDone _ _ _ _ e h
  | .flyDestagePageTimer, _, _, e, h => kept_execFlyDestagePageTimer _ _ e h
  | .flyBookmarkPageTimer, _, _, e, h => kept_execFlyBookmarkPageTimer _ _ e h
  | .flyCollectionStart .., _, _, e, h => kept_execFlyCollectionStart _ _ _ e h
  | .flyVictimErase .., _, _, e, h => kept_execFlyVictimErase _ _ _ e h
  | .flyEraseDone .., _, _, e, h => kept_execFlyEraseDone _ _ _ _ _ e h
  | .flyDieFail .., _, _, e, h => kept_execFlyDieFail _ _ _ _ e h
  | .flyDrained, _, _, e, h => kept_execFlyDrained _ _ e h
  | .flyWarmOffer .., _, _, e, h => kept_execFlyWarmOffer _ _ _ _ _ e h
  | .gathLayoutCommit .., _, _, e, h => kept_execGathLayoutCommit _ _ _ e h
  | .gathIntentProgram, _, _, e, h => kept_execGathIntentProgram _ _ e h
  | .gathStripeUpdate .., _, _, e, h => kept_execGathStripeUpdate _ _ _ _ _ _ e h
  | .gathStartResync .., _, _, e, h => kept_execGathStartResync _ _ _ _ _ e h
  | .gathChannelUnavailable .., _, _, e, h => kept_execGathChannelUnavailable _ _ _ e h
  | .gathChannelLost .., _, _, e, h => kept_execGathChannelLost _ _ _ e h
  | .gathChannelResync .., _, _, e, h => kept_execGathChannelResync _ _ _ _ _ e h
  | .gathReconstruct .., _, _, e, h => kept_execGathReconstruct _ _ _ _ _ _ e h
  | .gathRebuildStrip .., _, _, e, h => kept_execGathRebuildStrip _ _ _ _ _ e h
  | .cacheFill .., _, _, e, h => kept_execCacheFill _ _ _ _ _ _ e h
  | .cacheOfferDecided .., _, _, e, h => kept_execCacheOfferDecided _ _ _ _ _ e h
  | .cacheOfferTimeout .., _, _, e, h => kept_execCacheOfferTimeout _ _ _ _ e h
  | .cacheWaylockWrite .., _, _, e, h => kept_execCacheWaylockWrite _ _ _ e h
  | .cacheMaintInvalidate, _, _, e, h => kept_execCacheMaintInvalidate _ _ e h
  | .cacheMaintCleanInvalidate, _, _, e, h => kept_execCacheMaintCleanInvalidate _ _ e h
  | .cacheMaintPrefetch, _, _, e, h => kept_execCacheMaintPrefetch _ _ e h
  | .cacheMaintDone, _, _, e, h => kept_execCacheMaintDone _ _ e h
  | .cacheTagSelect .., _, _, e, h => kept_execCacheTagSelect _ _ _ _ e h
  | .dramUncorrectable .., _, _, e, h => kept_execDramUncorrectable _ _ _ _ e h
  | .dramPcFail .., _, _, e, h => kept_execDramPcFail _ _ _ e h
  | .fabricStarvePromote, _, _, e, h => kept_execFabricStarvePromote _ _ e h
  | .reamAlloc .., _, _, e, h => kept_execReamAlloc _ _ _ _ _ e h
  | .reamShare .., _, _, e, h => kept_execReamShare _ _ _ _ e h
  | .reamRelease .., _, _, e, h => kept_execReamRelease _ _ _ _ e h
  | .reamFree .., _, _, e, h => kept_execReamFree _ _ _ _ e h
  | .reamGive .., _, _, e, h => kept_execReamGive _ _ _ _ _ e h
  | .reamWaitGrant .., _, _, e, h => kept_execReamWaitGrant _ _ _ e h
  | .reamRefill .., _, _, e, h => kept_execReamRefill _ _ _ e h
  | .reamSpill .., _, _, e, h => kept_execReamSpill _ _ _ e h
  | .reamAuditDone .., _, _, e, h => kept_execReamAuditDone _ _ _ e h
  | .reamChannelReclaim .., _, _, e, h => kept_execReamChannelReclaim _ _ _ e h
  | .reamPoolEnable .., _, _, e, h => kept_execReamPoolEnable _ _ _ _ e h
  | .dmaTailWrite .., _, _, e, h => kept_execDmaTailWrite _ _ _ _ e h
  | .dmaDescriptorDone .., _, _, e, h => kept_execDmaDescriptorDone _ _ _ _ _ e h
  | .dmaAbort .., _, _, e, h => kept_execDmaAbort _ _ _ _ e h
  | .dmaClrHalt .., _, _, e, h => kept_execDmaClrHalt _ _ _ e h
  | .sramCorrectableError .., _, _, e, h => kept_execSramCorrectableError _ _ _ _ _ e h
  | .memprotRemapMove .., _, _, e, h => kept_execMemprotRemapMove _ _ _ _ e h
  | .sramUncorrectableError .., _, _, e, h => kept_execSramUncorrectableError _ _ _ _ e h
  | .memprotFlipArm .., _, _, e, h => kept_execMemprotFlipArm _ _ _ _ e h
  | .faultSourceLatch .., _, _, e, h => kept_execFaultSourceLatch _ _ _ e h
  | .faultStatusClear .., _, _, e, h => kept_execFaultStatusClear _ _ _ _ e h
  | .faultForceSafe .., _, _, e, h => kept_execFaultForceSafe _ _ _ e h
  | .faultChipRst, _, _, e, h => kept_execFaultChipRst _ _ e h
  | .faultSelf, _, _, e, h => kept_execFaultSelf _ _ e h
  | .mgmtChannelReenable .., _, _, e, h => kept_execMgmtChannelReenable _ _ _ e h
  | .mgmtWdog, _, _, e, h => kept_execMgmtWdog _ _ e h
  | .pllUnlock .., _, _, e, h => kept_execPllUnlock _ _ _ e h
  | .crystalStop, _, _, e, h => kept_execCrystalStop _ _ e h
  | .tempSample .., _, _, e, h => kept_execTempSample _ _ _ e h
  | .tempCrit, _, _, e, h => kept_execTempCrit _ _ e h
  | .coloMirrorPage .., _, _, e, h => kept_execColoMirrorPage _ _ _ e h
  | .coloReservationExtend, _, _, e, h => kept_execColoReservationExtend _ _ e h
  | .coloChallengeRead, _, _, e, h => kept_execColoChallengeRead _ _ e h
  | .coloClear .., _, _, e, h => kept_execColoClear _ _ _ _ e h
  | .coloLockoutEnd, _, _, e, h => kept_execColoLockoutEnd _ _ e h
  | .powerLoss, _, _, e, h => kept_execPowerLoss _ _ e h
  | .railTrip, _, _, e, h => kept_execRailTrip _ _ e h
  | .brownOutReset, _, _, e, h => kept_execBrownOutReset _ _ e h
  | .powerOnReset .., _, _, e, h => kept_execPowerOnReset _ _ _ _ e h
  | .rstNAssert, _, _, e, h => kept_execRstNAssert _ _ e h
  | .chipResetTaken, _, _, e, h => kept_execChipResetTaken _ _ e h
  | .bootImageCheck .., _, _, e, h => kept_execBootImageCheck _ _ _ _ e h
  | .rollbackFuseUpdate, _, _, e, h => kept_execRollbackFuseUpdate _ _ e h
  | .fuseProgramCommit .., _, _, e, h => kept_execFuseProgramCommit _ _ _ _ _ e h
  | .pwrDomctlWrite .., _, _, e, h => kept_execPwrDomctlWrite _ _ _ _ _ e h
  | .domainOnComplete .., _, _, e, h => kept_execDomainOnComplete _ _ _ _ e h
  | .clkSscWrite .., _, _, e, h => kept_execClkSscWrite _ _ _ _ e h
  | .channelReset .., _, _, e, h => kept_execChannelReset _ _ _ _ e h
  | .ketBlockReset, _, _, e, h => kept_execKetBlockReset _ _ e h
  | .flyBlockReset, _, _, e, h => kept_execFlyBlockReset _ _ e h
  | .gathBlockReset, _, _, e, h => kept_execGathBlockReset _ _ e h
  | .cacheBlockReset, _, _, e, h => kept_execCacheBlockReset _ _ e h
  | .reamBlockReset, _, _, e, h => kept_execReamBlockReset _ _ e h
  | .dmaBlockReset, _, _, e, h => kept_execDmaBlockReset _ _ e h
  | .memprotBlockReset, _, _, e, h => kept_execMemprotBlockReset _ _ e h
  | .channelEnable .., _, _, e, h => kept_execChannelEnable _ _ _ e h
  | .channelDisable .., _, _, e, h => kept_execChannelDisable _ _ _ e h
  | .channelReady .., _, _, e, h => kept_execChannelReady _ _ _ _ e h
  | .channelFence .., _, _, e, h => kept_execChannelFence _ _ _ e h
  | .expertUnlockFirst .., _, _, e, h => kept_execExpertUnlockFirst _ _ _ _ e h
  | .expertUnlockSecond .., _, _, e, h => kept_execExpertUnlockSecond _ _ _ _ e h
  | .expertClose path blk, _, _, e, h => kept_execExpertClose path blk _ _ e h
  | .accerrClear, _, _, e, h => kept_execAccerrClear _ _ e h
  | .registerWrite .., _, _, e, h => kept_execRegisterWrite _ _ _ _ _ _ e h
  | .sidebandRead32 .., _, _, e, h => kept_execSidebandRead32 _ _ _ e h
  | .sidebandWrite32 .., _, _, e, h => kept_execSidebandWrite32 _ _ _ _ e h
  | .sidebandRead64 .., _, _, e, h => kept_execSidebandRead64 _ _ _ e h
  | .sidebandWrite64 .., _, _, e, h => kept_execSidebandWrite64 _ _ _ _ e h
  | .miReadDataStructure, _, _, e, h => kept_execMiReadDataStructure _ _ e h
  | .miSubsystemHealthPoll, _, _, e, h => kept_execMiSubsystemHealthPoll _ _ e h
  | .miControllerHealthPoll .., _, _, e, h => kept_execMiControllerHealthPoll _ _ _ e h
  | .miConfigurationSet .., _, _, e, h => kept_execMiConfigurationSet _ _ _ _ e h
  | .miConfigurationGet .., _, _, e, h => kept_execMiConfigurationGet _ _ _ e h
  | .miAdminCommand .., _, _, e, h => kept_execMiAdminCommand _ _ _ _ e h
  | .i3cEntdaa .., _, _, e, h => kept_execI3cEntdaa _ _ _ e h
  | .i3cSetdasa .., _, _, e, h => kept_execI3cSetdasa _ _ _ _ e h
  | .i3cRstdaa, _, _, e, h => kept_execI3cRstdaa _ _ e h
  | .i3cGetpid, _, _, e, h => kept_execI3cGetpid _ _ e h
  | .i3cGetbcr, _, _, e, h => kept_execI3cGetbcr _ _ e h
  | .i3cGetdcr, _, _, e, h => kept_execI3cGetdcr _ _ e h
  | .i3cGetmwl, _, _, e, h => kept_execI3cGetmwl _ _ e h
  | .i3cGetmrl, _, _, e, h => kept_execI3cGetmrl _ _ e h
  | .i3cSetmwl .., _, _, e, h => kept_execI3cSetmwl _ _ _ e h
  | .i3cSetmrl .., _, _, e, h => kept_execI3cSetmrl _ _ _ e h
  | .i3cEnec .., _, _, e, h => kept_execI3cEnec _ _ _ e h
  | .i3cDisec .., _, _, e, h => kept_execI3cDisec _ _ _ e h
  | .zoneReady .., _, _, e, h => kept_execZoneReady _ _ _ _ e h
  | .consistencyCheckEnd .., _, _, e, h => kept_execConsistencyCheckEnd _ _ _ _ e h
  | .rstNRelease, _, _, e, h => kept_execRstNRelease _ _ e h
  | .perstRelease .., _, _, e, h => kept_execPerstRelease _ _ _ e h
  | .vholdBelowMinimum, _, _, e, h => kept_execVholdBelowMinimum _ _ e h
  | .hostAerUncorrectable .., _, _, e, h => kept_execHostAerUncorrectable _ _ _ e h
  | .flyPageReadDone .., _, _, e, h => kept_execFlyPageReadDone _ _ _ _ _ e h
  | .hingeSelectionDisagree .., _, _, e, h => kept_execHingeSelectionDisagree _ _ _ e h

/-- Settles O4: the front command leaves the queue, and its meaning keeps the rest of the queue and the stores. -/
theorem everyStepKeepsTheStores : Obligations.EveryStepKeepsTheStores := by
  unfold Obligations.EveryStepKeepsTheStores
  intro s t hcanon hstep
  unfold step at hstep
  cases hq : s.pending with
  | nil =>
    rw [hq] at hstep
    injection hstep with hst
    subst hst
    exact ⟨hcanon, by rw [hq]; rfl⟩
  | cons i rest =>
    rw [hq] at hstep
    obtain ⟨hqueue, hkept⟩ := kept_exec (q := rest) i _ _ hstep ⟨rfl, hcanon⟩
    exact ⟨hkept, hqueue⟩

/-- Settles O1, by the definition of a step. -/
theorem stepRunsTheFrontCommand : Obligations.StepRunsTheFrontCommand := by
  unfold Obligations.StepRunsTheFrontCommand
  refine ⟨fun c rest s => rfl, fun s hq => ?_⟩
  unfold step
  rw [hq]

/-- Settles O2: every meaning is a next state. -/
theorem everyCommandCompletes : Obligations.EveryCommandCompletes := by
  unfold Obligations.EveryCommandCompletes
  intro c s
  cases c <;> exact ⟨_, rfl⟩

/-- A register field reads its reset value while its cell is empty. -/
theorem State.get_of_regs_empty {s : State} (h : s.regs = NatMap.empty) (f : Fld) : s.get f = f.reset := by
  simp [State.get, h, NatMap.get, NatMap.empty, lookupCell]

theorem State.reset_chan (n : Ch) : State.reset.chan n = Chan.reset := by
  simp [State.chan, State.reset]

theorem State.reset_stit (n : Ch) (p : Pa) : State.reset.stit n p = Stitcher.reset := by
  simp [State.stit, State.reset_chan, Chan.reset]

theorem State.reset_ctlr (c : Ctl) : State.reset.ctlr c = Ctlr.reset := by
  simp [State.ctlr, State.reset, HostSt.reset]

theorem State.reset_canon : State.reset.canon := by
  refine ⟨rfl, rfl, rfl, fun n => ?_⟩
  simp [State.reset, NatMap.empty, NatMap.wf]

end Sys2Proof.Machine

namespace Sys2Proof

open Machine

/-- Settles O3: every store is empty, so a field reads the reset value of its entry. -/
theorem resetState : Obligations.ResetState := by
  unfold Obligations.ResetState
  have hget := State.get_of_regs_empty (s := State.reset) rfl
  refine ⟨rfl, State.reset_canon, hget, hget _, hget _, hget _, fun n p => ?_, fun n p i => ?_, fun c => ?_, rfl⟩
  · rw [State.reset_stit]
    rfl
  · rw [State.reset_stit]
    simp [Stitcher.reset]
  · rw [State.reset_ctlr]
    rfl

end Sys2Proof
end

section
/-! PROOFS. The microwords of R146 to R149: a word built from an operation's fields gives each field back. -/

namespace Sys2Proof

/-! ### The fields of a word -/

/-- Bits [lo + k - 1 : lo] of a word built from OP and the operand fields. -/
theorem mbits_mword {op rest lo k : Nat} (hop : op < 32) (hrest : rest < 524288) {v : BitVec k}
    (hv : (op * 524288 + rest) / 2 ^ lo % 2 ^ k = v.toNat) : mbits (mword op rest) lo k = v := by
  apply BitVec.eq_of_toNat_eq
  have hlt : op * 524288 + rest < 2 ^ 24 := by omega
  rw [mbits, mword, BitVec.extractLsb'_toNat, BitVec.toNat_ofNat, Nat.mod_eq_of_lt hlt, Nat.shiftRight_eq_div_pow, hv]

/-- One bit of a word built from OP and the operand fields. -/
theorem getLsbD_mword {op rest i : Nat} (hop : op < 32) (hrest : rest < 524288) (hi : i < 24) {b : Bool}
    (hb : (op * 524288 + rest) / 2 ^ i % 2 = b.toNat) : (mword op rest).getLsbD i = b := by
  have hlt : op * 524288 + rest < 2 ^ 24 := by omega
  rw [mword, BitVec.getLsbD_ofNat, decide_eq_true hi, Bool.true_and, Nat.testBit_eq_decide_div_mod_eq, hb]
  cases b <;> rfl

/-- OP stands in the top five bits. -/
theorem op_mword {op rest : Nat} (hop : op < 32) (hrest : rest < 524288) : (mbits (mword op rest) 19 5).toNat = op := by
  rw [mbits_mword (v := BitVec.ofNat 5 op) hop hrest (by rw [BitVec.toNat_ofNat]; omega), BitVec.toNat_ofNat]
  omega

/-! ### Decoding -/

/-- The word of an operation with two fields decodes to the operation of the fields. -/
theorem decodeMicro_pair {op rest lo₁ k₁ lo₂ k₂ : Nat} {mk : BitVec k₁ → BitVec k₂ → Micro} (hop : op < 32) (hrest : rest < 524288)
    (hmk : ∀ w : W24, (mbits w 19 5).toNat = op → decodeMicro w = mk (mbits w lo₁ k₁) (mbits w lo₂ k₂)) {a : BitVec k₁} {b : BitVec k₂}
    (ha : (op * 524288 + rest) / 2 ^ lo₁ % 2 ^ k₁ = a.toNat) (hb : (op * 524288 + rest) / 2 ^ lo₂ % 2 ^ k₂ = b.toNat) :
    decodeMicro (mword op rest) = mk a b := by
  rw [hmk _ (op_mword hop hrest), mbits_mword hop hrest ha, mbits_mword hop hrest hb]

/-- The word of an operation with one field decodes to the operation of the field. -/
theorem decodeMicro_single {op rest lo k : Nat} {mk : BitVec k → Micro} (hop : op < 32) (hrest : rest < 524288)
    (hmk : ∀ w : W24, (mbits w 19 5).toNat = op → decodeMicro w = mk (mbits w lo k)) {a : BitVec k}
    (ha : (op * 524288 + rest) / 2 ^ lo % 2 ^ k = a.toNat) : decodeMicro (mword op rest) = mk a := by
  rw [hmk _ (op_mword hop hrest), mbits_mword hop hrest ha]

/-- The word of an operation without a field decodes to it. -/
theorem decodeMicro_plain {op : Nat} {m : Micro} (hop : op < 32)
    (hm : ∀ w : W24, (mbits w 19 5).toNat = op → decodeMicro w = m) : decodeMicro (mword op 0) = m :=
  hm _ (op_mword hop (by decide))

theorem decodeMicro_alu {fn : BitVec 4} (rd ra rb : BitVec 5) (hfn : fn.toNat < 14) : decodeMicro (encodeMicro (.alu fn rd ra rb)) = .alu fn rd ra rb := by
  have hop : 0x01 < 32 := by decide
  have hrest : rd.toNat * 16384 + ra.toNat * 512 + rb.toNat * 16 + fn.toNat < 524288 := by omega
  have field {lo k : Nat} {v : BitVec k} := mbits_mword (lo := lo) (v := v) hop hrest
  have hfn' := field (lo := 0) (v := fn) (by omega)
  simp only [encodeMicro, decodeMicro, op_mword hop hrest, hfn', hfn, if_true, field (lo := 14) (v := rd) (by omega),
    field (lo := 9) (v := ra) (by omega), field (lo := 4) (v := rb) (by omega)]

theorem decodeMicro_setlcImm (l : BitVec 2) (v : W16) : decodeMicro (encodeMicro (.setlcImm l v)) = .setlcImm l v := by
  have hop : 0x0C < 32 := by decide
  have hrest : l.toNat * 131072 + v.toNat < 524288 := by omega
  simp only [encodeMicro, decodeMicro, op_mword hop hrest, getLsbD_mword (i := 16) (b := false) hop hrest (by decide) (by simp; omega),
    mbits_mword (lo := 17) (v := l) hop hrest (by omega), mbits_mword (lo := 0) (v := v) hop hrest (by omega), Bool.false_eq_true, if_false]

theorem decodeMicro_setlcReg (l : BitVec 2) (r : BitVec 5) : decodeMicro (encodeMicro (.setlcReg l r)) = .setlcReg l r := by
  have hop : 0x0C < 32 := by decide
  have hrest : l.toNat * 131072 + 65536 + r.toNat < 524288 := by omega
  simp only [encodeMicro, decodeMicro, op_mword hop hrest, getLsbD_mword (i := 16) (b := true) hop hrest (by decide) (by simp; omega),
    mbits_mword (lo := 17) (v := l) hop hrest (by omega), mbits_mword (lo := 0) (v := r) hop hrest (by omega), if_true]

theorem decodeMicro_wait (c : Bool) (e : BitVec 5) : decodeMicro (encodeMicro (.wait c e)) = .wait c e := by
  have hop : 0x10 < 32 := by decide
  have hrest : c.toNat * 262144 + e.toNat * 8192 < 524288 := by have := c.toNat_lt; omega
  simp only [encodeMicro, decodeMicro, op_mword hop hrest, getLsbD_mword (i := 18) (b := c) hop hrest (by decide) (by omega),
    mbits_mword (lo := 13) (v := e) hop hrest (by omega)]

theorem decodeMicro_done (a f : Bool) : decodeMicro (encodeMicro (.done a f)) = .done a f := by
  cases a <;> cases f <;> rfl

/-- R146 to R149: decoding gives back every operation that has a word. -/
theorem decodeMicro_encodeMicro (m : Micro) (h : m.wellFormed = true) : decodeMicro (encodeMicro m) = m := by
  cases m with
  | alu fn rd ra rb => exact decodeMicro_alu rd ra rb (of_decide_eq_true h)
  | addi rd i | ldi rd i | andi rd i | ori rd i | cmpi rd i | jmp c t | call c t | loop l t | inp r q | outp r q | outi q i =>
    exact decodeMicro_pair (by decide) (by omega) (fun w hw => by rw [decodeMicro, hw]; rfl) (by omega) (by omega)
  | ret c | trap c | signal k | halt c =>
    exact decodeMicro_single (by decide) (by omega) (fun w hw => by rw [decodeMicro, hw]; rfl) (by omega)
  | fetch | prefetch | mret => exact decodeMicro_plain (by decide) fun w hw => by rw [decodeMicro, hw]; rfl
  | setlcImm l v => exact decodeMicro_setlcImm l v
  | setlcReg l r => exact decodeMicro_setlcReg l r
  | wait c e => exact decodeMicro_wait c e
  | done a f => exact decodeMicro_done a f
  | reserved w => exact eq_of_beq h

/-! ### Every word has an operation -/

/-- An ALU word carries a function that is not reserved, and a reserved word decodes to itself. -/
theorem decodeMicro_wellFormed (w : W24) : (decodeMicro w).wellFormed = true := by
  cases hm : decodeMicro w with
  | alu fn rd ra rb =>
    have hfn : fn.toNat < 14 := by
      unfold decodeMicro at hm
      split at hm <;> grind
    exact decide_eq_true hfn
  | reserved v =>
    have hv : v = w := by
      unfold decodeMicro at hm
      split at hm <;> grind
    exact beq_iff_eq.mpr (hv ▸ hm)
  | _ => rfl

/-- Settles O5, field by field, and by the two kinds of word that an operation may lack. -/
theorem microwordsRoundTrip : Obligations.MicrowordsRoundTrip := by
  unfold Obligations.MicrowordsRoundTrip
  exact ⟨decodeMicro_encodeMicro, decodeMicro_wellFormed⟩

end Sys2Proof
end

section
/-! PROOFS. The parts of a channel after an update of one of them: the others stand. -/

namespace Sys2Proof.Machine

/-- A command that answers a next state is given by that state. -/
theorem next_congr {s t : State} (h : s = t) : (Host.Outcome.next s : Host.Outcome State Fault Refusal) = .next t :=
  congrArg _ h

/-- A part of a channel that an update of a channel leaves alone. -/
theorem State.part_modChan {α : Type} (part : Chan → α) (s : State) (n m : Ch) {f : Chan → Chan}
    (h : ∀ c, part (f c) = part c := by intro _; rfl) : part ((s.modChan n f).chan m) = part (s.chan m) := by
  by_cases hm : m = n
  · rw [hm, State.chan_modChan_same, h]
  · rw [State.chan_modChan_other _ _ _ _ hm]

section
variable (s : State) (n m : Ch) (p q : Pa)

@[simp] theorem State.modStit_pathSt (f : Stitcher → Stitcher) : (s.modStit n p f).pathSt m q = s.pathSt m q :=
  State.part_modChan (fun c => c.path[q]) s n m

@[simp] theorem State.modStit_path (f : Stitcher → Stitcher) : ((s.modStit n p f).chan m).path = (s.chan m).path :=
  State.part_modChan Chan.path s n m

@[simp] theorem State.modStit_chan_servo (f : Stitcher → Stitcher) : ((s.modStit n p f).chan m).servo = (s.chan m).servo :=
  State.part_modChan Chan.servo s n m

@[simp] theorem State.modStit_chan_sched (f : Stitcher → Stitcher) : ((s.modStit n p f).chan m).sched = (s.chan m).sched :=
  State.part_modChan Chan.sched s n m

@[simp] theorem State.modStit_chan_zt (f : Stitcher → Stitcher) : ((s.modStit n p f).chan m).zt = (s.chan m).zt :=
  State.part_modChan Chan.zt s n m

@[simp] theorem State.modStit_chan_pflt (f : Stitcher → Stitcher) : ((s.modStit n p f).chan m).pflt = (s.chan m).pflt :=
  State.part_modChan Chan.pflt s n m

@[simp] theorem State.modPath_stit (f : PathSt → PathSt) : (s.modPath n p f).stit m q = s.stit m q :=
  State.part_modChan (fun c => c.st[q]) s n m

@[simp] theorem State.modPath_chan_servo (f : PathSt → PathSt) : ((s.modPath n p f).chan m).servo = (s.chan m).servo :=
  State.part_modChan Chan.servo s n m

@[simp] theorem State.modPath_chan_sched (f : PathSt → PathSt) : ((s.modPath n p f).chan m).sched = (s.chan m).sched :=
  State.part_modChan Chan.sched s n m

@[simp] theorem State.modPath_chan_zt (f : PathSt → PathSt) : ((s.modPath n p f).chan m).zt = (s.chan m).zt :=
  State.part_modChan Chan.zt s n m

@[simp] theorem State.modSched_stit (f : Sched → Sched) : (s.modSched n f).stit m q = s.stit m q :=
  State.part_modChan (fun c => c.st[q]) s n m

/-- The Stitcher of another path or channel stands. -/
theorem State.stit_modStit_other (f : Stitcher → Stitcher) (h : m ≠ n ∨ q ≠ p) : (s.modStit n p f).stit m q = s.stit m q := by
  by_cases hm : m = n
  · have hq : (p : Nat) ≠ q := fun e => (h.resolve_left (not_not.mpr hm)) (Fin.ext e.symm)
    simp [State.stit, State.modStit, hm, hq]
  · simp [State.stit, State.modStit, State.chan_modChan_other _ _ _ _ hm]

end

/-- What every step of a pass leaves alone, the pass leaves alone. -/
theorem State.each_keeps {α β : Type} (part : State → β) {f : α → State → State} (hf : ∀ a t, part (f a t) = part t) (l : List α) :
    ∀ s : State, part (s.each l f) = part s := by
  induction l with
  | nil => exact fun _ => rfl
  | cons a l ih => exact fun s => (ih _).trans (hf a s)

@[simp] theorem State.pathSt_modPath (s : State) (n : Ch) (p : Pa) (f g : PathSt → PathSt) :
    (s.modPath n p f).modPath n p g = s.modPath n p fun x => g (f x) := by
  simp [State.modPath, State.modChan]

end Sys2Proof.Machine
end

section
/-! PROOFS. The immediate and loop words, the words that wait, fetch and halt, and the ports (chapter 5). -/

namespace Sys2Proof.Machine

section Words

variable {n : Ch} {p : Pa} {s : State}

/-! ### What the cycle of a word leaves alone -/

@[simp] theorem Stitcher.tick_cur (t : Stitcher) : t.tick.cur = t.cur := by rw [Stitcher.tick_frame]

@[simp] theorem Stitcher.tick_armSlot (t : Stitcher) : t.tick.armSlot = t.armSlot := by rw [Stitcher.tick_frame]

@[simp] theorem wordBy_pathSt (f : Stitcher → Stitcher) (q : Pa) : (wordBy n p s f).pathSt n q = s.pathSt n q :=
  State.modStit_pathSt ..

@[simp] theorem wordBy_fresh (f : Stitcher → Stitcher) : (wordBy n p s f).fresh = s.fresh := rfl

theorem stitchWord_next (f : State → State) (h : Runs n p s) :
    (Host.Outcome.next (stitchWord n p f s) : Host.Outcome State Fault Refusal) = .next (f (wordBy n p s id)) :=
  congrArg _ (stitchWord_eq_wordBy f h)

/-! ### LOOP -/

/-- R147: LOOP counts down unless LC is zero, and jumps while it stays above zero. -/
theorem wordLoop_eq (lc : Fin 4) (target : BitVec 13) :
    wordLoop n p lc target s = s.modStit n p fun x =>
      if x.lc[lc] = 0 then x
      else if x.lc[lc] = 1 then { x with lc := x.lc.set lc 0 }
      else { x with lc := x.lc.set lc (x.lc[lc] - 1), pc := target } := by
  unfold wordLoop
  congr 1
  funext x
  by_cases h0 : x.lc[lc] = 0
  · simp only [h0, if_true]
  · by_cases h1 : x.lc[lc] = 1
    · simp [h1]
    · have hne : x.lc[lc] - 1 ≠ 0 := fun h => h1 (by bv_omega)
      simp only [h0, h1, hne, if_false]

/-! ### WAIT and FETCH -/

theorem clrB_eq_shift {k : Nat} (v : BitVec k) (i : Nat) : clrB v i = v &&& ~~~(1#k <<< i) := by
  have : BitVec.ofNat k (2 ^ i) = 1#k <<< i := by
    apply BitVec.eq_of_toNat_eq
    change _ = (BitVec.twoPow k i).toNat
    rw [BitVec.toNat_twoPow, BitVec.toNat_ofNat]
  rw [clrB, this]

theorem getLsbD_and_not_shift {k : Nat} (v : BitVec k) (i : Nat) : (v &&& ~~~(1#k <<< i)).getLsbD i = false := by
  simp
  omega

/-- R147, R151: WAIT completes on a latched event that CLR does not clear, and else waits at its own word. -/
theorem wordWait_eq (clr : Bool) (ev : Fin 32) :
    wordWait n p clr ev s = s.modStit n p fun x =>
      if clr = false ∧ x.ev.getLsbD ev.val then { x with ev := x.ev &&& ~~~(1#32 <<< ev.val) }
      else { x with ev := x.ev &&& (if clr then ~~~(1#32 <<< ev.val) else BitVec.allOnes 32), mode := .waiting ev, pc := x.pc - 1 } := by
  unfold wordWait
  congr 1
  funext x
  cases clr with
  | true => simp only [if_true, clrB_eq_shift, getLsbD_and_not_shift, Bool.false_eq_true, Bool.true_eq_false, false_and, if_false]
  | false =>
    cases hev : x.ev.getLsbD ev.val <;>
      simp only [hev, Bool.false_eq_true, and_false, and_true, if_true, if_false, clrB_eq_shift, BitVec.and_allOnes]

theorem Stitcher.activeFrame_isSome (t : Stitcher) : t.activeFrame.isSome = (t.frH.active || t.frN.active) := by
  unfold Stitcher.activeFrame
  cases t.frH.active <;> cases t.frN.active <;> rfl

end Words

/-- Settles O9: each word is a change of its own Stitcher. -/
theorem immediateAndLoopWords : Obligations.ImmediateAndLoopWords := by
  unfold Obligations.ImmediateAndLoopWords
  intro n p rd ra imm lc v target s h
  have word (f : Stitcher → Stitcher) : (Host.Outcome.next (stitchWord n p (fun u => u.modStit n p f) s) : Host.Outcome State Fault Refusal) =
      .next (wordBy n p s f) := congrArg _ (stitchWord_modStit f h)
  refine ⟨word _, word _, word _, word _, word _, ?_, word _, word _⟩
  refine (stitchWord_next _ h).trans ?_
  rw [wordLoop_eq, modStit_wordBy]
  rfl

/-- Settles O14: WAIT, FETCH and PREFETCH change their own Stitcher, and HALT halts it with its code. -/
theorem waitAndFetchWords : Obligations.WaitAndFetchWords := by
  unfold Obligations.WaitAndFetchWords
  intro n p clr ev code s h take
  have word (f : Stitcher → Stitcher) : (Host.Outcome.next (stitchWord n p (fun u => u.modStit n p f) s) : Host.Outcome State Fault Refusal) =
      .next (wordBy n p s f) := congrArg _ (stitchWord_modStit f h)
  refine ⟨(stitchWord_next _ h).trans ?_, (word _).trans (congrArg _ (congrArg _ (funext fun x => ?_))), word _, (stitchWord_next _ h).trans ?_⟩
  · rw [wordWait_eq, modStit_wordBy]
    rfl
  · simp only [Stitcher.abandon, Stitcher.activeFrame_isSome]
    generalize (if (x.frH.active || x.frN.active) = true then _ else x : Stitcher) = y
    cases hp : y.prefetch with
    | some d => rfl
    | none => cases hh : y.handed <;> simp [Stitcher.start, take]
  · rw [wordHalt, stitchHalt, modStit_wordBy, BitVec.ofNat_toNat]
    rfl

section Ports

variable {n : Ch} {p : Pa} {s : State}

/-! ### Ports that are read (R152) -/

theorem descDw_eq (d : Desc) (i : Fin 12) : descDw d i.val = d[i] := by
  simp [descDw, Vector.getElem_toList]

theorem ofNat_div_pow (v : W32) (k : Nat) : BitVec.ofNat 16 (v.toNat / 2 ^ k) = (v >>> k).setWidth 16 := by
  apply BitVec.eq_of_toNat_eq
  simp [Nat.shiftRight_eq_div_pow]

/-- The half-dwords of a descriptor, low first. -/
theorem descHalf_low (d : Desc) (i : Fin 12) : descHalf d (2 * i.val) = d[i].setWidth 16 := by
  have hdiv : 2 * i.val / 2 = i.val := by omega
  have hmod : 2 * i.val % 2 = 0 := by omega
  rw [descHalf, hdiv, if_pos hmod, descDw_eq, Nat.div_one, BitVec.ofNat_toNat]

theorem descHalf_high (d : Desc) (i : Fin 12) : descHalf d (2 * i.val + 1) = (d[i] >>> 16).setWidth 16 := by
  have hdiv : (2 * i.val + 1) / 2 = i.val := by omega
  have hmod : ¬(2 * i.val + 1) % 2 = 0 := by omega
  rw [descHalf, hdiv, if_neg hmod, descDw_eq]
  exact ofNat_div_pow _ 16

theorem portNeedsDesc_iff {port : Nat} : portNeedsDesc port = true ↔ port < 24 ∨ (28 ≤ port ∧ port ≤ 30) := by
  simp [portNeedsDesc]

/-- A port that reads the descriptor shows the open value while there is none. -/
theorem portRead_free {port : Nat} (hp : portNeedsDesc port = true) (hc : (s.stit n p).cur = none) (free : W16) :
    portRead n p port free s = free := by
  simp [portRead, hp, hc]

/-- With a descriptor, or on another port, no open value is read. -/
theorem portRead_closed {port : Nat} (h : (s.stit n p).cur ≠ none ∨ portNeedsDesc port = false) (free : W16) :
    portRead n p port free s = portRead n p port 0 s := by
  unfold portRead
  rcases h with h | h
  · cases hc : (s.stit n p).cur with
    | none => exact absurd hc h
    | some d => simp only [hc]
  · simp only [h, Bool.false_eq_true, if_false]

theorem portRead_half {port : Nat} {d : Desc} (hc : (s.stit n p).cur = some d) (hp : port < 24) (free : W16) :
    portRead n p port free s = descHalf d port := by
  have : portNeedsDesc port = true := portNeedsDesc_iff.mpr (.inl hp)
  simp [portRead, this, hc, hp]

/-- The track of the path's own dword, low half. -/
theorem ofNat_descTrack (d : Desc) (p : Pa) : BitVec.ofNat 16 (descTrack d p) = (d[1 + p.val]).setWidth 16 := by
  have hdw : descDw d (1 + p.val) = d[1 + p.val] := descDw_eq d ⟨1 + p.val, by omega⟩
  apply BitVec.eq_of_toNat_eq
  rw [descTrack, bitsOf, hdw, BitVec.toNat_ofNat, BitVec.toNat_setWidth, Nat.shiftRight_zero]
  omega

/-- The surface stands in bits [28:24] of the path's own dword. -/
theorem ofNat_descSurf (d : Desc) (p : Pa) : BitVec.ofNat 16 (descSurf d p) = (d[1 + p.val] >>> 24).setWidth 16 &&& 0x1F := by
  have hdw : descDw d (1 + p.val) = d[1 + p.val] := descDw_eq d ⟨1 + p.val, by omega⟩
  have hmask (x : Nat) : x &&& 0x1F = x % 2 ^ 5 := Nat.and_two_pow_sub_one_eq_mod x 5
  apply BitVec.eq_of_toNat_eq
  rw [descSurf, bitsOf, hdw, BitVec.toNat_ofNat, BitVec.toNat_and, BitVec.toNat_setWidth, BitVec.toNat_ushiftRight]
  change _ = _ &&& 0x1F
  rw [hmask]
  omega

/-- Past the last port, and at the ports that are only written, nothing is read. -/
theorem portRead_reserved {k : Nat} (hk : 46 ≤ k ∨ k ∈ [0x20, 0x21, 0x23, 0x24, 0x26, 0x27]) (free : W16) :
    portRead n p k free s = 0 := by
  rcases hk with hk | hk
  · obtain ⟨j, rfl⟩ : ∃ j, k = j + 46 := ⟨k - 46, by omega⟩
    have : portNeedsDesc (j + 46) = false := by simp [portNeedsDesc]
    simp only [portRead, this, Bool.false_eq_true, if_false]
  · fin_cases hk <;> rfl

/-- IN takes one cycle, and uses up an open value where it read one. -/
theorem wordIn_free {r : Fin 32} {port : Byte} (hc : (s.stit n p).cur = none) (hp : portNeedsDesc port.toNat = true) :
    wordIn n p r port s = s.used.modStit n p fun t => t.setReg r (s.fresh.setWidth 16) := by
  simp [wordIn, hc, hp, portRead_free hp hc]

theorem wordIn_closed {r : Fin 32} {port : Byte} (h : (s.stit n p).cur ≠ none ∨ portNeedsDesc port.toNat = false) :
    wordIn n p r port s = s.modStit n p fun t => t.setReg r (portRead n p port.toNat 0 s) := by
  have : (portNeedsDesc port.toNat && (s.stit n p).cur.isNone) = false := by
    rcases h with h | h
    · simp [Option.isNone_eq_false_iff, Option.isSome_iff_ne_none.mpr h]
    · simp [h]
  simp only [wordIn, this, Bool.false_eq_true, if_false, portRead_closed h]

end Ports

/-- Settles O11: the cycle of the word leaves the descriptor, and each port shows its part of the state. -/
theorem portReads : Obligations.PortReads := by
  unfold Obligations.PortReads
  intro n p r port s h w x desc
  have hcur : (w.stit n p).cur = (s.stit n p).cur := by simp [w]
  refine ⟨fun hc hd => ?_, fun hc => ?_, fun d hc => ⟨fun i => ⟨?_, ?_⟩, ?_, ?_⟩, rfl, rfl, ?_, rfl, rfl, rfl, fun k hk => ?_⟩
  · refine (stitchWord_next _ h).trans (congrArg _ ?_)
    rw [wordIn_free (hcur.trans hc) (portNeedsDesc_iff.mpr hd)]
    rfl
  · refine (stitchWord_next _ h).trans (congrArg _ (wordIn_closed (hc.imp (hcur ▸ ·) fun hd => ?_)))
    exact Bool.eq_false_iff.mpr (mt portNeedsDesc_iff.mp hd)
  · rw [portRead_half hc (by omega), descHalf_low]
  · rw [portRead_half hc (by omega), descHalf_high]
  · rw [← ofNat_descTrack]
    simp [portRead, portNeedsDesc, show (w.stit n p).cur = some d from hc]
  · rw [← ofNat_descSurf]
    simp [portRead, portNeedsDesc, show (w.stit n p).cur = some d from hc]
  · rw [Nat.mul_comm]
    rfl
  · exact portRead_reserved hk 0

end Sys2Proof.Machine
end

section
/-! PROOFS. The ports that are written, and the path actions that they start (chapters 3 to 5). -/

namespace Sys2Proof.Machine

section Ports

variable {n : Ch} {p : Pa} {v : W16} {s : State}

/-! ### Ports that are written (R152) -/

/-- A port outside 0x20 to 0x28, and one of these that is only read, takes no write. -/
theorem portWrite_readOnly {k : Nat} (h : k < 32 ∨ k = 0x22 ∨ k = 0x25 ∨ 41 ≤ k) : portWrite n p k v s = s := by
  unfold portWrite
  split <;> first | omega | rfl

/-- A value outside the six actions arms nothing. -/
theorem portWrite_noAction (h : 6 ≤ v.toNat) : portWrite n p 0x21 v s = s :=
  dif_neg (Nat.not_lt.mpr h)

end Ports

/-- Settles O12: a write acts after the cycle, by the table of the ports. -/
theorem portWrites : Obligations.PortWrites := by
  unfold Obligations.PortWrites
  intro n p r port imm v b s h w
  have word (f : State → State) : (Host.Outcome.next (stitchWord n p f s) : Host.Outcome State Fault Refusal) = .next (f w) :=
    stitchWord_next f h
  refine ⟨word _, word _, word _, word _, word _, word _, word _, word _, word _, word _, ?_, ?_, word _, fun u =>
    ⟨rfl, rfl, fun k hk => portWrite_readOnly hk, portWrite_noAction, fun h1 => ⟨if_neg h1, if_neg h1⟩, fun h1 h3 => ?_, fun h0 h1 => ?_⟩⟩
  · cases b <;> exact word _
  · cases b <;> exact word _
  · exact (if_neg h1).trans (if_neg h3)
  · exact (if_neg h1).trans (if_neg h0)

section Arming

variable {n : Ch} {p : Pa} {s : State}

/-! ### Arming (R153, R154) -/

/-- An action replaces what is armed and has not begun. -/
theorem armAction_arm {act : Fin 6} (hact : act ≠ 0) {d : Desc} (hc : (s.stit n p).cur = some d)
    (hb : ∀ a, (s.pathSt n p).arm = some a → a.begun = false) :
    armAction n p act s = s.modPath n p fun q => { q with
      arm := some ⟨act, (s.stit n p).armSlot.toNat, (armParts n d act (s.stit n p).armSlot.toNat s).1,
        (armParts n d act (s.stit n p).armSlot.toNat s).2, 0, false, false, false, none⟩ } := by
  cases harm : (s.pathSt n p).arm with
  | none => simp only [armAction, harm, hact, hc, Bool.false_eq_true, if_false]
  | some a => simp only [armAction, harm, hact, hc, hb a harm, Bool.false_eq_true, if_false]

/-- An action that comes after the first part has begun is late. -/
theorem armAction_late {act : Fin 6} (hact : act ≠ 0) {a : Arm} (harm : (s.pathSt n p).arm = some a) (hb : a.begun = true) :
    armAction n p act s = (s.modStit n p fun x => { x with lateAct := BitVec.ofNat 16 act }).event n p 10 := by
  simp only [armAction, harm, hact, hb, if_true, if_false]

theorem armAction_cancel {a : Arm} (harm : (s.pathSt n p).arm = some a) :
    armAction n p 0 s = if a.isOpen && a.act != 4 then s.modPath n p fun q => { q with arm := some { a with left := 0 } } else cancelRest n p a s := by
  simp only [armAction, harm, if_true]

/-- The six words that arm, with their actions. -/
theorem exec_arm (h : Runs n p s) {c : Fin 6 × Instr}
    (hc : c ∈ [((1 : Fin 6), Instr.armCapture n p), (2, .armWrite n p), (3, .armVerify n p), (4, .armScan n p), (5, .armRaw n p)]) :
    c.1 ≠ 0 ∧ exec c.2 s = .next (armAction n p c.1 (wordBy n p s id)) := by
  simp only [List.mem_cons, List.not_mem_nil, or_false] at hc
  rcases hc with rfl | rfl | rfl | rfl | rfl <;> exact ⟨by simp, stitchWord_next _ h⟩

/-! ### CANCEL (R133, R153) -/

/-- The rest of a torn write ends with its result. -/
theorem cancelRest_torn {a : Arm} (ha : a.act = 2) (hb : a.begun = true) :
    cancelRest n p a s = writeResult n p 0x18 true (s.event n p 9) := by
  simp [cancelRest, ha, hb]

/-- An action that has not begun, and a scan, leave no sample buffer to free. -/
theorem cancelRest_unbegun {a : Arm} (h : a.begun = false ∨ a.act = 4) :
    cancelRest n p a s = s.modPath n p fun q => { q with arm := none, cap := Capturing.none } := by
  rcases h with h | h <;> simp [cancelRest, h]

/-- A capture that has begun gives its sample buffer back. -/
theorem cancelRest_capture {a : Arm} (hb : a.begun = true) (h2 : a.act ≠ 2) (h4 : a.act ≠ 4) :
    cancelRest n p a s = freeBuffer n p (s.modPath n p fun q => { q with arm := none, cap := Capturing.none }) := by
  have h4' : (a.act != 4) = true := bne_iff_ne.mpr h4
  simp [cancelRest, hb, h2, h4']

theorem armCommit_pending {a : Arm} (harm : (s.pathSt n p).arm = some a) (ha : a.act = 2) (hl : 0 < a.left) :
    armCommit n p s = s.modPath n p fun q => { q with arm := some { a with commit := true } } := by
  simp [armCommit, harm, ha, hl]

theorem modPath_congr {f g : PathSt → PathSt} (h : f (s.pathSt n p) = g (s.pathSt n p)) : s.modPath n p f = s.modPath n p g := by
  have : f (s.chans[n]).path[p] = g (s.chans[n]).path[p] := h
  simp only [State.modPath, State.modChan, this]

theorem startWfifo_room (hf : (s.pathSt n p).wfFetch = false) (hr : (s.pathSt n p).fifo.length < 2) :
    startWfifo n p s = s.modPath n p fun q => { q with wfFetch := true } :=
  modPath_congr (by simp [hf, Nat.not_le.mpr hr])

/-! ### Preamplifier and front end (R80, R121, R122) -/

/-- A head that is selected already, with its table in use, stays. -/
theorem selectHead_same {h : Nat} (hh : (s.pathSt n p).head = some h) (hw : ((s.chan n).servo.work[p]).isSome = true) :
    selectHead n p h s = s :=
  if_pos ⟨hh, hw⟩

theorem sendPaCmd_same {d : Desc} {b : Bool} (hc : (s.stit n p).cur = some d) (hh : (s.pathSt n p).head = some (descSurf d p))
    (hw : ((s.chan n).servo.work[p]).isSome = true)
    (hz : ∀ z, (s.pathSt n p).zone = some z → (s.pathSt n p).loaded = some (descSurf d p, z)) :
    sendPaCmd n p b s =
      let fs := headFrame (descSurf d p) :: if b then settingFrames (s.chan n) (descSurf d p) (descZone d) else []
      (s.modPath n p fun q => { q with pa := q.pa ++ fs }).modChan n fun c => { c with frames := fs } := by
  simp only [sendPaCmd, hc, selectHead_same hh hw]
  cases hzone : (s.pathSt n p).zone with
  | none => rfl
  | some z =>
    have : ((s.pathSt n p).loaded != some (descSurf d p, z)) = false := by simp [hz z hzone]
    simp only [this, State.when_false]

theorem settingFrames_word (f : Stitcher → Stitcher) (h z : Nat) :
    settingFrames ((wordBy n p s f).chan n) h z = settingFrames (s.chan n) h z := by
  simp only [settingFrames, wordBy, State.modStit_chan_zt]

theorem setFrontEnd_up {d : Desc} (hc : (s.stit n p).cur = some d) :
    setFrontEnd n p true s =
      let same := (s.pathSt n p).zone == some (descZone d)
      ((s.modPath n p fun q => { q with fePower := true, zone := some (descZone d), zoneOk := q.zoneOk && same }).when (!same)
        (loadZone n p (descZone d))).when ((s.pathSt n p).loaded != some (descSurf d p, descZone d)) (loadCoefs n p (descSurf d p) (descZone d)) := by
  simp only [setFrontEnd, hc]
  rfl

@[simp] theorem loadRws_pathSt (f : Fld) (v : Nat) (q : Pa) : (loadRws f v s).pathSt n q = s.pathSt n q := rfl

/-- The zone defaults go to registers. -/
@[simp] theorem loadZone_pathSt (z : Nat) : (loadZone n p z s).pathSt n p = s.pathSt n p := by
  unfold loadZone
  split <;> simp only [loadRws_pathSt]

/-- The coefficients go to registers, and the path notes for which head and zone. -/
theorem loadCoefs_pathSt (h z : Nat) : (loadCoefs n p h z s).pathSt n p = { s.pathSt n p with loaded := some (h, z) } := by
  refine (State.each_keeps (·.pathSt n p) (fun _ _ => loadRws_pathSt ..) _ _).trans ?_
  rw [State.pathSt_modPath_same]

end Arming

/-- Settles O13: each action acts after the cycle of its word, on the path as it stood. -/
theorem pathActions : Obligations.PathActions := by
  unfold Obligations.PathActions
  intro n p s h w slot arm
  have word (f : State → State) : (Host.Outcome.next (stitchWord n p f s) : Host.Outcome State Fault Refusal) = .next (f w) :=
    stitchWord_next f h
  have hcur : (w.stit n p).cur = (s.stit n p).cur := by simp [w]
  have hpath : w.pathSt n p = s.pathSt n p := by simp [w]
  have harm : (w.pathSt n p).arm = arm := congrArg _ hpath
  refine ⟨fun d hc hb c hmem => ?_, fun a ha hb c hmem => ?_, fun ha => ?_, fun a ha => ⟨fun ho h4 => ?_, fun hub => ?_, fun hb ho h2 => ?_, fun hb ho h2 h4 => ?_⟩,
    fun a ha h2 hl => ?_, fun hf hr => ?_, fun d b hc hh hw hz => ?_, fun d hc hz hl => ?_, fun d hc hz => ?_, word _⟩
  · obtain ⟨hact, he⟩ := exec_arm h hmem
    rw [he, armAction_arm hact (hcur.trans hc) (harm ▸ hb)]
  · obtain ⟨hact, he⟩ := exec_arm h hmem
    rw [he, armAction_late hact (harm.trans ha) hb]
  · refine (word _).trans (congrArg _ ?_)
    simp only [armAction, harm, ha, if_true]
  · refine (word _).trans (congrArg _ ((armAction_cancel (harm.trans ha)).trans (if_pos ?_)))
    simp [ho, h4]
  · refine (word _).trans (congrArg _ ((armAction_cancel (harm.trans ha)).trans ((if_neg ?_).trans (cancelRest_unbegun (hub.imp And.left id)))))
    rcases hub with ⟨_, ho⟩ | h4
    · simp [ho]
    · simp [h4]
  · refine (word _).trans (congrArg _ ((armAction_cancel (harm.trans ha)).trans ((if_neg ?_).trans (cancelRest_torn h2 hb))))
    simp [ho]
  · refine (word _).trans (congrArg _ ((armAction_cancel (harm.trans ha)).trans ((if_neg ?_).trans (cancelRest_capture hb h2 h4))))
    simp [ho]
  · exact (word _).trans (congrArg _ (armCommit_pending (harm.trans ha) h2 hl))
  · exact (word _).trans (congrArg _ (startWfifo_room (hpath ▸ hf) (hpath ▸ hr)))
  · intro fs
    have hwork : ((w.chan n).servo.work[p]).isSome = true := by simpa [w, wordBy] using hw
    refine (word _).trans (congrArg _ ((sendPaCmd_same (hcur.trans hc) (hpath ▸ hh) hwork (hpath ▸ hz)).trans ?_))
    simp only [w, settingFrames_word]
    rfl
  · refine (word _).trans (congrArg _ ((setFrontEnd_up (hcur.trans hc)).trans ?_))
    rw [hpath, hz, hl]
    simp only [beq_self_eq_true, Bool.and_true, Bool.not_true, bne_self_eq_false, State.when_false]
    exact modPath_congr (by rw [hpath, hz])
  · refine ⟨_, (word _).trans (congrArg _ (setFrontEnd_up (hcur.trans hc))), ?_⟩
    have hne : ((s.pathSt n p).zone == some (descZone d)) = false := by simpa using hz
    rw [hpath, hne]
    cases hl : ((s.pathSt n p).loaded != some (descSurf d p, descZone d)) <;> simp [loadCoefs_pathSt]

end Sys2Proof.Machine
end

section
/-! PROOFS. DONE, MRET, TRAP, SIGNAL and the reserved words; the control store, STEP and aborts (chapter 5). -/

namespace Sys2Proof.Machine

/-! ### A change of one channel -/

theorem OnlyChan.refl (n : Ch) (s : State) : OnlyChan n s s := ⟨rfl, fun _ _ => rfl⟩

theorem OnlyChan.trans {n : Ch} {s t u : State} (h : OnlyChan n s t) (k : OnlyChan n t u) : OnlyChan n s u := by
  obtain ⟨hs, hm⟩ := h
  obtain ⟨ks, km⟩ := k
  refine ⟨?_, fun m hne => (km m hne).trans (hm m hne)⟩
  rw [ks, hs]

theorem onlyChan_modChan (n : Ch) (f : Chan → Chan) (s : State) : OnlyChan n s (s.modChan n f) :=
  ⟨rfl, fun m hm => State.chan_modChan_other s n m f hm⟩

theorem onlyChan_each {α : Type} {n : Ch} {f : α → State → State} (hf : ∀ a t, OnlyChan n t (f a t)) (l : List α) :
    ∀ s, OnlyChan n s (s.each l f) := by
  induction l with
  | nil => exact OnlyChan.refl n
  | cons a l ih => exact fun s => (hf a s).trans (ih _)

/-- A pass over paths that changes the Stitcher of some of them, each on its own. -/
theorem stit_eachStit {n : Ch} (c : Pa → Prop) [DecidablePred c] (f : Pa → Stitcher → Stitcher) (r : Pa) {l : List Pa} (hl : l.Nodup) (s : State) :
    (s.each l fun q u => if c q then u.modStit n q (f q) else u).stit n r = if r ∈ l ∧ c r then f r (s.stit n r) else s.stit n r := by
  induction l generalizing s with
  | nil => simp
  | cons a l ih =>
    obtain ⟨ha, hl⟩ := List.nodup_cons.mp hl
    rw [State.each_cons, ih hl]
    by_cases hra : r = a
    · subst hra
      by_cases hc : c r <;> simp [ha, hc]
    · have hstit : (if c a then s.modStit n a (f a) else s).stit n r = s.stit n r := by
        split_ifs
        · exact State.stit_modStit_other _ _ _ _ _ _ (.inr hra)
        · rfl
      simp [hstit, hra]

theorem onlyChan_eachStit {n : Ch} (c : Pa → Prop) [DecidablePred c] (f : Pa → Stitcher → Stitcher) (l : List Pa) (s : State) :
    OnlyChan n s (s.each l fun q u => if c q then u.modStit n q (f q) else u) :=
  onlyChan_each (fun a t => by
    split_ifs
    · exact onlyChan_modChan ..
    · exact OnlyChan.refl n t) l s

theorem mem_allPaths (p : Pa) : p ∈ allPaths := by fin_cases p <;> decide

theorem nodup_allPaths : allPaths.Nodup := by decide

section Words

variable {n : Ch} {p : Pa} {s : State}

theorem modStit_congr {f g : Stitcher → Stitcher} (h : f (s.stit n p) = g (s.stit n p)) : s.modStit n p f = s.modStit n p g := by
  have : f (s.chans[n]).st[p] = g (s.chans[n]).st[p] := h
  simp only [State.modStit, State.modChan, this]

/-! ### DONE, MRET, TRAP -/

theorem wordDone_item {abt fin : Bool} {d : Desc} (hc : (s.stit n p).cur = some d) :
    wordDone n p abt fin s =
      (((s.modSched n fun c => { c with ring := modItem (descTag d) (fun i =>
        { i with res := i.res.set p (some (doneWord (s.stit n p))), ended := i.ended.set p (i.ended[p] || fin), abt := i.abt.set p (i.abt[p] || abt) }) c.ring }).when
        fin (holdHead n p)).modStit n p fun x =>
        { x with lastAbt := abt, abtRes := if abt then BitVec.ofNat 20 (doneWord (s.stit n p)) else x.abtRes, cur := if fin then none else x.cur, wd := if fin then 0 else x.wd }) := by
  cases fin <;> simp only [wordDone, hc, Option.isSome_some, Bool.and_true, Bool.false_eq_true, if_true, if_false]

/-- R164: MRET returns from the active level, H before N. -/
theorem wordMret_active {f : Frame} (hf : f = if (s.stit n p).frH.active then (s.stit n p).frH else (s.stit n p).frN) (ha : f.active = true) :
    wordMret n p s = s.modStit n p fun x =>
      { x.tick with z := f.z, n := f.n, c := f.c, pc := f.rpc, stack := x.tick.stack.drop (x.tick.stack.length - f.sp),
                    frH := if x.tick.frH.active then Frame.none else x.tick.frH, frN := if x.tick.frH.active then x.tick.frN else Frame.none } := by
  subst hf
  apply modStit_congr
  cases hH : (s.stit n p).frH.active with
  | true => simp [hH, Stitcher.unwind]
  | false =>
    rw [hH] at ha
    have hN : (s.stit n p).frN.active = true := ha
    simp [hH, hN, Stitcher.unwind]

theorem wordTrap_free (code : BitVec 4) (hH : (s.stit n p).frH.active = false) (hN : (s.stit n p).frN.active = false) :
    wordTrap n p code s = s.modStit n p fun t => { t with tpend := setB t.tpend 15, softData := code.zeroExtend 16 } := by
  simp [wordTrap, Stitcher.activeFrame, hH, hN]

theorem wordTrap_within (code : BitVec 4) (hN : (s.stit n p).frN.active = true) :
    wordTrap n p code s = errTrap n p 2 (wordAddr (s.stit n p)) s := by
  simp only [wordTrap, Stitcher.activeFrame_isSome, hN, Bool.or_true, if_true]

end Words

/-- Settles O15: DONE, MRET, TRAP and the reserved words act after the cycle; SIGNAL goes over the other paths. -/
theorem doneTrapSignalWords : Obligations.DoneTrapSignalWords := by
  unfold Obligations.DoneTrapSignalWords
  intro n p abt fin code mask wd s h w y res ill
  have word (f : State → State) : (Host.Outcome.next (stitchWord n p f s) : Host.Outcome State Fault Refusal) = .next (f w) :=
    stitchWord_next f h
  have hcur : (w.stit n p).cur = (s.stit n p).cur := by simp [w]
  have hfrH : y.frH = (s.stit n p).frH := by simp [y, w]
  refine ⟨fun d hc => (word _).trans (congrArg _ (wordDone_item (hcur.trans hc))), fun f hf ha => (word _).trans (congrArg _ ?_),
    fun hH hN => ?_, fun hH hN => ?_, ⟨_, word _, ?_, ?_, fun q hq => ?_⟩, fun v hv hH => ?_, fun v hv hH => ?_⟩
  · rw [wordMret_active hf ha, modStit_wordBy]
    simp only [id]
  · refine (word _).trans (congrArg _ ((wordTrap_free code hH hN).trans ?_))
    rw [modStit_wordBy]
    rfl
  · refine (word _).trans (congrArg _ ((wordTrap_within code hN).trans ?_))
    exact errTrap_wordBy (hfrH ▸ hH) 2
  · exact (onlyChan_modChan ..).trans (onlyChan_eachStit ..)
  · rw [wordSignal, stit_eachStit _ _ _ nodup_allPaths]
    simp [y]
  · have hstit : w.stit n q = s.stit n q := State.stit_modStit_other _ _ _ _ _ _ (.inr hq)
    rw [wordSignal, stit_eachStit _ _ _ nodup_allPaths, hstit]
    simp only [mem_allPaths, hq, ne_eq, not_false_eq_true, true_and]
    rfl
  · refine (word _).trans (congrArg _ ?_)
    rw [hv]
    exact errTrap_wordBy (hfrH ▸ hH) 2
  · refine (word _).trans (congrArg _ ?_)
    rw [hv]
    exact if_pos hH

section Store

variable {n : Ch} {p : Pa} {s : State}

/-! ### The control store (R175 to R178) -/

/-- R177: what a base segment must be for no reason to reject it. -/
theorem baseReject_none_iff {g : Segment} :
    baseReject g = none ↔ g.magic = 0x5C1D0E08 ∧ g.type = 1 ∧ g.key = 0 ∧ g.sigOk = true ∧ g.hashOk = true ∧ g.start = 0 ∧
      0x111 ≤ g.count ∧ g.count ≤ 8192 := by
  unfold baseReject
  split_ifs with h1 h2 h3 h4
  · simp only [false_iff]
    tauto
  · simp only [false_iff]
    simp_all
  · simp only [false_iff]
    simp_all
  · simp only [false_iff]
    omega
  · simp_all

theorem storeLoad_powered {segs : List Segment} (hen : s.flag (F.PAGE_ENABLE_EN n) = false) (hd : detPowered n s = true) :
    storeLoad n segs s = loadSegs n 0 true segs s := by
  simp only [storeLoad, hen, hd, Bool.false_eq_true, if_false, if_true]

theorem loadSegs_rejected {g : Segment} {r : List Segment} {c i : Nat} (hm : g.chanMask.testBit n.val = true) (hc : baseReject g = some c) :
    loadSegs n i true (g :: r) s = rejectLoad n c i s := by
  simp [loadSegs, hm, hc]

/-- A good base segment clears the store, and its words stand there from address 0. -/
theorem loadSegs_base {g : Segment} {i : Nat} (hm : g.chanMask.testBit n.val = true) (hc : baseReject g = none) (hr : g.readBack = true) :
    loadSegs n i true [g] s =
      (setVersion n g.baseVer true ({ s with store := s.store.set n (NatMap.empty.setMany 0 g.words) } : State)).set (F.STITCH_LOADSTAT_CODE n) 0 := by
  obtain ⟨-, -, -, -, -, hstart, -, -⟩ := baseReject_none_iff.mp hc
  simp [loadSegs, hm, hc, hr, putWords, hstart]

/-! ### Window writes and STEP (R178, R180, R181) -/

/-- A word is stored, and a flipped bit that it had is gone, while no flip is armed. -/
theorem memWrite_unarmed {m word : Nat} (h : s.flag F.MEMPROT_FLIPCTL_ARM = false) :
    memWrite m word s = s.modMem fun x => { x with flips := x.flips.filter fun f => !(f.1 == m && f.2.1 == word) } := by
  simp only [memWrite, h, Bool.false_and, Bool.false_eq_true, if_false]

theorem flag_flipArm_putStore {k v : Nat} : (putStore n k v s).flag F.MEMPROT_FLIPCTL_ARM = s.flag F.MEMPROT_FLIPCTL_ARM := by
  refine State.flag_setFlag_other _ _ _ _ ?_
  simp only [Fld.key, F.MEMPROT_FLIPCTL_ARM, F.STITCH_VERSION_AUTH, chBase]
  omega

theorem sramStore_store {w v : Nat} (h : s.flag F.MEMPROT_FLIPCTL_ARM = false) :
    sramStore (0x20 * n.val) w v s =
      (putStore n w v s).modMem fun x => { x with flips := x.flips.filter fun f => !(f.1 == 0x20 * n.val && f.2.1 == w) } := by
  have hmac : 0x20 * n.val ≠ 0x114 := by omega
  have hdiv : Fin.ofNat 8 (0x20 * n.val / 0x20) = n := by
    rw [Nat.mul_div_cancel_left _ (by decide)]
    exact Fin.ofNat_val_eq_self n
  simp only [sramStore, hmac, if_false, hdiv, Nat.mul_mod_right, if_true]
  exact memWrite_unarmed (flag_flipArm_putStore.trans h)

theorem takeTraps_none (h : (s.stit n p).nextTrap = none) (f : Nat) : takeTraps n p f s = s := by
  cases f with
  | zero => rfl
  | succ f => simp only [takeTraps, h]

/-- STEP of one halted Stitcher that runs, with no trap due. -/
theorem stepMask_single (hr : (s.stit n p).mode = .running) (hh : s.bit (F.STITCH_CTL_HALT n) p.val = true)
    (ht : ∀ v < 16, (s.stit n p).mayTake v = false) :
    stepMask n (BitVec.ofNat 4 (2 ^ p.val)).toNat s = stepFetch n p s := by
  have hnext : (s.stit n p).nextTrap = none := List.find?_eq_none.mpr fun v hv => by simp [ht v (List.mem_range.mp hv)]
  have hmask : (allPaths.filter fun q => (BitVec.ofNat 4 (2 ^ p.val)).toNat.testBit q.val) = [p] := by
    fin_cases p <;> decide
  rw [stepMask, hmask]
  simp [heldByHalt, hh, hr, takeTraps_none hnext, Stitcher.executing]

theorem stepFetch_sound (h : flipCount (0x20 * n.val) ((s.stit n p).pc.toNat / 2) s = 0) :
    stepFetch n p s = wordMicro n p (decodeMicro (storeWord n (s.stit n p).pc s)) (wordBy n p s id) := by
  simp only [stepFetch, h]
  rfl

/-! ### Aborts (R172) -/

/-- Whether the current descriptor of a Stitcher carries a tag. -/
def Stitcher.runsTag (tag : W16) (t : Stitcher) : Bool := match t.cur with | some d => descTag d == tag | none => false

/-- What an abort of a tag does to a Stitcher. -/
def Stitcher.abort (tag : W16) (t : Stitcher) : Stitcher :=
  if t.runsTag tag then (if t.ev.getLsbD 15 then t else { t with abtTag := tag }.latch 15)
  else { t with prefetch := (match t.prefetch with | some d => if descTag d = tag then none else some d | none => none),
                handed := t.handed.filter fun d => descTag d != tag }

/-- R172: event ABORT where the descriptor is current, else the descriptor is withdrawn. -/
theorem Stitcher.abort_eq (tag : W16) (t : Stitcher) :
    t.abort tag =
      if (t.cur.any fun d => descTag d == tag) then (if t.ev.getLsbD 15 then t else { t with abtTag := tag }.latch 15)
      else { t with prefetch := t.prefetch.filter fun d => descTag d != tag, handed := t.handed.filter fun d => descTag d != tag } := by
  have hcur : t.runsTag tag = t.cur.any fun d => descTag d == tag := by
    unfold Stitcher.runsTag
    cases t.cur <;> rfl
  rw [Stitcher.abort, hcur]
  cases t.prefetch with
  | none => rfl
  | some d => by_cases h : descTag d = tag <;> simp [Option.filter, h]

/-- An abort is a pass over the paths; where no path has the item it leaves the ring as well. -/
theorem abortTag_eq (tag : W16) :
    abortTag n tag s =
      let t := s.each allPaths fun q u => if True then u.modStit n q (Stitcher.abort tag) else u
      if allPaths.any fun q => (s.stit n q).runsTag tag then t
      else t.modSched n fun c => { c with ring := c.ring.filter fun i => descTag i.desc != tag } :=
  rfl

theorem onlyChan_abortTag (tag : W16) : OnlyChan n s (abortTag n tag s) := by
  rw [abortTag_eq]
  have hpass := onlyChan_eachStit (n := n) (fun _ => True) (fun _ => Stitcher.abort tag) allPaths s
  dsimp only
  split_ifs
  · exact hpass
  · exact hpass.trans (onlyChan_modChan ..)

theorem stit_abortTag (tag : W16) (q : Pa) : (abortTag n tag s).stit n q = (s.stit n q).abort tag := by
  have hpass := stit_eachStit (n := n) (fun _ => True) (fun _ => Stitcher.abort tag) q nodup_allPaths s
  rw [if_pos ⟨mem_allPaths q, trivial⟩] at hpass
  rw [abortTag_eq]
  dsimp only
  split_ifs
  · exact hpass
  · exact (State.modSched_stit ..).trans hpass

end Store

/-- Settles O17, by the cases of a load, and by what a window write, STEP and an abort each do. -/
theorem storeAndAbort : Obligations.StoreAndAbort := by
  unfold Obligations.StoreAndAbort
  intro n p tag g segs path w v mask s
  refine ⟨fun hen => ?_, baseReject_none_iff, fun hen hd => ?_, fun hen hd hm => ⟨fun c hc => ?_, fun hc hr => ?_⟩, ?_, ?_, ?_⟩
  · exact congrArg _ (if_pos hen)
  · exact congrArg _ ((if_neg (by simp [hen])).trans (if_neg (by simp [hd])))
  · refine congrArg _ ((storeLoad_powered hen hd).trans ((loadSegs_rejected hm hc).trans ?_))
    simp [rejectLoad]
  · exact congrArg _ ((storeLoad_powered hen hd).trans (loadSegs_base hm hc hr))
  · intro a u hreach hmay
    have hexec : exec (.storeWindowWrite path n w v) s =
        .next (lockedWrite path a (s.flag (F.PAGE_ENABLE_EN n)) (sramStore (0x20 * n.val) w.toNat v.toNat) s) := rfl
    refine ⟨fun hen => ?_, fun hen harm => ?_⟩
    · rw [hexec, hen, lockedWrite_held hreach]
    · rw [hexec, hen, lockedWrite_open hreach hmay, sramStore_store harm]
      rfl
  · intro hreach
    have hhalt : exec (.stitchCtlHaltWrite path n mask) s = .next (lockedWrite path (chBase n + 0x100008) (s.flag (F.PAGE_ENABLE_EN n))
        (fun t => t.set (F.STITCH_CTL_HALT n) mask.toNat) s) := rfl
    have hstep : exec (.stitchCtlStep n (BitVec.ofNat 4 (2 ^ p.val))) s =
        .next (arbWrite (chBase n + 0x100008) (stepMask n (BitVec.ofNat 4 (2 ^ p.val)).toNat) s) := rfl
    refine ⟨fun hmay hen => ?_, ?_⟩
    · rw [hhalt, hen, lockedWrite_open hreach hmay]
    · intro u hr hh ht hf
      rw [hstep, arbWrite_reached hreach, stepMask_single hr hh ht, stepFetch_sound hf]
  · exact ⟨_, rfl, onlyChan_abortTag tag, fun q => (stit_abortTag tag q).trans (Stitcher.abort_eq ..)⟩

end Sys2Proof.Machine
end

section
/-! PROOFS. Ream (chapter 15): references of buffers, and pools. -/

namespace Sys2Proof.Machine

section References

variable {h w id dst refs : Nat} {s : State}

/-! ### Control words (R479, R480) -/

/-- A control word with a reference left is stored. -/
theorem putCtl_live {owned : Bool} {owner : Nat} (hr : refs ≠ 0) :
    putCtl h refs owned owner s = s.modReam fun r => { r with err := false, ctl := r.ctl.set h (mkCtl refs owned owner) } := by
  simp only [putCtl, hr, if_false]

/-- The last reference returns the buffer to its pool, unless its pseudo-channel has failed (R18). -/
theorem putCtl_last (owned : Bool) (owner : Nat) :
    putCtl h 0 owned owner s = poolSync (handlePool h) ((s.modReam fun r => { r with err := false, ctl := r.ctl.set h 0 }).modPool (handlePool h)
      fun p => if indexOk (handlePool h) s (handleIdx h) then { p with chip := p.chip ++ [handleIdx h] } else p) :=
  rfl

theorem share_live (hc : handleCtl h s = some w) (hr : ctlRefs w < 255) :
    share id h s = putCtl h (ctlRefs w + 1) (ctlOwned w) (ctlOwner w) s := by
  simp only [share, hc, Nat.ne_of_lt hr, if_false]

theorem release_live (hc : handleCtl h s = some w) (hr : (ctlOwned w).toNat < ctlRefs w) :
    release id h s = putCtl h (ctlRefs w - 1) (ctlOwned w) (ctlOwner w) s := by
  simp only [release, hc, hr, if_true]

theorem freeBuf_owner (hc : handleCtl h s = some w) (ho : ctlOwned w = true) (hi : ctlOwner w = id) :
    freeBuf id h s = putCtl h (ctlRefs w - 1) false (ctlOwner w) s := by
  simp [freeBuf, hc, ho, hi]

theorem give_owner (hc : handleCtl h s = some w) (ho : ctlOwned w = true) (hi : ctlOwner w = id) :
    give id h dst s = putCtl h (ctlRefs w) true dst s := by
  simp [give, hc, ho, hi]

/-- R479: a requester that is not the owner may neither free nor give. -/
theorem freeBuf_other (hc : handleCtl h s = some w) (ho : ctlOwned w = false ∨ ctlOwner w ≠ id) : freeBuf id h s = violate 3 id h s := by
  rcases ho with ho | ho <;> simp [freeBuf, hc, ho]

theorem give_other (hc : handleCtl h s = some w) (ho : ctlOwned w = false ∨ ctlOwner w ≠ id) : give id h dst s = violate 4 id h s := by
  rcases ho with ho | ho <;> simp [give, hc, ho]

/-- R487: a buffer that a channel owns is freed as its owner would. -/
theorem dropBuf_owned (hc : handleCtl h s = some w) (ho : ctlOwned w = true) (hi : ctlOwner w = id) : dropBuf h s = freeBuf id h s := by
  rw [freeBuf_owner hc ho hi]
  simp only [dropBuf, hc, ho, if_true]

end References

/-- Settles O18, by what each operation does with the control word of the handle. -/
theorem reamReferences : Obligations.ReamReferences := by
  unfold Obligations.ReamReferences
  intro id dst h w n s put i freed viol
  refine ⟨fun hc hr => ?_, fun hc hr => ?_, fun hc ho hi => ⟨?_, fun hr => ?_⟩, fun hc => ?_, fun hc ho => ?_, fun hn => ?_, fun hcells hc hid => ?_⟩
  · exact next_congr ((share_live hc hr).trans (putCtl_live (Nat.succ_ne_zero _)))
  · refine next_congr ((release_live hc hr).trans ?_)
    by_cases h1 : ctlRefs w = 1
    · rw [if_pos h1, h1]
      exact putCtl_last ..
    · rw [if_neg h1]
      exact putCtl_live (by omega)
  · refine next_congr ((freeBuf_owner hc ho hi).trans ?_)
    by_cases h1 : ctlRefs w ≤ 1
    · rw [if_pos h1, Nat.sub_eq_zero_of_le h1]
      exact putCtl_last ..
    · rw [if_neg h1]
      exact putCtl_live (by omega)
  · exact next_congr ((give_owner hc ho hi).trans (putCtl_live (by omega)))
  · refine ⟨next_congr ?_, next_congr ?_, next_congr ?_, next_congr ?_⟩
    · simp only [share, hc]
      rfl
    · simp only [release, hc]
      rfl
    · simp only [freeBuf, hc]
      rfl
    · simp only [give, hc]
      rfl
  · exact ⟨next_congr (freeBuf_other hc ho), next_congr (give_other hc ho)⟩
  · refine next_congr ?_
    rw [reclaim, hn]
    rfl
  · have hmem : (h.toNat, w) ∈ s.ream.ctl.cells.filter fun c => ctlOwned c.2 && ctlOwner c.2 == n.val := by
      rw [hcells]
      exact List.mem_singleton_self _
    obtain ⟨-, hown⟩ := List.mem_filter.mp hmem
    obtain ⟨ho, hi⟩ := Bool.and_eq_true_iff.mp hown
    refine next_congr ?_
    rw [reclaim, hcells]
    exact dropBuf_owned hc ho ((beq_iff_eq.mp hi).trans hid.symm)

/-! ### A write back that waits for a buffer (R484) -/

/-- The state after reset, but that channel 0 keeps a write back that waits for its buffer. -/
def rewriteWaits : State :=
  State.reset.modSched 0 fun c => { c with rewrites := [⟨⟨0, 0, 0⟩, none, ⟨[], []⟩⟩] }

/-- Refutes O19: REAM_WAIT_GRANT goes on to the write backs that wait (`pumpRewrites`). On channel 0, which is not ready, the one that waits
is given up, where the statement keeps the scheduler of every channel. -/
theorem not_reamPools : ¬ Obligations.ReamPools := by
  unfold Obligations.ReamPools
  intro h
  obtain ⟨-, -, hgrant, -⟩ := h 0 0 0 0 .mgmt 0 ⟨0, 0, 0, none⟩ rewriteWaits
  have hstate := Host.Outcome.next.inj (hgrant rfl rfl)
  have hkept := congrArg (fun t => ((t.chan 0).sched.rewrites).length) hstate
  exact absurd hkept (by decide)

end Sys2Proof.Machine
end

section
/-! PROOFS. The buffer cache (chapter 14): fills, offers, way locks and TAGSEL. -/

namespace Sys2Proof.Machine

/-! ### What breaking an unlock sequence leaves alone (R579) -/

/-- Registers and the state of the sequence alone may change. -/
theorem breakSeq_frame (s : State) : breakSeq s = { s with regs := (breakSeq s).regs, rst := (breakSeq s).rst } := by
  unfold breakSeq
  split_ifs <;> rfl

@[simp] theorem breakSeq_cache (s : State) : (breakSeq s).cache = s.cache := by rw [breakSeq_frame]

@[simp] theorem breakSeq_way (s : State) (sn w : Nat) : (breakSeq s).way sn w = s.way sn w := by
  rw [State.way, breakSeq_cache, State.way]

section Cache

variable {s : State}

/-! ### Fills (R452, R454) -/

/-- What a fill brings, and the state in which it is allocated: an open fill is no longer in flight, and takes only what its read asked for. -/
theorem cacheFill_eq (nsid line id : Nat) (blks : List (Nat × Block)) :
    cacheFill nsid line id blks s =
      cacheAlloc ((s.fill id).getD ⟨id, nsid, line, false, false, false, 0, none⟩)
        (if (s.fill id).isSome then blks.filter (fun b => ((s.fill id).getD ⟨id, nsid, line, false, false, false, 0, none⟩).sects.getLsbD (b.1 % 16)) else blks)
        (if (s.fill id).isSome then dropFill id s else s) := by
  cases hf : s.fill id <;> simp [cacheFill, hf]

/-- What an allocation reads of registers is not moved when the fill leaves the list of those in flight. -/
theorem dropFill_frame (b : Bool) (id : Nat) : (if b then dropFill id s else s) = { s with cache := (if b then dropFill id s else s).cache } := by
  cases b <;> rfl

theorem cacheAlloc_off {f : Fill} {bs : List (Nat × Block)}
    (h : (s.flag F.CACHE_CFG_EN && s.flag F.CACHE_CFG_FILL_EN && !s.bit F.CACHE_STAT_PC_OFF (lineSet f.nsid f.line s % 8)) = false) :
    cacheAlloc f bs s = s.inc F.CACHE_DROPCNT_NOT_EN := by
  refine if_pos ?_
  rw [← Bool.not_eq_true', Bool.not_and, Bool.not_and, Bool.not_not] at h
  exact h

section Allocation

variable {f : Fill} {bs : List (Nat × Block)}
  (hon : (s.flag F.CACHE_CFG_EN && s.flag F.CACHE_CFG_FILL_EN && !s.bit F.CACHE_STAT_PC_OFF (lineSet f.nsid f.line s % 8)) = true)

include hon

theorem cacheAlloc_void (hv : f.void = true) : cacheAlloc f bs s = s.inc F.CACHE_DROPCNT_VOID := by
  simp only [Bool.and_eq_true, Bool.not_eq_true'] at hon
  obtain ⟨⟨hen, hfill⟩, hpc⟩ := hon
  simp [cacheAlloc, hen, hfill, hpc, hv]

/-- A line that no way holds goes into the first free way of its set. -/
theorem cacheAlloc_free {w : Nat} (hv : f.void = false) (hrun : s.cache.run = none) (hbs : bs ≠ []) (hno : s.wayOf f.nsid f.line = none)
    (hw : ((List.range 16).find? fun x => (s.way (lineSet f.nsid f.line s) x).isNone && !wayLocked x s && !sideLost (lineSet f.nsid f.line s) x s &&
      !pinned (lineSet f.nsid f.line s) x s) = some w) :
    cacheAlloc f bs s = fillInto (lineSet f.nsid f.line s) w f bs s := by
  simp only [Bool.and_eq_true, Bool.not_eq_true'] at hon
  obtain ⟨⟨hen, hfill⟩, hpc⟩ := hon
  have hempty : bs.isEmpty = false := by simpa using hbs
  simp [cacheAlloc, hen, hfill, hpc, hv, inPending, hrun, hempty, hno, hw]

end Allocation

/-! ### Offers (R457, R458) -/

theorem runWaiters_none (h : s.cache.waitF = []) : runWaiters s = s := by
  rw [runWaiters, h]
  rfl

theorem putWay_waitF (sn w : Nat) (v : Option Way) : (putWay sn w v s).cache.waitF = s.cache.waitF := rfl

theorem dropLine_eq (v : Way) :
    dropLine v s = putWay v.sn v.way (if wayLocked v.way s then some { v with valid := 0, spec := false, retain := true, offered := false } else none) s := by
  unfold dropLine
  split_ifs <;> rfl

/-- The counts of offers are not the locks. -/
theorem wayLocked_incWrap_offers (a : Bool) (w : Nat) :
    wayLocked w (s.incWrap (if a then F.CACHE_OFFERCNT_ACCEPTED else F.CACHE_OFFERCNT_DECLINED)) = wayLocked w s := by
  unfold wayLocked State.bit State.incWrap
  cases a <;> rw [State.get_set_other _ _ _ _ (by decide)]

theorem offerEnd_offered {sn w : Nat} {v : Way} (hv : s.way sn w = some v) (ho : v.offered = true) (hw : s.cache.waitF = []) (a : Bool) :
    offerEnd sn w a s = putWay v.sn v.way (if wayLocked v.way s then some { v with valid := 0, spec := false, retain := true, offered := false } else none)
      (s.incWrap (if a then F.CACHE_OFFERCNT_ACCEPTED else F.CACHE_OFFERCNT_DECLINED)) := by
  simp only [offerEnd, hv, ho, if_true, dropLine_eq, wayLocked_incWrap_offers]
  exact runWaiters_none ((putWay_waitF ..).trans hw)

theorem offerEnd_idle {sn w : Nat} (h : ∀ v, s.way sn w = some v → v.offered = false) (a : Bool) : offerEnd sn w a s = s := by
  cases hv : s.way sn w with
  | none => simp only [offerEnd, hv]
  | some v => simp only [offerEnd, hv, h v hv, Bool.false_eq_true, if_false]

/-! ### Locks (R460) -/

theorem waylockWrite_refused {lock : W16} (h : 8 < bitCount 16 lock.toNat) : waylockWrite lock s = s.setFlag F.CACHE_WAYLOCK_REFUSED true :=
  if_pos h

/-- With no way that retains its line, no way is emptied by its unlock. -/
theorem waylockWrite_set {lock : W16} (h : bitCount 16 lock.toNat ≤ 8) (hr : ∀ v ∈ s.cache.ways, v.retain = false) :
    waylockWrite lock s = s.set F.CACHE_WAYLOCK_LOCK lock.toNat := by
  have hways : (s.cache.ways.filter fun v => (wayLocked v.way s && !lock.getLsbD v.way) && v.retain) = [] :=
    List.filter_eq_nil_iff.mpr fun v hv => by simp [hr v hv]
  simp only [waylockWrite, Nat.not_lt.mpr h, if_false, State.set_cache, hways, State.each_nil]

end Cache

/-- Settles O20, by the cases of an allocation, of an offer's end and of a lock. -/
theorem cacheLines : Obligations.CacheLines := by
  unfold Obligations.CacheLines
  intro nsid line id sn way w blks b lock ts tw s f bs u k on
  have hu : u = { s with cache := u.cache } := dropFill_frame ..
  have hon : on = (u.flag F.CACHE_CFG_EN && u.flag F.CACHE_CFG_FILL_EN && !u.bit F.CACHE_STAT_PC_OFF (k % 8)) := by
    rw [hu]
    rfl
  have hrun : u.cache.run = s.cache.run := by
    change (if (s.fill id).isSome then dropFill id s else s).cache.run = _
    split_ifs <;> rfl
  refine ⟨fun h => ?_, fun h hv => ?_, fun h hv hr hbs hno hw => ?_, fun v hv ho hw => ⟨?_, fun hp => ?_, fun hp => ?_⟩, fun h => ⟨?_, ?_⟩, rfl,
    fun hreach h => ?_, fun hreach h hr => ?_, fun hreach => ?_⟩
  · exact next_congr ((cacheFill_eq ..).trans (cacheAlloc_off (hon.symm.trans h)))
  · exact next_congr ((cacheFill_eq ..).trans (cacheAlloc_void (hon.symm.trans h) hv))
  · exact next_congr ((cacheFill_eq ..).trans (cacheAlloc_free (hon.symm.trans h) hv (hrun.trans hr) hbs hno hw))
  · exact next_congr (offerEnd_offered hv ho hw b)
  · refine next_congr ((if_neg ?_).trans (offerEnd_offered hv ho hw false))
    simp only [hv, Option.any_some, List.any_eq_true, Bool.and_eq_true, beq_iff_eq]
    exact fun ⟨x, hx, hns, hline⟩ => hp x hx hns hline
  · refine next_congr (if_pos ?_)
    simpa [hv] using hp
  · exact next_congr (offerEnd_idle h b)
  · refine next_congr ?_
    split_ifs
    · rfl
    · exact offerEnd_idle h false
  · exact next_congr ((arbWrite_reached hreach).trans (waylockWrite_refused h))
  · exact next_congr ((arbWrite_reached hreach).trans (waylockWrite_set h (by simpa using hr)))
  · refine next_congr ((arbWrite_reached hreach).trans ?_)
    simp only [tagSelect, breakSeq_way]

end Sys2Proof.Machine
end

section
/-! PROOFS. Protected memories (chapter 15): correctable and uncorrectable errors, remaps, and the armed flip. -/

namespace Sys2Proof.Machine

section Memory

variable {m word : Nat} {s : State}

/-! ### Correctable errors (R502) -/

/-- What follows the log entry of a correctable error: the word is remembered, then moved, then reported. -/
theorem sramCe_after {syn : Byte} {t : State}
    (ht : (match (List.range 8).find? fun e => !(s.inc F.MEMPROT_CE_COUNT).flag (F.MEMPROT_LOG_VALID e) with
      | some e => ((((s.inc F.MEMPROT_CE_COUNT).set (F.MEMPROT_LOG_MACRO e) m).set (F.MEMPROT_LOG_SYNDROME e) syn.toNat).setFlag
          (F.MEMPROT_LOG_VALID e) true).set (F.MEMPROT_LOGA_WORD e) word
      | none => (s.inc F.MEMPROT_CE_COUNT).setFlag F.MEMPROT_CE_LOG_OVF true) = t) :
    sramCe m word syn s =
      if t.mem.remap.contains (m, word) || t.mem.moves.contains (m, word) then t
      else if t.mem.seen.contains (m, word) then
        if remapUsed m t < 4 then t.modMem fun x => { x with moves := x.moves ++ [(m, word)] } else t.raise (hostSrc 32) m
      else t.modMem fun x => { x with seen := x.seen ++ [(m, word)] } := by
  subst ht
  rfl

/-- The first free entry of the log. -/
theorem find_free_entry {valid : Nat → Bool} {e : Nat} (he : e < 8) (hlt : ∀ i, i < e → valid i = true) (hfree : valid e = false) :
    (List.range 8).find? (fun i => !valid i) = some e := by
  rw [List.find?_range_eq_some]
  exact ⟨by simp [hfree], List.mem_range.mpr he, fun i hi => by simp [hlt i hi]⟩

theorem find_no_entry {valid : Nat → Bool} (h : ∀ i, i < 8 → valid i = true) : (List.range 8).find? (fun i => !valid i) = none :=
  List.find?_eq_none.mpr fun i hi => by simp [h i (List.mem_range.mp hi)]

/-! ### Uncorrectable errors (R503) -/

theorem sramUe_store (hm : m < 0x100) (h0 : m % 0x20 = 0) : sramUe m word s = storeUe (Fin.ofNat 8 (m / 0x20)) word (ueNote m s) := by
  simp only [sramUe, hm, h0, if_true]

theorem sramUe_sample (hm : m < 0x100) (h1 : 1 ≤ m % 0x20) (h4 : m % 0x20 ≤ 4) :
    sramUe m word s = sampleUe (Fin.ofNat 8 (m / 0x20)) (Fin.ofNat 4 (m % 0x20 - 1)) word (ueNote m s) := by
  simp only [sramUe, hm, h4, Nat.ne_of_gt h1, if_true, if_false]

theorem sramUe_fifo (hm : m < 0x100) (h5 : 5 ≤ m % 0x20) (h8 : m % 0x20 ≤ 8) :
    sramUe m word s = fifoUe (Fin.ofNat 8 (m / 0x20)) (Fin.ofNat 4 (m % 0x20 - 5)) (ueNote m s) := by
  have h0 : ¬m % 0x20 = 0 := by omega
  have h4 : ¬m % 0x20 ≤ 4 := by omega
  have hb : ¬(m % 0x20 = 0x0B ∨ m % 0x20 = 0x0C) := by omega
  simp only [sramUe, hm, h0, h4, hb, h5, h8, and_self, if_true, if_false]

theorem sramUe_engine (n : Ch) (b : Bool) (hm : m = 0x20 * n.val + 0x0B + b.toNat) : sramUe m word s = engineUe n b (ueNote m s) := by
  have hb := b.toNat_lt
  have hlt : m < 0x100 := by omega
  have hmod : m % 0x20 = 0x0B + b.toNat := by omega
  have hn : Fin.ofNat 8 (m / 0x20) = n := Fin.ext (by simp only [Fin.ofNat]; omega)
  have h0 : ¬m % 0x20 = 0 := by omega
  have h4 : ¬m % 0x20 ≤ 4 := by omega
  have he : m % 0x20 = 0x0B ∨ m % 0x20 = 0x0C := by omega
  have hsel : (m % 0x20 == 0x0C) = b := by rw [hmod]; cases b <;> rfl
  simp only [sramUe, hlt, h0, h4, he, hn, hsel, if_true, if_false]

theorem onlyChan_engineUe (n : Ch) (b : Bool) : OnlyChan n s (engineUe n b s) := by
  rw [engineUe, State.modHinge]
  exact onlyChan_modChan ..

theorem engineUe_memBad (n : Ch) (b : Bool) : ((engineUe n b s).chan n).hinge.memBad = setB (s.chan n).hinge.memBad b.toNat := by
  rw [engineUe, State.modHinge, State.chan_modChan_same]

theorem sramUe_tag (hm : m = 0x100) : sramUe m word s = tagError (word / 16) (ueNote m s) := by
  subst hm
  rfl

theorem sramUe_handle (h1 : 0x102 ≤ m) (h2 : m ≤ 0x111) : sramUe m word s = loseHandle (Fin.ofNat 16 (m - 0x102)) word (ueNote m s) := by
  have hlt : ¬m < 0x100 := by omega
  have htag : ¬m = 0x100 := by omega
  simp only [sramUe, hlt, htag, h1, h2, and_self, if_true, if_false]

theorem sramUe_other (h : 0x112 ≤ m) : sramUe m word s = ueNote m s := by
  have hlt : ¬m < 0x100 := by omega
  have htag : ¬m = 0x100 := by omega
  have hh : ¬(0x102 ≤ m ∧ m ≤ 0x111) := by omega
  simp only [sramUe, hlt, htag, hh, if_false]

/-! ### Moves (R502) -/

theorem remapMove_free (hc : s.mem.moves.contains (m, word) = true) (hu : remapUsed m s < 4) :
    remapMove m word s = remapSync (s.modMem fun x => { x with
      moves := x.moves.filter (· != (m, word)), remap := x.remap ++ [(m, word)], flips := x.flips.filter fun f => !(f.1 == m && f.2.1 == word) }) := by
  have hu' : remapUsed m (s.modMem fun x => { x with moves := x.moves.filter (· != (m, word)) }) < 4 := hu
  simp only [remapMove, hc, hu', Bool.not_true, Bool.false_eq_true, if_true, if_false]
  rfl

theorem remapMove_full (hc : s.mem.moves.contains (m, word) = true) (hu : 4 ≤ remapUsed m s) :
    remapMove m word s = (s.modMem fun x => { x with moves := x.moves.filter (· != (m, word)) }).raise (hostSrc 32) m := by
  have hu' : ¬remapUsed m (s.modMem fun x => { x with moves := x.moves.filter (· != (m, word)) }) < 4 := Nat.not_lt.mpr hu
  simp only [remapMove, hc, hu', Bool.not_true, Bool.false_eq_true, if_false]

end Memory

/-- Settles O22, by the log entry that a correctable error finds and by the user of each memory. -/
theorem memoryProtection : Obligations.MemoryProtection := by
  unfold Obligations.MemoryProtection
  intro m word e syn path mac s t full known
  have ce (hm : isMacro m = true) {u : State} (h : sramCe m word syn s = u) : exec (.sramCorrectableError m word syn) s = .next u :=
    next_congr ((if_pos hm).trans h)
  refine ⟨fun hm he hlt hfree => ?_, fun hm hall hk => ?_, fun hc hu => next_congr (remapMove_free hc hu), fun hc hu => next_congr (remapMove_full hc hu), ?_,
    fun hreach hmay => next_congr (lockedWrite_open hreach hmay), rfl⟩
  · have hce := sramCe_after (m := m) (word := word) (syn := syn) (s := s) (t := t) (by rw [find_free_entry he hlt hfree])
    refine ⟨fun hk => ce hm (hce.trans (if_pos hk)), fun hk hseen => ce hm (hce.trans ?_), fun hk hseen hu => ce hm (hce.trans ?_), fun hk hseen hu => ce hm (hce.trans ?_)⟩
    · exact (if_neg (Bool.eq_false_iff.mp hk)).trans (if_neg (Bool.eq_false_iff.mp hseen))
    · exact (if_neg (Bool.eq_false_iff.mp hk)).trans ((if_pos hseen).trans (if_pos hu))
    · exact (if_neg (Bool.eq_false_iff.mp hk)).trans ((if_pos hseen).trans (if_neg (Nat.not_lt.mpr hu)))
  · exact ce hm ((sramCe_after (t := full) (by rw [find_no_entry hall])).trans (if_pos hk))
  · intro v hm
    have ue {u : State} (h : sramUe m word s = u) : exec (.sramUncorrectableError m word) s = .next u := next_congr ((if_pos hm).trans h)
    exact ⟨fun h => ue (sramUe_other h), fun h => ue (sramUe_tag h), fun h1 h2 => ue (sramUe_handle h1 h2), fun h h0 => ue (sramUe_store h h0),
      fun h h1 h4 => ue (sramUe_sample h h1 h4), fun h h5 h8 => ue (sramUe_fifo h h5 h8),
      fun n b hb => ⟨_, ue (sramUe_engine n b hb), engineUe_memBad n b, onlyChan_engineUe n b⟩⟩

end Sys2Proof.Machine
end

section
/-! PROOFS. The spindle (chapter 8): starts, stops, losses of the rotor, retract, the coil, and the PWM period. -/

namespace Sys2Proof.Machine

section Motor

variable {n : Ch} {s : State}

/-! ### States and their groups (R267) -/

theorem motIn_iff (l : List Nat) : motIn n l s = true ↔ motState n s ∈ l :=
  List.contains_iff_mem

theorem motIn_of_mem {l : List Nat} (h : motState n s ∈ l) : motIn n l s = true :=
  (motIn_iff l).mpr h

theorem motIn_of_not_mem {l : List Nat} (h : motState n s ∉ l) : motIn n l s = false :=
  Bool.eq_false_iff.mpr fun e => h ((motIn_iff l).mp e)

theorem slowRotor_iff (v : Int) : slowRotor v = true ↔ v.natAbs * 100 ≤ 16384 :=
  decide_eq_true_iff

theorem slowRotor_of_fast {v : Int} (h : 16384 < v.natAbs * 100) : slowRotor v = false :=
  decide_eq_false (Nat.not_le.mpr h)

theorem key_state_inTol : (F.MOT_STAT_STATE n).key ≠ (F.MOT_STAT_IN_TOL n).key := by
  simp only [Fld.key, F.MOT_STAT_STATE, F.MOT_STAT_IN_TOL]; omega

theorem key_state_vmotLim : (F.MOT_STAT_STATE n).key ≠ (F.MOT_STAT_VMOT_LIM n).key := by
  simp only [Fld.key, F.MOT_STAT_STATE, F.MOT_STAT_VMOT_LIM]; omega

theorem key_inTol_vmotLim : (F.MOT_STAT_IN_TOL n).key ≠ (F.MOT_STAT_VMOT_LIM n).key := by
  simp only [Fld.key, F.MOT_STAT_IN_TOL, F.MOT_STAT_VMOT_LIM]; omega

variable {st : Nat}

/-- Entering a state ends two flags, save in the states that keep them. -/
theorem enter_eq : enter n st s = ((((s.set (F.MOT_STAT_STATE n) st).modMot n fun m => m.entered st).when (st != stRun)
    fun u => u.setFlag (F.MOT_STAT_IN_TOL n) false).when (st != stBrake) fun u => u.setFlag (F.MOT_STAT_VMOT_LIM n) false) :=
  rfl

theorem motState_enter (hs : s.canon) (hst : st ≤ 10) : motState n (enter n st s) = st := by
  have hget : (s.set (F.MOT_STAT_STATE n) st).get (F.MOT_STAT_STATE n) = st := by
    rw [State.get_set_same _ _ _ hs.1]
    exact Nat.mod_eq_of_lt (Nat.lt_of_le_of_lt hst (by simp [F.MOT_STAT_STATE]))
  rw [enter_eq, motState]
  rcases st != stRun <;> rcases st != stBrake <;>
    simp only [State.when_true, State.when_false, State.get_setFlag_other _ _ _ _ key_state_inTol,
      State.get_setFlag_other _ _ _ _ key_state_vmotLim, State.modMot_get, hget]

/-- Only RUN keeps the tolerance (R281). -/
theorem inTol_enter (hs : s.canon) (hst : st ≠ stRun) : (enter n st s).flag (F.MOT_STAT_IN_TOL n) = false := by
  have hwf : ((s.set (F.MOT_STAT_STATE n) st).modMot n fun m => m.entered st).regs.wf = true := State.set_wf _ _ _ hs.1
  rw [enter_eq, bne_iff_ne.mpr hst, State.when_true]
  rcases st != stBrake
  · exact State.flag_setFlag_same _ _ _ hwf Nat.zero_lt_one
  · rw [State.when_true, State.flag_setFlag_other _ _ _ _ key_inTol_vmotLim]
    exact State.flag_setFlag_same _ _ _ hwf Nat.zero_lt_one

theorem Motor.gates_entered (m : Motor) : (m.entered st).gates = entryGates st :=
  rfl

/-- A flag that is written in some cases leaves the motor alone. -/
theorem State.mot_when_setFlag (t : State) (c : Bool) (f : Fld) (v : Bool) : (t.when c fun u => u.setFlag f v).mot n = t.mot n := by
  cases c <;> rfl

theorem gates_enter : ((enter n st s).mot n).gates = entryGates st := by
  rw [enter_eq, State.mot_when_setFlag, State.mot_when_setFlag, State.mot_modMot_same, Motor.gates_entered]

@[simp] theorem host_enter : (enter n st s).host = s.host := by
  rw [enter_eq]
  rcases st != stRun <;> rcases st != stBrake <;> rfl

@[simp] theorem dram_enter : (enter n st s).dram = s.dram := by
  rw [enter_eq]
  rcases st != stRun <;> rcases st != stBrake <;> rfl

/-! ### Commands and starts (R268 to R274) -/

theorem motCmd_safe {f : State → State} (h : s.flag F.FAULT_STAT_SAFE = true) : motCmd f s = s :=
  if_pos h

theorem motCmd_awake {f : State → State} (h : s.flag F.FAULT_STAT_SAFE = false) : motCmd f s = f s :=
  if_neg (by simp [h])

theorem senseEnd_slow (hst : motState n s = stSense) (hv : (measuredSpeed n s).natAbs * 100 ≤ 16384) :
    senseEnd n s = enter n stAlign ((senseTaken n s).set (F.MOT_START_STAT_CASE n) 1) := by
  simp only [senseEnd, hst, (slowRotor_iff _).mpr hv, ne_eq, not_true_eq_false, if_true, if_false]

theorem senseEnd_back (hst : motState n s = stSense) (hv : 16384 < (measuredSpeed n s).natAbs * 100) (hb : measuredSpeed n s < 0) :
    senseEnd n s = enter n stBrake ((senseTaken n s).set (F.MOT_START_STAT_CASE n) 4) := by
  simp only [senseEnd, hst, slowRotor_of_fast hv, hb, ne_eq, not_true_eq_false, Bool.false_eq_true, if_true, if_false]

theorem senseEnd_slowing (hst : motState n s = stSense) (hv : 16384 < (measuredSpeed n s).natAbs * 100) (hb : 0 ≤ measuredSpeed n s)
    (hm : (measuredSpeed n s).natAbs * 100 ≤ 49152) :
    senseEnd n s = enter n stBrake ((senseTaken n s).set (F.MOT_START_STAT_CASE n) 3) := by
  simp only [senseEnd, hst, slowRotor_of_fast hv, Int.not_lt.mpr hb, ne_eq, not_true_eq_false, Bool.false_eq_true, if_false]
  exact if_pos (decide_eq_true hm)

theorem senseEnd_fast (hst : motState n s = stSense) (hb : 0 ≤ measuredSpeed n s) (hm : 49152 < (measuredSpeed n s).natAbs * 100) :
    senseEnd n s = enter n stAccel ((senseTaken n s).set (F.MOT_START_STAT_CASE n) 2) := by
  simp only [senseEnd, hst, slowRotor_of_fast (Nat.lt_trans (by decide : 16384 < 49152) hm), Int.not_lt.mpr hb, ne_eq, not_true_eq_false,
    Bool.false_eq_true, if_false]
  exact if_neg (by simpa using hm)

theorem alignStep_first (hst : motState n s = stAlign) (hg : (s.mot n).gates = .align60) :
    alignStep n s = s.modMot n fun m => { m with gates := .align0 } := by
  simp only [alignStep, hst, hg, ne_eq, not_true_eq_false, if_true, if_false]

theorem alignStep_second (hst : motState n s = stAlign) (hg : (s.mot n).gates ≠ .align60) : alignStep n s = enter n stRamp s := by
  simp only [alignStep, hst, hg, ne_eq, not_true_eq_false, if_false]

theorem handoverFail_first (hst : motState n s = stRamp) (hh : (s.mot n).hand = 0) :
    handoverFail n s = enter n stSense (s.modMot n fun m => { m with hand := m.hand + 1 }) := by
  simp only [handoverFail, hst, hh, ne_eq, not_true_eq_false, Nat.not_lt_zero, Nat.lt_iff_add_one_le.symm, if_false]

theorem handoverFail_again (hst : motState n s = stRamp) (hh : 1 ≤ (s.mot n).hand) : handoverFail n s = failStart n 5 s := by
  simp only [handoverFail, hst, hh, ne_eq, not_true_eq_false, if_true, if_false]

/-! ### Stops (R268, R269, R276) -/

theorem motStop_ignored (h : motState n s ∈ [stOff, stRectify, stFault]) : motStop n s = s := by
  simp only [motStop, motIn_of_mem h, if_true]

theorem motCoast_ignored (h : motState n s ∈ [stRectify, stFault]) : motCoast n s = s := by
  simp only [motCoast, motIn_of_mem h, if_true]

/-- A state of a list is in no list that is disjoint from it. -/
theorem motIn_of_disjoint {l l' : List Nat} (h : motState n s ∈ l) (hd : ∀ st ∈ l, st ∉ l') : motIn n l' s = false :=
  motIn_of_not_mem (hd _ h)

theorem motState_ne_of_mem {l : List Nat} {st : Nat} (h : motState n s ∈ l) (hd : st ∉ l) : motState n s ≠ st := fun e => hd (e ▸ h)

theorem motStop_onRamp (h : motState n s ∈ [stRun, stBrake, stCoast]) (hh : headsOff n s = false) :
    motStop n s = enter n stBrake (brakeSeed n (s.modMot n fun m => { m with starting := false, toOff := true, held := false })) := by
  have hoff : motIn n [stOff, stRectify, stFault] s = false := motIn_of_disjoint h (by decide)
  have hstart : motIn n [stSense, stAlign, stRamp, stAccel] s = false := motIn_of_disjoint h (by decide)
  have hlost : motState n s ≠ stLost := motState_ne_of_mem h (by decide)
  simp only [motStop, stopNow, hoff, hstart, hlost, hh, Bool.false_eq_true, if_false]

theorem motCoast_onRamp (h : motState n s ∈ [stRun, stBrake, stCoast]) (hh : headsOff n s = false) :
    motCoast n s = enter n stCoast (s.modMot n fun m => { m with starting := false, stopCaught := false, held := false }) := by
  have hoff : motIn n [stRectify, stFault] s = false := motIn_of_disjoint h (by decide)
  have hstart : motIn n [stSense, stAlign, stRamp, stAccel] s = false := motIn_of_disjoint h (by decide)
  have hlost : motState n s ≠ stLost := motState_ne_of_mem h (by decide)
  simp only [motCoast, coastNow, hoff, hstart, hlost, hh, Bool.false_eq_true, if_false]

theorem motStop_loaded (h : motState n s ∈ [stRun, stAccel, stBrake, stCoast]) (hh : headsOff n s = true) :
    motStop n s = (startRetract n s).modMot n fun m => { m with after := some true } := by
  have hoff : motIn n [stOff, stRectify, stFault] s = false := motIn_of_disjoint h (by decide)
  have hlost : motState n s ≠ stLost := motState_ne_of_mem h (by decide)
  simp only [motStop, hoff, hlost, hh, Bool.false_eq_true, if_true, if_false]

theorem motCoast_loaded (h : motState n s ∈ [stRun, stAccel, stBrake, stCoast]) (hh : headsOff n s = true) :
    motCoast n s = (startRetract n s).modMot n fun m => { m with after := some false } := by
  have hoff : motIn n [stRectify, stFault] s = false := motIn_of_disjoint h (by decide)
  have hlost : motState n s ≠ stLost := motState_ne_of_mem h (by decide)
  simp only [motCoast, hoff, hlost, hh, Bool.false_eq_true, if_true, if_false]

theorem brakePhase_zeroVec (hst : motState n s = stBrake) (hg : (s.mot n).gates = .zeroVec) :
    brakePhase n s = (measureStart n s).modMot n fun m => { m with gates := .hiZ } := by
  simp only [brakePhase, hst, hg, ne_eq, not_true_eq_false, if_false]

theorem brakePhase_fast (hst : motState n s = stBrake) (hg : (s.mot n).gates = .hiZ) (hv : 16384 < (measuredSpeed n s).natAbs * 100) :
    brakePhase n s = (putSpeed n (measuredSpeed n s) s).modMot n fun m => { m with gates := .zeroVec } := by
  simp only [brakePhase, hst, hg, slowRotor_of_fast hv, ne_eq, not_true_eq_false, Bool.false_eq_true, if_false]

/-- Braking ends (R276): what recorded the speed keeps whether a STOP waits for OFF. -/
theorem brakePhase_slow (hst : motState n s = stBrake) (hg : (s.mot n).gates = .hiZ) (hv : (measuredSpeed n s).natAbs * 100 ≤ 16384) :
    brakePhase n s = if (s.mot n).toOff then enter n stOff ((putSpeed n (measuredSpeed n s) s).modMot n fun m => { m with toOff := false })
      else enter n stAlign (putSpeed n (measuredSpeed n s) s) := by
  have hoff : ((putSpeed n (measuredSpeed n s) s).mot n).toOff = (s.mot n).toOff := by simp [putSpeed]
  simp only [brakePhase, brakeEnd, hst, hg, (slowRotor_iff _).mpr hv, hoff, ne_eq, not_true_eq_false, if_true, if_false]

theorem rotorLost_atSpeed (h : motState n s = stRun ∨ (motState n s = stAccel ∧ headsOff n s = true)) :
    rotorLost n s = abortAll n (enter n stLost ((s.inc (F.MOT_CNT_LOSS_CNT n)).raise (chSrc n 22))) := by
  have hin : motIn n [stAccel, stRun] s = true := motIn_of_mem (by rcases h with h | ⟨h, -⟩ <;> rw [h] <;> decide)
  have hcond : (decide (motState n s = stAccel) && !headsOff n s) = false := by
    rcases h with h | ⟨-, h⟩
    · rw [h]; rfl
    · rw [h]; simp
  simp only [rotorLost, hin, hcond, Bool.not_true, Bool.false_eq_true, if_false]

theorem rotorLost_accel (h : motState n s = stAccel) (hh : headsOff n s = false) :
    rotorLost n s = if 1 ≤ (s.mot n).losses then failStart n 6 ((s.inc (F.MOT_CNT_LOSS_CNT n)).raise (chSrc n 22))
      else enter n stSense (((s.inc (F.MOT_CNT_LOSS_CNT n)).raise (chSrc n 22)).modMot n fun m => { m with losses := m.losses + 1 }) := by
  have hin : motIn n [stAccel, stRun] s = true := motIn_of_mem (by rw [h]; decide)
  simp only [rotorLost, hin, h, hh, Bool.not_true, Bool.not_false, decide_true, Bool.and_self, Bool.false_eq_true, if_true, if_false]

theorem reacquire_lost (hst : motState n s = stLost) (hc : (s.mot n).catching = true) :
    reacquire n s =
      let w := detectorOmega (s.mot n)
      let t := seed n (((s.mot n).zc.getD 0 : Int) * (turn / 6) + roundDiv (w * (s.mot n).since) 65536) w (putSpeed n (speedOf n w s) s)
      if (s.mot n).stopCaught then enter n stBrake (t.modMot n fun m => { m with stopCaught := false, toOff := true })
      else enter n stAccel t :=
  if_neg (by simp [hst, hc])

/-! ### Retract and coil (R283, R285) -/

theorem startRetract_starts (hh : headsOff n s = true) (hr : s.flag (F.MOT_STAT_RETRACTING n) = false) :
    startRetract n s = (((s.setFlag (F.MOT_STAT_RETRACTING n) true).modMot n fun m => { m with vc := .retract }).setFlag
      (F.MOT_STAT_PARKED n) false).modServo n fun v => { v with loading := false } := by
  simp only [startRetract, hh, hr, Bool.not_true, Bool.or_self, Bool.false_eq_true, if_false]

theorem startRetract_none (h : headsOff n s = false ∨ s.flag (F.MOT_STAT_RETRACTING n) = true) : startRetract n s = s := by
  rcases h with h | h <;> simp [startRetract, h]

/-- Two updates of the motor that agree on it are the same. -/
theorem State.modMot_congr {f g : Motor → Motor} (h : f (s.mot n) = g (s.mot n)) : s.modMot n f = s.modMot n g := by
  have hmot : f s.chans[n].mot = g s.chans[n].mot := h
  simp only [State.modMot, State.modChan, hmot]

theorem secondTry_none (h : (s.servo n).loadTry ≠ 1) : secondTry n s = s := by
  have : (s.chan n).servo.loadTry ≠ 1 := h
  simp [secondTry, this]

theorem afterRetract_none (ha : (s.mot n).after = none) (ht : (s.servo n).loadTry ≠ 1) :
    afterRetract n s = (s.setFlag (F.MOT_STAT_RETRACTING n) false).setFlag (F.CTL_STAT_LOADED n) false := by
  have hmot : (((s.setFlag (F.MOT_STAT_RETRACTING n) false).setFlag (F.CTL_STAT_LOADED n) false).mot n).after = none := ha
  simp only [afterRetract, hmot]
  exact secondTry_none ht

theorem releaseStarts_none (h : ∀ m, (s.mot m).held = false) : releaseStarts s = s := by
  unfold releaseStarts
  have key : ∀ l : List Ch, s.each l (fun n u => u.when (u.mot n).held fun v => mgmtStart n (v.modMot n fun m => { m with held := false })) = s := by
    intro l
    induction l with
    | nil => rfl
    | cons m l ih => rw [State.each_cons, h m, State.when_false, ih]
  exact key allChans

/-- When LOAD is taken (R268). -/
theorem motLoad_loads (h : motState n s = stRun ∧ s.flag (F.MOT_STAT_IN_TOL n) = true ∧ s.flag (F.PAGE_ENABLE_EN n) = true ∧
    headsOff n s = false ∧ s.flag (F.MOT_STAT_RETRACTING n) = false) :
    motLoad n s = ((s.modMot n fun m => { m with vc := .load }).modServo n fun v => { v with loading := true, loadTry := 0 }).setFlag
      (F.MOT_STAT_PARKED n) false :=
  if_pos (by simp [h])

theorem motLoad_refused (h : ¬(motState n s = stRun ∧ s.flag (F.MOT_STAT_IN_TOL n) = true ∧ s.flag (F.PAGE_ENABLE_EN n) = true ∧
    headsOff n s = false ∧ s.flag (F.MOT_STAT_RETRACTING n) = false)) : motLoad n s = s :=
  if_neg fun e => h (by simpa [and_assoc] using e)

variable {c b : Int}

theorem coilAim_current (h : (s.mot n).vc = .current) : coilAim n c b s = (s.servo n).vcCmd * (s.get (F.MOT_VCM_VC_FS n) : Int) := by
  simp only [coilAim, h]
  rfl

/-- The motor after a coil period with its count of periods at rest and its mode. -/
def Motor.coiled (m : Motor) (n : Ch) (c b : Int) (s : State) (run : Nat) (vc : VcMode) : Motor :=
  { m with vcI := if m.vc = .current then (s.servo n).vcCmd else m.vcI, vcT := coilAim n c b s, vcGate := coilGates n (coilAim n c b s) c s
           vcEdge := edgeNs (s.get (F.MOT_PWMCFG_VC_SLEW n)), parkRun := run, vc := vc }

/-- The count of periods at rest in a retract decides when the hold begins (R285). -/
theorem coilPeriod_eq {run : Nat} {vc : VcMode}
    (hrun : (if (s.mot n).vc = .retract && atRest n c b (coilAim n c b s) s then (s.mot n).parkRun + 1 else 0) = run)
    (hvc : (if 800 ≤ run then .hold else (s.mot n).vc) = vc) :
    coilPeriod n c b s = s.modMot n fun m => m.coiled n c b s run vc := by
  subst hrun hvc
  unfold coilPeriod
  exact State.modMot_congr rfl

theorem coilPeriod_moves (h : (s.mot n).vc ≠ .retract ∨ atRest n c b (coilAim n c b s) s = false) :
    coilPeriod n c b s = s.modMot n fun m => m.coiled n c b s 0 (s.mot n).vc :=
  coilPeriod_eq (if_neg (by rcases h with h | h <;> simp [h])) (if_neg (by decide))

theorem coilPeriod_rests (hvc : (s.mot n).vc = .retract) (hr : atRest n c b (coilAim n c b s) s = true) (hp : (s.mot n).parkRun < 799) :
    coilPeriod n c b s = s.modMot n fun m => m.coiled n c b s ((s.mot n).parkRun + 1) .retract :=
  coilPeriod_eq (if_pos (by simp [hvc, hr])) ((if_neg (by omega)).trans hvc)

theorem coilPeriod_parks (hvc : (s.mot n).vc = .retract) (hr : atRest n c b (coilAim n c b s) s = true) (hp : 799 ≤ (s.mot n).parkRun) :
    coilPeriod n c b s = s.modMot n fun m => m.coiled n c b s ((s.mot n).parkRun + 1) .hold :=
  coilPeriod_eq (if_pos (by simp [hvc, hr])) (if_pos (by omega))

theorem dirWrite_rest {dir : Bool} (hdir : s.flag (F.MOT_RUNCFG_DIR n) ≠ dir) (hst : motState n s = stOff)
    (hv : slowRotor (s.mot n).speed = true) : dirWrite n dir s = s.setFlag (F.MOT_RUNCFG_DIR n) dir :=
  (if_neg hdir).trans (if_pos (by simp [hst, hv]))

theorem dirWrite_turning {dir : Bool} (hdir : s.flag (F.MOT_RUNCFG_DIR n) ≠ dir)
    (h : motState n s ≠ stOff ∨ slowRotor (s.mot n).speed = false) : dirWrite n dir s = s.raise (chSrc n 28) :=
  (if_neg hdir).trans (if_neg (by rcases h with h | h <;> simp [h]))

/-! ### The PWM period (R256 to R265) -/

variable {v : Nat}

/-- Outside BRAKE, and with no episode under way, a period takes VMOT and begins an episode above its ceiling (R263). -/
theorem vmotPeriod_eq (hst : motState n s ≠ stBrake) (hhi : (s.mot n).vmotHi = false) :
    vmotPeriod n v s = if driving n s && decide (s.get (F.MOT_BRAKE_VMOT_MAX n) < v) then
      (((s.set (F.MOT_VMOT_VMOT n) v).modMot n fun m => { m with vmotHi := true }).inc (F.MOT_CNT_VMOT_CNT n)).raise (chSrc n 32)
      else s.set (F.MOT_VMOT_VMOT n) v := by
  have hstate : motState n (s.set (F.MOT_VMOT_VMOT n) v) = motState n s :=
    State.get_set_other _ _ _ _ (by simp only [Fld.key, F.MOT_STAT_STATE, F.MOT_VMOT_VMOT]; omega)
  have hmax : (s.set (F.MOT_VMOT_VMOT n) v).get (F.MOT_BRAKE_VMOT_MAX n) = s.get (F.MOT_BRAKE_VMOT_MAX n) :=
    State.get_set_other _ _ _ _ (by simp only [Fld.key, F.MOT_BRAKE_VMOT_MAX, F.MOT_VMOT_VMOT]; omega)
  have hdrive : driving n (s.set (F.MOT_VMOT_VMOT n) v) = driving n s := rfl
  simp only [vmotPeriod, hstate, hst, decide_false, State.when_false, State.set_mot, hhi, hdrive, hmax, Bool.false_eq_true, if_false]

theorem vmotPeriod_low (hst : motState n s ≠ stBrake) (hhi : (s.mot n).vmotHi = false) (hv : v ≤ s.get (F.MOT_BRAKE_VMOT_MAX n)) :
    vmotPeriod n v s = s.set (F.MOT_VMOT_VMOT n) v :=
  (vmotPeriod_eq hst hhi).trans (if_neg (by simp [hv]))

theorem driving_of_ne (hg : (s.mot n).gates ≠ .hiZ) : driving n s = true :=
  bne_iff_ne.mpr hg

theorem not_driving_of_hiZ (hg : (s.mot n).gates = .hiZ) : driving n s = false := by
  simp [driving, hg]

theorem vmotPeriod_high (hst : motState n s ≠ stBrake) (hhi : (s.mot n).vmotHi = false) (hg : (s.mot n).gates ≠ .hiZ)
    (hv : s.get (F.MOT_BRAKE_VMOT_MAX n) < v) : vmotPeriod n v s =
      (((s.set (F.MOT_VMOT_VMOT n) v).modMot n fun m => { m with vmotHi := true }).inc (F.MOT_CNT_VMOT_CNT n)).raise (chSrc n 32) :=
  (vmotPeriod_eq hst hhi).trans (if_pos (by simp [driving_of_ne hg, hv]))

theorem currentPeriod_none (h : (s.mot n).gates = .hiZ ∨
    ((s.mot n).cur.any fun i => decide (s.get (F.MOT_CUR_OC_THR n) * 8 < i.natAbs)) = false) :
    currentPeriod n s = s.modMot n fun m => { m with cutRun := 0 } := by
  refine if_pos ?_
  rcases h with h | h
  · simp [not_driving_of_hiZ h]
  · simp [h]

/-- The first period of a run of cut ones reports; 48 in a row are a fault, which one is not (R262). -/
theorem currentPeriod_cut (hg : (s.mot n).gates ≠ .hiZ)
    (hb : ((s.mot n).cur.any fun i => decide (s.get (F.MOT_CUR_OC_THR n) * 8 < i.natAbs)) = true) (hc : (s.mot n).cutRun = 0) :
    currentPeriod n s = ((s.inc (F.MOT_CNT_OC_CNT n)).raise (chSrc n 30)).modMot n fun m => { m with cutRun := m.cutRun + 1 } := by
  have hfew : ¬48 ≤ ((((s.inc (F.MOT_CNT_OC_CNT n)).raise (chSrc n 30)).modMot n fun m => { m with cutRun := m.cutRun + 1 }).mot n).cutRun := by
    rw [State.mot_modMot_same, State.raise_mot, State.inc_mot]
    show ¬48 ≤ (s.mot n).cutRun + 1
    omega
  simp only [currentPeriod, driving_of_ne hg, hb, hc, Bool.and_self, Bool.not_true, beq_self_eq_true, State.when_true, Bool.false_eq_true, if_false]
  exact if_neg hfew

theorem observerPeriod_hiZ {old : List Int} (hg : (s.mot n).gates = .hiZ) : observerPeriod n old s = s :=
  if_pos (by simp [not_driving_of_hiZ hg])

theorem gatePeriod_hiZ (hg : (s.mot n).gates = .hiZ) :
    gatePeriod n s = s.modMot n fun m => { m with
      duty := [0, 0, 0], gateT := [(0, 0), (0, 0), (0, 0)], edge := edgeNs (s.get (F.MOT_PWMCFG_SLEW n)) } :=
  if_pos (by simp [not_driving_of_hiZ hg])

theorem duty_gatePeriod_hiZ (hg : (s.mot n).gates = .hiZ) : ((gatePeriod n s).mot n).duty = [0, 0, 0] := by
  rw [gatePeriod_hiZ hg, State.mot_modMot_same]

theorem gateT_gatePeriod_hiZ (hg : (s.mot n).gates = .hiZ) : ((gatePeriod n s).mot n).gateT = [(0, 0), (0, 0), (0, 0)] := by
  rw [gatePeriod_hiZ hg, State.mot_modMot_same]

end Motor

/-- Settles O23, by the branches of the start table and of the rows of a start. -/
theorem motorStarts : Obligations.MotorStarts := by
  unfold Obligations.MotorStarts
  intro n st s a u x speed sp fail
  refine ⟨fun hs hst => ⟨motState_enter hs hst, inTol_enter hs, gates_enter, host_enter, dram_enter⟩, fun hreach hsafe => ?_,
    fun hreach hsafe => ?_, fun hst => ?_, fun hst => ?_, fun hst => ?_, fun hstart => ?_, fun hstart => ?_⟩
  · exact ⟨next_congr ((arbWrite_reached hreach).trans (motCmd_safe hsafe)), next_congr ((arbWrite_reached hreach).trans (motCmd_safe hsafe))⟩
  · have hexec : exec (.motStart n) s = .next (motStart n u) := next_congr ((arbWrite_reached hreach).trans (motCmd_awake hsafe))
    refine ⟨fun hin => hexec.trans (next_congr ?_), fun hout => hexec.trans (next_congr ?_)⟩
    · simp only [motStart, motIn_of_mem hin, if_true]
    · simp only [motStart, motIn_of_not_mem hout, Bool.false_eq_true, if_false]
  · exact ⟨fun hv => next_congr (senseEnd_slow hst hv), fun hv hb => next_congr (senseEnd_back hst hv hb),
      fun hv hb hm => next_congr (senseEnd_slowing hst hv hb hm), fun hm hb => next_congr (senseEnd_fast hst hb hm)⟩
  · exact ⟨fun hg => next_congr (alignStep_first hst hg), fun hg => next_congr (alignStep_second hst hg)⟩
  · exact ⟨next_congr (if_pos hst), fun hh => next_congr (handoverFail_first hst hh), fun hh => next_congr (handoverFail_again hst hh)⟩
  · exact next_congr (if_pos hstart)
  · exact next_congr (if_neg (Bool.eq_false_iff.mp hstart))

/-- Settles O24, by the branches of a stop, of braking and of a lost rotor. -/
theorem motorStopsAndLosses : Obligations.MotorStopsAndLosses := by
  unfold Obligations.MotorStopsAndLosses
  intro n s a u x speed w caught
  refine ⟨fun hreach hsafe => ?_, fun hst => ?_, ?_, fun hst => ?_, fun hst => ?_, fun hst => next_congr (if_neg hst),
    fun hst => next_congr (if_pos hst)⟩
  · have hstop : exec (.motStop n) s = .next (motStop n u) := next_congr ((arbWrite_reached hreach).trans (motCmd_awake hsafe))
    have hcoast : exec (.motCoast n) s = .next (motCoast n u) := next_congr ((arbWrite_reached hreach).trans (motCmd_awake hsafe))
    rw [hstop, hcoast]
    exact ⟨fun h => next_congr (motStop_ignored h), fun h => next_congr (motCoast_ignored h),
      fun h hh => ⟨next_congr (motStop_onRamp h hh), next_congr (motCoast_onRamp h hh)⟩,
      fun h hh => ⟨next_congr (motStop_loaded h hh), next_congr (motCoast_loaded h hh)⟩⟩
  · refine ⟨fun hg => next_congr (brakePhase_zeroVec hst hg), fun hg hv => next_congr (brakePhase_fast hst hg hv),
      fun hg hv hoff => next_congr ((brakePhase_slow hst hg hv).trans (if_pos hoff)),
      fun hg hv hoff => next_congr ((brakePhase_slow hst hg hv).trans (if_neg (Bool.eq_false_iff.mp hoff))), fun hs => next_congr ?_,
      fun hs => next_congr ?_⟩
    · have hs' : (s.mot n).starting = true := hs
      simp only [brakeTimeout, failStart, endStart, hst, hs', ne_eq, not_true_eq_false, if_true, if_false]
    · have hs' : (s.mot n).starting = false := hs
      simp only [brakeTimeout, hst, hs', ne_eq, not_true_eq_false, Bool.false_eq_true, if_false]
  · intro t
    exact ⟨fun h hh hl => next_congr ((rotorLost_accel h hh).trans (if_neg (Nat.not_le.mpr (Nat.lt_one_iff.mpr hl)))),
      fun h hh hl => next_congr ((rotorLost_accel h hh).trans (if_pos hl)), fun h => next_congr (rotorLost_atSpeed h)⟩
  · refine ⟨next_congr (if_pos hst), fun hc hs => next_congr ?_, fun hc hs => next_congr ?_, next_congr (if_pos hst)⟩
    · exact (reacquire_lost hst hc).trans (if_neg (Bool.eq_false_iff.mp hs))
    · exact (reacquire_lost hst hc).trans (if_pos hs)
  · refine ⟨next_congr (if_neg hst), next_congr (if_pos ?_), next_congr (if_neg hst)⟩
    simp [hst]

/-- Settles O25, by the branches of a retract, of the coil's period and of the parts of a PWM period. -/
theorem retractAndDrive : Obligations.RetractAndDrive := by
  unfold Obligations.RetractAndDrive
  intro n c b dir path o s a u x d
  refine ⟨fun hreach => ⟨fun hh hr => ?_, fun h => ?_, ?_⟩, fun hvc => ⟨next_congr (if_pos hvc), next_congr (if_pos hvc)⟩,
    fun hvc => next_congr (if_pos hvc), afterRetract_none, ?_, fun hreach hmay hdir => ?_, fun hst => ?_, fun hst => ?_, ?_, ?_, ?_, ?_,
    releaseStarts_none, fun hh => ?_⟩
  · exact next_congr ((arbWrite_reached hreach).trans (startRetract_starts hh hr))
  · exact next_congr ((arbWrite_reached hreach).trans (startRetract_none h))
  · intro ok hsafe
    have hexec : exec (.motLoad n) s = .next (motLoad n u) := next_congr ((arbWrite_reached hreach).trans (motCmd_awake hsafe))
    rw [hexec]
    exact ⟨fun h => next_congr (motLoad_refused h), fun h => next_congr (motLoad_loads h)⟩
  · intro aim coil
    refine ⟨fun hvc => ?_, fun h => next_congr ?_, fun hvc hr hp => next_congr ?_, fun hvc hr hp => next_congr ?_⟩
    · exact coilAim_current hvc
    · exact coilPeriod_moves h
    · exact coilPeriod_rests hvc hr hp
    · exact coilPeriod_parks hvc hr hp
  · have hexec : exec (.runcfgDirWrite path n dir) s = .next (lockedWrite path d false (dirWrite n dir) s) := rfl
    rw [hexec, lockedWrite_open hreach hmay]
    refine ⟨fun hst hv => next_congr ?_, fun h => next_congr ?_⟩
    · exact dirWrite_rest hdir hst hv
    · exact dirWrite_turning hdir h
  · exact ⟨next_congr (if_pos hst), next_congr (if_pos hst), fun ht => next_congr (if_pos (by simp [hst, ht]))⟩
  · exact ⟨next_congr (if_neg hst), next_congr (if_neg hst), next_congr (if_neg (by simp [hst]))⟩
  · exact rfl
  · intro t hst hhi
    exact ⟨fun hv => vmotPeriod_low hst hhi hv, fun hg hv => vmotPeriod_high hst hhi hg hv⟩
  · intro big
    exact ⟨fun h => currentPeriod_none h, fun hg hb hc => currentPeriod_cut hg hb hc⟩
  · exact fun hg => ⟨observerPeriod_hiZ hg, duty_gatePeriod_hiZ hg, gateT_gatePeriod_hiZ hg⟩
  · exact if_pos (by simp [hh])

end Sys2Proof.Machine
end

section
/-! PROOFS. The Hinge arbiter (chapter 7) and the supervision of the loops (chapter 6). -/

namespace Sys2Proof.Machine

section Hinge

variable {n : Ch} {s : State}

/-! ### Which engine (R231, R232) -/

theorem otherReady_iff : otherReady n s = true ↔ engState n (!inCtrl n s) s = engStandby ∨ engState n (!inCtrl n s) s = engShadow := by
  simp [otherReady, otherEng]

theorem otherComputes_iff : otherComputes n s = true ↔ engState n (otherEng n s) s ∈ [engStandby, engNotReady, engShadow] :=
  List.contains_iff_mem

theorem not_otherComputes (h : engState n (otherEng n s) s ∉ [engStandby, engNotReady, engShadow]) : otherComputes n s = false :=
  Bool.eq_false_iff.mpr fun e => h (otherComputes_iff.mp e)

/-! ### Switch-over (R238 to R241, R246) -/

/-- What passes control to the other engine, once the one that failed has its new state (R238 to R240). -/
def handOver (n : Ch) (b : Bool) (c : Nat) (t : State) : State :=
  let u := (((setEng n (!b) engActive t).setFlag (F.HINGE_STAT_IN_CTRL n) (!b)).set (F.HINGE_STAT_LAST_CAUSE n) c).inc (F.HINGE_CNT_SWITCH_CNT n)
  let w := (u.setFlag (F.HINGE_STAT_GAP n) true).modHinge n fun h =>
    { h with cause := none, gapNew := true, gapCnt := 0, spinGap := true, force := false, good := 0, miss := 0, spinTb := false }
  ((parkAll n 0x1B (syncCtl n w)).raise (chSrc n 15) 0xFFFF c).set (F.HINGE_STAT_SHADOW_CNT n) 0

theorem switchOver_ready {c : Nat} (h : otherReady n s = true) :
    switchOver n c s = handOver n (inCtrl n s) c (if c = 6 then setEng n (inCtrl n s) engShadow s else failEngine n (inCtrl n s) s) := by
  unfold switchOver
  rw [if_neg (by simp [h])]
  rfl

theorem switchOver_none {c : Nat} (h : otherReady n s = false) : switchOver n c s = enginesFailed n s :=
  if_pos (by simp [h])

/-! ### The extra self-check of a disagreement (R237) -/

/-- A self-check of the engine in control, and of the other one. -/
def ctlOk (n : Ch) (aOk bOk : Bool) (s : State) : Bool := if inCtrl n s then bOk && memGood n true s else aOk && memGood n false s
def othOk (n : Ch) (aOk bOk : Bool) (s : State) : Bool := if inCtrl n s then aOk && memGood n false s else bOk && memGood n true s

theorem engineDisagree_none {aOk bOk : Bool} (h : (s.hinge n).disPend = false) : engineDisagree n aOk bOk s = s :=
  if_pos (by simp [h])

theorem engineDisagree_pending {aOk bOk : Bool} (h : (s.hinge n).disPend = true) : engineDisagree n aOk bOk s =
    let t := s.modHinge n fun h => { h with disPend := false, dis := 0 }
    if !ctlOk n aOk bOk s && !othOk n aOk bOk s then enginesFailed n t
    else if ctlOk n aOk bOk s && othOk n aOk bOk s then t.raise (chSrc n 17)
    else if !ctlOk n aOk bOk s then latchCause n 5 t
    else if otherComputes n t then failEngine n (otherEng n t) t
    else t :=
  if_neg (by simp [h])

/-! ### Recovery (R245, R246) -/

theorem swapRequest_none (h : (s.hinge n).copying = false) : swapRequest n 0 s = s := by
  simp [swapRequest, h]

theorem copyDone_plain (hc : (s.hinge n).copying = true) (hh : (s.hinge n).held = []) (hs : (s.hinge n).heldSw = 0) :
    copyDone n s = (copyBanks n s).modHinge n fun h =>
      { h with copying := false, held := [], heldSw := 0, pass := 0, memBad := clrB h.memBad (otherEng n s).toNat } := by
  simp only [copyDone, hc, hh, hs, Bool.not_true, Bool.false_eq_true, if_false, State.each_nil]
  exact swapRequest_none (by rw [State.hinge_modHinge_same])

/-- The engine out of control that recovers, with its counts cleared. -/
def recoverCleared (n : Ch) (s : State) : State := s.modHinge n fun h => { h with pass := 0, good := 0, miss := 0, copying := false }

theorem recovered_recovering {ok : Bool} (h : engState n (otherEng n s) s = engRecovering) : recovered n ok s =
    if !ok then (setEng n (otherEng n s) engRetired (recoverCleared n s)).raise (chSrc n 19) (otherEng n s).toNat
    else if otherEng n s then setEng n (otherEng n s) engStandby (recoverCleared n s)
    else (setEng n (otherEng n s) engShadow (recoverCleared n s)).set (F.HINGE_STAT_SHADOW_CNT n) 0 :=
  if_neg (not_not.mpr h)

/-! ### FORCE and take-back (R247 to R250) -/

theorem hingeForce_ignored {o aOk bOk : Bool} (h : s.flag (F.HINGE_STAT_GAP n) = true ∨ aOk = false ∨ bOk = false) :
    hingeForce n o aOk bOk s = s :=
  if_pos (by rcases h with h | h | h <;> simp [h])

theorem hingeForce_healthy {o : Bool} (hg : s.flag (F.HINGE_STAT_GAP n) = false) (ho : s.flag (F.HINGE_STAT_OVERLAP n) = false)
    (ha : memGood n false s = true) (hb : memGood n true s = true) : hingeForce n o true true s =
      if !inCtrl n s && engState n false s == engActive && engState n true s == engStandby then (if o then latchCause n 6 s else s)
      else if inCtrl n s && engState n false s == engShadow then s.modHinge n fun h => { h with force := true }
      else s :=
  if_neg (by simp [hg, ho, ha, hb])

variable {p : Pa}

/-- Take-back due with no cause against B: the event runs its whole order (R248). -/
theorem takeBackEvent_forced (hc : inCtrl n s = true) (he : engState n false s = engShadow) (ho : (s.hinge n).overlap = none)
    (hf : (s.hinge n).force = true) (hn : (s.hinge n).cause = none) : takeBackEvent n p s = finishTakeBack n
      ((sendFrame n true p.val (linkIdle n s)).modHinge n fun h => { h with overlap := some (p.val, true) }) := by
  have hdue : takeBackDue n s = true := by simp [takeBackDue, hc, he, hf, hn]
  simp only [takeBackEvent, ho, hn, hdue, Option.isSome_none, Bool.false_eq_true, if_true, if_false]

/-- A cause that stands against B makes it a switch-over (R249). -/
theorem takeBackEvent_cause {c : Nat} (hc : inCtrl n s = true) (he : engState n false s = engShadow) (ho : (s.hinge n).overlap = none)
    (hn : (s.hinge n).cause = some c) : takeBackEvent n p s = switchOver n c s := by
  simp only [takeBackEvent, ho, hn, hc, he, Option.isSome_none, Bool.false_eq_true, beq_self_eq_true, Bool.and_self, if_true, if_false]

theorem takeBackEvent_none (ho : (s.hinge n).overlap = none) (h : inCtrl n s = false ∨ engState n false s ≠ engShadow) :
    takeBackEvent n p s = s := by
  have hno : (inCtrl n s && engState n false s == engShadow) = false := by rcases h with h | h <;> simp [h]
  have hdue : takeBackDue n s = false := by rcases h with h | h <;> simp [takeBackDue, h]
  rcases hn : (s.hinge n).cause with - | c <;>
    simp only [takeBackEvent, ho, hn, hno, hdue, Option.isSome_none, Bool.false_eq_true, if_false]

/-! ### Self-checks while no event occurs (R235) -/

theorem finishTakeBack_none (h : (s.hinge n).overlap = none) : finishTakeBack n s = s := by
  simp only [finishTakeBack, h]

theorem beginRecovery_none (h : engState n (otherEng n s) s ≠ engFailed) : beginRecovery n s = s :=
  if_neg h

theorem otherCheck_passes (h : engState n (otherEng n s) s ≠ engRecovering) : otherCheck n true s = s :=
  (if_neg h).trans (if_neg (by simp))

theorem idleTick_plain {aOk bOk : Bool} (ho : (s.hinge n).overlap = none) (hr : retracting n s = false)
    (he : engState n (otherEng n s) s ∉ [engRecovering, engFailed]) (hoth : othOk n aOk bOk s = true) :
    idleTick n aOk bOk s = linkIdle n (if ctlOk n aOk bOk s then s else latchCause n 2 s) := by
  obtain ⟨hrec, hfail⟩ : engState n (otherEng n s) s ≠ engRecovering ∧ engState n (otherEng n s) s ≠ engFailed := by simpa using he
  have hbegin : beginRecovery n (finishTakeBack n s) = s := (beginRecovery_none (by rwa [finishTakeBack_none ho])).trans (finishTakeBack_none ho)
  have hctl : ((if inCtrl n s then bOk else aOk) && memGood n (inCtrl n s) s) = ctlOk n aOk bOk s := by
    rcases hi : inCtrl n s <;> simp [ctlOk, hi]
  have hother : ((if otherEng n s then bOk else aOk) && memGood n (otherEng n s) s) = true := by
    refine Eq.trans ?_ hoth
    rcases hi : inCtrl n s <;> simp [othOk, otherEng, hi]
  simp only [idleTick, hbegin, hctl, hother, otherCheck_passes hrec]
  rcases ctlOk n aOk bOk s
  · exact if_neg (by rw [if_neg Bool.false_ne_true]; exact Bool.eq_false_iff.mp hr)
  · exact if_neg (by rw [if_pos rfl]; exact Bool.eq_false_iff.mp hr)

/-! ### Supervision of the loops (R210 to R214) -/

variable {b : Bool} {l : Loop}

/-- A declaration in the engine in control as CTL.STAT, SUPSTAT and the faults show it (R211). -/
def implTold (n : Ch) (b : Bool) (l : Loop) (s : State) : State :=
  (((s.modEng n b (EngCtx.fails l)).setBit (F.CTL_STAT_PLAUS n) l false).inc (F.CTL_SUPSTAT_IMPL_CNT n l)).raise (chSrc n 11) l

/-- The cause IMPLAUSIBLE, where a ready other engine holds the loop plausible (R236). -/
def implCause (n : Ch) (l : Loop) (t : State) : State :=
  if otherReady n t && (t.eng n (otherEng n t)).pl.getLsbD l then latchCause n 3 t else t

theorem declare_control (hc : inCtrl n s = b) (hp : (s.eng n b).pl.getLsbD l = true) :
    declare n b l s = declared n l (s.modEng n b (EngCtx.fails l)) :=
  if_pos (by simp [hc, hp])

theorem declare_quiet (h : inCtrl n s ≠ b ∨ (s.eng n b).pl.getLsbD l = false) : declare n b l s = s.modEng n b (EngCtx.fails l) := by
  refine if_neg ?_
  rcases h with h | h
  · simp [Ne.symm h]
  · rw [h]
    simp

theorem declared_coarse (hl : l.val = 0) : declared n l (s.modEng n b (EngCtx.fails l)) = implCause n l (parkAll n 0x1A (implTold n b l s)) := by
  have hl0 : l = 0 := Fin.ext hl
  simp only [declared, hl0, if_true]
  rfl

theorem declared_fine (hl : l.val = p.val + 1) :
    declared n l (s.modEng n b (EngCtx.fails l)) = implCause n l (parkGate n p 0x1A (implTold n b l s)) := by
  have hl0 : ¬l = 0 := fun e => by simp [e] at hl
  have hrange : 1 ≤ l.val ∧ l.val ≤ 4 := by omega
  have hpath : (⟨l.val - 1, by omega⟩ : Pa) = p := Fin.ext (by simp [hl])
  simp only [declared, hl0, hrange, hpath, if_false, dif_pos, and_self]
  rfl

theorem declared_spindle (hl : l.val = 5) : declared n l (s.modEng n b (EngCtx.fails l)) = implCause n l (implTold n b l s) := by
  have hl0 : ¬l = 0 := fun e => by simp [e] at hl
  have hrange : ¬(1 ≤ l.val ∧ l.val ≤ 4) := by omega
  simp only [declared, hl0, hrange, if_false, dite_false]
  rfl

theorem plausible_control (h : inCtrl n s = b) :
    plausible n b l s = (s.modEng n b (EngCtx.recovers l)).setBit (F.CTL_STAT_PLAUS n) l true :=
  if_pos (by simp [h])

theorem plausible_other (h : inCtrl n s ≠ b) : plausible n b l s = s.modEng n b (EngCtx.recovers l) :=
  if_neg (by simpa using Ne.symm h)

theorem runaway_control : runaway n (!inCtrl n s) (inCtrl n s) s = latchCause n 4 s := by
  rcases hi : inCtrl n s <;> simp [runaway, hi]

theorem runaway_other : runaway n (inCtrl n s) (!inCtrl n s) s = if otherComputes n s then failEngine n (otherEng n s) s else s := by
  rcases hi : inCtrl n s <;> simp [runaway, hi]

end Hinge

/-- Settles O26: the branches of a switch-over, and those of each row of the arbiter. -/
theorem hingeArbiter : Obligations.HingeArbiter := by
  unfold Obligations.HingeArbiter
  refine ⟨fun n c s => ?_, fun n p aOk bOk ok s => ?_⟩
  · intro b fin f t
    refine ⟨fun h => ?_, fun hstandby hshadow => ?_⟩
    · have hready := switchOver_ready (c := c) (otherReady_iff.mpr h)
      exact ⟨fun hc => hready.trans (congrArg (handOver n b c) (if_pos hc)),
        fun hc hle => hready.trans (congrArg (handOver n b c) ((if_neg hc).trans (if_neg (Nat.not_lt.mpr hle)))),
        fun hc hlt => hready.trans (congrArg (handOver n b c) ((if_neg hc).trans (if_pos hlt)))⟩
    · exact switchOver_none (Bool.eq_false_iff.mpr fun e => (otherReady_iff.mp e).elim hstandby hshadow)
  · intro b u h t okA okB ctl oth clear
    have hctl : ctl = ctlOk n aOk bOk s := rfl
    have hoth : oth = othOk n aOk bOk s := rfl
    refine ⟨fun hg => next_congr (if_pos hg), fun hg => next_congr (if_neg (Bool.eq_false_iff.mp hg)),
      fun hd => next_congr (engineDisagree_none hd), fun hd hc ho => next_congr ?_, fun hd hc ho => next_congr ?_,
      fun hd hc ho hcomp => next_congr ?_, fun hd hc ho => next_congr ?_,
      fun he => next_congr (if_pos he), fun he => next_congr (if_neg he), fun he => next_congr (if_pos he), fun he => next_congr (if_neg he),
      fun hc hh hs => next_congr (copyDone_plain hc hh hs), fun hc => next_congr (if_pos (by simpa using hc)), fun he => ⟨?_, fun hb => ?_, fun hb => ?_⟩,
      fun he => next_congr (if_pos he), fun path hreach => ?_, fun hc he ho => ⟨fun hf hn => ?_, fun c hn => ?_⟩, fun ho => next_congr (if_pos ho),
      fun ho hno => next_congr (takeBackEvent_none ho hno), rfl, fun ho hr he => ⟨fun hc hk => ?_, fun hc hk => ?_⟩⟩
    · rw [engineDisagree_pending hd, ← hctl, ← hoth, hc, ho]; rfl
    · rw [engineDisagree_pending hd, ← hctl, ← hoth, hc, ho]; rfl
    · rw [engineDisagree_pending hd, ← hctl, ← hoth, hc, ho]
      exact if_pos hcomp
    · rw [engineDisagree_pending hd, ← hctl, ← hoth, hc, ho]; rfl
    · exact next_congr (recovered_recovering he)
    · refine next_congr ((recovered_recovering he).trans ?_)
      rw [show otherEng n s = true from hb]
      rfl
    · refine next_congr ((recovered_recovering he).trans ?_)
      rw [show otherEng n s = false from hb]
      rfl
    · intro o
      have hexec : ∀ x y, exec (.hingeForce path n x y) s = .next (hingeForce n o x y u) := fun x y =>
        next_congr (arbWrite_reached hreach)
      refine ⟨fun hno => (hexec _ _).trans (next_congr (hingeForce_ignored hno)), fun hg ho ha hb => ⟨fun hc hA hB => ?_, fun hc hA => ?_⟩⟩
      · refine (hexec _ _).trans (next_congr ((hingeForce_healthy hg ho ha hb).trans (if_pos ?_)))
        simp [hc, hA, hB]
      · refine (hexec _ _).trans (next_congr ((hingeForce_healthy hg ho ha hb).trans ((if_neg ?_).trans (if_pos ?_))))
        · simp [hc]
        · simp [hc, hA]
    · exact next_congr (takeBackEvent_forced hc he ho hf hn)
    · exact next_congr (takeBackEvent_cause hc he ho hn)
    · exact next_congr ((idleTick_plain ho hr he hk).trans (congrArg _ (if_pos hc)))
    · exact next_congr ((idleTick_plain ho hr he hk).trans (congrArg _ (if_neg (Bool.eq_false_iff.mp hc))))

/-- Settles O27, by who is in control and which loop it is. -/
theorem supervisionRows : Obligations.SupervisionRows := by
  unfold Obligations.SupervisionRows
  intro n b l p s un told ok o arb
  have harb : ∀ t, implCause n l t = arb t := fun t => by simp [implCause, arb]
  refine ⟨fun hc hp => ⟨fun hl => ?_, fun hl => ?_, fun hl => ?_⟩, fun h => next_congr (declare_quiet h), fun h => next_congr (plausible_control h),
    fun h => next_congr (plausible_other h), fun hp hl => next_congr (if_neg (by simp [hp, hl])),
    fun h => next_congr (if_pos (by rcases h with h | h <;> simp [h])), ⟨rfl, rfl, next_congr runaway_control, fun h => ?_, fun h => ?_⟩, ?_, rfl⟩
  · exact next_congr ((declare_control hc hp).trans ((declared_coarse hl).trans (harb _)))
  · exact next_congr ((declare_control hc hp).trans ((declared_fine hl).trans (harb _)))
  · exact next_congr ((declare_control hc hp).trans ((declared_spindle hl).trans (harb _)))
  · exact next_congr (runaway_other.trans (if_pos (otherComputes_iff.mpr h)))
  · exact next_congr (runaway_other.trans (if_neg (Bool.eq_false_iff.mp (not_otherComputes h))))
  · intro c
    exact ⟨fun h => next_congr (if_neg (by simp [h])), fun h => next_congr (if_pos (by simpa using h))⟩

end Sys2Proof.Machine
end

section
/-! PROOFS. The servo rows (chapter 6): seeks, loading, coefficient banks, the sample event, and the spindle strobe. -/

namespace Sys2Proof.Machine

section Seek

variable {n : Ch} {p : Pa} {s : State} {target : Int}

/-! ### Seeks (R207 to R209) -/

theorem atTarget_iff : atTarget n s = true ↔ (ctlEng n s).seek = none ∧ (ctlEng n s).ref = (s.servo n).tc := by
  simp [atTarget]

theorem onTrack_reports (hw : (s.servo n).waitOn.getLsbD p = true) (ht : atTarget n s = true) : onTrack n p s =
    ((s.modServo n fun x => { x with waitOn := clrB x.waitOn p, tmoRow := if clrB x.waitOn p = 0 then 0 else x.tmoRow }).setBit
      (F.CTL_STAT_ONTRK n) p true).event n p 1 :=
  if_pos (by rw [hw, ht]; rfl)

theorem onTrack_none (h : (s.servo n).waitOn.getLsbD p = false ∨ atTarget n s = false) : onTrack n p s = s :=
  if_neg (by rcases h with h | h <;> rw [h] <;> simp)

theorem seekTimeout_again (hw : (s.servo n).waitOn ≠ 0) (hr : (s.servo n).tmoRow = 1) : seekTimeout n s =
    (((s.inc (F.CTL_SEEKSTAT_TMO_CNT n)).raise (chSrc n 9)).raise (chSrc n 10)).modServo n fun v => { v with tmoRow := 0, waitOn := 0 } := by
  simp only [seekTimeout, hw, hr, Nat.le_refl, if_true, if_false]

/-- A seek that is late for the first time, from the current position (R209). -/
def seekLate (n : Ch) (s : State) : State :=
  (((s.inc (F.CTL_SEEKSTAT_TMO_CNT n)).raise (chSrc n 9)).modServo n fun v =>
    { v with tmoRow := 1, waitOn := v.seekOn, settle := Vector.replicate 4 0 }).modEngs n fun c => { c with ref := c.ref + c.u0[0] }

theorem seekTimeout_first (hw : (s.servo n).waitOn ≠ 0) (hr : (s.servo n).tmoRow = 0) :
    seekTimeout n s = setTarget n ((seekLate n s).servo n).tc (seekBegins n (seekLate n s)) := by
  unfold seekTimeout
  rw [if_neg hw, if_neg (by rw [hr]; decide)]
  rfl

theorem redirectCtx_near {c : EngCtx} (h : (target - c.ref).natAbs ≤ shortMove n s) : redirectCtx n target s c = { c with seek := none } := by
  rcases hk : c.seek with - | k <;> simp only [redirectCtx, EngCtx.aim, hk, h, if_true]

theorem redirectCtx_rest {c : EngCtx} (h : shortMove n s < (target - c.ref).natAbs) (hk : c.seek = none) :
    redirectCtx n target s c = { c with seek := some ⟨seekClass (target - c.ref), c.ref, target - c.ref, 0, 0, 0⟩ } := by
  simp only [redirectCtx, EngCtx.aim, hk, Nat.not_le.mpr h, if_false]

/-- The residue of the step that was running is carried into the new profile (R208). -/
theorem redirectCtx_seeking {c : EngCtx} {k : Seek} {r ff : Int} (h : shortMove n s < (target - c.ref).natAbs) (hk : c.seek = some k)
    (hr : seekAt n k (s.servo n).tc k.i s = some (r, ff)) : redirectCtx n target s c =
      let d := max 1 (s.get (F.CTL_SEEKCFG_REDIR_DECAY n))
      let p0 := c.ref + roundDiv ((r - c.ref) * (d + 1 : Nat)) 2
      { c with seek := some ⟨seekClass (target - p0), p0, target - p0, 0, r - c.ref, d⟩ } := by
  simp only [redirectCtx, hk, Nat.not_le.mpr h, hr, if_false]

/-! ### Learning and loading (R132, R220, R225) -/

theorem converged_learning {k : Learn} (h : (s.servo n).learn[p] = some k) : converged n p s =
    (setTblState n p k.head 2 (learnEnd n p s)).setBit (F.AFE_WRINH_INH n) k.head
      (decide (2 ≤ (s.chan n).sched.paFaults.count k.head)) := by
  simp only [converged, h]

theorem noConvergence_learning {k : Learn} (h : (s.servo n).learn[p] = some k) : noConvergence n p s =
    ((setTblState n p k.head 0 (learnEnd n p s)).raise (chSrc n 3) k.head).modSched n fun c => { c with noconv := c.noconv ++ [k.head] } := by
  simp only [noConvergence, h]

theorem converged_none (h : (s.servo n).learn[p] = none) : converged n p s = s := by
  simp only [converged, h]

theorem noConvergence_none (h : (s.servo n).learn[p] = none) : noConvergence n p s = s := by
  simp only [noConvergence, h]

/-- What a position of an arm leaves of the servo: the loops' contexts, the target, the count of tries. -/
def Servo.rest (v : Servo) : EngCtx × EngCtx × Int × Nat × Bool := (v.engA, v.engB, v.tc, v.loadTry, v.loading)

/-- The loops of a channel at rest at a reference (R225). -/
def Servo.atRest (ref : Int) (v : Servo) : Prop :=
  v.loading = false ∧ v.loadTry = 0 ∧ v.tc = ref ∧ ∀ b : Bool,
    ((if b then v.engB else v.engA).ref = ref ∧ (if b then v.engB else v.engA).seek = none ∧ (if b then v.engB else v.engA).x[0] = [] ∧
      (if b then v.engB else v.engA).cmd = Vector.replicate 4 0)

theorem Servo.atRest_congr {v w : Servo} {ref : Int} (h : v.rest = w.rest) (hw : w.atRest ref) : v.atRest ref := by
  obtain ⟨hA, hB, htc, htry, hload⟩ : v.engA = w.engA ∧ v.engB = w.engB ∧ v.tc = w.tc ∧ v.loadTry = w.loadTry ∧ v.loading = w.loading := by
    simpa [Servo.rest] using h
  unfold Servo.atRest
  rw [hA, hB, htc, htry, hload]
  exact hw

theorem State.servo_modMot (t : State) (f : Motor → Motor) : (t.modMot n f).servo n = t.servo n :=
  State.part_modChan Chan.servo t n n

/-- A servo whose loops have been put at rest at a position. -/
def Servo.parked (ref : Int) (v : Servo) : Servo :=
  let rest := fun (c : EngCtx) => { c with
    ref := ref, seek := none, x := Vector.replicate 6 [] |>.set 5 c.x[5], y := Vector.replicate 6 (0, 0, 0) |>.set 5 c.y[5],
    cmd := Vector.replicate 4 0, satRun := 0 }
  { v with
    loading := false, loadTry := 0, tc := ref, offs := Vector.replicate 4 0, waitOn := 0, engA := rest v.engA, engB := rest v.engB }

theorem Servo.atRest_parked (ref : Int) (v : Servo) : (v.parked ref).atRest ref := by
  refine ⟨rfl, rfl, rfl, fun b => ?_⟩
  cases b <;> exact ⟨rfl, rfl, by simp [Servo.parked], rfl⟩

/-- The heads of a path stand where the reference and their calibration say. -/
def armAt (n : Ch) (ref : Int) (q : Pa) (t : State) : State :=
  t.modServo n fun v =>
    let at_ := ref + calOffset n (pathHeadOf n q t) t * 2097152
    { v with pos := v.pos.set q at_, track := v.track.set q (roundDiv at_ 536870912).toNat }

theorem rest_armAt (ref : Int) (q : Pa) (t : State) : ((armAt n ref q t).servo n).rest = (t.servo n).rest := by
  unfold armAt
  rw [State.servo_modServo_same]
  rfl

/-- The loops of a channel at rest at a reference, with the coarse one in force. -/
def parkServo (n : Ch) (ref : Int) (t : State) : State :=
  (t.modServo n fun v => { v with
    loading := false, loadTry := 0, tc := ref, offs := Vector.replicate 4 0, waitOn := 0 }).modEngs n fun c => { c with
    ref := ref, seek := none, x := Vector.replicate 6 [] |>.set 5 c.x[5], y := Vector.replicate 6 (0, 0, 0) |>.set 5 c.y[5],
    cmd := Vector.replicate 4 0, satRun := 0 }

theorem servo_parkServo (ref : Int) (t : State) : ((parkServo n ref t).servo n) = (t.servo n).parked ref := by
  unfold parkServo
  rw [State.modEngs, State.servo_modServo_same, State.servo_modServo_same]
  rfl

theorem acquired_loading {pos : Int} (h : (s.servo n).loading = true) : acquired n pos s =
    (((parkServo n (pos * 1048576) (s.each (allPaths.filter fun p => decide (p.val < events n s)) fun p u =>
      selectHead n p ((u.pathSt n p).head.getD p.val) u)).each allPaths (armAt n (pos * 1048576))).setFlag (F.CTL_STAT_LOADED n) true).modMot n
      fun m => { m with vc := .current } :=
  if_neg (by simp [h])

/-- Servo acquired puts the loops at rest at the measured position and engages the coil's current mode (R225). -/
theorem acquired_atRest {pos : Int} (h : (s.servo n).loading = true) :
    ((acquired n pos s).servo n).atRest (pos * 1048576) ∧ ((acquired n pos s).mot n).vc = .current := by
  rw [acquired_loading h, State.mot_modMot_same]
  refine ⟨Servo.atRest_congr ?_ (Servo.atRest_parked (pos * 1048576) ((s.each (allPaths.filter fun p => decide (p.val < events n s)) fun p u =>
      selectHead n p ((u.pathSt n p).head.getD p.val) u).servo n)), rfl⟩
  rw [← servo_parkServo]
  rw [State.servo_modMot, State.setFlag_servo]
  exact State.each_keeps (fun t => (t.servo n).rest) (rest_armAt (pos * 1048576)) allPaths _

theorem loadTimeout_first (h : (s.servo n).loading = true) (ht : (s.servo n).loadTry = 0) :
    loadTimeout n s = (startRetract n s).modServo n fun x => { x with loadTry := 1 } := by
  simp only [loadTimeout, h, ht, Bool.not_true, Bool.false_eq_true, if_true, if_false]

theorem loadTimeout_again (h : (s.servo n).loading = true) (ht : (s.servo n).loadTry ≠ 0) :
    loadTimeout n s = ((startRetract n s).modServo n fun x => { x with loadTry := 0 }).raise (chSrc n 14) := by
  simp only [loadTimeout, h, ht, Bool.not_true, Bool.false_eq_true, if_false]

end Seek

/-- Settles O28, by the branches of each row. -/
theorem seekAndLoadRows : Obligations.SeekAndLoadRows := by
  unfold Obligations.SeekAndLoadRows
  intro n p x s v tgt c short late
  refine ⟨fun hw hk hr => next_congr (onTrack_reports hw (atTarget_iff.mpr ⟨hk, hr⟩)), fun h => next_congr (onTrack_none ?_),
    fun hw hr => next_congr (seekTimeout_again hw hr), fun hw hr => next_congr (seekTimeout_first hw hr), fun hw => next_congr (if_pos hw), rfl,
    fun c => redirectCtx_near, fun c hlt => ⟨redirectCtx_rest hlt, fun k r ff => redirectCtx_seeking hlt⟩,
    fun k hk => ⟨next_congr (converged_learning hk), next_congr (noConvergence_learning hk)⟩,
    fun hk => ⟨next_congr (converged_none hk), next_congr (noConvergence_none hk)⟩, fun hl => ⟨?_, fun ht => ?_, fun ht => ?_⟩, fun hl => ⟨?_, ?_⟩⟩
  · refine h.imp_right fun h => Bool.eq_false_iff.mpr fun e => ?_
    obtain ⟨hk, hr⟩ := atTarget_iff.mp e
    exact h.elim (fun h => h hk) (fun h => h hr)
  · obtain ⟨⟨hload, htry, htc, heng⟩, hvc⟩ := acquired_atRest (pos := x) hl
    exact ⟨acquired n x s, rfl, hload, htry, htc, heng, hvc⟩
  · exact next_congr (loadTimeout_first hl ht)
  · exact next_congr (loadTimeout_again hl ht)
  · exact next_congr (if_pos (by simpa using hl))
  · exact next_congr (if_pos (by simpa using hl))

section Banks

variable {n : Ch} {l : Loop} {s : State}

/-! ### Coefficient banks (R202 to R205) -/

theorem coefWrite_held {i v : Nat} {w : Bool} (h : (s.hinge n).copying = true) :
    coefWrite n l i v w s = s.modHinge n fun h => { h with held := h.held ++ [(l.val, i, v)] } :=
  if_pos h

theorem coefWrite_plain {i v : Nat} (h : (s.hinge n).copying = false) : coefWrite n l i v false s = bankWrite n l i v s :=
  (if_neg (Bool.eq_false_iff.mp h)).trans (if_neg Bool.false_ne_true)

theorem coefWrite_atSwap {i v : Nat} (h : (s.hinge n).copying = false) : coefWrite n l i v true s = bankCollide n l i v s :=
  (if_neg (Bool.eq_false_iff.mp h)).trans (if_pos rfl)

theorem swapRequest_each {mask : Nat} (h : (s.hinge n).copying = false) :
    swapRequest n mask s = s.each (allLoops.filter fun (x : Loop) => mask.testBit x) fun x t => requestSwap n x t :=
  if_neg (Bool.eq_false_iff.mp h)

theorem filter_loop : ∀ l : Loop, allLoops.filter (fun (x : Loop) => (BitVec.ofNat 6 (2 ^ l.val)).toNat.testBit x) = [l] := by
  decide

theorem swapRequest_single (h : (s.hinge n).copying = false) :
    swapRequest n (BitVec.ofNat 6 (2 ^ l.val)).toNat s = requestSwap n l s := by
  rw [swapRequest_each h, filter_loop]
  rfl

theorem swapChecked_bad (hc : (s.servo n).chk.getLsbD l = true) (hv : bankValid n l (!activeBank n l s) s = false) : swapChecked n l s =
    (((((s.modServo n fun v => { v with chk := clrB v.chk l }).setBit (F.CTL_BANKSTAT_INACT_OK n) l false).setBit (F.CTL_BANKSTAT_PEND n) l
      false).setBit (F.CTL_BANKSTAT_REFUSED n) l true).raise (chSrc n 8) l) :=
  (if_neg (by rw [hc]; simp)).trans (if_neg (Bool.eq_false_iff.mp hv))

theorem swapChecked_good (hc : (s.servo n).chk.getLsbD l = true) (hv : bankValid n l (!activeBank n l s) s = true) : swapChecked n l s =
    if s.bit (F.CTL_LOOPEN_EN n) l then (s.modServo n fun v => { v with chk := clrB v.chk l }).setBit (F.CTL_BANKSTAT_INACT_OK n) l true
    else swapBank n l ((s.modServo n fun v => { v with chk := clrB v.chk l }).setBit (F.CTL_BANKSTAT_INACT_OK n) l true) :=
  (if_neg (by rw [hc]; simp)).trans (if_pos hv)

/-- The registers of a swap. -/
def swapShown (n : Ch) (l : Loop) (s : State) : State :=
  (s.setBit (F.CTL_BANKSTAT_ACTIVE n) l (!activeBank n l s)).setBit (F.CTL_BANKSTAT_PEND n) l false

/-- An engine whose new bank carries RESET_STATE starts from zero states (R204). -/
def zeroLoop (n : Ch) (l : Loop) (e : Bool) (t : State) : State := t.modEng n e fun c => { c with x := c.x.set l [] }

theorem swapBank_eq : swapBank n l s =
    let t := if resetState n false l (swapShown n l s) then zeroLoop n l false (swapShown n l s) else swapShown n l s
    if resetState n true l t then zeroLoop n l true t else t :=
  rfl

theorem swapBank_keeps (hA : resetState n false l (swapShown n l s) = false) (hB : resetState n true l (swapShown n l s) = false) :
    swapBank n l s = swapShown n l s := by
  simp only [swapBank_eq, hA, hB, Bool.false_eq_true, if_false]

theorem swapBank_zeroes (hA : resetState n false l (swapShown n l s) = true)
    (hB : resetState n true l (zeroLoop n l false (swapShown n l s)) = true) :
    swapBank n l s = zeroLoop n l true (zeroLoop n l false (swapShown n l s)) := by
  simp only [swapBank_eq, hA, hB, if_true]

/-- A guarded write from a writer without expert access is discarded (R577). -/
theorem lockedWrite_closed {path : RegPath} {a : Nat} {f : State → State} (h : Reached a s) (hp : path ≠ .mgmt)
    (ha : addrOpen a (breakSeq s) = false) : lockedWrite path a false f s = discard a (breakSeq s) := by
  unfold lockedWrite
  rw [arbWrite_reached h]
  exact if_pos (by simp [hp, ha])

end Banks

/-- Settles O29, by the branches of a write of the window, of a request, of a check and of a swap. -/
theorem coefficientBanks : Obligations.CoefficientBanks := by
  unfold Obligations.CoefficientBanks
  intro path n l i v s a u b key put r c
  have hwrite : ∀ w, exec (.coefWindowWrite path n l i v w) s = .next (lockedWrite path a false (coefWrite n l i.toNat v.toNat w) s) := fun w => rfl
  refine ⟨fun hreach hmay => ?_, fun hreach hp ha w => ?_, fun hreach => ?_, fun hc => ?_, fun hc => ⟨fun hv => ?_, fun hv he => ?_, fun hv he => ?_⟩, ?_⟩
  · have hopen : ∀ w, exec (.coefWindowWrite path n l i v w) s = .next (coefWrite n l i.toNat v.toNat w u) := fun w =>
      (hwrite w).trans (next_congr (lockedWrite_open hreach hmay))
    refine ⟨fun hcopy hpend => ?_, fun hcopy hpend => ?_, fun hcopy => ?_, fun hcopy w => ?_⟩
    · exact (hopen _).trans (next_congr ((coefWrite_plain hcopy).trans (if_neg (Bool.eq_false_iff.mp hpend))))
    · exact (hopen _).trans (next_congr ((coefWrite_plain hcopy).trans (if_pos hpend)))
    · exact (hopen _).trans (next_congr (coefWrite_atSwap hcopy))
    · exact (hopen _).trans (next_congr (coefWrite_held hcopy))
  · exact (hwrite w).trans (next_congr (lockedWrite_closed hreach hp ha))
  · have hreq : ∀ m, exec (.swapRequest n m) s = .next (swapRequest n m.toNat u) := fun m => next_congr (arbWrite_reached hreach)
    refine ⟨fun hcopy m => (hreq m).trans (next_congr (if_pos hcopy)), fun hcopy => ⟨fun m => ?_, fun hpend => ?_, fun hpend => ?_⟩⟩
    · exact (hreq m).trans (next_congr (swapRequest_each hcopy))
    · exact (hreq _).trans (next_congr ((swapRequest_single hcopy).trans (if_pos hpend)))
    · exact (hreq _).trans (next_congr ((swapRequest_single hcopy).trans (if_neg (Bool.eq_false_iff.mp hpend))))
  · exact next_congr (if_pos (by rw [hc]; rfl))
  · exact next_congr (swapChecked_bad hc hv)
  · exact next_congr ((swapChecked_good hc hv).trans (if_pos he))
  · exact next_congr ((swapChecked_good hc hv).trans (if_neg (Bool.eq_false_iff.mp he)))
  · intro t zero
    exact ⟨swapBank_keeps, swapBank_zeroes⟩

end Sys2Proof.Machine
end

section
/-! PROOFS. The channel sample event and the spindle strobe (chapters 6 to 9). -/

namespace Sys2Proof
namespace Machine

section Sample

variable {n : Ch} {o : SampleObs} {s : State}

/-! ### The sample event (R194) -/

theorem sampleEvent_none (h : s.flag (F.CTL_STAT_LOADED n) = false ∨ events n s ≤ o.path.val) : sampleEvent n o s = s :=
  if_pos (by rcases h with h | h <;> simp [h])

theorem sampleEvent_runs (hl : s.flag (F.CTL_STAT_LOADED n) = true) (he : o.path.val < events n s) (ho : (s.hinge n).overlap = none) :
    sampleEvent n o s =
      let t := eventBegin n o s
      let v := vibInput n o.t t
      let t := t.addSat (F.CTL_FFCFG_STALE_CNT n) v.2
      let shock := shockInput n o.shock t
      let r := engRun n (inCtrl n t) o v.1 shock t
      let x := if otherComputes n t then some (engRun n (otherEng n t) o v.1 shock t) else none
      eventDecide n o r x (eventShow n o r x t) := by
  have hrun : (!s.flag (F.CTL_STAT_LOADED n) || decide (events n s ≤ o.path.val)) = false := by simp [hl, he]
  unfold sampleEvent
  rw [hrun, if_neg Bool.false_ne_true, finishTakeBack_none ho]

variable {e : Bool} {vib shock err step ff : Int} {r : EngRun} {p : Pa}

/-! #### What an engine computes (R190, R193) -/

theorem runCoarse_m : (runCoarse n e err vib shock step ff r s).m = r.m := by
  rcases h : s.bit (F.CTL_LOOPEN_EN n) 0 <;> simp only [runCoarse, h, Bool.not_true, Bool.not_false, Bool.false_eq_true, if_true, if_false]

theorem runCoarse_uC : (runCoarse n e err vib shock step ff r s).uC =
    [if r.m.miss then r.ctx.y[0].2.1 else r.m.ec, vib, shock, (satQ step).1] := by
  rcases h : s.bit (F.CTL_LOOPEN_EN n) 0 <;> simp only [runCoarse, h, Bool.not_true, Bool.not_false, Bool.false_eq_true, if_true, if_false]

theorem runCoarse_yC_off (h : s.bit (F.CTL_LOOPEN_EN n) 0 = false) : (runCoarse n e err vib shock step ff r s).yC = r.ctx.y[0].1 := by
  unfold runCoarse
  rw [h]
  rfl

theorem runFine_m : (runFine n e p vib shock r s).m = r.m := by
  rcases h : s.bit (F.CTL_LOOPEN_EN n) (p.val + 1) <;> simp only [runFine, h, Bool.not_true, Bool.not_false, Bool.false_eq_true, if_true, if_false]

theorem runFine_uC : (runFine n e p vib shock r s).uC = r.uC := by
  rcases h : s.bit (F.CTL_LOOPEN_EN n) (p.val + 1) <;> simp only [runFine, h, Bool.not_true, Bool.not_false, Bool.false_eq_true, if_true, if_false]

theorem runFine_yC : (runFine n e p vib shock r s).yC = r.yC := by
  rcases h : s.bit (F.CTL_LOOPEN_EN n) (p.val + 1) <;> simp only [runFine, h, Bool.not_true, Bool.not_false, Bool.false_eq_true, if_true, if_false]

theorem runFine_uF : (runFine n e p vib shock r s).uF =
    [if r.m.miss then (satQ (finePred n p r.ctx s)).1 else r.m.ep, r.yC, vib, shock] := by
  rcases h : s.bit (F.CTL_LOOPEN_EN n) (p.val + 1) <;> simp only [runFine, h, Bool.not_true, Bool.not_false, Bool.false_eq_true, if_true, if_false]

theorem runFine_yF_off (h : s.bit (F.CTL_LOOPEN_EN n) (p.val + 1) = false) : (runFine n e p vib shock r s).yF = 0 := by
  simp only [runFine, h, Bool.not_false, if_true]

/-- What both loops of an engine start from at an event. -/
def engBegun (n : Ch) (e : Bool) (o : SampleObs) (s : State) : EngRun :=
  let a := refAdvance n (s.eng n e) s
  ⟨a.2.2, measure n o a.2.2 s, [], [], none, none, 0, 0, 0, 0⟩

theorem engRun_eq : engRun n e o vib shock s =
    runFine n e o.path vib shock (runCoarse n e (if e then o.engB.y0err else o.engA.y0err) vib shock (refAdvance n (s.eng n e) s).1
      (refAdvance n (s.eng n e) s).2.1 (engBegun n e o s) s) s :=
  rfl

theorem engRun_m : (engRun n e o vib shock s).m = measure n o (refAdvance n (s.eng n e) s).2.2 s := by
  rw [engRun_eq, runFine_m, runCoarse_m, engBegun]

theorem engRun_uF : ∃ u0, (engRun n e o vib shock s).uF = [u0, (engRun n e o vib shock s).yC, vib, shock] ∧
    ((engRun n e o vib shock s).m.miss = false → u0 = (engRun n e o vib shock s).m.ep) := by
  rw [engRun_eq, runFine_uF, runFine_yC, runFine_m]
  exact ⟨_, rfl, fun hm => if_neg (Bool.eq_false_iff.mp hm)⟩

/-! #### What the arbiter decides (R238, R248) -/

variable {other : Option EngRun}

/-- The engines' outputs are compared where both computed (R237). -/
def eventCompare (n : Ch) (b : Bool) (r : EngRun) (other : Option EngRun) (t : State) : State :=
  match other with
  | some x => compareEngines n (if b then x.yC else r.yC) (if b then r.yC else x.yC) t
  | none => t

/-- Steps 11 and 12 with the inputs of the engines that computed. -/
def eventRest (n : Ch) (o : SampleObs) (b : Bool) (r : EngRun) (other : Option EngRun) (held : Bool) (t : State) : State :=
  eventAfter n o r.m held (computed n ((b, r.uC) :: (other.map fun x => (!b, x.uC)).toList) t)
    (computed n ((b, r.uF) :: (other.map fun x => (!b, x.uF)).toList) t) t

theorem eventDecide_eq : eventDecide n o r other s =
    let a := eventArbiter n o.path.val (if inCtrl n s then o.engB.ready else o.engA.ready) o.engB.copyOk s
    eventRest n o (inCtrl n s) r other a.1 (if a.1 then eventCompare n (inCtrl n s) r other a.2
      else eventCommands n o.path (inCtrl n s) r other (eventCompare n (inCtrl n s) r other a.2)) := by
  unfold eventDecide eventRest eventCompare
  cases other <;> rfl

theorem eventArbiter_cause {cls c : Nat} {copyOk : Bool} (h : (s.hinge n).cause = some c) :
    eventArbiter n cls true copyOk s = (otherReady n s, switchOver n c s) := by
  simp only [eventArbiter, if_true, h]

theorem eventArbiter_none {cls : Nat} {copyOk : Bool} (h : (s.hinge n).cause = none) : eventArbiter n cls true copyOk s =
    (false, if takeBackDue n s then (s.setFlag (F.HINGE_STAT_OVERLAP n) true).modHinge n fun h => { h with overlap := some (cls, copyOk) }
      else gapEvent n s) := by
  simp only [eventArbiter, if_true, h]

end Sample

end Machine

open Machine

/-- Settles O30: the composition of an event, the inputs of the loops, and the cases of the arbiter. -/
theorem sampleEvent : Obligations.SampleEvent := by
  unfold Obligations.SampleEvent
  intro n o r other s p b far
  have hfar : ∀ t, eventCompare n b r other t = far t := fun t => by
    unfold eventCompare
    cases other <;> rfl
  refine ⟨fun h => next_congr (sampleEvent_none h), fun hl he ho => ?_, fun e vib shock => ?_, fun hready => ?_, fun hr => if_pos hr⟩
  · intro t v t' run
    refine next_congr ((sampleEvent_runs hl he ho).trans ?_)
    by_cases hx : otherComputes n t' = true
    · rw [if_pos hx]
      exact congrArg (fun x => eventDecide n o (run (inCtrl n t')) x (eventShow n o (run (inCtrl n t')) x t')) (if_pos hx)
    · rw [if_neg hx]
      exact congrArg (fun x => eventDecide n o (run (inCtrl n t')) x (eventShow n o (run (inCtrl n t')) x t')) (if_neg hx)
  · intro a k
    obtain ⟨u0, huF, hu0⟩ := engRun_uF (n := n) (e := e) (o := o) (vib := vib) (shock := shock) (s := s)
    have huF' : k.uF = [u0, k.yC, vib, shock] := huF
    refine ⟨engRun_m, ?_, by rw [huF']; rfl, by rw [huF']; rfl, fun hm => ?_, fun hoff => ?_, fun hoff => ?_⟩
    · have huC : k.uC = [if (engBegun n e o s).m.miss then (engBegun n e o s).ctx.y[0].2.1 else (engBegun n e o s).m.ec, vib, shock,
          (satQ a.1).1] := runFine_uC.trans runCoarse_uC
      have hm : k.m = (engBegun n e o s).m := runFine_m.trans runCoarse_m
      rw [huC, hm]
      rfl
    · rw [huF', List.head?_cons, hu0 hm]
    · exact runFine_yC.trans (runCoarse_yC_off hoff)
    · exact runFine_yF_off hoff
  · intro us after
    have hdecide : eventDecide n o r other s =
        let a := eventArbiter n p.val true o.engB.copyOk s
        after a.1 (if a.1 then far a.2 else eventCommands n p b r other (far a.2)) := by
      have hfar' : eventCompare n (inCtrl n s) r other = far := funext hfar
      rw [eventDecide_eq, hready, hfar']
      rfl
    refine ⟨fun k hk hother => ?_, fun hk hdue => ?_, fun hk hdue => ?_⟩
    · rw [hdecide, eventArbiter_cause hk, hother]
      rfl
    · rw [hdecide, eventArbiter_none hk, if_pos hdue]
      rfl
    · rw [hdecide, eventArbiter_none hk, if_neg (Bool.eq_false_iff.mp hdue)]
      rfl

namespace Machine

section Strobe

variable {n : Ch} {o : StrobeObs} {s : State}

/-! ### The spindle strobe (R266, R304) -/

theorem clampI_natAbs {m v : Int} (h : 0 ≤ m) : (clampI m v).natAbs ≤ m.natAbs := by
  unfold clampI
  split
  · exact Nat.le_refl _
  · split <;> omega

theorem freshLane_none (h : (s.mot n).runNew = false) : freshLane n s = s :=
  if_neg (Bool.eq_false_iff.mp h)

/-- What a strobe begins with, when no take-back and no failed engine waits. -/
theorem strobeBegun (he : engState n (otherEng n s) s ≠ engFailed) (ho : (s.hinge n).overlap = none) :
    beginRecovery n (finishTakeBack n s) = s := by
  rw [finishTakeBack_none ho, beginRecovery_none he]

theorem strobe_outside (he : engState n (otherEng n s) s ≠ engFailed) (ho : (s.hinge n).overlap = none)
    (hin : motIn n [stAccel, stRun] s = false) (hr : (s.mot n).runNew = false) :
    strobe n o s = hingePost n o.engA o.engB (strobeWork n o [0, 0, 0, 0] s) := by
  simp only [strobe, strobeBegun he ho, hin, freshLane_none hr, Bool.false_eq_true, if_false]

theorem strobe_inside (he : engState n (otherEng n s) s ≠ engFailed) (ho : (s.hinge n).overlap = none)
    (hin : motIn n [stAccel, stRun] s = true) : strobe n o s = hingePost n o.engA o.engB
      (strobeWork n o (strobeInputs n o (freshLane n (strobeJudge n s))).1 (strobeInputs n o (freshLane n (strobeJudge n s))).2) := by
  simp only [strobe, strobeBegun he ho, hin, if_true]

theorem strobeArbiter_none (h : (s.hinge n).cause = none) :
    strobeArbiter n true s = ((s.hinge n).spinGap, s.modHinge n fun h => { h with spinGap := false }) := by
  have hcause : ((s.modHinge n fun h => { h with spinGap := false }).hinge n).cause = none := by rw [State.hinge_modHinge_same]; exact h
  simp only [strobeArbiter, if_true, hcause]

/-- The phase input is off with the heads on the ramp, and where Kettle or the phase lock does not run (R305). -/
def phaseIdle (n : Ch) (s : State) : Bool :=
  !headsOff n s || !s.flag F.KET_ENABLE_EN || !s.flag F.KET_PHCFG_PH_EN || s.flag F.KET_STAT_OVERLENGTH

theorem phaseIdle_iff : phaseIdle n s = true ↔ headsOff n s = false ∨ s.flag F.KET_ENABLE_EN = false ∨ s.flag F.KET_PHCFG_PH_EN = false ∨
    s.flag F.KET_STAT_OVERLENGTH = true := by
  simp [phaseIdle, or_assoc]

variable {index : Int} {t : Nat}

theorem phaseInput_idle (h : phaseIdle n s = true) : phaseInput n index t s = (0, s) :=
  if_pos h

theorem phaseInput_mismatch (h : phaseIdle n s = false) (hr : s.get (F.SCHED_FMT_FMT_RPM n) ≠ s.ket.refRpm) : phaseInput n index t s =
    (0, if s.flag F.KET_STAT_RPM_MISMATCH then s else (s.setFlag F.KET_STAT_RPM_MISMATCH true).raise (hostSrc 10)) :=
  (if_neg (Bool.eq_false_iff.mp h)).trans (if_pos hr)

theorem phaseInput_bounded (h : phaseIdle n s = false) (hr : s.get (F.SCHED_FMT_FMT_RPM n) = s.ket.refRpm) :
    (phaseInput n index t s).1.natAbs ≤ s.get F.KET_PHCFG_U1_LIM * 524288 := by
  have hval : phaseInput n index t s =
      let d := wrapPhase (refPhase t s + stagger n s - index)
      let u := clampI (s.get F.KET_PHCFG_U1_LIM * 524288) d
      (u, if u = d then s else s.inc F.KET_ERR_U1_SAT) := (if_neg (Bool.eq_false_iff.mp h)).trans (if_neg (not_not.mpr hr))
  rw [hval]
  refine (clampI_natAbs (by omega)).trans (Nat.le_of_eq ?_)
  omega

end Strobe

/-- Settles O32, by where the spindle is and what the arbiter and the phase input find. -/
theorem spindleStrobe : Obligations.SpindleStrobe := by
  unfold Obligations.SpindleStrobe
  intro n o ctl other s v ready post idle
  have hexec : exec (.spindleStrobe n o) s = .next (releaseStarts (strobe n o s)) := rfl
  have hbusy : ¬idle → phaseIdle n s = false := fun h => Bool.eq_false_iff.mpr fun e => h (phaseIdle_iff.mp e)
  refine ⟨fun he ho => ⟨fun hin hr => ⟨fun hon => ?_, fun hoff hready hc => ?_⟩, fun hin => ?_⟩, rfl, strobeArbiter_none, ?_,
    fun hi => phaseInput_idle (phaseIdle_iff.mpr hi), fun hi hr => ⟨fun hm => ?_, fun hm => ?_⟩, fun hi hr => phaseInput_bounded (hbusy hi) hr⟩
  · rw [hexec, strobe_outside he ho hin hr]
    exact next_congr (congrArg (fun t => releaseStarts (hingePost n o.engA o.engB t)) (if_pos hon))
  · have hwork : strobeWork n o [0, 0, 0, 0] s = s.modHinge n fun h => { h with spinGap := false } :=
      (if_neg (Bool.eq_false_iff.mp hoff)).trans (congrArg Prod.snd ((congrArg (strobeArbiter n · s) hready).trans (strobeArbiter_none hc)))
    rw [hexec, strobe_outside he ho hin hr, hwork]
  · intro t w
    rw [hexec, strobe_inside he ho hin]
    rfl
  · intro t out
    refine ⟨fun htb => ?_, fun y htb => ?_⟩ <;> unfold torqueOut <;> rw [htb] <;> rfl
  · rw [phaseInput_mismatch (hbusy hi) hr, if_pos hm]
  · rw [phaseInput_mismatch (hbusy hi) hr, if_neg (Bool.eq_false_iff.mp hm)]

end Machine
end Sys2Proof
end

section
/-! PROOFS. The timers of a Kettle node (chapter 9), and what a pass over the channels, a record of the Colophon and the end of a check leave. -/

namespace Sys2Proof.Machine

/-! ### The memories through a pass, a record and the end of a check -/

theorem SameMem.refl (s : State) : SameMem s s :=
  ⟨rfl, rfl, rfl, rfl⟩

theorem SameMem.trans {s t u : State} (h : SameMem s t) (k : SameMem t u) : SameMem s u := by
  obtain ⟨hd, hs, hp, hb⟩ := h
  obtain ⟨kd, ks, kp, kb⟩ := k
  exact ⟨kd.trans hd, ks.trans hs, kp.trans hp, kb.trans hb⟩

theorem sameMem_each {α : Type} {f : α → State → State} (hf : ∀ a t, SameMem t (f a t)) (l : List α) : ∀ s, SameMem s (s.each l f) := by
  induction l with
  | nil => exact SameMem.refl
  | cons a l ih => exact fun s => (hf a s).trans (ih _)

theorem sameMem_coloWrite (src code : Nat) (pl : List Nat) (s : State) : SameMem s (coloWrite src code pl s) := by
  simp only [coloWrite]
  split_ifs <;> exact SameMem.refl s

theorem sameMem_record (src code : Nat) (bs : List Nat) (s : State) : SameMem s (s.record src code bs) := by
  unfold State.record
  split_ifs
  · exact sameMem_coloWrite ..
  · exact SameMem.refl s
  · exact SameMem.refl s

theorem sameMem_checkDone (b r : Nat) (s : State) : SameMem s (checkDone b r s) :=
  sameMem_each (fun c t => by
    dsimp only
    split_ifs <;> exact SameMem.refl t) _ s

/-! ### A pass that changes the servo of each channel -/

theorem State.servo_modServo_other (s : State) (n m : Ch) (f : Servo → Servo) (h : m ≠ n) : (s.modServo n f).servo m = s.servo m := by
  unfold State.servo State.modServo
  rw [State.chan_modChan_other _ _ _ _ h]

theorem servo_eachServo (f : Servo → Servo) {l : List Ch} (hl : l.Nodup) (m : Ch) : ∀ s : State,
    (s.each l fun n u => u.modServo n f).servo m = if m ∈ l then f (s.servo m) else s.servo m := by
  induction l with
  | nil => exact fun s => rfl
  | cons n l ih =>
    intro s
    obtain ⟨hn, hl⟩ := List.nodup_cons.mp hl
    rw [State.each_cons, ih hl]
    by_cases hm : m = n
    · subst hm
      simp [hn]
    · simp [hm, State.servo_modServo_other _ _ _ _ hm]

theorem eachServo_keeps {β : Type} (part : State → β) (hp : ∀ u n f, part (u.modServo n f) = part u) (f : Servo → Servo) (l : List Ch) (s : State) :
    part (s.each l fun n u => u.modServo n f) = part s :=
  State.each_keeps part (fun n u => hp u n f) l s

theorem sameMem_eachServo (f : Servo → Servo) (l : List Ch) (s : State) : SameMem s (s.each l fun n u => u.modServo n f) :=
  sameMem_each (fun _ t => show SameMem t (t.modServo _ f) from SameMem.refl t) l s

theorem mem_allChans (n : Ch) : n ∈ allChans := by fin_cases n <;> decide

theorem servo_eachChan (f : Servo → Servo) (m : Ch) (s : State) :
    (s.each allChans fun n u => u.modServo n f).servo m = f (s.servo m) := by
  rw [servo_eachServo f (by decide), if_pos (mem_allChans m)]

section Kettle

variable {s : State} {t : Nat} {lane : KetLane}

/-! ### Epochs (R299, R307) -/

/-- An epoch of a node that has begun its count (R309). -/
def epochAdvanced (t : Nat) (s : State) : State :=
  ((sendNone s).set F.KET_EPOCH_E ((s.get F.KET_EPOCH_E + 1) % 60000)).modKet fun k => { k with epochT := t }

theorem advanceEpoch_begun (h : s.ket.began = true) : advanceEpoch t (sendNone s) = epochAdvanced t s :=
  if_pos h

theorem epochTick_head (hon : ketOn s = true) (hb : s.ket.began = true) (hh : s.flag F.KET_STAT_HEAD = true) : epochTick t s =
    let u := (((epochAdvanced t s).modKet fun k => { k with refRpm := headRpm s }).set F.KET_STAT_INDEX 0).set F.KET_STAT_G (headGroup s)
    sendDown [epochFrame 0 (headGroup s) false (u.get F.KET_EPOCH_E) 0 (headRpm s)] u := by
  simp only [epochTick, hon, hh, advanceEpoch_begun hb, Bool.not_true, Bool.false_eq_true, if_true, if_false]

theorem epochTick_holdover (hon : ketOn s = true) (hb : s.ket.began = true) (hh : s.flag F.KET_STAT_HEAD = false)
    (ho : s.flag F.KET_STAT_HOLDOVER = true) : epochTick t s =
    let m := (epochAdvanced t s).inc F.KET_EPOCH_MISS_CNT
    if s.flag F.KET_STAT_SEGMENT_HEAD then
      sendDown [epochFrame (s.get F.KET_STAT_INDEX) (s.get F.KET_STAT_G) true (m.get F.KET_EPOCH_E) 0 s.ket.refRpm] m
    else m := by
  simp only [epochTick, hon, hh, ho, advanceEpoch_begun hb, Bool.not_true, Bool.false_eq_true, if_true, if_false]

theorem epochTick_follower (hon : ketOn s = true) (hh : s.flag F.KET_STAT_HEAD = false) (ho : s.flag F.KET_STAT_HOLDOVER = false)
    (hv : s.flag F.KET_STAT_EPOCH_VALID = true) : epochTick t s = sendNone s := by
  simp only [epochTick, hon, hh, ho, hv, Bool.not_true, Bool.false_eq_true, if_true, if_false]

/-! ### Delays, tail, lanes (R292, R298, R301) -/

theorem dreqTick_head (hon : ketOn s = true) (hh : s.flag F.KET_STAT_HEAD = true) : dreqTick t s = sendNone s := by
  simp only [dreqTick, hon, hh, Bool.not_true, Bool.false_eq_true, if_true, if_false]

theorem dreqTick_node (hon : ketOn s = true) (hh : s.flag F.KET_STAT_HEAD = false) : dreqTick t s =
    sendUp [dreqFrame ((s.ket.reqId + 1) % 256)] ((sendNone s).modKet fun k => { k with reqId := (s.ket.reqId + 1) % 256, reqT := some t }) := by
  simp only [dreqTick, hon, hh, Bool.not_true, Bool.false_eq_true, if_false]

theorem tailTick_inner (hon : ketOn s = true) (hs : s.flag F.KET_STAT_SYNC_LOCK = true) : tailTick s = sendNone s := by
  simp only [tailTick, hon, hs, Bool.not_true, Bool.false_eq_true, if_true, if_false]

theorem tailTick_tail (hon : ketOn s = true) (hs : s.flag F.KET_STAT_SYNC_LOCK = false) : tailTick s =
    if s.flag F.KET_STAT_HEAD then (sendNone s).modKet fun k => { k with tail := some 0 }
    else sendUp [tailFrame (s.get F.KET_STAT_INDEX)] (sendNone s) := by
  simp only [tailTick, hon, hs, Bool.not_true, Bool.false_eq_true, if_false]

theorem laneLost_locked (hon : ketOn s = true) (hl : s.flag (laneField lane) = true) : laneLost lane s =
    if lane = .down then (s.setFlag (laneField lane) false).raise (hostSrc 5) else s.setFlag (laneField lane) false := by
  simp only [laneLost, hon, hl, Bool.not_true, Bool.or_self, Bool.false_eq_true, if_false]
  cases lane <;> rfl

theorem laneLost_none (hl : s.flag (laneField lane) = false) : laneLost lane s = s :=
  if_pos (by simp [hl])

theorem holdover_begins (hon : ketOn s = true) (hh : s.flag F.KET_STAT_HEAD = false) (ho : s.flag F.KET_STAT_HOLDOVER = false) :
    holdover s = (s.setFlag F.KET_STAT_HOLDOVER true).raise (hostSrc 6) :=
  if_neg (by simp [hon, hh, ho])

theorem segmentHead_begins (hon : ketOn s = true) (ho : s.flag F.KET_STAT_HOLDOVER = true) (hl : s.flag F.KET_STAT_IN_LOCK = false)
    (hr : s.get F.KET_CFG_ROLE ≠ 2) (hs : s.flag F.KET_STAT_SEGMENT_HEAD = false) :
    segmentHead s = (s.setFlag F.KET_STAT_SEGMENT_HEAD true).raise (hostSrc 7) :=
  if_pos (by simp [hon, ho, hl, hr, hs])

theorem segmentHead_none (h : s.flag F.KET_STAT_HOLDOVER = false ∨ s.flag F.KET_STAT_IN_LOCK = true ∨ s.get F.KET_CFG_ROLE = 2) :
    segmentHead s = s :=
  if_neg (by rcases h with h | h | h <;> simp [h])

theorem autoHead_begins (hon : ketOn s = true) (hr : s.get F.KET_CFG_ROLE = 0 ∨ s.get F.KET_CFG_ROLE = 3)
    (hl : s.flag F.KET_STAT_IN_LOCK = false) (hv : s.flag F.KET_STAT_EPOCH_VALID = false) : autoHead s =
      ((s.setFlag F.KET_STAT_HEAD true).setFlag F.KET_STAT_HOLDOVER false).setFlag F.KET_STAT_SEGMENT_HEAD false :=
  if_pos (by simp [hon, hr, hl, hv])

theorem autoHead_none (h : s.get F.KET_CFG_ROLE = 1 ∨ s.get F.KET_CFG_ROLE = 2 ∨ s.flag F.KET_STAT_IN_LOCK = true) : autoHead s = s :=
  if_neg (by rcases h with h | h | h <;> simp [h])

/-! ### Vibration samples (R306) -/

variable {sample : W16}

/-- The sensor's word is taken as the node's own term and shown (R306). -/
def vibTaken (sample : W16) (t : Nat) (s : State) : State :=
  ((putVib 0 sample.toInt t (sendNone s)).set F.KET_VIBSTAT_SAMPLE sample.toNat).modKet fun k => { k with mosi := s.get F.KET_VIBCFG_READ_CMD }

/-- A frame leaves on both lanes (R306). -/
def vibCast (f : List Nat) (u : State) : State := sendUp [f] (sendDown [f] (u.modKet fun k => { k with vibSeq := (k.vibSeq + 1) % 256 }))

theorem vibCast_lanes (f : List Nat) (u : State) :
    (vibCast f u).ket.up = [f] ∧ (vibCast f u).ket.down = [f] ∧ (vibCast f u).ket.vibSeq = (u.ket.vibSeq + 1) % 256 :=
  ⟨rfl, rfl, rfl⟩

theorem vibCast_keeps (f : List Nat) (u : State) : (vibCast f u).chans = u.chans ∧ (vibCast f u).ket.mosi = u.ket.mosi ∧
    (vibCast f u).regs = u.regs ∧ SameMem u (vibCast f u) ∧ (vibCast f u).host = u.host :=
  ⟨rfl, rfl, rfl, SameMem.refl u, rfl⟩

theorem vibRead_on (hon : ketOn s = true) (he : s.flag F.KET_VIBCFG_EN = true) : vibRead sample t s =
    if s.flag F.KET_VIBCFG_BCAST_EN then
      vibCast (vibFrame (s.get F.KET_STAT_INDEX) 2 sample.toNat s.ket.vibSeq) (vibTaken sample t s)
    else vibTaken sample t s :=
  if_neg (by simp [hon, he])

theorem ket_putVib (j : Fin 5) (v : Int) (u : State) : (putVib j v t u).ket = u.ket := by
  unfold putVib
  rw [eachServo_keeps State.ket fun _ _ _ => rfl]

theorem regs_putVib (j : Fin 5) (v : Int) (u : State) : (putVib j v t u).regs = u.regs := by
  unfold putVib
  rw [eachServo_keeps State.regs fun _ _ _ => rfl]

theorem host_putVib (j : Fin 5) (v : Int) (u : State) : (putVib j v t u).host = u.host := by
  unfold putVib
  rw [eachServo_keeps State.host fun _ _ _ => rfl]

theorem sameMem_putVib (j : Fin 5) (v : Int) (u : State) : SameMem u (putVib j v t u) := by
  unfold putVib
  exact sameMem_eachServo ..

theorem vib_putVib (j : Fin 5) (v : Int) (u : State) (n : Ch) :
    ((putVib j v t u).servo n).vib = (u.servo n).vib.set j (some (v, t)) := by
  unfold putVib
  rw [servo_eachChan]

theorem ket_vibTaken : (vibTaken sample t s).ket = { (sendNone s).ket with mosi := s.get F.KET_VIBCFG_READ_CMD } := by
  rw [vibTaken, State.modKet, State.set_ket, ket_putVib]

theorem get_vibTaken (hs : s.canon) : (vibTaken sample t s).get F.KET_VIBSTAT_SAMPLE = sample.toNat := by
  have hwf : (putVib 0 sample.toInt t (sendNone s)).regs.wf = true := by
    rw [regs_putVib]
    exact hs.1
  rw [vibTaken, State.modKet_get, State.get_set_same _ _ _ hwf]
  exact Nat.mod_eq_of_lt sample.isLt

theorem vib_vibTaken (n : Ch) : ((vibTaken sample t s).servo n).vib = (s.servo n).vib.set 0 (some (sample.toInt, t)) := by
  rw [vibTaken, State.modKet_servo, State.set_servo, vib_putVib]
  rfl

theorem sameMem_shown (u : State) (f : Fld) (v : Nat) (g : Ket → Ket) : SameMem u ((u.set f v).modKet g) :=
  SameMem.refl u

theorem sameMem_vibTaken : SameMem s (vibTaken sample t s) := by
  rw [vibTaken]
  exact (show SameMem s (sendNone s) from SameMem.refl s).trans ((sameMem_putVib 0 sample.toInt (sendNone s)).trans (sameMem_shown ..))

theorem host_vibTaken : (vibTaken sample t s).host = s.host := by
  rw [vibTaken, State.modKet_host, State.set_host, host_putVib]
  rfl

/-! ### Enable and reset (R309, R310) -/

theorem ketEnable_busy (h : s.flag F.KET_ENABLE_EN = true ∨ s.ket.checking = true) : ketEnable true s = s :=
  (if_pos rfl).trans (if_pos (by simpa using h))

theorem ketEnable_begins (he : s.flag F.KET_ENABLE_EN = false) (hc : s.ket.checking = false) :
    ketEnable true s = (applyProfile noAct 0x900000 0xA00000 s).modKet fun k => { k with checking := true } :=
  (if_pos rfl).trans (if_neg (by simp [he, hc]))

/-- The node after the reset of its block, before the neighbours' terms are cleared. -/
def ketCleared (s : State) : State := { ((checkDone 10 0 (resetRecord 6 0 s)).resetRegs 0x900000 0xA00000) with ket := Ket.reset }

theorem ketReset_eq : ketReset s = (ketCleared s).each allChans fun n u => u.modServo n fun x => { x with vib := Vector.replicate 5 none } :=
  rfl

theorem ket_ketReset : (ketReset s).ket = Ket.reset := by
  rw [ketReset_eq, eachServo_keeps State.ket fun _ _ _ => rfl, ketCleared]

theorem vib_ketReset (n : Ch) : ((ketReset s).servo n).vib = Vector.replicate 5 none := by
  rw [ketReset_eq, servo_eachChan]

theorem sameMem_ketReset : SameMem s (ketReset s) := by
  rw [ketReset_eq]
  exact ((sameMem_record ..).trans (sameMem_checkDone 10 0 (resetRecord 6 0 s))).trans (sameMem_eachServo _ allChans (ketCleared s))

end Kettle

/-- Settles O34, by the state of the link and the role of the node in each row. -/
theorem kettleTicks : Obligations.KettleTicks := by
  unfold Obligations.KettleTicks
  intro sample t lane s quiet role lock adv
  have hlock : lock = laneField lane := by cases lane <;> rfl
  refine ⟨fun hoff => ?_, fun hon hb => ⟨fun hh => ?_, fun hh ho => ?_, fun hh ho hv => next_congr (epochTick_follower hon hh ho hv)⟩,
    fun hon => ?_, fun hreach => ?_, ?_⟩
  · refine ⟨next_congr (if_pos ?_), next_congr (if_pos ?_), next_congr (if_pos ?_), next_congr (if_pos ?_), next_congr (if_neg ?_),
      next_congr (if_pos ?_), next_congr (if_pos ?_), next_congr (if_neg ?_), next_congr (if_neg ?_)⟩ <;> simp [hoff]
  · exact ⟨epochTick t s, rfl, by rw [epochTick_head hon hb hh]; rfl, by rw [epochTick_head hon hb hh]; rfl,
      by rw [epochTick_head hon hb hh]; rfl, by rw [epochTick_head hon hb hh]; rfl, by rw [epochTick_head hon hb hh]; exact SameMem.refl s,
      by rw [epochTick_head hon hb hh]; rfl, by rw [epochTick_head hon hb hh]; rfl⟩
  · intro m
    exact ⟨fun hs => next_congr ((epochTick_holdover hon hb hh ho).trans (if_neg (Bool.eq_false_iff.mp hs))),
      fun hs => next_congr ((epochTick_holdover hon hb hh ho).trans (if_pos hs))⟩
  · refine ⟨fun hh => next_congr (dreqTick_head hon hh), fun hh => next_congr (dreqTick_node hon hh), fun hs => next_congr (tailTick_inner hon hs),
      fun hs hh => next_congr ((tailTick_tail hon hs).trans (if_neg (Bool.eq_false_iff.mp hh))),
      fun hs hh => next_congr ((tailTick_tail hon hs).trans (if_pos hh)), fun he => next_congr (if_pos (by simp [he])), fun he => ?_, ?_,
      fun hl => next_congr (laneLost_none (hlock ▸ hl)), fun hl => ?_, fun hh ho => next_congr (holdover_begins hon hh ho),
      fun h => next_congr (if_pos (by rcases h with h | h <;> simp [h])), fun ho hl hr hs => next_congr (segmentHead_begins hon ho hl hr hs),
      fun h => next_congr (segmentHead_none h), fun hr hl hv => next_congr (autoHead_begins hon hr hl hv), fun h => next_congr (autoHead_none h)⟩
    · refine ⟨vibRead sample t s, rfl, ?_⟩
      rw [vibRead_on hon he]
      by_cases hb : s.flag F.KET_VIBCFG_BCAST_EN = true
      · rw [if_pos hb]
        obtain ⟨hup, hdown, hseq⟩ := vibCast_lanes (vibFrame (s.get F.KET_STAT_INDEX) 2 sample.toNat s.ket.vibSeq) (vibTaken sample t s)
        obtain ⟨hchans, hmosi, hregs, hmem, hhost⟩ := vibCast_keeps (vibFrame (s.get F.KET_STAT_INDEX) 2 sample.toNat s.ket.vibSeq) (vibTaken sample t s)
        refine ⟨fun n => ?_, hmosi.trans (congrArg Ket.mosi ket_vibTaken), fun hc => ?_, fun _ => ⟨hup.trans hdown.symm, hdown, hseq.trans ?_⟩,
          fun h => absurd (hb.symm.trans h) (by decide), sameMem_vibTaken.trans hmem, hhost.trans host_vibTaken⟩
        · refine Eq.trans ?_ (vib_vibTaken n)
          rw [State.servo, State.chan, hchans]
          rfl
        · refine Eq.trans ?_ (get_vibTaken (t := t) hc)
          rw [State.get, hregs]
          rfl
        · rw [ket_vibTaken]
          rfl
      · rw [if_neg hb]
        exact ⟨vib_vibTaken, congrArg Ket.mosi ket_vibTaken, get_vibTaken, fun h => absurd h hb,
          fun _ => ⟨congrArg Ket.up ket_vibTaken, congrArg Ket.down ket_vibTaken⟩, sameMem_vibTaken, host_vibTaken⟩
    · rw [hlock]
      exact next_congr (if_pos hon)
    · rw [hlock] at hl ⊢
      exact next_congr (laneLost_locked hon hl)
  · intro u
    have hexec : ∀ en, exec (.ketEnable en) s = .next (ketEnable en u) := fun en => next_congr (arbWrite_reached hreach)
    exact ⟨fun h => (hexec _).trans (next_congr (ketEnable_busy h)), fun he hc => (hexec _).trans (next_congr (ketEnable_begins he hc)), hexec false⟩
  · obtain ⟨hd, hs, -, -⟩ := sameMem_ketReset (s := s)
    exact ⟨ketReset s, rfl, ket_ketReset, vib_ketReset, hd, hs⟩

end Sys2Proof.Machine
end

section
/-! PROOFS. The states of the Flyleaf (chapter 12): enable, disable, start, dies, the warm level, and its block reset. -/

namespace Sys2Proof.Machine

section FlyStates

variable {s : State}

/-! ### Enable and disable (R383, R408, R410) -/

theorem flyEnable_busy (h : s.flag F.FLY_ENABLE_EN = true ∨ s.fly.checking = true) : flyEnable s = s :=
  if_pos (by simpa using h)

theorem flyEnable_begins (he : s.flag F.FLY_ENABLE_EN = false) (hc : s.fly.checking = false) :
    flyEnable s = (applyProfile noAct 0x800000 0x900000 s).modFly fun y => { y with checking := true } :=
  if_neg (by simp [he, hc])

theorem flyDisable_checking (hc : s.fly.checking = true) : flyDisable s = checkDone 8 0 (s.modFly fun y => { y with checking := false }) :=
  if_pos hc

theorem flyDisable_off (hc : s.fly.checking = false) (he : s.flag F.FLY_ENABLE_EN = false) : flyDisable s = s :=
  (if_neg (Bool.eq_false_iff.mp hc)).trans (if_pos (by simp [he]))

theorem flyDisable_live (hc : s.fly.checking = false) (he : s.flag F.FLY_ENABLE_EN = true) (hl : s.fly.live ≠ []) :
    flyDisable s = s.set F.FLY_ENABLE_REASON 0x25 := by
  simp only [flyDisable, hc, he, List.isEmpty_eq_false_iff.mpr hl, Bool.not_true, Bool.not_false, Bool.true_or, Bool.false_eq_true, if_true, if_false]

theorem flyDisable_empty (hc : s.fly.checking = false) (he : s.flag F.FLY_ENABLE_EN = true) (hl : s.fly.live = []) (hf : s.fly.flight = [])
    (hst : s.get F.FLY_STAT_STATE ≠ 1) : flyDisable s =
      let t := ((((checkpoint true true s).setFlag F.FLY_ENABLE_EN false).set F.FLY_STAT_STATE 0).setFlag F.COLO_STAT_MIRROR false)
      let t := (t.setFlag F.FLY_STAT_FG_GC false).setFlag F.FLY_STAT_HOLD false
      fallBackAll (t.modFly fun y => { y with
        flight := [], victim := none, gcQ := [], gcDst := [], gcBms := [], target := [], warm := [], warmPend := [], packC := [], wasOff := true }) := by
  have hb : (s.get F.FLY_STAT_STATE == 1) = false := beq_eq_false_iff_ne.mpr hst
  simp only [flyDisable, hc, he, hl, hf, hb, List.isEmpty_nil, List.any_nil, Bool.not_true, Bool.or_self, Bool.false_eq_true, if_false]

/-- In the safe state, or with a pool that is not well set up, the check refuses. -/
theorem flyReason_safe {o : CheckObs} (h : s.flag F.FAULT_STAT_SAFE = true) : flyReason o s = 0x1F ∨ flyReason o s = 0x0C := by
  rcases hp : poolsBad s
  · exact .inl (by simp only [flyReason, hp, h, Bool.false_eq_true, if_true, if_false])
  · exact .inr (by simp only [flyReason, hp, if_true])

theorem flyCheckEnd_eq {o : CheckObs} : flyCheckEnd o s = if s.fly.checking = false then s else
    let t := s.modFly fun y => { y with checking := false, dies := o.dies.zipIdx.map fun d => (d.2, d.1.blocks) }
    checkDone 8 (flyReason o t) (if flyReason o t = 0 then flyPass t else t.set F.FLY_ENABLE_REASON (flyReason o t)) := by
  rcases hc : s.fly.checking <;> simp only [flyCheckEnd, hc] <;> rfl

theorem ketCheckEnd_refused (hc : s.ket.checking = true) (hr : ketReason s ≠ 0) :
    ketCheckEnd s = (s.modKet fun k => { k with checking := false }).set F.KET_ENABLE_REASON (ketReason s) := by
  simp only [ketCheckEnd, hc, hr, Bool.not_true, Bool.false_eq_true, ne_eq, not_false_eq_true, if_true, if_false]

/-! ### Start (R410 to R412) -/

theorem journalRead_full {i : Fin 2} {c : Ckpt} (hu : s.fly.ckUse = some i) (hc : s.fly.ckpts[i] = some c) (hf : c.full = true) :
    journalRead s = s.modFly fun y => { y with live := c.live, bms := c.bms, nextSeq := c.seq, pot := max y.pot c.pot } := by
  simp only [journalRead, hu, Option.bind_some, hc, hf, if_true]

/-- What a start has found, with its time. -/
def flyFound (bad : List Nat) (s : State) : State :=
  let a := loseStale (journalRead s)
  let b := rebuildBuffer (liveEntries a.fly.live a) bad a
  (b.modFly fun y => { y with startMs := b.fresh.toNat % 4294967296 }).used

/-- The state a start ends in, shown. -/
def flyStarted (v : Nat) (ro : Bool) (c : State) : State :=
  flySync (coloMirrorOn (bkSync ((c.set F.FLY_STAT_STATE v).setFlag F.NVME_BKSTAT_DRAM_ONLY ro)))

theorem flyStart_eq {bad : List Nat} (h : s.get F.FLY_STAT_STATE = 1) : flyStart bad s =
    let c := flyFound bad s
    let t := flyStarted (if c.fly.roRec then (if c.fly.drained then 4 else 3) else 2) c.fly.roRec c
    pump (if c.fly.roRec then fallBackAll t else packFull true t.fly.packH.length t) :=
  if_neg (by simp [h])

theorem flyStart_none {bad : List Nat} (h : s.get F.FLY_STAT_STATE ≠ 1) : flyStart bad s = s :=
  if_pos (bne_iff_ne.mpr h)

/-! ### Dies (R406, R407) -/

theorem dieFail_out {die : Nat} {dead : Bool} (h : s.bit F.FLY_DIE_IN_SERVICE die = false) : dieFail die dead s = s :=
  if_neg (by simp [h])

theorem dieFail_dead {die : Nat} (h : s.bit F.FLY_DIE_IN_SERVICE die = true) : dieFail die true s = dieOut die s :=
  if_pos (by simp [h])

theorem dieFail_worn {die : Nat} (h : s.bit F.FLY_DIE_IN_SERVICE die = true) :
    dieFail die false s = if s.get F.FLY_DIE_DIE_FAIL_BLK < retiredHour die s then dieOut die s else s := by
  simp [dieFail, h]

/-! ### The warm level (R414, R415) -/

variable {sn way load : Nat} {v : Way}

theorem warmOffer_none (h : s.way sn way = none) : warmOffer sn way load s = s := by
  simp only [warmOffer, h]

theorem warmOffer_declined (hv : s.way sn way = some v) (ho : v.offered = true) (ha : warmAccepts load s = false) :
    warmOffer sn way load s = offerEnd sn way false (s.modFly fun y => { y with warmDec := y.warmDec + 1 }) := by
  simp only [warmOffer, hv, ho, ha, Bool.not_true, Bool.false_eq_true, if_false]

/-- The sixteen entries of a line that the warm level takes (R414). -/
def warmEntries (v : Way) (s : State) : List FEntry :=
  (List.range 16).map fun i => ⟨0, v.line * 16 + i, 1, v.nsid, s.fly.nsgen.get v.nsid, 7, false, false, i, 16, 0, 0, 0, 0, 0, waySector v i s, none⟩

theorem warmOffer_accepted (hv : s.way sn way = some v) (ho : v.offered = true) (ha : warmAccepts load s = true) :
    warmOffer sn way load s = flyPush false (warmEntries v s) (s.modFly fun y =>
      { y with warmAcc := y.warmAcc + 1, warmPend := y.warmPend ++ [(v.nsid, v.line, 16, 0)] }) := by
  simp only [warmOffer, hv, ho, ha, Bool.not_true, Bool.false_eq_true, if_true, if_false]
  rfl

theorem mem_warmEntries {e : FEntry} (h : e ∈ warmEntries v s) : e.kind = 7 ∧ e.nsid = v.nsid ∧ e.lba / 16 = v.line ∧ e.cnt = 1 := by
  obtain ⟨i, hi, rfl⟩ := List.mem_map.mp h
  have hlt := List.mem_range.mp hi
  refine ⟨rfl, rfl, ?_, rfl⟩
  show (v.line * 16 + i) / 16 = v.line
  omega

theorem warmRead_noReader {nsid line : Nat} (hw : s.fly.warm.contains (nsid, line) = true) (hr : s.fly.warmW = []) :
    warmRead nsid line true s = s := by
  simp only [warmRead, hw, hr, Bool.and_self, if_true, List.filter_nil, State.each_nil]

theorem warmMiss_noReader {nsid line : Nat} (hr : s.fly.warmW = []) : warmMiss nsid line s = s := by
  have hkeep : (s.modFly fun y => { y with warmW := y.warmW.filter fun w => w.2 != (nsid, line) }) = s := by
    simp only [State.modFly, hr, List.filter_nil]
    rw [← hr]
  simp only [warmMiss, hkeep, hr, List.filter_nil, State.each_nil]

theorem warmRead_failed {nsid line : Nat} (hr : s.fly.warmW = []) : warmRead nsid line false s = warmDrop nsid (16 * line) 16 s :=
  (if_neg (by simp)).trans (warmMiss_noReader hr)

/-! ### Block reset (R418) -/

theorem get_coloWrite {src code : Nat} {pl : List Nat} {f : Fld} (h : f.key ≠ F.COLO_STAT_LOST.key) : (coloWrite src code pl s).get f = s.get f := by
  simp only [coloWrite]
  split_ifs
  · rfl
  · exact State.get_setFlag_other _ _ _ _ h
  · rfl

theorem get_record {src code : Nat} {bs : List Nat} {f : Fld} (h : f.key ≠ F.COLO_STAT_LOST.key) : (s.record src code bs).get f = s.get f := by
  unfold State.record
  split_ifs
  · exact get_coloWrite h
  · rfl
  · rfl

theorem parts_coloWrite (src code : Nat) (pl : List Nat) : (coloWrite src code pl s).host = s.host ∧ (coloWrite src code pl s).fly = s.fly := by
  simp only [coloWrite]
  split_ifs <;> exact ⟨rfl, rfl⟩

/-- A record of the Colophon changes nothing of the host side and of the Flyleaf. -/
theorem parts_record (src code : Nat) (bs : List Nat) : (s.record src code bs).host = s.host ∧ (s.record src code bs).fly = s.fly := by
  unfold State.record
  split_ifs
  · exact parts_coloWrite ..
  · exact ⟨rfl, rfl⟩
  · exact ⟨rfl, rfl⟩

/-- With no command, nothing to check and no writable journal the reset of the block only forgets (R418). -/
theorem flyReset_quiet (hr : s.rst.chip = none) (hc : s.host.cmds = []) (hst : s.get F.FLY_STAT_STATE ≠ 2) (hk : s.fly.checking = false) :
    flyReset s = flyRegs (flyForget (resetRecord 6 1 s)) := by
  obtain ⟨hhost, hfly⟩ := parts_record (s := s) (hostIdent 0xB) 0x0200 [6, 1]
  have hcmds : (resetRecord 6 1 s).host.cmds = [] := (congrArg HostSt.cmds hhost).trans hc
  have hcheck : (resetRecord 6 1 s).fly.checking = false := (congrArg Fly.checking hfly).trans hk
  have hstate : ((resetRecord 6 1 s).get F.FLY_STAT_STATE == 2) = false :=
    beq_eq_false_iff_ne.mpr fun e => hst ((get_record (by decide)).symm.trans e)
  simp only [flyReset, hr, hstate, hcheck, hcmds, Option.isSome_none, Bool.false_eq_true, if_false, List.filter_nil, State.each_nil]

end FlyStates

/-- Settles O36, by the branches of each row. -/
theorem flyStates : Obligations.FlyStates := by
  unfold Obligations.FlyStates
  intro die sn way load nsid line dead ok o n bad s f u st
  refine ⟨fun hreach => ?_, next_congr flyCheckEnd_eq, fun hc => next_congr (if_neg (Bool.eq_false_iff.mp hc)), fun hc hr => next_congr ?_, rfl, rfl,
    flyReason_safe, fun h => next_congr (flyStart_none h), fun h => ?_, fun i c => journalRead_full,
    fun h => next_congr (congrArg fallBackAll (dieFail_out h)), fun h => next_congr (congrArg fallBackAll (dieFail_dead h)),
    fun h => next_congr (congrArg fallBackAll (dieFail_worn h)), fun hs hl => next_congr (if_pos ?_), fun h => next_congr (if_neg ?_),
    fun h => next_congr ?_, fun v hrun hv ho => ⟨fun h => next_congr ?_, fun he hs hf hl => ?_⟩, fun hok hw hr => next_congr ?_,
    fun hok hr => next_congr ?_, fun h => next_congr (if_pos (Option.isSome_iff_ne_none.mpr h)),
    fun hr hc hst hk => next_congr (flyReset_quiet hr hc hst hk)⟩
  · have hen : exec .flyEnable s = .next (flyEnable u) := next_congr (arbWrite_reached hreach)
    have hdis : exec .flyDisable s = .next (flyDisable u) := next_congr (arbWrite_reached hreach)
    rw [hen, hdis]
    exact ⟨fun h => next_congr (flyEnable_busy h), fun he hc => next_congr (flyEnable_begins he hc), fun hc => next_congr (flyDisable_checking hc),
      fun hc he => next_congr (flyDisable_off hc he), fun hc he hl => next_congr (flyDisable_live hc he hl),
      fun hc he hl hf hst => next_congr (flyDisable_empty hc he hl hf hst)⟩
  · exact (if_pos hc).trans (congrArg (checkDone 10 (ketReason s)) (ketCheckEnd_refused hc hr))
  · intro a b c d
    refine ⟨fun hro => next_congr ((flyStart_eq h).trans ?_), fun hro => next_congr ((flyStart_eq h).trans ?_)⟩
    · have hro' : (flyFound bad s).fly.roRec = false := hro
      simp only [hro', Bool.false_eq_true, if_false]
      rfl
    · have hro' : (flyFound bad s).fly.roRec = true := hro
      simp only [hro', if_true]
      rfl
  · simp [show s.get F.FLY_STAT_STATE = 3 from hs, show s.fly.live = [] from hl]
  · rcases h with h | h
    · simp [show s.get F.FLY_STAT_STATE ≠ 3 from h]
    · simp [show s.fly.live ≠ [] from h]
  · by_cases hst : stopped s = true
    · exact if_pos hst
    · exact (if_neg hst).trans (warmOffer_none (h.resolve_left hst))
  · refine (if_neg (Bool.eq_false_iff.mp hrun)).trans (warmOffer_declined hv ho ?_)
    rcases h with h | h | h | h
    · simp [warmAccepts, h]
    · simp [warmAccepts, show s.get F.FLY_STAT_STATE ≠ 2 from h]
    · simp [warmAccepts, h]
    · simp [warmAccepts, h]
  · refine ⟨warmEntries v s, by simp [warmEntries], fun e => mem_warmEntries,
      next_congr ((if_neg (Bool.eq_false_iff.mp hrun)).trans (warmOffer_accepted hv ho ?_))⟩
    simp [warmAccepts, he, show s.get F.FLY_STAT_STATE = 2 from hs, hf, hl]
  · rw [hok]
    exact warmRead_noReader hw hr
  · rw [hok]
    exact warmRead_failed hr

end Sys2Proof.Machine
end

section
/-! PROOFS. The copy engine (chapter 15): its rings, its descriptors and their ends. -/

namespace Sys2Proof.Machine

section Dma

variable {c : Ch} {s : State}

/-! ### The ring (R490, R493) -/

theorem dmaKick_eq (t : State) : dmaKick c t = if dmaReady c t = false then t
    else if dmaRefused (dmaDesc c t) = true then dmaEnd c 5 (t.fresh.toNat % 4294967296) t.used else t.setFlag (F.DMA_STAT_BUSY c) true := by
  rcases h : dmaReady c t <;> simp only [dmaKick, h] <;> rfl

theorem dmaAbort_idle {done : Nat} (h : s.flag (F.DMA_STAT_BUSY c) = false) : dmaAbort c done s = s :=
  if_pos (by simp [h])

theorem dmaAbort_busy {done : Nat} (h : s.flag (F.DMA_STAT_BUSY c) = true) : dmaAbort c done s =
    let q := dmaCopy c [] [] (min done ((dmaDesc c s).len / 2 ^ (dmaDesc c s).dstW)) s
    dmaStop 80 q.1.aborts (dmaEnd c 6 (q.1.issued * 2 ^ (dmaDesc c s).dstW) q.2) :=
  if_neg (by simp [h])

theorem dmaDone_idle {rdErr wrErr : List Nat} (h : s.flag (F.DMA_STAT_BUSY c) = false) : dmaDone c rdErr wrErr s = s :=
  if_pos (by simp [h])

theorem dmaDone_busy {rdErr wrErr : List Nat} (h : s.flag (F.DMA_STAT_BUSY c) = true) : dmaDone c rdErr wrErr s =
    let x := dmaDesc c s
    let q := dmaCopy c rdErr wrErr (x.len / 2 ^ x.dstW) s
    let e := if q.1.cut.isSome then (6, q.1.issued * 2 ^ x.dstW, q.2) else dmaResult x q.1 q.2
    dmaKick c (dmaStop 80 q.1.aborts (dmaEnd c e.1 e.2.1 e.2.2)) :=
  if_neg (by simp [h])

theorem dmaStop_nil (fuel : Nat) : dmaStop fuel [] s = s := by
  cases fuel <;> rfl

theorem dmaStop_idle {fuel : Nat} {cs : List Ch} (h : s.flag (F.DMA_STAT_BUSY c) = false) : dmaStop (fuel + 1) (c :: cs) s = dmaStop fuel cs s :=
  if_pos (by simp [h])

/-- An address beyond the two spaces is one of 63 bits or more (R490). -/
theorem one_lt_space (a : Nat) : 1 < a / 2 ^ 62 ↔ 2 ^ 63 ≤ a := by
  rw [Nat.lt_div_iff_mul_lt (by decide)]
  omega

theorem dmaRefused_iff {d : DmaDesc} : dmaRefused d = true ↔ d.srcW = 7 ∨ d.dstW = 7 ∨ 2 ^ 63 ≤ d.src ∨ 2 ^ 63 ≤ d.dst ∨
    d.src % 2 ^ d.srcW ≠ 0 ∨ d.dst % 2 ^ d.dstW ≠ 0 ∨ d.len % 2 ^ max d.srcW d.dstW ≠ 0 ∨ d.len = 0 := by
  simp only [dmaRefused, Bool.or_eq_true, beq_iff_eq, decide_eq_true_eq, bne_iff_ne, one_lt_space, or_assoc]

/-! ### The end of a descriptor (R494, R495) -/

variable {d : DmaDesc} {r : DmaRun}

theorem dmaResult_write {i : Nat} {is : List Nat} (h : r.failed = i :: is) (hi : is ≠ [] ∨ i + 1 ≠ d.len / 2 ^ d.dstW) :
    dmaResult d r s = (3, i * 2 ^ d.dstW, s) := by
  simp only [dmaResult, h]
  exact if_neg (by rcases hi with hi | hi <;> simp [hi])

theorem dmaResult_last (h : r.failed = [d.len / 2 ^ d.dstW - 1]) (hl : 0 < d.len / 2 ^ d.dstW) :
    dmaResult d r s = (4, d.len - 2 ^ d.dstW, s) := by
  simp only [dmaResult, h, List.isEmpty_nil, Nat.sub_add_cancel hl, beq_self_eq_true, Bool.and_self, if_true]

theorem dmaResult_read (h : r.failed = []) (hr : r.noRead = true) : dmaResult d r s = (2, r.issued * 2 ^ d.dstW, s) := by
  simp only [dmaResult, h, hr, if_true]

theorem dmaResult_done (h : r.failed = []) (hr : r.noRead = false) : (dmaResult d r s).1 = 1 := by
  simp only [dmaResult, h, hr, Bool.false_eq_true, if_false]

variable {code ofs : Nat}

/-- What the end of a descriptor shows in the channel's registers, before a code other than DONE halts it. -/
def dmaShown (c : Ch) (code ofs : Nat) (s : State) : State :=
  let t := { s with dram := s.dram.setRun (dmaDescAt c s + 24) (bytesLe 4 code ++ bytesLe 4 ofs) }
  let t := t.set (F.DMA_STAT_HEAD c) ((t.get (F.DMA_STAT_HEAD c) + 1) % 2 ^ (min 12 (t.get (F.DMA_CTL_SIZE c)) + 4))
  (t.set (F.DMA_STAT_LAST c) code).setFlag (F.DMA_STAT_BUSY c) false

theorem dmaEnd_done : dmaEnd c 1 ofs s = dmaShown c 1 ofs s := rfl

theorem dmaEnd_halts (h : code ≠ 1) :
    dmaEnd c code ofs s = ((dmaShown c code ofs s).setFlag (F.DMA_STAT_HALTED c) true).raise (hostSrc 30) 0xFFFF code :=
  if_pos (bne_iff_ne.mpr h)

/-- Any field but HALTED reads as the end of the descriptor shows it. -/
theorem get_dmaEnd {f : Fld} (hf : f.key ≠ (F.DMA_STAT_HALTED c).key) : (dmaEnd c code ofs s).get f = (dmaShown c code ofs s).get f := by
  by_cases h : code = 1
  · rw [h, dmaEnd_done]
  · rw [dmaEnd_halts h, State.raise_get, State.get_setFlag_other _ _ _ _ hf]

theorem keys_dmaStat : (F.DMA_STAT_BUSY c).key ≠ (F.DMA_STAT_HALTED c).key ∧ (F.DMA_STAT_LAST c).key ≠ (F.DMA_STAT_HALTED c).key ∧
    (F.DMA_STAT_HEAD c).key ≠ (F.DMA_STAT_HALTED c).key ∧ (F.DMA_STAT_LAST c).key ≠ (F.DMA_STAT_BUSY c).key ∧
    (F.DMA_STAT_HEAD c).key ≠ (F.DMA_STAT_BUSY c).key ∧ (F.DMA_STAT_HEAD c).key ≠ (F.DMA_STAT_LAST c).key := by
  simp only [Fld.key, F.DMA_STAT_BUSY, F.DMA_STAT_HALTED, F.DMA_STAT_LAST, F.DMA_STAT_HEAD]
  omega

theorem dmaEnd_busy (hs : s.canon) : (dmaEnd c code ofs s).flag (F.DMA_STAT_BUSY c) = false := by
  obtain ⟨hbusy, -⟩ := keys_dmaStat (c := c)
  rw [State.flag, get_dmaEnd hbusy]
  exact State.flag_setFlag_same _ _ _ (State.set_wf _ _ _ (State.set_wf _ _ _ hs.1)) Nat.zero_lt_one

theorem dmaEnd_last (hs : s.canon) (hc : code < 8) : (dmaEnd c code ofs s).get (F.DMA_STAT_LAST c) = code := by
  obtain ⟨-, hlast, -, hlb, -⟩ := keys_dmaStat (c := c)
  rw [get_dmaEnd hlast, dmaShown, State.get_setFlag_other _ _ _ _ hlb, State.get_set_same]
  · exact Nat.mod_eq_of_lt (Nat.lt_trans hc (by simp [F.DMA_STAT_LAST]))
  · exact State.set_wf _ _ _ hs.1

/-- HEAD goes round the ring, which has at most 65,536 descriptors. -/
theorem dmaEnd_head (hs : s.canon) : (dmaEnd c code ofs s).get (F.DMA_STAT_HEAD c) =
    (s.get (F.DMA_STAT_HEAD c) + 1) % 2 ^ (min 12 (s.get (F.DMA_CTL_SIZE c)) + 4) := by
  obtain ⟨-, -, hhead, -, hhb, hhl⟩ := keys_dmaStat (c := c)
  have hwidth : 2 ^ (min 12 (s.get (F.DMA_CTL_SIZE c)) + 4) ≤ 2 ^ 16 := Nat.pow_le_pow_right (by decide) (by omega)
  rw [get_dmaEnd hhead, dmaShown, State.get_setFlag_other _ _ _ _ hhb, State.get_set_other _ _ _ _ hhl, State.get_set_same]
  · exact Nat.mod_eq_of_lt (Nat.lt_of_lt_of_le (Nat.mod_lt _ (Nat.two_pow_pos _)) hwidth)
  · exact hs.1

end Dma

/-- Settles O38, by whether the channel is busy, how the copy failed, and what the end of a descriptor writes. -/
theorem copyEngine : Obligations.CopyEngine := by
  unfold Obligations.CopyEngine
  intro c tail rdErr wrErr done code ofs d r s a u kick x
  have hkick : dmaKick c = kick := funext dmaKick_eq
  refine ⟨fun hreach => ⟨?_, ?_, fun hb => ?_, fun hb => ?_⟩, fun hb => next_congr (dmaDone_idle hb), fun hb => ?_, fun fuel cs => ⟨dmaStop_nil fuel, dmaStop_idle⟩,
    dmaRefused_iff, ⟨fun i is => dmaResult_write, dmaResult_last, dmaResult_read, dmaResult_done⟩, ?_⟩
  · rw [← hkick]
    exact next_congr (arbWrite_reached hreach)
  · rw [← hkick]
    exact next_congr (arbWrite_reached hreach)
  · exact next_congr ((arbWrite_reached hreach).trans (dmaAbort_idle hb))
  · exact next_congr ((arbWrite_reached hreach).trans (dmaAbort_busy hb))
  · rw [← hkick]
    exact next_congr (dmaDone_busy hb)
  · intro t
    refine ⟨fun hs hc => ⟨dmaEnd_busy hs, dmaEnd_last hs hc, dmaEnd_head hs⟩, ?_⟩
    by_cases h : code = 1
    · subst h
      exact ⟨rfl, rfl, rfl, fun h => absurd rfl h, fun _ => rfl⟩
    · have ht : t = ((dmaShown c code ofs s).setFlag (F.DMA_STAT_HALTED c) true).raise (hostSrc 30) 0xFFFF code := dmaEnd_halts h
      rw [ht]
      exact ⟨rfl, rfl, rfl, fun _ => rfl, fun e => absurd e h⟩

end Sys2Proof.Machine
end

section
/-! PROOFS. The life of a channel: enable, disable, fence and reset (R13, R71, R558, R569). -/

namespace Sys2Proof.Machine

section ChannelLife

variable {n : Ch} {o : CheckObs} {m : MediaLists} {s : State}

/-! ### Enable and disable (R13, R569) -/

theorem enableStart_ignored (h : s.flag (F.PAGE_ENABLE_EN n) = true ∨ s.get (F.PAGE_ENABLE_PHASE n) = 1) : enableStart n s = s :=
  if_pos (by simpa using h)

theorem enableStart_begins (hen : s.flag (F.PAGE_ENABLE_EN n) = false) (hph : s.get (F.PAGE_ENABLE_PHASE n) ≠ 1) :
    enableStart n s = (applyChannel n s).set (F.PAGE_ENABLE_PHASE n) 1 :=
  if_neg (by simp [hen, hph])

theorem disableStart_abandons (h : s.get (F.PAGE_ENABLE_PHASE n) = 1) :
    disableStart n s = checkDone n.val 0 (s.set (F.PAGE_ENABLE_PHASE n) 0) :=
  if_pos h

theorem disableStart_disabled (hph : s.get (F.PAGE_ENABLE_PHASE n) ≠ 1) (hen : s.flag (F.PAGE_ENABLE_EN n) = false) :
    disableStart n s = s.set (F.PAGE_ENABLE_PHASE n) 0 :=
  (if_neg hph).trans (if_pos (by simp [hen]))

theorem disableStart_drains (hph : s.get (F.PAGE_ENABLE_PHASE n) ≠ 1) (hen : s.flag (F.PAGE_ENABLE_EN n) = true) :
    disableStart n s = drainChan n (chanUnavailable n (saveTables n (disabled n s)).chanEvent) :=
  (if_neg hph).trans (if_neg (by simp [hen]))

theorem chanCheckEnd_none (h : s.get (F.PAGE_ENABLE_PHASE n) ≠ 1) : chanCheckEnd n o s = s :=
  if_pos h

theorem chanCheckEnd_running (h : s.get (F.PAGE_ENABLE_PHASE n) = 1) : chanCheckEnd n o s =
    checkDone n.val (chanReason n o s) (if chanReason n o s = 0 then enablePass n s else enableRefuse n (chanReason n o s) s) :=
  if_neg (not_not.mpr h)

/-! ### CHANNEL_READY (R71) -/

theorem chanReadyEnd_not_loading {lists : Option MediaLists} (h : s.get (F.PAGE_ENABLE_PHASE n) ≠ 2) : chanReadyEnd n lists s = s :=
  if_pos h

theorem chanReadyEnd_loading {lists : Option MediaLists} (h : s.get (F.PAGE_ENABLE_PHASE n) = 2) : chanReadyEnd n lists s =
    match lists with
    | none => (((disabled n s).set (F.PAGE_ENABLE_STATUS_REASON n) 0x10).inc (F.PAGE_ENABLE_STATUS_COUNT n)).chanEvent
    | some m =>
      if !s.flag (F.CTL_STAT_LOADED n) then s
      else
        let t := takeLists n m s
        let t := { t with boot := { t.boot with chUp := t.boot.chUp ||| (1#8 <<< n.val) } }
        pump (placeParked n (t.set (F.PAGE_ENABLE_PHASE n) 3)).chanEvent :=
  (if_neg (not_not.mpr h)).trans (by cases lists <;> rfl)

theorem areaOf_eq_getD : areaOf n m s = ((s.chan n).sys).getD ⟨m.prim, m.wedges, m.grown⟩ := by
  unfold areaOf
  cases (s.chan n).sys <;> rfl

/-! ### Fence (R13) -/

theorem fenceRow_failed (h : chanFailed n s = true) : fenceRow n s = fenceChan n s :=
  if_pos (by simp [h])

theorem fenceRow_enabled (hf : chanFailed n s = false) (hen : s.flag (F.PAGE_ENABLE_EN n) = true) : fenceRow n s = s :=
  if_neg (by simp [hf, hen])

theorem fenceRow_drained (hen : s.flag (F.PAGE_ENABLE_EN n) = false) (hring : ∀ i ∈ (s.chan n).sched.ring, i.taken = false) :
    fenceRow n s = fenceChan n s :=
  if_pos (by simpa [hen] using Or.inr hring)

/-! ### The logic of a channel after its reset (R558) -/

/-- The state of `resetChan` before the spindle's state is written. -/
def resetChanLogic (n : Ch) (s : State) : State :=
  let t := (resetChanRegs n s).modChan n Chan.afterReset
  let t := { t with pads := t.pads.set n NatMap.empty, banks := t.banks.set n NatMap.empty }
  let t := { t with mem := { t.mem with flips := t.mem.flips.filter fun f => !(f.1 / 0x20 == n.val && f.1 % 0x20 != 0) } }
  (t.setFlag (F.PAGE_ENABLE_EN n) false).set (F.PAGE_ENABLE_PHASE n) 0

theorem resetChan_eq : resetChan n s =
    if motState n s == stOff then resetChanLogic n s else (resetChanLogic n s).set (F.MOT_STAT_STATE n) stCoast := rfl

theorem chan_resetChan (k : Ch) : (resetChan n s).chan k = (s.modChan n Chan.afterReset).chan k := by
  rw [resetChan_eq]
  split <;> rfl

theorem kept_resetChan : (resetChan n s).dram = s.dram ∧ (resetChan n s).store = s.store ∧ (resetChan n s).host = s.host := by
  rw [resetChan_eq]
  split <;> exact ⟨rfl, rfl, rfl⟩

theorem regs_resetChanRegs : (resetChanRegs n s).regs = (((s.resetRegs (chBase n) (chBase n + 0x100000)).resetRegs
    (chBase n + 0x100008) (chBase n + 0x300000)).resetRegs (chBase n + 0x300004) (chBase n + 0x3F0000)).regs := by
  simp only [resetChanRegs]

theorem wf_resetChanRegs (hs : s.canon) : (resetChanRegs n s).regs.wf = true := by
  rw [regs_resetChanRegs]
  generalize chBase n = b
  exact State.resetRegs_wf _ _ _ (State.resetRegs_wf _ _ _ (State.resetRegs_wf _ _ _ hs.1))

theorem wf_resetChanLogic (hs : s.canon) : (resetChanLogic n s).regs.wf = true := by
  have h := wf_resetChanRegs (n := n) hs
  unfold resetChanLogic
  exact State.set_wf _ _ _ (State.setFlag_wf _ _ _ h)

theorem motState_resetChan (hs : s.canon) (h : motState n s ≠ stOff) : motState n (resetChan n s) = stCoast := by
  rw [resetChan_eq, if_neg (by simpa using h)]
  exact State.get_set_same _ _ _ (wf_resetChanLogic hs)

end ChannelLife

/-- Settles O39, by the phase of the channel, what its check finds, and what a fence or a reset takes. -/
theorem channelLife : Obligations.ChannelLife := by
  unfold Obligations.ChannelLife
  intro n path o m s a b u w off
  refine ⟨fun ha => ⟨fun h => ?_, fun hen hph => ?_, fun h => ?_, fun hph hen => ?_, fun hph hen => ?_⟩, fun h => next_congr (chanCheckEnd_none h),
    fun h => ⟨fun hr => ?_, fun r hr h0 => ?_⟩, fun h => ⟨next_congr (chanReadyEnd_not_loading h), next_congr (chanReadyEnd_not_loading h)⟩,
    fun h => ⟨next_congr (chanReadyEnd_loading h), fun hl => ?_, fun hl => ?_⟩, fun h => next_congr (fenceRow_failed h),
    fun hf hen => next_congr (fenceRow_enabled hf hen), fun _ hen hr => next_congr (fenceRow_drained hen hr),
    fun hb => ⟨fun hmay => next_congr (lockedWrite_open hb hmay), fun hp hl => next_congr (lockedWrite_closed hb hp hl)⟩, ?_, ?_⟩
  · exact next_congr ((arbWrite_reached ha).trans (enableStart_ignored h))
  · exact next_congr ((arbWrite_reached ha).trans (enableStart_begins hen hph))
  · exact next_congr ((arbWrite_reached ha).trans (disableStart_abandons h))
  · exact next_congr ((arbWrite_reached ha).trans (disableStart_disabled hph hen))
  · exact next_congr ((arbWrite_reached ha).trans (disableStart_drains hph hen))
  · exact next_congr ((chanCheckEnd_running h).trans (by rw [hr, if_pos rfl]))
  · exact next_congr ((chanCheckEnd_running h).trans (by rw [hr, if_neg h0, enableRefuse]))
  · exact next_congr ((chanReadyEnd_loading h).trans (if_pos (by simp [hl])))
  · exact next_congr ((chanReadyEnd_loading h).trans (if_neg (by simp [hl])))
  · rw [takeLists, areaOf_eq_getD]
  · intro t
    obtain ⟨hdram, hstore, hhost⟩ := kept_resetChan (n := n) (s := s)
    have hn : t.chan n = Chan.afterReset (s.chan n) := (chan_resetChan n).trans (State.chan_modChan_same _ _ _)
    refine ⟨motState_resetChan, by rw [hn]; rfl, ?_, by rw [hn]; rfl,
      fun k hk => (chan_resetChan k).trans (State.chan_modChan_other _ _ _ _ hk), hdram, hstore, hhost⟩
    rw [State.servo, hn]
    rfl

end Sys2Proof.Machine
end

section
/-! PROOFS. The fault collector (chapter 16): reports, their consequences, clears and reactions. -/

namespace Sys2Proof.Machine

section Reports

/-! ### The order of the reports of one cycle (R32) -/

theorem perm_insertRaise (r : Raise) (l : List Raise) : (insertRaise r l).Perm (r :: l) := by
  induction l with
  | nil => exact .refl _
  | cons x l ih =>
    unfold insertRaise
    split
    · exact .refl _
    · exact (ih.cons x).trans (.swap r x l)

theorem pairwise_insertRaise (r : Raise) (l : List Raise) (hl : l.Pairwise fun x y => x.src ≤ y.src) :
    (insertRaise r l).Pairwise fun x y => x.src ≤ y.src := by
  induction l with
  | nil => exact List.pairwise_singleton _ _
  | cons x l ih =>
    have ⟨hx, hl'⟩ := List.pairwise_cons.mp hl
    unfold insertRaise
    split
    next h =>
      refine List.pairwise_cons.mpr ⟨fun y hy => ?_, hl⟩
      rcases List.mem_cons.mp hy with rfl | hy
      · exact h.le
      · exact h.le.trans (hx y hy)
    next h =>
      refine List.pairwise_cons.mpr ⟨fun y hy => ?_, ih hl'⟩
      rcases List.mem_cons.mp ((perm_insertRaise r l).mem_iff.mp hy) with rfl | hy
      · exact not_lt.mp h
      · exact hx y hy

theorem perm_foldl_insertRaise (l acc : List Raise) : (l.foldl (fun l x => insertRaise x l) acc).Perm (l ++ acc) := by
  induction l generalizing acc with
  | nil => exact .refl _
  | cons x l ih => exact (ih _).trans (((perm_insertRaise x acc).append_left l).trans List.perm_middle)

theorem pairwise_foldl_insertRaise (l acc : List Raise) (h : acc.Pairwise fun x y => x.src ≤ y.src) :
    (l.foldl (fun l x => insertRaise x l) acc).Pairwise fun x y => x.src ≤ y.src := by
  induction l generalizing acc with
  | nil => exact h
  | cons x l ih => exact ih _ (pairwise_insertRaise x acc h)

end Reports

section Collector

variable {r : Raise} {src : Nat} {n : Ch} {s : State}

/-! ### Latching (R509 to R516) -/

theorem latchOne_suppressed (h : suppressed r.src s = true) : latchOne r s = s :=
  if_pos h

theorem latchOne_seen (h : suppressed r.src s = false) : latchOne r s =
    let t := ((s.setBit (F.FAULT_STATUS_SRC (r.src / 32)) (r.src % 32) true).inc (F.FAULT_REACT_COUNT r.src)).inc F.FAULT_STAT_LATCH_CNT
    let pl := bytesLe 2 r.inst ++ bytesLe 2 r.cause ++ bytesLe 4 r.status
    let t := putFirst r.src (if t.colo.repeats r.src 1 (payload16 pl) then t.colo.headSeq else t.colo.next) (t.record r.src 1 pl)
    if srcStatus r.src s then t else react r.src (consequence r.src t) :=
  if_neg (Bool.not_eq_true _ ▸ h)

theorem consequence_mild (h : classReset src < 2) : consequence src s = s := by
  unfold consequence
  split <;> first | omega | rfl

theorem consequence_fatal (h : classReset src = 3 ∨ classReset src = 4) : consequence src s = enterSafe src s := by
  rcases h with h | h <;> simp only [consequence, h]

theorem enterSafe_again (hs : s.flag F.FAULT_STAT_SAFE = true) (h : classReset src = 3) : enterSafe src s = s := by
  simp [enterSafe, hs, h, State.when]

theorem putFirst_overflows (h : s.flag F.FAULT_FIRST_VALID = true) (q : Nat) : putFirst src q s = s.setFlag F.FAULT_STAT_OVF true :=
  if_pos h

theorem statusClear_eq (i : Nat) (v : W32) : statusClear i v.toNat s =
    s.each ((List.range 32).filter fun b => v.getLsbD b && srcStatus (32 * i + b) s && !condition (32 * i + b) s && !reported (32 * i + b) s)
      fun b t => (t.setBit (F.FAULT_STATUS_SRC ((32 * i + b) / 32)) ((32 * i + b) % 32) false).record (32 * i + b) 2 [] := rfl

/-! ### Resets and re-enables (R507, R519, R523) -/

theorem startChip_ignored {cause : Nat} {o : Option Nat} (h : s.flag F.PWR_SUPPLY_PLOSS = true ∨ s.rst.chip ≠ none ∨ s.rst.waitRel = true) :
    startChip cause o s = s :=
  if_pos (by simpa [Option.isSome_iff_ne_none, or_assoc] using h)

theorem startChip_begins {cause : Nat} {o : Option Nat} (hp : s.flag F.PWR_SUPPLY_PLOSS = false) (hc : s.rst.chip = none)
    (hw : s.rst.waitRel = false) : startChip cause o s =
    (((({ (resetRecord 7 0 s) with rst := { s.rst with chip := some (cause, o) } }).setFlag F.NVME_INTAKE_FETCH_STOP true).each
      allCtls stopCmds).each allChans fun m x => if sectorBegun m x then x else parkHeads m true x) :=
  if_neg (by simp [hp, hc, hw])

theorem reenable_none (h : s.rst.reen[n] = none ∨ spinsUp n s = true) : reenable n s = s :=
  if_pos (by simpa using h)

theorem reenable_due (h : s.rst.reen[n] = some src) (hs : spinsUp n s = false) : reenable n s =
    if 3 ≤ (reenables n s).length then { s with rst := { s.rst with reen := s.rst.reen.set n none } }
    else if needsStart n s then mgmtStart n s
    else enableStart n (breakSeq
      { s with rst := { s.rst with reen := s.rst.reen.set n none, reenAt := s.rst.reenAt.set n (reenables n s ++ [s.fly.pot]) } }) :=
  if_neg (by simp [h, hs])

theorem host_poolSync (i : PoolId) (t : State) : (poolSync i t).host = t.host := by
  simp only [poolSync, State.when]
  split <;> rfl

theorem host_reamClear : (reamClear s).host = s.host :=
  State.each_keeps State.host host_poolSync _ _

/-- With no command and an empty write buffer only the pools return (R507). -/
theorem reamReset_empty (hc : s.host.cmds = []) (hw : s.host.wb = []) : reamReset s = pump (reamClear (resetRecord 6 4 s)) := by
  have hh : (resetRecord 6 4 s).host = s.host := (parts_record ..).1
  have hkeep : ∀ t : State, t.host = s.host → ({ t with host := { s.host with cmds := [], wb := [] } } : State) = t := by
    intro t ht
    rw [← hc, ← hw, ← ht]
  have hclear := (host_reamClear (s := resetRecord 6 4 s)).trans hh
  simp only [reamReset, hh, hc, List.filter_nil, State.each, List.foldl_nil, State.modHost, hclear, hw, List.map_nil]
  exact congrArg pump (hkeep _ hclear)

end Collector

/-- Settles O40, by what the collector sees of a report, the class of its source, and what is owed to a failed channel. -/
theorem faultCollector : Obligations.FaultCollector := by
  unfold Obligations.FaultCollector
  intro r src i v path n s a c w u pl t rec_
  refine ⟨fun same => ⟨rfl, pairwise_foldl_insertRaise _ _ List.Pairwise.nil, ?_⟩, fun rest h => ?_, latchOne_suppressed, fun hs hw => ?_, fun hs hw => ?_,
    consequence_mild, consequence_fatal, enterSafe_again, putFirst_overflows, fun hw => ?_, fun ha => ⟨fun hmay => ?_, fun hp hl => ?_⟩,
    fun hc => ⟨fun h => ?_, fun hp hn hw => ?_⟩, rfl, rfl, fun h => next_congr (reenable_none h), fun h hsp => ⟨fun h3 => ?_, fun h3 hn => ?_, fun h3 hn => ?_⟩,
    rfl, rfl, fun hc hw => next_congr (reamReset_empty hc hw)⟩
  · exact (perm_foldl_insertRaise _ []).trans (.of_eq (List.append_nil _))
  · refine next_congr ?_
    simp only [latch, h, List.take_succ_cons, List.take_zero, List.drop_succ_cons, List.drop_zero]
    rfl
  · exact (latchOne_seen hs).trans (if_pos hw)
  · exact (latchOne_seen hs).trans (if_neg (by simp [hw]))
  · exact next_congr ((arbWrite_reached hw).trans (statusClear_eq i.val v))
  · exact next_congr (lockedWrite_open ha hmay)
  · exact next_congr (lockedWrite_closed ha hp hl)
  · exact next_congr ((arbWrite_reached hc).trans (startChip_ignored h))
  · exact next_congr ((arbWrite_reached hc).trans (startChip_begins hp hn hw))
  · exact next_congr ((reenable_due h hsp).trans (if_pos h3))
  · exact next_congr ((reenable_due h hsp).trans ((if_neg (by omega)).trans (if_pos hn)))
  · exact next_congr ((reenable_due h hsp).trans ((if_neg (by omega)).trans (if_neg (by simp [hn]))))

end Sys2Proof.Machine
end

section
/-! PROOFS. The Colophon (chapter 16): records, the mirror, the reservation, and the challenge of a clear. -/

namespace Sys2Proof.Machine

section Colophon

variable {src code : Nat} {pl : List Nat} {resp : W32} {inTime : Bool} {s : State}

theorem coloWrite_repeats (h : s.colo.repeats src code pl = true) : coloWrite src code pl s = { s with colo := s.colo.again } :=
  if_pos h

/-- A ring with room takes the record and loses none. -/
theorem coloWrite_takes (h : s.colo.repeats src code pl = false) (hl : s.colo.recs.length < 8192) : coloWrite src code pl s =
    { s with colo := { s.colo with recs := ⟨s.colo.next, src, code, 1, pl⟩ :: s.colo.recs, next := s.colo.next + 1 } } := by
  have htake : (⟨s.colo.next, src, code, 1, pl⟩ :: s.colo.recs).take 8192 = ⟨s.colo.next, src, code, 1, pl⟩ :: s.colo.recs :=
    List.take_of_length_le hl
  have hdrop : (⟨s.colo.next, src, code, 1, pl⟩ :: s.colo.recs).drop 8192 = [] := List.drop_eq_nil_of_le hl
  simp [coloWrite, h, Colo.push, htake, hdrop, coloLost]

theorem coloMirror_none (h : s.flag F.COLO_STAT_MIRROR = false ∨ s.colo.unmirrored.reverse.take 512 = []) (ok : Bool) : coloMirror ok s = s :=
  if_pos (by simpa only [Bool.or_eq_true, Bool.not_eq_true', List.isEmpty_iff] using h)

theorem coloMirror_page (h : s.flag F.COLO_STAT_MIRROR = true) (hp : s.colo.unmirrored.reverse.take 512 ≠ []) (ok : Bool) : coloMirror ok s =
    if ok then { s with colo := { s.colo with
      mirNext := ((s.colo.unmirrored.reverse.take 512).getLast?.map fun r => r.seq + 1).getD s.colo.mirNext
      mirror := ((s.colo.unmirrored.reverse.take 512).reverse ++ s.colo.mirror).take 1048576 } }
    else s.raise (hostSrc 42) :=
  if_neg (by simpa only [h, Bool.or_eq_true, Bool.not_true, Bool.false_eq_true, false_or, List.isEmpty_iff] using hp)

theorem coloExtend_limit {l : Nat} (h : s.colo.limit = some l) : coloExtend s =
    if l < s.colo.headSeq + 8388608 then { s with colo := { s.colo with limit := some (l + 16777216) } } else s := by
  simp only [coloExtend, h]

theorem coloExtend_none (h : s.colo.limit = none) : coloExtend s = s := by
  simp only [coloExtend, h]

theorem coloClear_accepts (h : coloAccepts resp inTime s = true) : coloClear resp inTime s = coloErase s :=
  if_pos h

theorem coloClear_denies (h : coloAccepts resp inTime s = false) : coloClear resp inTime s = coloDeny s :=
  if_neg (by simp [h])

theorem coloDeny_challenged {q : Nat} (h : s.colo.chal = some q) : coloDeny s =
    let f := min 3 (s.get F.COLO_STAT_CLEAR_FAILS + 1)
    let t := ({ s with colo := { s.colo with chal := none } } : State).set F.COLO_STAT_CLEAR_FAILS f
    (if f = 3 then t.setFlag F.COLO_STAT_LOCKOUT true else t).record (hostIdent 0x0A) 0x0401 (bytesLe 4 q ++ [f]) := by
  simp only [coloDeny, h, Option.isNone_some, Bool.false_eq_true, if_false, Option.getD_some, State.when, beq_iff_eq]

theorem coloAccepts_iff : coloAccepts resp inTime s = true ↔
    ∃ q, s.colo.chal = some q ∧ inTime = true ∧ s.fuses.clearkey.val ≠ 0 ∧ resp.toNat = coloAnswer s.fuses q := by
  unfold coloAccepts
  cases s.colo.chal with
  | none => simp
  | some q => simp only [Option.some.injEq, exists_eq_left', Bool.and_eq_true, decide_eq_true_eq, beq_iff_eq, and_assoc]

end Colophon

/-- Settles O41, by whether the event repeats, whether a page or a limit is due, and whether the response is the right one. -/
theorem colophonRules : Obligations.ColophonRules := by
  unfold Obligations.ColophonRules
  intro src code pl resp inTime s u c page d
  refine ⟨coloWrite_repeats, coloWrite_takes, fun h ok => next_congr (coloMirror_none h ok),
    fun h hp => ⟨next_congr (coloMirror_page h hp false), next_congr (coloMirror_page h hp true)⟩,
    fun l hl => ⟨fun h => next_congr ((coloExtend_limit hl).trans (if_pos h)), fun h => next_congr ((coloExtend_limit hl).trans (if_neg (not_lt.mpr h)))⟩,
    fun h => next_congr (coloExtend_none h), fun h => next_congr (if_pos h),
    fun h => ⟨s.fresh.toNat % 4294967296, Nat.mod_lt _ (by decide), next_congr (if_neg (by simp [h]))⟩,
    fun hr => ⟨fun h => next_congr ((arbWrite_reached hr).trans (coloClear_accepts h)), fun h => next_congr ((arbWrite_reached hr).trans (coloClear_denies h))⟩,
    fun q hq => coloDeny_challenged hq, coloAccepts_iff, fun h => next_congr (if_pos h), fun h => next_congr (if_neg (by simp [h]))⟩

end Sys2Proof.Machine
end

section
/-! PROOFS. Power domains, boot slots, rollback fuses and keys (R546 to R566). -/

namespace Sys2Proof.Machine

/-! ### Bits of a bitmap field -/

/-- Taking a power of two from a number that has it clears its bit alone. -/
theorem testBit_sub_two_pow {v i : Nat} (h : v.testBit i = true) (j : Nat) :
    (v - 2 ^ i).testBit j = if j = i then false else v.testBit j := by
  have hr : v % 2 ^ i < 2 ^ i := Nat.mod_lt _ (Nat.two_pow_pos i)
  have hodd : v / 2 ^ i % 2 = 1 := by simpa [Nat.testBit_eq_decide_div_mod_eq] using h
  obtain ⟨m, hm⟩ : ∃ m, v / 2 ^ i = 2 * m + 1 := ⟨v / 2 ^ i / 2, by omega⟩
  have hv : v = 2 ^ i * (2 * m + 1) + v % 2 ^ i := by rw [← hm, Nat.div_add_mod]
  have hsub : v - 2 ^ i = 2 ^ i * (2 * m) + v % 2 ^ i := by
    rw [Nat.mul_succ] at hv
    omega
  rw [hsub, Nat.testBit_two_pow_mul_add _ hr]
  conv => rhs; rw [hv, Nat.testBit_two_pow_mul_add _ hr]
  rcases Nat.lt_trichotomy j i with hj | rfl | hj
  · rw [if_pos hj, if_pos hj, if_neg hj.ne]
  · simp
  · obtain ⟨k, rfl⟩ := Nat.exists_eq_add_of_lt hj
    have hk : i + k + 1 - i = k + 1 := by omega
    rw [if_neg (by omega), if_neg (by omega), if_neg (by omega), hk, Nat.testBit_add_one, Nat.testBit_add_one]
    congr 1
    omega

theorem testBit_withBit (v i : Nat) (b : Bool) (j : Nat) : (withBit v i b).testBit j = if j = i then b else v.testBit j := by
  unfold withBit
  by_cases hb : b = true
  · rw [if_pos hb, Nat.testBit_or, Nat.testBit_two_pow, hb]
    by_cases h : j = i
    · simp [h]
    · simp [h, Ne.symm h]
  · rw [if_neg hb, Bool.eq_false_iff.mpr hb]
    by_cases hv : v.testBit i = true
    · rw [if_pos hv, testBit_sub_two_pow hv]
    · rw [if_neg hv]
      split
      next h => rw [h, Bool.eq_false_iff.mpr hv]
      · rfl

/-- A request leaves the bits of AON, FAULT, SIDEBAND and FUSE as they stand (R548). -/
theorem testBit_reqFixed (o w : Nat) {i : Nat} (hi : i = 45 ∨ i = 46 ∨ i = 47 ∨ i = 48) : (reqFixed o w).testBit i = o.testBit i := by
  have hstack : ∀ (b : Bool) (v d : Nat), i ≠ d → (if b then withBit v d true else v).testBit i = v.testBit i := by
    intro b v d hd
    cases b
    · rfl
    · exact (testBit_withBit v d true i).trans (if_neg hd)
  simp only [reqFixed, List.foldl_cons, List.foldl_nil]
  rw [hstack _ _ _ (by omega), hstack _ _ _ (by omega)]
  simp only [testBit_withBit]
  rcases hi with rfl | rfl | rfl | rfl <;> simp only [if_true, Nat.reduceEqDiff, if_false]

section Domains

variable {d : Nat} {bad : List (Nat × Nat)} {s : State}

theorem request_eq (w : Nat) : request w s = if reqClosed (reqFixed (domReq s) w) = true then dropDomains (setReq (reqFixed (domReq s) w) s) else s := rfl

/-! ### A domain that comes on (R549) -/

theorem domainOn_none (h : domOn d s = true ∨ (∃ x ∈ domNeeds d, domOn x s = false) ∨ s.flag F.PWR_SUPPLY_PLOSS = true) : domainOn d bad s = s := by
  refine if_pos ?_
  have hall : (!(domNeeds d).all fun x => domOn x s) = true ↔ ∃ x ∈ domNeeds d, domOn x s = false := by simp
  simp only [Bool.or_eq_true, hall]
  rcases h with h | h | h <;> simp only [h, true_or, or_true]

theorem boot_setLocks (b : Bool) (t : State) : (setLocks d b t).boot = t.boot := by
  unfold setLocks
  split <;> split <;> rfl

theorem boot_bist : (bist d bad s).boot = s.boot := by
  have hsync : ∀ t : State, (remapSync t).boot = t.boot := fun _ => rfl
  unfold bist
  exact (hsync _).trans (State.each_keeps State.boot (fun _ _ => State.raise_boot ..) _ _)

theorem domainOn_bare (hd : domOn d s = false) (hp : s.flag F.PWR_SUPPLY_PLOSS = false) (hn : ∀ x ∈ domNeeds d, domOn x s = true)
    (hr : (domReq s).testBit d = true) (h36 : d ≠ 36) (hb : s.boot.booted = false) :
    domainOn d bad s = setLocks d true (setDom d true (bist d bad s)) := by
  have hboot : (setLocks d true (setDom d true (bist d bad s))).boot.booted = false := by
    rw [boot_setLocks, setDom, State.setBit_boot, boot_bist, hb]
  have hall : (!(domNeeds d).all fun x => domOn x s) = false := by simpa using hn
  have hprof : ∀ t : State, t.boot.booted = false → domProfile d t = t := fun t ht => if_pos (by simp [ht])
  have hup : ∀ t : State, t.boot.booted = false → chanUp d t = t := fun t ht => by simp [chanUp, ht]
  simp only [domainOn, hd, hp, hr, hall, h36, Bool.true_or, Bool.not_true, Bool.or_self, Bool.false_eq_true, if_false]
  rw [hprof _ hboot, hup _ hboot]

end Domains

section Boot

variable {r0 r1 : Bool} {g h : Image} {s : State}

/-! ### The slots (R564, R565) -/

/-- What keeps the boot from looking at its slots. -/
def BootStays (s : State) : Prop :=
  s.boot.booted = true ∨ domOn 43 s = false ∨ s.rst.waitRel = true ∨ s.rst.chip ≠ none ∨ s.flag F.PWR_SUPPLY_PLOSS = true

theorem bootStays_iff : (s.boot.booted || !domOn 43 s || s.rst.waitRel || s.rst.chip.isSome || s.flag F.PWR_SUPPLY_PLOSS) = true ↔ BootStays s := by
  simp only [BootStays, Bool.or_eq_true, Bool.not_eq_true', Option.isSome_iff_ne_none, or_assoc]

theorem bootCheck_stays (hs : BootStays s) : bootCheck r0 r1 s = s :=
  if_pos (bootStays_iff.mpr hs)

theorem slot_getD (i : Fin 2) : s.boot.slots.toList.getD i none = s.boot.slots[i] := by
  simp [List.getD_eq_getElem?_getD, Vector.getElem?_eq_getElem i.isLt]

/-- The check that begins with slot 0. -/
theorem bootCheck_first (hs : ¬BootStays s) (ha : s.boot.active = 0) : bootCheck r0 r1 s =
    let a := imageReason s.boot.slots[0] r0 s
    let b := imageReason s.boot.slots[1] r1 s
    if a = 0 then (match s.boot.slots[0] with | some g => bootImage 0 g (noteSlot 0 a s) | none => noteSlot 0 a s)
    else if b = 0 then (match s.boot.slots[1] with | some g => bootImage 1 g (noteSlot 1 b (noteSlot 0 a s)) | none => noteSlot 1 b (noteSlot 0 a s))
    else bootRecovery (noteSlot 1 b (noteSlot 0 a s)) := by
  have h0 : s.boot.slots.toList.getD 0 none = s.boot.slots[0] := slot_getD 0
  have h1 : s.boot.slots.toList.getD 1 none = s.boot.slots[1] := slot_getD 1
  unfold bootCheck
  rw [if_neg (fun e => hs (bootStays_iff.mp e))]
  simp only [ha, h0, h1, Nat.sub_zero, if_true, Nat.one_ne_zero, if_false] <;> rfl

theorem imageReason_accepts (hr : imageReason (some g) true s = 0) : g.magic = 0xC7A11A6E ∧ g.format = 1 ∧ g.sigOk = true ∧ g.hashOk = true ∧
    rollbackF s ≤ g.rollback ∧ keyOk g s = true := by
  simp only [imageReason, Bool.not_true, Bool.false_eq_true, if_false] at hr
  split_ifs at hr
  simp_all

/-! ### Rollback fuses and keys (R561, R562) -/

theorem rollbackUpdate_none (hi : s.boot.image = none) : rollbackUpdate s = s := by
  simp only [rollbackUpdate, hi]

theorem rollbackUpdate_old (hi : s.boot.image = some g) (hg : g.rollback ≤ rollbackF s) : rollbackUpdate s = s := by
  simp only [rollbackUpdate, hi]
  exact if_neg (by simp [hg])

theorem rollbackUpdate_new (hi : s.boot.image = some g) (hg : rollbackF s < g.rollback) (hc : (s.ctlr 0).rdy = true) : rollbackUpdate s =
    let t := { s with fuses := { s.fuses with rbA := 2 ^ g.rollback - 1, rbB := 2 ^ g.rollback - 1 } }
    t.set F.RST_BOOTSTAT_FUSE_RB (rollbackF t) := by
  simp only [rollbackUpdate, hi]
  exact if_pos (by simp [hg, allCtls, hc])

theorem fuseProgram_done {back : Bool} (hf : s.fuses.keyhash.blank = false ∨ s.fuses.clearkey.blank = false) :
    fuseProgram back s = s.set F.RST_FUSEPROG_RESULT 2 :=
  if_pos (by simpa using hf)

theorem fuseProgram_blank {back : Bool} (hk : s.fuses.keyhash.blank = true) (hc : s.fuses.clearkey.blank = true) : fuseProgram back s =
    let t := { s with fuses := { s.fuses with keyhash := windowField 0 48 s, clearkey := windowField 48 32 s } }
    (t.setFlag F.RST_FUSEPROG_BLANK (t.fuses.keyhash.blank && t.fuses.clearkey.blank)).set F.RST_FUSEPROG_RESULT (if back then 1 else 3) :=
  if_neg (by simp [hk, hc])

end Boot

/-- Settles O43, by what a domain needs, what each slot's check finds, and which fuses are blank. -/
theorem domainsAndBoot : Obligations.DomainsAndBoot := by
  unfold Obligations.DomainsAndBoot
  intro path v d bad key back r0 r1 g h s u lo hi k req stay
  have hreq : ∀ w, request w u = req w := fun w => request_eq w
  refine ⟨fun hl hm => ?_, fun hl hm => ?_, fun hl hp ho => next_congr (lockedWrite_closed hl hp ho), fun hl hp ho => next_congr (lockedWrite_closed hl hp ho),
    fun o w => ?_, fun hd => next_congr (domainOn_none hd), fun hd hp hn hr h36 hb => next_congr (domainOn_bare hd hp hn hr h36 hb),
    fun hs => next_congr (bootCheck_stays hs), fun hs ha => ⟨fun hg hr => ?_, fun a b ha0 ha1 hb => ⟨fun hb0 hh => ?_, fun hb1 => ?_⟩⟩, ⟨rfl, rfl⟩,
    imageReason_accepts, fun hi => next_congr (rollbackUpdate_none hi), fun hi hg => next_congr (rollbackUpdate_old hi hg),
    fun hi hg hc => ⟨_, next_congr (rollbackUpdate_new hi hg hc), rfl, rfl, fun f hf => ?_⟩,
    fun hk hm => ⟨fun hkey => ?_, fun hf => ?_, fun hkh hck => ?_⟩, fun hk hp ho => next_congr (lockedWrite_closed hk hp ho)⟩
  · rw [← hreq]
    exact next_congr (lockedWrite_open hl hm)
  · rw [← hreq]
    exact next_congr (lockedWrite_open hl hm)
  · have hfix : ∀ i ∈ [45, 46, 47, 48], ((reqFixed o w).testBit i == o.testBit i) = true := by
      intro i hi
      rw [testBit_reqFixed o w (by simpa using hi), beq_self_eq_true]
    exact List.all_eq_true.mpr hfix
  · refine next_congr ((bootCheck_first hs ha).trans ?_)
    simp only [hg, hr, if_true, noteSlot]
  · refine next_congr ((bootCheck_first hs ha).trans ?_)
    rw [hh, hb0] at hb
    simp only [ha0, hb, ha1, hh, if_true, if_false, noteSlot, Nat.one_ne_zero]
  · refine next_congr ((bootCheck_first hs ha).trans ?_)
    simp only [ha0, hb, ha1, hb1, if_true, if_false, noteSlot, Nat.one_ne_zero]
  · exact State.get_set_other _ _ _ _ (hf _ (List.mem_singleton_self _))
  · exact next_congr ((lockedWrite_open hk hm).trans (if_neg hkey))
  · exact next_congr ((lockedWrite_open hk hm).trans ((if_pos rfl).trans (fuseProgram_done hf)))
  · exact next_congr ((lockedWrite_open hk hm).trans ((if_pos rfl).trans (fuseProgram_blank hkh hck)))

end Sys2Proof.Machine
end

section
/-! PROOFS. Accesses of the set-up space (R345, R573 to R584): the unlock sequence, writes of registers, and the sideband's accesses. -/

namespace Sys2Proof.Machine

section Unlock

variable {path : RegPath} {ident : Nat} {s : State}

/-! ### Expert access (R579 to R581) -/

theorem unlockSecond_opens (ha : s.rst.armed = [(path, ident)]) (hp : path ≠ .mgmt) (hd : s.flag F.GLB_EXPERT_DENY_DENY = false)
    (hi : identValid ident = true) : unlockSecond path ident s = setOpen ident true (disarm s) :=
  if_pos (by simp [ha, hp, hd, hi])

theorem unlockSecond_fails
    (h : s.rst.armed ≠ [(path, ident)] ∨ path = .mgmt ∨ s.flag F.GLB_EXPERT_DENY_DENY = true ∨ identValid ident = false) :
    unlockSecond path ident s = (disarm s).inc F.GLB_EXPERT_STAT_FAIL_CNT :=
  if_neg (by rcases h with h | h | h | h <;> simp [h])

theorem setOpen_all (b : Bool) : setOpen 0xFFFF b s =
    (s.set F.GLB_EXPERT_STAT_CH_OPEN (if b then 0xFF else 0)).set F.GLB_EXPERT_STAT_HOST_OPEN (if b then 0x7FF else 0) :=
  if_pos rfl

theorem setOpen_chan (h : ident < 8) (b : Bool) : setOpen ident b s = s.setBit F.GLB_EXPERT_STAT_CH_OPEN ident b :=
  (if_neg (by omega)).trans (if_pos h)

theorem setOpen_host (h : 0x10 ≤ ident) (h' : ident ≤ 0x1A) (b : Bool) : setOpen ident b s = s.setBit F.GLB_EXPERT_STAT_HOST_OPEN (ident - 0x10) b :=
  (if_neg (by omega)).trans ((if_neg (by omega)).trans (if_pos ⟨h, h'⟩))

end Unlock

section Writes

variable {path : RegPath} {a bytes v : Nat} {s : State}

/-! ### Writes that reach the arbiter (R573 to R576) -/

theorem abortHit_other (hb : bytes ≠ 8) (ha : a % 0x100 ≠ 8) : abortHit a bytes v = none := by
  unfold abortHit
  split_ifs <;> simp_all

/-- A write of another size than 8, to another register than the unlock word and DMA.CTL.TAIL, is one access. -/
theorem regWriteAll_single (hb : bytes ≠ 8) (ha : a % 0x100 ≠ 8) : regWriteAll path a bytes v s = arbiterWrite path a bytes v s := by
  simp only [regWriteAll, abortHit_other hb ha, setupWrite, hb, decide_false, Bool.false_and, Bool.false_eq_true, if_false]

theorem arbiterWrite_off (ha : a ≠ 0x40) (h : windowOff a (breakSeq s) = true) : arbiterWrite path a bytes v s = (busOff (breakSeq s), 1) := by
  simp only [arbiterWrite, ha, decide_false, Bool.false_and, Bool.false_eq_true, if_false, h, if_true]

theorem arbiterWrite_size (ha : a ≠ 0x40) (h : windowOff a (breakSeq s) = false) (hs : sramAt a = none) (hf : fuseWindow a = false) (hb : bytes ≠ 8)
    (hl : bytes ≠ 4 ∨ a % 4 ≠ 0) : arbiterWrite path a bytes v s = ((breakSeq s).inc F.GLB_ACCERR_SIZE_CNT, 0) := by
  have h4 : (decide (bytes = 4) && a % 4 == 0) = false := by rcases hl with hl | hl <;> simp [hl]
  simp only [arbiterWrite, ha, h, hs, hf, hb, h4, decide_false, Bool.false_and, Bool.false_eq_true, if_false]

theorem arbiterWrite_word (ha : a ≠ 0x40) (h : windowOff a (breakSeq s) = false) (hs : sramAt a = none) (hf : fuseWindow a = false)
    (hl : a % 4 = 0) : (arbiterWrite path a 4 v s).1 = regWrite path a (v % 4294967296) (breakSeq s) := by
  simp only [arbiterWrite, ha, h, hs, hf, hl, decide_false, decide_true, beq_self_eq_true, Bool.and_self, Bool.false_and, Bool.false_eq_true, if_false, if_true]

theorem regWrite_guarded (hp : path ≠ .mgmt) (ho : addrOpen a s = false) (hg : guarded a v = true) (ha : a ≠ 0x100010) :
    regWrite path a v s = discard a s := by
  have hmay : mayWrite path a s = false := by simp [mayWrite, hp, ho]
  simp only [regWrite, hmay, hg, ha, Bool.not_false, Bool.and_self, if_true, if_false]

end Writes

section Fields

variable {f : Fld} {fs : List Fld} {o : Bool} {w : Nat} {s : State}

/-! ### Register classes (R577, R583) -/

theorem storeFields_stored (hl : (f.acc == .rw || ((f.acc == .rwl || f.acc == .rws) && o)) = true) (hh : fieldHeld f s = false) :
    storeFields o [f] w s = s.set f (fieldBits f w) := by
  have hlost : ((f.acc == .rwl || f.acc == .rws) && !o) = false := by
    cases o <;> cases hf : f.acc <;> simp_all
  simp only [storeFields, List.any_cons, List.any_nil, hlost, State.when, Bool.or_false, Bool.false_eq_true, if_false, hl, hh, Bool.not_false,
    Bool.and_self, List.filter_cons, List.filter_nil, if_true, List.foldl_cons, List.foldl_nil]

theorem storeFields_kept (hf : f.acc = .ro ∨ f.acc = .wo ∨ f.acc = .w1c) : storeFields o [f] w s = s := by
  rcases hf with hf | hf | hf <;> simp [storeFields, hf, State.when]

theorem storeFields_locked (hf : f.acc = .rwl ∨ f.acc = .rws) : storeFields false [f] w s = discard f.addr s := by
  rcases hf with hf | hf <;> simp [storeFields, hf, State.when, discard]

theorem get_foldl_set {g : Fld} (bits : Fld → Nat) (l : List Fld) (hg : ∀ x ∈ l, g.key ≠ x.key) :
    ∀ s : State, (l.foldl (fun u x => u.set x (bits x)) s).get g = s.get g := by
  induction l with
  | nil => exact fun _ => rfl
  | cons x l ih =>
    intro s
    rw [List.foldl_cons, ih (fun y hy => hg y (List.mem_cons_of_mem _ hy)), State.get_set_other _ _ _ _ (hg x List.mem_cons_self)]

theorem State.get_inc_other {c g : Fld} (h : g.key ≠ c.key) : (s.inc c).get g = s.get g :=
  State.get_addSat_other _ _ _ _ h

theorem sameRegsBut_storeFields : SameRegsBut (F.GLB_ACCERR_LOCKED_CNT :: F.GLB_ACCERR_ADDR_ADDR :: fs) s (storeFields o fs w s) := by
  intro g hg
  have hcnt : g.key ≠ F.GLB_ACCERR_LOCKED_CNT.key := hg _ (by simp)
  have haddr : g.key ≠ F.GLB_ACCERR_ADDR_ADDR.key := hg _ (by simp)
  have hfold := get_foldl_set (g := g) (fieldBits · w)
    (fs.filter fun f => (f.acc == .rw || ((f.acc == .rwl || f.acc == .rws) && o)) && !fieldHeld f s)
    (fun x hx => hg x (by simp [List.mem_of_mem_filter hx])) s
  unfold storeFields
  refine Eq.trans ?_ hfold
  simp only [State.when]
  split
  · split
    · rw [State.get_set_other _ _ _ _ haddr, State.get_inc_other hcnt]
    · rw [State.get_inc_other hcnt]
  · rfl

end Fields

section Sideband

variable {a bytes v x : Nat} {s t : State}

/-! ### The sideband (R345) -/

theorem sideRead_off (h : domOn 45 s = false) : sideRead a bytes s = s :=
  if_pos (by simp [h])

theorem sideRead_unaligned (h : domOn 45 s = true) (ha : a % bytes ≠ 0) : sideRead a bytes s = sideAnswer 3 [] s :=
  (if_neg (by simp [h])).trans (if_pos ha)

theorem sideRead_done (h : domOn 45 s = true) (ha : a % bytes = 0) (hr : setupRead a bytes s = (some x, t)) :
    sideRead a bytes s = sideAnswer 0 (bytesLe bytes x) t :=
  (if_neg (by simp [h])).trans ((if_neg (not_not.mpr ha)).trans (by rw [hr]))

theorem sideRead_error (h : domOn 45 s = true) (ha : a % bytes = 0) (hr : setupRead a bytes s = (none, t)) : sideRead a bytes s = sideAnswer 1 [] t :=
  (if_neg (by simp [h])).trans ((if_neg (not_not.mpr ha)).trans (by rw [hr]))

theorem sideWrite_off (h : domOn 45 s = false) : sideWrite a bytes v s = s :=
  if_pos (by simp [h])

theorem sideWrite_unaligned (h : domOn 45 s = true) (ha : a % bytes ≠ 0) : sideWrite a bytes v s = sideAnswer 3 [] s :=
  (if_neg (by simp [h])).trans (if_pos ha)

theorem sideWrite_beyond (h : domOn 45 s = true) (ha : a % bytes = 0) (hb : 0x4000000 ≤ a) : sideWrite a bytes v s = sideAnswer 0 [] (breakSeq s) :=
  (if_neg (by simp [h])).trans ((if_neg (not_not.mpr ha)).trans (if_pos hb))

theorem sideWrite_done {k : Nat} (h : domOn 45 s = true) (ha : a % bytes = 0) (hb : a < 0x4000000) (hr : regWriteAll .sideband a bytes v s = (t, k)) :
    sideWrite a bytes v s = sideAnswer k [] t :=
  (if_neg (by simp [h])).trans ((if_neg (not_not.mpr ha)).trans ((if_neg (by omega)).trans (by simp only [hr])))

end Sideband

/-- Settles O44, by what stands armed, where a write's address lies, the class of a field, and the alignment of a sideband access. -/
theorem accessesOfTheSetUpSpace : Obligations.AccessesOfTheSetUpSpace := by
  unfold Obligations.AccessesOfTheSetUpSpace
  intro path blk addr bytes v a32 d32 f fs o w s u off a
  refine ⟨rfl, fun ha hp hd => ⟨fun hb => ?_, fun hb hb' => ?_, fun hb => ?_, fun hb hb' => ?_⟩, fun h => ?_, fun hb => ?_, fun hb => ?_, rfl,
    fun ha hb ha8 => ⟨fun hw => ?_, fun hw hs hf hl => ?_, fun hw hs hf hb4 hl => ?_⟩, regWrite_guarded, fun hf => ?_, storeFields_kept, fun hf => ?_,
    storeFields_locked, sameRegsBut_storeFields, fun hd => ?_, fun hd => ⟨fun ha => ?_, fun ha => ?_, fun x t ha hr => ?_, fun x t ha hr => ?_,
      fun t ha hr => ?_, fun t k ha hb hr => ?_, fun t k ha hb hr => ?_, fun hb ha => ?_⟩⟩
  · exact next_congr ((unlockSecond_opens ha hp hd (by simp [identValid, hb])).trans (setOpen_chan hb true))
  · exact next_congr ((unlockSecond_opens ha hp hd (by simp [identValid, hb, hb'])).trans (setOpen_host hb hb' true))
  · subst hb
    exact next_congr ((unlockSecond_opens ha hp hd rfl).trans (setOpen_all true))
  · refine next_congr (unlockSecond_fails (.inr (.inr (.inr ?_))))
    have hne : blk.toNat ≠ 0xFFFF := by omega
    simp [identValid, hne, Nat.not_lt.mpr hb, Nat.not_le.mpr hb']
  · refine next_congr (unlockSecond_fails ?_)
    rcases h with h | h | h
    · exact .inl h
    · exact .inr (.inl h)
    · exact .inr (.inr (.inl h))
  · exact next_congr (setOpen_chan hb false)
  · subst hb
    exact next_congr (setOpen_all false)
  · exact next_congr (congrArg Prod.fst ((regWriteAll_single hb ha8).trans (arbiterWrite_off ha hw)))
  · exact next_congr (congrArg Prod.fst ((regWriteAll_single hb ha8).trans (arbiterWrite_size ha hw hs hf hb hl)))
  · subst hb4
    exact next_congr ((congrArg Prod.fst (regWriteAll_single hb ha8)).trans (arbiterWrite_word ha hw hs hf hl))
  · exact storeFields_stored (by simp [hf])
  · exact storeFields_stored (by rcases hf with hf | hf <;> simp [hf])
  · exact ⟨next_congr (sideRead_off hd), next_congr (sideRead_off hd), next_congr (sideWrite_off hd), next_congr (sideWrite_off hd)⟩
  · exact ⟨next_congr (sideRead_unaligned hd ha), next_congr (sideWrite_unaligned hd ha)⟩
  · exact ⟨next_congr (sideRead_unaligned hd ha), next_congr (sideWrite_unaligned hd ha)⟩
  · exact next_congr (sideRead_done hd ha hr)
  · exact next_congr (sideRead_done hd ha hr)
  · exact next_congr (sideRead_error hd ha hr)
  · exact next_congr (sideWrite_done hd ha hb hr)
  · exact next_congr (sideWrite_done hd ha hb hr)
  · exact next_congr (sideWrite_beyond hd ha hb)

end Sys2Proof.Machine
end

section
/-! PROOFS. The sideband's messages (R343, R344). -/

namespace Sys2Proof.Machine

/-- The state after reset with the SIDEBAND domain on, and a target with an address whose in-band interrupts are enabled. -/
def signalingTarget : State :=
  (setDom 45 true State.reset).modHost fun h => { h with i3c := { h.i3c with dyn := some 8, evEn := true } }

/-- Refutes O45: the answer of a message also counts the in-band interrupts of its packets (`sideAnswer`, R343). The statement leaves the
count alone, which is wrong for a target with an address and interrupts enabled. Configuration Get of an unknown identifier is enough. -/
theorem not_sidebandMessages : ¬ Obligations.SidebandMessages := by
  unfold Obligations.SidebandMessages
  intro h
  obtain ⟨-, -, -, -, -, hon⟩ := h 0 0 0 0 4 0 ⟨0, 0, 0, 0, 0, 0, 0, 0, 0, 0, 0⟩ signalingTarget
  obtain ⟨-, -, -, -, -, -, -, -, hunknown, -⟩ := hon (by decide +kernel)
  have hstate := Host.Outcome.next.inj (hunknown (by decide) (by decide)).2
  have hcount := congrArg (fun t => t.host.i3c.ibis) hstate
  exact absurd hcount (by decide +kernel)

end Sys2Proof.Machine
end

section
/-! PROOFS. Doorbells (R320, R340). -/

namespace Sys2Proof.Machine

/-- The state after reset, but that bit 1 of Asynchronous Event Configuration is set in controller 0: events of type 1, information 1, are enabled. -/
def warningEnabled : State := State.reset.modCtlr 0 fun t => { t with aec := 2 }

/-- Refutes O46: an invalid doorbell write is an event of type 0, information 1 (Error, R340), and the statement asks for one of type 1
(SMART / Health). On controller 0 of `warningEnabled` the event of type 1 is enabled, not masked, and does not become pending. -/
theorem not_doorbells : ¬ Obligations.Doorbells := by
  unfold Obligations.Doorbells
  intro h
  obtain ⟨-, -, -, -, hbad, -⟩ := h 0 0 0 0 0 0 ⟨0, 0, 0, 0, 0, 0, 0, false⟩ ⟨0, 0, 0, 0, false, 0, 0, 0, false, []⟩ warningEnabled
  obtain ⟨-, -, -, -, -, -, hevent, -⟩ := hbad false
  exact absurd (hevent (by decide) (by decide)) (by decide)

end Sys2Proof.Machine
end

section
/-! PROOFS. Intake and completion of commands (chapters 10 and 11): the grant of the arbitration, the transfer of data, the hand-over and
the posting of completions, and the table of range locks. -/

namespace Sys2Proof.Machine

/-! ### The table of commands -/

theorem State.cmd_modCmd_same {s : State} {k : Nat} {f : Cmd → Cmd} (hf : ∀ c, (f c).k = c.k) : (s.modCmd k f).cmd k = (s.cmd k).map f := by
  show (s.host.cmds.map fun c => if c.k == k then f c else c).find? (fun c => c.k == k) = _
  rw [List.find?_map]
  have hp : ((fun c : Cmd => c.k == k) ∘ fun c => if c.k == k then f c else c) = fun c => c.k == k := by
    funext c
    by_cases h : c.k = k <;> simp [h, hf]
  rw [hp]
  show (s.cmd k).map _ = _
  cases h : s.cmd k with
  | none => rfl
  | some c => simp [cmd_k h]

theorem cmd_mem {s : State} {k : Nat} {c : Cmd} (h : s.cmd k = some c) : c ∈ s.host.cmds :=
  List.mem_of_find?_eq_some h

section Arbitration

variable {last : Nat} {qs : List Sq} {q : Sq} {c : Ctl} {s : State} {u : Ctlr}

/-! ### Arbitration (R322, R323) -/

/-- The step of the search for the lowest queue identifier. -/
def lowerQid (m : Option Sq) (q : Sq) : Option Sq :=
  match m with
  | none => some q
  | some x => if q.qid < x.qid then some q else some x

theorem mem_of_foldl_lowerQid (l : List Sq) : ∀ m, l.foldl lowerQid m = some q → q ∈ l ∨ m = some q := by
  induction l with
  | nil => exact fun m h => .inr h
  | cons y l ih =>
    intro m hm
    rcases ih _ hm with hl | hy
    · exact .inl (List.mem_cons_of_mem _ hl)
    · cases m with
      | none => exact .inl (Option.some.inj hy ▸ List.mem_cons_self)
      | some x =>
        unfold lowerQid at hy
        dsimp only at hy
        split at hy
        · exact .inl (Option.some.inj hy ▸ List.mem_cons_self)
        · exact .inr hy

theorem mem_of_rrNext (h : rrNext last qs = some q) : q ∈ qs := by
  have hpick : ∀ {l : List Sq}, l.foldl lowerQid none = some q → q ∈ l := fun hl => (mem_of_foldl_lowerQid _ none hl).resolve_right (by simp)
  unfold rrNext at h
  dsimp only at h
  split at h
  next x hx => exact List.mem_of_mem_filter (hpick (hx.trans h))
  · exact hpick h

/-- The queues of a controller with entries to fetch. -/
def waitingSqs (c : Ctl) (s : State) : List Sq := s.host.sqs.filter fun q => q.waiting c

theorem mem_waitingSqs (h : q ∈ waitingSqs c s) : q ∈ s.host.sqs ∧ q.ctl = c ∧ 0 < q.avail := by
  obtain ⟨hm, hw⟩ := List.mem_filter.mp h
  simp only [Sq.waiting, Bool.and_eq_true, beq_iff_eq, decide_eq_true_eq] at hw
  exact ⟨hm, hw.1.1.1, hw.2⟩

/-- The grant of the weighted classes with the credits `cr`. -/
def classPick (c : Ctl) (s : State) (cr : Nat × Nat × Nat) : Option (Sq × Ctlr) :=
  let t := s.ctlr c
  match (if cr.1 = 0 then none else rrNext t.last[1] ((waitingSqs c s).filter fun q => q.prio == 1)) with
  | some q => some (q, { t with last := t.last.set 1 q.qid, credits := (cr.1 - 1, cr.2.1, cr.2.2) })
  | none => match (if cr.2.1 = 0 then none else rrNext t.last[2] ((waitingSqs c s).filter fun q => q.prio == 2)) with
    | some q => some (q, { t with last := t.last.set 2 q.qid, credits := (cr.1, cr.2.1 - 1, cr.2.2) })
    | none => match (if cr.2.2 = 0 then none else rrNext t.last[3] ((waitingSqs c s).filter fun q => q.prio == 3)) with
      | some q => some (q, { t with last := t.last.set 3 q.qid, credits := (cr.1, cr.2.1, cr.2.2 - 1) })
      | none => none

/-- The arbitration when no entry of the admin queue waits. -/
def ioGrant (c : Ctl) (s : State) : Option (Sq × Ctlr) :=
  let t := s.ctlr c
  if t.ams != 1 then (rrNext t.last[4] (waitingSqs c s)).map fun q => (q, { t with last := t.last.set 4 q.qid })
  else match rrNext t.last[0] ((waitingSqs c s).filter fun q => q.prio == 0) with
    | some q => some (q, { t with last := t.last.set 0 q.qid })
    | none => match classPick c s t.credits with
      | some x => some x
      | none => classPick c s (classWeight t.arb 1, classWeight t.arb 2, classWeight t.arb 3)

theorem arbitrate_eq : arbitrate c s = match s.host.sqs.find? fun q => q.ctl == c && q.qid == 0 && decide (0 < q.avail) with
    | some q => some (q, s.ctlr c)
    | none => ioGrant c s := rfl

theorem mem_of_class {n : Nat} {p : Sq → Bool} (h : (if n = 0 then none else rrNext last (qs.filter p)) = some q) : q ∈ qs := by
  split at h
  · exact absurd h (by simp)
  · exact List.mem_of_mem_filter (mem_of_rrNext h)

theorem mem_of_classPick {cr : Nat × Nat × Nat} (h : classPick c s cr = some (q, u)) : q ∈ waitingSqs c s := by
  unfold classPick at h
  dsimp only at h
  split at h
  next y hy => exact (Prod.mk.inj (Option.some.inj h)).1 ▸ mem_of_class hy
  · split at h
    next y hy => exact (Prod.mk.inj (Option.some.inj h)).1 ▸ mem_of_class hy
    · split at h
      next y hy => exact (Prod.mk.inj (Option.some.inj h)).1 ▸ mem_of_class hy
      · exact absurd h (by simp)

theorem mem_of_ioGrant (h : ioGrant c s = some (q, u)) : q ∈ waitingSqs c s := by
  unfold ioGrant at h
  dsimp only at h
  split at h
  · obtain ⟨y, hy, hyq⟩ := Option.map_eq_some_iff.mp h
    exact (Prod.mk.inj hyq).1 ▸ mem_of_rrNext hy
  · split at h
    next y hy => exact (Prod.mk.inj (Option.some.inj h)).1 ▸ List.mem_of_mem_filter (mem_of_rrNext hy)
    · split at h
      next x hx => exact mem_of_classPick (hx.trans h)
      · exact mem_of_classPick h

/-- The admin queue with an entry comes before every other. -/
theorem arbitrate_admin (h : s.sq c 0 = some q) (ha : 0 < q.avail) : ∃ b, arbitrate c s = some (b, s.ctlr c) ∧ b.ctl = c ∧ b.qid = 0 := by
  have hq : (q.ctl == c && q.qid == 0) = true := List.find?_some (p := fun q : Sq => q.ctl == c && q.qid == 0) h
  have hmem := List.mem_of_find?_eq_some h
  obtain ⟨b, hb⟩ := Option.isSome_iff_exists.mp (List.find?_isSome (p := fun q : Sq => q.ctl == c && q.qid == 0 && decide (0 < q.avail)) |>.mpr
    ⟨q, hmem, by simp only [hq, ha, decide_true, Bool.and_self]⟩)
  refine ⟨b, by simp only [arbitrate_eq, hb], ?_⟩
  have hp := List.find?_some hb
  simp only [Bool.and_eq_true, beq_iff_eq] at hp
  exact hp.1

/-- A queue granted is one of the controller that has entries. -/
theorem arbitrate_grants (h : arbitrate c s = some (q, u)) : q ∈ s.host.sqs ∧ q.ctl = c ∧ 0 < q.avail := by
  rw [arbitrate_eq] at h
  split at h
  next y hy =>
    obtain ⟨rfl, -⟩ := Prod.mk.inj (Option.some.inj h)
    have hp := List.find?_some hy
    simp only [Bool.and_eq_true, beq_iff_eq, decide_eq_true_eq] at hp
    exact ⟨List.mem_of_find?_eq_some hy, hp.1.1, hp.2⟩
  · exact mem_waitingSqs (mem_of_ioGrant h)

/-! ### Fetch (R319, R322) -/

theorem commandFetch_held {es : List Sqe} (h : (s.ctlr c).en = false ∨ (s.ctlr c).rdy = false ∨ s.flag F.NVME_INTAKE_FETCH_STOP = true) :
    commandFetch c es s = s :=
  if_pos (by rcases h with h | h | h <;> simp [h])

theorem commandFetch_runs {es : List Sqe} (he : (s.ctlr c).en = true) (hr : (s.ctlr c).rdy = true) (hs : s.flag F.NVME_INTAKE_FETCH_STOP = false) :
    commandFetch c es s = match arbitrate c s with
      | none => s
      | some (q, u) => fetchMany c q.qid (es.take (if (s.ctlr c).arb % 8 = 7 then q.avail else min q.avail (2 ^ ((s.ctlr c).arb % 8))))
          (s.modCtlr c fun _ => u) :=
  (if_neg (by simp [he, hr, hs])).trans (by cases arbitrate c s <;> rfl)

/-- An admin entry joins the table and takes one entry of the queue; nothing else changes. -/
theorem fetchOne_admin (e : Sqe) : fetchOne c 0 e s =
    (addCmd c 0 e (if s.flag F.FAULT_STAT_SAFE then some stInternal else adminCheck e s) s).modSq c 0 fun q => { q with avail := q.avail - 1 } := rfl

end Arbitration

section Transfer

variable {k : Nat} {ok : Bool} {data : List Block} {d : Cmd} {v : Ns} {s : State}

/-! ### The data of a write (R19, R20, R317) -/

theorem transferDone_none (h : s.cmd k = none) : transferDone k ok data s = s := by
  simp only [transferDone, h]

theorem transferDone_decided (h : s.cmd k = some d) (hd : d.status ≠ none) : transferDone k ok data s = s := by
  simp only [transferDone, h, Option.isSome_iff_ne_none.mpr hd, if_true]

theorem transferDone_other (h : s.cmd k = some d) (hd : d.status = none) (hw : d.wantXfer = false) : transferDone k ok data s =
    if !ok && !d.started && readsHost d then (failCmd k stTransfer s).raise (hostSrc 2) d.ctl.val else s := by
  simp only [transferDone, h, hd, hw, Option.isSome_none, Bool.false_eq_true, if_false, Bool.not_false, if_true]

/-- The outcome of a transfer of write data that has arrived whole. -/
def transferGood (k : Nat) (data : List Block) (d : Cmd) (s : State) : State :=
  match s.ns d.e.ns with
  | none => failCmd k stInvalidNs s
  | some v =>
    match (if piInserts v d.e then [] else data.zipIdx).findSome? fun x => piCheck v d.e x.2 x.1 with
    | some st => failCmd k st s
    | none => beginEffect d v (d.handles.zipIdx.map fun x => ⟨(d.ranges.head?.map fun r => r.lba).getD 0 + x.2, 1, 1, some x.1, none⟩)
        ((putBlocks d.handles (data.zipIdx.map fun x => if piInserts v d.e then { x.1 with md := piMake v d.e x.2 x.1.data } else x.1) s).modCmd k
          fun y => { y with wantXfer := false })

theorem transferDone_write (h : s.cmd k = some d) (hd : d.status = none) (hw : d.wantXfer = true) : transferDone k ok data s =
    if !ok || data.length != d.handles.length then (failCmd k stTransfer s).raise (hostSrc 2) d.ctl.val else transferGood k data d s := by
  simp only [transferDone, h, hd, hw, Option.isSome_none, Bool.false_eq_true, if_false, Bool.not_true]
  rfl

theorem transferDone_whole (h : s.cmd k = some d) (hd : d.status = none) (hw : d.wantXfer = true) (hok : ok = true)
    (hl : data.length = d.handles.length) : transferDone k ok data s = transferGood k data d s :=
  (transferDone_write h hd hw).trans (if_neg (by simp [hok, hl]))

theorem transferGood_inserts (hv : s.ns d.e.ns = some v) (hi : piInserts v d.e = true) : transferGood k data d s =
    beginEffect d v (d.handles.zipIdx.map fun x => ⟨(d.ranges.head?.map fun r => r.lba).getD 0 + x.2, 1, 1, some x.1, none⟩)
      ((putBlocks d.handles (data.zipIdx.map fun x => { x.1 with md := piMake v d.e x.2 x.1.data }) s).modCmd k fun y => { y with wantXfer := false }) := by
  simp only [transferGood, hv, hi, if_true, List.findSome?_nil]

theorem transferGood_checks (hv : s.ns d.e.ns = some v) (hi : piInserts v d.e = false) : transferGood k data d s =
    match data.zipIdx.findSome? fun x => piCheck v d.e x.2 x.1 with
    | some st => failCmd k st s
    | none => beginEffect d v (d.handles.zipIdx.map fun x => ⟨(d.ranges.head?.map fun r => r.lba).getD 0 + x.2, 1, 1, some x.1, none⟩)
        ((putBlocks d.handles data s).modCmd k fun y => { y with wantXfer := false }) := by
  have hdata : (data.zipIdx.map fun x => x.1) = data := List.zipIdx_map_fst 0 data
  simp only [transferGood, hv, hi, Bool.false_eq_true, if_false, hdata]

end Transfer

section Completion

variable {k : Nat} {d : Cmd} {x : Cq} {s : State}

/-! ### Hand-over and posting (R334, R348, R354) -/

theorem cmdDecide_none (h : s.cmd k = none) : cmdDecide k s = s := by
  simp only [cmdDecide, h]

theorem cmdDecide_decided (h : s.cmd k = some d) (hd : d.status ≠ none) : cmdDecide k s = s := by
  simp only [cmdDecide, h, Option.isSome_iff_ne_none.mpr hd, Bool.true_or, if_true]

theorem handoff_none (h : s.cmd k = none) : handoff k s = s := by
  simp only [handoff, cmdDecide_none h, h]

/-- What the hand-over of a command does once nothing is left to decide. -/
theorem handoff_eq (h : s.cmd k = some d) (hd : cmdDecide k s = s) : handoff k s =
    if d.posting || d.status.isNone then s
    else if d.dead then retireCmd d s
    else if s.flag F.PWR_SUPPLY_PLOSS || writeBefore d s || (match d.after with | some a => (s.cmd a).isSome | none => false) then s
    else if d.qid = 65536 then s.modCmd k fun z => { z with posting := true }
    else match cmdCq d s with
      | none => s
      | some q => if cqRoom q s then s.modCmd k fun z => { z with posting := true } else s := by
  simp only [handoff, hd, h] <;> rfl

theorem handoff_undecided (h : s.cmd k = some d) (hc : cmdDecide k s = s) (hd : d.posting = true ∨ d.status = none) : handoff k s = s :=
  (handoff_eq h hc).trans (if_pos (by simpa using hd))

variable (h : s.cmd k = some d) (hst : d.status ≠ none) (hpost : d.posting = false)

include h hst hpost

theorem handoff_dead (hdead : d.dead = true) : handoff k s = retireCmd d s :=
  (handoff_eq h (cmdDecide_decided h hst)).trans ((if_neg (by simp [hpost, hst])).trans (if_pos hdead))

theorem handoff_held (hdead : d.dead = false)
    (hheld : s.flag F.PWR_SUPPLY_PLOSS = true ∨ writeBefore d s = true ∨ ∃ a, d.after = some a ∧ s.cmd a ≠ none) : handoff k s = s := by
  refine (handoff_eq h (cmdDecide_decided h hst)).trans ((if_neg (by simp [hpost, hst])).trans ((if_neg (by simp [hdead])).trans (if_pos ?_)))
  rcases hheld with hp | hw | ⟨a, ha, hc⟩
  · simp [hp]
  · simp [hw]
  · simp [ha, Option.isSome_iff_ne_none.mpr hc]

theorem handoff_free (hdead : d.dead = false) (hp : s.flag F.PWR_SUPPLY_PLOSS = false) (hw : writeBefore d s = false)
    (ha : ∀ a, d.after = some a → s.cmd a = none) : handoff k s =
    if d.qid = 65536 then s.modCmd k fun z => { z with posting := true }
    else match cmdCq d s with
      | none => s
      | some q => if cqRoom q s then s.modCmd k fun z => { z with posting := true } else s := by
  refine (handoff_eq h (cmdDecide_decided h hst)).trans ((if_neg (by simp [hpost, hst])).trans ((if_neg (by simp [hdead])).trans (if_neg ?_)))
  cases hd : d.after with
  | none => simp [hp, hw]
  | some a => simp [hp, hw, ha a hd]

omit hst hpost

theorem posted_held (hp : d.posting = false ∨ s.flag F.PWR_SUPPLY_PLOSS = true) : posted k s = s := by
  simp only [posted, h]
  exact if_pos (by simpa using hp)

theorem posted_posts (hposting : d.posting = true) (hp : s.flag F.PWR_SUPPLY_PLOSS = false) : posted k s = retireCmd d
    (match cmdCq d s with
    | some q => interrupt q (d.status.getD 0) (writeCqe q d s)
    | none => s) := by
  simp only [posted, h, hposting, hp, Bool.not_true, Bool.or_self, Bool.false_eq_true, if_false] <;> rfl

end Completion

section Locks

variable {k : Nat} {d : Cmd} {s : State}

/-! ### Stamps and range locks (R357, R358, R364) -/

/-- What the end of a stamped original does to the duplicate that waits for it. -/
def stampEnded (d : Cmd) (k : Nat) (s : State) : State :=
  if d.stampWait.isNone || d.status.isSome || (stampHeld d s).isSome then s
  else (stampLookup { d with stampWait := none } (s.modCmd k fun z => { z with stampWait := none })).2

theorem stampEnded_held (h : d.stampWait = none ∨ d.status ≠ none ∨ stampHeld d s ≠ none) : stampEnded d k s = s :=
  if_pos (by simpa only [Bool.or_eq_true, Option.isNone_iff_eq_none, Option.isSome_iff_ne_none, or_assoc] using h)

theorem stampEnded_runs (hw : d.stampWait ≠ none) (hd : d.status = none) (hh : stampHeld d s = none) :
    stampEnded d k s = (stampLookup { d with stampWait := none } (s.modCmd k fun z => { z with stampWait := none })).2 :=
  if_neg (by simp [hw, hd, hh])

theorem lockGrant_none (h : ∀ y ∈ s.host.cmds, y.lockWait = false) : lockGrant s = s := by
  have hf : s.host.cmds.filter (fun c => c.lockWait) = [] := List.filter_eq_nil_iff.mpr fun y hy => by simp [h y hy]
  simp only [lockGrant, hf, List.foldl_nil]

theorem takeLocks_new (h : s.cmd k = some d) (hl : locking d s = true) (hn : ∀ l ∈ s.host.locks, l.k ≠ k) : takeLocks k s =
    if s.host.locks.length + (lockEntries d).length ≤ 256 then
      lockSync ((s.modHost fun h => { h with locks := h.locks ++ lockEntries d }).modCmd k fun y => { y with lockWait := false })
    else (s.setFlag F.NVME_RLOCK_FULL true).modCmd k fun y => { y with lockWait := true } := by
  have hany : (s.host.locks.any fun l => l.k == k) = false := List.any_eq_false.mpr fun l hm => by simp [hn l hm]
  simp only [takeLocks, h, hl, hany, Bool.not_true, Bool.or_self, Bool.false_eq_true, if_false]

end Locks

/-- Settles O47, by what holds a fetch, the data of a write, the completion of a command, and the room of the lock table. -/
theorem fetchAndCompletion : Obligations.FetchAndCompletion := by
  unfold Obligations.FetchAndCompletion
  intro c es e k n d v q u x ok data s
  refine ⟨fun h => next_congr (commandFetch_held h), fun he hr hs => ⟨fun ha => ?_, fun ha hn => ?_⟩, fun a => arbitrate_admin, arbitrate_grants, ?_,
    fun h => ⟨next_congr (transferDone_none h), next_congr (handoff_none h), next_congr (by simp only [posted, h]), next_congr (by rw [h])⟩,
    fun h => ⟨fun hd => next_congr (transferDone_decided h hd), fun hw hd => ⟨fun ho => ?_, fun ho hs hr => ?_⟩,
      fun hw hd => ⟨fun ho => ?_, fun ho hl hv => ?_, fun ho hl hv => ⟨fun hi => ?_, fun hi st hf => ?_, fun hi hf => ?_⟩⟩,
      fun hc hd => next_congr (handoff_undecided h hc hd),
      fun hst hpost => ⟨fun hdead => next_congr (handoff_dead h hst hpost hdead), fun hdead hh => next_congr (handoff_held h hst hpost hdead hh),
        fun hdead hp hw ha => ⟨fun hq => ?_, fun hq hcq => ?_, fun hq hcq hroom => ?_, fun hq hcq hroom => ?_⟩⟩,
      fun hp => next_congr (posted_held h hp), fun hpost hp => ⟨fun hcq => ?_, fun hcq => ?_⟩, rfl, fun hw => ?_, fun hw hd hh => ?_⟩,
    rfl, lockGrant_none, fun h hl hn => ⟨fun h256 => ?_, fun h256 => ?_⟩⟩
  · exact next_congr ((commandFetch_runs he hr hs).trans (by rw [ha]))
  · exact next_congr ((commandFetch_runs he hr hs).trans (by rw [ha, hn]))
  · exact ⟨⟨_, rfl, rfl, rfl, rfl, rfl, rfl, rfl⟩, rfl, rfl, rfl, rfl, rfl, rfl⟩
  · refine next_congr ((transferDone_other h hd hw).trans (if_neg ?_))
    rcases ho with ho | ho | ho <;> simp [ho]
  · exact next_congr ((transferDone_other h hd hw).trans (if_pos (by simp [ho, hs, hr])))
  · refine next_congr ((transferDone_write h hd hw).trans (if_pos ?_))
    rcases ho with ho | ho <;> simp [ho]
  · exact next_congr ((transferDone_whole h hd hw ho hl).trans (by simp only [transferGood, hv]))
  · exact next_congr ((transferDone_whole h hd hw ho hl).trans (transferGood_inserts hv hi))
  · exact next_congr ((transferDone_whole h hd hw ho hl).trans ((transferGood_checks hv hi).trans (by rw [hf])))
  · exact next_congr ((transferDone_whole h hd hw ho hl).trans ((transferGood_checks hv hi).trans (by rw [hf])))
  · exact next_congr ((handoff_free h hst hpost hdead hp hw ha).trans (if_pos hq))
  · exact next_congr ((handoff_free h hst hpost hdead hp hw ha).trans ((if_neg hq).trans (by rw [hcq])))
  · exact next_congr ((handoff_free h hst hpost hdead hp hw ha).trans ((if_neg hq).trans (by simp only [hcq, hroom, Bool.false_eq_true, if_false])))
  · exact next_congr ((handoff_free h hst hpost hdead hp hw ha).trans ((if_neg hq).trans (by simp only [hcq, hroom, if_true])))
  · exact next_congr ((posted_posts h hpost hp).trans (by rw [hcq]))
  · exact next_congr ((posted_posts h hpost hp).trans (by rw [hcq]))
  · exact next_congr (Eq.trans (by rw [h]; rfl) (stampEnded_held hw))
  · exact next_congr (Eq.trans (by rw [h]; rfl) (stampEnded_runs hw hd hh))
  · rw [takeLocks_new h hl hn, if_pos h256]
    rfl
  · rw [takeLocks_new h hl hn, if_neg (by omega)]
    refine ⟨rfl, ?_⟩
    rw [State.cmd_modCmd_same (f := fun y => { y with lockWait := true }) (fun _ => rfl), show (s.setFlag F.NVME_RLOCK_FULL true).cmd k = some d from h]
    rfl

end Sys2Proof.Machine
end

section
/-! PROOFS. Controllers and ports (R314 to R318, R346, R347, R375, R376, R409). -/

namespace Sys2Proof.Machine

/-! ### The two controllers -/

theorem mem_allCtls (c : Ctl) : c ∈ allCtls := by
  revert c
  decide

theorem State.ctlr_modCtlr_other (s : State) {c d : Ctl} (f : Ctlr → Ctlr) (h : d ≠ c) : (s.modCtlr c f).ctlr d = s.ctlr d := by
  have : (c : Nat) ≠ d := fun e => h (Fin.ext e.symm)
  simp [State.ctlr, State.modCtlr, State.modHost, this]

section Ports

variable {c : Ctl} {s : State}

theorem portThere_iff : portThere c s = true ↔ c = 0 ∨ s.boot.bifur = true := by
  simp [portThere]

theorem portThere_false (h : ¬(c = 0 ∨ s.boot.bifur = true)) : portThere c s = false := by
  simpa [portThere] using h

/-! ### Enable (R318) -/

variable {ams iosqes iocqes a b : Nat}

theorem ctlEnable_refused (h : (s.ctlr c).en = true ∨ (s.ctlr c).rdy = true ∨ ¬(c = 0 ∨ s.boot.bifur = true) ∨ s.rst.perst[c] = true ∨
    s.boot.booted = false ∨ s.rst.chip ≠ none) : ctlEnable c ams iosqes iocqes a b s = s := by
  refine if_pos ?_
  simp only [Bool.or_eq_true, Bool.not_eq_true', Option.isSome_iff_ne_none]
  rcases h with h | h | h | h | h | h
  · simp only [h, true_or]
  · simp only [h, true_or, or_true]
  · simp only [portThere_false h, true_or, or_true]
  · simp only [h, true_or, or_true]
  · simp only [h, true_or, or_true]
  · exact .inr h

theorem ctlEnable_asked (he : (s.ctlr c).en = false) (hr : (s.ctlr c).rdy = false) (ht : c = 0 ∨ s.boot.bifur = true) (hp : s.rst.perst[c] = false)
    (hb : s.boot.booted = true) (hc : s.rst.chip = none) : ctlEnable c ams iosqes iocqes a b s =
    if 2 ≤ ams || iosqes != 6 || iocqes != 4 then s
    else (s.modCtlr c fun y => { y with en := true, rdy := true, ams := ams, shst := 0 }).modHost fun h => { h with
      sqs := h.sqs ++ [⟨c, 0, a % 4096 + 1, 0, 0, 0, 0, false⟩], cqs := h.cqs ++ [⟨c, 0, b % 4096 + 1, 0, true, 0, 0, 0, true, []⟩] } :=
  if_neg (by
    rw [he, hr, portThere_iff.mpr ht, hb, hc]
    simpa using hp)

/-! ### Reset (R375, R376) -/

theorem ctlReset_disabled {kind : Nat} (h : (s.ctlr c).en = false) : ctlReset kind c s = s :=
  if_pos (by simp [h])

theorem ctlReset_enabled {kind : Nat} (h : (s.ctlr c).en = true) : ctlReset kind c s =
    (lockGrant ((stopCmds c (markBusy c (resetRecord kind c.val s))).modHost fun h => { h with
      sqs := h.sqs.filter fun q => q.ctl != c, cqs := h.cqs.filter fun q => q.ctl != c })).modCtlr c ctlClear :=
  if_neg (by simp [h])

theorem queues_takeLocks (k : Nat) (t : State) : (takeLocks k t).host.sqs = t.host.sqs ∧ (takeLocks k t).host.cqs = t.host.cqs := by
  unfold takeLocks
  split
  · exact ⟨rfl, rfl⟩
  · dsimp only
    split
    · exact ⟨rfl, rfl⟩
    · split <;> exact ⟨rfl, rfl⟩

/-- The grant of locks leaves every queue alone. -/
theorem queues_lockGrant (s : State) : (lockGrant s).host.sqs = s.host.sqs ∧ (lockGrant s).host.cqs = s.host.cqs := by
  have hkeep : ∀ (l : List Cmd) (t : State), (l.foldl (fun t c => if (t.host.cmds.any fun d => d.lockWait && decide (d.k < c.k)) then t else takeLocks c.k t) t).host.sqs
      = t.host.sqs ∧ (l.foldl (fun t c => if (t.host.cmds.any fun d => d.lockWait && decide (d.k < c.k)) then t else takeLocks c.k t) t).host.cqs = t.host.cqs := by
    intro l
    induction l with
    | nil => exact fun t => ⟨rfl, rfl⟩
    | cons x l ih =>
      intro t
      rw [List.foldl_cons]
      obtain ⟨hs, hc⟩ := ih (if (t.host.cmds.any fun d => d.lockWait && decide (d.k < x.k)) then t else takeLocks x.k t)
      obtain ⟨hs', hc'⟩ := queues_takeLocks x.k t
      rw [hs, hc]
      split
      · exact ⟨rfl, rfl⟩
      · exact ⟨hs', hc'⟩
  exact hkeep _ s

theorem queues_ctlReset {kind : Nat} (h : (s.ctlr c).en = true) :
    (∀ q ∈ (ctlReset kind c s).host.sqs, q.ctl ≠ c) ∧ ∀ q ∈ (ctlReset kind c s).host.cqs, q.ctl ≠ c := by
  rw [ctlReset_enabled h]
  have hsq : ∀ t : State, (t.modCtlr c ctlClear).host.sqs = t.host.sqs := fun _ => rfl
  have hcq : ∀ t : State, (t.modCtlr c ctlClear).host.cqs = t.host.cqs := fun _ => rfl
  rw [hsq, hcq, (queues_lockGrant _).1, (queues_lockGrant _).2]
  exact ⟨fun q hq => bne_iff_ne.mp (List.mem_filter.mp hq).2, fun q hq => bne_iff_ne.mp (List.mem_filter.mp hq).2⟩

/-! ### Shutdown (R409) -/

theorem abrupt_ignored (h : (s.ctlr c).en = false ∨ (s.ctlr c).shst = 2) : abrupt c s = s :=
  if_pos (by simpa using h)

theorem orderly_ignored (h : (s.ctlr c).en = false ∨ (s.ctlr c).shst = 2) : orderly c s = s :=
  if_pos (by simpa using h)

theorem abrupt_acts (he : (s.ctlr c).en = true) (h : (s.ctlr c).shst ≠ 2) :
    abrupt c s = (flyCheckpoint false s).modCtlr c fun y => { y with shst := 2 } :=
  if_neg (by simp [he, h])

/-- The controller that is asked to shut down shows that it is in progress. -/
def shuttingDown (c : Ctl) (s : State) : State := s.modCtlr c fun y => { y with shst := 1 }

/-- Every controller of a list shows its shutdown as complete. -/
def shutdownDone (l : List Ctl) (s : State) : State := s.each l fun d u => u.modCtlr d fun y => { y with shst := 2 }

theorem orderly_acts (he : (s.ctlr c).en = true) (h : (s.ctlr c).shst ≠ 2) : orderly c s =
    if (allCtls.filter fun d => ((shuttingDown c s).ctlr d).en).all fun d => ((shuttingDown c s).ctlr d).shst != 0 then
      shutdownDone (allCtls.filter fun d => ((shuttingDown c s).ctlr d).en) (flyCheckpoint true (tablesToFly (shuttingDown c s)))
    else shuttingDown c s :=
  if_neg (by simp [he, h])

theorem en_shuttingDown (d : Ctl) : ((shuttingDown c s).ctlr d).en = (s.ctlr d).en := by
  by_cases h : d = c
  · rw [h, shuttingDown, State.ctlr_modCtlr_same]
  · rw [shuttingDown, State.ctlr_modCtlr_other _ _ h]

theorem all_shutting : ((allCtls.filter fun d => ((shuttingDown c s).ctlr d).en).all fun d => ((shuttingDown c s).ctlr d).shst != 0) = true ↔
    ∀ d, (s.ctlr d).en = true → d ≠ c → (s.ctlr d).shst ≠ 0 := by
  simp only [List.all_eq_true, List.mem_filter, mem_allCtls, true_and, en_shuttingDown, bne_iff_ne]
  refine ⟨fun h d he hd => ?_, fun h d he => ?_⟩
  · have := h d he
    rwa [shuttingDown, State.ctlr_modCtlr_other _ _ hd] at this
  · by_cases hd : d = c
    · rw [hd, shuttingDown, State.ctlr_modCtlr_same]
      exact Nat.one_ne_zero
    · rw [shuttingDown, State.ctlr_modCtlr_other _ _ hd]
      exact h d he hd

theorem shst_shutdownDone {d : Ctl} (l : List Ctl) : ∀ t : State, (t.ctlr d).shst = 2 ∨ d ∈ l → ((shutdownDone l t).ctlr d).shst = 2 := by
  induction l with
  | nil => exact fun t h => h.resolve_right List.not_mem_nil
  | cons e l ih =>
    intro t h
    refine ih (t.modCtlr e fun y => { y with shst := 2 }) ?_
    by_cases hd : d = e
    · rw [hd, State.ctlr_modCtlr_same]
      exact .inl rfl
    · rw [State.ctlr_modCtlr_other _ _ hd]
      exact h.imp_right fun hm => (List.mem_cons.mp hm).resolve_left hd

theorem fly_shutdownDone (l : List Ctl) (t : State) : (shutdownDone l t).fly = t.fly :=
  State.each_keeps State.fly (f := fun d u => u.modCtlr d fun y => { y with shst := 2 }) (fun _ _ => rfl) l t

theorem orderly_last (he : (s.ctlr c).en = true) (h : (s.ctlr c).shst ≠ 2) (hall : ∀ d, (s.ctlr d).en = true → d ≠ c → (s.ctlr d).shst ≠ 0) :
    (∀ d, (s.ctlr d).en = true → ((orderly c s).ctlr d).shst = 2) ∧ (orderly c s).fly = (flyCheckpoint true (tablesToFly (shuttingDown c s))).fly := by
  rw [orderly_acts he h, if_pos (all_shutting.mpr hall)]
  refine ⟨fun d hd => shst_shutdownDone _ _ (.inr ?_), fly_shutdownDone _ _⟩
  exact List.mem_filter.mpr ⟨mem_allCtls d, (en_shuttingDown d).trans hd⟩

/-! ### Ports (R312 to R317, R346, R347) -/

theorem setPort_eq (rate width : Nat) : setPort c rate width s =
    (s.set (if c = 0 then F.NVME_PORTSTAT_RATE0 else F.NVME_PORTSTAT_RATE1) rate).set
      (if c = 0 then F.NVME_PORTSTAT_WIDTH0 else F.NVME_PORTSTAT_WIDTH1) width := by
  by_cases h : c = 0 <;> simp [setPort, h]

theorem linkDown_there (h : portThere c s = true) : linkDown c s = ((setPort c 0 0 s).inc F.NVME_PORTSTAT_DOWN_CNT).raise (hostSrc 0) c.val :=
  if_neg (by simp [h])

theorem linkDown_absent (h : portThere c s = false) : linkDown c s = s :=
  if_pos (by simp [h])

theorem perstAssert_ignored (h : portThere c s = false ∨ s.rst.perst[c] = true) : perstAssert c s = s :=
  if_pos (by simpa using h)

theorem perstAssert_acts (h : portThere c s = true) (hp : s.rst.perst[c] = false) : perstAssert c s =
    let t := { s with rst := { s.rst with perst := s.rst.perst.set c true } }
    if s.rst.chip.isSome then t else ctlReset 4 c (setPort c 0 0 t) :=
  if_neg (by
    rw [h]
    simpa using hp)

variable {rate width : Nat}

theorem linkTrained_ignored (h : portThere c s = false ∨ s.rst.perst[c] = true) : linkTrained c rate width s = s :=
  if_pos (by
    rcases h with h | h
    · simp [h]
    · simp only [Bool.or_eq_true, h, true_or, or_true])

theorem linkTrained_eq (h : portThere c s = true) (hp : s.rst.perst[c] = false) (h1 : 1 ≤ rate) (h6 : rate ≤ 6) : linkTrained c rate width s =
    if !s.boot.bifur && width == 8 then setPort c rate 8 s
    else if width == 4 then if s.boot.bifur then setPort c rate 4 s else (setPort c rate 4 s).raise (hostSrc 1) c.val
    else s := by
  refine if_neg ?_
  have hr : (rate == 0) = false := by simpa using Nat.one_le_iff_ne_zero.mp h1
  have hr6 : decide (6 < rate) = false := by simpa using h6
  rw [h, hr, hr6, hp]
  decide

/-! ### Run-on commands (R376) -/

/-- The dead commands of a controller are handed over. -/
def handDead (c : Ctl) (s : State) : State := s.each (s.host.cmds.filter fun d => d.ctl == c && d.dead) fun d u => handoff d.k u

theorem runOnDone_eq : runOnDone c s =
    if ((handDead c s).ctlr c).en || (handDead c s).host.cmds.any fun d => d.ctl == c && d.dead && !(d.qid == 0 && [0x80#8, 0x84#8, 0x10#8].contains d.e.opc)
    then handDead c s else (handDead c s).modCtlr c fun y => { y with rdy := false } := rfl

theorem runOn_iff (d : Cmd) : (d.ctl == c && d.dead && !(d.qid == 0 && [0x80#8, 0x84#8, 0x10#8].contains d.e.opc)) = true ↔
    d.ctl = c ∧ d.dead = true ∧ (d.qid ≠ 0 ∨ d.e.opc ∉ [0x80#8, 0x84#8, 0x10#8]) := by
  simp only [Bool.and_eq_true, beq_iff_eq, Bool.not_eq_true', Bool.and_eq_false_iff, beq_eq_false_iff_ne, List.contains_eq_mem,
    decide_eq_false_iff_not, and_assoc]

end Ports

/-- Settles O48, by whether the port is there, whether the controller is enabled, and what runs on. -/
theorem controllersAndPorts : Obligations.ControllersAndPorts := by
  unfold Obligations.ControllersAndPorts
  intro c ams iosqes iocqes a b rate width kind s x rate' width' port there
  have hport : ∀ r w t, setPort c r w t = port r w t := fun r w t => setPort_eq r w
  refine ⟨fun he hr ht hp hb hc => ⟨fun ha hs hq => ?_, fun h => ?_⟩, fun h => next_congr (ctlEnable_refused h),
    fun he => ⟨next_congr (ctlReset_disabled he), next_congr (orderly_ignored (.inl he)), next_congr (abrupt_ignored (.inl he))⟩, rfl,
    fun he => ⟨ctlReset_enabled he, queues_ctlReset he⟩, ⟨rfl, rfl, rfl, rfl, rfl, rfl, rfl, rfl, rfl, rfl, rfl, rfl, rfl, rfl⟩,
    fun ht => ?_, fun ht => ?_, fun he hs => ⟨next_congr (abrupt_acts he hs), fun hd => ?_, fun hd => ⟨_, rfl, orderly_last he hs hd⟩⟩,
    fun hs => ⟨next_congr (abrupt_ignored (.inr hs)), next_congr (orderly_ignored (.inr hs))⟩, fun h => ?_, fun he h => ?_⟩
  · exact next_congr ((ctlEnable_asked he hr ht hp hb hc).trans (if_neg (by simp [ha, hs, hq])))
  · refine next_congr ((ctlEnable_asked he hr ht hp hb hc).trans (if_pos ?_))
    simpa only [Bool.or_eq_true, decide_eq_true_eq, bne_iff_ne, or_assoc] using h
  · have hp := portThere_iff.mpr ht
    refine ⟨next_congr (if_pos hp), next_congr (if_pos hp), next_congr (if_pos hp), next_congr ((linkDown_there hp).trans (by rw [hport])),
      fun h => ⟨next_congr (perstAssert_ignored (.inr h)), next_congr (linkTrained_ignored (.inr h))⟩, fun h => ⟨⟨fun hc => ?_, fun hc => ?_⟩, fun h1 h6 =>
        ⟨fun hb => ?_, fun hb => ?_, fun hb => ?_, fun h4 h8 => ?_⟩⟩⟩
    · exact next_congr ((perstAssert_acts hp h).trans (if_pos (Option.isSome_iff_ne_none.mpr hc)))
    · exact next_congr ((perstAssert_acts hp h).trans ((if_neg (by simp [hc])).trans (by rw [hport])))
    · exact next_congr ((linkTrained_eq hp h h1 h6).trans ((if_pos (by simp [hb])).trans (hport ..)))
    · exact next_congr ((linkTrained_eq hp h h1 h6).trans ((if_neg (by simp)).trans ((if_pos rfl).trans ((if_pos hb).trans (hport ..)))))
    · exact next_congr ((linkTrained_eq hp h h1 h6).trans ((if_neg (by simp)).trans ((if_pos rfl).trans ((if_neg (by simp [hb])).trans (by rw [hport])))))
    · refine next_congr ((linkTrained_eq hp h h1 h6).trans ((if_neg ?_).trans (if_neg (by simpa using h4))))
      rcases h8 with h8 | h8 <;> simp [h8]
  · have hp := portThere_false ht
    have hn : ¬portThere c s = true := by simp [hp]
    exact ⟨next_congr (if_neg hn), next_congr (if_neg hn), next_congr (if_neg hn), next_congr (linkDown_absent hp),
      next_congr (perstAssert_ignored (.inl hp)), next_congr (linkTrained_ignored (.inl hp))⟩
  · obtain ⟨d, hde, hdc, hd0⟩ := hd
    exact next_congr ((orderly_acts he hs).trans (if_neg fun hall => all_shutting.mp hall d hde hdc hd0))
  · refine next_congr (runOnDone_eq.trans (if_pos ?_))
    simp only [Bool.or_eq_true, List.any_eq_true, runOn_iff]
    exact h
  · refine next_congr (runOnDone_eq.trans (if_neg ?_))
    simp only [Bool.or_eq_true, List.any_eq_true, runOn_iff, not_or, Bool.not_eq_true]
    exact ⟨he, fun ⟨d, hm, hd⟩ => h d hm hd⟩

end Sys2Proof.Machine
end

section
/-! PROOFS. The queue commands, Abort and Asynchronous Event Requests (R325, R334 to R341). -/

namespace Sys2Proof.Machine

section Begin

variable {k : Nat} {c : Cmd} {opc : Byte} {s : State}

/-- What an admin row does to a command of its opcode that begins. -/
theorem adminStart_opcode {f : Cmd → State → State} (h : BeginsAdmin k c opc s) : adminStart (adminOp opc) k f s = f c (markStarted k s) := by
  obtain ⟨hb, hq, ho⟩ := h
  exact adminStart_begins hb hq (by rw [adminOp, ho, beq_self_eq_true])

theorem BeginsAdmin.k_eq (h : BeginsAdmin k c opc s) : c.k = k :=
  cmd_k h.1.1

/-- What the marking of a command leaves of a search of the table that does not look at it. -/
theorem filter_markStarted {p : Cmd → Bool} (hp : ∀ x, p { x with started := true } = p x) :
    (markStarted k s).host.cmds.filter p = (s.host.cmds.filter p).map fun x => if x.k == k then { x with started := true } else x := by
  show (s.host.cmds.map fun x => if x.k == k then { x with started := true } else x).filter p = _
  rw [List.filter_map]
  congr 2
  funext x
  show p (if x.k == k then _ else x) = p x
  split
  · exact hp x
  · rfl

/-- A search for another command finds it as it was. -/
theorem find_markStarted {p : Cmd → Bool} (hp : ∀ x, p { x with started := true } = p x) (hk : ∀ x, p x = true → x.k ≠ k) :
    (markStarted k s).host.cmds.find? p = s.host.cmds.find? p := by
  show (s.host.cmds.map fun x => if x.k == k then { x with started := true } else x).find? p = _
  rw [List.find?_map]
  have hcomp : (p ∘ fun x => if x.k == k then { x with started := true } else x) = p := by
    funext x
    show p (if x.k == k then _ else x) = p x
    split
    · exact hp x
    · rfl
  rw [hcomp]
  cases h : s.host.cmds.find? p with
  | none => rfl
  | some x => simp [hk x (List.find?_some h)]

end Begin

section Queues

variable {c : Cmd} {q : Sq} {s : State}

/-! ### Creation and deletion of queues (R325, R338) -/

/-- The largest queue identifiers granted to a controller. -/
def queueLimits (c : Cmd) (s : State) : Nat × Nat := (s.ctlr c.ctl).nq.getD (queueLimit s, queueLimit s)

theorem createSq_eq : createSq c s =
    if c.e.cdw10.toNat % 65536 = 0 ∨ (queueLimits c s).1 < c.e.cdw10.toNat % 65536 ∨ s.sq c.ctl (c.e.cdw10.toNat % 65536) ≠ none then
      s.finish c.k (sct 1 0x01)
    else if c.e.cdw10.toNat / 65536 + 1 < 2 then s.finish c.k (sct 1 0x02)
    else if c.e.cdw11.toNat / 65536 = 0 ∨ s.cq c.ctl (c.e.cdw11.toNat / 65536) = none then s.finish c.k (sct 1 0x00)
    else if c.e.cdw11.getLsbD 0 = false then s.finish c.k stField
    else (s.modHost fun h => { h with sqs := h.sqs ++ [⟨c.ctl, c.e.cdw10.toNat % 65536, c.e.cdw10.toNat / 65536 + 1, c.e.cdw11.toNat / 65536,
      c.e.cdw11.toNat / 2 % 4, 0, 0, false⟩] }).finish c.k stOk := by
  unfold createSq queueLimits
  cases (s.ctlr c.ctl).nq <;>
    simp only [Bool.or_eq_true, beq_iff_eq, decide_eq_true_eq, Option.isSome_iff_ne_none, Option.isNone_iff_eq_none, Bool.not_eq_true', or_assoc, Option.getD_none,
      Option.getD_some]

theorem createCq_eq : createCq c s =
    if c.e.cdw10.toNat % 65536 = 0 ∨ (queueLimits c s).2 < c.e.cdw10.toNat % 65536 ∨ s.cq c.ctl (c.e.cdw10.toNat % 65536) ≠ none then
      s.finish c.k (sct 1 0x01)
    else if c.e.cdw10.toNat / 65536 + 1 < 2 then s.finish c.k (sct 1 0x02)
    else if queueLimit s < c.e.cdw11.toNat / 65536 then s.finish c.k (sct 1 0x08)
    else if c.e.cdw11.getLsbD 0 = false then s.finish c.k stField
    else (s.modHost fun h => { h with cqs := h.cqs ++ [⟨c.ctl, c.e.cdw10.toNat % 65536, c.e.cdw10.toNat / 65536 + 1, c.e.cdw11.toNat / 65536,
      c.e.cdw11.getLsbD 1, 0, 0, 0, true, []⟩] }).finish c.k stOk := by
  unfold createCq queueLimits
  cases (s.ctlr c.ctl).nq <;>
    simp only [Bool.or_eq_true, beq_iff_eq, decide_eq_true_eq, Option.isSome_iff_ne_none, Bool.not_eq_true', or_assoc, Option.getD_none, Option.getD_some]

theorem deleteCq_eq : deleteCq c s =
    if c.e.cdw10.toNat % 65536 = 0 ∨ s.cq c.ctl (c.e.cdw10.toNat % 65536) = none then s.finish c.k (sct 1 0x01)
    else if ∃ x ∈ s.host.sqs, x.ctl = c.ctl ∧ x.cqid = c.e.cdw10.toNat % 65536 then s.finish c.k (sct 1 0x0C)
    else (s.modHost fun h => { h with cqs := h.cqs.filter fun x => !(x.ctl == c.ctl && x.qid == c.e.cdw10.toNat % 65536) }).finish c.k stOk := by
  unfold deleteCq
  simp only [Bool.or_eq_true, beq_iff_eq, Option.isNone_iff_eq_none, List.any_eq_true, Bool.and_eq_true]

theorem deleteSq_none (h : s.sq c.ctl (c.e.cdw10.toNat % 65536) = none) : deleteSq c s = s.finish c.k (sct 1 0x01) := by
  simp only [deleteSq, h]

theorem deleteSq_refused (h : s.sq c.ctl (c.e.cdw10.toNat % 65536) = some q) (hq : c.e.cdw10.toNat % 65536 = 0 ∨ q.gone = true) :
    deleteSq c s = s.finish c.k (sct 1 0x01) := by
  simp only [deleteSq, h]
  exact if_pos (by simpa using hq)

/-- The numbers of the commands of a submission queue. -/
def sqCmds (c : Cmd) (s : State) : List Nat :=
  (s.host.cmds.filter fun x => x.ctl == c.ctl && x.qid == c.e.cdw10.toNat % 65536).map fun x => x.k

theorem deleteSq_runs (h : s.sq c.ctl (c.e.cdw10.toNat % 65536) = some q) (h0 : c.e.cdw10.toNat % 65536 ≠ 0) (hg : q.gone = false) : deleteSq c s =
    let t := s.modSq c.ctl (c.e.cdw10.toNat % 65536) fun x => { x with gone := true, avail := 0 }
    let t := t.each (sqCmds c s) fun j w => match w.cmd j with
      | some x => if abortable true x w then abortCmd j stSqDeleted w else w
      | none => w
    delSync (resetRecord 1 0 ((cancelEver (131072 * c.ctl.val + c.e.cdw10.toNat % 65536) t).modCmd c.k fun x =>
      { x with delQ := some (c.e.cdw10.toNat % 65536) })) := by
  simp only [deleteSq, h]
  exact (if_neg (by simp [h0, hg])).trans rfl

theorem sqCmds_markStarted (k : Nat) : sqCmds c (markStarted k s) = sqCmds c s := by
  rw [sqCmds, filter_markStarted (fun _ => rfl), List.map_map, sqCmds]
  congr 1
  funext x
  show (if x.k == k then _ else x : Cmd).k = x.k
  split <;> rfl

/-! ### Abort (R334 to R337) -/

/-- The target of an Abort. -/
def abortTarget (c : Cmd) (s : State) : Option Cmd :=
  s.host.cmds.find? fun x => x.ctl == c.ctl && x.qid == c.e.cdw10.toNat % 65536 && x.e.cid.toNat == c.e.cdw10.toNat / 65536 && x.k != c.k

theorem abortTarget_markStarted : abortTarget c (markStarted c.k s) = abortTarget c s :=
  find_markStarted (fun _ => rfl) fun x hx => by
    simp only [Bool.and_eq_true, bne_iff_ne] at hx
    exact hx.2

theorem abortsBefore_markStarted (k : Nat) : abortsBefore c (markStarted k s) = abortsBefore c s := by
  rw [abortsBefore, filter_markStarted (fun _ => rfl), List.length_map, abortsBefore]

theorem abortDecide_eq : abortDecide c s =
    if 8 ≤ abortsBefore c s then s.finish c.k (sct 1 0x03)
    else match abortTarget c s with
      | none => s.finishDw c.k stOk 1 0
      | some d =>
        if abortable false d s then ((abortCmd d.k stAborted s).inc F.NVME_INTAKE_ABORT_CNT).finishDw c.k stOk 0 0
        else (if d.posting || (d.status.isSome && d.status != some stAborted) then s.modCmd c.k fun x => { x with after := some d.k } else s).finishDw c.k stOk 1 0 :=
  rfl

variable {d : Cmd} {low : Bool}

theorem abortable_ended (h : d.posting = true ∨ d.status ≠ none) : abortable low d s = false :=
  if_pos (by rcases h with h | h <;> simp [h, Option.isSome_iff_ne_none])

theorem abortable_open (hp : d.posting = false) (hs : d.status = none) (hq : d.qid ≠ 65536) : abortable low d s =
    if d.qid == 0 then d.e.opc == 0x0C#8
    else if !low && lowClass d s then false
    else if d.e.opc == 0x02#8 || d.e.opc == 0x0C#8 then true
    else if d.isCopy then decide (d.phase < 3)
    else if d.e.opc == 0x01#8 || d.e.opc == 0x7D#8 then decide (d.phase < 3) || !d.begun
    else false := by
  have hq' : (d.qid == 65536) = false := by simpa using hq
  simp only [abortable, hp, hs, hq', Option.isSome_none, Bool.or_self, Bool.false_eq_true, if_false, beq_iff_eq]

theorem abortable_io (hp : d.posting = false) (hs : d.status = none) (hq : d.qid ≠ 65536) (h0 : 0 < d.qid) : abortable true d s =
    if d.e.opc == 0x02#8 || d.e.opc == 0x0C#8 then true
    else if d.isCopy then decide (d.phase < 3)
    else if d.e.opc == 0x01#8 || d.e.opc == 0x7D#8 then decide (d.phase < 3) || !d.begun
    else false :=
  (abortable_open hp hs hq).trans ((if_neg (by simp [h0.ne'])).trans (if_neg (by simp)))

theorem isCopy_of_opc {o : Byte} (h : d.e.opc = o) (h0 : 0 < d.qid) : d.isCopy = (o == 0x19#8) := by
  simp [Cmd.isCopy, h, h0]

/-! ### Asynchronous events (R340, R341) -/

theorem eventPosted_none {n : Ctl} (h : (s.ctlr n).aers = [] ∨ ∀ e ∈ (s.ctlr n).events, e.maskKey ∈ (s.ctlr n).masked) : eventPosted n s = s := by
  rcases h with h | h
  · simp only [eventPosted, h]
  · have hf : ((s.ctlr n).events.find? fun e => !(s.ctlr n).masked.contains e.maskKey) = none :=
      List.find?_eq_none.mpr fun e he => by simp [h e he]
    simp only [eventPosted, hf]
    cases (s.ctlr n).aers <;> rfl

theorem eventPosted_completes {n : Ctl} {ev : AsyncEv} {i : Nat} {is : List Nat} (h : (s.ctlr n).aers = i :: is)
    (he : ((s.ctlr n).events.find? fun e => !(s.ctlr n).masked.contains e.maskKey) = some ev) : eventPosted n s =
    ((s.modCtlr n fun x => { x with aers := is, events := x.events.erase ev, masked := x.masked ++ [ev.maskKey] }).modCmd
      i fun x => { x with items := 0 }).finishDw i stOk (ev.typ + ev.info * 256 + ev.page * 65536) 0 := by
  simp only [eventPosted, h, he]

end Queues

/-- Settles O49, by the checks of each queue command, what stands of an Abort's target, and what is pending for a request. -/
theorem queueCommands : Obligations.QueueCommands := by
  unfold Obligations.QueueCommands
  intro k c q d n ev i is s u qid size hi lim
  refine ⟨fun hb => ?_, fun hb => ?_, fun hb => ?_, fun hb => ?_, fun hb => ?_, fun hp hs hq => ?_, fun hb => ?_,
    fun h => next_congr (eventPosted_none h), fun ha he => next_congr (eventPosted_completes ha he)⟩
  · have hexec : exec (.createIoSubmissionQueue k) s = .next (createSq c u) := next_congr (adminStart_opcode hb)
    rw [hexec, createSq_eq, hb.k_eq]
    refine ⟨fun h => next_congr (if_pos h), fun h0 hl hn => ?_⟩
    have hfree : ¬(qid = 0 ∨ lim.1 < qid ∨ s.sq c.ctl qid ≠ none) := by simp [h0, hl, hn]
    refine ⟨fun h => next_congr ((if_neg hfree).trans (if_pos h)),
      fun h2 hc => next_congr ((if_neg hfree).trans ((if_neg (not_lt.mpr h2)).trans (if_pos hc))), fun h2 hh hc => ?_⟩
    have hcq : ¬(hi = 0 ∨ s.cq c.ctl hi = none) := by simp [hh, hc]
    exact ⟨fun hf => next_congr ((if_neg hfree).trans ((if_neg (not_lt.mpr h2)).trans ((if_neg hcq).trans (if_pos hf)))),
      fun hf => next_congr ((if_neg hfree).trans ((if_neg (not_lt.mpr h2)).trans ((if_neg hcq).trans (if_neg (by simp [hf])))))⟩
  · have hexec : exec (.createIoCompletionQueue k) s = .next (createCq c u) := next_congr (adminStart_opcode hb)
    rw [hexec, createCq_eq, hb.k_eq]
    refine ⟨fun h => next_congr (if_pos h), fun h0 hl hn => ?_⟩
    have hfree : ¬(qid = 0 ∨ lim.2 < qid ∨ s.cq c.ctl qid ≠ none) := by simp [h0, hl, hn]
    refine ⟨fun h => next_congr ((if_neg hfree).trans (if_pos h)), fun h2 hv => ?_, fun h2 hv hf => ?_, fun h2 hv hf => ?_⟩
    · exact next_congr ((if_neg hfree).trans ((if_neg (not_lt.mpr h2)).trans (if_pos hv)))
    · exact next_congr ((if_neg hfree).trans ((if_neg (not_lt.mpr h2)).trans ((if_neg (not_lt.mpr hv)).trans (if_pos hf))))
    · exact next_congr ((if_neg hfree).trans ((if_neg (not_lt.mpr h2)).trans ((if_neg (not_lt.mpr hv)).trans (if_neg (by simp [hf])))))
  · have hexec : exec (.deleteIoCompletionQueue k) s = .next (deleteCq c u) := next_congr (adminStart_opcode hb)
    rw [hexec, deleteCq_eq, hb.k_eq]
    refine ⟨fun h => next_congr (if_pos h), fun h0 hn => ?_⟩
    have hthere : ¬(qid = 0 ∨ s.cq c.ctl qid = none) := by simp [h0, hn]
    exact ⟨fun h => next_congr ((if_neg hthere).trans (if_pos h)),
      fun h => next_congr ((if_neg hthere).trans (if_neg fun ⟨x, hx, hc, hq⟩ => h x hx hc hq))⟩
  · have hexec : exec (.deleteIoSubmissionQueue k) s = .next (deleteSq c u) := next_congr (adminStart_opcode hb)
    obtain rfl := hb.k_eq
    rw [hexec]
    refine ⟨fun h => ?_, fun hq hg => next_congr (deleteSq_refused (s := u) hq (.inr hg)), fun h0 hq hg => ?_⟩
    · cases hq : s.sq c.ctl qid with
      | none => exact next_congr (deleteSq_none (s := u) hq)
      | some x => exact next_congr (deleteSq_refused (s := u) hq (.inl (h.resolve_right (by simp [hq]))))
    · refine next_congr ((deleteSq_runs (s := u) hq h0 hg).trans ?_)
      rw [sqCmds_markStarted] <;> rfl
  · have hexec : exec (.abort k) s = .next (abortDecide c u) := next_congr (adminStart_opcode hb)
    obtain rfl := hb.k_eq
    rw [hexec, abortDecide_eq, abortsBefore_markStarted, abortTarget_markStarted]
    intro find
    refine ⟨fun h => next_congr (if_pos h), fun h hf => ?_, fun h hf => ?_⟩
    · rw [if_neg (not_le.mpr h), show abortTarget c s = none from hf]
    · rw [if_neg (not_le.mpr h), show abortTarget c s = some d from hf]
      refine ⟨fun ha => next_congr (if_pos ha), fun ha hp hs => ?_, fun he => ?_⟩
      · refine next_congr ((if_neg (by simp [ha])).trans (congrArg (fun t => State.finishDw t c.k stOk 1 0) (if_neg ?_)))
        rcases hs with hs | hs <;> simp [hp, hs]
      · have hnot : abortable false d u = false := abortable_ended (he.imp_right And.left)
        refine next_congr ((if_neg (by simp [hnot])).trans (congrArg (fun t => State.finishDw t c.k stOk 1 0) (if_pos ?_)))
        rcases he with he | ⟨he, hne⟩
        · simp [he]
        · simp [Option.isSome_iff_ne_none, he, hne]
  · refine ⟨fun h0 => ?_, fun h0 hl => ?_, fun h0 ho => ?_, fun h0 ho => ?_, fun h0 ho => ?_, fun h0 ho => ?_⟩
    · rw [abortable_open hp hs hq, if_pos (by simp [h0]), beq_iff_eq]
    · rw [abortable_open hp hs hq, if_neg (by simp [h0.ne']), if_pos (by simp [hl])]
    · rw [abortable_io hp hs hq h0]
      exact if_pos (by simpa using ho)
    · rw [abortable_io hp hs hq h0, isCopy_of_opc ho h0, ho]
      simp
    · rw [abortable_io hp hs hq h0, isCopy_of_opc ho h0, ho]
      simp
    · rw [abortable_io hp hs hq h0]
      rcases ho with ho | ho | ho <;> rw [isCopy_of_opc ho h0, ho] <;> rfl
  · have hexec : exec (.asyncEventRequest k) s = .next (eventRequest c u) := next_congr (adminStart_opcode hb)
    obtain rfl := hb.k_eq
    rw [hexec]
    exact ⟨fun h => next_congr (if_pos h), fun h => next_congr (if_neg (not_le.mpr h))⟩

end Sys2Proof.Machine
end

section
/-! PROOFS. Identify and Get Log Page (R327 to R329, R417, R442, R554): the pages and what a read of one does. -/

namespace Sys2Proof.Machine

/-! ### Pages of bytes -/

theorem length_layFields (size : Nat) (fs : List (Nat × List Nat)) : ∀ pos, size ≤ (layFields size pos fs).length + pos := by
  induction fs with
  | nil =>
    intro pos
    rw [layFields, List.length_replicate]
    omega
  | cons x fs ih =>
    intro pos
    have := ih (max pos x.1 + x.2.length)
    rw [layFields, List.length_append, List.length_append, List.length_replicate]
    omega

theorem length_pageOf (size : Nat) (fs : List (Nat × List Nat)) : (pageOf size fs).length = size := by
  have := length_layFields size fs 0
  rw [pageOf, List.length_take]
  omega

/-- A page of equal entries: byte `i` of entry `j`. -/
theorem getElem?_flatMap_entry {α : Type} {f : α → List Nat} {m : Nat} (hf : ∀ a, (f a).length = m) (l : List α) :
    ∀ {j i : Nat} {a : α}, l[j]? = some a → i < m → (l.flatMap f)[m * j + i]? = (f a)[i]? := by
  induction l with
  | nil => exact fun h => absurd h (by simp)
  | cons b l ih =>
    intro j i a h hi
    rw [List.flatMap_cons]
    cases j with
    | zero =>
      obtain rfl : b = a := by simpa using h
      rw [List.getElem?_append_left (by rw [hf]; omega)]
      congr 1
      omega
    | succ j =>
      rw [List.getElem?_append_right (by rw [hf, Nat.mul_succ]; omega), hf, ← ih (by simpa using h) hi]
      congr 1
      rw [Nat.mul_succ]
      omega

section Entries

variable {n : Ch} {v : Ns} {s : State}

/-- The 24 bytes of a Channel Status entry that are not reserved. -/
def chanFields (n : Ch) (s : State) : List Nat :=
  [chanByte n s, s.get (F.MOT_STAT_STATE n), s.get (F.SCHED_FMT_SURFACES n), s.get (F.PAGE_ENABLE_STATUS_REASON n)] ++
    bytesLe 4 (regWord (F.STITCH_VERSION_BASE_VER n).addr s) ++ bytesLe 4 (regWord (F.HINGE_STAT_IN_CTRL n).addr s) ++
    bytesLe 4 (regWord (F.SCHED_DEFECT_STAT_GROWN_CNT n).addr s) ++ bytesLe 4 (s.get (F.DET_LADDERSTAT_BG_RECOVERED n)) ++
    bytesLe 4 (s.chan n).sched.unrec

theorem length_chanFields : (chanFields n s).length = 24 := rfl

theorem chanPage_eq : chanPage s = allChans.flatMap fun n => chanFields n s ++ List.replicate 40 0 := rfl

theorem length_chanEntry (n : Ch) : (chanFields n s ++ List.replicate 40 0).length = 64 := by
  rw [List.length_append, length_chanFields, List.length_replicate]

theorem getElem?_allChans (n : Ch) : allChans[n.val]? = some n := by
  revert n
  decide

theorem chanPage_field {i : Nat} (hi : i < 24) : (chanPage s)[64 * n.val + i]? = (chanFields n s)[i]? := by
  rw [chanPage_eq, getElem?_flatMap_entry length_chanEntry _ (getElem?_allChans n) (by omega), List.getElem?_append_left (by rw [length_chanFields]; exact hi)]

theorem chanPage_reserved {i : Nat} (hi : 24 ≤ i) (hi' : i < 64) : (chanPage s)[64 * n.val + i]? = some 0 := by
  rw [chanPage_eq, getElem?_flatMap_entry length_chanEntry _ (getElem?_allChans n) hi', List.getElem?_append_right (by rw [length_chanFields]; exact hi),
    List.getElem?_replicate, length_chanFields, if_pos (by omega)]

theorem length_chanPage : (chanPage s).length = 512 := by
  rw [chanPage_eq, List.length_flatMap]
  simp only [length_chanEntry]
  rfl

theorem chanByte_absent (h : chanAbsent n s = true) : chanByte n s = 0 :=
  if_pos h

theorem chanByte_safe (h : chanAbsent n s = false) (hs : s.flag F.FAULT_STAT_SAFE = true) : chanByte n s = 5 :=
  (if_neg (by simp [h])).trans (if_pos hs)

theorem chanByte_failed (h : chanAbsent n s = false) (hs : s.flag F.FAULT_STAT_SAFE = false) (hf : chanFailed n s = true) : chanByte n s = 4 :=
  (if_neg (by simp [h])).trans ((if_neg (by simp [hs])).trans (if_pos hf))

theorem flyPage_state : (flyPage s)[0]? = some (s.get F.FLY_STAT_STATE) := rfl

theorem length_gathPage : (gathPage s).length = 256 := by
  simp only [gathPage, List.length_flatMap, length_pageOf]
  rfl

theorem smartPage_head : (smartPage s)[0]? = some ((spareLow s).toNat + 2 * (s.fresh.toNat % 128)) ∧
    (smartPage s)[1]? = some ((junction s + 273).toNat % 256) ∧ (smartPage s)[2]? = some ((junction s + 273).toNat / 256 % 256) :=
  ⟨rfl, rfl, rfl⟩

end Entries

section Reads

variable {k : Nat} {c : Cmd} {v : Ns} {s : State}

/-! ### Identify (R327, R328) -/

theorem identify_begins {cns : Nat} {f : Cmd → State → State} (h : BeginsAdmin k c 0x06 s) (hc : c.e.sel = cns) :
    identify cns k f s = f c (markStarted k s) := by
  obtain ⟨hb, hq, ho⟩ := h
  exact adminStart_begins hb hq (by simp [ho, hc])

variable {page : Ns → State → List Nat}

theorem idNs_range (h : c.e.ns = 0 ∨ 64 < c.e.ns) : idNs c page s = s.finish c.k stInvalidNs :=
  if_pos (by simpa using h)

theorem idNs_inactive (h1 : 1 ≤ c.e.ns) (h64 : c.e.ns ≤ 64) (h : s.ns c.e.ns = none ∨ ∃ x, s.ns c.e.ns = some x ∧ c.ctl ∉ x.attach) :
    idNs c page s = (s.answer (List.replicate 4096 0)).finish c.k stOk := by
  refine (if_neg (by simp; omega)).trans ?_
  rcases h with h | ⟨x, h, hx⟩
  · simp only [h]
  · simp only [h, List.contains_eq_mem, hx, decide_false, Bool.false_eq_true, if_false]

theorem idNs_active (h1 : 1 ≤ c.e.ns) (h64 : c.e.ns ≤ 64) (h : s.ns c.e.ns = some v) (ha : c.ctl ∈ v.attach) :
    idNs c page s = (s.used.answer (page v s)).finish c.k stOk := by
  refine (if_neg (by simp; omega)).trans ?_
  simp only [h, List.contains_eq_mem, ha, decide_true, if_true]

/-! ### Log pages (R329) -/

theorem getLog_begins {l : Nat} {f : Cmd → State → State} (h : BeginsAdmin k c 0x02 s ∧ c.e.sel = l) : getLog l k f s = f c (markStarted k s) := by
  obtain ⟨⟨hb, hq, ho⟩, hl⟩ := h
  exact adminStart_begins hb hq (by simp [ho, hl])

variable {key : Nat × Nat} {bytes : List Nat}

/-- What a read that returns `bs` and unmasks `key` unless the event is retained leaves. -/
def logRead (c : Cmd) (bs : List Nat) (key : Nat × Nat) (s : State) : State :=
  if logRae c.e then (s.answer bs).finish c.k stOk else unmask c.ctl key ((s.answer bs).finish c.k stOk)

theorem logAnswer_good (h : ¬(logOfs c.e % 4 ≠ 0 ∨ bytes.length < logOfs c.e)) :
    logAnswer c bytes (some key) s = logRead c ((bytes.drop (logOfs c.e)).take (logLen c.e)) key s := by
  unfold logAnswer logRead
  rw [if_neg h]

theorem ret_logRead : (logRead c bytes key s).host.ret = bytes ∧ (logRead c bytes key s).host.cmds = (s.finish c.k stOk).host.cmds := by
  unfold logRead
  split <;> exact ⟨rfl, rfl⟩

theorem masked_logRead_retained (hr : logRae c.e = true) : ((logRead c bytes key s).ctlr c.ctl).masked = (s.ctlr c.ctl).masked := by
  rw [logRead, if_pos hr]
  rfl

theorem masked_logRead (hr : logRae c.e = false) : ((logRead c bytes key s).ctlr c.ctl).masked = (s.ctlr c.ctl).masked.filter fun x => x != key := by
  rw [logRead, if_neg (by simp [hr]), unmask, State.ctlr_modCtlr_same]
  rfl

end Reads

/-- Settles O50, by what Identify names, whether the offset of a read lies in its page, and the bytes of the pages. -/
theorem identifyAndLogPages : Obligations.IdentifyAndLogPages := by
  unfold Obligations.IdentifyAndLogPages
  intro k c v key page s u ns zero log bad
  refine ⟨fun hb => ?_, fun h => next_congr (getLog_begins h), fun h => next_congr (getLog_begins h), fun h => next_congr (getLog_begins h), fun h => ?_,
    fun h => next_congr (getLog_begins h), fun h => next_congr (getLog_begins h), fun h => ?_, fun h => next_congr (getLog_begins h),
    fun h => next_congr (getLog_begins h), fun h => next_congr (getLog_begins h), fun h => next_congr (getLog_begins h), fun h => next_congr (getLog_begins h),
    fun h => if_pos h, fun h => ?_,
    ⟨length_chanPage, fun n => ⟨chanPage_field (i := 0) (by decide), chanPage_field (by decide), chanPage_field (by decide), fun i => chanPage_reserved⟩⟩,
    fun n => chanByte_absent, fun n => chanByte_safe, fun n => chanByte_failed,
    ⟨length_pageOf .., flyPage_state, length_gathPage, length_pageOf ..⟩, length_pageOf .., ⟨_, smartPage_head.1, ?_⟩, smartPage_head.2⟩
  · obtain rfl := hb.k_eq
    refine ⟨fun hs => next_congr (identify_begins hb hs), fun _ hn => ⟨fun hs => ?_, fun hs => ?_⟩, fun h1 h64 => ⟨fun hn => ⟨fun hs => ?_, fun hs => ?_⟩,
      fun hn ha => ⟨fun hs => ?_, fun hs => ?_⟩⟩⟩
    · exact next_congr ((identify_begins hb hs).trans (idNs_range hn))
    · exact next_congr ((identify_begins hb hs).trans (idNs_range hn))
    · exact next_congr ((identify_begins hb hs).trans (idNs_inactive (s := u) h1 h64 hn))
    · exact next_congr ((identify_begins hb hs).trans (idNs_inactive (s := u) h1 h64 hn))
    · exact next_congr ((identify_begins hb hs).trans (idNs_active (s := u) h1 h64 hn ha))
    · exact next_congr ((identify_begins hb hs).trans (idNs_active (s := u) h1 h64 hn ha))
  · intro t
    refine ⟨fun hr hbad => next_congr ((getLog_begins h).trans (if_neg ?_)), fun hbad => next_congr ((getLog_begins h).trans (if_pos ?_))⟩
    · simpa [hr, bad] using hbad
    · simpa [bad, or_assoc] using hbad
  · intro t
    refine ⟨fun hbad => next_congr ((getLog_begins h).trans (if_neg ?_)), fun hbad => next_congr ((getLog_begins h).trans (if_pos ?_))⟩
    · simpa [bad] using hbad
    · simpa [bad] using hbad
  · rw [logAnswer_good h]
    exact ⟨ret_logRead.1, ret_logRead.2, masked_logRead_retained, masked_logRead⟩
  · cases spareLow s <;> simp

end Sys2Proof.Machine
end

section
/-! PROOFS. Set Features and Get Features (R330, R331, R341, R342, R362). -/

namespace Sys2Proof.Machine

/-! ### The numbers of the commands in the table -/

/-- The numbers of the fetched commands, in order of fetch. -/
def cmdNumbers (s : State) : List Nat := s.host.cmds.map fun c => c.k

theorem mem_cmdNumbers {s : State} {k : Nat} : k ∈ cmdNumbers s ↔ ∃ d, s.cmd k = some d := by
  simp only [cmdNumbers, State.cmd, List.mem_map, ← Option.isSome_iff_exists, List.find?_isSome, beq_iff_eq]

theorem cmdNumbers_modCmd (s : State) (k : Nat) {f : Cmd → Cmd} (hf : ∀ c, (f c).k = c.k) : cmdNumbers (s.modCmd k f) = cmdNumbers s := by
  show (s.host.cmds.map fun c => if c.k == k then f c else c).map (fun c => c.k) = _
  rw [List.map_map]
  congr 1
  funext c
  show (if c.k == k then f c else c).k = c.k
  split
  · exact hf c
  · rfl

theorem cmdNumbers_finish (s : State) (k st : Nat) : cmdNumbers (s.finish k st) = cmdNumbers s :=
  cmdNumbers_modCmd _ _ fun c => by split <;> rfl

theorem cmdNumbers_finishDw (s : State) (k st a b : Nat) : cmdNumbers (s.finishDw k st a b) = cmdNumbers s :=
  cmdNumbers_modCmd _ _ fun c => by split <;> rfl

theorem cmdNumbers_checkDone (b r : Nat) (s : State) : cmdNumbers (checkDone b r s) = cmdNumbers s := by
  refine State.each_keeps cmdNumbers (fun c t => ?_) _ _
  have hmark : cmdNumbers (t.modCmd c.k fun d => { d with waitChk := none }) = cmdNumbers t := cmdNumbers_modCmd _ _ fun _ => rfl
  dsimp only
  split
  · exact (cmdNumbers_finish ..).trans hmark
  · exact (cmdNumbers_finishDw ..).trans hmark

section Profile

variable {s : State}

/-! ### What a register write of the Kettle leaves of the host side -/

theorem host_storeFields (o : Bool) (fs : List Fld) (v : Nat) : (storeFields o fs v s).host = s.host := by
  have hset : ∀ (l : List Fld) (t : State), (l.foldl (fun u f => u.set f (fieldBits f v)) t).host = t.host := by
    intro l
    induction l with
    | nil => exact fun _ => rfl
    | cons x l ih => exact fun t => ih _
  simp only [storeFields, State.when]
  split
  · split <;> exact hset _ _
  · exact hset _ _

theorem host_clearW1c (a v : Nat) : (clearW1c a v s).host = s.host := by
  unfold clearW1c
  split
  · rfl
  · exact State.each_keeps State.host (fun _ _ => State.set_host ..) _ _

theorem host_clearBits_ket {a : Nat} (v : Nat) (h : 0x900000 ≤ a) (h' : a < 0xA00000) : (clearBits a v s).host = s.host := by
  unfold clearBits
  dsimp only
  rw [if_neg (by omega), if_neg (by omega), if_neg (by omega), if_neg (by omega), if_neg (by omega), if_neg (by omega), if_pos (by omega)]

theorem host_storeReg_ket {a : Nat} (v : Nat) (h : 0x900000 ≤ a) (h' : a < 0xA00000) : (storeReg true a v s).host = s.host := by
  unfold storeReg
  split
  · rfl
  · dsimp only
    rw [if_neg (by omega), if_neg (by omega), if_neg (by omega), if_neg (by omega), if_neg (by omega), if_neg (by omega), if_neg (by omega),
      if_neg (by omega), if_neg (by omega)]
    exact host_storeFields ..

theorem host_profile_ket : (applyProfile noAct 0x900000 0xA00000 s).host = s.host := by
  have hfold : ∀ (l : List RegWrite), (∀ w ∈ l, 0x900000 ≤ w.addr ∧ w.addr < 0xA00000) → ∀ t : State,
      (t.each l fun w t => noAct w.addr w.val (plainWrite true w.addr w.val t)).host = t.host := by
    intro l
    induction l with
    | nil => exact fun _ _ => rfl
    | cons w l ih =>
      intro hl t
      obtain ⟨hlo, hhi⟩ := hl w List.mem_cons_self
      have hw : (plainWrite true w.addr w.val t).host = t.host := by
        rw [plainWrite, host_clearBits_ket _ hlo hhi, host_clearW1c, host_storeReg_ket _ hlo hhi]
      exact (ih (fun x hx => hl x (List.mem_cons_of_mem _ hx)) _).trans hw
  unfold applyProfile
  split
  · rfl
  · refine hfold _ (fun w hw => ?_) _
    have := (List.mem_filter.mp hw).2
    simp only [Bool.and_eq_true, decide_eq_true_eq] at this
    exact this.1

theorem cmdNumbers_ketEnable (en : Bool) : cmdNumbers (ketEnable en s) = cmdNumbers s := by
  cases en
  · exact cmdNumbers_checkDone ..
  · show cmdNumbers (if _ then s else _) = _
    split
    · rfl
    · exact congrArg (fun h : HostSt => h.cmds.map fun c => c.k) host_profile_ket

theorem cmdNumbers_arbWrite {a : Nat} {f : State → State} (hf : ∀ t, cmdNumbers (f t) = cmdNumbers t) : cmdNumbers (arbWrite a f s) = cmdNumbers s := by
  have hb : cmdNumbers (breakSeq s) = cmdNumbers s := by
    unfold breakSeq
    split <;> rfl
  unfold arbWrite
  dsimp only
  split
  · exact hb
  · exact (hf _).trans hb

end Profile

section Features

variable {k : Nat} {c : Cmd} {fid : Nat} {v : Ns} {s : State}

/-! ### Set Features (R330) -/

/-- A Set Features of feature `fid` begins. -/
def SetsFeature (k : Nat) (c : Cmd) (fid : Nat) (s : State) : Prop := BeginsAdmin k c 0x09 s ∧ c.e.sel = fid

theorem setFeature_begins {f : Cmd → State → State} (h : SetsFeature k c fid s) : adminStart (setFeat fid) k f s = f c (markStarted k s) := by
  obtain ⟨⟨hb, hq, ho⟩, hs⟩ := h
  exact adminStart_begins hb hq (by simp [setFeat, ho, hs])

theorem setPlain_saves {f : State → State} (h : featSave c.e = true) : setPlain c f s = s.finish c.k (sct 1 0x0D) :=
  if_pos h

theorem setPlain_plain {f : State → State} (h : featSave c.e = false) : setPlain c f s = f s :=
  if_neg (by simp [h])

/-- A plain feature that does not ask for Save does its own effect. -/
theorem plain_begins {f : Cmd → State → State} (h : SetsFeature k c fid s ∧ featSave c.e = false) :
    adminStart (setFeat fid) k (fun c t => setPlain c (f c) t) s = f c (markStarted k s) :=
  (setFeature_begins h.1).trans (setPlain_plain h.2)

theorem setTler_bit (h : c.e.cdw11.getLsbD 16 = true) : setTler c s = s.finish c.k stField :=
  if_pos h

theorem setTler_range (h : c.e.cdw11.getLsbD 16 = false) (hall : c.e.ns ≠ 0xFFFFFFFF) (hr : c.e.ns = 0 ∨ 64 < c.e.ns) :
    setTler c s = s.finish c.k stInvalidNs :=
  (if_neg (by simp only [h, Bool.false_eq_true, not_false_iff])).trans ((if_neg (by simpa using hall)).trans (if_pos (by simpa using hr)))

theorem setTler_named (h : c.e.cdw11.getLsbD 16 = false) (h1 : 1 ≤ c.e.ns) (h64 : c.e.ns ≤ 64) : setTler c s =
    match s.ns c.e.ns with
    | none => s.finish c.k stField
    | some _ => setSaved c (0x05 + 256 * c.e.ns) (c.e.cdw11.toNat % 65536) (fun t => t.modNs c.e.ns fun x => { x with tler := c.e.cdw11.toNat % 65536 }) s :=
  (if_neg (by simp only [h, Bool.false_eq_true, not_false_iff])).trans ((if_neg (by simp; omega)).trans ((if_neg (by simp; omega)).trans
    (by cases s.ns c.e.ns <;> rfl)))

theorem setQueues_late (h : (∃ q ∈ s.host.sqs, q.ctl = c.ctl ∧ 0 < q.qid) ∨ ∃ q ∈ s.host.cqs, q.ctl = c.ctl ∧ 0 < q.qid) :
    setQueues c s = s.finish c.k (sct 0 0x0C) :=
  if_pos (by simpa only [Bool.or_eq_true, List.any_eq_true, Bool.and_eq_true, beq_iff_eq, decide_eq_true_eq] using h)

theorem setQueues_early (hs : ∀ q ∈ s.host.sqs, q.ctl = c.ctl → q.qid = 0) (hc : ∀ q ∈ s.host.cqs, q.ctl = c.ctl → q.qid = 0) : setQueues c s =
    if c.e.cdw11.toNat % 65536 == 65535 || c.e.cdw11.toNat / 65536 == 65535 then s.finish c.k stField
    else (s.modCtlr c.ctl fun t => { t with nq := some (min (c.e.cdw11.toNat % 65536 + 1) (queueLimit s), min (c.e.cdw11.toNat / 65536 + 1) (queueLimit s)) }).finishDw
      c.k stOk ((min (c.e.cdw11.toNat % 65536 + 1) (queueLimit s) - 1) + (min (c.e.cdw11.toNat / 65536 + 1) (queueLimit s) - 1) * 65536) 0 := by
  refine if_neg ?_
  simp only [Bool.or_eq_true, List.any_eq_true, Bool.and_eq_true, beq_iff_eq, decide_eq_true_eq]
  rintro (⟨q, hm, hq, h0⟩ | ⟨q, hm, hq, h0⟩)
  · exact h0.ne' (hs q hm hq)
  · exact h0.ne' (hc q hm hq)

theorem setDup_range (h : c.e.ns = 0 ∨ 64 < c.e.ns) : setDup c s = s.finish c.k stInvalidNs :=
  if_pos (by simpa using h)

theorem setDup_named (h1 : 1 ≤ c.e.ns) (h64 : c.e.ns ≤ 64) : setDup c s =
    match s.ns c.e.ns with
    | none => s.finish c.k stField
    | some _ =>
      if c.e.cdw11.toNat / 2 % 1024 == 0 || decide (600 < c.e.cdw11.toNat / 2 % 1024) || (c.e.cdw11.getLsbD 0 && s.get F.FLY_STAT_STATE == 0) then
        s.finish c.k stField
      else (s.modNs c.e.ns fun v => { v with dup := c.e.cdw11.getLsbD 0, window := c.e.cdw11.toNat / 2 % 1024 }).finish c.k stOk :=
  (if_neg (by simp; omega)).trans (by cases s.ns c.e.ns <;> rfl)

/-- The write of a layout's registers that Set Features makes. -/
def layoutWritten (c : Cmd) (s : State) : State :=
  let w := c.e.cdw11
  let l : Fin 4 := Fin.ofNat 4 (w.toNat / 16384)
  arbWrite (F.GATH_LAYOUT_CHAN_MASK l).addr (storeReg true (F.GATH_LAYOUT_CHAN_MASK l).addr
    (w.toNat % 256 + w.toNat / 256 % 8 * 256 + w.toNat / 2048 % 4 * 2048 + w.toNat / 65536 % 256 * 65536)) s

theorem setLayout_stored (h13 : c.e.cdw11.getLsbD 13 = false) (hm : c.e.cdw11.toNat % 256 ≠ 0) :
    setLayout c s = waitCheck c 9 (layoutWritten c s).gath.check.isSome false (layoutWritten c s) := by
  have hbit : c.e.cdw11.toNat.testBit 13 = false := h13
  have hun : (c.e.cdw11.toNat % 256 == 0) = false := by simpa using hm
  unfold setLayout
  simp only [hbit, hun, Bool.false_and, Bool.false_eq_true, if_false]
  rfl

theorem waitCheck_none {b : Nat} {own : Bool} : waitCheck c b false own s = s.finish c.k stOk := rfl

theorem waitCheck_runs {b : Nat} {own : Bool} :
    waitCheck c b true own s = s.modCmd c.k fun d => { d with waitChk := some (if own then b else b + 16) } := rfl

/-- The three writes of registers that Set Features of the Kettle makes. -/
def kettleWritten (c : Cmd) (s : State) : State :=
  let w := c.e.cdw11.toNat
  let t := arbWrite F.KET_CFG_ROLE.addr (fun u => ((u.set F.KET_CFG_ROLE w).set F.KET_CFG_NODE_IDX (w / 4)).set F.KET_CFG_GROUP (w / 4096)) s
  let t := arbWrite F.KET_PHCFG_PH_EN.addr (fun u => u.setFlag F.KET_PHCFG_PH_EN (w.testBit 23)) t
  arbWrite 0x900000 (ketEnable (w.testBit 24)) t

theorem setKettle_eq : setKettle c s = waitCheck c 10 (kettleWritten c s).ket.checking true (kettleWritten c s) := rfl

theorem cmdNumbers_kettleWritten : cmdNumbers (kettleWritten c s) = cmdNumbers s := by
  unfold kettleWritten
  dsimp only
  rw [cmdNumbers_arbWrite (fun t => cmdNumbers_ketEnable _), cmdNumbers_arbWrite (f := fun u => u.setFlag F.KET_PHCFG_PH_EN _) (fun t => rfl),
    cmdNumbers_arbWrite (f := fun u => ((u.set F.KET_CFG_ROLE _).set F.KET_CFG_NODE_IDX _).set F.KET_CFG_GROUP _) (fun t => rfl)]

/-- While the check runs, the command waits for it. -/
theorem setKettle_waits (h : (setKettle c s).ket.checking = true) (hc : c.k ∈ cmdNumbers s) : ∃ d, (setKettle c s).cmd c.k = some d ∧ d.waitChk = some 10 := by
  rw [setKettle_eq] at h ⊢
  cases hk : (kettleWritten c s).ket.checking with
  | false =>
    rw [hk, waitCheck_none] at h
    exact absurd (hk.symm.trans h) (by decide)
  | true =>
    obtain ⟨d, hd⟩ := mem_cmdNumbers.mp (cmdNumbers_kettleWritten (c := c) (s := s) ▸ hc)
    rw [waitCheck_runs, State.cmd_modCmd_same (f := fun d => { d with waitChk := some (if true then 10 else 10 + 16) }) (fun _ => rfl), hd]
    exact ⟨_, rfl, rfl⟩

/-! ### Get Features (R36, R330) -/

theorem featValue_markStarted (k : Nat) : featValue c (markStarted k s) = featValue c s := rfl

theorem getFeature_none (h : featValue c s = none) : getFeature c s = s.finish c.k stInvalidNs := by
  simp only [getFeature, h]

theorem getFeature_value {x : Nat} (h : featValue c s = some x) (h81 : c.e.sel ≠ 0x81) : getFeature c s =
    match featSelect c.e with
    | 0 => s.finishDw c.k stOk x 0
    | 1 => s.finishDw c.k stOk (featDefault c.e.sel s) 0
    | 2 => s.finishDw c.k stOk (savedOr (s.ctlr c.ctl) (savedKey c.e) (featDefault c.e.sel s)) 0
    | 3 => s.finishDw c.k stOk (featCaps c.e.sel) 0
    | _ => s.finish c.k stField := by
  have hsel : (c.e.sel == 0x81) = false := by simpa using h81
  simp only [getFeature, h, hsel, Bool.false_eq_true, if_false] <;> rfl

theorem getFeature_beyond {x : Nat} (h : featValue c s = some x) (hs : 3 < featSelect c.e) : getFeature c s = s.finish c.k stField := by
  simp only [getFeature, h]
  split <;> first | omega | rfl

theorem getFeature_hostId (h81 : c.e.sel = 0x81) (hs : featSelect c.e = 0) :
    getFeature c s = (s.answer (bytesLe 16 ((s.ctlr c.ctl).hostId.getD 0))).finishDw c.k stOk 0 0 := by
  have hv : featValue c s = some 0 := by simp only [featValue, h81]
  simp only [getFeature, hv, h81, hs, beq_self_eq_true, if_true]

end Features

/-- Settles O51, by the feature, what its value asks for, and whether it is saved. -/
theorem featureValues : Obligations.FeatureValues := by
  unfold Obligations.FeatureValues
  intro k c id v s u w ns refuse saved set plain
  refine ⟨fun h => ?_, fun h => ?_, fun h => ?_, fun h => ?_, fun h => ?_, fun fid _ h hsave => ?_, fun h => ?_, fun h => ?_, fun h => ?_, fun h => ?_,
    fun h h13 hm => ?_, fun h => ?_, fun h hc => ?_, fun h x hx h81 => ?_, fun h hx => ?_, fun h h81 hs => ?_, fun h => ?_, fun h => ?_, fun h => ?_, fun h => ?_⟩
  · obtain rfl := h.1.k_eq
    exact next_congr (setFeature_begins h)
  · obtain rfl := h.1.k_eq
    exact next_congr (setFeature_begins h)
  · obtain rfl := h.1.k_eq
    exact next_congr (setFeature_begins h)
  · obtain rfl := h.1.k_eq
    exact next_congr (setFeature_begins h)
  · obtain rfl := h.1.k_eq
    refine ⟨fun hb => next_congr ((setFeature_begins h).trans (setTler_bit hb)), fun hb hall hr => ?_, fun hb h1 h64 => ⟨fun hn => ?_, fun hn => ?_⟩⟩
    · exact next_congr ((setFeature_begins h).trans (setTler_range hb hall hr))
    · exact next_congr ((setFeature_begins h).trans ((setTler_named hb h1 h64).trans (by rw [show u.ns c.e.ns = none from hn])))
    · exact next_congr ((setFeature_begins h).trans ((setTler_named hb h1 h64).trans (by rw [show u.ns c.e.ns = some v from hn]; rfl)))
  · obtain rfl := h.1.k_eq
    refine ⟨fun e => ?_, fun e => ?_, fun e => ?_, fun e => ?_, fun e => ?_⟩ <;> subst e <;>
      exact next_congr ((setFeature_begins h).trans (setPlain_saves hsave))
  · obtain rfl := h.1.1.k_eq
    intro a b x y
    refine ⟨fun hl => next_congr ((plain_begins h).trans (setQueues_late (s := u) hl)), fun hs hc => ⟨fun h65 => ?_, fun ha hb => ?_⟩⟩
    · exact next_congr ((plain_begins h).trans ((setQueues_early (s := u) hs hc).trans (if_pos (by simpa using h65))))
    · exact next_congr ((plain_begins h).trans ((setQueues_early (s := u) hs hc).trans (if_neg (by simpa using ⟨ha, hb⟩))))
  · obtain rfl := h.1.1.k_eq
    refine ⟨fun hw => ?_, fun hw => ?_⟩
    · exact next_congr (((setFeature_begins h.1).trans (setPlain_plain h.2)).trans (if_neg (Bool.eq_false_iff.mp hw)))
    · exact next_congr (((setFeature_begins h.1).trans (setPlain_plain h.2)).trans (if_pos hw))
  · obtain rfl := h.1.1.k_eq
    intro win en
    refine ⟨fun hr => next_congr ((plain_begins h).trans (setDup_range hr)), fun h1 h64 => ⟨fun hbad => ?_, fun hn hlo hhi hen => ?_⟩⟩
    · refine next_congr ((plain_begins h).trans ((setDup_named (s := u) h1 h64).trans ?_))
      cases hn : s.ns ns with
      | none => rw [show u.ns c.e.ns = none from hn]
      | some y =>
        rw [show u.ns c.e.ns = some y from hn]
        refine if_pos ?_
        have hb := hbad.resolve_left (by simp [hn])
        simp only [Bool.or_eq_true, beq_iff_eq, decide_eq_true_eq, Bool.and_eq_true, or_assoc]
        exact hb
    · refine next_congr ((plain_begins h).trans ((setDup_named (s := u) h1 h64).trans ?_))
      rw [show u.ns c.e.ns = some v from hn]
      refine if_neg ?_
      simp only [Bool.or_eq_true, beq_iff_eq, decide_eq_true_eq, Bool.and_eq_true, not_or, not_and]
      refine ⟨⟨Nat.one_le_iff_ne_zero.mp hlo, not_lt.mpr hhi⟩, fun he => hen.resolve_left ?_⟩
      rw [show en = true from he]
      decide
  · obtain rfl := h.1.1.k_eq
    exact next_congr (plain_begins h)
  · obtain rfl := h.1.1.k_eq
    intro l t
    have hexec : exec (.setFeatureGatheringLayout c.k) s = .next (waitCheck c 9 t.gath.check.isSome false t) :=
      next_congr ((plain_begins h).trans (setLayout_stored h13 hm))
    rw [hexec]
    refine ⟨fun hk => ?_, fun hk => ?_⟩
    · rw [hk]
      rfl
    · rw [Option.isSome_iff_ne_none.mpr hk]
      rfl
  · obtain rfl := h.1.1.k_eq
    exact next_congr (plain_begins h)
  · have hk := h.1.1.k_eq
    subst hk
    refine ⟨_, next_congr (plain_begins h), setKettle_waits hc ?_⟩
    have hmem : c.k ∈ cmdNumbers s := mem_cmdNumbers.mpr ⟨c, h.1.1.1.1⟩
    rwa [← cmdNumbers_modCmd s c.k (f := fun d => { d with started := true }) fun _ => rfl] at hmem
  · obtain rfl := h.k_eq
    have hexec : exec (.getFeatures c.k) s = .next (getFeature c u) := next_congr (adminStart_opcode h)
    have hv : featValue c u = some x := hx
    rw [hexec]
    refine ⟨fun hs => ?_, fun hs => ?_, fun hs => ?_, fun hs => ?_, fun hs => next_congr (getFeature_beyond hv hs)⟩ <;>
      exact next_congr ((getFeature_value hv h81).trans (by rw [hs]; rfl))
  · obtain rfl := h.k_eq
    exact next_congr ((adminStart_opcode h).trans (getFeature_none hx))
  · obtain rfl := h.k_eq
    exact next_congr ((adminStart_opcode h).trans (getFeature_hostId h81 hs))
  · simp only [featValue, h]
  · simp only [featValue, h]
  · simp only [featValue, h]
    rfl
  · simp only [featValue, h]

end Sys2Proof.Machine
end

section
/-! PROOFS. Namespace Management and Attachment, Format NVM and Sanitize (R70, R332, R356, R392). -/

namespace Sys2Proof.Machine

variable {k : Nat} {c : Cmd} {s : State}

/-! ### Which namespaces a create may make -/

theorem createRefused_cmdSet {csi : Nat} {d : NsDesc} (h0 : csi ≠ 0) (h2 : csi ≠ 2) : createRefused csi d s = some (sct 1 0x29) :=
  if_pos ⟨h0, h2⟩

theorem createRefused_field {csi : Nat} {d : NsDesc} (hcsi : csi = 0 ∨ csi = 2) (hd : 1 < d.mode.toNat ∨ 3 < d.attr.toNat ∨ d.b3843 ≠ 0) :
    createRefused csi d s = some stField := by
  refine (if_neg fun ⟨h0, h2⟩ => hcsi.elim h0 h2).trans (if_pos ?_)
  simp only [Bool.or_eq_true, decide_eq_true_eq]
  tauto

/-- A create that is not refused has a journal for what needs one, and a channel that is there. -/
theorem createRefused_none {csi : Nat} {d : NsDesc} (h : createRefused csi d s = none) :
    (d.mode = 0 ∨ d.attr.getLsbD 1 = true → s.get F.FLY_STAT_STATE ≠ 0) ∧ (d.place.toNat < 8 → chanAbsent (chOf d.place.toNat) s = false) := by
  unfold createRefused at h
  dsimp only at h
  split_ifs at h with _ _ _ _ hchan hfly
  refine ⟨fun hj hz => hfly ?_, fun hp => ?_⟩
  · simp only [Bool.and_eq_true, Bool.or_eq_true, decide_eq_true_eq, beq_iff_eq]
    exact ⟨hj, hz⟩
  · by_contra habs
    refine hchan ?_
    simp only [Bool.or_eq_true, Bool.and_eq_true, decide_eq_true_eq]
    exact Or.inl ⟨hp, Or.inl (Bool.eq_true_of_not_eq_false habs)⟩

/-! ### Create, attach and detach -/

theorem nsCreate_refused {d : NsDesc} {st : Nat} (h : createRefused (c.e.cdw11.toNat / 16777216) d s = some st) :
    nsCreate d c s = s.finish c.k st := by
  simp only [nsCreate, h]

theorem nsCreate_full {d : NsDesc} (h : createRefused (c.e.cdw11.toNat / 16777216) d s = none)
    (hfree : ((List.range 64).find? fun j => (s.ns (j + 1)).isNone) = none) : nsCreate d c s = s.finish c.k (sct 1 0x16) := by
  simp only [nsCreate, h, hfree]

theorem nsCreate_noRun {d : NsDesc} {i : Nat} (h : createRefused (c.e.cdw11.toNat / 16777216) d s = none)
    (hfree : ((List.range 64).find? fun j => (s.ns (j + 1)).isNone) = some i) (hr : nsRun d s = none) :
    nsCreate d c s = s.finish c.k (sct 1 0x15) := by
  simp only [nsCreate, h, hfree, hr]

/-- A create that takes its run: the namespace, and on a channel the channel's own record of the run. -/
theorem nsCreate_runs {d : NsDesc} {i base : Nat} (h : createRefused (c.e.cdw11.toNat / 16777216) d s = none)
    (hfree : ((List.range 64).find? fun j => (s.ns (j + 1)).isNone) = some i) (hr : nsRun d s = some base) :
    nsCreate d c s = (nextGen (i + 1) (if d.place.toNat < 8 then
        defectSync (chOf d.place.toNat) ((s.modHost fun h => { h with
          nss := h.nss ++ [newNs (i + 1) d (c.e.cdw11.toNat / 16777216 == 2) base] }).modSched (chOf d.place.toNat) fun y =>
            { y with runs := y.runs ++ [⟨base, d.nsze, false, i + 1⟩] })
      else s.modHost fun h => { h with nss := h.nss ++ [newNs (i + 1) d (c.e.cdw11.toNat / 16777216 == 2) base] })).finishDw c.k stOk (i + 1) 0 := by
  simp only [nsCreate, h, hfree, hr]

theorem nsCreate_begins {d : NsDesc} (h : BeginsAdmin k c 0x0D s) (hw : c.e.cdw10.toNat % 16 = 0) :
    exec (.namespaceCreate k d) s = .next (nsCreate d c (markStarted k s)) :=
  next_congr (adminStart_begins h.1 h.2.1 (by simp [h.2.2, hw]))

theorem nsAttach_gone {on : Bool} {cs : List Ctl} (h : s.ns c.e.ns = none) : nsAttach on cs c s = s.finish c.k stInvalidNs := by
  simp only [nsAttach, h]

theorem nsAttach_badList {on : Bool} {cs : List Ctl} {v : Ns} (h : s.ns c.e.ns = some v) (hl : cs = [] ∨ ∃ x ∈ cs, portThere x s = false) :
    nsAttach on cs c s = s.finish c.k (sct 1 0x1C) := by
  simp only [nsAttach, h]
  refine if_pos ?_
  simpa [List.any_eq_true] using hl

/-- An attachment of a namespace that is there, on controllers that are there. -/
theorem nsAttach_listed {on : Bool} {cs : List Ctl} {v : Ns} (h : s.ns c.e.ns = some v) (hne : cs ≠ []) (hp : ∀ x ∈ cs, portThere x s = true) :
    nsAttach on cs c s =
      if on && cs.any fun d => v.attach.contains d then s.finish c.k (sct 1 0x18)
      else if !on && cs.any fun d => !v.attach.contains d then s.finish c.k (sct 1 0x1A)
      else (nsChanged v.nsid cs.dedup (s.modNs v.nsid fun x => { x with
        attach := if on then x.attach ++ cs.dedup else x.attach.filter fun d => !cs.contains d })).finish c.k stOk := by
  simp only [nsAttach, h]
  refine if_neg ?_
  simp only [Bool.or_eq_true, List.isEmpty_iff, List.any_eq_true, Bool.not_eq_true', not_or, not_exists, not_and, Bool.not_eq_false]
  exact ⟨hne, hp⟩

theorem nsAttach_begins {cs : List Ctl} (h : BeginsAdmin k c 0x15 s) :
    (c.e.cdw10.toNat % 16 = 0 → exec (.namespaceAttach k cs) s = .next (nsAttach true cs c (markStarted k s))) ∧
    (c.e.cdw10.toNat % 16 = 1 → exec (.namespaceDetach k cs) s = .next (nsAttach false cs c (markStarted k s))) :=
  ⟨fun hw => next_congr (adminStart_begins h.1 h.2.1 (by simp [h.2.2, hw])),
    fun hw => next_congr (adminStart_begins h.1 h.2.1 (by simp [h.2.2, hw]))⟩

/-! ### Delete, Format and Sanitize -/

/-- A delete that begins: of the namespace named, or of every one. -/
theorem nsDelete_begins {vs : List Ns} (hvs : vs = if c.e.ns = 0xFFFFFFFF then s.host.nss else s.host.nss.filter fun v => v.nsid == c.e.ns)
    (h : BeginsAdmin k c 0x0D s) (hw : c.e.cdw10.toNat % 16 = 1) (hq : c.qid = 0) : nsDelete k s =
      if vs.isEmpty && c.e.ns != 0xFFFFFFFF then (markStarted k s).finish k stInvalidNs
      else if !vs.all fun v => nsQuiet v.nsid s then s
      else (markStarted k s).each vs fun v t => nsDeleteOne k v t := by
  have hst : startable (fun e => e.opc == 0x0D#8 && e.cdw10.toNat % 16 == 1) k s = some c := startable_begins h.1 (by simp [h.2.2, hw])
  subst hvs
  simp only [nsDelete, hst]
  exact if_neg fun hn => hn hq

/-- A Format that begins, with the namespaces it names. -/
theorem formatNvm_begins {fs : List Ns}
    (hfs : fs = if c.e.ns = 0xFFFFFFFF then s.host.nss.filter fun x => x.attach.contains c.ctl else s.host.nss.filter fun x => x.nsid == c.e.ns)
    (h : BeginsAdmin k c 0x80 s) (hq : c.qid = 0) : formatNvm k s =
      if c.e.ns == 0 || (decide (64 < c.e.ns) && c.e.ns != 0xFFFFFFFF) then (markStarted k s).finish k stInvalidNs
      else if fs.isEmpty || decide (1 < c.e.cdw10.toNat / 512 % 8) then (markStarted k s).finish k stField
      else if decide (2 < c.e.cdw10.toNat % 16) || decide (3 < c.e.cdw10.toNat / 32 % 8) ||
        (c.e.cdw10.toNat / 32 % 8 != 0 && c.e.cdw10.toNat % 16 != 1) then (markStarted k s).finish k (sct 1 0x0A)
      else if !eraseReady k fs s then s
      else pump ((markStarted k s).each fs fun v t => nsChanged v.nsid v.attach (eraseNs k v (t.modNs v.nsid fun x =>
        { x with lbaf := c.e.cdw10.toNat % 16, pi := c.e.cdw10.toNat / 32 % 8, mset := c.e.cdw10.toNat.testBit 4 }))) := by
  have hst : startable (fun e => e.opc == 0x80#8) k s = some c := startable_begins h.1 (by simp [h.2.2])
  subst hfs
  simp only [formatNvm, hst]
  exact if_neg fun hn => hn hq

theorem sanitize_begins (h : BeginsAdmin k c 0x84 s) (hq : c.qid = 0) (hw : c.e.cdw10.toNat % 8 = 3) : sanitize k s =
    if !eraseReady k s.host.nss s then s
    else pump (((markStarted k s).each s.host.nss fun v t => eraseNs k v t).modHost fun h => { h with sanSt := 1, sanDw := c.e.cdw10.toNat }) := by
  have hst : startable (fun e => e.opc == 0x84#8 && e.cdw10.toNat % 8 == 3) k s = some c := startable_begins h.1 (by simp [h.2.2, hw])
  simp only [sanitize, hst, hq, ne_eq, not_true_eq_false, decide_false, Bool.false_or]

/-- Settles O53: each command's row, branch by branch. -/
theorem namespaceCommands : Obligations.NamespaceCommands := by
  unfold Obligations.NamespaceCommands
  intro k i base c d cs v st s u csi ns vs fs w begin
  refine ⟨fun ⟨h, hw⟩ => ?create, createRefused_cmdSet, createRefused_field, fun h => (createRefused_none h).1,
    fun h => (createRefused_none h).2, fun ⟨h, hw⟩ hq => ?delete, fun h => ?attach, fun h hq => ?format, fun h hq hw => ?sanitize⟩
  case create =>
    obtain rfl := h.k_eq
    rw [nsCreate_begins h hw]
    refine ⟨fun hr => next_congr (nsCreate_refused hr), fun hr hf => next_congr (nsCreate_full hr hf), fun hr hf =>
      ⟨fun hn => next_congr (nsCreate_noRun hr hf hn), fun hn hp => next_congr ((nsCreate_runs (s := u) hr hf hn).trans ?_),
        fun hn hp => next_congr ((nsCreate_runs (s := u) hr hf hn).trans ?_)⟩⟩
    · rw [if_pos hp]
    · rw [if_neg (not_lt.mpr hp)]
  case delete =>
    have hexec : exec (.namespaceDelete k) s = .next (if vs.isEmpty && ns != 0xFFFFFFFF then u.finish k stInvalidNs
        else if !vs.all fun v => nsQuiet v.nsid s then s else u.each vs fun v t => nsDeleteOne k v t) :=
      next_congr (nsDelete_begins rfl h hw hq)
    rw [hexec]
    refine ⟨fun hvs hns => next_congr (if_pos ?_), fun ⟨x, hx, hbusy⟩ => next_congr ((if_neg ?_).trans (if_pos ?_)),
      fun hvs hall => next_congr ((if_neg ?_).trans (if_neg ?_))⟩
    · have : vs = [] := (if_neg hns).trans hvs
      simp [this, hns]
    · simp [List.ne_nil_of_mem hx]
    · simp only [Bool.not_eq_true', List.all_eq_false]
      exact ⟨x, hx, by simp [hbusy]⟩
    · rcases hvs with hvs | hvs <;> simp [hvs]
    · simpa using hall
  case attach =>
    intro run
    have hk : c.k = k := h.elim (fun x => x.1.k_eq) fun x => x.1.k_eq
    have hrun : run = .next (nsAttach (w % 16 == 0) cs c u) := by
      rcases h with ⟨h, hw⟩ | ⟨h, hw⟩
      · exact (if_pos hw).trans (((nsAttach_begins h).1 hw).trans (by simp [hw]; rfl))
      · exact (if_neg (by omega)).trans (((nsAttach_begins h).2 hw).trans (by simp [hw]; rfl))
    obtain rfl := hk
    rw [hrun]
    refine ⟨fun hn => next_congr (nsAttach_gone hn), fun hn hl => next_congr (nsAttach_badList hn hl), fun hn hne hp => ?_⟩
    rw [nsAttach_listed (s := u) hn hne hp]
    refine ⟨fun hw ⟨x, hx, hm⟩ => ?_, fun hw ⟨x, hx, hm⟩ => ?_, fun hw hm => ?_, fun hw hm => ?_⟩ <;> rw [hw]
    · exact next_congr (if_pos (List.any_eq_true.mpr ⟨x, hx, List.contains_iff_mem.mpr hm⟩))
    · exact next_congr ((if_neg Bool.false_ne_true).trans (if_pos (List.any_eq_true.mpr ⟨x, hx, by simpa using hm⟩)))
    · refine next_congr ((if_neg ?_).trans (if_neg (by simp)))
      simpa using hm
    · refine next_congr ((if_neg (by simp)).trans (if_neg ?_))
      simpa using hm
  case format =>
    have hexec : exec (.formatNvm k) s = .next _ := next_congr (formatNvm_begins (fs := fs) rfl h hq)
    rw [hexec]
    refine ⟨fun hn => next_congr (if_pos ?_), fun h1 hns => ?_⟩
    · simp only [Bool.or_eq_true, beq_iff_eq, Bool.and_eq_true, decide_eq_true_eq, bne_iff_ne]
      exact hn
    have hid : ¬(c.e.ns == 0 || (decide (64 < c.e.ns) && c.e.ns != 0xFFFFFFFF)) = true := by
      simp only [Bool.or_eq_true, beq_iff_eq, Bool.and_eq_true, decide_eq_true_eq, bne_iff_ne]
      show ¬(ns = 0 ∨ 64 < ns ∧ ns ≠ 0xFFFFFFFF)
      omega
    have hfs : fs ≠ [] → w / 512 % 8 ≤ 1 → ¬(fs.isEmpty || decide (1 < w / 512 % 8)) = true := fun hf hw => by simp [hf, hw]
    refine ⟨fun hbad => next_congr ((if_neg hid).trans (if_pos ?_)),
      fun hf hses hbad => next_congr ((if_neg hid).trans ((if_neg (hfs hf hses)).trans (if_pos ?_))), fun hf hses hl hp hpl => ?_⟩
    · simpa using hbad
    · simpa [or_assoc] using hbad
    · have hfmt : ¬(decide (2 < w % 16) || decide (3 < w / 32 % 8) || (w / 32 % 8 != 0 && w % 16 != 1)) = true := by
        simp only [Bool.or_eq_true, Bool.and_eq_true, decide_eq_true_eq, bne_iff_ne]
        omega
      refine ⟨fun hr => next_congr ?_, fun hr => next_congr ?_⟩
      · exact (if_neg hid).trans ((if_neg (hfs hf hses)).trans ((if_neg hfmt).trans (if_pos (by rw [hr]; rfl))))
      · exact (if_neg hid).trans ((if_neg (hfs hf hses)).trans ((if_neg hfmt).trans (if_neg (by rw [hr]; decide))))
  case sanitize =>
    exact ⟨fun hr => next_congr ((sanitize_begins h hq hw).trans (if_pos (by rw [hr]; rfl))),
      fun hr => next_congr ((sanitize_begins h hq hw).trans (if_neg (by rw [hr]; decide)))⟩

end Sys2Proof.Machine
end

section
/-! PROOFS. Firmware commits (R333, R563). -/

namespace Sys2Proof.Machine

/-- A Firmware Commit of controller 0 that selects slot 2 for the next reset: action 0b010. -/
def selectCommit : Cmd := Tests.adm 0x10 0x12 0

/-- The block with that commit fetched: slot 2 of the boot flash holds an image that passes the checks. -/
def slotTwoFilled : State :=
  Tests.put selectCommit { Tests.on with
    fuses := { Tests.on.fuses with keyhash := ⟨Tests.aKeyHash, 1⟩ }
    boot := { Tests.on.boot with slots := Tests.on.boot.slots.set 1 (some Tests.anImage) } }

theorem imageReason_slotTwoFilled : imageReason (some Tests.anImage) true (markStarted 0 slotTwoFilled) = 0 := by
  rw [imageReason, keyOk, Tests.anImage_hash, Tests.anImage_key]
  decide +kernel

/-- What a commit of action 0b010 does where the slot's image passes the checks. -/
theorem imageCommit_select {c : Cmd} {i : Fin 2} {g : Image} {s : State} (hc : commitSlot c.e s = some i) (hg : s.boot.slots[i] = some g)
    (hr : imageReason (some g) true s = 0) : imageCommit false true c s = ({ s with boot := s.boot.select i.val } : State).finish c.k stOk := by
  simp only [imageCommit, hc, hg, hr, Bool.false_eq_true, if_false, if_true, ne_eq, not_true_eq_false]

/-- Refutes O54: a commit that activates also writes a boot-control sector with the slot (`Boot.select`, R563). The statement leaves the two
sectors as they were. -/
theorem not_firmwareSelfTestAndMi : ¬ Obligations.FirmwareSelfTestAndMi := by
  unfold Obligations.FirmwareSelfTestAndMi
  intro h
  obtain ⟨-, hcommit, -⟩ := h 0 selectCommit Tests.anImage 1 slotTwoFilled
  obtain ⟨-, -, hslot⟩ := hcommit (by unfold BeginsAdmin Begins; decide +kernel)
  obtain ⟨-, -, -, hselect⟩ := hslot (by decide +kernel)
  have hstate := Host.Outcome.next.inj (hselect (by decide +kernel) imageReason_slotTwoFilled (by decide +kernel))
  have hexec : adminStart (fun e => e.opc == 0x10#8 && (e.cdw10.toNat / 8 % 8 == 1 || e.cdw10.toNat / 8 % 8 == 2)) 0
      (fun c t => imageCommit (c.e.cdw10.toNat / 8 % 8 == 1) true c t) slotTwoFilled =
      ({ markStarted 0 slotTwoFilled with boot := (markStarted 0 slotTwoFilled).boot.select 1 } : State).finish 0 stOk :=
    (adminStart_begins (c := selectCommit) (by unfold Begins; decide +kernel) (by decide) (by decide)).trans
      (imageCommit_select (i := 1) (g := Tests.anImage) (by decide +kernel) rfl imageReason_slotTwoFilled)
  have hsector := congrArg (fun t => t.boot.ctl[0]) (hexec.symm.trans hstate)
  exact absurd hsector (by decide +kernel)

end Sys2Proof.Machine
end

section
/-! PROOFS. The data commands of the host (R19 to R22, R326, R356, R369, R373, R412, R613). -/

namespace Sys2Proof.Machine

variable {k : Nat} {c : Cmd} {v : Ns} {s : State}

/-! ### What holds a command back -/

theorem ioStart_gone {opc : Byte} {writes : Bool} {f : Cmd → Ns → State → State} (h : BeginsIo k c opc s) (hn : s.ns c.e.ns = none) :
    ioStart opc k writes f s = s.finish k stInvalidNs := by
  obtain ⟨hb, h0, h1, ho⟩ := h
  have hst : startable (fun e => e.opc == opc) k s = some c := startable_begins hb (by rw [ho, beq_self_eq_true])
  simp only [ioStart, hst, hn, h0, h1, decide_false, Bool.or_self, Bool.false_eq_true, if_false]

/-- A command of an I/O queue that begins on a namespace that is there. -/
theorem ioStart_there {opc : Byte} {writes : Bool} {f : Cmd → Ns → State → State} (h : BeginsIo k c opc s) (hn : s.ns c.e.ns = some v) :
    ioStart opc k writes f s =
      if !lockClear c s || (c.wr && formatAhead c s) then s
      else if !resvAllows c.ctl v writes s then s.finish k stResConflict
      else if c.wr && onFailed v s then s.finish k stProtected
      else f c v s := by
  obtain ⟨hb, h0, h1, ho⟩ := h
  have hst : startable (fun e => e.opc == opc) k s = some c := startable_begins hb (by rw [ho, beq_self_eq_true])
  simp only [ioStart, hst, hn, h0, h1, decide_false, Bool.or_self, Bool.false_eq_true, if_false]

theorem ioStart_waits {opc : Byte} {writes : Bool} {f : Cmd → Ns → State → State} (h : BeginsIo k c opc s) (hn : s.ns c.e.ns = some v)
    (hw : lockClear c s = false ∨ (c.wr = true ∧ formatAhead c s = true)) : ioStart opc k writes f s = s := by
  refine (ioStart_there h hn).trans (if_pos ?_)
  simpa using hw

theorem ioStart_reserved {opc : Byte} {writes : Bool} {f : Cmd → Ns → State → State} (h : BeginsIo k c opc s) (hn : s.ns c.e.ns = some v)
    (hl : lockClear c s = true) (hw : c.wr = false ∨ formatAhead c s = false) (hr : resvAllows c.ctl v writes s = false) :
    ioStart opc k writes f s = s.finish k stResConflict := by
  refine (ioStart_there h hn).trans ((if_neg ?_).trans (if_pos (by rw [hr]; rfl)))
  rcases hw with hw | hw <;> simp [hl, hw]

theorem ioStart_failed {opc : Byte} {writes : Bool} {f : Cmd → Ns → State → State} (h : BeginsIo k c opc s) (hn : s.ns c.e.ns = some v)
    (hl : lockClear c s = true) (hw : c.wr = false ∨ formatAhead c s = false) (hr : resvAllows c.ctl v writes s = true) (hwr : c.wr = true)
    (hf : onFailed v s = true) : ioStart opc k writes f s = s.finish k stProtected := by
  refine (ioStart_there h hn).trans ((if_neg ?_).trans ((if_neg (by rw [hr]; decide)).trans (if_pos (by rw [hwr, hf]; rfl))))
  rcases hw with hw | hw <;> simp [hl, hw]

/-! ### Deallocate and Copy -/

/-- A Deallocate of a list of ranges that has arrived. -/
def deallocList (k : Nat) (c : Cmd) (v : Ns) (rr : List LRange) (s : State) : State :=
  let g := withRanges c rr [] s
  let ps := (rr.filter fun r => decide (0 < r.cnt)).map fun r => (⟨r.lba, r.cnt, 3, none, none⟩ : Piece)
  if rr.any fun r => decide (v.nsze < r.lba + r.cnt) then s.finish k stLbaRange
  else if !g.1 then g.2
  else if ps.isEmpty then (markStarted k g.2).finish k stOk
  else beginEffect { c with ranges := rr } v ps (markStarted k g.2)

theorem startDealloc_runs {rs : List LRange} (h : IoRuns k c v 0x09 true s) (hd : c.e.cdw11.getLsbD 2 = true) : startDealloc k rs s =
    if rangesLost c (c.e.cdw10.toNat % 256 + 1) rs then (s.finish k stTransfer).raise (hostSrc 2) c.ctl.val
    else deallocList k c v (if c.ranges.isEmpty then rs else c.ranges) s :=
  (ioStart_runs h).trans (if_neg (by rw [Sqe.dealloc, hd]; decide))

theorem startDealloc_idle {rs : List LRange} (h : IoRuns k c v 0x09 true s) (hd : c.e.cdw11.getLsbD 2 = false) : startDealloc k rs s = s :=
  (ioStart_runs h).trans (if_pos (by rw [Sqe.dealloc, hd]; rfl))

/-- A Copy from a list of sources that has arrived, `m` blocks in all. -/
def copyList (k : Nat) (c : Cmd) (v : Ns) (src : List LRange) (m : Nat) (s : State) : State :=
  let g := withRanges c [⟨c.e.slba, m⟩] src s
  let t := markStarted k g.2
  let t := if v.stream then t else t.modCmd k fun d => { d with seqLen := min m d.seqLen }
  if m == 0 then s.finish k stField
  else if (src.any fun r => decide (v.nsze < r.lba + r.cnt)) || decide (v.nsze < c.e.slba + m) then s.finish k stLbaRange
  else if !g.1 then g.2
  else match t.cmd k with
    | none => t
    | some d => match unreadable d v (readBlocks d) t with
      | some a => failRead1 k d v a t
      | none => advance k (placeTodo k (t.each (readBlocks d) fun a u => lookupBlock k v a u))

theorem startCopy_runs {rs : List LRange} (h : IoRuns k c v 0x19 true s) : startCopy k rs s =
    if 128 < c.e.cdw12.toNat % 256 + 1 then s.finish k (sct 1 0x83)
    else if c.e.cdw12.toNat / 256 % 16 != 0 then s.finish k stField
    else if rangesLost c (c.e.cdw12.toNat % 256 + 1) rs then (s.finish k stTransfer).raise (hostSrc 2) c.ctl.val
    else copyList k c v (if c.ranges.isEmpty then rs else c.srcs)
      ((if c.ranges.isEmpty then rs else c.srcs).foldl (fun m r => m + r.cnt) 0) s :=
  ioStart_runs h

theorem rangesLost_iff {n : Nat} {rs : List LRange} : rangesLost c n rs = true ↔ c.ranges = [] ∧ rs.length ≠ n := by
  simp [rangesLost, and_comm]

/-! ### Read, Verify and the buffers of a write -/

theorem startRead_runs (h : IoRuns k c v 0x02 false s) : startRead k s =
    match unreadable c v (readBlocks c) (track v.nsid c.e.slba c.e.nlb (markStarted k s)) with
    | some a => failRead1 k c v a (track v.nsid c.e.slba c.e.nlb (markStarted k s))
    | none => readAhead v.nsid (placeTodo k ((track v.nsid c.e.slba c.e.nlb (markStarted k s)).each (readBlocks c) fun a u =>
        if beyondWp v a then found k a none u else lookupBlock k v a u)) :=
  ioStart_runs h

theorem startVerify_runs (h : IoRuns k c v 0x0C false s) : startVerify k s =
    match unreadable c v (readBlocks c) (markStarted k s) with
    | some a => failRead1 k c v a (markStarted k s)
    | none => placeTodo k ((markStarted k s).modCmd k fun d => { d with todo := (readBlocks c).filter fun a => !beyondWp v a }) :=
  ioStart_runs h

/-- A read-ahead line whose fill the cache has in flight. -/
theorem specArrive_fill {nsid line : Nat} {good : Bool} {data : List Block} {f : Fill}
    (h : s.cache.fills.find? (fun x => x.spec && x.nsid == nsid && x.line == line) = some f) : specArrive nsid line good data s =
      readAhead nsid (specWake nsid line (if f.void then
        (match (dropFill f.id s).ns nsid with
         | some v => (dropFill f.id s).inc (F.SCHED_SPECSTAT_RA_VOID (nsPlace v (line * 16) (dropFill f.id s)).1)
         | none => dropFill f.id s)
      else if good && data.length == 16 then cacheAlloc f (data.zipIdx.map fun x => (x.2, x.1)) (dropFill f.id s)
      else dropFill f.id s)) := by
  simp only [specArrive, h] <;> rfl

/-- Settles O55: each command's row, branch by branch. -/
theorem dataCommands : Obligations.DataCommands := by
  unfold Obligations.DataCommands
  intro k c v rs nsid line good data f s u lba n lost out
  refine ⟨fun h hn => next_congr (ioStart_gone h hn), fun h hn => ⟨fun hw => next_congr (ioStart_waits h hn hw), fun hl hw =>
      ⟨fun hr => next_congr (ioStart_reserved h hn hl hw hr), fun hr hwr hf => next_congr (ioStart_failed h hn hl hw hr hwr hf)⟩⟩,
    fun h => next_congr (ioStart_runs h), fun h hz => next_congr ((ioStart_runs h).trans (if_pos (by rw [hz]; rfl))),
    ⟨fun hr => if_pos (List.isEmpty_iff.mpr hr), fun hr => if_neg (by simpa using hr)⟩,
    fun h hz => next_congr ((ioStart_runs h).trans (if_pos (by rw [hz]; rfl))),
    fun h hd => next_congr (startDealloc_idle h hd), fun h hd => ?dealloc, fun h => ?read, fun h => ?verify,
    ⟨rfl, fun a hb => by simp [unreadable, hb]⟩, fun h => ?copy, fun h => ⟨next_congr (by simp only [readWaitEnd, h]), next_congr (by simp only [deadline, h])⟩, fun h => ?wait, fun h => ?noFill, fun h => ?fill⟩
  case dealloc =>
    intro rr short
    have hexec : exec (.datasetManagementDeallocate k rs) s = .next (if rangesLost c (c.e.cdw10.toNat % 256 + 1) rs then lost
      else deallocList k c v rr s) := next_congr (startDealloc_runs h hd)
    rw [hexec]
    refine ⟨fun hs => next_congr (if_pos (rangesLost_iff.mpr hs)), fun hs ho => ?_, fun hs ho => ?_⟩
    · refine next_congr ((if_neg fun hl => hs (rangesLost_iff.mp hl)).trans (if_pos ?_))
      simpa using ho
    · have hin : ¬(rr.any fun r => decide (v.nsze < r.lba + r.cnt)) = true := by simpa [out] using ho
      rw [if_neg fun hl => hs (rangesLost_iff.mp hl)]
      refine ⟨fun hg => next_congr ((if_neg hin).trans (if_pos (by rw [hg]; rfl))),
        fun hg hp => next_congr ((if_neg hin).trans ((if_neg (by rw [hg]; decide)).trans (if_pos (List.isEmpty_iff.mpr hp)))),
        fun hg hp => next_congr ((if_neg hin).trans ((if_neg (by rw [hg]; decide)).trans (if_neg fun he => hp (List.isEmpty_iff.mp he))))⟩
  case read =>
    refine ⟨fun a ha => next_congr ((startRead_runs h).trans (by rw [ha])), fun ha => next_congr ((startRead_runs h).trans (by rw [ha]))⟩
  case verify =>
    refine ⟨fun a ha => next_congr ((startVerify_runs h).trans (by rw [ha])), fun ha => next_congr ((startVerify_runs h).trans (by rw [ha]))⟩
  case copy =>
    intro nr src m short
    have hexec : exec (.copy k rs) s = .next (if 128 < nr then s.finish k (sct 1 0x83)
        else if c.e.cdw12.toNat / 256 % 16 != 0 then s.finish k stField
        else if rangesLost c nr rs then lost
        else copyList k c v src m s) := next_congr (startCopy_runs h)
    rw [hexec]
    refine ⟨fun h128 => next_congr (if_pos h128), fun h128 hf => next_congr ((if_neg (not_lt.mpr h128)).trans (if_pos (bne_iff_ne.mpr hf))),
      fun h128 hf => ?_⟩
    rw [if_neg (not_lt.mpr h128), if_neg fun hne => (bne_iff_ne.mp hne) hf]
    refine ⟨fun hs => next_congr (if_pos (rangesLost_iff.mpr hs)), fun hs hm => ?_, fun hs hm ho => ?_, fun hs hm ho hend => ?_⟩ <;>
      rw [if_neg fun hl => hs (rangesLost_iff.mp hl)]
    · exact next_congr (if_pos (beq_iff_eq.mpr hm))
    · refine next_congr ((if_neg fun h0 => ?_).trans (if_pos ?_))
      · have := beq_iff_eq.mp h0
        omega
      · simpa using ho
    · have hm0 : ¬(m == 0) = true := fun h0 => by
        have := beq_iff_eq.mp h0
        omega
      have hin : ¬((src.any fun r => decide (v.nsze < r.lba + r.cnt)) || decide (v.nsze < c.e.slba + m)) = true := by
        simpa using ⟨fun r hr => not_lt.mp (ho r hr), hend⟩
      intro g t₁ t
      refine ⟨fun hg => next_congr ((if_neg hm0).trans ((if_neg hin).trans (if_pos (by rw [hg]; rfl)))), fun hg d hd => ?_⟩
      have hgo : copyList k c v src m s = match unreadable d v (readBlocks d) t with
          | some a => failRead1 k d v a t
          | none => advance k (placeTodo k (t.each (readBlocks d) fun a u => lookupBlock k v a u)) :=
        (if_neg hm0).trans ((if_neg hin).trans ((if_neg (by rw [hg]; decide)).trans (by rw [hd])))
      exact ⟨fun a ha => next_congr (hgo.trans (by rw [ha])), fun ha => next_congr (hgo.trans (by rw [ha]))⟩
  case wait => exact next_congr (by simp only [readWaitEnd, h])
  case noFill => exact next_congr (by simp only [specArrive, h])
  case fill =>
    intro t wake
    refine ⟨fun hv hn => ?_, fun hv hg => ?_, fun hv hg hl => ?_⟩ <;> refine next_congr ((specArrive_fill h).trans ?_)
    · rw [hv, if_pos rfl, show (dropFill f.id s).ns nsid = some v from hn]
    · rw [hv, if_neg Bool.false_ne_true, if_neg]
      rcases hg with hg | hl
      · simp [hg]
      · simp [hl]
    · rw [hv, if_neg Bool.false_ne_true, if_pos (by simp [hg, hl])]

end Sys2Proof.Machine
end

section
/-! PROOFS. Reservations (R342). -/

namespace Sys2Proof.Machine

variable {k h : Nat} {c : Cmd} {v : Ns} {s : State}

/-! ### The order of reservation commands -/

/-- A reservation command waits for an earlier open one of its namespace. -/
theorem resStart_waits {opc : Byte} {f : Cmd → Ns → State → State} (hb : BeginsIo k c opc s)
    (ht : (s.host.cmds.any fun d => decide (d.k < k) && d.e.nsid == c.e.nsid && [0x0D#8, 0x11#8, 0x15#8].contains d.e.opc && d.isOpen &&
      decide (0 < d.qid) && decide (d.qid < 65536)) = true) : resStart opc k f s = s := by
  obtain ⟨hb, h0, h1, ho⟩ := hb
  have hst : startable (fun e => e.opc == opc) k s = some c := startable_begins hb (by rw [ho, beq_self_eq_true])
  simp only [resStart, hst, h0, h1, ht, decide_false, Bool.or_self, Bool.false_eq_true, if_false, if_true]

/-! ### Register -/

/-- The reservation with the Persist Through Power Loss state that a Register asks for. -/
def withPtpl (c : Cmd) (r : Resv) : Resv :=
  match c.e.cdw10.toNat / 1073741824 with
  | 2 => { r with ptpl := false }
  | 3 => { r with ptpl := true }
  | _ => r

theorem withPtpl_eq (c : Cmd) (r : Resv) : withPtpl c r = if c.e.cdw10.toNat / 1073741824 = 2 then { r with ptpl := false }
    else if c.e.cdw10.toNat / 1073741824 = 3 then { r with ptpl := true } else r := by
  unfold withPtpl
  split
  · next h2 => rw [if_pos h2]
  · next h3 => rw [if_neg (by omega), if_pos h3]
  · next h2 h3 => rw [if_neg h2, if_neg h3]

theorem withPtpl_regs (c : Cmd) (r : Resv) : (withPtpl c r).regs = r.regs := by
  unfold withPtpl
  split <;> rfl

theorem withPtpl_holder (c : Cmd) (r : Resv) : (withPtpl c r).holder = r.holder := by
  unfold withPtpl
  split <;> rfl

theorem withPtpl_gen (c : Cmd) (r : Resv) : (withPtpl c r).gen = r.gen := by
  unfold withPtpl
  split <;> rfl

theorem withPtpl_key (c : Cmd) (r : Resv) (h : Nat) : (withPtpl c r).key h = r.key h := by
  rw [Resv.key, withPtpl_regs, Resv.key]

/-- A changed reservation, its generation counted up, completes a Register. -/
def registerDone (c : Cmd) (v : Ns) (q : Resv) (s : State) : State := (setResv v { q with gen := (q.gen + 1) % 4294967296 } s).finish c.k stOk

/-- What a Register of a host that has an identifier does, with the reservation it would leave. -/
def registerAs (act : ResRegAct) (ck nk h : Nat) (c : Cmd) (v : Ns) (r : Resv) (s : State) : State :=
  match act, r.key h with
  | .register, some x => if x == nk then (setResv v r s).finish c.k stOk else s.finish c.k stResConflict
  | .register, none => registerDone c v { r with regs := r.regs ++ [(h, nk)] } s
  | .replace, some x =>
    if x == ck || c.e.cdw10.getLsbD 3 then registerDone c v { r with regs := r.regs.map fun y => if y.1 == h then (h, nk) else y } s
    else s.finish c.k stResConflict
  | .replace, none => s.finish c.k stResConflict
  | .unregister, some x =>
    if x == ck || c.e.cdw10.getLsbD 3 then
      let q := { r with regs := r.regs.filter fun y => y.1 != h }
      let last := r.holder == some h && !(match r.typ with | some t => resAll t | none => false)
      if last || q.regs.isEmpty then registerDone c v (resRelease v h q s).1 (resRelease v h q s).2
      else registerDone c v { q with holder := if q.holder == some h then q.regs.head?.map fun y => y.1 else q.holder } s
    else s.finish c.k stResConflict
  | .unregister, none => s.finish c.k stResConflict

theorem resRegister_host {act : ResRegAct} {ck nk : Nat} (hh : (s.ctlr c.ctl).hostId = some h) :
    resRegister act ck nk c v s = registerAs act ck nk h c v (withPtpl c v.resv) s := by
  simp only [resRegister, hh] <;> rfl

section
variable {ck nk : Nat} {r : Resv}

theorem registerAs_new (hk : r.key h = none) :
    registerAs .register ck nk h c v r s = registerDone c v { r with regs := r.regs ++ [(h, nk)] } s := by
  simp only [registerAs, hk]

theorem registerAs_again {x : Nat} (hk : r.key h = some x) :
    registerAs .register ck nk h c v r s = if x == nk then (setResv v r s).finish c.k stOk else s.finish c.k stResConflict := by
  simp only [registerAs, hk]

theorem registerAs_replace (hk : r.key h = some ck) :
    registerAs .replace ck nk h c v r s = registerDone c v { r with regs := r.regs.map fun y => if y.1 == h then (h, nk) else y } s := by
  simp only [registerAs, hk, beq_self_eq_true, Bool.true_or, if_true]

theorem registerAs_unregister (hk : r.key h = some ck) (hh : r.holder ≠ some h) (ho : ∃ x ∈ r.regs, x.1 ≠ h) :
    registerAs .unregister ck nk h c v r s = registerDone c v { r with regs := r.regs.filter fun y => y.1 != h } s := by
  have hb : (r.holder == some h) = false := beq_eq_false_iff_ne.mpr hh
  have hne : (r.regs.filter fun y => y.1 != h).isEmpty = false := by
    obtain ⟨x, hx, hxh⟩ := ho
    simpa using ⟨x.1, ⟨x.2, hx⟩, hxh⟩
  simp only [registerAs, hk, hb, hne, beq_self_eq_true, Bool.true_or, if_true, Bool.false_and, Bool.or_self, Bool.false_eq_true, if_false]

/-- A key that is not the host's is a conflict for an action other than Register, unless it is ignored. -/
theorem registerAs_conflict {act : ResRegAct} (ha : act ≠ .register) (hk : r.key h = none ∨ (r.key h ≠ some ck ∧ c.e.cdw10.getLsbD 3 = false)) :
    registerAs act ck nk h c v r s = s.finish c.k stResConflict := by
  have hkey : ∀ x, r.key h = some x → ¬(x == ck || c.e.cdw10.getLsbD 3) = true := by
    intro x hx
    rcases hk with hk | ⟨hk, hie⟩
    · exact absurd (hk.symm.trans hx) (by simp)
    · rw [hie, Bool.or_false, beq_iff_eq]
      exact fun he => hk (hx.trans (congrArg some he))
  cases act with
  | register => exact absurd rfl ha
  | replace =>
    cases hx : r.key h with
    | none => simp only [registerAs, hx]
    | some x => simp only [registerAs, hx, if_neg (hkey x hx)]
  | unregister =>
    cases hx : r.key h with
    | none => simp only [registerAs, hx]
    | some x => simp only [registerAs, hx, if_neg (hkey x hx)]

end

/-! ### Acquire and Release -/

theorem resAcquire_refused {act : ResAcqAct} {ty : ResType} {ck pk : Nat}
    (hh : (s.ctlr c.ctl).hostId = none ∨ ((s.ctlr c.ctl).hostId = some h ∧ v.resv.key h ≠ some ck)) :
    resAcquire act ty ck pk c v s = s.finish c.k stResConflict := by
  rcases hh with hh | ⟨hh, hk⟩
  · simp only [resAcquire, hh]
  · simp only [resAcquire, hh, bne_iff_ne.mpr hk, if_true]

/-- An Acquire of a host that gives its own key. -/
theorem resAcquire_host {act : ResAcqAct} {ty : ResType} {ck pk : Nat} (hh : (s.ctlr c.ctl).hostId = some h) (hk : v.resv.key h = some ck) :
    resAcquire act ty ck pk c v s = match act with
      | .acquire =>
        if v.resv.typ.isNone then (setResv v { v.resv with typ := some ty, holder := some h } s).finish c.k stOk
        else if v.resv.holds h && v.resv.typ == some ty then s.finish c.k stOk
        else s.finish c.k stResConflict
      | .preempt => resPreempt false ty pk h c v s
      | .preemptAbort => resPreempt true ty pk h c v s := by
  simp only [resAcquire, hh, hk, bne_self_eq_false, Bool.false_eq_true, if_false] <;> rfl

/-- A Preempt that finds neither a reservation nor another registrant under the key. -/
theorem resPreempt_conflict {ab : Bool} {ty : ResType} {pk : Nat} (hp : pk ≠ 0) (hr : ∀ x ∈ v.resv.regs, x.1 ≠ h → x.2 ≠ pk)
    (ht : v.resv.typ = none) : resPreempt ab ty pk h c v s = s.finish c.k stResConflict := by
  have hgone : (v.resv.regs.filter fun x => x.1 != h && x.2 == pk) = [] := by
    rw [List.filter_eq_nil_iff]
    intro x hx hgone
    simp only [Bool.and_eq_true, bne_iff_ne, beq_iff_eq] at hgone
    exact hr x hx hgone.1 hgone.2
  have h0 : (pk == 0) = false := beq_eq_false_iff_ne.mpr hp
  simp only [resPreempt, ht, hgone, h0, Option.isSome_none, Bool.false_and, Bool.and_false, Bool.or_false, Bool.not_false,
    Bool.and_true, List.map_nil, List.isEmpty_nil, Bool.false_eq_true, if_false, if_true]

theorem resReleaseCmd_refused {act : ResRelAct} {ck : Nat}
    (hh : (s.ctlr c.ctl).hostId = none ∨ ((s.ctlr c.ctl).hostId = some h ∧ v.resv.key h ≠ some ck)) :
    resReleaseCmd act ck c v s = s.finish c.k stResConflict := by
  rcases hh with hh | ⟨hh, hk⟩
  · simp only [resReleaseCmd, hh]
  · simp only [resReleaseCmd, hh, bne_iff_ne.mpr hk, if_true]

section
variable {ck : Nat} (hh : (s.ctlr c.ctl).hostId = some h) (hk : v.resv.key h = some ck)
include hh hk

theorem resReleaseCmd_release : resReleaseCmd .release ck c v s =
    if !v.resv.holds h then s.finish c.k stOk
    else if v.resv.typ.map ResType.code != some (c.e.cdw10.toNat / 256 % 256) then s.finish c.k stField
    else (setResv v (resRelease v h v.resv s).1 (resRelease v h v.resv s).2).finish c.k stOk := by
  simp only [resReleaseCmd, hh, hk, bne_self_eq_false, Bool.false_eq_true, if_false]

theorem resReleaseCmd_clear : resReleaseCmd .clear ck c v s = (resNotify 3 v ((v.resv.regs.map fun x => x.1).filter (· != h)) (setResv v
    { v.resv with regs := [], typ := none, holder := none, gen := (v.resv.gen + 1) % 4294967296 } s)).finish c.k stOk := by
  simp only [resReleaseCmd, hh, hk, bne_self_eq_false, Bool.false_eq_true, if_false]

end

/-- A reservation that only its holder needs to know of is released in silence. -/
theorem resRelease_silent {ty : ResType} (ht : v.resv.typ = some ty) (hr : resRegistrants ty = false) :
    resRelease v h v.resv s = ({ v.resv with typ := none, holder := none }, s) := by
  simp only [resRelease, ht, hr, Bool.false_eq_true, if_false]

/-! ### Whom a reservation lets in -/

theorem resvAllows_holder {n : Ctl} {wr : Bool} {x : Nat} (hh : v.resv.holder = some x) (hid : (s.ctlr n).hostId = some x) :
    resvAllows n v wr s = true := by
  cases ht : v.resv.typ with
  | none => simp only [resvAllows, ht]
  | some t => simp only [resvAllows, ht, hh, hid, Option.isSome_some, beq_self_eq_true, Bool.and_true, Bool.true_or]

/-- A host other than the holder is let in by the type alone. -/
theorem resvAllows_other {n : Ctl} {wr : Bool} {t : ResType} (ht : v.resv.typ = some t) (hh : v.resv.holder ≠ (s.ctlr n).hostId) :
    resvAllows n v wr s = (resRegistrants t && v.resv.has (s.ctlr n).hostId || resWriteOnly t && !wr) := by
  have hb : (v.resv.holder == (s.ctlr n).hostId) = false := beq_eq_false_iff_ne.mpr hh
  simp only [resvAllows, ht, hb, Bool.and_false, Bool.false_or]

theorem resvAllows_registrant {n : Ctl} {wr : Bool} {t : ResType} {x : Nat} (ht : v.resv.typ = some t) (hr : resRegistrants t = true)
    (hid : (s.ctlr n).hostId = some x) (hreg : ∃ y ∈ v.resv.regs, y.1 = x) : resvAllows n v wr s = true := by
  have hhas : v.resv.has (some x) = true := by simpa [Resv.has] using hreg
  simp only [resvAllows, ht, hid, hr, hhas, Bool.and_self, Bool.or_true, Bool.true_or]

/-- Settles O56: each command's row, branch by branch. -/
theorem reservations : Obligations.Reservations := by
  unfold Obligations.Reservations
  intro k h c v ra aa la ty ck nk n wr s u r turn my key ptpl put up
  have hptpl : ∀ q, ptpl q = withPtpl c q := fun q => (withPtpl_eq c q).symm
  have hkey : (withPtpl c r).key h = key := withPtpl_key c r h
  have hk : ∀ {opc : Byte}, my opc → c.k = k := fun hb => cmd_k hb.1.1.1
  have hstart : ∀ {opc : Byte} {f : Cmd → Ns → State → State}, my opc → resStart opc k f s = f c v u :=
    fun hb => resStart_begins hb.1 hb.2.1 hb.2.2
  refine ⟨fun hb ht => next_congr (resStart_waits hb ht), fun hb ht => next_congr (resStart_waits hb ht),
    fun hb ht => next_congr (resStart_waits hb ht), fun hb ht => next_congr (resStart_waits hb ht), fun hb hh => ?noHost, fun hb hh => ?register,
    fun hb hh => ?refused, fun hb hh hc => ?acquire, fun ab hp hr ht => resPreempt_conflict hp hr ht, fun hb hh => ?releaseRefused,
    fun hb hh hc => ?release, fun hb => ?report, ?allows⟩
  case noHost =>
    obtain rfl := hk hb
    refine next_congr ((hstart hb).trans ?_)
    simp only [resRegister, show (u.ctlr c.ctl).hostId = none from hh]
  case register =>
    obtain rfl := hk hb
    have hexec : ∀ act, exec (.reservationRegister c.k act ck nk) s = .next (registerAs act ck.toNat nk.toNat h c v (withPtpl c r) u) :=
      fun act => next_congr ((hstart hb).trans (resRegister_host (s := u) hh))
    have hconflict : ∀ act, act ≠ .register → key = none ∨ (key ≠ some ck.toNat ∧ c.e.cdw10.getLsbD 3 = false) →
        registerAs act ck.toNat nk.toNat h c v (withPtpl c r) u = u.finish c.k stResConflict := fun act ha hn =>
      registerAs_conflict ha (by rwa [hkey])
    simp only [hexec, hptpl]
    refine ⟨fun hn => next_congr ((registerAs_new (hkey.trans hn)).trans ?_),
      fun hn => next_congr ((registerAs_again (hkey.trans hn)).trans (if_pos (beq_self_eq_true _))), fun hn hne => ?_,
      fun hn => next_congr ((registerAs_replace (hkey.trans hn)).trans ?_),
      fun hn => ⟨next_congr (hconflict _ (by decide) (Or.inl hn)), next_congr (hconflict _ (by decide) (Or.inl hn))⟩,
      fun hn hie => ⟨next_congr (hconflict _ (by decide) (Or.inr ⟨hn, hie⟩)), next_congr (hconflict _ (by decide) (Or.inr ⟨hn, hie⟩))⟩,
      fun hn hh ho => next_congr ((registerAs_unregister (hkey.trans hn) ?_ ?_).trans ?_)⟩
    · rw [withPtpl_regs]
      rfl
    · obtain ⟨x, hx⟩ := Option.ne_none_iff_exists'.mp hn
      refine next_congr ((registerAs_again (hkey.trans hx)).trans (if_neg fun he => hne ?_))
      rw [hx, beq_iff_eq.mp he]
    · rw [withPtpl_regs]
      rfl
    · rwa [withPtpl_holder]
    · rwa [withPtpl_regs]
    · rw [withPtpl_regs]
      rfl
  case refused =>
    obtain rfl := hk hb
    exact next_congr ((hstart hb).trans (resAcquire_refused (s := u) hh))
  case releaseRefused =>
    obtain rfl := hk hb
    exact next_congr ((hstart hb).trans (resReleaseCmd_refused (s := u) hh))
  case acquire =>
    obtain rfl := hk hb
    have hexec : ∀ act, exec (.reservationAcquire c.k act ty ck nk) s = .next (resAcquire act ty ck.toNat nk.toNat c v u) :=
      fun act => next_congr (hstart hb)
    simp only [hexec, resAcquire_host (s := u) hh hc]
    refine ⟨fun ht => next_congr (if_pos (by rw [ht]; rfl)), fun ht hho => next_congr ((if_neg ?_).trans (if_pos ?_)),
      fun ht hty => next_congr ((if_neg ?_).trans (if_neg ?_)), trivial, trivial⟩
    · rw [show v.resv.typ = some ty from ht]
      exact Bool.false_ne_true
    · simp only [Resv.holds, show v.resv.typ = some ty from ht, show v.resv.holder = some h from hho, beq_self_eq_true, Bool.true_or, Bool.and_self]
    · exact fun hn => ht (Option.isNone_iff_eq_none.mp hn)
    · rw [Bool.and_eq_true, beq_iff_eq]
      exact fun ⟨_, he⟩ => hty he
  case release =>
    obtain rfl := hk hb
    have hexec : ∀ act, exec (.reservationRelease c.k act ck) s = .next (resReleaseCmd act ck.toNat c v u) :=
      fun act => next_congr (hstart hb)
    simp only [hexec]
    have hrel := resReleaseCmd_release (s := u) hh hc
    refine ⟨fun hho => next_congr (hrel.trans (if_pos (by rw [hho]; rfl))), fun hho hty => next_congr (hrel.trans ((if_neg ?_).trans (if_pos ?_))),
      fun hho ht hcode hreg => next_congr (hrel.trans ((if_neg ?_).trans ((if_neg ?_).trans ?_))),
      next_congr (resReleaseCmd_clear (s := u) hh hc)⟩
    · rw [hho]
      decide
    · rw [bne_iff_ne]
      cases ht : v.resv.typ with
      | none => exact fun he => absurd he (by simp)
      | some x => exact fun he => hty x ht (Option.some.inj he)
    · rw [hho]
      decide
    · rw [show v.resv.typ = some ty from ht, Option.map_some, hcode]
      simp
    · rw [resRelease_silent ht hreg]
      rfl
  case report =>
    obtain rfl := hk hb
    exact ⟨fun h0 => next_congr ((hstart hb).trans (if_pos (by rw [h0]; rfl))), fun h0 => next_congr ((hstart hb).trans (if_neg (by rw [h0]; decide)))⟩
  case allows =>
    refine ⟨fun ht => by simp only [resvAllows, show v.resv.typ = none from ht], fun x hh hid => resvAllows_holder hh hid, fun ht hh => ?_, fun ht hh => ?_,
      fun x ht hid hreg => resvAllows_registrant ht rfl hid hreg⟩
    · rw [resvAllows_other ht hh]
      rfl
    · rw [resvAllows_other ht hh]
      exact Bool.true_and _

end Sys2Proof.Machine
end

section
/-! PROOFS. The commands of zoned namespaces (R326, R328, R350). -/

namespace Sys2Proof.Machine

variable {k : Nat} {c : Cmd} {v : Ns} {s : State}

/-! ### Writes of a zone -/

theorem startWrite_zoned (h : IoRuns k c v 0x01 true s) (hz : v.zoned = true) : startWrite k s =
    match v.zones[c.e.slba / zoneSize]? with
    | none => s.finish k stLbaRange
    | some z => match zoneRefuse v z (c.e.slba % zoneSize) c.e.nlb with
      | some st => s.finish k st
      | none => writeBuffers c c.e.nlb (zoneTake v (c.e.slba / zoneSize) c.e.nlb s) :=
  (ioStart_runs h).trans (if_neg (by rw [hz]; decide))

theorem startZeroes_zoned (h : IoRuns k c v 0x08 true s) (hz : v.zoned = true) : startZeroes k s =
    match v.zones[c.e.slba / zoneSize]? with
    | none => s.finish k stLbaRange
    | some z => match zoneRefuse v z (c.e.slba % zoneSize) c.e.nlb with
      | some st => s.finish k st
      | none => beginEffect c v [⟨c.e.slba, c.e.nlb, if c.e.cdw12.getLsbD 25 then 3 else 2, none,
          if piInserts v c.e then some (c.e.cdw15.toNat % 65536, refTag v c.e 0, v.pi != 3) else none⟩]
          (markStarted k (zoneTake v (c.e.slba / zoneSize) c.e.nlb s)) :=
  (ioStart_runs h).trans (if_neg (by rw [hz]; decide))

/-- An append at the write pointer of a zone that takes it. -/
def appendAt (k : Nat) (c : Cmd) (v : Ns) (b : Nat) (s : State) : State :=
  writeBuffers { c with ranges := [⟨b, c.e.nlb⟩] } c.e.nlb ((zoneTake v (c.e.slba / zoneSize) c.e.nlb s).modCmd k fun d =>
    { d with ranges := [⟨b, c.e.nlb⟩], dw0 := b % 4294967296, dw1 := b / 4294967296 })

theorem startAppend_runs (h : IoRuns k c v 0x7D true s) : startAppend k s =
    if c.e.slba % zoneSize != 0 then s.finish k stField
    else match v.zones[c.e.slba / zoneSize]? with
      | none => s.finish k stLbaRange
      | some z => match zoneRefuse v z z.wp c.e.nlb with
        | some st => s.finish k st
        | none => appendAt k c v (c.e.slba / zoneSize * zoneSize + z.wp) s :=
  ioStart_runs h

/-! ### Which zones take blocks, and the pointer -/

theorem zoneRefuse_offline {z : Zone} {o n : Nat} (h : z.st = 6) : zoneRefuse v z o n = some (sct 1 0xBB) :=
  if_pos (by rw [h]; rfl)

theorem zoneRefuse_full {z : Zone} {o n : Nat} (h : z.st = 4) : zoneRefuse v z o n = some (sct 1 0xB9) :=
  (if_neg (by rw [h]; decide)).trans (if_pos (by rw [h]; rfl))

/-- A zone that is neither offline nor full. -/
theorem zoneRefuse_usable {z : Zone} {o n : Nat} (h6 : z.st ≠ 6) (h4 : z.st ≠ 4) : zoneRefuse v z o n =
    if zoneSize < o + n then some (sct 1 0xB8)
    else if o != z.wp then some (sct 1 0xBC)
    else if z.st == 0 && decide (64 ≤ zoneActive v) then some (sct 1 0xBD)
    else if !z.isOpen && decide (64 ≤ zoneOpen v) && !(v.zones.any fun y => y.st == 1) then some (sct 1 0xBE)
    else none :=
  (if_neg fun h => h6 (beq_iff_eq.mp h)).trans (if_neg fun h => h4 (beq_iff_eq.mp h))

/-- A zone that takes blocks takes them at its pointer, within its size, and no 65th zone becomes active. -/
theorem zoneRefuse_none {z : Zone} {o n : Nat} (h : zoneRefuse v z o n = none) :
    o = z.wp ∧ o + n ≤ zoneSize ∧ (z.st = 0 → zoneActive v < 64) := by
  unfold zoneRefuse at h
  split_ifs at h with _ _ hsize hptr hactive _
  refine ⟨by simpa using hptr, not_lt.mp hsize, fun h0 => ?_⟩
  simpa [h0] using hactive

theorem State.ns_modNs_same {f : Ns → Ns} (hn : s.ns v.nsid = some v) (hk : ∀ x, (f x).nsid = x.nsid) :
    (s.modNs v.nsid f).ns v.nsid = some (f v) := by
  have hp : ((fun x : Ns => x.nsid == v.nsid) ∘ fun x => if x.nsid == v.nsid then f x else x) = fun x => x.nsid == v.nsid := by
    funext x
    simp only [Function.comp]
    split <;> simp [hk]
  show (s.host.nss.map fun x => if x.nsid == v.nsid then f x else x).find? (fun x => x.nsid == v.nsid) = _
  rw [List.find?_map, hp, show s.host.nss.find? (fun x => x.nsid == v.nsid) = some v from hn, Option.map_some, beq_self_eq_true, if_pos rfl]

theorem zoneTake_open {z : Zone} {i n : Nat} (hz : v.zones[i]? = some z) (ho : z.isOpen = true) : zoneTake v i n s =
    s.modZone v.nsid i fun z => { z with wp := z.wp + n, st := if zoneSize ≤ z.wp + n then 4 else if z.st == 2 then 2 else 1 } := by
  simp only [zoneTake, hz, Option.any_some, ho, if_true]

/-! ### Zone Management -/

/-- What ends an action of Zone Management once the zones have changed. -/
def zoneEnds (k : Nat) (a : ZoneAct) (c : Cmd) (v : Ns) (t : State) : State :=
  let es := mkEntries c v (zsaOf a) [⟨c.e.slba / zoneSize * zoneSize, zoneSize, 4, none, none⟩] t
  if !c.wr then t.finish k stOk
  else if journalled v t then flyPush true es (t.modCmd k fun d => { d with phase := 3, ents := es.length })
  else mediaDone { c with phase := 4 } v (t.modCmd k fun d => { d with phase := 4 })

/-- What an action makes of zone i. -/
def zoneActAt (v : Ns) (a : ZoneAct) (i : Nat) : Except Nat Zone :=
  match v.zones[i]? with
  | some z => zoneAct v a z
  | none => .error stLbaRange

/-- Zone Management Send on a list of zones: the first error ends it. -/
def zoneSendOn (k : Nat) (a : ZoneAct) (c : Cmd) (v : Ns) (is : List Nat) (s : State) : State :=
  match (is.map (zoneActAt v a)).findSome? fun x => match x with | .error st => some st | .ok _ => none with
  | some st => s.finish k st
  | none => zoneEnds k a c v ((is.zip (is.map (zoneActAt v a))).foldl (fun u x => match x.2 with | .ok z => zoneDone v a x.1 z u | .error _ => u)
      (markStarted k s))

theorem startZoneSend_runs {a : ZoneAct} (h : IoRuns k c v 0x79 true s) : startZoneSend k a s =
    if c.e.zsa != zsaOf a then s
    else zoneSendOn k a c v (if c.e.cdw13.getLsbD 8 then (List.range v.zones.length).filter fun i => (v.zones[i]?).any (zoneSelected a)
      else [c.e.slba / zoneSize]) s :=
  ioStart_runs h

theorem zoneSendOn_error {a : ZoneAct} {i e : Nat} (h : zoneActAt v a i = .error e) : zoneSendOn k a c v [i] s = s.finish k e := by
  simp only [zoneSendOn, List.map_cons, List.map_nil, h, List.findSome?_cons]

/-- An action that every zone of the list takes is carried out zone by zone. -/
theorem zoneSendOn_ok {a : ZoneAct} {is : List Nat} (h : ∀ j ∈ is, ∃ w, zoneActAt v a j = .ok w) : zoneSendOn k a c v is s =
    zoneEnds k a c v (is.foldl (fun u j => match zoneActAt v a j with | .ok z => zoneDone v a j z u | .error _ => u) (markStarted k s)) := by
  have hnone : ((is.map (zoneActAt v a)).findSome? fun x => match x with | .error st => some st | .ok _ => none) = none := by
    rw [List.findSome?_eq_none_iff]
    intro x hx
    obtain ⟨j, hj, rfl⟩ := List.mem_map.mp hx
    obtain ⟨w, hw⟩ := h j hj
    rw [hw]
  have hzip : is.zip (is.map (zoneActAt v a)) = is.map fun j => (j, zoneActAt v a j) := by
    simpa using List.zip_map' (f := id) (g := zoneActAt v a) (l := is)
  simp only [zoneSendOn, hnone, hzip, List.foldl_map]

/-! ### What an action makes of a zone -/

theorem zoneAct_reset_ok {z y : Zone} (h : zoneAct v .reset z = .ok y) : y = ⟨0, 0⟩ ∧ z.st ≠ 6 := by
  simp only [zoneAct] at h
  split_ifs at h with h6
  exact ⟨(Except.ok.inj h).symm, by simpa using h6⟩

theorem zoneAct_finish_ok {z y : Zone} (h : zoneAct v .finish z = .ok y) : y = { z with st := 4 } ∧ z.st ≠ 6 := by
  simp only [zoneAct] at h
  split_ifs at h with h6
  exact ⟨(Except.ok.inj h).symm, by simpa using h6⟩

theorem zoneAct_close_ok {z y : Zone} (h : zoneAct v .close z = .ok y) : y = { z with st := 3 } ∧ z.active = true := by
  simp only [zoneAct] at h
  split_ifs at h with ha
  exact ⟨(Except.ok.inj h).symm, ha⟩

theorem zoneAct_open_ok {z y : Zone} (h : zoneAct v .opn z = .ok y) : y.st = 2 ∧ y.wp = z.wp ∧ z.st ≠ 4 ∧ z.st ≠ 6 := by
  simp only [zoneAct] at h
  split_ifs at h with h2 h46 _ _
  · obtain rfl := Except.ok.inj h
    have := beq_iff_eq.mp h2
    exact ⟨this, rfl, by omega, by omega⟩
  · obtain rfl := Except.ok.inj h
    simp only [Bool.or_eq_true, beq_iff_eq, not_or] at h46
    exact ⟨rfl, rfl, h46⟩

/-- Settles O57: each command's row, branch by branch. -/
theorem zoneCommands : Obligations.ZoneCommands := by
  unfold Obligations.ZoneCommands
  intro k i st o n c v z y a e s u zi zo ends
  have hends : ∀ t, zoneEnds k a c v t = ends t := fun t => by cases hw : c.wr <;> simp only [zoneEnds, ends, hw] <;> rfl
  refine ⟨fun h hz => ⟨fun hn => ?_, fun hn hr => ?_, fun hn hr => ?_⟩, fun h hz hn => ⟨fun hr => ?_, fun hr => ?_⟩,
    fun h => ⟨fun h0 => ?_, fun h0 hn => ?_, fun h0 hn => ⟨fun hr => ?_, fun hr => ?_⟩⟩,
    ⟨zoneRefuse_offline, zoneRefuse_full, fun h6 h4 hs => ?_, fun h6 h4 hs hp => ?_, zoneRefuse_none⟩, fun hn hi ho => ?pointer,
    fun h => ⟨fun hz => ?_, fun hz hall => ?one, fun hz hall => ?all⟩, fun h => ?report,
    zoneAct_reset_ok, zoneAct_finish_ok, zoneAct_close_ok, zoneAct_open_ok, rfl⟩
  · exact next_congr ((startWrite_zoned h hz).trans (by rw [hn]))
  · exact next_congr ((startWrite_zoned h hz).trans (by rw [hn]; dsimp only; rw [hr]))
  · exact next_congr ((startWrite_zoned h hz).trans (by rw [hn]; dsimp only; rw [hr]))
  · exact next_congr ((startZeroes_zoned h hz).trans (by rw [hn]; dsimp only; rw [hr]))
  · exact next_congr ((startZeroes_zoned h hz).trans (by rw [hn]; dsimp only; rw [hr]))
  · exact next_congr ((startAppend_runs h).trans (if_pos (bne_iff_ne.mpr h0)))
  · exact next_congr ((startAppend_runs h).trans ((if_neg fun hne => bne_iff_ne.mp hne h0).trans (by rw [hn])))
  · exact next_congr ((startAppend_runs h).trans ((if_neg fun hne => bne_iff_ne.mp hne h0).trans (by rw [hn]; dsimp only; rw [hr])))
  · exact next_congr ((startAppend_runs h).trans ((if_neg fun hne => bne_iff_ne.mp hne h0).trans (by rw [hn]; dsimp only; rw [hr]; rfl)))
  · exact (zoneRefuse_usable h6 h4).trans (if_pos hs)
  · exact (zoneRefuse_usable h6 h4).trans ((if_neg (not_lt.mpr hs)).trans (if_pos (bne_iff_ne.mpr hp)))
  case pointer =>
    refine ⟨_, (congrArg (fun t => State.ns t v.nsid) (zoneTake_open hi ho)).trans (State.ns_modNs_same hn fun _ => rfl), ?_, fun j hj => ?_⟩
    · rw [List.getElem?_mapIdx, hi]
      simp
    · rw [List.getElem?_mapIdx]
      simp [beq_eq_false_iff_ne.mpr hj]
  · exact next_congr ((startZoneSend_runs h).trans (if_pos (bne_iff_ne.mpr hz)))
  case one =>
    have hexec : exec (.zoneManagementSend k a) s = .next (zoneSendOn k a c v [zi] s) :=
      next_congr ((startZoneSend_runs h).trans ((if_neg fun hne => bne_iff_ne.mp hne hz).trans (by rw [hall]; rfl)))
    rw [hexec]
    refine ⟨fun hn => next_congr (zoneSendOn_error ?_), fun hn he => next_congr (zoneSendOn_error ?_), fun hn hy => ?_⟩
    · simp only [zoneActAt, hn]
    · simp only [zoneActAt, hn, he]
    · have hy : zoneActAt v a zi = .ok y := by simp only [zoneActAt, hn, hy]
      refine next_congr ((zoneSendOn_ok (by simpa using ⟨y, hy⟩)).trans ((hends _).trans ?_))
      simp only [List.foldl_cons, List.foldl_nil, hy]
      rfl
  case all =>
    have hexec : exec (.zoneManagementSend k a) s =
        .next (zoneSendOn k a c v ((List.range v.zones.length).filter fun i => (v.zones[i]?).any (zoneSelected a)) s) :=
      next_congr ((startZoneSend_runs h).trans ((if_neg fun hne => bne_iff_ne.mp hne hz).trans (by rw [hall]; rfl)))
    rw [hexec]
    refine ⟨fun hnone => ?_, fun hok => next_congr ((zoneSendOn_ok fun j hj => ?_).trans ((hends _).trans ?_))⟩
    · have hnil : ((List.range v.zones.length).filter fun i => (v.zones[i]?).any (zoneSelected a)) = [] := by
        rw [List.filter_eq_nil_iff]
        intro j hj
        rw [Option.any_eq_true]
        exact fun ⟨x, hx, hsel⟩ => Bool.eq_false_iff.mp (hnone j x (List.mem_range.mp hj) hx) hsel
      rw [hnil]
      exact next_congr (hends u)
    · obtain ⟨-, hsel⟩ := List.mem_filter.mp hj
      obtain ⟨x, hx, -⟩ := (Option.any_eq_true _ _).mp hsel
      obtain ⟨w, hw⟩ := hok j hj x hx
      exact ⟨w, by simp only [zoneActAt, hx, hw]⟩
    · refine congrArg ends (List.foldl_ext _ _ _ fun t j hj => ?_)
      simp only [zoneActAt]
      cases v.zones[j]? <;> rfl
  case report =>
    intro all
    refine next_congr ((ioStart_runs h).trans ?_)
    simp only [all, beq_iff_eq]
    rfl

end Sys2Proof.Machine
end

section
/-! PROOFS. The work ring of a channel: taking descriptors, finished items, destage (R23, R65, R66, R124, R132 to R138, R168 to R171, R371). -/

namespace Sys2Proof.Machine

variable {n : Ch} {i : Nat} {it : Item} {s : State}

/-! ### The checks of a descriptor (R65) -/

section
variable {d : Desc}

theorem descReason_unsealed (h : descSealed d = false) : descReason n d s = 0x09 :=
  if_pos (by rw [h]; rfl)

theorem descReason_noPath (h : descSealed d = true) (h0 : descEnMask d = 0) : descReason n d s = 0x0A :=
  (if_neg (by rw [h]; decide)).trans (if_pos h0)

theorem descReason_oldMap (h : descSealed d = true) (h0 : descEnMask d ≠ 0) (hg : descGen d ≠ s.get (F.SCHED_MAP_GEN_GEN n)) :
    descReason n d s = 0x08 :=
  (if_neg (by rw [h]; decide)).trans ((if_neg h0).trans (if_pos hg))

/-- The checks against the map, of a descriptor that is sealed, names a path and is of this map. -/
def mapReason (n : Ch) (d : Desc) (z : ZoneTable) (s : State) : Nat :=
  if (descPaths d).any fun p => descSurf d p % 4 != p.val then 0x01
  else if (descPaths d).any fun p => decide (z.surfaces ≤ descSurf d p) then 0x02
  else if (descPaths d).any fun p => decide (z.tracksOf (descSurf d p) ≤ descTrack d p) then 0x03
  else if (descPaths d).any fun p => z.zoneOf (descSurf d p) (descTrack d p) != descZone d then 0x04
  else if 5120 < descSpread n d s then 0x05
  else if z.spt (descZone d) ≤ descSlot d then 0x06
  else if (descPaths d).any fun p => isSkipped (s.chan n) z (descSlotId d p) then 0x07
  else 0

theorem descReason_map {z : ZoneTable} (hz : (s.chan n).zt = some z) : descReason n d s =
    if !descSealed d then 0x09 else if descEnMask d = 0 then 0x0A
    else if descGen d ≠ s.get (F.SCHED_MAP_GEN_GEN n) then 0x08 else mapReason n d z s := by
  simp only [descReason, hz] <;> rfl

/-- A descriptor fits the map when every path's place is one of the map. -/
theorem mapReason_fits {z : ZoneTable} : mapReason n d z s = 0 ∨ mapReason n d z s = 7 ↔
    (∀ x ∈ descPaths d, descSurf d x % 4 = x.val ∧ descSurf d x < z.surfaces ∧ descTrack d x < z.tracksOf (descSurf d x) ∧
      z.zoneOf (descSurf d x) (descTrack d x) = descZone d) ∧ descSpread n d s ≤ 20 * 256 ∧ descSlot d < z.spt (descZone d) := by
  simp only [mapReason, List.any_eq_true, bne_iff_ne, decide_eq_true_eq]
  refine ⟨fun h => ?_, fun ⟨hx, hspread, hslot⟩ => ?_⟩
  · split_ifs at h with h1 h2 h3 h4 h5 h6
    iterate 6 exact absurd h (by decide)
    all_goals
      push Not at h1 h2 h3 h4
      exact ⟨fun x hx => ⟨h1 x hx, h2 x hx, h3 x hx, h4 x hx⟩, not_lt.mp h5, not_le.mp h6⟩
  · rw [if_neg fun ⟨x, hp, h⟩ => h (hx x hp).1, if_neg fun ⟨x, hp, h⟩ => not_lt.mpr h (hx x hp).2.1,
      if_neg fun ⟨x, hp, h⟩ => not_lt.mpr h (hx x hp).2.2.1, if_neg fun ⟨x, hp, h⟩ => h (hx x hp).2.2.2, if_neg (show ¬5120 < descSpread n d s from not_lt.mpr hspread),
      if_neg (not_le.mpr hslot)]
    split
    · exact Or.inr rfl
    · exact Or.inl rfl

/-- The last check: reason 7 when a path's slot is skipped. -/
theorem mapReason_skipped {z : ZoneTable} : (mapReason n d z s = 7 → ∃ x ∈ descPaths d, isSkipped (s.chan n) z (descSlotId d x) = true) ∧
    (mapReason n d z s = 0 → ∀ x ∈ descPaths d, isSkipped (s.chan n) z (descSlotId d x) = false) := by
  unfold mapReason
  refine ⟨fun h => ?_, fun h => ?_⟩ <;> split_ifs at h with _ _ _ _ _ _ h7
  iterate 6 cases h
  · exact List.any_eq_true.mp h7
  · simpa using h7

theorem descReason_fits {z : ZoneTable} (hz : (s.chan n).zt = some z) : (descReason n d s = 0 ∨ descReason n d s = 7) ↔
    descSealed d = true ∧ descEnMask d ≠ 0 ∧ descGen d = s.get (F.SCHED_MAP_GEN_GEN n) ∧ (mapReason n d z s = 0 ∨ mapReason n d z s = 7) := by
  rw [descReason_map hz]
  split_ifs with hseal hen hgen
  · simp [(Bool.not_eq_true' _).mp hseal]
  · simp [hen]
  · simp [hgen]
  · simp [hen, not_not.mp hgen, (Bool.not_eq_false' ..).mp (Bool.eq_false_iff.mpr hseal)]

/-- A descriptor that fits was judged by the last check. -/
theorem descReason_last {z : ZoneTable} (hz : (s.chan n).zt = some z) (h : descReason n d s = 0 ∨ descReason n d s = 7) :
    descReason n d s = mapReason n d z s := by
  obtain ⟨hseal, hen, hgen, -⟩ := (descReason_fits hz).mp h
  rw [descReason_map hz, hseal, if_neg (by decide), if_neg hen, if_neg (not_not.mpr hgen)]

end

/-! ### Taking a descriptor (R65, R66, R132, R168) -/

/-- An item of the ring that may be taken now. -/
theorem schedTake_item (h : (s.chan n).sched.ring[i]? = some it) : schedTake n i s =
    if !chanReady n s || itemBlocked n i it s then s
    else if it.taken then launchNext n s
    else if urgentAhead n it s then s
    else if destageHeld n it s then s
    else if descReason n it.desc s ≠ 0 then rejectDesc n it (descReason n it.desc s) s
    else if descCmd it.desc = 0x02 then
      if !(barredPaths n it.desc s).isEmpty then
        followItem n it (if ((descPaths it.desc).filter fun p => !(barredPaths n it.desc s).contains p).isEmpty || it.kind == .hostWrite then []
          else [subItem it 0x02 ((descPaths it.desc).filter fun p => !(barredPaths n it.desc s).contains p) (descTag it.desc)])
          (writeFail n it (barredPaths n it.desc s) false s)
      else if (descPaths it.desc).any fun p => !s.bit (F.CTL_RROSTAT_CONV n) (descSurf it.desc p) then learnHeads n it.desc s
      else if (descPaths it.desc).any (fun p => resCode it p == 0x1E) && !s.flag (F.MOT_STAT_IN_TOL n) then s
      else choose n it s
    else choose n it s := by
  simp only [schedTake, h]

theorem schedTake_idle (h : (s.chan n).sched.ring[i]? = none ∨ chanReady n s = false) : schedTake n i s = s := by
  cases hi : (s.chan n).sched.ring[i]? with
  | none => simp only [schedTake, hi]
  | some it =>
    refine (schedTake_item hi).trans (if_pos ?_)
    rw [h.resolve_left (by rw [hi]; simp)]
    rfl

theorem schedTake_held (hi : (s.chan n).sched.ring[i]? = some it) (ht : it.taken = false)
    (hh : urgentAhead n it s = true ∨ destageHeld n it s = true) : schedTake n i s = s := by
  rw [schedTake_item hi]
  split
  · rfl
  · rw [ht, if_neg Bool.false_ne_true]
    split
    · rfl
    · next hu => rw [if_pos (hh.resolve_left hu)]

/-- Item `it` of the ring stands first: nothing holds it back. -/
structure Takes (n : Ch) (i : Nat) (it : Item) (s : State) : Prop where
  ring : (s.chan n).sched.ring[i]? = some it
  ready : chanReady n s = true
  unblocked : itemBlocked n i it s = false
  fresh : it.taken = false
  urgent : urgentAhead n it s = false
  destage : destageHeld n it s = false

theorem Takes.schedTake_eq (h : Takes n i it s) : schedTake n i s =
    if descReason n it.desc s ≠ 0 then rejectDesc n it (descReason n it.desc s) s
    else if descCmd it.desc = 0x02 then
      if !(barredPaths n it.desc s).isEmpty then
        followItem n it (if ((descPaths it.desc).filter fun p => !(barredPaths n it.desc s).contains p).isEmpty || it.kind == .hostWrite then []
          else [subItem it 0x02 ((descPaths it.desc).filter fun p => !(barredPaths n it.desc s).contains p) (descTag it.desc)])
          (writeFail n it (barredPaths n it.desc s) false s)
      else if (descPaths it.desc).any fun p => !s.bit (F.CTL_RROSTAT_CONV n) (descSurf it.desc p) then learnHeads n it.desc s
      else if (descPaths it.desc).any (fun p => resCode it p == 0x1E) && !s.flag (F.MOT_STAT_IN_TOL n) then s
      else choose n it s
    else choose n it s := by
  obtain ⟨hi, hr, ho, hf, hu, hd⟩ := h
  rw [schedTake_item hi, hr, ho, hf, hu, hd]
  rfl

/-- The record of a rejection (R66). -/
def rejected (n : Ch) (r : Nat) (s : State) : State :=
  (if s.flag (F.SCHED_DESC_REJ_VALID n) then s
    else ((s.set (F.SCHED_DESC_REJ_REASON n) r).set (F.SCHED_DESC_REJ_VALID n) 1).set (F.SCHED_DESC_REJ_COUNT n) 0).inc (F.SCHED_DESC_REJ_COUNT n)

/-- No ladder waits for an item that is none of a ladder. -/
theorem find_reread_none (hk : it.kind ≠ .ladder) :
    ((s.chan n).sched.ladders.find? fun l => it.kind == .ladder && l.desc == it.desc) = none := by
  rw [List.find?_eq_none]
  intro l _
  rw [beq_eq_false_iff_ne.mpr hk]
  exact Bool.false_ne_true

theorem rejectDesc_stale {r : Nat} (hr : r = 7 ∨ r = 8) (hk : it.kind ≠ .ladder) :
    rejectDesc n it r s = rebuildItem n it (rejected n r s) := by
  have hb : ¬(it.kind == .ladder) = true := fun h => hk (beq_iff_eq.mp h)
  simp only [rejectDesc, find_reread_none hk, if_pos hr, if_neg hb] <;> rfl

theorem rejectDesc_host {r : Nat} (h7 : r ≠ 7) (h8 : r ≠ 8) (hk : it.kind = .hostRead ∨ it.kind = .hostWrite) (hst : it.stripe = none) :
    rejectDesc n it r s = ((removeItem n it ((rejected n r s).raise (chSrc n 0) 0xFFFF r)).each it.cmds fun x u => endItem x u).each it.cmds
      fun x u => failCmd x stDescriptor u := by
  have hladder : it.kind ≠ .ladder := by rcases hk with h | h <;> rw [h] <;> decide
  have hspec : (it.kind == .spec) = false := by rcases hk with h | h <;> rw [h] <;> rfl
  have hdest : (it.kind == .destage) = false := by rcases hk with h | h <;> rw [h] <;> rfl
  simp only [rejectDesc, find_reread_none hladder, if_neg (not_or.mpr ⟨h7, h8⟩), hspec, hdest, itemEnded, hst, Bool.false_eq_true, if_false] <;> rfl

theorem launch_plain (hk : it.kind ≠ .ladder) (hl : it.kind ≠ .learn) : launch n it s =
    (startSeek n it.desc 0 (ctlEng n s).seek.isSome
      (if (ctlEng n s).seek.isSome = true ∧ (s.servo n).waitOn = 0 then
        (s.modSched n fun y => { y with ring := modItem (descTag it.desc) (fun j => { j with taken := true, sought := true }) y.ring }).inc
          (F.SCHED_SPECSTAT_SSEEK_REDIR n)
      else s.modSched n fun y => { y with ring := modItem (descTag it.desc) (fun j => { j with taken := true, sought := true }) y.ring })).each
      (descPaths it.desc) fun x u => if (u.stit n x).holds (descTag it.desc) then u else handDesc n it.desc x u := by
  have hb : (it.kind == .ladder) = false := beq_eq_false_iff_ne.mpr hk
  have hlb : (it.kind == .learn) = false := beq_eq_false_iff_ne.mpr hl
  simp only [launch, rereadOffset, hb, hlb, Bool.false_eq_true, if_false, Bool.and_eq_true, beq_iff_eq]

/-! ### Items that have ended (R133 to R138, R168) -/

/-- What follows every finished item. -/
def itemAfter (n : Ch) (it : Item) (t : State) : State := beginSteps n (launchNext n (frontDown n it (squeezeChecks n it t)))

theorem itemFinish_absent {tag : W16} (h : findItem tag (s.chan n).sched.ring = none) : itemFinish n tag s = s := by
  simp only [itemFinish, h]

theorem itemFinish_runs {tag : W16} (h : findItem tag (s.chan n).sched.ring = some it)
    (hr : it.taken = false ∨ ∃ x ∈ descPaths it.desc, it.ended[x] = false) : itemFinish n tag s = s := by
  simp only [itemFinish, h]
  refine if_pos ?_
  simpa [List.any_eq_true] using hr

/-- What the end of an item brings, by its command. -/
def itemEnd (n : Ch) (it : Item) (s : State) : State :=
  match descCmd it.desc with
  | 0x01 => readItemEnd n it s
  | 0x02 => writeItemEnd n it s
  | 0x03 => verifyItemEnd n it s
  | _ => if it.kind == .learn then scanItemEnd n it (removeItem n it s) else removeItem n it s

theorem itemEnd_formatter (h : 3 < descCmd it.desc) :
    itemEnd n it s = if it.kind == .learn then scanItemEnd n it (removeItem n it s) else removeItem n it s := by
  unfold itemEnd
  split
  iterate 3 omega
  rfl

/-- An item that every path has ended. -/
theorem itemFinish_ended {tag : W16} (h : findItem tag (s.chan n).sched.ring = some it) (ht : it.taken = true)
    (he : ∀ x ∈ descPaths it.desc, it.ended[x] = true) : itemFinish n tag s = itemAfter n it (
      if it.again || (descPaths it.desc).any fun p => it.abt[p] then
        if !it.cmds.isEmpty || !(it.kind == .hostRead || it.kind == .hostWrite || it.kind == .verify) then spliceItem n tag [againItem it] s
        else if it.kind == .spec then specDrop n it s else removeItem n it s
      else itemEnd n it s) := by
  have hn : ¬((!it.taken || (descPaths it.desc).any fun p => !it.ended[p]) = true) := by
    simpa [ht] using he
  simp only [itemFinish, h, if_neg hn] <;> rfl

theorem readItemEnd_host (hk : it.kind = .hostRead) (hst : it.stripe = none) (hc : ∀ x ∈ descPaths it.desc, resCode it x ≠ 6) :
    readItemEnd n it s = (removeItem n it s).each it.cmds fun x u => endItem x u := by
  have hnil : ((descPaths it.desc).filter fun p => resCode it p == 6) = [] := by
    rw [List.filter_eq_nil_iff]
    exact fun x hx h => hc x hx (beq_iff_eq.mp h)
  have hs : ∀ f : Pa → State → State, s.each [] f = s := fun _ => rfl
  simp only [readItemEnd, hk, hnil, hs, ite_self, followItem, itemEnded, hst] <;> rfl

/-! ### Commands from outside the dispatcher (R169, R170) -/

theorem issueDesc_taken {ok : Nat → Bool} {d : Desc} {kind : ItemKind} (hr : chanReady n s = true) (hf : findItem (descTag d) (s.chan n).sched.ring = none)
    (ho : ok (descCmd d) = true) : issueDesc n ok d kind s = s.modSched n fun c => { c with ring := c.ring ++ [Item.new d kind []
      (Vector.ofFn fun p => if descEn d p then (slotChanBlock (s.chan n) (descSlotId d p)).bind fun b => ownerOf n b s else none) 3] } :=
  if_neg (by simp [hr, hf, ho])

theorem issueDesc_refused {ok : Nat → Bool} {d : Desc} {kind : ItemKind} (ho : ok (descCmd d) = false) : issueDesc n ok d kind s = s :=
  if_pos (by simp [ho])

/-! ### What becomes of a written sector (R134 to R136), and destage (R23) -/

theorem writeEndOf_written {p : Pa} (h : resCode it p = 0x10) : writeEndOf n it p s = .written :=
  if_pos h

theorem writeEndOf_dropped {p : Pa} (h : resCode it p = 0x1C ∨ resCode it p = 0x1D) : writeEndOf n it p s = .drop := by
  rcases h with h | h <;> simp [writeEndOf, h]

theorem writeEndOf_retried {p : Pa} (h : resCode it p = 0x17 ∨ resCode it p = 0x1E) : writeEndOf n it p s = .retry := by
  rcases h with h | h <;> simp [writeEndOf, h]

theorem writeEndOf_mismatch {p : Pa} (h : resCode it p = 0x16) : writeEndOf n it p s = if it.kind == .destage then .retry else .drop := by
  simp [writeEndOf, h]

theorem writeEndOf_parked {p : Pa} (h : resCode it p = 0x14) : writeEndOf n it p s = if it.paRetry[p] then .fail else .retry := by
  simp [writeEndOf, h]

theorem writeEndOf_other {p : Pa} (h : resCode it p ∉ [0x10, 0x1C, 0x1D, 0x16, 0x17, 0x1E, 0x14]) :
    writeEndOf n it p s = if it.retry[p] < max 1 (s.inForce (F.AFE_WRGATE_WR_RETRY n)) then .retry else .fail := by
  simp only [List.mem_cons, List.not_mem_nil, or_false, not_or] at h
  obtain ⟨h10, h1c, h1d, h16, h17, h1e, h14⟩ := h
  simp only [writeEndOf, h10, h1c, h1d, h16, h17, h1e, h14, or_self, if_false]

theorem verifies_iff (hv : it.vfail = Vector.replicate 4 0) (hk : it.kind ≠ .rewrite) : verifies n it s = true ↔
    s.inForce (F.AFE_WRGATE_VFY_MODE n) = 1 ∨ (s.inForce (F.AFE_WRGATE_VFY_MODE n) ≠ 2 ∧ descWverify it.desc = true) := by
  have hb : (it.kind == .rewrite) = false := beq_eq_false_iff_ne.mpr hk
  have hf : (it.vfail.toList.any fun v => decide (0 < v)) = false := by rw [hv]; rfl
  simp only [verifies, hb, hf, Bool.false_or]
  split
  · next h1 => simp [h1]
  · next h2 => simp [h2]
  · next h1 h2 => exact ⟨fun hw => Or.inr ⟨h2, hw⟩, fun h => h.elim (fun h => absurd h h1) And.right⟩

/-- Settles O58: each command's row, branch by branch. -/
theorem schedulerRows : Obligations.SchedulerRows := by
  unfold Obligations.SchedulerRows
  intro n p i k it d z target tag s c r ps
  refine ⟨⟨descReason_unsealed, descReason_noPath, descReason_oldMap, fun hz => ?fits, fun hz h0 => ?clear, fun hz h7 => ?skipped⟩,
    fun h => next_congr (schedTake_idle h), fun hi hb => next_congr ((schedTake_item hi).trans (if_pos (by rw [hb]; simp))),
    fun hi hr hb ht => next_congr ((schedTake_item hi).trans ((if_neg (by rw [hr, hb]; decide)).trans (if_pos ht))),
    fun hi ht hh => next_congr (schedTake_held hi ht hh), fun hi hr hb ht hu hd => ?take, rfl, fun hk hl => launch_plain hk hl, ?finished, ?writeEnd,
    verifies_iff, ?destage, fun hr he hring hl => next_congr (if_neg ?seek), fun h => next_congr (if_pos ?noSeek), fun hr hf => ?formatter⟩
  case fits =>
    rw [descReason_fits hz, mapReason_fits]
  case clear => exact mapReason_skipped.2 (descReason_last hz (Or.inl h0) ▸ h0)
  case skipped => exact mapReason_skipped.1 (descReason_last hz (Or.inr h7) ▸ h7)
  case take =>
    intro rej taken go
    have htakes : Takes n i it s := ⟨hi, hr, hb, ht, hu, hd⟩
    have hchoose : choose n it s = go := rfl
    rw [show exec (.schedTakeDescriptor n i) s = .next _ from next_congr htakes.schedTake_eq]
    refine ⟨fun h78 hk => next_congr ((if_pos ?_).trans (rejectDesc_stale h78 hk)),
      fun h0 h7 h8 hk hst => next_congr ((if_pos h0).trans (rejectDesc_host h7 h8 hk hst)),
      fun h0 hcmd => next_congr ((if_neg (not_not.mpr h0)).trans ((if_neg hcmd).trans hchoose)), fun h0 hcmd => ?_⟩
    · show r ≠ 0
      omega
    · rw [if_neg (not_not.mpr h0), if_pos hcmd]
      have hfree : barredPaths n it.desc s = [] → ¬(!(barredPaths n it.desc s).isEmpty) = true := fun h => by rw [h]; decide
      refine ⟨fun hbar hconv => next_congr ((if_neg (hfree hbar)).trans (if_pos ?_)),
        fun hbar hconv hrot htol => next_congr ((if_neg (hfree hbar)).trans ((if_neg ?_).trans (if_pos ?_))),
        fun hbar hconv hrot => next_congr ((if_neg (hfree hbar)).trans ((if_neg ?_).trans ((if_neg ?_).trans hchoose))),
        fun hbar hk => next_congr ((if_pos ?_).trans ?_)⟩
      · simpa [List.any_eq_true] using hconv
      · simpa [List.any_eq_true] using hconv
      · rw [htol, Bool.not_false, Bool.and_true, List.any_eq_true]
        obtain ⟨x, hx, h1e⟩ := hrot
        exact ⟨x, hx, beq_iff_eq.mpr h1e⟩
      · simpa [List.any_eq_true] using hconv
      · rw [Bool.and_eq_true, List.any_eq_true]
        rintro ⟨⟨x, hx, h1e⟩, htol⟩
        rcases hrot with hrot | hrot
        · exact hrot x hx (beq_iff_eq.mp h1e)
        · rw [hrot] at htol
          exact Bool.false_ne_true htol
      · simpa using hbar
      · rw [if_pos (by rw [hk]; simp)]
  case finished =>
    intro after fin
    have hexec : exec (.workItemFinished n tag) s = .next (fin (itemFinish n tag s)) := rfl
    rw [hexec]
    refine ⟨fun hn => next_congr (congrArg fin (itemFinish_absent hn)), fun hi hr => next_congr (congrArg fin (itemFinish_runs hi hr)), fun hi ht he => ?_⟩
    rw [itemFinish_ended hi ht he]
    refine ⟨fun hag hc => next_congr (congrArg (fun t => fin (after t)) ?_), fun hag habt => ?_⟩
    · refine (if_pos ?_).trans (if_pos ?_)
      · simpa [List.any_eq_true] using hag
      · simp [hc]
    · rw [if_neg (by simpa [hag] using habt)]
      refine ⟨fun hcmd hk hst h6 => next_congr (congrArg (fun t => fin (after t)) ?_), fun hcmd => ?_, fun hcmd => ?_, fun hcmd hk => ?_, fun hcmd hk => ?_⟩
      · exact (show itemEnd n it s = _ by simp only [itemEnd, hcmd]).trans (readItemEnd_host hk hst h6)
      · exact next_congr (congrArg (fun t => fin (after t)) (by simp only [itemEnd, hcmd]))
      · exact next_congr (congrArg (fun t => fin (after t)) (by simp only [itemEnd, hcmd]))
      · exact next_congr (congrArg (fun t => fin (after t)) ((itemEnd_formatter hcmd).trans (if_neg fun h => hk (beq_iff_eq.mp h))))
      · exact next_congr (congrArg (fun t => fin (after t)) ((itemEnd_formatter hcmd).trans (if_pos (beq_iff_eq.mpr hk))))
  case writeEnd =>
    intro x
    refine ⟨writeEndOf_written, writeEndOf_dropped, writeEndOf_retried, writeEndOf_mismatch, writeEndOf_parked, fun h => writeEndOf_other ?_⟩
    show x ∉ [0x10, 0x1C, 0x1D, 0x16, 0x17, 0x1E, 0x14]
    rcases h with h | h | h | h | h | h <;> rw [h] <;> decide
  case destage =>
    intro ws gone t
    refine ⟨fun h => next_congr (if_pos ?_), fun hne hl => ?_⟩
    · simpa [ws] using h
    · have hgo : ¬((ws.isEmpty || destageLeft k s) = true) := by simp [hne, hl]
      refine ⟨fun h3 => next_congr ((if_neg hgo).trans (congrArg pump (if_neg ?_))), fun h3 => next_congr ((if_neg hgo).trans (congrArg pump (if_pos ?_)))⟩
      · exact fun h => h3 (beq_iff_eq.mp h)
      · exact beq_iff_eq.mpr h3
  case seek => simp [hr, he, hl, show (s.chan n).sched.ring = [] from hring]
  case noSeek =>
    rcases h with h | h | h | h
    · simp [h]
    · simp [h]
    · simp [show (s.chan n).sched.ring ≠ [] from h]
    · simp [h]
  case formatter =>
    refine ⟨fun hc => ?_, fun hc => ?_, fun hc => ?_, fun hc => ?_, fun hc => ?_, fun hc hu => ?_, fun hc hu => ?_, fun hc => ?_, fun hc => ?_⟩
    · exact next_congr (issueDesc_taken hr hf (by rw [hc]; rfl))
    · exact next_congr (issueDesc_taken hr hf (by rw [hc]; rfl))
    · exact next_congr (issueDesc_taken hr hf (by rw [hc]; rfl))
    · exact next_congr (issueDesc_taken hr hf (by rw [hc]; rfl))
    · exact next_congr (issueDesc_taken hr hf (by rw [hc]; rfl))
    · exact next_congr (issueDesc_taken hr hf (by rw [hc, hu]; rfl))
    · exact next_congr (issueDesc_refused (by rw [hc, hu]; rfl))
    · exact next_congr (issueDesc_taken hr hf hc)
    · exact next_congr (issueDesc_refused hc)

end Sys2Proof.Machine
end

section
/-! PROOFS. The first pass over captured sectors and the retry ladder (R91 to R93, R99 to R108, R111 to R116, R373). -/

namespace Sys2Proof.Machine

variable {n : Ch} {p : Pa} {s : State} {l : Ladder} {r : StepRun} {b : SampleBuf} {it : Item}

/-! ### Codes and flags (R84, R91, R99, R100, R113) -/

section
variable {o : DecodeObs} {drop : BitVec 3}

/-- The result code with a reader left: no mark, not converged, failed check, good. -/
theorem firstPassCode_read (hd : drop ≠ 7) : firstPassCode o drop =
    if o.pri.isNone && o.sec.isNone then 0x02 else if !o.converged then 0x03 else if !o.check then 0x04 else 0x00 :=
  if_neg hd

/-- The flag of the two sync marks: where they differ, or one of them is missing. -/
def markFlag (o : DecodeObs) : Nat :=
  match o.pri, o.sec with
  | some a, some b => if a = b then 0 else 0x100
  | none, some _ => 0x200
  | some _, none => 0x400
  | none, none => 0

theorem resultFlags_eq : resultFlags o drop =
    markFlag o + (if o.split && o.resumeMiss then 0x800 else 0) + (if drop != 0 then 0x1000 else 0) := by
  refine congrArg (markFlag o + (if o.split && o.resumeMiss then 0x800 else 0) + ·) ?_
  by_cases h : drop = 0
  · rw [if_pos h, h]
    rfl
  · rw [if_neg h, if_pos (bne_iff_ne.mpr h)]

theorem markFlag_cases : markFlag o = 0 ∨ markFlag o = 0x100 ∨ markFlag o = 0x200 ∨ markFlag o = 0x400 := by
  unfold markFlag
  split
  · split <;> simp
  all_goals simp

theorem markFlag_differ : markFlag o = 0x100 ↔ ∃ a b, o.pri = some a ∧ o.sec = some b ∧ a ≠ b := by
  unfold markFlag
  split <;> simp_all

theorem markFlag_secondary : markFlag o = 0x200 ↔ o.pri = none ∧ o.sec ≠ none := by
  unfold markFlag
  split <;> simp_all
  split <;> simp

theorem markFlag_primary : markFlag o = 0x400 ↔ o.pri ≠ none ∧ o.sec = none := by
  unfold markFlag
  split <;> simp_all
  split <;> simp

/-- Each of the three parts of the flags has its own bits. -/
theorem flagParts_bits : ∀ m ∈ [0, 0x100, 0x200, 0x400], ∀ a c : Bool,
    let f := m + (if a then 0x800 else 0) + (if c then 0x1000 else 0)
    (f.testBit 8 = true ↔ m = 0x100) ∧ (f.testBit 9 = true ↔ m = 0x200) ∧ (f.testBit 10 = true ↔ m = 0x400) ∧
    (f.testBit 11 = true ↔ a = true) ∧ (f.testBit 12 = true ↔ c = true) ∧ f % 256 = 0 ∧ f < 2 ^ 13 := by
  decide

theorem resultFlags_bits : ((resultFlags o drop).testBit 8 = true ↔ ∃ a b, o.pri = some a ∧ o.sec = some b ∧ a ≠ b) ∧
    ((resultFlags o drop).testBit 9 = true ↔ o.pri = none ∧ o.sec ≠ none) ∧
    ((resultFlags o drop).testBit 10 = true ↔ o.pri ≠ none ∧ o.sec = none) ∧
    ((resultFlags o drop).testBit 11 = true ↔ o.split = true ∧ o.resumeMiss = true) ∧
    ((resultFlags o drop).testBit 12 = true ↔ drop ≠ 0) ∧ resultFlags o drop % 256 = 0 ∧ resultFlags o drop < 2 ^ 13 := by
  have h := flagParts_bits (markFlag o) (by simpa using markFlag_cases) (o.split && o.resumeMiss) (drop != 0)
  rwa [← resultFlags_eq, markFlag_differ, markFlag_secondary, markFlag_primary, Bool.and_eq_true, bne_iff_ne] at h

end

/-! ### The first pass (R91 to R93, R99, R106, R137) -/

theorem firstPass_stored {rest : List SampleBuf} (hw : (s.pathSt n p).wait = b :: rest) : firstPass n p s =
    if stepBusy n p s || (s.chan n).sched.ladders.any fun l => l.desc == b.desc && l.run.isSome then s
    else match findItem (descTag b.desc) (s.chan n).sched.ring with
      | none => freeBuffer n p (captureResult n p b 0x08 (s.modPath n p fun q => { q with wait := rest }))
      | some i =>
        if i.kind == .ladder then freeBuffer n p (captureResult n p b 0x08 (s.modPath n p fun q => { q with wait := rest }))
        else if b.act = 3 then
          verifyEnd n p b i (firstObs n p b s) (sectorStatus n p (passCfg n p b 0 7 s) b (firstObs n p b s) (s.modPath n p fun q => { q with wait := rest }))
        else captureEnd n p b i (firstObs n p b s)
          (sectorStatus n p (passCfg n p b 0 7 s) b (firstObs n p b s) (s.modPath n p fun q => { q with wait := rest })) := by
  simp only [firstPass, hw] <;> rfl

/-- The end of a captured sector, by its result: a good one is delivered, one that nothing waits for is dropped, a bad one enters the
ladder. -/
theorem captureEnd_eq {o : DecodeObs} : captureEnd n p b it o s =
    (let q := captureResult n p b (firstPassCode o b.drop + resultFlags o b.drop) s
     let hdl := (descHandle b.desc p).toNat
     let e := q.inc (F.DET_ERRCNT_FP_FAIL n p)
     if firstPassCode o b.drop = 0 then
       let t := if (handleCtl hdl (freeBuffer n p q)).isSome then putUnit (handleUnit hdl (freeBuffer n p q)) o.blk (freeBuffer n p q) else freeBuffer n p q
       if it.kind == .recheck then rewriteSector n (descSlotId b.desc p) it.lb[p] o.blk t else t
     else if it.kind == .spec || (it.cmds.isEmpty && (it.kind == .hostRead || it.kind == .verify)) then freeBuffer n p e
     else reportGath it.lb[p] hdl it.cmds (startLadder n p b.desc it.cmds it.lb[p]
       (if decide (e.get (F.DET_SSTAT_PINNED n p) < 2) then some b else none)
       (if decide (e.get (F.DET_SSTAT_PINNED n p) < 2) then pinBuffer n p e else freeBuffer n p e))) := rfl

/-- A check of adjacent tracks has no buffer to compare with. -/
theorem verifyEnd_adjacent {o : DecodeObs} (hk : it.kind = .verify) :
    verifyEnd n p b it o s = freeBuffer n p (captureResult n p b (firstPassCode o b.drop + resultFlags o b.drop) s) := by
  simp only [verifyEnd, hk, beq_self_eq_true, Bool.true_or, Bool.not_true, Bool.and_false, Bool.false_eq_true, if_false]

/-- A sector that decodes and whose data is not that of the buffer that was written. -/
def verifyMismatch (p : Pa) (b : SampleBuf) (o : DecodeObs) (s : State) : Bool :=
  let hdl := (descHandle b.desc p).toNat
  let want := if hdl == emptyHandle then some (crc32c (List.replicate 4096 0)) else (assocGet (handleUnit hdl s) s.ream.sides).map fun z => z.crc
  decide (firstPassCode o b.drop = 0) && !(want == some (crc32c (padTo 4096 (o.blk.data.map BitVec.toNat))))

theorem verifyMismatch_iff {o : DecodeObs} : verifyMismatch p b o s = true ↔ firstPassCode o b.drop = 0 ∧
    (if (descHandle b.desc p).toNat = emptyHandle then some (crc32c (List.replicate 4096 0))
      else (assocGet (handleUnit (descHandle b.desc p).toNat s) s.ream.sides).map fun z => z.crc) ≠
        some (crc32c (padTo 4096 (o.blk.data.map BitVec.toNat))) := by
  simp only [verifyMismatch, Bool.and_eq_true, decide_eq_true_eq, Bool.not_eq_true', beq_eq_false_iff_ne, beq_iff_eq]

/-- Any other verify compares the sector with the check of that buffer. -/
theorem verifyEnd_compared {o : DecodeObs} (hk : it.kind ≠ .verify) : verifyEnd n p b it o s =
    freeBuffer n p (captureResult n p b ((if verifyMismatch p b o s then 0x04 else firstPassCode o b.drop) + resultFlags o b.drop) s) := by
  have hb : (it.kind == .verify) = false := beq_eq_false_iff_ne.mpr hk
  simp only [verifyEnd, hb, Bool.false_or] <;> rfl

/-- A sector that did not converge leaves the registers of its path alone. -/
theorem sectorStatus_regs {o : DecodeObs} {c : DetCfg} (h : o.converged = false) : (sectorStatus n p c b o s).regs = s.regs := by
  simp only [sectorStatus, h, Bool.not_false, if_true]
  split <;> rfl

/-! ### The ladder's steps (R104 to R108) -/

theorem stepOp_end {k : Nat} (h : 16 ≤ k ∨ 8 ≤ s.get (F.DET_LADDER_OP n k)) : stepOp n k s = 0 := by
  unfold stepOp
  split
  · rfl
  · next h16 => exact if_pos (h.resolve_left h16)

theorem stepOp_step {k : Nat} (h16 : k < 16) (h8 : s.get (F.DET_LADDER_OP n k) < 8) : stepOp n k s = s.get (F.DET_LADDER_OP n k) :=
  (if_neg (not_le.mpr h16)).trans (if_neg (not_le.mpr h8))

section
variable {i k : Nat}

theorem ladderAt_absent (h : (s.chan n).sched.ladders[i]? = none) : ladderAt n i k s = none := by
  simp only [ladderAt, h]

theorem ladderAt_running (h : (s.chan n).sched.ladders[i]? = some l) (hr : l.run = some r) :
    ladderAt n i k s = if r.op == k then some (l, r) else none := by
  simp only [ladderAt, h, hr]

theorem ladderAt_waiting (h : (s.chan n).sched.ladders[i]? = some l) (hr : l.run = none) : ladderAt n i k s =
    if k != 6 && stepOp n l.step s == k && l.kept.isSome && pathFree n l.path s && !stepBusy n l.path s then some (l, stepRun n l.step s) else none := by
  simp only [ladderAt, h, hr]

theorem ladderDecode_none (h : ladderAt n i k s = none) : ladderDecode n i k s = s := by
  simp only [ladderDecode, h]

theorem ladderSlip_none (h : ladderAt n i k s = none) : ladderSlip n i k s = s := by
  simp only [ladderSlip, h]

theorem reread_none (h : ladderAt n i 6 s = none) : reread n i s = s := by
  simp only [reread, h]

section
variable (h : ladderAt n i k s = some (l, r))
include h

theorem ladderDecode_unkept (hk : l.kept = none) : ladderDecode n i k s = ladderFail n l s := by
  simp only [ladderDecode, h, hk]

theorem ladderSlip_unkept (hk : l.kept = none) : ladderSlip n i k s = ladderFail n l s := by
  simp only [ladderSlip, h, hk]

theorem ladderDecode_bad (hk : l.kept = some b) (hb : b.bad = true) : ladderDecode n i k s = ladderFail n l (clearBad n l s) := by
  simp only [ladderDecode, h, hk, hb, if_true]

theorem ladderSlip_bad (hk : l.kept = some b) (hb : b.bad = true) : ladderSlip n i k s = ladderFail n l (clearBad n l s) := by
  simp only [ladderSlip, h, hk, hb, if_true]

theorem ladderDecode_ends (hk : l.kept = some b) (hb : b.bad = false) : ladderDecode n i k s =
    if firstPassCode (stepObs n l r b s) b.drop = 0 then ladderGood n l (resultFlags (stepObs n l r b s) b.drop) (stepObs n l r b s).blk s
    else ladderFail n l (noteResult n l.path l.tag (firstPassCode (stepObs n l r b s) b.drop + resultFlags (stepObs n l r b s) b.drop) s) := by
  simp only [ladderDecode, h, hk, hb, Bool.false_eq_true, if_false]

theorem ladderSlip_ends (hk : l.kept = some b) (hb : b.bad = false) : ladderSlip n i k s =
    match (slipObs n l r b s).filter fun c => c.converged && c.check with
    | [c] => ladderGood n l 0 c.blk s
    | [] => ladderFail n l s
    | _ => ladderFail n l (noteResult n l.path l.tag 0x05 (s.inc (F.DET_ERRCNT_SLIP_AMBIG n l.path))) := by
  simp only [ladderSlip, h, hk, hb, Bool.false_eq_true, if_false] <;> rfl

end

end

/-! ### Steps that succeed and fail (R106, R108, R111) -/

theorem ladderGood_background {f : Nat} {blk : Block} (h : l.cmds = []) : ladderGood n l f blk s = beginSteps n (rewriteSector n l.pos l.lblk blk
    (noteResult n l.path l.tag (0x01 + l.step * 65536 + f) (endReport l (dropLadder n l s)))) := by
  simp only [ladderGood, h]

theorem ladderGood_foreground {f : Nat} {blk : Block} {x : Nat × Nat} (h : l.cmds ≠ []) (hx : l.lblk = some x) : ladderGood n l f blk s =
    beginSteps n ((noteResult n l.path l.tag (0x01 + l.step * 65536 + f) (endReport l (dropLadder n l s))).each l.cmds fun k u =>
      endItem k (deliverTo k x.2 blk u)) := by
  cases hc : l.cmds with
  | nil => exact absurd hc h
  | cons k ks => simp only [ladderGood, hc, hx]

/-- What an update of a channel's scheduler makes of it. -/
theorem State.sched_modSched_same (f : Sched → Sched) : ((s.modSched n f).chan n).sched = f (s.chan n).sched := by
  unfold State.modSched
  rw [State.chan_modChan_same]

/-- The ladder of a sector after an update that keeps the sector. -/
theorem findLadder_modLadder {f : Ladder → Ladder} (h : findLadder n l.pos s = some l) (hf : ∀ y, (f y).pos = y.pos) :
    findLadder n l.pos (modLadder n l.pos f s) = some (f l) := by
  have hp : ((fun y : Ladder => y.pos == l.pos) ∘ fun y => if y.pos == l.pos then f y else y) = fun y => y.pos == l.pos := by
    funext y
    simp only [Function.comp]
    split <;> simp [hf]
  unfold findLadder modLadder at *
  rw [State.sched_modSched_same, List.find?_map, hp, h, Option.map_some, beq_self_eq_true, if_pos rfl]

/-- A ladder that stands at its next step: END, a reread, or a step on kept samples. -/
theorem ladderSettle_stands {fuel : Nat} (h : findLadder n l.pos s = some l) : ladderSettle n l.pos (fuel + 1) s =
    if stepOp n l.step s = 0 then ladderEnd n l s
    else if s.flag (F.DET_LADDER_BG_ONLY n l.step) && !l.cmds.isEmpty then
      (match findLadder n l.pos (failAttached n l s) with
       | some y => if y.barrier.isSome then cancelLadder n y (failAttached n l s) else ladderSettle n l.pos fuel (failAttached n l s)
       | none => ladderSync n (failAttached n l s))
    else if stepOp n l.step s ≠ 6 && l.kept.isNone then ladderSettle n l.pos fuel (modLadder n l.pos (fun y => { y with step := y.step + 1 }) s)
    else if stepOp n l.step s = 6 then ladderSync n (issueReread n l s)
    else ladderSync n s := by
  simp only [ladderSettle, h] <;> rfl

/-- A failed step's ladder stands at the next step. -/
theorem ladderFail_next (h : findLadder n l.pos s = some l) : ladderFail n l s = beginSteps n
    (ladderSettle n l.pos 40 (modLadder n l.pos (fun y => { y with step := y.step + 1, run := none }) s)) ∧
    findLadder n l.pos (modLadder n l.pos (fun y => { y with step := y.step + 1, run := none }) s) = some { l with step := l.step + 1, run := none } :=
  ⟨rfl, findLadder_modLadder h fun _ => rfl⟩

theorem ladderEnd_background (h : l.cmds = []) :
    ladderEnd n l s = sectorUnrec n l (endReport l (dropLadder n l (noteResult n l.path l.tag 0x09 s))) :=
  if_pos (by rw [h]; rfl)

/-- A ladder that is dropped leaves the list. -/
theorem ladders_dropLadder : ((dropLadder n l s).chan n).sched.ladders = (s.chan n).sched.ladders.filter fun x => x != l := by
  cases hk : l.kept.isSome <;> simp only [dropLadder, hk] <;>
    exact congrArg Sched.ladders (State.sched_modSched_same (s := s) (n := n) fun y => { y with
      ladders := y.ladders.filter fun x => x != l
      ring := y.ring.filter fun i => i.taken || !(i.kind == .ladder && i.desc == l.desc) })

/-- A reread sector that lies at the head of its path's stored ones. -/
theorem reread_stored {i : Nat} {rest : List SampleBuf} (h : ladderAt n i 6 s = some (l, r)) (hw : (s.pathSt n l.path).wait = b :: rest) :
    reread n i s =
      if b.desc != l.desc || stepBusy n l.path s then s
      else
        let o := passOver n l.path b 0 7 false r.budget s
        let t := sectorStatus n l.path (passCfg n l.path b 0 7 s) b o (s.modPath n l.path fun q => { q with wait := rest })
        let keep := l.kept.isNone && decide (t.get (F.DET_SSTAT_PINNED n l.path) < 2)
        let m := { l with kept := if keep || l.kept.isSome then some b else none, gains := b.gains }
        let u := modLadder n l.pos (fun _ => m) (if keep then pinBuffer n l.path t else freeBuffer n l.path t)
        if firstPassCode o b.drop = 0 then ladderGood n m (resultFlags o b.drop) o.blk (captureResult n l.path b
          ((if firstPassCode o b.drop = 0 then 0x01 + l.step * 65536 else firstPassCode o b.drop) + resultFlags o b.drop) u)
        else ladderFail n m (captureResult n l.path b
          ((if firstPassCode o b.drop = 0 then 0x01 + l.step * 65536 else firstPassCode o b.drop) + resultFlags o b.drop) u) := by
  simp only [reread, h, hw]

/-- The deadline of a command that is in the table. -/
theorem deadline_cmd {k : Nat} {e : Cmd} (h : s.cmd k = some e) : deadline k s =
    match (allChans.flatMap fun m => (s.chan m).sched.ladders.filter fun z => z.cmds.contains k).head?.bind fun l => l.lblk with
    | some x => if (match s.ns e.e.nsid.toNat with | some v => v.tler != 0 | none => false) then failRead k x.1 x.2 s else s
    | none => s := by
  simp only [deadline, h] <;> rfl

/-- Settles O59: each command's row, branch by branch. -/
theorem ladders : Obligations.Ladders := by
  unfold Obligations.Ladders
  intro n p i k o drop b rest l y r it x f blk s c code flags hdl at_
  refine ⟨⟨fun hd => if_pos hd, fun hd h1 h2 => ?noMark, fun hd hm => ?mark, resultFlags_bits⟩, ⟨rfl, rfl⟩,
    fun hw => next_congr (by simp only [firstPass, hw]), fun hw => ?first, fun hb => ?capture, sectorStatus_regs,
    ⟨fun h => stepOp_end (Or.inl h), fun h => stepOp_end (Or.inr h), stepOp_step⟩, fun hl => ?ladderAt, ladderAt_absent,
    fun h => next_congr (ladderDecode_none h), fun h => next_congr (ladderDecode_none h), fun h => next_congr (ladderDecode_none h),
    fun h => next_congr (ladderSlip_none h), fun h => next_congr (ladderSlip_none h), fun h => next_congr (reread_none h),
    fun h => next_congr (ladderDecode_none h), fun hk => ?unkept, fun hk hb => ?bad, fun hk hb => ?ends,
    ⟨ladderGood_background, ladderGood_foreground⟩, fun hf => ?fails, ?dropped, fun ha hw => ?reread, fun ha hw => ?noReread, fun e v he => ?deadline⟩
  case noMark => exact (firstPassCode_read hd).trans (if_pos (by rw [h1, h2]; rfl))
  case mark =>
    have hn : ¬(o.pri.isNone && o.sec.isNone) = true := by
      rw [Bool.and_eq_true, Option.isNone_iff_eq_none, Option.isNone_iff_eq_none]
      exact fun ⟨h1, h2⟩ => hm.elim (fun h => h h1) fun h => h h2
    have hcode := (firstPassCode_read (o := o) hd).trans (if_neg hn)
    refine ⟨fun hc => hcode.trans (by rw [hc]; rfl), fun hc hk => hcode.trans (by rw [hc, hk]; rfl), fun hc hk => hcode.trans (by rw [hc, hk]; rfl)⟩
  case first =>
    rw [show exec (.firstPassDecodeEnd n p) s = .next _ from next_congr (firstPass_stored hw)]
    refine ⟨fun h => next_congr (if_pos ?_), fun hbusy hrun => ?_⟩
    · rcases h with h | ⟨z, hz, hd, hr⟩
      · simp [h]
      · rw [Bool.or_eq_true, List.any_eq_true]
        exact Or.inr ⟨z, hz, by simp [hd, Option.isSome_iff_ne_none, hr]⟩
    · have hgo : ¬((stepBusy n p s || (s.chan n).sched.ladders.any fun l => l.desc == b.desc && l.run.isSome) = true) := by
        rw [Bool.or_eq_true, List.any_eq_true]
        rintro (h | ⟨z, hz, h⟩)
        · rw [hbusy] at h
          exact Bool.false_ne_true h
        · rw [Bool.and_eq_true, beq_iff_eq] at h
          have := hrun z hz h.1
          simp [this] at h
      rw [if_neg hgo]
      intro u o t
      refine ⟨fun hf => ?_, fun hf hk => ⟨fun ha => ?_, fun ha => ?_⟩⟩
      · rcases hf with hf | ⟨hf, hk⟩
        · rw [hf]
        · rw [hf]
          exact next_congr (if_pos (beq_iff_eq.mpr hk))
      · rw [hf]
        exact next_congr ((if_neg fun h => hk (beq_iff_eq.mp h)).trans (if_neg ha))
      · rw [hf]
        exact next_congr ((if_neg fun h => hk (beq_iff_eq.mp h)).trans (if_pos ha))
  case capture =>
    intro q e off
    subst hb
    have hoff : off ↔ (it.kind == .spec || (it.cmds.isEmpty && (it.kind == .hostRead || it.kind == .verify))) = true := by
      simp only [Bool.or_eq_true, Bool.and_eq_true, beq_iff_eq, List.isEmpty_iff]
      rfl
    refine ⟨fun h0 hk hc => captureEnd_eq.trans ((if_pos h0).trans ?_), fun h0 hk hc => captureEnd_eq.trans ((if_pos h0).trans ?_),
      fun h0 ho => captureEnd_eq.trans ((if_neg h0).trans (if_pos (hoff.mp ho))),
      fun h0 ho hp => captureEnd_eq.trans ((if_neg h0).trans ((if_neg fun h => ho (hoff.mpr h)).trans ?_)),
      fun h0 ho hp => captureEnd_eq.trans ((if_neg h0).trans ((if_neg fun h => ho (hoff.mpr h)).trans ?_)), fun hk => ?_, fun hk => ?_⟩
    · exact (if_neg fun h => hk (beq_iff_eq.mp h)).trans (if_pos (Option.isSome_iff_ne_none.mpr hc))
    · refine (if_pos (beq_iff_eq.mpr hk)).trans (congrArg _ (if_neg fun h => Option.isSome_iff_ne_none.mp h hc))
    · rw [if_pos (decide_eq_true hp), if_pos (decide_eq_true hp)]
    · rw [if_neg fun h => not_lt.mpr hp (of_decide_eq_true h), if_neg fun h => not_lt.mpr hp (of_decide_eq_true h)]
    · exact verifyEnd_adjacent hk
    · exact ⟨_, verifyMismatch_iff, verifyEnd_compared hk⟩
  case ladderAt =>
    refine ⟨fun hr => ⟨fun ho => (ladderAt_running hl hr).trans (if_pos (beq_iff_eq.mpr ho)),
      fun ho => (ladderAt_running hl hr).trans (if_neg fun h => ho (beq_iff_eq.mp h))⟩,
      fun hr h6 hop hk hp hb => (ladderAt_waiting hl hr).trans (if_pos ?_), fun hr h => (ladderAt_waiting hl hr).trans (if_neg ?_)⟩
    · simp [h6, hop, hp, hb, Option.isSome_iff_ne_none, hk]
    · rcases h with h | h | h | h | h <;> simp [h]
  case unkept =>
    exact ⟨fun h => next_congr (ladderDecode_unkept h hk), fun h => next_congr (ladderDecode_unkept h hk), fun h => next_congr (ladderDecode_unkept h hk),
      fun h => next_congr (ladderSlip_unkept h hk), fun h => next_congr (ladderSlip_unkept h hk), fun h => next_congr (ladderDecode_unkept h hk)⟩
  case bad =>
    exact ⟨fun h => next_congr (ladderDecode_bad h hk hb), fun h => next_congr (ladderDecode_bad h hk hb), fun h => next_congr (ladderDecode_bad h hk hb),
      fun h => next_congr (ladderSlip_bad h hk hb), fun h => next_congr (ladderSlip_bad h hk hb), fun h => next_congr (ladderDecode_bad h hk hb)⟩
  case ends =>
    intro ends slips
    refine ⟨fun h ho => next_congr ((ladderDecode_ends h hk hb).trans ?_), fun h ho => next_congr ((ladderDecode_ends h hk hb).trans ?_),
      fun h ho => next_congr ((ladderDecode_ends h hk hb).trans ?_), fun h ho => next_congr ((ladderDecode_ends h hk hb).trans ?_),
      fun h ho => next_congr ((ladderSlip_ends h hk hb).trans ?_), fun h ho => next_congr ((ladderSlip_ends h hk hb).trans ?_)⟩
    iterate 4
      · simp only [stepObs, ho]
        rfl
    iterate 2
      · simp only [slipObs, ho]
        rfl
  case fails =>
    intro m op
    obtain ⟨hfail, hm⟩ := ladderFail_next hf
    have hsettle := ladderSettle_stands (l := { l with step := l.step + 1, run := none }) (fuel := 39) hm
    rw [hfail]
    refine ⟨fun h0 h6 hk hbg => congrArg (beginSteps n) (hsettle.trans ?_), fun h0 => congrArg (beginSteps n) (hsettle.trans (if_pos h0)),
      fun h6 hbg => congrArg (beginSteps n) (hsettle.trans ?_), ladderEnd_background⟩
    all_goals
      have hfg : ¬(s.flag (F.DET_LADDER_BG_ONLY n (l.step + 1)) && !l.cmds.isEmpty) = true := by
        rcases hbg with h | h <;> simp [h]
    · refine (if_neg h0).trans ((if_neg hfg).trans ((if_neg ?_).trans (if_neg h6)))
      simp [hk]
    · refine (if_neg fun h0 => ?_).trans ((if_neg hfg).trans ((if_neg ?_).trans (if_pos h6)))
      · exact absurd (h0.symm.trans h6) (by decide)
      · rw [Bool.and_eq_true, decide_eq_true_eq]
        exact fun h => h.1 h6
  case dropped =>
    rw [ladders_dropLadder, List.mem_filter, bne_iff_ne]
  case reread =>
    rw [show exec (.ladderReread n i) s = .next _ from next_congr (reread_stored ha hw)]
    refine ⟨fun h => next_congr (if_pos ?_), fun hd hb => next_congr ((if_neg ?_).trans ?_)⟩
    · rcases h with h | h <;> simp [h]
    · simp [hd, hb]
    · dsimp only
      split <;> rfl
  case noReread =>
    refine next_congr ?_
    simp only [reread, show ladderAt n i 6 s = some (l, r) from ha, hw]
  case deadline =>
    intro ls
    rw [show exec (.readDeadlineExpire k) s = .next _ from next_congr (deadline_cmd he)]
    refine ⟨fun h => ?_, fun h hx hv => ⟨fun ht => ?_, fun ht => ?_⟩⟩
    · rw [show (allChans.flatMap fun m => (s.chan m).sched.ladders.filter fun z => z.cmds.contains k) = [] from h] <;> rfl
    all_goals
      rw [show (allChans.flatMap fun m => (s.chan m).sched.ladders.filter fun z => z.cmds.contains k).head? = some l from h, Option.bind_some, hx]
    · refine next_congr (if_pos ?_)
      rw [hv]
      exact bne_iff_ne.mpr ht
    · refine next_congr (if_neg ?_)
      rw [hv]
      exact fun h => bne_iff_ne.mp h ht

end Sys2Proof.Machine
end

section
/-! PROOFS. The sample buffers of a path (R97). -/

namespace Sys2Proof.Machine

/-- A register store whose cells do not rise: a cell lies before that of the free sample buffers of path 0 of channel 0, which counts 5. -/
def unsortedFree : State :=
  { State.reset with regs := ⟨[((F.DET_SSTAT_FREE 0 0).key + 1, 1), ((F.DET_SSTAT_FREE 0 0).key, 1)]⟩ }

/-- Refutes O60: the clause of the free count has no premise that the register store is canonical, and a write of the reset value to a
field of a store that is not takes no cell away. With 5 buffers free (one more than the reset value) the count then stays 5. -/
theorem not_writePath : ¬ Obligations.WritePath := by
  unfold Obligations.WritePath
  intro h
  obtain ⟨-, -, -, -, hbuffer, -⟩ := h 0 0 ⟨1, 0, 1, 0, 0, false, false, false, none⟩ (Vector.replicate 12 0)
    (Item.new (Vector.replicate 12 0) .spec [] (Vector.replicate 4 none) 0) false false false ⟨[], [], []⟩ 0 0 0 0 unsortedFree
  have hfree := hbuffer.2.2 (by decide +kernel) (by decide +kernel)
  exact absurd hfree (by decide +kernel)

end Sys2Proof.Machine
end

section
/-! PROOFS. What leaves the layouts of GATH alone: one fact for each operation that the failure of a command goes through. -/

namespace Sys2Proof.Machine

/-! ### Passes and conditions -/

@[simp] theorem State.gath_each {α : Type} {s : State} {l : List α} {f : α → State → State} (hf : ∀ a t, (f a t).gath = t.gath) :
    (s.each l f).gath = s.gath := State.each_keeps State.gath hf l s

@[simp] theorem State.gath_when {s : State} {b : Bool} {f : State → State} (hf : ∀ t, (f t).gath = t.gath) : (s.when b f).gath = s.gath := by
  unfold State.when
  split
  · exact hf s
  · rfl

/-! ### Commands, controllers and the buffers of REAM -/

@[simp] theorem State.finish_gath (s : State) (k st : Nat) : (s.finish k st).gath = s.gath := State.modCmd_gath ..
@[simp] theorem State.itemDone_gath (s : State) (k : Nat) : (s.itemDone k).gath = s.gath := State.modCmd_gath ..
@[simp] theorem State.aen_gath (s : State) (c : Ctl) (typ info page : Nat) : (s.aen c typ info page).gath = s.gath := State.modCtlr_gath ..
@[simp] theorem State.aenAll_gath (s : State) (typ info page : Nat) : (s.aenAll typ info page).gath = s.gath :=
  State.gath_each fun _ _ => State.aen_gath ..

@[simp] theorem poolSync_gath (i : PoolId) (s : State) : (poolSync i s).gath = s.gath := by
  simp [poolSync, State.gath_when fun t => State.raise_gath t ..]
@[simp] theorem clearSide_gath (h : Nat) (s : State) : (clearSide h s).gath = s.gath := State.modReam_gath ..
@[simp] theorem grantBuffers_gath (i : PoolId) (id n : Nat) (s : State) : (grantBuffers i id n s).2.gath = s.gath := by simp [grantBuffers]
@[simp] theorem admitReq_gath (i : PoolId) (cls : Fin 3) (id n : Nat) (s : State) : (admitReq i cls id n s).2.gath = s.gath := by simp [admitReq]
@[simp] theorem violate_gath (op id h : Nat) (s : State) : (violate op id h s).gath = s.gath := by
  simp [violate, apply_ite State.gath]

@[simp] theorem alloc_gath (id use n : Nat) (cmd : Option Nat) (s : State) : (alloc id use n cmd s).2.gath = s.gath := by
  unfold alloc
  repeat' split
  all_goals simp

@[simp] theorem putCtl_gath (h refs : Nat) (owned : Bool) (owner : Nat) (s : State) : (putCtl h refs owned owner s).gath = s.gath := by
  simp [putCtl, apply_ite State.gath]

@[simp] theorem release_gath (id h : Nat) (s : State) : (release id h s).gath = s.gath := by
  unfold release
  split
  · simp
  · simp [apply_ite State.gath]

@[simp] theorem give_gath (id h dst : Nat) (s : State) : (give id h dst s).gath = s.gath := by
  unfold give
  split
  · simp
  · simp [apply_ite State.gath]

@[simp] theorem dropBuf_gath (h : Nat) (s : State) : (dropBuf h s).gath = s.gath := by
  unfold dropBuf
  split
  · simp [apply_ite State.gath]
  · rfl

theorem tryAlloc_gath {id use n : Nat} {s : State} {r : List Nat × State} (h : tryAlloc id use n s = some r) : r.2.gath = s.gath := by
  unfold tryAlloc at h
  split at h
  · contradiction
  · split at h
    · obtain rfl := Option.some.inj h
      simp
    · contradiction

@[simp] theorem putUnit_gath (u : Nat) (b : Block) (s : State) : (putUnit u b s).gath = s.gath := rfl

/-! ### Lines of the cache -/

@[simp] theorem putWay_gath (sn w : Nat) (v : Option Way) (s : State) : (putWay sn w v s).gath = s.gath := by simp [putWay, offerSync]
@[simp] theorem touchWay_gath (sn w : Nat) (s : State) : (touchWay sn w s).gath = s.gath := State.modCache_gath ..
@[simp] theorem waitFill_gath (sn w : Nat) (f : Fill) (blks : List (Nat × Block)) (s : State) : (waitFill sn w f blks s).gath = s.gath :=
  State.modCache_gath ..

@[simp] theorem storeSectors_gath (v : Way) (blks : List (Nat × Block)) (s : State) : (storeSectors v blks s).2.gath = s.gath :=
  List.foldlRecOn (motive := fun r : Way × State => r.2.gath = s.gath) blks _ rfl fun _ h _ _ => h

@[simp] theorem fillInto_gath (sn w : Nat) (f : Fill) (blks : List (Nat × Block)) (s : State) : (fillInto sn w f blks s).gath = s.gath := by
  simp [fillInto]
@[simp] theorem mergeInto_gath (v : Way) (blks : List (Nat × Block)) (s : State) : (mergeInto v blks s).gath = s.gath := by simp [mergeInto]
@[simp] theorem clearWay_gath (v : Way) (s : State) : (clearWay v s).gath = s.gath := by simp [clearWay, apply_ite State.gath]

@[simp] theorem fillTarget_gath (sn w : Nat) (f : Fill) (blks : List (Nat × Block)) (s : State) : (fillTarget sn w f blks s).gath = s.gath := by
  unfold fillTarget
  repeat' split
  all_goals simp

@[simp] theorem mergeFill_gath (v : Way) (f : Fill) (blks : List (Nat × Block)) (s : State) : (mergeFill v f blks s).gath = s.gath := by
  simp [mergeFill, apply_ite State.gath]

@[simp] theorem cacheAlloc_gath (f : Fill) (blks : List (Nat × Block)) (s : State) : (cacheAlloc f blks s).gath = s.gath := by
  unfold cacheAlloc
  dsimp only
  repeat' split
  all_goals simp

@[simp] theorem waitersFrom_gath (n : Nat) (s : State) : (waitersFrom n s).gath = s.gath := by
  induction n generalizing s with
  | zero => rfl
  | succ n ih => simp [waitersFrom, apply_ite State.gath, ih]

@[simp] theorem runWaiters_gath (s : State) : (runWaiters s).gath = s.gath := waitersFrom_gath ..
@[simp] theorem dropLine_gath (v : Way) (s : State) : (dropLine v s).gath = s.gath := by simp [dropLine, apply_ite State.gath]

@[simp] theorem offerEnd_gath (sn w : Nat) (accepted : Bool) (s : State) : (offerEnd sn w accepted s).gath = s.gath := by
  unfold offerEnd
  split
  · simp [apply_ite State.gath]
  · rfl

@[simp] theorem cacheInvalidate_gath (nsid lba cnt : Nat) (s : State) : (cacheInvalidate nsid lba cnt s).gath = s.gath := by
  simp [cacheInvalidate, voidFills, apply_ite State.gath]
@[simp] theorem unpin_gath (k : Nat) (s : State) : (unpin k s).gath = s.gath := by simp [unpin]

/-! ### Work items -/

@[simp] theorem unpinBuffer_gath (n : Ch) (p : Pa) (s : State) : (unpinBuffer n p s).gath = s.gath := rfl
@[simp] theorem noteResult_gath (n : Ch) (p : Pa) (tag : W16) (word : Nat) (s : State) : (noteResult n p tag word s).gath = s.gath := rfl

@[simp] theorem placeSig_gath (n : Ch) (cmd : Nat) (kind : ItemKind) (cmds : List Nat) (cls : Nat) (spec wver : Bool) (ladder : Nat)
    (stripe : Option (Nat × Nat)) (ps : List Part) (s : State) : (placeSig n cmd kind cmds cls spec wver ladder stripe ps s).gath = s.gath := by
  unfold placeSig
  split <;> rfl

@[simp] theorem placeRun_gath (n : Ch) (cmd : Nat) (kind : ItemKind) (cmds : List Nat) (cls : Nat) (spec wver : Bool)
    (stripe : Option (Nat × Nat)) (xs : List Sector) (s : State) : (placeRun n cmd kind cmds cls spec wver stripe xs s).2.gath = s.gath := by
  unfold placeRun
  split
  · rfl
  · simp

@[simp] theorem placeOn_gath (n : Ch) (cmd : Nat) (kind : ItemKind) (ks : List Nat) (cls : Nat) (wver : Bool) (stripe : Option (Nat × Nat))
    (xs : List Sector) (s : State) : (placeOn n cmd kind ks cls wver stripe xs s).2.gath = s.gath := by
  unfold placeOn
  repeat' split
  all_goals simp

@[simp] theorem addItems_gath (ks : List Nat) (n : Nat) (s : State) : (addItems ks n s).gath = s.gath := State.gath_each fun _ _ => rfl

@[simp] theorem hostDispatch_gath (n : Ch) (cmd : Nat) (kind : ItemKind) (ks : List Nat) (cls : Nat) (xs : List Sector) (s : State) :
    (hostDispatch n cmd kind ks cls xs s).gath = s.gath := by
  simp [hostDispatch, apply_ite State.gath]

@[simp] theorem abortTag_gath (n : Ch) (tag : W16) (s : State) : (abortTag n tag s).gath = s.gath := by
  have hlatch : ∀ f : Stitcher → Stitcher, (s.each allPaths fun p u => u.modStit n p f).gath = s.gath := fun f => State.gath_each fun _ _ => rfl
  simp [abortTag, apply_ite State.gath, hlatch]

@[simp] theorem ladderSync_gath (n : Ch) (s : State) : (ladderSync n s).gath = s.gath := rfl
@[simp] theorem dropLadder_gath (n : Ch) (l : Ladder) (s : State) : (dropLadder n l s).gath = s.gath := State.gath_when fun _ => rfl

/-! ### Pages of the Flyleaf -/

@[simp] theorem flySync_gath (s : State) : (flySync s).gath = s.gath :=
  (State.gath_when fun _ => State.aenAll_gath ..).trans (State.gath_when fun _ => rfl)
@[simp] theorem modBlk_gath (die num : Nat) (f : FBlk → FBlk) (s : State) : (modBlk die num f s).gath = s.gath := rfl
@[simp] theorem closeFull_gath (b : FBand) (s : State) : (closeFull b s).gath = s.gath := by
  unfold closeFull
  split <;> rfl
@[simp] theorem consume_gath (s : State) : (consume s).gath = s.gath := by
  unfold consume
  split <;> rfl

theorem openBand_gath {host : Bool} {s t : State} (h : openBand host s = some t) : t.gath = s.gath := by
  unfold openBand at h
  dsimp only at h
  split at h
  · contradiction
  · obtain rfl := Option.some.inj h
    simp

theorem startPage_gath {host : Bool} {ptype : Nat} {es : List FEntry} {dst : List (Nat × Nat)} {bms : List Bookmark} {s t : State}
    (h : startPage host ptype es dst bms s = some t) : t.gath = s.gath := by
  unfold startPage at h
  split at h
  · contradiction
  dsimp only at h
  split at h
  · contradiction
  next u hu =>
    have hband : u.gath = s.gath := by
      split at hu
      · exact congrArg State.gath (Option.some.inj hu).symm
      · exact openBand_gath hu
    split at h
    · contradiction
    · split at h
      · contradiction
      · obtain rfl := Option.some.inj h
        simpa using hband

@[simp] theorem markBegun_gath (es : List FEntry) (s : State) : (markBegun es s).gath = s.gath := by
  refine State.gath_each fun e t => ?_
  repeat' split
  all_goals simp

@[simp] theorem packFull_gath (host : Bool) (n : Nat) (s : State) : (packFull host n s).gath = s.gath := by
  induction n generalizing s with
  | zero => rfl
  | succ n ih =>
    unfold packFull
    generalize (if host then s.fly.packH else s.fly.packC) = q
    dsimp only
    split
    · rfl
    · split
      · rfl
      next t ht => simpa [ih] using startPage_gath ht

@[simp] theorem flyPush_gath (host : Bool) (es : List FEntry) (s : State) : (flyPush host es s).gath = s.gath := by simp [flyPush]
@[simp] theorem unpack_gath (c : Cmd) (s : State) : (unpack c s).gath = s.gath := rfl
@[simp] theorem unlive_gath (qs : List Nat) (s : State) : (unlive qs s).gath = s.gath := rfl
@[simp] theorem warmDrop_gath (nsid lba cnt : Nat) (s : State) : (warmDrop nsid lba cnt s).gath = s.gath := rfl
@[simp] theorem putBookmark_gath (b : Bookmark) (s : State) : (putBookmark b s).gath = s.gath := State.gath_when fun _ => rfl

/-! ### Versions and the steps of a command -/

@[simp] theorem State.modVers_gath (s : State) (k : Nat) (f : WbVer → WbVer) : (s.modVers k f).gath = s.gath := rfl

@[simp] theorem restoreVer_gath (w : WbVer) (s : State) : (restoreVer w s).gath = s.gath := by
  unfold restoreVer
  dsimp only
  split
  · split
    next ha => simpa using tryAlloc_gath ha
    · rfl
  · rfl

@[simp] theorem askBuffers_gath (c : Cmd) (n : Nat) (s : State) : (askBuffers c n s).gath = s.gath := by
  simp [askBuffers, apply_ite State.gath]

@[simp] theorem mediaDone_gath (c : Cmd) (v : Ns) (s : State) : (mediaDone c v s).gath = s.gath := by
  simp [mediaDone, apply_ite State.gath]

@[simp] theorem copyBuffers_gath (n f k : Nat) (s : State) : (copyBuffers n f k s).gath = s.gath := by
  induction f generalizing s with
  | zero => rfl
  | succ f ih =>
    unfold copyBuffers
    split
    · rfl
    · simp [apply_ite State.gath, ih]

@[simp] theorem copyAdvance_gath (c : Cmd) (s : State) : (copyAdvance c s).gath = s.gath := by simp [copyAdvance, apply_ite State.gath]
@[simp] theorem freeCmd_gath (c : Cmd) (s : State) : (freeCmd c s).gath = s.gath := by simp [freeCmd]

/-! ### Records and registers -/

@[simp] theorem State.record_gath (s : State) (src code : Nat) (bs : List Nat) : (s.record src code bs).gath = s.gath := by
  unfold State.record coloWrite
  dsimp only
  repeat' split
  all_goals rfl

@[simp] theorem resetRecord_gath (kind b : Nat) (s : State) : (resetRecord kind b s).gath = s.gath := State.record_gath ..
@[simp] theorem dropDrafts_gath (s : State) : (dropDrafts s).gath = s.gath := by
  refine State.gath_each fun l t => ?_
  split <;> rfl

/-! ### Intents

The update of stripes writes locks and waiting intents alone. -/

/-- The programmed intents of the layouts. -/
def State.intents (s : State) : Vector (List (Nat × Nat)) 4 := s.gath.lay.map Layout.intents

theorem State.intents_layout (s : State) (m : Fin 4) : (s.layout m).intents = s.intents[m] := by simp [State.intents, State.layout]

theorem State.intents_of_gath {s t : State} (h : t.gath = s.gath) : t.intents = s.intents := congrArg (fun g => g.lay.map Layout.intents) h

theorem State.intents_each {α : Type} {s : State} {l : List α} {f : α → State → State} (hf : ∀ a t, (f a t).intents = t.intents) :
    (s.each l f).intents = s.intents := State.each_keeps State.intents hf l s

theorem State.intents_modLayout {s : State} {l : Fin 4} {f : Layout → Layout} (hf : ∀ y, (f y).intents = y.intents) :
    (s.modLayout l f).intents = s.intents := by
  ext1 i hi
  by_cases h : l.val = i <;> simp [State.intents, State.modLayout, h, hf]

theorem intents_gathStart (v : Ns) (k : Nat) (host : Bool) (xs : List (Nat × Nat)) (s : State) : (gathStart v k host xs s).intents = s.intents := by
  unfold gathStart
  dsimp only
  split
  · exact (State.intents_of_gath (addItems_gath ..)).trans (State.intents_modLayout fun _ => rfl)
  · exact State.intents_modLayout fun _ => rfl

theorem intents_mediaWrite (v : Ns) (k : Nat) (kind : ItemKind) (cls : Nat) (xs : List (Nat × Nat)) (s : State) :
    (mediaWrite v k kind cls xs s).intents = s.intents := by
  unfold mediaWrite
  split
  · exact State.intents_of_gath (hostDispatch_gath ..)
  · split
    · rfl
    · exact intents_gathStart ..

theorem intents_pump (s : State) : (pump s).intents = s.intents := by
  unfold pump
  split
  · rfl
  refine (State.intents_each fun k t => ?_).trans (State.intents_of_gath (State.gath_each restoreVer_gath))
  dsimp only
  split
  · rfl
  · split
    · rfl
    · split <;> exact intents_mediaWrite ..

theorem intents_beginEffect (c : Cmd) (v : Ns) (ps : List Piece) (s : State) : (beginEffect c v ps s).intents = s.intents := by
  have hdrop : (s.each ps fun p u => warmDrop v.nsid p.lba p.cnt (cacheInvalidate v.nsid p.lba p.cnt u)).gath = s.gath := by simp
  unfold beginEffect
  dsimp only
  split
  · exact State.intents_of_gath ((flyPush_gath ..).trans hdrop)
  · split
    · exact (intents_mediaWrite ..).trans (State.intents_of_gath hdrop)
    · exact (intents_pump _).trans (State.intents_of_gath hdrop)

theorem intents_copyMove (c : Cmd) (v : Ns) (s : State) : (copyMove c v s).intents = s.intents :=
  (intents_beginEffect ..).trans (State.intents_of_gath ((State.gath_each dropBuf_gath).trans (State.gath_each fun _ _ => rfl)))

theorem intents_advance (k : Nat) (s : State) : (advance k s).intents = s.intents := by
  unfold advance
  split
  · rfl
  split
  · rfl
  split
  · rfl
  next c _ _ _ _ _ =>
    split
    · have hcopy : (copyAdvance _ s).intents = s.intents := State.intents_of_gath (copyAdvance_gath c s)
      dsimp only
      split
      · split
        · exact (intents_copyMove ..).trans hcopy
        · exact hcopy
      · exact hcopy
    · split
      · exact State.intents_of_gath (mediaDone_gath ..)
      · rfl

theorem intents_endItem (k : Nat) (s : State) : (endItem k s).intents = s.intents := intents_advance ..

theorem intents_cancelLadder (n : Ch) (l : Ladder) (s : State) : (cancelLadder n l s).intents = s.intents :=
  (State.intents_each intents_endItem).trans (State.intents_of_gath (by simp))

theorem intents_leaveLadders (k : Nat) (cancel : Bool) (s : State) : (leaveLadders k cancel s).intents = s.intents := by
  refine State.intents_each fun n t => State.intents_each fun l u => ?_
  dsimp only
  split
  · exact intents_cancelLadder ..
  · rfl

/-- Work that a command withdraws leaves locks and reconstructions, no intent. -/
theorem intents_withdrawWork (k : Nat) (s : State) : (withdrawWork k s).intents = s.intents := by
  have hitems : ∀ f : Ch → State → List Item, ∀ g : Ch → Sched → Sched, (s.each allChans fun n u =>
      (u.each (f n u) fun i x => if i.taken then abortTag n (descTag i.desc) x else x).modSched n (g n)).gath = s.gath :=
    fun f g => State.gath_each fun n u => State.gath_each fun i x => by split <;> simp
  simp [withdrawWork, State.intents, Function.comp_def, hitems]

theorem intents_undoWrite (c : Cmd) (s : State) : (undoWrite c s).intents = s.intents :=
  (intents_pump _).trans (State.intents_of_gath ((State.modCmd_gath ..).trans ((State.modHost_gath ..).trans ((State.modFly_gath ..).trans
    ((unlive_gath ..).trans (unpack_gath ..))))))

theorem intents_failCmd (k st : Nat) (s : State) : (failCmd k st s).intents = s.intents := by
  unfold failCmd
  split
  · rfl
  next c _ =>
    have hfree : (freeCmd c (leaveLadders k false (withdrawWork k s))).intents = s.intents :=
      (State.intents_of_gath (freeCmd_gath ..)).trans ((intents_leaveLadders ..).trans (intents_withdrawWork ..))
    dsimp only
    refine (State.intents_of_gath (State.finish_gath ..)).trans ?_
    split
    · exact (intents_undoWrite ..).trans hfree
    · exact hfree

end Sys2Proof.Machine
end

section
/-! PROOFS. Gathering layouts: intents and updates of stripes, parity, degraded reads, channels and rebuild, the block reset (chapter 13). -/

namespace Sys2Proof.Machine

/-! ### Intents and updates -/

theorem State.layout_modLayout (s : State) (l m : Fin 4) (f : Layout → Layout) :
    (s.modLayout l f).layout m = if l = m then f (s.layout m) else s.layout m := by
  simp only [State.layout, State.modLayout, Fin.getElem_fin, Vector.getElem_set, Fin.val_inj]
  split
  next h => rw [h]
  · rfl

theorem layout_intentProgram (s : State) (m : Fin 4) : (intentProgram s).layout m =
    { s.layout m with pendInt := (s.layout m).pendInt.drop 2048, intents := (s.layout m).intents ++ (s.layout m).pendInt.take 2048 } := by
  fin_cases m <;> simp [intentProgram, allLayouts, State.each, State.layout_modLayout]

theorem intentProgram_frame (s : State) :
    (intentProgram s).host = s.host ∧ (intentProgram s).regs = s.regs ∧ SameMem s (intentProgram s) := by
  simp [intentProgram, allLayouts, State.each, SameMem]

section
variable {l : Fin 4} {stripe k : Nat} {old : List (Nat × Block)} {s : State} {x : Nat × Nat × Nat} {w : WbVer}

theorem stripeUpdate_unlocked (hx : (s.layout l).locks.find? (fun x => x.1 == stripe) = none) : stripeUpdate l stripe k old s = s := by
  simp only [stripeUpdate, hx]

theorem stripeUpdate_locked (hx : (s.layout l).locks.find? (fun x => x.1 == stripe) = some x)
    (hw : s.host.wb.find? (fun w => w.k == k && w.run) = some w) : stripeUpdate l stripe k old s =
      if x.2.1 != k || x.2.2 != 0 || !intentReady l stripe s then s
      else ((s.ns w.nsid).bind fun v => (stripeParity l stripe k old v s).bind fun ps =>
        (tryAlloc 0xB 3 (parityBlocks (layoutK l s) ps).length s).map fun r => stripePlace l stripe k (stripeAll l stripe k v ps r.1 s) s
          (r.2.each (r.1.zip (parityBlocks (layoutK l s) ps)) fun x u => putUnit (handleUnit x.1 s) (ofCode x.2.2.2) u)).getD s := by
  simp only [stripeUpdate, hx, hw]
  split
  · rfl
  · cases s.ns w.nsid with
    | none => rfl
    | some v =>
      dsimp only [Option.bind_some]
      cases stripeParity l stripe k old v s with
      | none => rfl
      | some ps =>
        dsimp only [Option.bind_some]
        cases tryAlloc 0xB 3 (parityBlocks (layoutK l s) ps).length s <;> rfl

end

/-! ### Parity -/

theorem allSome_map {α β : Type} {f g : α → Option β} : ∀ {l : List α}, (∀ a ∈ l, ∃ b, f a = some b ∧ g a = some b) →
    allSome (l.map f) = some (l.filterMap g)
  | [], _ => rfl
  | a :: l, h => by
    obtain ⟨b, hf, hg⟩ := h a List.mem_cons_self
    rw [List.map_cons, hf, List.filterMap_cons_some hg, allSome, allSome_map fun c hc => h c (List.mem_cons_of_mem a hc), Option.map_some]

/-- A stripe written whole has at least as many new strips as it has data strips. -/
theorem length_le_of_whole {α : Type} {new : List (Nat × α)} {kk : Nat} (h : ∀ i < kk, ∃ x ∈ new, x.1 = i) : kk ≤ new.length := by
  have hsub : List.range kk ⊆ new.map Prod.fst := fun i hi => List.mem_map.mpr (h i (List.mem_range.mp hi))
  simpa using (List.nodup_range.subperm hsub).length_le

theorem parityFull_whole {new : List (Nat × List Nat)} {kk m o : Nat} {old : List (Nat × Block)} (h : ∀ i < kk, ∃ x ∈ new, x.1 = i) :
    parityFull kk m o new old = some (let ds := (List.range kk).filterMap fun i => (new.find? fun x => x.1 == i).map fun x => (i, x.2)
      if m = 1 then [codeP ds] else [codeP ds, codeQ ds]) := by
  unfold parityFull
  rw [allSome_map (g := fun i => (new.find? fun x => x.1 == i).map fun x => (i, x.2))]
  · rfl
  · intro i hi
    have hsome : (new.find? fun x => x.1 == i).isSome := by
      simpa using h i (List.mem_range.mp hi)
    obtain ⟨x, hx⟩ := Option.isSome_iff_exists.mp hsome
    exact ⟨(i, x.2), by rw [hx], by rw [hx]; rfl⟩

theorem parityAt_whole {new : List (Nat × List Nat)} {kk m o : Nat} {again : Bool} {old : List (Nat × Block)} (hm : 0 < m)
    (h : ∀ i < kk, ∃ x ∈ new, x.1 = i) : parityAt kk m o again new old = parityFull kk m o new old := by
  have hlen := length_le_of_whole h
  refine if_neg ?_
  rw [Bool.and_eq_true, decide_eq_true_eq]
  omega

/-! ### Channels -/

section
variable {l : Fin 4} {n : Ch} {stripe strip : Nat} {s : State}

theorem startResync_unnamed {failed : List Nat} (h : (s.layout l).intents.find? (fun x => x.1 == stripe) = none) :
    startResync l stripe failed s = s := by
  simp only [startResync, h]

theorem startResync_clean {x : Nat × Nat} (hx : (s.layout l).intents.find? (fun x => x.1 == stripe) = some x)
    (hl : ∀ z ∈ (s.layout l).locks, z.1 ≠ stripe) : startResync l stripe [] s =
      s.modLayout l fun y => { y with intents := y.intents.filter (fun z => z.1 != stripe), resync := y.resync.filter (· != stripe) } := by
  simp only [startResync, hx]
  exact if_neg (ne_true_of_eq_false (List.any_eq_false.mpr fun z hz h => hl z hz (beq_iff_eq.mp h)))

theorem chanResync_unused (h : committed l s = false ∨ s.bit (F.GATH_LSTAT_UNAVAIL l) n = false ∨ chanReady n s = false) :
    chanResync l n strip s = s := by
  refine if_pos ?_
  rcases h with h | h | h <;> simp [h]

theorem chanResync_last (hc : committed l s = true) (hu : s.bit (F.GATH_LSTAT_UNAVAIL l) n = true) (hr : chanReady n s = true)
    (hs : ∀ x ∈ ((gathSync (s.modLayout l fun y => { y with stale := y.stale.filter fun x => x != (n.val, strip) })).layout l).stale, x.1 ≠ n.val) :
    chanResync l n strip s = resyncEnd l n (gathSync (s.modLayout l fun y => { y with stale := y.stale.filter fun x => x != (n.val, strip) })) := by
  unfold chanResync
  rw [if_neg (by simp [hc, hu, hr])]
  exact if_neg (ne_true_of_eq_false (List.any_eq_false.mpr fun z hz h => hs z hz (beq_iff_eq.mp h)))

theorem rebuildStrip_unused (h : committed l s = false ∨ s.bit (F.GATH_LSTAT_LOST l) n = false ∨ s.flag F.GATH_REBUILD_ACTIVE = false) :
    rebuildStrip l stripe n s = s := by
  refine if_pos ?_
  rcases h with h | h | h <;> simp [h]

/-- A strip of a lost channel goes to the next spare strip of its target; the rebuild goes on while a later stripe holds a strip of it. -/
theorem rebuildStrip_mapped {i c : Nat} (hc : committed l s = true) (hlost : s.bit (F.GATH_LSTAT_LOST l) n = true)
    (hw : layoutK l s + layoutM l s < layoutW l s) (hat : (s.layout l).rebAt ≤ stripe) (hact : s.flag F.GATH_REBUILD_ACTIVE = true)
    (hlay : s.get F.GATH_REBUILD_LAYOUT = l.val) (hre : s.flag F.GATH_REBUILD_RESYNC = false) (hfree : (s.layout l).locks = [])
    (hon : stripOn l stripe n.val s = some i) (hnew : ∀ r ∈ (s.layout l).rebuilt, r.1 ≠ stripe) (hm : missingStrips l stripe s ≤ layoutM l s)
    (ht : rebuildTarget l stripe s = some c) (hlater : laterStrip l stripe n.val s = true) :
    rebuildStrip l stripe n s = gathSync ((s.modLayout l fun y => { y with rebAt := stripe }).modLayout l fun y =>
      { y with rebuilt := y.rebuilt ++ [(stripe, i, c, y.spareAt[chOf c])], spareAt := y.spareAt.set (chOf c) (y.spareAt[chOf c] + 1) }) := by
  have hgo : (!committed l s || !s.bit (F.GATH_LSTAT_LOST l) n || decide (layoutW l s ≤ layoutK l s + layoutM l s) ||
      decide (stripe < (s.layout l).rebAt) || !s.flag F.GATH_REBUILD_ACTIVE || s.get F.GATH_REBUILD_LAYOUT != l.val ||
      s.flag F.GATH_REBUILD_RESYNC || (s.layout l).locks.any fun x => x.1 == stripe && decide (0 < x.2.2)) = false := by
    simp [hc, hlost, hw, hat, hact, hlay, hre, hfree]
  have hout : ¬((s.layout l).rebuilt.any fun r => r.1 == stripe && r.2.1 == i) = true := by
    simp only [List.any_eq_true, Bool.and_eq_true, beq_iff_eq]
    exact fun ⟨r, hr, hst, _⟩ => hnew r hr hst
  simp only [rebuildStrip, hgo, hon, if_neg hout, if_neg (Nat.not_lt.mpr hm), ht, hlater, Bool.true_or, if_true, Bool.false_eq_true, if_false]

end

/-! ### Degraded reads -/

section
variable {l : Fin 4} {nsid lba : Nat} {old : List (Nat × Block)} {r : Recon} {v : Ns} {s : State}

theorem reconstruct_unasked (h : s.gath.recon.find? (fun r => r.nsid == nsid && r.lba == lba) = none) :
    reconstruct l nsid lba old s = s := by
  simp only [reconstruct, h]

theorem reconstruct_locked (hr : s.gath.recon.find? (fun r => r.nsid == nsid && r.lba == lba) = some r) (hv : s.ns nsid = some v)
    (hl : ∃ x ∈ (s.layout l).locks, x.1 = (nsPlace v lba s).2.2.1 ∧ 0 < x.2.2) : reconstruct l nsid lba old s = s := by
  simp only [reconstruct, hr, hv]
  exact if_pos (by simpa using hl)

/-- No update works on a stripe whose locks count no work item. -/
theorem any_working_eq_false {locks : List (Nat × Nat × Nat)} {st : Nat} (h : ∀ x ∈ locks, x.1 = st → x.2.2 = 0) :
    (locks.any fun y => y.1 == st && decide (0 < y.2.2)) = false := by
  refine List.any_eq_false.mpr fun x hx hw => ?_
  rw [Bool.and_eq_true, beq_iff_eq, decide_eq_true_eq] at hw
  exact hw.2.ne' (h x hx hw.1)

variable (hr : s.gath.recon.find? (fun r => r.nsid == nsid && r.lba == lba) = some r) (hv : s.ns nsid = some v)
  (hl : ∀ x ∈ (s.layout l).locks, x.1 = (nsPlace v lba s).2.2.1 → x.2.2 = 0)
include hr hv hl

theorem reconstruct_lacking (hm : layoutM l s < missingStrips l (nsPlace v lba s).2.2.1 s) : reconstruct l nsid lba old s =
    (let w := ((dropRecon r s).inc F.GATH_CNT_UNREC).modLayout l fun y => { y with unrec := y.unrec + 1 }
     if r.ladder then w else w.each r.cmds fun c z => failRead c nsid lba z) := by
  simp only [reconstruct, hr, hv]
  rw [if_neg (ne_true_of_eq_false (any_working_eq_false hl))]
  exact if_pos hm

theorem reconstruct_solved {bs : List Nat} (hm : missingStrips l (nsPlace v lba s).2.2.1 s ≤ layoutM l s) (h1 : layoutM l s = 1)
    (hs : let j := (nsPlace v lba s).2.2.2
      let at_ := fun (i : Nat) => if i == j then none else (assocGet i old).map codeBytes
      solve (layoutK l s) j ((List.range (layoutK l s)).filterMap fun i => (at_ i).map fun b => (i, b)) (at_ (layoutK l s)) none = some bs) :
    reconstruct l nsid lba old s = (((dropRecon r s).inc F.GATH_CNT_RECON_CNT).modLayout l fun y => { y with recon := y.recon + 1 }).each
      r.cmds fun c w => endItem c (leaveOne nsid lba c (deliverTo c lba (ofCode bs) w)) := by
  simp only [reconstruct, hr, hv]
  rw [if_neg (ne_true_of_eq_false (any_working_eq_false hl)), if_neg (Nat.not_lt.mpr hm)]
  simp only [h1, show ¬(1 = 2) by decide, if_false, Option.isSome_none, Bool.and_false, Bool.false_and]
  dsimp only at hs
  simp only [hs, Bool.false_eq_true, if_false]

end

/-! ### The block reset -/

/-- The commands that update stripes. -/
def lockHolders (s : State) : List Nat := allLayouts.flatMap fun l => (s.layout l).locks.map fun x => x.2.1

/-- The configuration at reset, and the commands with work in GATH completed. -/
def gathFailed (s : State) : State :=
  ((dropDrafts ((resetRecord 6 2 s).resetRegs 0x700044 0x700050)).each
    (s.host.cmds.filter fun c => c.waitChk == some 9 || c.waitChk == some 25) fun c u => u.finish c.k stInternal).each
    (lockHolders s ++ s.gath.recon.flatMap fun r => r.cmds) fun k u => failCmd k stInternal u

/-- No check, no reconstruction, no lock and no waiting intent. -/
def gathEmpty (t : State) : State :=
  { t with gath := { t.gath with
    check := none, recon := [], lay := t.gath.lay.map fun (y : Layout) => { y with locks := [], pendInt := [], rebAt := 0 } } }

/-- The state before a block reset of GATH brings the rebuild and the layouts up to date. -/
def gathCleared (s : State) : State :=
  (gathEmpty (gathFailed s)).each (lockHolders s) fun k u => u.modVers k fun w => if w.acc then { w with run := false } else w

theorem gathReset_eq (s : State) : gathReset s = pump (gathSync (gathCleared s)) := rfl

theorem intents_gathFailed (s : State) : (gathFailed s).intents = s.intents :=
  (State.intents_each fun k t => intents_failCmd k stInternal t).trans (State.intents_of_gath
    ((State.gath_each fun (c : Cmd) t => State.finish_gath t c.k stInternal).trans ((dropDrafts_gath _).trans
      ((State.resetRegs_gath ..).trans (resetRecord_gath ..)))))

theorem gath_gathCleared (s : State) : (gathCleared s).gath = (gathEmpty (gathFailed s)).gath := State.gath_each fun _ _ => rfl

theorem layout_gathCleared (s : State) (m : Fin 4) :
    (gathCleared s).layout m = { (gathFailed s).layout m with locks := [], pendInt := [], rebAt := 0 } := by
  rw [State.layout, gath_gathCleared]
  simp [gathEmpty, State.layout]

/-! ### The obligation -/

/-- Settles O37: each row by its equation; a stripe written whole takes the reconstruct-write form, whose strips are all new, and a block
reset keeps the intents since no step of a failing command programs or drops one. -/
theorem gatheringRows : Obligations.GatheringRows := by
  unfold Obligations.GatheringRows
  intro l n stripe k strip nsid lba old failed r v s u y
  refine ⟨fun hreach => ?commit, ⟨intentProgram s, next_congr rfl, fun m => ?intents, intentProgram_frame s⟩,
    fun h => next_congr (stripeUpdate_unlocked h), fun x w hx hw h => ?waits,
    fun x w ps hs t hx hw hk h0 hi hv hp hb => ?update, fun new o m kk again hm h => ?parity,
    fun h => ⟨next_congr (if_pos h), next_congr (if_pos h), next_congr (if_pos h)⟩, fun h => ?running,
    fun h => next_congr (if_pos h), fun h => next_congr (if_neg (by simp [h])), next_congr rfl, rfl, fun h => next_congr (reconstruct_unasked h),
    fun hr hv => ?read, ⟨gathCleared s, next_congr (gathReset_eq s), ?_, ?_, fun m => ?reset⟩⟩
  case commit =>
    have hexec : exec (.gathLayoutCommit l) s = .next (commitStart l false false u) := next_congr (arbWrite_reached hreach)
    rw [hexec]
    refine ⟨fun h => next_congr (if_neg ?_), fun h => next_congr (if_pos (Option.isSome_iff_ne_none.mpr h))⟩
    rw [h]
    decide
  case intents =>
    rw [layout_intentProgram]
    exact ⟨rfl, rfl⟩
  case waits =>
    refine next_congr ((stripeUpdate_locked hx hw).trans (if_pos ?_))
    rcases h with h | h | h <;> simp [h]
  case update =>
    refine next_congr ((stripeUpdate_locked hx hw).trans ((if_neg (by simp [hk, h0, hi])).trans ?_))
    rw [hv, Option.bind_some, hp, Option.bind_some, show tryAlloc 0xB 3 (parityBlocks (layoutK l s) ps).length s = some (hs, t) from hb]
    rfl
  case parity =>
    exact (parityAt_whole (by omega) h).trans (parityFull_whole h)
  case running =>
    have hgo : ∀ w : State, (if stopped s then s else w) = w := fun w => if_neg (by simp [h])
    refine ⟨fun hi => next_congr ((hgo _).trans (startResync_unnamed hi)), fun x hx hl => next_congr ((hgo _).trans (startResync_clean hx hl)),
      fun hu => next_congr ((hgo _).trans (chanResync_unused hu)), fun hc hu hr hs => next_congr ((hgo _).trans (chanResync_last hc hu hr hs)),
      fun hu => next_congr ((hgo _).trans (rebuildStrip_unused hu)), ?_⟩
    intro i c hc hlost hw hat hact hlay hre hfree hon hnew hm ht hlater
    exact next_congr ((hgo _).trans (rebuildStrip_mapped hc hlost hw hat hact hlay hre hfree hon hnew hm ht hlater))
  case read =>
    exact ⟨fun hl => next_congr (reconstruct_locked hr hv hl), fun hl => ⟨fun hm => next_congr (reconstruct_lacking hr hv hl hm),
      fun bs hm h1 hs => next_congr (reconstruct_solved hr hv hl hm h1 hs)⟩⟩
  · rw [gath_gathCleared]
    rfl
  · rw [gath_gathCleared]
    rfl
  case reset =>
    rw [layout_gathCleared]
    refine ⟨rfl, rfl, ?_⟩
    rw [State.intents_layout s, ← intents_gathFailed s]
    exact State.intents_layout (gathFailed s) m

end Sys2Proof.Machine
end
